-- ==== Sys2Proof/Word.lean ====
section
/-!
DEFINITION. Words, bytes, bit fields of numbers, and the keyed tables of plain data that State is made of.
-/
namespace Sys2Proof

/-- A 32-bit register word (R10). -/
abbrev Word := BitVec 32

/-- One byte. -/
abbrev Byte := BitVec 8

/-- Bits `[lo + wid - 1 : lo]` of a number (Notation: bit 0 is the least significant). -/
def bits (n lo wid : Nat) : Nat := n / 2 ^ lo % 2 ^ wid

/-- Bit `i` of a number. -/
def bit (n i : Nat) : Bool := n / 2 ^ i % 2 == 1

/-- `n` with its bits `[lo + wid - 1 : lo]` replaced by `v`. -/
def putBits (n lo wid v : Nat) : Nat :=
  n / 2 ^ (lo + wid) * 2 ^ (lo + wid) + v % 2 ^ wid * 2 ^ lo + n % 2 ^ lo

/-- 1 for true, 0 for false. -/
def b2n (b : Bool) : Nat := if b then 1 else 0

/-- Little-endian value of a list of bytes (R10). -/
def leNat : List Byte → Nat
  | [] => 0
  | b :: t => b.toNat + 256 * leNat t

/-- The `n` little-endian bytes of a number. -/
def leBytes : Nat → Nat → List Byte
  | 0, _ => []
  | n + 1, v => BitVec.ofNat 8 v :: leBytes n (v / 256)

/-- The value `n` raised by one and held at the maximum of a 32-bit counter ("saturating"). -/
def sat32 (n : Nat) : Nat := min n 0xFFFF_FFFF

/-- A value kept between two bounds ("clamped on write"). -/
def clamp (lo hi v : Nat) : Nat := max lo (min hi v)

/-- Ceiling division. -/
def ceilDiv (a b : Nat) : Nat := (a + b - 1) / b

/-- A table from numbers to plain data, kept in one canonical form: keys strictly rising, and no entry
equal to what an unlisted key reads as. -/
abbrev KV (α : Type) := List (Nat × α)

/-- What the table holds at a key; `d` is what an unlisted key reads as. -/
def kvGet {α : Type} (d : α) : KV α → Nat → α
  | [], _ => d
  | (k', v) :: t, k => if k' = k then v else kvGet d t k

/-- The table with an entry placed in key order. -/
def kvInsert {α : Type} : KV α → Nat → α → KV α
  | [], k, v => [(k, v)]
  | (k', v') :: t, k, v =>
    if k < k' then (k, v) :: (k', v') :: t
    else if k = k' then (k, v) :: t
    else (k', v') :: kvInsert t k v

/-- The table without a key. -/
def kvErase {α : Type} : KV α → Nat → KV α
  | [], _ => []
  | (k', v') :: t, k => if k' = k then kvErase t k else (k', v') :: kvErase t k

/-- Writing a key: the value an unlisted key reads as removes the entry. -/
def kvPut {α : Type} [DecidableEq α] (d : α) (m : KV α) (k : Nat) (v : α) : KV α :=
  if v = d then kvErase m k else kvInsert m k v

/-- Keys strictly rising. -/
def kvSorted {α : Type} : KV α → Bool
  | [] => true
  | [_] => true
  | (k, _) :: (k', v') :: t => decide (k < k') && kvSorted ((k', v') :: t)

/-- The canonical form of a table whose unlisted keys read as `d`. -/
def kvWf {α : Type} [DecidableEq α] (d : α) (m : KV α) : Bool :=
  kvSorted m && m.all (fun p => decide (p.2 ≠ d))

/-- A key is in a set of numbers kept as a list. -/
def inSet (l : List Nat) (k : Nat) : Bool := l.any (fun x => x == k)

/-- A number placed in a rising list without repeats. -/
def setInsert : List Nat → Nat → List Nat
  | [], k => [k]
  | x :: t, k => if k < x then k :: x :: t else if k = x then x :: t else x :: setInsert t k

/-- A number taken out of a list. -/
def setErase (l : List Nat) (k : Nat) : List Nat := l.filter (fun x => x != k)

/-- The first number below `n`, counting up from `i`, that satisfies a test. -/
def firstFrom (p : Nat → Bool) : Nat → Nat → Option Nat
  | 0, _ => none
  | n + 1, i => if p i then some i else firstFrom p n (i + 1)

end Sys2Proof
end

