-- ==== Sys2Proof/Syntax.lean ====
section
/-!
DEFINITION. The commands of the block: one constructor per row of spec/opcode_table.json, with the row's operands.
What a command carries beside its own operands is what the device would read from outside at that step: bytes of host
memory, of a partner's flit, a verdict of a signature check.
-/
namespace Sys2Proof

/-- The access ports of R20: the host PF, VF 1 to 63, the BMC over I3C, the control firmware, the RTP. -/
inductive Port where
  | pf
  | vf (n : Nat)
  | bmc
  | fw
  | rtp
  deriving DecidableEq, Repr

/-- A Gweusk flit: header fields (Table 12.2) and the LEN payload bytes in use. -/
structure Flit where
  type : Nat := 0
  vc : Nat := 0
  poison : Bool := false
  last : Bool := false
  seq : Nat := 0
  session : Nat := 0
  queue : Nat := 0
  xtag : Nat := 0
  body : List Byte := []
  deriving DecidableEq, Repr

/-- Bits inverted in a 10-bit symbol on a lane, the symbol counted from the first one of its codeword pair on that lane: the lanes are aligned on
their markers (R380). -/
structure LaneErr where
  lane : Nat := 0
  place : Nat := 0
  bits : Nat := 0
  deriving DecidableEq, Repr

/-- A flit as it arrives: the 256 bytes that the partner gave its PCS, which flit of the five of its codeword pair it is, what the lanes inverted in that
pair and in the pair before it (R378 to R383). Place 5 is the pair that carries the markers and no flit (R380). -/
structure Arrival where
  bytes : List Byte := []
  place : Nat := 0
  errs : List LaneErr := []
  before : List LaneErr := []
  deriving DecidableEq, Repr

/-- The HDM decoder of the host's CXL port, as committed: the range of host addresses, the ways of the interleave and its granularity in bytes (R460). -/
structure Hdm where
  base : Nat := 0
  size : Nat := 0
  ways : Nat := 1
  gran : Nat := 256
  deriving DecidableEq, Repr

/-- The pins the device drives. -/
inductive OutPin where
  | alertN | wakeN | thermtripN
  deriving DecidableEq, Repr

/-- What training finds in a DIMM slot (Tables 10.1 and 10.5): the module type (0 RDIMM, 1 MRDIMM, 2 another), ten x4
devices per subchannel, capacity in GiB, package ranks, 3DS height, die density, the SPD maximum rate and the rate codes of
MC_CFG, directed refresh management, the activate threshold of the refresh management that it advertises (0: none), whether every training step
passed. -/
structure Dimm where
  kind : Nat := 0
  ec8x4 : Bool := true
  gib : Nat := 16
  ranks : Nat := 1
  height : Nat := 1
  density : Nat := 0
  speed : Nat := 1
  drfm : Bool := false
  rfm : Nat := 0
  ok : Bool := true
  deriving DecidableEq, Repr

/-- What is wrong in a line as its bits come back: the on-die report of a stack (0 none, 1 corrected, 2 uncorrected), and for each codeword of a DDR5
burst the devices whose symbol is wrong with the bits of it that are inverted, for each 256-bit word of HBM3E the bits that are inverted (R338 to
R342). -/
structure LineErr where
  ondie : Nat := 0
  words : List (List (Nat × Nat)) := []
  deriving DecidableEq, Repr

/-- An access of an access port: BAR0 offset, byte enables (bit i for byte i), whether a host request came inside an IDE stream
in the Secure state (R13, R466), whether it is an access of eight bytes, which is two of four (R17), whether the offset is one of BAR2, where
the doorbell pages of a function lie (R85, R86). -/
structure Access where
  p : Port
  off : Nat
  be : Nat := 15
  secure : Bool := true
  wide : Bool := false
  bar2 : Bool := false
  deriving DecidableEq, Repr

/-- The second half of an eight-byte access: the word at the higher offset, after the one at the lower (R17). -/
def Access.upper (a : Access) : Access := { a with off := a.off + 4, be := a.be / 16, wide := false }

/-- What the effect of a register write needs from outside: sectors left unfinished by stopped commands, a loop's measured output
(0.25 mV), reinstated phases found bad. -/
structure WriteAux where
  unf : List Nat := []
  vout : Nat := 0
  bad : List (Nat × Nat) := []
  deriving DecidableEq, Repr

/-- How a read of host memory is answered (R453, R454): in full, with Unsupported Request, with Completer Abort, not within the completion
timeout, with the poisoned indication. -/
inductive HostRead where
  | ok | ur | ca | late | poisoned
  deriving DecidableEq, Repr

/-- What a configuration write sets besides Bus Master Enable and the D-state (log entry 76): NumVFs, MPS, MRRS and the completion timeout of the
PCI Express capability (ns), the HDM decoder that the host commits. -/
structure ConfigWrite where
  vfs : Option Nat := none
  mps : Option Nat := none
  mrrs : Option Nat := none
  cto : Option Nat := none
  hdm : Option Hdm := none
  deriving DecidableEq, Repr

/-- How an I3C dynamic address is given (R468): ENTDAA, or SETDASA to a static address. -/
inductive I3cAssign where
  | entdaa (addr : Nat)
  | setdasa (static addr : Nat)
  deriving DecidableEq, Repr

/-- The commands of the JP-4810 (spec/opcode_table.json, in its order). -/
inductive Instr where
  /-- REGISTER_WRITE (R10). A write to a register field that has no row of its own sets, clears or triggers the field as its access code says; a refused or misplaced write is counted as a bad access. -/
  | registerWrite (a : Access) (v : Nat) (x : WriteAux)
  /-- RC_FIELD_READ (R10). A read of an RC field returns its value and then clears the field to its reset value. -/
  | rcFieldRead (a : Access)
  /-- LOW_WORD_READ (R14). A read of the low word of a 64-bit register latches the high word in the port's read latch. -/
  | lowWordRead (a : Access)
  /-- HIGH_WORD_READ (R15). A read of a 64-bit high word returns the latched value if the port's latch holds it, and 0 otherwise. -/
  | highWordRead (a : Access)
  /-- LOW_WORD_WRITE (R16). A write of a 64-bit low word is staged in the port's write staging register. -/
  | lowWordWrite (a : Access) (v : Nat)
  /-- HIGH_WORD_WRITE (R18). A write of a 64-bit high word commits both words when the matching low word is staged, and is ignored and counted otherwise. -/
  | highWordWrite (a : Access) (v : Nat)
  /-- SEL_WRITE (R25). A write of <BLK>_SEL.INDEX selects an instance for the port and recomputes INVALID. -/
  | selWrite (a : Access) (v : Nat)
  /-- FOLIO_ALLOC (R63). Allocates FREE folios to a tenant all or nothing, installs the map entries and writes the DFNs to the result buffer. -/
  | folioAlloc (d : Nat)
  /-- FOLIO_FREE (R64). Revokes the named entries and moves folios whose map count reaches 0 to RELEASING. -/
  | folioFree (d : Nat)
  /-- MAP_SYNC (R66). Checks the master entries and copies them into the mirror as one revoke or one grant. -/
  | mapSync (d : Nat) (master : List Byte)
  /-- MAP_SYNC_VERIFY (R67). Compares the master range with the mirror, skipping EPOCH, and reports the differences. -/
  | mapSyncVerify (d : Nat) (master : List Byte)
  /-- UNMAP (R65). Revokes the named entries and leaves the folios OWNED. -/
  | unmap (d : Nat)
  /-- FOLIO_HINT (R68). Sets the default cache hint in the owner records of the folios that the named VALID entries map. -/
  | folioHint (d : Nat)
  /-- PIN (R242). Changes PIN_CLASS in the mirror as a grant, walks the named folios to retag resident lines, and completes when the walk ends. -/
  | pin (d : Nat)
  /-- REVOKE_WINDOW_START (R61). A waiting revoking command opens its map window once the earlier revoke has completed and its drain has ended. -/
  | revokeWindowStart (t : Nat)
  /-- REVOKE_DRAIN_COMPLETE (R58). The last descriptor of the previous epoch completes, so the revoking command completes or DRAINING clears. -/
  | revokeDrainComplete (t : Nat)
  /-- WRITE (R69). Writes bytes from a host or link source to a tenant address. -/
  | write (d : Nat) (bytes : List Byte)
  /-- READ (R69). Reads bytes at a tenant address to a host or link destination. -/
  | read (d : Nat)
  /-- COPY (R69). Copies between tenant addresses, reading every source byte before any overlapped destination byte is written. -/
  | copy (d : Nat)
  /-- TRANSLATION_WAIT_END (R56). A descriptor or translation-store run frees and the entry waiting at acceptance step 9 is accepted. -/
  | translationWaitEnd (q : Nat) (blk : List Byte)
  /-- TRANSLATION_WAIT_TIMEOUT (R56). An entry waiting for a descriptor or store runs reaches its command timeout and completes E_BUSY. -/
  | translationWaitTimeout (q : Nat)
  /-- COMMAND_TIMEOUT (R57). A command's timeout expires; its movers and carrels stop, unfinished destination sectors are poisoned and it completes E_TIMEOUT. -/
  | commandTimeout (d : Nat) (unfinished : List Nat)
  /-- FOLIO_RELEASE_COMPLETE (R44). The last catalog reference and descriptor of a RELEASING folio go, and the folio enters ZEROING. -/
  | folioReleaseComplete (dfn : Nat)
  /-- FOLIO_ZEROED (R695). Background zeroing of a folio completes and the folio becomes FREE. -/
  | folioZeroed (dfn : Nat)
  /-- QUEUE_ENABLE (R77). QE_Q_CTL ENABLE checks the ring configuration and makes a bound DISABLED queue ACTIVE with pointers 0. -/
  | queueEnable (p : Port) (q : Nat)
  /-- QUEUE_PAUSE (R76). QE_Q_CTL PAUSE stops fetching on an ACTIVE queue. -/
  | queuePause (p : Port) (q : Nat)
  /-- QUEUE_RESUME (R76). QE_Q_CTL RESUME returns a PAUSED queue to ACTIVE and acts on any pending tail. -/
  | queueResume (p : Port) (q : Nat)
  /-- QUEUE_RESET (R78). QE_Q_CTL RESET stops fetching and aborts the queue's fetched entries and descriptors. -/
  | queueReset (p : Port) (q : Nat) (unfinished : List Nat)
  /-- QUEUE_RESET_COMPLETE (R78). No fetched entry or descriptor of a RESETTING queue remains, and it goes DISABLED. -/
  | queueResetComplete (q : Nat)
  /-- DB_SQ_TAIL (R88). A doorbell-page write of the SQ tail updates the pending entries, or is refused. -/
  | dbSqTail (fn q v : Nat) (secure : Bool)
  /-- DB_CQ_HEAD (R89). A doorbell-page write of the CQ head records consumed completions, or is refused. -/
  | dbCqHead (fn q v : Nat) (secure : Bool)
  /-- ENTRY_FETCH (R91). The queue engine reads the submission entry at the SQ head once and advances the head. -/
  | entryFetch (q : Nat) (bytes : List Byte) (got : HostRead)
  /-- ARBITRATION_GRANT (R108). In each 5 ns grant slot the arbiter picks a class, tenant and ready queue and starts acceptance of its head entry. -/
  | arbitrationGrant (blk : List Byte)
  /-- FREEZE_WINDOW_CLOSE (R114). A queue's freeze window expires and WINCNT returns to 0. -/
  | freezeWindowClose (q : Nat)
  /-- MAP_WINDOW_RELEASE (R59). A tenant's map window closes and the entry held at acceptance step 4 proceeds. -/
  | mapWindowRelease (t : Nat) (blks : List (Nat × List Byte))
  /-- ORDERED_RELEASE (R94). Every earlier entry of the queue has completed, so an ORDERED entry is accepted. -/
  | orderedRelease (q : Nat) (blk : List Byte)
  /-- FENCE_WAIT_SATISFIED (R141). A command waiting on a packet fence sees the fence reach its wait value and proceeds. -/
  | fenceWaitSatisfied (d : Nat)
  /-- FENCE_WAIT_POISONED (R142). A waited fence is poisoned and the waiting command completes E_FENCE_POISON. -/
  | fenceWaitPoisoned (d : Nat)
  /-- COMMAND_COMPLETE (R96). A command finishes: its signal fence is updated, its completion entry is written and a notification is sent. -/
  | commandComplete (d : Nat) (cqFail : Bool) (unfinished : List Nat)
  /-- NOP (R104). Performs its fence wait and signal and completes OK. -/
  | nop (d : Nat)
  /-- FENCE_SIGNAL (R145). Signals a fence value, or adds to it with ADD, with saturation at the maximum. -/
  | fenceSignal (d : Nat)
  /-- FENCE_WAIT (R141). Waits until the fence value [62:0] reaches the operand. -/
  | fenceWait (d : Nat)
  /-- FENCE_RESET (R146). Resets a fence to 0 and clears poison once it has no waiters. -/
  | fenceReset (d : Nat)
  /-- FENCE_RESET_TAKES_EFFECT (R146). The last waiter of a fence leaves, so the pending FENCE_RESET or UNBIND takes effect. -/
  | fenceResetTakesEffect (d : Nat)
  /-- FENCE_RESET_BUDGET_EXPIRED (R146). FENCE_RESET or UNBIND reaches its budget with waiters remaining and completes E_BUSY. -/
  | fenceResetBudgetExpired (d : Nat)
  /-- FENCE_BIND (R150). FENCE_RESET with BIND binds an unbound fence to a tenant and sets it to 0. -/
  | fenceBind (d : Nat)
  /-- FENCE_UNBIND (R150). FENCE_RESET with UNBIND waits for no waiters and unbinds the fence. -/
  | fenceUnbind (d : Nat)
  /-- FENCE_FORCE (R158). Poisons the named fence, or every fence of a tenant with ALL, without waiting. -/
  | fenceForce (d : Nat)
  /-- APPEND_KV (R126). Appends one shard's KV for a token range through the projection engine into the stored layout, tracked per layer. -/
  | appendKv (d : Nat) (bytes : List Byte)
  /-- APPEND_DURABLE (R127). An append's sectors are accepted by the tier, its shard bit is set and the watermark advances over complete entries. -/
  | appendDurable (d : Nat)
  /-- TRACKER_WAIT_EXPIRED (R129). An APPEND_KV waiting for a free tracker entry reaches its budget and completes E_BUSY. -/
  | trackerWaitExpired (d : Nat)
  /-- GATHER_KV (R148). Reads a layer's tokens, converted from the stored layout to a client layout. -/
  | gatherKv (d : Nat)
  /-- STEP_COMMIT (R131). Sets the committed token and step once every layer's watermark reaches the through-token. -/
  | stepCommit (d : Nat)
  /-- WATERMARK_REACHED (R155). A command waiting on a layer watermark sees it reach the through-token and proceeds. -/
  | watermarkReached (d : Nat)
  /-- WATERMARK_BUDGET_EXPIRED (R156). A watermark wait reaches its budget and the command completes E_STALE. -/
  | watermarkBudgetExpired (d : Nat)
  /-- STREAM_OPEN (R117). Assigns the lowest free stream ID, sets layouts and prefix, and moves references to the stream. -/
  | streamOpen (d : Nat)
  /-- STREAM_CLOSE (R151). Ends watermark waits, lets executing descriptors finish, releases references and frees the context. -/
  | streamClose (d : Nat)
  /-- STREAM_CLOSE_FORCE (R151). Closes a stream while also stopping executing descriptors with E_ABORTED. -/
  | streamCloseForce (d : Nat) (unfinished : List Nat)
  /-- STREAM_FREED (R118). The last descriptor of a CLOSING stream is gone and the stream becomes FREE. -/
  | streamFreed (i : Nat)
  /-- STREAM_SUSPEND (R133). Enters SUSPENDING, ends watermark waits and, once other descriptors finish, rolls back to the committed token. -/
  | streamSuspend (d : Nat)
  /-- SUSPEND_COPIES_DURABLE (R37). The hot-to-warm copies of a suspension are durable; the lists are rewritten, references released and the stream SUSPENDED. -/
  | suspendCopiesDurable (d failCode done : Nat)
  /-- STREAM_RESUME (R136). Takes the named segments' references as the prefix and adds grants, making the stream ACTIVE. -/
  | streamResume (d : Nat)
  /-- STREAM_RESUME_EXTEND (R137). Adds folio-list grants to an ACTIVE stream. -/
  | streamResumeExtend (d : Nat)
  /-- CATALOG_LOOKUP (R168). Looks up up to 256 hashes locally or by forwarding and writes records, taking references on hits. -/
  | catalogLookup (d : Nat) (bytes : List Byte) (late : Nat)
  /-- CATALOG_PUBLISH (R165). Marks the named DFNs published and creates a segment record for an index entry. -/
  | catalogPublish (d : Nat)
  /-- PUBLISH_INSERT (R165). No earlier descriptor holds the published DFNs as destination, so the index entry is inserted and the publish completes. -/
  | publishInsert (d : Nat)
  /-- CATALOG_RELEASE (R185). Releases the tenant's ledger references on a handle. -/
  | catalogRelease (d : Nat)
  /-- CATALOG_WITHDRAW (R186). CATALOG_RELEASE with WITHDRAW removes the entry from the index. -/
  | catalogWithdraw (d : Nat)
  /-- CATALOG_HINT (R187). Changes the hint class of an entry. -/
  | catalogHint (d : Nat)
  /-- FORWARD_TIMEOUT (R179). A forwarded hash gets no answer within CT_CFG.FWD_TIMEOUT and its record reads UNREACHABLE. -/
  | forwardTimeout (req : Nat)
  /-- FWD_REQ (R435). A received FWD_REQ is answered, relayed toward its destination or answered MOVED. -/
  | fwdReq (l : Nat) (unf : List Nat)
  /-- FWD_RSP (R181). A received FWD_RSP answers a forwarded request, or is relayed onward. -/
  | fwdRsp (l : Nat) (unf : List Nat)
  /-- FWD_HOLD_EXPIRED (R436). A FWD_REQ of a higher epoch held for 100 ms without adoption is answered UNREACHABLE. -/
  | fwdHoldExpired
  /-- REFSTATE (R430). A REFSTATE message clears the PENDING flag of an entry and records whether it is idle. -/
  | refstate (l : Nat) (unf : List Nat)
  /-- ATTEND (R198). Computes attention partials over a stream layer's stored KV in carrel tasks, merging ranges with MERGE. -/
  | attend (d : Nat)
  /-- REDUCE_PARTIAL (R212). Merges supplied partials in a fixed tree and outputs partials or normalised values. -/
  | reducePartial (d : Nat)
  /-- QUANTIZE (R223). Converts elements between formats in a carrel with rounding, saturation and scaling. -/
  | quantize (d : Nat)
  /-- SCORE_TOPK (R222). Scores tokens against grouped queries and writes the top K records. -/
  | scoreTopk (d : Nat)
  /-- CARREL_DISPATCH (R197). The carrel wait ends; the command is divided into tasks and its output staging reserved. -/
  | carrelDispatch (d : Nat)
  /-- CARREL_WAIT_EXPIRED (R195). A carrel command undispatched at its budget completes E_BUSY. -/
  | carrelWaitExpired (d : Nat)
  /-- CARREL_TASK_START (R499). A free carrel takes the next task chosen among tenants, zeroing scratch on a tenant change. -/
  | carrelTaskStart (c : Nat)
  /-- CARREL_TASK_END (R204). A task ends; once every task and merge succeeds, the output is written from staging. -/
  | carrelTaskEnd (c : Nat)
  /-- CARREL_FAULT (R224). An uncorrected carrel error reruns the task once elsewhere, aborts the command on a second failure and takes the cluster OUT. -/
  | carrelFault (c : Nat)
  /-- CLUSTER_REMOVE (R225). CR_CLUSTER_CTL REMOVE lets assigned tasks finish and takes the cluster OUT. -/
  | clusterRemove (p : Port) (k : Nat)
  /-- CLUSTER_RETURN (R225). CR_CLUSTER_CTL RETURN takes an OUT cluster to TESTING. -/
  | clusterReturn (p : Port) (k : Nat)
  /-- CLUSTER_TEST_DONE (R194). A cluster's self-test ends; a pass makes it READY and a fail OUT. -/
  | clusterTestDone (k : Nat) (pass : Bool)
  /-- WAKE_REEXAMINE (R596). Every 10 µs the rail controller grants or refuses pending cluster wakes, oldest first. -/
  | wakeReexamine
  /-- CLUSTER_WAKE_COMPLETE (R596). A granted wake completes and the cluster becomes READY. -/
  | clusterWakeComplete (k : Nat)
  /-- CLUSTER_IDLE_GATE (R590). A READY cluster idle for GATE_US is clock-gated. -/
  | clusterIdleGate (k : Nat)
  /-- CLUSTER_IDLE_OFF (R590). A GATED cluster idle for OFF_US is power-gated. -/
  | clusterIdleOff (k : Nat)
  /-- SK_P_FLUSH (R244). SK_P_CTL FLUSH turns every line pinned in the partition into a NORMAL line. -/
  | skPFlush (p : Port) (k : Nat)
  /-- FLUSH_END (R252). A partition flush finishes and FLUSHING clears. -/
  | flushEnd (k : Nat)
  /-- SK_P_LIMIT_WRITE (R245). A write of SK_P_LIMIT takes effect at once, demoting lines if below USED, or is refused if the sum would exceed the cap. -/
  | skPLimitWrite (p : Port) (k v : Nat)
  /-- DEMOTE_END (R245). Demotion reaches USED equal to LIMIT and DEMOTING clears. -/
  | demoteEnd (k : Nat)
  /-- PIN_SECOND_WALK (R243). Once the oldest descriptor postdates a PIN's window, the cache walks the folios a second time. -/
  | pinSecondWalk
  /-- PIN_SECOND_WALK_END (R243). The second PIN walk ends and SWEEP clears. -/
  | pinSecondWalkEnd
  /-- SK_DATA_PARITY (R254). A parity error in a cache line invalidates it and serves the access as a miss. -/
  | skDataParity (sec : Nat)
  /-- SK_TAG_PARITY (R255). A parity error in a set's tag array invalidates all 16 lines of the set. -/
  | skTagParity (set : Nat)
  /-- SCRATCH_PARITY (R257). A scratch parity error is an uncorrected carrel error and reruns the task. -/
  | scratchParity (c : Nat)
  /-- RO_CACHE_PARITY (R258). A read-only cache entry with a parity error is invalidated and refetched. -/
  | roCacheParity (c : Nat)
  /-- PJ_UNIT_ASSIGN (R272). An APPEND_KV or GATHER_KV entering execute is assigned to the unit with fewest bytes queued. -/
  | pjUnitAssign (d : Nat)
  /-- PJ_UNIT_WAIT_EXPIRED (R283). With every unit out of service, a projection command reaches its budget and completes E_BUSY. -/
  | pjUnitWaitExpired (d : Nat)
  /-- PJ_PARITY (R281). A parity error in a unit's buffers redoes the chunk, and a second aborts the command. -/
  | pjParity (u d chunk : Nat)
  /-- PJ_U_RETURN (R279). PJ_U_CTL RETURN runs memory self-test of the unit's buffers and a pass returns it to service. -/
  | pjUReturn (p : Port) (u : Nat)
  /-- PLACE (R284). Checks feasibility and solves a least-cost assignment of rows to columns. -/
  | place (d : Nat)
  /-- SOLVER_START (R289). The solver engine becomes free and starts the next waiting PLACE, round-robin across tenants. -/
  | solverStart
  /-- SOLVER_WAIT_EXPIRED (R289). A PLACE waiting for the engine reaches its budget and completes E_BUSY. -/
  | solverWaitExpired (d : Nat)
  /-- SOLVE_COMPLETE (R291). The auction stops and the output records are written. -/
  | solveComplete
  /-- PL_PARITY (R296). A parity error in the engine store restarts the solve once, and a second aborts the command. -/
  | plParity
  /-- DDR5_TRAINING (R308). A DDR5 channel trains its DIMMs through the steps of Table 10.5. -/
  | ddr5Training (ch : Nat) (dimms : List Dimm) (timing : List Nat)
  /-- HBM_TRAINING (R308). An HBM3E stack trains, with lane repair, through the steps of Table 10.5. -/
  | hbmTraining (stack : Nat) (high12 : Bool) (lanes : List (Option Nat)) (timing : List Nat) (drfm : Bool) (rfm : Nat)
  /-- PERIODIC_RETUNE (R309). Every 100 ms a live channel or stack reads its oscillators and adjusts timing. -/
  | periodicRetune (target : Nat) (drift : List Int)
  /-- REFRESH_DUE (R312). A refresh falls due each tREFI and is issued or postponed. -/
  | refreshDue (u rank : Nat) (reads hot : Bool)
  /-- REFRESH_REPAY (R313). A postponed refresh is repaid when the rank or pseudo-channel is idle. -/
  | refreshRepay (u rank : Nat) (reads : Bool)
  /-- WRITE_QUEUE_ROOM (R316). A write waiting on a full write queue enters it when room frees. -/
  | writeQueueRoom (u : Nat)
  /-- CA_PARITY_ALERT (R317). A CA parity alert reissues the retry-buffer commands in order, up to 3 times. -/
  | caParityAlert (u at_ : Nat) (cleared : Bool)
  /-- RETRAIN (R318). A persistent alert or 16 alerts in 1 s retrain the channel's command and data interfaces. -/
  | retrain (u : Nat)
  /-- RETRAIN_END (R319). Retraining ends; success resumes traffic and failure takes the channel OUT. -/
  | retrainEnd (u : Nat) (ok : Bool)
  /-- ACTIVATE_THRESHOLD (R321). A row's activate counter reaches the threshold and its neighbours are refreshed. -/
  | activateThreshold (u bank : Nat) (acts : List (Nat × Nat))
  /-- ACTIVATE_WINDOW_CLEAR (R320). At each 32 ms refresh window every activate counter clears. -/
  | activateWindowClear
  /-- UNCORRECTABLE_READ (R323). An uncorrectable read is reread; a second failure poisons the sector and returns E_POISON. -/
  | uncorrectableRead (line : Nat) (first second : LineErr) (d : Option Nat)
  /-- RANK_RETIREMENT (R324). A retirement trigger in SPARE_RANK mode starts migration of a rank to the spare. -/
  | rankRetirement (ch : Nat)
  /-- MIGRATION_UNIT_COPY (R325). Migration copies the next 2 KiB unit of the source rank to the target. -/
  | migrationUnitCopy (ch : Nat) (bad : List Nat)
  /-- MIGRATION_COMPLETE (R327). The last unit is copied; the logical rank maps to TARGET and SOURCE goes OUT. -/
  | migrationComplete (ch : Nat)
  /-- RANK_RETIRE (R336). MC_CH_RANK_CTL RETIRE starts retirement of a LIVE rank, or is refused. -/
  | rankRetire (p : Port) (ch rank : Nat)
  /-- RANK_RETURN (R328). MC_CH_RANK_CTL RETURN makes a tested OUT rank SPARE, or is refused. -/
  | rankReturn (p : Port) (ch rank : Nat)
  /-- ROW_SPARE (R330). A failing hot-tier row starts copying its folios to spare folios. -/
  | rowSpare (u bank row : Nat)
  /-- SPARE_COPY_COMPLETE (R331). A folio's sparing copy ends and its remap takes effect. -/
  | spareCopyComplete (dfn : Nat) (bad : List Nat)
  /-- SELF_REFRESH_ENTRY (R590). A channel or stack idle for SR_US enters self-refresh after draining writes and repaying refreshes. -/
  | selfRefreshEntry (target : Nat)
  /-- SELF_REFRESH_EXIT (R594). An access or a late scrubber wakes a channel or stack from self-refresh. -/
  | selfRefreshExit (target : Nat)
  /-- SCRUB_READ (R359). The scrubber reads the next line, writing back corrections and answering uncorrectable lines. -/
  | scrubRead (target : Nat) (first second : LineErr) (late : Bool)
  /-- BIST_RUN (R362). Starts a background self-test job on an allowed target. -/
  | bistRun (d planned : Nat)
  /-- BIST_REPAIR (R369). BIST_RUN with REPAIR repairs each distinct failing row or SRAM word from the records. -/
  | bistRepair (d : Nat) (records : List Byte) (lack : List Nat)
  /-- BIST_ABORT (R367). BIST_RUN with ABORT stops the named job at its next slice boundary. -/
  | bistAbort (d : Nat)
  /-- BIST_SLICE (R363). A self-test job runs its next slice of patterns in the maintenance class. -/
  | bistSlice (kind index rank : Nat) (records : List (List Byte))
  /-- BIST_JOB_END (R365). A self-test job ends DONE or ABORTED and sets SI_EVENT.BIST_DONE. -/
  | bistJobEnd (kind index rank : Nat)
  /-- SCRUB_SET_PERIOD (R361). SCRUB_CTL SET_PERIOD changes a scrubber's period from the next line. -/
  | scrubSetPeriod (d : Nat)
  /-- SCRUB_PAUSE (R372). SCRUB_CTL PAUSE pauses a scrubber. -/
  | scrubPause (d : Nat)
  /-- SCRUB_RESUME (R372). SCRUB_CTL RESUME resumes a paused scrubber. -/
  | scrubResume (d : Nat)
  /-- SCRUB_RESTART_PASS (R372). SCRUB_CTL RESTART_PASS begins a new pass at the first line. -/
  | scrubRestartPass (d : Nat)
  /-- INJECT_FIRE (R370). SI_INJ_CTL FIRE corrects the target line and writes it back with the injection pattern, or is refused. -/
  | injectFire (p : Port)
  /-- WQ_PARITY (R375). A write-queue parity error poisons the line's sector and discards the entry. -/
  | wqParity (line : Nat)
  /-- DESC_PARITY (R375). A descriptor-table or translation-store parity error aborts the command. -/
  | descParity (d : Nat) (unfinished : List Nat)
  /-- CT_STASH_PARITY (R375). A catalog stash parity error removes the entry. -/
  | ctStashParity (i : Nat)
  /-- CT_CACHE_PARITY (R375). A catalog hot-entry cache parity error invalidates and refetches the entry. -/
  | ctCacheParity (i : Nat)
  /-- METADATA_UE (R671). An uncorrectable read or poison in device metadata is answered per structure as Table 20.6 states. -/
  | metadataUe (code item : Nat) (second : Bool) (unfinished : List Nat)
  /-- LINK_ENABLE (R405). LK_L_CTL ENABLE takes a DISABLED link to DOWN. -/
  | linkEnable (p : Port) (l : Nat)
  /-- LINK_DISABLE (R405). LK_L_CTL DISABLE takes a link from any state to DISABLED. -/
  | linkDisable (p : Port) (l : Nat)
  /-- LINK_RETRAIN (R405). LK_L_CTL RETRAIN takes a link from ACTIVE, QUARANTINE or RECOVERY to DOWN. -/
  | linkRetrain (p : Port) (l : Nat)
  /-- CLEAR_HOLD (R416). LK_L_CTL CLEAR_HOLD ends HELD and resets the hold-off to 10 s. -/
  | clearHold (p : Port) (l : Nat)
  /-- TRAINING_LOCK (R405). A DOWN link locks on the partner's training frames and enters TRAINING. -/
  | trainingLock (l : Nat)
  /-- TRAINING_COMPLETE (R377). FEC lock and deskew complete and the link enters CONFIG at the chosen rate and width. `good` is
  the mask of lanes that trained, `mirror` that their order is reversed, `inverted` the lanes whose polarity is. -/
  | trainingComplete (l rate good : Nat) (mirror : Bool) (inverted : Nat)
  /-- TRAINING_TIMEOUT (R405). 500 ms at one rate without success moves to the next rate or back to DOWN. -/
  | trainingTimeout (l : Nat)
  /-- CONFIG (R408). A received CONFIG flit is acknowledged and, once both sides acknowledge, the partner's CONFIG is checked. -/
  | configFlit (l : Nat) (f : Flit) (unf : List Nat)
  /-- CONFIG_TIMEOUT (R405). CONFIG lasting 10 ms takes the link back to DOWN. -/
  | configTimeout (l : Nat)
  /-- EPOCH_VERIFY_TIMEOUT (R409). An epoch mismatch not verified within 100 ms leaves the link in QUARANTINE with EPOCH_UNVERIFIED. -/
  | epochVerifyTimeout (l : Nat)
  /-- SEQUENCED_FLIT (R386). A received sequenced flit is accepted and delivered to its VC, or discarded with a re-ACK or NAK. -/
  | sequencedFlit (l : Nat) (a : Arrival) (unf : List Nat)
  /-- LINK_CTL (R388). A received LINK_CTL releases acknowledged flits, returns credits and, on NAK, resends from the NAKed SEQ. -/
  | linkCtl (l : Nat) (ack nak : Option Nat) (freed : List Nat)
  /-- ACK_TIMER (R387). 100 ns after an unacknowledged accept, or with credits unreturned, a LINK_CTL is sent. -/
  | ackTimer (l : Nat)
  /-- REPLAY_TIMEOUT (R388). The oldest unacknowledged flit sees no ACK progress for 10 µs and every unacknowledged flit is resent. -/
  | replayTimeout (l : Nat)
  /-- RECOVERY (R406). The replay limit takes the link to RECOVERY, which retrains the PHY keeping sequence state. -/
  | recovery (l : Nat)
  /-- RECOVERY_TIMEOUT (R405). RECOVERY not retrained within 10 ms drops the link. -/
  | recoveryTimeout (l : Nat) (unf : List Nat)
  /-- LINK_DROP (R407). A link drops to DOWN, discarding replay state and credits and closing its sessions. -/
  | linkDrop (l : Nat) (unf : List Nat)
  /-- CREDIT_TIMEOUT (R412). A VC holding flits without credit for CREDIT_TIMEOUT drops the link. -/
  | creditTimeout (l vc : Nat) (unf : List Nat)
  /-- HOLDOFF_EXPIRED (R416). The hold-off ends and the HELD link returns to DOWN. -/
  | holdoffExpired (l : Nat)
  /-- HOLDOFF_RESET (R416). After 320 s up without a break, the hold-off returns to 10 s. -/
  | holdoffReset (l : Nat)
  /-- DOORBELL (R398). A DOORBELL flit writes its entries into the SQ ring and moves the tail and CQ head. -/
  | doorbell (l : Nat) (unf : List Nat)
  /-- DATA (R399). A received DATA flit supplies bytes of an open pull for its queue and XTAG. -/
  | dataFlit (l : Nat) (unf : List Nat)
  /-- DATA_ACKNOWLEDGED (R401). Every DATA flit of returned data is acknowledged, so the command's completion is written. -/
  | dataAcknowledged (d : Nat)
  /-- LINK_RESOURCE_WAIT_END (R414). A command waiting for its link to be ACTIVE and its session open resumes. -/
  | linkResourceWaitEnd (d : Nat)
  /-- LCOUNT_TIMEOUT (R506). The oldest gathered completion of a link-origin queue waits LTIME and its COMPLETION flit is sent. -/
  | lcountTimeout (q : Nat)
  /-- TIME_SEND (R404). Every TIME_PERIOD each side sends a TIME flit stamped at the PMA. -/
  | timeSend (l : Nat)
  /-- TIME (R404). A received TIME flit is stamped on arrival and feeds offset and delay estimates. -/
  | timeFlit (l tTx : Nat) (echo : Option (Nat × Nat))
  /-- STEERING_GAP (R440). No steering exchange succeeds for 100 ms and TIME_DEGRADED sets. -/
  | steeringGap
  /-- TIME_DEGRADED_CLEAR (R440). The offset has stayed within 500 ns for 1 s and TIME_DEGRADED clears. -/
  | timeDegradedClear
  /-- OPEN (R394). A received SESSION OPEN is answered OPEN_ACK with a fresh nonce, or REFUSE. -/
  | openFlit (l : Nat)
  /-- OPEN_ACK (R563). A received OPEN_ACK derives the session's traffic keys and opens it. -/
  | openAck (l : Nat)
  /-- REKEY (R394). A received REKEY is answered REKEY_ACK and new keys are derived. -/
  | rekey (l : Nat)
  /-- REKEY_ACK (R394). A received REKEY_ACK moves the session to its new keys. -/
  | rekeyAck (l : Nat)
  /-- REKEY_START (R397). A direction's message counter reaches 2^31 and the device starts a rekey. -/
  | rekeyStart (l i : Nat)
  /-- SESSION_COUNTER_LIMIT (R397). A counter reaching 2^32 before the rekey completes closes the session. -/
  | sessionCounterLimit (l i : Nat)
  /-- CLOSE (R394). A received CLOSE is answered CLOSE_ACK and the session closes. -/
  | closeFlit (l : Nat)
  /-- CLOSE_ACK (R568). A received CLOSE_ACK releases the link's handle on the session slot. -/
  | closeAck (l : Nat)
  /-- REFUSE (R394). A received REFUSE leaves the session unopened. -/
  | refuse (l : Nat)
  /-- MGMT (R384). A MGMT flit carries one MCTP packet to the device endpoint. -/
  | mgmt (l : Nat)
  /-- LANE_SLEEP (R590). A link quad with no up link for SLEEP_US enters lane sleep. -/
  | laneSleep (quad : Nat)
  /-- SLEEP_TRAINING_BURST (R593). A DOWN link in a sleeping quad sends training frames for 1 ms in every 16 ms. -/
  | sleepTrainingBurst (l : Nat)
  /-- QUAD_WAKE (R593). Signal detect wakes a sleeping quad and the link enters TRAINING. -/
  | quadWake (l : Nat)
  /-- EPOCH_LOAD (R721). DEVICE_ADMIN EPOCH_LOAD reads an epoch record and verifies and adopts it. -/
  | epochLoad (d : Nat)
  /-- EPOCH_SWITCH (R426). After old-epoch forwards end, the new map, routes, time parent and member ID take effect in one step. -/
  | epochSwitch
  /-- PEER_ATTESTATION (R432). SPDM attestation of a member link partner ends VERIFIED or FAILED. -/
  | peerAttestation (l : Nat) (key : List Byte) (ok : Bool)
  /-- GET_EPOCH_RECORD (R478). Returns the adopted epoch record, or NOT_AVAILABLE. -/
  | getEpochRecord (b inst epoch : Nat)
  /-- PUT_EPOCH_RECORD (R478). A record received over MGMT is verified and adopted or refused. -/
  | putEpochRecord (b inst : Nat) (record : List Byte)
  /-- REG_READ (R479). Performs a 4-byte BAR0 read for the BMC port over I3C. -/
  | regRead (b inst off : Nat)
  /-- REG_WRITE (R479). Performs a 4-byte BAR0 write for the BMC port over I3C, under the register's port rules. -/
  | regWrite (b inst off v : Nat) (x : WriteAux)
  /-- PCIE_LINK_UP (R444). The host port trains at a rate and width, in FLIT or non-flit mode. -/
  | pcieLinkUp (rate width : Nat) (flit cxl : Bool)
  /-- PCIE_LINK_DOWN (R507). DL_Down or loss of the PCIe reference causes a host-port reset. -/
  | pcieLinkDown (unf : List Nat)
  /-- PERST_ASSERT (R696). PERST_N stable low causes a host-port reset, or arms S3 exit. -/
  | perstAssert (unf : List Nat)
  /-- PERST_RELEASE (R689). PERST_N release lets the host port train, and ends S3 when armed. -/
  | perstRelease
  /-- HOST_PORT_RESET (R507). Clears the PCIe core, PF and VF configuration, host-origin queues, apertures, IDE and their select banks. -/
  | hostPortReset (unf : List Nat)
  /-- PF_FLR (R507). FLR of the PF clears as a host-port reset without retraining the link. -/
  | pfFlr (unf : List Nat)
  /-- VF_FLR (R507). FLR of a VF clears its configuration, MSI-X, IR window, select banks and its queues. -/
  | vfFlr (n : Nat) (unf : List Nat)
  /-- BUS_MASTER_ENABLE (R452). A function's Bus Master Enable or D-state change stops or resumes its memory requests and messages. -/
  | busMasterEnable (fn : Nat) (bme d3 : Bool) (cfg : ConfigWrite) (unf : List Nat)
  /-- HOST_COMPLETION_ERROR (R453). A UR, CA or timed-out host completion ends the transfer and the command completes E_ABORTED. -/
  | hostCompletionError (d code : Nat) (unf : List Nat)
  /-- HOST_WRITE_FAIL (R759). A host write the port cannot send aborts the command with DETAIL 0x93 or 0x94. -/
  | hostWriteFail (d : Nat) (ide : Bool) (unf : List Nat)
  /-- POISONED_COMPLETION (R454). A poisoned host completion or write is answered by poisoning or failing the command. -/
  | poisonedCompletion (d off n : Nat)
  /-- APERTURE_READ (R457). A BAR4 read reaches tenant memory through the window entry, or is refused with UR. -/
  | apertureRead (w off n tag : Nat) (secure : Bool)
  /-- APERTURE_WRITE (R459). A BAR4 write reaches tenant memory through the window entry, or is discarded. -/
  | apertureWrite (w off : Nat) (data : List Byte) (poison secure : Bool)
  /-- CXL_MEM_READ (R462). A CXL.mem read reaches the bound tenant's memory, or returns poison. -/
  | cxlMemRead (a tag : Nat) (secure : Bool)
  /-- CXL_MEM_WRITE (R462). A CXL.mem write reaches the bound tenant's memory, or is discarded. -/
  | cxlMemWrite (a tag : Nat) (data : List Byte) (poison secure : Bool)
  /-- APERTURE_ENABLE (R481). A write of HP_APT_CFG.ENABLE starts filling the window entries or turns the window off. -/
  | apertureEnable (p : Port) (w : Nat) (on : Bool)
  /-- CXL_BINDING_ENABLE (R481). A write of HP_CXL_CFG.ENABLE starts filling the CXL binding or turns it off. -/
  | cxlBindingEnable (p : Port) (on : Bool)
  /-- BINDING_FILLED (R481). Entry filling ends and BINDING clears. -/
  | bindingFilled (w : Nat)
  /-- IDE_CHECK_FAIL (R466). An IDE check failure makes the stream Insecure and aborts commands whose transfers used it. -/
  | ideCheckFail (stream : Nat) (ds unf : List Nat)
  /-- MCTP_PACKET (R470). A received MCTP packet is reassembled into a message, or dropped. -/
  | mctpPacket (b : Nat) (p : List Byte)
  /-- SET_ENDPOINT_ID (R469). MCTP control: sets the endpoint ID. -/
  | setEndpointId (b eid : Nat)
  /-- GET_ENDPOINT_ID (R469). MCTP control: returns the endpoint ID. -/
  | getEndpointId (b : Nat)
  /-- GET_ENDPOINT_UUID (R469). MCTP control: returns the endpoint UUID. -/
  | getEndpointUuid (b : Nat)
  /-- GET_MCTP_VERSION_SUPPORT (R469). MCTP control: returns supported MCTP versions. -/
  | getMctpVersionSupport (b t : Nat)
  /-- GET_MESSAGE_TYPE_SUPPORT (R469). MCTP control: returns supported message types. -/
  | getMessageTypeSupport (b : Nat)
  /-- GET_VENDOR_DEFINED_MESSAGE_SUPPORT (R469). MCTP control: returns supported vendor-defined messages. -/
  | getVendorDefinedMessageSupport (b sel : Nat)
  /-- PREPARE_FOR_ENDPOINT_DISCOVERY (R469). MCTP control on PCIe VDM: prepares for endpoint discovery. -/
  | prepareForEndpointDiscovery (b : Nat)
  /-- ENDPOINT_DISCOVERY (R469). MCTP control on PCIe VDM: answers endpoint discovery. -/
  | endpointDiscovery (b : Nat)
  /-- DISCOVERY_NOTIFY (R469). MCTP control on PCIe VDM: discovery notification. -/
  | discoveryNotify (b : Nat)
  /-- DOE_DISCOVERY (R469). The DOE mailbox answers DOE Discovery. -/
  | doeDiscovery (i : Nat)
  /-- CDAT_TABLE_ACCESS (R464). In CXL mode the DOE mailbox returns the CDAT. -/
  | cdatTableAccess (i : Nat)
  /-- GET_VERSION (R471). SPDM GET_VERSION returns supported versions. -/
  | getVersion (b : Nat)
  /-- GET_CAPABILITIES (R471). SPDM GET_CAPABILITIES returns capabilities. -/
  | getCapabilities (b : Nat)
  /-- NEGOTIATE_ALGORITHMS (R471). SPDM NEGOTIATE_ALGORITHMS selects algorithms. -/
  | negotiateAlgorithms (b : Nat) (ecdsa sha dhe aead : Bool)
  /-- GET_DIGESTS (R528). SPDM GET_DIGESTS returns the certificate chain digests. -/
  | getDigests (b : Nat)
  /-- GET_CERTIFICATE (R528). SPDM GET_CERTIFICATE returns the slot 0 chain. -/
  | getCertificate (b slot off n : Nat)
  /-- CHALLENGE (R528). SPDM CHALLENGE is answered signed with the Alias key. -/
  | challenge (b slot : Nat) (nonce : List Byte)
  /-- GET_MEASUREMENTS (R529). SPDM GET_MEASUREMENTS returns the measurement blocks. -/
  | getMeasurements (b i : Nat) (sign : Bool)
  /-- KEY_EXCHANGE (R472). SPDM KEY_EXCHANGE opens a session, or is answered Busy at the fifth. -/
  | keyExchange (b id : Nat)
  /-- FINISH (R471). SPDM FINISH completes session establishment. -/
  | spdmFinish (b id : Nat)
  /-- HEARTBEAT (R471). SPDM HEARTBEAT keeps a session alive. -/
  | heartbeat (b id : Nat)
  /-- KEY_UPDATE (R471). SPDM KEY_UPDATE updates session keys. -/
  | keyUpdate (b id : Nat)
  /-- END_SESSION (R471). SPDM END_SESSION closes a session. -/
  | endSession (b id : Nat)
  /-- CHUNK_SEND (R471). SPDM CHUNK_SEND receives a chunk of a large request. -/
  | chunkSend (b : Nat) (last : Bool) (data : List Byte)
  /-- CHUNK_GET (R471). SPDM CHUNK_GET returns a chunk of a large response. -/
  | chunkGet (b : Nat)
  /-- IDE_KM (R465). VENDOR_DEFINED_REQUEST IDE_KM programs IDE keys over a secured session on DOE. -/
  | ideKm (b id stream : Nat)
  /-- GET_TID (R473). PLDM GetTID returns the terminus ID. -/
  | getTid (b : Nat)
  /-- SET_TID (R473). PLDM SetTID sets the terminus ID. -/
  | setTid (b tid : Nat)
  /-- GET_PLDM_VERSION (R473). PLDM GetPLDMVersion returns a type's version. -/
  | getPldmVersion (b t : Nat)
  /-- GET_PLDM_TYPES (R473). PLDM GetPLDMTypes returns supported types. -/
  | getPldmTypes (b : Nat)
  /-- GET_PLDM_COMMANDS (R473). PLDM GetPLDMCommands returns supported commands. -/
  | getPldmCommands (b t : Nat)
  /-- GET_PDR_REPOSITORY_INFO (R474). PLDM GetPDRRepositoryInfo describes the PDR repository. -/
  | getPdrRepositoryInfo (b : Nat)
  /-- GET_PDR (R474). PLDM GetPDR returns a PDR. -/
  | getPdr (b h : Nat)
  /-- GET_SENSOR_READING (R474). PLDM GetSensorReading returns a numeric sensor. -/
  | getSensorReading (b i sample : Nat)
  /-- GET_STATE_SENSOR_READINGS (R474). PLDM GetStateSensorReadings returns state sensors. -/
  | getStateSensorReadings (b i : Nat)
  /-- SET_EVENT_RECEIVER (R474). PLDM SetEventReceiver sets the receiver of platform events. -/
  | setEventReceiver (b eid : Nat) (on : Bool)
  /-- SENSOR_THRESHOLD_CROSSING (R474). A numeric sensor crosses a threshold and an event is sent or kept. -/
  | sensorThresholdCrossing (i st : Nat)
  /-- POLL_FOR_PLATFORM_EVENT_MESSAGE (R474). PLDM PollForPlatformEventMessage returns a held event. -/
  | pollForPlatformEventMessage (b : Nat)
  /-- EVENT_MESSAGE_SUPPORTED (R474). PLDM EventMessageSupported reports event support. -/
  | eventMessageSupported (b : Nat)
  /-- QUERY_DEVICE_IDENTIFIERS (R473). PLDM QueryDeviceIdentifiers returns identifiers. -/
  | queryDeviceIdentifiers (b : Nat)
  /-- GET_FIRMWARE_PARAMETERS (R473). PLDM GetFirmwareParameters returns component versions. -/
  | getFirmwareParameters (b : Nat)
  /-- REQUEST_UPDATE (R476). PLDM RequestUpdate grants update mode to one agent, or is refused. -/
  | requestUpdate (b eid : Nat)
  /-- PASS_COMPONENT_TABLE (R473). PLDM PassComponentTable passes the component table. -/
  | passComponentTable (b eid comp : Nat)
  /-- UPDATE_COMPONENT (R475). PLDM UpdateComponent starts writing a component to its inactive slot. -/
  | updateComponent (b eid comp : Nat)
  /-- TRANSFER_COMPLETE (R473). PLDM TransferComplete ends the component transfer. -/
  | transferComplete (ok : Bool)
  /-- VERIFY_COMPLETE (R525). PLDM VerifyComplete reports the verification result, marking a refused image INVALID. -/
  | verifyComplete (image key : List Byte)
  /-- ACTIVATE_FIRMWARE (R475). PLDM ActivateFirmware marks the slot STAGED and reports a reset is required. -/
  | activateFirmware (b eid : Nat) (selfContained : Bool)
  /-- PLDM_GET_STATUS (R473). PLDM GetStatus returns update status. -/
  | pldmGetStatus (b : Nat)
  /-- CANCEL_UPDATE_COMPONENT (R473). PLDM CancelUpdateComponent cancels the component being written. -/
  | cancelUpdateComponent (b eid : Nat)
  /-- CANCEL_UPDATE (R473). PLDM CancelUpdate ends update mode. -/
  | cancelUpdate (b eid : Nat)
  /-- UPDATE_IDLE_TIMEOUT (R476). An update agent silent for 120 s loses update mode and the component is marked invalid. -/
  | updateIdleTimeout
  /-- GET_EVENT_RECORDS (R463). CXL mailbox Get Event Records. -/
  | getEventRecords (log : Nat)
  /-- CLEAR_EVENT_RECORDS (R463). CXL mailbox Clear Event Records. -/
  | clearEventRecords (log : Nat)
  /-- GET_EVENT_INTERRUPT_POLICY (R463). CXL mailbox Get Event Interrupt Policy. -/
  | getEventInterruptPolicy
  /-- SET_EVENT_INTERRUPT_POLICY (R463). CXL mailbox Set Event Interrupt Policy. -/
  | setEventInterruptPolicy (v : Nat)
  /-- GET_SUPPORTED_LOGS (R463). CXL mailbox Get Supported Logs. -/
  | getSupportedLogs
  /-- GET_LOG (R463). CXL mailbox Get Log of the Command Effects Log. -/
  | getLog (effects : Bool)
  /-- GET_TIMESTAMP (R463). CXL mailbox Get Timestamp returns the system counter in ns. -/
  | getTimestamp
  /-- IDENTIFY_MEMORY_DEVICE (R463). CXL mailbox Identify Memory Device. -/
  | identifyMemoryDevice
  /-- GET_PARTITION_INFO (R463). CXL mailbox Get Partition Info. -/
  | getPartitionInfo
  /-- GET_HEALTH_INFO (R463). CXL mailbox Get Health Info. -/
  | getHealthInfo
  /-- GET_POISON_LIST (R463). CXL mailbox Get Poison List lists poisoned sectors as window offsets. -/
  | getPoisonList (off n : Nat)
  /-- TENANT_CREATE (R486). Creates a tenant with its mirror, fields and reservations and makes it ACTIVE. -/
  | tenantCreate (d : Nat)
  /-- TENANT_SET (R489). Applies a tenant's QoS fields as a grant. -/
  | tenantSet (d : Nat)
  /-- TENANT_SET_SHARE (R488). TENANT_SET with SHARE changes the share group as a revoke. -/
  | tenantSetShare (d : Nat)
  /-- TENANT_REMOVE (R491). Makes a tenant REMOVING and retires its keys, queues, fences, streams, entries, apertures and folios. -/
  | tenantRemove (t : Nat) (unf : List Nat)
  /-- QUEUE_BIND (R494). Binds an unbound DISABLED queue to a tenant and origin. -/
  | queueBind (d : Nat)
  /-- QUEUE_UNBIND (R495). Resets a queue and unbinds it. -/
  | queueUnbind (d : Nat) (unf : List Nat)
  /-- VF_BIND (R493). Binds a VF to an ACTIVE tenant. -/
  | vfBind (d : Nat)
  /-- VF_UNBIND (R493). VF_BIND with UNBIND unbinds a VF from its tenant. -/
  | vfUnbind (d : Nat)
  /-- TENANT_RESET (R508). Resets every queue of a tenant on any origin, writing no completions. -/
  | tenantReset (d : Nat) (unf : List Nat)
  /-- RESERVATION_CREDIT (R496). Every 1 µs each tenant is credited its tier reservation per channel. -/
  | reservationCredit
  /-- CAP_INTERVAL (R497). Each 1 µs interval a capped tenant's served bytes restart. -/
  | capInterval
  /-- VECTOR_COALESCE_TIMEOUT (R502). The oldest pending completion of a vector waits TIME and the message is sent. -/
  | vectorCoalesceTimeout (fn v : Nat)
  /-- VECTOR_UNMASK (R503). A vector is unmasked or its function regains Bus Master Enable, sending one held message. -/
  | vectorUnmask (fn v : Nat)
  /-- BMC_PORT_RESET (R507). An I3C target reset or loss of dynamic address clears the BMC select banks and I3C sessions. -/
  | bmcPortReset (lost : Bool)
  /-- I3C_ADDRESS_ASSIGN (R468). The device takes an I3C dynamic address by ENTDAA or SETDASA. -/
  | i3cAddressAssign (a : I3cAssign)
  /-- MAILBOX_GO (R548). SE_MBX_CTL.GO starts the mailbox request in SE_MBX_BUF. -/
  | mailboxGo (p : Port)
  /-- GET_STATUS (R548). Mailbox GET_STATUS returns SE_STATUS, SE_SVN and the event register. -/
  | getStatus (p : Port)
  /-- GET_IDENTITY (R527). Mailbox GET_IDENTITY returns the DeviceID key and identity digest. -/
  | getIdentity (p : Port)
  /-- GET_NONCE (R545). Mailbox GET_NONCE returns a fresh nonce. -/
  | getNonce (p : Port)
  /-- DEBUG_UNLOCK (R545). Verifies a debug token and moves to the requested debug state, destroying keys on entry to invasive. -/
  | debugUnlock (p : Port) (key : List Byte) (unf : List Nat)
  /-- DEBUG_LOCK (R545). Returns the debug state to closed at once. -/
  | debugLock (p : Port)
  /-- LC_CHANGE (R531). Verifies a token and carries out an allowed life-cycle transition through a device reset. -/
  | lcChange (p : Port) (key : List Byte) (cut : Nat) (mask : List Byte)
  /-- GET_TAMPER (R548). Mailbox GET_TAMPER returns the event register. -/
  | getTamper (p : Port)
  /-- TAMPER_ACK (R542). Clears TAMPERED, ZEROISED, causes, COUNT and times, or is refused. -/
  | tamperAck (p : Port) (key : List Byte)
  /-- FUSE_READ (R550). Returns the contents of a fuse row, refusing the UDS rows. -/
  | fuseRead (p : Port)
  /-- FW_HEALTHY (R523). The control firmware's FW_HEALTHY accepts trial images, making them GOOD and raising counters. -/
  | fwHealthy (p : Port) (cut : Option Nat)
  /-- VBAT_CFG (R543). Writes the tamper configuration, or is refused. -/
  | vbatCfg (p : Port) (key : List Byte)
  /-- TOKEN_LOCKOUT_END (R549). 60 s after 8 token refusals the token commands stop answering BUSY. -/
  | tokenLockoutEnd
  /-- TRIAL_TIMEOUT (R523). No FW_HEALTHY within 60 s of trial running time raises a device reset. -/
  | trialTimeout
  /-- TAMPER_ALARM (R538). A recognised tamper, clock-stop or low-cell alarm zeroises the key SRAM and latches the cause. -/
  | tamperAlarm (c : Nat) (levels : List Bool) (unf : List Nat)
  /-- TAMPER_ALARM_REPEAT (R539). An alarm while ZEROISED sets its cause, latches LAST_TIME and increments COUNT. -/
  | tamperAlarmRepeat (c : Nat) (levels : List Bool) (unf : List Nat)
  /-- EXTEST (R546). TAP EXTEST zeroises T, W and P and holds the device in reset until cold reset. -/
  | extest
  /-- CLAMP (R546). TAP CLAMP zeroises T, W and P and holds the device in reset until cold reset. -/
  | clamp
  /-- HIGHZ (R546). TAP HIGHZ zeroises T, W and P and holds the device in reset until cold reset. -/
  | highz
  /-- EXTEST_PULSE (R546). TAP EXTEST_PULSE zeroises T, W and P and holds the device in reset until cold reset. -/
  | extestPulse
  /-- EXTEST_TRAIN (R546). TAP EXTEST_TRAIN zeroises T, W and P and holds the device in reset until cold reset. -/
  | extestTrain
  /-- DBG_AUTH (R552). The DBG_AUTH register carries a debug token and returns a fresh nonce. -/
  | dbgAuth (tok : Option (List Byte)) (key : List Byte) (unf : List Nat)
  /-- DAP_ACCESS (R552). A DAP access is answered only as the security matrix allows. -/
  | dapAccess (kind a n : Nat) (data : List Byte)
  /-- RTP_PARITY (R555). A parity error in RTP SRAM or the key table zeroises them and escalates as fatal. -/
  | rtpParity (unf : List Nat)
  /-- KEY_CREATE_MEMORY (R561). KEY_CREATE of kind MEMORY creates the tenant's memory key slot. -/
  | keyCreateMemory (d : Nat)
  /-- KEY_CREATE_SESSION_SHARED (R558). KEY_CREATE of kind SESSION_SHARED stores a host-supplied session secret. -/
  | keyCreateSessionShared (d : Nat)
  /-- KEY_CREATE_SESSION_ATTESTED (R564). KEY_CREATE of kind SESSION_ATTESTED attests the accelerator over SPDM and derives a session secret. -/
  | keyCreateSessionAttested (d : Nat) (ok : Bool) (root blocks : List Byte)
  /-- KEY_CREATE_WEIGHT (R576). KEY_CREATE of kind WEIGHT checks a sealed key record and unwraps K_w into a slot. -/
  | keyCreateWeight (d : Nat)
  /-- KEY_RETIRE (R582). Puts a non-memory slot into RETIRING and completes when it is FREE. -/
  | keyRetire (d : Nat)
  /-- RETIREMENT_DRAINED (R568). No handle remains on a RETIRING slot; sessions close, lines invalidate and the slot is zeroised. -/
  | retirementDrained (i : Nat)
  /-- RETIREMENT_CAP (R568). CAP_MS passes and operations still holding the slot are stopped E_RETIRED. -/
  | retirementCap (i : Nat) (unf : List Nat)
  /-- SESSION_BIND (R582). Binds a session index on a link to a session slot's tenant and handle. -/
  | sessionBind (d : Nat)
  /-- SESSION_UNBIND (R582). SESSION_BIND with UNBIND closes and unbinds a session index. -/
  | sessionUnbind (d : Nat)
  /-- WRAP_PROVISION (R574). WEIGHT_ADMIN generates the wrapping key in the backup-cell key SRAM. -/
  | wrapProvision (d : Nat)
  /-- WRAP_INFO (R575). WEIGHT_ADMIN writes the signed sealing-key record. -/
  | wrapInfo (d : Nat)
  /-- RELEASE (R579). WEIGHT_ADMIN verifies weight chunks and sends their plaintext into an attested session. -/
  | weightRelease (d : Nat)
  /-- ENTER_S3 (R600). CK_PWR_CTL ENTER_S3 drains, checks, saves state and turns the loops off into S3. -/
  | enterS3 (p : Port) (unf : List Nat)
  /-- S3_DRAIN_TIMEOUT (R600). Descriptors still in flight after 100 ms refuse the S3 entry with BUSY. -/
  | s3DrainTimeout (unf : List Nat)
  /-- ENTER_S5 (R606). CK_PWR_CTL ENTER_S5 stops the device, zeroises keys and turns off the loops until cold reset. -/
  | enterS5 (p : Port) (unf : List Nat)
  /-- EXIT_S3 (R603). CK_PWR_CTL EXIT_S3 from the BMC starts S3 exit. -/
  | exitS3 (p : Port)
  /-- WAKE_N_EVENT (R696). WAKE_N low for 10 µs is a wake event in S3, or cancels an S3 entry before links disable. -/
  | wakeNEvent
  /-- S3_TIMER_EXPIRED (R603). CK_S3_TIMER expires and S3 exit starts. -/
  | s3TimerExpired
  /-- S3_EXIT (R604). The device powers up, restores keys, training and state, and resumes service. -/
  | s3Exit (bad : List Nat)
  /-- ENGINE_IDLE_GATE (R590). A catalog, placement or projection domain idle for ENG_US is clock-gated. -/
  | engineIdleGate (k : Nat)
  /-- DOMAIN_WAKE (R587). A transfer into a stopped domain raises its wake and completes after it. -/
  | domainWake (k : Nat)
  /-- FABRIC_SLOW (R590). With all clusters OFF, memory in self-refresh and no descriptor, the fabric drops to 400 MHz. -/
  | fabricSlow
  /-- CLUSTER_CLOCK_CHANGE (R595). A cluster changes clock, raising voltage first or lowering it after. -/
  | clusterClockChange (k : Nat)
  /-- PLL_LOCK_LOSS (R610). A domain's PLL loses lock and the device answers per Table 18.8. -/
  | pllLockLoss (k : Nat) (unf : List Nat)
  /-- PLL_RELOCK (R610). A relock attempt of a catalog, placement, projection or time PLL ends. -/
  | pllRelock (k : Nat) (ok : Bool)
  /-- REF_LOST (R611). A missing 25 MHz reference turns the loops off and holds until cold reset. -/
  | refLost
  /-- CONTROL_SAMPLE (R621). Every 625 ns a loop computes its compensator, balance trims and phase count. -/
  | controlSample (k : Nat) (b : List Bool) (ph : List Int)
  /-- PHASE_SHED (R633). Eight consecutive plausibility failures shed a phase for a fault. -/
  | phaseShed (p : Nat)
  /-- STAGE_FAULT (R637). FAULT_N low for 200 ns or 2 samples of overcurrent shed the phase. -/
  | stageFault (p : Nat) (low : Bool)
  /-- PLAUS_LOOP (R634). Eight failing output checks fault the loop with PLAUS_LOOP. -/
  | plausLoop (k : Nat) (unf : List Nat)
  /-- FOLLOW (R635). A following error above LIMIT for TIME faults the loop. -/
  | follow (k : Nat) (unf : List Nat)
  /-- OV_UV (R636). Two samples beyond the OV or UV margin fault the loop. -/
  | ovUv (k : Nat) (unf : List Nat)
  /-- RAMP_TO_REG (R625). The output within 1 % for 16 samples moves the loop from RAMP to REG. -/
  | rampToReg (k : Nat) (outs : List Int) (next : Nat)
  /-- LOAD_MODEL_UPDATE (R639). Every 10 µs phase thermal models, hotspot models and capacity are recomputed. -/
  | loadModelUpdate (unf : List Nat)
  /-- CAPACITY (R643). Current above capacity for 100 µs faults the loop with CAPACITY. -/
  | capacity (k : Nat) (unf : List Nat)
  /-- THERM_CAP_STEP (R645). The clock cap falls 50 MHz every 100 µs while hot, or rises every 1 ms once cool. -/
  | thermCapStep
  /-- TMON_READ (R619). Every 1 ms TMON inputs are read and open inputs marked. -/
  | tmonRead (p mv : Nat)
  /-- VIN_READ (R619). Every 100 µs VIN_SENSE is read. -/
  | vinRead (mv : Nat)
  /-- THERMISTOR_CONVERSION (R620). Every 1 ms each thermistor is converted with an open-detect pulse. -/
  | thermistorConversion (t uv rise : Nat)
  /-- THERMISTOR_OPEN_TIMEOUT (R640). A thermistor open for 1 s is replaced by 85 °C in the models. -/
  | thermistorOpenTimeout (t : Nat)
  /-- VSET_INVALID (R632). A VSET_PWM input with no edge for 50 µs, or too fast, becomes invalid and the setpoint is kept. -/
  | vsetInvalid (i : Nat)
  /-- DCR_MEASURE (R646). Once a second DCR is measured at steady load and compared with calibration. -/
  | dcrMeasure (p dcr : Nat)
  /-- GAIN_WARN (R646). A balance trim above the GAIN threshold for 1 s sets GAIN_WARN. -/
  | gainWarn (p : Nat)
  /-- START (R630). PW_L_CTL START ramps the loop from its measured output, or is refused. -/
  | loopStart (p : Port) (k vout : Nat) (bad : List (Nat × Nat))
  /-- STOP (R628). PW_L_CTL STOP turns the loop OFF, or is refused. -/
  | loopStop (p : Port) (k : Nat)
  /-- CLEAR (R625). PW_L_CTL CLEAR returns a FAULT loop to OFF. -/
  | loopClear (p : Port) (k : Nat)
  /-- REINSTATE (R647). PW_P_CTL REINSTATE returns a shed phase to service while its loop is OFF. -/
  | reinstate (p : Port) (ph : Nat)
  /-- PWR_FAULT (R649). PWR_FAULT_N low for 1 µs turns every loop off and HELD. -/
  | pwrFault
  /-- PWR_FAULT_RELEASE (R649). PWR_FAULT_N high for 10 ms sets RETRY_WAIT. -/
  | pwrFaultRelease
  /-- RETRY (R650). PW_CTL RETRY starts the power-up sequence, or is ignored. -/
  | railRetry (p : Port)
  /-- POWER_UP_SEQUENCE (R680). Loops come up in order 0, 2, 7, 6, 5, 3, 4, 1 from the calibration set. -/
  | powerUpSequence (vouts : List Nat) (dies : List Int)
  /-- POWER_UP_LOOP_TIMEOUT (R683). A loop not in REG within 1 ms ends the run and the loops turn off. -/
  | powerUpLoopTimeout
  /-- POWER_UP_RETRY_DELAY (R683). 100 ms after a failed run the power-up sequence runs again, at most twice more. -/
  | powerUpRetryDelay (vouts : List Nat)
  /-- LOCK_BREAK (R672). A lock held beyond LOCK_WD is broken and its holding core halted. -/
  | lockBreak (k lock : Nat) (serving : List Nat)
  /-- CORE_HANG (R673). A core without heartbeat for HANG_WD is halted. -/
  | coreHang (k : Nat) (serving : List Nat)
  /-- CORE_RELOAD (R674). A halted core reloads and returns to service. -/
  | coreReload (k : Nat) (ok : Bool)
  /-- FATAL_ERROR (R663). A FATAL error writes the ring and fatal store, drives ALERT_N and takes its fatal action. -/
  | fatalError (kind inst rkind rtype rinst : Nat)
  /-- FATAL_RESET_DELAY (R663). 1 ms after a RESET fatal record, the device reset is raised. -/
  | fatalResetDelay
  /-- RECOVERY_QUEUED_START (R658). A running recovery ends and a queued recovery of the unit starts. -/
  | recoveryQueuedStart (utype inst : Nat)
  /-- ER_RPTR_WRITE (R667). A write of ER_RPTR marks records read, or is ignored if outside the ring. -/
  | erRptrWrite (p : Port) (v : Nat)
  /-- ACK (R665). ER_PREV_CTL ACK clears the fatal store. -/
  | fatalAck (p : Port)
  /-- COLD_RESET (R682). Valid always-on supplies and a running reference begin cold reset. -/
  | coldReset
  /-- DEVICE_RESET (R762). A device reset clears every block and passes through boot again without the power-up sequence. -/
  | deviceReset
  /-- MEM_GO (R686). TOP_BOOT_CTL.MEM_GO starts memory training with the header values for unwritten fields. -/
  | memGo (p : Port)
  /-- HOT_READY (R687). HBM3E stacks are trained and in service. -/
  | hotReady (unfixed : List (Nat × Nat × Nat))
  /-- POOL_READY (R692). DDR5 channels are trained and the carve-out initialised; POOL_READY or NO_POOL sets. -/
  | poolReady
  /-- CAL_WRITE (R703). Judges a new calibration set and, if valid, writes it to flash in the background. -/
  | calWrite (d : Nat) (bytes : List Byte)
  /-- CAL_WRITE_READBACK (R704). CAL_WRITE with READBACK copies the set in flash to a buffer. -/
  | calWriteReadback (d : Nat)
  /-- CAL_FLASH_WRITE_DONE (R703). The background calibration flash write ends DONE or FAILED. -/
  | calFlashWriteDone (ok : Bool)
  /-- RESET (R718). DEVICE_ADMIN RESET sets RESET_PENDING and raises a device reset 1 ms after completion, or is refused. -/
  | adminReset (d : Nat)
  /-- ADMIN_RESET_DELAY (R718). 1 ms after the RESET completion, the device reset is raised. -/
  | adminResetDelay
  /-- HEADER_WRITE (R723). DEVICE_ADMIN HEADER_WRITE checks a new boot header and writes it to flash in the background. -/
  | headerWrite (d : Nat) (bytes : List Byte)
  /-- HEADER_FLASH_WRITE_DONE (R724). The boot-header flash write ends DONE or FAILED. -/
  | headerFlashWriteDone (ok : Bool)
  /-- HEADER_READ (R726). DEVICE_ADMIN HEADER_READ copies the header block to a buffer. -/
  | headerRead (d : Nat)
  /-- BROWN_OUT (R730). An always-on supply below its brown-out level for 2 µs turns off the phases and holds reset. -/
  | brownOut
  /-- THERMAL_WARNING (R744). A die, stack or DIMM sensor rising through its warning level sets IR_EVT_STATUS.THERMAL. -/
  | thermalWarning (src : Nat) (fell : List Nat)
  /-- THERMTRIP (R745). A die sensor or stack at its trip level drives THERMTRIP_N low and raises a fatal loop-0 fault. -/
  | thermtrip (src : Nat)
  /-- RECOVERY_RETRAINED (R406). A link in RECOVERY finishes retraining its PHY within 10 ms, returns to its previous state and resumes with a LINK_CTL exchange and replay. -/
  | recoveryRetrained (l good : Nat)
  /-- PJ_U_SELF_TEST_DONE (R279). The memory self-test started by PJ_U_CTL.RETURN ends, and a pass clears the unit's OUT. -/
  | pjUSelfTestDone (u : Nat) (pass : Bool)
  /-- INJECTION_DONE (R370). The read, correction and patterned write-back of an injection finishes and SI_INJ_STATUS.LAST goes from BUSY to DONE. -/
  | injectionDone
  /-- CONFIG_SEND (R408). Every 1 µs in CONFIG each side sends a CONFIG flit, setting CONFIG_ACK once the other side's CONFIG has arrived. -/
  | configSend (l : Nat)
  /-- VSET_PWM_VALID (R631). A VSET_PWM input that was invalid shows 4 good periods in range, becomes valid again, and the loop slews to the new target. -/
  | vsetPwmValid (i : Nat) (ps : List (Nat × Nat))
  /-- BATT_LOW (R537). While the main rails are up, the cell voltage falls below 2.5 V and BATT_LOW sets in the event register without an alarm. -/
  | battLow
  /-- VBAT_LOST (R543). The backup-cell domain loses all power, losing class P, the fatal store and the counter, and the tamper configuration returns to its default. -/
  | vbatLost
  /-- TAMPER_INPUT_RELEASE (R539). A tamper input that was active stays inactive for 3 samples and is re-armed, so a later activity is recognised again. -/
  | tamperInputRelease (i : Nat) (levels : List Bool)
  deriving DecidableEq, Repr

end Sys2Proof
end

