-- ==== Sys2Proof/Decode.lean ====
section
/-!
DEFINITION. Words of the opcode table. The table gives no row any bits, so no word spells a command; entries, flits and messages are read by
the meanings that take them (Entry.ofBytes, the flit and message readers).
-/
namespace Sys2Proof

/-- The command that a table word spells: none, for every word. -/
def decodeTableWord (_nbits _w : Nat) : Option Instr := none

end Sys2Proof
end

