-- ==== Sys2Proof/Machine/CalSet.lean ====
section
/-!
DEFINITION. The calibration set as its fields: what the always-on domain and the control firmware take from boot flash.
-/
namespace Sys2Proof.Machine

/-! ## Calibration (Bring-Up and Calibration) -/

/-- A loop's entry of the calibration set (Table 21.6 TYPE 1): the seven coefficients as Q4.20 codes, the fields of its
registers, R_die, die time constant (ms), path resistance, boot and TABLE setpoints (0.25 mV). -/
structure CalLoop where
  coef : List Nat := [0, 0, 0, 0, 0, 0, 0]
  order : Nat := 0
  minphase : Nat := 0
  nmin : Nat := 1
  shed : Nat := 240
  dmax : Nat := 2048
  followLimit : Nat := 25
  followTime : Nat := 20
  ov : Nat := 50
  uv : Nat := 50
  slew : Nat := 10
  warn : Nat := 760
  trip : Nat := 880
  rDie : Nat := 0
  tau : Nat := 1
  rPath : Nat := 0
  boot : Nat := 0
  table : Nat := 0
  deriving DecidableEq, Repr, Inhabited

/-- A phase's entry (TYPE 2): fitted, IMON gain (in 0.1 mV/A) and offset (mV), TMON gain and offset, current limits (1/16 A), DCR25
(µΩ), the constants of its thermal model. -/
structure CalPhase where
  fitted : Bool := true
  imonGain : Nat := 50
  imonOff : Int := 0
  tmonGain : Nat := 80
  tmonOff : Int := 600
  ilimMax : Nat := 640
  ilim : Nat := 640
  dcr : Nat := 200
  k : List Nat := [1, 1, 1]
  thermal : List Nat := [1, 1, 1, 1, 1]
  deriving DecidableEq, Repr, Inhabited

/-- A calibration set: loops, phases, DVFS voltages of loop 0 (1.6 GHz, 400 MHz) and of loop 1 with cluster wake currents
(600 to 1,250 MHz by 50), thermistors (fitted, R26 in Ω, B in K), PLDM thresholds (sensor, warning, critical), TIME_LAT trim
per link (ns). -/
structure CalSet where
  loops : List CalLoop := []
  phases : List CalPhase := []
  dvfs0 : List Nat := []
  dvfs1 : List (Nat × Nat) := []
  therm : List (Bool × Nat × Nat) := []
  limits : List (Nat × Nat × Nat) := []
  trims : List Int := []
  deriving DecidableEq, Repr, Inhabited

end Sys2Proof.Machine
end

