-- ==== Sys2Proof/Config.lean ====
section
/-!
DEFINITION. What one implementation fixes and the free values: constants without a body, which nothing in Lean can
evaluate, for each value that the spec leaves open.
-/
namespace Sys2Proof.Config

open Sys2Proof.Machine

/-- FREE VALUE (log entry 6). The FP32 code that the exponent unit returns for an FP32 code: the spec bounds its error and
does not give the value (R206). -/
opaque expUnit : Nat → Nat

/-- FREE VALUE (log entry 7). The scale of a QUANTIZE with SCALE_MODE 2 whose source gives none (R223 states none for a
source of zeros, NaN or infinities), by the two format codes and the source bytes (R209), as an FP32 code. -/
opaque quantScale : Nat → Nat → List Byte → Word

/-- FREE VALUE (log entry 112). The version of the kernel library (major, minor, patch) that a control image of this VERSION carries
(R192). -/
opaque klibVersion : Nat → Word

/-- FREE VALUE (log entry 8). Word `w` of the result of a SCRUB_CTL that names all targets, whose progress and passes the spec
states for one target only (Table 11.10). -/
opaque scrubAll : Nat → Nat → Word

/-- FREE VALUE (log entry 118). What the decoder makes of a DDR5 codeword in which two or more devices are wrong (device, inverted bits): 0 a failure, 1
the poison syndrome, 2 + n a miscorrection that names device n modulo 10 (R341, R342). -/
opaque codeword : List (Nat × Nat) → Nat

/-- FREE VALUE (log entry 118). What the decoder makes of an HBM3E word in which three or more bits are inverted: 0 a failure, 1 the poison syndrome, 2
a miscorrection, modulo 3 (R341, R342). -/
opaque hammingWord : List (Nat × Nat) → Nat

/-- FREE VALUE (log entry 118). The 64 bytes that a miscorrected line delivers, by its bytes and what is wrong in them (R341). -/
opaque miscorrected : List Byte → LineErr → List Byte

/-- FREE VALUE (log entry 119). Byte `i` of the `n`-th draw of the random number generator that stays in the device: a secret (R558). -/
opaque secretByte : Nat → Nat → Byte

/-- FREE VALUE (log entry 126). The 48 bytes of the export master secret of an SPDM session, by the draw at which it ends (R564, R566). -/
opaque exportByte : Nat → Nat → Byte

/-- FREE VALUE (log entry 10). The `n`-th draw of the random number generator that leaves the device in the clear: a
nonce. -/
opaque nonce : Nat → Nat

/-- FREE VALUE (log entry 122). Byte `i` of the lane alignment markers at a rate and width, in place of the flits of their codeword pair: the patterns
are those of IEEE 802.3, which the spec does not state (R380). -/
opaque marker : Nat → Nat → Nat → Byte

/-- FREE VALUE (log entry 11). LK_L_TIME_LAT at a rate: the table says rate-dependent and gives no value. -/
opaque timeLat : Nat → Word

/-- FREE VALUE (log entry 12). The rate correction, in ppm, that a steering exchange chooses (R438 bounds it). -/
opaque steer : Nat → Int

/-- FREE VALUE (log entry 14). The private scalar of the sealing pair that a wrapping key gives (R574): the spec names the label of the derivation and not
its steps. -/
opaque sealScalar : List Byte → Nat

/-- FREE VALUE (log entry 15). A signature that the RTP makes: the bytes of the `n`-th draw. -/
opaque signature : Nat → List Byte

/-- FREE VALUE (log entry 17). The UUID that Get Endpoint UUID returns: the spec names the command and gives no value. -/
opaque uuid : List Byte

/-- FREE VALUE (log entry 18). The version number that the endpoint reports for an MCTP message type (0 to 0xFF) or, from 0x100 on, for a
PLDM type: the spec gives none beyond MCTP 1.3. -/
opaque stdVersion : Nat → Nat

/-- FREE VALUE (log entry 19). The bytes of the slot-0 certificate chain by the DeviceID and the Alias public key (R528): certificates of a store that the
spec does not give, and the Alias certificate. -/
opaque certChain : List Byte → List Byte → List Byte

/-- FREE VALUE (log entry 20). The digest of the boot ROM (Table 16.5). -/
opaque romDigest : List Byte

/-- FREE VALUE (log entry 20). The digest of the image that a slot holds when the device is shipped. -/
opaque imageDigest : Nat → List Byte

/-- FREE VALUE (log entry 21). Contents of a CXL mailbox answer that the spec leaves to the CXL specification, by opcode and draw
(event records, health information). -/
opaque cxlInfo : Nat → Nat → List Byte

/-- FREE VALUE (log entry 22). Byte `i` of the UDS that the `n`-th draw of the random number generator gives: a secret (R532). -/
opaque udsByte : Nat → Nat → Byte

/-- FREE VALUE (log entry 22). The DeviceID public key (97 B) by the UDS and the digest of the boot ROM (R526): the spec names the label of the derivation
and not its steps. -/
opaque devicePublic : List Byte → List Byte → List Byte

/-- FREE VALUE (log entry 22). The Alias public key (97 B) by the CDI (R526). -/
opaque aliasPublic : List Byte → List Byte

/-- FREE VALUE (log entry 149). Byte `i` of the RTP's private SRAM that debug has not written, by the draw at which it is read: the spec gives no
contents (R516). -/
opaque rtpByte : Nat → Nat → Byte

/-- FREE VALUE (log entry 23). The nominal calibration values that the spec leaves to the control firmware (R701): compensators, setpoints,
thermal constants. -/
opaque nominalCal : CalSet

/-- FREE VALUE (log entry 24). The fields of a calibration set's section bodies: Table 21.6 names them and gives no byte layout. -/
opaque calFields : List Byte → CalSet

/-- FREE VALUE (log entry 24). The body length of sections 3, 4 and 5 of a calibration set (R700 check 3). -/
opaque calLength : Nat → Nat

/-- FREE VALUE (log entry 25). What one control sample adds to a phase's balance trim (duty / 2^20) for the difference of its current from
the mean (1/16 A): R623 gives no gain. -/
opaque trimStep : Int → Int

/-- FREE VALUE (log entry 127). Tap `i` of the minimum-phase FIR filter, or of one half of the linear-phase filter, whose taps are symmetric, in 2^-40 V
for each unit of the CIC filter's output (R616). -/
opaque firTap : Bool → Nat → Int

/-- FREE VALUE (log entry 127). The model current of a phase (1/16 A) by its compare value (1/8,192), VIN (mV), the loop output (2^-20 V), the DCR estimate
(µΩ) and the temperature of node L (1/8 °C) (R633). -/
opaque phaseModel : Nat → Nat → Int → Nat → Int → Int

/-- FREE VALUE (log entry 127). Nodes S and L (1/8 °C) 10 µs on, by the phase's constants, T_s, T_l, T_b and the powers P_s and P_l in µW: the spec gives the
equations and not how they are integrated (R639). -/
opaque nodeStep : CalPhase → Int → Int → Int → Int → Int → Int × Int

/-- FREE VALUE (log entry 127). The die-hotspot model (1/8 °C) 10 µs on, by the loop's constants, its value, T_b and the loop's power in mW (R641). -/
opaque hotStep : CalLoop → Int → Int → Int → Int

/-- FREE VALUE (log entry 26). The bytes of the calibration set that boot flash holds at reset; its fields are those of
State.reset. -/
opaque factoryCal : List Byte

/-- FREE VALUE (log entry 28). What the `n`-th write of boot flash that is cut leaves in its region (R720). -/
opaque cutFlash : Nat → List Byte

/-- FREE VALUE (log entry 28). The check of R700 and the section that such a calibration region fails. -/
opaque cutFault : Nat → Nat × Nat

/-- FREE VALUE (log entry 29). The fuse rows that are written before the device is shipped: ROOT_HASH0, ROOT_HASH1, VENDOR_DEBUG_HASH
(0, 1, 3), and OWNER_HASH (4) of the device at reset, which is DEPLOYED. -/
opaque fuseHash : Nat → List Byte

/-- FREE VALUE (log entry 29). An entry of the REDUNDANCY row that has been programmed: the spec gives no layout of a repair entry. -/
opaque redundancy : Nat → Word

/-- FREE VALUE (log entry 30). The clock of the PCIe core domain in MHz at a link rate of HP_STATUS.RATE: Table 18.1 says it is set by the
link rate and gives no value. -/
opaque pcieMhz : Nat → Nat

/-- FREE VALUE (log entry 27). The temperature (1/8 °C) of a thermistor with R26, B and resistance in Ω (R736). -/
opaque thermTemp : Nat → Nat → Nat → Int

/-- FREE VALUE (log entry 131). The code of the kernel of an opcode in the kernel library of a control image VERSION (R248). -/
opaque kernelCode : Nat → Nat → List Byte

/-- FREE VALUE (log entry 128). The taps of the 15-bit LFSR of a tamper mesh and its value when the backup-cell domain starts (R536). -/
opaque meshTaps : BitVec 15
opaque meshStart : BitVec 15

end Sys2Proof.Config
end

