-- ==== Sys2Proof/Machine/Sha.lean ====
section
/-!
DEFINITION. The SHA-256 digest that the spec names (R277, R421, R527, R574), over lists of bytes. Words are numbers below 2^32.
-/
namespace Sys2Proof.Machine

/-- The round constants: the first 32 fraction bits of the cube roots of the first 64 primes. -/
def shaK : List Nat :=
  [0x428A2F98, 0x71374491, 0xB5C0FBCF, 0xE9B5DBA5, 0x3956C25B, 0x59F111F1, 0x923F82A4, 0xAB1C5ED5] ++
  [0xD807AA98, 0x12835B01, 0x243185BE, 0x550C7DC3, 0x72BE5D74, 0x80DEB1FE, 0x9BDC06A7, 0xC19BF174] ++
  [0xE49B69C1, 0xEFBE4786, 0x0FC19DC6, 0x240CA1CC, 0x2DE92C6F, 0x4A7484AA, 0x5CB0A9DC, 0x76F988DA] ++
  [0x983E5152, 0xA831C66D, 0xB00327C8, 0xBF597FC7, 0xC6E00BF3, 0xD5A79147, 0x06CA6351, 0x14292967] ++
  [0x27B70A85, 0x2E1B2138, 0x4D2C6DFC, 0x53380D13, 0x650A7354, 0x766A0ABB, 0x81C2C92E, 0x92722C85] ++
  [0xA2BFE8A1, 0xA81A664B, 0xC24B8B70, 0xC76C51A3, 0xD192E819, 0xD6990624, 0xF40E3585, 0x106AA070] ++
  [0x19A4C116, 0x1E376C08, 0x2748774C, 0x34B0BCB5, 0x391C0CB3, 0x4ED8AA4A, 0x5B9CCA4F, 0x682E6FF3] ++
  [0x748F82EE, 0x78A5636F, 0x84C87814, 0x8CC70208, 0x90BEFFFA, 0xA4506CEB, 0xBEF9A3F7, 0xC67178F2]

/-- The initial digest: the first 32 fraction bits of the square roots of the first eight primes. -/
def shaInit : List Nat :=
  [0x6A09E667, 0xBB67AE85, 0x3C6EF372, 0xA54FF53A, 0x510E527F, 0x9B05688C, 0x1F83D9AB, 0x5BE0CD19]

/-- A 32-bit word rotated right. -/
def ror (x n : Nat) : Nat := x / 2 ^ n + x % 2 ^ n * 2 ^ (32 - n)

/-- The two functions of the message schedule. -/
def shaSmall0 (x : Nat) : Nat := ror x 7 ^^^ ror x 18 ^^^ x / 2 ^ 3
def shaSmall1 (x : Nat) : Nat := ror x 17 ^^^ ror x 19 ^^^ x / 2 ^ 10

/-- The message schedule, newest word first, extended by `n` words. -/
def shaExtend : Nat → List Nat → List Nat
  | 0, w => w
  | n + 1, w =>
    shaExtend n ((shaSmall1 (w.getD 1 0) + w.getD 6 0 + shaSmall0 (w.getD 14 0) + w.getD 15 0) % 2 ^ 32 :: w)

/-- The eight working words. -/
structure ShaWords where
  a : Nat
  b : Nat
  c : Nat
  d : Nat
  e : Nat
  f : Nat
  g : Nat
  h : Nat
  deriving DecidableEq, Repr

/-- One round with its constant and schedule word. -/
def shaRound (x : ShaWords) (kw : Nat × Nat) : ShaWords :=
  let s1 := ror x.e 6 ^^^ ror x.e 11 ^^^ ror x.e 25
  let ch := (x.e &&& x.f) ^^^ ((2 ^ 32 - 1 - x.e) &&& x.g)
  let t1 := x.h + s1 + ch + kw.1 + kw.2
  let s0 := ror x.a 2 ^^^ ror x.a 13 ^^^ ror x.a 22
  let maj := (x.a &&& x.b) ^^^ (x.a &&& x.c) ^^^ (x.b &&& x.c)
  { a := (t1 + s0 + maj) % 2 ^ 32, b := x.a, c := x.b, d := x.c, e := (x.d + t1) % 2 ^ 32, f := x.e, g := x.f, h := x.g }

/-- Big-endian words of bytes. -/
def beWords (n : Nat) (b : List Byte) : List Nat :=
  (List.range n).map (fun i => ((b.drop (4 * i)).take 4).foldl (fun m x => m * 256 + x.toNat) 0)

/-- One 64-byte block. -/
def shaBlock (h : List Nat) (b : List Byte) : List Nat :=
  let w := (shaExtend 48 (beWords 16 b).reverse).reverse
  let x : ShaWords := {
    a := h.getD 0 0, b := h.getD 1 0, c := h.getD 2 0, d := h.getD 3 0, e := h.getD 4 0, f := h.getD 5 0, g := h.getD 6 0, h := h.getD 7 0 }
  let y := (shaK.zip w).foldl shaRound x
  (h.zip [y.a, y.b, y.c, y.d, y.e, y.f, y.g, y.h]).map (fun p => (p.1 + p.2) % 2 ^ 32)

/-- The big-endian bytes of a number. -/
def beBytes (n v : Nat) : List Byte := (leBytes n v).reverse

/-- The padded message. -/
def shaPad (b : List Byte) : List Byte :=
  b ++ [0x80] ++ List.replicate ((119 - b.length % 64) % 64) 0 ++ beBytes 8 (8 * b.length)

/-- The blocks of a padded message, taken one after another. -/
def shaBlocks : Nat → List Nat → List Byte → List Nat
  | 0, h, _ => h
  | n + 1, h, b => shaBlocks n (shaBlock h (b.take 64)) (b.drop 64)

/-- The SHA-256 digest: 32 bytes. -/
def sha256 (b : List Byte) : List Byte :=
  let p := shaPad b
  ((shaBlocks (p.length / 64) shaInit p).map (beBytes 4)).flatten

end Sys2Proof.Machine
end

