-- ==== Sys2Proof/Machine/Crypto.lean ====
section
/-!
DEFINITION. The algorithms of keys, memory and sessions that the spec names: SHA-384, HMAC and HKDF (R558, R563), AES-256 (R559), CMAC (R560), XTS
(R559), GCM (R395, R576, R577), over lists of bytes.
-/
namespace Sys2Proof.Machine

/-! ## SHA-384 -/

/-- The round constants: the first 64 fraction bits of the cube roots of the first 80 primes. -/
def sha512K : List Nat :=
  [0x428A2F98D728AE22, 0x7137449123EF65CD, 0xB5C0FBCFEC4D3B2F, 0xE9B5DBA58189DBBC] ++
  [0x3956C25BF348B538, 0x59F111F1B605D019, 0x923F82A4AF194F9B, 0xAB1C5ED5DA6D8118] ++
  [0xD807AA98A3030242, 0x12835B0145706FBE, 0x243185BE4EE4B28C, 0x550C7DC3D5FFB4E2] ++
  [0x72BE5D74F27B896F, 0x80DEB1FE3B1696B1, 0x9BDC06A725C71235, 0xC19BF174CF692694] ++
  [0xE49B69C19EF14AD2, 0xEFBE4786384F25E3, 0x0FC19DC68B8CD5B5, 0x240CA1CC77AC9C65] ++
  [0x2DE92C6F592B0275, 0x4A7484AA6EA6E483, 0x5CB0A9DCBD41FBD4, 0x76F988DA831153B5] ++
  [0x983E5152EE66DFAB, 0xA831C66D2DB43210, 0xB00327C898FB213F, 0xBF597FC7BEEF0EE4] ++
  [0xC6E00BF33DA88FC2, 0xD5A79147930AA725, 0x06CA6351E003826F, 0x142929670A0E6E70] ++
  [0x27B70A8546D22FFC, 0x2E1B21385C26C926, 0x4D2C6DFC5AC42AED, 0x53380D139D95B3DF] ++
  [0x650A73548BAF63DE, 0x766A0ABB3C77B2A8, 0x81C2C92E47EDAEE6, 0x92722C851482353B] ++
  [0xA2BFE8A14CF10364, 0xA81A664BBC423001, 0xC24B8B70D0F89791, 0xC76C51A30654BE30] ++
  [0xD192E819D6EF5218, 0xD69906245565A910, 0xF40E35855771202A, 0x106AA07032BBD1B8] ++
  [0x19A4C116B8D2D0C8, 0x1E376C085141AB53, 0x2748774CDF8EEB99, 0x34B0BCB5E19B48A8] ++
  [0x391C0CB3C5C95A63, 0x4ED8AA4AE3418ACB, 0x5B9CCA4F7763E373, 0x682E6FF3D6B2B8A3] ++
  [0x748F82EE5DEFB2FC, 0x78A5636F43172F60, 0x84C87814A1F0AB72, 0x8CC702081A6439EC] ++
  [0x90BEFFFA23631E28, 0xA4506CEBDE82BDE9, 0xBEF9A3F7B2C67915, 0xC67178F2E372532B] ++
  [0xCA273ECEEA26619C, 0xD186B8C721C0C207, 0xEADA7DD6CDE0EB1E, 0xF57D4F7FEE6ED178] ++
  [0x06F067AA72176FBA, 0x0A637DC5A2C898A6, 0x113F9804BEF90DAE, 0x1B710B35131C471B] ++
  [0x28DB77F523047D84, 0x32CAAB7B40C72493, 0x3C9EBE0A15C9BEBC, 0x431D67C49C100D4C] ++
  [0x4CC5D4BECB3E42B6, 0x597F299CFC657E2A, 0x5FCB6FAB3AD6FAEC, 0x6C44198C4A475817]

/-- The initial digest: the first 64 fraction bits of the square roots of the ninth to sixteenth primes. -/
def sha384Init : List Nat :=
  [0xCBBB9D5DC1059ED8, 0x629A292A367CD507, 0x9159015A3070DD17, 0x152FECD8F70E5939] ++
  [0x67332667FFC00B31, 0x8EB44A8768581511, 0xDB0C2E0D64F98FA7, 0x47B5481DBEFA4FA4]

/-- A 64-bit word rotated right. -/
def ror64 (x n : Nat) : Nat := x / 2 ^ n + x % 2 ^ n * 2 ^ (64 - n)

/-- The message schedule, newest word first, extended by `n` words. -/
def sha512Extend : Nat → List Nat → List Nat
  | 0, w => w
  | n + 1, w =>
    let a := w.getD 1 0
    let b := w.getD 14 0
    let s1 := ror64 a 19 ^^^ ror64 a 61 ^^^ a / 2 ^ 6
    let s0 := ror64 b 1 ^^^ ror64 b 8 ^^^ b / 2 ^ 7
    sha512Extend n ((s1 + w.getD 6 0 + s0 + w.getD 15 0) % 2 ^ 64 :: w)

/-- One round with its constant and schedule word. -/
def sha512Round (x : ShaWords) (kw : Nat × Nat) : ShaWords :=
  let s1 := ror64 x.e 14 ^^^ ror64 x.e 18 ^^^ ror64 x.e 41
  let ch := (x.e &&& x.f) ^^^ ((2 ^ 64 - 1 - x.e) &&& x.g)
  let t1 := x.h + s1 + ch + kw.1 + kw.2
  let s0 := ror64 x.a 28 ^^^ ror64 x.a 34 ^^^ ror64 x.a 39
  let maj := (x.a &&& x.b) ^^^ (x.a &&& x.c) ^^^ (x.b &&& x.c)
  { a := (t1 + s0 + maj) % 2 ^ 64, b := x.a, c := x.b, d := x.c, e := (x.d + t1) % 2 ^ 64, f := x.e, g := x.f, h := x.g }

/-- A big-endian number of bytes. -/
def beNat (b : List Byte) : Nat := b.foldl (fun m x => m * 256 + x.toNat) 0

/-- One 128-byte block. -/
def sha512Block (h : List Nat) (b : List Byte) : List Nat :=
  let m := (List.range 16).map (fun i => beNat ((b.drop (8 * i)).take 8))
  let w := (sha512Extend 64 m.reverse).reverse
  let x : ShaWords := {
    a := h.getD 0 0, b := h.getD 1 0, c := h.getD 2 0, d := h.getD 3 0, e := h.getD 4 0, f := h.getD 5 0, g := h.getD 6 0, h := h.getD 7 0 }
  let y := (sha512K.zip w).foldl sha512Round x
  (h.zip [y.a, y.b, y.c, y.d, y.e, y.f, y.g, y.h]).map (fun p => (p.1 + p.2) % 2 ^ 64)

/-- The blocks of a padded message, taken one after another. -/
def sha512Blocks : Nat → List Nat → List Byte → List Nat
  | 0, h, _ => h
  | n + 1, h, b => sha512Blocks n (sha512Block h (b.take 128)) (b.drop 128)

/-- The SHA-384 digest: 48 bytes. -/
def sha384 (b : List Byte) : List Byte :=
  let p := b ++ [0x80] ++ List.replicate ((239 - b.length % 128) % 128) 0 ++ beBytes 16 (8 * b.length)
  (((sha512Blocks (p.length / 128) sha384Init p).map (beBytes 8)).flatten).take 48

/-- HMAC-SHA-384. -/
def hmac384 (key msg : List Byte) : List Byte :=
  let k := if 128 < key.length then sha384 key else key
  let k := k ++ List.replicate (128 - k.length) 0
  sha384 (k.map (· ^^^ 0x5C) ++ sha384 (k.map (· ^^^ 0x36) ++ msg))

/-- The blocks of HKDF-Expand from block `i` on. -/
def hkdfBlocks (prk info : List Byte) : Nat → Nat → List Byte → List Byte
  | 0, _, _ => []
  | n + 1, i, t =>
    let u := hmac384 prk (t ++ info ++ [BitVec.ofNat 8 i])
    u ++ hkdfBlocks prk info n (i + 1) u

/-- HKDF-Expand with SHA-384: `n` bytes. -/
def hkdfExpand (prk info : List Byte) (n : Nat) : List Byte := (hkdfBlocks prk info ((n + 47) / 48) 1 []).take n

/-- HKDF with SHA-384: `n` bytes. -/
def hkdf384 (ikm salt info : List Byte) (n : Nat) : List Byte := hkdfExpand (hmac384 salt ikm) info n

/-- The characters of a label as bytes. -/
def ascii (s : String) : List Byte := s.toList.map (fun c => BitVec.ofNat 8 c.toNat)

/-! ## AES-256 -/

/-- Times x in the field of AES. -/
def aesDouble (a : Byte) : Byte := a <<< 1 ^^^ (if a.getMsbD 0 then 0x1B else 0)

/-- The product in the field of AES, over the low `n` bits of the second factor. -/
def aesMulBits (a b : Byte) : Nat → Byte
  | 0 => 0
  | n + 1 => (if b.getLsbD 0 then a else 0) ^^^ aesMulBits (aesDouble a) (b >>> 1) n

/-- The product in the field of AES. -/
def aesMul (a b : Byte) : Byte := aesMulBits a b 8

/-- The S-box: the inverse, as the 254th power, then the affine map. -/
def aesSub (a : Byte) : Byte :=
  let sq (x : Byte) : Byte := aesMul x x
  let a2 := sq a
  let a3 := aesMul a2 a
  let a12 := sq (sq a3)
  let a15 := aesMul a12 a3
  let a240 := sq (sq (sq (sq a15)))
  let i := aesMul (aesMul a240 a12) a2
  i ^^^ i.rotateLeft 1 ^^^ i.rotateLeft 2 ^^^ i.rotateLeft 3 ^^^ i.rotateLeft 4 ^^^ 0x63

/-- The S-box tabulated. -/
def aesSbox : Vector Byte 256 := Vector.ofFn (fun i => aesSub (BitVec.ofNat 8 i.val))

/-- The inverse of the S-box. -/
def aesUnsub (a : Byte) : Byte := BitVec.ofNat 8 ((List.range 256).findIdx (fun i => aesSub (BitVec.ofNat 8 i) == a))

/-- The inverse of the S-box tabulated. -/
def aesUnbox : Vector Byte 256 := Vector.ofFn (fun i => aesUnsub (BitVec.ofNat 8 i.val))

/-- One substitution. -/
def subByte (a : Byte) : Byte := aesSbox[a.toNat]'a.isLt
def unsubByte (a : Byte) : Byte := aesUnbox[a.toNat]'a.isLt

/-- The exclusive or of two runs of bytes. -/
def xorBytes (a b : List Byte) : List Byte := List.zipWith (· ^^^ ·) a b

/-- The words of the key schedule, four bytes each, newest first, extended by `n` words from word `i` on. -/
def aesExtend : Nat → Nat → Byte → List (List Byte) → List (List Byte)
  | 0, _, _, w => w
  | n + 1, i, rc, w =>
    let t := w.getD 0 []
    let t := if i % 8 = 0 then xorBytes ((t.drop 1 ++ t.take 1).map subByte) [rc, 0, 0, 0]
      else if i % 8 = 4 then t.map subByte else t
    aesExtend n (i + 1) (if i % 8 = 0 then aesDouble rc else rc) (xorBytes (w.getD 7 []) t :: w)

/-- Runs of `n` bytes. -/
def runsOf (n : Nat) (b : List Byte) : List (List Byte) := (List.range (b.length / n)).map (fun i => (b.drop (n * i)).take n)

/-- The 15 round keys of a 32-byte key. -/
def aesKeys (key : List Byte) : List (List Byte) :=
  runsOf 16 ((aesExtend 52 8 1 (runsOf 4 key).reverse).reverse).flatten

/-- Rows shifted: byte r + 4c comes from column c + r, or c - r for the inverse. -/
def shiftRows (inv : Bool) (b : List Byte) : List Byte :=
  (List.range 16).map (fun i => b.getD (i % 4 + 4 * ((i / 4 + (if inv then 4 - i % 4 else i % 4)) % 4)) 0)

/-- Columns multiplied by the matrix whose first row is given. -/
def mixColumns (m : List Byte) (b : List Byte) : List Byte :=
  (List.range 16).map (fun i =>
    (List.range 4).foldl (fun x j => x ^^^ aesMul (m.getD ((j + 4 - i % 4) % 4) 0) (b.getD (i / 4 * 4 + j) 0)) 0)

/-- AES-256 of one block with its round keys. -/
def aesWith (ks : List (List Byte)) (b : List Byte) : List Byte :=
  let x := ((ks.take 14).drop 1).foldl (fun x k => xorBytes (mixColumns [2, 3, 1, 1] (shiftRows false (x.map subByte))) k)
    (xorBytes b (ks.getD 0 []))
  xorBytes (shiftRows false (x.map subByte)) (ks.getD 14 [])

/-- The inverse of one block with its round keys. -/
def unaesWith (ks : List (List Byte)) (b : List Byte) : List Byte :=
  let x := (((ks.take 14).drop 1).reverse).foldl
    (fun x k => mixColumns [14, 11, 13, 9] (xorBytes ((shiftRows true x).map unsubByte) k)) (xorBytes b (ks.getD 14 []))
  xorBytes ((shiftRows true x).map unsubByte) (ks.getD 0 [])

/-- AES-256 of one block. -/
def aes256 (key b : List Byte) : List Byte := aesWith (aesKeys key) b

/-! ## CMAC -/

/-- Times x in the field of CMAC, big-endian. -/
def cmacDouble (b : List Byte) : List Byte :=
  let n := beNat b * 2
  beBytes 16 (if 2 ^ 128 ≤ n then (n % 2 ^ 128) ^^^ 0x87 else n)

/-- AES-256-CMAC of a non-empty message: 16 bytes. -/
def cmac (key msg : List Byte) : List Byte :=
  let ks := aesKeys key
  let k1 := cmacDouble (aesWith ks (List.replicate 16 0))
  let n := (msg.length + 15) / 16 - 1
  let last := msg.drop (16 * n)
  let y := if last.length = 16 then xorBytes last k1
    else xorBytes (last ++ [0x80] ++ List.replicate (15 - last.length) 0) (cmacDouble k1)
  aesWith ks (xorBytes y ((runsOf 16 (msg.take (16 * n))).foldl (fun x b => aesWith ks (xorBytes x b)) (List.replicate 16 0)))

/-! ## XTS -/

/-- Times x in the field of XTS, little-endian. -/
def xtsDouble (b : List Byte) : List Byte :=
  let n := leNat b * 2
  leBytes 16 (if 2 ^ 128 ≤ n then (n % 2 ^ 128) ^^^ 0x87 else n)

/-- The blocks of a data unit, with the running tweak. -/
def xtsBlocks (f : List Byte → List Byte) : List (List Byte) → List Byte → List Byte
  | [], _ => []
  | b :: l, t => xorBytes (f (xorBytes b t)) t ++ xtsBlocks f l (xtsDouble t)

/-- AES-256-XTS of a data unit of whole blocks under a 64-byte key pair. -/
def xts (pair : List Byte) (unit : Nat) (b : List Byte) : List Byte :=
  let ks := aesKeys (pair.take 32)
  xtsBlocks (aesWith ks) (runsOf 16 b) (aes256 ((pair.drop 32).take 32) (leBytes 16 unit))

/-- The inverse of `xts`. -/
def unxts (pair : List Byte) (unit : Nat) (b : List Byte) : List Byte :=
  let ks := aesKeys (pair.take 32)
  xtsBlocks (unaesWith ks) (runsOf 16 b) (aes256 ((pair.drop 32).take 32) (leBytes 16 unit))

/-! ## GCM -/

/-- The product of two blocks in the field of GCM, over the high `n` bits of the first; blocks are big-endian numbers. -/
def ghashMul (x : Nat) : Nat → Nat → Nat
  | 0, _ => 0
  | n + 1, v =>
    (if bit x n then v else 0) ^^^ ghashMul x n (if v % 2 = 1 then v / 2 ^^^ 0xE1 * 2 ^ 120 else v / 2)

/-- Bytes padded with zeros to whole blocks. -/
def padBlocks (b : List Byte) : List Byte := b ++ List.replicate ((16 - b.length % 16) % 16) 0

/-- GHASH of whole blocks. -/
def ghash (h : Nat) (b : List Byte) : Nat := (runsOf 16 b).foldl (fun y x => ghashMul (y ^^^ beNat x) 128 h) 0

/-- The key stream from counter `i` on. -/
def gcmStream (ks : List (List Byte)) (nonce : List Byte) : Nat → Nat → List Byte
  | 0, _ => []
  | n + 1, i => aesWith ks (nonce ++ beBytes 4 i) ++ gcmStream ks nonce n (i + 1)

/-- A message with the key stream of a 12-byte nonce: encrypts and decrypts. -/
def gcmXor (key nonce b : List Byte) : List Byte := xorBytes b (gcmStream (aesKeys key) nonce ((b.length + 15) / 16) 2)

/-- The GCM tag of a ciphertext and its additional data. -/
def gcmTag (key nonce aad c : List Byte) : List Byte :=
  let ks := aesKeys key
  let h := beNat (aesWith ks (List.replicate 16 0))
  let y := ghash h (padBlocks aad ++ padBlocks c ++ beBytes 8 (8 * aad.length) ++ beBytes 8 (8 * c.length))
  xorBytes (beBytes 16 y) (aesWith ks (nonce ++ [0, 0, 0, 1]))

end Sys2Proof.Machine
end

