-- ==== Sys2Proof/Machine/Pcs.lean ====
section
/-!
DEFINITION. The physical coding of a link: the RS(544,514) code, the scrambler, codeword pairs, alignment markers, lanes (Gweusk Links). The field, the
roots of the generator and the order of bits are those of IEEE 802.3 (PRESUMED, log entry 122).
-/
namespace Sys2Proof.Machine

/-! ## The field of 1,024 elements: x^10 + x^3 + 1 -/

/-- The product over the low `n` bits of the second factor. -/
def gfMulBits (a b : Nat) : Nat → Nat
  | 0 => 0
  | n + 1 => (if b % 2 = 1 then a else 0) ^^^ gfMulBits (if 512 ≤ a then (a * 2) ^^^ 0x409 else a * 2) (b / 2) n

/-- The product of two elements. -/
def gfMul (a b : Nat) : Nat := gfMulBits (a % 1024) (b % 1024) 10

/-- A power of an element. -/
def gfPow (a : Nat) : Nat → Nat
  | 0 => 1
  | n + 1 => gfMul a (gfPow a n)

/-- The powers of the primitive element. -/
def gfExp : Array Nat := ((List.range 1023).foldl (fun (p : Array Nat × Nat) _ => (p.1.push p.2, gfMul p.2 2)) (#[], 1)).1

/-- A power of the primitive element, by any exponent. -/
def alpha (n : Nat) : Nat := gfExp.getD (n % 1023) 1

/-- The inverse of an element: its 1,022nd power. -/
def gfInv (a : Nat) : Nat := gfPow a 1022

/-- A polynomial, lowest coefficient first, at a point. -/
def polyAt (p : List Nat) (x : Nat) : Nat := p.foldr (fun c v => c ^^^ gfMul v x) 0

/-! ## RS(544,514) (R378) -/

/-- The generator: the product of x + alpha^j for j from 0 to 29, lowest coefficient first. -/
def rsGen : List Nat :=
  (List.range 30).foldl (fun g j => List.zipWith (· ^^^ ·) (0 :: g) (g.map (gfMul (alpha j)) ++ [0])) [1]

/-- The 30 parity symbols of 514 message symbols, in the order in which they are sent. -/
def rsParity (m : List Nat) : List Nat :=
  let g := (rsGen.take 30).reverse
  m.foldl (fun r c =>
    let f := c ^^^ r.headD 0
    List.zipWith (fun a b => a ^^^ gfMul f b) (r.drop 1 ++ [0]) g) (List.replicate 30 0)

/-- The codeword of a message. -/
def rsEncode (m : List Nat) : List Nat := m ++ rsParity m

/-- The syndromes of a word, given by its symbols that are not zero: (place, symbol), the first symbol sent being the highest power. -/
def rsSyndromes (e : List (Nat × Nat)) : List Nat :=
  (List.range 30).map (fun j => e.foldl (fun v p => v ^^^ gfMul p.2 (alpha (j * (543 - p.1)))) 0)

/-- A step of the search for the error locator: locator, its last stand and discrepancy, its length, the steps since. -/
structure RsSearch where
  c : List Nat := [1]
  b : List Nat := [1]
  disc : Nat := 1
  len : Nat := 0
  gap : Nat := 1

/-- The sum of two polynomials. -/
def polyAdd : List Nat → List Nat → List Nat
  | [], b => b
  | a, [] => a
  | x :: a, y :: b => (x ^^^ y) :: polyAdd a b

/-- One step, with the first `n + 1` syndromes. -/
def RsSearch.step (x : RsSearch) (s : List Nat) (n : Nat) : RsSearch :=
  let d := (List.range (x.len + 1)).foldl (fun v i => v ^^^ gfMul (x.c.getD i 0) (if i ≤ n then s.getD (n - i) 0 else 0)) 0
  if d = 0 then { x with gap := x.gap + 1 }
  else
    let k := gfMul d (gfInv x.disc)
    let c := polyAdd x.c (List.replicate x.gap 0 ++ x.b.map (gfMul k))
    if 2 * x.len ≤ n then { c := c, b := x.c, disc := d, len := n + 1 - x.len, gap := 1 } else { x with c := c, gap := x.gap + 1 }

/-- The first `n` coefficients of a product. -/
def polyMul (n : Nat) (a b : List Nat) : List Nat :=
  (List.range n).map (fun i => (List.range (i + 1)).foldl (fun v j => v ^^^ gfMul (a.getD j 0) (b.getD (i - j) 0)) 0)

/-- What the decoder takes for the error of a word: at most 15 symbols, with the word's syndromes; none where there is no such error. -/
def rsLocate (e : List (Nat × Nat)) : Option (List (Nat × Nat)) :=
  let s := rsSyndromes e
  if s.all (· == 0) then some []
  else
    let x := (List.range 30).foldl (fun x n => RsSearch.step x s n) {}
    let at_ := (List.range 544).filter (fun i => polyAt x.c (alpha (1023 - (543 - i))) == 0)
    let om := polyMul 30 s x.c
    let slope (v : Nat) : Nat := (List.range x.c.length).foldl (fun a i => if i % 2 = 1 then a ^^^ gfMul (x.c.getD i 0) (gfPow v (i - 1)) else a) 0
    let f := at_.map (fun i =>
      let v := alpha (1023 - (543 - i))
      (i, gfMul (alpha (543 - i)) (gfMul (polyAt om v) (gfInv (slope v)))))
    if 15 < x.len || at_.length ≠ x.len || rsSyndromes f ≠ s then none else some f

/-- What a receiver makes of a codeword: good, corrected, uncorrectable (R381). -/
inductive FecSays where
  | good | corrected | uncorrectable
  deriving DecidableEq, Repr

/-- What is wrong in two words together, symbol by symbol. -/
def joinSymbols (a b : List (Nat × Nat)) : List (Nat × Nat) :=
  let l := a ++ b
  ((l.map (·.1)).eraseDups.map (fun i => (i, (l.filter (fun p => p.1 == i)).foldl (fun v p => v ^^^ p.2 % 1024) 0))).filter (fun p => p.2 != 0)

/-- A codeword with what is wrong in it: the verdict, and what is wrong once the decoder has done its work. The code is linear, so neither rests on the
data. -/
def fecDecode (e : List (Nat × Nat)) : FecSays × List (Nat × Nat) :=
  let e := joinSymbols e []
  if e.isEmpty then (.good, [])
  else match rsLocate e with
    | none => (.uncorrectable, e)
    | some [] => (.good, e)
    | some f => (.corrected, joinSymbols e f)

/-! ## The scrambler: 1 + x^39 + x^58 (R378) -/

/-- Scrambles bits after the 58 bits that went out last, newest first. -/
def scramble : List Bool → List Bool → List Bool
  | _, [] => []
  | h, b :: l =>
    let c := b ^^ h.getD 38 false ^^ h.getD 57 false
    c :: scramble ((c :: h).take 58) l

/-- Undoes the scrambler after the 58 bits that came in last, newest first. -/
def unscramble : List Bool → List Bool → List Bool
  | _, [] => []
  | h, c :: l => (c ^^ h.getD 38 false ^^ h.getD 57 false) :: unscramble ((c :: h).take 58) l

/-- Where the plain bits are wrong when scrambled bits at some places are: each error comes out three times. -/
def spread (places : List Int) : List Int :=
  let l := (places.map (fun (p : Int) => [p, p + 39, p + 58])).flatten
  l.eraseDups.filter (fun p => l.count p % 2 == 1)

/-! ## Codeword pairs (R379, R380) -/

/-- The bits of bytes, least significant first. -/
def bitsOf (b : List Byte) : List Bool := (b.map (fun (x : Byte) => (List.range 8).map (fun i => x.getLsbD i))).flatten

/-- The bits of a codeword header: bit 0 says which codeword of the pair. -/
def cwHeader (second : Bool) : List Bool := second :: List.replicate 19 false

/-- Ten bits, least significant first, make a symbol. -/
def symbolsOf (l : List Bool) : List Nat :=
  (List.range (l.length / 10)).map (fun i => ((l.drop (10 * i)).take 10).foldr (fun b v => 2 * v + b2n b) 0)

/-- The message bits of a pair that carries five flits, 640 bytes to a codeword. -/
def pairBits (flits : List (List Byte)) : List Bool :=
  let b := flits.flatten
  cwHeader false ++ bitsOf (b.take 640) ++ cwHeader true ++ bitsOf ((b.drop 640).take 640)

/-- The symbols of the two codewords whose message bits are given. -/
def pairSymbols (l : List Bool) : List Nat := rsEncode (symbolsOf (l.take 5140)) ++ rsEncode (symbolsOf (l.drop 5140))

/-- The message bits of the pair that carries the markers, which are not scrambled; the patterns of IEEE 802.3 stand outside the spec. -/
def markerBits (rate width : Nat) : List Bool :=
  pairBits [(List.range 1280).map (Config.marker rate width)]

/-- The symbol stream of pairs of flits: the first pair of every 4,096 carries the markers (`n` pairs have gone before). -/
def pcsStream (rate width : Nat) : Nat → List Bool → List (List (List Byte)) → List Nat
  | _, _, [] => []
  | n, h, p :: l =>
    let c := scramble h (pairBits p)
    (if n % 4095 = 0 then pairSymbols (markerBits rate width) else []) ++ pairSymbols c ++
      pcsStream rate width (n + 1) (c.reverse.take 58) l

/-! ## Lanes (R376, R377, R378, R380) -/

/-- The lanes in use, lowest first, of a mask. -/
def lanesIn (mask : Nat) : List Nat := (List.range 4).filter (bit mask)

/-- Every `n`-th symbol, from the `i`-th on. -/
def everyNth (n i : Nat) (l : List Nat) : List Nat :=
  (List.range ((l.length + n - 1 - i) / n)).map (fun k => l.getD (i + n * k) 0)

/-- Symbols dealt out to `n` lanes in turn, the lowest first. -/
def toLanes (n : Nat) (l : List Nat) : List (List Nat) := (List.range n).map (fun i => everyNth n i l)

/-- Symbols taken from lanes in turn. -/
def fromLanes (l : List (List Nat)) : List Nat :=
  let n := (l.map (·.length)).foldl min ((l.headD []).length)
  ((List.range n).map (fun k => l.map (fun x => x.getD k 0))).flatten

/-- The place at which a pattern begins in a stream. -/
def findPattern (p : List Nat) : List Nat → Nat → Option Nat
  | [], i => if p.isEmpty then some i else none
  | x :: l, i => if p.isPrefixOf (x :: l) then some i else findPattern p l (i + 1)

/-- Deskew: each lane's stream from its marker on, in the lanes' order; none while a lane has shown no marker (R380). -/
def deskew (marks streams : List (List Nat)) : Option (List Nat) :=
  ((marks.zip streams).mapM (fun p => (findPattern p.1 p.2 0).map (fun i => p.2.drop i))).map fromLanes

/-- What a receiver corrects of its lanes: their order, and the lanes whose polarity is inverted (R376). -/
def correctLanes (mirror : Bool) (inverted : Nat) (mask : Nat) (streams : List (List Nat)) : List (List Nat) :=
  let l := (lanesIn mask).zipWith (fun i x => if bit inverted i then x.map (fun v => v % 1024 ^^^ 1023) else x) streams
  if mirror then l.reverse else l

/-- The widest width whose lanes all train, with its lanes: x4, x2 on lanes 0 and 1 or 2 and 3, x1 on one lane, the lowest (R377); 0 where none does. -/
def widest (good : Nat) : Nat × Nat :=
  if good % 16 = 15 then (3, 15)
  else if good % 4 = 3 then (2, 3)
  else if good / 4 % 4 = 3 then (2, 12)
  else match (List.range 4).find? (bit good) with
    | some i => (1, 2 ^ i)
    | none => (0, 0)

/-! ## A flit out of its pair -/

/-- The symbol of a pair that a lane carries at a place counted from the pair's first symbol on that lane; lanes in reversed order count from the
highest. -/
def symbolAt (lanes : Nat) (mirror : Bool) (e : LaneErr) : Option Nat :=
  let l := if mirror then (lanesIn lanes).reverse else lanesIn lanes
  let i := l.findIdx (· == e.lane)
  if i < l.length then some (e.place * l.length + i) else none

/-- What is wrong in each codeword of a pair. -/
def cwErrs (lanes : Nat) (mirror : Bool) (es : List LaneErr) (second : Bool) : List (Nat × Nat) :=
  es.filterMap (fun e => match symbolAt lanes mirror e with
    | some i => if (second && decide (544 ≤ i)) || (!second && decide (i < 544)) then some (i % 544, e.bits) else none
    | none => none)

/-- The message bits that are wrong in a codeword after decoding, counted from `base`. -/
def wrongBits (base : Int) (e : List (Nat × Nat)) : List Int :=
  (e.map (fun p => if p.1 < 514 then ((List.range 10).filter (bit p.2)).map (fun i => base + 10 * p.1 + i) else [])).flatten

/-- The stream bit of a message bit of a pair: none in a header. -/
def streamBit (p : Int) : Option Nat :=
  if p < 20 then none
  else if p < 5140 then some (p.toNat - 20)
  else if p < 5160 then none
  else if p < 10280 then some (p.toNat - 40)
  else none

/-- The verdicts on the two codewords of a pair, and the stream bits that are wrong after decoding and descrambling, those that the pair before
still brings among them. -/
def pairSays (lanes : Nat) (mirror : Bool) (a : Arrival) : FecSays × FecSays × List Nat :=
  let last := fecDecode (cwErrs lanes mirror a.before true)
  let x := fecDecode (cwErrs lanes mirror a.errs false)
  let y := fecDecode (cwErrs lanes mirror a.errs true)
  (x.1, y.1, (spread (wrongBits (-5140) last.2 ++ wrongBits 0 x.2 ++ wrongBits 5140 y.2)).filterMap streamBit)

/-- The 256 bytes of a flit with some bits of its pair's stream inverted; it is flit `k` of five. -/
def wrongBytes (k : Nat) (wrong : List Nat) (b : List Byte) : List Byte :=
  b.mapIdx (fun i x => (wrong.filter (fun p => p / 8 == 256 * k + i)).foldl (fun x p => x ^^^ BitVec.ofNat 8 (2 ^ (p % 8))) x)

/-- What the PCS delivers of an arriving flit: the codewords that it is the first to overlap, with the verdict on them; whether one that it overlaps was
uncorrectable; its bytes (R381). -/
structure Arrived where
  counted : List FecSays
  lost : Bool
  bytes : List Byte
  deriving DecidableEq, Repr

/-- A flit out of its pair (R379, R381): flits 0 and 1 lie in the first codeword, 3 and 4 in the second, flit 2 in both. Place 5 stands for the pair that
carries the markers in place of flits (R380). -/
def arrive (lanes : Nat) (mirror : Bool) (a : Arrival) : Arrived :=
  let (x, y, w) := pairSays lanes mirror a
  let k := a.place
  { counted := (if k = 0 || k = 5 then [x] else []) ++ (if k = 2 || k = 5 then [y] else [])
    lost := (decide (k ≤ 2) && x == .uncorrectable) || (decide (2 ≤ k) && y == .uncorrectable)
    bytes := wrongBytes k w a.bytes }

end Sys2Proof.Machine
end

