-- ==== Sys2Proof/Machine/RegTable.lean ====
section
/-!
DEFINITION. The register fields of the JP-4810, one definition per field of the spec's register tables: block, offset,
lowest bit, width, access code and the reset value the table states. Fields whose table states no number reset to 0 here and
State.reset lists the value the log names.
-/
namespace Sys2Proof.Machine

/-- The access codes of Table 0.5 (RSVD bits hold no field). -/
inductive Acc where
  | rw | ro | wo | w1c | w1s | rc | rwl
  deriving DecidableEq, Repr

/-- A register field: block number (its 1 MiB slot in BAR0, Table 22.1), offset in the block, lowest bit,
width, access code and reset value. -/
structure Fld where
  blk : Nat
  off : Nat
  lo : Nat
  wid : Nat
  acc : Acc
  rst : Nat
  deriving DecidableEq, Repr

/-- Which kind of instance a window register belongs to (R152, Table 19.6 to 19.8). -/
inductive RegKind where
  | plain | fence | stream | loop | phase | therm
  deriving DecidableEq, Repr

/-- A 32-bit register word, repeated `cnt` times at a stride of four bytes, and its fields. -/
structure RegWord where
  blk : Nat
  off : Nat
  cnt : Nat
  kind : RegKind
  flds : List Fld
  deriving DecidableEq, Repr

/-- The same field `n` words further on (FN_S_WM, CN_KEY and the like). -/
def Fld.at (f : Fld) (n : Nat) : Fld := { f with off := f.off + 4 * n }

/-- The key of a field of an instance in the register table of State: no two fields share one. -/
def Fld.key (f : Fld) (inst : Nat) : Nat := ((inst * 32 + f.blk) * 8192 + f.off) * 32 + f.lo

/-! Block TOP: Tables 21.8, 22.3. -/
def F_TOP_ID_PART : Fld := ⟨0, 0x0, 0, 16, .ro, 18448⟩
def F_TOP_ID_STEPPING : Fld := ⟨0, 0x0, 16, 8, .ro, 16⟩
def F_TOP_ID_STACKS : Fld := ⟨0, 0x0, 24, 4, .ro, 0⟩
def F_TOP_CMDSET_REV : Fld := ⟨0, 0x4, 0, 8, .ro, 1⟩
def F_TOP_FW_VERSION_VERSION : Fld := ⟨0, 0x8, 0, 24, .ro, 0⟩
def F_TOP_RTP_VERSION_VERSION : Fld := ⟨0, 0xC, 0, 24, .ro, 0⟩
def F_TOP_HOT_FOLIOS_COUNT : Fld := ⟨0, 0x10, 0, 22, .ro, 0⟩
def F_TOP_WARM_FOLIOS_COUNT : Fld := ⟨0, 0x14, 0, 28, .ro, 0⟩
def F_TOP_META_SIZE_COUNT : Fld := ⟨0, 0x18, 0, 28, .ro, 0⟩
def F_TOP_BAD_ACCESS_CNT_COUNT : Fld := ⟨0, 0x20, 0, 32, .rc, 0⟩
def F_TOP_BAD_ACCESS_ADDR_OFFSET : Fld := ⟨0, 0x24, 0, 26, .ro, 0⟩
def F_TOP_BAD_ACCESS_PORT_PORT : Fld := ⟨0, 0x28, 0, 7, .ro, 0⟩
def F_TOP_BAD_ACCESS_PORT_VALID : Fld := ⟨0, 0x28, 7, 1, .ro, 0⟩
def F_TOP_ADMIN_STATUS_HDR_WRITE : Fld := ⟨0, 0x30, 0, 2, .ro, 0⟩
def F_TOP_ADMIN_STATUS_RESET_PENDING : Fld := ⟨0, 0x30, 2, 1, .ro, 0⟩
def F_TOP_BOOT_STATUS_STAGE : Fld := ⟨0, 0x200, 0, 3, .ro, 0⟩
def F_TOP_BOOT_STATUS_CFG_DEFAULT : Fld := ⟨0, 0x200, 3, 1, .ro, 0⟩
def F_TOP_BOOT_STATUS_MEM_WAIT : Fld := ⟨0, 0x200, 4, 1, .ro, 0⟩
def F_TOP_BOOT_STATUS_NO_POOL : Fld := ⟨0, 0x200, 5, 1, .ro, 0⟩
def F_TOP_BOOT_STATUS_HOT_READY : Fld := ⟨0, 0x200, 6, 1, .ro, 0⟩
def F_TOP_BOOT_STATUS_POOL_READY : Fld := ⟨0, 0x200, 7, 1, .ro, 0⟩
def F_TOP_BOOT_CTL_MEM_GO : Fld := ⟨0, 0x204, 0, 1, .wo, 0⟩
def F_TOP_ZERO_LEFT_LEFT : Fld := ⟨0, 0x208, 0, 28, .ro, 0⟩
def F_TOP_CAL_STATUS_VALID : Fld := ⟨0, 0x20C, 0, 1, .ro, 0⟩
def F_TOP_CAL_STATUS_PENDING : Fld := ⟨0, 0x20C, 1, 1, .ro, 0⟩
def F_TOP_CAL_STATUS_WRITE : Fld := ⟨0, 0x20C, 2, 2, .ro, 0⟩
def F_TOP_CAL_STATUS_BAD_CHECK : Fld := ⟨0, 0x20C, 8, 3, .ro, 0⟩
def F_TOP_CAL_STATUS_BAD_SECTION : Fld := ⟨0, 0x20C, 16, 3, .ro, 0⟩
def F_TOP_CAL_CRC_CRC : Fld := ⟨0, 0x210, 0, 32, .ro, 0⟩
def F_TOP_PERST_CNT_COUNT : Fld := ⟨0, 0x214, 0, 32, .rc, 0⟩
def F_TOP_INPUTS_LEVEL : Fld := ⟨0, 0x218, 0, 3, .ro, 0⟩
/-! Block QE: Tables 2.8, 3.7, 3.8. -/
def F_QE_DESC_FREE_FREE : Fld := ⟨1, 0x0, 0, 15, .ro, 16384⟩
def F_QE_FREEZE_LIMIT_LIMIT : Fld := ⟨1, 0x10, 0, 16, .rw, 256⟩
def F_QE_FREEZE_WINDOW_WINDOW : Fld := ⟨1, 0x14, 0, 16, .rw, 1000⟩
def F_QE_STARVE_LIMIT_STARVE : Fld := ⟨1, 0x18, 0, 16, .rw, 100⟩
def F_QE_FROZEN_CNT_FROZEN : Fld := ⟨1, 0x1C, 0, 17, .ro, 0⟩
def F_QE_BAD_DOORBELL_CNT_BADDB : Fld := ⟨1, 0x20, 0, 32, .rc, 0⟩
def F_QE_XSTORE_FREE_FREE : Fld := ⟨1, 0x100, 0, 22, .ro, 2097152⟩
def F_QE_XSTORE_WAITS_WAITS : Fld := ⟨1, 0x104, 0, 32, .rc, 0⟩
def F_QE_Q_BIND_TENANT : Fld := ⟨1, 0x1000, 0, 10, .ro, 0⟩
def F_QE_Q_BIND_ORIGIN : Fld := ⟨1, 0x1000, 16, 8, .ro, 255⟩
def F_QE_Q_CFG_LOG2SIZE : Fld := ⟨1, 0x1004, 0, 5, .rw, 4⟩
def F_QE_Q_CFG_CLASS : Fld := ⟨1, 0x1004, 5, 2, .rw, 1⟩
def F_QE_Q_CFG_LOC : Fld := ⟨1, 0x1004, 7, 1, .rw, 0⟩
def F_QE_Q_CFG_MAXINFLIGHT : Fld := ⟨1, 0x1004, 8, 13, .rw, 256⟩
def F_QE_Q_CFG_TIMEOUT_MS : Fld := ⟨1, 0x1004, 21, 11, .rw, 100⟩
def F_QE_Q_SQBASE_SQBASE_LO : Fld := ⟨1, 0x1008, 0, 32, .rw, 0⟩
def F_QE_Q_SQBASE_SQBASE_HI : Fld := ⟨1, 0x100C, 0, 32, .rw, 0⟩
def F_QE_Q_CQBASE_CQBASE_LO : Fld := ⟨1, 0x1010, 0, 32, .rw, 0⟩
def F_QE_Q_CQBASE_CQBASE_HI : Fld := ⟨1, 0x1014, 0, 32, .rw, 0⟩
def F_QE_Q_CTL_CMD : Fld := ⟨1, 0x1018, 0, 3, .wo, 0⟩
def F_QE_Q_STATUS_STATE : Fld := ⟨1, 0x101C, 0, 3, .ro, 0⟩
def F_QE_Q_STATUS_PHASE : Fld := ⟨1, 0x101C, 3, 1, .ro, 1⟩
def F_QE_Q_STATUS_ACCEPT_WAIT : Fld := ⟨1, 0x101C, 4, 1, .ro, 0⟩
def F_QE_Q_STATUS_LAST_CTL : Fld := ⟨1, 0x101C, 5, 3, .ro, 0⟩
def F_QE_Q_STATUS_FREEZE_CAUSE : Fld := ⟨1, 0x101C, 8, 3, .ro, 0⟩
def F_QE_Q_SQPTR_SQ_HEAD : Fld := ⟨1, 0x1020, 0, 16, .ro, 0⟩
def F_QE_Q_SQPTR_SQ_TAIL : Fld := ⟨1, 0x1020, 16, 16, .ro, 0⟩
def F_QE_Q_CQPTR_CQ_TAIL : Fld := ⟨1, 0x1024, 0, 16, .ro, 0⟩
def F_QE_Q_CQPTR_CQ_HEAD : Fld := ⟨1, 0x1024, 16, 16, .ro, 0⟩
def F_QE_Q_INFLIGHT_INFLIGHT : Fld := ⟨1, 0x1028, 0, 13, .ro, 0⟩
def F_QE_Q_REFUSED_REFUSED : Fld := ⟨1, 0x102C, 0, 32, .rc, 0⟩
def F_QE_Q_WINCNT_WINCNT : Fld := ⟨1, 0x1030, 0, 16, .ro, 0⟩
/-! Block FN: Tables 4.5 to 4.7. -/
def F_FN_WAIT_DEFAULT_WAIT : Fld := ⟨2, 0x0, 0, 16, .rw, 1000⟩
def F_FN_STREAMS_COUNT : Fld := ⟨2, 0x4, 0, 13, .ro, 0⟩
def F_FN_LIST_FREE_FREE : Fld := ⟨2, 0x8, 0, 27, .ro, 67108864⟩
def F_FN_STALE_CNT_STALE : Fld := ⟨2, 0xC, 0, 32, .rc, 0⟩
def F_FN_SAT_CNT_SAT : Fld := ⟨2, 0x10, 0, 32, .rc, 0⟩
def F_FN_F_VALUE_LO : Fld := ⟨2, 0x1000, 0, 32, .ro, 0⟩
def F_FN_S_STATE_STATE : Fld := ⟨2, 0x1000, 0, 3, .ro, 0⟩
def F_FN_S_STATE_TENANT : Fld := ⟨2, 0x1000, 4, 10, .ro, 0⟩
def F_FN_F_VALUE_HI : Fld := ⟨2, 0x1004, 0, 32, .ro, 0⟩
def F_FN_S_SHAPE_LAYERS : Fld := ⟨2, 0x1004, 0, 9, .ro, 0⟩
def F_FN_S_SHAPE_HEADS : Fld := ⟨2, 0x1004, 9, 7, .ro, 0⟩
def F_FN_S_SHAPE_HDIM : Fld := ⟨2, 0x1004, 16, 2, .ro, 0⟩
def F_FN_S_SHAPE_TPF : Fld := ⟨2, 0x1004, 18, 12, .ro, 0⟩
def F_FN_F_BIND_TENANT : Fld := ⟨2, 0x1008, 0, 10, .ro, 0⟩
def F_FN_F_BIND_BOUND : Fld := ⟨2, 0x1008, 31, 1, .ro, 0⟩
def F_FN_S_PREFIX_PREFIX : Fld := ⟨2, 0x1008, 0, 32, .ro, 0⟩
def F_FN_F_WAITERS_WAITERS : Fld := ⟨2, 0x100C, 0, 15, .ro, 0⟩
def F_FN_S_LISTLEN_LEN : Fld := ⟨2, 0x100C, 0, 17, .ro, 0⟩
def F_FN_S_COMMIT_TOKEN_TOKEN : Fld := ⟨2, 0x1010, 0, 32, .ro, 4294967295⟩
def F_FN_S_COMMIT_STEP_STEP : Fld := ⟨2, 0x1014, 0, 32, .ro, 0⟩
def F_FN_S_WM_WM : Fld := ⟨2, 0x1400, 0, 32, .ro, 4294967295⟩
/-! Block CT: Tables 5.6, 5.7. -/
def F_CT_CFG_FIXED_LAT : Fld := ⟨3, 0x0, 0, 1, .rw, 0⟩
def F_CT_CFG_FWD_TIMEOUT : Fld := ⟨3, 0x0, 16, 16, .rw, 200⟩
def F_CT_ENTRIES_COUNT : Fld := ⟨3, 0x4, 0, 26, .ro, 0⟩
def F_CT_STASH_USED : Fld := ⟨3, 0x8, 0, 13, .ro, 0⟩
def F_CT_SEGMENTS_COUNT : Fld := ⟨3, 0xC, 0, 26, .ro, 0⟩
def F_CT_LEDGER_FREE_FREE : Fld := ⟨3, 0x10, 0, 24, .ro, 8388608⟩
def F_CT_EVICT_CNT_EVICT : Fld := ⟨3, 0x14, 0, 32, .rc, 0⟩
def F_CT_MOVED_CNT_MOVED : Fld := ⟨3, 0x18, 0, 32, .rc, 0⟩
def F_CT_LATE_CNT_LATE : Fld := ⟨3, 0x1C, 0, 32, .rc, 0⟩
def F_CT_G_QUOTA_QUOTA : Fld := ⟨3, 0x1000, 0, 26, .rw, 33554432⟩
def F_CT_G_RESERVE_RESERVE : Fld := ⟨3, 0x1004, 0, 26, .rw, 0⟩
def F_CT_G_HOLD_HOLD : Fld := ⟨3, 0x1008, 0, 20, .rw, 0⟩
def F_CT_G_COUNT_COUNT : Fld := ⟨3, 0x100C, 0, 26, .ro, 0⟩
def F_CT_G_HITS_HITS : Fld := ⟨3, 0x1010, 0, 32, .rc, 0⟩
def F_CT_G_MISSES_MISSES : Fld := ⟨3, 0x1014, 0, 32, .rc, 0⟩
/-! Block CR: Tables 6.13, 6.14. -/
def F_CR_CLUSTER_STATE_STATE : Fld := ⟨4, 0x0, 0, 32, .ro, 0⟩
def F_CR_ATTEND_CFG_TASKS : Fld := ⟨4, 0x4, 0, 7, .rw, 32⟩
def F_CR_ATTEND_CFG_MIN_RANGE : Fld := ⟨4, 0x4, 16, 16, .rw, 256⟩
def F_CR_KLIB_VERSION_VERSION : Fld := ⟨4, 0x8, 0, 24, .ro, 0⟩
def F_CR_CLUSTER_CTL_CLUSTER : Fld := ⟨4, 0xC, 0, 3, .wo, 0⟩
def F_CR_CLUSTER_CTL_CMD : Fld := ⟨4, 0xC, 4, 2, .wo, 0⟩
def F_CR_TASKS_TASKS : Fld := ⟨4, 0x10, 0, 32, .rc, 0⟩
def F_CR_RERUN_CNT_RERUN : Fld := ⟨4, 0x14, 0, 32, .rc, 0⟩
def F_CR_NONFINITE_CNT_NONFINITE : Fld := ⟨4, 0x18, 0, 32, .rc, 0⟩
def F_CR_WAIT_BUSY_BUSY : Fld := ⟨4, 0x1C, 0, 32, .rc, 0⟩
def F_CR_STAGE_FREE_FREE : Fld := ⟨4, 0x20, 0, 29, .ro, 268435456⟩
def F_CR_C_STATE_RUN : Fld := ⟨4, 0x1000, 0, 2, .ro, 0⟩
def F_CR_C_STATE_TENANT : Fld := ⟨4, 0x1000, 16, 10, .ro, 0⟩
def F_CR_C_FREQ_MHZ : Fld := ⟨4, 0x1004, 0, 11, .ro, 0⟩
def F_CR_C_TASKS_TASKS : Fld := ⟨4, 0x1008, 0, 32, .rc, 0⟩
def F_CR_C_FAULTS_FAULTS : Fld := ⟨4, 0x100C, 0, 32, .rc, 0⟩
/-! Block SK: Tables 7.4, 7.5. -/
def F_SK_CFG_KEEP_MAX : Fld := ⟨5, 0x0, 0, 5, .rw, 4⟩
def F_SK_PIN_SUM_SUM : Fld := ⟨5, 0x4, 0, 18, .ro, 0⟩
def F_SK_HITS_HITS : Fld := ⟨5, 0x8, 0, 32, .rc, 0⟩
def F_SK_MISSES_MISSES : Fld := ⟨5, 0xC, 0, 32, .rc, 0⟩
def F_SK_PIN_OVERFLOW_OVERFLOW : Fld := ⟨5, 0x10, 0, 32, .rc, 0⟩
def F_SK_PARITY_CNT_DATA : Fld := ⟨5, 0x14, 0, 32, .rc, 0⟩
def F_SK_TAG_PARITY_CNT_TAG : Fld := ⟨5, 0x18, 0, 32, .rc, 0⟩
def F_SK_RO_PARITY_CNT_RO : Fld := ⟨5, 0x1C, 0, 32, .rc, 0⟩
def F_SK_SETS_DISABLED_SETS : Fld := ⟨5, 0x20, 0, 15, .ro, 0⟩
def F_SK_P_LIMIT_LIMIT : Fld := ⟨5, 0x1000, 0, 18, .rw, 0⟩
def F_SK_P_USED_USED : Fld := ⟨5, 0x1004, 0, 18, .ro, 0⟩
def F_SK_P_CTL_FLUSH : Fld := ⟨5, 0x1008, 0, 1, .wo, 0⟩
def F_SK_P_STATUS_SWEEP : Fld := ⟨5, 0x100C, 0, 1, .ro, 0⟩
def F_SK_P_STATUS_DEMOTING : Fld := ⟨5, 0x100C, 1, 1, .ro, 0⟩
def F_SK_P_STATUS_FLUSHING : Fld := ⟨5, 0x100C, 2, 1, .ro, 0⟩
/-! Block PJ: Tables 8.6, 8.7. -/
def F_PJ_UNITS_BUSY_BUSY : Fld := ⟨6, 0x0, 0, 8, .ro, 0⟩
def F_PJ_UNITS_BUSY_OUT : Fld := ⟨6, 0x0, 8, 8, .ro, 0⟩
def F_PJ_SAT_CNT_SAT : Fld := ⟨6, 0x4, 0, 32, .rc, 0⟩
def F_PJ_NAN_CNT_NAN : Fld := ⟨6, 0x8, 0, 32, .rc, 0⟩
def F_PJ_REDO_CNT_REDO : Fld := ⟨6, 0xC, 0, 32, .rc, 0⟩
def F_PJ_U_STATUS_ACTIVE : Fld := ⟨6, 0x1000, 0, 5, .ro, 0⟩
def F_PJ_U_STATUS_OUT : Fld := ⟨6, 0x1000, 8, 1, .ro, 0⟩
def F_PJ_U_QUEUED_QUEUED : Fld := ⟨6, 0x1004, 0, 32, .ro, 0⟩
def F_PJ_U_BYTES_BYTES : Fld := ⟨6, 0x1008, 0, 32, .rc, 0⟩
def F_PJ_U_CTL_RETURN : Fld := ⟨6, 0x100C, 0, 1, .wo, 0⟩
/-! Block PL: Table 9.5. -/
def F_PL_STATUS_BUSY : Fld := ⟨7, 0x0, 0, 1, .ro, 0⟩
def F_PL_STATUS_WAITING : Fld := ⟨7, 0x0, 1, 14, .ro, 0⟩
def F_PL_SOLVES_SOLVES : Fld := ⟨7, 0x4, 0, 32, .rc, 0⟩
def F_PL_INFEAS_CNT_INFEAS : Fld := ⟨7, 0x8, 0, 32, .rc, 0⟩
def F_PL_LAST_TIME_TICKS : Fld := ⟨7, 0xC, 0, 32, .ro, 0⟩
def F_PL_RERUN_CNT_RERUN : Fld := ⟨7, 0x10, 0, 32, .rc, 0⟩
/-! Block MC: Tables 10.7, 10.8, 10.11. -/
def F_MC_STATUS_SET : Fld := ⟨8, 0x0, 0, 16, .ro, 0⟩
def F_MC_STATUS_WAYS : Fld := ⟨8, 0x0, 16, 5, .ro, 0⟩
def F_MC_CFG_MAX_SPEED : Fld := ⟨8, 0x4, 0, 3, .rwl, 0⟩
def F_MC_RH_CFG_THRESH : Fld := ⟨8, 0x8, 0, 16, .rw, 2048⟩
def F_MC_RH_CFG_BLAST : Fld := ⟨8, 0x8, 16, 1, .rw, 0⟩
def F_MC_WQ_CFG_HIGH : Fld := ⟨8, 0xC, 0, 7, .rw, 48⟩
def F_MC_WQ_CFG_LOW : Fld := ⟨8, 0xC, 8, 6, .rw, 16⟩
def F_MC_MAINT_CFG_FLOOR : Fld := ⟨8, 0x10, 0, 7, .rw, 2⟩
def F_MC_MAINT_CFG_CEIL : Fld := ⟨8, 0x10, 8, 7, .rw, 20⟩
def F_MC_MAINT_CFG_MIGR_FLOOR : Fld := ⟨8, 0x10, 16, 7, .rw, 25⟩
def F_MC_SPARE_CFG_CE_THRESH : Fld := ⟨8, 0x14, 0, 16, .rw, 256⟩
def F_MC_SPARE_CFG_CE_WINDOW : Fld := ⟨8, 0x14, 16, 16, .rw, 1440⟩
def F_MC_MIGR_RATE_RATE : Fld := ⟨8, 0x18, 0, 16, .rw, 2000⟩
def F_MC_FWD_CNT_FWD : Fld := ⟨8, 0x1C, 0, 32, .rc, 0⟩
def F_MC_PARITY_CNT_REISSUE : Fld := ⟨8, 0x20, 0, 32, .rc, 0⟩
def F_MC_RETRAIN_CNT_RETRAIN : Fld := ⟨8, 0x24, 0, 32, .rc, 0⟩
def F_MC_NREF_CNT_NREF : Fld := ⟨8, 0x28, 0, 32, .rc, 0⟩
def F_MC_CH_STATUS_STATE : Fld := ⟨8, 0x1000, 0, 3, .ro, 0⟩
def F_MC_CH_STATUS_TIMING_CLAMPED : Fld := ⟨8, 0x1000, 3, 1, .ro, 0⟩
def F_MC_CH_STATUS_SPARE_EXHAUSTED : Fld := ⟨8, 0x1000, 4, 1, .ro, 0⟩
def F_MC_CH_STATUS_LR : Fld := ⟨8, 0x1000, 8, 4, .ro, 0⟩
def F_MC_CH_CFG_MODE : Fld := ⟨8, 0x1004, 0, 1, .rwl, 0⟩
def F_MC_CH_RANKS_RANKS : Fld := ⟨8, 0x1008, 0, 32, .ro, 0⟩
def F_MC_CH_REFPEND_REFPEND : Fld := ⟨8, 0x100C, 0, 32, .ro, 0⟩
def F_MC_CH_MIGR_SRC : Fld := ⟨8, 0x1010, 0, 3, .ro, 0⟩
def F_MC_CH_MIGR_TGT : Fld := ⟨8, 0x1010, 4, 3, .ro, 0⟩
def F_MC_CH_MIGR_ACTIVE : Fld := ⟨8, 0x1010, 7, 1, .ro, 0⟩
def F_MC_CH_MIGR_DONE_DONE : Fld := ⟨8, 0x1014, 0, 32, .ro, 0⟩
def F_MC_CH_RANK_CTL_RANK : Fld := ⟨8, 0x1018, 0, 3, .wo, 0⟩
def F_MC_CH_RANK_CTL_CMD : Fld := ⟨8, 0x1018, 4, 2, .wo, 0⟩
def F_MC_CH_LAST_LAST : Fld := ⟨8, 0x101C, 0, 3, .ro, 0⟩
def F_MC_CH_CE_CNT_CE : Fld := ⟨8, 0x1020, 0, 32, .rc, 0⟩
def F_MC_CH_UE_CNT_UE : Fld := ⟨8, 0x1024, 0, 32, .rc, 0⟩
def F_MC_CH_TIMING_TRCD : Fld := ⟨8, 0x1030, 0, 16, .rw, 0⟩
def F_MC_CH_TIMING_TRP : Fld := ⟨8, 0x1030, 16, 16, .rw, 0⟩
def F_MC_CH_TIMING_TRAS : Fld := ⟨8, 0x1034, 0, 16, .rw, 0⟩
def F_MC_CH_TIMING_TCL : Fld := ⟨8, 0x1034, 16, 16, .rw, 0⟩
def F_MC_CH_TIMING_TWR : Fld := ⟨8, 0x1038, 0, 16, .rw, 0⟩
def F_MC_CH_TIMING_TRFC : Fld := ⟨8, 0x1038, 16, 16, .rw, 0⟩
def F_MC_CH_TIMING_TFAW : Fld := ⟨8, 0x103C, 0, 16, .rw, 0⟩
def F_MC_CH_TIMING_TWTRL : Fld := ⟨8, 0x103C, 16, 16, .rw, 0⟩
/-! Block HB: Tables 10.9 to 10.11. -/
def F_HB_STATUS_SET : Fld := ⟨9, 0x0, 0, 4, .ro, 0⟩
def F_HB_STATUS_PRESENT : Fld := ⟨9, 0x0, 4, 4, .ro, 0⟩
def F_HB_SPARE_CFG_PERMILLE : Fld := ⟨9, 0x4, 0, 6, .rwl, 10⟩
def F_HB_SPARE_CFG_CE_THRESH : Fld := ⟨9, 0x4, 16, 8, .rw, 64⟩
def F_HB_SPARE_CFG_CE_WINDOW : Fld := ⟨9, 0x4, 24, 8, .rw, 60⟩
def F_HB_SPARE_STATUS_FREE : Fld := ⟨9, 0x8, 0, 17, .ro, 0⟩
def F_HB_SPARE_STATUS_EXHAUSTED : Fld := ⟨9, 0x8, 17, 1, .ro, 0⟩
def F_HB_SPARED_CNT_SPARED : Fld := ⟨9, 0xC, 0, 32, .rc, 0⟩
def F_HB_RH_CFG_THRESH : Fld := ⟨9, 0x10, 0, 16, .rw, 2048⟩
def F_HB_RH_CFG_BLAST : Fld := ⟨9, 0x10, 16, 1, .rw, 0⟩
def F_HB_WQ_CFG_HIGH : Fld := ⟨9, 0x14, 0, 7, .rw, 24⟩
def F_HB_WQ_CFG_LOW : Fld := ⟨9, 0x14, 8, 6, .rw, 8⟩
def F_HB_MAINT_CFG_FLOOR : Fld := ⟨9, 0x18, 0, 7, .rw, 2⟩
def F_HB_MAINT_CFG_CEIL : Fld := ⟨9, 0x18, 8, 7, .rw, 20⟩
def F_HB_TIMING_TRCD : Fld := ⟨9, 0x30, 0, 16, .rw, 0⟩
def F_HB_TIMING_TRP : Fld := ⟨9, 0x30, 16, 16, .rw, 0⟩
def F_HB_TIMING_TRAS : Fld := ⟨9, 0x34, 0, 16, .rw, 0⟩
def F_HB_TIMING_TCL : Fld := ⟨9, 0x34, 16, 16, .rw, 0⟩
def F_HB_TIMING_TWR : Fld := ⟨9, 0x38, 0, 16, .rw, 0⟩
def F_HB_TIMING_TRFC : Fld := ⟨9, 0x38, 16, 16, .rw, 0⟩
def F_HB_TIMING_TFAW : Fld := ⟨9, 0x3C, 0, 16, .rw, 0⟩
def F_HB_TIMING_TWTRL : Fld := ⟨9, 0x3C, 16, 16, .rw, 0⟩
def F_HB_PC_STATUS_STATE : Fld := ⟨9, 0x1000, 0, 3, .ro, 0⟩
def F_HB_PC_STATUS_TIMING_CLAMPED : Fld := ⟨9, 0x1000, 3, 1, .ro, 0⟩
def F_HB_PC_STATUS_REFPEND : Fld := ⟨9, 0x1000, 4, 4, .ro, 0⟩
def F_HB_PC_STATUS_LANES : Fld := ⟨9, 0x1000, 8, 8, .ro, 0⟩
def F_HB_PC_CE_CNT_CE : Fld := ⟨9, 0x1004, 0, 32, .rc, 0⟩
def F_HB_PC_UE_CNT_UE : Fld := ⟨9, 0x1008, 0, 32, .rc, 0⟩
/-! Block SI: Tables 11.12, 11.13. -/
def F_SI_CFG_TAGS_PRESENT : Fld := ⟨10, 0x0, 0, 1, .rwl, 0⟩
def F_SI_POISON_CNT_POISONED : Fld := ⟨10, 0x4, 0, 32, .rc, 0⟩
def F_SI_POISON_MET_MET : Fld := ⟨10, 0x8, 0, 32, .rc, 0⟩
def F_SI_TAG_FAIL_CNT_TAGFAIL : Fld := ⟨10, 0xC, 0, 32, .rc, 0⟩
def F_SI_INJ_ADDR_ADDR_LO : Fld := ⟨10, 0x10, 0, 32, .rw, 0⟩
def F_SI_INJ_ADDR_ADDR_HI : Fld := ⟨10, 0x14, 0, 16, .rw, 0⟩
def F_SI_INJ_CFG_KIND : Fld := ⟨10, 0x18, 0, 3, .rw, 0⟩
def F_SI_INJ_CFG_DEV0 : Fld := ⟨10, 0x18, 4, 4, .rw, 0⟩
def F_SI_INJ_CFG_DEV1 : Fld := ⟨10, 0x18, 8, 4, .rw, 0⟩
def F_SI_INJ_CFG_BIT0 : Fld := ⟨10, 0x18, 12, 8, .rw, 0⟩
def F_SI_INJ_CFG_BIT1 : Fld := ⟨10, 0x18, 20, 8, .rw, 0⟩
def F_SI_INJ_CTL_FIRE : Fld := ⟨10, 0x1C, 0, 1, .wo, 0⟩
def F_SI_INJ_STATUS_LAST : Fld := ⟨10, 0x20, 0, 2, .ro, 0⟩
def F_SI_BIST_JOBS_JOBS : Fld := ⟨10, 0x24, 0, 5, .ro, 0⟩
def F_SI_EVENT_BIST_DONE : Fld := ⟨10, 0x28, 0, 1, .w1c, 0⟩
def F_SI_EVENT_SCRUB_LATE : Fld := ⟨10, 0x28, 1, 1, .w1c, 0⟩
def F_SI_T_SCRUB_STATE : Fld := ⟨10, 0x1000, 0, 2, .ro, 0⟩
def F_SI_T_SCRUB_PERIOD : Fld := ⟨10, 0x1000, 4, 11, .ro, 24⟩
def F_SI_T_SCRUB_PROGRESS : Fld := ⟨10, 0x1000, 16, 10, .ro, 0⟩
def F_SI_T_PASSES_PASSES : Fld := ⟨10, 0x1004, 0, 32, .ro, 0⟩
def F_SI_T_SCRUB_CE_CE : Fld := ⟨10, 0x1008, 0, 32, .rc, 0⟩
def F_SI_T_SCRUB_UE_UE : Fld := ⟨10, 0x100C, 0, 32, .rc, 0⟩
def F_SI_T_BIST_STATE : Fld := ⟨10, 0x1010, 0, 3, .ro, 0⟩
def F_SI_T_BIST_PROGRESS : Fld := ⟨10, 0x1010, 4, 10, .ro, 0⟩
def F_SI_T_BIST_FAILS_FAILS : Fld := ⟨10, 0x1014, 0, 32, .ro, 0⟩
def F_SI_T_PASS_PASS : Fld := ⟨10, 0x1018, 0, 8, .ro, 0⟩
def F_SI_T_ONDIE_CE_ONDIE_CE : Fld := ⟨10, 0x101C, 0, 32, .rc, 0⟩
/-! Block LK: Tables 12.14, 12.15. -/
def F_LK_CFG_CREDIT_TIMEOUT : Fld := ⟨11, 0x0, 0, 16, .rw, 10⟩
def F_LK_CFG_TIME_PERIOD : Fld := ⟨11, 0x0, 16, 16, .rw, 125⟩
def F_LK_VIOL_CFG_LIMIT : Fld := ⟨11, 0x4, 0, 16, .rw, 256⟩
def F_LK_VIOL_CFG_WINDOW : Fld := ⟨11, 0x4, 16, 16, .rw, 1000⟩
def F_LK_UP_UP_LO : Fld := ⟨11, 0x8, 0, 32, .ro, 0⟩
def F_LK_UP_UP_HI : Fld := ⟨11, 0xC, 0, 16, .ro, 0⟩
def F_LK_L_STATUS_STATE : Fld := ⟨11, 0x1000, 0, 3, .ro, 1⟩
def F_LK_L_STATUS_WIDTH : Fld := ⟨11, 0x1000, 4, 2, .ro, 0⟩
def F_LK_L_STATUS_RATE : Fld := ⟨11, 0x1000, 6, 1, .ro, 0⟩
def F_LK_L_STATUS_QCAUSE : Fld := ⟨11, 0x1000, 8, 3, .ro, 0⟩
def F_LK_L_STATUS_LANES : Fld := ⟨11, 0x1000, 12, 4, .ro, 0⟩
def F_LK_L_STATUS_SESSIONS : Fld := ⟨11, 0x1000, 16, 6, .ro, 0⟩
def F_LK_L_CTL_CMD : Fld := ⟨11, 0x1004, 0, 3, .wo, 0⟩
def F_LK_L_CFG_MAX_RATE : Fld := ⟨11, 0x1008, 0, 1, .rw, 1⟩
def F_LK_L_CFG_MIN_WIDTH : Fld := ⟨11, 0x1008, 1, 2, .rw, 1⟩
def F_LK_L_CFG_ROLE : Fld := ⟨11, 0x1008, 3, 1, .rw, 1⟩
def F_LK_L_HOLD_HOLDOFF : Fld := ⟨11, 0x100C, 0, 9, .ro, 10⟩
def F_LK_L_HOLD_REMAIN : Fld := ⟨11, 0x100C, 16, 9, .ro, 0⟩
def F_LK_L_EXPECT_HASH_HASH : Fld := ⟨11, 0x1010, 0, 32, .rw, 0⟩
def F_LK_L_PARTNER_ID : Fld := ⟨11, 0x1020, 0, 32, .ro, 0⟩
def F_LK_L_PARTNER_FW_FW : Fld := ⟨11, 0x1024, 0, 24, .ro, 0⟩
def F_LK_L_LASTDROP_CAUSE : Fld := ⟨11, 0x1028, 0, 4, .ro, 0⟩
def F_LK_L_CRC_CNT_CRC : Fld := ⟨11, 0x102C, 0, 32, .rc, 0⟩
def F_LK_L_REPLAY_CNT_REPLAY : Fld := ⟨11, 0x1030, 0, 32, .rc, 0⟩
def F_LK_L_VIOL_CNT_VIOL : Fld := ⟨11, 0x1034, 0, 32, .rc, 0⟩
def F_LK_L_AUTH_FAIL_AUTH : Fld := ⟨11, 0x1038, 0, 32, .rc, 0⟩
def F_LK_L_DROPS_DROPS : Fld := ⟨11, 0x103C, 0, 32, .rc, 0⟩
def F_LK_L_FEC_CE_CE : Fld := ⟨11, 0x1040, 0, 32, .rc, 0⟩
def F_LK_L_FEC_UE_UE : Fld := ⟨11, 0x1044, 0, 32, .rc, 0⟩
def F_LK_L_TIME_LAT_TIME_LAT : Fld := ⟨11, 0x1048, 0, 16, .ro, 0⟩
/-! Block CN: Tables 13.7, 13.8. -/
def F_CN_STATUS_STATE : Fld := ⟨12, 0x0, 0, 2, .ro, 0⟩
def F_CN_STATUS_MEMBER : Fld := ⟨12, 0x0, 8, 5, .ro, 0⟩
def F_CN_STATUS_TIME_DEGRADED : Fld := ⟨12, 0x0, 16, 1, .ro, 0⟩
def F_CN_STATUS_TIME_SOURCE : Fld := ⟨12, 0x0, 17, 1, .ro, 0⟩
def F_CN_STATUS_SWITCHING : Fld := ⟨12, 0x0, 18, 1, .ro, 0⟩
def F_CN_EPOCH_EPOCH : Fld := ⟨12, 0x4, 0, 32, .ro, 0⟩
def F_CN_ID_ID : Fld := ⟨12, 0x8, 0, 16, .rw, 0⟩
def F_CN_TIME_CFG_SLEW_PPM : Fld := ⟨12, 0xC, 0, 10, .rw, 200⟩
def F_CN_OFFSET_OFFSET : Fld := ⟨12, 0x10, 0, 32, .ro, 0⟩
def F_CN_DELAY_DELAY : Fld := ⟨12, 0x14, 0, 32, .ro, 0⟩
def F_CN_HASH_HASH : Fld := ⟨12, 0x18, 0, 32, .ro, 0⟩
def F_CN_REFUSED_REFUSED : Fld := ⟨12, 0x30, 0, 32, .rc, 0⟩
def F_CN_CONFLICT_CONFLICT : Fld := ⟨12, 0x34, 0, 32, .rc, 0⟩
def F_CN_FWD_OUT_OUT : Fld := ⟨12, 0x38, 0, 13, .ro, 0⟩
def F_CN_RELAYED_RELAYED : Fld := ⟨12, 0x3C, 0, 32, .rc, 0⟩
def F_CN_TTL_DROPS_TTL : Fld := ⟨12, 0x40, 0, 32, .rc, 0⟩
def F_CN_KEY_KEY : Fld := ⟨12, 0x100, 0, 32, .rw, 0⟩
def F_CN_M_STATUS_PRESENT : Fld := ⟨12, 0x1000, 0, 1, .ro, 0⟩
def F_CN_M_STATUS_PEER : Fld := ⟨12, 0x1000, 1, 3, .ro, 0⟩
def F_CN_M_STATUS_ROUTE_LINK : Fld := ⟨12, 0x1000, 8, 6, .ro, 63⟩
def F_CN_M_STATUS_NEXT_HOP : Fld := ⟨12, 0x1000, 16, 5, .ro, 0⟩
def F_CN_M_STATUS_SHARDS : Fld := ⟨12, 0x1000, 21, 9, .ro, 0⟩
def F_CN_M_JOIN_JOIN : Fld := ⟨12, 0x1004, 0, 32, .ro, 0⟩
/-! Block HP: Tables 14.12, 14.13. -/
def F_HP_STATUS_RATE : Fld := ⟨13, 0x0, 0, 3, .ro, 0⟩
def F_HP_STATUS_WIDTH : Fld := ⟨13, 0x0, 4, 5, .ro, 0⟩
def F_HP_STATUS_FLIT : Fld := ⟨13, 0x0, 9, 1, .ro, 0⟩
def F_HP_STATUS_CXL : Fld := ⟨13, 0x0, 10, 1, .ro, 0⟩
def F_HP_STATUS_CXL_NEG : Fld := ⟨13, 0x0, 11, 1, .ro, 0⟩
def F_HP_STATUS_SLOW : Fld := ⟨13, 0x0, 12, 1, .ro, 0⟩
def F_HP_CFG_IDE_REQUIRED : Fld := ⟨13, 0x4, 0, 1, .rwl, 0⟩
def F_HP_UR_CNT_ERR : Fld := ⟨13, 0x8, 0, 32, .rc, 0⟩
def F_HP_CTO_CNT_CTO : Fld := ⟨13, 0xC, 0, 32, .rc, 0⟩
def F_HP_POISON_RX_POISON : Fld := ⟨13, 0x10, 0, 32, .rc, 0⟩
def F_HP_APT_REFUSED_REFUSED : Fld := ⟨13, 0x14, 0, 32, .rc, 0⟩
def F_HP_IDE_FAIL_IDE : Fld := ⟨13, 0x18, 0, 32, .rc, 0⟩
def F_HP_MCTP_DROP_DROP : Fld := ⟨13, 0x1C, 0, 32, .rc, 0⟩
def F_HP_CXL_CFG_TENANT : Fld := ⟨13, 0x20, 0, 10, .rw, 0⟩
def F_HP_CXL_CFG_ENABLE : Fld := ⟨13, 0x20, 31, 1, .rw, 0⟩
def F_HP_CXL_STATUS_BOUND : Fld := ⟨13, 0x24, 0, 1, .ro, 0⟩
def F_HP_CXL_STATUS_BINDING : Fld := ⟨13, 0x24, 1, 1, .ro, 0⟩
def F_HP_CXL_STATUS_LAST : Fld := ⟨13, 0x24, 2, 2, .ro, 0⟩
def F_HP_APT_CFG_TENANT : Fld := ⟨13, 0x1000, 0, 10, .rw, 0⟩
def F_HP_APT_CFG_BINDING : Fld := ⟨13, 0x1000, 30, 1, .ro, 0⟩
def F_HP_APT_CFG_ENABLE : Fld := ⟨13, 0x1000, 31, 1, .rw, 0⟩
def F_HP_APT_BASE_FIRST_TFN : Fld := ⟨13, 0x1004, 0, 24, .rw, 0⟩
def F_HP_APT_STATUS_LAST : Fld := ⟨13, 0x1008, 0, 2, .ro, 0⟩
/-! Block TN: Tables 2.7, 15.6, 15.7. -/
def F_TN_COUNT_COUNT : Fld := ⟨14, 0x0, 0, 11, .ro, 1⟩
def F_TN_RES_LIMIT_HOT : Fld := ⟨14, 0x4, 0, 16, .ro, 0⟩
def F_TN_RES_LIMIT_WARM : Fld := ⟨14, 0x4, 16, 16, .ro, 0⟩
def F_TN_RES_SUM_HOT : Fld := ⟨14, 0x8, 0, 16, .ro, 0⟩
def F_TN_RES_SUM_WARM : Fld := ⟨14, 0x8, 16, 16, .ro, 0⟩
def F_TN_MAP_POOL_FREE_FREE : Fld := ⟨14, 0xC, 0, 29, .ro, 0⟩
def F_TN_T_STATUS_STATE : Fld := ⟨14, 0x1000, 0, 2, .ro, 0⟩
def F_TN_T_STATUS_SHARE_GROUP : Fld := ⟨14, 0x1000, 8, 8, .ro, 0⟩
def F_TN_T_STATUS_TAGS : Fld := ⟨14, 0x1000, 16, 1, .ro, 0⟩
def F_TN_T_QE_WEIGHT_W1 : Fld := ⟨14, 0x1004, 0, 8, .ro, 0⟩
def F_TN_T_QE_WEIGHT_W2 : Fld := ⟨14, 0x1004, 8, 8, .ro, 0⟩
def F_TN_T_QE_WEIGHT_W3 : Fld := ⟨14, 0x1004, 16, 8, .ro, 0⟩
def F_TN_T_SHARE_DATA_WEIGHT : Fld := ⟨14, 0x1008, 0, 8, .ro, 0⟩
def F_TN_T_SHARE_CARREL_WEIGHT : Fld := ⟨14, 0x1008, 8, 8, .ro, 0⟩
def F_TN_T_SHARE_CARREL_MAX : Fld := ⟨14, 0x1008, 16, 7, .ro, 0⟩
def F_TN_T_RESERVE_HOT : Fld := ⟨14, 0x100C, 0, 16, .ro, 0⟩
def F_TN_T_RESERVE_WARM : Fld := ⟨14, 0x100C, 16, 16, .ro, 0⟩
def F_TN_T_CAP_HOT : Fld := ⟨14, 0x1010, 0, 16, .ro, 0⟩
def F_TN_T_CAP_WARM : Fld := ⟨14, 0x1010, 16, 16, .ro, 0⟩
def F_TN_T_STREAMS_QUOTA : Fld := ⟨14, 0x1014, 0, 13, .ro, 0⟩
def F_TN_T_STREAMS_USED : Fld := ⟨14, 0x1014, 16, 13, .ro, 0⟩
def F_TN_T_QUEUES_QUEUES : Fld := ⟨14, 0x1018, 0, 17, .ro, 0⟩
def F_TN_T_VFS_VFS_LO : Fld := ⟨14, 0x101C, 0, 32, .ro, 0⟩
def F_TN_T_VFS_VFS_HI : Fld := ⟨14, 0x1020, 0, 32, .ro, 0⟩
def F_TN_MAP_LEN_LEN : Fld := ⟨14, 0x1100, 0, 25, .ro, 0⟩
def F_TN_MAP_EPOCH_CURRENT : Fld := ⟨14, 0x1104, 0, 16, .ro, 0⟩
def F_TN_MAP_EPOCH_DRAINING : Fld := ⟨14, 0x1104, 16, 1, .ro, 0⟩
def F_TN_MAP_EPOCH_WINDOW : Fld := ⟨14, 0x1104, 17, 1, .ro, 0⟩
def F_TN_MAP_OLDCNT_OLDCNT : Fld := ⟨14, 0x1108, 0, 15, .ro, 0⟩
def F_TN_MAP_REFUSED_REFUSED : Fld := ⟨14, 0x110C, 0, 32, .rc, 0⟩
/-! Block IR: Tables 15.8, 15.9. -/
def F_IR_EVT_STATUS_STATUS : Fld := ⟨15, 0x0, 0, 8, .w1c, 0⟩
def F_IR_EVT_MASK_MASK : Fld := ⟨15, 0x4, 0, 8, .rw, 255⟩
def F_IR_EVT_CFG_VECTOR : Fld := ⟨15, 0x8, 0, 11, .rw, 16⟩
def F_IR_F_VSEL_VSEL : Fld := ⟨15, 0x1000, 0, 11, .rw, 0⟩
def F_IR_F_VSEL_VINVALID : Fld := ⟨15, 0x1000, 31, 1, .ro, 0⟩
def F_IR_F_COAL_COUNT : Fld := ⟨15, 0x1004, 0, 8, .rw, 1⟩
def F_IR_F_COAL_TIME : Fld := ⟨15, 0x1004, 16, 16, .rw, 0⟩
def F_IR_F_VPEND_PENDING : Fld := ⟨15, 0x1008, 0, 16, .ro, 0⟩
def F_IR_F_SENT_SENT : Fld := ⟨15, 0x100C, 0, 32, .rc, 0⟩
def F_IR_F_EVT_CFG_VECTOR : Fld := ⟨15, 0x1010, 0, 11, .rw, 0⟩
def F_IR_F_EVT_CFG_ENABLE : Fld := ⟨15, 0x1010, 16, 1, .rw, 0⟩
def F_IR_F_EVT_STATUS_STATUS : Fld := ⟨15, 0x1014, 0, 3, .w1c, 0⟩
/-! Block RS: Table 22.4. -/
def F_RS_CAUSE_CAUSE : Fld := ⟨16, 0x0, 0, 3, .ro, 0⟩
def F_RS_CAUSE_KIND : Fld := ⟨16, 0x0, 8, 8, .ro, 0⟩
def F_RS_DEV_CNT_COUNT : Fld := ⟨16, 0x4, 0, 16, .ro, 0⟩
/-! Block ER: Table 20.7. -/
def F_ER_WPTR_WPTR : Fld := ⟨17, 0x0, 0, 32, .ro, 0⟩
def F_ER_RPTR_RPTR : Fld := ⟨17, 0x4, 0, 32, .rw, 0⟩
def F_ER_OVF_CNT_OVF : Fld := ⟨17, 0x8, 0, 32, .rc, 0⟩
def F_ER_STATUS_FULL : Fld := ⟨17, 0xC, 0, 1, .ro, 0⟩
def F_ER_STATUS_PREV_FATAL : Fld := ⟨17, 0xC, 1, 1, .ro, 0⟩
def F_ER_STATUS_RECOVERING : Fld := ⟨17, 0xC, 2, 1, .ro, 0⟩
def F_ER_STATUS_PREV_COUNT : Fld := ⟨17, 0xC, 3, 8, .ro, 0⟩
def F_ER_PREV_CTL_ACK : Fld := ⟨17, 0x10, 0, 1, .wo, 0⟩
def F_ER_CFG_LOCK_WD : Fld := ⟨17, 0x14, 0, 16, .rw, 1000⟩
def F_ER_CFG_HANG_WD : Fld := ⟨17, 0x14, 16, 16, .rw, 10⟩
def F_ER_CORES_CORES : Fld := ⟨17, 0x18, 0, 8, .ro, 255⟩
def F_ER_ESC_CNT_ESC : Fld := ⟨17, 0x1C, 0, 32, .rc, 0⟩
def F_ER_PREV_RECORD_PREV : Fld := ⟨17, 0x20, 0, 32, .ro, 0⟩
/-! Block CK: Tables 18.5, 18.6. -/
def F_CK_PWR_STATUS_STATE : Fld := ⟨18, 0x0, 0, 2, .ro, 0⟩
def F_CK_PWR_STATUS_ENTERING : Fld := ⟨18, 0x0, 2, 1, .ro, 0⟩
def F_CK_PWR_STATUS_LAST : Fld := ⟨18, 0x0, 4, 4, .ro, 0⟩
def F_CK_PWR_STATUS_WAKE_CAUSE : Fld := ⟨18, 0x0, 8, 3, .ro, 0⟩
def F_CK_PWR_CFG_DEEPEST : Fld := ⟨18, 0x4, 0, 2, .rw, 2⟩
def F_CK_PWR_CTL_CMD : Fld := ⟨18, 0x8, 0, 2, .wo, 0⟩
def F_CK_IDLE_CR_GATE_US : Fld := ⟨18, 0xC, 0, 16, .rw, 20⟩
def F_CK_IDLE_CR_OFF_US : Fld := ⟨18, 0xC, 16, 16, .rw, 2000⟩
def F_CK_IDLE_MEM_SR_US : Fld := ⟨18, 0x10, 0, 16, .rw, 500⟩
def F_CK_IDLE_MEM_ENG_US : Fld := ⟨18, 0x10, 16, 16, .rw, 100⟩
def F_CK_IDLE_LINK_SLEEP_US : Fld := ⟨18, 0x14, 0, 16, .rw, 1000⟩
def F_CK_S3_TIMER_SECONDS : Fld := ⟨18, 0x18, 0, 32, .rw, 0⟩
def F_CK_WAKE_PENDING : Fld := ⟨18, 0x1C, 0, 8, .ro, 0⟩
def F_CK_WAKE_REFUSED_REFUSED : Fld := ⟨18, 0x20, 0, 32, .rc, 0⟩
def F_CK_THERM_CAP_MHZ : Fld := ⟨18, 0x24, 0, 11, .ro, 1250⟩
def F_CK_D_STATUS_RUN : Fld := ⟨18, 0x1000, 0, 2, .ro, 0⟩
def F_CK_D_STATUS_ABSENT : Fld := ⟨18, 0x1000, 2, 1, .ro, 0⟩
def F_CK_D_STATUS_MHZ : Fld := ⟨18, 0x1000, 4, 12, .ro, 0⟩
def F_CK_D_FMAX_FMAX : Fld := ⟨18, 0x1004, 0, 11, .rw, 1250⟩
def F_CK_D_FAULTS_FAULTS : Fld := ⟨18, 0x1008, 0, 32, .rc, 0⟩
/-! Block PW: Tables 19.5 to 19.8. -/
def F_PW_STATUS_FAULT : Fld := ⟨19, 0x0, 0, 8, .ro, 0⟩
def F_PW_STATUS_CAL_INVALID : Fld := ⟨19, 0x0, 8, 1, .ro, 0⟩
def F_PW_STATUS_PWR_FAULT : Fld := ⟨19, 0x0, 9, 1, .ro, 0⟩
def F_PW_STATUS_RETRY_WAIT : Fld := ⟨19, 0x0, 10, 1, .ro, 0⟩
def F_PW_ALERT_ALERT : Fld := ⟨19, 0x4, 0, 7, .w1c, 0⟩
def F_PW_ALERT_MASK_MASK : Fld := ⟨19, 0x8, 0, 7, .rw, 127⟩
def F_PW_CTL_RETRY : Fld := ⟨19, 0xC, 0, 1, .wo, 0⟩
def F_PW_HEADROOM_PCT : Fld := ⟨19, 0x10, 0, 7, .rw, 90⟩
def F_PW_VIN_VIN : Fld := ⟨19, 0x14, 0, 16, .ro, 0⟩
def F_PW_PLAUS_ABS : Fld := ⟨19, 0x18, 0, 8, .rw, 16⟩
def F_PW_PLAUS_REL : Fld := ⟨19, 0x18, 8, 8, .rw, 25⟩
def F_PW_PLAUS_VABS : Fld := ⟨19, 0x18, 16, 8, .rw, 20⟩
def F_PW_DIAG_DCR : Fld := ⟨19, 0x1C, 0, 8, .rw, 20⟩
def F_PW_DIAG_GAIN : Fld := ⟨19, 0x1C, 8, 8, .rw, 10⟩
def F_PW_VSET_CLAMP_CLAMP : Fld := ⟨19, 0x20, 0, 32, .rc, 0⟩
def F_PW_L_STATUS_STATE : Fld := ⟨19, 0x1000, 0, 3, .ro, 0⟩
def F_PW_L_STATUS_CAUSE : Fld := ⟨19, 0x1000, 4, 4, .ro, 0⟩
def F_PW_L_STATUS_ACTIVE : Fld := ⟨19, 0x1000, 8, 5, .ro, 0⟩
def F_PW_L_STATUS_VSET_VALID : Fld := ⟨19, 0x1000, 13, 1, .ro, 0⟩
def F_PW_L_STATUS_LAST : Fld := ⟨19, 0x1000, 16, 3, .ro, 0⟩
def F_PW_P_STATUS_STATE : Fld := ⟨19, 0x1000, 0, 2, .ro, 0⟩
def F_PW_P_STATUS_DIAG : Fld := ⟨19, 0x1000, 4, 4, .ro, 0⟩
def F_PW_P_STATUS_DCR_WARN : Fld := ⟨19, 0x1000, 8, 1, .ro, 0⟩
def F_PW_P_STATUS_GAIN_WARN : Fld := ⟨19, 0x1000, 9, 1, .ro, 0⟩
def F_PW_P_STATUS_TMON_OPEN : Fld := ⟨19, 0x1000, 10, 1, .ro, 0⟩
def F_PW_T_STATUS_TEMP : Fld := ⟨19, 0x1000, 0, 12, .ro, 0⟩
def F_PW_T_STATUS_OPEN : Fld := ⟨19, 0x1000, 12, 1, .ro, 0⟩
def F_PW_T_STATUS_STALE : Fld := ⟨19, 0x1000, 13, 1, .ro, 0⟩
def F_PW_L_CFG_SRC : Fld := ⟨19, 0x1004, 0, 2, .rw, 0⟩
def F_PW_L_CFG_VSEL : Fld := ⟨19, 0x1004, 2, 2, .rw, 0⟩
def F_PW_L_CFG_ORDER : Fld := ⟨19, 0x1004, 4, 1, .rw, 0⟩
def F_PW_L_CFG_MINPHASE : Fld := ⟨19, 0x1004, 5, 1, .rw, 0⟩
def F_PW_L_CFG_THERM : Fld := ⟨19, 0x1004, 8, 3, .rw, 0⟩
def F_PW_L_CFG_NMIN : Fld := ⟨19, 0x1004, 11, 5, .rw, 1⟩
def F_PW_P_CURRENT_IMEAS : Fld := ⟨19, 0x1004, 0, 16, .ro, 0⟩
def F_PW_P_CURRENT_IMODEL : Fld := ⟨19, 0x1004, 16, 16, .ro, 0⟩
def F_PW_L_CTL_CMD : Fld := ⟨19, 0x1008, 0, 2, .wo, 0⟩
def F_PW_P_TEMP_TS : Fld := ⟨19, 0x1008, 0, 12, .ro, 0⟩
def F_PW_P_TEMP_TL : Fld := ⟨19, 0x1008, 16, 12, .ro, 0⟩
def F_PW_L_VSET_VSET : Fld := ⟨19, 0x100C, 0, 13, .rw, 0⟩
def F_PW_P_DCR_DCR : Fld := ⟨19, 0x100C, 0, 16, .ro, 0⟩
def F_PW_P_DCR_CAL : Fld := ⟨19, 0x100C, 16, 16, .ro, 0⟩
def F_PW_L_VOUT_VOUT : Fld := ⟨19, 0x1010, 0, 13, .ro, 0⟩
def F_PW_L_VOUT_VCMD : Fld := ⟨19, 0x1010, 16, 13, .ro, 0⟩
def F_PW_P_ILIM_ILIM : Fld := ⟨19, 0x1010, 0, 12, .rw, 0⟩
def F_PW_L_IOUT_IOUT : Fld := ⟨19, 0x1014, 0, 16, .ro, 0⟩
def F_PW_L_IOUT_CAP : Fld := ⟨19, 0x1014, 16, 16, .ro, 0⟩
def F_PW_P_CTL_REINSTATE : Fld := ⟨19, 0x1014, 0, 1, .wo, 0⟩
def F_PW_L_FOLLOW_LIMIT : Fld := ⟨19, 0x1018, 0, 8, .rw, 25⟩
def F_PW_L_FOLLOW_TIME : Fld := ⟨19, 0x1018, 16, 8, .rw, 20⟩
def F_PW_L_SLEW_SLEW : Fld := ⟨19, 0x101C, 0, 8, .rw, 10⟩
def F_PW_L_OVUV_OV : Fld := ⟨19, 0x1020, 0, 8, .rw, 50⟩
def F_PW_L_OVUV_UV : Fld := ⟨19, 0x1020, 8, 8, .rw, 50⟩
def F_PW_L_TEMP_HOT : Fld := ⟨19, 0x1024, 0, 12, .ro, 0⟩
def F_PW_L_HOT_WARN : Fld := ⟨19, 0x1028, 0, 12, .rw, 760⟩
def F_PW_L_HOT_TRIP : Fld := ⟨19, 0x1028, 16, 12, .rw, 880⟩
def F_PW_L_SHED_SHED : Fld := ⟨19, 0x102C, 0, 12, .rw, 240⟩
def F_PW_L_DMAX_DMAX : Fld := ⟨19, 0x1030, 0, 13, .rw, 2048⟩
def F_PW_L_B0_COEF : Fld := ⟨19, 0x1040, 0, 24, .rw, 0⟩
/-! Block TM: Table 22.5. -/
def F_TM_COUNT_LO : Fld := ⟨20, 0x0, 0, 32, .ro, 0⟩
def F_TM_COUNT_HI : Fld := ⟨20, 0x4, 0, 32, .ro, 0⟩
def F_TM_STATUS_FALLBACK : Fld := ⟨20, 0x8, 0, 1, .ro, 0⟩
/-! Block SE: Tables 16.10, 17.8. -/
def F_SE_STATUS_LC : Fld := ⟨21, 0x0, 0, 3, .ro, 0⟩
def F_SE_STATUS_DEBUG : Fld := ⟨21, 0x0, 4, 2, .ro, 0⟩
def F_SE_STATUS_TAMPERED : Fld := ⟨21, 0x0, 6, 1, .ro, 0⟩
def F_SE_STATUS_WRAP : Fld := ⟨21, 0x0, 7, 1, .ro, 0⟩
def F_SE_STATUS_RTP_SLOT : Fld := ⟨21, 0x0, 8, 1, .ro, 0⟩
def F_SE_STATUS_CTL_SLOT : Fld := ⟨21, 0x0, 9, 1, .ro, 0⟩
def F_SE_STATUS_TRIAL : Fld := ⟨21, 0x0, 10, 1, .ro, 0⟩
def F_SE_STATUS_RTP_ONLY : Fld := ⟨21, 0x0, 11, 1, .ro, 0⟩
def F_SE_SVN_RTP : Fld := ⟨21, 0x4, 0, 8, .ro, 0⟩
def F_SE_SVN_RTP_EXH : Fld := ⟨21, 0x4, 8, 1, .ro, 0⟩
def F_SE_SVN_CTL : Fld := ⟨21, 0x4, 16, 8, .ro, 0⟩
def F_SE_SVN_CTL_EXH : Fld := ⟨21, 0x4, 24, 1, .ro, 0⟩
def F_SE_MBX_CTL_GO : Fld := ⟨21, 0x8, 0, 1, .wo, 0⟩
def F_SE_MBX_STATUS_STATE : Fld := ⟨21, 0xC, 0, 2, .ro, 0⟩
def F_SE_AUTH_FAIL_AUTH : Fld := ⟨21, 0x10, 0, 32, .rc, 0⟩
def F_SE_VBAT_NOW_LO : Fld := ⟨21, 0x18, 0, 32, .ro, 0⟩
def F_SE_VBAT_NOW_HI : Fld := ⟨21, 0x1C, 0, 16, .ro, 0⟩
def F_SE_KEY_CFG_CAP_MS : Fld := ⟨21, 0x100, 0, 11, .rw, 50⟩
def F_SE_KEY_FREE_FREE : Fld := ⟨21, 0x104, 0, 11, .ro, 1984⟩
def F_SE_KEY_FREE_RETIRING : Fld := ⟨21, 0x104, 16, 11, .ro, 0⟩
def F_SE_KEY_LOST_LOST : Fld := ⟨21, 0x108, 0, 11, .ro, 0⟩
def F_SE_KEY_ABORTS_ABORTS : Fld := ⟨21, 0x10C, 0, 32, .rc, 0⟩
def F_SE_WEIGHT_MIB_MIB : Fld := ⟨21, 0x110, 0, 32, .rc, 0⟩
def F_SE_MBX_BUF_BUF : Fld := ⟨21, 0x400, 0, 32, .rw, 0⟩
/-! Block DB: Table 16.12. -/
def F_DB_STATUS_DEBUG : Fld := ⟨22, 0x0, 0, 2, .ro, 0⟩
def F_DB_STATUS_EXTEST_HOLD : Fld := ⟨22, 0x0, 2, 1, .ro, 0⟩
def F_DB_STATUS_DAP_OPEN : Fld := ⟨22, 0x0, 3, 1, .ro, 0⟩
def F_DB_STATUS_SIGNER : Fld := ⟨22, 0x0, 4, 2, .ro, 0⟩

/-- The register words of block TOP: Tables 21.8, 22.3. -/
def regWordsTOP : List RegWord := [
  ⟨0, 0x0, 1, .plain, [F_TOP_ID_PART, F_TOP_ID_STEPPING, F_TOP_ID_STACKS]⟩,
  ⟨0, 0x4, 1, .plain, [F_TOP_CMDSET_REV]⟩,
  ⟨0, 0x8, 1, .plain, [F_TOP_FW_VERSION_VERSION]⟩,
  ⟨0, 0xC, 1, .plain, [F_TOP_RTP_VERSION_VERSION]⟩,
  ⟨0, 0x10, 1, .plain, [F_TOP_HOT_FOLIOS_COUNT]⟩,
  ⟨0, 0x14, 1, .plain, [F_TOP_WARM_FOLIOS_COUNT]⟩,
  ⟨0, 0x18, 1, .plain, [F_TOP_META_SIZE_COUNT]⟩,
  ⟨0, 0x20, 1, .plain, [F_TOP_BAD_ACCESS_CNT_COUNT]⟩,
  ⟨0, 0x24, 1, .plain, [F_TOP_BAD_ACCESS_ADDR_OFFSET]⟩,
  ⟨0, 0x28, 1, .plain, [F_TOP_BAD_ACCESS_PORT_PORT, F_TOP_BAD_ACCESS_PORT_VALID]⟩,
  ⟨0, 0x30, 1, .plain, [F_TOP_ADMIN_STATUS_HDR_WRITE, F_TOP_ADMIN_STATUS_RESET_PENDING]⟩,
  ⟨0, 0x200, 1, .plain, [F_TOP_BOOT_STATUS_STAGE, F_TOP_BOOT_STATUS_CFG_DEFAULT, F_TOP_BOOT_STATUS_MEM_WAIT, F_TOP_BOOT_STATUS_NO_POOL, F_TOP_BOOT_STATUS_HOT_READY, F_TOP_BOOT_STATUS_POOL_READY]⟩,
  ⟨0, 0x204, 1, .plain, [F_TOP_BOOT_CTL_MEM_GO]⟩,
  ⟨0, 0x208, 1, .plain, [F_TOP_ZERO_LEFT_LEFT]⟩,
  ⟨0, 0x20C, 1, .plain, [F_TOP_CAL_STATUS_VALID, F_TOP_CAL_STATUS_PENDING, F_TOP_CAL_STATUS_WRITE, F_TOP_CAL_STATUS_BAD_CHECK, F_TOP_CAL_STATUS_BAD_SECTION]⟩,
  ⟨0, 0x210, 1, .plain, [F_TOP_CAL_CRC_CRC]⟩,
  ⟨0, 0x214, 1, .plain, [F_TOP_PERST_CNT_COUNT]⟩,
  ⟨0, 0x218, 1, .plain, [F_TOP_INPUTS_LEVEL]⟩]
/-- The register words of block QE: Tables 2.8, 3.7, 3.8. -/
def regWordsQE : List RegWord := [
  ⟨1, 0x0, 1, .plain, [F_QE_DESC_FREE_FREE]⟩,
  ⟨1, 0x10, 1, .plain, [F_QE_FREEZE_LIMIT_LIMIT]⟩,
  ⟨1, 0x14, 1, .plain, [F_QE_FREEZE_WINDOW_WINDOW]⟩,
  ⟨1, 0x18, 1, .plain, [F_QE_STARVE_LIMIT_STARVE]⟩,
  ⟨1, 0x1C, 1, .plain, [F_QE_FROZEN_CNT_FROZEN]⟩,
  ⟨1, 0x20, 1, .plain, [F_QE_BAD_DOORBELL_CNT_BADDB]⟩,
  ⟨1, 0x100, 1, .plain, [F_QE_XSTORE_FREE_FREE]⟩,
  ⟨1, 0x104, 1, .plain, [F_QE_XSTORE_WAITS_WAITS]⟩,
  ⟨1, 0x1000, 1, .plain, [F_QE_Q_BIND_TENANT, F_QE_Q_BIND_ORIGIN]⟩,
  ⟨1, 0x1004, 1, .plain, [F_QE_Q_CFG_LOG2SIZE, F_QE_Q_CFG_CLASS, F_QE_Q_CFG_LOC, F_QE_Q_CFG_MAXINFLIGHT, F_QE_Q_CFG_TIMEOUT_MS]⟩,
  ⟨1, 0x1008, 1, .plain, [F_QE_Q_SQBASE_SQBASE_LO]⟩,
  ⟨1, 0x100C, 1, .plain, [F_QE_Q_SQBASE_SQBASE_HI]⟩,
  ⟨1, 0x1010, 1, .plain, [F_QE_Q_CQBASE_CQBASE_LO]⟩,
  ⟨1, 0x1014, 1, .plain, [F_QE_Q_CQBASE_CQBASE_HI]⟩,
  ⟨1, 0x1018, 1, .plain, [F_QE_Q_CTL_CMD]⟩,
  ⟨1, 0x101C, 1, .plain, [F_QE_Q_STATUS_STATE, F_QE_Q_STATUS_PHASE, F_QE_Q_STATUS_ACCEPT_WAIT, F_QE_Q_STATUS_LAST_CTL, F_QE_Q_STATUS_FREEZE_CAUSE]⟩,
  ⟨1, 0x1020, 1, .plain, [F_QE_Q_SQPTR_SQ_HEAD, F_QE_Q_SQPTR_SQ_TAIL]⟩,
  ⟨1, 0x1024, 1, .plain, [F_QE_Q_CQPTR_CQ_TAIL, F_QE_Q_CQPTR_CQ_HEAD]⟩,
  ⟨1, 0x1028, 1, .plain, [F_QE_Q_INFLIGHT_INFLIGHT]⟩,
  ⟨1, 0x102C, 1, .plain, [F_QE_Q_REFUSED_REFUSED]⟩,
  ⟨1, 0x1030, 1, .plain, [F_QE_Q_WINCNT_WINCNT]⟩]
/-- The register words of block FN: Tables 4.5 to 4.7. -/
def regWordsFN : List RegWord := [
  ⟨2, 0x0, 1, .plain, [F_FN_WAIT_DEFAULT_WAIT]⟩,
  ⟨2, 0x4, 1, .plain, [F_FN_STREAMS_COUNT]⟩,
  ⟨2, 0x8, 1, .plain, [F_FN_LIST_FREE_FREE]⟩,
  ⟨2, 0xC, 1, .plain, [F_FN_STALE_CNT_STALE]⟩,
  ⟨2, 0x10, 1, .plain, [F_FN_SAT_CNT_SAT]⟩,
  ⟨2, 0x1000, 1, .fence, [F_FN_F_VALUE_LO]⟩,
  ⟨2, 0x1000, 1, .stream, [F_FN_S_STATE_STATE, F_FN_S_STATE_TENANT]⟩,
  ⟨2, 0x1004, 1, .fence, [F_FN_F_VALUE_HI]⟩,
  ⟨2, 0x1004, 1, .stream, [F_FN_S_SHAPE_LAYERS, F_FN_S_SHAPE_HEADS, F_FN_S_SHAPE_HDIM, F_FN_S_SHAPE_TPF]⟩,
  ⟨2, 0x1008, 1, .fence, [F_FN_F_BIND_TENANT, F_FN_F_BIND_BOUND]⟩,
  ⟨2, 0x1008, 1, .stream, [F_FN_S_PREFIX_PREFIX]⟩,
  ⟨2, 0x100C, 1, .fence, [F_FN_F_WAITERS_WAITERS]⟩,
  ⟨2, 0x100C, 1, .stream, [F_FN_S_LISTLEN_LEN]⟩,
  ⟨2, 0x1010, 1, .stream, [F_FN_S_COMMIT_TOKEN_TOKEN]⟩,
  ⟨2, 0x1014, 1, .stream, [F_FN_S_COMMIT_STEP_STEP]⟩,
  ⟨2, 0x1400, 256, .stream, [F_FN_S_WM_WM]⟩]
/-- The register words of block CT: Tables 5.6, 5.7. -/
def regWordsCT : List RegWord := [
  ⟨3, 0x0, 1, .plain, [F_CT_CFG_FIXED_LAT, F_CT_CFG_FWD_TIMEOUT]⟩,
  ⟨3, 0x4, 1, .plain, [F_CT_ENTRIES_COUNT]⟩,
  ⟨3, 0x8, 1, .plain, [F_CT_STASH_USED]⟩,
  ⟨3, 0xC, 1, .plain, [F_CT_SEGMENTS_COUNT]⟩,
  ⟨3, 0x10, 1, .plain, [F_CT_LEDGER_FREE_FREE]⟩,
  ⟨3, 0x14, 1, .plain, [F_CT_EVICT_CNT_EVICT]⟩,
  ⟨3, 0x18, 1, .plain, [F_CT_MOVED_CNT_MOVED]⟩,
  ⟨3, 0x1C, 1, .plain, [F_CT_LATE_CNT_LATE]⟩,
  ⟨3, 0x1000, 1, .plain, [F_CT_G_QUOTA_QUOTA]⟩,
  ⟨3, 0x1004, 1, .plain, [F_CT_G_RESERVE_RESERVE]⟩,
  ⟨3, 0x1008, 1, .plain, [F_CT_G_HOLD_HOLD]⟩,
  ⟨3, 0x100C, 1, .plain, [F_CT_G_COUNT_COUNT]⟩,
  ⟨3, 0x1010, 1, .plain, [F_CT_G_HITS_HITS]⟩,
  ⟨3, 0x1014, 1, .plain, [F_CT_G_MISSES_MISSES]⟩]
/-- The register words of block CR: Tables 6.13, 6.14. -/
def regWordsCR : List RegWord := [
  ⟨4, 0x0, 1, .plain, [F_CR_CLUSTER_STATE_STATE]⟩,
  ⟨4, 0x4, 1, .plain, [F_CR_ATTEND_CFG_TASKS, F_CR_ATTEND_CFG_MIN_RANGE]⟩,
  ⟨4, 0x8, 1, .plain, [F_CR_KLIB_VERSION_VERSION]⟩,
  ⟨4, 0xC, 1, .plain, [F_CR_CLUSTER_CTL_CLUSTER, F_CR_CLUSTER_CTL_CMD]⟩,
  ⟨4, 0x10, 1, .plain, [F_CR_TASKS_TASKS]⟩,
  ⟨4, 0x14, 1, .plain, [F_CR_RERUN_CNT_RERUN]⟩,
  ⟨4, 0x18, 1, .plain, [F_CR_NONFINITE_CNT_NONFINITE]⟩,
  ⟨4, 0x1C, 1, .plain, [F_CR_WAIT_BUSY_BUSY]⟩,
  ⟨4, 0x20, 1, .plain, [F_CR_STAGE_FREE_FREE]⟩,
  ⟨4, 0x1000, 1, .plain, [F_CR_C_STATE_RUN, F_CR_C_STATE_TENANT]⟩,
  ⟨4, 0x1004, 1, .plain, [F_CR_C_FREQ_MHZ]⟩,
  ⟨4, 0x1008, 1, .plain, [F_CR_C_TASKS_TASKS]⟩,
  ⟨4, 0x100C, 1, .plain, [F_CR_C_FAULTS_FAULTS]⟩]
/-- The register words of block SK: Tables 7.4, 7.5. -/
def regWordsSK : List RegWord := [
  ⟨5, 0x0, 1, .plain, [F_SK_CFG_KEEP_MAX]⟩,
  ⟨5, 0x4, 1, .plain, [F_SK_PIN_SUM_SUM]⟩,
  ⟨5, 0x8, 1, .plain, [F_SK_HITS_HITS]⟩,
  ⟨5, 0xC, 1, .plain, [F_SK_MISSES_MISSES]⟩,
  ⟨5, 0x10, 1, .plain, [F_SK_PIN_OVERFLOW_OVERFLOW]⟩,
  ⟨5, 0x14, 1, .plain, [F_SK_PARITY_CNT_DATA]⟩,
  ⟨5, 0x18, 1, .plain, [F_SK_TAG_PARITY_CNT_TAG]⟩,
  ⟨5, 0x1C, 1, .plain, [F_SK_RO_PARITY_CNT_RO]⟩,
  ⟨5, 0x20, 1, .plain, [F_SK_SETS_DISABLED_SETS]⟩,
  ⟨5, 0x1000, 1, .plain, [F_SK_P_LIMIT_LIMIT]⟩,
  ⟨5, 0x1004, 1, .plain, [F_SK_P_USED_USED]⟩,
  ⟨5, 0x1008, 1, .plain, [F_SK_P_CTL_FLUSH]⟩,
  ⟨5, 0x100C, 1, .plain, [F_SK_P_STATUS_SWEEP, F_SK_P_STATUS_DEMOTING, F_SK_P_STATUS_FLUSHING]⟩]
/-- The register words of block PJ: Tables 8.6, 8.7. -/
def regWordsPJ : List RegWord := [
  ⟨6, 0x0, 1, .plain, [F_PJ_UNITS_BUSY_BUSY, F_PJ_UNITS_BUSY_OUT]⟩,
  ⟨6, 0x4, 1, .plain, [F_PJ_SAT_CNT_SAT]⟩,
  ⟨6, 0x8, 1, .plain, [F_PJ_NAN_CNT_NAN]⟩,
  ⟨6, 0xC, 1, .plain, [F_PJ_REDO_CNT_REDO]⟩,
  ⟨6, 0x1000, 1, .plain, [F_PJ_U_STATUS_ACTIVE, F_PJ_U_STATUS_OUT]⟩,
  ⟨6, 0x1004, 1, .plain, [F_PJ_U_QUEUED_QUEUED]⟩,
  ⟨6, 0x1008, 1, .plain, [F_PJ_U_BYTES_BYTES]⟩,
  ⟨6, 0x100C, 1, .plain, [F_PJ_U_CTL_RETURN]⟩]
/-- The register words of block PL: Table 9.5. -/
def regWordsPL : List RegWord := [
  ⟨7, 0x0, 1, .plain, [F_PL_STATUS_BUSY, F_PL_STATUS_WAITING]⟩,
  ⟨7, 0x4, 1, .plain, [F_PL_SOLVES_SOLVES]⟩,
  ⟨7, 0x8, 1, .plain, [F_PL_INFEAS_CNT_INFEAS]⟩,
  ⟨7, 0xC, 1, .plain, [F_PL_LAST_TIME_TICKS]⟩,
  ⟨7, 0x10, 1, .plain, [F_PL_RERUN_CNT_RERUN]⟩]
/-- The register words of block MC: Tables 10.7, 10.8, 10.11. -/
def regWordsMC : List RegWord := [
  ⟨8, 0x0, 1, .plain, [F_MC_STATUS_SET, F_MC_STATUS_WAYS]⟩,
  ⟨8, 0x4, 1, .plain, [F_MC_CFG_MAX_SPEED]⟩,
  ⟨8, 0x8, 1, .plain, [F_MC_RH_CFG_THRESH, F_MC_RH_CFG_BLAST]⟩,
  ⟨8, 0xC, 1, .plain, [F_MC_WQ_CFG_HIGH, F_MC_WQ_CFG_LOW]⟩,
  ⟨8, 0x10, 1, .plain, [F_MC_MAINT_CFG_FLOOR, F_MC_MAINT_CFG_CEIL, F_MC_MAINT_CFG_MIGR_FLOOR]⟩,
  ⟨8, 0x14, 1, .plain, [F_MC_SPARE_CFG_CE_THRESH, F_MC_SPARE_CFG_CE_WINDOW]⟩,
  ⟨8, 0x18, 1, .plain, [F_MC_MIGR_RATE_RATE]⟩,
  ⟨8, 0x1C, 1, .plain, [F_MC_FWD_CNT_FWD]⟩,
  ⟨8, 0x20, 1, .plain, [F_MC_PARITY_CNT_REISSUE]⟩,
  ⟨8, 0x24, 1, .plain, [F_MC_RETRAIN_CNT_RETRAIN]⟩,
  ⟨8, 0x28, 1, .plain, [F_MC_NREF_CNT_NREF]⟩,
  ⟨8, 0x1000, 1, .plain, [F_MC_CH_STATUS_STATE, F_MC_CH_STATUS_TIMING_CLAMPED, F_MC_CH_STATUS_SPARE_EXHAUSTED, F_MC_CH_STATUS_LR]⟩,
  ⟨8, 0x1004, 1, .plain, [F_MC_CH_CFG_MODE]⟩,
  ⟨8, 0x1008, 1, .plain, [F_MC_CH_RANKS_RANKS]⟩,
  ⟨8, 0x100C, 1, .plain, [F_MC_CH_REFPEND_REFPEND]⟩,
  ⟨8, 0x1010, 1, .plain, [F_MC_CH_MIGR_SRC, F_MC_CH_MIGR_TGT, F_MC_CH_MIGR_ACTIVE]⟩,
  ⟨8, 0x1014, 1, .plain, [F_MC_CH_MIGR_DONE_DONE]⟩,
  ⟨8, 0x1018, 1, .plain, [F_MC_CH_RANK_CTL_RANK, F_MC_CH_RANK_CTL_CMD]⟩,
  ⟨8, 0x101C, 1, .plain, [F_MC_CH_LAST_LAST]⟩,
  ⟨8, 0x1020, 1, .plain, [F_MC_CH_CE_CNT_CE]⟩,
  ⟨8, 0x1024, 1, .plain, [F_MC_CH_UE_CNT_UE]⟩,
  ⟨8, 0x1030, 1, .plain, [F_MC_CH_TIMING_TRCD, F_MC_CH_TIMING_TRP]⟩,
  ⟨8, 0x1034, 1, .plain, [F_MC_CH_TIMING_TRAS, F_MC_CH_TIMING_TCL]⟩,
  ⟨8, 0x1038, 1, .plain, [F_MC_CH_TIMING_TWR, F_MC_CH_TIMING_TRFC]⟩,
  ⟨8, 0x103C, 1, .plain, [F_MC_CH_TIMING_TFAW, F_MC_CH_TIMING_TWTRL]⟩]
/-- The register words of block HB: Tables 10.9 to 10.11. -/
def regWordsHB : List RegWord := [
  ⟨9, 0x0, 1, .plain, [F_HB_STATUS_SET, F_HB_STATUS_PRESENT]⟩,
  ⟨9, 0x4, 1, .plain, [F_HB_SPARE_CFG_PERMILLE, F_HB_SPARE_CFG_CE_THRESH, F_HB_SPARE_CFG_CE_WINDOW]⟩,
  ⟨9, 0x8, 1, .plain, [F_HB_SPARE_STATUS_FREE, F_HB_SPARE_STATUS_EXHAUSTED]⟩,
  ⟨9, 0xC, 1, .plain, [F_HB_SPARED_CNT_SPARED]⟩,
  ⟨9, 0x10, 1, .plain, [F_HB_RH_CFG_THRESH, F_HB_RH_CFG_BLAST]⟩,
  ⟨9, 0x14, 1, .plain, [F_HB_WQ_CFG_HIGH, F_HB_WQ_CFG_LOW]⟩,
  ⟨9, 0x18, 1, .plain, [F_HB_MAINT_CFG_FLOOR, F_HB_MAINT_CFG_CEIL]⟩,
  ⟨9, 0x30, 1, .plain, [F_HB_TIMING_TRCD, F_HB_TIMING_TRP]⟩,
  ⟨9, 0x34, 1, .plain, [F_HB_TIMING_TRAS, F_HB_TIMING_TCL]⟩,
  ⟨9, 0x38, 1, .plain, [F_HB_TIMING_TWR, F_HB_TIMING_TRFC]⟩,
  ⟨9, 0x3C, 1, .plain, [F_HB_TIMING_TFAW, F_HB_TIMING_TWTRL]⟩,
  ⟨9, 0x1000, 1, .plain, [F_HB_PC_STATUS_STATE, F_HB_PC_STATUS_TIMING_CLAMPED, F_HB_PC_STATUS_REFPEND, F_HB_PC_STATUS_LANES]⟩,
  ⟨9, 0x1004, 1, .plain, [F_HB_PC_CE_CNT_CE]⟩,
  ⟨9, 0x1008, 1, .plain, [F_HB_PC_UE_CNT_UE]⟩]
/-- The register words of block SI: Tables 11.12, 11.13. -/
def regWordsSI : List RegWord := [
  ⟨10, 0x0, 1, .plain, [F_SI_CFG_TAGS_PRESENT]⟩,
  ⟨10, 0x4, 1, .plain, [F_SI_POISON_CNT_POISONED]⟩,
  ⟨10, 0x8, 1, .plain, [F_SI_POISON_MET_MET]⟩,
  ⟨10, 0xC, 1, .plain, [F_SI_TAG_FAIL_CNT_TAGFAIL]⟩,
  ⟨10, 0x10, 1, .plain, [F_SI_INJ_ADDR_ADDR_LO]⟩,
  ⟨10, 0x14, 1, .plain, [F_SI_INJ_ADDR_ADDR_HI]⟩,
  ⟨10, 0x18, 1, .plain, [F_SI_INJ_CFG_KIND, F_SI_INJ_CFG_DEV0, F_SI_INJ_CFG_DEV1, F_SI_INJ_CFG_BIT0, F_SI_INJ_CFG_BIT1]⟩,
  ⟨10, 0x1C, 1, .plain, [F_SI_INJ_CTL_FIRE]⟩,
  ⟨10, 0x20, 1, .plain, [F_SI_INJ_STATUS_LAST]⟩,
  ⟨10, 0x24, 1, .plain, [F_SI_BIST_JOBS_JOBS]⟩,
  ⟨10, 0x28, 1, .plain, [F_SI_EVENT_BIST_DONE, F_SI_EVENT_SCRUB_LATE]⟩,
  ⟨10, 0x1000, 1, .plain, [F_SI_T_SCRUB_STATE, F_SI_T_SCRUB_PERIOD, F_SI_T_SCRUB_PROGRESS]⟩,
  ⟨10, 0x1004, 1, .plain, [F_SI_T_PASSES_PASSES]⟩,
  ⟨10, 0x1008, 1, .plain, [F_SI_T_SCRUB_CE_CE]⟩,
  ⟨10, 0x100C, 1, .plain, [F_SI_T_SCRUB_UE_UE]⟩,
  ⟨10, 0x1010, 1, .plain, [F_SI_T_BIST_STATE, F_SI_T_BIST_PROGRESS]⟩,
  ⟨10, 0x1014, 1, .plain, [F_SI_T_BIST_FAILS_FAILS]⟩,
  ⟨10, 0x1018, 1, .plain, [F_SI_T_PASS_PASS]⟩,
  ⟨10, 0x101C, 1, .plain, [F_SI_T_ONDIE_CE_ONDIE_CE]⟩]
/-- The register words of block LK: Tables 12.14, 12.15. -/
def regWordsLK : List RegWord := [
  ⟨11, 0x0, 1, .plain, [F_LK_CFG_CREDIT_TIMEOUT, F_LK_CFG_TIME_PERIOD]⟩,
  ⟨11, 0x4, 1, .plain, [F_LK_VIOL_CFG_LIMIT, F_LK_VIOL_CFG_WINDOW]⟩,
  ⟨11, 0x8, 1, .plain, [F_LK_UP_UP_LO]⟩,
  ⟨11, 0xC, 1, .plain, [F_LK_UP_UP_HI]⟩,
  ⟨11, 0x1000, 1, .plain, [F_LK_L_STATUS_STATE, F_LK_L_STATUS_WIDTH, F_LK_L_STATUS_RATE, F_LK_L_STATUS_QCAUSE, F_LK_L_STATUS_LANES, F_LK_L_STATUS_SESSIONS]⟩,
  ⟨11, 0x1004, 1, .plain, [F_LK_L_CTL_CMD]⟩,
  ⟨11, 0x1008, 1, .plain, [F_LK_L_CFG_MAX_RATE, F_LK_L_CFG_MIN_WIDTH, F_LK_L_CFG_ROLE]⟩,
  ⟨11, 0x100C, 1, .plain, [F_LK_L_HOLD_HOLDOFF, F_LK_L_HOLD_REMAIN]⟩,
  ⟨11, 0x1010, 4, .plain, [F_LK_L_EXPECT_HASH_HASH]⟩,
  ⟨11, 0x1020, 1, .plain, [F_LK_L_PARTNER_ID]⟩,
  ⟨11, 0x1024, 1, .plain, [F_LK_L_PARTNER_FW_FW]⟩,
  ⟨11, 0x1028, 1, .plain, [F_LK_L_LASTDROP_CAUSE]⟩,
  ⟨11, 0x102C, 1, .plain, [F_LK_L_CRC_CNT_CRC]⟩,
  ⟨11, 0x1030, 1, .plain, [F_LK_L_REPLAY_CNT_REPLAY]⟩,
  ⟨11, 0x1034, 1, .plain, [F_LK_L_VIOL_CNT_VIOL]⟩,
  ⟨11, 0x1038, 1, .plain, [F_LK_L_AUTH_FAIL_AUTH]⟩,
  ⟨11, 0x103C, 1, .plain, [F_LK_L_DROPS_DROPS]⟩,
  ⟨11, 0x1040, 1, .plain, [F_LK_L_FEC_CE_CE]⟩,
  ⟨11, 0x1044, 1, .plain, [F_LK_L_FEC_UE_UE]⟩,
  ⟨11, 0x1048, 1, .plain, [F_LK_L_TIME_LAT_TIME_LAT]⟩]
/-- The register words of block CN: Tables 13.7, 13.8. -/
def regWordsCN : List RegWord := [
  ⟨12, 0x0, 1, .plain, [F_CN_STATUS_STATE, F_CN_STATUS_MEMBER, F_CN_STATUS_TIME_DEGRADED, F_CN_STATUS_TIME_SOURCE, F_CN_STATUS_SWITCHING]⟩,
  ⟨12, 0x4, 1, .plain, [F_CN_EPOCH_EPOCH]⟩,
  ⟨12, 0x8, 1, .plain, [F_CN_ID_ID]⟩,
  ⟨12, 0xC, 1, .plain, [F_CN_TIME_CFG_SLEW_PPM]⟩,
  ⟨12, 0x10, 1, .plain, [F_CN_OFFSET_OFFSET]⟩,
  ⟨12, 0x14, 1, .plain, [F_CN_DELAY_DELAY]⟩,
  ⟨12, 0x18, 4, .plain, [F_CN_HASH_HASH]⟩,
  ⟨12, 0x30, 1, .plain, [F_CN_REFUSED_REFUSED]⟩,
  ⟨12, 0x34, 1, .plain, [F_CN_CONFLICT_CONFLICT]⟩,
  ⟨12, 0x38, 1, .plain, [F_CN_FWD_OUT_OUT]⟩,
  ⟨12, 0x3C, 1, .plain, [F_CN_RELAYED_RELAYED]⟩,
  ⟨12, 0x40, 1, .plain, [F_CN_TTL_DROPS_TTL]⟩,
  ⟨12, 0x100, 24, .plain, [F_CN_KEY_KEY]⟩,
  ⟨12, 0x1000, 1, .plain, [F_CN_M_STATUS_PRESENT, F_CN_M_STATUS_PEER, F_CN_M_STATUS_ROUTE_LINK, F_CN_M_STATUS_NEXT_HOP, F_CN_M_STATUS_SHARDS]⟩,
  ⟨12, 0x1004, 1, .plain, [F_CN_M_JOIN_JOIN]⟩]
/-- The register words of block HP: Tables 14.12, 14.13. -/
def regWordsHP : List RegWord := [
  ⟨13, 0x0, 1, .plain, [F_HP_STATUS_RATE, F_HP_STATUS_WIDTH, F_HP_STATUS_FLIT, F_HP_STATUS_CXL, F_HP_STATUS_CXL_NEG, F_HP_STATUS_SLOW]⟩,
  ⟨13, 0x4, 1, .plain, [F_HP_CFG_IDE_REQUIRED]⟩,
  ⟨13, 0x8, 1, .plain, [F_HP_UR_CNT_ERR]⟩,
  ⟨13, 0xC, 1, .plain, [F_HP_CTO_CNT_CTO]⟩,
  ⟨13, 0x10, 1, .plain, [F_HP_POISON_RX_POISON]⟩,
  ⟨13, 0x14, 1, .plain, [F_HP_APT_REFUSED_REFUSED]⟩,
  ⟨13, 0x18, 1, .plain, [F_HP_IDE_FAIL_IDE]⟩,
  ⟨13, 0x1C, 1, .plain, [F_HP_MCTP_DROP_DROP]⟩,
  ⟨13, 0x20, 1, .plain, [F_HP_CXL_CFG_TENANT, F_HP_CXL_CFG_ENABLE]⟩,
  ⟨13, 0x24, 1, .plain, [F_HP_CXL_STATUS_BOUND, F_HP_CXL_STATUS_BINDING, F_HP_CXL_STATUS_LAST]⟩,
  ⟨13, 0x1000, 1, .plain, [F_HP_APT_CFG_TENANT, F_HP_APT_CFG_BINDING, F_HP_APT_CFG_ENABLE]⟩,
  ⟨13, 0x1004, 1, .plain, [F_HP_APT_BASE_FIRST_TFN]⟩,
  ⟨13, 0x1008, 1, .plain, [F_HP_APT_STATUS_LAST]⟩]
/-- The register words of block TN: Tables 2.7, 15.6, 15.7. -/
def regWordsTN : List RegWord := [
  ⟨14, 0x0, 1, .plain, [F_TN_COUNT_COUNT]⟩,
  ⟨14, 0x4, 1, .plain, [F_TN_RES_LIMIT_HOT, F_TN_RES_LIMIT_WARM]⟩,
  ⟨14, 0x8, 1, .plain, [F_TN_RES_SUM_HOT, F_TN_RES_SUM_WARM]⟩,
  ⟨14, 0xC, 1, .plain, [F_TN_MAP_POOL_FREE_FREE]⟩,
  ⟨14, 0x1000, 1, .plain, [F_TN_T_STATUS_STATE, F_TN_T_STATUS_SHARE_GROUP, F_TN_T_STATUS_TAGS]⟩,
  ⟨14, 0x1004, 1, .plain, [F_TN_T_QE_WEIGHT_W1, F_TN_T_QE_WEIGHT_W2, F_TN_T_QE_WEIGHT_W3]⟩,
  ⟨14, 0x1008, 1, .plain, [F_TN_T_SHARE_DATA_WEIGHT, F_TN_T_SHARE_CARREL_WEIGHT, F_TN_T_SHARE_CARREL_MAX]⟩,
  ⟨14, 0x100C, 1, .plain, [F_TN_T_RESERVE_HOT, F_TN_T_RESERVE_WARM]⟩,
  ⟨14, 0x1010, 1, .plain, [F_TN_T_CAP_HOT, F_TN_T_CAP_WARM]⟩,
  ⟨14, 0x1014, 1, .plain, [F_TN_T_STREAMS_QUOTA, F_TN_T_STREAMS_USED]⟩,
  ⟨14, 0x1018, 1, .plain, [F_TN_T_QUEUES_QUEUES]⟩,
  ⟨14, 0x101C, 1, .plain, [F_TN_T_VFS_VFS_LO]⟩,
  ⟨14, 0x1020, 1, .plain, [F_TN_T_VFS_VFS_HI]⟩,
  ⟨14, 0x1100, 1, .plain, [F_TN_MAP_LEN_LEN]⟩,
  ⟨14, 0x1104, 1, .plain, [F_TN_MAP_EPOCH_CURRENT, F_TN_MAP_EPOCH_DRAINING, F_TN_MAP_EPOCH_WINDOW]⟩,
  ⟨14, 0x1108, 1, .plain, [F_TN_MAP_OLDCNT_OLDCNT]⟩,
  ⟨14, 0x110C, 1, .plain, [F_TN_MAP_REFUSED_REFUSED]⟩]
/-- The register words of block IR: Tables 15.8, 15.9. -/
def regWordsIR : List RegWord := [
  ⟨15, 0x0, 1, .plain, [F_IR_EVT_STATUS_STATUS]⟩,
  ⟨15, 0x4, 1, .plain, [F_IR_EVT_MASK_MASK]⟩,
  ⟨15, 0x8, 1, .plain, [F_IR_EVT_CFG_VECTOR]⟩,
  ⟨15, 0x1000, 1, .plain, [F_IR_F_VSEL_VSEL, F_IR_F_VSEL_VINVALID]⟩,
  ⟨15, 0x1004, 1, .plain, [F_IR_F_COAL_COUNT, F_IR_F_COAL_TIME]⟩,
  ⟨15, 0x1008, 1, .plain, [F_IR_F_VPEND_PENDING]⟩,
  ⟨15, 0x100C, 1, .plain, [F_IR_F_SENT_SENT]⟩,
  ⟨15, 0x1010, 1, .plain, [F_IR_F_EVT_CFG_VECTOR, F_IR_F_EVT_CFG_ENABLE]⟩,
  ⟨15, 0x1014, 1, .plain, [F_IR_F_EVT_STATUS_STATUS]⟩]
/-- The register words of block RS: Table 22.4. -/
def regWordsRS : List RegWord := [
  ⟨16, 0x0, 1, .plain, [F_RS_CAUSE_CAUSE, F_RS_CAUSE_KIND]⟩,
  ⟨16, 0x4, 1, .plain, [F_RS_DEV_CNT_COUNT]⟩]
/-- The register words of block ER: Table 20.7. -/
def regWordsER : List RegWord := [
  ⟨17, 0x0, 1, .plain, [F_ER_WPTR_WPTR]⟩,
  ⟨17, 0x4, 1, .plain, [F_ER_RPTR_RPTR]⟩,
  ⟨17, 0x8, 1, .plain, [F_ER_OVF_CNT_OVF]⟩,
  ⟨17, 0xC, 1, .plain, [F_ER_STATUS_FULL, F_ER_STATUS_PREV_FATAL, F_ER_STATUS_RECOVERING, F_ER_STATUS_PREV_COUNT]⟩,
  ⟨17, 0x10, 1, .plain, [F_ER_PREV_CTL_ACK]⟩,
  ⟨17, 0x14, 1, .plain, [F_ER_CFG_LOCK_WD, F_ER_CFG_HANG_WD]⟩,
  ⟨17, 0x18, 1, .plain, [F_ER_CORES_CORES]⟩,
  ⟨17, 0x1C, 1, .plain, [F_ER_ESC_CNT_ESC]⟩,
  ⟨17, 0x20, 16, .plain, [F_ER_PREV_RECORD_PREV]⟩]
/-- The register words of block CK: Tables 18.5, 18.6. -/
def regWordsCK : List RegWord := [
  ⟨18, 0x0, 1, .plain, [F_CK_PWR_STATUS_STATE, F_CK_PWR_STATUS_ENTERING, F_CK_PWR_STATUS_LAST, F_CK_PWR_STATUS_WAKE_CAUSE]⟩,
  ⟨18, 0x4, 1, .plain, [F_CK_PWR_CFG_DEEPEST]⟩,
  ⟨18, 0x8, 1, .plain, [F_CK_PWR_CTL_CMD]⟩,
  ⟨18, 0xC, 1, .plain, [F_CK_IDLE_CR_GATE_US, F_CK_IDLE_CR_OFF_US]⟩,
  ⟨18, 0x10, 1, .plain, [F_CK_IDLE_MEM_SR_US, F_CK_IDLE_MEM_ENG_US]⟩,
  ⟨18, 0x14, 1, .plain, [F_CK_IDLE_LINK_SLEEP_US]⟩,
  ⟨18, 0x18, 1, .plain, [F_CK_S3_TIMER_SECONDS]⟩,
  ⟨18, 0x1C, 1, .plain, [F_CK_WAKE_PENDING]⟩,
  ⟨18, 0x20, 1, .plain, [F_CK_WAKE_REFUSED_REFUSED]⟩,
  ⟨18, 0x24, 1, .plain, [F_CK_THERM_CAP_MHZ]⟩,
  ⟨18, 0x1000, 1, .plain, [F_CK_D_STATUS_RUN, F_CK_D_STATUS_ABSENT, F_CK_D_STATUS_MHZ]⟩,
  ⟨18, 0x1004, 1, .plain, [F_CK_D_FMAX_FMAX]⟩,
  ⟨18, 0x1008, 1, .plain, [F_CK_D_FAULTS_FAULTS]⟩]
/-- The register words of block PW: Tables 19.5 to 19.8. -/
def regWordsPW : List RegWord := [
  ⟨19, 0x0, 1, .plain, [F_PW_STATUS_FAULT, F_PW_STATUS_CAL_INVALID, F_PW_STATUS_PWR_FAULT, F_PW_STATUS_RETRY_WAIT]⟩,
  ⟨19, 0x4, 1, .plain, [F_PW_ALERT_ALERT]⟩,
  ⟨19, 0x8, 1, .plain, [F_PW_ALERT_MASK_MASK]⟩,
  ⟨19, 0xC, 1, .plain, [F_PW_CTL_RETRY]⟩,
  ⟨19, 0x10, 1, .plain, [F_PW_HEADROOM_PCT]⟩,
  ⟨19, 0x14, 1, .plain, [F_PW_VIN_VIN]⟩,
  ⟨19, 0x18, 1, .plain, [F_PW_PLAUS_ABS, F_PW_PLAUS_REL, F_PW_PLAUS_VABS]⟩,
  ⟨19, 0x1C, 1, .plain, [F_PW_DIAG_DCR, F_PW_DIAG_GAIN]⟩,
  ⟨19, 0x20, 1, .plain, [F_PW_VSET_CLAMP_CLAMP]⟩,
  ⟨19, 0x1000, 1, .loop, [F_PW_L_STATUS_STATE, F_PW_L_STATUS_CAUSE, F_PW_L_STATUS_ACTIVE, F_PW_L_STATUS_VSET_VALID, F_PW_L_STATUS_LAST]⟩,
  ⟨19, 0x1000, 1, .phase, [F_PW_P_STATUS_STATE, F_PW_P_STATUS_DIAG, F_PW_P_STATUS_DCR_WARN, F_PW_P_STATUS_GAIN_WARN, F_PW_P_STATUS_TMON_OPEN]⟩,
  ⟨19, 0x1000, 1, .therm, [F_PW_T_STATUS_TEMP, F_PW_T_STATUS_OPEN, F_PW_T_STATUS_STALE]⟩,
  ⟨19, 0x1004, 1, .loop, [F_PW_L_CFG_SRC, F_PW_L_CFG_VSEL, F_PW_L_CFG_ORDER, F_PW_L_CFG_MINPHASE, F_PW_L_CFG_THERM, F_PW_L_CFG_NMIN]⟩,
  ⟨19, 0x1004, 1, .phase, [F_PW_P_CURRENT_IMEAS, F_PW_P_CURRENT_IMODEL]⟩,
  ⟨19, 0x1008, 1, .loop, [F_PW_L_CTL_CMD]⟩,
  ⟨19, 0x1008, 1, .phase, [F_PW_P_TEMP_TS, F_PW_P_TEMP_TL]⟩,
  ⟨19, 0x100C, 1, .loop, [F_PW_L_VSET_VSET]⟩,
  ⟨19, 0x100C, 1, .phase, [F_PW_P_DCR_DCR, F_PW_P_DCR_CAL]⟩,
  ⟨19, 0x1010, 1, .loop, [F_PW_L_VOUT_VOUT, F_PW_L_VOUT_VCMD]⟩,
  ⟨19, 0x1010, 1, .phase, [F_PW_P_ILIM_ILIM]⟩,
  ⟨19, 0x1014, 1, .loop, [F_PW_L_IOUT_IOUT, F_PW_L_IOUT_CAP]⟩,
  ⟨19, 0x1014, 1, .phase, [F_PW_P_CTL_REINSTATE]⟩,
  ⟨19, 0x1018, 1, .loop, [F_PW_L_FOLLOW_LIMIT, F_PW_L_FOLLOW_TIME]⟩,
  ⟨19, 0x101C, 1, .loop, [F_PW_L_SLEW_SLEW]⟩,
  ⟨19, 0x1020, 1, .loop, [F_PW_L_OVUV_OV, F_PW_L_OVUV_UV]⟩,
  ⟨19, 0x1024, 1, .loop, [F_PW_L_TEMP_HOT]⟩,
  ⟨19, 0x1028, 1, .loop, [F_PW_L_HOT_WARN, F_PW_L_HOT_TRIP]⟩,
  ⟨19, 0x102C, 1, .loop, [F_PW_L_SHED_SHED]⟩,
  ⟨19, 0x1030, 1, .loop, [F_PW_L_DMAX_DMAX]⟩,
  ⟨19, 0x1040, 7, .loop, [F_PW_L_B0_COEF]⟩]
/-- The register words of block TM: Table 22.5. -/
def regWordsTM : List RegWord := [
  ⟨20, 0x0, 1, .plain, [F_TM_COUNT_LO]⟩,
  ⟨20, 0x4, 1, .plain, [F_TM_COUNT_HI]⟩,
  ⟨20, 0x8, 1, .plain, [F_TM_STATUS_FALLBACK]⟩]
/-- The register words of block SE: Tables 16.10, 17.8. -/
def regWordsSE : List RegWord := [
  ⟨21, 0x0, 1, .plain, [F_SE_STATUS_LC, F_SE_STATUS_DEBUG, F_SE_STATUS_TAMPERED, F_SE_STATUS_WRAP, F_SE_STATUS_RTP_SLOT, F_SE_STATUS_CTL_SLOT, F_SE_STATUS_TRIAL, F_SE_STATUS_RTP_ONLY]⟩,
  ⟨21, 0x4, 1, .plain, [F_SE_SVN_RTP, F_SE_SVN_RTP_EXH, F_SE_SVN_CTL, F_SE_SVN_CTL_EXH]⟩,
  ⟨21, 0x8, 1, .plain, [F_SE_MBX_CTL_GO]⟩,
  ⟨21, 0xC, 1, .plain, [F_SE_MBX_STATUS_STATE]⟩,
  ⟨21, 0x10, 1, .plain, [F_SE_AUTH_FAIL_AUTH]⟩,
  ⟨21, 0x18, 1, .plain, [F_SE_VBAT_NOW_LO]⟩,
  ⟨21, 0x1C, 1, .plain, [F_SE_VBAT_NOW_HI]⟩,
  ⟨21, 0x100, 1, .plain, [F_SE_KEY_CFG_CAP_MS]⟩,
  ⟨21, 0x104, 1, .plain, [F_SE_KEY_FREE_FREE, F_SE_KEY_FREE_RETIRING]⟩,
  ⟨21, 0x108, 1, .plain, [F_SE_KEY_LOST_LOST]⟩,
  ⟨21, 0x10C, 1, .plain, [F_SE_KEY_ABORTS_ABORTS]⟩,
  ⟨21, 0x110, 1, .plain, [F_SE_WEIGHT_MIB_MIB]⟩,
  ⟨21, 0x400, 256, .plain, [F_SE_MBX_BUF_BUF]⟩]
/-- The register words of block DB: Table 16.12. -/
def regWordsDB : List RegWord := [
  ⟨22, 0x0, 1, .plain, [F_DB_STATUS_DEBUG, F_DB_STATUS_EXTEST_HOLD, F_DB_STATUS_DAP_OPEN, F_DB_STATUS_SIGNER]⟩]
/-- Every register word of the map (Table 22.2), but for the select pairs, the error-ring slots and the MSI-X areas. -/
def regWords : List RegWord :=
  regWordsTOP ++ regWordsQE ++ regWordsFN ++ regWordsCT ++ regWordsCR ++ regWordsSK ++ regWordsPJ ++ regWordsPL ++ regWordsMC ++ regWordsHB ++ regWordsSI ++ regWordsLK ++ regWordsCN ++ regWordsHP ++ regWordsTN ++ regWordsIR ++ regWordsRS ++ regWordsER ++ regWordsCK ++ regWordsPW ++ regWordsTM ++ regWordsSE ++ regWordsDB

end Sys2Proof.Machine
end

