-- ==== Sys2Proof/Machine/State.lean ====
section
/-!
DEFINITION. What the JP-4810 holds: the state of the block, plain data, with its value at reset.
Registers that software reads and writes whole live in `State.regs`, one entry per field and instance; a register
that only reports other state (a count of descriptors, a queue's state) is computed from that state when it is read.
-/
namespace Sys2Proof.Machine

/-! ## Access ports (Scope, Roles and Conventions) -/

/-- The read latch and the write staging register of a port: a register and half of its value (R14, R16). -/
structure Half where
  blk : Nat
  off : Nat
  inst : Nat
  word : Nat
  deriving DecidableEq, Repr

/-- The bank of one access port: a select per block, the read latch, the staging register (R14, R16, R20). -/
structure PortBank where
  sel : KV Nat := []
  latch : Option Half := none
  stage : Option Half := none
  deriving DecidableEq, Repr

/-! ## Folios, maps and translation -/

/-- A folio map entry (Table 2.3). -/
structure MapEntry where
  dfn : Nat := 0
  rd : Bool := false
  wr : Bool := false
  cp : Bool := false
  sh : Bool := false
  pin : Nat := 0
  epoch : Nat := 0
  valid : Bool := false
  deriving DecidableEq, Repr

/-- The folio states of Table 2.2. An owner record itself holds FREE, OWNED or RELEASING: which folios are ZEROING and DEVICE, the zeroing order,
the address ranges, the spares and the folios left out say. -/
inductive FolioState where
  | free | owned | releasing | zeroing | device
  deriving DecidableEq, Repr

/-- A folio's owner record: state, tenant, count of valid mirror entries, default cache hint, and how many
segment records mark it published (R43, R165). -/
structure Owner where
  st : FolioState := .free
  tenant : Nat := 0
  maps : Nat := 0
  hint : Nat := 0
  pub : Nat := 0
  deriving DecidableEq, Repr

/-- The revoking command of a tenant whose drain runs (R61, R754). -/
structure Revokes where
  running : Option Nat := none
  deriving DecidableEq, Repr

/-- Folio ownership, mirrors and revocations. `spares` are the first hot spare folio and their number; `badMirror` the mirror sectors (tenant ×
524,288 + TFN / 32) and `device` the DFNs left out of service (Table 20.6 code 2, R333); `zeroing` the order of folios in ZEROING, as runs of
DFNs (R695). -/
structure MapSt where
  mirror : KV MapEntry := []
  owner : KV Owner := []
  revokes : KV Revokes := []
  spares : Nat × Nat := (0, 0)
  badMirror : List Nat := []
  device : List Nat := []
  zeroing : List (Nat × Nat) := []
  deriving DecidableEq, Repr

/-! ## Queues and descriptors -/

/-- The status codes of Table 3.6. -/
inductive Status where
  | ok | param | perm | nomap | integrity | poison | timeout | stale | retired | capacity | aborted
  | quarantine | unsupported | busy | fencePoison | moved | feasibility
  deriving DecidableEq, Repr

/-- A submission entry (Table 3.3); `rsv` holds bits [31:26] of the first word. -/
structure Entry where
  opcode : Nat := 0
  flags : Nat := 0
  wait : Bool := false
  signal : Bool := false
  quiet : Bool := false
  ordered : Bool := false
  tenant : Nat := 0
  rsv : Nat := 0
  tag : Nat := 0
  opA : Nat := 0
  opB : Nat := 0
  len : Nat := 0
  waitId : Nat := 0
  waitVal : Nat := 0
  sigId : Nat := 0
  sigVal : Nat := 0
  spec : Nat := 0
  deriving DecidableEq, Repr

/-- Why a fetched entry at the head of its queue is held (Table 2.4 steps 4 and 9, R94). -/
inductive Hold where
  | no | window | resources | ordered
  deriving DecidableEq, Repr

/-- A fetched entry that is not yet accepted, with its fetch time. -/
structure Fetched where
  e : Entry
  t : Nat
  hold : Hold := .no
  deriving DecidableEq, Repr

/-- The queue states of Table 3.1. -/
inductive QState where
  | disabled | active | paused | frozen | resetting
  deriving DecidableEq, Repr

/-- The sixteen result bytes of a completion, as four words (Table 3.4). -/
structure Result where
  w0 : Nat := 0
  w1 : Nat := 0
  w2 : Nat := 0
  w3 : Nat := 0
  deriving DecidableEq, Repr

/-- The completion of an entry without a descriptor whose CQ write failed, kept until a RESET (R116). -/
structure KeptCq where
  tag : Nat
  st : Status
  detail : Nat
  froze : Bool
  ts : Nat
  res : Result
  quiet : Bool
  deriving DecidableEq, Repr

/-- A queue: binding, state, pointers, fetched entries, ring translation with pin class and hint per folio (R236), freeze window, notification
settings, how many completions a COMPLETION flit gathers and since when (R506), completions whose write failed. -/
structure Queue where
  tenant : Nat := 0
  origin : Nat := 0xFF
  st : QState := .disabled
  phase : Bool := true
  lastCtl : Nat := 0
  cause : Nat := 0
  sqHead : Nat := 0
  sqTail : Nat := 0
  cqTail : Nat := 0
  cqHead : Nat := 0
  winCnt : Nat := 0
  fetched : List Fetched := []
  sqRing : List Nat := []
  cqRing : List Nat := []
  sqMeta : List Nat := []
  cqMeta : List Nat := []
  vector : Nat := 0
  lcount : Nat := 1
  ltime : Nat := 0
  gathered : Nat := 0
  gatherAt : Nat := 0
  uncarried : List (Nat × List Byte) := []
  ackedCq : Nat := 0
  unbindBy : Option Nat := none
  keptCq : List KeptCq := []
  deriving DecidableEq, Repr

/-- What an accepted command waits for in its fence wait or resource wait stage (Table 3.2). -/
inductive Wait where
  | fence | carrel | tracker | watermark | unit | solver | link | linkOut | fenceIdle | turn | drain | publish | others
  | window | copies | walk | dataIn | dataOut | answers | flash | retire | background
  deriving DecidableEq, Repr

/-- The stage of a descriptor. `ready`: its operation may run; `exec`: its operation runs over several steps;
`done`: its status is final and its completion is to be written. -/
inductive Stage where
  | wait (w : Wait)
  | ready
  | exec
  | done
  deriving DecidableEq, Repr

/-- A descriptor: the in-flight record of one accepted command (R52 to R57, R753, Table 3.2). `smeta` and `dmeta` hold,
per source and destination folio, the pin class plus 16 × the folio's default hint (R236); `bad` lists the byte ranges
(offset, count) of its source data that arrived poisoned (R346); `kept` marks a completion whose CQ write failed (R116), `signalled` is
what its signal, made before that write, answered (R96); `met` is the tick in which its latest fence wait was satisfied, with the fence
(R98); `early` says that its status became final before it began to execute (R763); `refused` marks a command refused once its request was
pulled, and whether that froze its queue; `left` holds a tick and the stages that it left in that tick (R98). -/
structure Desc where
  q : Nat := 0
  e : Entry := {}
  seq : Nat := 0
  tFetch : Nat := 0
  tAcc : Nat := 0
  epoch : Option Nat := none
  src : List Nat := []
  dst : List Nat := []
  smeta : List Nat := []
  dmeta : List Nat := []
  runs : Nat := 0
  blk : List Byte := []
  data : List Byte := []
  stage : Stage := .ready
  status : Status := .ok
  detail : Nat := 0
  res : Result := {}
  tEnd : Nat := 0
  aux : Nat := 0
  list : List Nat := []
  strm : Option Nat := none
  bad : List (Nat × Nat) := []
  kept : Bool := false
  signalled : Option Bool := none
  met : Option (Nat × Nat) := none
  early : Bool := false
  refused : Option Bool := none
  left : Nat × List Stage := (0, [])
  deriving DecidableEq, Repr

/-- The arbiter of R108: the pointer of each class, the deficit of each tenant in each class, the visit in progress,
the queue last granted to each tenant, and since when a class has held a ready queue without a grant. -/
structure Arbiter where
  ptr : KV Nat := []
  visiting : KV Bool := []
  deficit : KV Int := []
  lastq : KV Nat := []
  since : KV Nat := []
  deriving DecidableEq, Repr

/-- The queue engine. -/
structure QeSt where
  tab : KV Queue := []
  descs : KV Desc := []
  nextSeq : Nat := 0
  arb : Arbiter := {}
  deriving DecidableEq, Repr

/-! ## Streams and fences -/

/-- A 64-byte layout descriptor (Table 8.1); `rsv` is true when a bit the table does not name is set. -/
structure Layout where
  prec : Nat := 0
  hdim : Nat := 0
  axis : Nat := 0
  split : Nat := 0
  heads : Nat := 0
  layers : Nat := 0
  smode : Nat := 0
  tpf : Nat := 0
  shards : Nat := 0
  reps : Nat := 0
  ks : Nat := 0
  vs : Nat := 0
  sref : Nat := 0
  headMap : List Nat := []
  rsv : Bool := false
  deriving DecidableEq, Repr

/-- An entry of a layer's folio list: a catalog segment's DFN, or a TFN granted by the client (R120). -/
inductive ListEntry where
  | seg (dfn : Nat)
  | grant (tfn : Nat)
  deriving DecidableEq, Repr

/-- An append tracker entry: token range, layout slot, shard mask (R126). -/
structure Tracker where
  first : Nat
  last : Nat
  slot : Nat
  mask : Nat
  deriving DecidableEq, Repr

/-- The stream states of Table 4.1. -/
inductive StreamState where
  | free | active | suspending | suspended | resuming | closing
  deriving DecidableEq, Repr

/-- One layer of a stream: folio list, watermark (number of durable tokens, 0 for NONE), tracker. -/
structure Layer where
  list : List ListEntry := []
  wm : Nat := 0
  trk : List Tracker := []
  deriving DecidableEq, Repr

/-- A stream context (R117 to R133). `cTok` counts committed tokens, 0 for none; `gen` is the acceptance number of the STREAM_OPEN that made
it, `closer` that of the STREAM_CLOSE whose acceptance put it in CLOSING (R757); `was` holds, of a slot that a STREAM_RESUME with EXTEND has set, the
first acceptance number after it and the layout before it (R278). -/
structure Stream where
  st : StreamState := .free
  tenant : Nat := 0
  layout : Layout := {}
  scales : List Nat := []
  slots : KV Layout := []
  was : KV (Nat × Layout) := []
  pfx : Nat := 0
  segs : List Nat := []
  layers : List Layer := []
  cTok : Nat := 0
  cStep : Nat := 0
  gen : Nat := 0
  closer : Option Nat := none
  deriving DecidableEq, Repr

/-- A fence: its value [62:0], the poison bit with the tick in which it set, its binding (R138 to R146). -/
structure Fence where
  value : Nat := 0
  poison : Bool := false
  since : Option Nat := none
  bound : Bool := false
  tenant : Nat := 0
  deriving DecidableEq, Repr

/-- Streams and fences. -/
structure FnSt where
  fences : KV Fence := []
  streams : KV Stream := []
  deriving DecidableEq, Repr

/-! ## The prefix catalog -/

/-- The scope of an entry: a share group from 1 to 255, or a tenant of group 0 (R159). -/
inductive Scope where
  | group (g : Nat)
  | private_ (t : Nat)
  deriving DecidableEq, Repr

/-- An index entry (R159 to R161, Table 5.4). `hit` orders entries by their last hit; `pending` and `idle` are the
marks of an entry whose record another member owns (R430). -/
structure IndexEntry where
  hash : Nat := 0
  scope : Scope := .group 0
  owner : Nat := 0
  handle : Nat := 0
  hint : Nat := 1
  hit : Nat := 0
  tokens : Nat := 0
  layers : Nat := 0
  pending : Bool := false
  idle : Bool := false
  deriving DecidableEq, Repr

/-- A segment record (R161, R174); `owner` is the member ID it was made under, `inserter` the member that inserted its
entry (R429), `bad` marks a record that cannot be read (Table 20.6 code 5), `making` one whose publish has not inserted its entry yet. -/
structure SegRec where
  live : Bool := false
  layout : Layout := {}
  layers : Nat := 0
  tokens : Nat := 0
  dfns : List Nat := []
  refs : Nat := 0
  gen : Nat := 0
  publisher : Nat := 0
  scope : Scope := .group 0
  hash : Nat := 0
  inIndex : Bool := false
  owner : Nat := 0
  inserter : Nat := 0
  bad : Bool := false
  making : Bool := false
  deriving DecidableEq, Repr

/-- A record of a lookup in progress: the answer for one hash once it is known (Table 5.4). -/
structure LookupRec where
  status : Nat := 6
  took : Bool := false
  fwded : Bool := false
  member : Nat := 0
  group : Nat := 0
  hint : Nat := 0
  tokens : Nat := 0
  layers : Nat := 0
  handle : Nat := 0
  deriving DecidableEq, Repr

/-- A forwarded request: descriptor (none for REFSTATE), index of the hash in its list, request number (XTAG), destination
member, message (Tables 13.4 and 13.5 from KIND on), whether it has been sent, whether its time
has ended while its command still waits. -/
structure Forward where
  d : Option Nat := none
  idx : Nat := 0
  req : Nat := 0
  dest : Nat := 0
  msg : List Byte := []
  sent : Bool := false
  ended : Bool := false
  deriving DecidableEq, Repr

/-- The catalog of this member. Index slots are keyed by bucket × 4 + slot. -/
structure CtSt where
  index : KV IndexEntry := []
  stash : List IndexEntry := []
  hot : List Nat := []
  segs : KV SegRec := []
  ledger : KV Nat := []
  routes : KV Nat := []
  lookups : KV (List (Option LookupRec)) := []
  fwd : List Forward := []
  nextReq : Nat := 0
  clock : Nat := 0
  deriving DecidableEq, Repr

/-! ## Layout projection -/

/-- A projection unit: its commands in assignment order with the bytes each has queued, out of service, the (command, chunk)
pairs redone once, self-test running, bytes moved beyond whole MiB (R272, R279 to R282). -/
structure PjUnit where
  cmds : List (Nat × Nat) := []
  out : Bool := false
  redo : List (Nat × Nat) := []
  testing : Bool := false
  moved : Nat := 0
  deriving DecidableEq, Repr

/-! ## Tenants, interrupts, functions -/

/-- An MSI-X table entry (R456, R503). -/
structure MsixEntry where
  addr : Nat := 0
  data : Nat := 0
  masked : Bool := true
  deriving DecidableEq, Repr

/-- A PCIe function: Bus Master Enable, D3hot, the tenant a VF is bound to (R452, R493), its MPS and MRRS in bytes and its completion timeout in
ns (R450, R453). -/
structure HostFn where
  bme : Bool := false
  d3 : Bool := false
  tenant : Option Nat := none
  mps : Nat := 128
  mrrs : Nat := 512
  cto : Nat := 50000000
  deriving DecidableEq, Repr

/-- Functions, NumVFs of the SR-IOV capability, MSI-X tables and pending bits, when a vector's oldest pending completion
was reported (keys: function × 2048 + vector). -/
structure IrSt where
  fns : KV HostFn := []
  numVfs : Nat := 0
  table : KV MsixEntry := []
  pba : List Nat := []
  oldest : KV Nat := []
  deriving DecidableEq, Repr

/-! ## Errors and recovery -/

/-- An error record (Table 20.3). -/
structure ErrRec where
  ts : Nat := 0
  seq : Nat := 0
  cls : Nat := 0
  recov : Bool := false
  nested : Bool := false
  esc : Bool := false
  prevBoot : Bool := false
  utype : Nat := 0
  inst : Nat := 0
  kind : Nat := 0
  tenant : Nat := 0
  ctx : Nat := 0
  dpa : Nat := 0
  tag : Nat := 0
  status : Nat := 0
  detail : Nat := 0
  outcome : Nat := 0
  window : Nat := 0
  related : Nat := 0xFFFF_FFFF
  data : Nat := 0
  deriving DecidableEq, Repr

/-- The recovery state of a unit: the record of the running recovery and of the queued one (0xFFFF_FFFF for a record
that took no SEQ), the times of its counted errors of the last second, the UNIT_ESCALATED record while the unit is out of service
(R658 to R660). -/
structure UnitRec where
  running : Option Nat := none
  queued : Option Nat := none
  times : List Nat := []
  escBy : Option Nat := none
  deriving DecidableEq, Repr

/-- The fatal action in progress (R663, R664). -/
inductive FatalAction where
  | none | reset | hold
  deriving DecidableEq, Repr

/-- A control core: halted until its reload ends, out until device reset (R672 to R675). -/
structure Core where
  halted : Bool := false
  out : Bool := false
  deriving DecidableEq, Repr

/-- The error ring, the recoveries, the fatal store of the backup-cell domain, the fatal action in progress with
its KIND and when its device reset is due, ALERT_N driven low, the control cores. -/
structure ErSt where
  ring : KV ErrRec := []
  units : KV UnitRec := []
  store : ErrRec := {}
  storeValid : Bool := false
  storeCount : Nat := 0
  action : FatalAction := .none
  kind : Nat := 0
  due : Nat := 0
  alert : Bool := false
  cores : KV Core := []
  deriving DecidableEq, Repr
/-! ## Gweusk links (Gweusk Links) -/

/-- The link states of Table 12.4. -/
inductive LinkState where
  | disabled | down | training | config | active | quarantine | recovery | held
  deriving DecidableEq, Repr

/-- A secret as the model holds it: absent, the n-th draw of the random number generator (or of an SPDM export), or
bytes that were supplied. -/
inductive Secret where
  | absent
  | random (n : Nat)
  | given (b : List Byte)
  deriving DecidableEq, Repr

/-- What the two traffic keys of an opening are derived from (R563). -/
structure TrafficKeys where
  secret : Secret
  devNonce : List Byte
  peerNonce : List Byte
  index : Nat
  tenant : Nat
  deriving DecidableEq, Repr

/-- A session index of a link: its binding, whether it is open, the exchange in progress, keys and counters
(R393 to R397, R563). `fails` are the times of tag failures. -/
structure Session where
  bound : Bool := false
  tenant : Nat := 0
  handle : Nat := 0
  isOpen : Bool := false
  closing : Bool := false
  opening : Bool := false
  rekeying : Bool := false
  nonce : List Byte := []
  keys : Option TrafficKeys := none
  txCtr : Nat := 0
  rxCtr : Nat := 0
  fails : List Nat := []
  deriving DecidableEq, Repr

/-- A flit that waits to be sent or to be acknowledged: the number of its message on the link, whether its payload is sealed, and the CQ tail that a
COMPLETION flit reports (R395, R415). -/
structure TxFlit extends Flit where
  msg : Nat := 0
  isSealed : Bool := false
  cq : Nat := 0
  deriving DecidableEq, Repr

/-- A received flit: whether it is not yet acknowledged (R389), the verdict on its message (none until the message is whole) and the number of its
message in the session (R395, R396). -/
structure RxFlit extends Flit where
  isNew : Bool := false
  verdict : Option Bool := some true
  msg : Nat := 0
  deriving DecidableEq, Repr

/-- A pull: its descriptor, queue, XTAG, range, the bytes that have come, whether its PULL flit has been sent (R399), whether what still comes for
it is dropped, its command having ended on it (Table 12.17 rows 6 and 10). -/
structure Pull where
  d : Nat
  queue : Nat
  xtag : Nat
  off : Nat
  count : Nat
  got : Nat := 0
  asked : Bool := false
  failed : Bool := false
  deriving DecidableEq, Repr

/-- What the partner's CONFIG said (Table 12.13). -/
structure Partner where
  major : Nat := 0
  role : Nat := 0
  port : Nat := 0
  fw : Nat := 0
  constel : Nat := 0
  member : Nat := 0
  epoch : Nat := 0
  hash : List Byte := []
  credits : List Nat := []
  id : Nat := 0
  deriving DecidableEq, Repr

/-- A link: state, training result and the MIN_WIDTH in force, transmitter (sequence, replay buffer, flits that wait, the
round-robin visit of VC1, the number of the next message, credits), receiver (the order of its lanes and the lanes inverted, expected sequence,
acknowledgement, received flits, those acknowledged before the link went down and still to be processed), partner, history of drops and violations, sessions,
pulls. -/
structure Link where
  st : LinkState := .down
  prev : LinkState := .active
  rate : Nat := 0
  width : Nat := 0
  lanes : Nat := 0
  mirror : Bool := false
  inverted : Nat := 0
  tryRate : Nat := 1
  minWidth : Nat := 1
  qcause : Nat := 0
  partner : Option Partner := none
  ackSeen : Bool := false
  ackSent : Bool := false
  nextSeq : Nat := 0
  unacked : List TxFlit := []
  waiting : List TxFlit := []
  nextMsg : Nat := 0
  turn : Nat := 0
  turnLeft : Nat := 0
  sent : KV Nat := []
  freed : KV Nat := []
  rsSeq : Nat := 0
  rsRun : Nat := 0
  expect : Nat := 0
  nakSent : Bool := false
  ackDue : Bool := false
  sinceCtl : Nat := 0
  rxq : List RxFlit := []
  late : List RxFlit := []
  got : KV Nat := []
  used : KV Nat := []
  told : KV Nat := []
  lastTime : Option (Nat × Nat) := none
  drops : List Nat := []
  viols : List Nat := []
  heldUntil : Nat := 0
  upSince : Nat := 0
  pulls : List Pull := []
  sessions : KV Session := []
  deriving DecidableEq, Repr

/-- The links and the quads in lane sleep (R590, R593). -/
structure LkSt where
  links : KV Link := []
  asleep : List Nat := []
  deriving DecidableEq, Repr

/-! ## Constellations -/

/-- The membership states of Table 13.1. -/
inductive Membership where
  | standalone | member | departed
  deriving DecidableEq, Repr

/-- A forwarded request held for its sender's higher epoch (R436). -/
structure HeldReq where
  link : Nat
  f : Flit
  since : Nat
  deriving DecidableEq, Repr

/-- The constellation: membership, adopted record, record being adopted with the command that loads it or the link
and instance of the message that brought it, peer states
(0 NONE, 1 UNVERIFIED, 2 VERIFIED, 3 FAILED) by link, route links by member and the links that have left service since they were fixed (R434), held
requests, the entry into MEMBER, the servo: its exchanges, its rate in ppm and the millionths of a tick that the rate has gained or lost. -/
structure CnSt where
  st : Membership := .standalone
  member : Nat := 0
  record : List Byte := []
  next : Option (List Byte) := none
  nextBy : Option Nat := none
  nextFrom : Option (Nat × Nat) := none
  peers : KV Nat := []
  routeLink : KV Nat := []
  away : List Nat := []
  held : List HeldReq := []
  since : Nat := 0
  lastSteer : Option Nat := none
  steered : Bool := false
  rate : Int := 0
  phase : Int := 0
  goodSince : Option Nat := none
  deriving DecidableEq, Repr

/-! ## The key table (Tenant Keys and Weight Custody) -/

/-- The slot states of Table 17.1. -/
inductive SlotState where
  | free | active | retiring | lost
  deriving DecidableEq, Repr

/-- A key slot: state, kind (0 DEVICE, 1 MEMORY, 2 SESSION_SHARED, 3 SESSION_ATTESTED, 4 WEIGHT), tenant, generation,
secret, and what the kind records. `since` is its entry into RETIRING, `by` the command that waits for it. -/
structure KeySlot where
  st : SlotState := .free
  kind : Nat := 0
  tenant : Nat := 0
  gen : Nat := 0
  secret : Secret := .absent
  link : Nat := 0
  rootHash : List Byte := []
  mdigest : List Byte := []
  digests : List (List Byte) := []
  weightId : List Byte := []
  chunks : Nat := 0
  since : Nat := 0
  stopped : Nat := 0
  deriving DecidableEq, Repr

/-! ## Stacks cache -/

/-- An access hint (R234), lowest class first. -/
inductive Hint where
  | evictFirst | normal | keep
  deriving DecidableEq, Repr

/-- A cache line: sector, key-slot handle, pin class (0 unpinned), hint, place of its last access in the order of all
accesses (R228, R229, R235, R238, R245). -/
structure Line where
  sec : Nat
  handle : Nat
  pin : Nat := 0
  hint : Hint := .normal
  last : Nat := 0
  deriving DecidableEq, Repr

/-- A set: its lines, most recently accessed first, whether it is disabled (R239, R256). -/
structure CacheSet where
  lines : List Line := []
  off : Bool := false
  deriving DecidableEq, Repr

/-- A PIN whose second walk is to come or runs: folios, class, partitions touched, the sequence number of the first
descriptor accepted after its map window, whether the walk has started (R243). -/
structure Sweep where
  dfns : List Nat
  pin : Nat
  parts : List Nat
  seq : Nat
  started : Bool := false
  deriving DecidableEq, Repr

/-- The stacks cache: sets, sweeps, partitions being flushed or demoted, the count of accesses. -/
structure SkSt where
  sets : KV CacheSet := []
  sweeps : List Sweep := []
  flushing : List Nat := []
  demoting : List Nat := []
  clock : Nat := 0
  deriving DecidableEq, Repr

/-! ## Memory controllers (units 0 to 15: DDR5 channels; 16 + 32 × stack + pc: HBM3E pseudo-channels) -/

/-- A rank migration: source and target package ranks, units of 2 KiB copied and in all (R325), paused in
self-refresh (R329). -/
structure Migr where
  src : Nat
  tgt : Nat
  done : Nat := 0
  total : Nat := 0
  paused : Bool := false
  deriving DecidableEq, Repr

/-- An entry of a write queue: its line, the mask of the bytes that it holds (bit i for byte i), the poison flag (R314), the acceptance numbers of
the commands whose writes it holds while it waits for room (R316). Its bytes stand in memory, which reads as R315 serves them (log entry 117). -/
structure WqEntry where
  line : Nat
  mask : Nat := 0
  poison : Bool := false
  seqs : List Nat := []
  deriving DecidableEq, Repr

/-- A command on the pins of a DRAM as the retry buffer keeps it (R317): a read or write of a line by its device address, of a line that no device
address reaches (rank, number), a refresh of a rank's banks or of one bank, an activate of a row, the refresh of a row's neighbours, a
refresh-management command for a bank. -/
inductive DramCmd where
  | read (line : Nat)
  | write (line : Nat)
  | readIdle (rank n : Nat)
  | refresh (rank bank : Nat)
  | activate (bank row : Nat)
  | neighbour (bank row : Nat)
  | manage (bank : Nat)
  deriving DecidableEq, Repr

/-- A DDR5 channel or HBM3E pseudo-channel: the write queue with the writes that wait for room, the last 32 commands and those that the last alert
had reissued, activate counters per bank (row and count, by entry, count 0 for a free entry) and activates per bank since its last
refresh-management command, times of CA parity alerts, whether the last alert persists, a CA error armed by injection, self-refresh, what its
training found in its slots (none before), directed refresh management and the threshold of refresh management, the derived timings and those in
force (R310), rank states (Table 10.6) and logical-to-physical map, poisoned lines of ranks that hold no data (rank, line), migration, times of
corrected reads per rank, ranks whose retirement trigger waits with its cause, postponed refreshes per rank, the bank that the next per-bank refresh
takes and whether tREFI is halved (R311), write-timing drift taken up per DRAM. -/
structure Dram where
  wq : List WqEntry := []
  wwait : List WqEntry := []
  retry : List DramCmd := []
  reissued : List DramCmd := []
  act : KV (List (Nat × Nat)) := []
  alerts : List Nat := []
  persist : Bool := false
  caErr : Bool := false
  selfRef : Bool := false
  found : Option (List Dimm) := none
  drfm : Bool := false
  rfm : Nat := 0
  raa : KV Nat := []
  trained : Bool := false
  clamped : Bool := false
  derived : List Nat := []
  timing : List Nat := []
  ranks : KV Nat := []
  lmap : List Nat := []
  migr : Option Migr := none
  ce : KV (List Nat) := []
  trig : List (Nat × Nat) := []
  pend : KV Nat := []
  refBank : Nat := 0
  halved : Bool := false
  drift : List Int := []
  idle : List (Nat × Nat) := []
  deriving DecidableEq, Repr

/-- A folio's entry in the remap table, or the copy that will make it: DFN, spare, the pseudo-channel of the failing row, the copy still runs (R330
to R332). -/
structure Spare where
  dfn : Nat
  spare : Nat
  unit : Nat := 16
  copying : Bool := true
  deriving DecidableEq, Repr

/-- A row of an HBM3E pseudo-channel. -/
structure HbmRow where
  unit : Nat
  bank : Nat
  row : Nat
  deriving DecidableEq, Repr

/-- The controllers: units, the rate of all used DIMMs as MC_CFG.MAX_SPEED codes it, corrected-read times and waiting
triggers of HBM3E rows, remap table, repair list in boot flash, folios left out under R333. -/
structure McSt where
  units : KV Dram := []
  rate : Nat := 0
  rowCe : List (HbmRow × List Nat) := []
  rowTrig : List HbmRow := []
  remap : List Spare := []
  repairList : List HbmRow := []
  deriving DecidableEq, Repr

/-! ## Stored-data integrity -/

/-- A tag entry's STATE (Table 11.4). -/
inductive TagState where
  | fresh | tagged | lost
  deriving DecidableEq, Repr

/-- A tag entry of 8 bytes (Table 11.4). -/
abbrev TagEntry := BitVec 64

/-- The TAG of an entry. -/
def TagEntry.tag (e : TagEntry) : BitVec 56 := e.extractLsb' 0 56

/-- The STATE of an entry; 3 is treated as LOST. -/
def TagEntry.state (e : TagEntry) : TagState :=
  if e.extractLsb' 62 2 = 0 then .fresh else if e.extractLsb' 62 2 = 1 then .tagged else .lost

/-- The entry FRESH, and LOST: their TAG is 0. -/
def TagEntry.fresh : TagEntry := 0
def TagEntry.lost : TagEntry := 2#2 ++ 0#62

/-- The entry TAGGED with a tag. -/
def TagEntry.tagged (t : BitVec 56) : TagEntry := 1#2 ++ 0#6 ++ t

/-- A self-test job (R362 to R367): its target, patterns, slice budget in µs, retention wait in ms, slices planned and run, until when its retention
wait lasts, record buffer in the memory of a function, failing bits found and records written, whether it stops or pauses at its next slice
boundary. -/
structure BistJob where
  kind : Nat
  index : Nat
  rank : Nat := 0
  patterns : Nat := 0
  budget : Nat := 2000
  retMs : Nat := 64
  planned : Nat := 0
  ran : Nat := 0
  waitTill : Nat := 0
  fn : Nat := 0
  buf : Nat := 0
  room : Nat := 0
  fails : Nat := 0
  written : Nat := 0
  stopping : Bool := false
  paused : Bool := false
  deriving DecidableEq, Repr

/-- The scrubber of a channel (0 to 15) or stack (16 to 19): the next line of its pass, whether a poisoned sector has
been counted in this pass, paused by SCRUB_CTL or by its controller. -/
structure Scrub where
  pos : Nat := 0
  counted : List Nat := []
  held : Bool := false
  paused : Bool := false
  late : Bool := false
  deriving DecidableEq, Repr

/-- Tag entries by sector (unlisted: FRESH), unreadable tag-store sectors (sector / 32), what injection has inverted in the stored codewords of lines,
scrubbers, self-test jobs, the injection in progress. -/
structure SiSt where
  tags : KV TagEntry := []
  badTags : List Nat := []
  lineErr : KV LineErr := []
  scrub : KV Scrub := []
  jobs : List BistJob := []
  inject : Option Nat := none
  deriving DecidableEq, Repr

/-! ## Carrels -/

/-- A task of a carrel command: 0 waiting, 1 running, 2 done; its carrel, runs so far, output, counted heads or elements,
the cluster whose fault its rerun recovers. -/
structure Task where
  st : Nat := 0
  carrel : Nat := 0
  tries : Nat := 0
  out : List Byte := []
  scales : List Byte := []
  nan : Nat := 0
  sat : Nat := 0
  redo : Option Nat := none
  bad : Option Nat := none
  deriving DecidableEq, Repr

/-- A dispatched carrel command: its place in the order of dispatch boundaries, ranges, tasks, staging bytes. -/
structure CarrelCmd where
  order : Nat := 0
  ranges : Nat := 0
  tokens : Nat := 0
  tasks : List Task := []
  stage : Nat := 0
  deriving DecidableEq, Repr

/-- A cluster: state code of Table 6.2, the state before its wake, whether REMOVE lets its tasks finish, whether its
self-test has passed and it waits for the next dispatch boundary, whether that self-test is the one of boot (R690). -/
structure Cluster where
  st : Nat := 0
  prev : Nat := 0
  removing : Bool := false
  passed : Bool := false
  boot : Bool := false
  deriving DecidableEq, Repr

/-- A carrel's scratch (R246): query vectors as the request gives them, the KV vectors of the last tile decoded to FP32, and o, m, s of each
query head as FP32; without bytes where it is zero. -/
structure Scratch where
  queries : List Byte := []
  tile : List Byte := []
  running : List Byte := []
  deriving DecidableEq, Repr

/-- An entry of the constants cache: the K and V scales of a stream's layer and KV head as FP32 codes (Table 7.3). -/
structure Scales where
  strm : Nat
  layer : Nat
  head : Nat
  k : Nat
  v : Nat
  deriving DecidableEq, Repr

/-- The running task's parameters: KV head, first token, head or byte and their count, with the folios that it reads (Table 7.3). -/
structure TaskArgs where
  head : Nat := 0
  first : Nat := 0
  count : Nat := 0
  runs : List Nat := []
  deriving DecidableEq, Repr

/-- A carrel: the task it runs (descriptor, index), whether it faulted, whether debug has halted it, the tenant of its last task (R247), its scratch, and its three
read-only caches (R248): constants, newest first, with the decode tables of MX formats by their codes, descriptor, and the library code of kernels by
opcode. -/
structure Carrel where
  task : Option (Nat × Nat) := none
  faulted : Bool := false
  halted : Bool := false
  last : Option Nat := none
  scratch : Scratch := {}
  consts : List Scales := []
  tables : List (Nat × List Byte) := []
  args : Option TaskArgs := none
  kernels : List (Nat × List Byte) := []
  deriving DecidableEq, Repr

/-- The carrels: clusters, carrels, commands by descriptor, pending wakes (oldest first; each with the
acceptance numbers of the commands that raised it), the deficit round robin of R499, VERSION of the control image whose kernel library is in
force (R249). -/
structure CrSt where
  clusters : KV Cluster := []
  carrels : KV Carrel := []
  cmds : KV CarrelCmd := []
  wakes : List (Nat × List Nat) := []
  order : Nat := 0
  ptr : Nat := 0
  visit : Option Nat := none
  deficit : KV Nat := []
  klib : Nat := 0
  deriving DecidableEq, Repr

/-! ## Placement solver -/

/-- The placement engine: the command that runs with its start time, the acceptance numbers of commands whose solve has been restarted, the
tenant served last, the count of commands whose fence wait has ended (R289, R296). -/
structure PlSt where
  running : Option Nat := none
  started : Nat := 0
  redone : List Nat := []
  last : Nat := 0
  order : Nat := 0
  deriving DecidableEq, Repr

/-! ## Tenants and quality of service (Tenants, Quality of Service, Interrupts and Resets) -/

/-- A removal in progress: tenant, the command that waits for it, whether its first two steps are done (R491). -/
structure Removal where
  tenant : Nat
  cmd : Option Nat := none
  started : Bool := false
  deriving DecidableEq, Repr

/-- The shares of a tenant that are in force on the tiers since the last credit interval (R489): DATA_WEIGHT, caps and reservations in GB/s. -/
structure Terms where
  weight : Nat := 0
  capHot : Nat := 0
  capWarm : Nat := 0
  resHot : Nat := 0
  resWarm : Nat := 0
  deriving DecidableEq, Repr

/-- The round of the tenants on one memory unit, of those with credit or of those without (R496): the tenant visited, whether its visit goes on, the
deficits in units of 256 B. -/
structure TierRound where
  ptr : Nat := 0
  visiting : Bool := false
  deficit : KV Int := []
  deriving DecidableEq, Repr

/-- Removals, per tenant and memory unit (key: tenant × 256 + unit) the reservation credit in sixteenths of a byte and
the bytes served in this 1 µs interval (R496, R497), the shares in force by tenant, the rounds by unit (key: unit × 2, + 1 for tenants without
credit). -/
structure TnSt where
  removals : List Removal := []
  credit : KV Nat := []
  served : KV Nat := []
  terms : KV Terms := []
  rounds : KV TierRound := []
  deriving DecidableEq, Repr

/-! ## Host port and management messages (Host Port and Management Transports) -/

/-- A host access to tenant memory that has found its entries and waits for a unit (R458): whether it came over CXL.mem, the tenant and its epoch then,
the tenant address and the bytes, the request's tag, a write's data with its poison, the folios of the entries and their pins. -/
structure HeldAccess where
  cxl : Bool := false
  tenant : Nat := 0
  epoch : Nat := 0
  addr : Nat := 0
  len : Nat := 0
  tag : Nat := 0
  write : Option (List Byte × Bool) := none
  dfns : List Nat := []
  metas : List Nat := []
  deriving DecidableEq, Repr

/-- The host port beyond its registers: IDE streams (0 the link stream, 1 to 4 selective: 0 no key, 1 Secure, 2 Insecure),
the committed HDM decoder (no range: none is committed), whether its last commit was refused, the accesses that wait. -/
structure HpSt where
  ide : KV Nat := []
  hdm : Hdm := {}
  hdmErr : Bool := false
  held : List HeldAccess := []
  deriving DecidableEq, Repr

/-- An MCTP message in reassembly: binding (0 PCIe VDM, 1 I3C, 2 + n link n), source, tag, next packet number, bytes
(R470). -/
structure Reasm where
  bind : Nat
  src : Nat := 0
  tag : Nat := 0
  seq : Nat := 0
  body : List Byte := []
  deriving DecidableEq, Repr

/-- The SPDM responder's connection on a binding: 0 none, 1 version, 2 capabilities, 3 algorithms agreed; the chunks of a
large request received and of a large response to be taken (R471). -/
structure SpdmConn where
  stage : Nat := 0
  chunksIn : List Byte := []
  chunksOut : List Byte := []
  deriving DecidableEq, Repr

/-- An SPDM session: binding, session number, established by FINISH (R471, R472). -/
structure SpdmSession where
  bind : Nat
  id : Nat
  open_ : Bool := false
  deriving DecidableEq, Repr

/-- A firmware image in a slot: its SVN and VERSION, whether its digest and signature verify, the root key used, its digest (R520). -/
structure Image where
  svn : Nat := 0
  version : Nat := 0
  signed : Bool := true
  key : Nat := 0
  digest : List Byte := []
  deriving DecidableEq, Repr

/-- Firmware update mode: the agent that holds it (binding, EID), when it last sent a command, the component being written
(0 none), whether its transfer has ended, the components that have verified with their images (R475, R476). -/
structure Update where
  bind : Nat
  eid : Nat
  last : Nat := 0
  comp : Nat := 0
  sent : Bool := false
  good : List (Nat × Image) := []
  deriving DecidableEq, Repr

/-- The management endpoint: messages in reassembly, endpoint IDs by binding, whether the PCIe VDM binding has been
discovered, I3C dynamic address (0 none), PLDM terminus ID, SPDM connections and sessions, receiver of platform events
(binding, EID), events held (sensor ID, event state), firmware update mode, the sensors of the PDR repository once it is fixed, the CXL event interrupt
policy. -/
structure MgSt where
  asm : List Reasm := []
  eid : KV Nat := []
  found : Bool := false
  i3c : Nat := 0
  tid : Nat := 0
  spdm : KV SpdmConn := []
  sessions : List SpdmSession := []
  receiver : Option (Nat × Nat) := none
  events : List (Nat × Nat) := []
  update : Option Update := none
  pdr : Option (List Nat) := none
  cxlPolicy : Nat := 0
  deriving DecidableEq, Repr

/-! ## The root-of-trust processor (Root of Trust, Life Cycle and Debug) -/

/-- A slot with its state record: 0 EMPTY, 1 STAGED, 2 TRIAL, 3 GOOD, 4 INVALID (R521). -/
structure FwSlot where
  st : Nat := 0
  image : Image := {}
  deriving DecidableEq, Repr

/-- One tamper input: enabled, MESH mode, active level (R536). -/
structure TamperIn where
  on : Bool := true
  mesh : Bool := false
  level : Bool := true
  deriving DecidableEq, Repr

/-- A row of logical bits: the four physical fuses of each bit, as four words (R518). -/
structure FuseRow where
  a : Nat := 0
  b : Nat := 0
  c : Nat := 0
  d : Nat := 0
  deriving DecidableEq, Repr

/-- A row whose logical bits `n` have all four fuses blown. -/
def FuseRow.of (n : Nat) : FuseRow := { a := n, b := n, c := n, d := n }

/-- A UDS row: all zero, a secret with its CRC (the `n`-th draw of the random number generator), partly written so that the CRC is invalid, blown to
all ones (R526, R532). -/
inductive UdsRow where
  | blank
  | valid (n : Nat)
  | part
  | ones
  deriving DecidableEq, Repr

/-- The fuses: LC bits (INTENT and COMMIT of PROVISIONED, DEPLOYED, RETURN, SCRAPPED), key 0 revoked, the hashes of the image keys, of the vendor's and of the
owner's authorisation key, UDS rows, counters, redundancy entries programmed (Table 16.2). -/
structure Fuses where
  lc : FuseRow := {}
  revoke : FuseRow := {}
  root0 : List Byte := []
  root1 : List Byte := []
  vendor : List Byte := []
  owner : List Byte := []
  uds : List UdsRow := [.blank, .blank, .blank]
  rtpSvn : FuseRow := {}
  ctlSvn : FuseRow := {}
  redund : Nat := 0
  deriving DecidableEq, Repr

/-- The backup-cell domain: wrapping key, tamper inputs (configuration, and which are active), event register, the counter at
system time 0 (Table 16.9, R536 to R541). -/
structure Vbat where
  wrap : Secret := .absent
  inputs : List TamperIn := [{}, {}, {}, {}]
  active : List Nat := []
  cause : Nat := 0
  zeroised : Bool := false
  battLow : Bool := false
  count : Nat := 0
  first : Nat := 0
  last : Nat := 0
  ticks : Nat := 0
  lost : Bool := false
  deriving DecidableEq, Repr

/-- A mailbox of a port: its 1 KiB buffer and whether a request is being answered (R517, R548). -/
structure Mailbox where
  buf : List Byte := []
  st : Nat := 0
  deriving DecidableEq, Repr

/-- The keys of class I that the RTP derives at boot: the DeviceID public key, the CDI and the Alias public key (R526). -/
structure ClassI where
  device : List Byte := []
  cdi : List Byte := []
  alia : List Byte := []
  deriving DecidableEq, Repr

/-- The RTP: fuses, firmware slots (RTP A, RTP B, control A, control B), backup-cell domain, debug state with the signer of its
token, nonces by port (100 for the TAP), refusals with the end of a lockout, mailboxes by port, boundary-scan hold, whether
FW_HEALTHY has come since the control firmware started, the sealed-weight index, bytes of weights released beyond whole MiB, the keys of class I, and
what debug has written of the 512 KiB of private SRAM, of which bytes 0 to 65,535 are retention SRAM (R516; log entry 149). -/
structure SeSt where
  fuses : Fuses := {}
  slots : KV FwSlot := []
  vbat : Vbat := {}
  debug : Nat := 0
  signer : Nat := 0
  nonces : KV (List Byte) := []
  refused : List Nat := []
  lockedUntil : Nat := 0
  mbx : KV Mailbox := []
  hold : Bool := false
  healthy : Bool := false
  weights : List (List Byte) := []
  weightBytes : Nat := 0
  ids : Option ClassI := none
  sram : KV Byte := []
  deriving DecidableEq, Repr

/-! ## The rail controller -/

/-- A number m / 2^s (R621: u[k] is kept at full precision). -/
structure Dyad where
  m : Int := 0
  s : Nat := 0
  deriving DecidableEq, Repr

/-- A loop beyond its registers: setpoint in force and target in 1/16 mV, whether it ramps at the boot rate, the last three errors (2^-20 V)
and outputs of the compensator (duty), the last sixteen outputs (2^-20 V), counts of failing samples (output check, OV, UV), since when the following
error is beyond LIMIT and the current above capacity, whether it is being started by a power-up run, the last valid VSET setpoint, the modulator's last bits and the
last outputs of the CIC filter, newest first (R616). -/
structure Loop where
  sp : Nat := 0
  bootRamp : Bool := false
  e : List Int := [0, 0, 0]
  u : List Dyad := [{}, {}, {}]
  outs : List Int := []
  plaus : Nat := 0
  ov : Nat := 0
  uv : Nat := 0
  follow : Option Nat := none
  above : Option Nat := none
  held : Nat := 0
  bits : List Bool := []
  cic : List Int := []
  deriving DecidableEq, Repr

/-- A phase beyond its registers: balance trim (duty / 2^20), compare value in force and the next one (1/8,192), counts of
consecutive samples: failing plausibility, out of window among them, near zero among them, above 1.25 × ILIM, of a short; PWM
(0 mid-level, 1 switching, 2 low), EN, TMON temperature (1/8 °C), reinstated and not started since; the sum of the squares of its currents since
the last update of the models, and their number (R639); its DCR measurements of the last 64 s at 25 °C, newest first (R646). -/
structure Phase where
  trim : Int := 0
  cmp : Nat := 0
  nxt : Nat := 0
  fails : Nat := 0
  wins : Nat := 0
  opens : Nat := 0
  oc : Nat := 0
  short : Nat := 0
  pwm : Nat := 0
  en : Bool := false
  tmon : Int := 0
  back : Bool := false
  squares : Nat := 0
  samples : Nat := 0
  dcrs : List Nat := []
  deriving DecidableEq, Repr

/-- A VSET_PWM input: valid, its duty in 1/8,192 (R631). -/
structure Vset where
  valid : Bool := false
  duty : Nat := 0
  deriving DecidableEq, Repr

/-- The rail controller: loops, phases, thermistors that read OPEN (with the time of the first reading) and those replaced by 85 °C,
VSET inputs, sections 1 to 3 and 4 to 5 of the calibration set in force, the power-up run: due, index in the order of R680 of the loop
being started, runs failed. -/
structure PwSt where
  loops : KV Loop := []
  phases : KV Phase := []
  opened : KV Nat := []
  subst : List Nat := []
  vset : KV Vset := []
  cal : CalSet := {}
  calBoard : CalSet := {}
  due : Bool := false
  run : Option Nat := none
  failed : Nat := 0
  deriving DecidableEq, Repr

/-! ## Clocks and power states -/

/-- Clocks and power: power state (0 working, 1 S3, 2 S5, 3 held in reset until cold reset, 4 no valid supply), the entry in progress
(0 none; 3 S3, 5 S5 waiting for the drain; 6 S5 waiting for a flash write), the cause of the exit from S3 in progress, whether the fabric
runs at 400 MHz, domains stopped (1 gated, 3 FAULT), clocks of the clusters, the key table in retention SRAM, links to enable at exit,
PERST_N low, whether its first release has come, WAKE_N driven by the device, the fallback of the system counter and the ticks since its
last 25 MHz cycle, and when the entry in progress, or S3, began. A domain in 4 has failed its relock. -/
structure CkSt where
  power : Nat := 0
  entry : Nat := 0
  wake : Nat := 0
  slow : Bool := false
  dom : KV Nat := []
  mhz : KV Nat := []
  retained : KV KeySlot := []
  links : List Nat := []
  perst : Bool := false
  released : Bool := false
  wakeOut : Bool := false
  fallback : Bool := false
  sub : Nat := 0
  since : Nat := 0
  deriving DecidableEq, Repr

/-! ## Boot (Bring-Up and Calibration; Register Map) -/

/-- Boot flash and boot: bytes 0x000 to 0x1FF of the header block, whether a cut write left it so (R720), the calibration region with its
fault (R700) and its fields, the writes in progress, the fields of the boot header in force (MEM_START, MAX_SPEED, TAGS_PRESENT,
HB_PERMILLE, CH_MODE, MAP_FACTOR, SEG_POOL, subsystem IDs), RWL fields that the PF has written since reset, the time of the ADMIN
reset, THERMTRIP_N low, sensors at their warning level. -/
structure BtSt where
  header : List Byte := []
  headerCut : Bool := false
  cal : List Byte := []
  calBad : Nat × Nat := (1, 0)
  calSet : CalSet := {}
  calNew : Option (List Byte) := none
  hdrNew : Option (List Byte) := none
  memStart : Nat := 0
  maxSpeed : Nat := 0
  tags : Nat := 0
  permille : Nat := 10
  chMode : Nat := 0
  mapFactor : Nat := 2
  segPool : Nat := 64
  subsys : Nat := 0
  rwl : List Nat := []
  resetAt : Option Nat := none
  thermtrip : Bool := false
  hotSensors : List Nat := []
  deriving DecidableEq, Repr


/-! ## What the device sends -/

/-- A message of the device to the outside, appended to State.outbox (the model's own record; DESIGN CHOICE, log entry 3). -/
inductive Msg where
  /-- A posted write of a function to host memory. -/
  | hostWrite (fn addr : Nat) (data : List Byte)
  /-- A read request of a function for host memory: an untranslated address, no PASID (R451). -/
  | hostRead (fn addr len : Nat)
  /-- An MSI-X message of a function. -/
  | msix (fn vec : Nat)
  /-- Data returned to a port's register read. -/
  | regData (port off value : Nat)
  /-- Data returned to a function's read of its doorbell pages, with the offset in BAR2. -/
  | pageData (fn off value : Nat)
  /-- A host read that completes with Unsupported Request: a register access of a port, or of a function's doorbell pages (R466). -/
  | refused (port off : Nat) (page : Bool)
  /-- A flit sent on a link. -/
  | flit (link : Nat) (f : Flit)
  /-- Training frames on a link for 1 ms (R593). -/
  | training (link : Nat)
  /-- A response or a message of the management transports or of the mailbox, with its fields as bytes. -/
  | mgmt (port kind : Nat) (code : Nat) (body : List Byte)
  /-- An MCTP packet on PCIe VDM (0) or I3C (1). -/
  | mctp (bind : Nat) (packet : List Byte)
  /-- The answer of the host port to a memory request: data or a refusal. -/
  | hostCpl (tag : Nat) (ok : Bool) (poisoned : Bool) (data : List Byte)
  /-- A pin that the device drives. -/
  | pin (p : OutPin) (high : Bool)
  deriving DecidableEq, Repr

/-! ## The whole state -/

/-- The state of the block. `mem` lists the bytes of device memory that are not zero, by device physical address;
`poison` the poisoned sectors; `now` is the system counter; `fresh` counts the free values drawn; `outbox` is what
the device has sent, oldest first; `pending` the commands that wait, first in, first out. -/
structure State where
  regs : KV Nat := []
  ports : KV PortBank := []
  map : MapSt := {}
  q : QeSt := {}
  fn : FnSt := {}
  ct : CtSt := {}
  er : ErSt := {}
  ir : IrSt := {}
  lk : LkSt := {}
  cn : CnSt := {}
  ks : KV KeySlot := []
  sk : SkSt := {}
  mc : McSt := {}
  si : SiSt := {}
  cr : CrSt := {}
  pj : KV PjUnit := []
  pl : PlSt := {}
  tn : TnSt := {}
  hp : HpSt := {}
  mg : MgSt := {}
  se : SeSt := {}
  pw : PwSt := {}
  ck : CkSt := {}
  bt : BtSt := {}
  mem : List Host.Cell := []
  poison : List Nat := []
  now : Nat := 0
  fresh : Nat := 0
  outbox : List Msg := []
  pending : List Instr := []
  deriving DecidableEq, Repr

/-- The faults of the model: none. No command raises a fault: the spec gives every command of the table an effect, and one whose
conditions do not hold leaves the state as it is (log entry 41). Safe: there is no fault to rely on. -/
inductive Fault where
  deriving DecidableEq, Repr

/-- The refusals of the model. -/
inductive Refusal where
  /-- A command without a meaning: raised by Dispatch alone, by no arm of it now. Safe: the run stops there. -/
  | notModelled (mnemonic : String)
  deriving DecidableEq, Repr

/-! ## Reset (log entry 2) -/

/-- The fields of the calibration set that boot flash holds at reset (DESIGN CHOICE, log entry 2): each field at the reset value of its
register or at a nominal value of R701, setpoints in the middle of their ranges. -/
def factoryFields : CalSet := {
  loops := [3200, 3200, 3300, 3500, 4700, 1800, 3300, 7200].map (fun v => { boot := v, table := v })
  phases := List.replicate 40 {}
  dvfs0 := [3200, 2800]
  dvfs1 := (List.range 14).map (fun i => (2800 + 40 * i, 160))
  therm := List.replicate 8 (true, 10000, 3435)
  trims := List.replicate 48 0 }

/-- The state at reset: the start of a cold reset (R682) of a JP-4810-A4 in life cycle DEPLOYED, with verified images in slots A. Every
register that the spec gives no reset value is 0, unless log entry 2 names another. -/
def State.reset : State := {
  regs := [(F_TOP_ID_STACKS.key 0, 4), (F_SE_STATUS_LC.key 0, 2)]
  se := {
    fuses := { lc := .of 15, uds := [.valid 0, .blank, .blank], root0 := Config.fuseHash 0, root1 := Config.fuseHash 1, vendor := Config.fuseHash 3, owner := Config.fuseHash 4 }
    slots := [
      (0, { st := 3, image := { version := 0x010000, digest := Config.imageDigest 0 } }), (1, { st := 0, image := { signed := false } }),
      (2, { st := 3, image := { version := 0x010000, digest := Config.imageDigest 2 } }), (3, { st := 0, image := { signed := false } })] }
  cr := { klib := 0x010000 }
  pw := { due := true }
  bt := { cal := Config.factoryCal, calBad := (0, 0), calSet := factoryFields } }

/-- The JP-4810-A2 at reset: TOP_ID reads two stacks, and stacks 2 and 3 are absent (Table 0.1, R3; log entry 43). -/
def State.resetA2 : State :=
  { State.reset with regs := [(F_TOP_ID_STACKS.key 0, 2), (F_SE_STATUS_LC.key 0, 2)] }

end Sys2Proof.Machine
end

