-- ==== Sys2Proof/Machine/Wire.lean ====
section
/-!
DEFINITION. A flit as its 256 bytes, its CRC, and the messages of a session sealed into flits and opened again (Gweusk Links).
-/
namespace Sys2Proof.Machine

/-! ## Bytes (R382, R383) -/

/-- One byte into the CRC-64, most significant bit first. -/
def crc64Bits : Nat → Nat → Nat
  | 0, c => c
  | n + 1, c => crc64Bits n (if 2 ^ 63 ≤ c then (c * 2 % 2 ^ 64) ^^^ 0x42F0E1EBA9EA3693 else c * 2)

/-- The CRC-64 of bytes. -/
def crc64 (b : List Byte) : Nat := (b.foldl (fun c x => crc64Bits 8 (c ^^^ x.toNat * 2 ^ 56)) (2 ^ 64 - 1)) ^^^ (2 ^ 64 - 1)

/-- The header of a flit (Table 12.2) with its SEQ and LEN. -/
def flitHeader (f : Flit) (seq len : Nat) : List Byte :=
  leBytes 8 (f.type + f.vc * 2 ^ 4 + b2n f.poison * 2 ^ 6 + b2n f.last * 2 ^ 7 + seq * 2 ^ 8 + len * 2 ^ 18 + f.session * 2 ^ 26 +
    f.queue * 2 ^ 32 + f.xtag * 2 ^ 48)

/-- The 256 bytes of a flit: header, payload filled up with zeros, CRC. -/
def flitWire (f : Flit) : List Byte :=
  let b := flitHeader f f.seq f.body.length ++ (f.body ++ List.replicate 240 0).take 240
  b ++ leBytes 8 (crc64 b)

/-- The CRC of 256 bytes passes (R383). -/
def crcOk (b : List Byte) : Bool := b.drop 248 == leBytes 8 (crc64 (b.take 248))

/-- LEN of 256 bytes. -/
def wireLen (b : List Byte) : Nat := leNat (b.take 8) / 2 ^ 18 % 2 ^ 8

/-- The flit that 256 bytes hold. -/
def flitOf (b : List Byte) : Flit :=
  let h := leNat (b.take 8)
  { type := bits h 0 4, vc := bits h 4 2, poison := bit h 6, last := bit h 7, seq := bits h 8 10, session := bits h 26 6
    queue := bits h 32 16, xtag := bits h 48 16, body := ((b.drop 8).take 240).take (wireLen b) }

/-! ## Messages of a session (R395, R563) -/

/-- The bytes of a secret: a draw of the random number generator is free. -/
def Secret.bytes : Secret → List Byte
  | .absent => []
  | .random n => (List.range 32).map (Config.secretByte n)
  | .given b => b

/-- The export master secret of the SPDM session of a draw (R564, R566). -/
def exportSecret (n : Nat) : List Byte := (List.range 48).map (Config.exportByte n)

/-- A key derived from a slot's secret with a label (R558). -/
def Secret.derive (x : Secret) (label : String) (n : Nat) : List Byte := hkdf384 x.bytes [] (ascii label) n

/-- The traffic key of a direction, "GWK D2P" or "GWK P2D": HKDF-Expand over the HMAC of the session key under both nonces, the device's first (R563). -/
def TrafficKeys.key (k : TrafficKeys) (label : String) : List Byte :=
  hkdfExpand (hmac384 (k.devNonce ++ k.peerNonce) k.secret.bytes) (ascii label ++ [BitVec.ofNat 8 (k.index % 64)] ++ beBytes 2 (k.tenant % 1024)) 32

/-- The nonce of a message: the direction, then the message counter (R395). -/
def msgNonce (fromDevice : Bool) (ctr : Nat) : List Byte := beBytes 4 (b2n fromDevice * 2 ^ 31) ++ beBytes 8 ctr

/-- The additional data of a message: its first flit's header with SEQ and LEN 0, and its data length (R395). -/
def msgAad (f : Flit) (n : Nat) : List Byte := flitHeader f 0 0 ++ beBytes 4 n

/-- Bytes cut at 240 to a flit. -/
def slices : Nat → List Byte → List (List Byte)
  | 0, _ => []
  | n + 1, b => b.take 240 :: slices n (b.drop 240)

/-- A message sealed: its data encrypted, followed by the tag in the byte stream. -/
def sealMsg (k : TrafficKeys) (ctr : Nat) (fs : List TxFlit) : List TxFlit :=
  match fs with
  | [] => []
  | f :: _ =>
    let data := (fs.map (fun (g : TxFlit) => g.body)).flatten
    let key := k.key "GWK D2P"
    let c := gcmXor key (msgNonce true ctr) data
    let b := c ++ gcmTag key (msgNonce true ctr) (msgAad f.toFlit data.length) c
    fs.zipWith (fun (g : TxFlit) p => { g with body := p, isSealed := true }) (slices fs.length b)

/-- A message opened: its tag verified, its data decrypted; the verdict stands on each of its flits. -/
def openMsg (k : TrafficKeys) (ctr : Nat) (fs : List RxFlit) : List RxFlit :=
  match fs with
  | [] => []
  | f :: _ =>
    let b := (fs.map (fun (g : RxFlit) => g.body)).flatten
    let key := k.key "GWK P2D"
    let c := b.take (b.length - 16)
    let ok := decide (16 ≤ b.length) && gcmTag key (msgNonce false ctr) (msgAad f.toFlit c.length) c == b.drop (b.length - 16)
    let data := gcmXor key (msgNonce false ctr) c
    (fs.foldl (fun (p : List RxFlit × List Byte) (g : RxFlit) =>
      (p.1 ++ [{ g with body := if ok then p.2.take g.body.length else [], verdict := some ok }], p.2.drop g.body.length)) ([], data)).1

end Sys2Proof.Machine
end

