-- ==== Sys2Proof/Machine/Ops.lean ====
section
/-!
DEFINITION. The named operations over State: register fields, queues, descriptors, fences, streams, memory, poison,
messages. Every meaning reads and writes State through these.
-/
namespace Sys2Proof.Machine

/-- What a command answers. -/
abbrev Res := Host.Outcome State Fault Refusal

/-- Bytes `[i, i + n)` of a list as a little-endian number. -/
def leAt (l : List Byte) (i n : Nat) : Nat := leNat ((l.drop i).take n)

/-! ## Register fields (R10) -/

/-- The value of a register field of an instance. -/
def State.fld (s : State) (f : Fld) (i : Nat := 0) : Nat := kvGet f.rst s.regs (f.key i)

/-- Sets a register field of an instance; a field holds its width in bits and no more. -/
def State.setFld (s : State) (f : Fld) (v : Nat) (i : Nat := 0) : State :=
  { s with regs := kvInsert s.regs (f.key i) (v % 2 ^ f.wid) }

/-- Raises a counter field, saturating at the largest value of its width. -/
def State.bump (s : State) (f : Fld) (n : Nat := 1) (i : Nat := 0) : State :=
  s.setFld f (min (s.fld f i + n) (2 ^ f.wid - 1)) i

/-- Lowers a field, no lower than 0. -/
def State.drop (s : State) (f : Fld) (n : Nat := 1) (i : Nat := 0) : State :=
  s.setFld f (s.fld f i - n) i

/-- The HBM3E stacks of the ordering code (Table 0.1, R1, R3): 0 and 1 on the JP-4810-A2, whose TOP_ID reads two stacks; else 0 to 3. -/
def State.stacks (s : State) : List Nat := List.range (if s.fld F_TOP_ID_STACKS = 2 then 2 else 4)

/-! ## What the device sends -/

/-- Sends a message. -/
def State.emit (s : State) (m : Msg) : State := { s with outbox := s.outbox ++ [m] }

/-- Draws the number of a fresh free value. -/
def State.draw (s : State) : State := { s with fresh := s.fresh + 1 }

/-! ## Memory (Table 0.4): bytes by device physical address; an unlisted byte reads zero (R45) -/

/-- Memory is in its canonical form: addresses strictly rising, no entry equal to the 0 that an unlisted address reads as (log entry 2). -/
def Memory.wf (m : List Host.Cell) : Bool := kvWf 0 m

/-- One byte of device memory. -/
def State.byte (s : State) (a : Nat) : Byte := kvGet 0 s.mem a

/-- Writes one byte of device memory. -/
def State.setByte (s : State) (a : Nat) (b : Byte) : State := { s with mem := kvPut 0 s.mem a b }

/-- `n` bytes of device memory from an address on. -/
def State.readMem (s : State) (a : Nat) : Nat → List Byte
  | 0 => []
  | n + 1 => s.byte a :: s.readMem (a + 1) n

/-- Writes bytes to device memory from an address on. -/
def State.writeMem (s : State) (a : Nat) : List Byte → State
  | [] => s
  | b :: t => (s.setByte a b).writeMem (a + 1) t

/-- Memory as the bytes below an address and at or above another: writes zero to a range by forgetting its bytes. -/
def State.zeroMem (s : State) (a n : Nat) : State :=
  { s with mem := s.mem.filter (fun c => decide (c.1 < a) || decide (a + n ≤ c.1)) }

/-- The sector (256 B) of an address. -/
def sectorOf (a : Nat) : Nat := a / 256

/-- A sector is poisoned. -/
def State.poisoned (s : State) (sec : Nat) : Bool := inSet s.poison sec

/-- Marks a sector poisoned, without counting. -/
def State.setPoison (s : State) (sec : Nat) : State := { s with poison := setInsert s.poison sec }

/-- Clears a sector's poison. -/
def State.clearPoison (s : State) (sec : Nat) : State := { s with poison := setErase s.poison sec }

/-! ## Queues and descriptors -/

/-- A read of `n` bytes from address `a` of recorded folios meets a poisoned sector. -/
def State.meetsPoison (s : State) (secs : List Nat) : Bool := secs.any s.poisoned

/-- What an unbound or never configured queue holds: queues 0 to 15 are bound to tenant 0 and the PF and report on
PF vector q (R73, R501). -/
def queueDflt (q : Nat) : Queue :=
  if q < 16 then { origin := 0x80, vector := q } else {}

/-- A queue. -/
def State.queue (s : State) (q : Nat) : Queue := kvGet (queueDflt q) s.q.tab q

/-- Replaces a queue. -/
def State.setQueue (s : State) (q : Nat) (x : Queue) : State :=
  { s with q := { s.q with tab := kvPut (queueDflt q) s.q.tab q x } }

/-- A management queue (R73). -/
def isMgmt (q : Nat) : Bool := decide (q < 16)

/-- A queue with a link origin (QE_Q_BIND.ORIGIN 0x00 to 0x2F). -/
def Queue.isLink (x : Queue) : Bool := decide (x.origin < 0x30)

/-- A bound queue (R74). -/
def Queue.isBound (x : Queue) : Bool := x.origin != 0xFF

/-- The function of a host origin: 0 for the PF, n for VF n. -/
def Queue.fn (x : Queue) : Nat := x.origin - 0x80

/-- The size of a queue's rings (R81). -/
def State.ringSize (s : State) (q : Nat) : Nat := 2 ^ s.fld F_QE_Q_CFG_LOG2SIZE q

/-- QE_Q_CFG.CLASS, which reads 0 on queues 0 to 15 (Table 3.7). -/
def State.qClass (s : State) (q : Nat) : Nat := if isMgmt q then 0 else s.fld F_QE_Q_CFG_CLASS q

/-- QE_Q_CFG.LOC: 1 on a link-origin queue, 0 on queues 0 to 15 (Table 3.7). -/
def State.qInFolios (s : State) (q : Nat) : Bool :=
  if isMgmt q then false else if (s.queue q).isLink then true else s.fld F_QE_Q_CFG_LOC q == 1

/-- A descriptor in flight. -/
def State.desc? (s : State) (d : Nat) : Option Desc := (s.q.descs.find? (fun p => p.1 == d)).map (·.2)

/-- A descriptor, empty when there is none of that number. -/
def State.desc (s : State) (d : Nat) : Desc := kvGet {} s.q.descs d

/-- Records a descriptor. -/
def State.setDesc (s : State) (d : Nat) (x : Desc) : State :=
  { s with q := { s.q with descs := kvInsert s.q.descs d x } }

/-- Releases a descriptor, with its output staging (R204); answers of other members and of a link partner that still come
for it find no command (16384 is no descriptor), and a drain that it began goes on without it (R754). -/
def State.freeDesc (s : State) (d : Nat) : State :=
  { s with
    q := { s.q with descs := kvErase s.q.descs d }
    cr := { s.cr with cmds := kvErase s.cr.cmds d }
    ct := { s.ct with
      lookups := kvErase s.ct.lookups d
      fwd := s.ct.fwd.map (fun (f : Forward) => if f.d == some d then { f with d := none } else f) }
    lk := { s.lk with links := s.lk.links.map (fun (p : Nat × Link) => (p.1, { p.2 with
      pulls := (p.2.pulls.filter (fun r => r.d != d || r.asked)).map (fun (r : Pull) =>
        if r.d == d then { r with d := 16384 } else r) })) }
    tn := { s.tn with removals := s.tn.removals.map (fun (r : Removal) =>
      if r.cmd == some d then { r with cmd := none } else r) }
    cn := { s.cn with nextBy := if s.cn.nextBy == some d then none else s.cn.nextBy }
    map := { s.map with revokes :=
      if (kvGet {} s.map.revokes (s.desc d).e.tenant).running == some d then kvPut {} s.map.revokes (s.desc d).e.tenant {}
      else s.map.revokes } }

/-- The descriptors in flight of a queue (QE_Q_INFLIGHT). -/
def State.inflight (s : State) (q : Nat) : Nat := (s.q.descs.filter (fun p => p.2.q == q)).length

/-- Descriptors of a tenant that carry an epoch other than the given one (TN_MAP_OLDCNT, R61, R753). -/
def State.oldCount (s : State) (t cur : Nat) : Nat :=
  (s.q.descs.filter (fun p => p.2.e.tenant == t && p.2.epoch.any (fun e => e != cur))).length

/-- Translation-store runs in use (R56). -/
def State.runsUsed (s : State) : Nat := (s.q.descs.map (fun p => p.2.runs)).foldl (· + ·) 0

/-- Free descriptors of the 16,384 (QE_DESC_FREE). -/
def State.descFree (s : State) : Nat := 16384 - s.q.descs.length

/-- Free translation-store runs (QE_XSTORE_FREE). -/
def State.runsFree (s : State) : Nat := 2097152 - s.runsUsed

/-- The lowest free descriptor number. -/
def State.freshDesc (s : State) : Option Nat :=
  firstFrom (fun i => (s.desc? i).isNone) 16384 0

/-- The runs of consecutive DFNs in a list of DFNs (R56, Table 2.4 step 10). -/
def runCount : List Nat → Nat
  | [] => 0
  | [_] => 1
  | a :: b :: t => (if b == a + 1 then 0 else 1) + runCount (b :: t)

/-- The code of a status (Table 3.6). -/
def Status.code : Status → Nat
  | .ok => 0 | .param => 1 | .perm => 2 | .nomap => 3 | .integrity => 4 | .poison => 5 | .timeout => 6
  | .stale => 7 | .retired => 8 | .capacity => 9 | .aborted => 10 | .quarantine => 11 | .unsupported => 12
  | .busy => 13 | .fencePoison => 14 | .moved => 15 | .feasibility => 16

/-- The precedence of terminal conditions that arise in one tick (R98): lower stands. -/
def Status.rank : Status → Nat
  | .retired => 0 | .aborted => 1 | .fencePoison => 2 | .timeout => 3 | _ => 4

/-- A descriptor in another stage at a tick; it keeps the stages that it has left in that tick (R98). -/
def Desc.to (x : Desc) (now : Nat) (g : Stage) : Desc :=
  { x with stage := g, left := (now, x.stage :: (if x.left.1 = now then x.left.2 else [])) }

/-- The stages that a descriptor is in, or has been in in this tick (R98). -/
def Desc.stages (x : Desc) (now : Nat) : List Stage := x.stage :: (if x.left.1 = now then x.left.2 else [])

/-- When a descriptor came into its stage. -/
def Desc.since (x : Desc) : Nat := if x.left.2.isEmpty then x.tAcc else x.left.1

/-- A wait of `x` with a budget in µs has lasted for it, counted from its start (R155, R195). -/
def State.waitedOut (s : State) (x : Desc) (budget : Nat) : Bool := decide (x.since + 1000 * budget ≤ s.now)

/-- The command timeout of a queue has run since the fetch of an entry (R57, R92). -/
def State.timedOut (s : State) (q fetched : Nat) : Bool := decide (fetched + 1000000 * s.fld F_QE_Q_CFG_TIMEOUT_MS q ≤ s.now)

/-- Moves a descriptor to a stage. -/
def State.stage (s : State) (d : Nat) (g : Stage) : State :=
  match s.desc? d with
  | none => s
  | some x => s.setDesc d (x.to s.now g)

/-- The numbers of the descriptors that satisfy a test, lowest first. -/
def State.descsWhere (s : State) (p : Desc → Bool) : List Nat :=
  (s.q.descs.filter (fun x => p x.2)).map (·.1)

/-- A descriptor of opcode `op` may run its operation now. -/
def Desc.runs? (x : Desc) (op : Nat) : Bool := x.e.opcode == op && decide (x.stage = .ready)

/-- The device physical address of byte `i` of a run of folios that begins at byte `a` of its first folio. -/
def dpaAt (dfns : List Nat) (a i : Nat) : Nat :=
  dfns.getD ((a % 65536 + i) / 65536) 0 * 65536 + (a % 65536 + i) % 65536

/-- The folios (TFNs) that `n` bytes from tenant address `a` touch (R39). -/
def tfnsOf (a n : Nat) : List Nat :=
  if n = 0 then [] else List.range' (a / 65536) ((a % 65536 + n - 1) / 65536 + 1)

/-! ## Mirror and owner records (R43, R46) -/

/-- The key of a tenant's mirror entry. -/
def mirrorKey (t tfn : Nat) : Nat := t * 16777216 + tfn

/-- A mirror entry. -/
def State.entry (s : State) (t tfn : Nat) : MapEntry := kvGet {} s.map.mirror (mirrorKey t tfn)

/-- Writes a mirror entry. -/
def State.setEntry (s : State) (t tfn : Nat) (e : MapEntry) : State :=
  { s with map := { s.map with mirror := kvPut {} s.map.mirror (mirrorKey t tfn) e } }

/-- A folio waits in the zeroing order (R695). -/
def State.inZeroing (s : State) (dfn : Nat) : Bool :=
  s.map.zeroing.any (fun r => decide (r.1 ≤ dfn) && decide (dfn < r.1 + r.2))

/-- A folio's owner record; the folios left out of service are DEVICE, and the zeroing order says which folios are ZEROING. -/
def State.owner (s : State) (dfn : Nat) : Owner :=
  let o := kvGet {} s.map.owner dfn
  if inSet s.map.device dfn then { o with st := .device }
  else if s.inZeroing dfn then { o with st := .zeroing } else o

/-- Writes a folio's owner record. -/
def State.setOwner (s : State) (dfn : Nat) (o : Owner) : State :=
  let o := { o with st := if o.st = .zeroing || o.st = .device then .free else o.st }
  { s with map := { s.map with owner := kvPut {} s.map.owner dfn o } }

/-- A folio enters ZEROING behind the folios that wait (R695). -/
def State.toZeroing (s : State) (dfn : Nat) : State :=
  let s := s.setOwner dfn {}
  { s with map := { s.map with zeroing := s.map.zeroing ++ [(dfn, 1)] } }

/-- Folios still ZEROING (TOP_ZERO_LEFT). -/
def State.zeroLeft (s : State) : Nat := (s.map.zeroing.map (·.2)).foldl (· + ·) 0

/-- Runs of folios without those of another run. -/
def subRun (r : Nat × Nat) (l : List (Nat × Nat)) : List (Nat × Nat) :=
  (l.map (fun (x : Nat × Nat) =>
    ([(x.1, min (x.1 + x.2) r.1 - x.1), (max x.1 (r.1 + r.2), x.1 + x.2 - max x.1 (r.1 + r.2))] : List (Nat × Nat)).filter
      (fun y => y.2 != 0))).flatten

/-- Folios enter DEVICE, whatever state they are in (R43, R333, Table 20.6 code 2). -/
def State.toDevice (s : State) (l : List Nat) : State :=
  { s with map := { s.map with
    device := l.foldl setInsert s.map.device, zeroing := l.foldl (fun z f => subRun (f, 1) z) s.map.zeroing } }

/-- The first folio of a list of runs that satisfies a test on its run leaves the list. -/
def dropHead (p : Nat → Bool) : List (Nat × Nat) → List (Nat × Nat)
  | [] => []
  | (a, n) :: l => if p a then (if n ≤ 1 then l else (a + 1, n - 1) :: l) else (a, n) :: dropHead p l

/-- The revoking commands of a tenant. -/
def State.revokes (s : State) (t : Nat) : Revokes := kvGet {} s.map.revokes t

/-- Replaces a tenant's revoking commands. -/
def State.setRevokes (s : State) (t : Nat) (r : Revokes) : State :=
  { s with map := { s.map with revokes := kvPut {} s.map.revokes t r } }

/-- The tenant's current map epoch (TN_MAP_EPOCH.CURRENT). -/
def State.epoch (s : State) (t : Nat) : Nat := s.fld F_TN_MAP_EPOCH_CURRENT t

/-- What is left of a tenant's drain: those descriptors, and the host accesses that found their entries under an earlier epoch (R58, R458, R753). -/
def State.drainLeft (s : State) (t : Nat) : Nat :=
  s.oldCount t (s.epoch t) + (s.hp.held.filter (fun a => a.tenant == t && a.epoch != s.epoch t)).length

/-! ## Tag entries, and bytes as a tenant reads them -/

/-- A tenant tags its sectors. -/
def State.tagging (s : State) (t : Nat) : Bool := s.fld F_TN_T_STATUS_TAGS t == 1

/-- The tenant that owns the folio of a sector tags its sectors. -/
def State.tagsAt (s : State) (sec : Nat) : Bool :=
  let o := s.owner (sec / 256)
  o.st != .free && s.tagging o.tenant

/-- A sector's tag entry. -/
def State.tag (s : State) (sec : Nat) : TagEntry := kvGet TagEntry.fresh s.si.tags sec

/-- A sector that reads as zeros, neither from memory nor with its tag (R351). -/
def State.freshAt (s : State) (sec : Nat) : Bool :=
  s.tagsAt sec && (s.tag sec).state == .fresh && !inSet s.si.badTags (sec / 32)

/-- One byte of tenant memory as a read finds it: zero in a FRESH sector (R351). -/
def State.look (s : State) (a : Nat) : Byte := if s.freshAt (sectorOf a) then 0 else s.byte a

/-- `n` bytes of tenant memory from a device address on. -/
def State.lookMem (s : State) (a : Nat) : Nat → List Byte
  | 0 => []
  | n + 1 => s.look a :: s.lookMem (a + 1) n

/-- Bytes at a tenant address, through the folios recorded for it. -/
def State.readRuns (s : State) (dfns : List Nat) (a i : Nat) : Nat → List Byte
  | 0 => []
  | n + 1 => s.look (dpaAt dfns a i) :: s.readRuns dfns a (i + 1) n

/-- Writes bytes at a tenant address, through the folios recorded for it. -/
def State.writeRuns (s : State) (dfns : List Nat) (a i : Nat) : List Byte → State
  | [] => s
  | b :: t => (s.setByte (dpaAt dfns a i) b).writeRuns dfns a (i + 1) t

/-- The sectors that `n` bytes from address `a` of recorded folios touch, in order. -/
def sectorsOf (dfns : List Nat) (a n : Nat) : List Nat :=
  if n = 0 then [] else
    (List.range ((a % 256 + n - 1) / 256 + 1)).map
      (fun k => sectorOf (dpaAt dfns (a - a % 256) (256 * k)))

/-- Copies `n` bytes of device memory from one address to another. -/
def State.copyMem (s : State) (src dst n : Nat) : State :=
  let l := (s.mem.filter (fun c => decide (src ≤ c.1) && decide (c.1 < src + n))).map (fun c => (c.1 - src + dst, c.2))
  let s := s.zeroMem dst n
  { s with mem := l.foldl (fun m c => kvPut 0 m c.1 c.2) s.mem }

/-! ## Recoveries of units (R658, R667, R761) -/

/-- The key of a unit of Table 20.2. -/
def unitKey (utype inst : Nat) : Nat := utype * 65536 + inst

/-- The recovery state of a unit. -/
def State.unitRec (s : State) (k : Nat) : UnitRec := kvGet {} s.er.units k

/-- Replaces the recovery state of a unit. -/
def State.setUnitRec (s : State) (k : Nat) (u : UnitRec) : State :=
  { s with er := { s.er with units := kvPut {} s.er.units k u } }

/-- The record of a sequence number, if the ring still holds it (R667). -/
def State.ringRec (s : State) (seq : Nat) : Option ErrRec :=
  match (s.er.ring.find? (fun p => p.1 == seq % 256)).map (·.2) with
  | some r => if r.seq == seq then some r else none
  | none => none

/-- Puts a record into its slot (R667). -/
def State.setRing (s : State) (r : ErrRec) : State :=
  { s with er := { s.er with ring := kvInsert s.er.ring (r.seq % 256) r } }

/-- Rewrites the OUTCOME of a record whose slot still holds its SEQ (R761). -/
def State.setOutcome (s : State) (seq outcome : Nat) : State :=
  match s.ringRec seq with
  | some r => s.setRing { r with outcome := outcome }
  | none => s

/-- The running recovery of a unit ends (R658, R761); a queued one waits for RECOVERY_QUEUED_START. -/
def State.recoveryEnd (s : State) (utype inst : Nat) (ok : Bool) : State :=
  let k := unitKey utype inst
  let u := s.unitRec k
  match u.running with
  | none => s
  | some q =>
    let s := s.setOutcome q (if ok && u.escBy.isNone then 1 else 3)
    s.setUnitRec k { u with running := none }

/-! ## Links: what is sent (Gweusk Links) -/

/-- A link. -/
def State.link (s : State) (l : Nat) : Link := kvGet {} s.lk.links l

/-- Replaces a link. -/
def State.setLink (s : State) (l : Nat) (x : Link) : State :=
  { s with lk := { s.lk with links := kvPut {} s.lk.links l x } }

/-- The code of a link state (Table 12.4). -/
def LinkState.code : LinkState → Nat
  | .disabled => 0 | .down => 1 | .training => 2 | .config => 3 | .active => 4 | .quarantine => 5 | .recovery => 6
  | .held => 7

/-- LK_L_TIME_LAT of a link: ns from the stamp point to the pin (R404), with the trim of the board's set. -/
def State.timeLat (s : State) (l : Nat) : Nat :=
  (((Config.timeLat (s.link l).rate).toNat : Int) + s.pw.calBoard.trims.getD l 0).toNat

/-- A link that is ACTIVE or in QUARANTINE (LK_UP). -/
def Link.isUp (x : Link) : Bool := x.st = .active || x.st = .quarantine

/-- The virtual channel of a flit type (Table 12.3). -/
def vcOf (ty : Nat) : Nat :=
  if ty = 5 then 1 else if ty = 6 || ty = 7 || ty = 9 then 2 else if ty = 10 || ty = 11 || ty = 12 then 3 else 0

/-- A sequenced type, which uses credit (Table 12.3). -/
def isSequenced (ty : Nat) : Bool := (decide (3 ≤ ty) && decide (ty ≤ 9)) || ty == 11 || ty == 12

/-- The receive credits that the JP-4810 advertises (R392). -/
def ownCredits (vc : Nat) : Nat := ([256, 1024, 256, 64] : List Nat).getD vc 0

/-- The credit left on a VC of the transmitter (R391). -/
def Link.credit (x : Link) (vc : Nat) : Nat :=
  match x.partner with
  | none => 0
  | some p => p.credits.getD vc 0 + kvGet 0 x.freed vc - kvGet 0 x.sent vc

/-- The state of a link, or the one to which a link in RECOVERY goes back (R406). -/
def Link.mode (x : Link) : LinkState := if x.st = .recovery then x.prev else x.st

/-- The link may send a flit of a type in its state: every type while ACTIVE, MGMT, SESSION and the COMPLETION flits of
R417 in QUARANTINE; what a link in RECOVERY has to send waits until it is back. -/
def Link.takes (x : Link) (ty : Nat) : Bool :=
  match x.mode with
  | .active => true
  | .quarantine => ty == 11 || ty == 12 || ty == 6
  | _ => false

/-- The CLOSE of a session waits behind the flits of it that still go out (R418). -/
def Link.closeWaits (x : Link) (f : Flit) : Bool :=
  f.type == 12 && leAt f.body 0 1 % 8 == 5 && x.waiting.any (fun g => g.session == leAt f.body 1 1 % 64)

/-- A message that has not been sealed waits while its session changes keys: from the device's REKEY to the answer, and while the device's answer that
brings new keys is not out (R394). -/
def Link.keyWaits (x : Link) (f : TxFlit) : Bool :=
  f.session != 0 && !f.isSealed && ((kvGet {} x.sessions f.session).rekeying ||
    x.waiting.any (fun g => g.type == 12 && leAt g.body 1 1 % 64 == f.session && inSet [2, 3, 4] (leAt g.body 0 1 % 8)))

/-- The waiting flits that may go: their VC has credit, and neither a CLOSE nor a message is held. -/
def Link.sendable (x : Link) : List TxFlit :=
  x.waiting.filter (fun f => decide (0 < x.credit f.vc) && !x.closeWaits f.toFlit && !x.keyWaits f)

/-- The session whose VC1 flit goes next: the one visited while its visit lasts, else the next one in turn (R500). -/
def Link.visit (x : Link) : Option Nat :=
  let l := (x.sendable.filter (fun f => f.vc == 1)).map (·.session)
  if 0 < x.turnLeft && inSet l x.turn then some x.turn
  else match firstFrom (fun i => inSet l i) 64 (x.turn + 1) with
    | some i => some i
    | none => firstFrom (fun i => inSet l i) 64 0

/-- The flit that a link sends next: the first waiting one that may go; on VC1, the first of the session in turn. -/
def Link.pick (x : Link) : Option TxFlit :=
  match x.sendable with
  | f :: _ =>
    if f.vc ≠ 1 then some f
    else match x.visit with
      | some i => x.sendable.find? (fun g => g.vc == 1 && g.session == i)
      | none => some f
  | [] => none

/-- Seals the message of a flit that goes out first (R395): messages of a session are numbered in the order of their first transmission. A flit without
payload is no message. -/
def Link.sealFor (x : Link) (f : TxFlit) : Link :=
  let y := kvGet {} x.sessions f.session
  if f.session = 0 || f.isSealed || f.body.isEmpty then x
  else
    let ms := x.waiting.filter (fun g => g.msg == f.msg)
    let done := match y.keys with
      | some k => sealMsg k y.txCtr ms
      | none => ms.map (fun (g : TxFlit) => { g with isSealed := true })
    { x with
      waiting := x.waiting.takeWhile (fun g => g.msg != f.msg) ++ done ++
        (x.waiting.dropWhile (fun g => g.msg != f.msg)).filter (fun g => g.msg != f.msg)
      sessions := kvPut {} x.sessions f.session { y with txCtr := y.txCtr + 1 } }

/-- Seals every message of a session that waits, in order. -/
def Link.sealAll (x : Link) (i : Nat) : Link :=
  (x.waiting.filter (fun f => f.session == i)).foldl (fun (x : Link) f =>
    match x.waiting.find? (fun g => g.msg == f.msg) with
    | some g => x.sealFor g
    | none => x) x

/-- The round-robin state after a flit of VC1: a visit lasts as many flits as the tenant's DATA_WEIGHT, and ends when nothing
waits (R500). -/
def Link.visited (x : Link) (f : TxFlit) (weight : Nat) : Link :=
  if f.vc ≠ 1 then x
  else
    let left := (if 0 < x.turnLeft && x.turn == f.session then x.turnLeft else max 1 weight) - 1
    { x with
      turn := f.session
      turnLeft := if x.waiting.any (fun g => g.vc == 1 && g.session == f.session) then left else 0 }

/-- Sends the next flit, while fewer than 512 are unacknowledged (R385, R391): its message is sealed with its first flit, its SEQ is taken and it
enters the replay buffer. -/
def State.pumpOne (s : State) (l : Nat) : State :=
  let x := s.link l
  if !x.isUp || 512 ≤ x.unacked.length then s
  else match x.pick with
  | none => s
  | some f =>
    let y := x.sealFor f
    let f := if y = x then f else (y.waiting.find? (fun g => g.msg == f.msg)).getD f
    let x := y
    let g := { f with seq := x.nextSeq }
    let x := { x with
      waiting := x.waiting.erase f, unacked := x.unacked ++ [g], nextSeq := (x.nextSeq + 1) % 1024,
      sent := kvPut 0 x.sent f.vc (kvGet 0 x.sent f.vc + 1) }
    let w := s.fld F_TN_T_SHARE_DATA_WEIGHT (kvGet ({} : Session) x.sessions f.session).tenant
    (s.setLink l (x.visited f w)).emit (.flit l g.toFlit)

/-- Sends waiting flits until none can go. -/
def State.pump (s : State) (l : Nat) : Nat → State
  | 0 => s
  | n + 1 => (s.pumpOne l).pump l n

/-- Sends messages of one type on a link, in order: sequenced flits wait for credit, the others leave at once. `cq` is the CQ tail that a COMPLETION
flit reports. -/
def State.sendMsgs (s : State) (l : Nat) (ms : List (List Flit)) (cq : Nat := 0) : State :=
  let x := s.link l
  let ok := ms.map (fun fs => fs.filter (fun f => x.takes f.type))
  let now := (ok.flatten).filter (fun f => !isSequenced f.type)
  let seqd := (ok.mapIdx (fun i fs => (fs.filter (fun f => isSequenced f.type)).map
    (fun f => ({ toFlit := f, msg := x.nextMsg + i, cq := cq } : TxFlit)))).flatten
  let s := now.foldl (fun s f => s.emit (.flit l f)) s
  let s := s.setLink l { s.link l with waiting := (s.link l).waiting ++ seqd, nextMsg := x.nextMsg + ms.length }
  s.pump l (seqd.length + x.waiting.length)

/-- Sends flits on a link, in order, each a message of its own. -/
def State.sendFlits (s : State) (l : Nat) (fs : List Flit) : State := s.sendMsgs l (fs.map (fun f => [f]))

/-- Sends one message of one flit on a link. -/
def State.sendFlit (s : State) (l : Nat) (f : Flit) : State := s.sendMsgs l [[f]]

/-- The index of a tenant's open session on a link, 0 when there is none (R393). -/
def State.sessionOf (s : State) (l t : Nat) : Nat :=
  match (s.link l).sessions.find? (fun p => p.2.bound && p.2.isOpen && p.2.tenant == t && p.1 != 63) with
  | some p => p.1
  | none => 0

/-- Traffic of a tenant's queues can pass on a link: it is ACTIVE and the tenant's session is open (R414). -/
def State.linkReady (s : State) (l t : Nat) : Bool := decide ((s.link l).st = .active) && s.sessionOf l t != 0

/-- A COMPLETION flit of a tenant can be sent, its session open: on a link that is ACTIVE, or in RECOVERY from it, and in QUARANTINE one with an entry
that the quarantine ended (`quar`, R417). -/
def State.canCarry (s : State) (l t : Nat) (quar : Bool) : Bool :=
  ((s.link l).mode == .active || ((s.link l).mode == .quarantine && quar)) && s.sessionOf l t != 0

/-- The LINK_CTL flit of a link (Table 12.6): the last SEQ accepted, a NAK when asked, the cumulative credits freed. -/
def Link.ctlFlit (x : Link) (nak : Bool) : Flit :=
  { type := 1, body := leBytes 2 ((x.expect + 1023) % 1024 + 0x8000) ++
      leBytes 2 (if nak then x.expect + 0x8000 else 0) ++
      ((List.range 4).map (fun v => leBytes 2 (kvGet 0 x.used v))).flatten }

/-- Sends LINK_CTL (R387). -/
def State.sendCtl (s : State) (l : Nat) (nak : Bool) : State :=
  let x := s.link l
  (s.setLink l { x with ackDue := false, sinceCtl := 0, rxq := x.rxq.map (fun (f : RxFlit) => { f with isNew := false }), told := x.used, nakSent := x.nakSent || nak }).emit
    (.flit l (x.ctlFlit nak))

/-- The flits of one segment of a transfer before it is sealed, 240 bytes each; the 16-byte tag follows the data and may need a flit of its own
(R395). -/
def segFlits (base : Flit) (seg : List Byte) : List Flit :=
  (List.range (ceilDiv (seg.length + 16) 240)).map (fun i => { base with body := (seg.drop (240 * i)).take 240 })

/-- The segments of a transfer, at most 15,344 bytes each. -/
def segments (b : List Byte) : List (List Byte) :=
  (List.range (max 1 (ceilDiv b.length 15344))).map (fun i => (b.drop (15344 * i)).take 15344)

/-- Marks the last flit of the last message LAST. -/
def markLast (ms : List (List Flit)) : List (List Flit) :=
  ms.mapIdx (fun i fs => fs.mapIdx (fun j f => { f with last := i + 1 == ms.length && j + 1 == fs.length }))

/-- Sends returned data as DATA flits of a queue and XTAG, each segment a message, LAST in the final flit (R395, R400). -/
def State.sendData (s : State) (l session q xtag : Nat) (b : List Byte) : State :=
  let base : Flit := { type := 5, vc := 1, session := session, queue := q, xtag := xtag }
  s.sendMsgs l (markLast ((segments b).map (segFlits base)))

/-- A DATA transfer of a queue and XTAG is not yet wholly acknowledged (R400, R401). -/
def State.dataUnacked (s : State) (l q xtag : Nat) : Bool :=
  ((s.link l).unacked ++ (s.link l).waiting).any (fun f => f.type == 5 && f.queue == q && f.xtag == xtag)

/-! ## What a command holds while it runs -/

/-- A carrel. -/
def State.carrel (s : State) (c : Nat) : Carrel := kvGet {} s.cr.carrels c

/-- Replaces a carrel. -/
def State.setCarrel (s : State) (c : Nat) (x : Carrel) : State :=
  { s with cr := { s.cr with carrels := kvPut {} s.cr.carrels c x } }

/-- A cluster. -/
def State.cluster (s : State) (k : Nat) : Cluster := kvGet {} s.cr.clusters k

/-- Replaces a cluster. A cluster that goes OUT loses the self-test pass it had (R366). -/
def State.setCluster (s : State) (k : Nat) (x : Cluster) : State :=
  let s := if x.st == 4 && (s.cluster k).st != 4 && (s.cluster k).st != 5 then s.setFld F_SI_T_PASS_PASS 0 (20 + k) else s
  { s with cr := { s.cr with clusters := kvPut {} s.cr.clusters k x } }

/-- A task runs on a carrel of the cluster. -/
def State.clusterBusy (s : State) (k : Nat) : Bool :=
  (List.range 8).any (fun i => (s.carrel (8 * k + i)).task.isSome)

/-- A cluster whose REMOVE waited for its last task goes OUT (R225). -/
def State.clusterDrained (s : State) (k : Nat) : State :=
  if (s.cluster k).removing && !s.clusterBusy k then s.setCluster k { st := 4 } else s

/-- A carrel whose task has ended: its descriptor cache is empty (Table 7.3). -/
def Carrel.idle (x : Carrel) : Carrel := { x with task := none, args := none }

/-- A carrel becomes free. -/
def State.freeCarrel (s : State) (c : Nat) : State := (s.setCarrel c (s.carrel c).idle).clusterDrained (c / 8)

/-- The carrel command of a descriptor. -/
def State.carrelCmd (s : State) (d : Nat) : CarrelCmd := kvGet {} s.cr.cmds d

/-- Replaces the carrel command of a descriptor. -/
def State.setCarrelCmd (s : State) (d : Nat) (x : CarrelCmd) : State :=
  { s with cr := { s.cr with cmds := kvPut {} s.cr.cmds d x } }

/-- Changes one task of a command. -/
def State.setTask (s : State) (d i : Nat) (f : Task → Task) : State :=
  let c := s.carrelCmd d
  s.setCarrelCmd d { c with tasks := c.tasks.modify i f }

/-- A cluster goes OUT, where it has no tasks (Table 6.2): those that its carrels run wait to be assigned again (DESIGN CHOICE, log entry
111). -/
def State.clusterOut (s : State) (k : Nat) : State :=
  let s := (List.range' (8 * k) 8).foldl (fun s c => match (s.carrel c).task with
    | none => s
    | some (d, i) => (s.setTask d i (fun t => { t with st := 0 })).setCarrel c (s.carrel c).idle) s
  s.setCluster k { st := 4 }

/-- Every carrel drops its constants of a stream, whose ID leaves FREE (Table 7.3). -/
def State.dropConsts (s : State) (i : Nat) : State :=
  { s with cr := { s.cr with carrels := s.cr.carrels.map (fun (p : Nat × Carrel) =>
      (p.1, { p.2 with consts := p.2.consts.filter (fun e => e.strm != i) })) } }

/-- The kernel library of a control image takes effect, only while no carrel has a task running: the constants and kernel caches of all
carrels are invalidated in the same step (R249). -/
def State.newLibrary (s : State) (version : Nat) : State :=
  if s.cr.carrels.any (fun p => p.2.task.isSome) then s
  else { s with cr := { s.cr with
    klib := version
    carrels := s.cr.carrels.map (fun (p : Nat × Carrel) => (p.1, { p.2 with consts := [], tables := [], kernels := [] })) } }

/-- CR_KLIB_VERSION (R192): the version of the library of a control image is the image's own (FREE VALUE, log entry 112). -/
def State.klibVersion (s : State) : Nat := (Config.klibVersion s.cr.klib).toNat % 2 ^ 24

/-- Stops a command's tasks: its carrels become free and the recoveries that its reruns were end (R224, R57). -/
def State.stopTasks (s : State) (d : Nat) : State :=
  let c := s.carrelCmd d
  let s := (c.tasks.filterMap (·.redo)).foldl (fun s k => s.recoveryEnd 6 k true) s
  let s := s.setCarrelCmd d { c with tasks := [] }
  ((List.range 64).filter (fun i => (s.carrel i).task.any (fun t => t.1 == d))).foldl State.freeCarrel s

/-- A projection unit. -/
def State.pjUnit (s : State) (u : Nat) : PjUnit := kvGet {} s.pj u

/-- Replaces a projection unit. -/
def State.setPjUnit (s : State) (u : Nat) (x : PjUnit) : State := { s with pj := kvPut {} s.pj u x }

/-- Takes a command off the projection units. -/
def State.leavePj (s : State) (d : Nat) : State :=
  (List.range 8).foldl (fun s u =>
    let x := s.pjUnit u
    s.setPjUnit u { x with cmds := x.cmds.filter (fun c => c.1 != d), redo := x.redo.filter (fun r => r.1 != d) }) s

/-- A STREAM_SUSPEND that is stopped before its copies end leaves its stream ACTIVE, a STREAM_RESUME that fails leaves
it SUSPENDED (Table 4.1, R134). -/
def State.unsuspend (s : State) (d : Nat) : State :=
  let x := s.desc d
  let i := x.strm.getD 0
  let y : Stream := kvGet {} s.fn.streams i
  let put (st : StreamState) : State := { s with fn := { s.fn with streams := kvPut {} s.fn.streams i { y with st := st } } }
  if x.stage = .done then s
  else if x.e.opcode = 0x62 && y.st = .suspending then put .active
  else if x.e.opcode = 0x63 && y.st = .resuming then put .suspended
  else s

/-- The XTAG of a command's transfers: bits [15:0] of its CLIENT_TAG (R399); a weight release names its own (R578). -/
def Desc.xtag (x : Desc) : Nat := if x.e.opcode = 0x7B then bits x.e.spec 80 16 else x.e.tag % 65536

/-- The queue whose link carries what a command returns: its own, or the destination queue of a weight release (R578). -/
def Desc.outQ (x : Desc) : Nat := if x.e.opcode = 0x7B && x.e.opA % 16 == 3 then bits x.e.spec 32 16 else x.q

/-- The rest of a RELEASE that is stopped is not sent: one empty DATA flit with POISON and LAST ends its transfer (R579). -/
def State.cutRelease (s : State) (d : Nat) : State :=
  let x := s.desc d
  let q := s.queue x.outQ
  let i := s.sessionOf q.origin q.tenant
  let begun := match x.stage with
    | .wait .dataOut => s.dataUnacked q.origin x.outQ x.xtag
    | .wait .linkOut => true
    | _ => false
  if x.e.opcode == 0x7B && x.e.opA % 16 == 3 && begun && i != 0 && (s.link q.origin).takes 5 then
    let y := s.link q.origin
    let s := s.setLink q.origin { y with
      waiting := y.waiting.filter (fun f => !(f.type == 5 && f.queue == x.outQ && f.xtag == x.xtag)) }
    s.sendFlits q.origin
      [{ type := 5, vc := 1, session := i, queue := x.outQ, xtag := x.xtag, poison := true, last := true }]
  else s

/-- Takes a command off the placement engine: a restart of its solve ends with it (R296, R761). -/
def State.leaveEngine (s : State) (d : Nat) : State :=
  let r := s.pl.redone
  let q := (s.desc d).seq
  let s := if s.pl.running = some d && inSet r q then s.recoveryEnd 8 0 true else s
  { s with pl := { s.pl with running := if s.pl.running = some d then none else s.pl.running, redone := r.filter (fun k => k != q) } }

/-- Takes a command off the movers, carrels, units and engines that serve it (R57). -/
def State.stopWork (s : State) (d : Nat) : State :=
  let s := (((s.cutRelease d).stopTasks d).leavePj d).unsuspend d
  s.leaveEngine d

/-- The map window that a command holds open closes; what it revoked drains (R58, R754, Table 2.7). `aux` is 1 when the
command revoked. -/
def State.leaveWindow (s : State) (d : Nat) : State :=
  let x := s.desc d
  let t := x.e.tenant
  if x.stage = .wait .window then
    let s := s.setFld F_TN_MAP_EPOCH_WINDOW 0 t
    if x.aux = 1 && s.drainLeft t != 0 then
      (s.setFld F_TN_MAP_EPOCH_DRAINING 1 t).setRevokes t { s.revokes t with running := some d }
    else s
  else s

/-- OPFLAGS bit `i`, numbered as in the first word of the entry (8 to 11). -/
def Entry.flag (e : Entry) (i : Nat) : Bool := bit e.flags (i - 8)

/-- The command takes data from its link. -/
def Entry.pulls (e : Entry) : Bool :=
  e.opcode == 0x20 || e.opcode == 0x23 ||
    ((e.opcode == 0x40 || e.opcode == 0x41 || e.opcode == 0x43 || e.opcode == 0x50) && !e.flag 8)

/-- A FENCE_WAIT in its own wait, beyond its packet wait. -/
def Desc.ownWait (x : Desc) : Bool := x.e.opcode == 0x02 && x.aux == 1

/-- A command that has not begun to execute in a stage: in its fence wait or its resource wait, or about to run its operation (Table 3.2, R763); a
FENCE_RESET that waits for its fence is such a command. -/
def State.unbegunIn (s : State) (x : Desc) (g : Stage) : Bool :=
  match g with
  | .ready => !(x.e.pulls && (s.queue x.q).isLink)
  | .wait .fence => !x.ownWait
  | .wait .turn | .wait .carrel | .wait .tracker | .wait .watermark | .wait .unit | .wait .solver | .wait .link | .wait .fenceIdle => true
  | _ => false

/-- A command that has not begun to execute. -/
def State.unbegun (s : State) (x : Desc) : Bool := s.unbegunIn x x.stage

/-- Makes a descriptor's status final. A status that is final already stands, except that a condition of R98 that
arises in the same tick and stands before it replaces it. -/
def State.finish (s : State) (d : Nat) (st : Status) (res : Result := {}) (detail : Nat := 0) : State :=
  match s.desc? d with
  | none => s
  | some x =>
    if x.stage = .done && !(x.tEnd == s.now && decide (st.rank < x.status.rank)) then s
    else ((s.leaveWindow d).stopWork d).setDesc d { x with
      stage := .done, status := st, res := res, detail := detail, tEnd := s.now
      early := if x.stage = .done then x.early else s.unbegun x }

/-- Makes the status of several descriptors final. -/
def State.finishAll (s : State) (st : Status) (detail : Nat) : List Nat → State
  | [] => s
  | d :: t => (s.finish d st {} detail).finishAll st detail t

/-- The first DFN of the warm tier. -/
def warmBase : Nat := 0x0100_0000

/-- A DFN of the hot tier in service (Table 2.1). -/
def State.isHot (s : State) (dfn : Nat) : Bool := decide (dfn < s.fld F_TOP_HOT_FOLIOS_COUNT)

/-- A DFN of the warm tier below the metadata carve-out (Table 2.1). -/
def State.isWarm (s : State) (dfn : Nat) : Bool :=
  decide (warmBase ≤ dfn) &&
    decide (dfn < warmBase + s.fld F_TOP_WARM_FOLIOS_COUNT - s.fld F_TOP_META_SIZE_COUNT)

/-- A hot spare folio (R307). -/
def State.isSpare (s : State) (dfn : Nat) : Bool :=
  decide (s.map.spares.1 ≤ dfn) && decide (dfn < s.map.spares.1 + s.map.spares.2)

/-- A DFN that a tenant may own: in Table 2.1, not a spare (R40, R42). -/
def State.isTenantDfn (s : State) (dfn : Nat) : Bool :=
  (s.isHot dfn || s.isWarm dfn) && !s.isSpare dfn

/-- The state of a DFN (Table 2.2): spares, metadata and what lies outside the tenant ranges are DEVICE. -/
def State.folioState (s : State) (dfn : Nat) : FolioState := if s.isTenantDfn dfn then (s.owner dfn).st else .device

/-- A DFN of Table 2.1 (R40). -/
def State.dfnOk (s : State) (dfn : Nat) : Bool :=
  s.isHot dfn || (decide (warmBase ≤ dfn) && decide (dfn < warmBase + s.fld F_TOP_WARM_FOLIOS_COUNT))

/-! ## Fences and streams -/

/-- What a fence holds at reset: fences 0 to 15 are bound to tenant 0 (R138). -/
def fenceDflt (f : Nat) : Fence := if f < 16 then { bound := true } else {}

/-- A fence. -/
def State.fence (s : State) (f : Nat) : Fence := kvGet (fenceDflt f) s.fn.fences f

/-- Replaces a fence. -/
def State.setFence (s : State) (f : Nat) (x : Fence) : State :=
  { s with fn := { s.fn with fences := kvPut (fenceDflt f) s.fn.fences f x } }

/-- A stream context. -/
def State.stream (s : State) (i : Nat) : Stream := kvGet {} s.fn.streams i

/-- Replaces a stream context. -/
def State.setStream (s : State) (i : Nat) (x : Stream) : State :=
  { s with fn := { s.fn with streams := kvPut {} s.fn.streams i x } }

/-! ## Interrupts (R502 to R505) -/

/-- A PCIe function. -/
def State.hostFn (s : State) (f : Nat) : HostFn := kvGet {} s.ir.fns f

/-- Replaces a function. -/
def State.setHostFn (s : State) (f : Nat) (x : HostFn) : State :=
  { s with ir := { s.ir with fns := kvPut {} s.ir.fns f x } }

/-- The key of a function's vector. -/
def vecKey (f v : Nat) : Nat := f * 2048 + v

/-- A function's MSI-X table entry. -/
def State.msix (s : State) (f v : Nat) : MsixEntry := kvGet {} s.ir.table (vecKey f v)

/-- A message of the vector can be sent now (R503). -/
def State.canSend (s : State) (f v : Nat) : Bool :=
  !(s.msix f v).masked && (s.hostFn f).bme && !(s.hostFn f).d3

/-- Sends a vector's message, or sets its PBA bit (R503). -/
def State.sendMsix (s : State) (f v : Nat) : State :=
  if s.canSend f v then (s.emit (.msix f v)).bump F_IR_F_SENT_SENT 1 (vecKey f v)
  else { s with ir := { s.ir with pba := setInsert s.ir.pba (vecKey f v) } }

/-- The oldest pending completion of a vector has waited TIME (R502). -/
def State.waitedTime (s : State) (f v : Nat) : Bool :=
  match s.ir.oldest.find? (fun p => p.1 == vecKey f v) with
  | some p => decide (p.2 + s.fld F_IR_F_COAL_TIME (vecKey f v) * 1000 ≤ s.now)
  | none => false

/-- A vector's pending completions are due: they reach COUNT, the oldest has waited TIME, or TIME is 0 (R502). -/
def State.vecDue (s : State) (f v : Nat) : Bool :=
  let k := vecKey f v
  s.fld F_IR_F_VPEND_PENDING k != 0 &&
    (decide (s.fld F_IR_F_COAL_COUNT k ≤ s.fld F_IR_F_VPEND_PENDING k) || s.fld F_IR_F_COAL_TIME k == 0 || s.waitedTime f v)

/-- A vector has no pending completions any more. -/
def State.noPending (s : State) (f v : Nat) : State :=
  let s := s.setFld F_IR_F_VPEND_PENDING 0 (vecKey f v)
  { s with ir := { s.ir with oldest := kvErase s.ir.oldest (vecKey f v) } }

/-- The message of a vector whose completions are due: sending it sets the count to 0, and a vector that cannot send keeps counting (R502, R503). -/
def State.sendDue (s : State) (f v : Nat) : State :=
  if !s.vecDue f v then s else if s.canSend f v then (s.sendMsix f v).noPending f v else s.sendMsix f v

/-- Reports a completion without QUIET on a vector: the pending count rises, and the message is sent when it is due (R502, R503). -/
def State.reportOn (s : State) (f v : Nat) : State :=
  let k := vecKey f v
  let s : State := if s.fld F_IR_F_VPEND_PENDING k = 0 then { s with ir := { s.ir with oldest := kvInsert s.ir.oldest k s.now } } else s
  (s.bump F_IR_F_VPEND_PENDING 1 k).sendDue f v

/-- A device event: sets its bit of IR_EVT_STATUS; a bit that goes from 0 to 1 while enabled sends the message (R505). -/
def State.devEvent (s : State) (b : Nat) : State :=
  let st := s.fld F_IR_EVT_STATUS_STATUS
  if bit st b then s
  else
    let s := s.setFld F_IR_EVT_STATUS_STATUS (st + 2 ^ b)
    if bit (s.fld F_IR_EVT_MASK_MASK) b then s.sendMsix 0 (s.fld F_IR_EVT_CFG_VECTOR) else s

/-- A function event (R505, Table 15.9). -/
def State.fnEvent (s : State) (f b : Nat) : State :=
  let st := s.fld F_IR_F_EVT_STATUS_STATUS f
  if bit st b then s
  else
    let s := s.setFld F_IR_F_EVT_STATUS_STATUS (st + 2 ^ b) f
    if s.fld F_IR_F_EVT_CFG_ENABLE f == 1 then s.sendMsix f (s.fld F_IR_F_EVT_CFG_VECTOR f) else s

/-! ## Engine domains (R610) -/

/-- An engine domain is gated: what it is asked for waits until it wakes (R587, R592). -/
def State.domGated (s : State) (k : Nat) : Bool := kvGet 0 s.ck.dom k == 1

/-- A clock domain reads FAULT: its PLL has lost lock (4: and its one relock attempt failed). -/
def State.domFailed (s : State) (k : Nat) : Bool := decide (3 ≤ kvGet 0 s.ck.dom k)

/-- The system counter counts by the always-on domain's 25 MHz cycles: in S3, and while the time domain's PLL relocks (R589). -/
def State.onFallback (s : State) : Bool := s.ck.fallback || s.ck.power == 1

/-- The RTP runs: from STAGE RTP on, and in boundary scan (R546). -/
def State.rtpUp (s : State) : Bool := decide (2 ≤ s.fld F_TOP_BOOT_STATUS_STAGE) || s.se.hold

/-! ## Refused and ignored accesses (R714) -/

/-- The code of a port in TOP_BAD_ACCESS_PORT (Table 22.3). -/
def portCode : Port → Nat
  | .pf => 0 | .vf n => n | .bmc => 64 | .fw => 65 | .rtp => 66

/-- Counts an access in TOP_BAD_ACCESS_CNT and latches its offset and port (R714). -/
def State.badAccess (s : State) (p : Port) (off : Nat) : State :=
  (((s.bump F_TOP_BAD_ACCESS_CNT_COUNT).setFld F_TOP_BAD_ACCESS_ADDR_OFFSET off).setFld
    F_TOP_BAD_ACCESS_PORT_PORT (portCode p)).setFld F_TOP_BAD_ACCESS_PORT_VALID 1

/-- The bank of a port. -/
def State.bank (s : State) (p : Port) : PortBank := kvGet {} s.ports (portCode p)

/-- Replaces the bank of a port. -/
def State.setBank (s : State) (p : Port) (b : PortBank) : State :=
  { s with ports := kvPut {} s.ports (portCode p) b }

/-- A write by a port to another register discards its staged low word (R16). -/
def State.dropStage (s : State) (p : Port) : State := s.setBank p { s.bank p with stage := none }

/-- The BAR0 offset of a block's register. -/
def bar0 (blk off : Nat) : Nat := blk * 0x100000 + off

/-- The register at a BAR0 offset answers a port: all while the control firmware runs; with RTP_ONLY the TOP, HP and SE blocks (R554); while
the loops are down or in S3 the BMC port reaches PW_STATUS, PW_ALERT and PW_CTL, and in S3 CK_PWR_CTL and its mailbox too (R547, R603,
R650); in boundary scan the RTP still answers it (R546). -/
def State.answers (s : State) (p : Port) (off : Nat) : Bool :=
  let blk := off / 0x100000
  let o := off % 0x100000
  let st := s.fld F_TOP_BOOT_STATUS_STAGE
  if s.ck.power == 0 && (st == 3 || (st == 2 && (blk == 0 || blk == 13 || blk == 21))) then true
  else decide (p = .bmc) &&
    ((blk == 19 && (o == 0 || o == 4 || o == 0xC) && (s.ck.power == 0 || s.ck.power == 1 || s.ck.power == 3)) ||
      (s.se.hold && (blk == 21 || blk == 22)) ||
      (s.ck.power == 1 && ((blk == 18 && o == 8) ||
        (blk == 21 && (o == 8 || o == 0xC || (decide (0x400 ≤ o) && decide (o < 0x800)))))))

end Sys2Proof.Machine
end

