-- ==== Sys2Proof/Machine/RailOps.lean ====
section
/-!
DEFINITION. The rail controller's shared operations: loops and phases of Table 19.1, turning off, alerts and ALERT_N, setpoints,
the headroom of wakes (The Rail Controller).
-/
namespace Sys2Proof.Machine

/-! ## Loops and phases (Table 19.1) -/

/-- First phase and phase count of each loop. -/
def loopPhases : List (Nat × Nat) := [(0, 16), (16, 12), (28, 4), (32, 2), (34, 2), (36, 2), (38, 1), (39, 1)]

/-- The phases of a loop. -/
def phasesOf (k : Nat) : List Nat := let p := loopPhases.getD k (0, 0); List.range' p.1 p.2

/-- The loop of a phase. -/
def loopOf (p : Nat) : Nat := ((List.range 8).find? (fun k => inSet (phasesOf k) p)).getD 0

/-- The setpoint range of each loop, in 0.25 mV. -/
def loopRange (k : Nat) : Nat × Nat :=
  ([(2600, 3800), (2400, 4000), (2800, 3800), (3200, 3800), (4400, 5000), (1600, 2000), (3000, 3600), (6800, 7600)] :
    List (Nat × Nat)).getD k (0, 0)

/-- A signed field of `w` bits. -/
def signedOf (w v : Nat) : Int := if v < 2 ^ (w - 1) then (v : Int) else (v : Int) - 2 ^ w

/-- A signed value as the code of a field of `w` bits, held to its range. -/
def signedCode (w : Nat) (v : Int) : Nat :=
  let v := max (-(2 ^ (w - 1))) (min (2 ^ (w - 1) - 1) v)
  (if v < 0 then v + 2 ^ w else v).toNat

/-- A loop's state code (Table 19.3). -/
def State.loopSt (s : State) (k : Nat) : Nat := s.fld F_PW_L_STATUS_STATE k

/-- A loop. -/
def State.loop (s : State) (k : Nat) : Loop := kvGet {} s.pw.loops k

/-- Replaces a loop. -/
def State.setLoop (s : State) (k : Nat) (x : Loop) : State := { s with pw := { s.pw with loops := kvPut {} s.pw.loops k x } }

/-- A phase. -/
def State.phase (s : State) (p : Nat) : Phase := kvGet {} s.pw.phases p

/-- Replaces a phase. -/
def State.setPhase (s : State) (p : Nat) (x : Phase) : State :=
  { s with pw := { s.pw with phases := kvPut {} s.pw.phases p x } }

/-- A phase's state code (Table 19.7), PW_SEL index 8 + p. -/
def State.phaseSt (s : State) (p : Nat) : Nat := s.fld F_PW_P_STATUS_STATE (8 + p)

/-- The phases of a loop that are not shed for a fault and are fitted. -/
def State.usable (s : State) (k : Nat) : List Nat := (phasesOf k).filter (fun p => s.phaseSt p < 2)

/-- Where the carrier of an active phase stands: it is the i-th of the n active phases of its loop, at i × 360° / n (R614). -/
def State.carrier (s : State) (p : Nat) : Option (Nat × Nat) :=
  let act := (phasesOf (loopOf p)).filter (fun q => s.phaseSt q == 0)
  (act.findIdx? (fun q => q == p)).map (fun i => (i, act.length))

/-! ## Alerts (R648, R663) -/

/-- ALERT_N is driven low: by a fatal error, or by an enabled PW_ALERT bit. -/
def State.alertLow (s : State) : Bool :=
  s.er.alert || (List.range 7).any (fun b => bit (s.fld F_PW_ALERT_ALERT) b && bit (s.fld F_PW_ALERT_MASK_MASK) b)

/-- Drives ALERT_N when its level has changed since `old`. -/
def State.driveAlert (s old : State) : State :=
  if s.alertLow == old.alertLow then s else s.emit (.pin .alertN (!s.alertLow))

/-- ALERT_N is driven low by a fatal error (R663). -/
def State.setAlert (s : State) : State := ({ s with er := { s.er with alert := true } }).driveAlert s

/-- Sets a PW_ALERT bit: one that sets raises the RAIL event. -/
def State.railAlert (s : State) (b : Nat) : State :=
  let a := s.fld F_PW_ALERT_ALERT
  if bit a b then s else ((s.setFld F_PW_ALERT_ALERT (a + 2 ^ b)).devEvent 4).driveAlert s

/-! ## Turning off -/

/-- A loop goes off in a state: every phase at mid-level with EN low (R615). PW_STATUS.FAULT follows. -/
def State.turnOff (s : State) (k st : Nat) : State :=
  let s := (phasesOf k).foldl (fun s p =>
    s.setPhase p { tmon := (s.phase p).tmon, back := (s.phase p).back, dcrs := (s.phase p).dcrs }) s
  let s := ((s.setFld F_PW_L_STATUS_STATE st k).setFld F_PW_L_STATUS_ACTIVE 0 k).setFld F_PW_L_VOUT_VCMD 0 k
  let s := s.setLoop k { held := (s.loop k).held, bits := (s.loop k).bits, cic := (s.loop k).cic }
  let f := s.fld F_PW_STATUS_FAULT
  s.setFld F_PW_STATUS_FAULT (f - b2n (bit f k) * 2 ^ k + (if 3 ≤ st then 2 ^ k else 0))

/-- Every loop goes off, in reverse power-up order (R680). -/
def State.loopsTo (s : State) (st : Nat) : State := [1, 4, 3, 5, 6, 7, 2, 0].foldl (fun s k => s.turnOff k st) s

/-- Every loop goes off and the device holds until cold reset (R611, R663). -/
def State.loopsOff (s : State) : State :=
  let s := s.loopsTo 0
  { s with ck := { s.ck with power := 3 }, pw := { s.pw with run := none, due := false } }

/-! ## Setpoints (R629 to R632) -/

/-- Clusters that are READY or WAKING. -/
def State.clocked (s : State) : List Nat := (List.range 8).filter (fun k => (s.cluster k).st == 3 || (s.cluster k).st == 2)

/-- The clock of a cluster while it is READY or WAKING (R595): the lower of FMAX (domain 1 + k) and the thermal cap, in 50 MHz steps, at
least 600. -/
def State.clusterMhz (s : State) (k : Nat) : Nat :=
  max 600 (min (s.fld F_CK_D_FMAX_FMAX (1 + k)) (s.fld F_CK_THERM_CAP_MHZ) / 50 * 50)

/-- The clock in force of a READY cluster; a change takes it to `clusterMhz` (R595). -/
def State.clockNow (s : State) (k : Nat) : Nat := if (s.cluster k).st = 3 then kvGet 0 s.ck.mhz k else 0

/-- The highest clock among READY and WAKING clusters, 600 MHz with none: the voltage rises before a clock rises and falls after it has
fallen (R595). -/
def State.topMhz (s : State) : Nat := (s.clocked.map (fun k => max (s.clusterMhz k) (s.clockNow k))).foldl max 600

/-- The carrel entry of the DVFS table at the clock in force: voltage (0.25 mV) and cluster wake current (1/16 A). -/
def State.carrelPoint (s : State) : Nat × Nat := s.pw.cal.dvfs1.getD ((s.topMhz - 600) / 50) (0, 0)

/-- A VSET input's duty mapped onto a loop's range: 10 % and below the bottom, 90 % and above the top. -/
def vsetMap (k duty : Nat) : Nat :=
  let r := loopRange k
  if duty * 10 ≤ 8192 then r.1 else if 9 * 8192 ≤ duty * 10 then r.2
  else r.1 + (r.2 - r.1) * (duty * 10 - 8192) / 65536

/-- The target setpoint of a loop, in 0.25 mV, held to its range. -/
def State.target (s : State) (k : Nat) : Nat :=
  let r := loopRange k
  let v := if (s.loop k).bootRamp then (s.pw.cal.loops.getD k {}).boot
    else if s.fld F_PW_L_CFG_SRC k = 1 then
      let i := kvGet {} s.pw.vset (s.fld F_PW_L_CFG_VSEL k)
      if i.valid then vsetMap k i.duty else (s.loop k).held
    else if k = 0 then s.pw.cal.dvfs0.getD (b2n s.ck.slow) 0
    else if k = 1 then s.carrelPoint.1
    else s.fld F_PW_L_VSET_VSET k
  clamp r.1 r.2 v

/-! ## Wakes (R644) -/

/-- The rail controller grants a cluster wake: loop 1's current plus the cluster's wake current within the headroom, and its hotspot
model below WARN. -/
def State.wakeOk (s : State) (_k : Nat) : Bool :=
  let pct := if s.fld F_PW_STATUS_CAL_INVALID = 1 then min 70 (s.fld F_PW_HEADROOM_PCT) else s.fld F_PW_HEADROOM_PCT
  let i := signedOf 16 (s.fld F_PW_L_IOUT_IOUT 1) + s.carrelPoint.2
  decide (100 * i ≤ pct * s.fld F_PW_L_IOUT_CAP 1) &&
    decide (signedOf 12 (s.fld F_PW_L_TEMP_HOT 1) < signedOf 12 (s.fld F_PW_L_HOT_WARN 1))

end Sys2Proof.Machine
end

