-- ==== Sys2Proof/Machine/Clear.lean ====
section
/-!
DEFINITION. What a reset clears and keeps (Table 15.2), and the hold until cold reset.
-/
namespace Sys2Proof.Machine

/-- The registers of the rail controller that its regulation rests on: all but the alerts, their mask, the headroom, the limits of its plausibility
checks and diagnostics and VSET_CLAMP (Table 19.5; R507). -/
def regulates (k : Nat) : Bool := k / 262144 % 32 == 19 && !inSet [0x4, 0x8, 0xC, 0x10, 0x18, 0x1C, 0x20] (k / 32 % 8192)

/-- The registers that a reset keeps: which stacks the part has; at a device reset RS, what the rail loops' regulation rests on,
TOP_CAL_STATUS.VALID, TOP_CAL_CRC and the mode of the host port (R446, R702, R715, Table 15.2). With `pw` a hold until cold reset keeps the rail
controller's for the BMC (R611). -/
def keptKey (cold pw : Bool) (k : Nat) : Bool :=
  let is (f : Fld) : Bool := k == f.key 0
  let blk := k / 262144 % 32
  is F_TOP_ID_STACKS || is F_PW_STATUS_PWR_FAULT || (pw && (regulates k || (cold && blk == 19))) ||
    (!cold && (blk == 16 || is F_TOP_CAL_STATUS_VALID || is F_TOP_CAL_CRC_CRC || is F_HP_STATUS_CXL))

/-- The backup-cell counter (32.768 kHz, 48 bits). -/
def State.vbatNow (s : State) : Nat := (s.se.vbat.ticks + s.now * 32768 / 1000000000) % 2 ^ 48

/-- Boot flash after a reset: a write in progress stops where it stands (R720, log entry 28). -/
def State.flashCut (s : State) : State :=
  let s := if s.bt.hdrNew.isSome then
      ({ s with
        bt := { s.bt with header := Config.cutFlash s.fresh, headerCut := true, hdrNew := none }
        se := { s.se with slots := s.se.slots.map (fun (p : Nat × FwSlot) => (p.1, { p.2 with st := 3 })) } }).draw
    else s
  if s.bt.calNew.isSome && s.fld F_TOP_ADMIN_STATUS_HDR_WRITE != 1 then
    ({ s with bt := { s.bt with cal := Config.cutFlash s.fresh, calBad := (1 + (Config.cutFault s.fresh).1 % 6, (Config.cutFault s.fresh).2 % 6), calNew := none } }).draw
  else s

/-- What a reset leaves (Table 15.2): cold, everything outside the backup-cell domain, fuses and boot flash is cleared; a device reset also
keeps the regulation of the rail loops, the system counter and what stands in memory, which is zeroed before it is used (R695). `pw` keeps the
rail controller's loops and phases. ALERT_N has not followed yet. -/
def State.wiped (s : State) (cold pw : Bool) : State :=
  let s := s.flashCut
  let t : State := {
    regs := s.regs.filter (fun p => keptKey cold pw p.1)
    er := { store := s.er.store, storeValid := s.er.storeValid, storeCount := s.er.storeCount }
    mc := { repairList := s.mc.repairList }
    cr := { klib := s.cr.klib }
    si := { lineErr := if cold then [] else s.si.lineErr }
    se := {
      fuses := s.se.fuses, slots := s.se.slots, weights := s.se.weights
      vbat := if cold then { s.se.vbat with ticks := s.vbatNow } else s.se.vbat }
    pw := if pw then s.pw else {}
    ck := { perst := s.ck.perst, released := if cold then !s.ck.perst else s.ck.released }
    bt := {
      header := s.bt.header, headerCut := s.bt.headerCut, cal := s.bt.cal, calBad := s.bt.calBad, calSet := s.bt.calSet
      thermtrip := s.bt.thermtrip }
    mem := if cold then [] else s.mem
    poison := if cold then [] else s.poison
    now := if cold then 0 else s.now
    fresh := s.fresh, outbox := s.outbox, pending := s.pending }
  if s.ck.wakeOut then t.emit (.pin .wakeN true) else t

/-- What a reset leaves, with ALERT_N at its level. -/
def State.cleared (s : State) (cold pw : Bool) : State := (s.wiped cold pw).driveAlert s

/-- A reset that holds until a cold reset (R611, R663, R730): power state 3, or 4 without a valid supply. ALERT_N stays as it is. -/
def State.holdReset (s : State) (power : Nat) : State :=
  let t := { s with er := { s.er with alert := false } }
  let t := t.cleared true (power == 3)
  { t with ck := { t.ck with power := power }, er := { t.er with alert := power == 3 && s.er.alert } }

end Sys2Proof.Machine
end

