-- ==== Sys2Proof/Machine/Codes.lean ====
section
/-!
DEFINITION. The codes on DDR5 and HBM3E lines: what the decoder makes of what is wrong in them (Stored-Data Integrity, Scrubbing and Self-Test). Both
codes are linear, so the answer rests on what is wrong and not on the data (log entry 118).
-/
namespace Sys2Proof.Machine

/-- What a decoder makes of a line: clean; corrected; miscorrected, which it takes for corrected; uncorrectable; the poison syndrome (R338, R341, R342). -/
inductive Decoded where
  | clean | fixed | wrong | failed | poison
  deriving DecidableEq, Repr

/-- The order in which verdicts on the parts of a line or sector decide. -/
def Decoded.rank : Decoded → Nat
  | .clean => 0 | .fixed => 1 | .wrong => 2 | .failed => 3 | .poison => 4

/-- The verdict that decides. -/
def Decoded.max (a b : Decoded) : Decoded := if a.rank < b.rank then b else a

/-- What a Reed-Solomon codeword says: nothing wrong, one device to correct, a miscorrection of a device, a failure, the poison syndrome. -/
inductive SymbolSays where
  | clean | names (dev : Nat) | misnames (dev : Nat) | failed | poison
  deriving DecidableEq, Repr

/-- What is wrong in a codeword of ten 16-bit symbols, one for each device. -/
def symbolErrs (l : List (Nat × Nat)) : List (Nat × Nat) := l.filter (fun p => decide (p.1 < 10) && p.2 % 65536 != 0)

/-- A codeword with two check symbols: one wrong device is named; what two or more do is free (R338, R341). -/
def symbolSays (l : List (Nat × Nat)) : SymbolSays :=
  match symbolErrs l with
  | [] => .clean
  | e :: es =>
    if es.all (fun p => p.1 == e.1) then .names e.1
    else match Config.codeword (e :: es) % 12 with
      | 0 => .failed
      | 1 => .poison
      | n + 2 => .misnames n

/-- The devices that codewords name. -/
def namedDevs (l : List SymbolSays) : List Nat :=
  (l.filterMap (fun x => match x with | .names n => some n | .misnames n => some n | _ => none)).eraseDups

/-- A DDR5 burst: corrected only when every codeword that needs it names the same device (R339). -/
def burstVerdict (ws : List (List (Nat × Nat))) : Decoded :=
  let l := (ws.take 4).map symbolSays
  if l.any (· == .poison) then .poison
  else if l.any (· == .failed) then .failed
  else match namedDevs l with
    | [] => .clean
    | [_] => if l.any (fun x => match x with | .misnames _ => true | _ => false) then .wrong else .fixed
    | _ => .failed

/-- An HBM3E word under the extended Hamming code: one bit is corrected, two are detected, what three or more do is free (R338, R341). -/
def wordVerdict (l : List (Nat × Nat)) : Decoded :=
  let bs := ((l.filter (fun p => decide (p.1 < 266) && p.2 % 2 == 1)).map (·.1)).eraseDups
  match bs with
  | [] => .clean
  | [_] => .fixed
  | [_, _] => .failed
  | _ => match Config.hammingWord l % 3 with
    | 0 => .failed
    | 1 => .poison
    | _ => .wrong

/-- The verdict on a line: a DDR5 burst, or the two words of an HBM3E line, which an on-die uncorrected error makes uncorrectable (R340). -/
def lineVerdict (hot : Bool) (e : LineErr) : Decoded :=
  if !hot then burstVerdict e.words
  else if e.ondie = 2 then .failed
  else ((e.words.take 2).map wordVerdict).foldl Decoded.max .clean

/-- What is wrong in a line from two causes. -/
def joinErr (a b : LineErr) : LineErr :=
  { ondie := max a.ondie b.ondie
    words := (List.range (max a.words.length b.words.length)).map (fun i => a.words.getD i [] ++ b.words.getD i []) }

/-- What injection inverts in the stored codewords (Table 11.7): all bits of DEV0, or a fixed pattern on DEV0 and DEV1 that R339 refuses, two codewords
that name different devices (DESIGN CHOICE, log entry 118); one or two bits of word 0. -/
def injectErr (hot : Bool) (kind dev0 dev1 bit0 bit1 : Nat) : LineErr :=
  if hot then { words := [if kind = 1 then [(bit0, 1)] else [(bit0, 1), (bit1, 1)]] }
  else if kind = 1 then { words := List.replicate 4 [(dev0, 0xFFFF)] }
  else { words := [[(dev0, 0xFFFF)], [(dev1, 0xFFFF)]] }

end Sys2Proof.Machine
end

