-- ==== Sys2Proof/Machine/LinkTx.lean ====
section
/-!
DEFINITION. What a link sends: flits that wait for credit, the replay buffer, LINK_CTL, returned data, forwarded catalog
messages (Gweusk Links; Constellations of Devices). A flit's body is its message before encryption, without the tag.
-/
namespace Sys2Proof.Machine

/-! ## Membership and forwarding -/

/-- This device's member ID; 0 outside a constellation. -/
def State.me (s : State) : Nat := if s.cn.st = .member then s.cn.member else 0

/-- A byte of the adopted epoch record (Table 13.2). -/
def State.recByte (s : State) (i : Nat) : Nat := (s.cn.record.getD i 0).toNat

/-- The member that owns a shard under the adopted record alone. -/
def State.mapOwner (s : State) (shard : Nat) : Nat := s.recByte (0x20 + shard)

/-- The member that answers a shard: this device outside MEMBER, else the record's owner unless a MOVED answer routed
the shard elsewhere (R178, R180, R431). -/
def State.shardOwner (s : State) (shard : Nat) : Nat :=
  if s.cn.st = .member then kvGet (s.mapOwner shard) s.ct.routes shard else s.me

/-- The route link toward a member, 0x3F for none (R434). -/
def State.routeTo (s : State) (m : Nat) : Nat := kvGet 0x3F s.cn.routeLink m

/-- The peer state of a link: 0 NONE, 1 UNVERIFIED, 2 VERIFIED, 3 FAILED (R432). -/
def State.peer (s : State) (l : Nat) : Nat := kvGet 0 s.cn.peers l

/-- A link carries forwards now: ACTIVE, VERIFIED, session 63 open, and not out of service since the adoption that fixed the route links (R433,
R434). -/
def State.fwdReady (s : State) (l : Nat) : Bool :=
  !inSet s.cn.away l && decide ((s.link l).st = .active) && s.peer l == 2 && (kvGet {} (s.link l).sessions 63).isOpen

/-- The bytes of a FWD_REQ or FWD_RSP (Tables 13.4 and 13.5), 64 in all. -/
def fwdMsg (kind src dst ttl epoch scope status : Nat) (noref : Bool) (hash : Nat) (tail : List Byte) : List Byte :=
  leBytes 1 kind ++ leBytes 1 src ++ leBytes 1 dst ++ leBytes 1 ttl ++ leBytes 4 epoch ++ leBytes 2 scope ++
    leBytes 1 status ++ leBytes 1 (b2n noref) ++ leBytes 4 0 ++ leBytes 16 hash ++
    (tail ++ List.replicate 32 0).take 32

/-- Sends a FWD_REQ (type 8) or FWD_RSP (type 9) toward a member on its route link, if that link carries forwards. -/
def State.routeMsg (s : State) (ty dest xtag : Nat) (msg : List Byte) : State :=
  let l := s.routeTo dest
  if s.fwdReady l then s.sendFlit l { type := ty, vc := vcOf ty, session := 63, xtag := xtag, body := msg } else s

/-- Forwards sent that await an answer (CN_FWD_OUT). -/
def State.fwdOut (s : State) : Nat := (s.ct.fwd.filter (fun f => f.sent && !f.ended)).length

/-- Sends the waiting forwards, oldest first, at most 4,096 outstanding and none while an epoch switches (R426, R443). -/
def State.pumpFwd (s : State) : Nat → State
  | 0 => s
  | n + 1 =>
    if s.fld F_CN_STATUS_SWITCHING == 1 || 4096 ≤ s.fwdOut then s
    else match s.ct.fwd.find? (fun f => !f.sent) with
    | none => s
    | some f =>
      let s := { s with ct := { s.ct with fwd := s.ct.fwd.map (fun (g : Forward) => if g.req == f.req then { g with sent := true } else g) } }
      (s.routeMsg 8 f.dest f.req f.msg).pumpFwd n

/-- The lowest free request number. -/
def State.freshReq (s : State) : Nat :=
  (firstFrom (fun i => !s.ct.fwd.any (fun f => f.req == i)) 65536 0).getD 0

/-- Forwards a request of a command, or a message of the catalog itself, to a member (R179). -/
def State.sendFwd (s : State) (d : Option Nat) (idx dest kind : Nat) (scope : Nat) (noref : Bool) (hash : Nat)
    (tail : List Byte) : State :=
  let r := s.freshReq
  let msg := fwdMsg kind s.me dest 4 (s.fld F_CN_EPOCH_EPOCH) scope 0 noref hash tail
  let f : Forward := { d := d, idx := idx, req := r, dest := dest, msg := msg }
  let s := { s with ct := { s.ct with fwd := s.ct.fwd ++ [f] } }
  s.pumpFwd 1

end Sys2Proof.Machine
end

