-- ==== Sys2Proof/Machine/Mem.lean ====
section
/-!
DEFINITION. Sectors: key slots of tenants, the stacks cache, poison, integrity-tag entries, write queues (Stacks Cache,
Scratch and Read-Only Caches; Stored-Data Integrity, Scrubbing and Self-Test; HBM3E and DDR5 Controllers).
-/
namespace Sys2Proof.Machine

/-! ## Key slots -/

/-- What a key slot holds at reset: slots 0 and 16 to 63 are the device's own, ACTIVE slot 0 with the metadata key. -/
def slotDflt (i : Nat) : KeySlot := if i = 0 then { st := .active, secret := .random 0 } else {}

/-- A key slot. -/
def State.slot (s : State) (i : Nat) : KeySlot := kvGet (slotDflt i) s.ks i

/-- Replaces a key slot. -/
def State.setSlot (s : State) (i : Nat) (x : KeySlot) : State := { s with ks := kvPut (slotDflt i) s.ks i x }

/-- The handle of a slot (R556). -/
def State.slotHandle (s : State) (i : Nat) : Nat := i + (s.slot i).gen * 65536

/-- The MEMORY slot of a tenant, in any state but FREE (R561). -/
def State.memSlot (s : State) (t : Nat) : Option Nat :=
  (s.ks.find? (fun p => p.2.kind == 1 && p.2.st != .free && p.2.tenant == t)).map (·.1)

/-- The handle that a tenant's cache lines carry (R229). -/
def State.memHandle (s : State) (t : Nat) : Nat := ((s.memSlot t).map s.slotHandle).getD 0

/-! ## The stacks cache -/

/-- The set of a sector (R228). -/
def setOf (sec : Nat) : Nat := sec % 24576

/-- A cache set. -/
def State.cset (s : State) (k : Nat) : CacheSet := kvGet {} s.sk.sets k

/-- Lines of a set pinned in partition `p`. -/
def CacheSet.pinned (c : CacheSet) (p : Nat) : Nat := (c.lines.filter (fun l => l.pin == p + 1)).length

/-- Replaces a set; SK_P_USED follows its pinned lines. -/
def State.setCset (s : State) (k : Nat) (c : CacheSet) : State :=
  let old := s.cset k
  let s := (List.range 8).foldl (fun s p =>
    s.setFld F_SK_P_USED_USED (s.fld F_SK_P_USED_USED p + c.pinned p - old.pinned p) p) s
  { s with sk := { s.sk with sets := kvPut {} s.sk.sets k c } }

/-- Invalidates the line of a sector. -/
def State.cacheDrop (s : State) (sec : Nat) : State :=
  let c := s.cset (setOf sec)
  if c.lines.any (fun l => l.sec == sec) then
    s.setCset (setOf sec) { c with lines := c.lines.filter (fun l => l.sec != sec) }
  else s

/-- Invalidates every line that satisfies a test (Table 7.1). -/
def State.cacheCut (s : State) (p : Line → Bool) : State :=
  (s.sk.sets.map (·.1)).foldl (fun s k =>
    let c := s.cset k
    s.setCset k { c with lines := c.lines.filter (fun l => !p l) }) s

/-- The pin class that a line receives (R238): the class asked for while its partition has room and the set fewer than
8 pinned lines, otherwise none. `others` are the set's other lines. -/
def State.pinFor (s : State) (others : List Line) (had p : Nat) : Nat :=
  if p = 0 || 8 < p then 0
  else if p = had then p
  else if s.fld F_SK_P_USED_USED (p - 1) < s.fld F_SK_P_LIMIT_LIMIT (p - 1) &&
      decide ((others.filter (fun l => l.pin != 0)).length < 8) then p
  else 0

/-- The pin class of a line that an access installs or retags; an access that asks for a class and gets none is counted (R238). -/
def State.pinClass (s : State) (others : List Line) (had p : Nat) : State × Nat :=
  let q := s.pinFor others had p
  (if p = 0 || 8 < p || q ≠ 0 then s else s.bump F_SK_PIN_OVERFLOW_OVERFLOW, q)

/-- KEEP is NORMAL while KEEP_MAX is 0 (R240). -/
def State.effHint (s : State) (h : Hint) : Hint :=
  if h = .keep && s.fld F_SK_CFG_KEEP_MAX == 0 then .normal else h

/-- The last line of a list, most recent first, that satisfies a test. -/
def lastLine (ls : List Line) (p : Line → Bool) : Option Line := (ls.filter p).getLast?

/-- The victim of a fill: the oldest KEEP line when a KEEP fill finds KEEP_MAX of them (R240); otherwise an invalid way,
then the oldest unpinned line of the lowest hint (R239). -/
def State.victimLine (s : State) (ls : List Line) (h : Hint) : Option Line :=
  let un (x : Hint) (l : Line) : Bool := l.pin == 0 && l.hint == x
  if h = .keep && decide (s.fld F_SK_CFG_KEEP_MAX ≤ (ls.filter (un .keep)).length) then lastLine ls (un .keep)
  else if ls.length < 16 then none
  else match lastLine ls (un .evictFirst) with
    | some l => some l
    | none => match lastLine ls (un .normal) with
      | some l => some l
      | none => lastLine ls (un .keep)

/-- Installs a line (R235, R237 to R240). -/
def State.cacheFill (s : State) (sec handle pin : Nat) (h : Hint) : State :=
  let k := setOf sec
  let c := s.cset k
  let ls := match s.victimLine c.lines h with
    | some v => c.lines.filter (fun l => l.sec != v.sec)
    | none => c.lines
  let (s, p) := s.pinClass ls 0 pin
  let l : Line := {
    sec := sec, handle := handle, pin := p, hint := if pin ≠ 0 && p = 0 then .normal else h, last := s.sk.clock }
  s.setCset k { c with lines := if l.hint = .evictFirst then ls ++ [{ l with last := 0 }] else l :: ls }

/-- How an access meets the cache. `pin` is the class of a mirror translation, `none` for another access; `fills` says
whether a miss installs the line (R229, R231, R235, R237). -/
def State.cacheAccess (s : State) (sec handle : Nat) (h : Hint) (pin : Option Nat) (fills : Bool) : State :=
  let h := s.effHint h
  let s := { s with sk := { s.sk with clock := s.sk.clock + 1 } }
  let k := setOf sec
  let c := s.cset k
  if c.off then
    let s := s.bump F_SK_MISSES_MISSES
    if fills && pin.getD 0 ≠ 0 then s.bump F_SK_PIN_OVERFLOW_OVERFLOW else s
  else
    let s := if c.lines.any (fun l => l.sec == sec && l.handle != handle) then s.cacheDrop sec else s
    let c := s.cset k
    match c.lines.find? (fun l => l.sec == sec) with
    | some l =>
      let s := s.bump F_SK_HITS_HITS
      let rest := c.lines.filter (fun x => x.sec != sec)
      match pin with
      | none => s.setCset k { c with lines := { l with hint := h, last := s.sk.clock } :: rest }
      | some p =>
        let (s, q) := s.pinClass rest l.pin p
        let l := { l with hint := if p ≠ 0 && q = 0 then .normal else h, pin := q, last := s.sk.clock }
        s.setCset k { c with lines := l :: rest }
    | none =>
      let s := s.bump F_SK_MISSES_MISSES
      if fills then s.cacheFill sec handle (pin.getD 0) h else s

/-! ## Device metadata (R229, R234, R236; Table 21.3)

The structures lie in the carve-out in the order of Table 21.3, from its first folio on (DESIGN CHOICE, log entry 114). -/

/-- The sector of byte `a` of the structure that begins at folio `f` of the carve-out. -/
def State.metaSec (s : State) (f a : Nat) : Nat :=
  (warmBase + s.fld F_TOP_WARM_FOLIOS_COUNT - s.fld F_TOP_META_SIZE_COUNT + f) * 256 + a / 256

/-- The sector of a bucket of the catalog index, 128 bytes each. -/
def State.bucketSec (s : State) (b : Nat) : Nat := s.metaSec 8704 (128 * b)

/-- The sector of a segment record, 64 bytes each. -/
def State.segSec (s : State) (i : Nat) : Nat := s.metaSec 25088 (64 * i)

/-- The first folio of the stream contexts. -/
def State.streamBase (s : State) : Nat := 59904 + s.bt.segPool * 1024

/-- The first sector of a stream context, a folio each. -/
def State.streamSec (s : State) (i : Nat) : Nat := s.metaSec (s.streamBase + i) 0

/-- The sector of a mirror entry, 8 bytes each, the tenants' maps one behind another in the pool. -/
def State.mirrorSec (s : State) (t tfn : Nat) : Nat :=
  let f := s.fld F_TOP_HOT_FOLIOS_COUNT + s.fld F_TOP_WARM_FOLIOS_COUNT
  let n := ((List.range t).map (fun i => s.fld F_TN_MAP_LEN_LEN i)).foldl (· + ·) 0
  s.metaSec (s.streamBase + 20480 + ceilDiv f 8192) (8 * (n + tfn))

/-- The number of a folio among those in service, hot tier first. -/
def State.folioNo (s : State) (dfn : Nat) : Nat := if dfn < warmBase then dfn else s.fld F_TOP_HOT_FOLIOS_COUNT + dfn - warmBase

/-- The sector of a folio's owner record, 8 bytes each. -/
def State.ownerSec (s : State) (dfn : Nat) : Nat := s.metaSec (s.streamBase + 20480) (8 * s.folioNo dfn)

/-- The tag-store sector of a sector's entry, 8 bytes each: the tag store ends the carve-out. -/
def State.tagSec (s : State) (sec : Nat) : Nat :=
  let f := s.fld F_TOP_HOT_FOLIOS_COUNT + s.fld F_TOP_WARM_FOLIOS_COUNT
  s.metaSec (s.fld F_TOP_META_SIZE_COUNT - ceilDiv f 32) (8 * (s.folioNo (sec / 256) * 256 + sec % 256))

/-- The DFN of a folio number. -/
def State.dfnOfNo (s : State) (n : Nat) : Nat := if n < s.fld F_TOP_HOT_FOLIOS_COUNT then n else warmBase + n - s.fld F_TOP_HOT_FOLIOS_COUNT

/-- The tenant whose mirror holds entry `n` of the pool, and the TFN. -/
def State.mirrorOf (s : State) : Nat → Nat → Nat → Nat × Nat
  | 0, t, n => (t, n)
  | k + 1, t, n => if n < s.fld F_TN_MAP_LEN_LEN t then (t, n) else s.mirrorOf k (t + 1) (n - s.fld F_TN_MAP_LEN_LEN t)

/-- The structure that a sector of the carve-out belongs to, by its code of Table 20.6, and its part there; none for the structures that the table
does not list. -/
def State.metaPart (s : State) (sec : Nat) : Option (Nat × Nat) :=
  let base := s.metaSec 0 0
  let size := s.fld F_TOP_META_SIZE_COUNT
  let k := sec - base
  let f := k / 256
  let total := s.fld F_TOP_HOT_FOLIOS_COUNT + s.fld F_TOP_WARM_FOLIOS_COUNT
  let own := s.streamBase + 20480
  let mir := own + ceilDiv total 8192
  let tags := size - ceilDiv total 32
  if sec < base || size ≤ f then none
  else if f < 4096 then some (8, k)
  else if f < 8192 then none
  else if f < 8704 then some (7, (k - 8192 * 256) / 8)
  else if f < 25088 then some (4, (k - 8704 * 256) * 2)
  else if f < 57856 then some (5, (k - 25088 * 256) * 4)
  else if f < s.streamBase then none
  else if f < own then (if f - s.streamBase < 4096 then some (3, f - s.streamBase) else none)
  else if f < mir then some (2, s.dfnOfNo ((k - own * 256) * 32) / 32)
  else if s.fld F_SI_CFG_TAGS_PRESENT = 1 && tags ≤ f then some (6, s.dfnOfNo ((k - tags * 256) / 8) * 8 + (k - tags * 256) % 8)
  else
    let (t, n) := s.mirrorOf 1024 0 ((k - mir * 256) * 32)
    some (1, t * 524288 + n / 32)

/-- An access to device metadata meets the cache: handle 0, hint KEEP, no pin class (R229, R234, R236). There is none before the carve-out is
fixed, and a poisoned sector is not cached (R232). -/
def State.metaAccess (s : State) (sec : Nat) (fills : Bool) : State :=
  if s.fld F_TOP_META_SIZE_COUNT = 0 || s.poisoned sec then s else s.cacheAccess sec 0 .keep none fills

/-- Reads of metadata sectors. -/
def State.metaReads (s : State) (l : List Nat) : State := l.eraseDups.foldl (fun s x => s.metaAccess x true) s

/-- A stream's context is written: its line is updated where it is resident (R231; log entry 114). -/
def State.contextWrite (s : State) (i : Nat) : State := s.metaAccess (s.streamSec i) false

/-- The sectors of the mirror that hold a tenant's entries. -/
def State.mirrorSecs (s : State) (t : Nat) (l : List Nat) : List Nat :=
  if s.fld F_TOP_META_SIZE_COUNT = 0 then [] else l.map (s.mirrorSec t)

/-- Writes of a tenant's mirror entries: one that writes a whole sector installs its line (R231). -/
def State.mirrorWrites (s : State) (t : Nat) (l : List Nat) : State :=
  let secs := s.mirrorSecs t l
  secs.eraseDups.foldl (fun s x => s.metaAccess x (decide (32 ≤ secs.count x))) s

/-! ## Memory units, the places of sectors, write queues -/

/-- A memory unit. -/
def State.dram (s : State) (u : Nat) : Dram := kvGet {} s.mc.units u

/-- Replaces a memory unit. -/
def State.setDram (s : State) (u : Nat) (x : Dram) : State := { s with mc := { s.mc with units := kvPut {} s.mc.units u x } }

/-- The state code of a unit (MC_CH_STATUS.STATE, HB_PC_STATUS.STATE). -/
def State.unitState (s : State) (u : Nat) : Nat :=
  if u < 16 then s.fld F_MC_CH_STATUS_STATE u else s.fld F_HB_PC_STATUS_STATE (u - 16)

/-- Sets a unit's state code. -/
def State.setUnitState (s : State) (u c : Nat) : State :=
  if u < 16 then s.setFld F_MC_CH_STATUS_STATE c u else s.setFld F_HB_PC_STATUS_STATE c (u - 16)

/-- The lowest set bit of a number below `2 ^ n`. -/
def lowBit (v n : Nat) : Nat := ((List.range n).find? (fun i => bit v i)).getD 0

/-- The number of set bits of a number below `2 ^ n`. -/
def popCount (v n : Nat) : Nat := ((List.range n).filter (fun i => bit v i)).length

/-- The place that a remap entry gives a sector of a spared folio (R330, R331). -/
def State.physSec (s : State) (sec : Nat) : Nat :=
  match s.mc.remap.find? (fun r => r.dfn == sec / 256 && !r.copying) with
  | some r => r.spare * 256 + sec % 256
  | none => sec

/-- The pseudo-channels in service. -/
def State.hotWays (s : State) : Nat := max 1 (32 * popCount (s.fld F_HB_STATUS_SET) 4)

/-- The channels in the interleave set. -/
def State.warmWays (s : State) : Nat := max 1 (s.fld F_MC_STATUS_WAYS)

/-- The pseudo-channel at a place of the hot tier (Table 10.3). -/
def State.hotUnit (s : State) (w : Nat) : Nat :=
  let i := w % s.hotWays
  16 + 32 * (lowBit (s.fld F_HB_STATUS_SET) 4 + i / 32) + i % 32

/-- The memory unit that holds a sector (Tables 10.2 and 10.3). -/
def State.unitOf (s : State) (sec : Nat) : Nat :=
  if sec / 256 < warmBase then s.hotUnit (s.physSec sec)
  else
    let w := sec - warmBase * 256
    lowBit (s.fld F_MC_STATUS_SET) 16 + (w + w / 256) % s.warmWays

/-- The 3DS height of a channel's DIMMs. -/
def Dram.height (x : Dram) : Nat := (((x.found.getD []).head?).map (·.height)).getD 1

/-- Banks of a channel, column blocks aside (Table 10.2). -/
def Dram.banks (x : Dram) : Nat := 32 * max 1 x.height

/-- Where a warm-tier sector lies (Table 10.2): its channel, bank, row, column block and logical rank, and its place among the channel addresses of
that rank (R325). -/
structure WarmPlace where
  chan : Nat
  bank : Nat
  row : Nat
  col : Nat
  logical : Nat
  nth : Nat
  deriving DecidableEq, Repr

/-- The place of a warm-tier sector (R303, Table 10.2). -/
def State.warmPlace (s : State) (sec : Nat) : WarmPlace :=
  let x := s.dram (s.unitOf sec)
  let c := (sec - warmBase * 256) / s.warmWays
  let lr := max 1 x.lmap.length
  let q := c / 64
  let row := q / (x.banks * lr)
  { chan := s.unitOf sec, bank := Nat.xor (q % x.banks) (row % x.banks), row := row, col := c % 64, logical := q / x.banks % lr
    nth := (row * x.banks + q % x.banks) * 64 + c % 64 }

/-- The subchannel of a line: A (0) holds lines 0 and 2 of a sector, B (1) lines 1 and 3 (Table 10.2). -/
def subchannel (line : Nat) : Nat := line % 2

/-- The package rank that serves a warm-tier sector (R304): while its rank migrates, TARGET below the unit in copy (R325). -/
def State.rankOf (s : State) (sec : Nat) : Nat :=
  let x := s.dram (s.unitOf sec)
  let p := s.warmPlace sec
  let r := x.lmap.getD p.logical 0
  match x.migr with
  | some m => if m.src == r && decide (p.nth / 8 < m.done) then m.tgt else r
  | none => r

/-- A warm-tier sector lies in the unit that a running migration copies (R325). -/
def State.inCopy (s : State) (sec : Nat) : Bool :=
  decide (warmBase ≤ sec / 256) && match (s.dram (s.unitOf sec)).migr with
    | some m => !m.paused && decide (m.done < m.total) && s.rankOf sec == m.src && (s.warmPlace sec).nth / 8 == m.done
    | none => false

/-- The row of a pseudo-channel at a place of the hot tier (Table 10.3). -/
def State.rowAt (s : State) (w : Nat) : HbmRow :=
  let q := w / s.hotWays / 4
  { unit := s.hotUnit w, bank := Nat.xor (q % 48) (q / 48 % 48), row := q / 48 }

/-- The row that holds a hot-tier sector. -/
def State.hbmRow (s : State) (sec : Nat) : HbmRow := s.rowAt (s.physSec sec)

/-- A retirement trigger of a LIVE rank in SPARE_RANK mode (R324): 0 an uncorrectable read, 1 corrected reads, 2 RETIRE. -/
def State.rankTrigger (s : State) (u r cause : Nat) : State :=
  let x := s.dram u
  if s.fld F_MC_CH_CFG_MODE u == 1 && kvGet 0 x.ranks r == 1 && !x.trig.any (fun t => t.1 == r) then
    s.setDram u { x with trig := x.trig ++ [(r, cause)] }
  else s

/-- A row of the hot tier is to be spared (R330). -/
def State.rowTrigger (s : State) (r : HbmRow) : State :=
  if s.mc.rowTrig.any (fun x => x == r) then s else { s with mc := { s.mc with rowTrig := s.mc.rowTrig ++ [r] } }

/-- The times of corrected reads of a row. -/
def rowTimes (l : List (HbmRow × List Nat)) (r : HbmRow) : List Nat :=
  ((l.find? (fun p => p.1 == r)).map (·.2)).getD []

/-- Times within a window of minutes, with the present one added. -/
def State.within (s : State) (l : List Nat) (minutes : Nat) : List Nat :=
  (l ++ [s.now]).filter (fun t => decide (s.now - t < minutes * 60000000000))

/-- A corrected read of a rank counts toward CE_THRESH (R324). -/
def State.noteRankCe (s : State) (u r : Nat) : State :=
  let x := s.dram u
  let l := s.within (kvGet [] x.ce r) (s.fld F_MC_SPARE_CFG_CE_WINDOW)
  let s := s.setDram u { x with ce := kvPut [] x.ce r l }
  if s.fld F_MC_SPARE_CFG_CE_THRESH ≤ l.length then s.rankTrigger u r 1 else s

/-- A corrected read of a row counts toward CE_THRESH (R330). -/
def State.noteRowCe (s : State) (r : HbmRow) : State :=
  let l := s.within (rowTimes s.mc.rowCe r) (s.fld F_HB_SPARE_CFG_CE_WINDOW)
  let s := { s with mc := { s.mc with rowCe := s.mc.rowCe.filter (fun p => p.1 != r) ++ [(r, l)] } }
  if s.fld F_HB_SPARE_CFG_CE_THRESH ≤ l.length then s.rowTrigger r else s

/-- A corrected read counts toward the thresholds of R324 and R330. -/
def State.noteCe (s : State) (sec : Nat) : State :=
  let u := s.unitOf sec
  if u < 16 then s.noteRankCe u (s.rankOf sec) else s.noteRowCe (s.hbmRow sec)

/-- An uncorrectable read triggers retirement of its rank or sparing of its row (R324, R330). -/
def State.noteUe (s : State) (sec : Nat) : State :=
  let u := s.unitOf sec
  if u < 16 then s.rankTrigger u (s.rankOf sec) 0 else s.rowTrigger (s.hbmRow sec)

/-- The unit of a sector is OUT: every access to it completes E_POISON (R319). -/
def State.unitOut (s : State) (sec : Nat) : Bool := s.unitState (s.unitOf sec) == 4

/-- A unit issues commands: its retry buffer holds the last 32 (R317). -/
def Dram.issue (x : Dram) (l : List DramCmd) : Dram :=
  let r := x.retry ++ l
  { x with retry := r.drop (r.length - 32) }

/-- Alerts of a unit within the last second. -/
def State.recentAlerts (s : State) (x : Dram) : List Nat := x.alerts.filter (fun t => decide (s.now - t < 1000000000))

/-- A unit issues commands. A CA error that injection has armed strikes the first of them: its alert has the retry buffer reissued from that command on,
once (R317, R370). -/
def State.issue (s : State) (u : Nat) (l : List DramCmd) : State :=
  let x := (s.dram u).issue l
  if l.isEmpty then s
  else if x.caErr then
    (if u < 16 then s.bump F_MC_PARITY_CNT_REISSUE else s).setDram u { x with
      reissued := x.retry.drop (x.retry.length - l.length), alerts := s.recentAlerts x ++ [s.now], caErr := false }
  else s.setDram u x

/-- Issues queued writes of a unit that is in service: once HIGH entries are queued, until LOW are left (R316). -/
def State.drainWq (s : State) (u : Nat) : State :=
  let x := s.dram u
  let hi := if u < 16 then s.fld F_MC_WQ_CFG_HIGH else s.fld F_HB_WQ_CFG_HIGH
  let lo := if u < 16 then s.fld F_MC_WQ_CFG_LOW else s.fld F_HB_WQ_CFG_LOW
  if s.unitState u == 3 || x.selfRef then s
  else if hi ≤ x.wq.length then
    let n := x.wq.length - lo
    (s.setDram u { x with wq := x.wq.drop n }).issue u ((x.wq.take n).map (fun e => .write e.line))
  else s

/-- The entries of a unit's write queue (R314). -/
def wqSize (u : Nat) : Nat := if u < 16 then 64 else 32

/-- The mask of all 64 bytes of a line. -/
def fullMask : Nat := 2 ^ 64 - 1

/-- A newer write merges into the entry of its line: its bytes replace the older, and one of the whole line ends the poison (R314). An entry that
waits then holds the writes of both commands. -/
def WqEntry.merge (e n : WqEntry) : WqEntry :=
  { e with mask := e.mask ||| n.mask, poison := n.poison || (e.poison && n.mask != fullMask), seqs := (e.seqs ++ n.seqs).eraseDups }

/-- A list of entries with a newer one merged in. -/
def mergeWq (l : List WqEntry) (n : WqEntry) : List WqEntry := l.map (fun e => if e.line == n.line then e.merge n else e)

/-- The queue holds an entry of a line. -/
def hasLine (l : List WqEntry) (line : Nat) : Bool := l.any (fun e => e.line == line)

/-- A written line enters its unit's write queue, merges into its entry there, or waits: for room (R316), or for the unit in copy of a migration
(R325). -/
def State.queueLine (s : State) (u : Nat) (e : WqEntry) : State :=
  let x := s.dram u
  if hasLine x.wwait e.line then s.setDram u { x with wwait := mergeWq x.wwait e }
  else if hasLine x.wq e.line && !s.inCopy (e.line / 4) then s.setDram u { x with wq := mergeWq x.wq { e with seqs := [] } }
  else if x.wq.length < wqSize u && !s.inCopy (e.line / 4) then (s.setDram u { x with wq := x.wq ++ [{ e with seqs := [] }] }).drainWq u
  else s.setDram u { x with wwait := x.wwait ++ [e] }

/-- The lines that bytes `[a, a + n)` of device memory touch. -/
def linesOf (a n : Nat) : List Nat := if n = 0 then [] else List.range' (a / 64) ((a % 64 + n - 1) / 64 + 1)

/-- The bytes `[a, a + n)` as masks of lines. -/
def masksOf (a n : Nat) : List (Nat × Nat) :=
  (linesOf a n).map (fun l =>
    let lo := max a (64 * l)
    (l, (2 ^ (min (a + n) (64 * l + 64) - lo) - 1) * 2 ^ (lo % 64)))

/-- The spare's line that a write also goes to while its folio is copied (R331). -/
def State.twin (s : State) (line : Nat) : Option Nat :=
  (s.mc.remap.find? (fun r => r.copying && r.dfn == line / 1024)).map (fun r => r.spare * 1024 + line % 1024)

/-- A write of masked lines: queued in their units, and a new codeword replaces what injection had inverted. -/
def State.queueMasks (s : State) (l : List (Nat × Nat)) (poison : Bool) (seq : Option Nat) : State :=
  let s := { s with si := { s.si with lineErr := s.si.lineErr.filter (fun p => !l.any (fun m => m.1 == p.1)) } }
  l.foldl (fun s m =>
    let s := s.queueLine (s.unitOf (m.1 / 4)) { line := m.1, mask := m.2, poison := poison, seqs := seq.toList }
    match s.twin m.1 with
    | some k => s.queueLine (s.unitOf (k / 4)) { line := k, mask := m.2, poison := poison, seqs := seq.toList }
    | none => s) s

/-- A write of bytes `[a, a + n)` for a command, if it serves one. -/
def State.queueWrite (s : State) (a n : Nat) (seq : Option Nat := none) : State := s.queueMasks (masksOf a n) false seq

/-- A write of a command waits for room in a write queue, or for the unit in copy of a migration (R316, R325). -/
def State.writesWait (s : State) (x : Desc) : Bool :=
  s.mc.units.any (fun u => u.2.wwait.any (fun e => inSet e.seqs x.seq))

/-- The bytes `[a, a + n)` are all held in write-queue entries (R315). -/
def State.allQueued (s : State) (a n : Nat) : Bool :=
  (masksOf a n).all (fun m => (s.dram (s.unitOf (m.1 / 4))).wq.any (fun e => e.line == m.1 && e.mask &&& m.2 == m.2))

/-- A read of bytes `[a, a + n)` served wholly or partly from a channel's write queue is counted (R315). -/
def State.countFwd (s : State) (a n : Nat) : State :=
  if (masksOf a n).any (fun m => s.unitOf (m.1 / 4) < 16 &&
      (s.dram (s.unitOf (m.1 / 4))).wq.any (fun e => e.line == m.1 && e.mask &&& m.2 != 0)) then s.bump F_MC_FWD_CNT_FWD
  else s

/-- A read of a sector that the cache does not serve: its unit issues a read of each line that its queue does not hold whole. -/
def State.issueReads (s : State) (sec : Nat) : State :=
  let u := s.unitOf sec
  let x := s.dram u
  let ls := (List.range' (4 * sec) 4).filter (fun l => !x.wq.any (fun e => e.line == l && e.mask == fullMask))
  s.issue u (ls.map .read)

/-! ## Encryption and tags (R349, R350, R558 to R560) -/

/-- The secret of a tenant's MEMORY slot. -/
def State.memSecret (s : State) (t : Nat) : Secret := match s.memSlot t with | some i => (s.slot i).secret | none => .absent

/-- The ciphertext of a sector as it is stored: AES-256-XTS with the owner's pair, tweak DPA[47:8] (R559). -/
def State.ciphertext (s : State) (sec : Nat) : List Byte :=
  xts ((s.memSecret (s.owner (sec / 256)).tenant).derive "XTS" 64) sec (s.readMem (sec * 256) 256)

/-- The tag of a sector: the first 56 bits of AES-CMAC under the owner's tag key over the ciphertext, DPA[47:8] and the tenant ID (R350, R560). -/
def State.tagOf (s : State) (sec : Nat) : BitVec 56 :=
  let t := (s.owner (sec / 256)).tenant
  BitVec.ofNat 56 (leNat ((cmac ((s.memSecret t).derive "TAG" 32) (s.ciphertext sec ++ leBytes 5 sec ++ leBytes 2 t)).take 7))

/-- Writes a sector's tag entry. The first tag write into an unreadable tag-store sector writes all of it, the other 31
entries LOST (R356), and clears its poison. -/
def State.setTag (s : State) (sec : Nat) (g : TagEntry) : State :=
  let s := if inSet s.si.badTags (sec / 32) then
      { s with si := { s.si with
        badTags := setErase s.si.badTags (sec / 32)
        tags := (List.range 32).foldl (fun m i => kvPut TagEntry.fresh m (sec / 32 * 32 + i) TagEntry.lost) s.si.tags } }.clearPoison (s.tagSec sec)
    else s
  { s with si := { s.si with tags := kvPut TagEntry.fresh s.si.tags sec g } }

/-- A whole write of a sector of a tagging tenant, or a part merged into a sector that verified: the new tag is computed and stored (R353, R355). -/
def State.retag (s : State) (sec : Nat) : State := if s.tagsAt sec then s.setTag sec (TagEntry.tagged (s.tagOf sec)) else s

/-- FOLIO_ALLOC sets all 256 tag entries of a folio to FRESH and writes its eight tag-store sectors whole, which clears any poison that they
hold (R351). -/
def State.freshTags (s : State) (dfn : Nat) : State :=
  let l := if s.fld F_SI_CFG_TAGS_PRESENT = 1 then List.range' (8 * dfn) 8 else []
  l.foldl (fun s b => s.clearPoison (s.tagSec (b * 32))) { s with si := { s.si with
    tags := s.si.tags.filter (fun p => p.1 / 256 != dfn)
    badTags := s.si.badTags.filter (fun b => b / 8 != dfn) } }

/-! ## Poison -/

/-- A folio that is FREE and has a sector poisoned enters ZEROING (R45). -/
def State.rezero (s : State) (dfn : Nat) : State :=
  if s.folioState dfn = .free then s.toZeroing dfn else s

/-- The poison of a sector is written: its four lines with data zero and the poison syndrome (R342), counted, and its cache line invalidated (R232). -/
def State.storePoison (s : State) (sec : Nat) : State :=
  let s := ((s.zeroMem (sec * 256) 256).setPoison sec).bump F_SI_POISON_CNT_POISONED
  (s.queueMasks ((List.range' (4 * sec) 4).map (fun l => (l, fullMask))) true none).cacheDrop sec

/-- Poisons a sector in the course of a command: the tag entry of a tagging tenant becomes LOST (R343, R760). -/
def State.poisonSector (s : State) (sec : Nat) : State :=
  let s := s.storePoison sec
  (if s.tagsAt sec then s.setTag sec TagEntry.lost else s).rezero (sec / 256)

/-- Poisons a sector by the scrubber, a migration or a sparing copy, which leave the tag entry as it is (R760). -/
def State.poisonQuiet (s : State) (sec : Nat) : State := (s.storePoison sec).rezero (sec / 256)

/-- Poisons sectors one after another. -/
def State.poisonAll (s : State) : List Nat → State
  | [] => s
  | x :: t => (s.poisonSector x).poisonAll t

/-- Invalidates all 256 lines of a folio (Table 7.1). -/
def State.cacheDropFolio (s : State) (dfn : Nat) : State := s.cacheCut (fun l => l.sec / 256 == dfn)

/-! ## Self-test jobs -/

/-- The key of a self-test job's target as SI_SEL.INDEX numbers it (R373). -/
def bistTarget (kind index : Nat) : Nat :=
  if kind = 0 then index else if kind = 1 then 16 + index else if kind = 2 then 20 + index else 28 + index

/-- A self-test job runs on a target (R364, R368). -/
def State.jobOn (s : State) (kind index rank : Nat) : Bool :=
  s.si.jobs.any (fun j => j.kind == kind && j.index == index && j.rank == rank)

/-- Self-test jobs pause, or go on; SI_T_BIST.STATE of their targets says so (R367). -/
def State.pauseJobs (s : State) (b : Bool) (p : BistJob → Bool) : State :=
  let hit := s.si.jobs.filter (fun j => p j && j.paused != b)
  let s := { s with si := { s.si with jobs := s.si.jobs.map (fun (j : BistJob) => if p j then { j with paused := b } else j) } }
  hit.foldl (fun s j => s.setFld F_SI_T_BIST_STATE (if b then 2 else 1) (bistTarget j.kind j.index)) s

/-! ## Bandwidth of a tenant (R496, R497) -/

/-- The key of a tenant's credit on a memory unit. -/
def creditKey (t u : Nat) : Nat := t * 256 + u

/-- The memory units in service of a tier: 0 hot, 1 warm. -/
def State.tierUnits (s : State) (warm : Bool) : List Nat :=
  if warm then (List.range 16).filter (fun u => bit (s.fld F_MC_STATUS_SET) u && s.unitState u != 4)
  else (List.range' 16 128).filter (fun u => bit (s.fld F_HB_STATUS_SET) ((u - 16) / 32) && s.unitState u != 4)

/-- The shares of a tenant as its fields say them. -/
def State.termsNow (s : State) (t : Nat) : Terms :=
  { weight := s.fld F_TN_T_SHARE_DATA_WEIGHT t, capHot := s.fld F_TN_T_CAP_HOT t, capWarm := s.fld F_TN_T_CAP_WARM t
    resHot := s.fld F_TN_T_RESERVE_HOT t, resWarm := s.fld F_TN_T_RESERVE_WARM t }

/-- The shares of a tenant that are in force: those of the last credit interval, or its fields before its first one (R489; log entry 78). -/
def State.terms (s : State) (t : Nat) : Terms := kvGet (s.termsNow t) s.tn.terms t

/-- A tenant's cap for the tier of a unit, in GB/s; 0 is none. -/
def State.capOf (s : State) (t u : Nat) : Nat := if u < 16 then (s.terms t).capWarm else (s.terms t).capHot

/-- The bytes that a cap lets a unit serve in 1 µs: an even division over the units in service of its tier (R497). -/
def State.capShare (s : State) (t u : Nat) : Nat := s.capOf t u * 1000 / max 1 (s.tierUnits (decide (u < 16))).length

/-- A capped tenant has been served its share of this interval on the unit of a sector: its further requests there wait for the next (R497). -/
def State.capFull (s : State) (t sec : Nat) : Bool :=
  let u := s.unitOf sec
  s.capOf t u != 0 && decide (s.capShare t u ≤ kvGet 0 s.tn.served (creditKey t u))

/-- Serving `n` bytes of a tenant uses its credit on the unit first (sixteenths of a byte), and counts against its cap. -/
def State.useCredit (s : State) (t sec n : Nat) : State :=
  let u := s.unitOf sec
  let k := creditKey t u
  let c := s.tn
  { s with tn := { c with
      credit := kvPut 0 c.credit k (kvGet 0 c.credit k - 16 * n)
      served := if s.capOf t u = 0 then c.served else kvPut 0 c.served k (kvGet 0 c.served k + n) } }

end Sys2Proof.Machine
end

