-- ==== Sys2Proof/Machine/Units.lean ====
section
/-!
DEFINITION. What an operation of one block does to another: pins, links, loops, and the containment of a unit.
-/
namespace Sys2Proof.Machine

/-- The PCIe link is up (HP_STATUS.RATE). -/
def State.hostLinkUp (s : State) : Bool := s.fld F_HP_STATUS_RATE != 0
/-- The kind of the AER Uncorrectable Internal Error message. -/
def msgAer : Nat := 1
/-- The in-service projection unit with the fewest bytes queued, ties to the lower index (R272); none while the domain's clock is
lost (R610). -/
def State.chooseUnit (s : State) : Option Nat :=
  let load (u : Nat) : Nat := ((s.pjUnit u).cmds.map (·.2)).foldl (· + ·) 0
  ((List.range 8).filter (fun u => !(s.pjUnit u).out && !s.domFailed 57)).foldl
    (fun acc u => match acc with
      | none => some u
      | some a => if load u < load a then some u else some a) none

/-- A command with its bytes goes to another unit, or waits for one (R282, R283). -/
def State.placeCmd (s : State) (c : Nat × Nat) : State :=
  match s.chooseUnit with
  | some v => s.setPjUnit v { s.pjUnit v with cmds := (s.pjUnit v).cmds ++ [c] }
  | none => s.stage c.1 (.wait .unit)

/-- The commands that a unit serves: the first 16 in assignment order (R272). -/
def PjUnit.served (x : PjUnit) : List (Nat × Nat) := x.cmds.take 16

/-- A projection unit leaves service: the commands that wait on it move at once, each that it serves at its next chunk boundary (R282). -/
def State.pjOut (s : State) (u : Nat) : State :=
  let x := s.pjUnit u
  let s := if x.out then s else s.setFld F_SI_T_PASS_PASS 0 (28 + u)
  let s := s.setPjUnit u { x with out := true, cmds := x.served }
  (x.cmds.drop 16).foldl State.placeCmd s

/-- The chunk boundary of a command that a unit out of service still serves: it moves (R282). -/
def State.pjMove (s : State) (u d : Nat) : State :=
  let x := s.pjUnit u
  let s := s.setPjUnit u { x with cmds := x.cmds.filter (fun c => c.1 != d), redo := x.redo.filter (fun r => r.1 != d) }
  (x.cmds.filter (fun c => c.1 == d)).foldl State.placeCmd s

/-- A stacks-cache set is disabled (R256). -/
def State.setOff (s : State) (k : Nat) : State :=
  if (s.cset k).off then s
  else (s.setCset k { lines := [], off := true }).bump F_SK_SETS_DISABLED_SETS

/-- What containment marks for an escalated unit (Table 20.2, R659). -/
def State.markUnit (s : State) (t i : Nat) : State :=
  if t = 5 then s.setOff i
  else if t = 6 then s.clusterOut i
  else if t = 7 then s.pjOut i
  else if t = 8 then (match s.pl.running with | some d => s.finish d .aborted {} 0 | none => s)
  else if t = 10 && i < 16 then s.setUnitState i 4
  else if t = 11 && i < 128 then s.setUnitState (16 + i) 4
  else if t = 17 then { s with er := { s.er with cores := kvInsert s.er.cores i { kvGet {} s.er.cores i with out := true } } }
  else s

/-- A memory write to the host cannot be sent (R759): the PCIe link is down, or the link IDE stream is Insecure. -/
def State.hostFault (s : State) : Option Nat :=
  if !s.hostLinkUp then some 0x94 else if kvGet 0 s.hp.ide 0 = 2 then some 0x93 else none

end Sys2Proof.Machine
end

