-- ==== Sys2Proof/Machine/Report.lean ====
section
/-!
DEFINITION. Error records, recoveries, escalation and fatal errors (Errors and Recovery), as operations that the
meanings of every family call.
-/
namespace Sys2Proof.Machine

/-- What an error record names (Table 20.3), before its sequence number. `recov` marks a kind that needs recovery; with `norec` it counts toward
R659 and starts none, as a second parity error of one solve does (R296). -/
structure ErrInfo where
  kind : Nat
  utype : Nat
  inst : Nat := 0
  cls : Nat
  recov : Bool := false
  norec : Bool := false
  tenant : Nat := 0
  ctx : Nat := 0
  dpa : Nat := 0
  tag : Nat := 0
  status : Nat := 0
  detail : Nat := 0
  data : Nat := 0
  deriving DecidableEq, Repr

/-- The newest unread record that is not fatal, searched downwards from ER_WPTR (R669). -/
def State.newestNonFatal (s : State) : Nat → Nat → Option Nat
  | 0, _ => none
  | n + 1, seq =>
    match s.ringRec seq with
    | some r => if r.cls != 3 then some seq else s.newestNonFatal n ((seq + 2 ^ 32 - 1) % 2 ^ 32)
    | none => s.newestNonFatal n ((seq + 2 ^ 32 - 1) % 2 ^ 32)

/-- Writes a record to the ring under R667 to R669 and sets IR_EVT_STATUS.ERROR (R657); answers the SEQ it took, or
0xFFFF_FFFF when it took none. -/
def State.writeRec (s : State) (r : ErrRec) : State × Nat :=
  let w := s.fld F_ER_WPTR_WPTR
  let p := s.fld F_ER_RPTR_RPTR
  if (w + 2 ^ 32 - p) % 2 ^ 32 < 256 then
    let s := s.setRing { r with seq := w }
    ((s.setFld F_ER_WPTR_WPTR (w + 1)).devEvent 0, w)
  else if r.cls != 3 then (s.bump F_ER_OVF_CNT_OVF, 0xFFFF_FFFF)
  else
    match s.newestNonFatal 256 ((w + 2 ^ 32 - 1) % 2 ^ 32) with
    | some q => (((s.setRing { r with seq := q }).bump F_ER_OVF_CNT_OVF).devEvent 0, q)
    | none => (s.bump F_ER_OVF_CNT_OVF, 0xFFFF_FFFF)

/-- The times of a unit's counted errors that lie less than 1 s back (R659: of three errors the first opens the second). -/
def State.recent (s : State) (u : UnitRec) : List Nat := u.times.filter (fun t => decide (s.now - t < 1000000000))

/-- The fatal part of an error (R663 to R665): the fatal store, ALERT_N, the AER message, the fatal action in progress. Its device reset is due 1 ms
later, at once while RESET_PENDING is 1 (R719). -/
def State.fatal (s : State) (r : ErrRec) (act : FatalAction) : State :=
  let e := s.er
  let e := if e.storeValid then { e with storeCount := min 255 (e.storeCount + 1) }
    else { e with store := r, storeValid := true }
  let e := { e with kind := if e.action = .none then r.kind else e.kind
                    due := if e.action = .none then s.now + (if s.bt.resetAt.isSome then 0 else 1000000) else e.due, action := match e.action, act with
    | _, .hold => .hold
    | .none, a => a
    | a, _ => a }
  let s := { s with er := e }
  let s := s.setAlert
  if s.hostLinkUp then s.emit (.mgmt 0 msgAer r.kind []) else s

/-- The error counts in its unit's window: a recovery of a unit that is not escalated, and not a retraining (R318, R659). -/
def ErrInfo.counts (i : ErrInfo) (u : UnitRec) : Bool := i.recov && i.kind != 0x23 && u.escBy.isNone

/-- The count of the unit's errors within 1 s, with this error when it counts; 0 once no error lies within 1 s. -/
def State.windowCount (s : State) (i : ErrInfo) (u : UnitRec) : Nat := (s.recent u).length + b2n (i.counts u)

/-- The error escalates its unit: the third within the window, or one more than the recovery that may wait (R659, R660). -/
def State.escalates (s : State) (i : ErrInfo) (u : UnitRec) : Bool :=
  i.counts u && (decide (3 ≤ s.windowCount i u) || (u.running.isSome && u.queued.isSome))

/-- The error comes while a recovery of its unit runs. -/
def ErrInfo.nests (i : ErrInfo) (u : UnitRec) : Bool := i.recov && u.escBy.isNone && u.running.isSome

/-- The error's recovery starts (R658). -/
def State.startsRecovery (s : State) (i : ErrInfo) (u : UnitRec) : Bool :=
  i.recov && !i.norec && u.escBy.isNone && !s.escalates i u && u.running.isNone

/-- The error's recovery waits for the one that runs (R658). -/
def State.queuesRecovery (s : State) (i : ErrInfo) (u : UnitRec) : Bool :=
  i.nests u && !i.norec && !s.escalates i u && u.queued.isNone

/-- The record of an error of a unit, before its SEQ (Table 20.3). -/
def State.errRecord (s : State) (i : ErrInfo) (u : UnitRec) : ErrRec :=
  { ts := s.now, cls := i.cls, recov := s.startsRecovery i u || s.queuesRecovery i u, nested := i.nests u
    esc := s.escalates i u, utype := i.utype, inst := i.inst, kind := i.kind, tenant := i.tenant, ctx := i.ctx
    dpa := i.dpa, tag := i.tag, status := i.status, detail := i.detail
    outcome := if i.cls = 3 then 4 else if u.escBy.isSome || s.escalates i u then 3 else if s.queuesRecovery i u then 2 else 0
    window := min 255 (s.windowCount i u)
    related := u.escBy.getD (if i.nests u then u.running.getD 0xFFFF_FFFF else 0xFFFF_FFFF)
    data := i.data }

/-- What the unit's window and recovery are once the record has its SEQ. -/
def State.unitAfter (s : State) (i : ErrInfo) (u : UnitRec) (seq : Nat) : UnitRec :=
  { u with
    times := if i.counts u then s.recent u ++ [s.now] else u.times
    running := if s.startsRecovery i u then some seq else u.running
    queued := if !s.startsRecovery i u && s.queuesRecovery i u then some seq else u.queued }

/-- The escalation of a unit: the recovery that waits has failed, an ESCALATED record, the unit is marked (R659, R660). -/
def State.escalate (s : State) (i : ErrInfo) (u : UnitRec) (cnt seq : Nat) : State :=
  let s := match u.queued with | some q => s.setOutcome q 3 | none => s
  let w := s.writeRec {
    ts := s.now, cls := 2, utype := i.utype, inst := i.inst, kind := 0x47, tenant := i.tenant,
    window := min 255 cnt, related := seq }
  ((w.1.bump F_ER_ESC_CNT_ESC).setUnitRec (unitKey i.utype i.inst) { u with queued := none, escBy := some w.2 }).markUnit
    i.utype i.inst

/-- Writes an error record and takes what it entails: the recovery that starts or is queued (R658), the escalation
of the unit (R659, R660). The answer is the record as written. -/
def State.record (s : State) (i : ErrInfo) : State × ErrRec :=
  let k := unitKey i.utype i.inst
  let u := s.unitRec k
  let r := s.errRecord i u
  let w := s.writeRec r
  let y := s.unitAfter i u w.2
  let t := w.1.setUnitRec k y
  (if s.escalates i u then t.escalate i y (s.windowCount i u) w.2 else t, { r with seq := w.2 })

/-- Reports an error that is not fatal. -/
def State.report (s : State) (i : ErrInfo) : State := (s.record i).1

/-- Reports a fatal error whose action is RESET (R663). -/
def State.reportReset (s : State) (i : ErrInfo) : State := (s.record i).1.fatal (s.record i).2 .reset

/-- Reports a fatal error whose action is HOLD: every loop turns off, and what they supply is cleared (R663). -/
def State.reportHold (s : State) (i : ErrInfo) : State := (((s.record i).1.fatal (s.record i).2 .hold).loopsOff).holdReset 3

/-- A recovery that ends in the step that finds its error: reported, then ended restored. -/
def State.reportCured (s : State) (i : ErrInfo) : State :=
  let had := (s.unitRec (unitKey i.utype i.inst)).running.isSome
  let s := s.report i
  if had then s else s.recoveryEnd i.utype i.inst true

/-- A unit comes back by its own return path: its window restarts (R660). -/
def State.unitReturn (s : State) (utype inst : Nat) : State :=
  let k := unitKey utype inst
  s.setUnitRec k { s.unitRec k with escBy := none, times := [] }

/-- The CONTEXT word of a record: queue ID and stream or fence ID (Table 20.3). -/
def errCtx (q obj : Nat) : Nat := q % 65536 + obj % 4096 * 65536

end Sys2Proof.Machine
end

