-- ==== Sys2Proof/Machine/Sectors.lean ====
section
/-!
DEFINITION. Reads and writes of tenant memory by sector: what a read meets (poison, an uncorrectable line, a tag that fails),
what a write does to a sector, the hints of accesses, the result of E_POISON and E_INTEGRITY (Stored-Data Integrity,
Scrubbing and Self-Test; Stacks Cache, Scratch and Read-Only Caches).
-/
namespace Sys2Proof.Machine

/-- What an access met: the data offset of the first byte in the lowest failing sector, poisoned sectors, sectors whose
tag failed, and the failing sectors (Table 11.3). -/
structure Met where
  first : Option Nat := none
  poisoned : Nat := 0
  tags : Nat := 0
  bad : List Nat := []
  deriving DecidableEq, Repr

/-- The result field of Table 11.3. -/
def Met.result (m : Met) : Result :=
  let o := m.first.getD 0
  { w0 := o % 2 ^ 32, w1 := o / 2 ^ 32, w2 := m.poisoned, w3 := m.tags }

/-- The status: E_INTEGRITY before E_POISON (R347). -/
def Met.status (m : Met) : Status := if m.tags ≠ 0 then .integrity else if m.poisoned ≠ 0 then .poison else .ok

/-- How one sector was met. -/
inductive SecRes where
  | ok | poison | tag
  deriving DecidableEq, Repr

/-- Adds a failing sector. -/
def Met.add (m : Met) (sec off : Nat) (r : SecRes) : Met :=
  match r with
  | .ok => m
  | .poison => { m with first := some (m.first.getD off), poisoned := m.poisoned + 1, bad := m.bad ++ [sec] }
  | .tag => { m with first := some (m.first.getD off), tags := m.tags + 1, bad := m.bad ++ [sec] }

/-- Whom an access serves: the CONTEXT and CLIENT_TAG that an error record names (Table 20.3), the tenant whose
bandwidth it uses (R496), the acceptance number of its command. -/
structure For where
  ctx : Nat := 0
  tag : Nat := 0
  tenant : Nat := 0
  seq : Option Nat := none
  deriving DecidableEq, Repr

/-- Whom a descriptor's accesses serve. -/
def Desc.who (x : Desc) : For := { ctx := errCtx x.q (x.strm.getD 0), tag := x.e.tag, tenant := x.e.tenant, seq := some x.seq }

/-- The error record of a sector: charged to its channel or pseudo-channel (Table 20.2). -/
def State.secErr (s : State) (kind sec : Nat) (w : For) : ErrInfo :=
  let u := s.unitOf sec
  { kind := kind, utype := if u < 16 then 10 else 11, inst := if u < 16 then u else u - 16, cls := 2,
    tenant := (s.owner (sec / 256)).tenant, ctx := w.ctx, dpa := sec * 256, tag := w.tag }

/-- Counts an uncorrectable read of a unit (R323). -/
def State.countUe (s : State) (u : Nat) : State :=
  if u < 16 then s.bump F_MC_CH_UE_CNT_UE 1 u else s.bump F_HB_PC_UE_CNT_UE 1 (u - 16)

/-- Counts a corrected read of a sector. -/
def State.countCe (s : State) (sec : Nat) : State :=
  let u := s.unitOf sec
  (if u < 16 then s.bump F_MC_CH_CE_CNT_CE 1 u else s.bump F_HB_PC_CE_CNT_CE 1 (u - 16)).noteCe sec

/-- A sector of the hot tier. -/
def isHotSec (sec : Nat) : Bool := decide (sec / 256 < warmBase)

/-- What is wrong in the stored codewords of a line. -/
def State.errOf (s : State) (line : Nat) : LineErr := kvGet {} s.si.lineErr line

/-- What the decoder makes of the stored lines of a sector. -/
def State.secVerdict (s : State) (sec : Nat) : Decoded :=
  ((s.si.lineErr.filter (fun p => p.1 / 4 == sec)).map (fun p => lineVerdict (isHotSec sec) p.2)).foldl Decoded.max .clean

/-- What is wrong in a line with what came by nature: an uncorrectable first read is followed by a second (R323). -/
def State.natural (s : State) (line : Nat) (first second : LineErr) : LineErr :=
  joinErr (s.errOf line)
    (if lineVerdict (isHotSec (line / 4)) (joinErr (s.errOf line) first) = .failed then second else first)

/-- A miscorrected line delivers other bytes, silently (R341; free, log entry 118); what was wrong in it counts as gone. -/
def State.miscorrect (s : State) (line : Nat) (e : LineErr) : State :=
  let b := (Config.miscorrected (s.readMem (line * 64) 64) e ++ List.replicate 64 0).take 64
  { (s.writeMem (line * 64) b) with si := { s.si with lineErr := kvErase s.si.lineErr line } }

/-- On-die corrections of a stack are counted (R340). -/
def State.countOnDie (s : State) (sec : Nat) (e : LineErr) : State :=
  if isHotSec sec && e.ondie == 1 then s.bump F_SI_T_ONDIE_CE_ONDIE_CE 1 (16 + (s.unitOf sec - 16) / 32) else s

/-- A line that its decoder takes for good is delivered: a correction is counted, a miscorrection delivers other bytes (R338 to R341). -/
def State.decodeLine (s : State) (line : Nat) (e : LineErr) : State :=
  let s := s.countOnDie (line / 4) e
  match lineVerdict (isHotSec (line / 4)) e with
  | .fixed => s.countCe (line / 4)
  | .wrong => (s.countCe (line / 4)).miscorrect line e
  | _ => s

/-- The stored lines of a sector that reads well. -/
def State.decodeSec (s : State) (sec : Nat) : State :=
  (s.si.lineErr.filter (fun p => p.1 / 4 == sec)).foldl (fun s p => s.decodeLine p.1 p.2) s

/-- A second uncorrectable read: the sector is poisoned, the count rises and a DRAM_UE record is written (R323). -/
def State.uncorrectable (s : State) (sec : Nat) (w : For) : State :=
  (((s.poisonSector sec).countUe (s.unitOf sec)).noteUe sec).report (s.secErr 0x20 sec w)

/-- A tag that does not verify: the sector is poisoned, its entry LOST, counted and recorded (R352, R354). -/
def State.tagFail (s : State) (sec : Nat) (w : For) : State :=
  ((s.poisonSector sec).bump F_SI_TAG_FAIL_CNT_TAGFAIL).report (s.secErr 0x21 sec w)

/-- A read of one sector as its memory, code and tag answer it (R323, R319, R342, R351, R352, R356, Table 20.6 code 2). -/
def State.checkSector (s : State) (sec : Nat) (w : For) : State × SecRes :=
  let tg := s.tagsAt sec
  if inSet s.map.device (sec / 256) || s.unitOut sec then (s, .poison)
  else if tg && inSet s.si.badTags (sec / 32) then (s.bump F_SI_POISON_MET_MET, .poison)
  else if s.freshAt sec then (s, .ok)
  else if s.poisoned sec || (tg && (s.tag sec).state = .lost) then (s.bump F_SI_POISON_MET_MET, .poison)
  else match s.secVerdict sec with
    | .poison => ((s.bump F_SI_POISON_MET_MET).rezero (sec / 256), .poison)
    | .failed => (s.uncorrectable sec w, .poison)
    | _ =>
      let s := s.decodeSec sec
      if tg && (s.tag sec).tag != s.tagOf sec then (s.tagFail sec w, .tag) else (s, .ok)

/-! ## Hints -/

/-- The kind of an access for Table 7.2, with the command's own hint where it carries one. -/
structure Via where
  cmd : Option Hint := none
  dflt : Hint := .normal
  deriving DecidableEq, Repr

/-- A hint from FOLIO_HINT's code (Table 2.5): 0 NORMAL, 1 KEEP, 2 EVICT_FIRST. -/
def folioHint (n : Nat) : Option Hint := if n = 1 then some .keep else if n = 2 then some .evictFirst else none

/-- The hint of an access (R234). -/
def Via.hint (v : Via) (folio : Nat) : Hint :=
  match v.cmd with
  | some h => h
  | none => (folioHint folio).getD v.dflt

/-- KV reads default to EVICT_FIRST (Table 7.2). -/
def viaKv : Via := { dflt := .evictFirst }

/-- Pin class and default hint recorded for folio `i` of a list (R236). -/
def metaPin (l : List Nat) (i : Nat) : Nat := l.getD i 0 % 16

/-- The default hint recorded for folio `i`. -/
def metaHint (l : List Nat) (i : Nat) : Nat := l.getD i 0 / 16

/-! ## Ranges -/

/-- A mirror entry's sector cannot be read (Table 20.6 code 1). -/
def State.mirrorBad (s : State) (t tfn : Nat) : Bool := inSet s.map.badMirror (t * 524288 + tfn / 32)

/-- A mirror entry that a ring or a command of the tenant may use is there and can be read (Table 2.4 steps 6 and 7, Table 20.6 code 1). -/
def State.mapped (s : State) (t tfn : Nat) : Bool :=
  decide (tfn < s.fld F_TN_MAP_LEN_LEN t) && !s.mirrorBad t tfn && (s.entry t tfn).valid

/-- WRITE as step 8 reads it: clear while the folio is marked published (R166). -/
def State.mayWrite (s : State) (t tfn : Nat) : Bool :=
  (s.entry t tfn).wr && (s.owner (s.entry t tfn).dfn).pub == 0

/-- One piece of a range: its sector, folio index, first byte within the sector, length, offset in the data. -/
structure Piece where
  sec : Nat
  folio : Nat
  start : Nat
  len : Nat
  off : Nat
  deriving DecidableEq, Repr

/-- The pieces, one per sector, of `n` bytes from address `a` of recorded folios. -/
def pieces (dfns : List Nat) (a n : Nat) : List Piece :=
  (List.range (if n = 0 then 0 else (a % 256 + n - 1) / 256 + 1)).map (fun k =>
    let off := if k = 0 then 0 else 256 * k - a % 256
    let start := if k = 0 then a % 256 else 0
    { sec := sectorOf (dpaAt dfns a off), folio := (a % 65536 + off) / 65536, start := start,
      len := min (256 - start) (n - off), off := off })

/-- The stacks cache serves a sector. -/
def State.cached (s : State) (sec : Nat) : Bool :=
  (s.cset (setOf sec)).lines.any (fun l => l.sec == sec && l.handle == s.memHandle (s.owner (sec / 256)).tenant)

/-- A read of a piece waits: its unit retrains or is in self-refresh, which the access has it leave, and neither the cache nor the write queue serves
it (R315, R318, R592). -/
def State.pieceWaits (s : State) (p : Piece) : Bool :=
  (s.unitState (s.unitOf p.sec) == 3 || (s.dram (s.unitOf p.sec)).selfRef) && !s.cached p.sec && !s.freshAt p.sec && !s.allQueued (p.sec * 256 + p.start) p.len

/-- A tenant's read of pieces waits while a unit retrains (R318), or for the next interval of its cap (R497). -/
def State.readWaits (s : State) (t : Nat) (ps : List Piece) : Bool :=
  ps.any (fun p => s.pieceWaits p || (!s.cached p.sec && !s.freshAt p.sec && s.capFull t p.sec))

/-- A tenant's write of pieces waits while a unit retrains from which it must read, where it covers a sector in part (R318, R353), or for the next
interval of its cap (R497). -/
def State.mergeWaits (s : State) (t : Nat) (ps : List Piece) : Bool :=
  ps.any (fun p => (p.len != 256 && s.pieceWaits p) || s.capFull t p.sec)

/-- An output of `n` bytes at address `a` of recorded folios waits likewise. -/
def State.outWaits (s : State) (x : Desc) (a n : Nat) : Bool := s.mergeWaits x.e.tenant (pieces x.dst a n)

/-- Reads a list of pieces: each sector is checked, and one that reads well meets the cache. `metas` records pins and
hints per folio, with pin code 15 for a folio reached without a mirror translation; an access that records none passes
`none`. -/
def State.readPieces (s : State) (metas : Option (List Nat)) (v : Via) (w : For) : List Piece → Met → State × Met
  | [], m => (s, m)
  | p :: l, m =>
    let (s, r) := s.checkSector p.sec w
    let o := s.owner (p.sec / 256)
    let s := if r = .ok && !s.freshAt p.sec then
        let s := if s.cached p.sec then s
          else ((s.useCredit w.tenant p.sec p.len).countFwd (p.sec * 256 + p.start) p.len).issueReads p.sec
        match metas with
        | some ms => s.cacheAccess p.sec (s.memHandle o.tenant) (v.hint (metaHint ms p.folio))
            (if metaPin ms p.folio = 15 then none else some (metaPin ms p.folio)) true
        | none => s.cacheAccess p.sec (s.memHandle o.tenant) (v.hint o.hint) none true
      else s
    s.readPieces metas v w l (m.add p.sec p.off r)

/-- Reads `n` bytes from address `a` of recorded folios: what the read met. The bytes are `readRuns`. -/
def State.readAccess (s : State) (dfns : List Nat) (metas : Option (List Nat)) (a n : Nat) (v : Via) (w : For) :
    State × Met :=
  s.readPieces metas v w (pieces dfns a n) {}

/-- Writes the bytes of one sector that passed its check: memory, write queue, tag, poison, cache (R231, R344, R355); a part of a FRESH sector is
merged with zeros (R351). -/
def State.putPiece (s : State) (metas : List Nat) (v : Via) (w : For) (p : Piece) (b : List Byte) : State :=
  let a := p.sec * 256 + p.start
  let s := if s.freshAt p.sec then s.zeroMem (p.sec * 256) 256 else s
  let s := (s.writeMem a b).queueWrite a b.length w.seq
  let s := (if p.len = 256 then s.clearPoison p.sec else s).retag p.sec
  let h := v.hint (metaHint metas p.folio)
  let pin := metaPin metas p.folio
  s.cacheAccess p.sec (s.memHandle (s.owner (p.sec / 256)).tenant) h (some pin)
    (p.len == 256 && (pin != 0 || decide (h = .keep)))

/-- Writes bytes piece by piece: a whole sector is replaced, a part is merged after its sector reads well, and a part of
a sector that does not is refused and leaves it (R344, R346, R353 to R355). -/
def State.writePieces (s : State) (metas : List Nat) (v : Via) (w : For) (b : List Byte) :
    List Piece → Met → State × Met
  | [], m => (s, m)
  | p :: l, m =>
    let whole := p.len == 256 && !s.unitOut p.sec && !inSet s.map.device (p.sec / 256)
    let (s, r) := if whole then (s, .ok) else s.checkSector p.sec w
    let s := if r = .ok then
        (s.useCredit w.tenant p.sec p.len).putPiece metas v w p ((b.drop p.off).take p.len)
      else s
    s.writePieces metas v w b l (m.add p.sec p.off r)

/-- Checks the sectors that a write covers in part, or that are out of service, and writes nothing. -/
def State.probePieces (s : State) (w : For) : List Piece → Met → State × Met
  | [], m => (s, m)
  | p :: l, m =>
    let whole := p.len == 256 && !s.unitOut p.sec && !inSet s.map.device (p.sec / 256)
    let (s, r) := if whole then (s, .ok) else s.checkSector p.sec w
    s.probePieces w l (m.add p.sec p.off r)

/-- Writes bytes at address `a` of recorded folios, all of them or, when a sector that the write covers in part does not read well, none
(R204, R291). -/
def State.writeAllOrNone (s : State) (dfns metas : List Nat) (a : Nat) (b : List Byte) (v : Via) (w : For) : State × Met :=
  let ps := pieces dfns a b.length
  let (s, m) := s.probePieces w ps {}
  if m.status ≠ .ok then (s, m)
  else (ps.foldl (fun s p => (s.useCredit w.tenant p.sec p.len).putPiece metas v w p ((b.drop p.off).take p.len)) s, m)

/-- Writes bytes at address `a` of recorded folios. -/
def State.writeAccess (s : State) (dfns metas : List Nat) (a : Nat) (b : List Byte) (v : Via) (w : For) :
    State × Met :=
  s.writePieces metas v w b (pieces dfns a b.length) {}

/-- Poisons every sector of a destination that would hold bytes of the failing pieces of a source (Table 11.2). -/
def State.poisonDests (s : State) (dfns : List Nat) (a : Nat) (bad : List Piece) : State :=
  let secs := (bad.map (fun p => (pieces dfns (a + p.off) p.len).map (fun q =>
    sectorOf (dpaAt dfns a (p.off + q.off))))).flatten
  s.poisonAll secs.eraseDups

/-- The pieces of a range whose sector is not among the failing ones. -/
def goodPieces (ps : List Piece) (m : Met) : List Piece := ps.filter (fun p => !inSet m.bad p.sec)

/-- The pieces of a range whose sector failed. -/
def badPieces (ps : List Piece) (m : Met) : List Piece := ps.filter (fun p => inSet m.bad p.sec)

end Sys2Proof.Machine
end

