-- ==== Sys2Proof/Machine/QueueOps.lean ====
section
/-!
DEFINITION. The queue engine's shared operations: states, rings, refusals and freezes, fence signals, the writing of
completions, and the release of descriptors (Queues and Command Packets).
-/
namespace Sys2Proof.Machine

/-! ## Entries -/

/-- The submission entry that 64 bytes spell (Table 3.3). -/
def Entry.ofBytes (l : List Byte) : Entry :=
  let w := leAt l 0 4
  { opcode := bits w 0 8, flags := bits w 8 4, wait := bit w 12, signal := bit w 13, quiet := bit w 14,
    ordered := bit w 15, tenant := bits w 16 10, rsv := bits w 26 6, tag := leAt l 4 4, opA := leAt l 8 8,
    opB := leAt l 16 8, len := leAt l 24 8, waitId := leAt l 32 2 % 4096, waitVal := leAt l 32 8 / 4096,
    sigId := leAt l 40 2 % 4096, sigVal := leAt l 40 8 / 4096, spec := leAt l 48 16 }

/-- A completion entry (Table 3.4) as its 32 bytes. -/
def cqBytes (tag : Nat) (st : Status) (detail : Nat) (phase signalled accepted froze : Bool) (ts : Nat)
    (r : Result) : List Byte :=
  leBytes 4 tag ++ [BitVec.ofNat 8 st.code, BitVec.ofNat 8 detail,
    BitVec.ofNat 8 (b2n phase + 2 * b2n signalled + 4 * b2n accepted + 8 * b2n froze), 0] ++
  leBytes 8 ts ++ leBytes 4 r.w0 ++ leBytes 4 r.w1 ++ leBytes 4 r.w2 ++ leBytes 4 r.w3

/-! ## Queue states -/

/-- The code of a queue state (Table 3.1). -/
def QState.code : QState → Nat
  | .disabled => 0 | .active => 1 | .paused => 2 | .frozen => 3 | .resetting => 4

/-- The QSTATE flit of a queue (Table 12.10, R403). -/
def qstateFlit (session q : Nat) (x : Queue) : Flit :=
  { type := 7, vc := 2, session := session, queue := q,
    body := leBytes 2 (x.st.code + x.cause * 16) ++ leBytes 2 x.sqHead ++ leBytes 2 x.cqTail }

/-- Reports a link-origin queue's state to its partner, in the session of its tenant (R393, R403). -/
def State.sendQstate (s : State) (q : Nat) : State :=
  let x := s.queue q
  if x.isLink && s.sessionOf x.origin x.tenant != 0 then s.sendFlit x.origin (qstateFlit (s.sessionOf x.origin x.tenant) q x) else s

/-- Puts a queue into a state; a link-origin queue reports the change (R403). -/
def State.queueTo (s : State) (q : Nat) (st : QState) : State :=
  (s.setQueue q { s.queue q with st := st }).sendQstate q

/-- A queue without its ring translations, once its ring was revoked (cause 2). -/
def Queue.dropRings (x : Queue) (cause : Nat) : Queue := if cause = 2 then { x with sqRing := [], cqRing := [], sqMeta := [], cqMeta := [] } else x

/-- Freezes a queue with a cause: its fetching stops, the QUEUE_FREEZE record is written, the event bits set
(R84, R114, R116, Table 20.5 kind 0x01). A queue whose ring was revoked drops its ring translation, and one that is RESETTING goes on to DISABLED (Table 3.1). -/
def State.freeze (s : State) (q cause : Nat) : State :=
  let x := s.queue q
  if x.st = .resetting then s.setQueue q (x.dropRings cause)
  else
    let s := (s.setQueue q { x.dropRings cause with cause := cause }).queueTo q .frozen
    let s := s.report { kind := 0x01, utype := 1, inst := q, cls := 2, tenant := x.tenant, ctx := errCtx q 0, data := cause }
    let s := s.devEvent 6
    if x.isBound && !x.isLink then s.fnEvent x.fn 0 else s

/-- Counts a refusal in the queue's freeze window and in QE_Q_REFUSED, and freezes the queue when WINCNT reaches
QE_FREEZE_LIMIT (R113, R114). The second answer says whether this refusal froze it. Two choices of the model (DESIGN CHOICE, log entry 99): an
ACTIVE or PAUSED queue freezes, as R114 names no state though Table 3.1 lists a freeze from ACTIVE only; WINCNT stays at 65,535 once there. A limit
written at or below WINCNT freezes the queue at its next refusal (DESIGN CHOICE, log entry 142). -/
def State.refuse (s : State) (q : Nat) : State × Bool :=
  let x := s.queue q
  let s := s.bump F_QE_Q_REFUSED_REFUSED 1 q
  let n := min 65535 (x.winCnt + 1)
  let s := s.setQueue q { x with winCnt := n }
  let lim := s.fld F_QE_FREEZE_LIMIT_LIMIT
  if lim ≠ 0 && decide (lim ≤ n) && (x.st = .active || x.st = .paused) then (s.freeze q 1, true) else (s, false)

/-! ## Fences -/

/-- The largest fence value (R145). -/
def fenceMax : Nat := 0x7FFF_FFFF_FFFF_FFFF

/-- A signal of a fence: written only when the fence is not poisoned and the value is greater; a fence at the maximum
takes none and is counted in FN_SAT_CNT (R139, R140, R145). A signal in the tick of the poison is applied before it (R144). The second answer is SIGNALLED. -/
def State.signalFence (s : State) (f v : Nat) : State × Bool :=
  let x := s.fence f
  if x.value = fenceMax then (s.bump F_FN_SAT_CNT_SAT, false)
  else if (x.poison && x.since != some s.now) || decide (v ≤ x.value) then (s, false)
  else (s.setFence f { x with value := min v fenceMax }, true)

/-- Poisons a fence: bit 63 sets and the value stays (R144). -/
def State.poisonFence (s : State) (f : Nat) : State :=
  let x := s.fence f
  s.setFence f { x with poison := true, since := if x.poison then x.since else some s.now }

/-- A packet wait is satisfied: fence bits [51:0] at or above the value while [62:52] are 0, or any of [62:52] set
(R141). -/
def waitMet (x : Fence) (v : Nat) : Bool := decide (2 ^ 52 ≤ x.value) || decide (v ≤ x.value)

/-- The statuses that neither signal nor poison (R143). -/
def Status.leavesFence : Status → Bool
  | .stale | .busy | .capacity | .moved | .feasibility => true
  | _ => false

/-- What a status after acceptance does to the command's signal fence (R143); the answer is SIGNALLED. -/
def State.signalFor (s : State) (e : Entry) (st : Status) : State × Bool :=
  if !e.signal then (s, false)
  else if st = .ok then s.signalFence e.sigId e.sigVal
  else if st.leavesFence then (s, false)
  else (s.poisonFence e.sigId, false)

/-- The fence that a descriptor waits on: FENCE_WAIT's operand in its own wait, else the packet's. -/
def Desc.awaits (x : Desc) : Nat := if x.ownWait then x.e.opA % 4096 else x.e.waitId

/-- The number of commands that wait on a fence: in their fence wait, or in FENCE_WAIT (FN_F_WAITERS). -/
def State.waiters (s : State) (f : Nat) : Nat :=
  (s.descsWhere (fun x => x.stage == .wait .fence && x.awaits == f)).length

/-- The waiters of a fence that were accepted before this tick: a wait accepted in it counts as arriving after a reset (R146). -/
def State.oldWaiters (s : State) (f : Nat) : Nat :=
  (s.descsWhere (fun x => x.stage == .wait .fence && x.awaits == f && x.tAcc != s.now)).length

/-! ## Completions -/

/-- A CQ slot is free: a ring holds at most one entry fewer than its size (R81). -/
def State.cqRoom (s : State) (q : Nat) : Nat :=
  let x := s.queue q
  let n := s.ringSize q
  n - 1 - (x.cqTail + n - x.cqHead % n) % n

/-- Pending entries of a queue: tail minus head modulo the ring size (R88). -/
def State.pendingOf (s : State) (q : Nat) : Nat :=
  let x := s.queue q
  let n := s.ringSize q
  (x.sqTail + n - x.sqHead % n) % n

/-- The base address of a ring, from its two register words. -/
def State.base (s : State) (lo hi : Fld) (q : Nat) : Nat := s.fld lo q + s.fld hi q * 2 ^ 32

/-- The folios from the one on that holds byte `off` of a ring that begins at a base address, and the byte's place counted from the ring's
first folio. -/
def ringAt (ring : List Nat) (base off : Nat) : List Nat × Nat :=
  (ring.drop ((base % 65536 + off) / 65536), base % 65536 + off)

/-- Whom a queue's ring accesses serve. -/
def Queue.who (x : Queue) (q : Nat) : For := { ctx := errCtx q 0, tenant := x.tenant }

/-- Reads `n` bytes of a ring in tenant folios at a byte offset of the ring; none where a sector does not read well (R116, R346). -/
def State.ringRead (s : State) (ring metas : List Nat) (base off n : Nat) (w : For) : State × Option (List Byte) :=
  let (fs, a) := ringAt ring base off
  let (s, m) := s.readAccess fs (some (ringAt metas base off).1) a n {} w
  (s, if fs.isEmpty || m.status ≠ .ok then none else some (s.readRuns fs a 0 n))

/-- Writes an entry into a ring in tenant folios, at a byte offset of the ring. Its sector is written in part, so a poisoned sector or one whose
tag fails refuses it (R346, R353); the answer says whether it was written. -/
def State.ringWrite (s : State) (ring metas : List Nat) (base off : Nat) (l : List Byte) (w : For) : State × Bool :=
  let (fs, a) := ringAt ring base off
  let (s, m) := s.writeAccess fs (ringAt metas base off).1 a l {} w
  (s, !fs.isEmpty && decide (m.status = .ok))

/-- The COMPLETION flit of the latest uncarried entries of a queue, at most six (R402, Table 12.9); on a link in QUARANTINE only with an entry that
the quarantine ended (R417). -/
def State.sendCompletion (s : State) (q : Nat) : State :=
  let x := s.queue q
  let l := x.uncarried.drop (x.uncarried.length - 6)
  let quar := l.any (fun p => p.2.getD 4 0 == BitVec.ofNat 8 Status.quarantine.code)
  match if s.canCarry x.origin x.tenant quar then l else [] with
  | [] => s
  | (i, _) :: _ =>
    let f : Flit := {
      type := 6, vc := 2, session := s.sessionOf x.origin x.tenant, queue := q,
      body := leBytes 2 i ++ leBytes 2 x.cqTail ++ leBytes 2 l.length ++ [0, 0] ++ (l.map (·.2)).flatten }
    (s.setQueue q { x with uncarried := [], gathered := 0 }).sendMsgs x.origin [[f]] x.cqTail

/-- The notification of a completion without QUIET: the origin's vector, or the link's COMPLETION flit under LCOUNT
and LTIME (R402, R501, R502, R506). -/
def State.notify (s : State) (q : Nat) (quiet : Bool) : State :=
  let x := s.queue q
  if quiet || !x.isBound then s
  else if x.isLink then
    let s := s.setQueue q { x with gathered := x.gathered + 1, gatherAt := if x.gathered = 0 then s.now else x.gatherAt }
    if x.lcount ≤ x.gathered + 1 || x.ltime == 0 then s.sendCompletion q else s
  else s.reportOn x.fn x.vector

/-- The CQ slot at the tail takes an entry: the tail moves, and the phase inverts on each later pass (Table 3.4). -/
def State.cqAdvance (s : State) (q : Nat) (b : List Byte) : State :=
  let x := s.queue q
  let n := s.ringSize q
  let t := (x.cqTail + 1) % n
  let x := { x with cqTail := t, phase := if t = 0 then !x.phase else x.phase }
  s.setQueue q (if x.isLink then { x with uncarried := x.uncarried ++ [((t + n - 1) % n, b)] } else x)

/-- Writes a completion entry to the CQ as one write and moves its tail (R96, Table 3.4). The answer says whether the write was made: it fails
where `fail` says so of a ring in host memory, where the host cannot be written to (R759), and where a ring's sector does not take it (R116).
An entry of a folio ring whose translation was dropped has nowhere to go and is counted as discarded. -/
def State.writeCq (s : State) (q : Nat) (fail : Bool) (tag : Nat) (st : Status) (detail : Nat)
    (signalled accepted froze : Bool) (ts : Nat) (r : Result) : State × Bool :=
  let x := s.queue q
  let b := cqBytes tag st detail x.phase signalled accepted froze ts r
  let base := s.base F_QE_Q_CQBASE_CQBASE_LO F_QE_Q_CQBASE_CQBASE_HI q
  if !s.qInFolios q then
    if fail || s.hostFault.isSome then (s, false)
    else ((s.emit (.hostWrite x.fn (base + x.cqTail * 32) b)).cqAdvance q b, true)
  else if x.cqRing.isEmpty then (s.bump F_QE_Q_REFUSED_REFUSED 1 q, true)
  else match s.ringWrite x.cqRing x.cqMeta base (x.cqTail * 32) b (x.who q) with
    | (s, true) => (s.cqAdvance q b, true)
    | (s, false) => (s, false)

/-- Freezes a queue whose CQ write failed, unless it is frozen or is being reset already (R116). -/
def State.cqFailed (s : State) (q : Nat) : State :=
  if (s.queue q).st = .active || (s.queue q).st = .paused then s.freeze q 3 else s

/-- Writes the completion of an entry that has no descriptor, or keeps it when the write fails (R116). -/
def State.completeEntry (s : State) (q : Nat) (k : KeptCq) : State :=
  match s.writeCq q false k.tag k.st k.detail false false k.froze k.ts k.res with
  | (s, true) => s.notify q k.quiet
  | (s, false) =>
    let s := s.cqFailed q
    s.setQueue q { s.queue q with keptCq := (s.queue q).keptCq ++ [k] }

/-- Completes an entry that received no descriptor: no fence is touched (R115). A refusal of R113 is counted in the
freeze window first, and the completion carries FROZE when it froze the queue (R114). -/
def State.refuseEntry (s : State) (q : Nat) (e : Entry) (st : Status) (step : Nat) (counted : Bool)
    (res : Result := {}) : State :=
  let (s, froze) := if counted then s.refuse q else (s, false)
  s.completeEntry q { tag := e.tag, st := st, detail := step, froze := froze, ts := s.now, res := res, quiet := e.quiet }

/-- Writes completions of entries without descriptors while the CQ has room; each beyond it, and each whose write fails, is discarded and
counted (R79, R116). -/
def State.flushKept (s : State) (q : Nat) : List KeptCq → State
  | [] => s
  | k :: l =>
    let (t, ok) := s.writeCq q false k.tag k.st k.detail false false k.froze k.ts k.res
    (if s.cqRoom q = 0 then s.bump F_QE_Q_REFUSED_REFUSED 1 q
      else if ok then t.notify q k.quiet
      else t.bump F_QE_Q_REFUSED_REFUSED 1 q).flushKept q l

/-- What is done once a command's status is final and before its CQ write: its signal fence, unless it was refused (R115), and FN_STALE_CNT (R96, R156). The answer is
SIGNALLED; what was done before a CQ write that failed is not done again. -/
def State.settle (s : State) (x : Desc) : State × Bool :=
  match x.signalled with
  | some b => (s, b)
  | none => if x.refused.isSome then (s, false) else (if x.status = .stale then s.bump F_FN_STALE_CNT_STALE else s).signalFor x.e x.status

/-- Completes a descriptor whose status is final: signal fence first, then the CQ entry, then the notification; then
its descriptor and translation are released (R96, R97, R143). With no CQ room, as a RESET may find it, the completion
is discarded and counted (R79). A write that fails (`fail` says so of a ring in host memory) freezes the queue and leaves the completion with
its descriptor while `keep`; a RESET discards it then, counted (R116). -/
def State.completeBy (s : State) (d : Nat) (fail keep : Bool) : State :=
  match s.desc? d with
  | none => s
  | some x =>
    let (s, sig) := s.settle x
    if s.cqRoom x.q = 0 then (s.bump F_QE_Q_REFUSED_REFUSED 1 x.q).freeDesc d
    else match s.writeCq x.q fail x.e.tag x.status x.detail sig x.refused.isNone (x.refused.getD false) x.tEnd x.res with
      | (s, true) => (s.notify x.q x.e.quiet).freeDesc d
      | (s, false) =>
        if keep then (s.cqFailed x.q).setDesc d { x with kept := true, signalled := some sig }
        else (s.bump F_QE_Q_REFUSED_REFUSED 1 x.q).freeDesc d

/-- Completes a descriptor of a queue that is reset (R78, R79, R116). -/
def State.completeDesc (s : State) (d : Nat) : State := s.completeBy d false false

/-- Releases a descriptor without a completion, as a function, host-port or tenant reset does: the signal fence of an aborted command is poisoned,
one whose status was final has the effect that its status gives, and the discarded completion is counted (R508). An E_STALE that is discarded
counts in FN_STALE_CNT here as at a RESET without CQ room (DESIGN CHOICE, log entry 138). -/
def State.discardDesc (s : State) (d : Nat) : State :=
  match s.desc? d with
  | none => s
  | some x =>
    let s := if x.stage = .done then (s.settle x).1 else if x.e.signal then s.poisonFence x.e.sigId else s
    (s.bump F_QE_Q_REFUSED_REFUSED 1 x.q).freeDesc d

/-- A check of Table 2.4 fails once the pulled request of a link-origin command is known: the command ends E_PARAM with that step, as an entry
refused there does, counted at step 3 (R113; DESIGN CHOICE, log entry 116). -/
def State.refuseLate (s : State) (d step : Nat) (res : Result := {}) : State :=
  let (s, froze) := if step ≤ 3 then s.refuse (s.desc d).q else (s, false)
  let s := s.finish d .param res step
  s.setDesc d { s.desc d with refused := some froze }

/-- A function sends no memory request (R452). -/
def State.fnSilent (s : State) (fn : Nat) : Bool := !(s.hostFn fn).bme || (s.hostFn fn).d3

/-- Host memory cannot be reached for a queue now: its function sends no memory request (R452). -/
def State.noHost (s : State) (q : Nat) : Bool :=
  let x := s.queue q
  x.isBound && !x.isLink && s.fnSilent x.fn

/-- The device asks for `n` bytes of host memory for a queue: the request goes out untranslated, with the function of the queue (R451). -/
def State.askHost (s : State) (q addr n : Nat) : State :=
  if n = 0 || (s.queue q).isLink then s else s.emit (.hostRead (s.queue q).fn addr n)

/-- A sweep over descriptors. -/
def State.sweep (s : State) (f : State → Nat → State) : List Nat → State
  | [] => s
  | d :: t => (f s d).sweep f t

/-- The descriptors of a queue, lowest number first. -/
def State.descsOf (s : State) (q : Nat) : List Nat := s.descsWhere (fun x => x.q == q)

end Sys2Proof.Machine
end

