-- ==== Sys2Proof/Machine/Layout.lean ====
section
/-!
DEFINITION. Layout descriptors: the 64 bytes, the sizes they fix, the checks of Table 8.2 and the places of vectors
(Layout Projection).
-/
namespace Sys2Proof.Machine

/-- The layout descriptor that 64 bytes spell (Table 8.1). -/
def Layout.ofBytes (l : List Byte) : Layout :=
  let a := leAt l 0 4
  let b := leAt l 4 4
  let h := leAt l 0x20 32
  { prec := bits a 0 4, hdim := bits a 4 2, axis := bits a 6 1, split := bits a 7 1, heads := bits a 8 7,
    layers := bits a 16 9, smode := bits a 25 2, tpf := bits b 0 12, shards := bits b 16 5, reps := bits b 24 5,
    ks := leAt l 8 4, vs := leAt l 12 4, sref := leAt l 16 8,
    headMap := (List.range 64).map (fun i => bits h (4 * i) 4),
    rsv := bits a 15 1 != 0 || bits a 27 5 != 0 || bits b 12 4 != 0 || bits b 21 3 != 0 || bits b 29 3 != 0 ||
      leAt l 24 8 != 0 }

/-- The elements of a vector (Table 8.1, HDIM). -/
def Layout.dim (y : Layout) : Nat := 64 * 2 ^ y.hdim

/-- The element width of a format code (Table 8.3). -/
def elemWidth (p : Nat) : Nat :=
  if p ≤ 1 then 16 else if p = 6 || p = 7 then 6 else if p = 8 then 4 else 8

/-- A Microscaling format (codes 4 to 9). -/
def isMx (p : Nat) : Bool := decide (4 ≤ p) && decide (p ≤ 9)

/-- The bytes of a vector (R260, Table 8.3). -/
def vecBytes (prec dim : Nat) : Nat := elemWidth prec * dim / 8 + if isMx prec then dim / 32 else 0

/-- The bytes of a vector of a layout. -/
def Layout.vb (y : Layout) : Nat := vecBytes y.prec y.dim

/-- The first and last element that byte `k` of a vector bears on: those it holds, or the block whose scale it is (R260). -/
def elemsOf (prec dim k : Nat) : Nat × Nat :=
  let w := elemWidth prec
  if k < w * dim / 8 then (k * 8 / w, (k * 8 + 7) / w) else (32 * (k - w * dim / 8), 32 * (k - w * dim / 8) + 31)

/-- The first byte in format `q` of what byte `k` of a vector in format `p` holds. -/
def firstByte (p q dim k : Nat) : Nat := (elemsOf p dim k).1 * elemWidth q / 8

/-- The bytes of a vector in format `q`, as runs, that bear on byte `k` of it in format `p`: those of its elements, in a Microscaling format of
their whole blocks with the scales (R268). -/
def bearing (p q dim k : Nat) : List (Nat × Nat) :=
  let e := elemsOf p dim k
  let e := if isMx p || isMx q then (e.1 / 32 * 32, e.2 / 32 * 32 + 31) else e
  let w := elemWidth q
  (e.1 * w / 8, ((e.2 + 1) * w - 1) / 8 + 1 - e.1 * w / 8) :: (if isMx q then [(w * dim / 8 + e.1 / 32, e.2 / 32 + 1 - e.1 / 32)] else [])

/-- The groups of a client layout (R264). -/
def Layout.groups (y : Layout) : Nat := y.shards / max 1 y.reps

/-- The group of a head (R264). -/
def Layout.group (y : Layout) (h : Nat) : Nat := y.headMap.getD h 0

/-- The heads of a shard, in ascending order (R264). -/
def Layout.headsOf (y : Layout) (shard : Nat) : List Nat :=
  (List.range y.heads).filter (fun h => y.group h == shard / max 1 y.reps)

/-- The byte offset of a vector in a region of `t` tokens and `hs` heads (R261, Table 8.4). -/
def Layout.vecOff (y : Layout) (t hs n h c : Nat) : Nat :=
  (if y.axis = 0 then
    if y.split = 0 then (n * hs + h) * 2 + c else c * t * hs + n * hs + h
  else if y.split = 0 then (h * t + n) * 2 + c else c * hs * t + h * t + n) * y.vb

/-- An FP32 code is finite and greater than 0. -/
def fp32Pos (v : Nat) : Bool := decide (0 < v) && decide (v < 0x7F80_0000)

/-- A power of two from 1 to 16. -/
def isPow2 (n : Nat) : Bool := n == 1 || n == 2 || n == 4 || n == 8 || n == 16

/-- The FP32 entries of a scale table, as read (R276). -/
def scaleEntries (t : List Byte) (n : Nat) : List Nat := (List.range n).map (fun i => leAt t (4 * i) 4)

/-- The number of the first check of Table 8.2 that refuses a descriptor, 0 when none does. `stored` is the stored
layout that a client layout is compared with; `table` the scale table of mode 2, which R276 gives a STREAM_OPEN and a publish: with none, as at
STREAM_RESUME, check 5 finds it unreadable. -/
def Layout.check (y : Layout) (stored : Option Layout) (table : List Byte) : Nat :=
  if y.rsv then 1
  else if 10 ≤ y.prec || y.hdim = 3 || y.smode = 3 then 2
  else if y.heads = 0 || 64 < y.heads || y.layers = 0 || 256 < y.layers then 3
  else if y.smode = 1 && !(fp32Pos y.ks && fp32Pos y.vs) then 4
  else if y.smode ≠ 1 && (y.ks ≠ 0 || y.vs ≠ 0) then 4
  else if y.smode = 2 && !(scaleEntries table (2 * y.layers * y.heads)).all fp32Pos then 5
  else match stored with
    | none =>
      if y.tpf = 0 || 65536 < y.tpf * y.heads * 2 * y.vb then 6
      else if y.shards ≠ 1 || y.reps ≠ 1 || !y.headMap.all (· == 0) then 7
      else 0
    | some z =>
      if y.tpf ≠ 0 then 8
      else if y.smode = 2 then 9
      else if y.heads ≠ z.heads || y.layers ≠ z.layers || y.hdim ≠ z.hdim then 10
      else if y.shards = 0 || 16 < y.shards || !isPow2 y.reps || y.shards % y.reps ≠ 0 then 11
      else if !(List.range 64).all (fun h => if h < y.heads then decide (y.group h < y.groups) else y.group h == 0) then 12
      else if !(List.range y.groups).all (fun g => (List.range y.heads).any (fun h => y.group h == g)) then 13
      else 0

/-- The canonical form of a descriptor: a mode-2 reference becomes the first 8 bytes of the table's SHA-256 digest (R277). -/
def Layout.canon (y : Layout) (table : List Byte) : Layout :=
  if y.smode = 2 then { y with sref := leNat ((sha256 table).take 8) } else y

/-- The stored scale of a layer, head and component: unit, inline, or the table's entry (R267). -/
def Layout.scale (y : Layout) (table : List Nat) (l h c : Nat) : Nat :=
  if y.smode = 0 then 0x3F80_0000
  else if y.smode = 1 then (if c = 0 then y.ks else y.vs)
  else table.getD ((l * y.heads + h) * 2 + c) 0

/-- The bytes of a client buffer of `n` tokens (R263). -/
def Layout.bufBytes (c : Layout) (shard n : Nat) : Nat := n * (c.headsOf shard).length * 2 * c.vb

/-! ## What APPEND_KV and GATHER_KV name (Table 4.2) -/

/-- The slot, 1 to 3. -/
def Entry.slot (e : Entry) : Nat := bits e.opA 20 2

/-- The shard. -/
def Entry.shard (e : Entry) : Nat := bits e.opA 22 4

/-- The client layout that a command names: of a slot set since its acceptance, the layout before (R278). -/
def State.clientLayout (s : State) (x : Desc) : Layout :=
  let y := s.stream (x.strm.getD 0)
  match kvGet (0, {}) y.was x.e.slot with
  | (n, old) => if x.seq < n then old else kvGet {} y.slots x.e.slot

end Sys2Proof.Machine
end

