-- ==== Sys2Proof/Machine/Access.lean ====
section
/-!
DEFINITION. What a command takes in and returns: data pulled over its link, data returned to a host or over a link, and the beginning of its
operation (Queues and Command Packets; Gweusk Links).
-/
namespace Sys2Proof.Machine

/-! ## Output to a host or over a link -/

/-- The command returns data over its link. -/
def Entry.returns (e : Entry) : Bool :=
  e.opcode == 0x21 || e.opcode == 0x24 ||
    ((e.opcode == 0x40 || e.opcode == 0x41 || e.opcode == 0x43 || e.opcode == 0x50) && !e.flag 9)

/-- The session that a queue's traffic uses has a slot that retires (R569). -/
def State.sessionRetiring (s : State) (l t : Nat) : Bool :=
  let i := s.sessionOf l t
  i != 0 && (s.slot ((kvGet {} (s.link l).sessions i).handle % 2048)).st == .retiring

/-- Ends a command that returns data: to a host address the bytes are written and the command completes, once its function
may send requests (R452, R759); over a link they
travel as DATA flits and the completion waits for their acknowledgement (R400, R401), or the command waits for its link
or its XTAG first (R400, R414); through a session whose key retires it ends E_RETIRED (R569). -/
def State.returnData (s : State) (d addr : Nat) (b : List Byte) (res : Result) (st : Status := .ok) : State :=
  let x := s.desc d
  let y := s.queue x.outQ
  if y.isLink then
    let x := { x with data := b, res := res, status := st }
    if s.sessionRetiring y.origin y.tenant then s.finish d .retired
    else if s.linkReady y.origin y.tenant && !s.dataUnacked y.origin x.outQ x.xtag then
      let s := s.setDesc d (x.to s.now (.wait .dataOut))
      s.sendData y.origin (s.sessionOf y.origin y.tenant) x.outQ x.xtag b
    else s.setDesc d (x.to s.now (.wait .linkOut))
  else if s.noHost x.q then
    s.setDesc d (({ x with data := b, res := res, status := st } : Desc).to s.now (.wait .linkOut))
  else match s.hostFault with
    | some c => s.finish d .aborted {} c
    | none => (s.emit (.hostWrite y.fn addr b)).finish d st res

/-- Sends the PULL flits of waiting pulls, oldest first, while fewer than 64 are outstanding on the link (R399, R411). -/
def State.pumpPulls (s : State) (l : Nat) : Nat → State
  | 0 => s
  | n + 1 =>
    let x := s.link l
    if 64 ≤ (x.pulls.filter (·.asked)).length then s
    else match x.pulls.find? (fun p => !p.asked) with
    | none => s
    | some p =>
      let t := (s.queue p.queue).tenant
      let s := s.setLink l { x with pulls := x.pulls.map (fun (r : Pull) => if r == p then { r with asked := true } else r) }
      let f : Flit := {
        type := 4, session := s.sessionOf l t, queue := p.queue, xtag := p.xtag,
        body := leBytes 4 p.off ++ leBytes 4 p.count }
      (s.sendFlit l f).pumpPulls l n

/-- Pulls the `n` bytes that a command takes from its link (R399), or waits for the link or for its XTAG (R400, R414). One PULL asks for at
most 1 MiB; the pulls go out in offset order. -/
def State.pullData (s : State) (d n : Nat) : State :=
  let x := s.desc d
  let y := s.queue x.q
  if s.sessionRetiring y.origin y.tenant then s.finish d .retired
  else if s.linkReady y.origin y.tenant && !(s.link y.origin).pulls.any (fun r => r.queue == x.q && r.xtag == x.xtag) then
    let ps := (List.range (ceilDiv n 1048576)).map (fun i =>
      ({ d := d, queue := x.q, xtag := x.xtag, off := i * 1048576, count := min 1048576 (n - i * 1048576) } : Pull))
    let s := s.setDesc d (({ x with data := [] } : Desc).to s.now (.wait .dataIn))
    let s := s.setLink y.origin { s.link y.origin with pulls := (s.link y.origin).pulls ++ ps }
    s.pumpPulls y.origin ps.length
  else s.stage d (.wait .link)

/-- The bytes that a command takes from its link: a client buffer for APPEND_KV, otherwise LENGTH bytes. -/
def State.pullBytes (s : State) (x : Desc) : Nat :=
  if x.e.opcode = 0x23 then (s.clientLayout x).bufBytes x.e.shard x.e.len else x.e.len

/-- The fence wait of a PLACE has ended: its place among its tenant's (R289), which a wait for link resources leaves. -/
def State.noteTurn (s : State) (d : Nat) : State :=
  let x := s.desc d
  if x.e.opcode = 0x50 && x.stage != .wait .link then { s.setDesc d { x with aux := s.pl.order } with pl := { s.pl with order := s.pl.order + 1 } } else s

/-- A command past its fence wait: one that takes data from its link pulls it first, any other may run (R92, R399, R414). -/
def State.begin_ (s : State) (d : Nat) : State :=
  let s := s.noteTurn d
  let x := s.desc d
  if x.e.pulls && (s.queue x.q).isLink then s.pullData d (s.pullBytes x) else s.stage d .ready

/-- The last pull of a command has ended: data bound for tenant sectors keeps its poison; a request is what its data spells, and a
poisoned one ends the command (Table 11.2). -/
def State.pullDone (s : State) (d : Nat) : State :=
  let x := s.desc d
  if x.e.opcode = 0x20 || x.e.opcode = 0x23 then s.stage d .ready
  else if !x.bad.isEmpty then s.finish d .poison
  else s.setDesc d (({ x with blk := x.data, data := [] } : Desc).to s.now .ready)

/-- The host or link address at which a command returns its data. -/
def Entry.outAddr (e : Entry) : Nat :=
  if e.opcode = 0x40 || e.opcode = 0x41 || e.opcode = 0x43 || e.opcode = 0x50 then bits e.spec 64 64 else e.opB

/-- A command that waits to return its data tries again (R414, R452). -/
def State.resumeOut (s : State) (d : Nat) : State :=
  let x := s.desc d
  if x.stage = .wait .linkOut then s.returnData d x.e.outAddr x.data x.res x.status else s

end Sys2Proof.Machine
end

