-- ==== Sys2Proof/Machine/CatalogOps.lean ====
section
/-!
DEFINITION. The catalog's shared operations: scopes, handles, references, the index table with its eviction, segment
records (The Prefix Catalog).
-/
namespace Sys2Proof.Machine

/-- A tenant's scope: its share group, or itself when it is in group 0 (R159). -/
def State.scopeOf (s : State) (t : Nat) : Scope :=
  let g := s.fld F_TN_T_STATUS_SHARE_GROUP t
  if g = 0 then .private_ t else .group g

/-- The share group that a scope is counted against: group 0 for a private scope (R189). -/
def Scope.groupNo : Scope → Nat
  | .group g => g
  | .private_ _ => 0

/-- A scope as a number: SCOPE in [9:0] with PRIVATE in bit 15, as FWD messages carry it (Table 13.4). -/
def Scope.num : Scope → Nat
  | .group g => g
  | .private_ t => t + 0x8000

/-- The scope that the number spells. -/
def Scope.ofNum (n : Nat) : Scope := if bit n 15 then .private_ (n % 1024) else .group (n % 1024)

/-- The record index, owner member and generation of a handle; `none` when a reserved bit is set (R161). -/
def handleParts (h : Nat) : Option (Nat × Nat × Nat) :=
  if bits h 30 2 ≠ 0 || bits h 48 16 ≠ 0 then none else some (bits h 0 25, bits h 25 5, bits h 32 16)

/-- The handle of a record (R161). -/
def mkHandle (idx member gen : Nat) : Nat := idx + member * 2 ^ 25 + gen * 2 ^ 32

/-- A segment record. -/
def State.seg (s : State) (i : Nat) : SegRec := kvGet {} s.ct.segs i

/-- Replaces a segment record. -/
def State.setSeg (s : State) (i : Nat) (r : SegRec) : State :=
  { s with ct := { s.ct with segs := kvPut {} s.ct.segs i r } }

/-- The record index that a handle names on this device: it names the owner member the record was made under and its
current generation (R160, R161). -/
def State.handleIdx (s : State) (h : Nat) : Option Nat :=
  match handleParts h with
  | some (i, m, g) => if (s.seg i).live && m == (s.seg i).owner && (s.seg i).gen == g then some i else none
  | none => none

/-- The key of a tenant's ledger record. -/
def ledgerKey (t i : Nat) : Nat := t * 2 ^ 25 + i

/-- The references of a tenant on a record in the ledger (R168). -/
def State.ledger (s : State) (t i : Nat) : Nat := kvGet 0 s.ct.ledger (ledgerKey t i)

/-- Sets a ledger record; a count of 0 frees it. -/
def State.setLedger (s : State) (t i n : Nat) : State :=
  { s with ct := { s.ct with ledger := kvPut 0 s.ct.ledger (ledgerKey t i) n } }

/-- Free ledger records of the 8,388,608 (CT_LEDGER_FREE). -/
def State.ledgerFree (s : State) : Nat := 8388608 - s.ct.ledger.length

/-- Marks folios published once more, or once less (R165, R174). -/
def State.markPub (s : State) (up : Bool) : List Nat → State
  | [] => s
  | f :: l =>
    let o := s.owner f
    (s.setOwner f { o with pub := if up then o.pub + 1 else o.pub - 1 }).markPub up l

/-- Frees a segment record whose entry has been removed and whose count is 0: its marks clear, its generation advances
(R174). A record whose entry is still to be inserted stays. A record that cannot be read is freed at count 0 with its entry (Table 20.6 code 5). -/
def State.tryFreeSeg (s : State) (i : Nat) : State :=
  let r := s.seg i
  if r.live && ((!r.inIndex && !r.making) || r.bad) && r.refs == 0 then
    let h := mkHandle i r.owner r.gen
    let s := if r.bad then { s with ct := { s.ct with
        index := s.ct.index.filter (fun p => p.2.handle != h), stash := s.ct.stash.filter (fun e => e.handle != h) } }
      else s
    (s.markPub false r.dfns).setSeg i { gen := (r.gen + 1) % 65536 }
  else s

/-- Tells the member that holds a record's index entry whether the record is idle (R430). -/
def State.refState (s : State) (i : Nat) (refused : Bool) : State :=
  let r := s.seg i
  if r.live && r.inIndex && r.inserter != s.me && decide (s.cn.st = .member) then
    s.sendFwd none 0 r.inserter 4 r.scope.num false r.hash
      (leBytes 8 (mkHandle i r.owner r.gen) ++ [BitVec.ofNat 8 (b2n (r.refs == 0) + 2 * b2n refused)])
  else s

/-- Takes references of a record (R168); a count that leaves 0 is reported (R430). -/
def State.addRefs (s : State) (i n : Nat) : State :=
  let r := s.seg i
  let s := s.setSeg i { r with refs := r.refs + n }
  if r.refs = 0 && decide (0 < n) then s.refState i false else s

/-! ## The index -/

/-- The first candidate bucket of a key. -/
def bucket1 (hash : Nat) : Nat := bits hash 0 23

/-- The second candidate bucket of a key. -/
def bucket2 (hash : Nat) (sc : Scope) : Nat := (bits hash 23 23 ^^^ sc.num) % 2 ^ 23

/-- The candidate slots of a key, in order. -/
def candidates (hash : Nat) (sc : Scope) : List Nat :=
  (List.range 4).map (fun i => bucket1 hash * 4 + i) ++ (List.range 4).map (fun i => bucket2 hash sc * 4 + i)

/-- An index entry has a key. -/
def IndexEntry.keyed (e : IndexEntry) (hash : Nat) (sc : Scope) : Bool := e.hash == hash && decide (e.scope = sc)

/-- The entry of a key: in the table or in the stash (R159). -/
def State.findEntry (s : State) (hash : Nat) (sc : Scope) : Option IndexEntry :=
  match s.ct.index.find? (fun p => p.2.keyed hash sc) with
  | some p => some p.2
  | none => s.ct.stash.find? (fun e => e.keyed hash sc)

/-- All entries of this member. -/
def State.entries (s : State) : List IndexEntry := s.ct.index.map (·.2) ++ s.ct.stash

/-- Changes the entry of a key in place. -/
def State.editEntry (s : State) (hash : Nat) (sc : Scope) (f : IndexEntry → IndexEntry) : State :=
  { s with ct := { s.ct with
      index := s.ct.index.map (fun p => if p.2.keyed hash sc then (p.1, f p.2) else p)
      stash := s.ct.stash.map (fun e => if e.keyed hash sc then f e else e) } }

/-- Takes the entries that satisfy a test out of the index, the stash and the hot-entry cache. -/
def State.cutEntries (s : State) (p : IndexEntry → Bool) : State :=
  let gone := (s.entries.filter p).map (·.hash)
  { s with ct := { s.ct with
      index := s.ct.index.filter (fun x => !p x.2)
      stash := s.ct.stash.filter (fun e => !p e)
      hot := s.ct.hot.filter (fun h => !inSet gone h) } }

/-- The records of removed entries that this member owns lose their entry and are freed at count 0 (R173, R174). -/
def State.unindex (s : State) : List IndexEntry → State
  | [] => s
  | e :: l =>
    (match s.handleIdx e.handle with
      | some i => (s.setSeg i { s.seg i with inIndex := false }).tryFreeSeg i
      | none => s).unindex l

/-- Removes the entries that satisfy a test (R173). -/
def State.removeEntries (s : State) (p : IndexEntry → Bool) : State :=
  let l := s.entries.filter p
  (s.cutEntries p).unindex l

/-- The entries of a share group's scopes on this member (CT_G_COUNT). -/
def State.groupCount (s : State) (g : Nat) : Nat := (s.entries.filter (fun e => e.scope.groupNo == g)).length

/-- The HOLD entries of a share group (CT_G_HOLD). -/
def State.holdCount (s : State) (g : Nat) : Nat :=
  (s.entries.filter (fun e => e.scope.groupNo == g && e.hint == 3)).length

/-- An entry has reference count 0 as this member knows it: its own record's count, or the idle mark of an entry
whose record another member owns (R175, R430). -/
def State.unreferenced (s : State) (e : IndexEntry) : Bool :=
  match s.handleIdx e.handle with
  | some i => (s.seg i).refs == 0
  | none => e.owner != s.me && e.idle && !e.pending

/-- How far a scope's group stands above its reservation. -/
def State.above (s : State) (e : IndexEntry) : Nat :=
  s.groupCount e.scope.groupNo - s.fld F_CT_G_RESERVE_RESERVE e.scope.groupNo

/-- An insert of scope `sc` may evict an entry (R175). -/
def State.evictable (s : State) (sc : Scope) (e : IndexEntry) : Bool :=
  e.hint != 3 && s.unreferenced e && (decide (e.scope = sc) || decide (0 < s.above e))

/-- The order of eviction: lowest hint class, then furthest above the reservation, then least recently hit (R175). -/
def State.evictBefore (s : State) (a b : IndexEntry) : Bool :=
  decide (a.hint < b.hint) || (a.hint == b.hint &&
    (decide (s.above b < s.above a) || (s.above a == s.above b && decide (a.hit < b.hit))))

/-- The candidate slot to evict from, with its entry. -/
def State.victim (s : State) (sc : Scope) (slots : List Nat) : Option (Nat × IndexEntry) :=
  (s.ct.index.filter (fun p => inSet slots p.1 && s.evictable sc p.2)).foldl
    (fun acc p => match acc with
      | none => some p
      | some a => if s.evictBefore p.2 a.2 then some p else some a) none

/-- Places an entry in a slot of the table. -/
def State.putSlot (s : State) (slot : Nat) (e : IndexEntry) : State :=
  { s with ct := { s.ct with index := kvInsert s.ct.index slot e } }

/-- Inserts an entry: a free candidate slot, else the eviction of R175, else the stash; `none` when the stash is full. -/
def State.insertEntry (s : State) (e : IndexEntry) : Option State :=
  let slots := candidates e.hash e.scope
  match slots.find? (fun k => !(s.ct.index.any (fun p => p.1 == k))) with
  | some k => some (s.putSlot k e)
  | none =>
    match s.victim e.scope slots with
    | some (k, v) =>
      let s := (s.removeEntries (fun x => x.keyed v.hash v.scope)).bump F_CT_EVICT_CNT_EVICT
      some (s.putSlot k e)
    | none =>
      if s.ct.stash.length < 4096 then some { s with ct := { s.ct with stash := s.ct.stash ++ [e] } } else none

/-- Withdraws the index entry of a record that this member owns: here, or at the member whose index holds it (R173, R177). -/
def State.withdrawSeg (s : State) (i : Nat) : State :=
  let r := s.seg i
  let h := mkHandle i r.owner r.gen
  if r.inserter = s.me then s.removeEntries (fun e => e.keyed r.hash r.scope && e.handle == h)
  else
    ((s.sendFwd none 0 r.inserter 3 r.scope.num false r.hash (leBytes 8 h)).setSeg i { r with inIndex := false }).tryFreeSeg i

/-- A record's entry is to be removed because its count is 0 and the publisher has freed every one of its DFNs (R173). -/
def State.orphaned (s : State) (r : SegRec) : Bool :=
  r.live && r.inIndex && r.refs == 0 && r.dfns.all (fun f => decide ((s.owner f).st = .releasing))

/-- Removes the entry of a record where R173 asks for it. -/
def State.dropOrphan (s : State) (i : Nat) : State := if s.orphaned (s.seg i) then s.withdrawSeg i else s

/-- Folios have been freed: the entries whose count is 0 and whose folios the publisher has all freed are removed (R173). -/
def State.catalogFreed (s : State) : State := (s.ct.segs.map (·.1)).foldl State.dropOrphan s

/-- Gives back references of a record; a count that reaches 0 is reported, the entry of a record whose folios are all freed is removed, and
with the entry removed the record is freed (R173, R174, R430). -/
def State.dropRefs (s : State) (i n : Nat) : State :=
  let r := s.seg i
  let s := s.setSeg i { r with refs := r.refs - n }
  ((if r.refs ≤ n && decide (0 < r.refs) then s.refState i false else s).dropOrphan i).tryFreeSeg i

/-- Gives back the references that a stream holds. -/
def State.dropSegs (s : State) : List Nat → State
  | [] => s
  | h :: l => (match s.handleIdx h with | some i => s.dropRefs i 1 | none => s).dropSegs l

/-- A hit refreshes the entry's recency and its place in the hot-entry cache. -/
def State.touchEntry (s : State) (hash : Nat) (sc : Scope) : State :=
  let c := s.ct.clock + 1
  let s := s.editEntry hash sc (fun e => { e with hit := c })
  { s with ct := { s.ct with clock := c, hot := (hash :: s.ct.hot.filter (fun h => h != hash)).take 65536 } }

/-- A tenant takes one ledger reference on a record, if a ledger record and the count allow it (R168, R171, R190). -/
def State.takeRef (s : State) (t i : Nat) : State × Bool :=
  let n := s.ledger t i
  if (s.seg i).refs = 0xFFFF_FFFF || (n == 0 && s.ledgerFree == 0) then (s, false)
  else ((s.setLedger t i (n + 1)).addRefs i 1, true)

/-- The lowest record index that is not live. -/
def State.freshSeg (s : State) : Option Nat := firstFrom (fun i => !(s.seg i).live) 33554432 0

end Sys2Proof.Machine
end

