-- ==== Sys2Proof/Machine/Catalog.lean ====
section
/-!
DEFINITION. The catalog commands: CATALOG_LOOKUP, CATALOG_PUBLISH, CATALOG_RELEASE, CATALOG_HINT, the answers of forwarded
requests and their timeout (The Prefix Catalog). Requests from other members are in Constellation.
-/
namespace Sys2Proof.Machine

/-! ## Lookups -/

/-- The records of a lookup in progress. -/
def State.records (s : State) (d : Nat) : List (Option LookupRec) := kvGet [] s.ct.lookups d

/-- Sets record `i` of a lookup. -/
def State.setRecord (s : State) (d i : Nat) (r : LookupRec) : State :=
  { s with ct := { s.ct with lookups := kvPut [] s.ct.lookups d ((s.records d).set i (some r)) } }

/-- The shard of a hash (R178). -/
def shardOf (hash : Nat) : Nat := bits hash 120 8

/-- Counts a hit or a miss of a share group (CT_G_HITS, CT_G_MISSES). -/
def State.countLookup (s : State) (sc : Scope) (hit : Bool) : State :=
  if hit then s.bump F_CT_G_HITS_HITS 1 sc.groupNo else s.bump F_CT_G_MISSES_MISSES 1 sc.groupNo

/-- The record fields that an entry gives (Table 5.4). -/
def IndexEntry.toRecord (e : IndexEntry) : LookupRec :=
  { member := e.owner, group := e.scope.groupNo, hint := e.hint, tokens := e.tokens, layers := e.layers,
    handle := e.handle }

/-- The record of an entry that a lookup of tenant `t` found: a reference when this device owns the segment, unless NOREF
is set or no further reference can be taken; HIT_REMOTE when another member owns it (R168, R169, R171). With the command's NOREF flag the record
reads HIT: no rule says whether it reads HIT or NOREF (DESIGN CHOICE, log entry 106). A hit whose segment record is gone by now reads NOREF (DESIGN
CHOICE, log entry 145). -/
def State.hitRecord (s : State) (t : Nat) (noref : Bool) (r : LookupRec) : State × LookupRec :=
  if r.member ≠ s.me then (s, { r with status := 2 })
  else match s.handleIdx r.handle with
    | none => (s, { r with status := 3 })
    | some i =>
      if noref then (s, { r with status := 0 })
      else
        let (s, ok) := (s.metaAccess (s.segSec i) true).takeRef t i
        (s, { r with status := if ok then 0 else 3, took := ok })

/-- A hash answered on this member (R159, R182). -/
def State.lookupLocal (s : State) (t : Nat) (noref : Bool) (hash : Nat) : State × LookupRec :=
  let sc := s.scopeOf t
  let s := if inSet s.ct.hot hash then s else s.metaReads [s.bucketSec (bucket1 hash), s.bucketSec (bucket2 hash sc)]
  match s.findEntry hash sc with
  | none => (s.countLookup sc false, { status := 1 })
  | some e => ((s.countLookup sc true).touchEntry hash sc).hitRecord t noref e.toRecord

/-- A forward of hash `i` of a lookup is outstanding. -/
def State.isForwarded (s : State) (d i : Nat) : Bool :=
  s.ct.fwd.any (fun f => f.d == some d && f.idx == i)

/-- With STOP_AT_MISS, what the records before hash `i` say: a stop (R184), or a hash not answered yet. -/
def stopState (rs : List (Option LookupRec)) (i : Nat) : Bool × Bool :=
  ((rs.take i).any (fun r => match r with
    | some r => r.status == 1 || r.status == 4 || r.status == 5 || r.status == 6
    | none => false), (rs.take i).any (fun r => r.isNone))

/-- With FIXED_LAT set, an answer of this member more than 6.5 µs after its lookup began, as one that waited for another member's with STOP_AT_MISS,
is counted (R183); `aux` of the command is the time it began. -/
def State.countLater (s : State) (x : Desc) : State :=
  if s.fld F_CT_CFG_FIXED_LAT = 1 && decide (x.aux + 6500 < s.now) then s.bump F_CT_LATE_CNT_LATE else s

/-- Answers or forwards the hashes of a lookup from the `i`-th on (R179, R184). -/
def State.lookupGo (s : State) (d : Nat) : Nat → Nat → State
  | 0, _ => s
  | n + 1, i =>
    let x := s.desc d
    let rs := s.records d
    let (stopped, waits) := if x.e.flag 10 then stopState rs i else (false, false)
    let hash := x.list.getD i 0
    if ((rs.getD i none).isSome) || s.isForwarded d i then s.lookupGo d n (i + 1)
    else if stopped then (s.setRecord d i { status := 6 }).lookupGo d n (i + 1)
    else if waits then s
    else
      let m := s.shardOwner (shardOf hash)
      if m = s.me then
        let (s, r) := (s.countLater x).lookupLocal x.e.tenant (x.e.flag 9) hash
        (s.setRecord d i r).lookupGo d n (i + 1)
      else
        (s.sendFwd (some d) i m 1 (s.scopeOf x.e.tenant).num (x.e.flag 9) hash []).lookupGo d n (i + 1)

/-- The 16 bytes of a record (Table 5.4). -/
def LookupRec.bytes (r : LookupRec) : List Byte :=
  leBytes 1 r.status ++ leBytes 1 r.member ++ leBytes 1 r.group ++ leBytes 1 r.hint ++ leBytes 2 r.tokens ++
    leBytes 2 r.layers ++ leBytes 8 r.handle

/-- A lookup whose records are all known writes them and completes: E_MOVED with any record MOVED (R181, Table 5.5). While their destination waits
for a unit that retrains or for its tenant's cap they are not written (R318, R497), and the row CATALOG_LOOKUP commanded again is the write. -/
def State.lookupDone (s : State) (d : Nat) : State :=
  let x := s.desc d
  let rs := (s.records d).filterMap id
  if x.stage ≠ .exec || rs.length < x.list.length || (!x.e.flag 8 && s.outWaits x x.e.opB (16 * x.list.length)) then s
  else
    let b := (rs.map LookupRec.bytes).flatten
    let res : Result := {
      w0 := (rs.filter (fun r => r.status == 0)).length
      w1 := match rs.findIdx? (fun r => r.status != 0) with | some i => i | none => 0xFFFF_FFFF
      w2 := (rs.filter (·.took)).length
      w3 := (rs.filter (·.fwded)).length }
    let st := if rs.any (fun r => r.status == 4) then Status.moved else .ok
    let s := { s with ct := { s.ct with lookups := kvErase s.ct.lookups d } }
    if x.e.flag 8 then s.returnData d x.e.opB b res st
    else
      let (s, m) := s.writeAccess x.dst x.dmeta x.e.opB b {} x.who
      if m.status ≠ .ok then s.finish d m.status else s.finish d st res

/-- The hashes of a list. -/
def hashesOf (b : List Byte) (n : Nat) : List Nat := (List.range n).map (fun i => leAt b (16 * i) 16)

/-- The records of a lookup that this member has answered itself. -/
def State.localAnswers (s : State) (d : Nat) : Nat :=
  ((s.records d).filter (fun r => r.any (fun r => !r.fwded && r.status != 6))).length

/-- Counts the local answers that come later than 6.5 µs with FIXED_LAT set (R183). -/
def State.countLate (s : State) (d late : Nat) : State :=
  if s.fld F_CT_CFG_FIXED_LAT = 1 then s.bump F_CT_LATE_CNT_LATE (min late (s.localAnswers d)) else s

/-- CATALOG_LOOKUP (R163, R168, R179, R182, R183): reads the hash list, from the host (`bytes`) with HOSTBUF, and answers or
forwards every hash. `late` of the local answers come later than 6.5 µs, after a read retry or a retraining. -/
def execCatalogLookup (d : Nat) (bytes : List Byte) (late : Nat) (s : State) : Res :=
  let x := s.desc d
  let n := x.e.len
  .next (if x.e.opcode = 0x30 && x.stage = .exec then s.lookupDone d
    else if !x.runs? 0x30 || s.domGated 55 || (x.e.flag 8 && s.noHost x.q) || (!x.e.flag 8 && s.readWaits x.e.tenant (pieces x.src x.e.opA (16 * n))) then s
    else if s.domFailed 55 then s.stage d (.wait .unit)
    else
      let (s, m) := if x.e.flag 8 then (s.askHost x.q x.e.opA (16 * n), {}) else s.readAccess x.src (some x.smeta) x.e.opA (16 * n) {} x.who
      let hs := hashesOf (if x.e.flag 8 then bytes else s.readRuns x.src x.e.opA 0 (16 * n)) n
      if m.status ≠ .ok then s.finish d m.status
      else if hs.any (· == 0) then s.finish d .param
      else
        let s := s.setDesc d (({ s.desc d with list := hs, aux := s.now } : Desc).to s.now .exec)
        let s := { s with ct := { s.ct with lookups := kvPut [] s.ct.lookups d (List.replicate n none) } }
        ((s.lookupGo d n 0).countLate d late).lookupDone d)

/-! ## Publishing -/

/-- The layout descriptor of a publish block. -/
def pubLayout (b : List Byte) : Layout := Layout.ofBytes (b.take 64)

/-- The layer and token counts of a publish block (Table 5.2). -/
def pubLayers (b : List Byte) : Nat := bits (leAt b 0x40 4) 0 9
def pubTokens (b : List Byte) : Nat := bits (leAt b 0x40 4) 16 9

/-- The hash of a CATALOG_PUBLISH. -/
def Entry.hash (e : Entry) : Nat := e.spec

/-- The hint class of a CATALOG_PUBLISH: OPFLAGS [10:9]. -/
def Entry.pubHint (e : Entry) : Nat := bits e.flags 1 2

/-- Discards the record that a publish made and clears its marks (R167, R181). -/
def State.discardSeg (s : State) (i : Nat) : State :=
  let r := s.seg i
  if r.live && r.making then (s.markPub false r.dfns).setSeg i { gen := (r.gen + 1) % 65536 } else s

/-- The completion of a publish (Table 5.5). -/
def pubResult (handle : Nat) (ex : Bool) : Result :=
  { w0 := handle % 2 ^ 32, w1 := handle / 2 ^ 32, w2 := b2n ex }

/-- A publish that finds no free segment record: an entry of its key on this member answers it EXISTS (R167), else E_CAPACITY (Table 5.8).
For a shard of another member the record is needed to ask, so it is E_CAPACITY (log entry 107). -/
def State.publishFull (s : State) (d : Nat) : State :=
  let x := s.desc d
  match if s.shardOwner (shardOf x.e.hash) = s.me then s.findEntry x.e.hash (s.scopeOf x.e.tenant) else none with
  | some e => s.finish d .ok (pubResult e.handle true)
  | none => s.finish d .capacity

/-- CATALOG_PUBLISH (R165 steps 1 and 2, R166): marks the DFNs, makes the segment record, and waits for the descriptors
accepted before the mark that write to those folios. -/
def execCatalogPublish (d : Nat) (s : State) : Res :=
  let x := s.desc d
  .next (if !x.runs? 0x31 || s.domGated 55 then s
    else if s.domFailed 55 then s.stage d (.wait .unit)
    else match s.freshSeg with
    | none => s.publishFull d
    | some i =>
      let y := (pubLayout x.blk).canon x.data
      let s := (s.markPub true x.src).metaAccess (s.segSec i) false
      let s := s.setSeg i {
        live := true, layout := y, layers := pubLayers x.blk, tokens := pubTokens x.blk, dfns := x.src,
        gen := (s.seg i).gen, publisher := x.e.tenant, scope := s.scopeOf x.e.tenant, hash := x.e.hash,
        owner := s.me, inserter := s.me, making := true }
      s.setDesc d (({ x with list := [i, s.q.nextSeq] } : Desc).to s.now (.wait .publish)))

/-- What an insert of an entry did. -/
inductive Inserted where
  | done
  | exists_ (handle : Nat)
  | capacity
  deriving DecidableEq, Repr

/-- Inserts an entry on this member: an entry of the same key stands (R167); the group's quota, its HOLD quota and the
table bound it (R175, R189). -/
def State.indexInsert (s : State) (e : IndexEntry) : State × Inserted :=
  let s := s.metaReads [s.bucketSec (bucket1 e.hash), s.bucketSec (bucket2 e.hash e.scope)]
  match s.findEntry e.hash e.scope with
  | some old => (s, .exists_ old.handle)
  | none =>
    let g := e.scope.groupNo
    if s.fld F_CT_G_QUOTA_QUOTA g ≤ s.groupCount g ||
        (e.hint == 3 && decide (s.fld F_CT_G_HOLD_HOLD g ≤ s.holdCount g)) then (s, .capacity)
    else match s.insertEntry e with
      | none => (s, .capacity)
      | some s =>
        let c := s.ct.clock + 1
        let s := s.editEntry e.hash e.scope (fun e => { e with hit := c })
        ({ s with ct := { s.ct with clock := c } }, .done)

/-- The publish ends, if its command is still there: one stopped after its INSERT was sent has completed already. -/
def State.publishDone (s : State) (d : Option Nat) (st : Status) (r : Result := {}) : State :=
  match d with
  | some d => s.finish d st r
  | none => s

/-- What the insert of a publish leads to: the record enters the index, or it is discarded (R167, R175, R181). An entry whose folios the publisher has
freed since goes again at once (R173). -/
def State.publishEnd (s : State) (d : Option Nat) (i : Nat) (r : Inserted) : State :=
  match r with
  | .done =>
    let s := s.setSeg i { s.seg i with inIndex := true, making := false }
    (s.publishDone d .ok (pubResult (mkHandle i (s.seg i).owner (s.seg i).gen) false)).dropOrphan i
  | .exists_ h => (s.discardSeg i).publishDone d .ok (pubResult h true)
  | .capacity => (s.discardSeg i).publishDone d .capacity

/-- The tail of an INSERT (Table 13.5). -/
def insertTail (handle hint tokens layers charged : Nat) : List Byte :=
  leBytes 8 handle ++ leBytes 4 (hint % 4 + tokens * 65536) ++ leBytes 2 layers ++ leBytes 1 charged

/-- The insert of a publish whose folios no earlier descriptor writes: here, or at the shard's member (R165 steps 3
and 4). -/
def State.publishInsert (s : State) (d : Nat) : State :=
  let x := s.desc d
  let i := x.list.getD 0 0
  let r := s.seg i
  if s.q.descs.any (fun p => decide (p.2.seq < x.list.getD 1 0) && p.2.dst.any (inSet r.dfns)) then s
  else
    let m := s.shardOwner (shardOf r.hash)
    let h := mkHandle i r.owner r.gen
    if m = s.me then
      let (s, o) := s.indexInsert {
        hash := r.hash, scope := r.scope, owner := r.owner, handle := h, hint := x.e.pubHint, tokens := r.tokens,
        layers := r.layers }
      s.publishEnd (some d) i o
    else
      let s := s.setSeg i { r with inserter := m }
      let s := s.stage d (.wait .answers)
      s.sendFwd (some d) 0 m 2 r.scope.num false r.hash
        (insertTail h x.e.pubHint r.tokens r.layers r.scope.groupNo)

/-- PUBLISH_INSERT (R165 steps 3 and 4): no descriptor accepted before the mark holds a published DFN as destination, so
the entry is inserted. -/
def execPublishInsert (d : Nat) (s : State) : Res :=
  .next (if (s.desc d).stage = .wait .publish then s.publishInsert d else s)

/-! ## Releasing and withdrawing -/

/-- Releases `n` ledger references of a tenant on a record. -/
def State.releaseRefs (s : State) (t i n : Nat) : State := (s.setLedger t i (s.ledger t i - n)).dropRefs i n

/-- The number of references that a CATALOG_RELEASE releases (R185): of those counted at its acceptance, the ones that are still held when it
executes (the spec does not say what becomes of a release whose references have gone since; DESIGN CHOICE, log entry 108). -/
def State.releaseCount (s : State) (e : Entry) (i : Nat) : Nat :=
  if e.flag 9 then s.ledger e.tenant i else min e.len (s.ledger e.tenant i)

/-- The completion of a release (Table 5.5). -/
def State.releaseResult (s : State) (t i n : Nat) (withdrawn : Bool) : Result :=
  { w0 := n, w1 := s.ledger t i, w2 := (s.seg i).refs, w3 := b2n withdrawn }

/-- CATALOG_RELEASE without WITHDRAW (R185). -/
def execCatalogRelease (d : Nat) (s : State) : Res :=
  let x := s.desc d
  let t := x.e.tenant
  .next (if !(x.runs? 0x32 && !x.e.flag 8) || s.domGated 55 then s
    else if s.domFailed 55 then s.stage d (.wait .unit)
    else match s.handleIdx x.e.opA with
    | none => s.finish d .param
    | some i =>
      let n := s.releaseCount x.e i
      let s := s.releaseRefs t i n
      s.finish d .ok (s.releaseResult t i n false))

/-- CATALOG_RELEASE with WITHDRAW (R173, R174, R186): releases the references and removes the entry, at its shard's member
when another one holds it. -/
def execCatalogWithdraw (d : Nat) (s : State) : Res :=
  let x := s.desc d
  let t := x.e.tenant
  .next (if !(x.runs? 0x32 && x.e.flag 8) || s.domGated 55 then s
    else if s.domFailed 55 then s.stage d (.wait .unit)
    else match s.handleIdx x.e.opA with
    | none => s.finish d .param
    | some i =>
      let n := s.releaseCount x.e i
      let r := s.seg i
      let s := s.releaseRefs t i n
      let res := s.releaseResult t i n true
      if r.inIndex && r.inserter != s.me then
        let s := s.setDesc d (({ x with res := res } : Desc).to s.now (.wait .answers))
        let s := s.sendFwd (some d) 0 r.inserter 3 r.scope.num false r.hash (leBytes 8 x.e.opA)
        (s.setSeg i { s.seg i with inIndex := false }).tryFreeSeg i
      else
        (s.removeEntries (fun e => e.keyed r.hash r.scope && e.handle == x.e.opA)).finish d .ok res)

/-- The index entry of a record on this member. -/
def State.entryOf (s : State) (h : Nat) : Option IndexEntry := s.entries.find? (fun e => e.handle == h)

/-- CATALOG_HINT (R187, R189): HOLD is bound by the scope's HOLD quota. An entry that another member's index holds has no
class here, and one that has been removed has none at all: nothing changes, and both classes of the result are the one asked for (DESIGN CHOICE,
log entry 109). -/
def execCatalogHint (d : Nat) (s : State) : Res :=
  let x := s.desc d
  let c := bits x.e.spec 0 2
  .next (if !x.runs? 0x33 || s.domGated 55 then s
    else if s.domFailed 55 then s.stage d (.wait .unit)
    else match s.entryOf x.e.opA with
    | none => s.finish d .ok { w0 := c, w1 := c }
    | some e =>
      let g := e.scope.groupNo
      if c = 3 && e.hint != 3 && decide (s.fld F_CT_G_HOLD_HOLD g ≤ s.holdCount g) then s.finish d .capacity
      else (s.editEntry e.hash e.scope (fun e => { e with hint := c })).finish d .ok { w0 := e.hint, w1 := c })

/-! ## Answers of other members -/

/-- REFSTATE to the member whose index answered a forwarded lookup, once the reference is taken or refused (R430). -/
def State.hitRefstate (s : State) (member scope hash h : Nat) (refused : Bool) : State :=
  if s.cn.st ≠ .member then s
  else
    let idle := match s.handleIdx h with | some j => (s.seg j).refs == 0 | none => true
    s.sendFwd none 0 member 4 scope false hash (leBytes 8 h ++ [BitVec.ofNat 8 (b2n idle + 2 * b2n refused)])

/-- The answer of a forwarded lookup of hash `i` (R168, R179 to R181, R430). -/
def State.lookupAnswer (s : State) (d i member status : Nat) (b : List Byte) : State :=
  let x := s.desc d
  let t := x.e.tenant
  let h := leAt b 0x20 8
  let (s, r) :=
    if status = 0 then
      s.hitRecord t (x.e.flag 9) {
        member := bits h 25 5, group := (s.scopeOf t).groupNo, hint := leAt b 0x28 1 % 4, tokens := leAt b 0x2A 2,
        layers := leAt b 0x2C 2, handle := h }
    else if status = 1 then (s, { status := 1 })
    else if status = 4 then (s, { status := 4, member := leAt b 0x30 1 % 32 })
    else (s, ({ status := 5 } : LookupRec))
  let s := if status = 0 && r.member == s.me && !x.e.flag 9 then
      s.hitRefstate member (s.scopeOf t).num (x.list.getD i 0) h (!r.took) else s
  ((s.setRecord d i { r with fwded := true }).lookupGo d x.list.length 0).lookupDone d

/-- The answer of a publish's INSERT for the record `i` (R167, R181, R429, Table 13.6). -/
def State.insertAnswer (s : State) (d : Option Nat) (i dest status : Nat) (b : List Byte) : State :=
  let r := s.seg i
  if status = 8 then
    let s := (s.setSeg i { r with inserter := dest }).publishEnd d i .done
    if s.cn.st = .member && (s.seg i).live && (s.seg i).gen == r.gen && s.mapOwner (shardOf r.hash) != dest then
      (s.setSeg i { s.seg i with inIndex := false }).tryFreeSeg i
    else s
  else if status = 9 then s.publishEnd d i (.exists_ (leAt b 0x20 8))
  else if status = 4 then (s.discardSeg i).publishDone d .moved
  else s.publishEnd d i .capacity

/-- The answer `b` of a member for a lookup that has gone: the reference of a HIT on a segment of this device is refused to that member (R430). -/
def State.lateHit (s : State) (member : Nat) (b : List Byte) : State :=
  let h := leAt b 0x20 8
  if leAt b 0 1 % 16 = 1 && leAt b 0xA 1 = 0 && bits h 25 5 = s.me then
    s.hitRefstate member (leAt b 8 2) (leAt b 0x10 16) h true
  else s

/-- An answer for a command that has gone: a HIT's reference is refused; the record of a publish that was stopped enters the index with DONE and is
discarded with any other answer (R429, R430). -/
def State.lateAnswer (s : State) (f : Forward) (status : Nat) (b : List Byte) : State :=
  let kind := leAt f.msg 0 1 % 16
  if kind = 1 && status = 0 && !bit (leAt f.msg 0xB 1) 0 then s.lateHit f.dest b
  else if kind = 2 then
    match s.handleIdx (leAt f.msg 0x20 8) with
    | some i => if (s.seg i).making then s.insertAnswer none i f.dest status b else s
    | none => s
  else s

/-- A MOVED answer routes its shard to the member that it names until the next epoch, and is counted (R180). -/
def State.movedTo (s : State) (f : Forward) (status : Nat) (b : List Byte) : State :=
  if status = 4 then
    ({ s with ct := { s.ct with routes := kvInsert s.ct.routes (shardOf (leAt f.msg 0x10 16)) (leAt b 0x30 1 % 32) } }).bump F_CT_MOVED_CNT_MOVED
  else s

/-- The answer with a status of a forwarded request; an unreachable INSERT leaves its publish waiting for its timeout, and its answer may still
come. A REMOVE of a CATALOG_WITHDRAW that is answered MOVED, UNREACHABLE or MISS completes it OK with WITHDRAWN 1 (DESIGN CHOICE, log entry 146). -/
def State.fwdAnswer (s : State) (f : Forward) (status : Nat) (b : List Byte) : State :=
  let kind := leAt f.msg 0 1 % 16
  let keep := kind = 2 && status = 5
  let l := if keep then s.ct.fwd.map (fun (g : Forward) => if g.req == f.req then { g with ended := true } else g)
    else s.ct.fwd.filter (fun g => g.req != f.req)
  let s := ({ s with ct := { s.ct with fwd := l } }).movedTo f status b
  let s := s.pumpFwd 1
  if keep then s
  else match f.d with
  | none => s.lateAnswer f status b
  | some d =>
    if kind = 1 && decide ((s.desc d).stage = .exec) then s.lookupAnswer d f.idx f.dest status b
    else if (s.desc d).stage ≠ .wait .answers then s.lateAnswer f status b
    else if kind = 2 then s.insertAnswer (some d) ((s.desc d).list.getD 0 0) f.dest status b
    else s.finish d .ok (s.desc d).res

/-- FORWARD_TIMEOUT (R179, R426): no answer within CT_CFG.FWD_TIMEOUT ends the forward UNREACHABLE. One that has not been sent waits in its command,
without failing. -/
def execForwardTimeout (req : Nat) (s : State) : Res :=
  .next (match s.ct.fwd.find? (fun f => f.req == req && f.sent && !f.ended) with
    | some f => s.fwdAnswer f 5 []
    | none => s)

end Sys2Proof.Machine
end

