-- ==== Sys2Proof/Machine/Curve.lean ====
section
/-!
DEFINITION. The curve P-384 with the agreement and the signature check on it that the spec names (R574, R576, R528), over numbers.
-/
namespace Sys2Proof.Machine

/-- The field prime. -/
def p384 : Nat := 2 ^ 384 - 2 ^ 128 - 2 ^ 96 + 2 ^ 32 - 1

/-- The coefficient b; a is -3. -/
def p384B : Nat := 0xB3312FA7E23EE7E4988E056BE3F82D19181D9C6EFE8141120314088F5013875AC656398D8A2ED19D2A85C8EDD3EC2AEF

/-- The order of the base point. -/
def p384N : Nat := 0xFFFFFFFFFFFFFFFFFFFFFFFFFFFFFFFFFFFFFFFFFFFFFFFFC7634D81F4372DDF581A0DB248B0A77AECEC196ACCC52973

/-- The base point. -/
def p384G : Nat × Nat :=
  (0xAA87CA22BE8B05378EB1C71EF320AD746E1D3B628BA79B9859F741E082542A385502F25DBF55296C3A545E3872760AB7,
   0x3617DE4A96262C6F5D9E98BF9292DC29F8F41DBD289A147CE9DA3113B5F0B8C00A60B1CE1D7E819D7A431D7C90EA0E5F)

/-- A power modulo `m`, over the low `n` bits of the exponent. -/
def powMod (m : Nat) : Nat → Nat → Nat → Nat
  | 0, _, _ => 1 % m
  | n + 1, a, e => (if e % 2 = 1 then a else 1) * powMod m n (a * a % m) (e / 2) % m

/-- The inverse modulo a prime of 384 bits. -/
def invMod (m a : Nat) : Nat := powMod m 384 (a % m) (m - 2)

/-- A point as (X, Y, Z) with x = X / Z^2 and y = Y / Z^3; Z is 0 at infinity. -/
structure EcPoint where
  x : Nat := 1
  y : Nat := 1
  z : Nat := 0
  deriving DecidableEq, Repr

/-- The difference modulo the field prime. -/
def subP (a b : Nat) : Nat := (a + p384 - b % p384) % p384

/-- Twice a point. -/
def ecDouble (p : EcPoint) : EcPoint :=
  let d := p.z * p.z % p384
  let g := p.y * p.y % p384
  let b := p.x * g % p384
  let a := 3 * subP p.x d * (p.x + d) % p384
  let x := subP (a * a) (8 * b)
  { x := x, y := subP (a * subP (4 * b) x) (8 * g * g), z := 2 * p.y * p.z % p384 }

/-- The sum of two points. -/
def ecAdd (p q : EcPoint) : EcPoint :=
  if p.z = 0 then q
  else if q.z = 0 then p
  else
    let zp := p.z * p.z % p384
    let zq := q.z * q.z % p384
    let u := p.x * zq % p384
    let v := p.y * zq * q.z % p384
    let h := subP (q.x * zp) u
    let r := subP (q.y * zp * p.z) v
    if h = 0 then (if r = 0 then ecDouble p else {})
    else
      let hh := h * h % p384
      let hhh := h * hh % p384
      let w := u * hh % p384
      let x := subP (r * r) (hhh + 2 * w)
      { x := x, y := subP (r * subP w x) (v * hhh), z := h * p.z * q.z % p384 }

/-- The affine point. -/
def EcPoint.affine (p : EcPoint) : Option (Nat × Nat) :=
  if p.z = 0 then none
  else
    let i := invMod p384 p.z
    some (p.x * i * i % p384, p.y * i * i * i % p384)

/-- A multiple of a point, over the low `n` bits of the factor. -/
def ecMulBits : Nat → Nat → EcPoint → EcPoint
  | 0, _, _ => {}
  | n + 1, k, p => ecAdd (if k % 2 = 1 then p else {}) (ecMulBits n (k / 2) (ecDouble p))

/-- A multiple of a point. -/
def ecMul (k : Nat) (p : Nat × Nat) : EcPoint := ecMulBits 384 (k % p384N) { x := p.1, y := p.2, z := 1 }

/-- A point of the curve. -/
def onCurve (p : Nat × Nat) : Bool :=
  decide (p.1 < p384) && decide (p.2 < p384) && p.2 * p.2 % p384 == (p.1 * p.1 * p.1 + (p384 - 3) * p.1 + p384B) % p384

/-- An uncompressed public key: 97 bytes. -/
def publicKey (p : Nat × Nat) : List Byte := 4 :: (beBytes 48 p.1 ++ beBytes 48 p.2)

/-- The point of 96 bytes, x then y. -/
def pointOf (b : List Byte) : Nat × Nat := (beNat (b.take 48), beNat ((b.drop 48).take 48))

/-- The public key of a private scalar. -/
def publicOf (k : Nat) : List Byte := match (ecMul k p384G).affine with | some p => publicKey p | none => []

/-- The shared secret of a private scalar with an uncompressed public key: the x coordinate, 48 bytes; none where the key is no point of the curve. -/
def ecdh (k : Nat) (pub : List Byte) : Option (List Byte) :=
  let p := pointOf (pub.drop 1)
  if pub.length = 97 && pub.headD 0 == 4 && onCurve p then (ecMul k p).affine.map (fun q => beBytes 48 q.1) else none

/-- An ECDSA signature, r then s in 48 bytes each, over a 48-byte digest verifies under a public key of 96 bytes, x then y. -/
def ecdsaOk (pub digest sig : List Byte) : Bool :=
  let q := pointOf pub
  let r := beNat (sig.take 48)
  let t := beNat ((sig.drop 48).take 48)
  let w := invMod p384N t
  let z := beNat (digest.take 48)
  decide (0 < r) && decide (r < p384N) && decide (0 < t) && decide (t < p384N) && onCurve q &&
    (match (ecAdd (ecMul (z * w) p384G) (ecMul (r * w) q)).affine with
    | some p => p.1 % p384N == r
    | none => false)

end Sys2Proof.Machine
end

