-- ==== Sys2Proof/Machine/Aperture.lean ====
section
/-!
DEFINITION. Host accesses to tenant memory: the entries that an access of BAR4 or CXL.mem finds, its wait for a unit, its end (Host Port and
Management Transports; Tenant Keys and Weight Custody).
-/
namespace Sys2Proof.Machine

/-- What an aperture access finds for a tenant address: the folios and their pins, when every entry is there with the right. -/
def State.apEntries (s : State) (t a n : Nat) (write : Bool) : Option (List Nat × List Nat) :=
  let fs := tfnsOf a n
  let ok := fs.all (fun k => s.mapped t k && (if write then s.mayWrite t k else (s.entry t k).rd)) &&
    (match s.memSlot t with | some i => (s.slot i).st == .active | none => false)
  if ok then some (fs.map (fun k => (s.entry t k).dfn),
    fs.map (fun k => (s.entry t k).pin + 16 * (s.owner (s.entry t k).dfn).hint)) else none

/-- Counts a refusal of the aperture or of CXL.mem. -/
def State.apRefuse (s : State) : State := s.bump F_HP_APT_REFUSED_REFUSED

/-- The answer of a refused read: Unsupported Request on BAR4, poison on CXL.mem (R459, R462); a CXL.mem write is completed. -/
def State.apDeny (s : State) (cxl : Bool) (tag n : Nat) : State :=
  if cxl then s.emit (.hostCpl tag true true (List.replicate n 0xFF)) else s.emit (.hostCpl tag false false [])

/-- A request outside a Secure stream while IDE is required (R466). -/
def State.ideBlocks (s : State) (secure : Bool) : Bool := s.fld F_HP_CFG_IDE_REQUIRED == 1 && !secure

/-- A read through entries: its data, all ones with poison when a sector is poisoned or its tag fails (R459, R462). -/
def State.apRead (s : State) (t a n tag : Nat) (e : List Nat × List Nat) : State :=
  let (s, m) := s.readAccess e.1 (some e.2) a n {} { tenant := t }
  if m.status = .ok then s.emit (.hostCpl tag true false (s.readRuns e.1 a 0 n))
  else s.emit (.hostCpl tag true true (List.replicate n 0xFF))

/-- A write through entries; data that came poisoned poisons the sectors it would be written to (Table 11.2, R454). -/
def State.apWrite (s : State) (t a : Nat) (b : List Byte) (poison : Bool) (e : List Nat × List Nat) : State :=
  if poison then s.poisonAll ((pieces e.1 a b.length).map (·.sec))
  else (s.writeAccess e.1 e.2 a b {} { tenant := t }).1

/-- An access waits: a unit that it must read retrains (R318, R458). -/
def State.apWaits (s : State) (a : HeldAccess) : Bool :=
  let ps := pieces a.dfns a.addr a.len
  if a.write.isSome then s.mergeWaits a.tenant ps else s.readWaits a.tenant ps

/-- An access ends under the entries that it found (R458). -/
def State.apFinish (s : State) (a : HeldAccess) : State :=
  match a.write with
  | none => s.apRead a.tenant a.addr a.len a.tag (a.dfns, a.metas)
  | some (b, p) =>
    let s := s.apWrite a.tenant a.addr b p (a.dfns, a.metas)
    if a.cxl then s.emit (.hostCpl a.tag true false []) else s

/-- An access that has found its entries ends, or waits. -/
def State.apStart (s : State) (a : HeldAccess) : State :=
  if s.apWaits a then { s with hp := { s.hp with held := s.hp.held ++ [a] } } else s.apFinish a

/-- Starts accesses one after another. -/
def State.apStarts (s : State) : List HeldAccess → State
  | [] => s
  | a :: l => (s.apStart a).apStarts l

/-- The accesses that wait go on where they can, oldest first. -/
def State.apSweep (s : State) : State := ({ s with hp := { s.hp with held := [] } } : State).apStarts s.hp.held

/-- A host access takes a handle on its tenant's memory key (R562). -/
def State.apHolds (s : State) (i : Nat) : Bool := s.hp.held.any (fun a => s.memSlot a.tenant == some i)

/-- An access is stopped: it is answered as a refused one (DESIGN CHOICE, log entry 132). -/
def State.apStop (s : State) (a : HeldAccess) : State :=
  let s := s.apRefuse
  if a.write.isNone then s.apDeny a.cxl a.tag a.len else if a.cxl then s.emit (.hostCpl a.tag true false []) else s

/-- The accesses that hold a handle on a slot are stopped (R568, R571). -/
def State.apStopSlot (s : State) (i : Nat) : State :=
  let l := s.hp.held.filter (fun a => s.memSlot a.tenant == some i)
  let s : State := { s with hp := { s.hp with held := s.hp.held.filter (fun a => !(s.memSlot a.tenant == some i)) } }
  l.foldl State.apStop s

end Sys2Proof.Machine
end

