-- ==== Sys2Proof/Machine/Float.lean ====
section
/-!
DEFINITION. Numbers as the carrels and the projection units compute them: exact dyadic values, rounding to FP32, the element
formats of Table 6.6 with their Microscaling blocks, the exponent unit (Carrels and Attention in the Pool; Layout Projection).
-/
namespace Sys2Proof.Machine

/-- A decoded value: not a number, an infinity, or `± m × 2^e` exactly (zeros keep their sign). -/
inductive Num where
  | nan
  | inf (neg : Bool)
  | fin (neg : Bool) (m : Nat) (e : Int)
  deriving DecidableEq, Repr

/-- +0. -/
def Num.zero : Num := .fin false 0 0

/-- 1. -/
def Num.one : Num := .fin false 1 0

/-- Finite. -/
def Num.finite : Num → Bool
  | .fin _ _ _ => true
  | _ => false

/-- Not a number. -/
def Num.isNan : Num → Bool
  | .nan => true
  | _ => false

/-- A zero of either sign. -/
def Num.isZero : Num → Bool
  | .fin _ m _ => m == 0
  | _ => false

/-- The sign changed. -/
def Num.neg : Num → Num
  | .nan => .nan
  | .inf n => .inf (!n)
  | .fin n m e => .fin (!n) m e

/-- The magnitude. -/
def Num.abs : Num → Num
  | .nan => .nan
  | .inf _ => .inf false
  | .fin _ m e => .fin false m e

/-- `m × 2^e` as an integer multiple of `2^low`, for `low ≤ e`. -/
def scaleUp (m : Nat) (e low : Int) : Nat := m * 2 ^ (e - low).toNat

/-- A signed integer multiple of `2^e`. -/
def Num.ofInt (i e : Int) : Num := .fin (i < 0) i.natAbs e

/-- The exact sum (an exact zero sum of unlike signs is +0). -/
def Num.add : Num → Num → Num
  | .nan, _ => .nan
  | _, .nan => .nan
  | .inf a, .inf b => if a = b then .inf a else .nan
  | .inf a, _ => .inf a
  | _, .inf b => .inf b
  | .fin a m e, .fin b n f =>
    let low := min e f
    let x : Int := (scaleUp m e low : Int) * (if a then -1 else 1)
    let y : Int := (scaleUp n f low : Int) * (if b then -1 else 1)
    if x + y = 0 then .fin (a && b) 0 0 else .ofInt (x + y) low

/-- The exact product. -/
def Num.mul : Num → Num → Num
  | .nan, _ => .nan
  | _, .nan => .nan
  | .inf a, .inf b => .inf (a != b)
  | .inf a, .fin b n _ => if n = 0 then .nan else .inf (a != b)
  | .fin a m _, .inf b => if m = 0 then .nan else .inf (a != b)
  | .fin a m e, .fin b n f => .fin (a != b) (m * n) (e + f)

/-- Strictly smaller, for finite values and infinities. -/
def Num.lt : Num → Num → Bool
  | .nan, _ => false
  | _, .nan => false
  | .inf a, .inf b => a && !b
  | .inf a, .fin _ _ _ => a
  | .fin _ _ _, .inf b => !b
  | .fin a m e, .fin b n f =>
    let low := min e f
    decide ((scaleUp m e low : Int) * (if a then -1 else 1) < (scaleUp n f low : Int) * (if b then -1 else 1))

/-- The larger operand; of +0 and −0, +0 (R205). -/
def Num.max (a b : Num) : Num :=
  if a.lt b then b else if b.lt a then a
  else match a with
    | .fin true 0 _ => b
    | _ => a

/-- `m / 2^k` rounded to nearest, ties to even. -/
def rne (m k : Nat) : Nat :=
  let q := m / 2 ^ k
  let r := m % 2 ^ k
  if k = 0 then m
  else if 2 ^ (k - 1) < r || (r == 2 ^ (k - 1) && q % 2 == 1) then q + 1 else q

/-- The bit length of a number. -/
def bitLen (m : Nat) : Nat := if m = 0 then 0 else Nat.log2 m + 1

/-- The exponent of the leading bit of `m × 2^e`. -/
def topExp (m : Nat) (e : Int) : Int := (bitLen m : Int) - 1 + e

/-- Rounding to FP32, to nearest even, as if the exponent had no lower bound; a magnitude then below 2^−126 is flushed to
zero of its sign, one beyond the largest becomes infinity (R205, R207). -/
def f32 : Num → Num
  | .nan => .nan
  | .inf n => .inf n
  | .fin n m e =>
    if m = 0 then .fin n 0 0
    else
      let k := bitLen m - 24
      let q := rne m k
      let e := e + k
      if topExp q e < -126 then .fin n 0 0
      else if 127 < topExp q e then .inf n
      else .fin n q e

/-- The value of an FP32 code, exactly. -/
def f32Of (c : Nat) : Num :=
  let n := bit c 31
  let x := bits c 23 8
  let m := bits c 0 23
  if x = 255 then (if m = 0 then .inf n else .nan)
  else if x = 0 then .fin n m (-149)
  else .fin n (m + 2 ^ 23) ((x : Int) - 150)

/-- The FP32 code of a value that FP32 holds, subnormal values of a client's partial included (R212); NaN is 0x7FC0_0000. -/
def f32Code : Num → Nat
  | .nan => 0x7FC0_0000
  | .inf n => b2n n * 2 ^ 31 + 0x7F80_0000
  | .fin n m e =>
    if m = 0 then b2n n * 2 ^ 31
    else
      let t := topExp m e
      let q := if bitLen m ≤ 24 then m * 2 ^ (24 - bitLen m) else m / 2 ^ (bitLen m - 24)
      b2n n * 2 ^ 31 + (if t < -126 then m * 2 ^ (e + 149).toNat / 2 ^ (-149 - e).toNat
        else (t + 127).toNat * 2 ^ 23 + (q - 2 ^ 23))

/-- Sum, difference and product rounded once to FP32. -/
def fadd (a b : Num) : Num := f32 (a.add b)
def fsub (a b : Num) : Num := f32 (a.add b.neg)
def fmul (a b : Num) : Num := f32 (a.mul b)

/-- The quotient to 64 bits and more, its last bit set when bits follow, so that rounding it rounds the exact quotient. -/
def quot : Num → Num → Num
  | .nan, _ => .nan
  | _, .nan => .nan
  | .inf _, .inf _ => .nan
  | .inf a, .fin b _ _ => .inf (a != b)
  | .fin a _ _, .inf b => .fin (a != b) 0 0
  | .fin a m e, .fin b n f =>
    if n = 0 then (if m = 0 then .nan else .inf (a != b))
    else
      let k := 64 + bitLen n
      let q := m * 2 ^ k / n
      let sticky := if m * 2 ^ k % n = 0 then 0 else 1
      .fin (a != b) (2 * q + sticky) (e - f - k - 1)

/-- The quotient, correctly rounded to FP32 under R207. -/
def fdiv (a b : Num) : Num := f32 (quot a b)

/-- Rounding to FP32 to nearest even, subnormal results kept. -/
def f32Full : Num → Num
  | .fin n m e =>
    let t := topExp m e
    if m = 0 || -126 ≤ t then f32 (.fin n m e)
    else .fin n (rne m (-149 - e).toNat * 2 ^ (e + 149).toNat) (-149)
  | v => v

/-! ## The exponent unit (R206) -/

/-- `2^200 × exp(z / 2^200)` for a small `z`, by its series. -/
def expSeries (z : Nat) : Nat → Nat → Nat → Nat → Nat
  | 0, _, _, acc => acc
  | n + 1, k, term, acc =>
    let t := term * z / 2 ^ 200 / k
    expSeries z n (k + 1) t (acc + t)

/-- `2^200 × exp(−y / 2^200)`, to far more bits than the bound of R206 needs. -/
def expNeg (y : Nat) : Nat :=
  let t := expSeries (y / 128) 60 1 (2 ^ 200) (2 ^ 200)
  let t := (List.range 7).foldl (fun t _ => t * t / 2 ^ 200) t
  2 ^ 400 / t

/-- A value lies within relative 2^−22 of `x / 2^200`. -/
def withinExp (v : Num) (x : Nat) : Bool :=
  match v with
  | .fin false m e =>
    if e < -200 then false
    else
      let w := m * 2 ^ (e + 200).toNat
      decide ((w - x + (x - w)) * 2 ^ 22 ≤ x)
  | _ => false

/-- The exponent unit: exp(0) is 1, exp(−infinity) and arguments below −87.33 give +0; between, the value is a FREE VALUE
(`Config.expUnit`) within the relative error 2^−22 that R206 allows. -/
def expUnit (x : Num) : Num :=
  match x with
  | .nan => .nan
  | .inf n => if n then .zero else .inf false
  | .fin n m e =>
    if m = 0 then .one
    else if !n then .nan
    else
      let y := if e < -200 then m / 2 ^ (-200 - e).toNat else m * 2 ^ (e + 200).toNat
      if 8733 * 2 ^ 200 < 100 * y then .zero
      else
        let ex := expNeg y
        let v := f32Of (Config.expUnit (f32Code x))
        if withinExp v ex then v else f32 (.fin false ex (-200))

/-! ## Element formats (Tables 6.6 and 8.3) -/

/-- The parameters of a format's element: exponent bits, mantissa bits, bias, codes of infinity and NaN where it has them,
code of the largest finite element. -/
structure Elem where
  eb : Nat
  mb : Nat
  bias : Int
  infCode : Option Nat
  nanCode : Nat
  maxCode : Nat
  deriving DecidableEq, Repr

/-- The element of a format code other than MXINT8 and FP32. -/
def elemOf (p : Nat) : Elem :=
  if p = 0 then ⟨5, 10, 15, some 0x7C00, 0x7E00, 0x7BFF⟩
  else if p = 1 then ⟨8, 7, 127, some 0x7F80, 0x7FC0, 0x7F7F⟩
  else if p = 2 || p = 4 then ⟨4, 3, 7, none, 0x7F, 0x7E⟩
  else if p = 3 || p = 5 then ⟨5, 2, 15, some 0x7C, 0x7E, 0x7B⟩
  else if p = 6 then ⟨3, 2, 3, none, 0, 0x1F⟩
  else if p = 7 then ⟨2, 3, 1, none, 0, 0x1F⟩
  else ⟨2, 1, 1, none, 0, 0x7⟩

/-- The value of an element code, exactly (R207, R758). -/
def decElem (p c : Nat) : Num :=
  if p = 10 then f32Of c
  else if p = 9 then .ofInt (if bit c 7 then (c : Int) - 256 else c) (-6)
  else
    let y := elemOf p
    let n := bit c (y.eb + y.mb)
    let x := bits c y.mb y.eb
    let m := bits c 0 y.mb
    if y.infCode.isSome && x = 2 ^ y.eb - 1 then (if m = 0 then .inf n else .nan)
    else if (p = 2 || p = 4) && x = 15 && m = 7 then .nan
    else if x = 0 then .fin n m (1 - y.bias - y.mb)
    else .fin n (m + 2 ^ y.mb) ((x : Int) - y.bias - y.mb)

/-- The magnitude code of `m × 2^e` rounded to nearest even in a format without an upper bound. -/
def roundElem (y : Elem) (m : Nat) (e : Int) : Nat :=
  let t := max (topExp m e) (1 - y.bias)
  let q := t - y.mb
  let n := if q ≤ e then m * 2 ^ (e - q).toNat else rne m (q - e).toNat
  (t + y.bias - 1).toNat * 2 ^ y.mb + n

/-- Saturations and NaN results of conversions. -/
structure Events where
  sat : Nat := 0
  nan : Nat := 0
  deriving DecidableEq, Repr

/-- Events of two conversions together. -/
def Events.add (a b : Events) : Events := { sat := a.sat + b.sat, nan := a.nan + b.nan }

/-- A value as an element code under Table 8.5 and R758, with what it counts. -/
def encElem (p : Nat) (v : Num) : Nat × Events :=
  if p = 9 then
    match v with
    | .fin n m e =>
      let q := if -6 ≤ e then m * 2 ^ (e + 6).toNat else rne m (-6 - e).toNat
      if 127 < q then (if n then 0x81 else 0x7F, { sat := 1 })
      else ((if n then 256 - q else q) % 256, {})
    | .inf n => (if n then 0x81 else 0x7F, { sat := 1 })
    | .nan => (0, { nan := 1 })
  else
    let y := elemOf p
    let sg (n : Bool) : Nat := b2n n * 2 ^ (y.eb + y.mb)
    match v with
    | .nan => (y.nanCode, { nan := 1 })
    | .inf n => match y.infCode with
      | some c => (sg n + c, {})
      | none => (sg n + y.maxCode, { sat := 1 })
    | .fin n m e =>
      if m = 0 then (sg n, {})
      else if (decElem p y.maxCode).lt (.fin false m e) then (sg n + y.maxCode, { sat := 1 })
      else (sg n + roundElem y m e, {})

/-- Rounding to FP16 or BF16 as IEEE 754 does, beyond the largest to infinity (round_P, R221). -/
def ieeeCode (p : Nat) (v : Num) : Nat :=
  let y := elemOf p
  match v with
  | .nan => y.nanCode
  | .inf n => b2n n * 2 ^ 15 + y.infCode.getD 0
  | .fin n m e => b2n n * 2 ^ 15 + (if m = 0 then 0 else min (roundElem y m e) (y.infCode.getD 0))

/-! ## Vectors (R260) -/

/-- Element code `i` of a packed vector: bits `[w i + w − 1 : w i]` of its little-endian bit stream. -/
def codeAt (b : Nat) (w i : Nat) : Nat := bits b (w * i) w

/-- The decoded values of `n` packed elements of a format, with the block scales of an MX format behind them. -/
def decVec (p n : Nat) (b : List Byte) : List Num :=
  let w := if p = 10 then 32 else elemWidth p
  let x := leNat (b.take (w * n / 8))
  (List.range n).map (fun i =>
    let v := decElem p (codeAt x w i)
    if isMx p then
      let sc := leAt b (w * n / 8 + i / 32) 1
      if sc = 255 then .nan else v.mul (.fin false 1 ((sc : Int) - 127))
    else v)

/-- The packed bytes of element codes of width `w`. -/
def packCodes (w : Nat) (cs : List Nat) : List Byte :=
  leBytes (w * cs.length / 8) ((cs.foldr (fun c acc => acc * 2 ^ w + c % 2 ^ w) 0))

/-- EMAX of an MX format (Table 8.3). -/
def emaxOf (p : Nat) : Int :=
  if p = 4 then 8 else if p = 5 then 15 else if p = 6 then 4 else if p = 7 then 2 else if p = 8 then 2 else 0

/-- The largest finite FP32 value of a sign. -/
def f32Max (n : Bool) : Num := .fin n (2 ^ 24 - 1) 104

/-- One MX block (R269): scale byte, element codes, events. -/
def encBlock (p : Nat) (vs : List Num) : Nat × List Nat × Events :=
  if vs.any Num.isNan then (255, vs.map (fun _ => 0), { nan := 1 })
  else
    let infs := vs.map (fun v => !v.finite)
    let vs := vs.map (fun v => match v with | .inf n => f32Max n | v => v)
    let a := vs.foldl (fun m v => m.max v.abs) Num.zero
    match a with
    | .fin _ m e =>
      if m = 0 then (0, vs.map (fun v => (encElem p v).1), {})
      else
        let x := max (-127) (min 127 (topExp m e - emaxOf p))
        let rs := (vs.zip infs).map (fun q =>
          let r := encElem p (q.1.mul (.fin false 1 (-x)))
          if q.2 then (r.1, ({ sat := 1 } : Events)) else r)
        ((x + 127).toNat, rs.map (·.1), (rs.map (·.2)).foldl Events.add {})
    | _ => (0, [], {})

/-- Splits a list into blocks of 32. -/
def blocks32 (vs : List Num) : List (List Num) :=
  (List.range (ceilDiv vs.length 32)).map (fun i => (vs.drop (32 * i)).take 32)

/-- Values as the packed bytes of a format (R260, R266, R269). -/
def encVec (p : Nat) (vs : List Num) : List Byte × Events :=
  if isMx p then
    let bs := (blocks32 vs).map (encBlock p)
    (packCodes (elemWidth p) (bs.map (·.2.1)).flatten ++ (bs.map (fun b => BitVec.ofNat 8 b.1)),
      (bs.map (·.2.2)).foldl Events.add {})
  else
    let rs := vs.map (encElem p)
    (packCodes (elemWidth p) (rs.map (·.1)), (rs.map (·.2)).foldl Events.add {})

/-- A vector converted between formats by the factor `r`; equal formats and a factor of exactly 1 copy it bit for bit
(R266, R268). -/
def convVec (src dst n : Nat) (r : Num) (b : List Byte) : List Byte × Events :=
  if src = dst && f32Code r == 0x3F80_0000 then (b.take (vecBytes src n), {})
  else encVec dst ((decVec src n b).map (fun v => v.mul r))

end Sys2Proof.Machine
end

