-- ==== Sys2Proof/Machine/Attend.lean ====
section
/-!
DEFINITION. What the carrels compute: scores, attention partials and their merge, the top K (Carrels and Attention in the Pool).
-/
namespace Sys2Proof.Machine

/-- A partial (Table 6.3): the NaN partial, or `o`, `m` and `s` (R210, R211). -/
inductive Partial where
  | nan (dim : Nat)
  | vals (o : List Num) (m s : Num)
  deriving DecidableEq, Repr

/-- The empty partial of a dimension (R211). -/
def Partial.empty (dim : Nat) : Partial := .vals (List.replicate dim Num.zero) (.inf true) .zero

/-- A partial is empty: m −infinity, s and every o zero. -/
def Partial.isEmpty : Partial → Bool
  | .nan _ => false
  | .vals o m s => m == .inf true && s.isZero && o.all Num.isZero

/-- The NaN partial. -/
def Partial.isNan : Partial → Bool
  | .nan _ => true
  | .vals _ _ _ => false

/-- FP32 words as bytes. -/
def f32Bytes (vs : List Num) : List Byte := (vs.map (fun v => leBytes 4 (f32Code v))).flatten

/-- The bytes of a partial (Table 6.3); every field of the NaN partial is 0x7FC0_0000. -/
def Partial.bytes : Partial → List Byte
  | .nan dim => f32Bytes (List.replicate (dim + 2) Num.nan)
  | .vals o m s => f32Bytes (o ++ [m, s])

/-- The partial that bytes spell, with the inputs that R211 treats as the NaN partial. -/
def Partial.ofBytes (dim : Nat) (b : List Byte) : Partial :=
  let o := (List.range dim).map (fun i => f32Of (leAt b (4 * i) 4))
  let m := f32Of (leAt b (4 * dim) 4)
  let s := f32Of (leAt b (4 * dim + 4) 4)
  if m.isNan || m == .inf false || s.isNan || o.any Num.isNan then .nan dim
  else if m == .inf true then (if s.isZero && o.all Num.isZero then .empty dim else .nan dim)
  else .vals o m s

/-- One level of a balanced binary tree of sums. -/
def sumPairs : List Num → List Num
  | [] => []
  | [a] => [a]
  | a :: b :: l => fadd a b :: sumPairs l

/-- The sum of terms by a balanced binary tree, level by level (R205, dot). -/
def treeSum : Nat → List Num → Num
  | _, [] => .zero
  | _, [a] => a
  | 0, a :: _ => a
  | n + 1, l => treeSum n (sumPairs l)

/-- The score of a query and a key: exact lane products, summed by the tree. -/
def dot (q k : List Num) : Num := treeSum 9 (List.zipWith Num.mul q k)

/-- A sum from left to right, each addition rounded; one term alone is rounded under R207. -/
def leftSum : List Num → Num
  | [] => .zero
  | [a] => f32 a
  | a :: l => l.foldl fadd a

/-- round_P: to BF16, or to FP16 with P_FORMAT 1. -/
def roundP (pf : Nat) (v : Num) : Num :=
  let p := if pf = 1 then 0 else 1
  decElem p (ieeeCode p v)

/-- The weighted sum of V vectors over a tile, per element from the first token to the last. -/
def tileSum (p : List Num) (v : List (List Num)) : List Num :=
  match p, v with
  | [], _ => []
  | _, [] => []
  | [a], x :: _ => x.map (fun e => f32 (a.mul e))
  | a :: p, x :: v =>
    (List.zip p v).foldl (fun acc t => List.zipWith (fun s e => fadd s (t.1.mul e)) acc t.2) (x.map a.mul)

/-- The running m, s and o of one query head (R205). -/
structure Running where
  m : Num
  s : Num
  o : List Num
  deriving DecidableEq, Repr

/-- One tile of at most 32 tokens, given the scores x and the V vectors of its tokens (R205). -/
def Running.tile (r : Running) (pf : Nat) (xs : List Num) (v : List (List Num)) : Running :=
  let mn := xs.foldl Num.max r.m
  let a := expUnit (fsub r.m mn)
  let p := xs.map (fun x => roundP pf (expUnit (fsub x mn)))
  { m := mn, s := fadd (fmul r.s a) (leftSum p),
    o := List.zipWith (fun o t => fadd (fmul o a) t) r.o (tileSum p v) }

/-- The tiles of a task, in ascending token order. -/
def runTiles (pf : Nat) : Nat → Running → List Num → List (List Num) → Running
  | 0, r, _, _ => r
  | n + 1, r, xs, v =>
    if xs.isEmpty then r else runTiles pf n (r.tile pf (xs.take 32) (v.take 32)) (xs.drop 32) (v.drop 32)

/-- The scaled scores of a query over the keys of a range: x = c × d (R205). -/
def scores (c : Num) (q : List Num) (k : List (List Num)) : List Num := k.map (fun x => fmul c (dot q x))

/-- The partial of one query head over one token range (R205, R208): the NaN partial when a decoded element or a score it
uses is not finite. -/
def attendHead (pf : Nat) (c vs : Num) (q : List Num) (k v : List (List Num)) : Partial :=
  let dim := q.length
  let xs := scores c q k
  if !q.all Num.finite || !k.all (·.all Num.finite) || !v.all (·.all Num.finite) || !xs.all Num.finite then .nan dim
  else if k.isEmpty then .empty dim
  else
    let r := runTiles pf k.length { m := .inf true, s := .zero, o := List.replicate dim .zero } xs v
    .vals (r.o.map (fun x => fmul vs x)) r.m r.s

/-- The merge of two partials (R212). -/
def Partial.merge (a b : Partial) : Partial :=
  match a, b with
  | .nan d, _ => .nan d
  | _, .nan d => .nan d
  | .vals oa ma sa, .vals ob mb sb =>
    if (Partial.vals oa ma sa).isEmpty then b
    else if (Partial.vals ob mb sb).isEmpty then a
    else
      let m := ma.max mb
      let fa := expUnit (fsub ma m)
      let fb := expUnit (fsub mb m)
      .vals (List.zipWith (fun x y => fadd (fmul x fa) (fmul y fb)) oa ob) m (fadd (fmul sa fa) (fmul sb fb))

/-- One level of the merge tree. -/
def mergePairs : List Partial → List Partial
  | [] => []
  | [a] => [a]
  | a :: b :: l => a.merge b :: mergePairs l

/-- The merge of several partials of one head in the fixed tree (R213). -/
def mergeTree (dim : Nat) : Nat → List Partial → Partial
  | _, [] => .empty dim
  | _, [a] => a
  | 0, a :: _ => a
  | n + 1, l => mergeTree dim n (mergePairs l)

/-- The normalised output of a partial: FP32 with OUT 1, BF16 with OUT 2 (R221). -/
def Partial.normal (out dim : Nat) (p : Partial) : List Byte :=
  match p with
  | .nan _ => (List.replicate dim (if out = 2 then leBytes 2 0x7FC0 else leBytes 4 0x7FC0_0000)).flatten
  | .vals o m s =>
    if (Partial.vals o m s).isEmpty then List.replicate (dim * (if out = 2 then 2 else 4)) 0
    else (o.map (fun x =>
      let y := fdiv x s
      if out = 2 then leBytes 2 (ieeeCode 1 y) else leBytes 4 (f32Code y))).flatten

/-- The aggregate of a token over the group: the maximum, or the sum in group order (R222). A score that is not a number
makes the aggregate one too. -/
def aggregate (agg : Nat) (xs : List Num) : Num :=
  if xs.any Num.isNan then .nan
  else if agg = 0 then xs.foldl Num.max (.inf true)
  else match xs with
    | [] => .zero
    | a :: l => l.foldl fadd a

/-- A record of SCORE_TOPK placed in descending order of aggregate, equal aggregates by lower token (R222). -/
def placeRec : List (Nat × Num) → Nat × Num → List (Nat × Num)
  | [], r => [r]
  | x :: l, r => if x.2.lt r.2 || (!r.2.lt x.2 && decide (r.1 < x.1)) then r :: x :: l else x :: placeRec l r

/-- The K records of SCORE_TOPK: surplus ones hold token 0xFFFF_FFFF and −infinity (R222). -/
def topK (k : Nat) (rs : List (Nat × Num)) : List (Nat × Num) :=
  let l := (rs.filter (fun r => !r.2.isNan)).foldl placeRec []
  (l ++ List.replicate k (0xFFFF_FFFF, Num.inf true)).take k

end Sys2Proof.Machine
end

