-- ==== Sys2Proof/Machine/Queue.lean ====
section
/-!
DEFINITION. The queue control commands, the doorbells, the end of a freeze window, the completion of a command and NOP
(Queues and Command Packets). Fetch, arbitration and acceptance are in Accept.
-/
namespace Sys2Proof.Machine

/-- The BAR0 offset of QE_Q_CTL in the window (Table 3.7). -/
def qctlOff : Nat := bar0 1 0x1018

/-- A port may write a QE_Q_CTL command to a queue: the PF and the control firmware any, a VF ENABLE, PAUSE and RESUME
on queues of its own tenant and origin, the BMC and RTP none (R80). -/
def State.mayControl (s : State) (p : Port) (q : Nat) (reset : Bool) : Bool :=
  match p with
  | .pf => true
  | .fw => true
  | .vf n => !reset && (s.queue q).origin == 0x80 + n && (s.hostFn n).tenant == some (s.queue q).tenant
  | .bmc => false
  | .rtp => false

/-- A QE_Q_CTL write: ignored and counted for a port that may not make it (R80); otherwise the staged low word of the
port is discarded (R16) and the command acts. -/
def State.qctl (s : State) (p : Port) (q : Nat) (reset : Bool) (f : State → State) : State :=
  let s := s.dropStage p
  if !s.answers p qctlOff then s else if s.mayControl p q reset then f s else s.badAccess p qctlOff

/-- A control command acts in its state, or is ignored with LAST_CTL REFUSED_STATE (R76). -/
def State.qctlIn (s : State) (q : Nat) (ok : Bool) (f : State → State) : State :=
  if ok then f (s.setQueue q { s.queue q with lastCtl := 0 })
  else s.setQueue q { s.queue q with lastCtl := 1 }

/-- The ring checks of ENABLE (R77, R82, R83): the LAST_CTL code of the first failure, 0 when they pass. A TFN whose mirror sector is unreadable reads
RING_NOMAP: the spec gives no code for it (DESIGN CHOICE, log entry 139). -/
def State.ringCheck (s : State) (q : Nat) : Nat :=
  let x := s.queue q
  let sb := s.base F_QE_Q_SQBASE_SQBASE_LO F_QE_Q_SQBASE_SQBASE_HI q
  let cb := s.base F_QE_Q_CQBASE_CQBASE_LO F_QE_Q_CQBASE_CQBASE_HI q
  let n := s.ringSize q
  if !x.isBound then 5
  else if sb % 4096 ≠ 0 || cb % 4096 ≠ 0 then 2
  else if !s.qInFolios q then 0
  else
    let tf := tfnsOf sb (64 * n) ++ tfnsOf cb (32 * n)
    if !tf.all (s.mapped x.tenant) then 3
    else if !tf.all (fun k => (s.entry x.tenant k).rd && s.mayWrite x.tenant k) then 4
    else 0

/-- ENABLE of a DISABLED queue (R77). -/
def State.enableQueue (s : State) (q : Nat) : State :=
  let x := s.queue q
  let c := s.ringCheck q
  if c ≠ 0 then s.setQueue q { x with lastCtl := c }
  else
    let n := s.ringSize q
    let tfns (base sz : Nat) : List Nat := if s.qInFolios q then tfnsOf base (sz * n) else []
    let sq := tfns (s.base F_QE_Q_SQBASE_SQBASE_LO F_QE_Q_SQBASE_SQBASE_HI q) 64
    let cq := tfns (s.base F_QE_Q_CQBASE_CQBASE_LO F_QE_Q_CQBASE_CQBASE_HI q) 32
    let dfn (k : Nat) : Nat := (s.entry x.tenant k).dfn
    let info (k : Nat) : Nat := (s.entry x.tenant k).pin + 16 * (s.owner (dfn k)).hint
    let x := { x with
      lastCtl := 0, cause := 0, sqHead := 0, sqTail := 0, cqTail := 0, cqHead := 0, phase := true,
      uncarried := [], gathered := 0, ackedCq := 0,
      sqRing := sq.map dfn, cqRing := cq.map dfn, sqMeta := sq.map info, cqMeta := cq.map info }
    (s.setQueue q x).queueTo q .active

/-- QUEUE_ENABLE (R76, R77, R80). -/
def execQueueEnable (p : Port) (q : Nat) (s : State) : Res :=
  .next (s.qctl p q false fun s => s.qctlIn q (decide ((s.queue q).st = .disabled)) (fun s => s.enableQueue q))

/-- QUEUE_PAUSE (R76, R80). -/
def execQueuePause (p : Port) (q : Nat) (s : State) : Res :=
  .next (s.qctl p q false fun s => s.qctlIn q (decide ((s.queue q).st = .active)) (fun s => s.queueTo q .paused))

/-- QUEUE_RESUME (R76, R80, R90): the tail taken while PAUSED is in force. -/
def execQueueResume (p : Port) (q : Nat) (s : State) : Res :=
  .next (s.qctl p q false fun s => s.qctlIn q (decide ((s.queue q).st = .paused)) (fun s => s.queueTo q .active))

/-- Completes the fetched entries of a queue E_ABORTED, each while the CQ has room; one that has none is discarded and
counted (R78 step 2, R79). -/
def State.abortFetched (s : State) (q : Nat) : List Fetched → State
  | [] => s
  | f :: t =>
    (s.flushKept q [{ tag := f.e.tag, st := .aborted, detail := 0, froze := false, ts := s.now, res := {}, quiet := f.e.quiet }]).abortFetched q t

/-- The folios that a command writes line by line; the projection engine and the carrels write theirs sector-atomically (R345), and a PLACE that is
stopped has written nothing (R291). -/
def Desc.lineDst (x : Desc) : List Nat := if inSet [0x23, 0x24, 0x40, 0x41, 0x42, 0x43, 0x50] x.e.opcode then [] else x.dst

/-- The folios that the unfinished descriptors of a queue write to. -/
def State.destsOf (s : State) (p : Desc → Bool) : List Nat :=
  ((s.q.descs.filter (fun x => p x.2 && x.2.stage != .done)).map (fun x => x.2.lineDst)).flatten

/-- Poisons those of the named sectors that lie in destination folios of stopped commands (R57, R78); a sector of a tagging tenant is written
sector-atomically and is never left unfinished (R345). -/
def State.poisonUnfinished (s : State) (dests unfinished : List Nat) : State :=
  s.poisonAll (unfinished.filter (fun x => inSet dests (x / 256) && !s.tagsAt x))

/-- The RESET of a queue (R78): RESETTING, completions whose write failed written again (R116), fetched entries and descriptors aborted, begun
sectors poisoned. -/
def State.resetQueue (s : State) (q : Nat) (unfinished : List Nat) : State :=
  let x := s.queue q
  let s := (s.setQueue q { x with fetched := [], keptCq := [] }).queueTo q .resetting
  let s := (s.flushKept q x.keptCq).abortFetched q x.fetched
  let s := s.poisonUnfinished (s.destsOf (fun y => y.q == q)) unfinished
  s.finishAll .aborted 0 (s.descsOf q)

/-- The port belongs to the function that owns the queue. -/
def ownPort (x : Queue) : Port → Bool
  | .pf => x.origin == 0x80
  | .vf n => x.origin == 0x80 + n
  | _ => false

/-- QUEUE_RESET (R78, R80): from ACTIVE, PAUSED or FROZEN; a host-origin queue reset by another port sets its
function's QUEUE_RESET event (Table 15.9). -/
def execQueueReset (p : Port) (q : Nat) (unfinished : List Nat) (s : State) : Res :=
  .next (s.qctl p q true fun s =>
    let x := s.queue q
    s.qctlIn q (x.st = .active || x.st = .paused || x.st = .frozen) (fun s =>
      let s := s.resetQueue q unfinished
      if x.isBound && !x.isLink && !ownPort x p then s.fnEvent x.fn 2 else s))

/-- A DISABLED queue whose QUEUE_UNBIND waits is unbound, and the command completes (R495). -/
def State.unbindQueue (s : State) (q : Nat) : State :=
  let x := s.queue q
  match x.unbindBy with
  | some d =>
    if x.st = .disabled then (s.setQueue q {}).finish d .ok (s.desc d).res else s
  | none => s

/-- A RESETTING queue without entries or descriptors goes DISABLED; its window counter clears and its ring translation
goes (R78 step 4, R83). -/
def State.resetDone (s : State) (q : Nat) : State :=
  let x := s.queue q
  if x.st = .resetting && x.fetched.isEmpty && s.inflight q == 0 then
    let s := (s.setQueue q { x.dropRings 2 with winCnt := 0, uncarried := [], gathered := 0 }).queueTo q .disabled
    s.unbindQueue q
  else s

/-- QUEUE_RESET_COMPLETE (R78). -/
def execQueueResetComplete (q : Nat) (s : State) : Res := .next (s.resetDone q)

/-- The access port of a function. -/
def fnPort (fn : Nat) : Port := if fn = 0 then .pf else .vf fn

/-- An access of function `fn` to a doorbell page is answered: while the firmware runs, in a Secure IDE stream where one is required; another is
counted and answered by `deny` (R466). -/
def State.pageAccess (s : State) (fn : Nat) (secure : Bool) (deny f : State → State) : State :=
  if !s.answers (fnPort fn) qctlOff then s
  else if s.fld F_HP_CFG_IDE_REQUIRED == 1 && !secure then deny (s.bump F_HP_IDE_FAIL_IDE)
  else f s

/-- A doorbell-page write from function `fn` reaches queue `q`: only from the queue's bound host origin (R85); it discards the port's staged
low word (R16). -/
def State.pageWrite (s : State) (fn q : Nat) (secure : Bool) (f : State → State) : State :=
  s.pageAccess fn secure id (fun s =>
    let s := s.dropStage (fnPort fn)
    if (s.queue q).origin ≠ 0x80 + fn then s.bump F_QE_BAD_DOORBELL_CNT_BADDB else f s)

/-- A doorbell from function `fn` acts in ACTIVE or PAUSED only; in FROZEN it is counted (R90). -/
def State.doorbell (s : State) (fn q : Nat) (secure : Bool) (f : State → State) : State :=
  s.pageWrite fn q secure (fun s =>
    if (s.queue q).st = .active || (s.queue q).st = .paused then f s
    else if (s.queue q).st = .frozen then s.bump F_QE_Q_REFUSED_REFUSED 1 q
    else s)

/-- What a word of a doorbell page reads as (Table 3.9, R111): for a VF, 0 unless the queue is bound to its tenant and to it (R86). -/
def State.pageWord (s : State) (fn q o : Nat) : Nat :=
  let x := s.queue q
  if fn ≠ 0 && !(x.origin == 0x80 + fn && (s.hostFn fn).tenant == some x.tenant) then 0
  else if o = 0 then x.sqTail
  else if o = 4 then x.cqHead
  else if o = 8 then x.sqHead
  else if o = 0xC then x.st.code
  else 0

/-- A new SQ tail: at or above the ring size it is a refusal, otherwise it is in force (R88). -/
def State.newTail (s : State) (q v : Nat) : State :=
  if s.ringSize q ≤ v then (s.refuse q).1 else s.setQueue q { s.queue q with sqTail := v }

/-- A new CQ head: beyond the CQ tail it is a refusal, otherwise it is in force (R89). -/
def State.newHead (s : State) (q v : Nat) : State :=
  let x := s.queue q
  let n := s.ringSize q
  if n ≤ v || decide ((x.cqTail + n - x.cqHead % n) % n < (v + n - x.cqHead % n) % n) then (s.refuse q).1
  else s.setQueue q { x with cqHead := v }

/-- A write of a doorbell page at any offset (R13, R85, R90, R111): the two pointers act as DB_SQ_TAIL and DB_CQ_HEAD do, other offsets ignore
it; one that does not enable all four bytes is ignored and counted. Its offset in BAR2 stands modulo 2^26 in TOP_BAD_ACCESS_ADDR (DESIGN
CHOICE, log entry 32). -/
def State.pageStore (s : State) (fn q o v be : Nat) (secure : Bool) : State :=
  if be % 16 ≠ 15 then s.pageWrite fn q secure (fun s => s.badAccess (fnPort fn) (q * 4096 + o))
  else if o = 0 then s.doorbell fn q secure (fun s => s.newTail q (v % 65536))
  else if o = 4 then s.doorbell fn q secure (fun s => s.newHead q (v % 65536))
  else s.pageWrite fn q secure id

/-- DB_SQ_TAIL (R85, R88, R90, R466). -/
def execDbSqTail (fn q v : Nat) (secure : Bool) (s : State) : Res :=
  .next (s.doorbell fn q secure (fun s => s.newTail q (v % 65536)))

/-- DB_CQ_HEAD (R85, R89, R90, R466). -/
def execDbCqHead (fn q v : Nat) (secure : Bool) (s : State) : Res :=
  .next (s.doorbell fn q secure (fun s => s.newHead q (v % 65536)))

/-- FREEZE_WINDOW_CLOSE (R114): WINCNT returns to 0. -/
def execFreezeWindowClose (q : Nat) (s : State) : Res :=
  .next (s.setQueue q { s.queue q with winCnt := 0 })

/-- The queue's completions cannot leave now: its ring lies in host memory that cannot be reached (R452). -/
def State.hostBlocked (s : State) (q : Nat) : Bool := !s.qInFolios q && s.noHost q

/-- NOP (R104): completes OK with a zero result. -/
def execNop (d : Nat) (s : State) : Res :=
  .next (if (s.desc d).runs? 0x00 then s.finish d .ok else s)

end Sys2Proof.Machine
end

