-- ==== Sys2Proof/Machine/TenantOps.lean ====
section
/-!
DEFINITION. Tenants: their states, the tenant block and its checks, the fields it sets (Tenants, Quality of Service,
Interrupts and Resets).
-/
namespace Sys2Proof.Machine

/-- The state of a tenant: 0 FREE, 1 ACTIVE, 2 REMOVING; tenant 0 is always ACTIVE (R484). -/
def State.tenantState (s : State) (t : Nat) : Nat := if t = 0 then 1 else s.fld F_TN_T_STATUS_STATE t

/-- A word of a tenant block (Table 15.4). -/
def blkWord (b : List Byte) (off : Nat) : Nat := leAt b off 4

/-- The reserved bits of a tenant block are 0. -/
def blkReserved (b : List Byte) : Bool :=
  blkWord b 0 / 2 ^ 25 == 0 && blkWord b 4 / 2 ^ 9 == 0 && blkWord b 8 / 2 ^ 24 == 0 && blkWord b 0xC / 2 ^ 23 == 0 &&
    blkWord b 0x18 / 2 ^ 13 == 0 && ((b.drop 0x1C).take 36).all (· == 0)

/-- A reservation and its cap are in range (Table 15.4): no more than the tier's limit, and a cap that is not 0 at least the
reservation. -/
def resOk (limit res cap : Nat) : Bool := decide (res ≤ limit) && (cap == 0 || decide (res ≤ cap))

/-- The QoS fields of a tenant block are in range (Table 15.4). -/
def State.qosOk (s : State) (b : List Byte) : Bool :=
  let w := blkWord b 8
  let v := blkWord b 0xC
  (List.range 3).all (fun i => decide (1 ≤ bits w (8 * i) 8)) && decide (1 ≤ bits v 0 8) && decide (1 ≤ bits v 8 8) &&
    decide (1 ≤ bits v 16 7) && decide (bits v 16 7 ≤ 64) &&
    resOk (s.fld F_TN_RES_LIMIT_HOT) (blkWord b 0x10 % 65536) (blkWord b 0x14 % 65536) &&
    resOk (s.fld F_TN_RES_LIMIT_WARM) (blkWord b 0x10 / 65536) (blkWord b 0x14 / 65536) &&
    decide (blkWord b 0x18 ≤ 4096)

/-- The reservations of a block fit beside those of the other tenants (R490); a sum that does not rise always fits. -/
def State.resFit (s : State) (t : Nat) (b : List Byte) : Bool :=
  let fit (limit sum old new : Nat) : Bool := decide (sum - old + new ≤ limit) || decide (new ≤ old)
  fit (s.fld F_TN_RES_LIMIT_HOT) (s.fld F_TN_RES_SUM_HOT) (s.fld F_TN_T_RESERVE_HOT t) (blkWord b 0x10 % 65536) &&
    fit (s.fld F_TN_RES_LIMIT_WARM) (s.fld F_TN_RES_SUM_WARM) (s.fld F_TN_T_RESERVE_WARM t) (blkWord b 0x10 / 65536)

/-- Sets a tenant's reservations, with the sums over tenants. -/
def State.setReserve (s : State) (t hot warm : Nat) : State :=
  let s := s.setFld F_TN_RES_SUM_HOT (s.fld F_TN_RES_SUM_HOT - s.fld F_TN_T_RESERVE_HOT t + hot)
  let s := s.setFld F_TN_RES_SUM_WARM (s.fld F_TN_RES_SUM_WARM - s.fld F_TN_T_RESERVE_WARM t + warm)
  (s.setFld F_TN_T_RESERVE_HOT hot t).setFld F_TN_T_RESERVE_WARM warm t

/-- Applies the QoS fields of a block to a tenant (R489). -/
def State.setQos (s : State) (t : Nat) (b : List Byte) : State :=
  let w := blkWord b 8
  let v := blkWord b 0xC
  let s := ((s.setFld F_TN_T_QE_WEIGHT_W1 (bits w 0 8) t).setFld F_TN_T_QE_WEIGHT_W2 (bits w 8 8) t).setFld
    F_TN_T_QE_WEIGHT_W3 (bits w 16 8) t
  let s := ((s.setFld F_TN_T_SHARE_DATA_WEIGHT (bits v 0 8) t).setFld F_TN_T_SHARE_CARREL_WEIGHT (bits v 8 8) t).setFld
    F_TN_T_SHARE_CARREL_MAX (bits v 16 7) t
  let s := s.setReserve t (blkWord b 0x10 % 65536) (blkWord b 0x10 / 65536)
  let s := (s.setFld F_TN_T_CAP_HOT (blkWord b 0x14 % 65536) t).setFld F_TN_T_CAP_WARM (blkWord b 0x14 / 65536) t
  s.setFld F_TN_T_STREAMS_QUOTA (blkWord b 0x18) t

/-- What a TENANT_SET may answer before it changes anything (R490, R512, R513). Fields not applied are ignored. -/
def State.setCheck (s : State) (x : Desc) : Status :=
  let b := x.blk
  let qos := x.e.flag 8
  let share := x.e.flag 9
  if !qos && !share then .param
  else if blkWord b 0 ≠ 0 || bit (blkWord b 4) 8 then .param
  else if (qos || share) && !blkReserved b then .param
  else if qos && !s.qosOk b then .param
  else if qos && !s.resFit x.e.tenant b then .capacity
  else .ok

end Sys2Proof.Machine
end

