-- ==== Sys2Proof/Machine/Folio.lean ====
section
/-!
DEFINITION. The folio map commands and revocation: FOLIO_ALLOC, FOLIO_FREE, MAP_SYNC, UNMAP, FOLIO_HINT, the map window,
the drain, and the folio's way back to FREE (Folios, Maps and Translation at Submission).
-/
namespace Sys2Proof.Machine

/-- The map entry that a 64-bit word spells (Table 2.3). -/
def MapEntry.ofNat (w : Nat) : MapEntry :=
  { dfn := bits w 0 32, rd := bit w 32, wr := bit w 33, cp := bit w 34, sh := bit w 35, pin := bits w 36 4,
    epoch := bits w 40 16, valid := bit w 63 }

/-- The first TFN of a map command and its count of entries (Table 2.5). -/
def Entry.tfns (e : Entry) : List Nat := List.range' (bits e.opA 0 24) e.len

/-- The result of a map command: the epoch after, and the words of Table 2.6. -/
def State.mapResult (s : State) (t w1 w2 w3 : Nat) : Result :=
  { w0 := s.epoch t, w1 := w1, w2 := w2, w3 := w3 }

/-- Writes one mirror entry and keeps the owner records' counts of valid entries (R43). -/
def State.install (s : State) (t tfn : Nat) (new : MapEntry) : State :=
  let old := s.entry t tfn
  let s := if old.valid then s.setOwner old.dfn { s.owner old.dfn with maps := (s.owner old.dfn).maps - 1 } else s
  let s := if new.valid then s.setOwner new.dfn { s.owner new.dfn with maps := (s.owner new.dfn).maps + 1 } else s
  s.setEntry t tfn new

/-- A mirror entry's change revokes: a valid entry made invalid, its DFN changed, a permission bit removed (R58). -/
def revokesEntry (old new : MapEntry) : Bool :=
  old.valid && (!new.valid || old.dfn != new.dfn || (old.rd && !new.rd) || (old.wr && !new.wr) ||
    (old.cp && !new.cp) || (old.sh && !new.sh))

/-- A mirror entry's change is a change, EPOCH aside (R47). -/
def differs (old new : MapEntry) : Bool := { old with epoch := 0 } != { new with epoch := 0 }

/-- The folios of a tenant's queue rings at a TFN: the queue is not DISABLED and the TFN holds one of its rings. -/
def State.ringAt (s : State) (x : Queue) (q tfn : Nat) : Bool :=
  x.st != .disabled && s.qInFolios q && !x.sqRing.isEmpty &&
    (inSet (tfnsOf (s.base F_QE_Q_SQBASE_SQBASE_LO F_QE_Q_SQBASE_SQBASE_HI q) (64 * s.ringSize q)) tfn ||
      inSet (tfnsOf (s.base F_QE_Q_CQBASE_CQBASE_LO F_QE_Q_CQBASE_CQBASE_HI q) (32 * s.ringSize q)) tfn)

/-- Freezes every queue of the tenant whose ring a revoked TFN holds (R84). -/
def State.freezeRings (s : State) (t tfn : Nat) : State :=
  let qs := (s.q.tab.filter (fun p => p.2.tenant == t && s.ringAt p.2 p.1 tfn)).map (·.1)
  s.sweep (fun s q => s.freeze q 2) qs

/-- What a revoking command found and did inside its map window: whether it revoked, its status, its result words. -/
structure Window where
  revoked : Bool := false
  status : Status := .ok
  w1 : Nat := 0
  w2 : Nat := 0
  w3 : Nat := 0
  deriving DecidableEq, Repr

/-- Invalidates named entries, counting revoked and already invalid ones (R65). -/
def State.unmapAll (s : State) (t : Nat) : List Nat → Window → State × Window
  | [], w => (s, w)
  | k :: l, w =>
    if (s.entry t k).valid then
      ((s.install t k {}).freezeRings t k).unmapAll t l { w with revoked := true, w1 := w.w1 + 1 }
    else s.unmapAll t l { w with w2 := w.w2 + 1 }

/-- The DFNs of the valid entries among named TFNs. -/
def State.dfnsOf (s : State) (t : Nat) (l : List Nat) : List Nat :=
  (l.filter (fun k => (s.entry t k).valid)).map (fun k => (s.entry t k).dfn)

/-- Moves OWNED folios whose map count is 0 to RELEASING (R64). -/
def State.releaseUnmapped (s : State) : List Nat → State
  | [] => s
  | f :: l =>
    let o := s.owner f
    (if o.st = .owned && o.maps == 0 then s.setOwner f { o with st := .releasing } else s).releaseUnmapped l

/-- FOLIO_FREE inside its window: every named entry VALID, or E_NOMAP with nothing changed (R64). -/
def State.freeFolios (s : State) (t : Nat) (l : List Nat) : State × Window :=
  if !l.all (fun k => (s.entry t k).valid) then (s, { status := .nomap })
  else
    let fs := s.dfnsOf t l
    let (s, w) := s.unmapAll t l {}
    ((s.releaseUnmapped fs).catalogFreed, w)

/-- The checks MAP_SYNC makes of one master entry that has VALID set (R66): `none` when it passes. -/
def State.masterFault (s : State) (t w : Nat) : Option Status :=
  if !bit w 63 then none
  else
    let e := MapEntry.ofNat w
    let o := s.owner e.dfn
    if !s.dfnOk e.dfn then some .param
    else if s.folioState e.dfn ≠ .owned || o.tenant ≠ t then some .perm
    else if 8 < e.pin || bits w 56 7 ≠ 0 then some .param
    else none

/-- The first failing TFN of a master range, in range order, and its status; of several failing entries the first decides, and within one entry
the range of the DFN goes before its ownership and that before PIN_CLASS and the reserved bits (the spec gives no order; DESIGN CHOICE, log
entry 105). -/
def State.masterCheck (s : State) (t : Nat) : List (Nat × Nat) → Option (Nat × Status)
  | [] => none
  | (k, w) :: l => match s.masterFault t w with
    | some st => some (k, st)
    | none => s.masterCheck t l

/-- Copies master entries into the mirror with the epoch given, counting the entries that change (R47, R66); a change
that revokes freezes the queues whose ring it takes (R84). -/
def State.syncAll (s : State) (t ep : Nat) : List (Nat × Nat) → Window → State × Window
  | [], w => (s, w)
  | (k, m) :: l, w =>
    let old := s.entry t k
    let new := { MapEntry.ofNat m with epoch := if bit m 63 then ep else 0 }
    let rv := revokesEntry old new
    let s := s.install t k new
    let s := if rv then s.freezeRings t k else s
    s.syncAll t ep l { w with revoked := w.revoked || rv, w1 := w.w1 + b2n (differs old new) }

/-- The named TFNs of a MAP_SYNC with the master words that the device read for them. -/
def Desc.master (x : Desc) : List (Nat × Nat) :=
  (x.e.tfns.zip (List.range x.e.len)).map (fun p => (p.1, leNat ((x.blk.drop (8 * p.2)).take 8)))

/-- An unreadable mirror sector whose 32 aligned entries a MAP_SYNC rewrites is cleared (Table 20.6 code 1). -/
def State.healMirror (s : State) (t : Nat) (l : List Nat) : State :=
  let whole (b : Nat) : Bool := b / 524288 == t && (List.range 32).all (fun i => inSet l (b % 524288 * 32 + i))
  (s.map.badMirror.filter whole).foldl (fun s b => s.clearPoison (s.mirrorSec t (b % 524288 * 32)))
    { s with map := { s.map with badMirror := s.map.badMirror.filter (fun b => !whole b) } }

/-- MAP_SYNC without VERIFY inside its window (R66). -/
def State.syncWindow (s : State) (t : Nat) (x : Desc) : State × Window :=
  match s.masterCheck t x.master with
  | some (k, st) => (s, { status := st, w2 := k })
  | none =>
    let rv := x.master.any (fun p => revokesEntry (s.entry t p.1) (MapEntry.ofNat p.2))
    let ep := if rv then (s.epoch t + 1) % 65536 else s.epoch t
    let (s, w) := s.syncAll t ep x.master {}
    (s.healMirror t x.e.tfns, w)

/-- TENANT_SET with SHARE inside its window: a change of the group revokes; the group already in force does not
(R58, R488, R755). The block is the one the command read; QoS fields go with it when QOS is set. -/
def State.shareWindow (s : State) (t : Nat) (x : Desc) : State × Window :=
  let g := bits (blkWord x.blk 4) 0 8
  let c := s.setCheck x
  if c ≠ .ok then (s, { status := c })
  else
    let s := if x.e.flag 8 then s.setQos t x.blk else s
    if s.fld F_TN_T_STATUS_SHARE_GROUP t = g then (s, {})
    else (s.setFld F_TN_T_STATUS_SHARE_GROUP g t, { revoked := true })

/-- What a revoking command does inside its map window, by opcode (R755). -/
def State.windowChange (s : State) (x : Desc) : State × Window :=
  let t := x.e.tenant
  if x.e.opcode = 0x11 then s.freeFolios t x.e.tfns
  else if x.e.opcode = 0x13 then s.unmapAll t x.e.tfns {}
  else if x.e.opcode = 0x12 then s.syncWindow t x
  else s.shareWindow t x

/-- Holds the tenant's map window open for a command whose mirror writes are made, until MAP_WINDOW_RELEASE (R58, R59).
`status` and `res` are what it completes with. -/
def State.holdWindow (s : State) (d : Nat) (st : Status) (r : Result) (revoked : Bool) : State :=
  let x := s.desc d
  (s.setFld F_TN_MAP_EPOCH_WINDOW 1 x.e.tenant).setDesc d
    (({ x with status := st, res := r, aux := b2n revoked } : Desc).to s.now (.wait .window))

/-- Records the DETAIL of a status that is to come. -/
def State.setDetail (s : State) (d c : Nat) : State := s.setDesc d { s.desc d with detail := c }

/-- The tenant's map window is open (TN_MAP_EPOCH.WINDOW). -/
def State.inWindow (s : State) (t : Nat) : Bool := s.fld F_TN_MAP_EPOCH_WINDOW t == 1

/-- The map window of a revoking command (R58, R755): the mirror is written; if anything is revoked the epoch advances. -/
def State.mapWindow (s : State) (d : Nat) : State :=
  let x := s.desc d
  let t := x.e.tenant
  let (s, w) := s.windowChange x
  let s := if x.e.opcode < 0x20 && decide (w.status = .ok) then s.mirrorWrites t x.e.tfns else s
  let rv := w.revoked && decide (w.status = .ok)
  let s := if rv then (s.setFld F_TN_MAP_EPOCH_CURRENT ((s.epoch t + 1) % 65536) t) else s
  s.holdWindow d w.status (s.mapResult t w.w1 w.w2 w.w3) rv

/-- Retags the resident lines of a folio to a pin class (R238, R242); a walk is no access, so what it cannot pin is not counted. -/
def State.retagFolio (s : State) (pin dfn : Nat) : State :=
  (s.sk.sets.map (·.1)).foldl (fun s k =>
    ((s.cset k).lines.filter (fun l => l.sec / 256 == dfn && l.pin != pin)).foldl (fun s l =>
      let c := s.cset k
      let q := s.pinFor (c.lines.filter (fun x => x.sec != l.sec)) l.pin pin
      s.setCset k { c with lines := c.lines.map (fun (x : Line) =>
        if x.sec = l.sec then { x with pin := q, hint := if pin ≠ 0 && q = 0 then .normal else x.hint } else x) }) s) s

/-- A walk over folios (R242, R243). -/
def State.walkFolios (s : State) (pin : Nat) (dfns : List Nat) : State :=
  dfns.foldl (fun s f => s.retagFolio pin f) s

/-- The first walk of a PIN, with which it completes, and the second walk that is to come (R242, R243). -/
def State.pinWalk (s : State) (d : Nat) : State :=
  let x := s.desc d
  let pin := bits x.e.spec 0 4
  let dfns := s.dfnsOf x.e.tenant x.e.tfns
  let s := s.walkFolios pin dfns
  let parts := ((pin :: x.list).filter (fun p => p != 0)).map (fun p => p - 1)
  let w : Sweep := { dfns := dfns, pin := pin, parts := parts.eraseDups, seq := s.q.nextSeq }
  let s := { s with sk := { s.sk with sweeps := s.sk.sweeps ++ [w] } }
  s.finish d .ok x.res

/-- A tenant's map window closes: the command that held it waits for the descriptors of the previous epoch when it
revoked and some are left, walks the cache first when it is a PIN, and completes otherwise (R58, R60, R242, R755). -/
def State.closeWindow (s : State) (t : Nat) : State :=
  match s.q.descs.find? (fun p => p.2.stage == .wait .window && p.2.e.tenant == t) with
  | none => s
  | some (d, x) =>
    let s := s.leaveWindow d
    if s.fld F_TN_MAP_EPOCH_DRAINING t = 1 && (s.revokes t).running == some d then
      s.stage d (.wait .drain)
    else if x.e.opcode = 0x15 then s.pinWalk d
    else s.finish d x.status x.res x.detail

/-- The revoking command of a tenant that has waited longest for its turn: the earliest accepted. -/
def State.nextRevoke (s : State) (t : Nat) : Option Nat :=
  ((s.q.descs.filter (fun p => p.2.stage == .wait .turn && p.2.e.tenant == t)).foldl
    (fun (acc : Option (Nat × Desc)) p => match acc with
      | none => some p
      | some a => if p.2.seq < a.2.seq then some p else some a) none).map (·.1)

/-- A drain of the tenant runs, or an earlier revoking command waits its turn (R61). -/
def State.revokeBusy (s : State) (t : Nat) : Bool :=
  s.fld F_TN_MAP_EPOCH_DRAINING t == 1 ||
    s.descsWhere (fun x => x.stage == .wait .window && x.e.tenant == t && (x.e.opcode != 0x15 && x.e.opcode != 0x10)) != [] ||
    s.nextRevoke t != none

/-- A revoking command's own step: its window opens now, or it waits its turn (R61). A window that a grant holds open is
waited for. -/
def State.revokeCmd (s : State) (d : Nat) : State :=
  let x := s.desc d
  let t := x.e.tenant
  if s.revokeBusy t then
    s.stage d (.wait .turn)
  else if s.inWindow t then s
  else s.mapWindow d

/-- FOLIO_FREE (R64). -/
def execFolioFree (d : Nat) (s : State) : Res :=
  .next (if (s.desc d).runs? 0x11 then s.revokeCmd d else s)

/-- UNMAP (R65). -/
def execUnmap (d : Nat) (s : State) : Res :=
  .next (if (s.desc d).runs? 0x13 then s.revokeCmd d else s)

/-- MAP_SYNC without VERIFY (R66): `master` is what the device read of the host's master map. -/
def execMapSync (d : Nat) (master : List Byte) (s : State) : Res :=
  let x := s.desc d
  .next (if x.runs? 0x12 && !x.e.flag 8 && !s.noHost x.q then
      ((s.askHost x.q x.e.opB (8 * x.e.len)).setDesc d { x with blk := master }).revokeCmd d
    else s)

/-- The TFNs at which a master range and the mirror differ, EPOCH aside (R67). -/
def State.verifyDiffs (s : State) (t : Nat) (l : List (Nat × Nat)) : List Nat :=
  (l.filter (fun p => differs (s.entry t p.1) (MapEntry.ofNat p.2) || bits p.2 56 7 != 0)).map (·.1)

/-- MAP_SYNC with VERIFY (R67): changes nothing and reports the differences. -/
def execMapSyncVerify (d : Nat) (master : List Byte) (s : State) : Res :=
  let x := s.desc d
  .next (if x.runs? 0x12 && x.e.flag 8 && !s.noHost x.q then
      let s := s.askHost x.q x.e.opB (8 * x.e.len)
      let df := s.verifyDiffs x.e.tenant ({ x with blk := master } : Desc).master
      s.finish d .ok (s.mapResult x.e.tenant 0 (df.headD 0) df.length)
    else s)

/-- REVOKE_WINDOW_START (R61): with the earlier revoke complete and its drain ended, the next waiting revoking command
opens its window. -/
def execRevokeWindowStart (t : Nat) (s : State) : Res :=
  .next (match s.nextRevoke t with
    | some d =>
      if s.fld F_TN_MAP_EPOCH_DRAINING t = 1 || s.inWindow t then s
      else
        s.mapWindow d
    | none => s)

/-- REVOKE_DRAIN_COMPLETE (R58, R62, R754): with no descriptor of the previous epoch left, DRAINING clears and the
revoking command, if it still waits for its drain, completes OK. -/
def execRevokeDrainComplete (t : Nat) (s : State) : Res :=
  .next (if s.fld F_TN_MAP_EPOCH_DRAINING t = 1 && s.drainLeft t == 0 then
      let r := s.revokes t
      let s := (s.setFld F_TN_MAP_EPOCH_DRAINING 0 t).setRevokes t { r with running := none }
      match r.running with
      | some d => if (s.desc d).stage = .wait .drain then s.finish d .ok (s.desc d).res else s
      | none => s
    else s)

/-- FREE folios of a tier counted up from a DFN, at most `n` of them. -/
def State.freeFrom (s : State) : Nat → Nat → Nat → List Nat
  | 0, _, _ => []
  | _, _, 0 => []
  | fuel + 1, dfn, n + 1 =>
    if s.folioState dfn = .free then
      dfn :: s.freeFrom fuel (dfn + 1) n
    else s.freeFrom fuel (dfn + 1) (n + 1)

/-- The FREE folios an allocation takes: hot, warm, or hot and then warm (R63), lowest DFN first. -/
def State.takeFolios (s : State) (tier n : Nat) : List Nat :=
  let hot (n : Nat) := s.freeFrom (s.fld F_TOP_HOT_FOLIOS_COUNT) 0 n
  let warm (n : Nat) :=
    s.freeFrom (s.fld F_TOP_WARM_FOLIOS_COUNT - s.fld F_TOP_META_SIZE_COUNT) warmBase n
  if tier = 0 then hot n else if tier = 1 then warm n else (hot n) ++ warm (n - (hot n).length)

/-- Makes a folio OWNED by the tenant and installs its entry as a grant (R63). -/
def State.allocOne (s : State) (t tfn dfn perm pin : Nat) : State :=
  let s := s.setOwner dfn { (({} : Owner)) with st := .owned, tenant := t }
  let s := s.freshTags dfn
  s.install t tfn {
    dfn := dfn, rd := bit perm 0, wr := bit perm 1, cp := bit perm 2, sh := bit perm 3, pin := pin,
    epoch := s.epoch t, valid := true }

/-- Allocates folios to consecutive TFNs. -/
def State.allocAll (s : State) (t perm pin : Nat) : List (Nat × Nat) → State
  | [] => s
  | (k, f) :: l => (s.allocOne t k f perm pin).allocAll t perm pin l

/-- FOLIO_ALLOC (R45, R60, R63): all or nothing; the DFNs go to the result buffer in TFN order. A buffer
that cannot be written leaves the allocation (R759). -/
def execFolioAlloc (d : Nat) (s : State) : Res :=
  let x := s.desc d
  let t := x.e.tenant
  let l := x.e.tfns
  let perm := bits x.e.spec 0 4
  let pin := bits x.e.spec 4 4
  .next (if !x.runs? 0x10 || s.inWindow t || s.noHost x.q then s
    else if l.any (fun k => (s.entry t k).valid) then s.finish d .param (s.mapResult t 0 0 0)
    else
      let fs := s.takeFolios (bits x.e.opA 24 2) x.e.len
      if fs.length < x.e.len then s.finish d .capacity (s.mapResult t 0 0 0)
      else
        let s := (s.allocAll t perm pin (l.zip fs)).mirrorWrites t l
        match s.hostFault with
        | some c => (s.holdWindow d .aborted {} false).setDetail d c
        | none =>
          let s := s.emit (.hostWrite 0 x.e.opB (fs.map (leBytes 4)).flatten)
          s.holdWindow d .ok (s.mapResult t x.e.len 0 0) false)

/-- Sets the default hint of the folios that valid entries map, counting those that change (R68). -/
def State.hintAll (s : State) (h : Nat) : List Nat → Nat → State × Nat
  | [], n => (s, n)
  | f :: l, n =>
    let o := s.owner f
    (s.setOwner f { o with hint := h }).hintAll h l (n + b2n (o.hint != h))

/-- FOLIO_HINT (R68). -/
def execFolioHint (d : Nat) (s : State) : Res :=
  let x := s.desc d
  .next (if !x.runs? 0x14 then s
    else
      let (s, n) := s.hintAll (bits x.e.spec 0 2) (s.dfnsOf x.e.tenant x.e.tfns) 0
      s.finish d .ok (s.mapResult x.e.tenant n 0 0))

/-- A descriptor in flight carries the folio, or a host access that waits. -/
def State.carried (s : State) (dfn : Nat) : Bool :=
  s.q.descs.any (fun p => inSet p.2.src dfn || inSet p.2.dst dfn) || s.hp.held.any (fun a => inSet a.dfns dfn)

/-- The catalog holds a segment record that names the folio, or a stream holds it as prefix (R44). -/
def State.catalogued (s : State) (dfn : Nat) : Bool :=
  s.ct.segs.any (fun p => p.2.live && inSet p.2.dfns dfn)

/-- FOLIO_RELEASE_COMPLETE (R44): a RELEASING folio without catalog reference or descriptor enters ZEROING. -/
def execFolioReleaseComplete (dfn : Nat) (s : State) : Res :=
  let o := s.owner dfn
  .next (if o.st = .releasing && !s.catalogued dfn && !s.carried dfn then
      (s.toZeroing dfn).cacheDropFolio dfn
    else s)

/-- The folio at the head of its tier's zeroing order (R695). -/
def State.zeroHead (s : State) (hot : Bool) : Option Nat :=
  (s.map.zeroing.find? (fun r => decide (r.1 < warmBase) == hot)).map (·.1)

/-- FOLIO_ZEROED (R344, R695): zeroing overwrites every sector, which clears poison; the folio is FREE. Only the first
folio of its tier's order is zeroed. -/
def execFolioZeroed (dfn : Nat) (s : State) : Res :=
  .next (if s.ck.power = 0 && s.zeroHead (decide (dfn < warmBase)) = some dfn then
      let s := { s.zeroMem (dfn * 65536) 65536 with poison := s.poison.filter (fun x => x / 256 != dfn) }
      let s := { s with map := { s.map with zeroing := dropHead (fun a => a == dfn) s.map.zeroing } }
      (s.setOwner dfn {}).freshTags dfn
    else s)

end Sys2Proof.Machine
end

