-- ==== Sys2Proof/Machine/FenceCmds.lean ====
section
/-!
DEFINITION. The fence commands and the fence waits (Streams, Steps and Fences).
-/
namespace Sys2Proof.Machine

/-- The wait budget of a command: bytes 52-53 with BUDGET, otherwise FN_WAIT_DEFAULT (Table 4.2). -/
def State.budget (s : State) (e : Entry) : Nat :=
  if e.flag 11 then bits e.spec 32 16 else s.fld F_FN_WAIT_DEFAULT_WAIT

/-- The result of a fence command: the fence's value after. -/
def State.fenceResult (s : State) (f : Nat) : Result :=
  let v := (s.fence f).value
  { w0 := v % 2 ^ 32, w1 := v / 2 ^ 32 }

/-- FENCE_SIGNAL (R139, R145): a fence at the maximum refuses; ADD saturates; a lower or equal value, or a poisoned
fence, changes nothing and is no error. -/
def execFenceSignal (d : Nat) (s : State) : Res :=
  let x := s.desc d
  let f := bits x.e.opA 0 12
  let v := (s.fence f).value
  .next (if !x.runs? 0x01 then s
    else if v = fenceMax then (s.bump F_FN_SAT_CNT_SAT).finish d .param (s.fenceResult f)
    else
      let (s, _) := s.signalFence f (min fenceMax (if x.e.flag 8 then v + x.e.opB else x.e.opB))
      s.finish d .ok (s.fenceResult f))

/-- FENCE_WAIT (R141, R142): waits until the fence's value reaches the operand; a poisoned fence ends it. -/
def execFenceWait (d : Nat) (s : State) : Res :=
  let x := s.desc d
  let f := s.fence (bits x.e.opA 0 12)
  .next (if !x.runs? 0x02 then s
    else if f.poison then s.finish d .fencePoison
    else
      let x := ({ x with aux := 1 } : Desc).to s.now (.wait .fence)
      if x.e.opB ≤ f.value then (s.setDesc d { x with met := some (s.now, x.awaits) }).finish d .ok else s.setDesc d x)

/-- FENCE_WAIT_SATISFIED (R141): a packet wait proceeds to the operation; a FENCE_WAIT completes. A poisoned fence does
not satisfy (R142). -/
def execFenceWaitSatisfied (d : Nat) (s : State) : Res :=
  let x := s.desc d
  let f := s.fence x.awaits
  let t := s.setDesc d { x with met := some (s.now, x.awaits) }
  .next (if x.stage ≠ .wait .fence || f.poison then s
    else if x.ownWait then (if x.e.opB ≤ f.value then t.finish d .ok else s)
    else if waitMet f x.e.waitVal then t.begin_ d
    else s)

/-- A wait that a fence's poison ends: one that lasts, or one that was satisfied in this tick (R98, R142). -/
def State.poisonable (s : State) (x : Desc) : Bool :=
  (x.stage == .wait .fence && (s.fence x.awaits).poison) ||
    (match x.met with | some (t, f) => t == s.now && (s.fence f).poison | none => false)

/-- FENCE_WAIT_POISONED (R98, R142): the wait ends E_FENCE_POISON, also when it was satisfied in the tick of the poison. -/
def execFenceWaitPoisoned (d : Nat) (s : State) : Res :=
  let x := s.desc d
  .next (if s.poisonable x then s.finish d .fencePoison else s)

/-- The reset of a fence without waiters (R146): the value becomes 0 and the poison clears; with UNBIND the fence is then
unbound (R150). That UNBIND too leaves value 0 and no poison is the model's choice (DESIGN CHOICE, log entry 48). -/
def State.fenceTake (s : State) (d : Nat) : State :=
  let x := s.desc d
  let f := bits x.e.opA 0 12
  let y := s.fence f
  let s := s.setFence f { (if x.e.flag 9 then { y with bound := false, tenant := 0 } else y) with value := 0, poison := false, since := none }
  s.finish d .ok (s.fenceResult f)

/-- FENCE_RESET and UNBIND: they take effect with no waiter, otherwise they wait for their budget (R146). -/
def State.fenceResetCmd (s : State) (d : Nat) : State :=
  let x := s.desc d
  if s.oldWaiters (bits x.e.opA 0 12) = 0 then s.fenceTake d
  else if s.budget x.e = 0 then s.finish d .busy (s.fenceResult (bits x.e.opA 0 12))
  else s.stage d (.wait .fenceIdle)

/-- FENCE_RESET (R146). -/
def execFenceReset (d : Nat) (s : State) : Res :=
  let x := s.desc d
  .next (if x.runs? 0x03 && !x.e.flag 8 && !x.e.flag 9 then s.fenceResetCmd d else s)

/-- FENCE_UNBIND (R150). -/
def execFenceUnbind (d : Nat) (s : State) : Res :=
  let x := s.desc d
  .next (if x.runs? 0x03 && x.e.flag 9 then s.fenceResetCmd d else s)

/-- FENCE_BIND (R150): binds an unbound fence to the entry's TENANT and sets it to 0. -/
def execFenceBind (d : Nat) (s : State) : Res :=
  let x := s.desc d
  let f := bits x.e.opA 0 12
  .next (if !(x.runs? 0x03 && x.e.flag 8) then s
    else if (s.fence f).bound then s.finish d .param
    else
      let s := s.setFence f { bound := true, tenant := x.e.tenant }
      s.finish d .ok (s.fenceResult f))

/-- FENCE_RESET_TAKES_EFFECT (R146): the last waiter has left. -/
def execFenceResetTakesEffect (d : Nat) (s : State) : Res :=
  let x := s.desc d
  .next (if x.stage = .wait .fenceIdle && s.oldWaiters (bits x.e.opA 0 12) == 0 then s.fenceTake d else s)

/-- FENCE_RESET_BUDGET_EXPIRED (R146, R756): E_BUSY with waiters left; a fence whose last waiter left takes the reset. -/
def execFenceResetBudgetExpired (d : Nat) (s : State) : Res :=
  let x := s.desc d
  .next (if x.stage ≠ .wait .fenceIdle || !s.waitedOut x (s.budget x.e) then s
    else if s.oldWaiters (bits x.e.opA 0 12) = 0 then s.fenceTake d
    else s.finish d .busy (s.fenceResult (bits x.e.opA 0 12)))

/-- The fences bound to a tenant. -/
def State.fencesOf (s : State) (t : Nat) : List Nat :=
  let listed := (s.fn.fences.filter (fun p => p.2.bound && p.2.tenant == t)).map (·.1)
  if t = 0 then (List.range 16) ++ listed.filter (fun f => decide (16 ≤ f)) else listed

/-- Poisons fences. -/
def State.poisonFences (s : State) : List Nat → State
  | [] => s
  | f :: l => (s.poisonFence f).poisonFences l

/-- FENCE_FORCE (R158): poisons the named fence, or every fence of TENANT with ALL, and never waits; the waiters it
ends are counted in the result (Table 4.4). -/
def execFenceForce (d : Nat) (s : State) : Res :=
  let x := s.desc d
  .next (if !x.runs? 0x04 then s
    else
      let fs := if x.e.flag 8 then s.fencesOf x.e.tenant else [bits x.e.opA 0 12]
      let w := (fs.map s.waiters).foldl (· + ·) 0
      (s.poisonFences fs).finish d .ok { w0 := fs.length, w1 := w })

end Sys2Proof.Machine
end

