-- ==== Sys2Proof/Machine/StreamCmds.lean ====
section
/-!
DEFINITION. The stream commands but for the two that move KV: STREAM_OPEN, STREAM_CLOSE, STREAM_SUSPEND, STREAM_RESUME,
STEP_COMMIT, and the watermark wait (Streams, Steps and Fences).
-/
namespace Sys2Proof.Machine

/-! ## The stream block (Table 4.3) -/

/-- The number of segment handles of a stream block. -/
def blkSegs (b : List Byte) : Nat := leAt b 0x100 2

/-- The number of grants per layer of a stream block. -/
def blkGrants (b : List Byte) : Nat := leAt b 0x102 2

/-- TOTAL, the warm TFNs of a SUSPEND block. -/
def blkTotal (b : List Byte) : Nat := leAt b 0x104 4

/-- The segment handles, in prefix order. -/
def blkHandles (b : List Byte) : List Nat := (List.range (blkSegs b)).map (fun i => leAt b (0x110 + 8 * i) 8)

/-- The `n` TFN words after the handles. -/
def blkTfns (b : List Byte) (n : Nat) : List Nat :=
  (List.range n).map (fun i => leAt b (0x110 + 8 * blkSegs b + 4 * i) 4)

/-- The 64 bytes of slot `k`. -/
def blkSlot (b : List Byte) (k : Nat) : List Byte := (b.drop (64 * k)).take 64

/-- The layouts that a block sets in slots 1 to 3; an all-zero slot is left as it is. -/
def blkSlots (b : List Byte) (old : KV Layout) : KV Layout :=
  [1, 2, 3].foldl (fun m k =>
    if (blkSlot b k).all (· == 0) then m else kvInsert m k (Layout.ofBytes (blkSlot b k))) old

/-! ## Streams as the other commands see them -/

/-- The codes of Table 4.1. -/
def StreamState.code : StreamState → Nat
  | .free => 0 | .active => 1 | .suspending => 2 | .suspended => 3 | .resuming => 4 | .closing => 5

/-- The descriptors of a stream other than those that close it. -/
def State.streamDescs (s : State) (i : Nat) : List Nat :=
  s.descsWhere (fun x => x.strm == some i && x.e.opcode != 0x61)

/-- The descriptors of a stream that wait on a watermark. -/
def State.wmWaiters (s : State) (i : Nat) : List Nat :=
  s.descsWhere (fun x => x.strm == some i && x.stage == .wait .watermark)

/-- The descriptors of a stream that wait on a watermark, or whose wait ended in this tick: what a close ends E_ABORTED (R98, R151). -/
def State.wmEnded (s : State) (i : Nat) : List Nat :=
  s.descsWhere (fun x => x.strm == some i && (x.stages s.now).any (fun g => g == .wait .watermark) && !(x.stage == .done && x.tEnd != s.now))

/-- Folio-list entries in use on the device (FN_LIST_FREE counts down from 67,108,864). -/
def State.listUsed (s : State) : Nat :=
  (s.fn.streams.map (fun p => (p.2.layers.map (fun y => y.list.length)).foldl (· + ·) 0)).foldl (· + ·) 0

/-- Streams that are not FREE, of all tenants or of one. -/
def State.streamCount (s : State) : Nat := (s.fn.streams.filter (fun p => p.2.st != .free)).length

/-- A tenant's streams that are not FREE (TN_T_STREAMS.USED). -/
def State.streamsOf (s : State) (t : Nat) : List Nat :=
  (s.fn.streams.filter (fun p => p.2.st != .free && p.2.tenant == t)).map (·.1)

/-- The lowest free stream ID (R117). -/
def State.freshStream (s : State) : Option Nat :=
  firstFrom (fun i => decide ((s.stream i).st = .free)) 4096 0

/-- Entries per layer of a stream's lists (FN_S_LISTLEN). -/
def Stream.listLen (x : Stream) : Nat := (x.layers.headD {}).list.length

/-- A watermark or committed token as registers and results read it: 0xFFFF_FFFF for none. -/
def tokenReg (n : Nat) : Nat := if n = 0 then 0xFFFF_FFFF else (n - 1) % 2 ^ 32

/-- The references that a list of handles asks of the ledger are there (R170). -/
def State.refsHeld (s : State) (t : Nat) (hs : List Nat) : Bool :=
  hs.all (fun h => match s.handleIdx h with
    | some i => decide ((hs.filter (· == h)).length ≤ s.ledger t i)
    | none => false)

/-- Moves one ledger reference per handle to the stream: the record's count stays (R170). -/
def State.moveRefs (s : State) (t : Nat) : List Nat → State
  | [] => s
  | h :: l => (match s.handleIdx h with
      | some i => s.setLedger t i (s.ledger t i - 1)
      | none => s).moveRefs t l

/-- A segment may be named to a stream of a layout: equal canonical layout and layer count, tokens a multiple of
TOKENS_PER_FOLIO (R121). -/
def State.segFits (s : State) (y : Layout) (h : Nat) : Bool :=
  match s.handleIdx h with
  | some i => decide ((s.seg i).layout = y) && (s.seg i).layers == y.layers && (s.seg i).tokens % max 1 y.tpf == 0
  | none => false

/-- The tokens of the segments that handles name. -/
def State.segTokens (s : State) (hs : List Nat) : Nat :=
  (hs.map (fun h => match s.handleIdx h with | some i => (s.seg i).tokens | none => 0)).foldl (· + ·) 0

/-- The list entries that segments give layer `l` (R120). -/
def State.segList (s : State) (tpf l : Nat) (hs : List Nat) : List ListEntry :=
  (hs.map (fun h => match s.handleIdx h with
    | some i =>
      let n := (s.seg i).tokens / max 1 tpf
      (((s.seg i).dfns.drop (l * n)).take n).map ListEntry.seg
    | none => [])).flatten

/-- The list entries that a block grants layer `l` (Table 4.3). -/
def grantList (b : List Byte) (layers l : Nat) : List ListEntry :=
  let g := blkGrants b
  (((blkTfns b (g * layers)).drop (l * g)).take g).map (fun t => ListEntry.grant (t % 2 ^ 24))

/-- Grants of `n` entries per layer fit a stream of `layers` layers whose lists have `len` entries (Table 4.8). -/
def State.grantsFit (s : State) (layers len n : Nat) : Bool :=
  decide (len + n ≤ 65536) && decide (s.listUsed + n * layers ≤ 67108864)

/-! ## Opening -/

/-- The new context of a STREAM_OPEN (R117, R120 to R124, R276). -/
def State.openContext (s : State) (t gen : Nat) (b table : List Byte) : Stream :=
  let y := Layout.ofBytes (blkSlot b 0)
  let hs := blkHandles b
  let p := s.segTokens hs
  { st := .active, tenant := t, gen := gen, layout := y.canon table, scales := scaleEntries table (2 * y.layers * y.heads),
    slots := blkSlots b [], pfx := p, segs := hs,
    layers := (List.range y.layers).map (fun l =>
      { list := s.segList y.tpf l hs ++ grantList b y.layers l, wm := p }) }

/-- STREAM_OPEN (R117, R122, R170): the lowest free stream; a reference released since acceptance ends it E_PARAM with
nothing changed; no stream, quota or list space ends it E_CAPACITY. -/
def execStreamOpen (d : Nat) (s : State) : Res :=
  let x := s.desc d
  let t := x.e.tenant
  let b := x.blk
  let y := Layout.ofBytes (blkSlot b 0)
  let hs := blkHandles b
  .next (if !x.runs? 0x60 then s
    else match s.freshStream with
    | none => s.finish d .capacity
    | some i =>
      if s.fld F_TN_T_STREAMS_QUOTA t ≤ (s.streamsOf t).length then s.finish d .capacity
      else if !s.refsHeld t hs then s.finish d .param
      else
        let n := s.segTokens hs / max 1 y.tpf + blkGrants b
        if !s.grantsFit y.layers 0 n then s.finish d .capacity
        else
          let c := s.openContext t x.seq b x.data
          let s := (((s.moveRefs t hs).setStream i c).contextWrite i).dropConsts i
          s.finish d .ok { w0 := i, w1 := y.tpf, w2 := n, w3 := c.pfx })

/-! ## Closing -/

/-- A STREAM_CLOSE's record of a stream that it names (R757): the ID, whether it was CLOSING already, and which opening of the ID it was. -/
def State.closeRef (s : State) (i : Nat) : Nat :=
  i + 4096 * (2 * (s.stream i).gen + b2n (decide ((s.stream i).st = .closing)))

/-- The stream ID of such a record. -/
def refId (r : Nat) : Nat := r % 4096

/-- The stream was CLOSING already when the command was accepted. -/
def refWas (r : Nat) : Bool := r / 4096 % 2 == 1

/-- The stream that a record names is there still, in the opening that was accepted. -/
def State.refHere (s : State) (r : Nat) : Bool :=
  decide ((s.stream (refId r)).st ≠ .free) && (s.stream (refId r)).gen == r / 8192

/-- The acceptance of a STREAM_CLOSE puts the streams it names in CLOSING; one that is CLOSING already stays another command's (Table 4.1,
R757). -/
def State.closing (s : State) (seq : Nat) : List Nat → State
  | [] => s
  | r :: l =>
    let x := s.stream (refId r)
    (if x.st = .closing || x.st = .free then s else s.setStream (refId r) { x with st := .closing, closer := some seq }).closing seq l

/-- The STREAM_CLOSE that put a stream in CLOSING has yet to execute. -/
def State.closeDue (s : State) (x : Stream) : Bool :=
  s.q.descs.any (fun p => p.2.e.opcode == 0x61 && some p.2.seq == x.closer && p.2.stage != .wait .others && p.2.stage != .done)

/-- A CLOSING stream without descriptors, its STREAM_CLOSE executed or gone, releases its references and becomes FREE (Table 4.1, R151). -/
def State.freeStream (s : State) (i : Nat) : State :=
  let x := s.stream i
  if x.st = .closing && (s.streamDescs i).isEmpty && !s.closeDue x then ((s.dropSegs x.segs).setStream i {}).contextWrite i else s

/-- A STREAM_CLOSE whose streams are all gone completes (R757). -/
def State.closeDone (s : State) (d : Nat) : State :=
  let x := s.desc d
  if x.e.opcode = 0x61 && x.stage == .wait .others &&
      x.list.all (fun r => !(s.refHere r && decide ((s.stream (refId r)).st = .closing))) then s.finish d .ok x.res
  else s

/-- What a close does to the descriptors of a stream: its watermark waits end E_ABORTED, and with FORCE the executing ones stop too, begun
destination sectors poisoned (R151). The answer counts the ended waiters. -/
def State.stopStream (s : State) (force : Bool) (unfinished : List Nat) (i : Nat) : State × Nat :=
  let w := s.wmEnded i
  let s := s.finishAll .aborted 0 w
  (if force then
      (s.poisonUnfinished (s.destsOf (fun y => y.strm == some i && y.e.opcode != 0x61)) unfinished).finishAll
        .aborted 0 (s.streamDescs i)
    else s, w.length)

/-- The streams of a STREAM_CLOSE: one that this command put in CLOSING is closed and counted; one that was CLOSING at its acceptance is only
stopped when the command forces, and not counted; one put in CLOSING by another command since is waited for; one that is FREE or opened again
is left alone (R151, R757; log entry 102). The answer counts closed streams and ended waiters. -/
def State.closeAll (s : State) (seq : Nat) (force : Bool) (unf : List Nat) : List Nat → Nat × Nat → State × (Nat × Nat)
  | [], n => (s, n)
  | r :: l, n =>
    let i := refId r
    let mine := (s.stream i).closer == some seq
    if !s.refHere r || !(mine || (force && refWas r)) then s.closeAll seq force unf l n
    else
      let (s, w) := s.stopStream force unf i
      (s.freeStream i).closeAll seq force unf l (n.1 + b2n mine, n.2 + w)

/-- The device closes a stream at once and by force, as a removal and a lost stream context need (R491, Table 20.6): whether it was open, and
the ended waiters. -/
def State.closeNow (s : State) (unf : List Nat) (i : Nat) : State × (Nat × Nat) :=
  let x := s.stream i
  if x.st = .free then (s, (0, 0))
  else
    let (s, w) := s.stopStream true unf i
    let s := s.setStream i { s.stream i with st := .closing, closer := none }
    (s.freeStream i, (b2n (decide (x.st ≠ .closing)), w))

/-- The device closes several streams. -/
def State.closeEach (s : State) (unf : List Nat) : List Nat → Nat × Nat → State × (Nat × Nat)
  | [], n => (s, n)
  | i :: l, n =>
    let (s, m) := s.closeNow unf i
    s.closeEach unf l (n.1 + m.1, n.2 + m.2)

/-- A forced close of all streams of a tenant stops the tenant's solve (The Placement Solver, When things go wrong). -/
def State.stopSolve (s : State) (t : Nat) : State :=
  match s.pl.running with
  | some k => if (s.desc k).e.tenant = t then s.finish k .aborted else s
  | none => s

/-- The closing command over the streams it named at its acceptance. -/
def State.closeCmd (s : State) (d : Nat) (force : Bool) (unf : List Nat) : State :=
  let x := s.desc d
  let s := s.stage d (.wait .others)
  let (s, n) := s.closeAll x.seq force unf x.list (0, 0)
  let s := if force && x.e.flag 10 then s.stopSolve x.e.tenant else s
  (s.setDesc d { x with stage := .wait .others, res := { w0 := n.1, w1 := n.2 } }).closeDone d

/-- STREAM_CLOSE (R151, R757). -/
def execStreamClose (d : Nat) (s : State) : Res :=
  .next (if (s.desc d).runs? 0x61 && !(s.desc d).e.flag 9 then s.closeCmd d false [] else s)

/-- STREAM_CLOSE with FORCE (R119, R151): also stops executing descriptors, poisoning begun destination sectors. -/
def execStreamCloseForce (d : Nat) (unfinished : List Nat) (s : State) : Res :=
  .next (if (s.desc d).runs? 0x61 && (s.desc d).e.flag 9 then s.closeCmd d true unfinished else s)

/-- STREAM_FREED (R118): the last descriptor of a CLOSING stream is gone; the commands that waited for it complete. -/
def execStreamFreed (i : Nat) (s : State) : Res :=
  let s := s.freeStream i
  .next (s.sweep State.closeDone (s.descsWhere (fun x => x.e.opcode == 0x61)))

/-! ## Steps and watermarks -/

/-- The through-token of a command (bytes 48-51). -/
def Entry.through (e : Entry) : Nat := bits e.spec 0 32

/-- Every layer of a stream has reached a token. -/
def Stream.reached (x : Stream) (tok : Nat) : Bool := x.layers.all (fun y => decide (tok < y.wm))

/-- The layer's watermark has reached a token. -/
def Stream.layerReached (x : Stream) (l tok : Nat) : Bool := decide (tok < (x.layers.getD l {}).wm)

/-- What a command waits for has come: STEP_COMMIT waits for every layer, the others for their own (R155). -/
def State.wmMet (s : State) (x : Desc) : Bool :=
  let y := s.stream (x.strm.getD 0)
  if x.e.opcode = 0x25 then y.reached x.e.through
  else y.layerReached x.aux x.e.through

/-- Ends a command E_STALE with the watermark and the layer it reports; STEP_COMMIT reports its lowest layer short of the token (R156, Table 4.4).
FN_STALE_CNT counts it when it completes. -/
def State.stale (s : State) (d : Nat) : State :=
  let x := s.desc d
  let y := s.stream (x.strm.getD 0)
  let l := if x.e.opcode = 0x25 then y.layers.findIdx (fun z => !decide (x.e.through < z.wm)) else x.aux
  s.finish d .stale { w0 := tokenReg (y.layers.getD l {}).wm, w1 := l }

/-- Completes several commands E_STALE (R133). -/
def State.staleAll (s : State) : List Nat → State
  | [] => s
  | d :: l => (s.stale d).staleAll l

/-- The commit of a step (R131). -/
def State.commitStep (s : State) (d : Nat) : State :=
  let x := s.desc d
  let i := x.strm.getD 0
  let y := s.stream i
  let y := if y.cTok ≤ x.e.through then { y with cTok := x.e.through + 1, cStep := y.cStep + 1 } else y
  ((s.setStream i y).contextWrite i).finish d .ok { w0 := tokenReg y.cTok, w1 := y.cStep }

/-- Puts a descriptor into a list that is in acceptance order. -/
def State.bySeq (s : State) (d : Nat) : List Nat → List Nat
  | [] => [d]
  | k :: l => if (s.desc d).seq ≤ (s.desc k).seq then d :: k :: l else k :: s.bySeq d l

/-- The satisfied STEP_COMMITs of a command's stream that were accepted no later than it, in acceptance order (R132): those that wait for their
watermark, and those about to run. -/
def State.commitsUpTo (s : State) (d : Nat) : List Nat :=
  let x := s.desc d
  (s.descsWhere (fun y => y.e.opcode == 0x25 && y.strm == x.strm && (y.stage == .wait .watermark || y.stage == .ready) &&
    (s.wmMet y || decide (y.e.through < (s.stream (y.strm.getD 0)).cTok)) && decide (y.seq ≤ x.seq))).foldr s.bySeq []

/-- STEP_COMMIT (R131, R132, R155): at or below the committed token it changes nothing; otherwise every layer must have
reached the token, or the command waits for its budget. -/
def execStepCommit (d : Nat) (s : State) : Res :=
  let x := s.desc d
  let y := s.stream (x.strm.getD 0)
  .next (if !x.runs? 0x25 then s
    else if x.e.through < y.cTok || s.wmMet x then s.sweep State.commitStep (s.commitsUpTo d)
    else if s.budget x.e = 0 then s.stale d
    else s.stage d (.wait .watermark))

/-- A watermark wait whose condition has come: STEP_COMMIT commits, those accepted before it first (R132), the others go on to run (R155,
R756). -/
def State.wmProceed (s : State) (d : Nat) : State :=
  let op := (s.desc d).e.opcode
  if op = 0x25 then s.sweep State.commitStep (s.commitsUpTo d)
  else s.stage d (.wait (if op = 0x24 then .unit else .carrel))

/-- WATERMARK_REACHED (R155). -/
def execWatermarkReached (d : Nat) (s : State) : Res :=
  let x := s.desc d
  .next (if x.stage = .wait .watermark && s.wmMet x then s.wmProceed d else s)

/-- WATERMARK_BUDGET_EXPIRED (R156, R756): E_STALE; a watermark that has reached the token in that tick counts. -/
def execWatermarkBudgetExpired (d : Nat) (s : State) : Res :=
  let x := s.desc d
  .next (if x.stage ≠ .wait .watermark || !s.waitedOut x (s.budget x.e) then s
    else if s.wmMet x then s.wmProceed d
    else s.stale d)

/-! ## Suspension and resumption -/

/-- The rollback of a suspension: every watermark is the committed token, NONE when nothing is committed, also where that lies below the prefix;
trackers cleared (R133 step 2; log entry 103). -/
def Stream.rollback (x : Stream) : Stream :=
  { x with layers := x.layers.map (fun y => { y with wm := x.cTok, trk := [] }) }

/-- Tokens rolled back by a suspension (Table 4.4): the furthest watermark beyond the committed token (DESIGN CHOICE, log entry 144). -/
def Stream.rolledBack (x : Stream) : Nat := (x.layers.map (fun y => y.wm - x.cTok)).foldl max 0

/-- A SUSPENDING stream whose other descriptors are gone rolls back, and its copies may run. -/
def State.suspendProgress (s : State) (d : Nat) : State :=
  let x := s.desc d
  let i := x.strm.getD 0
  if x.e.opcode = 0x62 && x.stage == .wait .others &&
      ((s.streamDescs i).filter (fun k => k != d)).isEmpty then
    let y := s.stream i
    (s.setStream i y.rollback).setDesc d
      { x with stage := .wait .copies, res := { w1 := y.rolledBack, w2 := tokenReg y.cTok } }
  else s

/-- What the acceptance of a suspension does at once: SUSPENDING, and the stream's watermark waits end E_STALE (R133
step 1). -/
def State.suspending (s : State) (i : Nat) : State :=
  (s.setStream i { s.stream i with st := .suspending }).staleAll (s.wmWaiters i)

/-- STREAM_SUSPEND (R133): SUSPENDING, the stream's watermark waits end E_STALE, and it waits for the others. A stream that a forced close has
put in CLOSING since stays CLOSING. -/
def execStreamSuspend (d : Nat) (s : State) : Res :=
  let x := s.desc d
  let i := x.strm.getD 0
  let st := (s.stream i).st
  .next (if !x.runs? 0x62 then s
    else if st ≠ .active && st ≠ .suspending && st ≠ .closing then s.finish d .param { w0 := st.code, w1 := 1 }
    else (((if st = .closing then s else s.suspending i).staleAll (s.wmWaiters i)).stage d (.wait .others)).suspendProgress d)

/-- The client-granted entries of a stream in layer-major list order, as TFNs. -/
def Stream.grants (y : Stream) : List Nat :=
  ((y.layers.map (fun z => z.list)).flatten).filterMap (fun e => match e with | .grant k => some k | .seg _ => none)

/-- A TFN of the tenant names a hot-tier DFN (R135). -/
def State.hotTfn (s : State) (t k : Nat) : Bool := (s.entry t k).valid && s.isHot (s.entry t k).dfn

/-- The hot client-granted entries of a stream, whose mirror entries name hot-tier DFNs (R135). -/
def State.hotGrants (s : State) (t : Nat) (y : Stream) : List Nat := y.grants.filter (s.hotTfn t)

/-- The places of those entries, layer × 65,536 + number in its list, which has at most 65,536 entries (R135). -/
def State.hotPlaces (s : State) (t : Nat) (y : Stream) : List Nat :=
  ((y.layers.zip (List.range y.layers.length)).map (fun p =>
    (p.1.list.zip (List.range p.1.list.length)).filterMap (fun e => match e.1 with
      | .grant k => if s.hotTfn t k then some (p.2 * 65536 + e.2) else none
      | .seg _ => none))).flatten

/-- A whole write of a sector by a copy whose bytes are in memory: its tag, the bandwidth that it uses, and its line, which is updated where it is
resident and installed where the access is pinned or carries KEEP (R230, R231, R355). -/
def State.copiedSector (s : State) (k : Nat) (w : For) (sec : Nat) : State :=
  let s := (s.useCredit w.tenant sec 256).retag sec
  let h := ({} : Via).hint (metaHint [k] 0)
  let pin := metaPin [k] 0
  s.cacheAccess sec (s.memHandle (s.owner (sec / 256)).tenant) h (some pin) (pin != 0 || decide (h = .keep))

/-- Copies one folio to another by the mover (R34): every sector is read, and when all read well the destination holds the
same bytes in whole, readable sectors (R344, R355). The accesses carry the pin classes and hints that the descriptor records (R236). -/
def State.copyFolio (s : State) (a b : Nat × Nat) (w : For) : State × Status :=
  let ((a, ka), (b, kb)) := (a, b)
  let (s, m) := s.readAccess [a] (some [ka]) 0 65536 {} w
  if m.status ≠ .ok then (s, m.status)
  else
    let zeros := (List.range 256).filter (fun i => s.freshAt (a * 256 + i))
    let s := s.copyMem (a * 65536) (b * 65536) 65536
    let s := (zeros.foldl (fun s i => s.zeroMem ((b * 256 + i) * 256) 256) s).queueWrite (b * 65536) 65536 w.seq
    let s := { s with poison := s.poison.filter (fun x => x / 256 != b) }
    ((List.range' (b * 256) 256).foldl (fun s x => s.copiedSector kb w x) s, .ok)

/-- Copies the folios of a suspension in order, at most `n` of them; the answer counts copies done and gives the status of
the one that failed. -/
def State.copyFolios (s : State) (w : For) : Nat → List ((Nat × Nat) × (Nat × Nat)) → Nat → State × Nat × Status
  | 0, _, k => (s, k, .ok)
  | _, [], k => (s, k, .ok)
  | n + 1, (a, b) :: l, k =>
    match s.copyFolio a b w with
    | (s, .ok) => s.copyFolios w n l (k + 1)
    | (s, st) => (s, k, st)

/-- A list whose first entry stands at place `n`, with the entries at the hot places renamed to the warm TFNs, in order, and its prefix entries
cleared (R133, R135). `hot` are the places that were hot at the command's acceptance; what an EXTEND has granted since stands behind them and is
neither copied nor renamed. -/
def renameList (hot : List Nat) : Nat → List ListEntry → List Nat → List ListEntry × List Nat
  | _, [], w => ([], w)
  | n, .seg _ :: l, w => renameList hot (n + 1) l w
  | n, .grant k :: l, w =>
    if inSet hot n then
      let (r, w') := renameList hot (n + 1) l w.tail
      (.grant (w.headD k) :: r, w')
    else
      let (r, w') := renameList hot (n + 1) l w
      (.grant k :: r, w')

/-- The lists of the layers from number `n` on renamed. -/
def renameFrom (hot : List Nat) : Nat → List Layer → List Nat → List Layer
  | _, [], _ => []
  | n, y :: l, w =>
    let (r, w') := renameList hot (n * 65536) y.list w
    { y with list := r } :: renameFrom hot (n + 1) l w'

/-- The lists of all layers renamed. -/
def renameLayers (hot : List Nat) (l : List Layer) (w : List Nat) : List Layer := renameFrom hot 0 l w

/-- A status from its code (Table 3.6). -/
def Status.ofCode (n : Nat) : Status :=
  ([.ok, .param, .perm, .nomap, .integrity, .poison, .timeout, .stale, .retired, .capacity, .aborted, .quarantine,
    .unsupported, .busy, .fencePoison, .moved, .feasibility] : List Status).getD n .aborted

/-- A stream after its suspension: lists renamed, prefix entries and references gone, SUSPENDED unless it is being closed (R133 steps 4
and 5). -/
def Stream.suspended (y : Stream) (hot warm : List Nat) : Stream :=
  { y with st := if y.st = .closing then .closing else .suspended, segs := [], layers := renameLayers hot y.layers warm }

/-- STREAM_RESUME without EXTEND (R136, R170): the named segments' references become the prefix, then grants are added
and the stream is ACTIVE; otherwise it stays SUSPENDED. -/
def execStreamResume (d : Nat) (s : State) : Res :=
  let x := s.desc d
  let i := x.strm.getD 0
  let y := s.stream i
  let hs := blkHandles x.blk
  .next (if !(x.runs? 0x63 && !x.e.flag 9) then s
    else if y.st ≠ .suspended && y.st ≠ .resuming && y.st ≠ .closing then s.finish d .param { w0 := y.st.code, w1 := 1 }
    else if s.segTokens hs ≠ y.pfx || !hs.all (s.segFits y.layout) || !s.refsHeld x.e.tenant hs then s.finish d .param
    else
      let k := y.pfx / max 1 y.layout.tpf
      if !s.grantsFit y.layers.length y.listLen (k + blkGrants x.blk) then s.finish d .capacity
      else
        let ls := (y.layers.zip (List.range y.layers.length)).map (fun p =>
          { p.1 with list := s.segList y.layout.tpf p.2 hs ++ p.1.list ++ grantList x.blk y.layers.length p.2 })
        let y := { y with st := if y.st = .closing then .closing else .active, segs := hs, layers := ls, slots := blkSlots x.blk y.slots }
        let s := ((s.moveRefs x.e.tenant hs).setStream i y).contextWrite i
        s.finish d .ok { w0 := y.listLen, w2 := tokenReg y.cTok })

/-- STREAM_RESUME with EXTEND (R137): adds grants and slots to the stream, which was ACTIVE at its acceptance; a suspension or a close accepted
since lets it finish (R133, R151). -/
def execStreamResumeExtend (d : Nat) (s : State) : Res :=
  let x := s.desc d
  let i := x.strm.getD 0
  let y := s.stream i
  .next (if !(x.runs? 0x63 && x.e.flag 9) then s
    else if y.st ≠ .active && y.st ≠ .suspending && y.st ≠ .closing then s.finish d .param { w0 := y.st.code, w1 := 1 }
    else if !s.grantsFit y.layers.length y.listLen (blkGrants x.blk) then s.finish d .capacity
    else
      let ls := (y.layers.zip (List.range y.layers.length)).map (fun p =>
        { p.1 with list := p.1.list ++ grantList x.blk y.layers.length p.2 })
      let set := [1, 2, 3].filter (fun k => !(blkSlot x.blk k).all (· == 0))
      let y := { y with
        layers := ls, slots := blkSlots x.blk y.slots
        was := set.foldl (fun m k => kvInsert m k (s.q.nextSeq, kvGet {} y.slots k)) y.was }
      ((s.setStream i y).contextWrite i).finish d .ok { w0 := y.listLen, w2 := tokenReg y.cTok })

end Sys2Proof.Machine
end

