-- ==== Sys2Proof/Machine/CarrelOps.lean ====
section
/-!
DEFINITION. Carrel commands as tasks: requests, division into tasks, what a task reads and computes, the clusters' wakes, the
output of a command (Carrels and Attention in the Pool).
-/
namespace Sys2Proof.Machine

/-! ## Requests (Tables 6.8 to 6.11) -/

/-- The header of ATTEND or SCORE_TOPK. -/
structure AttendReq where
  kvFirst : Nat
  kvCount : Nat
  group : Nat
  ranges : Nat
  first : Nat
  scale : Nat
  qf : Nat
  pf : Nat
  hint : Nat
  agg : Nat := 0
  k : Nat := 0
  rsv : Bool
  deriving DecidableEq, Repr

/-- The ATTEND header of a request (Table 6.8). -/
def attendReq (b : List Byte) : AttendReq :=
  let w := leAt b 0 4
  let v := leAt b 12 4
  { kvFirst := bits w 0 7, kvCount := bits w 8 7, group := bits w 16 5, ranges := bits w 24 7, first := leAt b 4 4,
    scale := leAt b 8 4, qf := bits v 0 1, pf := bits v 1 1, hint := bits v 2 2,
    rsv := bit w 7 || bit w 15 || bits w 21 3 != 0 || bit w 31 || bits v 4 28 != 0 || leAt b 16 48 != 0 }

/-- The SCORE_TOPK header of a request (Table 6.10). -/
def scoreReq (b : List Byte) : AttendReq :=
  let w := leAt b 0 4
  let v := leAt b 12 4
  { kvFirst := bits w 0 6, kvCount := 1, group := bits w 8 5, ranges := 0, first := leAt b 4 4, scale := leAt b 8 4,
    qf := bits v 0 1, pf := 0, hint := bits v 2 2, agg := bits w 13 1, k := bits w 16 12,
    rsv := bits w 6 2 != 0 || bits w 14 2 != 0 || bits w 28 4 != 0 || bits v 1 1 != 0 || bits v 4 28 != 0 ||
      leAt b 16 48 != 0 }

/-- The request of a descriptor of ATTEND or SCORE_TOPK. -/
def Desc.attend (x : Desc) : AttendReq := if x.e.opcode = 0x43 then scoreReq x.blk else attendReq x.blk

/-- The refusals of an ATTEND or SCORE_TOPK header over a stored layout for a command of `len` bytes (Table 6.8, R218). -/
def AttendReq.ok (r : AttendReq) (y : Layout) (score : Bool) (len through : Nat) : Bool :=
  !r.rsv && decide (1 ≤ r.kvCount) && decide (r.kvCount ≤ 64) && decide (r.kvFirst + r.kvCount ≤ y.heads) &&
  decide (1 ≤ r.group) && decide (r.group ≤ 16) && decide (r.ranges ≤ 64) && fp32Pos r.scale &&
  len == 64 + r.kvCount * r.group * y.dim * 2 && decide (r.first ≤ through) &&
  (!score || (decide (1 ≤ r.k) && decide (r.k ≤ 2048)))

/-- The header of an ATTEND or SCORE_TOPK passes the checks that need no stream. -/
def AttendReq.headOk (r : AttendReq) (score : Bool) (len through : Nat) : Bool :=
  [0, 1, 2].any (fun h => r.ok { heads := 64, hdim := h } score len through)

/-- The REDUCE_PARTIAL header of a request: dimension code, inputs, output form, heads, reserved bits (Table 6.9). -/
structure ReduceReq where
  hdim : Nat
  inputs : Nat
  out : Nat
  heads : Nat
  rsv : Bool
  deriving DecidableEq, Repr

/-- The REDUCE_PARTIAL header that bytes spell. -/
def reduceReq (b : List Byte) : ReduceReq :=
  let w := leAt b 0 4
  let v := leAt b 4 4
  { hdim := bits w 0 2, inputs := bits w 8 7, out := bits w 16 2, heads := bits v 0 13,
    rsv := bits w 2 6 != 0 || bit w 15 || bits w 18 14 != 0 || bits v 13 19 != 0 || leAt b 8 56 != 0 }

/-- The elements of a dimension code. -/
def dimOf (h : Nat) : Nat := 64 * 2 ^ h

/-- The bytes of a partial (R210). -/
def partialBytes (dim : Nat) : Nat := 4 * dim + 8

/-- The refusals of a REDUCE_PARTIAL header. -/
def ReduceReq.ok (r : ReduceReq) (len : Nat) : Bool :=
  !r.rsv && decide (r.hdim ≤ 2) && decide (2 ≤ r.inputs) && decide (r.inputs ≤ 64) && decide (r.out ≤ 2) &&
  decide (1 ≤ r.heads) && decide (r.heads ≤ 4096) &&
  len == 64 + r.inputs * r.heads * partialBytes (dimOf r.hdim)

/-- The QUANTIZE control word and explicit scale (Table 6.11, R217). -/
structure QuantReq where
  src : Nat
  dst : Nat
  mode : Nat
  scale : Nat
  deriving DecidableEq, Repr

/-- The control word of an entry. -/
def quantReq (e : Entry) : QuantReq :=
  { src := bits e.spec 0 4, dst := bits e.spec 4 4, mode := bits e.spec 8 2, scale := bits e.spec 32 32 }

/-- The bytes of `n` elements of a format without its block scales. -/
def elemBytes (p n : Nat) : Nat := (if p = 10 then 32 else elemWidth p) * n / 8

/-- The bytes that QUANTIZE writes: elements, then the block scales of an MX format (R223). -/
def quantBytes (p n : Nat) : Nat := elemBytes p n + if isMx p then n / 32 else 0

/-! ## Division into tasks (R198, R199, R201) -/

/-- The number of ranges for `n` tokens over `kv` KV heads. -/
def State.rangeCount (s : State) (ranges kv n : Nat) : Nat :=
  if ranges ≠ 0 then ranges
  else max 1 (min (s.fld F_CR_ATTEND_CFG_TASKS / max 1 kv) (n / max 1 (s.fld F_CR_ATTEND_CFG_MIN_RANGE)))

/-- First token and token count of range `r` of `rs` over `n` tokens that begin at `first`. -/
def rangeOf (first n rs r : Nat) : Nat × Nat :=
  let q := n / max 1 rs
  let m := n % max 1 rs
  (first + r * q + min r m, q + if r < m then 1 else 0)

/-- The tokens of an ATTEND or SCORE_TOPK. -/
def Desc.tokens (x : Desc) : Nat := x.e.through + 1 - x.attend.first

/-- What a carrel command divides into: tasks, ranges, tokens, bytes of output. -/
structure Plan where
  tasks : Nat
  ranges : Nat := 0
  tokens : Nat := 0
  bytes : Nat
  deriving DecidableEq, Repr

/-- The stored layout of the stream that a command names. -/
def State.layoutOf (s : State) (x : Desc) : Layout := (s.stream (x.strm.getD 0)).layout

/-- The division of a command. -/
def State.plan (s : State) (x : Desc) : Plan :=
  if x.e.opcode = 0x40 then
    let r := x.attend
    let n := x.tokens
    let rs := s.rangeCount r.ranges r.kvCount n
    let pb := partialBytes (s.layoutOf x).dim
    { tasks := r.kvCount * rs, ranges := rs, tokens := n,
      bytes := r.kvCount * r.group * pb * if x.e.flag 10 then 1 else rs }
  else if x.e.opcode = 0x43 then
    let n := x.tokens
    let rs := s.rangeCount 0 1 n
    { tasks := rs, ranges := rs, tokens := n, bytes := 8 * x.attend.k }
  else if x.e.opcode = 0x41 then
    let r := reduceReq x.blk
    let dim := dimOf r.hdim
    { tasks := ceilDiv r.heads 64,
      bytes := r.heads * (if r.out = 0 then partialBytes dim else if r.out = 1 then 4 * dim else 2 * dim) }
  else
    let r := quantReq x.e
    { tasks := ceilDiv (elemBytes r.src x.e.len) 1048576, bytes := quantBytes r.dst x.e.len }

/-! ## Clusters -/

/-- A cluster that takes tasks (R194, R225). -/
def State.clusterReady (s : State) (k : Nat) : Bool := (s.cluster k).st == 3 && !(s.cluster k).removing

/-- A cluster whose self-test has passed and that becomes READY at the next dispatch boundary (Table 6.2). -/
def State.clusterPassed (s : State) (k : Nat) : Bool := (s.cluster k).st == 5 && (s.cluster k).passed

/-- The clusters of which a test holds. -/
def State.clustersWhere (_s : State) (p : Nat → Bool) : List Nat := (List.range 8).filter p

/-- Tasks of dispatched commands that run or wait (R196). -/
def State.tasksLeft (s : State) : Nat :=
  (s.cr.cmds.map (fun p => (p.2.tasks.filter (fun t => t.st != 2)).length)).foldl (· + ·) 0

/-- The wake request of a cluster is examined (R596, R644): granted, the cluster is WAKING; refused, it stays in its state,
the request stays pending and is counted. -/
def State.examineWake (s : State) (k : Nat) : State :=
  let x := s.cluster k
  if s.wakeOk k then
    let s := { s with cr := { s.cr with wakes := s.cr.wakes.filter (fun w => w.1 != k) } }
    s.setCluster k { x with st := 2, prev := x.st }
  else s.bump F_CK_WAKE_REFUSED_REFUSED

/-- A carrel command raises its wake request (R196): for the tasks it will have and those already assigned or waiting,
eight to a cluster, it wakes GATED clusters before OFF ones, lowest index first; clusters that are READY, WAKING or already
asked for count. -/
def State.wantWake (s : State) (d n : Nat) : State :=
  let seq := (s.desc d).seq
  let asked (k : Nat) : Bool := s.cr.wakes.any (fun w => w.1 == k)
  let have_ := s.clustersWhere (fun k => s.clusterReady k || (s.cluster k).st == 2 || asked k)
  let need := min 8 (ceilDiv (s.tasksLeft + n) 8)
  let cand := s.clustersWhere (fun k => (s.cluster k).st == 1 && !asked k) ++
    s.clustersWhere (fun k => (s.cluster k).st == 0 && !asked k)
  let pick := cand.take (need - have_.length)
  let ws := s.cr.wakes.map (fun (w : Nat × List Nat) => (w.1, w.2 ++ [seq]))
  let s := { s with cr := { s.cr with wakes := ws ++ pick.map (fun k => (k, [seq])) } }
  pick.foldl State.examineWake s

/-- A command of an acceptance number still waits for carrels: not dispatched, or with a task not yet assigned (R597). -/
def State.waitsCarrel (s : State) (seq : Nat) : Bool :=
  s.q.descs.any (fun p => p.2.seq == seq && p.2.stage != .done &&
    (p.2.stage == .wait .carrel || p.2.stage == .wait .fence || p.2.stage == .wait .watermark || p.2.stage == .ready ||
      p.2.stage == .wait .dataIn || p.2.stage == .wait .link || (s.carrelCmd p.1).tasks.any (fun t => t.st == 0)))

/-- Withdraws pending wakes that no command waits for (R597). -/
def State.withdrawWakes (s : State) : State :=
  { s with cr := { s.cr with wakes := s.cr.wakes.filter (fun w => w.2.any s.waitsCarrel) } }

/-! ## What a task reads -/

/-- The hint of a KV_HINT field over a folio default (R234). -/
def kvVia (h : Nat) : Via :=
  { cmd := if h = 1 then some .evictFirst else if h = 2 then some .normal else if h = 3 then some .keep else none,
    dflt := .evictFirst }

/-- Where the stored vector of a token, head and component lies: folio index in the descriptor's list, device address
(R262). -/
def Desc.vecAt (x : Desc) (y : Layout) (t h c : Nat) : Nat × Nat :=
  let i := t / max 1 y.tpf - x.list.headD 0
  (i, x.src.getD i 0 * 65536 + y.vecOff y.tpf y.heads (t % max 1 y.tpf) h c)

/-- The pieces of a stored vector. -/
def Desc.vecPieces (x : Desc) (y : Layout) (t h c : Nat) : List Piece :=
  let (i, a) := x.vecAt y t h c
  (pieces [a / 65536] (a % 65536) y.vb).map (fun (p : Piece) => { p with folio := i })

/-- One piece per sector. -/
def oncePerSector : List Piece → List Piece → List Piece
  | acc, [] => acc.reverse
  | acc, p :: l => oncePerSector (if acc.any (fun q => q.sec == p.sec) then acc else p :: acc) l

/-- The decoded stored vectors of a head over a token range. -/
def State.kvVecs (s : State) (x : Desc) (y : Layout) (t n h c : Nat) : List (List Num) :=
  (List.range n).map (fun i => decVec y.prec y.dim (s.lookMem (x.vecAt y (t + i) h c).2 y.vb))

/-- The query vectors of a request for KV head number `i` of it. -/
def Desc.queries (x : Desc) (dim i : Nat) : List (List Num) :=
  let r := x.attend
  (List.range r.group).map (fun g =>
    decVec (if r.qf = 1 then 0 else 1) dim ((x.blk.drop (64 + (i * r.group + g) * dim * 2)).take (dim * 2)))

/-- A computed task: the sectors it met, output bytes, block scales, what it counted, what its last tile leaves in scratch. -/
structure TaskOut where
  met : Met := {}
  out : List Byte := []
  scales : List Byte := []
  nan : Nat := 0
  sat : Nat := 0
  tile : List Byte := []
  deriving DecidableEq, Repr

/-- The last tile of a list of decoded vectors, as FP32 words. -/
def lastTile (v : List (List Num)) : List Byte := ((v.drop ((v.length - 1) / 32 * 32)).map f32Bytes).flatten

/-! ## A carrel's caches and scratch (R246 to R249) -/

/-- The parameters of a task of a command, from its descriptor. -/
def State.taskArgs (s : State) (d i : Nat) : TaskArgs :=
  let x := s.desc d
  let r := x.attend
  let rs := (s.carrelCmd d).ranges
  if x.e.opcode = 0x40 then
    let t := rangeOf r.first x.tokens rs (i % max 1 rs)
    { head := r.kvFirst + i / max 1 rs, first := t.1, count := t.2, runs := x.src }
  else if x.e.opcode = 0x43 then
    let t := rangeOf r.first x.tokens rs i
    { head := r.kvFirst, first := t.1, count := t.2, runs := x.src }
  else if x.e.opcode = 0x41 then { first := 64 * i, count := min 64 ((reduceReq x.blk).heads - 64 * i) }
  else
    let total := elemBytes (quantReq x.e).src x.e.len
    { first := i * 1048576, count := min 1048576 (total - i * 1048576), runs := x.src }

/-- The scales of a stream's layer and head as the stream context holds them. -/
def State.scalesOf (s : State) (strm layer head : Nat) : Scales :=
  let x := s.stream strm
  { strm := strm, layer := layer, head := head, k := x.layout.scale x.scales layer head 0, v := x.layout.scale x.scales layer head 1 }

/-- The entry of the constants cache for a layer and head. -/
def Carrel.const (x : Carrel) (strm layer head : Nat) : Option Scales :=
  x.consts.find? (fun e => e.strm == strm && e.layer == layer && e.head == head)

/-- The constants that a task uses: from the carrel's cache. -/
def State.constants (s : State) (c : Nat) (x : Desc) (head : Nat) : Scales :=
  ((s.carrel c).const (x.strm.getD 0) x.aux head).getD (s.scalesOf (x.strm.getD 0) x.aux head)

/-- Fills the constants that a task of ATTEND or SCORE_TOPK needs from the stream context (R248); the oldest of more than 8,192 entries leave
the 64 KiB (DESIGN CHOICE, log entry 113). -/
def State.fillConst (s : State) (c : Nat) (x : Desc) (head : Nat) : State :=
  let i := x.strm.getD 0
  if ((s.carrel c).const i x.aux head).isSome then s
  else (s.metaAccess (s.streamSec i) true).setCarrel c { s.carrel c with
    consts := (s.scalesOf i x.aux head :: (s.carrel c).consts).take 8192 }

/-- The decode table of an MX format: the FP32 code of every element code, in order (Table 7.3). -/
def mxTable (p : Nat) : List Byte := ((List.range (2 ^ elemWidth p)).map (fun c => leBytes 4 (f32Code (decElem p c)))).flatten

/-- Fills the decode table of a format, if it is an MX format that the cache does not hold yet (R248). -/
def Carrel.fillTable (y : Carrel) (p : Nat) : Carrel :=
  if isMx p && !y.tables.any (fun e => e.1 == p) then { y with tables := (p, mxTable p) :: y.tables } else y

/-- Fills the library code of a kernel (R248): what the library's kernel of an opcode is, the spec does not say (FREE VALUE, log entry 131). -/
def Carrel.fillKernel (y : Carrel) (lib op : Nat) : Carrel :=
  if y.kernels.any (fun e => e.1 == op) then y else { y with kernels := (op, Config.kernelCode lib op) :: y.kernels }

/-- m, s and o of the query heads of a task before its first tile (R205). -/
def freshRunning (group dim : Nat) : List Byte :=
  (List.replicate group (f32Bytes (List.replicate dim Num.zero ++ [Num.inf true, Num.zero]))).flatten

/-- A carrel takes a task (R246 to R248): its scratch is zeroed before a task of another tenant, then holds the query vectors; the caches
hold the task's kernel, parameters and constants. -/
def State.loadCarrel (s : State) (c d i : Nat) : State :=
  let x := s.desc d
  let y := s.carrel c
  let a := s.taskArgs d i
  let dim := (s.layoutOf x).dim
  let r := x.attend
  let kv := x.e.opcode == 0x40 || x.e.opcode == 0x43
  let z : Scratch := if y.last = some x.e.tenant then y.scratch else {}
  let z := if kv then { z with
      queries := (x.blk.drop (64 + (a.head - r.kvFirst) * r.group * dim * 2)).take (r.group * dim * 2)
      running := if x.e.opcode = 0x40 then freshRunning r.group dim else z.running }
    else z
  let y := (y.fillKernel s.cr.klib x.e.opcode).fillTable (if kv then (s.layoutOf x).prec else if x.e.opcode = 0x42 then (quantReq x.e).src else 0)
  let s := s.setCarrel c { y with task := some (d, i), last := some x.e.tenant, scratch := z, args := some a }
  if kv then s.fillConst c x a.head else s

/-- The read-only caches of a carrel are filled again from their sources (R258). -/
def State.refetch (s : State) (c : Nat) : State :=
  let y := s.carrel c
  s.setCarrel c { y with
    consts := y.consts.map (fun e => s.scalesOf e.strm e.layer e.head), tables := y.tables.map (fun e => (e.1, mxTable e.1))
    kernels := y.kernels.map (fun e => (e.1, Config.kernelCode s.cr.klib e.1)), args := y.task.map (fun t => s.taskArgs t.1 t.2) }

/-! ## The tasks -/

/-- The constant c of a task: SCALE × the K scale of the layer and head, rounded once. -/
def scaleConst (r : AttendReq) (ks : Nat) : Num := fmul (f32Of r.scale) (f32Of ks)

/-- The pieces that a task of a carrel command reads: keys and values of a range, keys alone, a part of the source. -/
def State.taskReads (s : State) (x : Desc) (a : TaskArgs) : List Piece :=
  let y := (s.stream (x.strm.getD 0)).layout
  let vec (k c : Nat) : List Piece := x.vecPieces y (a.first + k) a.head c
  if x.e.opcode = 0x40 then ((List.range a.count).map (fun k => vec k 0 ++ vec k 1)).flatten
  else if x.e.opcode = 0x43 then ((List.range a.count).map (fun k => vec k 0)).flatten
  else if x.e.opcode = 0x42 then
    (pieces x.src x.e.opA (elemBytes (quantReq x.e).src x.e.len)).filter (fun p =>
      decide (p.off < a.first + a.count) && decide (a.first < p.off + p.len))
  else []

/-- A task of ATTEND: KV head and range (R198, R205, R208). -/
def State.attendTask (s : State) (x : Desc) (a : TaskArgs) (c : Scales) : State × TaskOut :=
  let r := x.attend
  let y := (s.stream (x.strm.getD 0)).layout
  let (h, t, n) := (a.head, a.first, a.count)
  let (s, m) := s.readPieces (some x.smeta) (kvVia r.hint) x.who (oncePerSector [] (s.taskReads x a)) {}
  if m.status ≠ .ok then (s, { met := m })
  else
    let k := s.kvVecs x y t n h 0
    let v := s.kvVecs x y t n h 1
    let qs := x.queries y.dim (h - r.kvFirst)
    (s, { met := m, out := (qs.map (fun q => (attendHead r.pf (scaleConst r c.k) (f32Of c.v) q k v).bytes)).flatten
          tile := lastTile k ++ lastTile v })

/-- The bytes of a record of SCORE_TOPK (R222). -/
def recBytes (r : Nat × Num) : List Byte := leBytes 4 r.1 ++ leBytes 4 (f32Code r.2)

/-- The records that bytes spell. -/
def recsOf (b : List Byte) : List (Nat × Num) :=
  (List.range (b.length / 8)).map (fun i => (leAt b (8 * i) 4, f32Of (leAt b (8 * i + 4) 4)))

/-- A task of SCORE_TOPK: the records of its range, best first, and the tokens it excludes (R199, R222). -/
def State.scoreTask (s : State) (x : Desc) (a : TaskArgs) (c : Scales) : State × TaskOut :=
  let r := x.attend
  let y := (s.stream (x.strm.getD 0)).layout
  let (t, n) := (a.first, a.count)
  let (s, m) := s.readPieces (some x.smeta) (kvVia r.hint) x.who (oncePerSector [] (s.taskReads x a)) {}
  if m.status ≠ .ok then (s, { met := m })
  else
    let k := s.kvVecs x y t n a.head 0
    let xs := (x.queries y.dim 0).map (fun q => scores (scaleConst r c.k) q k)
    let ags := (List.range n).map (fun j => (t + j, aggregate r.agg (xs.map (fun l => l.getD j .zero))))
    let good := (ags.filter (fun a => !a.2.isNan)).foldl placeRec []
    (s, { met := m, out := ((good.take r.k).map recBytes).flatten, nan := n - good.length, tile := lastTile k })

/-- A partial that a task or a merge of this command wrote. -/
def Partial.read (dim : Nat) (b : List Byte) : Partial :=
  let m := f32Of (leAt b (4 * dim) 4)
  if m.isNan then .nan dim
  else .vals ((List.range dim).map (fun i => f32Of (leAt b (4 * i) 4))) m (f32Of (leAt b (4 * dim + 4) 4))

/-- A task of REDUCE_PARTIAL: 64 heads; `nan` counts NaN heads and `sat` empty heads (R199, R213, R221). -/
def reduceTask (x : Desc) (a : TaskArgs) : TaskOut :=
  let r := reduceReq x.blk
  let dim := dimOf r.hdim
  let pb := partialBytes dim
  let hs := List.range' a.first a.count
  let ps := hs.map (fun h => mergeTree dim 6 ((List.range r.inputs).map (fun n =>
    Partial.ofBytes dim ((x.blk.drop (64 + (n * r.heads + h) * pb)).take pb))))
  { out := (ps.map (fun p => if r.out = 0 then p.bytes else p.normal r.out dim)).flatten,
    nan := (ps.filter Partial.isNan).length, sat := (ps.filter Partial.isEmpty).length }

/-- The scale of QUANTIZE as an FP32 code (Table 6.11). With SCALE_MODE 2 and a source without a non-zero finite magnitude, or
with a NaN or an infinity, the spec states no value: a FREE VALUE (log entry 7). -/
def State.quantScale (s : State) (x : Desc) : Nat :=
  let r := quantReq x.e
  if r.mode = 0 then 0x3F80_0000
  else if r.mode = 1 then r.scale
  else
    let b := s.readRuns x.src x.e.opA 0 (elemBytes r.src x.e.len)
    let vs := decVec r.src x.e.len b
    let a := vs.foldl (fun m v => m.max v.abs) Num.zero
    if vs.all Num.finite && !a.isZero then f32Code (fdiv (decElem r.dst (elemOf r.dst).maxCode) a)
    else (Config.quantScale r.src r.dst b).toNat

/-- A task of QUANTIZE: 1 MiB of the source (R199, R223). With SCALE_MODE 2 the source is read twice, once for its largest magnitude. -/
def State.quantTask (s : State) (x : Desc) (a : TaskArgs) : State × TaskOut :=
  let r := quantReq x.e
  let lo := a.first
  let n := a.count
  let ps := s.taskReads x a
  let first := if r.mode = 2 then s.readPieces (some x.smeta) {} x.who ps {} else (s, {})
  let (s, m) := if first.2.status = .ok then first.1.readPieces (some x.smeta) {} x.who ps {} else first
  if m.status ≠ .ok then (s, { met := m })
  else
    let b := s.readRuns x.src x.e.opA lo n
    let k := 8 * n / (if r.src = 10 then 32 else elemWidth r.src)
    let sc := s.quantScale x
    let one := f32Of sc == .fin false (2 ^ 23) (-23)
    if r.src = r.dst && one then (s, { met := m, out := b })
    else
      let (o, ev) := encVec r.dst ((decVec r.src k b).map (fun v => v.mul (f32Of sc)))
      let eb := elemBytes r.dst k
      (s, { met := m, out := o.take eb, scales := o.drop eb, nan := ev.nan, sat := ev.sat })

/-- What the task on a carrel computes, with the parameters and constants of the carrel's caches; what it leaves in scratch. -/
def State.runTask (s : State) (c d i : Nat) : State × TaskOut :=
  let x := s.desc d
  let a := (s.carrel c).args.getD (s.taskArgs d i)
  let k := s.constants c x a.head
  let (s, o) := if x.e.opcode = 0x40 then s.attendTask x a k
    else if x.e.opcode = 0x43 then s.scoreTask x a k
    else if x.e.opcode = 0x41 then (s, reduceTask x a)
    else s.quantTask x a
  let z := (s.carrel c).scratch
  (s.setCarrel c { s.carrel c with scratch := { z with
    tile := if x.e.opcode = 0x40 || x.e.opcode = 0x43 then o.tile else z.tile
    running := if x.e.opcode = 0x40 || x.e.opcode = 0x41 then o.out else z.running } }, o)

/-! ## The output of a command -/

/-- The partials of ATTEND in output order: as its tasks give them, or with MERGE one per query head over its ranges in
ascending token order (R213, R220). -/
def attendOut (x : Desc) (dim rs : Nat) (ts : List Task) : List Partial :=
  let r := x.attend
  let pb := partialBytes dim
  let get (t g : Nat) : Partial := Partial.read dim (((ts.getD t {}).out.drop (g * pb)).take pb)
  if x.e.flag 10 then
    ((List.range r.kvCount).map (fun h => (List.range r.group).map (fun g =>
      mergeTree dim 6 ((List.range rs).map (fun k => get (h * rs + k) g))))).flatten
  else ((List.range (r.kvCount * rs)).map (fun t => (List.range r.group).map (fun g => get t g))).flatten

/-- The output bytes and the result field of a command whose tasks have all succeeded (Table 6.12); the last answer counts
NaN partials and heads. -/
def State.carrelOut (s : State) (d : Nat) : List Byte × Result × Nat :=
  let x := s.desc d
  let c := s.carrelCmd d
  let nan := (c.tasks.map (·.nan)).foldl (· + ·) 0
  let sat := (c.tasks.map (·.sat)).foldl (· + ·) 0
  if x.e.opcode = 0x40 then
    let ps := attendOut x (s.layoutOf x).dim c.ranges c.tasks
    let n := (ps.filter Partial.isNan).length
    ((ps.map Partial.bytes).flatten, { w0 := c.tasks.length, w1 := n, w2 := c.ranges, w3 := c.tokens }, n)
  else if x.e.opcode = 0x43 then
    let k := x.attend.k
    let rs := (c.tasks.map (fun t => recsOf t.out)).flatten
    ((((topK k rs).map recBytes).flatten), { w0 := min k rs.length, w1 := nan, w2 := c.ranges, w3 := c.tokens }, 0)
  else if x.e.opcode = 0x41 then
    ((c.tasks.map (·.out)).flatten, { w0 := (reduceReq x.blk).heads, w1 := sat, w2 := nan }, nan)
  else
    ((c.tasks.map (·.out)).flatten ++ (c.tasks.map (·.scales)).flatten,
      { w0 := s.quantScale x, w1 := sat, w2 := nan }, 0)

/-- The destination of a carrel command is a tenant address (Table 6.7, R217). -/
def Desc.toTenant (x : Desc) : Bool := x.e.opcode == 0x42 || x.e.flag 9

/-- Bytes 56–63: the destination address. -/
def Entry.dest (e : Entry) : Nat := bits e.spec 64 64

/-- The output of a command whose tasks have all succeeded waits for a unit that retrains or for its tenant's cap (R318, R497). -/
def State.carrelOutWaits (s : State) (d : Nat) : Bool :=
  (s.desc d).toTenant && s.outWaits (s.desc d) (s.desc d).e.dest (s.carrelOut d).1.length

/-- All tasks have succeeded: counters, then the output to its destination (R204, R208). -/
def State.carrelFinish (s : State) (d : Nat) : State :=
  let x := s.desc d
  let (b, r, n) := s.carrelOut d
  let s := s.bump F_CR_NONFINITE_CNT_NONFINITE n
  let s := if x.e.opcode = 0x42 then (s.bump F_PJ_SAT_CNT_SAT r.w1).bump F_PJ_NAN_CNT_NAN r.w2 else s
  if x.toTenant then
    if x.dst.length * 65536 < x.e.dest % 65536 + b.length then s.finish d .nomap
    else
      let (s, m) := s.writeAllOrNone x.dst x.dmeta x.e.dest b {} x.who
      s.finish d m.status (if m.status = .ok then r else {})
  else s.returnData d x.e.dest b r

end Sys2Proof.Machine
end

