-- ==== Sys2Proof/Machine/Movers.lean ====
section
/-!
DEFINITION. What the data movers share: answers of accesses taken together, source data written with its poison (Table 11.2).
-/
namespace Sys2Proof.Machine

/-- Two answers of an access taken together (Table 11.3): the lower offset, the counts added. -/
def Met.join (a b : Met) : Met :=
  { first := match a.first, b.first with
      | some x, some y => some (min x y)
      | some x, none => some x
      | none, y => y
    poisoned := a.poisoned + b.poisoned, tags := a.tags + b.tags, bad := a.bad ++ b.bad }

/-- A piece takes bytes of a poisoned range of the source data. -/
def hitBad (bad : List (Nat × Nat)) (off n : Nat) : Bool :=
  bad.any (fun r => decide (off < r.1 + r.2) && decide (r.1 < off + n))

/-- Writes source data to pieces of a destination; pieces that receive poisoned bytes are poisoned (Table 11.2). -/
def State.storeData (s : State) (x : Desc) (b : List Byte) : State × Met :=
  let ps := pieces x.dst x.e.opA b.length
  let hit := ps.filter (fun p => hitBad x.bad p.off p.len)
  let (s, m) := s.writePieces x.dmeta {} x.who b (ps.filter (fun p => !hitBad x.bad p.off p.len)) {}
  let s := s.poisonAll (hit.map (·.sec))
  (s, m.join (hit.foldl (fun m p => m.add p.sec p.off .poison) {}))

end Sys2Proof.Machine
end

