-- ==== Sys2Proof/Machine/ProjectionOps.lean ====
section
/-!
DEFINITION. Layout projection: client buffers, conversion factors, the writes of an append by destination sector, units (Layout
Projection).
-/
namespace Sys2Proof.Machine

/-! ## What APPEND_KV and GATHER_KV name (Table 4.2) -/

/-- The first token: bytes 48–51 of APPEND_KV; of GATHER_KV through-token − length + 1 (R148). -/
def Desc.firstToken (x : Desc) : Nat := if x.e.opcode = 0x23 then x.e.through else x.e.through + 1 - x.e.len

/-- The shard is a primary replica (R265). -/
def Layout.isPrimary (c : Layout) (shard : Nat) : Bool := shard % max 1 c.reps == 0

/-- One vector of a command: token index, local head, head, component. -/
structure VecId where
  n : Nat
  lh : Nat
  h : Nat
  c : Nat
  deriving DecidableEq, Repr

/-- The vectors of a command, by token, then head, then component. -/
def vecIds (c : Layout) (shard n : Nat) : List VecId :=
  let hs := c.headsOf shard
  ((List.range n).map (fun i => ((hs.zip (List.range hs.length)).map (fun p =>
    [({ n := i, lh := p.2, h := p.1, c := 0 } : VecId), { n := i, lh := p.2, h := p.1, c := 1 }])).flatten)).flatten

/-- The factor r of a layer, head and component: rounded once to FP32, which R267 does not flush. -/
def factor (num den : Nat) : Num := f32Full (quot (f32Of num) (f32Of den))

/-! ## Writes by sector -/

/-- What one destination sector receives: sector, folio index, data offset of its first byte, bytes by place in the
sector, whether poisoned source bytes bear on one of them. -/
structure SecWrite where
  sec : Nat
  folio : Nat
  off : Nat
  bytes : List (Nat × Byte)
  lost : Bool := false
  deriving DecidableEq, Repr

/-- Adds a run of bytes at a device address to the sectors that receive it, from byte `i` of the run on; `off` and `bad` say of a byte of the run
its data offset and whether it is lost. -/
def addRun (folio : Nat) (off : Nat → Nat) (bad : Nat → Bool) : Nat → Nat → List Byte → List SecWrite → List SecWrite
  | _, _, [], ws => ws
  | i, a, b :: t, ws =>
    let k := sectorOf a
    let ws := if ws.any (fun w => w.sec == k) then
        ws.map (fun (w : SecWrite) => if w.sec = k then
          { w with bytes := w.bytes ++ [(a % 256, b)], off := min w.off (off i), lost := w.lost || bad i } else w)
      else ws ++ [{ sec := k, folio := folio, off := off i, bytes := [(a % 256, b)], lost := bad i }]
    addRun folio off bad (i + 1) (a + 1) t ws

/-- Writes bytes at places of one sector. -/
def State.putBytes (s : State) (sec : Nat) : List (Nat × Byte) → State
  | [] => s
  | (i, b) :: t => (s.setByte (sec * 256 + i) b).putBytes sec t

/-- The places of a sector as masks of its lines. -/
def placeMasks (sec : Nat) (l : List Nat) : List (Nat × Nat) :=
  ((List.range 4).map (fun i =>
    (4 * sec + i, (l.filter (fun a => a / 64 == i)).foldl (fun m a => m ||| 2 ^ (a % 64)) 0))).filter (fun m => m.2 != 0)

/-- Applies one sector's bytes as one operation: a whole sector replaces what it held, a part is merged after the sector
reads well (R345, R353 to R355). -/
def State.putSector (s : State) (metas : List Nat) (w : SecWrite) (who : For) : State × SecRes :=
  let all := w.bytes.length == 256
  let whole := all && !s.unitOut w.sec && !inSet s.map.device (w.sec / 256)
  let (s, r) := if whole then (s, .ok) else s.checkSector w.sec who
  if r ≠ .ok then (s, r)
  else
    let s := if s.freshAt w.sec then s.zeroMem (w.sec * 256) 256 else s
    let s := (s.putBytes w.sec w.bytes).queueMasks (placeMasks w.sec (w.bytes.map (·.1))) false who.seq
    let s := (if all then s.clearPoison w.sec else s).retag w.sec
    let p := metaPin metas w.folio
    let h := (({} : Via)).hint (metaHint metas w.folio)
    (s.cacheAccess w.sec (s.memHandle (s.owner (w.sec / 256)).tenant) h (some p) (all && (p != 0 || decide (h = .keep))), .ok)

/-- Applies the sectors of a command. -/
def State.putSectors (s : State) (metas : List Nat) (who : For) : List SecWrite → Met → State × Met
  | [], m => (s, m)
  | w :: l, m =>
    let (s, r) := s.putSector metas w who
    s.putSectors metas who l (m.add w.sec w.off r)

/-- The data offset of the first byte that lies in the lowest failing sector, folios in list order (Table 11.3). -/
def lowestOffset (ps : List Piece) (bad : List Nat) : Option Nat :=
  let fs := ps.filter (fun p => inSet bad p.sec)
  match fs with
  | [] => none
  | p :: _ =>
    let key (p : Piece) : Nat := p.folio * 256 + p.sec % 256
    let k := (fs.map key).foldl min (key p)
    some (((fs.filter (fun p => key p == k)).map (·.off)).foldl min ((((fs.find? (fun p => key p == k)).map (·.off)).getD 0)))

/-! ## The two conversions -/

/-- One vector of an append converted to the stored layout: folio index, device address, bytes, data offset, events. -/
def State.appendVec (s : State) (x : Desc) (data : List Byte) (v : VecId) : Nat × Nat × List Byte × Nat × Events :=
  let st := s.stream (x.strm.getD 0)
  let y := st.layout
  let c := s.clientLayout x
  let off := c.vecOff x.e.len (c.headsOf x.e.shard).length v.n v.lh v.c
  let r := factor (c.scale [] x.aux v.h v.c) (y.scale st.scales x.aux v.h v.c)
  let (b, ev) := convVec c.prec y.prec y.dim r ((data.drop off).take c.vb)
  let (i, a) := x.vecAt y (x.firstToken + v.n) v.h v.c
  (i, a, b, off, ev)

/-- The sectors that an append writes, with its conversions' events. -/
def State.appendSecs (s : State) (d : Nat) : List SecWrite × Events :=
  let x := s.desc d
  let c := s.clientLayout x
  let y := (s.stream (x.strm.getD 0)).layout
  let vs := (vecIds c x.e.shard x.e.len).map (s.appendVec x x.data)
  (vs.foldl (fun ws v => addRun v.1 (fun k => v.2.2.2.1 + firstByte y.prec c.prec y.dim k)
    (fun k => (bearing y.prec c.prec y.dim k).any (fun r => hitBad x.bad (v.2.2.2.1 + r.1) r.2)) 0 v.2.1 v.2.2.1 ws) [],
   (vs.map (fun v => v.2.2.2.2)).foldl Events.add {})

/-- A sector that an append writes as a piece of its data. -/
def SecWrite.piece (w : SecWrite) : Piece := { sec := w.sec, folio := w.folio, start := 0, len := w.bytes.length, off := w.off }

/-- The pieces that an append writes: none by a replica that is not primary (R265). -/
def State.appendPieces (s : State) (d : Nat) : List Piece :=
  let x := s.desc d
  if (s.clientLayout x).isPrimary x.e.shard then ((s.appendSecs d).1).map SecWrite.piece else []

/-- The conversions of an append, its data poisoned in the ranges recorded: sectors written and met, events
(R265, R270, Table 11.2). -/
def State.appendData (s : State) (d : Nat) : State × Met × Events :=
  let x := s.desc d
  let c := s.clientLayout x
  if !c.isPrimary x.e.shard then (s, if x.bad.isEmpty then {} else { first := (x.bad.head?).map (·.1), poisoned := x.bad.length }, {})
  else
    let (ws, ev) := s.appendSecs d
    let (s, m) := s.putSectors x.dmeta x.who (ws.filter (fun w => !w.lost)) {}
    let lost := ws.filter (·.lost)
    let bad := m.bad ++ lost.map (·.sec)
    (s, { m with first := lowestOffset (ws.map SecWrite.piece) bad, poisoned := m.poisoned + lost.length, bad := bad }, ev)

/-- The vectors of a gather, converted: data offset, bytes, events. -/
def State.gatherVec (s : State) (x : Desc) (v : VecId) : Nat × List Byte × Events :=
  let st := s.stream (x.strm.getD 0)
  let y := st.layout
  let c := s.clientLayout x
  let off := c.vecOff x.e.len (c.headsOf x.e.shard).length v.n v.lh v.c
  let r := factor (y.scale st.scales x.aux v.h v.c) (c.scale [] x.aux v.h v.c)
  let (b, ev) := convVec y.prec c.prec y.dim r (s.lookMem (x.vecAt y (x.firstToken + v.n) v.h v.c).2 y.vb)
  (off, b, ev)

/-- Places runs of bytes into a buffer. -/
def placeRuns (n : Nat) (l : List (Nat × List Byte)) : List Byte :=
  let m := l.foldl (fun (m : KV Byte) r => (r.2.zip (List.range r.2.length)).foldl (fun m p => kvInsert m (r.1 + p.2) p.1) m) []
  (List.range n).map (fun i => kvGet 0 m i)

/-- The pieces that a gather reads; the data offset of each is that of the client's byte that its first stored byte gives. -/
def State.gatherPieces (s : State) (d : Nat) : List Piece :=
  let x := s.desc d
  let y := s.layoutOf x
  let c := s.clientLayout x
  ((vecIds c x.e.shard x.e.len).map (fun v =>
    let off := c.vecOff x.e.len (c.headsOf x.e.shard).length v.n v.lh v.c
    (x.vecPieces y (x.firstToken + v.n) v.h v.c).map (fun (p : Piece) =>
      { p with off := off + firstByte y.prec c.prec y.dim p.off }))).flatten

/-- Reads the stored vectors of a gather: what was met, by client data offset. -/
def State.gatherMet (s : State) (d : Nat) : State × Met :=
  let x := s.desc d
  let ps := s.gatherPieces d
  let (s, m) := s.readPieces (some x.smeta) viaKv x.who (oncePerSector [] ps) {}
  (s, { m with first := lowestOffset ps m.bad })

/-! ## Units -/

/-- Bytes queued on a unit (PJ_U_QUEUED, R272). -/
def PjUnit.queued (u : PjUnit) : Nat := (u.cmds.map (·.2)).foldl (· + ·) 0

/-- The bytes of a command as a unit counts them: the larger of those read and written (R273); the append of a replica that is not primary writes
none (R265). -/
def State.pjBytes (s : State) (x : Desc) : Nat :=
  let c := s.clientLayout x
  let y := s.layoutOf x
  let stored := if x.e.opcode = 0x23 && !c.isPrimary x.e.shard then 0 else x.e.len * (c.headsOf x.e.shard).length * 2 * y.vb
  max (c.bufBytes x.e.shard x.e.len) stored

/-- Puts a command on the in-service unit with the fewest bytes queued (R272). -/
def State.assignUnit (s : State) (d : Nat) : State :=
  match s.chooseUnit with
  | none => s
  | some u =>
    let x := s.pjUnit u
    (s.setPjUnit u { x with cmds := x.cmds ++ [(d, s.pjBytes (s.desc d))] }).stage d .exec

/-- A unit serves the command (R272), and its domain runs (R592). -/
def State.pjServed (s : State) (d : Nat) : Bool :=
  !s.domGated 57 && (List.range 8).any (fun u => (s.pjUnit u).served.any (fun c => c.1 == d))

/-- The chunks of a command: 32 tokens each, fewer in the last (R272). -/
def Desc.chunks (x : Desc) : Nat := ceilDiv x.e.len 32

/-- Takes a command off its unit and counts the bytes that it moved (PJ_U_BYTES). -/
def State.unitDone (s : State) (d : Nat) : State :=
  match (List.range 8).find? (fun u => (s.pjUnit u).cmds.any (fun c => c.1 == d)) with
  | none => s
  | some u =>
    let x := s.pjUnit u
    let n := x.moved + ((x.cmds.filter (fun c => c.1 == d)).map (·.2)).foldl (· + ·) 0
    (s.setPjUnit u { x with
        cmds := x.cmds.filter (fun c => c.1 != d), redo := x.redo.filter (fun r => r.1 != d)
        moved := n % 1048576 }).bump F_PJ_U_BYTES_BYTES (n / 1048576) u

/-- Counts the events of a conversion (Table 8.5). -/
def State.countEvents (s : State) (e : Events) : State := (s.bump F_PJ_SAT_CNT_SAT e.sat).bump F_PJ_NAN_CNT_NAN e.nan

end Sys2Proof.Machine
end

