-- ==== Sys2Proof/Machine/Tiers.lean ====
section
/-!
DEFINITION. Whose request a channel or pseudo-channel serves next: the requests of data movers, carrels and projection units, tenants with credit first,
deficit round robin by DATA_WEIGHT (Tenants, Quality of Service, Interrupts and Resets).
-/
namespace Sys2Proof.Machine

/-- All pieces of folios. -/
def wholeFolios (fs : List Nat) : List Piece := (fs.map (fun f => pieces [f] 0 65536)).flatten

/-- What the tasks of a command in its carrels read. -/
def State.taskAsks (s : State) (d : Nat) : List Piece :=
  ((List.range 64).map (fun c => match (s.carrel c).task with
    | some (k, i) => if k = d && !(s.carrel c).halted then s.taskReads (s.desc d) ((s.carrel c).args.getD (s.taskArgs d i)) else []
    | none => [])).flatten

/-- What a command asks of the tiers now: the pieces it would read and those it would write. -/
def State.asks (s : State) (d : Nat) : List Piece × List Piece :=
  let x := s.desc d
  if x.runs? 0x20 then ([], if s.noHost x.q then [] else pieces x.dst x.e.opA x.e.len)
  else if x.runs? 0x21 then (pieces x.src x.e.opA x.e.len, [])
  else if x.runs? 0x22 then (pieces x.src x.e.opB x.e.len, pieces x.dst x.e.opA x.e.len)
  else if x.e.opcode = 0x23 && x.stage = .exec && s.pjServed d then ([], s.appendPieces d)
  else if x.e.opcode = 0x24 && x.stage = .exec && s.pjServed d then (s.gatherPieces d, [])
  else if x.e.opcode = 0x62 && x.stage = .wait .copies then (wholeFolios x.src, wholeFolios x.dst)
  else if 0x40 ≤ x.e.opcode && x.e.opcode ≤ 0x43 then (s.taskAsks d, [])
  else ([], [])

/-- The units that requests go to, each once per sector: reads that the stacks cache or a FRESH sector serves reach none. -/
def State.askedUnits (s : State) (r w : List Piece) : List Nat :=
  (r.filter (fun p => !s.cached p.sec && !s.freshAt p.sec) ++ w).map (fun p => s.unitOf p.sec)

/-- The tenants whose requests a unit could serve now. -/
def State.askers (s : State) (u : Nat) : List Nat :=
  ((s.q.descs.filter (fun p =>
    let a := s.asks p.1
    inSet (s.askedUnits a.1 a.2) u && !s.readWaits p.2.e.tenant a.1 && !s.mergeWaits p.2.e.tenant a.2)).map (fun p => p.2.e.tenant)).eraseDups

/-- The visits after which a tenant has a unit of deficit. -/
def visits (deficit : Int) (weight : Nat) : Nat :=
  if 1 ≤ deficit then 1 else ceilDiv (1 - deficit).toNat (max 1 weight)

/-- The tenants of a list in the order of a round that stands at `p`. -/
def unitRound (p : Nat) (l : List Nat) : List Nat :=
  (l.filter (fun t => decide (p ≤ t))).mergeSort ++ (l.filter (fun t => decide (t < p))).mergeSort

/-- The tenant whose visit serves the next request, and the round with the visits that come before it: a visit adds the tenant's weight to its deficit, and
it is served while it has a unit. A tenant without requests keeps no credit of deficit. -/
def TierRound.pick (a : TierRound) (weight : Nat → Nat) (l : List Nat) : TierRound × Option Nat :=
  let d (t : Nat) : Int := kvGet 0 a.deficit t
  let a := { a with deficit := a.deficit.filter (fun p => inSet l p.1 || decide (p.2 < 0)) }
  if a.visiting && inSet l a.ptr && decide (1 ≤ d a.ptr) then (a, some a.ptr)
  else
    let o := unitRound (if a.visiting then a.ptr + 1 else a.ptr) l
    match (o.map (fun t => visits (d t) (weight t))).min? with
    | none => (a, none)
    | some k =>
      let i := o.findIdx (fun t => visits (d t) (weight t) == k)
      let deficit := (o.zip (List.range o.length)).foldl (fun m p =>
        kvPut 0 m p.1 (d p.1 + ((if p.2 ≤ i then k else k - 1) * weight p.1 : Nat))) a.deficit
      ({ ptr := o.getD i 0, visiting := true, deficit := deficit }, o[i]?)

/-- A served tenant pays for its sectors; its visit ends when less than a unit is left. -/
def TierRound.pay (a : TierRound) (t n : Nat) : TierRound :=
  let left := kvGet 0 a.deficit t - (n : Int)
  let a := { a with deficit := kvPut 0 a.deficit t left }
  if a.visiting && a.ptr == t && decide (left < 1) then { a with ptr := t + 1, visiting := false } else a

/-- A tenant has credit on a unit. -/
def State.hasCredit (s : State) (t u : Nat) : Bool := kvGet 0 s.tn.credit (creditKey t u) != 0

/-- The group of tenants that a unit serves next, those with credit before those without (R496), and the key of its round. -/
def State.servedGroup (s : State) (t u : Nat) : List Nat × Nat :=
  let l := (t :: s.askers u).eraseDups
  let c := l.filter (fun x => s.hasCredit x u)
  if c.isEmpty then (l, 2 * u + 1) else (c, 2 * u)

/-- The next tenant of a unit where tenant `t` asks too. -/
def State.turn (s : State) (t u : Nat) : TierRound × Option Nat :=
  let g := s.servedGroup t u
  (kvGet {} s.tn.rounds g.2).pick (fun x => (s.terms x).weight) g.1

/-- A request is out of turn: another tenant's comes before it on every unit that it goes to (R496; DESIGN CHOICE, log entry 78). -/
def State.outOfTurn (s : State) (t : Nat) (r w : List Piece) : Bool :=
  let us := (s.askedUnits r w).eraseDups
  !us.isEmpty && us.all (fun u => (s.turn t u).2 != some t)

/-- A tenant's request is served: on each unit it pays its round there, where others ask too. -/
def State.payTurns (s : State) (t : Nat) (r w : List Piece) : State :=
  let all := s.askedUnits r w
  all.eraseDups.foldl (fun z u =>
    if (s.askers u).all (fun x => x == t) then z
    else
      let k := (s.servedGroup t u).2
      let (a, n) := s.turn t u
      let a := if n = some t then a else kvGet {} s.tn.rounds k
      { z with tn := { z.tn with rounds := kvPut {} z.tn.rounds k (a.pay t (all.filter (fun v => v == u)).length) } }) s

end Sys2Proof.Machine
end

