-- ==== Sys2Proof/Machine/DataCmds.lean ====
section
/-!
DEFINITION. WRITE, READ and COPY, and the copies of a suspension (Folios, Maps and Translation at Submission; Streams, Steps and Fences; the paths of
poison of Table 11.2).
-/
namespace Sys2Proof.Machine

/-- WRITE (R69, R344, R346, R353), once what it merges with can be read (R318): `bytes` is what the device reads of the host's source; a link's data has been pulled. -/
def execWrite (d : Nat) (bytes : List Byte) (s : State) : Res :=
  let x := s.desc d
  let ps := pieces x.dst x.e.opA x.e.len
  .next (if !x.runs? 0x20 || s.noHost x.q || s.mergeWaits x.e.tenant ps || s.outOfTurn x.e.tenant [] ps then s
    else
      let s := s.payTurns x.e.tenant [] ps
      let s := s.askHost x.q x.e.opB x.e.len
      let b := ((if (s.queue x.q).isLink then x.data else bytes) ++ List.replicate x.e.len 0).take x.e.len
      let (s, m) := s.storeData x b
      s.finish d m.status (if m.status = .ok then {} else m.result))

/-- READ (R69, R346): the bytes go to the host or over the link; with a poisoned sector or a failing tag none is sent. -/
def execRead (d : Nat) (s : State) : Res :=
  let x := s.desc d
  let ps := pieces x.src x.e.opA x.e.len
  .next (if !x.runs? 0x21 || s.readWaits x.e.tenant ps || s.outOfTurn x.e.tenant ps [] then s
    else
      let s := s.payTurns x.e.tenant ps []
      let (s, m) := s.readAccess x.src (some x.smeta) x.e.opA x.e.len {} x.who
      if m.status ≠ .ok then s.finish d m.status m.result
      else s.returnData d x.e.opB (s.readRuns x.src x.e.opA 0 x.e.len) {})

/-- COPY (R69, R346): every source byte is read before a destination byte is written; destination sectors that would hold
bytes of a failing source sector are poisoned. -/
def execCopy (d : Nat) (s : State) : Res :=
  let x := s.desc d
  let n := x.e.len
  let src := pieces x.src x.e.opB n
  let ps := pieces x.dst x.e.opA n
  .next (if !x.runs? 0x22 || s.readWaits x.e.tenant src || s.mergeWaits x.e.tenant ps || s.outOfTurn x.e.tenant src ps then s
    else
      let s := s.payTurns x.e.tenant src ps
      let (s, m) := s.readAccess x.src (some x.smeta) x.e.opB n {} x.who
      let b := s.readRuns x.src x.e.opB 0 n
      let lost := (badPieces src m).map (fun p => (p.off, p.len))
      let (s, w) := s.writePieces x.dmeta {} x.who b (ps.filter (fun p => !hitBad lost p.off p.len)) {}
      let s := s.poisonAll ((ps.filter (fun p => hitBad lost p.off p.len)).map (·.sec))
      let r := m.join w
      s.finish d r.status (if r.status = .ok then {} else r.result))

/-- SUSPEND_COPIES_DURABLE (R29, R37, R133 to R135): the copies are durable, the lists are rewritten in one step, the
references released and the stream SUSPENDED. Folios and TFNs are those of the acceptance. A copy that fails, by what its source holds or with
status code `failCode` after `done` folios, leaves lists and references and returns the stream to ACTIVE. -/
def execSuspendCopiesDurable (d failCode done : Nat) (s : State) : Res :=
  let s := s.suspendProgress d
  let x := s.desc d
  let i := x.strm.getD 0
  let y := s.stream i
  let pairs := (x.src.zip x.smeta).zip (x.dst.zip x.dmeta)
  .next (if !(x.e.opcode = 0x62 && x.stage == .wait .copies) || s.readWaits x.e.tenant (wholeFolios x.src) ||
        s.mergeWaits x.e.tenant (wholeFolios x.dst) || s.outOfTurn x.e.tenant (wholeFolios x.src) (wholeFolios x.dst) then s
    else
      let s := s.payTurns x.e.tenant (wholeFolios x.src) (wholeFolios x.dst)
      let (s, _, st) := s.copyFolios x.who (if failCode = 0 then pairs.length else done) pairs 0
      let st := if st = .ok then Status.ofCode failCode else st
      if st ≠ .ok then
        (s.setStream i { y with st := if y.st = .closing then .closing else .active }).finish d st { x.res with w0 := y.listLen }
      else
        let z := y.suspended x.list ((blkTfns x.blk (blkTotal x.blk)).map (· % 2 ^ 24))
        (((s.dropSegs y.segs).setStream i z).contextWrite i).finish d .ok { x.res with w0 := z.listLen })

end Sys2Proof.Machine
end

