-- ==== Sys2Proof/Machine/Carrel.lean ====
section
/-!
DEFINITION. The carrel commands, their dispatch and tasks, and the clusters (Carrels and Attention in the Pool; Clocks and
Power States, R590, R596, R597).
-/
namespace Sys2Proof.Machine

/-! ## Commands up to their dispatch boundary -/

/-- Free bytes of the output staging area (CR_STAGE_FREE). -/
def State.stageFree (s : State) : Nat := 268435456 - (s.cr.cmds.map (fun p => p.2.stage)).foldl (· + ·) 0

/-- A command can be dispatched: a cluster takes tasks, or will at this boundary, and its output has staging (R195). -/
def State.canDispatch (s : State) (d : Nat) : Bool :=
  !(s.clustersWhere (fun k => s.clusterReady k || s.clusterPassed k)).isEmpty &&
    decide ((s.plan (s.desc d)).bytes ≤ s.stageFree)

/-- A cluster becomes READY, at the clock that its domain then has. -/
def State.clusterStarts (s : State) (k : Nat) (x : Cluster) : State :=
  let s := s.setCluster k x
  { s with ck := { s.ck with mhz := kvInsert s.ck.mhz k (s.clusterMhz k) } }

/-- Clusters that have passed their self-test become READY (Table 6.2). -/
def State.admitPassed (s : State) : State :=
  (s.clustersWhere s.clusterPassed).foldl (fun s k => s.clusterStarts k { st := 3 }) s

/-- The dispatch boundary of a command (R197): its tasks and its output staging. -/
def State.dispatch (s : State) (d : Nat) : State :=
  let p := s.plan (s.desc d)
  let s := s.admitPassed
  let n := s.cr.order + 1
  let s := { s with cr := { s.cr with order := n } }
  let s := s.setCarrelCmd d {
    order := n, ranges := p.ranges, tokens := p.tokens, tasks := List.replicate p.tasks {}, stage := p.bytes }
  s.stage d .exec

/-- The carrel wait of a command ends without a dispatch (R195). -/
def State.carrelBusy (s : State) (d : Nat) : State :=
  ((s.bump F_CR_WAIT_BUSY_BUSY).finish d .busy).withdrawWakes

/-- A command enters its carrel wait: a budget of 0 dispatches it at once or ends it (R195). -/
def State.enterCarrel (s : State) (d budget : Nat) : State :=
  if budget = 0 then (if s.canDispatch d then s.dispatch d else s.carrelBusy d)
  else s.stage d (.wait .carrel)

/-- A link-origin command whose request was not known at its acceptance raises its wake request now (R196). -/
def State.lateWake (s : State) (d : Nat) : State :=
  if (s.queue (s.desc d).q).isLink then s.wantWake d (s.plan (s.desc d)).tasks else s

/-- The check of Table 2.4 that the request of an ATTEND or SCORE_TOPK fails (R218): step 3 by itself, step 5 against the stream. -/
def State.attendFault (s : State) (x : Desc) (score : Bool) : Option (Nat × Result) :=
  let i := x.strm.getD 0
  if !x.attend.headOk score x.e.len x.e.through then some (3, {})
  else if !x.attend.ok (s.layoutOf x) score x.e.len x.e.through || decide (67108864 < (s.plan x).bytes) then
    some (5, { w0 := (s.stream i).st.code })
  else none

/-- ATTEND and SCORE_TOPK up to their waits: a pulled request is checked, the layer's watermark waited for, then the
carrels (R155, R195, R218, R219). -/
def State.attendCmd (s : State) (d : Nat) (score : Bool) : State :=
  let x := s.desc d
  match s.attendFault x score with
  | some (k, r) => s.refuseLate d k r
  | none =>
    let s := s.lateWake d
    if s.wmMet x then s.enterCarrel d (s.budget x.e)
    else if s.budget x.e = 0 then s.stale d
    else s.stage d (.wait .watermark)

/-- ATTEND (R155, R195, R218). -/
def execAttend (d : Nat) (s : State) : Res :=
  .next (if (s.desc d).runs? 0x40 then s.attendCmd d false else s)

/-- SCORE_TOPK (R219, R222). -/
def execScoreTopk (d : Nat) (s : State) : Res :=
  .next (if (s.desc d).runs? 0x43 then s.attendCmd d true else s)

/-- REDUCE_PARTIAL (R211 to R213, R221): its request is checked and it waits for carrels. -/
def execReducePartial (d : Nat) (s : State) : Res :=
  let x := s.desc d
  .next (if !x.runs? 0x41 then s
    else if !(reduceReq x.blk).ok x.e.len || decide (67108864 < (s.plan x).bytes) then s.refuseLate d 3
    else (s.lateWake d).enterCarrel d (s.budget x.e))

/-- QUANTIZE (R217, R223): its carrel wait is bounded by FN_WAIT_DEFAULT. -/
def execQuantize (d : Nat) (s : State) : Res :=
  .next (if (s.desc d).runs? 0x42 then s.enterCarrel d (s.fld F_FN_WAIT_DEFAULT_WAIT) else s)

/-- CARREL_DISPATCH (R195, R197): enough carrels and staging are available. -/
def execCarrelDispatch (d : Nat) (s : State) : Res :=
  .next (if (s.desc d).stage = .wait .carrel && s.canDispatch d then s.dispatch d else s)

/-- CARREL_WAIT_EXPIRED (R195, R756): E_BUSY, unless carrels and staging have come in that tick. -/
def execCarrelWaitExpired (d : Nat) (s : State) : Res :=
  let x := s.desc d
  .next (if x.stage ≠ .wait .carrel || !s.waitedOut x (if x.e.opcode = 0x42 then s.fld F_FN_WAIT_DEFAULT_WAIT else s.budget x.e) then s
    else if s.canDispatch d then s.dispatch d
    else s.carrelBusy d)

/-! ## Tasks -/

/-- The weight of a tenant; a weight of 0 counts as 1 (R499). -/
def State.carrelWeight (s : State) (t : Nat) : Nat := max 1 (s.fld F_TN_T_SHARE_CARREL_WEIGHT t)

/-- The carrels that a tenant may occupy; 0 counts as all 64 (R499). -/
def State.carrelMax (s : State) (t : Nat) : Nat :=
  let m := s.fld F_TN_T_SHARE_CARREL_MAX t
  if m = 0 then 64 else m

/-- The carrels that run tasks of a tenant. -/
def State.occupied (s : State) (t : Nat) : Nat :=
  (s.cr.carrels.filter (fun p => p.2.task.any (fun k => (s.desc k.1).e.tenant == t))).length

/-- A task waits for a carrel and may run on carrel `c`: one that failed runs again on another (R224). -/
def Task.fits (k : Task) (c : Nat) : Bool := k.st == 0 && k.bad != some c

/-- The commands of a tenant with a task that waits and may run on carrel `c`. -/
def State.taskWaiters (s : State) (t c : Nat) : List (Nat × CarrelCmd) :=
  s.cr.cmds.filter (fun p => (s.desc p.1).e.tenant == t && p.2.tasks.any (fun k => k.fits c))

/-- A tenant may be given carrel `c`. -/
def State.mayTake (s : State) (c t : Nat) : Bool :=
  !(s.taskWaiters t c).isEmpty && decide (s.occupied t < s.carrelMax t)

/-- The tenants in the order of the round, from the one after the last served. -/
def roundFrom (p : Nat) : List Nat := List.range' (p + 1) (1023 - p) ++ List.range (p + 1)

/-- The tenant that a free carrel serves (R499): the one being visited while its deficit lasts, then the next of the round
that may be given a carrel, whose deficit grows by its weight. -/
def State.pickTenant (s : State) (c : Nat) : Option (Nat × State) :=
  let spend (s : State) (t n : Nat) : State :=
    { s with cr := { s.cr with deficit := kvPut 0 s.cr.deficit t n, visit := some t, ptr := t } }
  let left (t : Nat) : Nat := kvGet 0 s.cr.deficit t
  match s.cr.visit.filter (fun t => s.mayTake c t && decide (0 < left t)) with
  | some t => some (t, spend s t (left t - 1))
  | none =>
    match (roundFrom s.cr.ptr).find? (s.mayTake c) with
    | none => none
    | some t => some (t, spend s t (left t + s.carrelWeight t - 1))

/-- The waiting task of a tenant for carrel `c` with the earliest dispatch boundary: descriptor and task number (R200, R499). -/
def State.nextTask (s : State) (t c : Nat) : Option (Nat × Nat) :=
  match (s.taskWaiters t c).foldl (fun (acc : Option (Nat × CarrelCmd)) p => match acc with
      | none => some p
      | some a => if p.2.order < a.2.order then some p else some a) none with
  | none => none
  | some (d, x) => some (d, x.tasks.findIdx (fun k => k.fits c))

/-- CARREL_TASK_START (R194, R200, R246 to R248, R499): a free carrel of a READY cluster takes the next task, its scratch zeroed before a task
of another tenant. A tenant without waiting tasks keeps no deficit. -/
def execCarrelTaskStart (c : Nat) (s : State) : Res :=
  .next (if 64 ≤ c || (s.carrel c).halted || (s.carrel c).task.isSome || !s.clusterReady (c / 8) then s
    else match s.pickTenant c with
    | none => s
    | some (t, s') =>
      match s.nextTask t c with
      | none => s
      | some (d, i) =>
        let s := (s'.setTask d i (fun k => { k with st := 1, carrel := c })).loadCarrel c d i
        if (s.taskWaiters t 64).isEmpty then
          { s with cr := { s.cr with deficit := kvErase s.cr.deficit t, visit := none } }
        else s)

/-- A command stops on a failing task: its other tasks stop and nothing is written (R204, R224). -/
def State.carrelFail (s : State) (d : Nat) (st : Status) (detail : Nat) : State :=
  (s.finish d st {} detail).withdrawWakes

/-- CARREL_TASK_END (R204 to R208, R213): the task's result goes to staging; one that met poison or a failing tag stops the
command; the last one writes the output. A task whose reads wait for a unit that retrains does not end (R318), nor one whose output waits so, nor
one on a halted carrel. -/
def execCarrelTaskEnd (c : Nat) (s0 : State) : Res :=
  let s := s0
  .next (match (s.carrel c).task with
    | none => s
    | some (d, i) =>
      let t := (s.desc d).e.tenant
      let ps := s.taskReads (s.desc d) ((s.carrel c).args.getD (s.taskArgs d i))
      if (s.carrel c).halted || s.readWaits t ps || s.outOfTurn t ps [] then s
      else
      let s := s.payTurns t ps []
      let (s, o) := s.runTask c d i
      let s := s.freeCarrel c
      let s := match ((s.carrelCmd d).tasks.getD i {}).redo with
        | some k => s.recoveryEnd 6 k true
        | none => s
      let s := s.setTask d i (fun k => { k with redo := none })
      if o.met.status ≠ .ok then s.carrelFail d o.met.status 0
      else
        let s := s.setTask d i (fun k => { k with st := 2, out := o.out, scales := o.scales, nan := o.nan, sat := o.sat })
        let s := (s.bump F_CR_TASKS_TASKS).bump F_CR_C_TASKS_TASKS 1 c
        if !(s.carrelCmd d).tasks.all (fun k => k.st == 2) then s else if s.carrelOutWaits d then s0 else s.carrelFinish d)

/-- An uncorrected carrel error (R224, R257): the carrel has faulted, its cluster goes OUT, the task waits to run again, and
a second failure of it stops the command. -/
def State.carrelFault (s : State) (c : Nat) : State :=
  match (s.carrel c).task with
  | none => s
  | some (d, i) =>
    let k := c / 8
    let x := s.desc d
    let t := (s.carrelCmd d).tasks.getD i {}
    let again := t.tries = 0
    let s := (s.setCarrel c { (s.carrel c).idle with faulted := true }).bump F_CR_C_FAULTS_FAULTS 1 c
    let s := match t.redo with | some k => s.recoveryEnd 6 k false | none => s
    let s := s.report {
      kind := 0x10, utype := 6, inst := k, cls := 2, recov := again, tenant := x.e.tenant,
      ctx := errCtx x.q (x.strm.getD 0), tag := x.e.tag, status := if again then 0 else Status.aborted.code,
      detail := if again then 0 else 0x40, data := c + i * 2 ^ 32 }
    let s := s.clusterOut k
    let s := { s with cr := { s.cr with wakes := s.cr.wakes.filter (fun w => w.1 != k) } }
    if again then
      (s.setTask d i (fun y => { y with st := 0, tries := 1, redo := some k, bad := some c })).bump F_CR_RERUN_CNT_RERUN
    else (s.setTask d i (fun y => { y with redo := none })).carrelFail d .aborted 0x40

/-- CARREL_FAULT (R224). -/
def execCarrelFault (c : Nat) (s : State) : Res := .next (s.carrelFault c)

/-! ## Clusters -/

/-- The BAR0 offset of CR_CLUSTER_CTL. -/
def clusterCtlOff : Nat := bar0 4 0xC

/-- The PF and the control firmware, which most RW and WO registers of a block take writes from. -/
def pfOrFw : Port → Bool
  | .pf => true
  | .fw => true
  | _ => false

/-- A write by the PF or the control firmware acts, any other is ignored and counted; either discards the port's staged
word (R16). -/
def State.ctlWrite (s : State) (p : Port) (off : Nat) (f : State → State) : State :=
  let s := s.dropStage p
  if !s.answers p off then s else if pfOrFw p then f s else s.badAccess p off

/-- CLUSTER_REMOVE (R225): the cluster's tasks finish, it is given no more and goes OUT. -/
def execClusterRemove (p : Port) (k : Nat) (s : State) : Res :=
  .next (s.ctlWrite p clusterCtlOff (fun s =>
    let x := s.cluster k
    if 8 ≤ k || x.st == 4 || x.st == 5 then s
    else
      let s := { s with cr := { s.cr with wakes := s.cr.wakes.filter (fun w => w.1 != k) } }
      (s.setCluster k { x with removing := true }).clusterDrained k))

/-- CLUSTER_RETURN (R225, R368): acts only in OUT; while a self-test job runs on the cluster it is ignored and counted. -/
def execClusterReturn (p : Port) (k : Nat) (s : State) : Res :=
  .next (s.ctlWrite p clusterCtlOff (fun s =>
    if k < 8 && s.jobOn 2 k 0 then s.badAccess p clusterCtlOff
    else if k < 8 && (s.cluster k).st == 4 then s.setCluster k { st := 5 } else s))

/-- CLUSTER_TEST_DONE (Table 6.2, R660): a pass returns the unit, READY at the next dispatch boundary; a failure leaves the
cluster OUT. At boot (R690) a pass leads to GATED, and a failure is recorded. -/
def execClusterTestDone (k : Nat) (pass : Bool) (s : State) : Res :=
  .next (if (s.cluster k).st ≠ 5 then s
    else if pass then
      let s := (List.range 8).foldl (fun s i =>
        s.setCarrel (8 * k + i) { s.carrel (8 * k + i) with faulted := false }) s
      (if (s.cluster k).boot then s.setCluster k { st := 1 } else s.setCluster k { st := 5, passed := true }).unitReturn 6 k
    else
      let boot := (s.cluster k).boot
      let s := s.setCluster k { st := 4 }
      if boot then s.report { kind := 0x10, utype := 6, inst := k, cls := 2, data := 8 * k } else s)

/-- WAKE_REEXAMINE (R596, R597): pending wakes are examined again, oldest first; those that no command waits for are
withdrawn. -/
def execWakeReexamine (s : State) : Res :=
  let s := s.withdrawWakes
  .next ((s.cr.wakes.map (·.1)).foldl State.examineWake s)

/-- CLUSTER_WAKE_COMPLETE (Table 6.2). -/
def execClusterWakeComplete (k : Nat) (s : State) : Res :=
  .next (if (s.cluster k).st = 2 then
s.clusterStarts k { s.cluster k with st := 3, prev := 0 } else s)

/-- CLUSTER_IDLE_GATE (R590, Table 18.2): a READY cluster without a task, with A1 or deeper allowed. -/
def execClusterIdleGate (k : Nat) (s : State) : Res :=
  .next (if s.clusterReady k && !s.clusterBusy k && decide (1 ≤ s.fld F_CK_PWR_CFG_DEEPEST) then
      s.setCluster k { st := 1 }
    else s)

/-- CLUSTER_IDLE_OFF (R590, Table 18.2): a GATED cluster, with A2 allowed. -/
def execClusterIdleOff (k : Nat) (s : State) : Res :=
  .next (if (s.cluster k).st = 1 && decide (2 ≤ s.fld F_CK_PWR_CFG_DEEPEST) then s.setCluster k { st := 0 } else s)

end Sys2Proof.Machine
end

