-- ==== Sys2Proof/Machine/Projection.lean ====
section
/-!
DEFINITION. APPEND_KV and GATHER_KV, the append tracker, and the projection units (Streams, Steps and Fences; Layout
Projection).
-/
namespace Sys2Proof.Machine

/-- The tracker entry of an append is there. -/
def State.hasTracker (s : State) (x : Desc) : Bool :=
  (((s.stream (x.strm.getD 0)).layers.getD x.aux {}).trk).any (fun t =>
    t.first == x.e.through && t.last == x.e.through + x.e.len - 1 && t.slot == x.e.slot)

/-- Changes one layer of a stream. -/
def State.setLayer (s : State) (i l : Nat) (f : Layer → Layer) : State :=
  let x := s.stream i
  s.setStream i { x with layers := x.layers.modify l f }

/-- An append takes its tracker entry: the one with its range and slot, or a new one while fewer than 16 are in use
(R126, R129). -/
def State.takeTracker (s : State) (x : Desc) : State :=
  let i := x.strm.getD 0
  if s.hasTracker x then s
  else if ((s.stream i).layers.getD x.aux {}).trk.length < 16 then
    s.setLayer i x.aux (fun y => { y with trk := y.trk ++
      [{ first := x.e.through, last := x.e.through + x.e.len - 1, slot := x.e.slot, mask := 0 }] })
  else s

/-- A projection command waits for a unit, or is turned away when none is in service and its budget is 0 (R283). -/
def State.enterUnit (s : State) (d : Nat) : State :=
  if s.chooseUnit = none && s.budget (s.desc d).e == 0 then s.finish d .busy else s.stage d (.wait .unit)

/-- APPEND_KV (R126, R129, R263): with its tracker entry and its source data (`bytes` from the host, pulled from a link) it
goes on to a unit; without an entry it waits for its budget. -/
def execAppendKv (d : Nat) (bytes : List Byte) (s : State) : Res :=
  let x := s.desc d
  .next (if !x.runs? 0x23 || s.noHost x.q then s
    else
      let n := (s.clientLayout x).bufBytes x.e.shard x.e.len
      let s := s.askHost x.q x.e.opB n
      let b := ((if (s.queue x.q).isLink then x.data else bytes) ++ List.replicate n 0).take n
      let s := s.takeTracker x
      if !s.hasTracker x then
        (if s.budget x.e = 0 then s.finish d .busy else s.stage d (.wait .tracker))
      else (s.setDesc d { x with data := b }).enterUnit d)

/-- The complete entries that begin at the watermark advance it, one after another (R127). -/
def Layer.advance (slots : KV Layout) : Nat → Layer → Layer
  | 0, y => y
  | n + 1, y =>
    match y.trk.find? (fun t => t.first == y.wm && popCount t.mask 16 == (kvGet {} slots t.slot).shards) with
    | some t => Layer.advance slots n { y with wm := t.last + 1, trk := y.trk.erase t }
    | none => y

/-- Sets the shard bit of an append and advances the watermark (R127). -/
def Layer.durable (slots : KV Layout) (x : Desc) (y : Layer) : Layer :=
  Layer.advance slots 16 { y with trk := y.trk.map (fun (t : Tracker) =>
    if t.first = x.e.through && t.last = x.e.through + x.e.len - 1 && t.slot = x.e.slot then
      { t with mask := if bit t.mask x.e.shard then t.mask else t.mask + 2 ^ x.e.shard } else t) }

/-- The appends of a layer that wait for a tracker entry. -/
def State.trackerWaiters (s : State) (i l : Nat) : List Nat :=
  s.descsWhere (fun x => x.stage == .wait .tracker && x.strm == some i && x.aux == l)

/-- Gives freed tracker entries to the appends that wait for them, by descriptor number (R129; DESIGN CHOICE, log entry 143). -/
def State.grantTrackers (s : State) : List Nat → State
  | [] => s
  | d :: l =>
    let s := s.takeTracker (s.desc d)
    (if s.hasTracker (s.desc d) then s.stage d .ready else s).grantTrackers l

/-- APPEND_DURABLE (R125, R127, R128): the converted sectors are written; when all are taken the shard bit is set, the
watermark advances and the command completes. One that fails leaves the tracker entry that it created in use with its mask as it is (DESIGN CHOICE,
log entry 143). -/
def execAppendDurable (d : Nat) (s : State) : Res :=
  let x := s.desc d
  let i := x.strm.getD 0
  .next (if !(x.e.opcode = 0x23 && x.stage == .exec && s.pjServed d) || s.mergeWaits x.e.tenant (s.appendPieces d) ||
      s.outOfTurn x.e.tenant [] (s.appendPieces d) then s
    else
      let s := s.payTurns x.e.tenant [] (s.appendPieces d)
      let (s, m, ev) := s.appendData d
      let s := (s.countEvents ev).unitDone d
      if m.status ≠ .ok then s.finish d m.status m.result
      else
        let slots := (s.stream i).slots
        let s := (s.setLayer i x.aux (Layer.durable slots x)).contextWrite i
        let wm := ((s.stream i).layers.getD x.aux {}).wm
        (s.finish d .ok { w0 := tokenReg wm }).grantTrackers (s.trackerWaiters i x.aux))

/-- TRACKER_WAIT_EXPIRED (R129, R756): E_BUSY, unless an entry has come free in that tick. -/
def execTrackerWaitExpired (d : Nat) (s : State) : Res :=
  let x := s.desc d
  .next (if x.stage ≠ .wait .tracker || !s.waitedOut x (s.budget x.e) then s
    else
      let s := s.takeTracker x
      if s.hasTracker x then s.stage d .ready else s.finish d .busy)

/-- GATHER_KV (R148, R155, R262, R263): waits for its layer's watermark and a unit; then reads, converts and returns the
tokens. -/
def execGatherKv (d : Nat) (s : State) : Res :=
  let x := s.desc d
  .next (if x.e.opcode ≠ 0x24 then s
    else if x.stage = .ready then
      if s.wmMet x then s.enterUnit d
      else if s.budget x.e = 0 then s.stale d
      else s.stage d (.wait .watermark)
    else if x.stage = .exec && s.pjServed d then
      if s.readWaits x.e.tenant (s.gatherPieces d) || s.outOfTurn x.e.tenant (s.gatherPieces d) [] then s
      else
      let s := s.payTurns x.e.tenant (s.gatherPieces d) []
      let (s, m) := s.gatherMet d
      if m.status ≠ .ok then (s.unitDone d).finish d m.status m.result
      else
        let c := s.clientLayout x
        let vs := (vecIds c x.e.shard x.e.len).map (s.gatherVec x)
        let b := placeRuns (c.bufBytes x.e.shard x.e.len) (vs.map (fun v => (v.1, v.2.1)))
        let s := (s.countEvents ((vs.map (fun v => v.2.2)).foldl Events.add {})).unitDone d
        s.returnData d x.e.opB b {}
    else s)

/-- PJ_UNIT_ASSIGN (R272, R282): the whole command goes to the in-service unit with the fewest bytes queued; so does, at a chunk boundary, one
that a unit out of service still serves. -/
def execPjUnitAssign (d : Nat) (s : State) : Res :=
  let x := s.desc d
  .next (if x.stage = .wait .unit && (x.e.opcode == 0x23 || x.e.opcode == 0x24) then s.assignUnit d
    else match (List.range 8).find? (fun u => (s.pjUnit u).out && (s.pjUnit u).cmds.any (fun c => c.1 == d)) with
      | some u => s.pjMove u d
      | none => s)

/-- PJ_UNIT_WAIT_EXPIRED (R283, R756): E_BUSY while every unit is out of service. -/
def execPjUnitWaitExpired (d : Nat) (s : State) : Res :=
  .next (if (s.desc d).stage ≠ .wait .unit || !s.waitedOut (s.desc d) (s.budget (s.desc d).e) then s
    else if s.chooseUnit = none || !((s.desc d).e.opcode == 0x23 || (s.desc d).e.opcode == 0x24) then s.finish d .busy
    else s.assignUnit d)

/-- PJ_PARITY (R281, R282): the chunk is converted again, counted and recorded; a second error in it ends the command. -/
def execPjParity (u d chunk : Nat) (s : State) : Res :=
  let x := s.pjUnit u
  .next (if !x.served.any (fun c => c.1 == d) || (s.desc d).chunks ≤ chunk then s
    else
      let again := !x.redo.any (fun r => r == (d, chunk))
      let y := s.desc d
      let s := if again then
          (s.setPjUnit u { x with redo := x.redo ++ [(d, chunk)] }).bump F_PJ_REDO_CNT_REDO
        else s
      let info : ErrInfo := {
        kind := 0x11, utype := 7, inst := u, cls := 1, recov := true, tenant := y.e.tenant, ctx := errCtx y.q (y.strm.getD 0), tag := y.e.tag }
      if again then s.reportCured info
      else (s.report { info with norec := true, status := Status.aborted.code, detail := 0x50 }).finish d .aborted {} 0x50)

/-- PJ_U_RETURN (R279, R368): starts the memory self-test of the unit's buffers, which the commands it still served have left (R282). -/
def execPjUReturn (p : Port) (u : Nat) (s : State) : Res :=
  .next (s.ctlWrite p (bar0 6 0x100C) (fun s =>
    if u < 8 && s.jobOn 3 u 0 then s.badAccess p (bar0 6 0x100C)
    else if u < 8 then
      let s := if (s.pjUnit u).out then ((s.pjUnit u).cmds.map (·.1)).foldl (fun s d => s.pjMove u d) s else s
      s.setPjUnit u { s.pjUnit u with testing := true }
    else s))

/-- PJ_U_SELF_TEST_DONE (R279, R660): a pass clears OUT and returns the unit. -/
def execPjUSelfTestDone (u : Nat) (pass : Bool) (s : State) : Res :=
  .next (if !(s.pjUnit u).testing then s
    else
      let x := { s.pjUnit u with testing := false }
      if pass then (s.setPjUnit u { x with out := false }).unitReturn 7 u else s.setPjUnit u x)

end Sys2Proof.Machine
end

