-- ==== Sys2Proof/Machine/Dram.lean ====
section
/-!
DEFINITION. The memory controllers: training, refresh, write queues, command parity, row disturbance, rank migration,
HBM3E folio sparing, self-refresh (HBM3E and DDR5 Controllers).
-/
namespace Sys2Proof.Machine

/-! ## Targets -/

/-- The memory units of a target: channel 0 to 15, or stack 16 to 19. -/
def targetUnits (t : Nat) : List Nat :=
  if t < 16 then [t] else (List.range 32).map (fun i => 16 + 32 * (t - 16) + i)

/-- The error record of a unit: type and instance (Table 20.2). -/
def unitErr (kind u cls : Nat) : ErrInfo :=
  { kind := kind, utype := if u < 16 then 10 else 11, inst := if u < 16 then u else u - 16, cls := cls }

/-- Applies a change to several units. -/
def State.onUnits (s : State) (f : Dram → Dram) : List Nat → State
  | [] => s
  | u :: l => (s.setDram u (f (s.dram u))).onUnits f l

/-- Sets the state code of several units. -/
def State.setStates (s : State) (c : Nat) : List Nat → State
  | [] => s
  | u :: l => (s.setUnitState u c).setStates c l

/-! ## Training (R297 to R302, R308, R310) -/

/-- Memory training starts: every channel, and every pseudo-channel of a populated stack (R686). -/
def State.startTraining (s : State) : State :=
  s.setStates 1 (List.range 16 ++ (s.stacks.map (fun k => targetUnits (16 + k))).flatten)

/-- A rate that Table 10.1 supports for a module type: RDIMM 4800 to 6400, MRDIMM 8000 and 8800 (codes of MC_CFG.MAX_SPEED). -/
def speedSupported (d : Dimm) : Bool := inSet (if d.kind = 1 then [4, 5] else [1, 2, 3]) d.speed

/-- A DIMM of Table 10.1. -/
def dimmSupported (d : Dimm) : Bool :=
  decide (d.kind ≤ 1) && speedSupported d && d.ec8x4 && decide (16 ≤ d.gib) && decide (d.gib ≤ 256) &&
    (d.ranks == 1 || d.ranks == 2 || d.ranks == 4)

/-- A DIMM that the JP-4810 drives and that trained. -/
def dimmUsable (d : Dimm) : Bool := dimmSupported d && d.ok

/-- Equal module organisation (R300). -/
def dimmSameOrg (a b : Dimm) : Bool :=
  a.kind == b.kind && a.density == b.density && a.ranks == b.ranks && a.height == b.height && a.gib == b.gib

/-- The DIMM in a slot of a channel, as training found it. -/
def State.slotDimm (s : State) (ch slot : Nat) : Option Dimm := ((s.dram ch).found.getD [])[slot]?

/-- A channel has trained a DIMM in slot 0. -/
def State.chTrained (s : State) (ch : Nat) : Bool := s.unitState ch == 1 && ((s.slotDimm ch 0).map dimmUsable).getD false

/-- An override shorter than the derived timing is replaced by it, and sets TIMING_CLAMPED (R310). -/
def timingClamped (ovr derived : List Nat) : Bool := (ovr.zip derived).any (fun p => p.1 != 0 && decide (p.1 < p.2))

/-- The timings in force: an override lengthens the derived timing, 0 and a shorter one leave it (R310). -/
def inForce (ovr derived : List Nat) : List Nat := (derived.zip (List.range derived.length)).map (fun p => max p.1 (ovr.getD p.2 0))

/-- The timings of a unit once training has derived them. -/
def Dram.timed (x : Dram) (ovr derived : List Nat) : Dram :=
  { x with trained := true, clamped := timingClamped ovr derived, derived := derived, timing := inForce ovr derived }

/-- The override registers of a channel, in the order of Table 10.11. -/
def State.chOverrides (s : State) (ch : Nat) : List Nat :=
  [F_MC_CH_TIMING_TRCD, F_MC_CH_TIMING_TRP, F_MC_CH_TIMING_TRAS, F_MC_CH_TIMING_TCL, F_MC_CH_TIMING_TWR,
    F_MC_CH_TIMING_TRFC, F_MC_CH_TIMING_TFAW, F_MC_CH_TIMING_TWTRL].map (fun f => s.fld f ch)

/-- The override registers of the stacks. -/
def State.hbOverrides (s : State) : List Nat :=
  [F_HB_TIMING_TRCD, F_HB_TIMING_TRP, F_HB_TIMING_TRAS, F_HB_TIMING_TCL, F_HB_TIMING_TWR,
    F_HB_TIMING_TRFC, F_HB_TIMING_TFAW, F_HB_TIMING_TWTRL].map (fun f => s.fld f)

/-- The candidate interleave sets in their order (R299): first channel and count. -/
def warmSets : List (Nat × Nat) := [(0, 16), (0, 8), (8, 8), (0, 4), (4, 4), (8, 4), (12, 4)]

/-- The channels of a set. -/
def chans (c : Nat × Nat) : List Nat := List.range' c.1 c.2

/-- Slot 1 is used (R300): RDIMMs whose organisation equals that of the slot-0 DIMMs on every channel of the set. -/
def State.slot1Used (s : State) (l : List Nat) : Bool :=
  l.all (fun c => match s.slotDimm c 1 with
    | some d => dimmUsable d && d.kind == 0 && l.all (fun e => ((s.slotDimm e 0).map (dimmSameOrg d)).getD false)
    | none => false)

/-- The rate of all used DIMMs (R301), as MC_CFG.MAX_SPEED codes it. -/
def State.warmRate (s : State) (l : List Nat) (two : Bool) : Nat :=
  let ds := (l.map (fun c => ((s.dram c).found.getD []).take (if two then 2 else 1))).flatten
  let top := if ds.any (fun d => d.kind == 1) then 5 else 3
  let m := s.fld F_MC_CFG_MAX_SPEED
  (ds.map (·.speed)).foldl min (if m = 0 then top else min m top)

/-- A channel of the set enters service: its ranks, their map, the spare in SPARE_RANK mode (R304, Table 10.6). -/
def State.chLive (s : State) (two : Bool) (ch : Nat) : State :=
  let d := (s.slotDimm ch 0).getD {}
  let n := d.ranks * (if two then 2 else 1)
  let spare := s.fld F_MC_CH_CFG_MODE ch == 1 && decide (1 < n)
  let lr := if spare then n - 1 else n
  let x := s.dram ch
  let s := s.setDram ch { x with
    drfm := d.drfm, rfm := d.rfm, lmap := List.range lr
    ranks := (List.range n).foldl (fun m r => kvPut 0 m r (if r < lr then 1 else 2)) [] }
  let s := if spare then s else s.setFld F_MC_CH_CFG_MODE 0 ch
  (s.setUnitState ch 2).setFld F_MC_CH_STATUS_LR lr ch

/-- Fixes the warm tier's interleave set once every channel has trained (R297, R299, R300, R301): RDIMM and MRDIMM do not
mix, and the type of the lowest trained channel stands. -/
def State.fixWarmSet (s : State) : State :=
  let kind := (((List.range 16).find? s.chTrained).bind (fun c => s.slotDimm c 0)).map (·.kind)
  let s := s.setStates 6 ((List.range 16).filter (fun c => s.chTrained c && (s.slotDimm c 0).map (·.kind) != kind))
  let pick := warmSets.find? (fun c => (chans c).all s.chTrained)
  let l := ((pick.map chans).getD [])
  let s := s.setStates 5 ((List.range 16).filter (fun c => s.unitState c == 1 && !inSet l c))
  let two := s.slot1Used l
  let s := { s with mc := { s.mc with rate := s.warmRate l two } }
  let s := l.foldl (fun s c => s.chLive two c) s
  (s.setFld F_MC_STATUS_SET (l.foldl (fun m c => m + 2 ^ c) 0)).setFld F_MC_STATUS_WAYS l.length

/-- DDR5_TRAINING (R297, R299, R308, R310): what training found in the slots of a channel and the timings derived from it; MODE of a channel with one
package rank reads 0 (Table 10.8); the last channel to train fixes the interleave set. -/
def execDdr5Training (ch : Nat) (dimms : List Dimm) (timing : List Nat) (s : State) : Res :=
  .next (if 16 ≤ ch || s.unitState ch != 1 || (s.dram ch).trained then s
    else
      let x := { s.dram ch with found := some (dimms.take 2) }.timed (s.chOverrides ch) timing
      let s := (s.setDram ch x).setFld F_MC_CH_STATUS_TIMING_CLAMPED (b2n x.clamped) ch
      let s := match dimms.head? with
        | none => s.setUnitState ch 0
        | some d => if !dimmSupported d then s.setUnitState ch 6 else if !d.ok then s.setUnitState ch 5 else s
      let s := if (dimms.take 2).map (·.ranks) == [1] then s.setFld F_MC_CH_CFG_MODE 0 ch else s
      if (List.range 16).all (fun c => (s.dram c).trained) then s.fixWarmSet else s)

/-- The candidate stack sets in their order (R302); four stacks only on the JP-4810-A4. -/
def State.hotSets (s : State) : List (List Nat) :=
  (if s.stacks.length == 4 then [[0, 1, 2, 3]] else []) ++ [[0, 1], [2, 3]]

/-- Fixes the hot tier's stack set once every populated stack has trained (R302). -/
def State.fixHotSet (s : State) : State :=
  let good (k : Nat) : Bool := (targetUnits (16 + k)).all (fun u => s.unitState u == 1)
  let l := (s.hotSets.find? (fun c => c.all good)).getD []
  let s := s.setStates 2 (l.map (fun k => targetUnits (16 + k))).flatten
  let s := s.setStates 5 (((List.range 4).filter (fun k => !inSet l k)).map (fun k =>
    (targetUnits (16 + k)).filter (fun u => s.unitState u == 1))).flatten
  s.setFld F_HB_STATUS_SET (l.foldl (fun m k => m + 2 ^ k) 0)

/-- HBM_TRAINING (R297, R302, R308, R310): whether the device ID is that of a 12-high stack, the lanes repaired per
pseudo-channel (none: more lanes fail than are redundant), the derived timings, what the stack advertises of refresh management (R321); the last stack
to train fixes the set. -/
def execHbmTraining (stack : Nat) (high12 : Bool) (lanes : List (Option Nat)) (timing : List Nat) (drfm : Bool) (rfm : Nat) (s : State) : Res :=
  let us := targetUnits (16 + stack)
  .next (if !inSet s.stacks stack || us.any (fun u => s.unitState u != 1 || (s.dram u).trained) then s
    else
      let c := timingClamped s.hbOverrides timing
      let s := s.onUnits (fun x => { x.timed s.hbOverrides timing with drfm := drfm, rfm := rfm }) us
      let s := us.foldl (fun s u =>
        let n := lanes.getD ((u - 16) % 32) none
        let s := (s.setFld F_HB_PC_STATUS_TIMING_CLAMPED (b2n c) (u - 16)).setFld F_HB_PC_STATUS_LANES (n.getD 0) (u - 16)
        if !high12 then s.setUnitState u 6 else if n.isNone then s.setUnitState u 5 else s) s
      if s.stacks.all (fun k =>
          (targetUnits (16 + k)).all (fun u => (s.dram u).trained)) then s.fixHotSet
      else s)

/-- Drifts taken up, one for each DRAM. -/
def addDrift (a b : List Int) : List Int := (List.range (max a.length b.length)).map (fun i => a.getD i 0 + b.getD i 0)

/-- PERIODIC_RETUNE (R309): the write timing of a LIVE unit takes up the drifts that the oscillators show, one for each DRAM of a channel; of a stack,
one for each pseudo-channel. -/
def execPeriodicRetune (target : Nat) (drift : List Int) (s : State) : Res :=
  .next (((targetUnits target).filter (fun u => s.unitState u == 2)).foldl (fun s u =>
    let x := s.dram u
    s.setDram u { x with drift := addDrift x.drift (if target < 16 then drift else (drift.drop ((u - 16) % 32)).take 1) }) s)

/-! ## Refresh (R311 to R313) -/

/-- A line of a unit belongs to a rank, or to the pseudo-channel. -/
def State.lineOfRank (s : State) (u rank line : Nat) : Bool :=
  decide (16 ≤ u) || s.rankOf (line / 4) == rank

/-- Reads or writes are queued for a rank or pseudo-channel. -/
def State.rankBusy (s : State) (u rank : Nat) (reads : Bool) : Bool :=
  reads || (s.dram u).wq.any (fun e => s.lineOfRank u rank e.line)

/-- A refresh is issued: all banks of a DDR5 rank, of a pseudo-channel the bank whose turn it is (R311). -/
def State.refresh (s : State) (u rank : Nat) : State :=
  let x := s.dram u
  (s.setDram u { x with refBank := if u < 16 then x.refBank else (x.refBank + 1) % 48 }).issue u [.refresh rank (if u < 16 then 0 else x.refBank)]

/-- A self-test job withholds the refresh of a rank, or of a stack, during its retention wait (R363). -/
def State.refreshWithheld (s : State) (u rank : Nat) : Bool :=
  s.si.jobs.any (fun j => decide (s.now < j.waitTill) &&
    ((j.kind == 0 && j.index == u && j.rank == rank && decide (u < 16)) || (j.kind == 1 && decide (16 ≤ u) && j.index == (u - 16) / 32)))

/-- REFRESH_DUE (R311, R312): postponed while reads or writes are queued and fewer than 8 are postponed; otherwise issued. `hot` is what the temperature
report says: tREFI is halved. -/
def execRefreshDue (u rank : Nat) (reads hot : Bool) (s : State) : Res :=
  let x := { s.dram u with halved := hot }
  let n := kvGet 0 x.pend rank
  .next (if s.refreshWithheld u rank then s
    else if !x.selfRef && s.rankBusy u rank reads && decide (n < 8) then
      s.setDram u { x with pend := kvPut 0 x.pend rank (n + 1) }
    else if x.selfRef then s.setDram u x
    else (s.setDram u x).refresh u rank)

/-- REFRESH_REPAY (R313, R363): a rank or pseudo-channel with nothing queued repays one postponed refresh, unless a self-test withholds it. -/
def execRefreshRepay (u rank : Nat) (reads : Bool) (s : State) : Res :=
  let x := s.dram u
  .next (if s.refreshWithheld u rank || s.rankBusy u rank reads || kvGet 0 x.pend rank = 0 then s
    else (s.setDram u { x with pend := kvPut 0 x.pend rank (kvGet 0 x.pend rank - 1) }).refresh u rank)

/-! ## Write queues, parity, retraining -/

/-- A write that waited enters its queue, merging into the entry of its line there. -/
def Dram.enter (x : Dram) (e : WqEntry) : Dram :=
  { x with wq := if hasLine x.wq e.line then mergeWq x.wq { e with seqs := [] } else x.wq ++ [{ e with seqs := [] }] }

/-- WRITE_QUEUE_ROOM (R316, R325): the first write that waits, and is not held for the unit in copy of a migration, enters the queue once it has
room. Its command completes once none of its writes waits. -/
def execWriteQueueRoom (u : Nat) (s : State) : Res :=
  let x := s.dram u
  .next (match x.wwait.find? (fun e => !s.inCopy (e.line / 4)) with
    | none => s
    | some e =>
      if x.wq.length < wqSize u || hasLine x.wq e.line then
        (s.setDram u ({ x with wwait := x.wwait.filter (fun w => w.line != e.line) }.enter e)).drainWq u
      else s)

/-- CA_PARITY_ALERT (R317, R318, R370): every command of the retry buffer from place `at_` on, the one that raised the alert, is reissued in order, up
to 3 times; an alert that is not cleared by them persists. A parity error in the retry buffer is such an alert (Table 11.8). -/
def execCaParityAlert (u at_ : Nat) (cleared : Bool) (s : State) : Res :=
  let x := s.dram u
  .next (if s.unitState u != 2 then s
    else
      let s := if u < 16 then s.bump F_MC_PARITY_CNT_REISSUE else s
      s.setDram u { x with reissued := x.retry.drop at_, alerts := s.recentAlerts x ++ [s.now], persist := x.persist || !cleared, caErr := false })

/-- RETRAIN (R318, R658, R659): after an alert that persists or 16 alerts in 1 s. One that comes while the unit retrains
is recorded NESTED. -/
def execRetrain (u : Nat) (s : State) : Res :=
  let x := s.dram u
  .next (if !(x.persist || decide (16 ≤ (s.recentAlerts x).length)) || !(s.unitState u == 2 || s.unitState u == 3) then s
    else
      let go := s.unitState u == 2 && (s.unitRec (unitKey (if u < 16 then 10 else 11) (if u < 16 then u else u - 16))).running.isNone
      let s := s.report { unitErr 0x23 u 1 with recov := true }
      let s := s.setDram u { x with persist := false, alerts := [] }
      if go then (if u < 16 then s.bump F_MC_RETRAIN_CNT_RETRAIN else s).setUnitState u 3 else s)

/-! ## What a failing sector says to its command (R346, R347) -/

/-- The destination sectors that would hold bytes of a failing source sector of a COPY (Table 11.2). -/
def Desc.spoils (x : Desc) (sec : Nat) : List Nat :=
  if x.e.opcode = 0x22 then
    let lost := ((pieces x.src x.e.opB x.e.len).filter (fun p => p.sec == sec)).map (fun p => (p.off, p.len))
    ((pieces x.dst x.e.opA x.e.len).filter (fun p => lost.any (fun r =>
      decide (p.off < r.1 + r.2) && decide (r.1 < p.off + p.len)))).map (·.sec)
  else []

/-- The commands whose E_POISON carries the result of Table 11.3 (R347). -/
def resulted (op : Nat) : Bool := op == 0x20 || op == 0x21 || op == 0x22 || op == 0x23 || op == 0x24

/-- The pieces of tenant memory that a command reads, and those that it writes, by data offset. -/
def State.dataPieces (s : State) (d : Nat) : List Piece × List Piece :=
  let x := s.desc d
  if x.e.opcode = 0x20 then ([], pieces x.dst x.e.opA x.e.len)
  else if x.e.opcode = 0x21 then (pieces x.src x.e.opA x.e.len, [])
  else if x.e.opcode = 0x22 then (pieces x.src x.e.opB x.e.len, pieces x.dst x.e.opA x.e.len)
  else if x.e.opcode = 0x23 then ([], s.appendPieces d)
  else if x.e.opcode = 0x24 then (s.gatherPieces d, [])
  else ([], [])

/-- What a command met in failing sectors (Table 11.3): the data offset of the lowest of them, and how many. -/
def State.metAt (s : State) (d : Nat) (secs : List Nat) : Met :=
  let (r, w) := s.dataPieces d
  Met.join { first := lowestOffset r secs } { first := lowestOffset w secs, poisoned := secs.length, bad := secs }

/-- The result of a command that completes E_POISON over failing sectors; zero for those that carry none (R347). -/
def State.poisonResult (s : State) (d : Nat) (secs : List Nat) : Result :=
  if resulted (s.desc d).e.opcode then (s.metAt d secs).result else {}

/-- A unit goes OUT until device reset (R319): the record of channel scope, nothing stays queued, and a command whose write waited completes
E_POISON with the result of Table 11.3. -/
def State.unitFails (s : State) (u : Nat) : State :=
  let l := (s.dram u).wwait
  let s := (s.setUnitState u 4).setDram u { s.dram u with wq := [], wwait := [] }
  let s := (s.descsWhere (fun x => l.any (fun e => inSet e.seqs x.seq) && x.stage == .done && x.status == .ok)).foldl (fun s d =>
    let x := s.desc d
    let secs := ((l.filter (fun e => inSet e.seqs x.seq)).map (fun e => e.line / 4)).eraseDups
    s.setDesc d { x with status := .poison, res := s.poisonResult d secs }) s
  s.report (unitErr 0x24 u 2)

/-- RETRAIN_END (R318, R319, R761): success resumes traffic, failure takes the unit OUT. -/
def execRetrainEnd (u : Nat) (ok : Bool) (s : State) : Res :=
  let t := if u < 16 then 10 else 11
  let i := if u < 16 then u else u - 16
  .next (if s.unitState u != 3 then s
    else if ok then (((s.setUnitState u 2).drainWq u).recoveryEnd t i true).apSweep
    else ((s.unitFails u).recoveryEnd t i false).apSweep)

/-! ## Row disturbance (R320, R321) -/

/-- The entry with the lowest count, lowest index first: its index and count. -/
def leastEntry : List (Nat × Nat) → Nat → Option (Nat × Nat) → Option (Nat × Nat)
  | [], _, best => best
  | (_, n) :: l, i, best => match best with
    | some (_, m) => leastEntry l (i + 1) (if n < m then some (i, n) else best)
    | none => leastEntry l (i + 1) (some (i, n))

/-- One activate of a row in the table of 32 counters of its bank (R320): the table and the row's count. -/
def activate (t : List (Nat × Nat)) (row : Nat) : List (Nat × Nat) × Nat :=
  match t.findIdx? (fun e => e.1 == row && e.2 != 0) with
  | some i => let n := ((t[i]?).map (·.2)).getD 0 + 1; (t.set i (row, n), n)
  | none => match t.findIdx? (fun e => e.2 == 0) with
    | some i => (t.set i (row, 1), 1)
    | none =>
      if t.length < 32 then (t ++ [(row, 1)], 1)
      else match leastEntry t 0 none with
        | some (i, n) => (t.set i (row, n + 1), n + 1)
        | none => (t, 0)

/-- The neighbour refreshes of a row: rows ± 1, with BLAST also ± 2, or one directed command (R321). -/
def neighbours (row : Nat) (blast directed : Bool) : Nat :=
  if directed then 1
  else ([1, 2].filter (fun d => (d == 1 || blast) && decide (d ≤ row))).length + (if blast then 2 else 1)

/-- An activate counts toward the refresh management that the DRAM advertises: at its threshold the command is issued for the bank and the count
starts again (R321). -/
def Dram.managed (x : Dram) (bank : Nat) : Dram :=
  let n := kvGet 0 x.raa bank + 1
  if x.rfm = 0 then x else { x with raa := kvPut 0 x.raa bank (if x.rfm ≤ n then 0 else n) }

/-- Activates of one row, one after another: the threshold refreshes the neighbours and clears the counter. -/
def State.activates (s : State) (u bank row : Nat) : Nat → State
  | 0 => s
  | n + 1 =>
    let y := (s.dram u).managed bank
    let rfm := y.rfm != 0 && kvGet 0 y.raa bank == 0
    let s := s.issue u (.activate bank row :: (if rfm then [.manage bank] else []))
    let x := { s.dram u with raa := y.raa }
    let (t, c) := activate (kvGet [] x.act bank) row
    let thr := if u < 16 then s.fld F_MC_RH_CFG_THRESH else s.fld F_HB_RH_CFG_THRESH
    let blast := (if u < 16 then s.fld F_MC_RH_CFG_BLAST else s.fld F_HB_RH_CFG_BLAST) == 1
    let s := if thr ≤ c then
        let s := (s.setDram u { x with act := kvPut [] x.act bank (t.map (fun (e : Nat × Nat) => if e.1 == row then (row, 0) else e)) }).issue u
          [.neighbour bank row]
        if u < 16 then s.bump F_MC_NREF_CNT_NREF (neighbours row blast x.drfm) else s
      else s.setDram u { x with act := kvPut [] x.act bank t }
    s.activates u bank row n

/-- ACTIVATE_THRESHOLD (R320, R321): the activates of a bank's rows, in order, each with how often; a counter that reaches
the threshold refreshes the row's neighbours and is cleared. -/
def execActivateThreshold (u bank : Nat) (acts : List (Nat × Nat)) (s : State) : Res :=
  .next (acts.foldl (fun s a => s.activates u bank a.1 a.2) s)

/-- ACTIVATE_WINDOW_CLEAR (R320). -/
def execActivateWindowClear (s : State) : Res :=
  .next (s.onUnits (fun x => { x with act := [] }) (s.mc.units.map (·.1)))

/-! ## Uncorrectable reads (R323) -/

/-- The end E_POISON of the command that read a sector, with the destination sectors that would hold its bytes poisoned (R346, R347). -/
def State.poisonedRead (s : State) (sec d : Nat) (x : Desc) : State :=
  (s.poisonAll (x.spoils sec)).finish d .poison (s.poisonResult d [sec])

/-! ## Unreadable metadata (R671, Table 20.6) -/

/-- The record of unreadable metadata. -/
def metaErr (code dpa tenant : Nat) : ErrInfo :=
  { kind := 0x45, utype := 18, inst := code, cls := if code = 8 then 3 else 2, dpa := dpa, tenant := tenant }

/-- A descriptor-table or translation-store error aborts a command; begun destination sectors are poisoned. -/
def State.descParity (s : State) (d : Nat) (unfinished : List Nat) : State :=
  let x := s.desc d
  (s.poisonUnfinished x.lineDst unfinished).finish d .aborted {} 0x70

/-- The answer to an unreadable sector of a metadata structure, with its record (Table 20.6). The part is the mirror sector (tenant × 524,288 + TFN / 32),
the owner sector (DFN / 32), the stream, an index bucket, a segment, the tag sector (sector / 32), the descriptor, the sector of the firmware
store; a sector holds two buckets and four segment records. -/
def State.metaAnswer (s : State) (code item dpa : Nat) (unfinished : List Nat) : State :=
  if code = 1 then
    { s with map := { s.map with badMirror := setInsert s.map.badMirror item } }.report (metaErr 1 dpa (item / 524288))
  else if code = 2 then (s.toDevice (List.range' (item * 32) 32)).report (metaErr 2 dpa 0)
  else if code = 3 then
    let x := s.stream item
    let s := (s.closeNow unfinished item).1
    s.report (metaErr 3 dpa x.tenant)
  else if code = 4 then
    let es := (s.ct.index.filter (fun p => p.1 / 8 == item / 2)).map (·.2)
    (s.removeEntries (fun e => es.any (· == e))).report (metaErr 4 dpa 0)
  else if code = 5 then
    let t := (s.seg item).publisher
    let s := (List.range' (item / 4 * 4) 4).foldl (fun s i =>
      let r := s.seg i
      (s.setSeg i { r with bad := r.live }).tryFreeSeg i) s
    s.report (metaErr 5 dpa t)
  else if code = 6 then
    { s with si := { s.si with badTags := setInsert s.si.badTags item } }.report (metaErr 6 dpa (s.owner (item / 8)).tenant)
  else if code = 7 then (s.descParity item unfinished).report (metaErr 7 dpa (s.desc item).e.tenant)
  else s.reportReset (metaErr 8 dpa 0)

/-- A sector that a background read found poisoned is answered for, when a metadata structure lies there. What a stopped command left unfinished is not
known to that read (DESIGN CHOICE, log entry 137). -/
def State.answerMeta (s : State) (sec : Nat) : State :=
  match s.metaPart sec with
  | some (c, i) => s.metaAnswer c i (sec * 256) []
  | none => s

/-- A background read that stays uncorrectable: the sector is poisoned and the count rises; its record is DRAM_UE, or METADATA_UE where device metadata
lies there (R323, R356, R671). The tag entry stays as it is (R760). -/
def State.uncorrectableQuiet (s : State) (sec : Nat) : State :=
  let s := ((s.poisonQuiet sec).countUe (s.unitOf sec)).noteUe sec
  if (s.metaPart sec).isSome then s.answerMeta sec else s.report (s.secErr 0x20 sec {})

/-- The same for a read of no command and no background engine. -/
def State.uncorrectableBy (s : State) (sec : Nat) (w : For) : State :=
  if (s.metaPart sec).isSome then s.uncorrectableQuiet sec else s.uncorrectable sec w

/-- The first read of an injection's target line is uncorrectable: no pattern is applied and FIRE is refused (R370). -/
def State.injectionFails (s : State) (line : Nat) : State :=
  if s.si.inject.any (fun v => v / 8 == line) then { s.setFld F_SI_INJ_STATUS_LAST 2 with si := { s.si with inject := none } } else s

/-- UNCORRECTABLE_READ (R323, R326, R338 to R342): a read finds a line wrong, for the command `d` if any. What is correctable is delivered and
counted; the poison syndrome is poison met; what is uncorrectable is read once more, and when it is so again the sector is poisoned, counted and
recorded, and the command completes E_POISON. A line of device metadata is answered as Table 20.6 states; the target line of an injection in
progress is FIRE's own first read (R370). -/
def execUncorrectableRead (line : Nat) (first second : LineErr) (d : Option Nat) (s : State) : Res :=
  let sec := line / 4
  let e := s.natural line first second
  .next (if s.poisoned sec || (d.isSome && (d.bind s.desc?).isNone) then s
    else match lineVerdict (isHotSec sec) e, d.bind s.desc? with
      | .poison, none => ((s.bump F_SI_POISON_MET_MET).rezero (sec / 256)).answerMeta sec
      | .poison, some x => ((s.bump F_SI_POISON_MET_MET).poisonedRead sec (d.getD 0) x).rezero (sec / 256)
      | .failed, none => (s.uncorrectableBy sec {}).injectionFails line
      | .failed, some x => (s.uncorrectable sec x.who).poisonedRead sec (d.getD 0) x
      | _, _ => s.decodeLine line e)

/-! ## Rank migration (R324 to R329) -/

/-- The rank in a state, if there is one. -/
def Dram.rankIn (x : Dram) (st : Nat) : Option Nat := (x.ranks.find? (fun p => p.2 == st)).map (·.1)

/-- The bytes of one package rank. -/
def Dram.rankBytes (x : Dram) : Nat :=
  match (x.found.getD []).head? with
  | some d => d.gib * 1073741824 / max 1 d.ranks
  | none => 0

/-- A rank becomes SOURCE, the spare TARGET; a self-test job on the spare stops at its next slice boundary (R324, R367). -/
def State.migrate (s : State) (ch r t : Nat) : State :=
  let x := s.dram ch
  let s := s.setDram ch { x with
    ranks := kvPut 0 (kvPut 0 x.ranks r 3) t 4, migr := some { src := r, tgt := t, total := x.rankBytes / 2048 }
    idle := x.idle.filter (fun p => p.1 != t)
    trig := x.trig.filter (fun p => p.1 != r) }
  let s := (((s.setFld F_MC_CH_MIGR_DONE_DONE 0 ch).setFld F_MC_CH_MIGR_SRC r ch).setFld F_MC_CH_MIGR_TGT t ch).setFld F_MC_CH_MIGR_ACTIVE 1 ch
  { s with si := { s.si with jobs := s.si.jobs.map (fun (j : BistJob) =>
      if j.kind == 0 && j.index == ch && j.rank == t then { j with stopping := true } else j) } }

/-- Starts the retirement of a rank with the cause that triggered it: recorded, and begun unless the channel's recovery
unit is busy, in which case the trigger waits (R324, R658). -/
def State.retire (s : State) (ch r t cause : Nat) : State :=
  let u := s.unitRec (unitKey 10 ch)
  let s := s.report { unitErr 0x25 ch 1 with recov := true, data := r + t * 2 ^ 32 + cause * 2 ^ 64 }
  if u.running.isNone && u.escBy.isNone && s.unitState ch == 2 then s.migrate ch r t
  else if (s.dram ch).trig.any (fun p => p.1 == r) then s
  else s.setDram ch { s.dram ch with trig := (s.dram ch).trig ++ [(r, cause)] }

/-- RANK_RETIREMENT (R324): the oldest trigger that waits on a channel; with no SPARE rank it is recorded and the rank
stays LIVE. -/
def execRankRetirement (ch : Nat) (s : State) : Res :=
  let x := s.dram ch
  .next (if 16 ≤ ch || s.unitState ch != 2 || s.fld F_MC_CH_CFG_MODE ch != 1 || x.migr.isSome ||
        (s.unitRec (unitKey 10 ch)).queued.isSome then
      (if ch < 16 && !x.trig.isEmpty && (x.rankIn 2).isNone then s.setFld F_MC_CH_STATUS_SPARE_EXHAUSTED 1 ch else s)
    else match x.trig with
      | [] => s
      | (r, c) :: _ =>
        if kvGet 0 x.ranks r != 1 then s.setDram ch { x with trig := x.trig.drop 1 }
        else match x.rankIn 2 with
          | none => s.setFld F_MC_CH_STATUS_SPARE_EXHAUSTED 1 ch
          | some t => s.retire ch r t c)

/-- The sector of device memory that is the `n`-th of a package rank's channel addresses (Table 10.2 read backwards). -/
def State.rankSector (s : State) (ch r n : Nat) : Option Nat :=
  let x := s.dram ch
  match x.lmap.findIdx? (fun p => p == r) with
  | none => none
  | some l =>
    let q := (n / 64 / x.banks * x.lmap.length + l) * x.banks + n / 64 % x.banks
    let c := q * 64 + n % 64
    let ways := s.warmWays
    let want := ch - lowBit (s.fld F_MC_STATUS_SET) 16
    let k := (want + ways - c * ways / 256 % ways) % ways
    let w := c * ways + k
    if w / 256 < s.fld F_TOP_WARM_FOLIOS_COUNT then some (warmBase * 256 + w) else none

/-- Copies one sector of a migration or sparing copy to another unit or rank: its lines are read and written, poison met is counted, a read that stays
uncorrectable poisons the copy and counts for its row (R326, R330, R331), a corrected one is copied corrected. -/
def State.copySector (s : State) (bad : List Nat) (tgt : Nat) (sec : Nat) : State :=
  let s := s.issue (s.unitOf sec) ((List.range' (4 * sec) 4).map .read)
  let s := if s.poisoned sec then s.bump F_SI_POISON_MET_MET
    else match s.secVerdict sec with
      | .poison => ((s.bump F_SI_POISON_MET_MET).poisonQuiet sec).answerMeta sec
      | v =>
        if inSet bad sec || v == .failed then s.uncorrectableQuiet sec
        else
          let s := s.decodeSec sec
          { s with si := { s.si with lineErr := s.si.lineErr.filter (fun p => p.1 / 4 != sec) } }
  s.issue tgt ((List.range' (4 * sec) 4).map .write)

/-- MIGRATION_UNIT_COPY (R325, R326): the next 2 KiB unit of the source rank; `bad` are the sectors that read
uncorrectable twice. -/
def execMigrationUnitCopy (ch : Nat) (bad : List Nat) (s : State) : Res :=
  let x := s.dram ch
  .next (match x.migr with
    | none => s
    | some m =>
      if m.paused || x.selfRef || m.total ≤ m.done || s.unitState ch != 2 || s.jobOn 0 ch m.tgt then s
      else
        let secs := (List.range 8).filterMap (fun i => s.rankSector ch m.src (8 * m.done + i))
        let s := secs.foldl (fun s sec => s.copySector bad ch sec) s
        let s := s.setDram ch { s.dram ch with migr := some { m with done := m.done + 1 } }
        s.setFld F_MC_CH_MIGR_DONE_DONE ((m.done + 1) / 512) ch)

/-- MIGRATION_COMPLETE (R327, R366, R761): the logical rank maps to TARGET; SOURCE goes OUT and loses its self-test pass. -/
def execMigrationComplete (ch : Nat) (s : State) : Res :=
  let x := s.dram ch
  .next (match x.migr with
    | none => s
    | some m =>
      if m.done < m.total then s
      else
        let s := s.setDram ch { x with
          migr := none, lmap := x.lmap.map (fun r => if r == m.src then m.tgt else r)
          ranks := kvPut 0 (kvPut 0 x.ranks m.src 5) m.tgt 1 }
        let s := s.setFld F_MC_CH_MIGR_ACTIVE 0 ch
        let s := s.setFld F_SI_T_PASS_PASS (putBits (s.fld F_SI_T_PASS_PASS ch) m.src 1 0) ch
        s.recoveryEnd 10 ch true)

/-- The BAR0 offset of MC_CH_RANK_CTL. -/
def rankCtlOff : Nat := bar0 8 0x1018

/-- RANK_RETIRE (R324, R336): refused with LAST and nothing changed, or retirement starts. -/
def execRankRetire (p : Port) (ch rank : Nat) (s : State) : Res :=
  .next (s.ctlWrite p rankCtlOff (fun s =>
    let x := s.dram ch
    let last (c : Nat) : State := s.setFld F_MC_CH_LAST_LAST c ch
    if 16 ≤ ch then s
    else if s.fld F_MC_CH_CFG_MODE ch != 1 then last 1
    else if x.migr.isSome then last 3
    else match x.rankIn 2 with
      | none => last 2
      | some t => if kvGet 0 x.ranks (rank % 8) != 1 then last 5 else (last 0).retire ch (rank % 8) t 2))

/-- RANK_RETURN (R328, R336, R368): a tested OUT rank becomes SPARE, or the command is refused with LAST. -/
def execRankReturn (p : Port) (ch rank : Nat) (s : State) : Res :=
  .next (s.ctlWrite p rankCtlOff (fun s =>
    let x := s.dram ch
    let r := rank % 8
    let last (c : Nat) : State := s.setFld F_MC_CH_LAST_LAST c ch
    if 16 ≤ ch then s
    else if s.jobOn 0 ch r then last 3
    else if kvGet 0 x.ranks r != 5 then last 5
    else if (x.rankIn 2).isSome || (x.rankIn 3).isSome || (x.rankIn 4).isSome then last 3
    else if !bit (s.fld F_SI_T_PASS_PASS ch) r then last 4
    else (last 0).setDram ch { x with ranks := kvPut 0 x.ranks r 2 }))

/-! ## HBM3E folio sparing (R330 to R333) -/

/-- The folios of the hot tier in service with a sector in a row, by their place (Table 10.3); none for a row of a stack out of service. -/
def State.rowFolios (s : State) (r : HbmRow) : List Nat :=
  let lo := 16 + 32 * lowBit (s.fld F_HB_STATUS_SET) 4
  let i := r.unit - lo
  let b := Nat.xor r.bank (r.row % 48)
  if 48 ≤ b || r.unit < lo || s.hotWays ≤ i then []
  else ((List.range 4).map (fun j => (((r.row * 48 + b) * 4 + j) * s.hotWays + i) / 256)).eraseDups

/-- The lowest free spare folio. -/
def State.freeSpare (s : State) : Option Nat :=
  (List.range' s.map.spares.1 s.map.spares.2).find? (fun f =>
    !s.mc.remap.any (fun r => r.spare == f) && !inSet s.map.device f)

/-- Free spare folios (HB_SPARE_STATUS.FREE). -/
def State.sparesFree (s : State) : Nat :=
  s.map.spares.2 - (s.map.device.filter s.isSpare).length -
    (s.mc.remap.filter (fun r => s.isSpare r.spare && !inSet s.map.device r.spare)).length

/-- The copy of one folio of a failing row starts: the folio itself, or the folio whose spare lies there (R330, R332). -/
def State.spareFolio (s : State) (u place : Nat) : State :=
  let who := match s.mc.remap.find? (fun r => r.spare == place) with
    | some r => some r.dfn
    | none => if s.isSpare place || s.mc.remap.any (fun r => r.dfn == place) then none else some place
  match who with
  | none => s
  | some f =>
    if s.mc.remap.any (fun r => r.dfn == f && r.copying) then s
    else match s.freeSpare with
    | none => s.setFld F_HB_SPARE_STATUS_EXHAUSTED 1
    | some sp =>
      let s := { s with mc := { s.mc with remap := s.mc.remap ++ [({ dfn := f, spare := sp, unit := u } : Spare)] } }
      s.report { unitErr 0x26 u 1 with recov := true, data := f + sp * 2 ^ 32 }

/-- The copy of what lies at a folio's place runs: of the folio itself, or of the folio whose spare lies there. -/
def State.spared (s : State) (place : Nat) : Bool :=
  s.mc.remap.any (fun r => r.copying && (r.dfn == place || s.mc.remap.any (fun k => !k.copying && k.spare == place && k.dfn == r.dfn)))

/-- ROW_SPARE (R330 to R333): each folio with a sector in the failing row starts its copy, and a row so spared joins the repair list
in boot flash; one that finds no spare stays under R323 alone (R332). -/
def execRowSpare (u bank row : Nat) (s : State) : Res :=
  let r : HbmRow := { unit := u, bank := bank, row := row }
  .next (if !s.mc.rowTrig.any (fun x => x == r) then s
    else
      let s := { s with mc := { s.mc with rowTrig := s.mc.rowTrig.filter (fun x => x != r) } }
      let fs := s.rowFolios r
      let s := fs.foldl (fun s f => s.spareFolio u f) s
      if s.mc.repairList.any (fun x => x == r) || !fs.any s.spared then s
      else { s with mc := { s.mc with repairList := s.mc.repairList ++ [r] } })

/-- SPARE_COPY_COMPLETE (R331, R332, R761): a folio's copy ends, its remap takes effect and replaces an earlier one, whose
spare holds the failing row and is free no more (log entry 57); `bad` are the sectors that read uncorrectable twice. -/
def execSpareCopyComplete (dfn : Nat) (bad : List Nat) (s : State) : Res :=
  .next (match if s.ck.power = 0 then s.mc.remap.find? (fun r => r.dfn == dfn && r.copying) else none with
    | none => s
    | some k =>
      let u := k.unit
      let s := ((List.range 256).map (fun i => dfn * 256 + i)).foldl (fun s sec => s.copySector bad (s.hotUnit (k.spare * 256 + sec % 256)) sec) s
      let old := (s.mc.remap.filter (fun r => r.dfn == dfn && !r.copying)).map (·.spare)
      let s := s.toDevice old
      let s := { s with mc := { s.mc with remap :=
        (s.mc.remap.filter (fun (r : Spare) => !(r.dfn == dfn && !r.copying))).map (fun (r : Spare) =>
          if r.dfn == dfn then { r with copying := false } else r) } }
      (s.bump F_HB_SPARED_CNT_SPARED).recoveryEnd 11 (u - 16) true)

/-! ## Self-refresh (R313, R329, R361, R367, R590, R594) -/

/-- Work of the maintenance class keeps a channel or stack awake (R590, R594). -/
def State.maintenance (s : State) (t : Nat) : Bool :=
  ((targetUnits t).any (fun u => (s.dram u).migr.isSome)) ||
    s.si.jobs.any (fun j => (j.kind == 0 && j.index == t) || (j.kind == 1 && 16 + j.index == t)) ||
    s.map.zeroing.any (fun r => decide (r.1 < warmBase) == decide (16 ≤ t)) ||
    (decide (16 ≤ t) && s.mc.remap.any (·.copying))

/-- What a unit issues before self-refresh: its queued writes, then every postponed refresh (R313). -/
def Dram.drainCmds (x : Dram) : List DramCmd :=
  (x.wq ++ x.wwait).map (fun e => .write e.line) ++ (x.pend.map (fun p => List.replicate p.2 (DramCmd.refresh p.1 0))).flatten

/-- A channel or stack enters self-refresh: writes drain, postponed refreshes are repaid, migration, scrubber and jobs
pause. -/
def State.toSelfRefresh (s : State) (t : Nat) : State :=
  let s := (targetUnits t).foldl (fun s u => s.issue u (s.dram u).drainCmds) s
  let s := s.onUnits (fun x => { x with
    wq := [], wwait := [], pend := [], selfRef := true
    migr := x.migr.map (fun m => { m with paused := true }) }) (targetUnits t)
  let s : State := { s with si := { s.si with scrub := kvPut {} s.si.scrub t { (kvGet {} s.si.scrub t) with paused := true } } }
  s.pauseJobs true (fun j => bistTarget j.kind j.index == t)

/-- A channel or stack leaves self-refresh; what paused resumes. -/
def State.fromSelfRefresh (s : State) (t : Nat) : State :=
  let s := s.onUnits (fun x => { x with selfRef := false, migr := x.migr.map (fun m => { m with paused := false }) })
    (targetUnits t)
  let s : State := { s with si := { s.si with scrub := kvPut {} s.si.scrub t { (kvGet {} s.si.scrub t) with paused := false } } }
  (s.pauseJobs false (fun j => bistTarget j.kind j.index == t)).apSweep

/-- A channel or stack is in service: its units are LIVE or OUT, one of them LIVE. -/
def State.inService (s : State) (t : Nat) : Bool :=
  (targetUnits t).all (fun u => s.unitState u == 2 || s.unitState u == 4) && (targetUnits t).any (fun u => s.unitState u == 2)

/-- SELF_REFRESH_ENTRY (R590, Table 18.2): an idle channel or stack, with A2 allowed. -/
def execSelfRefreshEntry (target : Nat) (s : State) : Res :=
  .next (if target < 20 && s.fld F_CK_PWR_CFG_DEEPEST == 2 && s.inService target && !s.maintenance target &&
      (targetUnits target).all (fun u => (s.dram u).wwait.isEmpty && !(s.dram u).selfRef) then s.toSelfRefresh target
    else s)

/-- SELF_REFRESH_EXIT (R592, R594): an access, or a scrubber behind its schedule, wakes a channel or stack. -/
def execSelfRefreshExit (target : Nat) (s : State) : Res :=
  .next (if target < 20 && (targetUnits target).any (fun u => (s.dram u).selfRef) then s.fromSelfRefresh target else s)

end Sys2Proof.Machine
end

