-- ==== Sys2Proof/Machine/Integrity.lean ====
section
/-!
DEFINITION. Scrubbers, self-test jobs, injection, SRAM parity and unreadable metadata (Stored-Data Integrity, Scrubbing and
Self-Test; Errors and Recovery, Table 20.6).
-/
namespace Sys2Proof.Machine

/-! ## The scrubber (R357 to R361) -/

/-- A scrubber. -/
def State.scrubber (s : State) (t : Nat) : Scrub := kvGet {} s.si.scrub t

/-- Replaces a scrubber. -/
def State.setScrub (s : State) (t : Nat) (x : Scrub) : State := { s with si := { s.si with scrub := kvPut {} s.si.scrub t x } }

/-- A scrub target: a channel of the interleave set or a stack in service (R357, R372). -/
def State.scrubs (s : State) (t : Nat) : Bool :=
  if t < 16 then bit (s.fld F_MC_STATUS_SET) t else t < 20 && bit (s.fld F_HB_STATUS_SET) (t - 16)

/-- The lines of one pass: LIVE, SPARE and TARGET ranks, or the stack (R357). -/
def State.scrubLines (s : State) (t : Nat) : Nat :=
  if t < 16 then
    let x := s.dram t
    (x.ranks.filter (fun p => p.2 == 1 || p.2 == 2 || p.2 == 4)).length * (x.rankBytes / 64)
  else 603979776

/-- The data that a place of the hot tier holds: the folio whose spare lies there, none where a spared folio lay, otherwise its own (R330). -/
def State.placed (s : State) (w : Nat) : Option Nat :=
  match s.mc.remap.find? (fun r => r.spare == w / 256 && !r.copying) with
  | some r => some (r.dfn * 256 + w % 256)
  | none => if s.mc.remap.any (fun r => r.dfn == w / 256 && !r.copying) then none else some w

/-- The sector of the line at a place of a pass, where device addresses reach it: channel addresses ascending. -/
def State.scrubSector (s : State) (t pos : Nat) : Option Nat :=
  let n := pos / 4
  if t < 16 then
    let ways := s.warmWays
    let k := (t - lowBit (s.fld F_MC_STATUS_SET) 16 + ways - n * ways / 256 % ways) % ways
    let w := n * ways + k
    if w / 256 < s.fld F_TOP_WARM_FOLIOS_COUNT then some (warmBase * 256 + w) else none
  else
    let w := n / 32 * s.hotWays + 32 * (t - 16 - lowBit (s.fld F_HB_STATUS_SET) 4) + n % 32
    if w / 256 < s.fld F_TOP_HOT_FOLIOS_COUNT then s.placed w else none

/-- A line that no device address names: its unit, its rank (0 in the hot tier), its number there, whether it lies in the hot tier, its row then. -/
structure IdleLine where
  unit : Nat
  rank : Nat
  n : Nat
  hot : Bool
  row : HbmRow
  deriving DecidableEq, Repr

/-- The line at a place of a pass that no device address reaches: of a stack the place of a spared folio; of a channel, beyond the addresses of the
logical ranks, the ranks that hold no data, SPARE and TARGET. -/
def State.scrubSpare (s : State) (t pos : Nat) : Option IdleLine :=
  let n := pos / 4
  if 16 ≤ t then
    let w := n / 32 * s.hotWays + 32 * (t - 16 - lowBit (s.fld F_HB_STATUS_SET) 4) + n % 32
    if w / 256 < s.fld F_TOP_HOT_FOLIOS_COUNT then some { unit := s.hotUnit w, rank := 0, n := 4 * w + pos % 4, hot := true, row := s.rowAt w }
    else none
  else
    let x := s.dram t
    let n := x.rankBytes / 64
    let rs := ((x.ranks.filter (fun p => p.2 == 2 || p.2 == 4)).map (·.1))
    let live := n * (x.ranks.filter (fun p => p.2 == 1)).length
    if pos < live then none
    else (rs[(pos - live) / max 1 n]?).map (fun r => { unit := t, rank := r, n := (pos - live) % max 1 n, hot := false, row := ⟨0, 0, 0⟩ })

/-- Per mille of the current pass (SI_T_SCRUB.PROGRESS). -/
def State.scrubProgress (s : State) (t : Nat) : Nat := (s.scrubber t).pos * 1000 / max 1 (s.scrubLines t)

/-- A scrubber is stopped: by SCRUB_CTL, in self-refresh, while its unit retrains or migrates (R361). -/
def State.scrubStopped (s : State) (t : Nat) : Bool :=
  (s.scrubber t).held || (s.scrubber t).paused ||
    (targetUnits t).any (fun u => (s.dram u).selfRef || s.unitState u == 3 || (s.dram u).migr.isSome)

/-- The answer to one line: a poisoned sector counts once per pass, a corrected line is written back unless a write to it
is queued, an uncorrectable one is answered under R323 (R359, R360). -/
def State.scrubLine (s : State) (t line : Nat) (first second : LineErr) : State :=
  let sec := line / 4
  let x := s.scrubber t
  let met (s : State) : State :=
    if inSet x.counted sec then s else (s.setScrub t { x with counted := [sec] }).bump F_SI_POISON_MET_MET
  let s := s.issue (s.unitOf sec) [.read line]
  if s.poisoned sec then met s
  else
    let e := s.natural line first second
    let s := s.countOnDie sec e
    match lineVerdict (isHotSec sec) e with
    | .poison => ((met s).rezero (sec / 256)).answerMeta sec
    | .failed => (s.bump F_SI_T_SCRUB_UE_UE 1 t).uncorrectableQuiet sec
    | .clean => s
    | v =>
      let s := (s.bump F_SI_T_SCRUB_CE_CE 1 t).noteCe sec
      let s := if v = .wrong then s.miscorrect line e else s
      if hasLine ((s.dram (s.unitOf sec)).wq ++ (s.dram (s.unitOf sec)).wwait) line then s
      else { s with si := { s.si with lineErr := kvErase s.si.lineErr line } }.issue (s.unitOf sec) [.write line]

/-- The answer to a line of a rank that holds no data, or of the place of a spared folio: no device address names it, so its record has DPA 0. Its
sector is poisoned where it stands, all four lines, until the rank takes data (R323, R342, R359; log entry 118). -/
def State.scrubIdle (s : State) (t : Nat) (y : IdleLine) (first second : LineErr) : State :=
  let s := s.issue y.unit [.readIdle y.rank y.n]
  let x := s.dram y.unit
  let e := if lineVerdict y.hot first = .failed then second else first
  let mark := 2 ^ 60 + y.rank * 2 ^ 48 + y.n / 4
  let met (s : State) : State :=
    let k := s.scrubber t
    if inSet k.counted mark then s else (s.setScrub t { k with counted := [mark] }).bump F_SI_POISON_MET_MET
  if x.idle.any (fun p => p == (y.rank, y.n)) then met s
  else match lineVerdict y.hot e with
    | .clean => s
    | .poison => met s
    | .failed =>
      let s := s.setDram y.unit { x with idle := x.idle ++ (List.range' (y.n / 4 * 4) 4).map (fun i => (y.rank, i)) }
      let s := if y.hot then s.rowTrigger y.row else s
      (((s.bump F_SI_POISON_CNT_POISONED).bump F_SI_T_SCRUB_UE_UE 1 t).countUe y.unit).report (unitErr 0x20 y.unit 2)
    | _ =>
      let s := s.bump F_SI_T_SCRUB_CE_CE 1 t
      if y.hot then s.noteRowCe y.row else s.noteRankCe t y.rank

/-- SCRUB_READ (R338 to R342, R357 to R360): the next line of a scrubber; `first` and `second` are what is wrong in it by nature at the first and at the
second read, `late` whether the class ceiling holds it back. -/
def execScrubRead (target : Nat) (first second : LineErr) (late : Bool) (s : State) : Res :=
  .next (if !s.scrubs target || s.scrubStopped target then s
    else
      let x := s.scrubber target
      let s := if late && !x.late then (s.setFld F_SI_EVENT_SCRUB_LATE 1).devEvent 1 else s
      let s := s.setScrub target { x with late := late }
      let s := match s.scrubSector target x.pos with
        | some sec => s.scrubLine target (sec * 4 + x.pos % 4) first second
        | none => match s.scrubSpare target x.pos with
          | some y => s.scrubIdle target y first second
          | none => s
      let y := s.scrubber target
      if s.scrubLines target ≤ x.pos + 1 then
        (s.setScrub target { y with pos := 0, counted := [] }).setFld F_SI_T_PASSES_PASSES
          (s.fld F_SI_T_PASSES_PASSES target + 1) target
      else s.setScrub target { y with pos := x.pos + 1 })

/-- The scrub targets that a SCRUB_CTL names; none when it names one outside the set (R372). -/
def State.scrubNamed (s : State) (t : Nat) : List Nat :=
  if t = 0xFF then (List.range 20).filter s.scrubs else if s.scrubs t then [t] else []

/-- SCRUB_CTL (R372, Tables 11.9 and 11.10): the result for a command that names all is the free value of log entry 8. -/
def State.scrubCtl (s : State) (d action : Nat) (f : State → Nat → State) : State :=
  let x := s.desc d
  let hours := bits x.e.opB 0 11
  if !x.runs? 0x7D || bits x.e.opA 8 4 != action then s
  else
    let l := s.scrubNamed (bits x.e.opA 0 8)
    if l.isEmpty || (action == 0 && (hours == 0 || decide (1024 < hours))) || (action != 0 && hours != 0) then s.finish d .param
    else
      let s := l.foldl f s
      match l with
      | [t] =>
        s.finish d .ok { w0 := s.fld F_SI_T_SCRUB_PERIOD t, w1 := s.scrubProgress t, w2 := s.fld F_SI_T_PASSES_PASSES t }
      | _ =>
        let n := s.fresh
        (s.draw).finish d .ok {
          w0 := (Config.scrubAll n 0).toNat, w1 := (Config.scrubAll n 1).toNat, w2 := (Config.scrubAll n 2).toNat }

/-- SCRUB_SET_PERIOD (R361): from the next line on. -/
def execScrubSetPeriod (d : Nat) (s : State) : Res :=
  .next (s.scrubCtl d 0 (fun s t => s.setFld F_SI_T_SCRUB_PERIOD (bits (s.desc d).e.opB 0 11) t))

/-- SCRUB_PAUSE (R372). -/
def execScrubPause (d : Nat) (s : State) : Res :=
  .next (s.scrubCtl d 1 (fun s t => s.setScrub t { s.scrubber t with held := true }))

/-- SCRUB_RESUME (R372). -/
def execScrubResume (d : Nat) (s : State) : Res :=
  .next (s.scrubCtl d 2 (fun s t => s.setScrub t { s.scrubber t with held := false }))

/-- SCRUB_RESTART_PASS (R372): a new pass at the first line. -/
def execScrubRestartPass (d : Nat) (s : State) : Res :=
  .next (s.scrubCtl d 3 (fun s t => s.setScrub t { s.scrubber t with pos := 0, counted := [] }))

/-! ## Self-test (R362 to R369) -/

/-- BIST_RUN operand A and bytes 48 to 51 (Table 11.9). -/
structure BistArgs where
  kind : Nat
  index : Nat
  rank : Nat
  patterns : Nat
  budget : Nat
  retMs : Nat
  deriving DecidableEq, Repr

/-- Reads the arguments of a BIST_RUN. -/
def Entry.bist (e : Entry) : BistArgs :=
  { kind := bits e.opA 0 2, index := bits e.opA 4 6, rank := if bits e.opA 0 2 = 0 then bits e.opA 12 3 else 0,
    patterns := bits e.opA 16 4, budget := bits e.spec 0 16, retMs := bits e.spec 16 16 }

/-- The fields of a BIST_RUN are in range (Table 11.9, R372, R374). -/
def bistOk (e : Entry) (a : BistArgs) : Bool :=
  a.patterns != 0 && e.len % 32 == 0 && decide (32 ≤ e.len) && decide (e.len ≤ 1048576) &&
    (a.budget == 0 || (decide (100 ≤ a.budget) && decide (a.budget ≤ 50000)))

/-- The package ranks that are fitted on a channel. -/
def Dram.fitted (x : Dram) : Nat := ((x.found.getD []).map (·.ranks)).foldl (· + ·) 0

/-- A target of Table 11.5 in a state that the table allows. -/
def State.bistAllowed (s : State) (a : BistArgs) : Bool :=
  if a.kind = 0 then
    a.index < 16 && ((s.unitState a.index == 5 && decide (a.rank < (s.dram a.index).fitted)) ||
      kvGet 0 (s.dram a.index).ranks a.rank == 5 || kvGet 0 (s.dram a.index).ranks a.rank == 2)
  else if a.kind = 1 then
    inSet s.stacks a.index && !bit (s.fld F_HB_STATUS_SET) a.index
  else if a.kind = 2 then a.index < 8 && (s.cluster a.index).st == 4
  else a.index < 8 && (s.pjUnit a.index).out

/-- The target of the arguments as SI_SEL.INDEX. -/
def BistArgs.target (a : BistArgs) : Nat := bistTarget a.kind a.index

/-- The patterns of a job in table order (Table 11.6). -/
def BistJob.selected (j : BistJob) : List Nat := (List.range 4).filter (bit j.patterns)

/-- The pattern of slice `i` of a job: the patterns one after another, in equal parts of the slices (R363; DESIGN CHOICE, log entry 120). -/
def BistJob.patternAt (j : BistJob) (i : Nat) : Nat := j.selected.getD (i * j.selected.length / max 1 j.planned) 0

/-- The first slice of the retention pattern that reads: its slices before that write, then the wait follows (Table 11.6). -/
def BistJob.retRead (j : BistJob) : Option Nat :=
  ((List.range j.planned).find? (fun i => j.patternAt i == 3)).map (fun a => (a + j.planned + 1) / 2)

/-- BIST_RUN (R362, R364, R372): starts a job; `planned` is the number of slices that the device plans, at least two for each pattern. -/
def execBistRun (d planned : Nat) (s : State) : Res :=
  let x := s.desc d
  let a := x.e.bist
  .next (if !x.runs? 0x7C || x.e.flag 8 || x.e.flag 10 then s
    else if !bistOk x.e a then s.finish d .param
    else if !s.bistAllowed a then s.finish d .busy {} 1
    else if s.jobOn a.kind a.index a.rank || 16 ≤ s.si.jobs.length then s.finish d .busy {} 2
    else
      let j : BistJob := {
        kind := a.kind, index := a.index, rank := a.rank, patterns := a.patterns, planned := max 8 planned,
        budget := if a.budget = 0 then 2000 else a.budget, retMs := if a.retMs = 0 then 64 else a.retMs,
        fn := (s.queue x.q).fn, buf := x.e.opB, room := x.e.len / 32 }
      let s := { s with si := { s.si with jobs := s.si.jobs ++ [j] } }
      let s := ((s.setFld F_SI_T_BIST_STATE 1 a.target).setFld F_SI_T_BIST_PROGRESS 0 a.target).setFld
        F_SI_T_BIST_FAILS_FAILS 0 a.target
      s.finish d .ok { w0 := a.target, w1 := max 8 planned })

/-- BIST_ABORT (R367, R372): the named target's job stops at its next slice boundary. -/
def execBistAbort (d : Nat) (s : State) : Res :=
  let x := s.desc d
  let a := x.e.bist
  .next (if !x.runs? 0x7C || !x.e.flag 10 then s
    else if !bistOk x.e a || !s.jobOn a.kind a.index a.rank then s.finish d .param
    else
      let s := { s with si := { s.si with jobs := s.si.jobs.map (fun (j : BistJob) =>
        if j.kind == a.kind && j.index == a.index && j.rank == a.rank then { j with stopping := true } else j) } }
      s.finish d .ok { w0 := a.target })

/-- The records of a repair buffer. -/
def bistRecords (b : List Byte) : List (List Byte) := (List.range (b.length / 32)).map (fun i => (b.drop (32 * i)).take 32)

/-- What a record repairs: its pseudo-channel, carrel or rank, its bank or array, its row or word (R369). -/
def recordRow (r : List Byte) : List Byte := (r.drop 2).take 1 ++ (r.drop 4).take 2 ++ (r.drop 8).take 4

/-- The outcome of the repair of a row on a target kind (Table 11.11, byte 7). -/
def repairCode (kind : Nat) (soft : Bool) : Nat := if kind = 0 then (if soft then 2 else 1) else if kind = 1 then 3 else 4

/-- A record names the command's target. -/
def recordOf (a : BistArgs) (r : List Byte) : Bool :=
  (r.getD 0 0).toNat == a.kind && (r.getD 1 0).toNat == a.index && (a.kind != 0 || (r.getD 2 0).toNat == a.rank)

/-- The outcome of each record: refused when it names another target, NO_RESOURCE for the rows that the target has no
repair resource for (`lack`, by place in the order of distinct rows), otherwise repaired once per row. -/
def repairOutcomes (a : BistArgs) (soft : Bool) (rs : List (List Byte)) (lack : List Nat) : List Nat :=
  let rows := ((rs.filter (recordOf a)).map recordRow).eraseDups
  rs.map (fun r => if !recordOf a r then 6
    else if inSet lack ((rows.findIdx? (fun x => x == recordRow r)).getD 0) then 5 else repairCode a.kind soft)

/-- The redundancy entries that are still blank, of 512 (Table 16.2). -/
def State.redundLeft (s : State) : Nat := 512 - s.se.fuses.redund

/-- Burns redundancy entries (R369). -/
def State.burnRedund (s : State) (n : Nat) : State :=
  { s with se := { s.se with fuses := { s.se.fuses with redund := s.se.fuses.redund + n } } }

/-- The distinct rows without a repair resource: those of `lack`, and SRAM words beyond the blank redundancy entries. -/
def State.repairLack (s : State) (kind n : Nat) (lack : List Nat) : List Nat :=
  if kind < 2 then lack else lack ++ ((List.range n).filter (fun i => !inSet lack i)).drop s.redundLeft

/-- BIST_REPAIR (R366, R369, R372, Table 11.10): `records` are the buffer's bytes as the device reads them; the repair of an SRAM word burns
a redundancy entry. Records that cannot be written end the command E_ABORTED with the repairs standing (R759). -/
def execBistRepair (d : Nat) (records : List Byte) (lack : List Nat) (s : State) : Res :=
  let x := s.desc d
  let a := x.e.bist
  .next (if !x.runs? 0x7C || !x.e.flag 8 || x.e.flag 10 || s.noHost x.q then s
    else if s.fld F_SE_STATUS_LC == 4 then s.finish d .unsupported
    else if !bistOk x.e a then s.finish d .param
    else if !s.bistAllowed a then s.finish d .busy {} 1
    else if s.jobOn a.kind a.index a.rank then s.finish d .busy {} 2
    else
      let s := s.askHost x.q x.e.opB x.e.len
      let rs := bistRecords ((records ++ List.replicate x.e.len 0).take x.e.len)
      let rows := ((rs.filter (recordOf a)).map recordRow).eraseDups
      let lack := s.repairLack a.kind rows.length lack
      let os := repairOutcomes a (x.e.flag 9) rs lack
      let good := (List.range rows.length).filter (fun i => !inSet lack i)
      let b := ((rs.zip os).map (fun p => p.1.set 7 (BitVec.ofNat 8 p.2))).flatten
      let s := s.setFld F_SI_T_PASS_PASS (putBits (s.fld F_SI_T_PASS_PASS a.target) a.rank 1 0) a.target
      let s := if a.kind < 2 then s else s.burnRedund good.length
      match s.hostFault with
      | some c => s.finish d .aborted {} c
      | none => (s.emit (.hostWrite (s.queue x.q).fn x.e.opB b)).finish d .ok {
          w0 := good.length, w1 := (os.filter (· == 5)).length, w2 := (os.filter (· == 6)).length })

/-- Replaces the job on a target. -/
def State.putJob (s : State) (j : BistJob) : State :=
  { s with si := { s.si with jobs := s.si.jobs.map (fun (i : BistJob) =>
      if i.kind == j.kind && i.index == j.index && i.rank == j.rank then j else i) } }

/-- The job on a target. -/
def State.job? (s : State) (kind index rank : Nat) : Option BistJob :=
  s.si.jobs.find? (fun j => j.kind == kind && j.index == index && j.rank == rank)

/-- A failure record of a job: its target and pattern stand in bytes 0 to 3, its repair outcome and the bytes
that the table gives no meaning are 0 (Table 11.11). -/
def BistJob.record (j : BistJob) (r : List Byte) : List Byte :=
  let b := (r ++ List.replicate 32 0).take 32
  let b := ((b.set 0 (BitVec.ofNat 8 j.kind)).set 1 (BitVec.ofNat 8 j.index)).set 3 (BitVec.ofNat 8 (j.patternAt j.ran))
  let b := if j.kind = 0 then b.set 2 (BitVec.ofNat 8 j.rank) else if j.kind = 3 then (b.set 2 0).set 14 0 else b.set 14 0
  (((b.set 6 0).set 7 0).take 28) ++ List.replicate 4 0

/-- BIST_SLICE (R363, R365): the next slice of a job, once its retention wait is over, and the failing bits it finds, one record of 32 bytes each;
records beyond the buffer are counted only. Records wait while their function sends no request (R452); what cannot be sent is not written later
(R759). The slice that ends the writing of the retention pattern begins its wait. -/
def execBistSlice (kind index rank : Nat) (records : List (List Byte)) (s : State) : Res :=
  .next (match s.job? kind index rank with
    | none => s
    | some j =>
      let fit := (records.take (j.room - j.written)).map j.record
      if j.stopping || j.paused || j.planned ≤ j.ran || s.now < j.waitTill || (!fit.isEmpty && s.fnSilent j.fn) then s
      else
        let t := bistTarget kind index
        let s := if fit.isEmpty || s.hostFault.isSome then s else s.emit (.hostWrite j.fn (j.buf + 32 * j.written) fit.flatten)
        let s := s.putJob { j with
          ran := j.ran + 1, waitTill := if j.retRead = some (j.ran + 1) then s.now + j.retMs * 1000000 else j.waitTill, fails := j.fails + records.length, written := j.written + fit.length }
        (s.bump F_SI_T_BIST_FAILS_FAILS records.length t).setFld F_SI_T_BIST_PROGRESS ((j.ran + 1) * 1000 / j.planned) t)

/-- BIST_JOB_END (R365 to R367): a job that has run its slices ends DONE, a stopped one ABORTED; a pass needs all four patterns
and no failure. -/
def execBistJobEnd (kind index rank : Nat) (s : State) : Res :=
  .next (match s.job? kind index rank with
    | none => s
    | some j =>
      if !j.stopping && j.ran < j.planned then s
      else
        let t := bistTarget kind index
        let s := { s with si := { s.si with jobs := s.si.jobs.filter (fun i => i != j) } }
        let s := s.setFld F_SI_T_BIST_STATE (if j.stopping then 4 else 3) t
        let s := if !j.stopping && j.patterns == 15 && j.fails == 0 then
            s.setFld F_SI_T_PASS_PASS (putBits (s.fld F_SI_T_PASS_PASS t) rank 1 1) t
          else s
        (s.setFld F_SI_EVENT_BIST_DONE 1).devEvent 1)

/-! ## Injection (R370, R371) -/

/-- The target line of SI_INJ_ADDR. -/
def State.injLine (s : State) : Nat := (s.fld F_SI_INJ_ADDR_ADDR_LO + s.fld F_SI_INJ_ADDR_ADDR_HI * 2 ^ 32) / 64

/-- FIRE is refused (R371); equal devices refuse on DDR5, equal bits on HBM3E. -/
def State.injRefused (s : State) : Bool :=
  let l := s.injLine
  let dfn := l / 1024
  let k := s.fld F_SI_INJ_CFG_KIND
  !(s.isHot dfn || s.isWarm dfn) || s.poisoned (l / 4) || k == 0 || decide (5 ≤ k) ||
    (k == 2 && (if dfn < warmBase then s.fld F_SI_INJ_CFG_BIT0 == s.fld F_SI_INJ_CFG_BIT1
      else s.fld F_SI_INJ_CFG_DEV0 == s.fld F_SI_INJ_CFG_DEV1)) ||
    (k == 4 && (s.tag (l / 4)).state != .tagged)

/-- INJECT_FIRE (R370, R371): ignored while an injection is in progress; refused, or started with the kind set now. -/
def execInjectFire (p : Port) (s : State) : Res :=
  .next (s.ctlWrite p (bar0 10 0x1C) (fun s =>
    if s.fld F_SI_INJ_STATUS_LAST == 3 then s
    else if s.injRefused then s.setFld F_SI_INJ_STATUS_LAST 2
    else { s.setFld F_SI_INJ_STATUS_LAST 3 with
      si := { s.si with inject := some (s.injLine * 8 + s.fld F_SI_INJ_CFG_KIND) } }))

/-- INJECTION_DONE (R370): the line is read, corrected and written back with the pattern; an uncorrectable first read is
answered under R323 and refuses; one that is so by nature is an UNCORRECTABLE_READ of the line while the injection is in progress. -/
def execInjectionDone (s : State) : Res :=
  .next (match s.si.inject with
    | none => s
    | some v =>
      let line := v / 8
      let k := v % 8
      let hot := isHotSec (line / 4)
      let s := { s with si := { s.si with inject := none } }
      let refused (s : State) : State := s.setFld F_SI_INJ_STATUS_LAST 2
      match lineVerdict hot (s.errOf line) with
      | .failed => refused (s.uncorrectable (line / 4) {})
      | .poison => refused ((s.bump F_SI_POISON_MET_MET).rezero (line / 4 / 256))
      | _ =>
        let s := (s.issue (s.unitOf (line / 4)) [.read line]).decodeLine line (s.errOf line)
        let s := (s.queueWrite (line * 64) 64).cacheDrop (line / 4)
        let e := injectErr hot k (s.fld F_SI_INJ_CFG_DEV0) (s.fld F_SI_INJ_CFG_DEV1) (s.fld F_SI_INJ_CFG_BIT0) (s.fld F_SI_INJ_CFG_BIT1)
        let s := if k = 1 || k = 2 then { s with si := { s.si with lineErr := kvPut {} s.si.lineErr line e } }
          else if k = 3 then
            s.setDram (s.unitOf (line / 4)) { s.dram (s.unitOf (line / 4)) with caErr := true }
          else s.setTag (line / 4) (s.tag (line / 4) ^^^ 1)
        s.setFld F_SI_INJ_STATUS_LAST 1)

/-! ## SRAM parity (R375, Table 11.8) -/

/-- WQ_PARITY: the line's sector is poisoned, the entry discarded, the loss recorded with its DPA. -/
def execWqParity (line : Nat) (s : State) : Res :=
  let u := s.unitOf (line / 4)
  let x := s.dram u
  .next (if !hasLine x.wq line then s
    else
      let s := s.setDram u { x with wq := x.wq.filter (fun e => e.line != line) }
      (s.poisonSector (line / 4)).report { s.secErr 0x22 (line / 4) {} with dpa := line * 64 })

/-- DESC_PARITY. -/
def execDescParity (d : Nat) (unfinished : List Nat) (s : State) : Res :=
  .next (match s.desc? d with
    | none => s
    | some x => (s.descParity d unfinished).report {
        kind := 0x02, utype := 2, cls := 2, tenant := x.e.tenant, ctx := x.who.ctx, tag := x.e.tag,
        status := Status.aborted.code, detail := 0x70 })

/-- CT_STASH_PARITY: the stash entry is removed; its segment record stays while it is referenced, and is freed at count 0 (R174). -/
def execCtStashParity (i : Nat) (s : State) : Res :=
  .next (match s.ct.stash[i]? with
    | none => s
    | some e =>
      ({ s with ct := { s.ct with stash := s.ct.stash.eraseIdx i } }.unindex [e]).report { kind := 0x18, utype := 9, cls := 2 })

/-- CT_CACHE_PARITY: the hot entry is fetched again from the table; an error that escalates the catalog removes the index entry
(R659, Table 20.2). -/
def execCtCacheParity (i : Nat) (s : State) : Res :=
  .next (match s.ct.hot[i]? with
    | none => s
    | some h =>
      let had := (s.unitRec (unitKey 9 0)).escBy.isSome
      let s := s.reportCured { kind := 0x19, utype := 9, cls := 1, recov := true }
      if had || (s.unitRec (unitKey 9 0)).escBy.isNone then s
      else s.removeEntries (fun e => e.hash == h))

/-! ## Unreadable metadata (R671, Table 20.6) -/

/-- The sector of a part of a metadata structure (Tables 20.6 and 21.3): the mirror sector (tenant × 524,288 + TFN / 32), the owner sector
(DFN / 32), the stream, the index bucket, the segment, the tag sector (sector / 32), the descriptor, the sector of the firmware store. -/
def State.metaItem (s : State) (code item : Nat) : Nat :=
  if code = 1 then s.mirrorSec (item / 524288) (item % 524288 * 32)
  else if code = 2 then s.ownerSec (item * 32)
  else if code = 3 then s.streamSec item
  else if code = 4 then s.bucketSec item
  else if code = 5 then s.segSec item
  else if code = 6 then s.tagSec (item * 32)
  else if code = 7 then s.metaSec 8192 (2048 * item)
  else s.metaSec 0 (256 * item)

/-- An unreadable metadata sector: poison met, or poisoned now and counted (R323, R356). -/
def State.metaPoison (s : State) (sec : Nat) : State :=
  if s.poisoned sec then s.bump F_SI_POISON_MET_MET else ((s.storePoison sec).countUe (s.unitOf sec)).noteUe sec

/-- METADATA_UE (R323, R356, R671, Table 20.6): a read of metadata is uncorrectable, or finds its sector poisoned; when the second read is uncorrectable
too, the sector is poisoned, the structure is answered for as the table says, and the record carries the sector's DPA. -/
def execMetadataUe (code item : Nat) (second : Bool) (unfinished : List Nat) (s : State) : Res :=
  let sec := s.metaItem code item
  let dpa := sec * 256
  .next (if code = 0 || 8 < code || !(second || s.poisoned sec) then s
    else
    let s := s.metaPoison sec
    s.metaAnswer code item dpa unfinished)

end Sys2Proof.Machine
end

