-- ==== Sys2Proof/Machine/KeyOps.lean ====
section
/-!
DEFINITION. The key table's shared operations: who holds a handle, the first step of a retirement, zeroisation (Tenant Keys
and Weight Custody).
-/
namespace Sys2Proof.Machine

/-- The slot that a handle names in its current generation, if it is not FREE (R556). -/
def State.slotOf (s : State) (h : Nat) : Option Nat :=
  let i := h % 2048
  if h = s.slotHandle i && (s.slot i).st != .free then some i else none

/-- A descriptor in its execute stage holds handles (R562); one that waits before it, or whose status is final, does not. -/
def Desc.holds (x : Desc) : Bool :=
  match x.stage with
  | .wait .fence | .wait .carrel | .wait .tracker | .wait .watermark | .wait .unit | .wait .solver | .wait .link
  | .wait .linkOut | .wait .turn | .wait .retire => false
  | .done => false
  | _ => true

/-- The link session of a descriptor's queue: its link and index, 0 for none. -/
def State.descSession (s : State) (x : Desc) : Nat × Nat :=
  let y := s.queue x.outQ
  if y.isLink then
    (y.origin, (((s.link y.origin).sessions.find? (fun p => p.2.bound && p.2.tenant == y.tenant && p.1 != 63)).map
      (·.1)).getD 0)
  else (0, 0)

/-- A descriptor's operation needs a slot: the memory key of an owner of its folios, the session it pulls or returns
through, the weight key of its release (R562). -/
def State.needs (s : State) (x : Desc) (i : Nat) : Bool :=
  let k := s.slot i
  if k.kind = 1 then
    (x.src ++ x.dst).any (fun f => (s.owner f).tenant == k.tenant && decide ((s.owner f).st ≠ .free))
  else if k.kind = 2 || k.kind = 3 then
    let (l, n) := s.descSession x
    n != 0 && (kvGet {} (s.link l).sessions n).handle == s.slotHandle i &&
      (x.e.pulls || x.e.returns || (x.e.opcode == 0x7B && x.e.opA % 16 == 3))
  else if k.kind = 4 then x.e.opcode == 0x7B && x.e.opA % 16 == 3 && bits x.e.spec 0 32 == s.slotHandle i
  else false

/-- The descriptors that need a slot and hold a handle on it, or do not. -/
def State.holders (s : State) (i : Nat) (held : Bool) : List Nat :=
  s.descsWhere (fun x => x.stage != .done && x.holds == held && s.needs x i)

/-- The sessions of all links bound to a slot: link and index. -/
def State.sessionsOn (s : State) (i : Nat) : List (Nat × Nat) :=
  let h := s.slotHandle i
  (s.lk.links.map (fun p => (p.2.sessions.filter (fun y => y.2.bound && y.2.handle == h)).map (fun y => (p.1, y.1)))).flatten

/-- A slot enters RETIRING: the descriptors that would need it and hold no handle complete E_RETIRED (R568 step 1). -/
def State.retireSlot (s : State) (i : Nat) : State :=
  let k := s.slot i
  if k.st ≠ .active then s
  else (s.finishAll .retired 0 (s.holders i false)).setSlot i { k with st := .retiring, since := s.now, stopped := 0 }

/-- Zeroises a slot: its generation advances, the lines tagged with its handle are invalidated (R556, R568 steps 5
and 6). -/
def State.zeroise (s : State) (i : Nat) (st : SlotState) : State :=
  let k := s.slot i
  let h := s.slotHandle i
  let s := s.cacheCut (fun l => l.handle == h)
  s.setSlot i (if st = .lost then { st := .lost, kind := k.kind, tenant := k.tenant, gen := (k.gen + 1) % 65536 }
    else { st := st, gen := (k.gen + 1) % 65536 })

/-- Free tenant slots (SE_KEY_FREE.FREE). -/
def State.slotsFree (s : State) : Nat := 1984 - (s.ks.filter (fun p => decide (64 ≤ p.1) && p.2.st != .free)).length

/-- The lowest free tenant slot. -/
def State.freshSlot (s : State) : Option Nat := firstFrom (fun i => (s.slot i).st == .free) 1984 64

/-- A KEY_RETIRE whose slot is FREE completes (R582, Table 17.7). -/
def State.retireDone (s : State) (i since stopped : Nat) : State :=
  s.sweep (fun s d => s.finish d .ok { w0 := (s.desc d).e.opA % 2 ^ 32, w1 := stopped, w2 := (s.now - since) / 1000 })
    (s.descsWhere (fun x => x.e.opcode == 0x79 && decide (x.stage = .wait .retire) && x.e.opA % 2048 == i))

/-- Zeroisation without drain (R571): what needs the slot stops and completes E_RETIRED, with begun sectors poisoned; its
sessions close without COMPLETION flits; the slot is LOST. -/
def State.loseSlot (s : State) (i : Nat) (unf : List Nat) : State :=
  let k := s.slot i
  if k.st = .free || k.st = .lost then s
  else
    let s := s.poisonUnfinished ((s.holders i true).map (fun d => (s.desc d).lineDst)).flatten unf
    let s := (s.finishAll .retired 0 (s.holders i true ++ s.holders i false)).apStopSlot i
    let s := (s.sessionsOn i).foldl (fun s p =>
      let x := s.link p.1
      let y := kvGet {} x.sessions p.2
      s.setLink p.1 { x with
        waiting := x.waiting.filter (fun f => f.session != p.2)
        sessions := kvPut {} x.sessions p.2 { bound := y.bound, tenant := y.tenant, handle := y.handle } }) s
    s.zeroise i .lost

/-- A RETIRING slot that no operation and no session of a link holds is zeroised and FREE (R568). -/
def State.tryZeroise (s : State) (i : Nat) : State :=
  let k := s.slot i
  if k.st = .retiring && (s.holders i true).isEmpty && !s.apHolds i &&
      !(s.sessionsOn i).any (fun p =>
        let y := kvGet {} (s.link p.1).sessions p.2
        y.isOpen || y.closing) then
    (s.zeroise i .free).retireDone i k.since k.stopped
  else s

end Sys2Proof.Machine
end

