-- ==== Sys2Proof/Machine/LinkOps.lean ====
section
/-!
DEFINITION. Links: states, drops, violations, sessions, MCTP messages on MGMT flits, the CONFIG exchange (Gweusk Links).
-/
namespace Sys2Proof.Machine

/-! ## MCTP messages (R467, Table 14.5) -/

/-- The transmission unit of a binding: 64 B on PCIe VDM and I3C, 236 B on a link. -/
def mctpUnit (b : Nat) : Nat := if b < 2 then 64 else 236

/-- The MCTP packets of a message: header version 1, the source EID `eid` and a null destination (log entry 134), start and end marks, packet number,
tag owner, tag 0. -/
def mctpPackets (u eid : Nat) (req : Bool) (msg : List Byte) : List (List Byte) :=
  let n := max 1 (ceilDiv msg.length u)
  (List.range n).map (fun i =>
    [1, 0, BitVec.ofNat 8 eid, BitVec.ofNat 8 (b2n (i == 0) * 128 + b2n (i + 1 == n) * 64 + i % 4 * 16 + b2n req * 8)] ++
      (msg.drop (u * i)).take u)

/-- Sends a message on a link as MGMT flits; a link has the null EID. -/
def State.sendMctp (s : State) (l : Nat) (req : Bool) (msg : List Byte) : State :=
  s.sendFlits l ((mctpPackets 236 0 req msg).map (fun b => { type := 11, vc := 3, body := b }))

/-- Sends a message on a binding: 0 PCIe VDM, 1 I3C, 2 + n link n; elsewhere (64 the DOE mailbox, 65 the CXL mailbox) as a whole. -/
def State.sendMsg (s : State) (b : Nat) (req : Bool) (msg : List Byte) : State :=
  if 2 ≤ b && decide (b < 50) then s.sendMctp (b - 2) req msg
  else if b < 2 then (mctpPackets (mctpUnit b) (kvGet 0 s.mg.eid b) req msg).foldl (fun s p => s.emit (.mctp b p)) s
  else s.emit (.mgmt b 0 0 msg)

/-- A vendor-defined message (Table 14.11): a request, or a response with its completion code. -/
def vendorMsg (req : Bool) (inst cmd : Nat) (code : Option Nat) (data : List Byte) : List Byte :=
  [0x7E, 0x1F, 0x7A, BitVec.ofNat 8 (b2n req * 128 + inst % 32), BitVec.ofNat 8 cmd] ++
    (match code with | some c => [BitVec.ofNat 8 c] | none => []) ++ data

/-- Answers a message on a binding. -/
def State.answer (s : State) (b : Nat) (msg : List Byte) : State := s.sendMsg b false msg

/-- An answer: a message type with the command's code, a completion code, data. The mailboxes give them as fields. -/
def State.respond (s : State) (b ty cmd code : Nat) (data : List Byte) : State :=
  if b < 50 then s.sendMsg b false ([BitVec.ofNat 8 ty, BitVec.ofNat 8 cmd, BitVec.ofNat 8 code] ++ data)
  else s.emit (.mgmt b (ty * 65536 + cmd) code data)

/-- The PLDM types (Table 14.8). -/
def pldmTypes : List Nat := [0, 2, 5]

/-- The commands of a type (Table 14.8), by their DMTF codes. -/
def pldmCommands (t : Nat) : List Nat :=
  if t = 0 then [1, 2, 3, 4, 5]
  else if t = 2 then [0x04, 0x0A, 0x0B, 0x0C, 0x11, 0x21, 0x50, 0x51]
  else if t = 5 then [0x01, 0x02, 0x10, 0x13, 0x14, 0x15, 0x16, 0x17, 0x18, 0x1A, 0x1B, 0x1C, 0x1D]
  else []

/-- Those of them that Table 14.8 marks as sent by the device. -/
def pldmSent (t c : Nat) : Bool := (t == 2 && c == 0x0A) || (t == 5 && (c == 0x15 || c == 0x18))

/-- The SPDM requests supported (Table 14.7), IDE_KM's on DOE only. -/
def spdmRequests (b : Nat) : List Nat :=
  [0x84, 0xE1, 0xE3, 0x81, 0x82, 0x83, 0xE0, 0xE4, 0xE5, 0xE8, 0xE9, 0xEC, 0x85, 0x86] ++ (if b = 64 then [0xFE] else [])

/-- The MCTP control commands answered (Table 14.6). -/
def controlCommands : List Nat := [1, 2, 3, 4, 5, 6, 0xB, 0xC, 0xD]

/-- A whole request of a message type that is answered, with a command that is not: the error of its standard (R471, R473; log entry 135). A command that
is answered has a row of its own, so its message does nothing here. -/
def State.unknownCmd (s : State) (b : Nat) (m : List Byte) : State :=
  let ty := leAt m 0 1 % 128
  let t := leAt m 2 1 % 64
  let c := leAt m 3 1
  if ty = 0 && bit (leAt m 1 1) 7 && !inSet controlCommands (leAt m 2 1) then s.respond b 0 (leAt m 2 1) 5 []
  else if ty = 1 && bit (leAt m 1 1) 7 && (!inSet (pldmCommands t) c || pldmSent t c) then s.respond b 1 (t * 256 + c) 5 []
  else if ty = 5 && decide (0x80 ≤ leAt m 2 1) && !inSet (spdmRequests b) (leAt m 2 1) then s.respond b 5 (leAt m 2 1) 7 []
  else s

/-! ## States -/

/-- A link goes to a state; a change sets the LINK event (Table 15.8). -/
def State.linkTo (s : State) (l : Nat) (st : LinkState) : State :=
  let x := s.link l
  if x.st = st then s
  else
    let s := s.setLink l { x with st := st, upSince := if (x.st = .active || x.st = .quarantine) then x.upSince else s.now }
    s.devEvent 2

/-- Changes a session of a link. -/
def State.setSession (s : State) (l i : Nat) (y : Session) : State :=
  s.setLink l { s.link l with sessions := kvPut {} (s.link l).sessions i y }

/-- A session of a link. -/
def State.session (s : State) (l i : Nat) : Session := kvGet {} (s.link l).sessions i

/-- A session as it is once closed: its binding stays. -/
def Session.shut (y : Session) : Session := { bound := y.bound, tenant := y.tenant, handle := y.handle }

/-- A DATA flit of a pull's queue and XTAG. -/
def Pull.flit (p : Pull) (f : Flit) : Bool := f.type == 5 && f.queue == p.queue && f.xtag == p.xtag

/-- The descriptors whose data has all come in flits that are acknowledged and opened: they are processed in full (R389). -/
def Link.arrived (x : Link) : List Nat :=
  (x.pulls.map (·.d)).eraseDups.filter (fun d =>
    let ps := x.pulls.filter (fun p => p.d == d)
    let fs := (x.late ++ x.rxq).filter (fun g => !g.isNew && g.verdict == some true && ps.any (fun p => p.flit g.toFlit))
    decide (d < 16384) && ps.all (fun p => p.asked && !p.failed) &&
      (ps.map (fun p => p.count - p.got)).foldl (· + ·) 0 == (fs.map (fun (g : RxFlit) => g.body.length)).foldl (· + ·) 0)

/-- The pulls of descriptors go, with the flits that have come for them. -/
def Link.dropPulls (x : Link) (ds : List Nat) : Link :=
  let gone (g : RxFlit) : Bool := x.pulls.any (fun p => inSet ds p.d && p.flit g.toFlit)
  { x with
    pulls := x.pulls.filter (fun p => !inSet ds p.d)
    rxq := x.rxq.filter (fun g => !gone g)
    used := kvPut 0 x.used 1 ((kvGet 0 x.used 1 + (x.rxq.filter gone).length) % 65536) }

/-- Commands of a link's queues that pull or return data go back to their resource wait (R414); `t` limits it to a
tenant. Those whose data has all come, or is all acknowledged, go on (R389, R401). -/
def State.suspendTransfers (s : State) (l : Nat) (t : Option Nat) : State :=
  let mine (x : Desc) : Bool := (s.queue x.outQ).origin == l && (t.isNone || t == some (s.queue x.outQ).tenant)
  let ins := s.descsWhere (fun x => mine x && decide (x.stage = .wait .dataIn))
  let ins := ins.filter (fun d => !inSet (s.link l).arrived d)
  let outs := s.descsWhere (fun x => mine x && decide (x.stage = .wait .dataOut) && s.dataUnacked l x.outQ x.xtag)
  let s := s.setLink l ((s.link l).dropPulls ins)
  let s := ins.foldl (fun s d => s.setDesc d { s.desc d with stage := .wait .link, data := [], bad := [] }) s
  outs.foldl (fun s d => s.stage d (.wait .linkOut)) s

/-- Flits of a session that wait to be sent are dropped as it closes; `own` keeps the COMPLETION flits, which go out before the
device's CLOSE (R418), and the ends of stopped releases (R579). -/
def State.unsend (s : State) (l i : Nat) (own : Bool) : State :=
  s.setLink l { s.link l with waiting := (s.link l).waiting.filter (fun f => f.session != i || (own && (f.type == 6 || (f.poison && f.body.isEmpty)))) }

/-- The peer state of a link changes; the session-63 key exists only while it is VERIFIED (R432, R566). -/
def State.setPeer (s : State) (l st : Nat) : State :=
  let s := { s with cn := { s.cn with peers := kvPut 0 s.cn.peers l st } }
  if st ≠ 2 && (s.slot (16 + l)).st != .free then s.zeroise (16 + l) .free else s

/-- The received flits of a link that are processed although it went down: those acknowledged (R389), of DATA those of a pull that has come whole, for
any other pull ends with its command (R413). A SESSION flit has no session left. Their session has been checked; its key is gone. -/
def Link.kept (x : Link) : List RxFlit :=
  let ds := x.arrived
  let data (f : RxFlit) : Bool := f.verdict == some true && x.pulls.any (fun p => inSet ds p.d && p.flit f.toFlit)
  x.late.filter (fun f => f.type != 5 || data f) ++
    (x.rxq.filter (fun f => !f.isNew && f.type != 12 && (f.type != 5 || data f))).map (fun (f : RxFlit) => { f with session := 0 })

/-- What a link loses when it leaves ACTIVE, QUARANTINE or RECOVERY for DOWN or DISABLED: sequence numbers, replay buffer,
flits that wait, credits, sessions, peer state (R394, R407, R432); acknowledged flits stay to be processed (R389). It is no route link until the next
adoption (R434). -/
def State.clearLink (s : State) (l : Nat) : State :=
  let s := s.suspendTransfers l none
  let x := s.link l
  let s := s.setLink l {
    pulls := x.pulls.filter (fun p => inSet x.arrived p.d)
    st := x.st, drops := x.drops, viols := x.viols, heldUntil := x.heldUntil, upSince := x.upSince, late := x.kept
    sessions := x.sessions.map (fun (p : Nat × Session) => (p.1, p.2.shut)) }
  { s with cn := { s.cn with away := setInsert s.cn.away l } }.setPeer l 0

/-- The unit record kind and data of a link event. -/
def linkErr (kind l data : Nat) : ErrInfo := { kind := kind, utype := 12, inst := l, cls := 0, data := data }

/-- A DOWN link is held: the fifth drop within 10 s (R416). -/
def State.holdLink (s : State) (l : Nat) : State :=
  let h := s.fld F_LK_L_HOLD_HOLDOFF l
  let s := (s.linkTo l .held).setFld F_LK_L_HOLD_HOLDOFF (min 320 (2 * h)) l
  let s := s.setLink l { s.link l with heldUntil := s.now + h * 1000000000 }
  s.report (linkErr 0x29 l h)

/-- The link and session index that a SESSION_BIND names. -/
def Entry.sessionAt (e : Entry) : Nat × Nat := (bits e.opA 0 6, bits e.opA 8 6)

/-- An UNBIND whose session has closed unbinds the index and completes (R582). -/
def State.unbindDone (s : State) (d : Nat) : State :=
  let x := s.desc d
  let (l, i) := x.e.sessionAt
  let y := s.session l i
  if y.isOpen || y.closing then s
  else (s.setSession l i {}).finish d .ok { w0 := x.e.opB % 2 ^ 32, w1 := l + 256 * i }

/-- Retirements and unbindings that wait for a session of a link, once it has closed. -/
def State.tryZeroiseAll (s : State) : State :=
  let s := ((s.ks.filter (fun p => p.2.st == .retiring)).map (·.1)).foldl State.tryZeroise s
  s.sweep State.unbindDone (s.descsWhere (fun x => x.e.opcode == 0x7A && decide (x.stage = .wait .others)))

/-- A drop (R407, R413, R416, R565): from ACTIVE, QUARANTINE or RECOVERY to DOWN with a cause. Commands that pull or return
data end E_ABORTED, attested sessions of the link retire, the fifth drop in 10 s holds the link. -/
def State.dropLink (s : State) (l cause : Nat) (unf : List Nat) : State :=
  let x := s.link l
  if !(x.isUp || x.st = .recovery) then s
  else
    let busy := (s.descsWhere (fun y => (s.queue y.outQ).origin == l &&
      (decide (y.stage = .wait .dataIn) || (decide (y.stage = .wait .dataOut) && s.dataUnacked l y.outQ y.xtag)))).filter
        (fun d => !inSet x.arrived d)
    let dst := (busy.map (fun d => (s.desc d).lineDst)).flatten
    let s := (s.clearLink l).linkTo l .down
    let s := (s.poisonUnfinished dst unf).finishAll .aborted 0x80 busy
    let s := (s.setFld F_LK_L_LASTDROP_CAUSE cause l).bump F_LK_L_DROPS_DROPS 1 l
    let s := s.report (linkErr 0x28 l cause)
    let att := (s.ks.filter (fun p => p.2.kind == 3 && p.2.st == .active && p.2.link == l)).map (·.1)
    let s := (att.foldl State.retireSlot s).tryZeroiseAll
    let recent := ((s.link l).drops ++ [s.now]).filter (fun t => decide (s.now - t < 10000000000))
    let s := s.setLink l { s.link l with drops := recent }
    if 5 ≤ recent.length then s.holdLink l else s

/-- Counts a partner error; LIMIT of them within WINDOW drop the link (Table 12.17). -/
def State.violation (s : State) (l : Nat) (unf : List Nat) : State :=
  let s := s.bump F_LK_L_VIOL_CNT_VIOL 1 l
  let v := ((s.link l).viols ++ [s.now]).filter (fun t => decide (s.now - t < s.fld F_LK_VIOL_CFG_WINDOW * 1000000))
  let s := s.setLink l { s.link l with viols := v }
  if s.fld F_LK_VIOL_CFG_LIMIT ≤ v.length then (s.setLink l { s.link l with viols := [] }).dropLink l 5 unf else s

/-! ## Taking received flits -/

/-- The receiver has consumed a flit of a VC: its credit is freed (R391). -/
def State.freeCredit (s : State) (l vc : Nat) : State :=
  let x := s.link l
  s.setLink l { x with used := kvPut 0 x.used vc ((kvGet 0 x.used vc + 1) % 65536) }

/-- The first received flit of a VC; what was acknowledged before the link went down comes first (R389). -/
def State.headFlit (s : State) (l vc : Nat) : Option RxFlit := ((s.link l).late ++ (s.link l).rxq).find? (fun f => f.vc == vc)

/-- Takes the first received flit of a VC. -/
def State.popFlit (s : State) (l vc : Nat) : State :=
  let x := s.link l
  match x.late.find? (fun f => f.vc == vc), x.rxq.find? (fun f => f.vc == vc) with
  | some f, _ => s.setLink l { x with late := x.late.erase f }
  | none, some f => (s.setLink l { x with rxq := x.rxq.erase f }).freeCredit l vc
  | none, none => s

/-- Runs an action on the first received flit of a VC when it has the type asked for and its message is whole, and consumes it; the action is told the
verdict on the message. No byte of a message is delivered before (R396). -/
def State.onFlit (s : State) (l ty : Nat) (f : State → Flit → Bool → State) : State :=
  match s.headFlit l (vcOf ty) with
  | some g => match g.verdict with
    | some ok => if g.type = ty then f (s.popFlit l (vcOf ty)) g.toFlit ok else s
    | none => s
  | none => s

/-! ## Sessions (R393 to R397, R415, R418) -/

/-- A 16-byte nonce from the random number generator (log entry 10). -/
def State.nonce (s : State) : State × List Byte := (s.draw, leBytes 16 (Config.nonce s.fresh))

/-- A SESSION flit (Table 12.12). -/
def sessionFlit (action i tenant keyId : Nat) (nonce : List Byte) : Flit :=
  { type := 12, vc := 3, body := leBytes 1 action ++ leBytes 1 i ++ leBytes 2 tenant ++ leBytes 4 keyId ++
      leBytes 8 0 ++ (nonce ++ List.replicate 16 0).take 16 }

/-- The CQ entries of a queue from an index on, at most `n` of them, up to the first whose sector does not read well (R346). -/
def State.cqEntries (s : State) (q : Nat) : Nat → Nat → State × List Byte
  | 0, _ => (s, [])
  | n + 1, i =>
    let x := s.queue q
    match s.ringRead x.cqRing x.cqMeta (s.base F_QE_Q_CQBASE_CQBASE_LO F_QE_Q_CQBASE_CQBASE_HI q) (i * 32) 32 (x.who q) with
    | (s, none) => (s, [])
    | (s, some b) =>
      let (s, l) := s.cqEntries q n ((i + 1) % s.ringSize q)
      (s, b ++ l)

/-- The COMPLETION flits of the CQ entries of a queue from an index on, six to a flit (R402, R415). An entry whose sector does not read well is
not sent (R346; log entry 100). -/
def State.resendCq (s : State) (q : Nat) : Nat → Nat → State
  | 0, _ => s
  | n + 1, i =>
    let x := s.queue q
    let size := s.ringSize q
    let left := (x.cqTail + size - i) % size
    if left = 0 then s
    else
      let (s, b) := s.cqEntries q (min 6 left) i
      let k := b.length / 32
      if k = 0 then s.resendCq q n ((i + 1) % size)
      else
        let f : Flit := {
          type := 6, vc := 2, session := s.sessionOf x.origin x.tenant, queue := q
          body := leBytes 2 i ++ leBytes 2 ((i + k) % size) ++ leBytes 2 k ++ [0, 0] ++ b }
        (s.sendMsgs x.origin [[f]] ((i + k) % size)).resendCq q n ((i + k) % size)

/-- The link-origin queues of a tenant on a link. -/
def State.linkQueues (s : State) (l t : Nat) : List Nat :=
  (s.q.tab.filter (fun p => p.2.isLink && p.2.origin == l && p.2.tenant == t)).map (·.1)

/-- A session has opened: QSTATE flits of the tenant's queues, then the completions written since the last one
acknowledged (R403, R415). A link in QUARANTINE sends neither (R417): they go out as it becomes ACTIVE. -/
def State.sessionOpened (s : State) (l i : Nat) : State :=
  let t := (s.session l i).tenant
  if i = 63 then s.pumpFwd 4096
  else if (s.link l).mode ≠ .active then s
  else
    let qs := s.linkQueues l t
    let s := s.sweep State.sendQstate qs
    s.sweep (fun s q =>
      let x := s.queue q
      (s.setQueue q { x with uncarried := [], gathered := 0 }).resendCq q (s.ringSize q) x.ackedCq) qs

/-- The traffic keys of an opening or rekey (R563). -/
def State.trafficKeys (s : State) (y : Session) (i : Nat) (dev peer : List Byte) : TrafficKeys :=
  { secret := (s.slot (y.handle % 2048)).secret, devNonce := dev, peerNonce := peer, index := i, tenant := y.tenant }

/-- Sends OPEN for a bound session that is not open, once its link takes SESSION flits; the slot must be ACTIVE. -/
def State.askOpen (s : State) (l i : Nat) : State :=
  let y := s.session l i
  if y.bound && !y.isOpen && !y.opening && !y.closing && (s.link l).isUp &&
      (match s.slotOf y.handle with | some k => (s.slot k).st == .active | none => false) then
    let (s, n) := s.nonce
    let s := s.setSession l i { y with opening := true, nonce := n }
    s.sendFlit l (sessionFlit 1 i y.tenant y.handle n)
  else s

/-- Asks for every bound tenant session of a link. -/
def State.askOpenAll (s : State) (l : Nat) : State :=
  ((s.link l).sessions.map (·.1)).foldl (fun s i => s.askOpen l i) s

/-- A command of a tenant's queues on a link has ended and its completion is still to be written: it goes out before CLOSE (R418). -/
def State.unwritten (s : State) (l t : Nat) : Bool :=
  s.q.descs.any (fun p => decide (p.2.stage = .done) && !p.2.kept && (s.queue p.2.q).isLink && (s.queue p.2.q).origin == l && (s.queue p.2.q).tenant == t)

/-- A session closes on the device's side; with the session open, the COMPLETION flits of the tenant's queues and CLOSE go
out sealed, and on an ACTIVE link CLOSE_ACK is awaited (R418, R568 step 4). With its counter at the limit nothing more goes out (R397). -/
def State.closeSession (s : State) (l i : Nat) : State :=
  let y := s.session l i
  if !y.isOpen then s.setSession l i { y.shut with closing := y.closing }
  else
    let s := if i = 63 then s else s.sweep State.sendCompletion (s.linkQueues l y.tenant)
    let s := (s.suspendTransfers l (some y.tenant)).unsend l i (decide (y.txCtr < 2 ^ 32))
    let s := s.setLink l ((s.link l).sealAll i)
    let up := decide ((s.link l).st = .active)
    let s := s.setSession l i { y.shut with closing := up }
    s.sendFlit l (sessionFlit 5 i y.tenant y.handle [])

/-- A message's tag failed (Table 12.17 row 6): counted; 16 failures of one session in 1 s close it. -/
def State.tagFailed (s : State) (l i : Nat) : State :=
  let s := s.bump F_LK_L_AUTH_FAIL_AUTH 1 l
  if i = 0 then s else
  let y := s.session l i
  let f := (y.fails ++ [s.now]).filter (fun t => decide (s.now - t < 1000000000))
  let s := s.setSession l i { y with fails := f }
  if 16 ≤ f.length then s.closeSession l i else s

/-! ## CONFIG (R408, Tables 12.5 and 12.13) -/

/-- The device's configuration hash: the first 16 bytes of a SHA-256 digest (R421). -/
def State.configHash (s : State) : List Byte :=
  let key := ((List.range 24).map (fun i => leBytes 4 (s.fld (F_CN_KEY_KEY.at i)))).flatten
  let ct := s.fld F_CT_CFG_FIXED_LAT + s.fld F_CT_CFG_FWD_TIMEOUT * 65536
  let lk := s.fld F_LK_CFG_CREDIT_TIMEOUT + s.fld F_LK_CFG_TIME_PERIOD * 65536
  let m := key ++ leBytes 2 (s.fld F_CN_ID_ID) ++ leBytes 4 ct ++ leBytes 4 lk ++
    leBytes 4 (s.fld F_CN_TIME_CFG_SLEW_PPM) ++ leBytes 4 (s.fld F_TOP_CMDSET_REV)
  (sha256 m).take 16

/-- The CONFIG flit of a link. -/
def State.configFlit (s : State) (l : Nat) (ack : Bool) : Flit :=
  { type := 2, body := leBytes 4 (1 + l * 2 ^ 24) ++ leBytes 4 (s.fld F_TOP_FW_VERSION_VERSION) ++
      leBytes 4 (s.fld F_CN_ID_ID + s.me * 65536) ++ leBytes 4 (s.fld F_CN_EPOCH_EPOCH) ++ s.configHash ++
      ((List.range 4).map (fun v => leBytes 2 (ownCredits v))).flatten ++
      leBytes 4 (1 + 2 * s.fld F_LK_L_CFG_MAX_RATE l + 7 * 4 + b2n ack * 128) ++ leBytes 2 0x1F7A ++ leBytes 2 0x4810 }

/-- What a CONFIG body says of the partner (Table 12.13). -/
def partnerOf (b : List Byte) : Partner :=
  { major := leAt b 0 1, role := leAt b 2 1 % 4, port := leAt b 3 1, fw := leAt b 4 3, constel := leAt b 8 2,
    member := leAt b 10 1 % 32, epoch := leAt b 12 4, hash := (b.drop 16).take 16,
    credits := (List.range 4).map (fun v => leAt b (0x20 + 2 * v) 2), id := leAt b 0x2C 4 }

/-- LK_L_EXPECT_HASH of a link. -/
def State.expectHash (s : State) (l : Nat) : List Byte :=
  ((List.range 4).map (fun i => leBytes 4 (s.fld (F_LK_L_EXPECT_HASH_HASH.at i) l))).flatten

/-- The first check of Table 12.5 that fails, 0 for none; more than 4,096 credits fail the first on any VC (Table 12.16). -/
def State.configCheck (s : State) (l : Nat) (p : Partner) : Nat :=
  let own := s.fld F_TOP_FW_VERSION_VERSION
  let minor (v : Nat) : Nat := v / 256 % 256
  if p.major ≠ 1 || !(p.credits.take 3).all (fun c => decide (4 ≤ c)) || !p.credits.all (fun c => decide (c ≤ 4096)) then 1
  else if p.role ≠ s.fld F_LK_L_CFG_ROLE l then 2
  else if (if p.role = 1 then !(s.expectHash l).all (· == 0) && p.hash != s.expectHash l
      else p.hash != s.configHash) then 3
  else if p.role = 1 then 0
  else if p.fw / 65536 ≠ own / 65536 || decide (1 < minor p.fw - minor own) || decide (1 < minor own - minor p.fw) then 4
  else if p.constel ≠ s.fld F_CN_ID_ID then 5
  else if p.epoch ≠ s.fld F_CN_EPOCH_EPOCH then 6
  else 0

/-- Asks a partner for its epoch record over MGMT (R409, R436). -/
def State.askEpoch (s : State) (l : Nat) : State := s.sendMctp l true (vendorMsg true 0 1 none (leBytes 4 0))

/-- CONFIG ends once each side has a CONFIG with CONFIG_ACK: the checks decide ACTIVE or QUARANTINE (R408, R409, Table 12.4:
fewer than 4 credits on VC3 lead to DOWN). -/
def State.configEnd (s : State) (l : Nat) : State :=
  let x := s.link l
  match x.partner with
  | none => s
  | some p =>
    if !(x.ackSeen && x.ackSent) then s
    else if p.credits.getD 3 0 < 4 then ((s.clearLink l).linkTo l .down)
    else
      let c := s.configCheck l p
      let s := (s.setFld F_LK_L_PARTNER_ID p.id l).setFld F_LK_L_PARTNER_FW_FW p.fw l
      let s := s.setLink l { s.link l with qcause := c, nextSeq := 0, expect := 0 }
      let s := if p.role = 0 then s.setPeer l 1 else s
      if c = 0 then (s.linkTo l .active).askOpenAll l
      else
        let s := (s.linkTo l .quarantine).report (linkErr 0x2A l c)
        if c = 6 && decide (s.fld F_CN_EPOCH_EPOCH < p.epoch) then s.askEpoch l else s

end Sys2Proof.Machine
end

