-- ==== Sys2Proof/Machine/Links.lean ====
section
/-!
DEFINITION. The links' commands and events: control, training, CONFIG, sequencing and replay, doorbells, data, time, sessions,
lane sleep (Gweusk Links).
-/
namespace Sys2Proof.Machine

/-! ## Control and training (R405, R377, R416, R590, R593) -/

/-- The BAR0 offset of LK_L_CTL. -/
def linkCtlOff : Nat := bar0 11 0x1004

/-- A link's quad wakes (R590). -/
def State.wakeQuad (s : State) (l : Nat) : State := { s with lk := { s.lk with asleep := setErase s.lk.asleep (l / 4) } }

/-- LINK_ENABLE (R405, R660): DISABLED to DOWN; the quad wakes. -/
def execLinkEnable (p : Port) (l : Nat) (s : State) : Res :=
  .next (s.ctlWrite p linkCtlOff (fun s =>
    if l < 48 then
      let s := (s.wakeQuad l).unitReturn 12 l
      if (s.link l).st = .disabled then s.linkTo l .down else s
    else s))

/-- A link leaves service without a drop, for DISABLE and RETRAIN. -/
def State.takeDown (s : State) (l : Nat) (st : LinkState) : State := (((s.clearLink l).linkTo l st).tryZeroiseAll)

/-- LINK_DISABLE (R405): any state to DISABLED. -/
def execLinkDisable (p : Port) (l : Nat) (s : State) : Res :=
  .next (s.ctlWrite p linkCtlOff (fun s => if l < 48 then s.takeDown l .disabled else s))

/-- LINK_RETRAIN (R405, R660): ACTIVE, QUARANTINE or RECOVERY to DOWN; the quad wakes. -/
def execLinkRetrain (p : Port) (l : Nat) (s : State) : Res :=
  .next (s.ctlWrite p linkCtlOff (fun s =>
    if l < 48 then
      let s := (s.wakeQuad l).unitReturn 12 l
      if (s.link l).isUp || (s.link l).st = .recovery then s.takeDown l .down else s
    else s))

/-- CLEAR_HOLD (R416): ends HELD and resets the hold-off to 10 s. -/
def execClearHold (p : Port) (l : Nat) (s : State) : Res :=
  .next (s.ctlWrite p linkCtlOff (fun s =>
    if l < 48 then
      let s := s.setFld F_LK_L_HOLD_HOLDOFF 10 l
      if (s.link l).st = .held then s.linkTo l .down else s
    else s))

/-- HOLDOFF_EXPIRED (R416): the hold-off that began with HELD has passed. -/
def execHoldoffExpired (l : Nat) (s : State) : Res :=
  .next (if (s.link l).st = .held && decide ((s.link l).heldUntil ≤ s.now) then s.linkTo l .down else s)

/-- HOLDOFF_RESET (R416): 320 s ACTIVE or in QUARANTINE without a break. -/
def execHoldoffReset (l : Nat) (s : State) : Res :=
  .next (if (s.link l).isUp && decide ((s.link l).upSince + 320000000000 ≤ s.now) then s.setFld F_LK_L_HOLD_HOLDOFF 10 l else s)

/-- A DOWN link starts training at the highest rate it may use. -/
def State.startLinkTraining (s : State) (l : Nat) : State :=
  let s := s.linkTo l .training
  s.setLink l { s.link l with tryRate := s.fld F_LK_L_CFG_MAX_RATE l }

/-- TRAINING_LOCK (R405): a DOWN link whose quad is awake locks on the partner's training frames. -/
def execTrainingLock (l : Nat) (s : State) : Res :=
  .next (if l < 48 && s.fld F_TOP_BOOT_STATUS_STAGE == 3 && s.ck.power == 0 && (s.link l).st = .down && !inSet s.lk.asleep (l / 4) then s.startLinkTraining l else s)

/-- The rate tried fails: half rate is next, or the link returns to DOWN (R377, R405). -/
def State.nextRate (s : State) (l : Nat) : State :=
  if (s.link l).tryRate = 1 then s.setLink l { s.link l with tryRate := 0 } else s.linkTo l .down

/-- TRAINING_COMPLETE (R376, R377, R380): FEC lock and deskew at the rate tried on the lanes of `good`; the widest width that they give is taken, and too
narrow a one is a failure at that rate. A rate below the one tried is the highest that the partner advertises too (DEDUCED, log entry 130). The order
of the lanes and their polarity are corrected from then on. -/
def execTrainingComplete (l rate good : Nat) (mirror : Bool) (inverted : Nat) (s : State) : Res :=
  let (width, lanes) := widest good
  .next (if (s.link l).st ≠ .training || (s.link l).tryRate < rate then s
    else if width < s.fld F_LK_L_CFG_MIN_WIDTH l then (s.setLink l { s.link l with tryRate := rate }).nextRate l
    else
      let s := s.linkTo l .config
      s.setLink l { s.link l with
        rate := rate, width := width, lanes := lanes, mirror := mirror, inverted := inverted, partner := none, ackSeen := false, ackSent := false
        minWidth := s.fld F_LK_L_CFG_MIN_WIDTH l })

/-- TRAINING_TIMEOUT (R405): 500 ms at one rate without success. -/
def execTrainingTimeout (l : Nat) (s : State) : Res :=
  .next (if (s.link l).st = .training then s.nextRate l else s)

/-- The QUEUE and XTAG that a flit type carries (Table 12.3). -/
def carries (ty : Nat) : Bool × Bool :=
  (decide (3 ≤ ty) && decide (ty ≤ 7), ty == 4 || ty == 5 || ty == 8 || ty == 9)

/-- The payload of a flit without session holds something other than zero in an unused place, or its LEN is not that of its type (Tables 12.6, 12.11 to
12.13). -/
def strayPayload (ty : Nat) (b : List Byte) : Bool :=
  match ty with
  | 0 => !b.isEmpty
  | 1 => b.length != 12 || leAt b 0 2 / 1024 % 32 != 0 || leAt b 2 2 / 1024 % 32 != 0
  | 2 => b.length != 48 || leAt b 2 1 / 4 != 0 || leAt b 7 1 != 0 || leAt b 10 2 / 32 != 0 || leAt b 0x28 1 / 32 % 4 != 0 || leAt b 0x29 3 != 0
  | 10 => b.length != 32 || leAt b 1 1 / 2 != 0 || leAt b 2 6 != 0
  | 12 => leAt b 0 1 / 8 != 0 || leAt b 1 1 / 64 != 0 || leAt b 2 2 / 1024 != 0 || leAt b 8 8 != 0 || !(b.drop 32).all (· == 0)
  | _ => false

/-- CONFIG_SEND (R408): a CONFIG flit, with CONFIG_ACK once the partner's has come. -/
def execConfigSend (l : Nat) (s : State) : Res :=
  .next (if (s.link l).st ≠ .config then s
    else
      let ack := (s.link l).partner.isSome
      let s := s.emit (.flit l (s.configFlit l ack))
      (s.setLink l { s.link l with ackSent := (s.link l).ackSent || ack }).configEnd l)

/-- CONFIG (R408, Table 12.17 rows 3 and 12): a received CONFIG flit. On a link that is up it is the partner's restart. -/
def execConfig (l : Nat) (f : Flit) (unf : List Nat) (s : State) : Res :=
  let x := s.link l
  .next (if f.type ≠ 2 || !(x.isUp || x.st = .recovery || x.st = .config) then s
    else if f.vc ≠ 0 || f.seq ≠ 0 || f.session ≠ 0 || f.queue ≠ 0 || f.xtag ≠ 0 || f.poison || f.last || strayPayload 2 f.body then
      s.violation l unf
    else if x.st ≠ .config then s.dropLink l 6 unf
    else
      let ack := bit (leAt f.body 0x28 1) 7
      let s := s.setLink l { x with partner := some (partnerOf f.body), ackSeen := x.ackSeen || ack }
      s.configEnd l)

/-- CONFIG_TIMEOUT (R405). -/
def execConfigTimeout (l : Nat) (s : State) : Res :=
  .next (if (s.link l).st = .config then (s.clearLink l).linkTo l .down else s)

/-- EPOCH_VERIFY_TIMEOUT (R409): the link stays in QUARANTINE, EPOCH_UNVERIFIED. -/
def execEpochVerifyTimeout (l : Nat) (s : State) : Res :=
  let x := s.link l
  .next (if x.st = .quarantine && x.qcause == 6 then
      (s.setLink l { x with qcause := 7 }).report (linkErr 0x2A l 7)
    else s)

/-! ## Sequencing, acknowledgement, replay (R385 to R391, R406) -/

/-- Row 3 of Table 12.17 on the bytes of a flit: a VC other than its type's, LEN above 240, something in unused bytes or fields, POISON or LAST outside
DATA. What is sealed is judged once it is open. -/
def malformed (b : List Byte) : Bool :=
  let f := flitOf b
  let (q, x) := carries f.type
  decide (13 ≤ f.type) || f.vc != vcOf f.type || decide (240 < wireLen b) || !(((b.drop 8).take 240).drop (wireLen b)).all (· == 0) ||
    (f.type != 5 && (f.poison || f.last)) || (!isSequenced f.type && f.seq != 0) || (!q && f.queue != 0) || (!x && f.xtag != 0) ||
    (!(decide (3 ≤ f.type) && decide (f.type ≤ 9)) && f.session != 0) || strayPayload f.type f.body

/-- The flits of a DATA segment that have come of a flit's session, queue and XTAG and are not yet whole. -/
def Link.segment (x : Link) (f : Flit) : List RxFlit :=
  x.rxq.filter (fun g => g.verdict.isNone && g.session == f.session && g.queue == f.queue && g.xtag == f.xtag)

/-- The payload bytes of flits. -/
def payload (fs : List RxFlit) : Nat := ((fs.map (fun (g : RxFlit) => g.body)).flatten).length

/-- The first check of Table 12.17 that a good sequenced flit fails: 2 credit, 3 form (and Table 12.16, a segment past 64 flits or 15,344 B), 4 sender,
5 session, 0 none; 1 for a flit that a link in QUARANTINE does not take (R417). -/
def State.flitCheck (s : State) (l : Nat) (f : Flit) (bad : Bool) : Nat :=
  let x := s.link l
  let acc := (x.partner.map (·.role)).getD 0 == 1
  let y := s.session l f.session
  let above := decide (ownCredits f.vc ≤ (kvGet 0 x.got f.vc + 65536 - kvGet 0 x.used f.vc) % 65536)
  if above then 2
  else if bad then 3
  else if f.type == 4 || f.type == 6 || f.type == 7 || (acc && (f.type == 8 || f.type == 9)) then 4
  else if (f.type == 8 || f.type == 9) && (f.session != 63 || !y.isOpen) then 5
  else if (f.type == 3 || f.type == 5) && (f.session == 0 || f.session == 63 || !y.bound || !y.isOpen ||
      ((s.queue f.queue).origin == l && (s.queue f.queue).tenant != y.tenant)) then 5
  else if x.st = .quarantine && !(f.type == 3 || f.type == 11 || f.type == 12) then 1
  else if f.type == 5 && (decide (64 ≤ (x.segment f).length) || decide (15360 < payload (x.segment f) + f.body.length)) then 3
  else 0

/-- The flits of a message that has been opened go to their VC; a message whose tag fails is discarded whole (R396), and its first flit stands for it,
with the credits of the others freed (Table 12.17 row 6: one failure). -/
def Link.deliver (x : Link) (done : List RxFlit) (last : Bool) : Link :=
  match done with
  | [] => x
  | g :: t =>
    if g.verdict == some true then { x with rxq := x.rxq ++ done }
    else { x with
      rxq := x.rxq ++ [{ g with last := last }]
      used := kvPut 0 x.used g.vc ((kvGet 0 x.used g.vc + t.length) % 65536) }

/-- Received flits that come after. -/
def Link.after (x : Link) (l : List RxFlit) : Link := { x with rxq := x.rxq ++ l }

/-- A flit's VC takes it (R386, R395, R396): without session it is whole; of a message, it waits for the last flit of its segment, with which the message
is opened. Messages are numbered as their first flits come. -/
def Link.take (x : Link) (f : Flit) : Link :=
  let part := if f.type = 5 then x.segment f else []
  if f.session = 0 || (f.body.isEmpty && part.isEmpty) then { x with rxq := x.rxq ++ [{ toFlit := f, isNew := true }] }
  else
    let y := kvGet {} x.sessions f.session
    let n := match part with
      | g :: _ => g.msg
      | [] => y.rxCtr
    let x := if part.isEmpty then { x with sessions := kvPut {} x.sessions f.session { y with rxCtr := y.rxCtr + 1 } } else x
    let r : RxFlit := { toFlit := f, isNew := true, verdict := none, msg := n }
    if f.type = 5 && !f.last && decide (payload part + f.body.length < 15360) then { x with rxq := x.rxq ++ [r] }
    else
      let done := match y.keys with
        | some k => openMsg k n (part ++ [r])
        | none => (part ++ [r]).map (fun (g : RxFlit) => { g with verdict := some false })
      let i := (x.rxq ++ [r]).findIdx (fun g => g == (part ++ [r]).headD r)
      (Link.deliver { x with rxq := x.rxq.take i } done f.last).after ((x.rxq.drop i).filter (fun g => !part.contains g))

/-- A sealed flit that is dropped (rows 3 and 4 of Table 12.17, R417) still belongs to a message, which takes its number (R395). The rest of its
segment, if it has one, is no whole message and fails. -/
def Link.skip (x : Link) (f : Flit) : Link :=
  let y := kvGet {} x.sessions f.session
  let part := x.segment f
  if f.session = 0 || !y.isOpen || f.body.isEmpty || !(decide (3 ≤ f.type) && decide (f.type ≤ 9)) then x
  else if f.type = 5 && !part.isEmpty then
    if !f.last then x
    else (Link.deliver { x with rxq := x.rxq.filter (fun g => !part.contains g) }
      (part.map (fun (g : RxFlit) => { g with verdict := some false, body := [] })) true)
  else if f.type = 5 && !f.last then x
  else { x with sessions := kvPut {} x.sessions f.session { y with rxCtr := y.rxCtr + 1 } }

/-- A sequenced flit accepted in order: its credit is used, then its VC takes it or it is dropped (R386, R391, R412). -/
def State.acceptFlit (s : State) (l : Nat) (f : Flit) (bad : Bool) (unf : List Nat) : State :=
  let c := s.flitCheck l f bad
  let x := s.link l
  let s := s.setLink l { x with
    expect := (x.expect + 1) % 1024, nakSent := false, ackDue := true, sinceCtl := x.sinceCtl + 1
    got := kvPut 0 x.got f.vc ((kvGet 0 x.got f.vc + 1) % 65536) }
  let s := s.setLink l (if c = 0 then (s.link l).take f else if c = 5 || c = 2 then s.link l else (s.link l).skip f)
  let s := if c = 0 then s
    else if c = 2 then (s.bump F_LK_L_VIOL_CNT_VIOL 1 l).dropLink l 3 unf
    else if c = 5 then (s.freeCredit l f.vc).bump F_LK_L_AUTH_FAIL_AUTH 1 l
    else if c = 1 then s.freeCredit l f.vc
    else (s.freeCredit l f.vc).violation l unf
  if 64 ≤ (s.link l).sinceCtl then s.sendCtl l false else s

/-- Counts the verdicts on codewords (R381). -/
def State.countFec (s : State) (l : Nat) (v : List FecSays) : State :=
  (s.bump F_LK_L_FEC_CE_CE (v.count .corrected) l).bump F_LK_L_FEC_UE_UE (v.count .uncorrectable) l

/-- SEQUENCED_FLIT (R378 to R386, R412): the arrival of a flit out of its codeword pair, or of the pair that carries the markers, which brings none. A
codeword is counted with the first flit that overlaps it (log entry 122), in CONFIG and RECOVERY too; a flit of an unsequenced type that is well formed
has its effect in its own row. -/
def execSequencedFlit (l : Nat) (a : Arrival) (unf : List Nat) (s : State) : Res :=
  let x := s.link l
  let r := arrive x.lanes x.mirror a
  .next (if x.st = .config || x.st = .recovery || (x.isUp && decide (5 ≤ a.place)) then s.countFec l r.counted
    else if !x.isUp then s
    else
      let s := s.countFec l r.counted
      let f := flitOf r.bytes
      let bad := malformed r.bytes
      if r.lost || !crcOk r.bytes then
        let s := s.bump F_LK_L_CRC_CNT_CRC 1 l
        if x.nakSent then s else s.sendCtl l true
      else if !isSequenced f.type then (if bad then s.violation l unf else s)
      else if f.seq = x.expect then s.acceptFlit l f bad unf
      else if 1 ≤ (x.expect + 1024 - f.seq) % 1024 && decide ((x.expect + 1024 - f.seq) % 1024 ≤ 512) then s.sendCtl l false
      else if x.nakSent then s else s.sendCtl l true)

/-- Releases the flits up to an acknowledged SEQ; COMPLETION flits among them say how far the partner has seen a CQ. -/
def State.release (s : State) (l ack : Nat) : State :=
  let x := s.link l
  match x.unacked.findIdx? (fun f => f.seq == ack) with
  | none => s
  | some i =>
    let gone := x.unacked.take (i + 1)
    let s := s.setLink l { x with
      unacked := x.unacked.drop (i + 1), rsRun := if gone.any (fun f => f.seq == x.rsSeq) then 0 else x.rsRun }
    (gone.filter (fun f => f.type == 6)).foldl (fun s f =>
      s.setQueue f.queue { s.queue f.queue with ackedCq := f.cq }) s

/-- Resends every unacknowledged flit from a SEQ on (R388). -/
def State.resend (s : State) (l seq : Nat) : State :=
  let x := s.link l
  let fs := x.unacked.dropWhile (fun f => f.seq != seq)
  if fs.isEmpty then s
  else
    let s := (s.setLink l { x with rsSeq := seq, rsRun := if x.rsSeq = seq then x.rsRun + 1 else 1 }).bump
      F_LK_L_REPLAY_CNT_REPLAY 1 l
    fs.foldl (fun s f => s.emit (.flit l f.toFlit)) s

/-- The cumulative credit counts returned by the partner, modulo 65,536. -/
def Link.credited (x : Link) (freed : List Nat) : Link :=
  { x with freed := (List.range 4).foldl (fun m v =>
      let old := kvGet 0 m v
      kvPut 0 m v (old + (freed.getD v 0 % 65536 + 65536 - old % 65536) % 65536)) x.freed }

/-- LINK_CTL (R388, R391): acknowledges, returns credits and, with NAK, asks for a replay. -/
def execLinkCtl (l : Nat) (ack nak : Option Nat) (freed : List Nat) (s : State) : Res :=
  .next (if !(s.link l).isUp then s
    else
      let s := match ack with | some a => s.release l a | none => s
      let s := s.setLink l ((s.link l).credited freed)
      let s := match nak with | some n => s.resend l n | none => s
      s.pump l ((s.link l).waiting.length))

/-- ACK_TIMER (R387): 100 ns with a flit not acknowledged or credit not returned. -/
def execAckTimer (l : Nat) (s : State) : Res :=
  let x := s.link l
  .next (if x.isUp && (x.ackDue || x.used != x.told) then s.sendCtl l false else s)

/-- REPLAY_TIMEOUT (R388): every unacknowledged flit is resent. -/
def execReplayTimeout (l : Nat) (s : State) : Res :=
  let x := s.link l
  .next (if !x.isUp then s
    else match x.unacked with
    | [] => s
    | f :: _ => s.resend l f.seq)

/-- RECOVERY (R388, R406): eight resends in a row from one SEQ. -/
def execRecovery (l : Nat) (s : State) : Res :=
  let x := s.link l
  .next (if x.isUp && decide (8 ≤ x.rsRun) then
      (s.setLink l { x with prev := x.st, rsRun := 0 }).linkTo l .recovery
    else s)

/-- The width and lanes that a recovery takes: the current ones while all their lanes train, else the widest of the lanes that do (R406). -/
def Link.retrained (x : Link) (good : Nat) : Nat × Nat :=
  if good &&& x.lanes = x.lanes then (x.width, x.lanes) else widest (good &&& x.lanes)

/-- RECOVERY_RETRAINED (R406): the previous state at the current rate and a width no wider, a LINK_CTL, and the replay. -/
def execRecoveryRetrained (l good : Nat) (s : State) : Res :=
  let x := s.link l
  let (width, lanes) := x.retrained good
  .next (if x.st ≠ .recovery || x.width < width || width < x.minWidth then s
    else
      let s := (s.setLink l { x with width := width, lanes := lanes }).linkTo l x.prev
      let s := s.sendCtl l false
      let s := match x.unacked with
        | [] => s
        | f :: _ => s.resend l f.seq
      s.pump l ((s.link l).waiting.length))

/-- RECOVERY_TIMEOUT (R405, R407). -/
def execRecoveryTimeout (l : Nat) (unf : List Nat) (s : State) : Res :=
  .next (if (s.link l).st = .recovery then s.dropLink l 2 unf else s)

/-- LINK_DROP (R407): loss of signal; `unf` are destination sectors begun but not finished. -/
def execLinkDrop (l : Nat) (unf : List Nat) (s : State) : Res := .next (s.dropLink l 1 unf)

/-- CREDIT_TIMEOUT (R412): a VC holds waiting flits without credit. -/
def execCreditTimeout (l vc : Nat) (unf : List Nat) (s : State) : Res :=
  let x := s.link l
  .next (if x.isUp && x.waiting.any (fun f => f.vc == vc) && x.credit vc == 0 then s.dropLink l 4 unf else s)

/-! ## Queue traffic (R398 to R403) -/

/-- The doorbell of a link on its queue: the entries into the ring, then the tail, then the CQ head (R87, R90, R398). A flit whose tail R88 ignores is
dropped whole, its CQ head with it (DESIGN CHOICE, log entry 140). -/
def State.linkDoorbell (s : State) (l : Nat) (f : Flit) : State :=
  let q := f.queue
  let x := s.queue q
  let n := s.ringSize q
  let tail := leAt f.body 0 2
  let cnt := leAt f.body 4 1 % 4
  if x.origin ≠ l then s.bump F_QE_BAD_DOORBELL_CNT_BADDB
  else if x.st = .frozen then s.bump F_QE_Q_REFUSED_REFUSED 1 q
  else if !(x.st = .active || x.st = .paused) then s
  else if n ≤ tail || (tail + n - x.sqTail % n) % n < cnt then (s.refuse q).1
  else
    let base := s.base F_QE_Q_SQBASE_SQBASE_LO F_QE_Q_SQBASE_SQBASE_HI q
    let s := (List.range cnt).foldl (fun s k =>
      (s.ringWrite x.sqRing x.sqMeta base ((tail + n - cnt + k) % n * 64) ((f.body.drop (8 + 64 * k)).take 64) (x.who q)).1) s
    (s.newTail q tail).newHead q (leAt f.body 2 2)

/-- A DOORBELL payload of the form of Table 12.7. -/
def doorbellForm (b : List Byte) : Bool :=
  leAt b 4 1 / 4 == 0 && leAt b 5 3 == 0 && b.length == 8 + 64 * (leAt b 4 1 % 4)

/-- DOORBELL (R398, Table 12.17 rows 3 and 6 to 8). -/
def execDoorbell (l : Nat) (unf : List Nat) (s : State) : Res :=
  .next (s.onFlit l 3 (fun s f ok =>
    if !ok then s.tagFailed l f.session
    else if doorbellForm f.body then s.linkDoorbell l f
    else s.violation l unf))

/-- The open pull that a DATA flit answers: the first one asked for with its queue and XTAG (R399). -/
def Link.pullFor (x : Link) (f : Flit) : Option Pull :=
  x.pulls.find? (fun p => p.asked && p.queue == f.queue && p.xtag == f.xtag)

/-- A pulling command ends with a DETAIL of the link (Table 12.17): its PULL flits that are out still bring answers. -/
def State.pullFails (s : State) (l d detail : Nat) : State :=
  let s := s.setLink l { s.link l with
    pulls := ((s.link l).pulls.filter (fun p => p.d != d || p.asked)).map (fun (p : Pull) => if p.d == d then { p with d := 16384 } else p) }
  (if (s.desc d).stage = .wait .dataIn then s.finish d .aborted {} detail else s).pumpPulls l 64

/-- The answer to a pull ends, with LAST; or what is left of it is to be dropped as it comes. -/
def State.endPull (s : State) (l : Nat) (p : Pull) (last : Bool) : State :=
  let ps := (s.link l).pulls
  let ps := if last then ps.erase p else ps.map (fun (r : Pull) => if r == p then { r with failed := true } else r)
  (s.setLink l { s.link l with pulls := ps }).pumpPulls l 64

/-- The bytes of a pull that have come; the last flit ends the pull, and the last pull lets the command run. An answer longer or shorter than asked for
is one violation, and its excess is dropped (Table 12.17 row 10). -/
def State.takeData (s : State) (l : Nat) (p : Pull) (f : Flit) (unf : List Nat) : State :=
  let n := f.body.length
  let x := s.desc p.d
  let x := { x with
    data := x.data ++ f.body
    bad := if f.poison && n != 0 then x.bad ++ [(p.off + p.got, n)] else x.bad }
  if p.failed then (if f.last then s.endPull l p true else s)
  else if p.count < p.got + n || (f.last && p.got + n != p.count) then
    (((s.pullFails l p.d 0x82).endPull l { p with d := 16384 } f.last)).violation l unf
  else
    let s := if (s.desc p.d).stage = .wait .dataIn then s.setDesc p.d x else s
    let ps := (s.link l).pulls
    if !f.last then
      s.setLink l { s.link l with pulls := ps.map (fun (r : Pull) => if r == p then { r with got := p.got + n } else r) }
    else
      let s := s.setLink l { s.link l with pulls := ps.erase p }
      let s := if (s.link l).pulls.any (fun r => r.d == p.d) || (s.desc p.d).stage ≠ .wait .dataIn then s
        else s.pullDone p.d
      s.pumpPulls l 64

/-- DATA (R346, R396, R399, Table 12.17 rows 6, 9 to 11): a flit whose segment is whole. -/
def execData (l : Nat) (unf : List Nat) (s : State) : Res :=
  .next (s.onFlit l 5 (fun s f ok =>
    match (s.link l).pullFor f with
    | none => if ok then s.violation l unf else s.tagFailed l f.session
    | some p => if ok then s.takeData l p f unf
      else ((if p.failed then s.endPull l p f.last
        else (s.pullFails l p.d 0x81).endPull l { p with d := 16384 } f.last)).tagFailed l f.session))

/-- DATA_ACKNOWLEDGED (R401): every DATA flit of returned data is acknowledged. -/
def execDataAcknowledged (d : Nat) (s : State) : Res :=
  let x := s.desc d
  .next (if x.stage = .wait .dataOut && !s.dataUnacked (s.queue x.outQ).origin x.outQ x.xtag then
      s.finish d x.status x.res
    else s)

/-- LCOUNT_TIMEOUT (R506): gathered completions of a link-origin queue go out. -/
def execLcountTimeout (q : Nat) (s : State) : Res :=
  let x := s.queue q
  .next (if x.isLink && x.gathered != 0 && decide (x.gatherAt + 1000 * x.ltime ≤ s.now) then s.sendCompletion q else s)

/-! ## What the lanes carry (R378 to R381) -/

/-- Flits with a NULL flit after every 2,047 of them (R381). -/
def paced (fs : List (List Byte)) : List (List Byte) :=
  (fs.mapIdx (fun i f => if (i + 1) % 2047 = 0 then [f, flitWire {}] else [f])).flatten

/-- Flits by five, NULL flits where none is left. -/
def byFive (fs : List (List Byte)) : List (List (List Byte)) :=
  (List.range (ceilDiv fs.length 5)).map (fun i => (((fs.drop (5 * i)).take 5) ++ List.replicate 5 (flitWire {})).take 5)

/-- The flits that have gone out on a link, oldest first, as bytes. -/
def State.sentOn (s : State) (l : Nat) : List (List Byte) :=
  s.outbox.filterMap (fun m => match m with | .flit k f => if k = l then some (flitWire f) else none | _ => none)

/-- The symbols on each lane in use that carry the flits which have gone out on a link, lowest lane first. -/
def State.lineOut (s : State) (l : Nat) : List (List Nat) :=
  let x := s.link l
  toLanes (lanesIn x.lanes).length (pcsStream x.rate x.width 0 [] (byFive (paced (s.sentOn l))))

/-! ## Time (R404, R437 to R440) -/

/-- TIME_SEND (R404): a TIME flit with this side's stamp, corrected by LK_L_TIME_LAT, and the echo of the last one
received. -/
def execTimeSend (l : Nat) (s : State) : Res :=
  let x := s.link l
  .next (if !x.isUp then s
    else
      let e := x.lastTime
      let f : Flit := {
        type := 10, vc := 3
        body := leBytes 1 1 ++ leBytes 1 (b2n e.isSome) ++ leBytes 6 0 ++ leBytes 8 (s.now + s.timeLat l) ++
          leBytes 8 ((e.map (·.1)).getD 0) ++ leBytes 8 ((e.map (·.2)).getD 0) }
      s.emit (.flit l f))

/-- The member this one steers to: the next hop toward the time source (R437). -/
def State.timeParent (s : State) : Nat := s.recByte (0x120 + 32 * s.me + s.recByte 0x10 % 32)

/-- This member steers its counter: a member that is not the time source (R437). -/
def State.steers (s : State) : Bool := decide (s.cn.st = .member) && s.recByte 0x10 % 32 != s.me

/-- CN_STATUS.TIME_DEGRADED changes: recorded, with the event (R440). -/
def State.setDegraded (s : State) (b : Bool) : State :=
  if (s.fld F_CN_STATUS_TIME_DEGRADED == 1) == b then s
  else
    let s := (s.setFld F_CN_STATUS_TIME_DEGRADED (b2n b)).devEvent 3
    s.report { kind := 0x32, utype := 13, inst := s.me, cls := 0, data := b2n b + s.fld F_CN_OFFSET_OFFSET * 2 ^ 32 }

/-- An integer kept between bounds. -/
def clampInt (lo hi v : Int) : Int := max lo (min hi v)

/-- One steering exchange with offset and delay to the parent (R438 to R440): the counter steps forward once when it is more
than 1 ms behind at the first exchange or after a gap above 1 s; otherwise its rate is corrected within SLEW_PPM, toward the parent. How large a
correction is, the spec does not say (FREE VALUE, log entry 12). -/
def State.steer (s : State) (off delay : Int) : State :=
  let c := s.cn
  let gap := match c.lastSteer with | some t => decide (1000000000 < s.now - t) | none => true
  let step := decide (1000000 < off) && (!c.steered || gap)
  let slew : Int := s.fld F_CN_TIME_CFG_SLEW_PPM
  let pull := if off = 0 then c.rate else if 0 < off then clampInt 1 slew (Config.steer s.fresh) else clampInt (-slew) (-1) (Config.steer s.fresh)
  let s := if step then { s with now := s.now + off.toNat } else s.draw
  let c := { c with
    lastSteer := some s.now, steered := true
    rate := if step then c.rate else pull
    goodSince := if off.natAbs ≤ 500 then some (c.goodSince.getD s.now) else none }
  let s := { s with cn := c }
  let s := s.setFld F_CN_OFFSET_OFFSET (clampInt (-2147483648) 2147483647 off % 4294967296).toNat
  let s := s.setFld F_CN_DELAY_DELAY delay.toNat
  if 1000 < off.natAbs then s.setDegraded true else s

/-- A tick of the system counter: the accesses that wait go on where they can, the rate gains or loses millionths of a tick, and the counter never decreases (R438, R440). -/
def State.tick (s : State) : State :=
  let s := s.apSweep
  let p := s.cn.phase + s.cn.rate
  if s.onFallback then
    (if s.ck.sub = 39 then { s with now := s.now + 40, ck := { s.ck with sub := 0 } } else { s with ck := { s.ck with sub := s.ck.sub + 1 } })
  else if 1000000 ≤ p then { s with now := s.now + 2, cn := { s.cn with phase := p - 1000000 } }
  else if p ≤ -1000000 then { s with cn := { s.cn with phase := p + 1000000 } }
  else { s with now := s.now + 1, cn := { s.cn with phase := p } }

/-- TIME (R404, R437): a received TIME flit with its T_TX and, when valid, the echoed T_TX and its arrival at the partner. -/
def execTime (l tTx : Nat) (echo : Option (Nat × Nat)) (s : State) : Res :=
  let x := s.link l
  .next (if !x.isUp then s
    else
      let s := s.setLink l { x with lastTime := some (tTx, s.now) }
      match echo with
      | none => s
      | some (a1, b1) =>
        if s.steers && s.routeTo s.timeParent == l && s.peer l == 2 then
          let d1 : Int := b1 - a1
          let d2 : Int := tTx - s.now
          s.steer ((d1 + d2) / 2) ((d1 - d2) / 2)
        else s)

/-- The last steering exchange, or the entry into MEMBER before the first. -/
def State.lastExchange (s : State) : Nat := max s.cn.since (s.cn.lastSteer.getD 0)

/-- STEERING_GAP (R440): no exchange for 100 ms. -/
def execSteeringGap (s : State) : Res :=
  .next (if s.steers && decide (s.lastExchange + 100000000 ≤ s.now) then { s.setDegraded true with cn := { (s.setDegraded true).cn with goodSince := none } } else s)

/-- TIME_DEGRADED_CLEAR (R440): the offset has stayed within 500 ns for 1 s. -/
def execTimeDegradedClear (s : State) : Res :=
  .next (if s.steers && s.cn.goodSince.any (fun t => decide (t + 1000000000 ≤ s.now)) then s.setDegraded false else s)

/-! ## Sessions (R394, R397, R563) -/

/-- Runs an action on a received SESSION flit of an ACTION (Table 12.12). -/
def State.onSession (s : State) (l action : Nat) (f : State → Nat → Flit → State) : State :=
  match s.headFlit l 3 with
  | some g => if g.type = 12 && leAt g.body 0 1 % 8 == action then f (s.popFlit l 3) (leAt g.body 1 1 % 64) g.toFlit else s
  | none => s

/-- The nonce of a SESSION flit. -/
def flitNonce (f : Flit) : List Byte := (f.body.drop 16).take 16

/-- The index is bound to the tenant and KEY_ID that a SESSION flit names, its slot ACTIVE, and for session 63 the peer
VERIFIED (R394, R433). -/
def State.sessionFits (s : State) (l i : Nat) (f : Flit) : Bool :=
  let y := s.session l i
  y.bound && y.tenant == leAt f.body 2 2 % 1024 && y.handle == leAt f.body 4 4 &&
    (match s.slotOf y.handle with | some k => (s.slot k).st == .active | none => false) &&
    (i != 63 || s.peer l == 2)

/-- A session under new keys: counters restart (R394, R395). -/
def State.rekeyed (s : State) (y : Session) (i : Nat) (dev peer : List Byte) : Session :=
  { y with
    keys := some (s.trafficKeys y i dev peer), isOpen := true, opening := false, rekeying := false, closing := false
    txCtr := 0, rxCtr := 0, nonce := [] }

/-- OPEN (R394): answered OPEN_ACK with a fresh nonce, which opens the session, or REFUSE. -/
def execOpenFlit (l : Nat) (s : State) : Res :=
  .next (s.onSession l 1 (fun s i f =>
    if s.sessionFits l i f then
      let y := s.session l i
      let (s, n) := s.nonce
      let s := s.setSession l i (s.rekeyed y i n (flitNonce f))
      (s.sendFlit l (sessionFlit 2 i y.tenant y.handle n)).sessionOpened l i
    else s.sendFlit l (sessionFlit 7 i (leAt f.body 2 2 % 1024) (leAt f.body 4 4) [])))

/-- OPEN_ACK (R394, R563): derives the traffic keys and opens the session. -/
def execOpenAck (l : Nat) (s : State) : Res :=
  .next (s.onSession l 2 (fun s i f =>
    let y := s.session l i
    if y.opening && s.sessionFits l i f then
      (s.setSession l i (s.rekeyed y i y.nonce (flitNonce f))).sessionOpened l i
    else s))

/-- REKEY (R394): answered REKEY_ACK; new keys from the next message on. -/
def execRekey (l : Nat) (s : State) : Res :=
  .next (s.onSession l 3 (fun s i f =>
    let y := s.session l i
    if y.isOpen && s.sessionFits l i f then
      let (s, n) := s.nonce
      let s := s.setSession l i (s.rekeyed y i n (flitNonce f))
      s.sendFlit l (sessionFlit 4 i y.tenant y.handle n)
    else s.sendFlit l (sessionFlit 7 i (leAt f.body 2 2 % 1024) (leAt f.body 4 4) [])))

/-- REKEY_ACK (R394). -/
def execRekeyAck (l : Nat) (s : State) : Res :=
  .next (s.onSession l 4 (fun s i f =>
    let y := s.session l i
    if y.isOpen && y.rekeying then
      let s := s.setSession l i (s.rekeyed y i y.nonce (flitNonce f))
      s.pump l (s.link l).waiting.length
    else s))

/-- REKEY_START (R397): a direction's counter has reached 2^31. -/
def execRekeyStart (l i : Nat) (s : State) : Res :=
  let y := s.session l i
  .next (if y.isOpen && !y.rekeying && (decide (2 ^ 31 ≤ y.txCtr) || decide (2 ^ 31 ≤ y.rxCtr)) then
      let (s, n) := s.nonce
      (s.setSession l i { y with rekeying := true, nonce := n }).sendFlit l (sessionFlit 3 i y.tenant y.handle n)
    else s)

/-- SESSION_COUNTER_LIMIT (R397): a counter has reached 2^32 before the rekey completed. -/
def execSessionCounterLimit (l i : Nat) (s : State) : Res :=
  let y := s.session l i
  .next (if y.isOpen && (decide (2 ^ 32 ≤ y.txCtr) || decide (2 ^ 32 ≤ y.rxCtr)) then (s.closeSession l i).tryZeroiseAll else s)

/-- CLOSE (R394): answered CLOSE_ACK; the session closes. -/
def execCloseFlit (l : Nat) (s : State) : Res :=
  .next (s.onSession l 5 (fun s i f =>
    let y := s.session l i
    let s := (s.suspendTransfers l (some y.tenant)).unsend l i false
    let s := s.setSession l i y.shut
    (s.sendFlit l (sessionFlit 6 i (leAt f.body 2 2 % 1024) (leAt f.body 4 4) [])).tryZeroiseAll))

/-- CLOSE_ACK (R568): the link's handle on the slot is released. -/
def execCloseAck (l : Nat) (s : State) : Res :=
  .next (s.onSession l 6 (fun s i _ => (s.setSession l i { s.session l i with closing := false }).tryZeroiseAll))

/-- REFUSE (R394): the session stays unopened. -/
def execRefuse (l : Nat) (s : State) : Res :=
  .next (s.onSession l 7 (fun s i _ =>
    let s := s.setSession l i { s.session l i with opening := false, rekeying := false, nonce := [] }
    s.pump l (s.link l).waiting.length))

/-! ## Lane sleep (R590, R593) -/

/-- LANE_SLEEP (R590): none of the quad's links trains or is up, and A1 is allowed. -/
def execLaneSleep (quad : Nat) (s : State) : Res :=
  .next (if quad < 12 && decide (1 ≤ s.fld F_CK_PWR_CFG_DEEPEST) && (List.range 4).all (fun i =>
      let st := (s.link (4 * quad + i)).st
      st = .disabled || st = .down || st = .held) then
      { s with lk := { s.lk with asleep := setInsert s.lk.asleep quad } }
    else s)

/-- SLEEP_TRAINING_BURST (R593): a DOWN link of a sleeping quad sends training frames for 1 ms. -/
def execSleepTrainingBurst (l : Nat) (s : State) : Res :=
  .next (if (s.link l).st = .down && inSet s.lk.asleep (l / 4) then s.emit (.training l) else s)

/-- QUAD_WAKE (R593): signal detect wakes the quad and the DOWN link enters TRAINING. -/
def execQuadWake (l : Nat) (s : State) : Res :=
  .next (if inSet s.lk.asleep (l / 4) then
      let s := s.wakeQuad l
      if (s.link l).st = .down then s.startLinkTraining l else s
    else s)

end Sys2Proof.Machine
end

