-- ==== Sys2Proof/Machine/SeOps.lean ====
section
/-!
DEFINITION. The root of trust's shared operations: life-cycle state, key classes and their zeroisation, the backup-cell
counter, tokens (Root of Trust, Life Cycle and Debug).
-/
namespace Sys2Proof.Machine

/-- The logical bits of a row: a bit reads as blown when at least two of its four fuses are (R518). -/
def FuseRow.read (r : FuseRow) : Nat :=
  (r.a &&& r.b) ||| (r.a &&& r.c) ||| (r.a &&& r.d) ||| (r.b &&& r.c) ||| (r.b &&& r.d) ||| (r.c &&& r.d)

/-- Programs those fuses of logical bit `i` that the bits of `m` name: 15 all four, as the RTP always does unless power is lost (R518). -/
def FuseRow.blow (r : FuseRow) (i m : Nat) : FuseRow :=
  let f (x j : Nat) : Nat := if bit m j then x ||| 2 ^ i else x
  { a := f r.a 0, b := f r.b 1, c := f r.c 2, d := f r.d 3 }

/-- The consecutive ones of a word from bit `i` on, at most `n`. -/
def onesFrom (w : Nat) : Nat → Nat → Nat
  | 0, _ => 0
  | n + 1, i => if bit w i then onesFrom w n (i + 1) + 1 else 0

/-- The value of a counter: the consecutive blown logical bits from bit 0, at most 128 (R524). -/
def FuseRow.count (r : FuseRow) : Nat := onesFrom r.read 128 0

/-- Raises a counter to `v` by programming the following bits in order, four fuses each; `n` is how many fuses are programmed before power is lost
(R524). -/
def FuseRow.raise (r : FuseRow) (v n : Nat) : FuseRow :=
  let c := r.count
  ((List.range (4 * (v - c))).take n).foldl (fun r k => r.blow (c + k / 4) (2 ^ (k % 4))) r

/-- The highest life-cycle state whose COMMIT bit is blown (R519); bits 0 to 7 of the LC row are INTENT and COMMIT of
PROVISIONED, DEPLOYED, RETURN and SCRAPPED. -/
def lcOf (row : Nat) : Nat :=
  if bit row 7 then 4 else if bit row 5 then 3 else if bit row 3 then 2 else if bit row 1 then 1 else 0

/-- The life-cycle state. -/
def State.lc (s : State) : Nat := lcOf s.se.fuses.lc.read

/-- Changes the RTP's state. -/
def State.onSe (s : State) (f : SeSt → SeSt) : State := { s with se := f s.se }

/-- Changes the fuses; SE_STATUS.LC and SE_SVN follow. -/
def State.setFuses (s : State) (f : Fuses) : State :=
  let s := s.onSe (fun x => { x with fuses := f })
  let s := s.setFld F_SE_STATUS_LC (lcOf f.lc.read)
  let s := (s.setFld F_SE_SVN_RTP f.rtpSvn.count).setFld F_SE_SVN_RTP_EXH (b2n (f.rtpSvn.count == 128))
  (s.setFld F_SE_SVN_CTL f.ctlSvn.count).setFld F_SE_SVN_CTL_EXH (b2n (f.ctlSvn.count == 128))

/-- Changes the backup-cell domain; SE_STATUS.WRAP follows. -/
def State.setVbat (s : State) (v : Vbat) : State :=
  (s.onSe (fun x => { x with vbat := v })).setFld F_SE_STATUS_WRAP (b2n (v.wrap != .absent))

/-- The contents of a UDS row whose CRC is valid and which is not all ones. -/
def UdsRow.secret : UdsRow → Option (List Byte)
  | .valid n => some ((List.range 48).map (Config.udsByte n))
  | _ => none

/-- The UDS row in force: the lowest valid one (R526). -/
def State.udsInForce (s : State) : Option (List Byte) := s.se.fuses.uds.findSome? UdsRow.secret

/-- The keys of class I as the RTP derives them at boot from the UDS in force, the boot ROM's digest and the RTP image that runs; none in BLANK and
SCRAPPED (R526; log entry 22). -/
def State.deriveIds (s : State) (x : Image) : State :=
  let ids : Option ClassI := if s.lc = 0 || s.lc = 4 then none else s.udsInForce.map (fun u =>
    let cdi := hmac384 u (x.digest ++ leBytes 1 x.svn ++ leBytes 1 s.lc)
    { device := Config.devicePublic u Config.romDigest, cdi := cdi, alia := Config.aliasPublic cdi })
  s.onSe (fun e => { e with ids := ids })

/-- The keys of class I that exist: none in BLANK and SCRAPPED. -/
def State.classI (s : State) : Option ClassI := if s.lc = 0 || s.lc = 4 then none else s.se.ids

/-- The device identity digest: zeros in BLANK and SCRAPPED, and without an identity (R527). -/
def State.identity (s : State) : List Byte :=
  match s.classI with
  | some k => sha256 k.device
  | none => List.replicate 32 0

/-- Slots whose keys belong to class W, or to class T (Table 17.2). -/
def State.classSlots (s : State) (w : Bool) : List Nat :=
  (List.range 2048).filter (fun i =>
    let k := s.slot i
    k.st != .free && k.st != .lost && ((k.kind == 4) == w))

/-- Zeroises class W, or class T, without drain (R571). -/
def State.loseClass (s : State) (w : Bool) (unf : List Nat) : State :=
  (s.classSlots w).foldl (fun s i => s.loseSlot i unf) s

/-- Zeroises class P. -/
def State.loseWrap (s : State) : State := s.setVbat { s.se.vbat with wrap := .absent }

/-- A public key, as an uncompressed point, is the one whose SHA-384 a fuse row holds (R518, log entry 125). -/
def keyIs (key hash : List Byte) : Bool := key.length == 97 && sha384 key == hash

/-- Sets the debug state with the signer of its token. -/
def State.setDebug (s : State) (d signer : Nat) : State :=
  let s := s.onSe (fun x => { x with debug := d, signer := signer })
  let s := (s.setFld F_SE_STATUS_DEBUG d).setFld F_DB_STATUS_DEBUG d
  (s.setFld F_DB_STATUS_DAP_OPEN (b2n (d != 0))).setFld F_DB_STATUS_SIGNER signer

/-- The debug state that a life-cycle state starts in (R544): invasive in BLANK and SCRAPPED, with no token needed, closed
otherwise. -/
def State.debugAtReset (s : State) : State := if s.lc = 0 || s.lc = 4 then s.setDebug 2 3 else s.setDebug 0 0

/-- Key and session administration is answered (R535). -/
def State.keysAllowed (s : State) : Bool := (s.lc == 1 || s.lc == 2) && s.se.debug != 2

/-- The private scalar of the sealing key pair (R574). -/
def State.sealing (s : State) : Nat := Config.sealScalar s.se.vbat.wrap.bytes

/-- WRAP_ID of the device, the first 4 bytes of the SHA-256 digest of its sealing public key (R574); 0 without a wrapping key. -/
def State.wrapId (s : State) : Nat :=
  if s.se.vbat.wrap = .absent then 0 else leNat ((sha256 (publicOf s.sealing)).take 4)

end Sys2Proof.Machine
end

