-- ==== Sys2Proof/Machine/Constellation.lean ====
section
/-!
DEFINITION. Constellations: epoch records, their checks and adoption, forwarded requests from other members, peers, the
messages that carry records (Constellations of Devices).
-/
namespace Sys2Proof.Machine

/-! ## Epoch records (Tables 13.2 and 13.3) -/

/-- Byte `i` of a record. -/
def recAt (r : List Byte) (i : Nat) : Nat := (r.getD i 0).toNat

/-- Member `m` is present in a record. -/
def recPresent (r : List Byte) (m : Nat) : Bool := decide (m < 32) && bit (leAt r 0xC 4) m

/-- The next hop from `a` toward `b`. -/
def recRoute (r : List Byte) (a b : Nat) : Nat := recAt r (0x120 + 32 * a + b)

/-- The identity digest of a member. -/
def recDigest (r : List Byte) (m : Nat) : List Byte := (r.drop (0x520 + 40 * m)).take 32

/-- JOIN_EPOCH of a member; 0 where the record has none. -/
def recJoin (r : List Byte) (m : Nat) : Nat := leAt r (0x520 + 40 * m + 32) 4

/-- The owner of a shard in a record. -/
def recShard (r : List Byte) (k : Nat) : Nat := recAt r (0x20 + k)

/-- The epoch of a record. -/
def recEpoch (r : List Byte) : Nat := leAt r 8 4

/-- The bytes that Table 13.2 does not name, or names as zero. -/
def recUnnamed (r : List Byte) : Bool :=
  (([1, 2, 3, 6, 7, 0x11, 0x12, 0x13] ++ List.range' 0x14 12).all (fun i => recAt r i == 0)) &&
    (List.range 32).all (fun m => leAt r (0x520 + 40 * m + 36) 4 == 0)

/-- The members present in a record. -/
def recMembers (r : List Byte) : List Nat := (List.range 32).filter (recPresent r)

/-- A test of every route from one present member to another. -/
def recRoutes (r : List Byte) (p : Nat → Nat → Bool) : Bool :=
  (recMembers r).all (fun a => (recMembers r).all (fun b => a == b || p a (recRoute r a b)))

/-- What verifying a record gives. -/
inductive Verdict where
  | adopt | same | conflict
  | refused (check : Nat)
  deriving DecidableEq, Repr

/-- CN_KEY: the orchestrator's public key, x then y, in 24 words (log entry 16). -/
def State.cnKey (s : State) : List Byte := ((List.range 24).map (fun i => leBytes 4 (s.fld (F_CN_KEY_KEY.at i)))).flatten

/-- A record's signature verifies under CN_KEY: ECDSA P-384 with SHA-384 over bytes 0x000 to 0xA1F (Table 13.2). -/
def State.recordSigned (s : State) (r : List Byte) : Bool := ecdsaOk s.cnKey (sha384 (r.take 0xA20)) (r.drop 0xA20)

/-- The checks of Table 13.3, in order (R423, R424). -/
def State.verifyRecord (s : State) (r : List Byte) : Verdict :=
  let cur := s.fld F_CN_EPOCH_EPOCH
  let e := recEpoch r
  if r.length ≠ 2688 || recAt r 0 ≠ 1 || !recUnnamed r then .refused 1
  else if leAt r 4 2 ≠ s.fld F_CN_ID_ID then .refused 2
  else if !s.recordSigned r then .refused 3
  else if e = cur && cur ≠ 0 then (if r = s.cn.record then .same else .conflict)
  else if e ≤ cur then .refused 4
  else if !recPresent r (recAt r 0x10 % 32) || !(List.range 256).all (fun k => recPresent r (recShard r k)) ||
      !recRoutes r (fun _ h => recPresent r h) then .refused 5
  else if !recRoutes r (fun a h => h != a) then .refused 6
  else if (recMembers r).any (fun a => (recMembers r).any (fun b => a != b && recDigest r a == recDigest r b)) then
    .refused 7
  else if (recMembers r).any (fun m => decide (e < recJoin r m)) then .refused 8
  else .adopt

/-- The check number that a verdict reports: 4 for a conflict (R721), 0 when nothing failed. -/
def Verdict.check : Verdict → Nat
  | .refused c => c
  | .conflict => 4
  | _ => 0

/-- A refused record is counted and recorded; a conflict is one, with a counter and a kind of its own (R423, R424). -/
def State.recordRefused (s : State) (r : List Byte) (v : Verdict) : State :=
  match v with
  | .refused c => (s.bump F_CN_REFUSED_REFUSED).report
      { kind := 0x30, utype := 13, inst := s.me, cls := 0, data := c + recEpoch r * 2 ^ 32 }
  | .conflict => ((s.bump F_CN_REFUSED_REFUSED).bump F_CN_CONFLICT_CONFLICT).report { kind := 0x31, utype := 13, inst := s.me, cls := 2 }
  | _ => s

/-- A verified record starts its adoption: SWITCHING sets (R426 step 1). -/
def State.startAdopt (s : State) (r : List Byte) (d : Option Nat) (m : Option (Nat × Nat)) : State :=
  let s := { s with cn := { s.cn with next := some r, nextBy := d, nextFrom := m } }
  (s.setFld F_CN_STATUS_SWITCHING 1).devEvent 3

/-- The result of EPOCH_LOAD (Table 22.8). -/
def State.epochResult (s : State) (conflict : Bool) : Result :=
  { w0 := s.fld F_CN_EPOCH_EPOCH, w1 := s.fld F_CN_STATUS_STATE + s.fld F_CN_STATUS_MEMBER * 256, w2 := b2n conflict }

/-- EPOCH_LOAD (R423, R721): the record that the command read at acceptance is verified; adopted, ignored as identical, or
refused. It waits while an epoch switches, loads in arrival order. -/
def execEpochLoad (d : Nat) (s : State) : Res :=
  let x := s.desc d
  let isLoad (y : Desc) : Bool := y.runs? 0x7F && y.e.opA == 2
  .next (if !isLoad x || s.fld F_CN_STATUS_SWITCHING == 1 ||
      s.q.descs.any (fun p => isLoad p.2 && decide (p.2.seq < x.seq)) then s
    else
      let v := s.verifyRecord x.blk
      match v with
      | .adopt => (s.stage d .exec).startAdopt x.blk (some d) none
      | .same => s.finish d .ok (s.epochResult false)
      | _ => (s.recordRefused x.blk v).finish d .param (s.epochResult (v = .conflict)) v.check)

/-! ## Adoption (R425 to R429, R434) -/

/-- The member ID that a record gives this device: the entry with its identity digest (R425). -/
def State.ownIndex (s : State) (r : List Byte) : Option Nat := (recMembers r).find? (fun m => recDigest r m == s.identity)

/-- The catalog changes of an adoption: entries that go, own records whose entry another member drops (R427 to R429). -/
def State.epochPurge (s : State) (old new : List Byte) (was : Membership) (oldMe : Nat) (me : Option Nat) : State :=
  let all := match me, was with
    | some m, .member => recJoin old oldMe != recJoin new m
    | _, _ => true
  let s := s.removeEntries (fun e => all || some (recShard new (shardOf e.hash)) != me || !recPresent new e.owner ||
    recJoin old e.owner != recJoin new e.owner)
  (s.ct.segs.map (·.1)).foldl (fun s i =>
    let r := s.seg i
    if r.live && r.inIndex && (all || recShard new (shardOf r.hash) != r.inserter) then
      (s.setSeg i { r with inIndex := false }).tryFreeSeg i
    else s) s

/-- The route link toward each present member: the lowest ACTIVE link VERIFIED to the next hop (R434). -/
def State.epochRoutes (s : State) (r : List Byte) (me : Nat) : KV Nat :=
  ((recMembers r).filter (· != me)).foldl (fun m b =>
    let hop := recRoute r me b
    match (List.range 48).find? (fun l => decide ((s.link l).st = .active) && s.peer l == 2 &&
        ((s.link l).partner.map (·.member)) == some hop) with
    | some l => kvInsert m b l
    | none => m) []

/-- A forward that waited for the switch, taken from the waiting ones, goes out under the new map (R426 step 4). One whose INSERT was never sent has
no command any more and goes. -/
def State.reforward (s : State) (f : Forward) : State :=
  let kind := leAt f.msg 0 1 % 16
  let hash := leAt f.msg 0x10 16
  match f.d with
  | some d =>
    if kind = 1 then (if (s.desc d).stage = .exec then (s.lookupGo d (s.desc d).list.length 0).lookupDone d else s)
    else if (s.desc d).stage ≠ .wait .answers then s
    else if kind = 2 then s.publishInsert d
    else if s.shardOwner (shardOf hash) = f.dest && f.dest ≠ s.me then
      s.sendFwd (some d) 0 f.dest kind (leAt f.msg 8 2) false hash ((f.msg.drop 0x20).take 8)
    else s.finish d .ok (s.desc d).res
  | none =>
    if kind ≠ 2 && s.shardOwner (shardOf hash) = f.dest && f.dest ≠ s.me then
      s.sendFwd none 0 f.dest kind (leAt f.msg 8 2) false hash ((f.msg.drop 0x20).take 9)
    else s

/-- The links of member partners that are VERIFIED. -/
def State.verifiedLinks (s : State) : List Nat :=
  (List.range 48).filter (fun l => (s.link l).isUp && s.peer l == 2)

/-- A link in QUARANTINE for its partner's epoch goes ACTIVE once the epochs agree (R409); what its open sessions had to keep back goes out. -/
def State.epochAgrees (s : State) (l : Nat) : State :=
  let x := s.link l
  if x.st = .quarantine && x.qcause == 6 && x.partner.any (fun p => p.epoch == s.fld F_CN_EPOCH_EPOCH) then
    let s := ((s.setLink l { x with qcause := 0 }).linkTo l .active).askOpenAll l
    (x.sessions.filter (fun p => p.2.isOpen)).foldl (fun s p => s.sessionOpened l p.1) s
  else s

/-- Answers to forwarded requests carry the request's kind, scope and hash; they go on the route toward its source, or on
the link it came by from a device in DEPARTED (R427, R435, Table 13.4). -/
def State.reply (s : State) (l : Nat) (f : Flit) (status : Nat) (tail : List Byte) : State :=
  let b := f.body
  let src := if s.cn.st = .member then s.me else leAt b 2 1
  let m := fwdMsg (leAt b 0 1) src (leAt b 1 1) 4 (s.fld F_CN_EPOCH_EPOCH) (leAt b 8 2) status false (leAt b 0x10 16) tail
  if s.cn.st = .member then s.routeMsg 9 (leAt b 1 1) f.xtag m
  else s.sendFlit l { type := 9, vc := vcOf 9, session := 63, xtag := f.xtag, body := m }

/-- The tail of an answer that names a member in byte 0x30. -/
def movedTail (m : Nat) : List Byte := leBytes 8 0 ++ leBytes 8 0 ++ [BitVec.ofNat 8 m]

/-- The tail of a HIT (Table 13.5). -/
def hitTail (e : IndexEntry) : List Byte :=
  leBytes 8 e.handle ++ leBytes 4 (e.hint % 4 + e.tokens * 65536) ++ leBytes 2 e.layers

/-- A forwarded lookup of a shard this member owns (R168, R182, R430). -/
def State.serveLookup (s : State) (l : Nat) (f : Flit) : State :=
  let b := f.body
  let sc := Scope.ofNum (leAt b 8 2)
  let hash := leAt b 0x10 16
  match s.findEntry hash sc with
  | none => (s.countLookup sc false).reply l f 1 []
  | some e =>
    let s := (s.countLookup sc true).touchEntry hash sc
    let s := if e.owner == leAt b 1 1 && !bit (leAt b 0xB 1) 0 then
        s.editEntry hash sc (fun e => { e with pending := true })
      else s
    s.reply l f 0 (hitTail e)

/-- A forwarded insert (R167, R175, R189, Table 13.6). The owner of an entry that it evicts is not told and keeps its record (DESIGN CHOICE, log
entry 147). -/
def State.serveInsert (s : State) (l : Nat) (f : Flit) : State :=
  let b := f.body
  let h := leAt b 0x20 8
  let (s, o) := s.indexInsert {
    hash := leAt b 0x10 16, scope := Scope.ofNum (leAt b 8 2), owner := bits h 25 5, handle := h,
    hint := leAt b 0x28 1 % 4, tokens := leAt b 0x2A 2, layers := leAt b 0x2C 2, idle := true }
  match o with
  | .done => s.reply l f 8 []
  | .exists_ h => s.reply l f 9 (leBytes 8 h)
  | .capacity => s.reply l f 10 []

/-- A forwarded removal (R186, Table 13.6). -/
def State.serveRemove (s : State) (l : Nat) (f : Flit) : State :=
  let b := f.body
  let p (e : IndexEntry) : Bool := e.keyed (leAt b 0x10 16) (Scope.ofNum (leAt b 8 2)) && e.handle == leAt b 0x20 8
  if s.entries.any p then (s.removeEntries p).reply l f 8 [] else s.reply l f 1 []

/-- REFSTATE clears PENDING and records idle or not idle (R430). -/
def State.serveRefstate (s : State) (l : Nat) (f : Flit) : State :=
  let b := f.body
  let h := leAt b 0x20 8
  let idle := bit (leAt b 0x28 1) 0
  let s := s.editEntry (leAt b 0x10 16) (Scope.ofNum (leAt b 8 2)) (fun (e : IndexEntry) =>
    if e.handle == h then { e with pending := false, idle := idle } else e)
  s.reply l f 8 []

/-- A forwarded request for this member, under its own map (R180, R436). -/
def State.serve (s : State) (l : Nat) (f : Flit) : State :=
  let b := f.body
  let shard := shardOf (leAt b 0x10 16)
  let kind := leAt b 0 1
  if s.cn.st ≠ .member || s.mapOwner shard ≠ s.me then s.reply l f 4 (movedTail (s.mapOwner shard))
  else if kind = 1 then s.serveLookup l f
  else if kind = 2 then s.serveInsert l f
  else if kind = 3 then s.serveRemove l f
  else s.serveRefstate l f

/-- The held requests that the adopted epoch covers are handled (R436). -/
def State.serveHeld (s : State) : State :=
  let ok := s.cn.held.filter (fun h => decide (leAt h.f.body 4 4 ≤ s.fld F_CN_EPOCH_EPOCH))
  let s := { s with cn := { s.cn with held := s.cn.held.filter (fun h => !(decide (leAt h.f.body 4 4 ≤ s.fld F_CN_EPOCH_EPOCH))) } }
  ok.foldl (fun s h => s.serve h.link h.f) s

/-- The completion and the answer that an adoption owes (R478, R721). -/
def State.adoptionAnswers (s : State) (d : Option Nat) (m : Option (Nat × Nat)) : State :=
  let s := match d with
    | some d => s.finish d .ok (s.epochResult false)
    | none => s
  match m with
  | some (b, i) => s.answer b (vendorMsg false i 2 (some 0) [0])
  | none => s

/-- EPOCH_SWITCH (R426 to R429, R434): no forward of the old epoch is outstanding, so the new record takes effect in one
step. The record that a request still held needs is asked for again (R436). -/
def execEpochSwitch (s : State) : Res :=
  .next (match s.cn.next with
  | none => s
  | some r =>
    if s.fwdOut ≠ 0 then s
    else
      let me := s.ownIndex r
      let c := s.cn
      let s := s.epochPurge c.record r c.st s.me me
      let s := { s with
        cn := { s.cn with
          st := if me.isSome then .member else .departed, member := me.getD 0, record := r, next := none, nextBy := none
          nextFrom := none, routeLink := match me with | some m => s.epochRoutes r m | none => []
          steered := decide (c.st = Membership.member) && c.steered, away := []
          since := if c.st = Membership.member then c.since else s.now }
        ct := { s.ct with routes := [] } }
      let s := ((((s.setFld F_CN_EPOCH_EPOCH (recEpoch r)).setFld F_CN_STATUS_STATE (if me.isSome then 1 else 2)).setFld
        F_CN_STATUS_MEMBER (me.getD 0)).setFld F_CN_STATUS_TIME_SOURCE (b2n (me == some (recAt r 0x10 % 32)))).setFld
        F_CN_STATUS_SWITCHING 0
      let s := s.devEvent 3
      let waits := s.ct.fwd.filter (fun (f : Forward) => !f.sent)
      let s := waits.foldl State.reforward { s with ct := { s.ct with fwd := s.ct.fwd.filter (·.sent) } }
      let s := s.pumpFwd 4096
      let s := s.adoptionAnswers c.nextBy c.nextFrom
      let s := s.serveHeld
      let s := s.cn.held.foldl (fun s h => s.askEpoch h.link) s
      let s := s.verifiedLinks.foldl (fun s l => s.sendMctp l true (vendorMsg true 0 2 none r)) s
      (List.range 48).foldl State.epochAgrees s)

/-! ## Messages from other members (R433, R435, R436, R441) -/

/-- A FWD message is well formed: an assigned kind, no bit set that is not named for it (Tables 13.4 and 13.5). MOVED names a member in byte 0x30
whatever the kind (R180, R427; DEDUCED, log entry 129). -/
def fwdFormOk (req : Bool) (b : List Byte) : Bool :=
  let kind := leAt b 0 1
  let moved := !req && leAt b 0xA 1 == 4
  let named : Nat :=
    if moved then 17
    else if req then (if kind = 2 then 15 else if kind = 3 then 8 else if kind = 4 then 9 else 0)
    else (if kind = 1 then 17 else if kind = 2 then 8 else 0)
  b.length == 64 && decide (1 ≤ kind) && decide (kind ≤ 4) && decide (leAt b 1 1 < 32) && decide (leAt b 2 1 < 32) &&
    decide (leAt b 3 1 < 8) && leAt b 8 2 / 1024 % 32 == 0 && (!req || leAt b 0xA 1 == 0) &&
    decide (leAt b 0xB 1 ≤ (if kind = 1 then 1 else 0)) && leAt b 0xC 4 == 0 &&
    ((b.drop (0x20 + named)).all (· == 0)) &&
    (if req && kind == 2 then leAt b 0x28 2 / 4 == 0
      else if req && kind == 4 then decide (leAt b 0x28 1 < 4)
      else if !req && kind == 1 then leAt b 0x28 2 / 4 == 0 && leAt b 0x2E 2 == 0 && decide (leAt b 0x30 1 < 32)
      else if moved then ((b.drop 0x20).take 16).all (· == 0) && decide (leAt b 0x30 1 < 32)
      else true)

/-- A message whose source is not the link's partner has been relayed: its TTL is below the 4 that senders set. A link that has
gone down no longer knows its partner (R389). -/
def State.fwdSourceOk (s : State) (l : Nat) (b : List Byte) : Bool :=
  (match (s.link l).partner with | some p => p.member == leAt b 1 1 | none => true) || decide (leAt b 3 1 < 4)

/-- Takes a received FWD flit of a link: its tag and form checked. -/
def State.onFwd (s : State) (l ty : Nat) (unf : List Nat) (f : State → Flit → State) : State :=
  s.onFlit l ty (fun s g ok =>
    if !ok then s.tagFailed l 63
    else if fwdFormOk (ty == 8) g.body && s.fwdSourceOk l g.body then f s g else s.violation l unf)

/-- Relays a message toward its destination with TTL one lower, if its route link carries forwards (R434, R435). -/
def State.relay (s : State) (f : Flit) : State :=
  let b := f.body
  let s := if s.fwdReady (s.routeTo (leAt b 2 1)) then s.bump F_CN_RELAYED_RELAYED else s
  s.routeMsg f.type (leAt b 2 1) f.xtag
    (b.take 3 ++ [BitVec.ofNat 8 (leAt b 3 1 - 1)] ++ b.drop 4)

/-- A message is for another member. -/
def State.forOther (s : State) (b : List Byte) : Bool := decide (s.cn.st = .member) && leAt b 2 1 != s.me

/-- A FWD_REQ that has reached its member or a relay (R427, R435, R436). -/
def State.fwdReq (s : State) (l : Nat) (f : Flit) : State :=
  let b := f.body
  if s.cn.st = .standalone then s
  else if s.forOther b then (if leAt b 3 1 = 0 then s.reply l f 5 [] else s.relay f)
  else if s.cn.st = .member && decide (s.fld F_CN_EPOCH_EPOCH < leAt b 4 4) then
    let s := { s with cn := { s.cn with held := s.cn.held ++ [({ link := l, f := f, since := s.now } : HeldReq)] } }
    s.askEpoch l
  else s.serve l f

/-- The next FWD_REQ of a link is a REFSTATE for this member. -/
def State.refstateNext (s : State) (l : Nat) : Bool :=
  match s.headFlit l (vcOf 8) with
  | some g => g.type == 8 && leAt g.body 0 1 == 4 && !s.forOther g.body
  | none => false

/-- FWD_REQ (R168, R180, R435, R436). -/
def execFwdReq (l : Nat) (unf : List Nat) (s : State) : Res :=
  .next (if s.refstateNext l then s else s.onFwd l 8 unf (fun s f => s.fwdReq l f))

/-- REFSTATE (R430). -/
def execRefstate (l : Nat) (unf : List Nat) (s : State) : Res :=
  .next (if s.refstateNext l then s.onFwd l 8 unf (fun s f => s.fwdReq l f) else s)

/-- FWD_RSP (R179, R181, R435, R436). -/
def execFwdRsp (l : Nat) (unf : List Nat) (s : State) : Res :=
  .next (s.onFwd l 9 unf (fun s f =>
    let b := f.body
    if s.cn.st = .standalone then s
    else if s.forOther b then (if leAt b 3 1 = 0 then s.bump F_CN_TTL_DROPS_TTL else s.relay f)
    else
      let s := if s.fld F_CN_EPOCH_EPOCH < leAt b 4 4 then s.askEpoch l else s
      match s.ct.fwd.find? (fun g => g.sent && g.req == f.xtag && leAt g.msg 0 1 == leAt b 0 1) with
      | some g => s.fwdAnswer g (leAt b 0xA 1) b
      | none => s.lateHit (leAt b 1 1) b))

/-- FWD_HOLD_EXPIRED (R436): the request held longest has waited 100 ms. -/
def execFwdHoldExpired (s : State) : Res :=
  .next (match s.cn.held with
  | [] => s
  | h :: t => if s.now < h.since + 100000000 then s else { s with cn := { s.cn with held := t } }.reply h.link h.f 5 [])

/-! ## Peers (R432, R566) -/

/-- PEER_ATTESTATION (R432, R433, R566): SPDM over MGMT has ended, with the DeviceID key of the peer's chain, `ok` where chain and signature are good (R530); session 63 opens with a
key made for the link once the peer is VERIFIED, asked for by the lower member. Where no key of class T may exist the link has
none (Table 16.7). -/
def execPeerAttestation (l : Nat) (key : List Byte) (ok : Bool) (s : State) : Res :=
  let x := s.link l
  .next (match x.partner with
  | none => s
  | some p =>
    if !x.isUp || p.role ≠ 0 || s.peer l = 0 then s
    else if ok && s.cn.st ≠ .standalone && recPresent s.cn.record p.member && recDigest s.cn.record p.member == sha256 key then
      let h := 16 + l
      let s := s.setPeer l 2
      if !s.keysAllowed then s else
      let s := s.setSlot h { s.slot h with
        st := .active, kind := 0, link := l, secret := .given (hkdfExpand (exportSecret s.fresh) (ascii "GWK MEMBER") 32) }
      let s := s.draw
      let s := s.setSession l 63 { bound := true, tenant := 0, handle := s.slotHandle h }
      if s.me < p.member then s.askOpen l 63 else s
    else
      ((s.closeSession l 63).setPeer l 3).report { kind := 0x33, utype := 13, inst := p.member, cls := 2 })

/-! ## Records over MCTP (R470, R477, R478) -/

/-- A binding can carry messages now (Table 14.5). -/
def State.bindUp (s : State) (b : Nat) : Bool :=
  s.rtpUp && (if b = 0 then s.ck.power == 0 && s.hostLinkUp
    else if b = 1 then decide (s.ck.power ≤ 1) || s.se.hold else (s.link (b - 2)).isUp)

/-- GET_EPOCH_RECORD (R478). -/
def execGetEpochRecord (b inst epoch : Nat) (s : State) : Res :=
  .next (if !s.bindUp b then s
    else if s.cn.st = .standalone || (epoch ≠ 0 && epoch ≠ s.fld F_CN_EPOCH_EPOCH) then
      s.answer b (vendorMsg false inst 1 (some 4) [])
    else s.answer b (vendorMsg false inst 1 (some 0) s.cn.record))

/-- The partner of a link has the epoch of this device: a link in QUARANTINE for its epoch goes ACTIVE (R409). -/
def State.partnerAt (s : State) (l : Nat) : State :=
  let x := s.link l
  (s.setLink l { x with partner := x.partner.map (fun (p : Partner) => { p with epoch := s.fld F_CN_EPOCH_EPOCH }) }).epochAgrees l

/-- PUT_EPOCH_RECORD (R423 to R427, R478). -/
def execPutEpochRecord (b inst : Nat) (record : List Byte) (s : State) : Res :=
  .next (if !s.bindUp b then s
    else if b < 2 || ((s.link (b - 2)).partner.map (·.role)) != some 0 then s.answer b (vendorMsg false inst 2 (some 5) [])
    else if record.length ≠ 2688 then s.answer b (vendorMsg false inst 2 (some 3) [])
    else if s.fld F_CN_STATUS_SWITCHING == 1 then s.answer b (vendorMsg false inst 2 (some 6) [])
    else
      let v := s.verifyRecord record
      match v with
      | .adopt => s.startAdopt record none (some (b, inst))
      | .same => (s.answer b (vendorMsg false inst 2 (some 0) [0])).partnerAt (b - 2)
      | _ => (s.recordRefused record v).answer b (vendorMsg false inst 2 (some 2) [BitVec.ofNat 8 v.check]))

/-- A message in reassembly has this source and tag on this binding. -/
def Reasm.from_ (r : Reasm) (b src tag : Nat) : Bool := r.bind == b && r.src == src && r.tag == tag

/-- A dropped message or packet is counted (R469, R470). -/
def State.mctpDrop (s : State) (b src tag : Nat) : State :=
  ({ s with mg := { s.mg with asm := s.mg.asm.filter (fun r => !r.from_ b src tag) } }).bump F_HP_MCTP_DROP_DROP

/-- A packet of a message reaches the endpoint: reassembled per source and tag, up to 8 messages of 4,096 B (R470); `f` takes
the message that it ends. -/
def State.mctpPacket (s : State) (b : Nat) (p : List Byte) (f : State → List Byte → State) : State :=
  let src := leAt p 2 1
  let h := leAt p 3 1
  let tag := h % 16
  let seq := h / 16 % 4
  let som := bit h 7
  let eom := bit h 6
  let body := p.drop 4
  let open_ := s.mg.asm.find? (fun r => r.from_ b src tag)
  let others := s.mg.asm.filter (fun r => !r.from_ b src tag)
  let bad := match open_ with
    | none => !som || decide (8 ≤ (others.filter (fun r => r.bind == b)).length)
    | some r => !som && (seq != (r.seq + 1) % 4 || decide (4096 < r.body.length + body.length))
  if bad || 4096 < body.length then s.mctpDrop b src tag
  else
    let m : Reasm := match som, open_ with
      | false, some r => { r with seq := seq, body := r.body ++ body }
      | _, _ => { bind := b, src := src, tag := tag, seq := seq, body := body }
    if eom then f { s with mg := { s.mg with asm := others } } m.body
    else { s with mg := { s.mg with asm := others ++ [m] } }

/-- MGMT (R384, R409, R469, R470): a packet to the device's endpoint. A message of a type not answered on MGMT is dropped; the
record that answers GET_EPOCH_RECORD is verified and adopted. -/
def execMgmt (l : Nat) (s : State) : Res :=
  .next (s.onFlit l 11 (fun s f _ =>
    s.mctpPacket (2 + l) f.body (fun s m =>
      let ty := leAt m 0 1 % 128
      if !(ty == 0 || ty == 5 || ty == 6 || ty == 0x7E) then s.bump F_HP_MCTP_DROP_DROP
      else if ty = 0x7E && !bit (leAt m 3 1) 7 && leAt m 4 1 = 1 && leAt m 5 1 = 0 &&
          s.fld F_CN_STATUS_SWITCHING == 0 then
        let r := m.drop 6
        match s.verifyRecord r with
        | .adopt => s.startAdopt r none none
        | v => s.recordRefused r v
      else s.unknownCmd (2 + l) m)))

end Sys2Proof.Machine
end

