-- ==== Sys2Proof/Machine/Keys.lean ====
section
/-!
DEFINITION. Key and session administration, retirement, weight custody: KEY_CREATE, KEY_RETIRE, SESSION_BIND, WEIGHT_ADMIN
(Tenant Keys and Weight Custody).
-/
namespace Sys2Proof.Machine

/-! ## Creating keys (R558, R561, R564, R576) -/

/-- The kind that a KEY_CREATE names. -/
def Entry.keyKind (e : Entry) : Nat := e.opA % 16

/-- The result of KEY_CREATE (Table 17.7). -/
def State.keyResult (s : State) (i w1 : Nat) : Result := { w0 := s.slotHandle i, w1 := w1, w2 := s.slotsFree }

/-- Fills a free slot and completes, or completes E_CAPACITY with a full table. -/
def State.createKey (s : State) (d : Nat) (k : Nat → KeySlot) (w1 detail : Nat) : State :=
  match s.freshSlot with
  | none => s.finish d .capacity
  | some i =>
    let s := s.setSlot i { k i with st := .active, gen := (s.slot i).gen }
    s.finish d .ok (s.keyResult i w1) detail

/-- Runs a key or session command where they are answered (R535). -/
def State.keyCmd (s : State) (d : Nat) (ok : Bool) (f : State → State) : State :=
  if !ok then s else if !s.keysAllowed then s.finish d .unsupported else f s

/-- KEY_CREATE of a kind, ready to run. -/
def State.creates (s : State) (d kind : Nat) : Bool := (s.desc d).runs? 0x78 && (s.desc d).e.keyKind == kind

/-- KEY_CREATE_MEMORY (R558, R561): at most one MEMORY slot per tenant. -/
def execKeyCreateMemory (d : Nat) (s : State) : Res :=
  let t := (s.desc d).e.tenant
  .next (s.keyCmd d (s.creates d 1) (fun s =>
    if (s.memSlot t).isSome then s.finish d .param
    else s.draw.createKey d (fun _ => { kind := 1, tenant := t, secret := .random s.fresh }) 0 0))

/-- KEY_CREATE_SESSION_SHARED (R558): the secret that host software supplies. -/
def execKeyCreateSessionShared (d : Nat) (s : State) : Res :=
  let x := s.desc d
  .next (s.keyCmd d (s.creates d 2) (fun s =>
    s.createKey d (fun _ => { kind := 2, tenant := x.e.tenant, secret := .given (x.blk.take 32) }) 0 0))

/-- A digest is one of the non-zero digests of a policy, or the policy's digests are all zero (R564, R578). -/
def digestOk (ds : List (List Byte)) (m : List Byte) : Bool :=
  ds.all (fun d => d.all (· == 0)) || ds.any (fun d => d == m && !d.all (· == 0))

/-- The root hash and the four digests of a policy (R564). -/
def policyOf (b : List Byte) : List Byte × List (List Byte) :=
  (b.take 48, (List.range 4).map (fun i => (b.drop (48 + 48 * i)).take 48))

/-- KEY_CREATE_SESSION_ATTESTED (R564): SPDM with the accelerator on an ACTIVE link has ended: `ok` its chain and sessions are
good, `root` its root public key, `blocks` its measurement blocks one after another; the secret comes from the session's export master secret. -/
def execKeyCreateSessionAttested (d : Nat) (ok : Bool) (root blocks : List Byte) (s : State) : Res :=
  let x := s.desc d
  let l := bits x.e.opA 8 6
  let (r, ds) := policyOf x.blk
  let mdigest := sha384 blocks
  .next (s.keyCmd d (s.creates d 3) (fun s =>
    if !(decide ((s.link l).st = .active) && ((s.link l).partner.map (·.role)) == some 1 && ok && sha384 root == r &&
        digestOk ds mdigest) then s.finish d .perm {} 0xA3
    else s.draw.createKey d (fun _ => {
      kind := 3, tenant := x.e.tenant, link := l
      secret := .given (hkdfExpand (exportSecret s.fresh) (ascii "GWEUSK SESSION" ++ beBytes 2 (x.e.tenant % 1024)) 32), rootHash := r, mdigest := mdigest })
      (leAt mdigest 0 4) 0))

/-- The sealed key record of a KEY_CREATE of kind WEIGHT: the block, or a record of the index in boot flash (R581). -/
def State.sealedRecord (s : State) (x : Desc) : Option (List Byte) :=
  if x.e.flag 8 then s.se.weights[x.e.opB]? else some x.blk

/-- WEIGHT_ID of a sealed key record. -/
def sealedId (b : List Byte) : List Byte := (b.drop 8).take 16

/-- The weight key of a sealed key record: the ECDH secret of its ephemeral key with the sealing key gives, under the identity digest, the key that wraps
it (R576); none where the GCM tag fails, or the ephemeral key is no point of the curve (log entry 16). -/
def State.unwrap (s : State) (b : List Byte) : Option (List Byte) :=
  match ecdh s.sealing ((b.drop 0x118).take 97) with
  | none => none
  | some z =>
    let kek := hkdf384 z s.identity (ascii "JEDRA SEAL") 32
    let zero := List.replicate 12 (0 : Byte)
    let c := (b.drop 0x180).take 32
    if gcmTag kek zero (b.take 0x180) c = (b.drop 0x1A0).take 16 then some (gcmXor kek zero c) else none

/-- The checks of Table 17.5 in order: the status and DETAIL of the first that fails. -/
def State.sealedCheck (s : State) (t : Nat) (b : List Byte) : Option (Status × Nat) :=
  let chunks := leAt b 0x20 4
  if leAt b 0 4 ≠ 0x4A534B52 || leAt b 4 4 ≠ 1 || !((b.drop 0x1B0).take 80).all (· == 0) || leAt b 0x179 7 ≠ 0 ||
      1023 < leAt b 0x18 4 || leAt b 0x25 1 ≠ 0 || leAt b 0x27 1 ≠ 0 || chunks = 0 || 16777216 < chunks then some (.param, 0xB1)
  else if s.se.vbat.wrap = .absent then some (.unsupported, 0xA2)
  else if leAt b 0x1C 4 ≠ s.wrapId then some (.integrity, 0xB3)
  else if leAt b 0x18 4 ≠ t then some (.perm, 0xB4)
  else if s.se.fuses.rtpSvn.count < leAt b 0x24 1 || s.se.fuses.ctlSvn.count < leAt b 0x26 1 then some (.perm, 0xB5)
  else if (s.unwrap b).isNone then some (.integrity, 0xB6)
  else if s.ks.any (fun p => p.2.kind == 4 && p.2.st == .active && p.2.weightId == sealedId b) then some (.param, 0xB7)
  else none

/-- Appends a record to the sealed-weight index, unless one with its WEIGHT_ID is there (R581): its number, or none when the
index is full. -/
def State.indexWeight (s : State) (b : List Byte) : State × Option Nat :=
  match s.se.weights.findIdx? (fun r => sealedId r == sealedId b) with
  | some i => (s, some i)
  | none =>
    let n := s.se.weights.length
    if n < 16384 then (s.onSe (fun x => { x with weights := x.weights ++ [b] }), some n) else (s, none)

/-- KEY_CREATE_WEIGHT (R576, R581). -/
def execKeyCreateWeight (d : Nat) (s : State) : Res :=
  let x := s.desc d
  let t := x.e.tenant
  .next (s.keyCmd d (s.creates d 4) (fun s =>
    match s.sealedRecord x with
    | none => s.finish d .param
    | some b =>
      match s.sealedCheck t b with
      | some (st, c) => s.finish d st {} c
      | none =>
        let (r, ds) := policyOf (b.drop 0x28)
        if s.freshSlot.isNone then s.finish d .capacity
        else
          let (s, n) := s.indexWeight b
          s.createKey d (fun _ => {
            kind := 4, tenant := t, secret := .given ((s.unwrap b).getD []), weightId := sealedId b
            chunks := leAt b 0x20 4, rootHash := r, digests := ds }) (n.getD 0) (if n.isSome then 0 else 0xB9)))

/-! ## Retiring (R568, R582) -/

/-- KEY_RETIRE (R557, R582): a LOST slot is FREE at once; otherwise the command waits until the slot is. -/
def execKeyRetire (d : Nat) (s : State) : Res :=
  let x := s.desc d
  .next (s.keyCmd d (x.runs? 0x79) (fun s =>
    match s.slotOf (x.e.opA % 2 ^ 32) with
    | none => s.finish d .param
    | some i =>
      let k := s.slot i
      if i < 64 || k.kind = 1 || k.tenant ≠ x.e.tenant then s.finish d .param
      else if k.st = .lost then
        (s.setSlot i { gen := k.gen }).finish d .ok { w0 := x.e.opA % 2 ^ 32 }
      else (s.retireSlot i).stage d (.wait .retire)))

/-- A RETIRING slot that nothing holds any more: its sessions close, and it is zeroised once they have (R568 steps 4 to 6). The completions of the
commands that have ended go out before (R418). -/
def State.endRetire (s : State) (i : Nat) : State :=
  if (s.sessionsOn i).any (fun p => s.unwritten p.1 (s.session p.1 p.2).tenant) then s
  else ((s.sessionsOn i).foldl (fun s p => s.closeSession p.1 p.2) s).tryZeroise i

/-- RETIREMENT_DRAINED (R568). -/
def execRetirementDrained (i : Nat) (s : State) : Res :=
  .next (if (s.slot i).st = .retiring && (s.holders i true).isEmpty && !s.apHolds i then s.endRetire i else s)

/-- RETIREMENT_CAP (R568 step 3): operations that still hold a handle stop. -/
def execRetirementCap (i : Nat) (unf : List Nat) (s : State) : Res :=
  .next (if (s.slot i).st ≠ .retiring || s.now < (s.slot i).since + 1000000 * s.fld F_SE_KEY_CFG_CAP_MS then s
    else
      let l := s.holders i true
      let s := s.poisonUnfinished (l.map (fun d => (s.desc d).lineDst)).flatten unf
      let n := l.length + (s.hp.held.filter (fun a => s.memSlot a.tenant == some i)).length
      let s := ((s.finishAll .retired 0 l).apStopSlot i).bump F_SE_KEY_ABORTS_ABORTS n
      (s.setSlot i { s.slot i with stopped := (s.slot i).stopped + n }).endRetire i)

/-! ## Sessions (R393, R582) -/

/-- SESSION_BIND (R582): binds the index to the slot's tenant and handle; a slot that is not ACTIVE ends it E_RETIRED. -/
def execSessionBind (d : Nat) (s : State) : Res :=
  let x := s.desc d
  let (l, i) := x.e.sessionAt
  let h := x.e.opB % 2 ^ 32
  .next (s.keyCmd d (x.runs? 0x7A && !x.e.flag 8) (fun s =>
    match s.slotOf h with
    | none => s.finish d .param
    | some k =>
      let y := s.slot k
      if 48 ≤ l || i = 0 || 62 < i || (s.session l i).bound || k < 64 || y.tenant ≠ x.e.tenant ||
          (s.link l).sessions.any (fun p => p.2.bound && p.1 != 63 && p.2.tenant == y.tenant) ||
          !(y.kind == 2 || y.kind == 3) || (y.kind == 3 && y.link != l) then s.finish d .param
      else if y.st ≠ .active then s.finish d .retired
      else
        let s := s.setSession l i { bound := true, tenant := y.tenant, handle := h }
        (s.askOpen l i).finish d .ok { w0 := h, w1 := l + 256 * i }))

/-- SESSION_UNBIND (R582): an open session closes first; the index is unbound once it has. -/
def execSessionUnbind (d : Nat) (s : State) : Res :=
  let x := s.desc d
  let (l, i) := x.e.sessionAt
  .next (s.keyCmd d (x.runs? 0x7A && x.e.flag 8) (fun s =>
    let y := s.session l i
    if 48 ≤ l || i = 63 || !y.bound || y.tenant ≠ x.e.tenant || y.handle ≠ x.e.opB % 2 ^ 32 then s.finish d .param
    else ((s.stage d (.wait .others)).closeSession l i).tryZeroiseAll))

/-! ## Weights (R574 to R579) -/

/-- WEIGHT_ADMIN of an action, ready to run. -/
def State.weighs (s : State) (d action : Nat) : Bool := (s.desc d).runs? 0x7B && (s.desc d).e.opA % 16 == action

/-- WRAP_PROVISION (R574): in DEPLOYED, without a wrapping key, with debug closed. -/
def execWrapProvision (d : Nat) (s : State) : Res :=
  .next (s.keyCmd d (s.weighs d 1) (fun s =>
    if s.lc ≠ 2 || s.se.vbat.wrap ≠ .absent || s.se.debug ≠ 0 then s.finish d .unsupported {} 0xA2
    else
      let s := s.draw.setVbat { s.se.vbat with wrap := .random s.fresh }
      s.finish d .ok { w0 := s.wrapId }))

/-- The record of WRAP_INFO (Table 17.6), signed by the Alias key. -/
def State.wrapRecord (s : State) : List Byte :=
  let pad (n : Nat) (b : List Byte) : List Byte := (b ++ List.replicate n 0).take n
  leBytes 4 0x4A57494E ++ leBytes 4 s.wrapId ++ pad 32 s.identity ++ pad 104 (publicOf s.sealing) ++
    leBytes 16 s.now ++ pad 96 (Config.signature s.fresh)

/-- WRAP_INFO (R575, R759). -/
def execWrapInfo (d : Nat) (s : State) : Res :=
  let x := s.desc d
  .next (if s.noHost x.q then s
    else s.keyCmd d (s.weighs d 2) (fun s =>
      if s.se.vbat.wrap = .absent then s.finish d .unsupported {} 0xA2
      else match s.hostFault with
        | some c => s.finish d .aborted {} c
        | none =>
          (s.draw.emit (.hostWrite 0 x.e.opB s.wrapRecord)).finish d .ok { w0 := s.wrapId }))

/-- A release is allowed into its destination (R578). -/
def State.releaseOk (s : State) (x : Desc) : Bool :=
  let q := s.queue x.outQ
  match s.slotOf (bits x.e.spec 0 32) with
  | none => false
  | some w =>
    let k := s.slot w
    let i := s.sessionOf q.origin q.tenant
    let y := s.session q.origin i
    k.kind == 4 && decide (k.st = .active) && k.tenant == x.e.tenant && q.isLink && q.tenant == x.e.tenant && i != 0 &&
      (match s.slotOf y.handle with
      | none => false
      | some a =>
        let z := s.slot a
        z.kind == 3 && decide (z.st = .active) && z.rootHash == k.rootHash && digestOk k.digests z.mdigest)

/-- The plaintext of chunk `i` of a weight: 65,520 bytes of ciphertext and the tag fill a folio; none where the tag fails (R577). -/
def KeySlot.openChunk (k : KeySlot) (i : Nat) (b : List Byte) : Option (List Byte) :=
  let key := k.secret.bytes
  let nonce := beBytes 4 0 ++ beBytes 8 i
  let c := b.take 65520
  if gcmTag key nonce (k.weightId ++ beBytes 8 i ++ beBytes 4 k.chunks) c = b.drop 65520 then some (gcmXor key nonce c) else none

/-- Reads and verifies chunks in order until one fails: the plaintext, chunks read, and the status of the one that failed (R579). -/
def State.readChunks (s : State) (x : Desc) (k : KeySlot) : Nat → Nat → State × List Byte × Nat × Status
  | 0, _ => (s, [], 0, .ok)
  | n + 1, i =>
    let f := x.src.drop i
    let (s, m) := s.readAccess (f.take 1) (some (x.smeta.drop i)) 0 65536 {} x.who
    if m.status ≠ .ok then (s, [], 0, m.status)
    else match k.openChunk (bits x.e.spec 48 32 + i) (s.readRuns (f.take 1) 0 0 65536) with
      | none => (s, [], 0, .integrity)
      | some p =>
        let (s, r, c, st) := s.readChunks x k n (i + 1)
        (s, p ++ r, c + 1, st)

/-- Counts released weights in MiB (SE_WEIGHT_MIB). -/
def State.countWeights (s : State) (n : Nat) : State :=
  let b := s.se.weightBytes + n
  (s.onSe (fun x => { x with weightBytes := b % 1048576 })).bump F_SE_WEIGHT_MIB_MIB (b / 1048576)

/-- RELEASE (R578, R579): verifies weight chunks and sends their plaintext into the session. A failure sends the chunks before it and one empty DATA
flit with POISON and LAST. -/
def execWeightRelease (d : Nat) (s : State) : Res :=
  let x := s.desc d
  let ps := (x.src.map (fun f => pieces [f] 0 65536)).flatten
  .next (s.keyCmd d (s.weighs d 3 && !s.readWaits x.e.tenant ps && !s.outOfTurn x.e.tenant ps []) (fun s =>
    let s := s.payTurns x.e.tenant ps []
    if !s.releaseOk x then s.finish d .perm {} 0xB8
    else if (s.slot (bits x.e.spec 0 32 % 2048)).chunks < bits x.e.spec 48 32 + x.e.len then s.finish d .param
    else
      let q := s.queue x.outQ
      let i := s.sessionOf q.origin q.tenant
      let (s, b, k, st) := s.readChunks x (s.slot (bits x.e.spec 0 32 % 2048)) x.e.len 0
      let s := s.countWeights b.length
      let res : Result := { w0 := s.wrapId, w1 := k }
      if st = .ok then s.returnData d 0 b res
      else
        let base : Flit := { type := 5, vc := 1, session := i, queue := x.outQ, xtag := x.xtag }
        let ms := if b.isEmpty then [] else (segments b).map (segFlits base)
        (s.sendMsgs q.origin (ms ++ [[{ base with poison := true, last := true }]])).finish d st res))

end Sys2Proof.Machine
end

