-- ==== Sys2Proof/Machine/Tenants.lean ====
section
/-!
DEFINITION. Tenants: creation, change, removal; binding of queues and VFs; resets of queues without completions; reservation
credit; coalescing of vectors (Tenants, Quality of Service, Interrupts and Resets).
-/
namespace Sys2Proof.Machine

/-! ## Creating and changing (R486 to R490, R512, R513) -/

/-- TENANT_CREATE (R348, R486, R490, R492, R513). -/
def execTenantCreate (d : Nat) (s : State) : Res :=
  let x := s.desc d
  let t := x.e.tenant
  let b := x.blk
  let len := blkWord b 0
  .next (if !x.runs? 0x70 then s
    else if s.tenantState t ≠ 0 || !blkReserved b || 16777216 < len || !s.qosOk b then s.finish d .param
    else if bits (blkWord b 4) 8 1 = 1 && s.fld F_SI_CFG_TAGS_PRESENT ≠ 1 then s.finish d .unsupported
    else if s.fld F_TN_MAP_POOL_FREE_FREE < len || !s.resFit t b then s.finish d .capacity
    else
      let s := s.drop F_TN_MAP_POOL_FREE_FREE len
      let s := (s.setFld F_TN_MAP_LEN_LEN len t).setFld F_TN_MAP_EPOCH_CURRENT 0 t
      let s := (s.setFld F_TN_T_STATUS_SHARE_GROUP (bits (blkWord b 4) 0 8) t).setFld F_TN_T_STATUS_TAGS (bits (blkWord b 4) 8 1) t
      let s := ((s.setQos t b).setFld F_TN_T_STATUS_STATE 1 t).bump F_TN_COUNT_COUNT
      s.finish d .ok { w0 := len, w1 := s.fld F_TN_MAP_POOL_FREE_FREE })

/-- TENANT_SET without SHARE, a grant (R487, R489, R490, R512). -/
def execTenantSet (d : Nat) (s : State) : Res :=
  let x := s.desc d
  let t := x.e.tenant
  .next (if !(x.runs? 0x71 && !x.e.flag 9) then s
    else match s.setCheck x with
      | .ok => (s.setQos t x.blk).finish d .ok { w0 := s.epoch t }
      | c => s.finish d c)

/-- TENANT_SET with SHARE, a revoking command (R488, R755). -/
def execTenantSetShare (d : Nat) (s : State) : Res :=
  let x := s.desc d
  .next (if !(x.runs? 0x71 && x.e.flag 9) then s
    else match s.setCheck x with
      | .ok => s.revokeCmd d
      | c => s.finish d c)

/-! ## Stopping descriptors and queues -/

/-- Stops a descriptor that gets no completion: its map window closes and its work stops (R508, R509). -/
def State.dropDesc (s : State) (d : Nat) : State :=
  (if (s.desc d).stage = .done then s else (s.leaveWindow d).stopWork d).discardDesc d

/-- Resets a queue as a function, host-port or tenant reset does: no completion is written, each is counted, those kept after a CQ write that failed
among them (R508). -/
def State.silentReset (s : State) (unf : List Nat) (q : Nat) : State :=
  let x := s.queue q
  if x.st = .disabled then s
  else
    let s := (s.setQueue q { x with fetched := [], keptCq := [] }).queueTo q .resetting
    let s := s.bump F_QE_Q_REFUSED_REFUSED (x.fetched.length + x.keptCq.length) q
    let s := s.poisonUnfinished (s.destsOf (fun y => y.q == q)) unf
    let s := s.sweep State.dropDesc (s.descsOf q)
    s.resetDone q

/-- The queues that satisfy a test, bound ones of the table and queues 0 to 15. -/
def State.queuesWhere (s : State) (p : Queue → Bool) : List Nat :=
  ((List.range 16).filter (fun q => p (s.queue q))) ++
    ((s.q.tab.filter (fun x => decide (16 ≤ x.1) && p x.2)).map (·.1))

/-- Resets a queue with its completions written where the CQ has room, and leaves it DISABLED (R78). -/
def State.resetWhole (s : State) (unf : List Nat) (q : Nat) : State :=
  if (s.queue q).st = .disabled then s
  else
    let s := if (s.queue q).st = .resetting then s else s.resetQueue q unf
    (s.sweep State.completeDesc (s.descsOf q)).resetDone q

/-! ## Removal (R491, R492, R763) -/

/-- A command of a tenant that has not begun to execute and is not one of the forced paths (R485, R763); one whose wait ended in this very
tick, with another status or so that it began, is such a command still (R98). -/
def State.notBegun (s : State) (t d : Nat) (x : Desc) : Bool :=
  x.e.tenant == t && x.e.opcode != 0x72 && x.e.opcode != 0x04 && !(x.e.opcode == 0x61 && x.e.flag 9) &&
    (s.desc? d).isSome && ((x.stages s.now).any (fun g => g != .ready && s.unbegunIn x g) || s.unbegun x ||
      (x.stage = .done && x.early && x.tEnd == s.now))

/-- A TENANT_REMOVE is accepted: the tenant is REMOVING, and its commands that have not begun complete E_RETIRED (R491,
R763). -/
def State.removeAccepted (s : State) (t d : Nat) : State :=
  let s := s.setFld F_TN_T_STATUS_STATE 2 t
  let s := { s with tn := { s.tn with removals := s.tn.removals ++ [({ tenant := t, cmd := some d } : Removal)] } }
  s.finishAll .retired 0 ((s.q.descs.filter (fun p => s.notBegun t p.1 p.2)).map (·.1))

/-- The key slots of a tenant that are not FREE. -/
def State.slotsOf (s : State) (t : Nat) : List Nat :=
  (s.ks.filter (fun p => decide (64 ≤ p.1) && p.2.st != .free && p.2.tenant == t)).map (·.1)

/-- Retires or frees a slot for a removal (Table 17.1, R570). -/
def State.retireAny (s : State) (i : Nat) : State :=
  let k := s.slot i
  if k.st = .lost then s.setSlot i { gen := k.gen } else s.retireSlot i

/-- Steps 1 and 2 of a removal: TENANT_REMOVING on its functions, its key slots RETIRING (R491, R570). -/
def State.startRemoval (s : State) (t : Nat) : State :=
  let s := ((List.range 64).filter (fun f => (s.hostFn f).tenant == some t)).foldl (fun s f => s.fnEvent f 1) s
  (s.slotsOf t).foldl State.retireAny s

/-- Withdraws the entries that a tenant published, on whichever member holds them (R177). -/
def State.withdrawAll (s : State) (t : Nat) : State :=
  let mine := (s.ct.segs.filter (fun p => p.2.live && p.2.inIndex && p.2.publisher == t)).map (·.1)
  mine.foldl State.withdrawSeg s

/-- Releases every ledger reference of a tenant (R491 step 5). -/
def State.releaseLedger (s : State) (t : Nat) : State :=
  (s.ct.ledger.filter (fun p => p.1 / 2 ^ 25 == t)).foldl (fun s p => s.releaseRefs t (p.1 % 2 ^ 25) p.2) s

/-- Clears the aperture windows and the CXL binding of a tenant (R482). -/
def State.clearApertures (s : State) (t : Nat) : State :=
  let s := (List.range 16).foldl (fun s w =>
    if s.fld F_HP_APT_CFG_TENANT w = t then (s.setFld F_HP_APT_CFG_ENABLE 0 w).setFld F_HP_APT_CFG_BINDING 0 w else s) s
  if s.fld F_HP_CXL_CFG_TENANT = t then
    ((s.setFld F_HP_CXL_CFG_ENABLE 0).setFld F_HP_CXL_STATUS_BOUND 0).setFld F_HP_CXL_STATUS_BINDING 0
  else s

/-- The folios that a tenant owns. -/
def State.foliosOf (s : State) (t : Nat) : List Nat :=
  (s.map.owner.filter (fun p => decide (p.2.st = .owned) && p.2.tenant == t)).map (·.1)

/-- Every register field of a tenant's window returns to its reset value. -/
def State.clearTenant (s : State) (t : Nat) : State :=
  [F_TN_T_STATUS_STATE, F_TN_T_STATUS_SHARE_GROUP, F_TN_T_STATUS_TAGS, F_TN_T_QE_WEIGHT_W1, F_TN_T_QE_WEIGHT_W2,
    F_TN_T_QE_WEIGHT_W3, F_TN_T_SHARE_DATA_WEIGHT, F_TN_T_SHARE_CARREL_WEIGHT, F_TN_T_SHARE_CARREL_MAX, F_TN_T_CAP_HOT,
    F_TN_T_CAP_WARM, F_TN_T_STREAMS_QUOTA, F_TN_MAP_LEN_LEN, F_TN_MAP_EPOCH_CURRENT, F_TN_MAP_EPOCH_DRAINING,
    F_TN_MAP_EPOCH_WINDOW].foldl (fun s f => s.setFld f 0 t) (s.setReserve t 0 0)

/-- Step 8 of a removal: the folios enter RELEASING, the mirror and the reservations return (R491). -/
def State.releaseTenant (s : State) (t : Nat) : State :=
  let fs := s.foliosOf t
  let s := fs.foldl (fun s f => s.setOwner f { s.owner f with st := .releasing, maps := 0 }) s
  let s := s.bump F_TN_MAP_POOL_FREE_FREE (s.fld F_TN_MAP_LEN_LEN t)
  let s := { s with
    map := { s.map with
      mirror := s.map.mirror.filter (fun p => p.1 / 16777216 != t)
      badMirror := s.map.badMirror.filter (fun b => b / 524288 != t) }
    tn := { s.tn with
      credit := s.tn.credit.filter (fun p => p.1 / 256 != t), served := s.tn.served.filter (fun p => p.1 / 256 != t)
      terms := kvErase s.tn.terms t } }
  let s : State := match (s.revokes t).running with
    | some d => if (s.desc d).stage = Stage.wait .drain then s.finish d .ok (s.desc d).res else s
    | none => s
  (s.setRevokes t {}).clearTenant t

/-- Steps 3 to 8 of a removal and its completion (R491, R492, Table 15.5). -/
def State.endRemoval (s : State) (t : Nat) (unf : List Nat) (cmd : Option Nat) : State :=
  let qs := s.queuesWhere (fun x => x.isBound && x.tenant == t)
  let nq := (qs.filter (fun q => decide ((s.queue q).st ≠ .disabled))).length
  let s : State := qs.foldl (fun s q => (s.resetWhole unf q).setQueue q {}) s
  let s : State := (List.range 64).foldl (fun s f =>
    if (s.hostFn f).tenant = some t then s.setHostFn f { s.hostFn f with tenant := none } else s) s
  let fs := s.fencesOf t
  let waits := s.descsWhere (fun (x : Desc) => decide (x.stage = .wait .fence) && inSet fs x.awaits)
  let s := (s.poisonFences fs).finishAll .fencePoison 0 waits
  let s := fs.foldl (fun s f => s.setFence f { s.fence f with bound := false, tenant := 0 }) s
  let (s, n) := s.closeEach unf (s.streamsOf t) (0, 0)
  let s := ((s.releaseLedger t).withdrawAll t).clearApertures t
  let nf := (s.foliosOf t).length
  let s := (s.releaseTenant t).drop F_TN_COUNT_COUNT
  let s := { s with tn := { s.tn with removals := s.tn.removals.filter (fun r => r.tenant != t) } }
  let s := s.devEvent 7
  match cmd with
  | some d => s.finish d .ok { w0 := nq, w1 := nf, w2 := n.1, w3 := fs.length }
  | none => s

/-- TENANT_REMOVE (R491): a step of the tenant's removal: first TENANT_REMOVING and the retirement of its keys, then, once every
slot is FREE and no map window is open, the rest. -/
def execTenantRemove (t : Nat) (unf : List Nat) (s : State) : Res :=
  .next (match s.tn.removals.find? (fun r => r.tenant == t) with
  | none => s
  | some r =>
    if !r.started then
      let s := { s with tn := { s.tn with removals := s.tn.removals.map (fun (y : Removal) =>
        if y.tenant == t then { y with started := true } else y) } }
      s.startRemoval t
    else if !(s.slotsOf t).isEmpty || s.inWindow t then s
    else s.endRemoval t unf r.cmd)

/-! ## Queues and VFs (R493 to R495, R508) -/

/-- The vectors of a function (R501). -/
def vectorCount (fn : Nat) : Nat := if fn = 0 then 2048 else 32

/-- An origin code of Table 3.7 that the tenant may use. -/
def State.originOk (s : State) (t o : Nat) : Bool :=
  decide (o < 0x30) || o == 0x80 || (decide (0x81 ≤ o) && decide (o ≤ 0xBF) && (s.hostFn (o - 0x80)).tenant == some t)

/-- A queue register of Table 3.7 that QUEUE_BIND returns to its reset value (R494). -/
def State.resetQueueRegs (s : State) (q : Nat) : State :=
  [F_QE_Q_CFG_LOG2SIZE, F_QE_Q_CFG_CLASS, F_QE_Q_CFG_LOC, F_QE_Q_CFG_MAXINFLIGHT,
    F_QE_Q_CFG_TIMEOUT_MS, F_QE_Q_SQBASE_SQBASE_LO,
    F_QE_Q_SQBASE_SQBASE_HI, F_QE_Q_CQBASE_CQBASE_LO, F_QE_Q_CQBASE_CQBASE_HI].foldl (fun s f => s.setFld f f.rst q) s

/-- QUEUE_BIND (R494). -/
def execQueueBind (d : Nat) (s : State) : Res :=
  let x := s.desc d
  let q := bits x.e.opA 0 16
  let o := bits x.e.opA 16 8
  let v := bits x.e.opB 0 11
  let lc := bits x.e.spec 0 3
  .next (if !x.runs? 0x73 then s
    else if q < 16 || (s.queue q).isBound || (s.queue q).st ≠ .disabled || !s.originOk x.e.tenant o ||
        (if o < 0x30 then lc == 0 || lc == 7 else decide (vectorCount (o - 0x80) ≤ v)) then s.finish d .param
    else
      let s := (s.resetQueueRegs q).setQueue q {
        tenant := x.e.tenant, origin := o, vector := v, lcount := if o < 0x30 then lc else 1
        ltime := bits x.e.spec 16 16 }
      s.finish d .ok { w0 := q, w1 := if o < 0x30 then x.e.spec % 2 ^ 32 else v })

/-- QUEUE_UNBIND (R495): resets the queue, which is unbound once it is DISABLED. -/
def execQueueUnbind (d : Nat) (unf : List Nat) (s : State) : Res :=
  let x := s.desc d
  let q := bits x.e.opA 0 16
  let y := s.queue q
  .next (if !x.runs? 0x74 then s
    else if q < 16 || !y.isBound || y.tenant ≠ x.e.tenant || y.unbindBy.isSome then s.finish d .param
    else
      let n := (s.descsOf q).length
      let s := s.setDesc d { x with
        stage := .wait .others, res := { w0 := if y.st = .disabled then 0 else 1, w1 := n } }
      let s := s.setQueue q { y with unbindBy := some d }
      if y.st = .disabled then s.unbindQueue q
      else if y.st = .resetting then s
      else s.resetQueue q unf)

/-- VF_BIND (R493). -/
def execVfBind (d : Nat) (s : State) : Res :=
  let x := s.desc d
  let n := bits x.e.opA 0 6
  .next (if !(x.runs? 0x75 && !x.e.flag 8) then s
    else if n = 0 || s.ir.numVfs < n || (s.hostFn n).tenant.isSome then s.finish d .param
    else (s.setHostFn n { s.hostFn n with tenant := some x.e.tenant }).finish d .ok { w0 := n, w1 := x.e.tenant })

/-- VF_UNBIND (R493): refused while a queue has the VF as origin. -/
def execVfUnbind (d : Nat) (s : State) : Res :=
  let x := s.desc d
  let n := bits x.e.opA 0 6
  .next (if !(x.runs? 0x75 && x.e.flag 8) then s
    else if (s.hostFn n).tenant ≠ some x.e.tenant || !(s.queuesWhere (fun y => y.origin == 0x80 + n)).isEmpty then
      s.finish d .param
    else (s.setHostFn n { s.hostFn n with tenant := none }).finish d .ok { w0 := n })

/-- TENANT_RESET (R508): every queue of the tenant on any origin. -/
def execTenantReset (d : Nat) (unf : List Nat) (s : State) : Res :=
  let x := s.desc d
  .next (if !x.runs? 0x76 then s
    else
      let qs := s.queuesWhere (fun y => y.isBound && y.tenant == x.e.tenant && y.st != .disabled)
      let n := ((qs.map (fun q => (s.descsOf q).length)).foldl (· + ·) 0)
      (qs.foldl (State.silentReset · unf ·) s).finish d .ok { w0 := qs.length, w1 := n })

/-! ## Bandwidth (R496, R497) -/

/-- Credits a tenant's reservation of a tier for 1 µs, held to 4 µs' worth (R496): 1 GB/s is 16,000 sixteenths of a byte. -/
def State.creditTier (s : State) (t : Nat) (warm : Bool) (res : Nat) : State :=
  let us := s.tierUnits warm
  let n := res * 16000 / max 1 us.length
  if res = 0 then s
  else us.foldl (fun s u =>
    let k := creditKey t u
    { s with tn := { s.tn with credit := kvPut 0 s.tn.credit k (min (4 * n) (kvGet 0 s.tn.credit k + n)) } }) s

/-- The tenants whose fields differ from their reset, or that have shares in force. -/
def State.sharers (s : State) : List Nat :=
  (List.range 1024).filter (fun t => s.tenantState t != 0 || s.tn.terms.any (fun p => p.1 == t))

/-- RESERVATION_CREDIT (R489, R496): every 1 µs, each tenant; its shares come into force. -/
def execReservationCredit (s : State) : Res :=
  .next (s.sharers.foldl (fun s t =>
    let z := s.termsNow t
    let s : State := { s with tn := { s.tn with terms := if s.tenantState t = 0 then kvErase s.tn.terms t else kvInsert s.tn.terms t z } }
    (s.creditTier t false z.resHot).creditTier t true z.resWarm) s)

/-- CAP_INTERVAL (R497): each capped tenant may be served its share again on each unit; what a request took beyond it counts against the intervals that
follow, in which its excess is served. -/
def execCapInterval (s : State) : Res :=
  .next ({ s with tn := { s.tn with
    served := (s.tn.served.map (fun p => (p.1, p.2 - s.capShare (p.1 / 256) (p.1 % 256)))).filter (fun p => p.2 != 0) } } : State).apSweep

/-! ## Vectors (R502, R503) -/

/-- VECTOR_COALESCE_TIMEOUT (R502): the oldest pending completion has waited TIME. -/
def execVectorCoalesceTimeout (fn v : Nat) (s : State) : Res := .next (if s.waitedTime fn v then s.sendDue fn v else s)

/-- VECTOR_UNMASK (R502, R503): the condition that held a message has ended, so one message is sent; it reports the pending
completions when they are due. -/
def execVectorUnmask (fn v : Nat) (s : State) : Res :=
  let k := vecKey fn v
  .next (if inSet s.ir.pba k && s.canSend fn v then
      let due := s.vecDue fn v
      let s := { s with ir := { s.ir with pba := setErase s.ir.pba k } }
      let s := s.sendMsix fn v
      if due then s.noPending fn v else s
    else s)

end Sys2Proof.Machine
end

