-- ==== Sys2Proof/Machine/Host.lean ====
section
/-!
DEFINITION. The host port: link, resets of functions, requests to host memory that fail, the BAR4 aperture, CXL.mem, IDE (Host
Port and Management Transports; Tenants, Quality of Service, Interrupts and Resets).
-/
namespace Sys2Proof.Machine

/-! ## Link (R444 to R447) -/

/-- The host-port link record (Table 20.5 kind 0x34). -/
def State.hpLinkRec (s : State) : State :=
  s.report { kind := 0x34, utype := 14, cls := 0, data := s.fld F_HP_STATUS_RATE + s.fld F_HP_STATUS_CXL_NEG * 2 ^ 32 }

/-- PCIE_LINK_UP (R444, R445, R447): rate code 1 to 6, lanes, whether flit mode was agreed, whether the partner accepted
CXL. -/
def execPcieLinkUp (rate width : Nat) (flit cxl : Bool) (s : State) : Res :=
  .next (if s.hostLinkUp || s.ck.perst || s.ck.power != 0 || s.fld F_TOP_BOOT_STATUS_STAGE = 0 || rate = 0 || 6 < rate || !inSet [1, 2, 4, 8, 16] width then s
    else
      let mode := s.fld F_HP_STATUS_CXL == 1
      let s := (s.setFld F_HP_STATUS_RATE rate).setFld F_HP_STATUS_WIDTH width
      let s := s.setFld F_HP_STATUS_FLIT (b2n (rate == 6 || flit))
      let s := (s.setFld F_HP_STATUS_CXL_NEG (b2n (mode && cxl))).setFld F_HP_STATUS_SLOW (b2n (decide (rate ≤ 3)))
      if rate ≤ 3 || (mode && !cxl) then s.hpLinkRec else s)

/-- The link is down. -/
def State.hostLinkOff (s : State) : State :=
  [F_HP_STATUS_RATE, F_HP_STATUS_WIDTH, F_HP_STATUS_FLIT, F_HP_STATUS_CXL_NEG, F_HP_STATUS_SLOW].foldl
    (fun s f => s.setFld f 0) s

/-! ## Functions and identity (R448 to R451, R455) -/

/-- Values of a function's configuration header (Table 14.1). -/
structure ConfigHeader where
  vendor : Nat := 0x1F7A
  device : Nat
  revision : Nat
  classCode : Nat
  header : Nat := 0
  intPin : Nat := 0
  subsystem : Nat
  serial : Option Nat
  deriving DecidableEq, Repr

/-- The configuration header of function `n` (0 the PF): the class code goes by the mode, the serial number is the low 64 bits of the identity digest, on
the PF only. -/
def State.configHeader (s : State) (n : Nat) : ConfigHeader :=
  { device := if n = 0 then 0x4810 else 0x4811, revision := s.fld F_TOP_ID_STEPPING
    classCode := if n = 0 && s.fld F_HP_STATUS_CXL == 1 then 0x050210 else 0x120000
    subsystem := s.bt.subsys, serial := if n = 0 then some (leAt s.identity 0 8) else none }

/-- A capability of Table 14.2. -/
inductive Capability where
  | pciExpress | powerManagement | msix | msi | intx | aer | serialNumber | sriov | ari | acs | secondaryPcie | physical16 | physical32 | physical64
  | laneMargining | dataLinkFeature | flitLogging | device3 | ltr | aspmL1 | aspmL0s | l0p | l1Substates | drs | frs | ide | doe | flexBusPort | cxlDevice
  | registerLocator | ats | pri | pasid | tph | atomicOps | ptm | resizableBar | vfResizableBar | multicast
  deriving DecidableEq, Repr

/-- Function `n` carries a capability (Table 14.2, R450). -/
def State.carriesCap (s : State) (n : Nat) : Capability → Bool
  | .msi | .intx | .aspmL0s | .l0p | .l1Substates | .frs | .ats | .pri | .pasid | .tph | .atomicOps | .ptm | .resizableBar | .vfResizableBar
  | .multicast => false
  | .serialNumber | .ide | .doe | .sriov => n == 0
  | .flexBusPort | .cxlDevice | .registerLocator => n == 0 && s.fld F_HP_STATUS_CXL == 1
  | _ => true

/-- The terms of a capability (Table 14.2, R449, R465). -/
inductive CapTerms where
  | /-- PCI Express: the largest MPS and MRRS in bytes, 10-bit and 14-bit tags, Relaxed Ordering and No Snoop honoured, FLR, the completion timeout ranges
  A to D as a mask. -/
    express (mps mrrs : Nat) (tag10 tag14 ordering flr : Bool) (ranges : Nat)
  | /-- Power Management: D1, D2, D3hot, D3cold, PME from D0, from D3hot, from D3cold. -/
    power (d1 d2 d3hot d3cold pmeD0 pmeHot pmeCold : Bool)
  | /-- MSI-X: vectors. -/
    vectors (n : Nat)
  | /-- SR-IOV: TotalVFs, InitialVFs, NumVFs, First VF Offset, VF Stride. -/
    vfs (total initial num first stride : Nat)
  | /-- ACS: the peer-to-peer controls reported, as a mask. -/
    peer (mask : Nat)
  | /-- Data Link Feature: scaled flow control. -/
    scaled (on : Bool)
  | /-- Readiness: DRS, FRS, Immediate Readiness. -/
    ready (drs frs immediate : Bool)
  | /-- IDE: link streams, selective streams, AES-GCM-256, aggregation, PCRC, Selective IDE for Configuration Requests. -/
    streams (link selective : Nat) (aes256 aggregation pcrc config : Bool)
  | /-- DOE: mailboxes. -/
    mailboxes (n : Nat)
  | /-- Nothing beyond its presence. -/
    bare
  deriving DecidableEq, Repr

/-- What function `n` reports of a capability (Table 14.2, R449, R450, R465); none where it is absent from its lists. -/
def State.capability (s : State) (n : Nat) (c : Capability) : Option CapTerms :=
  if !s.carriesCap n c then none
  else some (match c with
    | .pciExpress => .express 512 4096 true (s.fld F_HP_STATUS_FLIT == 1) true true 15
    | .powerManagement => .power false false true true false false true
    | .msix => .vectors (if n = 0 then 2048 else 32)
    | .sriov => .vfs 63 63 s.ir.numVfs 1 1
    | .acs => .peer 0
    | .dataLinkFeature => .scaled true
    | .drs => .ready true false false
    | .ide => .streams 1 4 true false true true
    | .doe => .mailboxes 1
    | _ => .bare)

/-- The routing ID of VF `n` of a PF (First VF Offset 1, VF Stride 1), and its origin code (R449). -/
def vfRouting (pf n : Nat) : Nat × Nat := (pf + n, 0x80 + n)

/-- A BAR: its size in bytes, whether it is 64-bit, whether it is prefetchable. -/
structure Bar where
  size : Nat
  wide : Bool := true
  prefetch : Bool := false
  deriving DecidableEq, Repr

/-- The BARs of function `n`: every one is 64-bit, BAR4 alone is prefetchable, and it is the PF's, in PCIe mode (Table 14.3, R455). -/
def State.bar (s : State) (n bar : Nat) : Option Bar :=
  if bar = 0 then some { size := 2 ^ 26 } else if bar = 2 then some { size := 2 ^ 28 }
  else if bar = 4 && n == 0 && s.fld F_HP_STATUS_CXL == 0 then some { size := 2 ^ 36, prefetch := true } else none

/-! ## Resets of functions (Table 15.2, R507 to R510) -/

/-- Returns the register fields that satisfy a test (block, offset, instance) to their reset values. -/
def State.clearRegs (s : State) (p : Nat → Nat → Nat → Bool) : State :=
  { s with regs := s.regs.filter (fun r => !p (r.1 / 262144 % 32) (r.1 / 32 % 8192) (r.1 / 8388608)) }

/-- The registers of IR window `f` (VPEND, COAL and SENT are kept per vector). -/
def irOf (f blk off inst : Nat) : Bool :=
  blk == 15 && decide (0x1000 ≤ off) &&
    (if off = 0x1004 || off = 0x1008 || off = 0x100C then inst / 2048 == f else inst == f)

/-- A function's configuration space and MSI-X table return to reset; its tenant binding stays (Table 15.2). -/
def State.clearFn (s : State) (f : Nat) : State :=
  let s := s.setHostFn f { tenant := (s.hostFn f).tenant }
  { s with ir := { s.ir with
      table := s.ir.table.filter (fun p => p.1 / 2048 != f), pba := s.ir.pba.filter (fun k => k / 2048 != f)
      oldest := s.ir.oldest.filter (fun p => p.1 / 2048 != f) } }

/-- FLR of a VF (Table 15.2). -/
def State.vfReset (s : State) (unf : List Nat) (n : Nat) : State :=
  let s := (s.queuesWhere (fun x => x.origin == 0x80 + n)).foldl (fun s q => s.silentReset unf q) s
  (((s.clearFn n).clearRegs (irOf n)).setBank (.vf n) {})

/-- SPDM connections and sessions of bindings end. -/
def State.dropSpdm (s : State) (bs : List Nat) : State :=
  { s with mg := { s.mg with
      spdm := s.mg.spdm.filter (fun p => !inSet bs p.1), sessions := s.mg.sessions.filter (fun x => !inSet bs x.bind) } }

/-- A host-port reset (Table 15.2): the PF, every VF, their queues, IR, apertures, the CXL binding, IDE, SPDM sessions on PCIe
VDM and DOE, the banks of PF and VF ports. The reads that wait have nobody to answer; the writes stand (DESIGN CHOICE, log entry 132). -/
def State.hostReset (s : State) (unf : List Nat) : State :=
  let s := (s.queuesWhere (fun x => x.isBound && !x.isLink)).foldl (fun s q => s.silentReset unf q) s
  let s := (List.range 64).foldl State.clearFn s
  let s := s.clearRegs (fun blk off _ => blk == 15 || (blk == 13 && (decide (0x1000 ≤ off) || off == 0x20 || off == 0x24)))
  let s := s.dropSpdm [0, 64]
  { s with
    ir := { s.ir with numVfs := 0 }, hp := { held := s.hp.held.filter (fun a => a.write.isSome) }
    ports := s.ports.filter (fun p => decide (64 ≤ p.1)) }

/-- PCIE_LINK_DOWN (R507): DL_Down or loss of the PCIe reference. -/
def execPcieLinkDown (unf : List Nat) (s : State) : Res :=
  .next (if s.hostLinkUp then s.hostLinkOff.hostReset unf else s)

/-- HOST_PORT_RESET (R507): a PCIe hot reset; the link trains again. -/
def execHostPortReset (unf : List Nat) (s : State) : Res := .next (s.hostLinkOff.hostReset unf)

/-- PF_FLR (R507): as a host-port reset without retraining the link. -/
def execPfFlr (unf : List Nat) (s : State) : Res := .next (s.hostReset unf)

/-- VF_FLR (R507). -/
def execVfFlr (n : Nat) (unf : List Nat) (s : State) : Res :=
  .next (if 1 ≤ n && decide (n ≤ 63) then s.vfReset unf n else s)

/-- A decoder that can commit: 256 MiB to 1 TiB in multiples of 256 MiB at 1, 2 or 4 ways, with a granularity of 256 B to 16 KiB (R460). -/
def hdmOk (h : Hdm) : Bool :=
  decide (0 < h.size) && decide (h.size ≤ 2 ^ 40) && h.size % 2 ^ 28 == 0 && h.base % 2 ^ 28 == 0 && inSet [1, 2, 4] h.ways &&
    inSet [256, 512, 1024, 2048, 4096, 8192, 16384] h.gran

/-- The bytes of this device in a committed range: its share of the interleave. -/
def hdmWindow (h : Hdm) : Nat := h.size / h.ways

/-- The host commits the HDM decoder of the PF in CXL mode: one that R460 does not admit is refused, which the decoder reports; a decoder
stays as it is while the binding uses it (DESIGN CHOICE, log entry 124). -/
def State.commitHdm (s : State) (h : Hdm) : State :=
  if s.fld F_HP_STATUS_CXL = 0 || s.fld F_HP_CXL_CFG_ENABLE = 1 then s
  else if hdmOk h then { s with hp := { s.hp with hdm := h, hdmErr := false } }
  else { s with hp := { s.hp with hdmErr := true } }

/-- The payload sizes that the PCI Express capability advertises up to `top` (Table 14.2); another value of the field leaves it as it is. -/
def payloadSize (top : Nat) (v : Option Nat) (old : Nat) : Nat :=
  match v with
  | some n => if inSet [128, 256, 512, 1024, 2048, 4096] n && decide (n ≤ top) then n else old
  | none => old

/-- A completion timeout of ranges A to D: 50 µs to 64 s (R453). -/
def timeoutOk (n : Nat) : Bool := decide (50000 ≤ n) && decide (n ≤ 64000000000)

/-- The PCI Express fields of a function after a configuration write (R450, R453, Table 14.14). -/
def HostFn.express (f : HostFn) (c : ConfigWrite) : HostFn :=
  { f with
    mps := payloadSize 512 c.mps f.mps, mrrs := payloadSize 4096 c.mrrs f.mrrs
    cto := match c.cto with
      | some n => if timeoutOk n then n else f.cto
      | none => f.cto }

/-- BUS_MASTER_ENABLE (R452): a function's Bus Master Enable and D-state, with which waiting writes resume; with it the PCI Express fields that
the host sets, and for the PF the commit of its HDM decoder and a write of NumVFs, where clearing VF Enable resets every VF (Table 15.2) and a number
above 63 reads 63. -/
def execBusMasterEnable (fn : Nat) (bme d3 : Bool) (cfg : ConfigWrite) (unf : List Nat) (s : State) : Res :=
  .next (if 64 ≤ fn then s
    else
      let s := s.setHostFn fn { (s.hostFn fn).express cfg with bme := bme, d3 := d3 }
      let s := match if fn = 0 then cfg.hdm else none with
        | some h => s.commitHdm h
        | none => s
      let s := s.sweep State.resumeOut (s.descsWhere (fun x => !(s.queue x.outQ).isLink && x.stage == .wait .linkOut))
      match if fn = 0 then cfg.vfs else none with
      | none => s
      | some n =>
        let s := if n = 0 && s.ir.numVfs ≠ 0 then (List.range' 1 63).foldl (fun s i => s.vfReset unf i) s else s
        { s with ir := { s.ir with numVfs := min 63 n } })

/-! ## Transfers that fail (R453, R454, R466, R759) -/

/-- The bytes of host memory that the execution of a command reads: the data of WRITE and APPEND_KV, the master map of MAP_SYNC, the hash list of
a lookup, the records of a self-test repair, a calibration set, a boot header. -/
def State.hostReads (s : State) (x : Desc) : Nat :=
  let e := x.e
  if (s.queue x.q).isLink then 0
  else if e.opcode = 0x20 || e.opcode = 0x23 then s.pullBytes x
  else if e.opcode = 0x12 then 8 * e.len
  else if e.opcode = 0x30 then (if e.flag 8 then 16 * e.len else 0)
  else if e.opcode = 0x7C then (if e.flag 8 && !e.flag 10 then e.len else 0)
  else if e.opcode = 0x7E then (if e.flag 8 then 0 else e.len)
  else if e.opcode = 0x7F && e.opA = 3 then 256
  else 0

/-- A command of a host-origin queue that executes or waits to return its data. -/
def State.hostBusy (s : State) (x : Desc) : Bool :=
  !(s.queue x.q).isLink && (x.stage = .ready || x.stage = .exec || x.stage = .wait .linkOut)

/-- The transfer of a command ends: E_ABORTED with a DETAIL, begun sectors poisoned. -/
def State.endTransfer (s : State) (d detail : Nat) (unf : List Nat) : State :=
  (s.poisonUnfinished (s.desc d).lineDst unf).finish d .aborted {} detail

/-- HOST_WRITE_FAIL (R759): the port cannot send a write of the command: its IDE stream is Insecure, or the link is down. -/
def execHostWriteFail (d : Nat) (ide : Bool) (unf : List Nat) (s : State) : Res :=
  let x := s.desc d
  let may := if ide then s.hp.ide.any (fun p => p.2 == 2) else !s.hostLinkUp
  .next (if (s.desc? d).isSome && s.hostBusy x && may && !s.noHost x.q then s.endTransfer d (if ide then 0x93 else 0x94) unf else s)

/-- IDE_CHECK_FAIL (R466): the stream is Insecure; commands whose transfers were on it end. -/
def execIdeCheckFail (stream : Nat) (ds unf : List Nat) (s : State) : Res :=
  .next (if 5 ≤ stream || kvGet 0 s.hp.ide stream ≠ 1 then s
    else
      let s := { s with hp := { s.hp with ide := kvPut 0 s.hp.ide stream 2 } }
      let s := s.bump F_HP_IDE_FAIL_IDE
      let s := (ds.filter (fun d => (s.desc? d).isSome && s.hostBusy (s.desc d))).foldl (fun s d => s.endTransfer d 0x93 unf) s
      s.report { kind := 0x36, utype := 14, cls := 2, data := stream })

/-! ## The BAR4 aperture and CXL.mem (R457 to R462) -/

/-- An aperture window is on and its entries are filled. -/
def State.apOn (s : State) (w : Nat) : Bool :=
  s.fld F_HP_APT_CFG_ENABLE w == 1 && s.fld F_HP_APT_CFG_BINDING w == 0

/-- The tenant address of an offset of a window (R457). -/
def State.apAddr (s : State) (w off : Nat) : Nat := s.fld F_HP_APT_BASE_FIRST_TFN w * 65536 + off

/-- BAR4 is there: the link is up in PCIe mode (Table 14.3). -/
def State.bar4 (s : State) (w off n : Nat) : Bool :=
  s.hostLinkUp && s.fld F_HP_STATUS_CXL == 0 && decide (w < 16) && decide (off + n ≤ 2 ^ 32) && decide (0 < n)

/-- A host access past its checks: one that finds its entries starts, any other is refused and answered by `deny`. -/
def State.apRequest (s : State) (a : HeldAccess) (on : Bool) (deny : State → State) : State :=
  match if on then s.apEntries a.tenant a.addr a.len a.write.isSome else none with
  | some e => s.apStart { a with epoch := s.epoch a.tenant, dfns := e.1, metas := e.2 }
  | none => deny s.apRefuse

/-- A write that comes with the poisoned indication is counted (R454). -/
def State.countPoison (s : State) (poison : Bool) : State := if poison then s.bump F_HP_POISON_RX_POISON else s

/-- APERTURE_READ (R457 to R459, R466). -/
def execApertureRead (w off n tag : Nat) (secure : Bool) (s : State) : Res :=
  .next (if !s.bar4 w off n then s
    else if s.ideBlocks secure then (s.bump F_HP_IDE_FAIL_IDE).apDeny false tag n
    else s.apRequest { tenant := s.fld F_HP_APT_CFG_TENANT w, addr := s.apAddr w off, len := n, tag := tag } (s.apOn w)
      (fun s => s.apDeny false tag n))

/-- APERTURE_WRITE (R457 to R459, R466). -/
def execApertureWrite (w off : Nat) (data : List Byte) (poison secure : Bool) (s : State) : Res :=
  .next (if !s.bar4 w off data.length then s
    else if s.ideBlocks secure then s.bump F_HP_IDE_FAIL_IDE
    else (s.countPoison poison).apRequest {
      tenant := s.fld F_HP_APT_CFG_TENANT w, addr := s.apAddr w off, len := data.length, write := some (data, poison) } (s.apOn w) id)

/-- The window offset of a host address: its offset in the committed range without the interleave bits (R461). -/
def hdmOffset (h : Hdm) (a : Nat) : Nat := (a - h.base) / (h.gran * h.ways) * h.gran + (a - h.base) % h.gran

/-- The window offset of the line of a host address. -/
def State.cxlAddr (s : State) (a : Nat) : Nat := hdmOffset s.hp.hdm (a / 64 * 64)

/-- CXL.mem reaches the device (R447). -/
def State.cxlMem (s : State) : Bool := s.hostLinkUp && s.fld F_HP_STATUS_CXL_NEG == 1

/-- The CXL binding is on, its entries are filled, and a host address lies in the committed range. -/
def State.cxlOn (s : State) (a : Nat) : Bool :=
  s.fld F_HP_CXL_CFG_ENABLE == 1 && s.fld F_HP_CXL_STATUS_BINDING == 0 && decide (s.hp.hdm.base ≤ a) &&
    decide (a < s.hp.hdm.base + s.hp.hdm.size)

/-- CXL_MEM_READ (R458, R461, R462, R466): the line at host address `a`. -/
def execCxlMemRead (a tag : Nat) (secure : Bool) (s : State) : Res :=
  .next (if !s.cxlMem then s
    else if s.ideBlocks secure then (s.bump F_HP_IDE_FAIL_IDE).apDeny true tag 64
    else s.apRequest { cxl := true, tenant := s.fld F_HP_CXL_CFG_TENANT, addr := s.cxlAddr a, len := 64, tag := tag } (s.cxlOn a)
      (fun s => s.apDeny true tag 64))

/-- CXL_MEM_WRITE (R458, R462, R466): completed to the host, and discarded where it is refused. -/
def execCxlMemWrite (a tag : Nat) (data : List Byte) (poison secure : Bool) (s : State) : Res :=
  let done (s : State) : State := s.emit (.hostCpl tag true false [])
  .next (if !s.cxlMem || data.length ≠ 64 then s
    else if s.ideBlocks secure then done (s.bump F_HP_IDE_FAIL_IDE)
    else (s.countPoison poison).apRequest {
      cxl := true, tenant := s.fld F_HP_CXL_CFG_TENANT, addr := s.cxlAddr a, len := 64, tag := tag
      write := some (data, poison) } (s.cxlOn a) done)

/-- A port writes a register of the host-port block: the PF and the control firmware only. -/
def State.hpWrite (s : State) (p : Port) (off : Nat) (f : State → State) : State := s.ctlWrite p (bar0 13 off) f

/-- APERTURE_ENABLE (R481). -/
def execApertureEnable (p : Port) (w : Nat) (on : Bool) (s : State) : Res :=
  .next (s.hpWrite p 0x1000 (fun s =>
    let t := s.fld F_HP_APT_CFG_TENANT w
    if 16 ≤ w || s.fld F_HP_STATUS_CXL == 1 then s
    else if !on then (s.setFld F_HP_APT_CFG_ENABLE 0 w).setFld F_HP_APT_CFG_BINDING 0 w
    else if s.fld F_HP_APT_CFG_ENABLE w == 1 then s
    else if t = 0 || s.tenantState t ≠ 1 then s.setFld F_HP_APT_STATUS_LAST 1 w
    else if 16777216 < s.fld F_HP_APT_BASE_FIRST_TFN w + 65536 then s.setFld F_HP_APT_STATUS_LAST 2 w
    else ((s.setFld F_HP_APT_STATUS_LAST 0 w).setFld F_HP_APT_CFG_ENABLE 1 w).setFld F_HP_APT_CFG_BINDING 1 w))

/-- CXL_BINDING_ENABLE (R460, R461, R481): the range is that of the committed decoder. -/
def execCxlBindingEnable (p : Port) (on : Bool) (s : State) : Res :=
  .next (s.hpWrite p 0x20 (fun s =>
    let t := s.fld F_HP_CXL_CFG_TENANT
    if !on then ((s.setFld F_HP_CXL_CFG_ENABLE 0).setFld F_HP_CXL_STATUS_BOUND 0).setFld F_HP_CXL_STATUS_BINDING 0
    else if s.fld F_HP_CXL_CFG_ENABLE == 1 then s
    else if s.fld F_HP_STATUS_CXL == 0 then s.setFld F_HP_CXL_STATUS_LAST 2
    else if t = 0 || s.tenantState t ≠ 1 then s.setFld F_HP_CXL_STATUS_LAST 1
    else ((s.setFld F_HP_CXL_STATUS_LAST 0).setFld F_HP_CXL_CFG_ENABLE 1).setFld F_HP_CXL_STATUS_BINDING 1))

/-- BINDING_FILLED (R481): window 0 to 15, or 16 for the CXL binding. -/
def execBindingFilled (w : Nat) (s : State) : Res :=
  .next (if w < 16 then s.setFld F_HP_APT_CFG_BINDING 0 w
    else if s.fld F_HP_CXL_STATUS_BINDING == 1 then (s.setFld F_HP_CXL_STATUS_BINDING 0).setFld F_HP_CXL_STATUS_BOUND 1
    else s)

end Sys2Proof.Machine
end

