-- ==== Sys2Proof/Machine/Mgmt.lean ====
section
/-!
DEFINITION. The management transports: MCTP control, DOE, SPDM, PLDM for monitoring and firmware update, the CXL mailbox (Host
Port and Management Transports; Root of Trust, Life Cycle and Debug). A command carries the fields of its message that the
spec names; an answer carries its command's code, a completion code and its data, without the headers of the external standards.
-/
namespace Sys2Proof.Machine

/-! ## Bindings (Tables 14.5 and 14.6) -/

/-- Messages of a binding are answered now by the RTP: 0 PCIe VDM in A0 to A2 with the link up, 1 I3C in A0 to S3, 2 + n link n while it is
up, 64 the DOE mailbox, 65 the CXL mailbox in CXL mode. -/
def State.listens (s : State) (b : Nat) : Bool :=
  if !s.rtpUp then false
  else if b = 1 then decide (s.ck.power ≤ 1) || s.se.hold
  else decide (s.ck.power = 0) &&
    (if b = 0 || b = 64 then s.hostLinkUp
    else if b = 65 then s.hostLinkUp && s.fld F_HP_STATUS_CXL == 1
    else if 2 ≤ b && b < 50 then (s.link (b - 2)).isUp
    else false)

/-- A message of a type is answered on a binding (Table 14.6, R469): PLDM on PCIe VDM and I3C only. The DOE mailbox answers SPDM, and
its own discovery and table access, here 0x40 and 0x41; the CXL mailbox no message. -/
def typeOn (ty b : Nat) : Bool :=
  if b < 2 then inSet [0, 1, 5, 6, 0x7E] ty else if b < 50 then inSet [0, 5, 6, 0x7E] ty else b == 64 && inSet [5, 0x40, 0x41] ty

/-- Runs a command of a message type that came on a binding: ignored where nothing listens, dropped and counted where the type is
not answered on an MCTP binding (R469). -/
def State.onMsg (s : State) (ty b : Nat) (f : State → State) : Res :=
  .next (if !s.listens b then s
    else if !typeOn ty b then (if b < 50 then s.bump F_HP_MCTP_DROP_DROP else s)
    else f s)

/-- The opcodes of Table 14.4, as the Command Effects Log lists them. -/
def cxlOpcodes : List Nat := [0x100, 0x101, 0x102, 0x103, 0x300, 0x400, 0x401, 0x4000, 0x4100, 0x4200, 0x4300]

/-- An answer of the mailbox: opcode, return code, payload. -/
def State.cxlReply (s : State) (op code : Nat) (data : List Byte) : State := s.emit (.mgmt 65 op code data)

/-- MCTP_PACKET (R467, R469 to R471, R473): a packet on PCIe VDM or I3C, dropped when it exceeds their transmission unit; a whole message of a type not
answered is dropped. A whole message of the DOE mailbox (64) and a command of the CXL mailbox (65) come this way too, where they are of no row of the
table (log entry 135): the mailbox answers another opcode than those of Table 14.4 Unsupported (R463). -/
def execMctpPacket (b : Nat) (p : List Byte) (s : State) : Res :=
  .next (if !s.listens b then s
    else if b = 64 then (if typeOn (leAt p 0 1 % 128) 64 then s.unknownCmd 64 p else s)
    else if b = 65 then (if inSet cxlOpcodes (leAt p 0 2) then s else s.cxlReply (leAt p 0 2) 3 [])
    else if 2 ≤ b then s
    else if 64 < p.length - 4 then s.mctpDrop b (leAt p 2 1) (leAt p 3 1 % 16)
    else s.mctpPacket b p (fun s m =>
      if typeOn (leAt m 0 1 % 128) b then s.unknownCmd b m else s.bump F_HP_MCTP_DROP_DROP))

/-! ## MCTP control (message type 0) -/

/-- The endpoint ID of a binding; a link has the null EID. -/
def State.eidOf (s : State) (b : Nat) : Nat := if b < 2 then kvGet 0 s.mg.eid b else 0

/-- Changes the management endpoint. -/
def State.onMg (s : State) (f : MgSt → MgSt) : State := { s with mg := f s.mg }

/-- SET_ENDPOINT_ID (Table 14.5): not on a link; EIDs 0 and 0xFF are no addresses. -/
def execSetEndpointId (b eid : Nat) (s : State) : Res :=
  s.onMsg 0 b (fun s =>
    if 2 ≤ b then s.respond b 0 1 5 []
    else if eid = 0 || 255 ≤ eid then s.respond b 0 1 2 []
    else
      let s := s.onMg (fun g => { g with eid := kvPut 0 g.eid b eid, found := g.found || b == 0 })
      s.respond b 0 1 0 [0, BitVec.ofNat 8 eid, 0])

/-- GET_ENDPOINT_ID: the EID of the binding; a simple endpoint. -/
def execGetEndpointId (b : Nat) (s : State) : Res :=
  s.onMsg 0 b (fun s => s.respond b 0 2 0 [BitVec.ofNat 8 (s.eidOf b), 0, 0])

/-- GET_ENDPOINT_UUID. -/
def execGetEndpointUuid (b : Nat) (s : State) : Res :=
  s.onMsg 0 b (fun s => s.respond b 0 3 0 (Config.uuid.take 16))

/-- GET_MCTP_VERSION_SUPPORT: MCTP 1.3 for the base and the control protocol; a type not answered on the binding is not
supported. -/
def execGetMctpVersionSupport (b t : Nat) (s : State) : Res :=
  s.onMsg 0 b (fun s =>
    if t = 0xFF || t = 0 then s.respond b 0 4 0 [1, 0xF1, 0xF3, 0xF1, 0]
    else if typeOn t b then s.respond b 0 4 0 (1 :: leBytes 4 (Config.stdVersion t))
    else s.respond b 0 4 0x80 [])

/-- GET_MESSAGE_TYPE_SUPPORT: the types of Table 14.6 on the binding. -/
def execGetMessageTypeSupport (b : Nat) (s : State) : Res :=
  s.onMsg 0 b (fun s =>
    let l := [0, 1, 5, 6, 0x7E].filter (fun t => typeOn t b)
    s.respond b 0 5 0 (BitVec.ofNat 8 l.length :: l.map (fun (t : Nat) => BitVec.ofNat 8 t)))

/-- GET_VENDOR_DEFINED_MESSAGE_SUPPORT: the one set, PCI vendor 0x1F7A. -/
def execGetVendorDefinedMessageSupport (b sel : Nat) (s : State) : Res :=
  s.onMsg 0 b (fun s => if sel = 0 then s.respond b 0 6 0 [0xFF, 0, 0x1F, 0x7A, 0, 0] else s.respond b 0 6 2 [])

/-- PREPARE_FOR_ENDPOINT_DISCOVERY, on PCIe VDM only: the endpoint counts as not discovered. -/
def execPrepareForEndpointDiscovery (b : Nat) (s : State) : Res :=
  s.onMsg 0 b (fun s =>
    if b ≠ 0 then s.respond b 0 0xB 5 [] else (s.onMg (fun g => { g with found := false })).respond b 0 0xB 0 [])

/-- ENDPOINT_DISCOVERY, on PCIe VDM only: answered while not discovered. -/
def execEndpointDiscovery (b : Nat) (s : State) : Res :=
  s.onMsg 0 b (fun s => if b ≠ 0 then s.respond b 0 0xC 5 [] else if s.mg.found then s else s.respond b 0 0xC 0 [])

/-- DISCOVERY_NOTIFY, on PCIe VDM only. -/
def execDiscoveryNotify (b : Nat) (s : State) : Res :=
  s.onMsg 0 b (fun s => if b ≠ 0 then s.respond b 0 0xD 5 [] else s.respond b 0 0xD 0 [])

/-! ## DOE (R464, R469) -/

/-- The protocols of the DOE mailbox: vendor, protocol. -/
def State.doeProtocols (s : State) : List (Nat × Nat) :=
  [(1, 0), (1, 1), (1, 2)] ++ (if s.fld F_HP_STATUS_CXL = 1 then [(0x1E98, 2)] else [])

/-- DOE_DISCOVERY: the protocol of an index and the next index, 0 at the last. -/
def execDoeDiscovery (i : Nat) (s : State) : Res :=
  s.onMsg 0x40 64 (fun s =>
    let l := s.doeProtocols
    let p := l.getD i (0xFFFF, 0)
    s.respond 64 0x40 0 0 (leBytes 2 p.1 ++ leBytes 1 p.2 ++ leBytes 1 (if i + 1 < l.length then i + 1 else 0)))

/-- CDAT_TABLE_ACCESS (R464): the DSMAS entry of the committed range and four DSLBIS entries: read latency and write latency in ns, read
bandwidth and write bandwidth in MB/s. -/
def execCdatTableAccess (i : Nat) (s : State) : Res :=
  s.onMsg 0x41 64 (fun s =>
    if s.fld F_HP_STATUS_CXL = 0 then s
    else
      let l := [(0, hdmWindow s.hp.hdm), (1, 450), (2, 350), (4, 200000), (5, 200000)]
      match l[i]? with
      | some (k, v) => s.respond 64 0x41 0 0 (leBytes 1 k ++ leBytes 8 v ++ leBytes 2 (if i + 1 < 5 then i + 1 else 0xFFFF))
      | none => s.respond 64 0x41 0 1 [])

/-! ## SPDM (R471, R472, Table 14.7) -/

/-- The connection of a binding. -/
def State.spdm (s : State) (b : Nat) : SpdmConn := kvGet {} s.mg.spdm b

/-- Changes a connection. -/
def State.setSpdm (s : State) (b : Nat) (c : SpdmConn) : State := s.onMg (fun g => { g with spdm := kvPut {} g.spdm b c })

/-- An SPDM answer; one that exceeds 4,096 B is taken in chunks. -/
def State.spdmReply (s : State) (b cmd : Nat) (data : List Byte) : State :=
  if 4096 < data.length then (s.setSpdm b { s.spdm b with chunksOut := data }).respond b 5 cmd 0xF [] else s.respond b 5 cmd 0 data

/-- A request that needs an earlier stage of the connection: otherwise ERROR, unexpected request. -/
def State.spdmAt (b cmd stage : Nat) (f : State → State) (s : State) : Res :=
  s.onMsg 5 b (fun s => if (s.spdm b).stage < stage then s.respond b 5 cmd 4 [] else f s)

/-- GET_VERSION: versions 1.2 and 1.3; the connection begins again. -/
def execGetVersion (b : Nat) (s : State) : Res :=
  s.onMsg 5 b (fun s => (s.setSpdm b { stage := 1 }).respond b 5 0x84 0 [0x12, 0x13])

/-- GET_CAPABILITIES: the request codes supported. -/
def execGetCapabilities (b : Nat) (s : State) : Res :=
  s.spdmAt b 0xE1 1 (fun s => (s.setSpdm b { s.spdm b with stage := max 2 (s.spdm b).stage }).respond b 5 0xE1 0
    ((spdmRequests b).map (fun (c : Nat) => BitVec.ofNat 8 c)))

/-- NEGOTIATE_ALGORITHMS: the requester offers ECDSA P-384, SHA-384, secp384r1 and AES-256-GCM, or there is no agreement. -/
def execNegotiateAlgorithms (b : Nat) (ecdsa sha dhe aead : Bool) (s : State) : Res :=
  s.spdmAt b 0xE3 2 (fun s =>
    if ecdsa && sha && dhe && aead then (s.setSpdm b { s.spdm b with stage := 3 }).respond b 5 0xE3 0 [1, 1, 1, 1]
    else s.respond b 5 0xE3 1 [])

/-- The slot-0 certificate chain, whose Alias certificate the DeviceID key issues at each boot; none in BLANK and SCRAPPED (R527, R528). -/
def State.certs (s : State) : Option (List Byte) :=
  s.classI.map (fun k => Config.certChain k.device k.alia)

/-- A signature of the Alias key (R528). -/
def State.signed (s : State) (f : State → List Byte → State) : State := f s.draw ((Config.signature s.fresh).take 96)

/-- GET_DIGESTS (R528): the SHA-384 digest of the chain of slot 0, the only slot. -/
def execGetDigests (b : Nat) (s : State) : Res :=
  s.spdmAt b 0x81 3 (fun s => match s.certs with
    | some c => s.respond b 5 0x81 0 (1 :: sha384 c)
    | none => s.respond b 5 0x81 0 [0])

/-- GET_CERTIFICATE (R528): a portion of the chain of slot 0. -/
def execGetCertificate (b slot off n : Nat) (s : State) : Res :=
  s.spdmAt b 0x82 3 (fun s => match if slot = 0 then s.certs else none with
    | some c => s.spdmReply b 0x82 ((c.drop off).take n)
    | none => s.respond b 5 0x82 1 [])

/-- CHALLENGE (R528): signed with the Alias key over the requester's nonce. -/
def execChallenge (b slot : Nat) (nonce : List Byte) (s : State) : Res :=
  s.spdmAt b 0x83 3 (fun s => if slot ≠ 0 || s.certs.isNone then s.respond b 5 0x83 1 []
    else s.signed (fun s g => s.respond b 5 0x83 0 (nonce ++ g)))

/-- 48 bytes. -/
def fit48 (b : List Byte) : List Byte := (b ++ List.replicate 48 0).take 48

/-- A measurement block (Table 16.5). Blocks 5 and 6 are read when the request arrives. -/
def State.measurement (s : State) (i : Nat) : List Byte :=
  let slotOf (k : Nat) : Image := (kvGet {} s.se.slots k).image
  let image (x : Image) : List Byte := leBytes 4 x.version ++ leBytes 4 x.svn
  let rtp := slotOf (s.fld F_SE_STATUS_RTP_SLOT)
  let ctl := slotOf (2 + s.fld F_SE_STATUS_CTL_SLOT)
  let f := s.se.fuses
  if i = 2 then fit48 rtp.digest ++ image rtp
  else if i = 3 then fit48 ctl.digest ++ image ctl ++ leBytes 4 s.klibVersion
  else if i = 5 then
    leBytes 4 (s.fld F_SE_STATUS_LC + s.fld F_SE_STATUS_DEBUG * 2 ^ 4 + s.fld F_SE_STATUS_TAMPERED * 2 ^ 6 +
      s.fld F_SE_STATUS_WRAP * 2 ^ 7 + s.fld F_SE_STATUS_RTP_SLOT * 2 ^ 8 + s.fld F_SE_STATUS_CTL_SLOT * 2 ^ 9 +
      s.fld F_SE_STATUS_TRIAL * 2 ^ 10 + s.fld F_SE_STATUS_RTP_ONLY * 2 ^ 11) ++
    leBytes 4 (s.fld F_SE_SVN_RTP + s.fld F_SE_SVN_RTP_EXH * 2 ^ 8 + s.fld F_SE_SVN_CTL * 2 ^ 16 +
      s.fld F_SE_SVN_CTL_EXH * 2 ^ 24)
  else if i = 6 then s.configHash
  else if i = 4 then sha384 s.bt.cal
  else if i = 7 then sha384 (fit48 f.root0 ++ fit48 f.root1 ++ leBytes 1 (b2n (bit f.revoke.read 0)) ++ fit48 f.vendor ++ fit48 f.owner)
  else fit48 Config.romDigest

/-- A measurement block in DMTF measurement form: index, specification, size, value type (the boot ROM immutable, images mutable firmware, the
calibration set and CN_HASH firmware configuration, the others hardware configuration; block 5 a raw bit stream), value (R529; log entry 33). -/
def State.dmtf (s : State) (i : Nat) : List Byte :=
  let v := s.measurement i
  let ty := ([0, 0, 1, 1, 3, 0x82, 3, 2] : List Nat).getD i 0
  leBytes 1 i ++ leBytes 1 1 ++ leBytes 2 (v.length + 3) ++ leBytes 1 ty ++ leBytes 2 v.length ++ v

/-- GET_MEASUREMENTS (R529): the count, one block, or all; signed on request. -/
def execGetMeasurements (b i : Nat) (sign : Bool) (s : State) : Res :=
  s.spdmAt b 0xE0 3 (fun s =>
    if !(decide (i ≤ 7) || i == 255) then s.respond b 5 0xE0 1 []
    else
      let data : List Byte := if i = 0 then [7]
        else if i = 255 then ((List.range' 1 7).map s.dmtf).flatten
        else s.dmtf i
      if sign then
        (if s.certs.isNone then s.respond b 5 0xE0 1 [] else s.signed (fun s g => s.spdmReply b 0xE0 (data ++ g)))
      else s.spdmReply b 0xE0 data)

/-- KEY_EXCHANGE (R472, R528): opens session `id`, or is answered Busy (code 3) when four are open. -/
def execKeyExchange (b id : Nat) (s : State) : Res :=
  s.spdmAt b 0xE4 3 (fun s =>
    if s.certs.isNone || s.mg.sessions.any (fun x => x.bind == b && x.id == id) then s.respond b 5 0xE4 1 []
    else if 4 ≤ s.mg.sessions.length then s.respond b 5 0xE4 3 []
    else
      let s := s.onMg (fun g => { g with sessions := g.sessions ++ [{ bind := b, id := id }] })
      s.signed (fun s g => s.respond b 5 0xE4 0 g))

/-- A session of a binding. -/
def State.spdmSession (s : State) (b id : Nat) (open_ : Bool) : Bool :=
  s.mg.sessions.any (fun x => x.bind == b && x.id == id && x.open_ == open_)

/-- A request inside a session: invalid session (code 2) where there is none. -/
def State.inSession (b cmd id : Nat) (open_ : Bool) (f : State → State) (s : State) : Res :=
  s.onMsg 5 b (fun s => if s.spdmSession b id open_ then f s else s.respond b 5 cmd 2 [])

/-- FINISH: the session is established. -/
def execSpdmFinish (b id : Nat) (s : State) : Res :=
  s.inSession b 0xE5 id false (fun s =>
    (s.onMg (fun g => { g with sessions := g.sessions.map (fun (x : SpdmSession) =>
      if x.bind = b ∧ x.id = id then { x with open_ := true } else x) })).respond b 5 0xE5 0 [])

/-- HEARTBEAT. -/
def execHeartbeat (b id : Nat) (s : State) : Res := s.inSession b 0xE8 id true (fun s => s.respond b 5 0xE8 0 [])

/-- KEY_UPDATE. -/
def execKeyUpdate (b id : Nat) (s : State) : Res := s.inSession b 0xE9 id true (fun s => s.respond b 5 0xE9 0 [])

/-- END_SESSION. -/
def execEndSession (b id : Nat) (s : State) : Res :=
  s.inSession b 0xEC id true (fun s =>
    (s.onMg (fun g => { g with sessions := g.sessions.filter (fun x => !(x.bind == b && x.id == id)) })).respond b 5 0xEC 0 [])

/-- CHUNK_GET: the next 4,096 B at most of a large response. -/
def execChunkGet (b : Nat) (s : State) : Res :=
  s.onMsg 5 b (fun s =>
    let c := s.spdm b
    if c.chunksOut.isEmpty then s.respond b 5 0x86 1 []
    else (s.setSpdm b { c with chunksOut := c.chunksOut.drop 4096 }).respond b 5 0x86 0 (c.chunksOut.take 4096))

/-- IDE_KM (R465): keys of the link stream (0) or of a selective stream (1 to 4), in an established session on DOE. -/
def execIdeKm (b id stream : Nat) (s : State) : Res :=
  s.onMsg 5 b (fun s =>
    if b ≠ 64 then s.respond b 5 0xFE 7 []
    else if !s.spdmSession b id true then s.respond b 5 0xFE 2 []
    else if 5 ≤ stream then s.respond b 5 0xFE 1 []
    else ({ s with hp := { s.hp with ide := kvPut 0 s.hp.ide stream 1 } }).respond b 5 0xFE 0 [])

/-- An algorithm structure of NEGOTIATE_ALGORITHMS of a type offers a bit: the structures are of 4 B. -/
def offersAlg (type bitNo : Nat) : Nat → List Byte → Bool
  | 0, _ => false
  | n + 1, b => (leAt b 0 1 == type && bit (leAt b 2 2) bitNo) || offersAlg type bitNo n (b.drop 4)

/-- Runs a whole SPDM request, its bytes as DSP0274 lays them out (PRESUMED, log entry 33): requests of a session come inside it and not here. -/
def State.runSpdm (s : State) (b : Nat) (m : List Byte) : State :=
  let c := leAt m 1 1
  let run (r : Res) : State := match r with
    | .next t => t
    | _ => s
  if c = 0x84 then run (execGetVersion b s)
  else if c = 0xE1 then run (execGetCapabilities b s)
  else if c = 0xE3 then
    let l := m.drop (32 + 4 * leAt m 28 1 + 4 * leAt m 29 1)
    run (execNegotiateAlgorithms b (bit (leAt m 8 4) 7) (bit (leAt m 12 4) 1) (offersAlg 2 4 (leAt m 2 1) l) (offersAlg 3 1 (leAt m 2 1) l) s)
  else if c = 0x81 then run (execGetDigests b s)
  else if c = 0x82 then run (execGetCertificate b (leAt m 2 1 % 16) (leAt m 4 2) (leAt m 6 2) s)
  else if c = 0x83 then run (execChallenge b (leAt m 2 1) ((m.drop 4).take 32) s)
  else if c = 0xE0 then run (execGetMeasurements b (leAt m 3 1) (bit (leAt m 2 1) 0) s)
  else if c = 0xE4 then run (execKeyExchange b (leAt m 4 2) s)
  else if inSet (spdmRequests b) c then s.respond b 5 c 4 []
  else s.respond b 5 c 7 []

/-- CHUNK_SEND (R471): a chunk of a large request; the last one completes it, and it is answered. -/
def execChunkSend (b : Nat) (last : Bool) (data : List Byte) (s : State) : Res :=
  s.onMsg 5 b (fun s =>
    let c := s.spdm b
    let m := c.chunksIn ++ data
    let s := (s.setSpdm b { c with chunksIn := if last then [] else m }).respond b 5 0x85 0 []
    if last then s.runSpdm b m else s)

/-! ## PLDM base and monitoring (R473, R474) -/

/-- GET_TID. -/
def execGetTid (b : Nat) (s : State) : Res := s.onMsg 1 b (fun s => s.respond b 1 2 0 (leBytes 1 s.mg.tid))

/-- SET_TID: 0 and 0xFF are no terminus IDs. -/
def execSetTid (b tid : Nat) (s : State) : Res :=
  s.onMsg 1 b (fun s =>
    if tid = 0 || 255 ≤ tid then s.respond b 1 1 2 [] else (s.onMg (fun g => { g with tid := tid })).respond b 1 1 0 [])

/-- GET_PLDM_VERSION. -/
def execGetPldmVersion (b t : Nat) (s : State) : Res :=
  s.onMsg 1 b (fun s => if inSet pldmTypes t then s.respond b 1 3 0 (leBytes 4 (Config.stdVersion (0x100 + t))) else s.respond b 1 3 0x83 [])

/-- GET_PLDM_TYPES: a bit per type. -/
def execGetPldmTypes (b : Nat) (s : State) : Res := s.onMsg 1 b (fun s => s.respond b 1 4 0 (leBytes 8 0x25))

/-- GET_PLDM_COMMANDS. -/
def execGetPldmCommands (b t : Nat) (s : State) : Res :=
  s.onMsg 1 b (fun s =>
    if inSet pldmTypes t then s.respond b 1 5 0 ((pldmCommands t).map (fun (c : Nat) => BitVec.ofNat 8 c)) else s.respond b 1 5 0x83 [])

/-- The sensors of populated items (Table 14.10): the thermistors that the calibration set says are fitted, the loops, the stacks, the DIMMs that
training found. -/
def State.populated (s : State) : List Nat :=
  ((List.range 8).filter (fun k => (s.pw.calBoard.therm.getD k (false, 0, 0)).1)).map (fun (k : Nat) => 0x100 + k) ++ (List.range' 0x110 8) ++ (List.range' 0x120 8) ++ (List.range' 0x130 8) ++
  s.stacks.map (fun (i : Nat) => 0x140 + i) ++
  ((List.range 32).filter (fun i => i % 2 < ((s.dram (i / 2)).found.getD []).length)).map (fun (i : Nat) => 0x150 + i) ++ [0x180]

/-- The PDR repository: as it stood when the boot first completed memory training, whatever comes after (R474; log entry 136). -/
def State.sensors (s : State) : List Nat := s.mg.pdr.getD s.populated

/-- The unit of a sensor: 1 °C, 2 V, 3 A, 4 W. -/
def sensorUnit (i : Nat) : Nat :=
  if i / 16 = 0x11 then 2 else if i / 16 = 0x12 then 3 else if i = 0x180 then 4 else 1

/-- GET_PDR_REPOSITORY_INFO: the number of records. -/
def execGetPdrRepositoryInfo (b : Nat) (s : State) : Res :=
  s.onMsg 1 b (fun s => s.respond b 1 0x50 0 (leBytes 4 s.sensors.length))

/-- GET_PDR: the numeric sensor of a record handle (1 the first; 0 asks for the first), and the next handle. -/
def execGetPdr (b h : Nat) (s : State) : Res :=
  s.onMsg 1 b (fun s =>
    let l := s.sensors
    let i := if h = 0 then 0 else h - 1
    match l[i]? with
    | some x => s.respond b 1 0x51 0 (leBytes 4 (if i + 1 < l.length then i + 2 else 0) ++ leBytes 2 x ++ leBytes 1 (sensorUnit x))
    | none => s.respond b 1 0x51 0x82 [])

/-- A sensor's reading; `sample` is what the sensors that no register holds (HBM3E stacks, DIMMs, package power) measure. -/
def State.reading (s : State) (i sample : Nat) : Nat :=
  let k := i % 16
  if i / 16 = 0x10 then s.fld F_PW_T_STATUS_TEMP (48 + k)
  else if i / 16 = 0x11 then s.fld F_PW_L_VOUT_VOUT k
  else if i / 16 = 0x12 then s.fld F_PW_L_IOUT_IOUT k
  else if i / 16 = 0x13 then s.fld F_PW_L_TEMP_HOT k
  else sample

/-- GET_SENSOR_READING (R474): operational state (0 enabled, 4 failed for a thermistor that reads OPEN) and value. -/
def execGetSensorReading (b i sample : Nat) (s : State) : Res :=
  s.onMsg 1 b (fun s =>
    if !inSet s.sensors i then s.respond b 1 0x11 0x80 []
    else
      let op := if i / 16 = 0x10 && s.fld F_PW_T_STATUS_OPEN (48 + i % 16) = 1 then 4 else 0
      s.respond b 1 0x11 0 (leBytes 1 op ++ leBytes 4 (s.reading i sample)))

/-- GET_STATE_SENSOR_READINGS: the repository holds numeric sensors only (R474). -/
def execGetStateSensorReadings (b _i : Nat) (s : State) : Res := s.onMsg 1 b (fun s => s.respond b 1 0x21 0x80 [])

/-- SET_EVENT_RECEIVER: the receiver, or none when events are turned off. -/
def execSetEventReceiver (b eid : Nat) (on : Bool) (s : State) : Res :=
  s.onMsg 1 b (fun s => (s.onMg (fun g => { g with receiver := if on then some (b, eid) else none })).respond b 1 4 0 [])

/-- SENSOR_THRESHOLD_CROSSING (R474): sends PlatformEventMessage to the receiver, or keeps the event, the 64 most recent. -/
def execSensorThresholdCrossing (i st : Nat) (s : State) : Res :=
  .next (if !inSet s.sensors i then s
    else match s.mg.receiver with
      | some (b, eid) => s.sendMsg b true ([1, 0x0A, BitVec.ofNat 8 eid] ++ leBytes 2 i ++ leBytes 1 st)
      | none => s.onMg (fun g => { g with events := (g.events ++ [(i, st)]).drop (g.events.length - 63) }))

/-- POLL_FOR_PLATFORM_EVENT_MESSAGE: the oldest event held. -/
def execPollForPlatformEventMessage (b : Nat) (s : State) : Res :=
  s.onMsg 1 b (fun s => match s.mg.events with
    | [] => s.respond b 1 0xB 0 []
    | (i, st) :: l => (s.onMg (fun g => { g with events := l })).respond b 1 0xB 0 (leBytes 2 i ++ leBytes 1 st))

/-- EVENT_MESSAGE_SUPPORTED: sensor events. -/
def execEventMessageSupported (b : Nat) (s : State) : Res := s.onMsg 1 b (fun s => s.respond b 1 0xC 0 [1, 0])

/-! ## PLDM firmware update (R475, R476, R521, R525) -/

/-- The slot that an update of a component writes: the one not booted; slot A where the boot ROM holds for want of an RTP image. -/
def State.inactive (s : State) (comp : Nat) : Nat :=
  if comp = 1 then (if s.fld F_TOP_BOOT_STATUS_STAGE ≤ 1 then 0 else 1 - s.fld F_SE_STATUS_RTP_SLOT)
  else 3 - s.fld F_SE_STATUS_CTL_SLOT

/-- A slot. -/
def State.slotRec (s : State) (i : Nat) : FwSlot := kvGet {} s.se.slots i

/-- Replaces a slot. -/
def State.setSlotRec (s : State) (i : Nat) (x : FwSlot) : State :=
  s.onSe (fun e => { e with slots := kvPut {} e.slots i x })

/-- The boot ROM holds for want of an RTP image: on I3C it answers firmware update for component 0x0001 alone (R554). -/
def State.romUpdate (s : State) (b : Nat) : Bool := b == 1 && s.ck.power == 0 && s.fld F_TOP_BOOT_STATUS_STAGE == 1

/-- Runs a firmware update command that came on a binding. -/
def State.onUpdate (s : State) (b : Nat) (f : State → State) : Res := if s.romUpdate b then .next (f s) else s.onMsg 1 b f

/-- A component that can be updated now (R475, R554). -/
def State.updatable (s : State) (comp : Nat) : Bool := comp == 1 || (comp == 2 && s.rtpUp)

/-- Discards what an update has written: the slots of its components become INVALID. -/
def State.dropUpdate (s : State) (comps : List Nat) : State :=
  comps.foldl (fun s c => s.setSlotRec (s.inactive c) { s.slotRec (s.inactive c) with st := 4 }) s

/-- Update mode ends without activation. -/
def State.endUpdate (s : State) : State :=
  match s.mg.update with
  | none => s
  | some u =>
    (s.dropUpdate ((if u.comp = 0 then [] else [u.comp]) ++ u.good.map (·.1))).onMg (fun g => { g with update := none })

/-- An update command of an agent: not in update mode (code 0x80) unless the agent holds it. -/
def State.updateCmd (b eid cmd : Nat) (f : State → Update → State) (s : State) : Res :=
  s.onUpdate b (fun s => match s.mg.update with
    | some u =>
      if u.bind = b && u.eid = eid then
        let u := { u with last := s.now }
        f (s.onMg (fun g => { g with update := some u })) u
      else s.respond b 1 cmd 0x80 []
    | none => s.respond b 1 cmd 0x80 [])

/-- QUERY_DEVICE_IDENTIFIERS: PCI vendor and device. -/
def execQueryDeviceIdentifiers (b : Nat) (s : State) : Res :=
  s.onUpdate b (fun s => s.respond b 1 0x501 0 (leBytes 2 0x1F7A ++ leBytes 2 0x4810))

/-- GET_FIRMWARE_PARAMETERS: the running versions of components 0x0001 and 0x0002, and the versions staged in their other slots. -/
def execGetFirmwareParameters (b : Nat) (s : State) : Res :=
  s.onUpdate b (fun s =>
    let staged (c : Nat) : Nat := let x := s.slotRec (s.inactive c); if x.st = 1 then x.image.version else 0
    s.respond b 1 0x502 0 (leBytes 2 1 ++ leBytes 4 (s.fld F_TOP_RTP_VERSION_VERSION) ++ leBytes 4 (staged 1) ++
      leBytes 2 2 ++ leBytes 4 (s.fld F_TOP_FW_VERSION_VERSION) ++ leBytes 4 (staged 2)))

/-- REQUEST_UPDATE (R476, R521): ALREADY_IN_UPDATE_MODE (0x81), UNABLE_TO_INITIATE_UPDATE (0x8A) while a slot is in TRIAL. -/
def execRequestUpdate (b eid : Nat) (s : State) : Res :=
  s.onUpdate b (fun s =>
    if s.mg.update.isSome then s.respond b 1 0x510 0x81 []
    else if (List.range 4).any (fun i => (s.slotRec i).st == 2) then s.respond b 1 0x510 0x8A []
    else (s.onMg (fun g => { g with update := some { bind := b, eid := eid, last := s.now } })).respond b 1 0x510 0 [])

/-- PASS_COMPONENT_TABLE: a component that the device has, or not. -/
def execPassComponentTable (b eid comp : Nat) (s : State) : Res :=
  s.updateCmd b eid 0x513 (fun s _ => s.respond b 1 0x513 0 (leBytes 1 (if s.updatable comp then 0 else 1)))

/-- UPDATE_COMPONENT (R475): the component's inactive slot begins to be written, and is INVALID until its image is activated;
the device asks for the image with RequestFirmwareData. -/
def execUpdateComponent (b eid comp : Nat) (s : State) : Res :=
  s.updateCmd b eid 0x514 (fun s u =>
    if u.comp ≠ 0 then s.respond b 1 0x514 0x84 []
    else if !s.updatable comp then s.respond b 1 0x514 2 []
    else
      let u := { u with comp := comp, sent := false, good := u.good.filter (fun p => p.1 != comp) }
      let s := (s.dropUpdate [comp]).onMg (fun g => { g with update := some u })
      (s.respond b 1 0x514 0 [0]).sendMsg b true [1, 0x15, BitVec.ofNat 8 eid])

/-- TRANSFER_COMPLETE: the component has been transferred, or the transfer failed, which discards it; it waits for a write of the
calibration set that runs (R705). -/
def execTransferComplete (ok : Bool) (s : State) : Res :=
  .next (match s.mg.update with
    | some u =>
      if u.comp = 0 || u.sent || s.fld F_TOP_CAL_STATUS_WRITE == 1 then s
      else
        let u := { u with sent := ok, comp := if ok then u.comp else 0 }
        (s.onMg (fun g => { g with update := some u })).sendMsg u.bind true [1, 0x16, BitVec.ofNat 8 (b2n (!ok))]
    | none => s)

/-- The bytes that an image may take after its header: its slot is 2 MiB or 24 MiB (Table 16.3). -/
def slotSize (comp : Nat) : Nat := if comp = 1 then 2097152 else 25165824

/-- A transferred image by its header (Table 16.4): SVN, VERSION, key index and DIGEST, whether the digest of the image and the signature of the
header verify, under the root key `key` whose hash the index names (R520). -/
def State.imageOf (s : State) (b key : List Byte) : Image :=
  let k := leAt b 0x14 1 % 2
  let digest := (b.drop 0x20).take 48
  { svn := leAt b 0xC 1, version := leAt b 8 4, key := k, digest := digest
    signed := keyIs key (if k = 0 then s.se.fuses.root0 else s.se.fuses.root1) && sha384 ((b.drop 0xB0).take (leAt b 0x10 4)) == digest &&
      ecdsaOk (key.drop 1) (sha384 (b.take 0x50)) ((b.drop 0x50).take 96) }

/-- MAGIC is right, COMPONENT matches the slot, and the image fits it (R520, Table 16.3). -/
def imageFits (comp : Nat) (b : List Byte) : Bool :=
  leAt b 0 4 == 0x4A494D47 && leAt b 4 4 == comp && decide (0xB0 + leAt b 0x10 4 ≤ slotSize comp) && decide (0xB0 + leAt b 0x10 4 ≤ b.length)

/-- Why an image does not verify (R520, R525): 0 it does, 1 security revision, 2 anything else; `fits` says that it fits the
slot of the component. -/
def State.imageFault (s : State) (comp : Nat) (x : Image) (fits : Bool) : Nat :=
  let cnt := if comp = 1 then s.se.fuses.rtpSvn.count else s.se.fuses.ctlSvn.count
  if !fits || !x.signed || (x.key = 0 && bit s.se.fuses.revoke.read 0) then 2
  else if x.svn < cnt || 128 < x.svn then 1 else 0

/-- VERIFY_COMPLETE (R520, R525): the device reports how the transferred image verifies, `image` with its header, under the root key `key`; a refused one leaves its slot INVALID. A verified
image is applied, which ApplyComplete reports. -/
def execVerifyComplete (image key : List Byte) (s : State) : Res :=
  .next (match s.mg.update with
    | some u =>
      if u.comp = 0 || !u.sent then s
      else
        let x := s.imageOf image key
        let bad := s.imageFault u.comp x (imageFits u.comp image)
        let u' := { u with comp := 0, sent := false, good := if bad = 0 then u.good ++ [(u.comp, x)] else u.good }
        let s := (s.onMg (fun g => { g with update := some u' })).sendMsg u.bind true [1, 0x17, BitVec.ofNat 8 bad]
        if bad = 0 then s.sendMsg u.bind true [1, 0x18, 0] else s
    | none => s)

/-- ACTIVATE_FIRMWARE (R475, R521): the slots of the verified components become STAGED; a device reset is required; update mode
ends. Self-contained activation is not permitted (0x8C). -/
def execActivateFirmware (b eid : Nat) (selfContained : Bool) (s : State) : Res :=
  s.updateCmd b eid 0x51A (fun s u =>
    if selfContained then s.respond b 1 0x51A 0x8C []
    else if u.comp ≠ 0 || u.good.isEmpty then s.respond b 1 0x51A 0x84 []
    else
      let s := u.good.foldl (fun s p => s.setSlotRec (s.inactive p.1) { st := 1, image := p.2 }) s
      (s.onMg (fun g => { g with update := none })).respond b 1 0x51A 0 [1])

/-- PLDM_GET_STATUS: 0 idle, 1 learning components, 3 downloading, 4 verifying. -/
def execPldmGetStatus (b : Nat) (s : State) : Res :=
  s.onUpdate b (fun s => s.respond b 1 0x51B 0 (leBytes 1 (match s.mg.update with
    | none => 0
    | some u => if u.comp = 0 then 1 else if u.sent then 4 else 3)))

/-- CANCEL_UPDATE_COMPONENT: the component being written is discarded. -/
def execCancelUpdateComponent (b eid : Nat) (s : State) : Res :=
  s.updateCmd b eid 0x51C (fun s u =>
    if u.comp = 0 then s.respond b 1 0x51C 0x84 []
    else (s.onMg (fun g => { g with update := some { u with comp := 0, sent := false } })).respond b 1 0x51C 0 [])

/-- CANCEL_UPDATE: update mode ends. -/
def execCancelUpdate (b eid : Nat) (s : State) : Res :=
  s.updateCmd b eid 0x51D (fun s _ => s.endUpdate.respond b 1 0x51D 0 [])

/-- UPDATE_IDLE_TIMEOUT (R476): 120 s without an update command. -/
def execUpdateIdleTimeout (s : State) : Res :=
  .next (if s.mg.update.any (fun u => decide (u.last + 120000000000 ≤ s.now)) then s.endUpdate else s)

/-! ## The CXL memory device mailbox (R463, Table 14.4) -/

/-- A mailbox command in CXL mode. -/
def State.cxlCmd (s : State) (f : State → State) : Res := .next (if s.listens 65 then f s else s)

/-- GET_EVENT_RECORDS. -/
def execGetEventRecords (log : Nat) (s : State) : Res :=
  s.cxlCmd (fun s => if 4 ≤ log then s.cxlReply 0x100 2 [] else s.draw.cxlReply 0x100 0 (Config.cxlInfo 0x100 s.fresh))

/-- CLEAR_EVENT_RECORDS. -/
def execClearEventRecords (log : Nat) (s : State) : Res :=
  s.cxlCmd (fun s => s.cxlReply 0x101 (if 4 ≤ log then 2 else 0) [])

/-- GET_EVENT_INTERRUPT_POLICY. -/
def execGetEventInterruptPolicy (s : State) : Res :=
  s.cxlCmd (fun s => s.cxlReply 0x102 0 (leBytes 4 s.mg.cxlPolicy))

/-- SET_EVENT_INTERRUPT_POLICY. -/
def execSetEventInterruptPolicy (v : Nat) (s : State) : Res :=
  s.cxlCmd (fun s => (s.onMg (fun g => { g with cxlPolicy := v % 2 ^ 32 })).cxlReply 0x103 0 [])

/-- GET_SUPPORTED_LOGS: one log. -/
def execGetSupportedLogs (s : State) : Res := s.cxlCmd (fun s => s.cxlReply 0x400 0 (leBytes 2 1))

/-- GET_LOG: the Command Effects Log only (`effects`). -/
def execGetLog (effects : Bool) (s : State) : Res :=
  s.cxlCmd (fun s => if effects then s.cxlReply 0x401 0 ((cxlOpcodes.map (fun o => leBytes 2 o)).flatten) else s.cxlReply 0x401 2 [])

/-- GET_TIMESTAMP: the system counter in ns. -/
def execGetTimestamp (s : State) : Res := s.cxlCmd (fun s => s.cxlReply 0x300 0 (leBytes 8 s.now))

/-- IDENTIFY_MEMORY_DEVICE: total and volatile capacity 1 TiB, persistent none, in multiples of 256 MiB. -/
def execIdentifyMemoryDevice (s : State) : Res :=
  s.cxlCmd (fun s => s.cxlReply 0x4000 0 (leBytes 8 4096 ++ leBytes 8 4096 ++ leBytes 8 0))

/-- GET_PARTITION_INFO: active volatile capacity 1 TiB, active persistent none. -/
def execGetPartitionInfo (s : State) : Res :=
  s.cxlCmd (fun s => s.cxlReply 0x4100 0 (leBytes 8 4096 ++ leBytes 8 0))

/-- GET_HEALTH_INFO. -/
def execGetHealthInfo (s : State) : Res := s.cxlCmd (fun s => s.draw.cxlReply 0x4200 0 (Config.cxlInfo 0x4200 s.fresh))

/-- Poisoned sectors reachable through the CXL binding, as window offsets. -/
def State.cxlPoison (s : State) : List Nat :=
  if s.fld F_HP_CXL_CFG_ENABLE = 0 then []
  else
    let t := s.fld F_HP_CXL_CFG_TENANT
    let es := s.map.mirror.filter (fun p => p.1 / 16777216 == t && p.2.valid && decide (p.1 % 16777216 * 65536 < hdmWindow s.hp.hdm))
    (es.map (fun p => (s.poison.filter (fun c => c / 256 == p.2.dfn)).map
      (fun (c : Nat) => p.1 % 16777216 * 65536 + c % 256 * 256))).flatten

/-- GET_POISON_LIST: the poisoned sectors from a window offset on, within a length. -/
def execGetPoisonList (off n : Nat) (s : State) : Res :=
  s.cxlCmd (fun s =>
    let l := s.cxlPoison.filter (fun o => decide (off ≤ o) && decide (o < off + n))
    s.cxlReply 0x4300 0 (leBytes 2 l.length ++ (l.map (fun o => leBytes 8 o)).flatten))

end Sys2Proof.Machine
end

