-- ==== Sys2Proof/Machine/Calib.lean ====
section
/-!
DEFINITION. CRC-32, the boot header's fields and the calibration set: how each is judged and loaded (Bring-Up and Calibration).
-/
namespace Sys2Proof.Machine

/-! ## CRC-32 (IEEE 802.3) -/

/-- Eight steps of the reflected polynomial. -/
def crcByte (c : Nat) : Nat → Nat
  | 0 => c
  | n + 1 => crcByte (if c % 2 = 1 then (c / 2) ^^^ 0xEDB88320 else c / 2) n

/-- The register after a list of bytes. -/
def crcFold (c : Nat) : List Byte → Nat
  | [] => c
  | b :: l => crcFold (crcByte (c ^^^ b.toNat) 8) l

/-- The CRC-32 of a list of bytes. -/
def crc32 (b : List Byte) : Nat := crcFold 0xFFFFFFFF b ^^^ 0xFFFFFFFF

/-! ## The boot header (R684, R685, R723) -/

/-- The fields of Table 21.1 in bytes 0x000 to 0x0FB: offset, first bit, width, lowest and highest value. -/
def headerFields : List (Nat × Nat × Nat × Nat × Nat) :=
  [(0x008, 0, 1, 0, 1), (0x008, 1, 1, 0, 1), (0x00C, 0, 16, 0, 0xFFFF), (0x00C, 16, 16, 0, 0xFFFF), (0x010, 0, 3, 0, 7),
   (0x010, 8, 1, 0, 1), (0x010, 16, 6, 0, 40), (0x014, 0, 16, 0, 0xFFFF), (0x018, 0, 2, 1, 3), (0x01C, 0, 8, 1, 255)]

/-- Bytes of the first 0xFC that hold a field, MAGIC or VERSION. -/
def headerNamed (i : Nat) : Bool :=
  i < 4 || i == 4 || i == 8 || (decide (0xC ≤ i) && decide (i < 0x10)) || i == 0x10 || i == 0x11 || i == 0x12 || i == 0x14 ||
    i == 0x15 || i == 0x18 || i == 0x1C

/-- The check of R723 that the 256 bytes fail first, with the offset of the failing field: MAGIC and VERSION, CRC, ranges, other
bytes. -/
def headerFault (b : List Byte) : Option Nat :=
  if leAt b 0 4 ≠ 0x4A424346 then some 0
  else if leAt b 4 1 ≠ 1 then some 4
  else if leAt b 0xFC 4 ≠ crc32 (b.take 0xFC) then some 0xFC
  else
    match headerFields.find? (fun f =>
      let v := bits (leAt b f.1 4) f.2.1 f.2.2.1
      decide (v < f.2.2.2.1) || decide (f.2.2.2.2 < v)) with
    | some f => some f.1
    | none => (List.range 0xFC).find? (fun i => !headerNamed i && leAt b i 1 != 0)

/-- Applies a boot header, or the defaults in place of one that fails (R685). -/
def State.applyHeader (s : State) : State :=
  let b := s.bt.header.take 256
  let bad := s.bt.headerCut || (headerFault b).isSome
  let w (off lo wid d : Nat) : Nat := if bad then d else bits (leAt b off 4) lo wid
  { s with bt := { s.bt with
      memStart := w 8 1 1 0, subsys := w 0xC 0 32 0, maxSpeed := w 0x10 0 3 0, tags := w 0x10 8 1 0, permille := w 0x10 16 6 10
      chMode := w 0x14 0 16 0, mapFactor := w 0x18 0 2 2, segPool := w 0x1C 0 8 64 } }.setFld
    F_TOP_BOOT_STATUS_CFG_DEFAULT (b2n bad)

/-- HOST_MODE of the header in flash (R446, R686). -/
def State.hostMode (s : State) : Nat :=
  let b := s.bt.header.take 256
  if s.bt.headerCut || (headerFault b).isSome then 0 else bits (leAt b 8 4) 0 1

/-- The slot-state records with their CRC-32, bytes 0x100 to 0x113 of the header block. -/
def State.slotRecords (s : State) : List Byte :=
  let r := ((List.range 4).map (fun i => leBytes 4 (kvGet {} s.se.slots i).st)).flatten
  r ++ leBytes 4 (crc32 r)

/-! ## The calibration set (R699 to R702) -/

/-- The sections of a set: TYPE, offset and length of the body. -/
def calSections (b : List Byte) (total : Nat) : Nat → Nat → List (Nat × Nat × Nat)
  | 0, _ => []
  | n + 1, off =>
    if total < off + 16 then []
    else (leAt b off 4, off + 16, leAt b (off + 4) 4) :: calSections b total n (off + 16 + leAt b (off + 4) 4)

/-- The body length of a section TYPE. -/
def calBody (t : Nat) : Nat := if t = 1 then 512 else if t = 2 then 2560 else Config.calLength t

/-- Each value is at most the next. -/
def rising : List Nat → Bool
  | a :: b :: l => decide (a ≤ b) && rising (b :: l)
  | _ => true

/-- The section whose fields are out of the ranges of Table 21.6 first. -/
def calRange (c : CalSet) : Option Nat :=
  let within (k v : Nat) : Bool := decide ((loopRange k).1 ≤ v) && decide (v ≤ (loopRange k).2)
  let loopOk (k : Nat) : Bool :=
    let x := c.loops.getD k {}
    within k x.boot && within k x.table && decide (signedOf 12 x.warn < signedOf 12 x.trip) &&
      decide (signedOf 12 x.trip ≤ 1000) && decide (1 ≤ x.tau) && decide (x.tau ≤ 10000) && decide (1 ≤ x.nmin) &&
      decide (x.nmin ≤ (phasesOf k).length) && decide (1 ≤ x.slew) && decide (1 ≤ x.followTime)
  let phaseOk (x : CalPhase) : Bool :=
    decide (10 ≤ x.imonGain) && decide (x.imonGain ≤ 200) && decide (-100 ≤ x.imonOff) && decide (x.imonOff ≤ 100) &&
      decide (16 ≤ x.ilimMax) && decide (x.ilimMax ≤ 960) && decide (x.ilim ≤ x.ilimMax) && decide (10 ≤ x.dcr) &&
      decide (x.dcr ≤ 2000) && x.thermal.all (fun v => decide (0 < v))
  if !(List.range 8).all loopOk then some 1
  else if !((List.range 40).all (fun p => phaseOk (c.phases.getD p {})) &&
      (List.range 8).all (fun k => (phasesOf k).any (fun p => (c.phases.getD p {}).fitted))) then some 2
  else if !(c.dvfs0.all (within 0) && rising (c.dvfs0.reverse) && (c.dvfs1.map (·.1)).all (within 1) && rising (c.dvfs1.map (·.1)) &&
      c.dvfs0.length == 2 && c.dvfs1.length == 14) then some 3
  else if !(c.therm.length == 8 && c.therm.all (fun t => decide (1000 ≤ t.2.1) && decide (t.2.1 ≤ 100000) &&
      decide (1000 ≤ t.2.2) && decide (t.2.2 ≤ 10000))) then some 4
  else if !c.trims.all (fun t => decide (-10 ≤ t) && decide (t ≤ 10)) then some 5
  else none

/-- The first failing check of R700 and its section, (0, 0) for a valid set. -/
def calFault (b : List Byte) : Nat × Nat :=
  let total := leAt b 8 4
  let ss := calSections b total (b.length / 16 + 1) 64
  if leAt b 0 4 ≠ 0x4A43414C || leAt b 4 4 ≠ 1 || leAt b 0x3C 4 ≠ crc32 (b.take 0x3C) || total < 64 || 1048576 < total ||
      b.length < 64 then (1, 0)
  else match (List.range' 1 5).find? (fun t => (ss.filter (fun x => x.1 == t)).length != 1) with
  | some t => (2, t)
  | none =>
    match ss.find? (fun x => x.2.2 != calBody x.1) with
    | some x => (3, x.1)
    | none =>
      match ss.find? (fun x => leAt b (x.2.1 - 8) 4 != crc32 ((b.drop x.2.1).take x.2.2)) with
      | some x => (4, x.1)
      | none =>
        match calRange (Config.calFields b) with
        | some t => (5, t)
        | none => if (ss.map (fun x => x.2.2 + 16)).foldl (· + ·) 64 = total then (0, 0) else (6, 0)

/-- The bytes of a set that its header counts. -/
def calBytes (b : List Byte) : List Byte := b.take (leAt b 8 4)

/-- The nominal values (R701). -/
def calNominal : CalSet :=
  { Config.nominalCal with
    phases := (List.range 40).map (fun p => { (Config.nominalCal.phases.getD p {}) with
      fitted := true, imonGain := 50, ilimMax := 640, ilim := 640, dcr := 200 })
    therm := List.replicate 8 (true, 10000, 3435), limits := [], trims := List.replicate 48 0 }

/-- The set of boot flash as a load finds it: its fault, and its fields or the nominal ones. -/
def State.calRead (s : State) : (Nat × Nat) × CalSet :=
  (s.bt.calBad, if s.bt.calBad.1 = 0 then s.bt.calSet else calNominal)

/-- The calibration region comes to hold bytes. -/
def State.setCal (s : State) (b : List Byte) : State :=
  { s with bt := { s.bt with cal := b, calBad := calFault b, calSet := Config.calFields b } }

/-- Records the outcome of a load (R702). -/
def State.calOutcome (s : State) (f : Nat × Nat) : State :=
  (s.setFld F_TOP_CAL_STATUS_BAD_CHECK f.1).setFld F_TOP_CAL_STATUS_BAD_SECTION f.2

/-- The set in flash differs from the one latched at the last power-up sequence (TOP_CAL_STATUS.PENDING, R702). -/
def State.calPending (s : State) : Bool := crc32 (calBytes s.bt.cal) != s.fld F_TOP_CAL_CRC_CRC

/-- A loop's registers take their calibration entry (R627, R701). -/
def State.loadLoop (s : State) (k : Nat) (x : CalLoop) : State :=
  let s := (List.range 7).foldl (fun s i => s.setFld (F_PW_L_B0_COEF.at i) (x.coef.getD i 0) k) s
  let s := [(F_PW_L_CFG_ORDER, x.order), (F_PW_L_CFG_MINPHASE, x.minphase), (F_PW_L_CFG_NMIN, x.nmin),
    (F_PW_L_SHED_SHED, x.shed), (F_PW_L_DMAX_DMAX, x.dmax), (F_PW_L_FOLLOW_LIMIT, x.followLimit),
    (F_PW_L_FOLLOW_TIME, x.followTime), (F_PW_L_OVUV_OV, x.ov), (F_PW_L_OVUV_UV, x.uv), (F_PW_L_SLEW_SLEW, x.slew),
    (F_PW_L_HOT_WARN, x.warn), (F_PW_L_HOT_TRIP, x.trip)].foldl (fun s f => s.setFld f.1 f.2 k) s
  if 2 ≤ k then s.setFld F_PW_L_VSET_VSET x.table k else s

/-- A phase's registers take their calibration entry (R627, R701). -/
def State.loadPhase (s : State) (p : Nat) (x : CalPhase) : State :=
  let s := (s.setFld F_PW_P_ILIM_ILIM x.ilim (8 + p)).setFld F_PW_P_DCR_CAL x.dcr (8 + p)
  if !x.fitted then s.setFld F_PW_P_STATUS_STATE 3 (8 + p)
  else if s.phaseSt p = 3 then s.setFld F_PW_P_STATUS_STATE 1 (8 + p) else s

/-- CAL_INVALID with its rail limits (R651, R701): half the nominal current limits, at most 70 % headroom, carrels at most at 900 MHz. -/
def State.railLimits (s : State) : State :=
  let s := (s.setFld F_PW_STATUS_CAL_INVALID 1).setFld F_PW_HEADROOM_PCT (min 70 (s.fld F_PW_HEADROOM_PCT))
  let s := s.setFld F_CK_THERM_CAP_MHZ (min 900 (s.fld F_CK_THERM_CAP_MHZ))
  (List.range 40).foldl (fun s p => s.setFld F_PW_P_ILIM_ILIM ((calNominal.phases.getD p {}).ilim / 2) (8 + p)) s

/-- The always-on domain loads sections 1 to 3 (R701), and latches VALID and the set's CRC (R702). -/
def State.loadRails (s : State) : State :=
  let (f, c) := s.calRead
  let bad := f.1 != 0
  let s := { s with pw := { s.pw with cal := c } }
  let s := (List.range 8).foldl (fun s k => s.loadLoop k (c.loops.getD k {})) s
  let s := (List.range 40).foldl (fun s p => s.loadPhase p (c.phases.getD p {})) s
  let s := (s.setFld F_PW_STATUS_CAL_INVALID (b2n bad)).setFld F_TOP_CAL_STATUS_VALID (b2n (!bad))
  let s := (s.setFld F_TOP_CAL_CRC_CRC (crc32 (calBytes s.bt.cal))).calOutcome f
  if bad then s.railLimits else s

/-- The control firmware loads sections 4 and 5 (R701); an invalid set limits the rails. -/
def State.loadBoard (s : State) : State :=
  let (f, c) := s.calRead
  let s := ({ s with pw := { s.pw with calBoard := c } }).calOutcome f
  if f.1 != 0 then s.railLimits else s

end Sys2Proof.Machine
end

