-- ==== Sys2Proof/Machine/Rails.lean ====
section
/-!
DEFINITION. The rail controller: the control sample, supervision, thermal models, sensors, VSET inputs, the commands of loops and
phases, the power-up sequence (The Rail Controller; Bring-Up and Calibration). Measured quantities are operands.
-/
namespace Sys2Proof.Machine

/-! ## Faults and sheds (R638, R647, R648, R653) -/

/-- A warning of the rail controller: its PW_ALERT bit and record (R648). -/
def State.railWarn (s : State) (b inst : Nat) : State :=
  (s.railAlert b).report { kind := 0x3A, utype := 15, inst := inst, cls := 0, data := b }

/-- The thermal cap of the carrels falls to a clock; an action that lowers it is alerted and recorded (R643, R645, R648). -/
def State.lowerCap (s : State) (mhz : Nat) : State :=
  let s' := s.setFld F_CK_THERM_CAP_MHZ mhz
  if mhz < s.fld F_CK_THERM_CAP_MHZ then s'.railWarn 4 1 else s

/-- A phase is shed for a fault (R633, R637): PWM at mid-level and EN low, its diagnosis, alert and record. -/
def State.shedFault (s : State) (p diag : Nat) : State :=
  if 2 ≤ s.phaseSt p then s
  else
    let s := s.setPhase p { tmon := (s.phase p).tmon, dcrs := (s.phase p).dcrs }
    let s := (s.setFld F_PW_P_STATUS_STATE 2 (8 + p)).setFld F_PW_P_STATUS_DIAG diag (8 + p)
    (s.railAlert 1).report { kind := 0x38, utype := 15, inst := 8 + p, cls := 2, data := diag }

/-- What loop 1, 3, 4, 5 or 6 takes with it (Table 19.10). -/
def State.loopLost (s : State) (k : Nat) (unf : List Nat) : State :=
  if k = 1 then
    let s := s.finishAll .aborted 0x41 (s.descsWhere (fun x => x.stage != .done)
      |>.filter (fun d => !(s.carrelCmd d).tasks.isEmpty))
    (List.range 8).foldl (fun s i => s.clusterOut i) s
  else if k = 3 || k = 4 then (List.range 48).foldl (fun s l => s.dropLink l 1 unf) s
  else if k = 5 || k = 6 then
    ((List.range 128).filter (fun i => s.unitState (16 + i) == 2 || s.unitState (16 + i) == 3)).foldl
      (fun s i => s.unitFails (16 + i)) s
  else s

/-- A power-up run ends without its loops: those that are up turn off (R683). -/
def State.runFails (s : State) : State :=
  let up := [1, 4, 3, 5, 6, 7, 2, 0].filter (fun k => s.loopSt k == 1 || s.loopSt k == 2)
  let s := up.foldl (fun s k => s.turnOff k 0) s
  { s with pw := { s.pw with run := none, failed := s.pw.failed + 1 } }

/-- On OV the phases are driven low, which the next update of the models ends (R638); one shed for a fault keeps EN low (R615). -/
def State.driveLow (s : State) (ps : List Nat) : State := ps.foldl (fun s p => s.setPhase p { s.phase p with pwm := 2, en := true }) s

/-- A loop in RAMP or REG faults with a cause (R638, R653): its phases, its record and what the loop takes with it; loops 0, 2 and 7 are
fatal, with action HOLD. During a power-up run the run ends instead (R683). -/
def State.loopFault (s : State) (k cause : Nat) (unf : List Nat) : State :=
  if !(s.loopSt k == 1 || s.loopSt k == 2) then s
  else
    let on := if cause = 1 then s.usable k else []
    let s := ((s.turnOff k 3).setFld F_PW_L_STATUS_CAUSE cause k).railAlert 0
    let r : ErrInfo := { kind := 0x39, utype := 15, inst := k, cls := 2, data := cause }
    let s := if s.pw.run.isSome then (s.report r).runFails
      else if k = 0 || k = 2 || k = 7 then s.reportHold { r with cls := 3 }
      else (s.report r).loopLost k unf
    s.driveLow on

/-! ## Sensing (R616 to R618) -/

/-- The impulse response of the third-order CIC filter with decimation by 16: three boxes of 16 in a row. -/
def cicTap (n : Nat) : Int :=
  ((List.range 16).map (fun i => ((List.range 16).filter (fun j => decide (i + j ≤ n) && decide (n < i + j + 16))).length)).foldl (· + ·) 0

/-- One output of the CIC filter over the modulator's last 46 bits, newest first. -/
def cicOut (b : List Bool) : Int := ((List.range 46).map (fun i => if b.getD i false then cicTap i else -cicTap i)).foldl (· + ·) 0

/-- The filters of a loop take 16 bits of the modulator: one more output of the CIC filter. -/
def Loop.decimate (x : Loop) (b : List Bool) : Loop :=
  let bits := (b.reverse ++ x.bits).take 46
  { x with bits := bits, cic := (cicOut bits :: x.cic).take 31 }

/-- The four outputs of the CIC filter of one control sample: 64 bits of the modulator, oldest first (R616). -/
def Loop.sense (x : Loop) (b : List Bool) : Loop :=
  (List.range 4).foldl (fun x i => x.decimate ((b.drop (16 * i)).take 16)) x

/-- A tap of the 31-tap FIR filter; the linear-phase filter is symmetric (R616, R617). -/
def firTap (minphase : Bool) (i : Nat) : Int := if minphase then Config.firTap true i else Config.firTap false (min i (30 - i))

/-- The control sample (2^-20 V). -/
def Loop.sample (x : Loop) (minphase : Bool) : Int :=
  ((List.range 31).map (fun i => firTap minphase i * x.cic.getD i 0)).foldl (· + ·) 0 / 2 ^ 20

/-- The current of a phase (1/16 A) from its IMON input over REFIN (0.1 mV), by its gain and offset (R613). -/
def CalPhase.current (c : CalPhase) (v : Int) : Int := (v - 10 * c.imonOff) * 16 / (max 1 c.imonGain : Int)

/-- An IMON reading within REFIN ± 1.2 V (R618). -/
def imonOk (v : Int) : Bool := decide (-12000 ≤ v) && decide (v ≤ 12000)

/-! ## The control sample (R621 to R624, R633 to R637) -/

/-- The sum of two numbers m / 2^s, exactly. -/
def Dyad.add (a b : Dyad) : Dyad :=
  if a.s ≤ b.s then { m := a.m * 2 ^ (b.s - a.s) + b.m, s := b.s } else { m := a.m + b.m * 2 ^ (a.s - b.s), s := a.s }

/-- One output of the compensator: products and sums exact, held between 0 and DMAX (R621). `c` are the codes of b0 to b3 and a1 to
a3, `e` the errors (2^-20 V), `u` the last outputs. -/
def compensate (c : List Nat) (e : List Int) (u : List Dyad) (dmax : Nat) : Dyad :=
  let q (i : Nat) : Int := signedOf 24 (c.getD i 0)
  let be : Int := ((List.range 4).map (fun i => q i * e.getD i 0)).foldl (· + ·) 0
  let au := ((List.range 3).map (fun i => let y := u.getD i {}; ({ m := q (4 + i) * y.m, s := 20 + y.s } : Dyad))).foldl Dyad.add {}
  let r := Dyad.add { m := be, s := 40 } au
  if r.m < 0 then {}
  else if (dmax : Int) * 2 ^ r.s < r.m * 8192 then { m := (dmax : Int), s := 13 } else r

/-- A compare value: output plus trim, rounded to 1/8,192. -/
def compareOf (u : Dyad) (trim : Int) : Nat :=
  let n := (u.m * 2 ^ 20 + trim * 2 ^ u.s) * 16384 + 2 ^ (u.s + 20)
  (n / 2 ^ (u.s + 21)).toNat

/-- A setpoint (1/16 mV) one control sample nearer to its target; SLEW counts 0.1 mV/µs, which is as many 1/16 mV a sample (R630). -/
def slewTo (sp tgt rate : Nat) : Nat := if sp < tgt then min tgt (sp + rate) else max tgt (sp - rate)

/-- The active phase count that R624 asks for, from the count now, the loop current (1/16 A) and the usable phases. -/
def phaseCount (now avail nmin shed : Nat) (i : Int) : Nat :=
  let want := min avail (max nmin (if shed = 0 then avail else ceilDiv i.toNat shed))
  if now ≤ want then want
  else if avail < now then avail
  else if decide (i.toNat * 10 < 8 * shed * (now - 1)) then now - 1 else now

/-- A measured phase: current, model current (both 1/16 A), within the converter's window. -/
structure Sensed where
  i : Int := 0
  model : Int := 0
  inWindow : Bool := true
  deriving DecidableEq, Repr

/-- An absolute value. -/
def magnitude (i : Int) : Nat := i.natAbs

/-- A phase fails plausibility in a sample (R633). -/
def State.implausible (s : State) (x : Sensed) : Bool :=
  !x.inWindow || decide (max (4 * s.fld F_PW_PLAUS_ABS * 100) (s.fld F_PW_PLAUS_REL * magnitude x.model) < 100 * magnitude (x.i - x.model))

/-- The supervision counts of an active phase after a sample (R633, R637, R646). -/
def State.supervise (s : State) (p : Nat) (x : Sensed) : State :=
  let y := s.phase p
  let lim := s.fld F_PW_P_ILIM_ILIM (8 + p)
  let bad := s.implausible x
  let up (b : Bool) (n : Nat) : Nat := if b then n + 1 else 0
  let s := (s.setFld F_PW_P_CURRENT_IMEAS (signedCode 16 x.i) (8 + p)).setFld F_PW_P_CURRENT_IMODEL (signedCode 16 x.model) (8 + p)
  s.setPhase p { y with
    squares := y.squares + magnitude x.i * magnitude x.i, samples := y.samples + 1
    fails := up bad y.fails
    wins := up (bad && !x.inWindow) y.wins
    opens := up (bad && x.inWindow && decide (magnitude x.i ≤ 16) && decide ((4 * s.fld F_PW_PLAUS_ABS : Int) < x.model)) y.opens
    oc := up (decide ((5 * lim : Int) < 4 * x.i)) y.oc
    short := up (decide (x.i < -(lim : Int)) || (decide ((lim : Int) < x.i) && y.cmp == 0)) y.short }

/-- The next compare value of an active phase (R621 to R623, R637): the trim integrates its distance from the mean unless the phase is
left out; a current above ILIM holds the duty. -/
def State.loadPwm (s : State) (k p : Nat) (u : Dyad) (mean : Int) (x : Sensed) : State :=
  let y := s.phase p
  let lim : Int := s.fld F_PW_L_DMAX_DMAX k * 16
  let trim := if s.implausible x then y.trim else max (-lim) (min lim (y.trim + Config.trimStep (mean - x.i)))
  let v := compareOf u trim
  let held := decide ((s.fld F_PW_P_ILIM_ILIM (8 + p) : Int) < x.i)
  s.setPhase p { y with trim := trim, cmp := y.nxt, nxt := if held then min v y.nxt else v, pwm := 1, en := true }

/-- The supervision counts of a loop after a sample (R634 to R636, R625, R643). -/
def State.superviseLoop (s : State) (k : Nat) (vout i : Int) (act : List Nat) : State :=
  let x := s.loop k
  let mv (n : Int) : Int := n * 2 ^ 20 / 1000
  let sp : Int := x.sp * 2 ^ 20 / 16000
  let duty := (act.map (fun p => (s.phase p).cmp)).foldl (· + ·) 0
  let n := max 1 act.length
  let model : Int := mv ((duty * s.fld F_PW_VIN_VIN / (8192 * n) : Nat) - i * (s.pw.cal.loops.getD k {}).rPath / 16000)
  let outs := (x.outs ++ [vout]).drop (x.outs.length - 15)
  let avg := outs.foldl (· + ·) 0 / (max 1 outs.length : Int)
  let up (b : Bool) (m : Nat) : Nat := if b then m + 1 else 0
  let off := decide (mv (s.fld F_PW_L_FOLLOW_LIMIT k) < (magnitude (sp - avg) : Int))
  let above := decide ((s.fld F_PW_L_IOUT_CAP k : Int) < i)
  let s := s.setLoop k { x with
    outs := outs
    plaus := up (decide (mv (s.fld F_PW_PLAUS_VABS) < (magnitude (model - vout) : Int))) x.plaus
    ov := up (decide (sp + mv (s.fld F_PW_L_OVUV_OV k) ≤ vout)) x.ov
    uv := up (s.loopSt k == 2 && decide (vout ≤ sp - mv (s.fld F_PW_L_OVUV_UV k))) x.uv
    follow := if off then x.follow.or (some s.now) else none
    above := if above then x.above.or (some s.now) else none }
  if above && k = 1 then s.lowerCap 600 else s

/-- The phases of a loop take the count that R624 asks for, ascending; those over it are shed for load and keep EN high. -/
def State.spread (s : State) (k n : Nat) : State :=
  let us := s.usable k
  let s := (us.take n).foldl (fun s p => s.setFld F_PW_P_STATUS_STATE 0 (8 + p)) s
  let s := (us.drop n).foldl (fun s p =>
    (s.setFld F_PW_P_STATUS_STATE 1 (8 + p)).setPhase p { (s.phase p) with pwm := 0, en := true, cmp := 0, nxt := 0, fails := 0, wins := 0, opens := 0, oc := 0, short := 0 }) s
  s.setFld F_PW_L_STATUS_ACTIVE (min n us.length) k

/-- What a control sample finds of a phase: its current, and the model's by its duty, VIN, the output and its DCR estimate (R618, R633). -/
def State.sensed (s : State) (p : Nat) (vout v : Int) : Sensed :=
  { i := (s.pw.cal.phases.getD p {}).current v, inWindow := imonOk v
    model := Config.phaseModel (s.phase p).cmp (s.fld F_PW_VIN_VIN) vout (s.fld F_PW_P_DCR_DCR (8 + p)) (signedOf 12 (s.fld F_PW_P_TEMP_TL (8 + p))) }

/-- The loop with the 64 bits of a control sample filtered, and the sample. -/
def State.senseLoop (s : State) (k : Nat) (b : List Bool) : State × Int :=
  let x := (s.loop k).sense b
  (s.setLoop k x, x.sample (s.fld F_PW_L_CFG_MINPHASE k == 1))

/-- CONTROL_SAMPLE (R616 to R618, R621 to R624, R633 to R637): 64 bits of the loop's modulator, oldest first, and the IMON readings of its phases
(0.1 mV over REFIN) in order. -/
def execControlSample (k : Nat) (b : List Bool) (ph : List Int) (s : State) : Res :=
  .next (if 8 ≤ k then s
    else
      let (s, vout) := s.senseLoop k b
      let s := s.setFld F_PW_L_VOUT_VOUT (clamp 0 8191 (vout * 4000 / 2 ^ 20).toNat) k
      if !(s.loopSt k == 1 || s.loopSt k == 2) then s
      else
        let s0 := s
        let at_ (p : Nat) : Sensed := s0.sensed p vout (ph.getD (p - (phasesOf k).headD 0) 0)
        let x := s.loop k
        let rate := if x.bootRamp then 20 else max 1 (s.fld F_PW_L_SLEW_SLEW k)
        let sp := slewTo x.sp (4 * s.target k) rate
        let e := ((sp : Int) * 2 ^ 20 / 16000 - vout) :: x.e.take 3
        let coef := (List.range 7).map (fun i => s.fld (F_PW_L_B0_COEF.at i) k)
        let u := compensate coef e x.u (s.fld F_PW_L_DMAX_DMAX k)
        let s := (s.setLoop k { x with sp := sp, e := e.take 3, u := u :: x.u.take 2, held := s.target k }).setFld F_PW_L_VOUT_VCMD (sp / 4) k
        let act := (s.usable k).filter (fun p => s.phaseSt p == 0)
        let s := act.foldl (fun s p => s.supervise p (at_ p)) s
        let good := act.filter (fun p => !s.implausible (at_ p))
        let mean := (good.map (fun p => (at_ p).i)).foldl (· + ·) 0 / (max 1 good.length : Int)
        let s := act.foldl (fun s p => s.loadPwm k p u mean (at_ p)) s
        let i := (act.map (fun p => (at_ p).i)).foldl (· + ·) 0
        let s := (s.setFld F_PW_L_IOUT_IOUT (signedCode 16 i) k).superviseLoop k vout i act
        s.spread k (phaseCount act.length (s.usable k).length (s.fld F_PW_L_CFG_NMIN k) (s.fld F_PW_L_SHED_SHED k) i))

/-- PHASE_SHED (R633, R646): eight failing samples in a row. -/
def execPhaseShed (p : Nat) (s : State) : Res :=
  let y := s.phase p
  .next (if 40 ≤ p || y.fails < 8 then s
    else s.shedFault p (if 8 ≤ y.wins then 1 else if 8 ≤ y.opens then 2 else 3))

/-- STAGE_FAULT (R637, R646): FAULT_N low (`low`), or two samples of overcurrent or of a short. -/
def execStageFault (p : Nat) (low : Bool) (s : State) : Res :=
  let y := s.phase p
  .next (if 40 ≤ p then s
    else if low then s.shedFault p 5 else if 2 ≤ y.short then s.shedFault p 4 else if 2 ≤ y.oc then s.shedFault p 6 else s)

/-- PLAUS_LOOP (R634). -/
def execPlausLoop (k : Nat) (unf : List Nat) (s : State) : Res :=
  .next (if k < 8 && decide (8 ≤ (s.loop k).plaus) then s.loopFault k 4 unf else s)

/-- FOLLOW (R635): the following error has stayed beyond LIMIT for TIME. -/
def execFollow (k : Nat) (unf : List Nat) (s : State) : Res :=
  .next (if k < 8 && (s.loop k).follow.any (fun t => decide (t + 1000 * s.fld F_PW_L_FOLLOW_TIME k ≤ s.now)) then s.loopFault k 3 unf else s)

/-- OV_UV (R636): two samples; of two causes the lower code. -/
def execOvUv (k : Nat) (unf : List Nat) (s : State) : Res :=
  let x := s.loop k
  .next (if 8 ≤ k then s else if 2 ≤ x.ov then s.loopFault k 1 unf else if 2 ≤ x.uv then s.loopFault k 2 unf else s)

/-- CAPACITY (R643): 100 µs above capacity. -/
def execCapacity (k : Nat) (unf : List Nat) (s : State) : Res :=
  .next (if k < 8 && (s.loop k).above.any (fun t => decide (t + 100000 ≤ s.now)) then s.loopFault k 5 unf else s)

/-! ## Thermal models and the clock cap (R639 to R645) -/

/-- The board temperature of a loop's models (R639, R640, R737): 85 °C for a thermistor that has been open for 1 s or is not
fitted. -/
def State.boardTemp (s : State) (k : Nat) : Int :=
  let t := s.fld F_PW_L_CFG_THERM k
  if inSet s.pw.subst t || !((s.pw.calBoard.therm.getD t (false, 0, 0)).1) then 680
  else signedOf 12 (s.fld F_PW_T_STATUS_TEMP (48 + t))

/-- The stage temperature used for limits (R639). -/
def State.stageTemp (s : State) (p : Nat) : Int :=
  let ts := signedOf 12 (s.fld F_PW_P_TEMP_TS (8 + p))
  if s.fld F_PW_P_STATUS_TMON_OPEN (8 + p) = 1 then ts else max ts (s.phase p).tmon

/-- The power of node S in µW at a current (1/16 A): k0 + k1·|I| + k2·I² (R639). -/
def CalPhase.powerS (c : CalPhase) (i : Int) : Int :=
  let n : Int := magnitude i
  (256 * (c.k.getD 0 0 : Int) + 16 * (c.k.getD 1 0 : Int) * n + (c.k.getD 2 0 : Int) * n * n) / 256

/-- The power of node L in µW at a mean square current (1/256 A²) and a temperature (1/8 °C): I²·DCR25·(1 + 0.00393·(T − 25)) (R639). -/
def CalPhase.powerL (c : CalPhase) (sq : Nat) (t : Int) : Int := (sq : Int) * c.dcr * (800000 + 393 * (t - 200)) / (256 * 800000)

/-- With node S at the stage limit of 125 °C, a current lets node L cool as much as it heats, or more: node S settles at the limit or below it (R639,
R642). `tb` is T_b in 1/8 °C; R_s, R_l and R_sl are in 1/8 °C per W. -/
def CalPhase.settles (c : CalPhase) (tb : Int) (i : Nat) : Bool :=
  let r (j : Nat) : Int := max 1 (c.thermal.getD j 1 : Int)
  let x := 1000 - tb
  let y := x - r 4 * (r 1 * c.powerS i - 1000000 * x) / (1000000 * r 1)
  decide (c.powerL (i * i) (tb + y) * r 3 * r 4 ≤ 1000000 * (y * r 4 + (y - x) * r 3))

/-- The largest current (1/16 A) below 2^n above `a` that settles, by halving. -/
def CalPhase.largest (c : CalPhase) (tb : Int) : Nat → Nat → Nat
  | 0, a => a
  | n + 1, a => c.largest tb n (if c.settles tb (a + 2 ^ n) then a + 2 ^ n else a)

/-- I_therm: the current at which node S settles at 125 °C with the present T_b (R642). -/
def State.thermCurrent (s : State) (p : Nat) : Nat :=
  (s.pw.cal.phases.getD p {}).largest (s.boardTemp (loopOf p)) 12 0

/-- A loop's capacity (R642) and the clock cap of loop 1 when its current exceeds it (R643). -/
def State.heatLoop (s : State) (k : Nat) : State :=
  let cap := ((s.usable k).map (fun p => min (s.fld F_PW_P_ILIM_ILIM (8 + p)) (s.thermCurrent p))).foldl (· + ·) 0
  let s := s.setFld F_PW_L_IOUT_CAP (min cap 65535) k
  let above := decide ((cap : Int) < signedOf 16 (s.fld F_PW_L_IOUT_IOUT k))
  let x := s.loop k
  let s := s.setLoop k { x with above := if above then x.above.or (some s.now) else none }
  if above && k = 1 then s.lowerCap 600 else s

/-- The two nodes of a phase 10 µs on (R639): its powers by its current and by the mean square of the currents since the last update. -/
def State.nodesOf (s : State) (p : Nat) : Int × Int :=
  let c := s.pw.cal.phases.getD p {}
  let y := s.phase p
  let tl := signedOf 12 (s.fld F_PW_P_TEMP_TL (8 + p))
  Config.nodeStep c (signedOf 12 (s.fld F_PW_P_TEMP_TS (8 + p))) tl (s.boardTemp (loopOf p)) (c.powerS (signedOf 16 (s.fld F_PW_P_CURRENT_IMEAS (8 + p))))
    (c.powerL (y.squares / max 1 y.samples) tl)

/-- The hotspot model of a loop 10 µs on (R641): its power is the output times the loop current. -/
def State.hotOf (s : State) (k : Nat) : Int :=
  Config.hotStep (s.pw.cal.loops.getD k {}) (signedOf 12 (s.fld F_PW_L_TEMP_HOT k)) (s.boardTemp k)
    ((s.fld F_PW_L_VOUT_VOUT k : Int) * signedOf 16 (s.fld F_PW_L_IOUT_IOUT k) / 64)

/-- A phase at an update of the models: node temperatures, a new sum of squares; one that OV drove low goes to mid-level (R638). -/
def State.heatPhase (s : State) (p : Nat) : State :=
  let n := s.nodesOf p
  let y := s.phase p
  let low := y.pwm == 2
  let s := s.setPhase p { y with squares := 0, samples := 0, pwm := if low then 0 else y.pwm, en := !low && y.en }
  (s.setFld F_PW_P_TEMP_TS (signedCode 12 n.1) (8 + p)).setFld F_PW_P_TEMP_TL (signedCode 12 n.2) (8 + p)

/-- LOAD_MODEL_UPDATE (R638 to R643, R645): every 10 µs. A hotspot model at TRIP faults its loop. -/
def execLoadModelUpdate (unf : List Nat) (s : State) : Res :=
  let s := (List.range 40).foldl State.heatPhase s
  let s := (List.range 8).foldl (fun s k => (s.setFld F_PW_L_TEMP_HOT (signedCode 12 (s.hotOf k)) k).heatLoop k) s
  .next ((List.range 8).foldl (fun s k =>
    if signedOf 12 (s.fld F_PW_L_HOT_TRIP k) ≤ signedOf 12 (s.fld F_PW_L_TEMP_HOT k) then s.loopFault k 6 unf else s) s)

/-- THERM_CAP_STEP (R645, R651): down 50 MHz while hot, up 50 MHz once every value is 5 °C below its threshold. -/
def execThermCapStep (s : State) : Res :=
  let cap := s.fld F_CK_THERM_CAP_MHZ
  let hot := signedOf 12 (s.fld F_PW_L_TEMP_HOT 1)
  let warn := signedOf 12 (s.fld F_PW_L_HOT_WARN 1)
  let stages := (phasesOf 1).map s.stageTemp
  .next (if decide (warn ≤ hot) || stages.any (fun t => decide (920 ≤ t)) then
      (s.lowerCap (max 600 (cap - 50))).railAlert 4
    else if decide (hot + 40 ≤ warn) && stages.all (fun t => decide (t + 40 ≤ 920)) then
      s.setFld F_CK_THERM_CAP_MHZ (min (if s.fld F_PW_STATUS_CAL_INVALID = 1 then 900 else 1250) (cap + 50))
    else s)

/-! ## Sensors (R619, R620, R640) -/

/-- TMON_READ (R619): a stage's TMON input in mV. -/
def execTmonRead (p mv : Nat) (s : State) : Res :=
  .next (if 40 ≤ p then s
    else
      let c := s.pw.cal.phases.getD p {}
      let open_ := decide (mv < 200) || decide (2000 < mv)
      let t : Int := ((mv : Int) - c.tmonOff) * 80 / (max 1 c.tmonGain : Int)
      (s.setPhase p { (s.phase p) with tmon := if open_ then (s.phase p).tmon else t }).setFld F_PW_P_STATUS_TMON_OPEN (b2n open_) (8 + p))

/-- VIN_READ (R619, R735): ten times the pin voltage in mV. -/
def execVinRead (mv : Nat) (s : State) : Res := .next (s.setFld F_PW_VIN_VIN (min 65535 (10 * mv)))

/-- THERMISTOR_CONVERSION (R620, R736, R737): the node voltage and its rise under the open-detect pulse, in µV. -/
def execThermistorConversion (t uv rise : Nat) (s : State) : Res :=
  let c := s.pw.calBoard.therm.getD t (false, 0, 0)
  let i := 48 + t
  .next (if 8 ≤ t then s
    else if !c.1 then ((s.setFld F_PW_T_STATUS_TEMP 0 i).setFld F_PW_T_STATUS_OPEN 0 i).setFld F_PW_T_STATUS_STALE 0 i
    else if 15 * c.2.1 < 2 * rise || uv < 12000 then
      let was := s.fld F_PW_T_STATUS_OPEN i = 1
      let s := (s.setFld F_PW_T_STATUS_OPEN 1 i).setFld F_PW_T_STATUS_STALE 1 i
      if was then s
      else ({ s with pw := { s.pw with opened := kvInsert s.pw.opened t s.now } }).railWarn 5 i
    else
      let r := c.2.1 * uv / (1200000 - uv)
      let s := (s.setFld F_PW_T_STATUS_OPEN 0 i).setFld F_PW_T_STATUS_STALE 0 i
      let s := { s with pw := { s.pw with opened := kvErase s.pw.opened t, subst := setErase s.pw.subst t } }
      s.setFld F_PW_T_STATUS_TEMP (signedCode 12 (Config.thermTemp c.2.1 c.2.2 r)) i)

/-- THERMISTOR_OPEN_TIMEOUT (R640): open for 1 s. -/
def execThermistorOpenTimeout (t : Nat) (s : State) : Res :=
  .next (if t < 8 && s.fld F_PW_T_STATUS_OPEN (48 + t) = 1 && decide (kvGet 0 s.pw.opened t + 1000000000 ≤ s.now) then
      { s with pw := { s.pw with subst := setInsert s.pw.subst t } }
    else s)

/-! ## VSET inputs (R631, R632) -/

/-- The loops whose source is a VSET input. -/
def State.vsetLoops (s : State) (i : Nat) : List Nat :=
  (List.range 8).filter (fun k => s.fld F_PW_L_CFG_SRC k == 1 && s.fld F_PW_L_CFG_VSEL k == i)

/-- VSET_INVALID (R632): the loops keep their last valid setpoint. -/
def execVsetInvalid (i : Nat) (s : State) : Res :=
  let x := kvGet {} s.pw.vset i
  .next (if 4 ≤ i || !x.valid then s
    else
      let s := { s with pw := { s.pw with vset := kvPut {} s.pw.vset i { x with valid := false } } }
      (s.vsetLoops i).foldl (fun s k => (s.setFld F_PW_L_STATUS_VSET_VALID 0 k).railWarn 3 k) s)

/-- The duty of four periods of a VSET input in 1/8,192; none where their mean frequency is not within 20 to 200 kHz, or one has a pulse or a gap
shorter than 100 ns (R631). A period is its length and its high time in ns. -/
def vsetDuty (ps : List (Nat × Nat)) : Option Nat :=
  let t := (ps.map (·.1)).foldl (· + ·) 0
  if ps.length = 4 && decide (20000 ≤ t) && decide (t ≤ 200000) && ps.all (fun p => decide (100 ≤ p.2) && decide (p.2 + 100 ≤ p.1)) then
    some ((ps.map (·.2)).foldl (· + ·) 0 * 8192 / t) else none

/-- VSET_PWM_VALID (R631): four good periods; each below 10 % or above 90 % is counted. -/
def execVsetPwmValid (i : Nat) (ps : List (Nat × Nat)) (s : State) : Res :=
  .next (match if i < 4 then vsetDuty ps else none with
    | none => s
    | some duty =>
      let s := { s with pw := { s.pw with vset := kvPut {} s.pw.vset i { valid := true, duty := duty } } }
      let s := s.bump F_PW_VSET_CLAMP_CLAMP (ps.filter (fun p => decide (p.2 * 10 < p.1) || decide (9 * p.1 < p.2 * 10))).length
      (s.vsetLoops i).foldl (fun s k =>
        (s.setFld F_PW_L_STATUS_VSET_VALID 1 k).setLoop k { (s.loop k) with held := vsetMap k duty }) s)

/-! ## Diagnosis warnings (R646) -/

/-- Sets a warning bit of a phase; one that sets is alerted and recorded. -/
def State.diagWarn (s : State) (f : Fld) (p : Nat) (b : Bool) : State :=
  let was := s.fld f (8 + p) = 1
  let s := s.setFld f (b2n b) (8 + p)
  if b && !was then s.railWarn 2 (8 + p) else s

/-- A measured DCR (µΩ) corrected to 25 °C by the temperature of its node L (R646). -/
def dcrAt25 (dcr : Nat) (t : Int) : Nat := ((dcr : Int) * 800000 / (max 1 (800000 + 393 * (t - 200)))).toNat

/-- DCR_MEASURE (R646): a measurement in µΩ at steady load; the estimate is the mean of the last 64 at 25 °C, judged once there are 64. -/
def execDcrMeasure (p dcr : Nat) (s : State) : Res :=
  let l := (dcrAt25 dcr (signedOf 12 (s.fld F_PW_P_TEMP_TL (8 + p))) :: (s.phase p).dcrs).take 64
  let est := l.foldl (· + ·) 0 / l.length
  let cal := s.fld F_PW_P_DCR_CAL (8 + p)
  let far := if est < cal then cal - est else est - cal
  .next (if 40 ≤ p then s
    else
      let s := (s.setPhase p { s.phase p with dcrs := l }).setFld F_PW_P_DCR_DCR (min est 65535) (8 + p)
      if l.length < 64 then s else s.diagWarn F_PW_P_STATUS_DCR_WARN p (decide (s.fld F_PW_DIAG_DCR * cal < 100 * far)))

/-- GAIN_WARN (R646): the trim has exceeded GAIN percent of u for 1 s. -/
def execGainWarn (p : Nat) (s : State) : Res :=
  let u := ((s.loop (loopOf p)).u.headD {})
  let above := decide ((s.fld F_PW_DIAG_GAIN : Int) * u.m * 2 ^ 20 < 100 * (magnitude (s.phase p).trim : Int) * 2 ^ u.s)
  .next (if p < 40 && s.phaseSt p == 0 && above then s.diagWarn F_PW_P_STATUS_GAIN_WARN p true else s)

/-! ## Commands of loops and phases (R625 to R632, R647) -/

/-- A write of a rail-controller register: the PF, the control firmware and the BMC port. -/
def State.railWrite (s : State) (p : Port) (off : Nat) (f : State → State) : State :=
  let s := s.dropStage p
  if !s.answers p (bar0 19 off) then s else if pfOrFw p || p == .bmc then f s else s.badAccess p (bar0 19 off)

/-- PW_L_STATUS.LAST. -/
def State.loopLast (s : State) (k v : Nat) : State := s.setFld F_PW_L_STATUS_LAST v k

/-- A loop begins to ramp from its measured output (0.25 mV); reinstated phases found bad are shed again (R630, R647). -/
def State.startLoop (s : State) (k vout : Nat) (boot : Bool) (bad : List (Nat × Nat)) : State :=
  let s := (phasesOf k).foldl (fun s p =>
    let y := s.phase p
    let s := s.setPhase p { y with back := false }
    match if y.back then bad.find? (fun b => b.1 == p) else none with
    | some b => s.shedFault p b.2
    | none => s) s
  let x := s.loop k
  let s := s.setLoop k { sp := 4 * vout, bootRamp := boot, held := x.held, bits := x.bits, cic := x.cic }
  let s := ((s.setFld F_PW_L_STATUS_STATE 1 k).setFld F_PW_L_STATUS_CAUSE 0 k).setFld F_PW_L_VOUT_VCMD vout k
  s.spread k (min (s.usable k).length (s.fld F_PW_L_CFG_NMIN k))

/-- START (R626, R630, R632). -/
def execLoopStart (p : Port) (k vout : Nat) (bad : List (Nat × Nat)) (s : State) : Res :=
  .next (s.railWrite p 0x1008 (fun s =>
    if 8 ≤ k then s
    else if s.loopSt k ≠ 0 then s.loopLast k 1
    else if s.fld F_PW_L_CFG_ORDER k = 0 && (s.fld (F_PW_L_B0_COEF.at 3) k != 0 || s.fld (F_PW_L_B0_COEF.at 6) k != 0) then
      s.loopLast k 3
    else if s.fld F_PW_L_CFG_SRC k = 1 && !(kvGet {} s.pw.vset (s.fld F_PW_L_CFG_VSEL k)).valid then s.loopLast k 4
    else (s.startLoop k vout false bad).loopLast k 0))

/-- A loop that its consumers keep on (R628). -/
def State.loopInUse (s : State) (k : Nat) : Bool :=
  if k = 1 then (List.range 8).any (fun i => (s.cluster i).st != 4)
  else if k = 3 || k = 4 then (List.range 48).any (fun l => (s.link l).st != .disabled)
  else if k = 5 || k = 6 then s.fld F_HB_STATUS_SET != 0
  else false

/-- STOP (R627, R628). -/
def execLoopStop (p : Port) (k : Nat) (s : State) : Res :=
  .next (s.railWrite p 0x1008 (fun s =>
    if 8 ≤ k then s
    else if k = 0 || k = 2 || k = 7 || !(s.loopSt k == 1 || s.loopSt k == 2) then s.loopLast k 1
    else if s.loopInUse k then s.loopLast k 2
    else (s.turnOff k 0).loopLast k 0))

/-- CLEAR (R625). -/
def execLoopClear (p : Port) (k : Nat) (s : State) : Res :=
  .next (s.railWrite p 0x1008 (fun s =>
    if 8 ≤ k then s else if s.loopSt k = 3 then (s.turnOff k 0).loopLast k 0 else s.loopLast k 1))

/-- REINSTATE (R647): acts only while the loop is OFF. -/
def execReinstate (p : Port) (ph : Nat) (s : State) : Res :=
  .next (s.railWrite p 0x1014 (fun s =>
    if 40 ≤ ph || s.loopSt (loopOf ph) ≠ 0 || s.phaseSt ph ≠ 2 then s
    else ((s.setFld F_PW_P_STATUS_STATE 1 (8 + ph)).setFld F_PW_P_STATUS_DIAG 0 (8 + ph)).setPhase ph { (s.phase ph) with back := true }))

/-! ## The power-up sequence (R680 to R683) -/

/-- The order in which loops come up. -/
def powerOrder : List Nat := [0, 2, 7, 6, 5, 3, 4, 1]

/-- A run starts: the calibration set is read and judged, and the first loop ramps from its measured output. -/
def State.startRun (s : State) (vouts : List Nat) : State :=
  let s := s.loadRails
  let s := { s with pw := { s.pw with due := false, run := some 0 } }
  s.startLoop 0 (vouts.headD 0) true []

/-- POWER_UP_SEQUENCE (R680, R681, R746): a run that is due starts once every die sensor reads below 100 °C; `vouts` are the measured
outputs of the loops (0.25 mV), `dies` the readings of the 24 die sensors (°C). -/
def execPowerUpSequence (vouts : List Nat) (dies : List Int) (s : State) : Res :=
  .next (if s.pw.due && s.pw.run.isNone && s.fld F_PW_STATUS_PWR_FAULT = 0 && dies.all (fun d => decide (d < 100)) then s.startRun vouts
    else s)

/-- POWER_UP_LOOP_TIMEOUT (R683): a loop is not in REG within 1 ms. -/
def execPowerUpLoopTimeout (s : State) : Res := .next (if s.pw.run.isSome then s.runFails else s)

/-- POWER_UP_RETRY_DELAY (R683): the run repeats, at most twice. -/
def execPowerUpRetryDelay (vouts : List Nat) (s : State) : Res :=
  .next (if s.pw.run.isNone && decide (1 ≤ s.pw.failed) && decide (s.pw.failed < 3) && !s.pw.due &&
      s.fld F_PW_STATUS_PWR_FAULT = 0 then s.startRun vouts else s)

end Sys2Proof.Machine
end

