-- ==== Sys2Proof/Machine/Boot.lean ====
section
/-!
DEFINITION. Boot: life-cycle completion, image choice, the boot header, memory training, HOT_READY and POOL_READY, device and cold
reset (Bring-Up and Calibration; Root of Trust, Life Cycle and Debug; Register Map).
-/
namespace Sys2Proof.Machine

/-! ## Life-cycle changes (R531 to R534, Table 16.6) -/

/-- UDS rows as they are once blown to all ones. -/
def udsBlown : List UdsRow := [.ones, .ones, .ones]

/-- What the transition to state `t` destroys and writes before INTENT: classes T, W and P of the present state, every UDS row. The key
table is empty after a reset; class P is zeroised here. -/
def State.lcDestroy (s : State) (t : Nat) : State :=
  let s := if s.lc = 2 then s.loseWrap else s
  if t = 4 && s.lc != 0 then s.setFuses { s.se.fuses with uds := udsBlown } else s

/-- Programs a bit of the LC row; fewer than its four fuses where power is lost (R518). -/
def State.blowLc (s : State) (i m : Nat) : State := s.setFuses { s.se.fuses with lc := s.se.fuses.lc.blow i m }

/-- INTENT and COMMIT of a state. -/
def lcIntent (t : Nat) : Nat := 2 * (t - 1)

/-- An INTENT bit without its COMMIT bit is completed (R534). -/
def State.completeIntent (s : State) : State :=
  match (List.range' 1 4).find? (fun t => bit s.se.fuses.lc.read (lcIntent t) && !bit s.se.fuses.lc.read (lcIntent t + 1)) with
  | some t => (s.lcDestroy t).blowLc (lcIntent t + 1) 15
  | none => s

/-! ## Images (R520 to R522) -/

/-- A slot with its state record; slots 0 and 1 hold RTP images, 2 and 3 control images. -/
def State.fwSlot (s : State) (i : Nat) : FwSlot := kvGet {} s.se.slots i

/-- Replaces a slot. -/
def State.setFwSlot (s : State) (i : Nat) (x : FwSlot) : State := s.onSe (fun y => { y with slots := kvInsert y.slots i x })

/-- The slot that boots a component (1 RTP, 2 control): TRIAL becomes INVALID; a STAGED candidate boots and becomes TRIAL; otherwise the
GOOD candidate with the higher VERSION, slot A of two equal ones. -/
def State.chooseSlot (s : State) (comp : Nat) : State × Option Nat :=
  let a := 2 * (comp - 1)
  let s := [a, a + 1].foldl (fun s i => if (s.fwSlot i).st = 2 then s.setFwSlot i { s.fwSlot i with st := 4 } else s) s
  let ok (i : Nat) : Bool := s.imageFault comp (s.fwSlot i).image true == 0
  let staged := [a, a + 1].find? (fun i => (s.fwSlot i).st == 1 && ok i)
  let good := [a, a + 1].filter (fun i => (s.fwSlot i).st == 3 && ok i)
  match staged, good with
  | some i, _ => (s.setFwSlot i { s.fwSlot i with st := 2 }, some i)
  | none, [i, j] => (s, some (if (s.fwSlot i).image.version < (s.fwSlot j).image.version then j else i))
  | none, i :: _ => (s, some i)
  | none, [] => (s, none)

/-! ## The stages of boot (R686 to R690) -/

/-- Sets TOP_BOOT_STATUS.STAGE. -/
def State.toStage (s : State) (n : Nat) : State := s.setFld F_TOP_BOOT_STATUS_STAGE n

/-- Writes an RWL field, unless it has been written since reset, and locks it (Table 0.5, R686). -/
def State.headerFld (s : State) (f : Fld) (v i : Nat) : State :=
  if inSet s.bt.rwl (f.key i) then s
  else
    let s := s.setFld f v i
    { s with bt := { s.bt with rwl := setInsert s.bt.rwl (f.key i) } }

/-- Memory training starts with the header's values in the RWL fields that the PF has not written (R686). -/
def State.memGo (s : State) : State :=
  let b := s.bt
  let s := ((s.headerFld F_MC_CFG_MAX_SPEED (if 5 < b.maxSpeed then 0 else b.maxSpeed) 0).headerFld F_SI_CFG_TAGS_PRESENT b.tags 0).headerFld
    F_HB_SPARE_CFG_PERMILLE b.permille 0
  ((List.range 16).foldl (fun s c => s.headerFld F_MC_CH_CFG_MODE (b2n (bit b.chMode c)) c) s).startTraining

/-- The control firmware starts (R666, R690, R701): the fatal store is the first record of the ring, clusters test themselves, sections 4
and 5 of the calibration set are loaded; memory training starts, or waits for MEM_GO. -/
def State.startFirmware (s : State) : State :=
  let s := s.toStage 3
  let s := if s.er.storeValid then (s.writeRec { s.er.store with prevBoot := true }).1 else s
  let s := (List.range 8).foldl (fun s k => s.setCluster k { st := 5, boot := true }) s
  let s := s.loadBoard
  if s.bt.memStart = 1 then s.setFld F_TOP_BOOT_STATUS_MEM_WAIT 1 else s.memGo

/-- The control image is chosen, or RTP_ONLY sets (R522, R554). -/
def State.bootControl (s : State) : State :=
  let (s, c) := s.chooseSlot 2
  let trial := (List.range 4).any (fun i => (s.fwSlot i).st == 2)
  let s := s.setFld F_SE_STATUS_TRIAL (b2n trial)
  match c with
  | none => s.setFld F_SE_STATUS_RTP_ONLY 1
  | some i =>
    let s := (s.setFld F_SE_STATUS_CTL_SLOT (i - 2)).setFld F_TOP_FW_VERSION_VERSION (s.fwSlot i).image.version
    (s.newLibrary (s.fwSlot i).image.version).startFirmware

/-- A DEVICE slot takes a fresh secret (Table 17.2, R573); keys of class T exist in PROVISIONED and DEPLOYED (Table 16.7). -/
def State.freshDevice (s : State) (i : Nat) : State := (s.setSlot i { st := .active, secret := .random s.fresh }).draw

/-- Boot (R522, R526, R534, R541, R544, R684, R686, R762): from STAGE ROM through the RTP to the control firmware. With no RTP image that
verifies it holds at ROM (R554). -/
def State.bootUp (s : State) (cold : Bool) : State :=
  let s := (s.toStage 1).completeIntent
  let s := (s.setFuses s.se.fuses).setVbat s.se.vbat
  let v := s.se.vbat
  let s := s.setFld F_SE_STATUS_TAMPERED (b2n (v.zeroised || v.lost))
  let s := if v.lost then s.setVbat { v with lost := false, cause := v.cause % 64 + 64 } else s
  let s := (if s.lc = 1 || s.lc = 2 then (List.range 16).foldl State.freshDevice s else s).debugAtReset
  let s := s.applyHeader
  let s := if cold then s.setFld F_HP_STATUS_CXL s.hostMode else s
  let (s, c) := s.chooseSlot 1
  match c with
  | none => s
  | some i =>
    let s := (s.setFld F_SE_STATUS_RTP_SLOT i).setFld F_TOP_RTP_VERSION_VERSION (s.fwSlot i).image.version
    ((s.deriveIds (s.fwSlot i).image).toStage 2).bootControl

/-! ## Resets (R681, R682, R715, R762) -/

/-- A device reset with its RS_CAUSE and KIND: everything is cleared but what Table 15.2 keeps, and boot runs again. Under CAL_INVALID the limits
of R651 stand. -/
def State.deviceReset (s : State) (cause kind : Nat) : State :=
  let s := s.cleared false true
  let s := if s.fld F_PW_STATUS_CAL_INVALID = 1 then s.railLimits else s
  let s := (s.setFld F_RS_CAUSE_CAUSE cause).setFld F_RS_CAUSE_KIND kind
  (s.bump F_RS_DEV_CNT_COUNT).bootUp false

/-- A cold reset: everything outside the backup-cell domain, fuses and boot flash is cleared; the power-up sequence is due. -/
def State.coldReset (s : State) : State :=
  let s := s.cleared true false
  { s with pw := { s.pw with due := true } }

/-- COLD_RESET (R682, R729): valid always-on supplies and a running reference. The supplies have been away, so THERMTRIP_N is
released (R746). -/
def execColdReset (s : State) : Res :=
  let s := if s.bt.thermtrip then { s.emit (.pin .thermtripN true) with bt := { s.bt with thermtrip := false } } else s
  .next s.coldReset

/-- DEVICE_RESET (R762): a device reset that a fatal action (R663) or DEVICE_ADMIN RESET (R718) has called for is taken once it is due. -/
def execDeviceReset (s : State) : Res :=
  .next (if s.ck.power != 0 then s
    else if s.er.action = .reset then (if s.er.due ≤ s.now then s.deviceReset 2 s.er.kind else s)
    else if s.bt.resetAt.any (fun t => decide (t ≤ s.now)) then s.deviceReset 1 0 else s)

/-! ## Loops in regulation -/

/-- The output is within 1 % of the target for sixteen samples (2^-20 V). -/
def State.inBand (s : State) (k : Nat) (outs : List Int) : Bool :=
  let t : Int := (s.target k * 2 ^ 20 / 4000 : Nat)
  decide (16 ≤ outs.length) && outs.all (fun v => decide (100 * (magnitude (v - t) : Int) ≤ t))

/-- The loop of a run that follows in the order of R680 starts; after the last the run has ended well. -/
def State.runNext (s : State) (vout : Nat) : State × Bool :=
  match s.pw.run with
  | none => (s, false)
  | some i =>
    if i + 1 < 8 then
      (({ s with pw := { s.pw with run := some (i + 1) } }).startLoop (powerOrder.getD (i + 1) 0) vout true [], false)
    else ({ s with pw := { s.pw with run := none, failed := 0 } }, true)

/-- RAMP_TO_REG (R625, R680, R687): `outs` are the loop's last samples, `next` the measured output (0.25 mV) of the loop that a run starts
next. After the last loop of a run boot begins, or S3 exit goes on. -/
def execRampToReg (k : Nat) (outs : List Int) (next : Nat) (s : State) : Res :=
  .next (if 8 ≤ k || s.loopSt k ≠ 1 || !s.inBand k outs then s
    else
      let s := (s.setFld F_PW_L_STATUS_STATE 2 k).setLoop k { (s.loop k) with bootRamp := false }
      if s.pw.run.map (powerOrder.getD · 0) ≠ some k then s
      else
        let (s, done) := s.runNext next
        if done && s.fld F_TOP_BOOT_STATUS_STAGE = 0 && s.ck.power = 0 then s.bootUp true else s)

/-! ## Memory ready (R687, R692 to R695) -/

/-- MEM_GO (R686, R688): ignored unless MEM_WAIT is 1. -/
def execMemGo (p : Port) (s : State) : Res :=
  .next (s.ctlWrite p (bar0 0 0x204) (fun s =>
    if s.fld F_TOP_BOOT_STATUS_MEM_WAIT = 1 then (s.setFld F_TOP_BOOT_STATUS_MEM_WAIT 0).memGo else s))

/-- Every populated stack has trained, with or without success. -/
def State.stacksTrained (s : State) : Bool :=
  s.stacks.all (fun k => (targetUnits (16 + k)).all (fun u => (s.dram u).trained))

/-- Memory training is under way: the control firmware runs and does not wait for MEM_GO. -/
def State.training (s : State) : Bool :=
  s.fld F_TOP_BOOT_STATUS_STAGE == 3 && s.fld F_TOP_BOOT_STATUS_MEM_WAIT == 0

/-- HOT_READY (R307, R333, R687, R713): the stack set is in service. `unfixed` are the rows of the repair list (unit, bank, row) for which
the stack had no repair resources: their folios stay out of service. -/
def execHotReady (unfixed : List (Nat × Nat × Nat)) (s : State) : Res :=
  .next (if !s.training || s.fld F_TOP_BOOT_STATUS_HOT_READY = 1 || !s.stacksTrained || s.fld F_HB_STATUS_SET = 0 then s
    else
      let n := 589824 * popCount (s.fld F_HB_STATUS_SET) 4
      let s := (s.setFld F_TOP_HOT_FOLIOS_COUNT n).setFld F_TOP_BOOT_STATUS_HOT_READY 1
      let sp := n * s.fld F_HB_SPARE_CFG_PERMILLE / 1000
      let rows := s.mc.repairList.filter (fun r => unfixed.any (fun x => x.1 == r.unit && x.2.1 == r.bank && x.2.2 == r.row))
      let out := (rows.map s.rowFolios).flatten
      ({ s with map := { s.map with spares := (n - sp, sp) } } : State).toDevice out)

/-- The folios of the warm tier's interleave set (R305). -/
def State.warmFolios (s : State) : Nat :=
  let cs := (List.range 16).filter (fun c => bit (s.fld F_MC_STATUS_SET) c)
  match cs.map (fun c => (s.dram c).lmap.length * (s.dram c).rankBytes) with
  | [] => 0
  | u :: us => cs.length * us.foldl min u / 65536

/-- TOP_META_SIZE (Table 21.3) for F folios. -/
def State.metaFolios (s : State) (f : Nat) : Nat :=
  4096 + 4096 + 512 + 16384 + 32768 + s.bt.segPool * 1024 + 2048 + 20480 + ceilDiv f 8192 + ceilDiv (s.bt.mapFactor * f) 8192 +
    (if s.fld F_SI_CFG_TAGS_PRESENT = 1 then ceilDiv f 32 else 0)

/-- The rate of the used DIMMs in MT/s. -/
def State.warmMts (s : State) : Nat := ([0, 4800, 5600, 6400, 8000, 8800] : List Nat).getD s.mc.rate 0

/-- A run of folios without those left out, as runs in ascending order. -/
def cutRun (a n : Nat) (out : List Nat) : List (Nat × Nat) :=
  let r := (out.filter (fun f => decide (a ≤ f) && decide (f < a + n))).foldl (fun (x : Nat × List (Nat × Nat)) f =>
    (f + 1, if x.1 < f then x.2 ++ [(x.1, f - x.1)] else x.2)) (a, [])
  if r.1 < a + n then r.2 ++ [(r.1, a + n - r.1)] else r.2

/-- POOL_READY (R692 to R695, R713, R490): the interleave set is fixed. The tiers' sizes and the carve-out are known, the folios a tenant may
own are ZEROING; or the warm tier is too small and NO_POOL sets. The PDR repository is fixed (R474; log entry 136). -/
def execPoolReady (s : State) : Res :=
  .next (if !s.training || s.fld F_TOP_BOOT_STATUS_POOL_READY = 1 || s.fld F_TOP_BOOT_STATUS_NO_POOL = 1 ||
      !(List.range 16).all (fun c => (s.dram c).trained) ||
      !(s.fld F_TOP_BOOT_STATUS_HOT_READY == 1 || (s.stacksTrained && s.fld F_HB_STATUS_SET == 0)) then s
    else
      let w := s.warmFolios
      let hot := s.fld F_TOP_HOT_FOLIOS_COUNT
      let m := s.metaFolios (hot + w)
      let s : State := { s with mg := { s.mg with pdr := some s.populated } }
      let s := (s.setFld F_TOP_WARM_FOLIOS_COUNT w).setFld F_TOP_META_SIZE_COUNT m
      if w < m + 4096 then s.setFld F_TOP_BOOT_STATUS_NO_POOL 1
      else
        let s := (s.setFld F_TOP_BOOT_STATUS_POOL_READY 1).setFld F_TN_MAP_POOL_FREE_FREE (s.bt.mapFactor * (hot + w))
        let s := (s.setFld F_TN_RES_LIMIT_HOT (popCount (s.fld F_HB_STATUS_SET) 4 * 32 * 384 * 3 / 40)).setFld
          F_TN_RES_LIMIT_WARM (s.fld F_MC_STATUS_WAYS * 8 * s.warmMts * 3 / 4000)
        { s with map := { s.map with
            zeroing := cutRun 0 s.map.spares.1 s.map.device ++ cutRun warmBase (w - m) [] } })

end Sys2Proof.Machine
end

