-- ==== Sys2Proof/Machine/Power.lean ====
section
/-!
DEFINITION. Power states, idle domains, PLLs and references, PERST_N, PWR_FAULT_N and supplies (Clocks and Power States; The Rail
Controller; Electrical, Thermal and Package).
-/
namespace Sys2Proof.Machine

/-- Changes the clock and power state. -/
def State.onCk (s : State) (f : CkSt → CkSt) : State := { s with ck := f s.ck }

/-! ## Entering S3 and S5 (R600 to R602, R606) -/

/-- CK_PWR_CTL. -/
def pwrCtlOff : Nat := bar0 18 0x8

/-- A write of CK_PWR_CTL: PF, control firmware and BMC (R607); ignored while ENTERING is 1. -/
def State.pwrCtl (s : State) (p : Port) (f : State → State) : State :=
  let s := s.dropStage p
  if !s.answers p pwrCtlOff then s
  else if !(pfOrFw p || p == .bmc) then s.badAccess p pwrCtlOff
  else if s.fld F_CK_PWR_STATUS_ENTERING = 1 then s else f s

/-- An entry ends without S3: LAST says why, fetching resumes. -/
def State.entryEnds (s : State) (last : Nat) : State :=
  ((s.setFld F_CK_PWR_STATUS_ENTERING 0).setFld F_CK_PWR_STATUS_LAST last).onCk (fun c => { c with entry := 0 })

/-- The condition of Table 18.4 that refuses an entry first, by its LAST code, 0 for none. -/
def State.s3Refused (s : State) : Nat :=
  if !s.q.descs.isEmpty then 2
  else if s.map.owner.any (fun p => decide (p.1 < warmBase) && (p.2.st == .owned || p.2.st == .releasing)) then 3
  else if 1600 < 1984 - s.slotsFree then 4
  else if s.se.slots.any (fun p => p.2.st == 2) then 5
  else if s.mg.update.isSome then 6
  else if s.fld F_TOP_CAL_STATUS_WRITE = 1 || s.fld F_TOP_ADMIN_STATUS_HDR_WRITE = 1 then 8
  else 0

/-- Every link goes to DISABLED; the device keeps which to enable again (R600 step 3, R602). -/
def State.linksDown (s : State) : State :=
  let up := (List.range 48).filter (fun l => (s.link l).st != .disabled)
  (up.foldl (fun s l => s.takeDown l .disabled) s).onCk (fun c => { c with links := up })

/-- The contents of the hot tier are lost. -/
def State.hotLost (s : State) : State :=
  { s with
    mem := s.mem.filter (fun c => decide (warmBase * 65536 ≤ c.1))
    poison := s.poison.filter (fun x => decide (warmBase * 256 ≤ x))
    si := { s.si with lineErr := s.si.lineErr.filter (fun p => decide (warmBase * 1024 ≤ p.1)) } }

/-- Steps 3 to 8 of R600. Of the RTP's private SRAM retention SRAM stays powered (R516). The clusters' power goes with loop 1. -/
def State.enterS3 (s : State) (unf : List Nat) : State :=
  let s := s.linksDown
  let s := s.cacheCut (fun _ => true)
  let s := { s with ck := { s.ck with retained := s.ks }, ks := [(0, {})] }
  let s := (List.range 20).foldl State.toSelfRefresh s
  let s := (s.hotLost.hostLinkOff.hostReset unf).loopsTo 0
  let s := (List.range 8).foldl (fun s k => if (s.cluster k).st < 4 then s.setCluster k { st := 0 } else s) s
  let s := s.pauseJobs true (fun _ => true)
  let s := s.onSe (fun e => { e with sram := e.sram.filter (fun p => decide (p.1 < 65536)) })
  (s.debugAtReset.entryEnds 1).onCk (fun c => { c with power := 1, slow := false, wake := 0, since := s.now, sub := 0 })

/-- S5 (R606): keys are zeroised, the loops turn off, everything but the backup-cell domain, fuses and flash is lost. -/
def State.enterS5 (s : State) : State := (s.loopsTo 0).holdReset 2

/-- S5 is entered once no flash write runs (R606). -/
def State.s5Flash (s : State) : State :=
  if s.fld F_TOP_CAL_STATUS_WRITE = 1 || s.fld F_TOP_ADMIN_STATUS_HDR_WRITE = 1 then s.onCk (fun c => { c with entry := 6 })
  else s.enterS5

/-- The drain of an entry ends: no descriptor is in flight, or 100 ms have passed. A device reset that is due supersedes an entry
(R719). -/
def State.drainEnds (s : State) (unf : List Nat) : State :=
  if s.bt.resetAt.isSome || s.er.action = .reset then s
  else if s.ck.entry = 3 then (if s.s3Refused = 0 then s.enterS3 unf else s.entryEnds s.s3Refused)
  else if s.ck.entry = 5 then s.linksDown.s5Flash
  else s

/-- An entry that waits goes on once the last descriptor has left (R600 step 1). -/
def State.drained (s : State) (unf : List Nat) : State := if s.q.descs.isEmpty then s.drainEnds unf else s

/-- An entry begins: every queue stops fetching. -/
def State.startEntry (s : State) (e : Nat) (unf : List Nat) : State :=
  if s.ck.power ≠ 0 then s
  else ((s.setFld F_CK_PWR_STATUS_ENTERING 1).onCk (fun c => { c with entry := e, since := s.now })).drained unf

/-- ENTER_S3 (R600). -/
def execEnterS3 (p : Port) (unf : List Nat) (s : State) : Res := .next (s.pwrCtl p (·.startEntry 3 unf))

/-- S3_DRAIN_TIMEOUT (R600, R606): 100 ms have passed. -/
def execS3DrainTimeout (unf : List Nat) (s : State) : Res := .next (if s.ck.since + 100000000 ≤ s.now then s.drainEnds unf else s)

/-- ENTER_S5 (R606). -/
def execEnterS5 (p : Port) (unf : List Nat) (s : State) : Res := .next (s.pwrCtl p (·.startEntry 5 unf))

/-! ## Leaving S3 (R601, R603 to R605) -/

/-- A wake event (R601, R603): it cancels an entry that still drains; in S3 the exit begins with a power-up sequence, which waits for
PWR_FAULT_N. Unless PERST_N started it the device drives WAKE_N low. -/
def State.wakeEvent (s : State) (cause : Nat) : State :=
  if s.ck.entry = 3 then s.entryEnds 7
  else if s.ck.power ≠ 1 || s.ck.wake ≠ 0 then s
  else
    let s := (s.setFld F_CK_PWR_STATUS_WAKE_CAUSE cause).onCk (fun c => { c with wake := cause })
    let held := s.fld F_PW_STATUS_PWR_FAULT = 1 || (List.range 8).any (fun k => s.loopSt k == 4)
    let go := !held || s.fld F_PW_STATUS_RETRY_WAIT = 1
    let s := if go then
        let s := (s.loopsTo 0).setFld F_PW_STATUS_RETRY_WAIT 0
        { s with pw := { s.pw with due := true, failed := 0 } }
      else s
    if cause = 1 || s.ck.wakeOut then s else (s.emit (.pin .wakeN false)).onCk (fun c => { c with wakeOut := true })

/-- EXIT_S3 (R603): a write by the BMC port, in S3. -/
def execExitS3 (p : Port) (s : State) : Res :=
  .next (s.pwrCtl p (fun s => if p = .bmc && s.ck.power = 1 then s.wakeEvent 3 else s))

/-- WAKE_N_EVENT (R601, R603, R696): the device's own drive is no event. -/
def execWakeNEvent (s : State) : Res := .next (if s.ck.wakeOut then s else s.wakeEvent 2)

/-- S3_TIMER_EXPIRED (R603). -/
def execS3TimerExpired (s : State) : Res :=
  .next (if s.fld F_CK_S3_TIMER_SECONDS ≠ 0 && s.ck.power = 1 && s.ck.since + s.fld F_CK_S3_TIMER_SECONDS * 1000000000 ≤ s.now then
      s.wakeEvent 4
    else s)

/-- Every hot-tier folio in FREE enters ZEROING, in ascending order (R604 step 5). -/
def State.hotToZeroing (s : State) : State :=
  let free := s.map.zeroing.foldl (fun l r => subRun r l) (cutRun 0 s.map.spares.1 s.map.device)
  { s with map := { s.map with zeroing := s.map.zeroing ++ free } }

/-- S3_EXIT (R573, R602, R604, R605): the loops are in regulation and the saved state is restored; `bad` are the DDR5 channels whose restore
failed. -/
def execS3Exit (bad : List Nat) (s : State) : Res :=
  .next (if s.ck.power ≠ 1 || s.ck.wake = 0 || s.pw.run.isSome || !(List.range 8).all (fun k => s.loopSt k == 2) then s
    else
      let s := { s with ks := s.ck.retained.filter (fun p => p.1 == 0 || decide (64 ≤ p.1)) }
      let s := (List.range' 1 15).foldl State.freshDevice s
      let s := (List.range 20).foldl State.fromSelfRefresh s
      let s := s.pauseJobs false (fun _ => true)
      let s := (bad.filter (fun c => decide (c < 16) && (s.unitState c == 2 || s.unitState c == 3))).foldl State.unitFails s
      let s := s.hotToZeroing
      let s := s.ck.links.foldl (fun s l => s.linkTo l .down) s
      s.onCk (fun c => { c with power := 0, sub := 0, wake := 0, retained := [], links := [] }))

/-! ## PERST_N (R599, R603, R696, R697) -/

/-- PERST_ASSERT: counted; a host-port reset outside S3. -/
def execPerstAssert (unf : List Nat) (s : State) : Res :=
  .next (if s.ck.perst then s
    else
      let s := s.onCk (fun c => { c with perst := true })
      if 2 ≤ s.ck.power || s.fld F_TOP_BOOT_STATUS_STAGE = 0 then s
      else
        let s := s.bump F_TOP_PERST_CNT_COUNT
        if s.ck.power = 1 then s else s.hostLinkOff.hostReset unf)

/-- PERST_RELEASE: the host port may train; in S3 the exit begins, and an entry that drains is cancelled. The device's drive of WAKE_N
ends. -/
def execPerstRelease (s : State) : Res :=
  .next (if !s.ck.perst then s
    else
      let s := s.onCk (fun c => { c with perst := false, released := true })
      let s := if s.ck.wakeOut then (s.emit (.pin .wakeN true)).onCk (fun c => { c with wakeOut := false }) else s
      s.wakeEvent 1)

/-! ## PWR_FAULT_N and supplies (R649, R650, R730) -/

/-- Every loop is HELD with its cause, PWR_FAULT_N low (R649). -/
def State.railsHeld (s : State) : State :=
  let s := ((s.loopsTo 4).setFld F_PW_STATUS_PWR_FAULT 1).setFld F_PW_STATUS_RETRY_WAIT 0
  (List.range 8).foldl (fun s k => s.setFld F_PW_L_STATUS_CAUSE 7 k) s

/-- PWR_FAULT (R649, R653, Table 15.2): every loop is HELD. Outside S3 the loss of VDD_CORE is a cold reset, which leaves the PWR_FAULT alert; a
power-up sequence that is due waits. -/
def execPwrFault (s : State) : Res :=
  .next (if s.fld F_PW_STATUS_PWR_FAULT = 1 then s
    else if s.ck.power = 2 || s.ck.power = 4 then s.setFld F_PW_STATUS_PWR_FAULT 1
    else
      let waiting := s.pw.due && s.ck.power = 0
      if s.ck.power ≠ 0 then
        let t := s.railsHeld.railAlert 6
        { t with pw := { t.pw with due := false, run := none } }
      else
        let t := (s.wiped true false).railsHeld.setFld F_PW_ALERT_ALERT 64
        ({ t with pw := { t.pw with due := waiting } } : State).driveAlert s)

/-- PWR_FAULT_RELEASE (R649, R650, R682): high for 10 ms. A cold reset that waited for it starts without a retry, and a pending S3 exit
is the retry. -/
def execPwrFaultRelease (s : State) : Res :=
  .next (if s.fld F_PW_STATUS_PWR_FAULT = 0 then s
    else
      let s := s.setFld F_PW_STATUS_PWR_FAULT 0
      if s.pw.due then s
      else if s.ck.power = 1 && s.ck.wake ≠ 0 then { s.loopsTo 0 with pw := { s.pw with due := true, failed := 0 } }
      else if s.ck.power ≤ 1 then s.setFld F_PW_STATUS_RETRY_WAIT 1 else s)

/-- RETRY (R650, R683): the BMC port only. While PWR_FAULT_N is low or within its 10 ms it is ignored and counted. -/
def execRailRetry (p : Port) (s : State) : Res :=
  let s := s.dropStage p
  .next (if !s.answers p (bar0 19 0xC) then s
    else if p ≠ .bmc || s.fld F_PW_STATUS_PWR_FAULT = 1 then s.badAccess p (bar0 19 0xC)
    else if s.fld F_PW_STATUS_RETRY_WAIT = 1 || 3 ≤ s.pw.failed then
      let s := (s.loopsTo 0).setFld F_PW_STATUS_RETRY_WAIT 0
      { s with pw := { s.pw with due := true, failed := 0 } }
    else s)

/-- BROWN_OUT (R730): an always-on supply below its brown-out level; the device stays in reset until a cold reset. -/
def execBrownOut (s : State) : Res := .next (if s.ck.power = 4 then s else s.holdReset 4)

/-! ## Idle domains (R587, R590, R595) -/

/-- A command that an engine domain serves has not ended: catalog, placement, projection. -/
def State.domainBusy (s : State) (k : Nat) : Bool :=
  let ops := if k = 55 then [0x30, 0x31, 0x32, 0x33] else if k = 56 then [0x50] else [0x23, 0x24]
  s.q.descs.any (fun p => inSet ops p.2.e.opcode && p.2.stage != .done)

/-- ENGINE_IDLE_GATE (R590): a self-test job of a projection unit pauses (R367). -/
def execEngineIdleGate (k : Nat) (s : State) : Res :=
  .next (if 55 ≤ k && k ≤ 57 && 1 ≤ s.fld F_CK_PWR_CFG_DEEPEST && kvGet 0 s.ck.dom k = 0 && !s.domainBusy k then
      (s.onCk (fun c => { c with dom := kvInsert c.dom k 1 })).pauseJobs true (fun j => j.kind == 3 && k == 57)
    else s)

/-- DOMAIN_WAKE (R587, R592): a gated engine domain runs again. -/
def execDomainWake (k : Nat) (s : State) : Res :=
  .next (if kvGet 0 s.ck.dom k = 1 then (s.onCk (fun c => { c with dom := kvErase c.dom k })).pauseJobs false (fun j => j.kind == 3 && k == 57)
    else s)

/-- FABRIC_SLOW (R590): every cluster without power, every channel and stack in service in self-refresh, no descriptor in flight. -/
def execFabricSlow (s : State) : Res :=
  .next (if s.fld F_CK_PWR_CFG_DEEPEST = 2 && s.ck.power = 0 && s.q.descs.isEmpty &&
      (List.range 8).all (fun k => (s.cluster k).st == 0 || (s.cluster k).st == 4) &&
      (List.range 20).all (fun t => !s.inService t || (targetUnits t).all (fun u => (s.dram u).selfRef || s.unitState u == 4)) then
      s.onCk (fun c => { c with slow := true })
    else s)

/-- CLUSTER_CLOCK_CHANGE (R595): a READY cluster takes the clock that FMAX and the cap allow. -/
def execClusterClockChange (k : Nat) (s : State) : Res :=
  .next (if k < 8 && (s.cluster k).st = 3 then s.onCk (fun c => { c with mhz := kvInsert c.mhz k (s.clusterMhz k) }) else s)

/-! ## Losses of lock and of the reference (R610, R611) -/

/-- The PLL_LOCK record of a domain. -/
def pllErr (k cls : Nat) : ErrInfo := { kind := 0x3C, utype := 16, inst := k, cls := cls }

/-- The tasks of a cluster run again elsewhere, once (R224). -/
def State.rerunCluster (s : State) (k : Nat) : State :=
  let s := (List.range' (8 * k) 8).foldl (fun s c => match (s.carrel c).task with
    | none => s
    | some (d, i) =>
      let s := s.setCarrel c (s.carrel c).idle
      if ((s.carrelCmd d).tasks.getD i {}).tries = 0 then
        (s.setTask d i (fun y => { y with st := 0, tries := 1 })).bump F_CR_RERUN_CNT_RERUN
      else s.carrelFail d .aborted 0x40) s
  s.setCluster k { st := 4 }

/-- The domain exists on this part: 13 to 16 are absent on the JP-4810-A2 (R585). -/
def State.domExists (s : State) (k : Nat) : Bool := k < 60 && !(13 ≤ k && k ≤ 16 && s.fld F_TOP_ID_STACKS == 2)

/-- PLL_LOCK_LOSS (R610, Table 18.8). Domains without a PLL of their own have none to lose. -/
def execPllLockLoss (k : Nat) (unf : List Nat) (s : State) : Res :=
  .next (if !s.domExists k || s.ck.power ≠ 0 || s.domFailed k || inSet [45, 46, 50, 59] k then s
    else
      let s := (s.bump F_CK_D_FAULTS_FAULTS 1 k).onCk (fun c => { c with dom := kvInsert c.dom k 3 })
      if 1 ≤ k && k ≤ 8 then (s.report (pllErr k 2)).rerunCluster (k - 1)
      else if 9 ≤ k && k ≤ 16 then
        let s := s.report (pllErr k 2)
        ((List.range' (16 + 16 * (k - 9)) 16).filter (fun u => s.unitState u == 2 || s.unitState u == 3)).foldl State.unitFails s
      else if 17 ≤ k && k ≤ 32 then
        let s := s.report (pllErr k 2)
        if s.unitState (k - 17) = 2 || s.unitState (k - 17) = 3 then s.unitFails (k - 17) else s
      else if 33 ≤ k && k ≤ 44 then
        (List.range' (4 * (k - 33)) 4).foldl (fun s l => s.dropLink l 1 unf) (s.report (pllErr k 2))
      else if k = 58 then
        let s := (s.onCk (fun c => { c with fallback := true })).report { pllErr k 1 with recov := true }
        if s.cn.st = .member then s.setDegraded true else s
      else if 55 ≤ k && k ≤ 57 then s
      else if k = 49 || k = 51 || k = 52 then s.reportHold (pllErr k 3) else s.reportReset (pllErr k 3))

/-- What an engine whose clock stays lost was doing waits for it (R610). -/
def State.engineLost (s : State) (k : Nat) : State :=
  if k = 56 then (match s.pl.running with
    | some d => { s.stage d (.wait .solver) with pl := { s.pl with running := none } }
    | none => s)
  else if k = 57 then (List.range 8).foldl (fun s u =>
    let x := s.pjUnit u
    x.cmds.foldl (fun s c => s.stage c.1 (.wait .unit)) (s.setPjUnit u { x with cmds := [], redo := [] })) s
  else s

/-- PLL_RELOCK (R610, Table 18.8): a relock attempt of time ends, which is retried, or the one of catalog, placement or projection. -/
def execPllRelock (k : Nat) (ok : Bool) (s : State) : Res :=
  .next (if kvGet 0 s.ck.dom k ≠ 3 || k < 55 || 58 < k then s
    else
      let run := s.onCk (fun c => { c with dom := kvErase c.dom k })
      if k = 58 then (if ok then (run.onCk (fun c => { c with fallback := false })).recoveryEnd 16 58 true else s)
      else if ok then run.reportCured { pllErr k 1 with recov := true }
      else
        let s := s.onCk (fun c => { c with dom := kvInsert c.dom k 4 })
        ((s.report { pllErr k 2 with recov := true }).recoveryEnd 16 k false).engineLost k)

/-- REF_LOST (R611, R665): the supervisor turns the loops off and the device holds until cold reset. -/
def execRefLost (s : State) : Res :=
  .next (if s.ck.power ≤ 1 then s.reportHold { kind := 0x3D, utype := 20, cls := 3 } else s)

end Sys2Proof.Machine
end

