-- ==== Sys2Proof/Machine/Errors.lean ====
section
/-!
DEFINITION. Control-core watchdogs, fatal errors, queued recoveries, the ring's read pointer and the fatal store (Errors and Recovery).
-/
namespace Sys2Proof.Machine

/-! ## Control cores (R672 to R675) -/

/-- A control core. -/
def State.core (s : State) (k : Nat) : Core := kvGet {} s.er.cores k

/-- Replaces a control core. -/
def State.setCore (s : State) (k : Nat) (x : Core) : State := { s with er := { s.er with cores := kvInsert s.er.cores k x } }

/-- A control core is in service (ER_CORES). -/
def State.coreUp (s : State) (k : Nat) : Bool := !(s.core k).halted && !(s.core k).out

/-- ER_CORES. -/
def State.cores (s : State) : Nat := ((List.range 8).map (fun k => b2n (s.coreUp k) * 2 ^ k)).foldl (· + ·) 0

/-- The control firmware runs. -/
def State.firmwareUp (s : State) : Bool := s.ck.power == 0 && s.fld F_TOP_BOOT_STATUS_STAGE == 3

/-- A core is halted: the commands it was serving end E_ABORTED, the error is recorded and the core reloads; with fewer than two cores
in service the device is lost (R672 to R675). -/
def State.haltCore (s : State) (k kind detail data : Nat) (serving : List Nat) : State :=
  if 8 ≤ k || !s.coreUp k || !s.firmwareUp then s
  else
    let s := s.setCore k { halted := true }
    let s := s.finishAll .aborted detail serving
    let s := s.report { kind := kind, utype := 17, inst := k, cls := 2, recov := true, detail := detail, data := data }
    if ((List.range 8).filter s.coreUp).length < 2 then s.reportReset { kind := 0x43, utype := 20, cls := 3 } else s

/-- LOCK_BREAK (R672): `lock` is the lock that core `k` holds, `serving` the commands it serves. What the core had written under the lock
is discarded, so no table changes. -/
def execLockBreak (k lock : Nat) (serving : List Nat) (s : State) : Res := .next (s.haltCore k 0x41 0xC0 lock serving)

/-- CORE_HANG (R673). -/
def execCoreHang (k : Nat) (serving : List Nat) (s : State) : Res := .next (s.haltCore k 0x40 0xC1 0 serving)

/-- CORE_RELOAD (R674, R661): the core returns to service, unless it is out; an error in the image found by the reload is fatal. -/
def execCoreReload (k : Nat) (ok : Bool) (s : State) : Res :=
  .next (if !(s.core k).halted || !s.firmwareUp then s
    else if (s.core k).out then s.setCore k { s.core k with halted := false }
    else if ok then (s.setCore k {}).recoveryEnd 17 k true
    else (s.recoveryEnd 17 k false).reportReset { kind := 0x42, utype := 17, inst := k, cls := 3 })

/-! ## Fatal errors (R661, R663) -/

/-- FATAL_ERROR (R661, R663): parity of the control-complex SRAM found by core `inst` (kind 0x42), or an error in the recovery path (kind
0x46) while the recovery of kind `rkind` runs on unit `rinst` of type `rtype`. The other fatal kinds have rows of their own. -/
def execFatalError (kind inst rkind rtype rinst : Nat) (s : State) : Res :=
  .next (if !s.firmwareUp then s
    else if kind = 0x42 && inst < 8 then s.reportReset { kind := 0x42, utype := 17, inst := inst, cls := 3 }
    else if kind = 0x46 && (s.unitRec (unitKey rtype rinst)).running.isSome then
      s.reportReset { kind := 0x46, utype := 20, cls := 3, data := rkind + rtype * 2 ^ 32 + rinst * 2 ^ 64 }
    else s)

/-- FATAL_RESET_DELAY (R663): 1 ms after the record. -/
def execFatalResetDelay (s : State) : Res :=
  .next (if s.er.action = .reset && s.er.due ≤ s.now && s.ck.power = 0 then s.deviceReset 2 s.er.kind else s)

/-! ## Queued recoveries (R658, R761) -/

/-- The action of a recovery that starts: a retraining, a migration, nothing for a copy or a rerun that is already under way, and an end
at once for one whose cause has gone. -/
def State.startRecovery (s : State) (utype inst kind : Nat) : State :=
  let ended := s.recoveryEnd utype inst true
  if utype = 10 && kind = 0x25 then
    let x := s.dram inst
    match x.trig, x.rankIn 2 with
    | (r, _) :: _, some t => if s.unitState inst = 2 then s.migrate inst r t else ended
    | _, _ => ended
  else if utype = 11 && kind = 0x26 then
    if s.mc.remap.any (fun r => r.copying && s.unitOf (r.dfn * 256) == 16 + inst) then s else ended
  else if utype = 10 || utype = 11 then
    let u := if utype = 10 then inst else 16 + inst
    if s.unitState u = 2 then
      (if u < 16 then s.bump F_MC_RETRAIN_CNT_RETRAIN else s).setUnitState u 3
    else ended
  else if utype = 6 then
    if s.cr.cmds.any (fun c => c.2.tasks.any (fun t => t.redo == some inst)) then s else ended
  else if utype = 17 then (if (s.core inst).halted then s else ended)
  else ended

/-- RECOVERY_QUEUED_START (R658, R761): the queued recovery of a unit starts once none runs. -/
def execRecoveryQueuedStart (utype inst : Nat) (s : State) : Res :=
  let k := unitKey utype inst
  let u := s.unitRec k
  .next (match u.running, u.queued with
    | none, some q =>
      let kind := ((s.ringRec q).map (·.kind)).getD 0x23
      (((s.setUnitRec k { u with running := some q, queued := none }).setOutcome q 0).startRecovery utype inst kind)
    | _, _ => s)

/-! ## The ring and the fatal store (R665, R667, R677) -/

/-- ER_RPTR_WRITE (R667, Table 20.7): ER_WPTR − 256 to ER_WPTR, as 32-bit numbers; any other value is ignored and counted. -/
def execErRptrWrite (p : Port) (v : Nat) (s : State) : Res :=
  .next (s.ctlWrite p (bar0 17 4) (fun s =>
    if (s.fld F_ER_WPTR_WPTR + 2 ^ 32 - v % 2 ^ 32) % 2 ^ 32 ≤ 256 then s.setFld F_ER_RPTR_RPTR v else s.badAccess p (bar0 17 4)))

/-- ACK (R665): the fatal store is emptied. -/
def execFatalAck (p : Port) (s : State) : Res :=
  .next (s.ctlWrite p (bar0 17 0x10) (fun s => { s with er := { s.er with store := {}, storeValid := false, storeCount := 0 } }))

end Sys2Proof.Machine
end

