-- ==== Sys2Proof/Machine/Admin.lean ====
section
/-!
DEFINITION. CAL_WRITE and DEVICE_ADMIN: calibration set, administrative reset, boot header (Bring-Up and Calibration; Register Map).
-/
namespace Sys2Proof.Machine

/-! ## Flash writes -/

/-- An agent holds PLDM update mode (R476). -/
def State.updating (s : State) : Bool := s.mg.update.isSome

/-- A calibration write runs or waits (TOP_CAL_STATUS.WRITE reads WRITING). -/
def State.calWriting (s : State) : Bool := s.fld F_TOP_CAL_STATUS_WRITE == 1

/-- A header write runs (TOP_ADMIN_STATUS.HDR_WRITE reads WRITING). -/
def State.hdrWriting (s : State) : Bool := s.fld F_TOP_ADMIN_STATUS_HDR_WRITE == 1

/-- Bytes that flash holds beyond what has been written there read as erased. -/
def erasedTo (n : Nat) (b : List Byte) : List Byte := (b ++ List.replicate (n - b.length) 0xFF).take n

/-- S5 that waited for a flash write goes on (R606). -/
def State.flashEnds (s : State) : State := if s.ck.entry = 6 then s.s5Flash else s

/-! ## The calibration set (R703 to R705) -/

/-- The result of a CAL_WRITE (Table 21.7) for a set of these bytes and its failing check and section. -/
def calResult (b : List Byte) (len : Nat) (f : Nat × Nat) : Result := { w0 := len, w1 := crc32 b, w2 := f.1, w3 := f.2 }

/-- CAL_WRITE (R703, R705): `bytes` are the LENGTH bytes that the device reads of host memory. -/
def execCalWrite (d : Nat) (bytes : List Byte) (s : State) : Res :=
  let x := s.desc d
  .next (if !x.runs? 0x7E || x.e.flag 8 || s.noHost x.q then s
    else if s.calWriting || s.updating then s.finish d .busy
    else
      let s := s.askHost x.q x.e.opB x.e.len
      let b := (bytes ++ List.replicate x.e.len 0).take x.e.len
      let f := calFault b
      let r := calResult (calBytes b) (leAt b 8 4) f
      if f.1 ≠ 0 then s.finish d .param r
      else
        let s : State := { s with bt := { s.bt with calNew := some (calBytes b) } }
        (s.setFld F_TOP_CAL_STATUS_WRITE 1).finish d .ok r)

/-- CAL_WRITE_READBACK (R704, R705). -/
def execCalWriteReadback (d : Nat) (s : State) : Res :=
  let x := s.desc d
  .next (if !x.runs? 0x7E || !x.e.flag 8 then s
    else if s.calWriting || s.updating then s.finish d .busy
    else
      let f := s.bt.calBad
      let b := if f.1 = 1 then erasedTo 1048576 s.bt.cal else calBytes s.bt.cal
      let r := calResult b b.length f
      if x.e.len < b.length then s.finish d .param r else s.returnData d x.e.opB b r)

/-- CAL_FLASH_WRITE_DONE (R703, R725): the set stands in flash, or what a failed write left (log entry 28). It waits for a header write
that runs. -/
def execCalFlashWriteDone (ok : Bool) (s : State) : Res :=
  .next (match s.bt.calNew with
    | none => s
    | some b =>
      if s.hdrWriting then s
      else
        let s := if ok then (s.setCal b).setFld F_TOP_CAL_STATUS_WRITE 2
          else
            let n := s.fresh
            let s : State := { s with bt := { s.bt with
              cal := Config.cutFlash n, calBad := (1 + (Config.cutFault n).1 % 6, (Config.cutFault n).2 % 6) } }
            s.draw.setFld F_TOP_CAL_STATUS_WRITE 3
        let s : State := { s with bt := { s.bt with calNew := none } }
        s.flashEnds)

/-! ## RESET (R718, R719) -/

/-- RESET: refused with E_BUSY DETAIL 1, or the device reset follows 1 ms after the completion. -/
def execAdminReset (d : Nat) (s : State) : Res :=
  let x := s.desc d
  .next (if !(x.runs? 0x7F && x.e.opA == 1) then s
    else if !x.e.flag 8 && (s.calWriting || s.hdrWriting || s.updating) then s.finish d .busy {} 1
    else
      let t := s.bt.resetAt.getD (s.now + 1000000)
      let s : State := { s with bt := { s.bt with resetAt := some t } }
      (s.setFld F_TOP_ADMIN_STATUS_RESET_PENDING 1).finish d .ok
        { w0 := t % 2 ^ 32, w1 := t / 2 ^ 32, w2 := s.fld F_RS_DEV_CNT_COUNT })

/-- ADMIN_RESET_DELAY (R718, R719). -/
def execAdminResetDelay (s : State) : Res :=
  .next (if s.ck.power = 0 && s.bt.resetAt.any (fun t => decide (t ≤ s.now)) && s.er.action = .none then s.deviceReset 1 0 else s)

/-! ## The boot header (R723 to R726) -/

/-- HEADER_WRITE (R723, R725): `bytes` are the 256 bytes that the device reads of host memory. -/
def execHeaderWrite (d : Nat) (bytes : List Byte) (s : State) : Res :=
  let x := s.desc d
  .next (if !(x.runs? 0x7F && x.e.opA == 3) || s.noHost x.q then s
    else if s.calWriting || s.hdrWriting || s.updating then s.finish d .busy {} 1
    else
      let s := s.askHost x.q x.e.opB 256
      let b := (bytes ++ List.replicate 256 0).take 256
      let crc := leAt b 0xFC 4
      match headerFault b with
      | some o => s.finish d .param { w0 := crc, w2 := o }
      | none =>
        let s : State := { s with bt := { s.bt with hdrNew := some b } }
        (s.setFld F_TOP_ADMIN_STATUS_HDR_WRITE 1).finish d .ok { w0 := crc, w2 := 0xFFFF_FFFF })

/-- HEADER_FLASH_WRITE_DONE (R724): the block reads back as programmed, or not (log entry 28). The erased block holds nothing else. -/
def execHeaderFlashWriteDone (ok : Bool) (s : State) : Res :=
  .next (match s.bt.hdrNew with
    | none => s
    | some b =>
      let s := if ok then
          { s with bt := { s.bt with header := b, headerCut := false } }.setFld F_TOP_ADMIN_STATUS_HDR_WRITE 2
        else
          let s : State := { s with bt := { s.bt with header := Config.cutFlash s.fresh, headerCut := true } }
          s.draw.setFld F_TOP_ADMIN_STATUS_HDR_WRITE 3
      let s : State := { s with bt := { s.bt with hdrNew := none } }
      s.flashEnds)

/-- Bytes 0x000 to 0x1FF of the header block: the header, the slot-state records, erased flash; free values while a write runs and after
one that was cut or failed (log entry 28). -/
def State.headerBlock (s : State) : List Byte :=
  if s.hdrWriting then erasedTo 512 (Config.cutFlash s.fresh)
  else if s.bt.headerCut then erasedTo 512 s.bt.header
  else erasedTo 512 (erasedTo 256 s.bt.header ++ s.slotRecords)

/-- HEADER_READ (R726, Table 22.8). -/
def execHeaderRead (d : Nat) (s : State) : Res :=
  let x := s.desc d
  .next (if !(x.runs? 0x7F && x.e.opA == 4) then s
    else
      let b := s.headerBlock
      let s := if s.hdrWriting then s.draw else s
      let hdrOk := leAt b 0xFC 4 == crc32 (b.take 0xFC)
      let slotOk := leAt b 0x110 4 == crc32 ((b.drop 0x100).take 16)
      s.returnData d x.e.opB b { w0 := b2n hdrOk + 2 * b2n slotOk })

end Sys2Proof.Machine
end

