-- ==== Sys2Proof/Machine/Security.lean ====
section
/-!
DEFINITION. The SE mailbox, tokens, life-cycle changes, tamper alarms, parity of the RTP, the BMC port (Root of Trust, Life Cycle and
Debug; Tenants, Quality of Service, Interrupts and Resets).
-/
namespace Sys2Proof.Machine

/-! ## The BMC port (R468, R507) -/

/-- BMC_PORT_RESET (R507): an I3C target reset action, or with `lost` the loss of the dynamic address. -/
def execBmcPortReset (lost : Bool) (s : State) : Res :=
  let s := s.dropSpdm [1]
  .next { s with
    ports := s.ports.filter (fun p => p.1 != 64)
    mg := { s.mg with asm := s.mg.asm.filter (fun a => a.bind != 1), i3c := if lost then 0 else s.mg.i3c } }

/-- The device's static I3C address (R468). -/
def i3cStatic : Nat := 0x2C

/-- I3C_ADDRESS_ASSIGN (R468): ENTDAA, or SETDASA to the static address 0x2C, in A0 to S3; a SETDASA to another static address is for another target. -/
def execI3cAddressAssign (a : I3cAssign) (s : State) : Res :=
  let given := match a with
    | .entdaa n => some n
    | .setdasa x n => if x = i3cStatic then some n else none
  .next (match given with
    | some n => if (1 < s.ck.power && !s.se.hold) || n = 0 || 126 ≤ n then s else s.onMg (fun g => { g with i3c := n })
    | none => s)

/-! ## The mailbox (R517, R548) -/

/-- A port's mailbox. -/
def State.mbx (s : State) (p : Port) : Mailbox := kvGet {} s.se.mbx (portCode p)

/-- Replaces a port's mailbox. -/
def State.setMbx (s : State) (p : Port) (m : Mailbox) : State := s.onSe (fun e => { e with mbx := kvInsert e.mbx (portCode p) m })

/-- The RTP answers a port's mailbox: PF and control firmware in A0 to A2, BMC in A0 to S3. -/
def State.mbxOn (s : State) (p : Port) : Bool :=
  s.rtpUp &&
    (match p with
    | .pf => s.ck.power == 0
    | .fw => s.ck.power == 0 && s.fld F_TOP_BOOT_STATUS_STAGE == 3
    | .bmc => decide (s.ck.power ≤ 1) || s.se.hold
    | _ => false)

/-- The codes of Table 16.8 that a port may use. -/
def mbxCodes : Port → List Nat
  | .pf => [1, 2, 3, 4, 5, 6, 7, 8, 9, 11]
  | .bmc => [1, 2, 3, 4, 5, 6, 7, 8, 9]
  | .fw => [1, 10]
  | _ => []

/-- Puts a response into a port's buffer: result, length, data. -/
def State.mbxAnswer (s : State) (p : Port) (code : Nat) (data : List Byte) : State :=
  let r := leBytes 2 code ++ leBytes 2 data.length ++ data
  s.setMbx p { buf := r ++ (s.mbx p).buf.drop r.length, st := 2 }

/-- The BAR0 offset of SE_MBX_CTL. -/
def mbxCtlOff : Nat := bar0 21 8

/-- MAILBOX_GO (R548): BUSY, until the command's row answers; a code that the port does not have and a length beyond the buffer are
answered at once. -/
def execMailboxGo (p : Port) (s : State) : Res :=
  let s := s.dropStage p
  .next (if !s.answers p mbxCtlOff then s
    else if mbxCodes p = [] then s.badAccess p mbxCtlOff
    else if !s.mbxOn p || (s.mbx p).st = 1 then s
    else
      let b := (s.mbx p).buf
      let s := s.setMbx p { s.mbx p with st := 1 }
      if !inSet (mbxCodes p) (leAt b 0 2) then s.mbxAnswer p 1 []
      else if 1020 < leAt b 2 2 then s.mbxAnswer p 2 [] else s)

/-- Runs a request of a command that a port's mailbox holds, with its data; a length that is none of `lens` is answered BAD_LENGTH. -/
def State.onMbx (s : State) (p : Port) (cmd : Nat) (lens : List Nat) (f : State → List Byte → State) : Res :=
  let m := s.mbx p
  .next (if !s.mbxOn p || m.st ≠ 1 || leAt m.buf 0 2 ≠ cmd then s
    else
      let n := leAt m.buf 2 2
      if !inSet lens n then s.mbxAnswer p 2 []
      else f s ((m.buf.drop 4 ++ List.replicate n 0).take n))

/-- The event register (Table 16.9). -/
def Vbat.register (v : Vbat) : List Byte :=
  leBytes 1 v.cause ++ leBytes 1 (b2n v.zeroised + 2 * b2n v.battLow) ++ leBytes 1 v.count ++ [0] ++ leBytes 6 v.first ++ leBytes 6 v.last

/-- SE_STATUS, with the debug state (Table 16.10). -/
def State.seStatus (s : State) : Nat :=
  s.lc + s.se.debug * 16 + s.fld F_SE_STATUS_TAMPERED * 64 + b2n (s.se.vbat.wrap != .absent) * 128 + s.fld F_SE_STATUS_RTP_SLOT * 256 +
    s.fld F_SE_STATUS_CTL_SLOT * 512 + s.fld F_SE_STATUS_TRIAL * 1024 + s.fld F_SE_STATUS_RTP_ONLY * 2048

/-- SE_SVN (Table 16.10). -/
def State.seSvn (s : State) : Nat :=
  let f := s.se.fuses
  f.rtpSvn.count + b2n (f.rtpSvn.count == 128) * 256 + f.ctlSvn.count * 65536 + b2n (f.ctlSvn.count == 128) * 2 ^ 24

/-- GET_STATUS. -/
def execGetStatus (p : Port) (s : State) : Res :=
  s.onMbx p 1 [0] (fun s _ => s.mbxAnswer p 0 (leBytes 4 s.seStatus ++ leBytes 4 s.seSvn ++ s.se.vbat.register))

/-- GET_IDENTITY (R526, R527): without an identity no key pair is derived, and the bytes of the key are a free value (log entry 22). -/
def execGetIdentity (p : Port) (s : State) : Res :=
  s.onMbx p 2 [0] (fun s _ =>
    let key := match s.classI with
      | some k => k.device
      | none => Config.signature s.fresh
    s.draw.mbxAnswer p 0 ((key ++ List.replicate 97 0).take 97 ++ s.identity))

/-- Draws a nonce for a port (100 the TAP), which replaces its last one (R545). -/
def State.newNonce (s : State) (port : Nat) : State × List Byte :=
  let n := leBytes 32 (Config.nonce s.fresh)
  (s.draw.onSe (fun e => { e with nonces := kvInsert e.nonces port n }), n)

/-- GET_NONCE (R545). -/
def execGetNonce (p : Port) (s : State) : Res :=
  s.onMbx p 3 [0] (fun s _ =>
    let (s, n) := s.newNonce (portCode p)
    s.mbxAnswer p 0 n)

/-- GET_TAMPER. -/
def execGetTamper (p : Port) (s : State) : Res := s.onMbx p 7 [0] (fun s _ => s.mbxAnswer p 0 s.se.vbat.register)

/-! ## Tokens (Table 16.11, R545, R549, R551) -/

/-- What a token must be: KIND, REQUEST, SIGNER (none: unsigned, R551), and the ports whose last nonce it may carry. -/
structure TokenRule where
  kind : Nat
  request : Nat
  signer : Option Nat
  ports : List Nat
  deriving DecidableEq, Repr

/-- The fuse row that names the key of a token's signer: 0 the vendor, 1 the owner (R549). -/
def State.signerHash (s : State) (k : Nat) : List Byte := if k = 1 then s.se.fuses.owner else s.se.fuses.vendor

/-- A token's signature over its first 96 bytes verifies under the key of its signer, `key` (Table 16.11, R549). -/
def State.tokenSigned (s : State) (k : Nat) (tok key : List Byte) : Bool :=
  keyIs key (s.signerHash k) && ecdsaOk (key.drop 1) (sha384 (tok.take 0x60)) ((tok.drop 0x60).take 96)

/-- The result with which a token is refused, 0 if it is accepted (R549). `key` is the public key of its signer. -/
def State.tokenFault (s : State) (r : TokenRule) (tok : List Byte) (key : List Byte) : Nat :=
  let signed := match r.signer with
    | some k => leAt tok 2 1 == k && s.tokenSigned k tok key
    | none => leAt tok 2 1 == 0 && (tok.drop 0x60).all (fun b => b == 0)
  if leAt tok 0 1 ≠ r.kind || leAt tok 1 1 ≠ r.request || !signed || (tok.drop 8).take 32 ≠ s.identity then 3
  else if !r.ports.any (fun p => kvGet [] s.se.nonces p == (tok.drop 0x28).take 32) then 7
  else 0

/-- Token commands are answered BUSY for 60 s after 8 refusals within 60 s (R549). -/
def State.locked (s : State) : Bool := s.se.lockedUntil != 0

/-- Counts a refused token; the eighth within 60 s starts the lockout (R549). -/
def State.tokenRefused (s : State) : State :=
  let s := s.bump F_SE_AUTH_FAIL_AUTH
  let l := s.se.refused.filter (fun t => decide (s.now - t < 60000000000)) ++ [s.now]
  s.onSe (fun e => { e with refused := l, lockedUntil := if 8 ≤ l.length then s.now + 60000000000 else e.lockedUntil })

/-- An accepted nonce is used up (R545). -/
def State.useNonce (s : State) (tok : List Byte) : State :=
  let n := (tok.drop 0x28).take 32
  s.onSe (fun e => { e with nonces := e.nonces.filter (fun p => p.2 != n) })

/-- Checks a token: the state with the refusal counted or the nonce used, and the result. -/
def State.checkToken (s : State) (r : TokenRule) (tok : List Byte) (key : List Byte) : State × Nat :=
  match s.tokenFault r tok key with
  | 0 => (s.useNonce tok, 0)
  | c => (s.tokenRefused, c)

/-- Runs a token command: BUSY while locked out. -/
def State.onToken (s : State) (p : Port) (cmd : Nat) (lens : List Nat) (f : State → List Byte → State) : Res :=
  if s.locked then
    .next (if !s.mbxOn p || (s.mbx p).st ≠ 1 || leAt (s.mbx p).buf 0 2 ≠ cmd then s else s.mbxAnswer p 5 [])
  else s.onMbx p cmd lens f

/-- TOKEN_LOCKOUT_END (R549). -/
def execTokenLockoutEnd (s : State) : Res := 
  .next (if s.locked && decide (s.se.lockedUntil ≤ s.now) then s.onSe (fun e => { e with lockedUntil := 0, refused := [] }) else s)

/-! ## Debug (R544, R545) -/

/-- The signer that Table 16.7 names for a life-cycle state's debug states. -/
def debugSigner (lc : Nat) : Nat := if lc = 2 then 1 else 0

/-- Enters a debug state; entering invasive debug destroys T in PROVISIONED, and T, W and P in DEPLOYED. -/
def State.enterDebug (s : State) (d : Nat) (unf : List Nat) : State :=
  let s := if d = 2 && (s.lc = 1 || s.lc = 2) then s.loseClass false unf else s
  let s := if d = 2 && s.lc = 2 then (s.loseClass true unf).loseWrap else s
  s.setDebug d (debugSigner s.lc + 1)

/-- A debug token that came through a port, or through the TAP (100): the result. -/
def State.debugToken (s : State) (ports : List Nat) (tok : List Byte) (key : List Byte) (unf : List Nat) : State × Nat :=
  let d := leAt tok 1 1
  if s.lc = 0 || s.lc = 4 then (s, 4)
  else
    let rule : TokenRule := { kind := 1, request := if d = 2 then 2 else 1, signer := some (debugSigner s.lc), ports := ports }
    let (s, c) := s.checkToken rule tok key
    (if c = 0 then s.enterDebug d unf else s, c)

/-- DEBUG_UNLOCK (R545); in BLANK and SCRAPPED debug is invasive at all times (log entry 40). -/
def execDebugUnlock (p : Port) (key : List Byte) (unf : List Nat) (s : State) : Res :=
  s.onToken p 4 [192] (fun s tok =>
    let (s, c) := s.debugToken [portCode p, 100] tok key unf
    s.mbxAnswer p c [])

/-- DEBUG_LOCK (R545). -/
def execDebugLock (p : Port) (s : State) : Res :=
  s.onMbx p 5 [0] (fun s _ => if s.lc = 0 || s.lc = 4 then s.mbxAnswer p 4 [] else (s.setDebug 0 0).mbxAnswer p 0 [])

/-! ## Life-cycle changes (R531 to R534, R551) -/

/-- Table 16.6: the token signer of an allowed transition, none for an unsigned token. -/
def lcRule (a b : Nat) : Option (Option Nat) :=
  match a, b with
  | 0, 1 => some none
  | 0, 4 => some none
  | 1, 2 => some none
  | 1, 3 => some (some 0)
  | 1, 4 => some (some 0)
  | 2, 3 => some (some 1)
  | 2, 4 => some (some 1)
  | 3, 4 => some (some 0)
  | _, _ => none

/-- Bitwise or of two byte strings, as long as the first. -/
def orBytes (a b : List Byte) : List Byte := a.mapIdx (fun i x => x ||| b.getD i 0)

/-- The fuses of a transition can be written (R532, R533): a UDS row is valid or blank; no fuse of the owner hash need be unblown. -/
def State.fusesFit (s : State) (t : Nat) (hash : List Byte) : Bool :=
  if t = 1 then s.udsInForce.isSome || s.se.fuses.uds.any (fun u => u == .blank)
  else if t = 2 then orBytes hash s.se.fuses.owner == hash
  else true

/-- The fuse rows that a transition writes before INTENT; a power loss leaves a UDS row with an invalid CRC, and of the owner hash the
bits in `mask`. -/
def State.lcRows (s : State) (t : Nat) (hash : List Byte) (cut : Bool) (mask : List Byte) : State :=
  let f := s.se.fuses
  if t = 1 then
    if s.udsInForce.isSome then s
    else match f.uds.findIdx? (fun u => u == .blank) with
      | some i => (s.setFuses { f with uds := f.uds.set i (if cut then .part else .valid s.fresh) }).draw
      | none => s
  else if t = 2 then
    s.setFuses { f with owner := if cut then orBytes (hash.mapIdx (fun i x => x &&& mask.getD i 0)) f.owner else hash }
  else s

/-- An accepted change (R531 steps 2 to 6); boundary scan holds the other blocks on until cold reset (R546). `cut` is where main power is lost: 0 nowhere, 1 while fuse rows are written, 2 before INTENT,
3 after INTENT, 4 and 5 while the fuses of INTENT or of COMMIT are programmed, of which the bits of the first byte of `mask` are (R518). -/
def State.lifeCycle (s : State) (t : Nat) (hash : List Byte) (cut : Nat) (mask : List Byte) : State :=
  let s := (s.lcDestroy t).lcRows t hash (cut == 1) mask
  if cut = 1 || cut = 2 then s.holdReset 4
  else
    let some := leAt mask 0 1
    let s := s.blowLc (lcIntent t) (if cut = 4 then some else 15)
    if cut = 3 || cut = 4 then s.holdReset 4
    else
      let s := s.blowLc (lcIntent t + 1) (if cut = 5 then some else 15)
      if cut = 5 then s.holdReset 4
      else if s.se.hold then s.debugAtReset.onSe (fun e => { e with mbx := [] })
      else s.deviceReset 3 0

/-- LC_CHANGE (R531). -/
def execLcChange (p : Port) (key : List Byte) (cut : Nat) (mask : List Byte) (s : State) : Res :=
  s.onToken p 6 [192, 240] (fun s b =>
    let t := leAt b 1 1
    match lcRule s.lc t with
    | none => s.mbxAnswer p 4 []
    | some signer =>
      if (b.length = 240) ≠ (t = 2) then s.mbxAnswer p 2 []
      else
        let (s, c) := s.checkToken { kind := 2, request := t, signer := signer, ports := [portCode p] } (b.take 192) key
        if c ≠ 0 then s.mbxAnswer p c []
        else if !s.fusesFit t (b.drop 192) then s.mbxAnswer p 6 []
        else s.lifeCycle t (b.drop 192) cut mask)

/-! ## Fuses and images (R523, R550) -/

/-- The bytes of a fuse row (Table 16.15); `first` is the first REDUNDANCY entry. -/
def State.fuseRow (s : State) (row first : Nat) : List Byte :=
  let f := s.se.fuses
  let pad (b : List Byte) : List Byte := (b ++ List.replicate 48 0).take 48
  if row = 2 then leBytes 1 (b2n (bit f.revoke.read 0))
  else if row = 0 then pad f.root0
  else if row = 1 then pad f.root1
  else if row = 3 then pad f.vendor
  else if row = 4 then pad f.owner
  else if row = 8 then leBytes 1 f.lc.read
  else if row = 9 then leBytes 16 f.rtpSvn.read
  else if row = 10 then leBytes 16 f.ctlSvn.read
  else if row = 11 then
    ((List.range' first (min 248 (512 - first))).map (fun i => leBytes 4 (if i < f.redund then (Config.redundancy i).toNat else 0))).flatten
  else []

/-- FUSE_READ (R550). -/
def execFuseRead (p : Port) (s : State) : Res :=
  s.onMbx p 9 [4] (fun s b =>
    let row := leAt b 0 1
    let first := leAt b 2 2
    if 11 < row || 511 < first || (first ≠ 0 && row ≠ 11) then s.mbxAnswer p 1 []
    else if 5 ≤ row && row ≤ 7 then s.mbxAnswer p 4 []
    else s.mbxAnswer p 0 (s.fuseRow row first))

/-- Slot `i` in TRIAL is accepted: GOOD, and its component's counter at least the image's SVN (R523). `n` fuses can be programmed before power is
lost; the answer's second part is how many of them are left (R524). -/
def State.acceptTrial (r : State × Nat) (i : Nat) : State × Nat :=
  let (s, n) := r
  let x := s.fwSlot i
  if x.st ≠ 2 then r
  else
    let f := s.se.fuses
    let s := s.setFwSlot i { x with st := 3 }
    let row := if i < 2 then f.rtpSvn else f.ctlSvn
    let t := row.raise (min 128 x.image.svn) n
    (s.setFuses (if i < 2 then { f with rtpSvn := t } else { f with ctlSvn := t }), n - 4 * (min 128 x.image.svn - row.count))

/-- FW_HEALTHY (R523): the slots become GOOD before the counters are raised (log entry 88). With `cut` power is lost when so many fuses have been programmed
(R524). -/
def execFwHealthy (p : Port) (cut : Option Nat) (s : State) : Res :=
  s.onMbx p 10 [0] (fun s _ =>
    let (t, _) := (List.range 4).foldl State.acceptTrial (s, cut.getD 1024)
    if cut.isSome then t.holdReset 4
    else ((t.setFld F_SE_STATUS_TRIAL 0).onSe (fun e => { e with healthy := true })).mbxAnswer p 0 [])

/-- TRIAL_TIMEOUT (R523, R688): 60 s of running time without FW_HEALTHY while a booted image is in TRIAL. -/
def execTrialTimeout (s : State) : Res :=
  .next (if s.firmwareUp && s.fld F_SE_STATUS_TRIAL = 1 && s.fld F_TOP_BOOT_STATUS_MEM_WAIT = 0 && !s.se.healthy then s.deviceReset 4 0
    else s)

/-! ## Tamper (R536 to R543) -/

/-- An enabled tamper input is active. -/
def Vbat.inputActive (v : Vbat) : Bool := v.active.any (fun i => (v.inputs.getD i {}).on)

/-- TAMPER_ACK (R542): in DEPLOYED with an owner token. -/
def execTamperAck (p : Port) (key : List Byte) (s : State) : Res :=
  s.onToken p 8 (if s.lc = 2 then [192] else [0, 192]) (fun s b =>
    let v := s.se.vbat
    if v.inputActive then s.mbxAnswer p 4 []
    else
      let (s, c) := if s.lc = 2 then s.checkToken { kind := 3, request := 0, signer := some 1, ports := [portCode p] } b key else (s, 0)
      if c ≠ 0 then s.mbxAnswer p c []
      else
        let s := s.setVbat { v with zeroised := false, cause := 0, count := 0, first := 0, last := 0 }
        (s.setFld F_SE_STATUS_TAMPERED 0).mbxAnswer p 0 [])

/-- The tamper input that a byte of VBAT_CFG describes. -/
def tamperIn (b : Byte) : TamperIn := { on := bit b.toNat 0, mesh := bit b.toNat 1, level := bit b.toNat 2 }

/-- VBAT_CFG (R543): one byte per input, after an owner token in DEPLOYED. -/
def execVbatCfg (p : Port) (key : List Byte) (s : State) : Res :=
  s.onToken p 11 (if s.lc = 2 then [196] else [4]) (fun s b =>
    if s.lc ≠ 1 && s.lc ≠ 2 then s.mbxAnswer p 4 []
    else
      let (s, c) := if s.lc = 2 then s.checkToken { kind := 4, request := 0, signer := some 1, ports := [portCode p] } (b.take 192) key
        else (s, 0)
      if c ≠ 0 then s.mbxAnswer p c []
      else
        let v := s.se.vbat
        (s.setVbat { v with inputs := (b.drop (b.length - 4)).map tamperIn }).mbxAnswer p 0 [])

/-- What supplies the backup-cell domain besides the cell: the main rails, unless no supply is valid or the device is in S5. -/
def State.mainRails (s : State) : Bool := s.ck.power != 2 && s.ck.power != 4

/-- One step of the LFSR of a mesh. -/
def meshNext (x : BitVec 15) : BitVec 15 :=
  let y := x &&& Config.meshTaps
  (x <<< 1) ||| (BitVec.ofBool ((List.range 15).foldl (fun a i => a ^^ y.getLsbD i) false)).setWidth 15

/-- The LFSR after `n` steps of 1,024 Hz (R536, R741). -/
def meshState : Nat → BitVec 15
  | 0 => Config.meshStart
  | n + 1 => meshNext (meshState n)

/-- The level of a driven TAMPER_OUT at tick `t` of 32.768 kHz: the sequence steps every 32 ticks. -/
def meshLevel (t : Nat) : Bool := (meshState (t / 32)).msb

/-- TAMPER_OUTk: the level the device drives, where input k is enabled in MESH mode (R536, R741). -/
def State.tamperOut (s : State) (k : Nat) : Option Bool :=
  let i := s.se.vbat.inputs.getD k {}
  if i.on && i.mesh then some (meshLevel s.vbatNow) else none

/-- Input `k` sampled at level `l` at tick `t` is active: at its configured level in SWITCH mode, unlike TAMPER_OUTk in MESH mode (R536). -/
def TamperIn.hit (i : TamperIn) (t : Nat) (l : Bool) : Bool := l != (if i.mesh then meshLevel t else !i.level)

/-- The ticks of an input's last samples that decide an alarm, newest first: three in SWITCH mode, the last two LFSR steps in MESH mode. -/
def State.alarmTicks (s : State) (i : TamperIn) : List Nat :=
  let t := s.vbatNow
  if i.mesh then [t / 32 * 32, t / 32 * 32 - 32] else [t, t - 1, t - 2]

/-- The levels, newest first, are active at each of the ticks. -/
def TamperIn.seen (i : TamperIn) (ticks : List Nat) (levels : List Bool) : Bool :=
  decide (ticks.length ≤ levels.length) && (ticks.zip levels).all (fun p => i.hit p.1 p.2)

/-- Alarm `c` can be recognised now: an enabled input that is not active already and whose samples are (0 to 3), CLOCK_STOP (4), VBAT_LOW on
the cell alone (5). -/
def State.alarmDue (s : State) (c : Nat) (levels : List Bool) : Bool :=
  let v := s.se.vbat
  let i := v.inputs.getD c {}
  if c < 4 then i.on && !inSet v.active c && i.seen (s.alarmTicks i) levels else c == 4 || (c == 5 && !s.mainRails)

/-- Input `i` has been inactive for 3 samples of the 32.768 kHz clock (R539). -/
def State.inputQuiet (s : State) (k : Nat) (levels : List Bool) : Bool :=
  let t := s.vbatNow
  decide (3 ≤ levels.length) && ([t, t - 1, t - 2].zip levels).all (fun p => !(s.se.vbat.inputs.getD k {}).hit p.1 p.2)

/-- What the RTP does at an alarm while it runs (R540, R547): class W goes, in the key table or in retention SRAM, and TAMPERED sets. -/
def State.rtpAlarm (s : State) (unf : List Nat) : State :=
  if (s.ck.power ≤ 1 || s.se.hold) && s.rtpUp then
    let s := s.loseClass true unf
    let r := s.ck.retained.map (fun (p : Nat × KeySlot) => (p.1, if p.2.kind == 4 && p.2.st != .free then
      { st := .lost, kind := 4, tenant := p.2.tenant, gen := (p.2.gen + 1) % 65536 } else p.2))
    (s.onCk (fun c => { c with retained := r })).setFld F_SE_STATUS_TAMPERED 1
  else s

/-- An input that has been recognised is active until its release (R539). -/
def Vbat.mark (v : Vbat) (c : Nat) : Vbat := { v with active := if c < 4 then setInsert v.active c else v.active }

/-- TAMPER_ALARM (R536, R538, R540): the first since the last TAMPER_ACK; `levels` are the input's last samples, newest first. -/
def execTamperAlarm (c : Nat) (levels : List Bool) (unf : List Nat) (s : State) : Res :=
  let v := s.se.vbat
  .next (if !s.alarmDue c levels || v.zeroised then s
    else
      let v := { v.mark c with
        wrap := .absent, zeroised := true, cause := if bit v.cause c then v.cause else v.cause + 2 ^ c, first := s.vbatNow }
      (s.setVbat v).rtpAlarm unf)

/-- TAMPER_ALARM_REPEAT (R539, R540): an alarm while ZEROISED is set. -/
def execTamperAlarmRepeat (c : Nat) (levels : List Bool) (unf : List Nat) (s : State) : Res :=
  let v := s.se.vbat
  .next (if !s.alarmDue c levels || !v.zeroised then s
    else
      let v := { v.mark c with
        cause := if bit v.cause c then v.cause else v.cause + 2 ^ c, last := s.vbatNow, count := min 255 (v.count + 1) }
      (s.setVbat v).rtpAlarm unf)

/-- TAMPER_INPUT_RELEASE (R539). -/
def execTamperInputRelease (i : Nat) (levels : List Bool) (s : State) : Res :=
  .next (if s.inputQuiet i levels then s.setVbat { s.se.vbat with active := setErase s.se.vbat.active i } else s)

/-- BATT_LOW (R537). -/
def execBattLow (s : State) : Res := .next (if s.mainRails then s.setVbat { s.se.vbat with battLow := true } else s)

/-- VBAT_LOST (R541, R543, R665): with the main rails down the cell fails too; class P, the fatal store and the counter go, and the tamper
configuration is the default. -/
def execVbatLost (s : State) : Res :=
  .next (if s.mainRails then s
    else
      let t := (2 ^ 48 - s.now * 32768 / 1000000000 % 2 ^ 48) % 2 ^ 48
      let s := s.setVbat { lost := true, ticks := t }
      { s with er := { s.er with store := {}, storeValid := false, storeCount := 0 } })

/-! ## Parity in the RTP's memories (R555) -/

/-- Retention SRAM zeroised: the bytes 0 to 65,535 of the private SRAM (R555; log entry 149). -/
def zeroRetention (m : KV Byte) : KV Byte := (List.range 65536).map (fun i => (i, 0)) ++ m.filter (fun p => decide (65536 ≤ p.1))

/-- RTP_PARITY (R555): key table and retention SRAM are zeroised, and the error is fatal. -/
def execRtpParity (unf : List Nat) (s : State) : Res :=
  .next (if 1 < s.ck.power || s.fld F_TOP_BOOT_STATUS_STAGE = 0 then s
    else
      let s := (s.loseClass true unf).loseClass false unf
      let s := (s.onCk (fun c => { c with retained := [] })).onSe (fun e => { e with sram := zeroRetention e.sram })
      s.reportReset { kind := 0x44, utype := 19, cls := 3 })

end Sys2Proof.Machine
end

