-- ==== Sys2Proof/Machine/Electrical.lean ====
section
/-!
DEFINITION. Temperature sensors of die, stacks and DIMMs (Electrical, Thermal and Package).
-/
namespace Sys2Proof.Machine

/-- THERMAL_WARNING (R744): source `src` (0 to 23 a die sensor, 24 to 27 a stack, 28 to 59 a DIMM) rises through its warning level; `fell`
are the sources that have fallen 5 °C below theirs since. -/
def execThermalWarning (src : Nat) (fell : List Nat) (s : State) : Res :=
  let hot := s.bt.hotSensors.filter (fun x => !inSet fell x)
  let s : State := { s with bt := { s.bt with hotSensors := hot } }
  .next (if 60 ≤ src || inSet hot src || s.ck.power ≠ 0 then s
    else { s with bt := { s.bt with hotSensors := setInsert hot src } }.devEvent 5)

/-- A source of temperature that can trip: a die sensor (0 to 23), or a stack (24 to 27) in service (R745). -/
def State.tripSource (s : State) (src : Nat) : Bool :=
  decide (src < 24) || (decide (src < 28) && inSet s.stacks (src - 24) && s.inService (src - 8))

/-- THERMTRIP (R745, R746) of source `src`: THERMTRIP_N goes low until the supplies are removed, loop 0 faults with cause THERMAL, and the
device holds. -/
def execThermtrip (src : Nat) (s : State) : Res :=
  .next (if s.bt.thermtrip || s.ck.power = 4 || !s.tripSource src then s
    else
      let s : State := { s.emit (.pin .thermtripN false) with bt := { s.bt with thermtrip := true } }
      let s := if s.loopSt 0 = 1 || s.loopSt 0 = 2 then ((s.turnOff 0 3).setFld F_PW_L_STATUS_CAUSE 6 0).railAlert 0 else s
      s.reportHold { kind := 0x39, utype := 15, inst := 0, cls := 3, data := 6 })

end Sys2Proof.Machine
end

