-- ==== Sys2Proof/Machine/Solver.lean ====
section
/-!
DEFINITION. PLACE and the placement engine (The Placement Solver).
-/
namespace Sys2Proof.Machine

/-! ## The matrix -/

/-- Rows of a request (Table 9.2). -/
def placeRows (b : List Byte) : Nat := bits (leAt b 0 4) 0 7

/-- Columns of a request. -/
def placeCols (b : List Byte) : Nat := bits (leAt b 0 4) 8 7

/-- The cost of a row and column (R293). -/
def placeCost (b : List Byte) (i j : Nat) : Nat := leAt b (64 + 2 * (i * placeCols b + j)) 2

/-- The header and length checks of PLACE (R286, R293). -/
def placeOk (b : List Byte) (len : Nat) : Bool :=
  let r := placeRows b
  let c := placeCols b
  let w := leAt b 0 4
  decide (1 ≤ r) && decide (r ≤ 64) && decide (1 ≤ c) && decide (c ≤ 64) && !bit w 7 && bits w 15 17 == 0 &&
    leAt b 4 60 == 0 && len == 64 + 2 * r * c

/-! ## Feasibility (R287) -/

/-- Searches an augmenting path from a row: success, columns visited, the row held by each column. -/
def tryRow (ok : Nat → Nat → Bool) (cols : Nat) : Nat → Nat → List Nat → List (Option Nat) →
    Bool × List Nat × List (Option Nat)
  | 0, _, seen, m => (false, seen, m)
  | n + 1, i, seen, m =>
    (List.range cols).foldl (fun acc j =>
      if acc.1 || !ok i j || inSet acc.2.1 j then acc
      else
        let seen := j :: acc.2.1
        match acc.2.2.getD j none with
        | none => (true, seen, acc.2.2.set j (some i))
        | some k =>
          let r := tryRow ok cols n k seen acc.2.2
          if r.1 then (true, r.2.1, r.2.2.set j (some i)) else (false, r.2.1, r.2.2)) (false, seen, m)

/-- Assigns rows one after another: the number assigned, the first row that could not be, the columns' rows. -/
def matchRows (ok : Nat → Nat → Bool) (cols : Nat) : List Nat → Nat × Option Nat × List (Option Nat) →
    Nat × Option Nat × List (Option Nat)
  | [], a => a
  | i :: l, (n, bad, m) =>
    let r := tryRow ok cols (cols + 1) i [] m
    if r.1 then matchRows ok cols l (n + 1, bad, r.2.2) else matchRows ok cols l (n, some (bad.getD i), m)

/-- The largest number of rows assignable and the least blocking row, if one blocks. -/
def feasibility (b : List Byte) : Nat × Option Nat :=
  let c := placeCols b
  let r := matchRows (fun i j => placeCost b i j != 0xFFFF) c (List.range (placeRows b)) (0, none, List.replicate c none)
  (r.1, r.2.1)

/-! ## The auction (R288) -/

/-- The scaled costs: one list per row, `none` for a forbidden pair. -/
def weights (b : List Byte) : List (List (Option Nat)) :=
  let c := placeCols b
  let r := placeRows b
  (List.range c).map (fun i => (List.range c).map (fun j =>
    if i < r then
      (if placeCost b i j = 0xFFFF then none else some ((placeCost b i j * 131072 + (i + 1) * j) * (c + 1)))
    else some 0))

/-- The state of the auction: prices, the row each column holds, the list of rows, bids made. -/
structure Auction where
  price : List Nat
  holds : List (Option Nat)
  todo : List Nat
  bids : Nat := 0
  deriving DecidableEq, Repr

/-- The best column of a row with its value and the second value: ties to the lower column. -/
def bestTwo (l : List (Nat × Nat)) : Option (Nat × Nat × Nat) :=
  match l.foldl (fun (acc : Option (Nat × Nat)) p => match acc with
      | none => some p
      | some a => if p.2 < a.2 then some p else some a) none with
  | none => none
  | some (j, v) =>
    let rest := (l.filter (fun p => p.1 != j)).map (·.2)
    some (j, v, match rest with | [] => v | a :: t => t.foldl min a)

/-- One bid. -/
def Auction.bid (a : Auction) (w : List (List (Option Nat))) (eps : Nat) : Auction :=
  match a.todo with
  | [] => a
  | i :: l =>
    let row := w.getD i []
    let vals := (row.zip (List.range row.length)).filterMap (fun p => p.1.map (fun x => (p.2, x + a.price.getD p.2 0)))
    match bestTwo vals with
    | none => { a with todo := l }
    | some (j, v1, v2) =>
      { price := a.price.set j (a.price.getD j 0 + (v2 - v1) + eps)
        todo := l ++ (match a.holds.getD j none with | some k => [k] | none => [])
        holds := a.holds.set j (some i), bids := a.bids + 1 }

/-- Bids until the list is empty. -/
def Auction.run (w : List (List (Option Nat))) (eps : Nat) : Nat → Auction → Auction
  | 0, a => a
  | n + 1, a => if a.todo.isEmpty then a else Auction.run w eps n (a.bid w eps)

/-- A number of bids that no phase of a 64 × 64 auction reaches. -/
def bidFuel : Nat := 2 ^ 62

/-- The phases, from an epsilon on: the auction's end and the phases run. -/
def phases (w : List (List (Option Nat))) (c : Nat) : Nat → Nat → Auction → Nat → Auction × Nat
  | 0, _, a, n => (a, n)
  | k + 1, eps, a, n =>
    let a := Auction.run w eps bidFuel { a with holds := List.replicate c none, todo := List.range c }
    if eps = 1 then (a, n + 1) else phases w c k (max 1 (eps / 8)) a (n + 1)

/-- The solve: the column of each row, phases, bids. -/
def solve (b : List Byte) : List Nat × Nat × Nat :=
  let c := placeCols b
  let w := weights b
  let top := (w.flatten.filterMap id).foldl max 0
  let eps := if top / 8 = 0 then 1 else 2 ^ Nat.log2 (top / 8)
  let (a, n) := phases w c 40 eps { price := List.replicate c 0, holds := [], todo := [] } 0
  ((List.range (placeRows b)).map (fun i => a.holds.findIdx (fun h => h == some i)), n, a.bids)

/-! ## The engine -/

/-- The PLACE commands that wait for the engine. -/
def State.solverWaiters (s : State) : List (Nat × Desc) := s.q.descs.filter (fun p => p.2.stage == .wait .solver)

/-- The engine starts a command. -/
def State.startSolve (s : State) (d : Nat) : State :=
  let t := (s.desc d).e.tenant
  { s.stage d .exec with pl := { s.pl with running := some d, started := s.now, last := t } }

/-- PLACE (R284 to R289, R293): a pulled request is checked; the command waits for the engine, and with a budget of 0 starts
at once or ends. -/
def execPlace (d : Nat) (s : State) : Res :=
  let x := s.desc d
  .next (if !x.runs? 0x50 || s.domGated 56 then s
    else if !placeOk x.blk x.e.len then s.refuseLate d 3
    else if s.budget x.e = 0 then
      if s.pl.running.isNone && s.solverWaiters.isEmpty && !s.domFailed 56 then s.startSolve d else s.finish d .busy
    else s.stage d (.wait .solver))

/-- The next waiting PLACE: round-robin across tenants, within a tenant in the order in which their fence waits ended (R289). -/
def State.nextSolve (s : State) : Option Nat :=
  let ws := s.solverWaiters
  match (if s.domFailed 56 then [] else roundFrom s.pl.last).find? (fun t => ws.any (fun p => p.2.e.tenant == t)) with
  | none => none
  | some t =>
    ((ws.filter (fun p => p.2.e.tenant == t)).foldl (fun (acc : Option (Nat × Desc)) p => match acc with
      | none => some p
      | some a => if p.2.aux < a.2.aux then some p else some a) none).map (·.1)

/-- SOLVER_START (R289): the free engine starts the next waiting PLACE. -/
def execSolverStart (s : State) : Res :=
  .next (if s.pl.running.isSome || s.domGated 56 then s
    else match s.nextSolve with
    | some d => s.startSolve d
    | none => s)

/-- SOLVER_WAIT_EXPIRED (R289, R756): E_BUSY, unless the engine has come free for the command in that tick. -/
def execSolverWaitExpired (d : Nat) (s : State) : Res :=
  .next (if (s.desc d).stage ≠ .wait .solver || !s.waitedOut (s.desc d) (s.budget (s.desc d).e) then s
    else if s.pl.running.isNone && s.nextSolve == some d then s.startSolve d
    else s.finish d .busy)

/-- The output records of PLACE (Table 9.3). -/
def placeBytes (b : List Byte) (cols : List Nat) : List Byte :=
  ((cols.zip (List.range cols.length)).map (fun p => leBytes 2 p.1 ++ leBytes 2 (placeCost b p.2 p.1))).flatten

/-- SOLVE_COMPLETE (R284, R285, R287, R288, R291): the output records are written, or E_FEASIBILITY says what blocks. An output that waits for
its unit or its tenant's cap keeps the engine (R318, R497). -/
def execSolveComplete (s : State) : Res :=
  .next (match s.pl.running with
    | none => s
    | some d =>
      let x := s.desc d
      let time := (s.now - s.pl.started) % 2 ^ 32
      let s0 := s
      let s := s.leaveEngine d
      let s := s.setFld F_PL_LAST_TIME_TICKS time
      match feasibility x.blk with
      | (n, some r) => (s.bump F_PL_INFEAS_CNT_INFEAS).finish d .feasibility { w0 := n, w1 := r, w3 := time }
      | _ =>
        let (cols, ph, bids) := solve x.blk
        let cost := ((cols.zip (List.range cols.length)).map (fun p => placeCost x.blk p.2 p.1)).foldl (· + ·) 0
        let b := placeBytes x.blk cols
        let r : Result := { w0 := cost, w1 := ph, w2 := bids % 2 ^ 32, w3 := time }
        if x.e.flag 9 && s0.outWaits x x.e.dest b.length then s0
        else if x.e.flag 9 then
          let (s, m) := s.writeAllOrNone x.dst x.dmeta x.e.dest b {} x.who
          if m.status = .ok then (s.bump F_PL_SOLVES_SOLVES).finish d .ok r else s.finish d m.status
        else (s.bump F_PL_SOLVES_SOLVES).returnData d x.e.dest b r)

/-- PL_PARITY (R296): the solve starts again once, counted and recorded, a recovery that lasts until the solve ends; a second error in the
command ends it, and the restart has failed. -/
def execPlParity (s : State) : Res :=
  .next (match s.pl.running with
    | none => s
    | some d =>
      let x := s.desc d
      let info : ErrInfo := {
        kind := 0x12, utype := 8, cls := 1, recov := true, tenant := x.e.tenant, ctx := errCtx x.q 0, tag := x.e.tag }
      if inSet s.pl.redone x.seq then
        let s := { s with pl := { s.pl with redone := s.pl.redone.filter (fun k => k != x.seq) } }
        ((s.finish d .aborted {} 0x60).report
          { info with cls := 2, norec := true, status := Status.aborted.code, detail := 0x60 }).recoveryEnd 8 0 false
      else
        let s := { s with pl := { s.pl with redone := setInsert s.pl.redone x.seq } }
        (s.bump F_PL_RERUN_CNT_RERUN).report info)

end Sys2Proof.Machine
end

