-- ==== Sys2Proof/Machine/StacksCache.lean ====
section
/-!
DEFINITION. PIN, the partitions of the stacks cache, and the parity errors of the stacks cache, the scratch and the
read-only caches (Stacks Cache, Scratch and Read-Only Caches).
-/
namespace Sys2Proof.Machine

/-- Writes a pin class into the valid named entries, counting those that change; the answer lists their old classes. -/
def State.pinEntries (s : State) (t pin : Nat) : List Nat → List Nat → State × List Nat
  | [], old => (s, old)
  | k :: l, old =>
    let e := s.entry t k
    if e.valid && e.pin != pin then (s.setEntry t k { e with pin := pin }).pinEntries t pin l (e.pin :: old)
    else s.pinEntries t pin l old

/-- PIN (R60, R68, R242): a grant inside a map window; the walks follow when the window closes. -/
def execPin (d : Nat) (s : State) : Res :=
  let x := s.desc d
  let t := x.e.tenant
  .next (if !x.runs? 0x15 || s.inWindow t then s
    else
      let (s, old) := (s.mirrorWrites t (x.e.tfns.filter (fun k => (s.entry t k).valid))).pinEntries t (bits x.e.spec 0 4) x.e.tfns []
      let s := s.setDesc d { x with list := old.eraseDups }
      s.holdWindow d .ok (s.mapResult t old.length 0 0) false)

/-- A sweep touches a partition (SK_P_STATUS.SWEEP). -/
def State.sweeping (s : State) (k : Nat) : Bool := s.sk.sweeps.any (fun w => inSet w.parts k)

/-- The acceptance number of the oldest descriptor in flight. -/
def State.oldestSeq (s : State) : Nat := (s.q.descs.map (fun p => p.2.seq)).foldl min s.q.nextSeq

/-- PIN_SECOND_WALK (R243): the oldest descriptor in flight was accepted after the map window of a PIN. -/
def execPinSecondWalk (s : State) : Res :=
  .next { s with sk := { s.sk with sweeps := s.sk.sweeps.map (fun (w : Sweep) =>
    if w.seq ≤ s.oldestSeq then { w with started := true } else w) } }

/-- PIN_SECOND_WALK_END (R243): the walk that started first has retagged the lines of its folios; SWEEP clears. -/
def execPinSecondWalkEnd (s : State) : Res :=
  .next (match s.sk.sweeps.find? (·.started) with
    | none => s
    | some w =>
      let s := s.walkFolios w.pin w.dfns
      { s with sk := { s.sk with sweeps := s.sk.sweeps.erase w } })

/-- Turns lines of a partition into NORMAL lines (R244, R245). -/
def State.unpinLines (s : State) (p : Line → Bool) : State :=
  (s.sk.sets.map (·.1)).foldl (fun s k =>
    let c := s.cset k
    s.setCset k { c with lines := c.lines.map (fun (l : Line) => if p l then { l with pin := 0, hint := .normal } else l) }) s

/-- SK_P_FLUSH (R244, R250, R252): every line pinned in the partition becomes a NORMAL line; ignored while a flush runs. -/
def execSkPFlush (p : Port) (k : Nat) (s : State) : Res :=
  .next (s.ctlWrite p (bar0 5 0x1008) (fun s =>
    if 8 ≤ k || inSet s.sk.flushing k then s
    else { s.unpinLines (fun l => l.pin == k + 1) with sk :=
      { (s.unpinLines (fun l => l.pin == k + 1)).sk with flushing := setInsert s.sk.flushing k } }))

/-- FLUSH_END (R252). -/
def execFlushEnd (k : Nat) (s : State) : Res :=
  .next { s with sk := { s.sk with flushing := setErase s.sk.flushing k } }

/-- The sum of all partition limits (SK_PIN_SUM). -/
def State.pinSum (s : State) : Nat :=
  ((List.range 8).map (fun i => s.fld F_SK_P_LIMIT_LIMIT i)).foldl (· + ·) 0

/-- SK_P_LIMIT_WRITE (R245, R250, R251): taken at once unless the sum of limits would exceed 196,608; a limit below USED
starts the demotion. -/
def execSkPLimitWrite (p : Port) (k v : Nat) (s : State) : Res :=
  .next (s.ctlWrite p (bar0 5 0x1000) (fun s =>
    let v := v % 2 ^ 18
    if 8 ≤ k then s
    else if 196608 < s.pinSum - s.fld F_SK_P_LIMIT_LIMIT k + v then s.badAccess p (bar0 5 0x1000)
    else
      let s := s.setFld F_SK_P_LIMIT_LIMIT v k
      if v < s.fld F_SK_P_USED_USED k then
        { s with sk := { s.sk with demoting := setInsert s.sk.demoting k } }
      else { s with sk := { s.sk with demoting := setErase s.sk.demoting k } }))

/-- The lines pinned in a partition, least recently accessed first: within a set its own order, in which a later EVICT_FIRST fill is the less recent
(R235). -/
def State.pinnedLines (s : State) (k : Nat) : List Line :=
  let ls := ((s.sk.sets.map (fun p => (p.2.lines.filter (fun l => l.pin == k + 1)).reverse)).flatten)
  ls.foldl (fun acc l => acc.takeWhile (fun x => decide (x.last ≤ l.last)) ++ l ::
    acc.dropWhile (fun x => decide (x.last ≤ l.last))) []

/-- DEMOTE_END (R245): lines of the partition are demoted, least recently accessed first, until USED equals LIMIT. -/
def execDemoteEnd (k : Nat) (s : State) : Res :=
  .next (if !inSet s.sk.demoting k then s
    else
      let n := s.fld F_SK_P_USED_USED k - s.fld F_SK_P_LIMIT_LIMIT k
      let secs := ((s.pinnedLines k).take n).map (·.sec)
      let s := s.unpinLines (fun l => l.pin == k + 1 && inSet secs l.sec)
      { s with sk := { s.sk with demoting := setErase s.sk.demoting k } })

/-- SK_DATA_PARITY (R254, R256): the line is invalidated, counted and recorded; the third error of its set in 1 s disables
the set. -/
def execSkDataParity (sec : Nat) (s : State) : Res :=
  .next (if !(s.cset (setOf sec)).lines.any (fun l => l.sec == sec) then s
    else
      let s := (s.cacheDrop sec).bump F_SK_PARITY_CNT_DATA
      s.reportCured { kind := 0x08, utype := 5, inst := setOf sec, cls := 1, recov := true, dpa := sec * 256
                      tenant := (s.owner (sec / 256)).tenant })

/-- SK_TAG_PARITY (R255, R256): all lines of the set are invalidated. -/
def execSkTagParity (set : Nat) (s : State) : Res :=
  .next (if 24576 ≤ set || (s.cset set).off then s
    else
      let s := (s.setCset set { s.cset set with lines := [] }).bump F_SK_TAG_PARITY_CNT_TAG
      s.reportCured { kind := 0x09, utype := 5, inst := set, cls := 1, recov := true })

/-- SCRATCH_PARITY (R257): an uncorrected carrel error. -/
def execScratchParity (c : Nat) (s : State) : Res := .next (s.carrelFault c)

/-- RO_CACHE_PARITY (R258): the entry is invalidated and fetched again from its source, counted and recorded; the task goes on. The command
names no entry: each holds what its source says afterwards. -/
def execRoCacheParity (c : Nat) (s : State) : Res :=
  .next (if 64 ≤ c then s
    else ((s.refetch c).bump F_SK_RO_PARITY_CNT_RO).reportCured
      { kind := 0x0A, utype := 6, inst := c / 8, cls := 1, recov := true })

end Sys2Proof.Machine
end

