-- ==== Sys2Proof/Machine/RegRead.lean ====
section
/-!
DEFINITION. Register reads: the select windows, what each register field reads as, the 64-bit registers and their read latch (Scope, Roles and
Conventions; Register Map).
-/
namespace Sys2Proof.Machine

/-! ## Instances and the select windows (R19 to R26, Table 22.1) -/

/-- COUNT of a block: one more than its highest instance ID. -/
def State.blockCount (s : State) (blk : Nat) : Nat :=
  ([0, 65536, 8192, 256, 64, 8, 8, 0, 16, if s.fld F_TOP_ID_STACKS == 2 then 64 else 128, 36, 48, 32,
    if s.fld F_HP_STATUS_CXL == 1 then 0 else 16, 1024, 64, 0, 256, 60, 56, 0, 0, 0] : List Nat).getD blk 0

/-- The instance that a VF may select: of its tenant in QE and FN, its own in TN and IR (R22, R709). -/
def State.vfRange (s : State) (n blk i : Nat) : Bool :=
  match (s.hostFn n).tenant with
  | none => blk == 15 && i == n
  | some t =>
    if blk = 1 then (s.queue i).isBound && (s.queue i).tenant == t
    else if blk = 2 then
      if i < 4096 then (s.fence i).bound && (s.fence i).tenant == t
      else (s.stream (i - 4096)).st != .free && (s.stream (i - 4096)).tenant == t
    else if blk = 14 then i == t
    else blk == 15 && i == n

/-- An instance is in range for a port (R22); integrity targets 18 and 19 are the stacks that the A2 lacks. -/
def State.inRange (s : State) (p : Port) (blk i : Nat) : Bool :=
  decide (i < s.blockCount blk) && !(blk == 10 && (i == 18 || i == 19) && s.fld F_TOP_ID_STACKS == 2) &&
    (match p with | .vf n => s.vfRange n blk i | _ => true)

/-- The instance a port has selected in a block. -/
def State.selected (s : State) (p : Port) (blk : Nat) : Nat := kvGet 0 (s.bank p).sel blk

/-- The blocks of a VF's BAR0 (R27). -/
def vfBlock (blk : Nat) : Bool := blk == 1 || blk == 2 || blk == 14 || blk == 15

/-- The kind of instance that an index selects (R152, Tables 19.6 to 19.8). -/
def windowKind (blk i : Nat) : RegKind :=
  if blk = 2 then (if i < 4096 then .fence else .stream)
  else if blk = 19 then (if i < 8 then .loop else if i < 48 then .phase else .therm)
  else .plain

/-- What an offset holds for a port: nothing, a window under INVALID, the select pair, word `n` of a register of an instance, the vector
registers of a function whose VSEL is out of range, word `k` of an error-ring slot, of an MSI-X table entry, of a PBA. -/
inductive Place where
  | empty
  | dark
  | sel (blk : Nat)
  | selStatus (blk : Nat)
  | word (w : RegWord) (n inst : Nat)
  | noVector
  | slot (i k : Nat)
  | vec (fn v k : Nat)
  | pba (fn k : Nat)
  deriving DecidableEq, Repr

/-- The register word at an offset of a block. -/
def wordAt (blk o : Nat) (k : RegKind) : Option RegWord :=
  regWords.find? (fun w => w.blk == blk && w.kind == k && decide (w.off ≤ o) && decide (o < w.off + 4 * w.cnt))

/-- The MSI-X areas of a function's own BAR0 (R708): PF and VFs have them. -/
def msixPlace (fn o : Nat) : Place :=
  if 0xC0000 ≤ o then (if o < 0xC0000 + vectorCount fn / 8 then .pba fn ((o - 0xC0000) / 4) else .empty)
  else if o < 0x80000 + 16 * vectorCount fn then .vec fn ((o - 0x80000) / 16) ((o - 0x80000) % 16 / 4) else .empty

/-- The instance whose entry in the register table a window register has: the vector that VSEL names for IR_F_COAL, VPEND and SENT. -/
def State.windowPlace (s : State) (blk o i : Nat) : Place :=
  if blk = 17 then (if o < 0x1040 then .slot i ((o - 0x1000) / 4) else .empty)
  else match wordAt blk o (windowKind blk i) with
    | none => .empty
    | some w =>
      let n := (o - w.off) / 4
      if blk = 15 && decide (0x1004 ≤ o) && decide (o ≤ 0x100F) then
        let v := s.fld F_IR_F_VSEL_VSEL i
        if vectorCount i ≤ v then .noVector else .word w n (vecKey i v)
      else .word w n (if blk = 2 && decide (4096 ≤ i) then i - 4096 else i)

/-- What a BAR0 offset holds for a port (R12, R19, R24, R27, R707 to R709). -/
def State.place (s : State) (p : Port) (off : Nat) : Place :=
  let blk := off / 0x100000
  let o := off % 0x100000 / 4 * 4
  let vf := match p with | .vf _ => true | _ => false
  if 22 < blk || (vf && (!vfBlock blk || decide (o < 0x800))) then .empty
  else if o = 0x800 then .sel blk
  else if o = 0x804 then .selStatus blk
  else if o < 0x800 then (match wordAt blk o .plain with | some w => .word w ((o - w.off) / 4) 0 | none => .empty)
  else if 0x1000 ≤ o && o < 0x2000 then
    if s.inRange p blk (s.selected p blk) then s.windowPlace blk o (s.selected p blk) else .dark
  else if blk = 15 && 0x80000 ≤ o then
    match p with
    | .pf => msixPlace 0 o
    | .vf n => msixPlace n o
    | _ => .empty
  else .empty

/-! ## What the fields read as -/

/-- Bits as a number, bit `i` from a test. -/
def mask (n : Nat) (p : Nat → Bool) : Nat := ((List.range n).map (fun i => b2n (p i) * 2 ^ i)).foldl (· + ·) 0

/-- Four-bit codes packed into a number. -/
def nibbles (n : Nat) (f : Nat → Nat) : Nat := ((List.range n).map (fun i => f i % 16 * 16 ^ i)).foldl (· + ·) 0

/-- The bytes of an error record (Table 20.3). -/
def ErrRec.bytes (r : ErrRec) : List Byte :=
  leBytes 8 r.ts ++ leBytes 4 r.seq ++
    leBytes 1 (r.cls + 4 * b2n r.recov + 8 * b2n r.nested + 16 * b2n r.esc + 32 * b2n r.prevBoot) ++ leBytes 1 r.utype ++ leBytes 2 r.inst ++
    leBytes 2 r.kind ++ leBytes 2 r.tenant ++ leBytes 4 r.ctx ++ leBytes 8 r.dpa ++ leBytes 4 r.tag ++ leBytes 1 r.status ++
    leBytes 1 r.detail ++ leBytes 1 r.outcome ++ leBytes 1 r.window ++ leBytes 4 r.related ++ leBytes 4 0 ++ leBytes 16 r.data

/-- A queue's head entry waits at Table 2.4 step 4 or 9 (QE_Q_STATUS.ACCEPT_WAIT). -/
def Queue.acceptWait (x : Queue) : Bool :=
  match x.fetched with
  | f :: _ => f.hold = .window || f.hold = .resources
  | [] => false

/-- The summary state of R591. -/
def State.powerState (s : State) : Nat :=
  if s.ck.slow then 2
  else if (List.range 8).any (fun k => decide ((s.cluster k).st ≤ 1)) || !s.lk.asleep.isEmpty ||
      [55, 56, 57].any (fun k => kvGet 0 s.ck.dom k == 1) then 1
  else 0

/-- CK_D_STATUS.RUN of a domain (Table 18.1): 0 running, 1 gated, 2 off, 3 FAULT. -/
def State.domRun (s : State) (k : Nat) : Nat :=
  if !s.domExists k then 2
  else if s.domFailed k then 3
  else if 1 ≤ k && k ≤ 8 then
    let st := (s.cluster (k - 1)).st
    if st = 0 || st = 4 then 2 else if st ≤ 2 then 1 else 0
  else if 9 ≤ k && k ≤ 16 then
    let t := (k - 9) / 2
    if !bit (s.fld F_HB_STATUS_SET) t then 2 else b2n (s.dram (16 + 32 * t)).selfRef
  else if 17 ≤ k && k ≤ 32 then
    let st := s.unitState (k - 17)
    if st = 0 || 4 ≤ st then 2 else b2n (s.dram (k - 17)).selfRef
  else if 33 ≤ k && k ≤ 44 then b2n (inSet s.lk.asleep (k - 33))
  else if k = 45 then (if s.hostLinkUp then 0 else 2)
  else kvGet 0 s.ck.dom k

/-- CK_D_STATUS.MHZ of a domain that runs, rounded down (Table 18.1). -/
def State.domMhz (s : State) (k : Nat) : Nat :=
  let fabric := if s.ck.slow then 400 else 1600
  if s.domRun k ≠ 0 then 0
  else if 1 ≤ k && k ≤ 8 then (if (s.cluster (k - 1)).st = 3 then s.clockNow (k - 1) else s.clusterMhz (k - 1))
  else if 9 ≤ k && k ≤ 16 then 1200
  else if 17 ≤ k && k ≤ 32 then ([0, 1200, 1400, 1600, 2000, 2200] : List Nat).getD s.mc.rate 0
  else if 33 ≤ k && k ≤ 44 then 0
  else if k = 45 then Config.pcieMhz (s.fld F_HP_STATUS_RATE)
  else ([(0, fabric), (46, 25), (47, fabric), (48, 800), (49, 25), (51, 102), (52, 409), (53, fabric), (54, fabric), (55, 1000), (56, 1000),
    (57, 1500), (58, 1000)] : KV Nat).foldl (fun m x => if x.1 = k then x.2 else m) 0

/-- The time that is left of a hold-off, in whole seconds begun (LK_L_HOLD.REMAIN). -/
def State.holdRemain (s : State) (l : Nat) : Nat :=
  if (s.link l).st = .held then ceilDiv ((s.link l).heldUntil - s.now) 1000000000 else 0

/-- CN_M_STATUS.PEER of a member: the best of its links, VERIFIED before UNVERIFIED before FAILED. -/
def State.memberPeer (s : State) (m : Nat) : Nat :=
  let ls := (List.range 48).filter (fun l => (s.link l).partner.any (fun x => x.role == 0 && x.member == m))
  if ls.any (fun l => s.peer l == 2) then 2 else if ls.any (fun l => s.peer l == 1) then 1
  else if ls.any (fun l => s.peer l == 3) then 3 else 0

/-- A member of the adopted record. -/
def State.listed (s : State) (m : Nat) : Bool := decide (s.cn.st ≠ .standalone) && recPresent s.cn.record m

/-- The fields of a queue that report its state (Tables 2.8, 3.7, 3.8). -/
def State.viewQE (s : State) (i : Nat) : List (Fld × Nat) :=
  let x := s.queue i
  [(F_QE_DESC_FREE_FREE, s.descFree), (F_QE_XSTORE_FREE_FREE, s.runsFree),
    (F_QE_FROZEN_CNT_FROZEN, (s.q.tab.filter (fun p => p.2.st = .frozen)).length),
    (F_QE_Q_BIND_TENANT, x.tenant), (F_QE_Q_BIND_ORIGIN, x.origin), (F_QE_Q_CFG_CLASS, s.qClass i), (F_QE_Q_CFG_LOC, b2n (s.qInFolios i)),
    (F_QE_Q_STATUS_STATE, x.st.code), (F_QE_Q_STATUS_PHASE, b2n x.phase), (F_QE_Q_STATUS_ACCEPT_WAIT, b2n x.acceptWait),
    (F_QE_Q_STATUS_LAST_CTL, x.lastCtl), (F_QE_Q_STATUS_FREEZE_CAUSE, x.cause), (F_QE_Q_SQPTR_SQ_HEAD, x.sqHead),
    (F_QE_Q_SQPTR_SQ_TAIL, x.sqTail), (F_QE_Q_CQPTR_CQ_TAIL, x.cqTail), (F_QE_Q_CQPTR_CQ_HEAD, x.cqHead),
    (F_QE_Q_INFLIGHT_INFLIGHT, s.inflight i), (F_QE_Q_WINCNT_WINCNT, x.winCnt)]

/-- The fields of fences and streams (Tables 4.5 to 4.7); `n` is the layer of FN_S_WM. -/
def State.viewFN (s : State) (i n : Nat) : List (Fld × Nat) :=
  let f := s.fence i
  let x := s.stream i
  let none1 (c : Nat) : Nat := (c + 0xFFFF_FFFF) % 2 ^ 32
  [(F_FN_STREAMS_COUNT, s.streamCount), (F_FN_LIST_FREE_FREE, 67108864 - s.listUsed), (F_FN_F_VALUE_LO, f.value),
    (F_FN_F_VALUE_HI, f.value / 2 ^ 32 + b2n f.poison * 2 ^ 31), (F_FN_F_BIND_TENANT, f.tenant), (F_FN_F_BIND_BOUND, b2n f.bound),
    (F_FN_F_WAITERS_WAITERS, s.waiters i), (F_FN_S_STATE_STATE, x.st.code), (F_FN_S_STATE_TENANT, x.tenant),
    (F_FN_S_SHAPE_LAYERS, x.layout.layers), (F_FN_S_SHAPE_HEADS, x.layout.heads), (F_FN_S_SHAPE_HDIM, x.layout.hdim),
    (F_FN_S_SHAPE_TPF, x.layout.tpf), (F_FN_S_PREFIX_PREFIX, x.pfx), (F_FN_S_LISTLEN_LEN, ((x.layers.head?).map (·.list.length)).getD 0),
    (F_FN_S_COMMIT_TOKEN_TOKEN, none1 x.cTok), (F_FN_S_COMMIT_STEP_STEP, x.cStep), (F_FN_S_WM_WM, none1 (x.layers.getD n {}).wm)]

/-- The fields of the catalog (Tables 5.6, 5.7). -/
def State.viewCT (s : State) (i : Nat) : List (Fld × Nat) :=
  [(F_CT_ENTRIES_COUNT, s.entries.length), (F_CT_STASH_USED, s.ct.stash.length),
    (F_CT_SEGMENTS_COUNT, (s.ct.segs.filter (fun p => p.2.live)).length), (F_CT_LEDGER_FREE_FREE, s.ledgerFree),
    (F_CT_G_COUNT_COUNT, s.groupCount i)]

/-- The fields of the carrels (Tables 6.13, 6.14). -/
def State.viewCR (s : State) (i : Nat) : List (Fld × Nat) :=
  let c := s.carrel i
  [(F_CR_CLUSTER_STATE_STATE, nibbles 8 (fun k => (s.cluster k).st)), (F_CR_STAGE_FREE_FREE, s.stageFree),
    (F_CR_KLIB_VERSION_VERSION, s.klibVersion),
    (F_CR_C_STATE_RUN, if c.faulted then 2 else b2n c.task.isSome),
    (F_CR_C_STATE_TENANT, (c.task.map (fun t => (s.desc t.1).e.tenant)).getD 0), (F_CR_C_FREQ_MHZ, s.domMhz (1 + i / 8))]

/-- The fields of the stacks cache (Tables 7.4, 7.5). -/
def State.viewSK (s : State) (i : Nat) : List (Fld × Nat) :=
  [(F_SK_PIN_SUM_SUM, s.pinSum), (F_SK_P_STATUS_SWEEP, b2n (s.sk.sweeps.any (fun w => inSet w.parts i))),
    (F_SK_P_STATUS_DEMOTING, b2n (inSet s.sk.demoting i)), (F_SK_P_STATUS_FLUSHING, b2n (inSet s.sk.flushing i))]

/-- The fields of the projection units (Tables 8.6, 8.7). -/
def State.viewPJ (s : State) (i : Nat) : List (Fld × Nat) :=
  let x := s.pjUnit i
  [(F_PJ_UNITS_BUSY_BUSY, mask 8 (fun u => !(s.pjUnit u).cmds.isEmpty)), (F_PJ_UNITS_BUSY_OUT, mask 8 (fun u => (s.pjUnit u).out)),
    (F_PJ_U_STATUS_ACTIVE, x.served.length), (F_PJ_U_STATUS_OUT, b2n x.out),
    (F_PJ_U_QUEUED_QUEUED, sat32 ((x.cmds.map (·.2)).foldl (· + ·) 0 / 1024))]

/-- The fields of the placement engine (Table 9.5). -/
def State.viewPL (s : State) : List (Fld × Nat) :=
  [(F_PL_STATUS_BUSY, b2n s.pl.running.isSome), (F_PL_STATUS_WAITING, (s.descsWhere (fun x => x.stage = .wait .solver)).length)]

/-- The fields of the memory controllers (Tables 10.7 to 10.10). -/
def State.viewMC (s : State) (i : Nat) : List (Fld × Nat) :=
  [(F_MC_CH_RANKS_RANKS, nibbles 8 (fun k => kvGet 0 (s.dram i).ranks k)), (F_MC_CH_REFPEND_REFPEND, nibbles 8 (fun k => kvGet 0 (s.dram i).pend k)),
    (F_HB_STATUS_PRESENT, 2 ^ s.stacks.length - 1), (F_HB_SPARE_STATUS_FREE, s.sparesFree), (F_HB_PC_STATUS_REFPEND, kvGet 0 (s.dram (16 + i)).pend 0)]

/-- SI_T_SCRUB.STATE (Table 11.13). -/
def State.scrubCode (s : State) (t : Nat) : Nat :=
  if !s.scrubs t then 0 else if s.scrubStopped t then 2 else if (s.scrubber t).late then 3 else 1

/-- The fields of stored-data integrity (Tables 11.12, 11.13). -/
def State.viewSI (s : State) (i : Nat) : List (Fld × Nat) :=
  [(F_SI_BIST_JOBS_JOBS, s.si.jobs.length), (F_SI_T_SCRUB_STATE, s.scrubCode i),
    (F_SI_T_SCRUB_PROGRESS, if s.scrubs i then s.scrubProgress i else 0), (F_SI_T_SCRUB_PERIOD, if i < 20 then s.fld F_SI_T_SCRUB_PERIOD i else 0)]

/-- The fields of the links (Tables 12.14, 12.15). -/
def State.viewLK (s : State) (i : Nat) : List (Fld × Nat) :=
  let x := s.link i
  let up := mask 48 (fun l => (s.link l).isUp)
  [(F_LK_UP_UP_LO, up), (F_LK_UP_UP_HI, up / 2 ^ 32), (F_LK_L_STATUS_STATE, x.st.code), (F_LK_L_STATUS_WIDTH, x.width), (F_LK_L_STATUS_RATE, x.rate),
    (F_LK_L_STATUS_QCAUSE, x.qcause), (F_LK_L_STATUS_LANES, x.lanes),
    (F_LK_L_STATUS_SESSIONS, (x.sessions.filter (fun p => p.2.isOpen)).length), (F_LK_L_HOLD_REMAIN, s.holdRemain i),
    (F_LK_L_TIME_LAT_TIME_LAT, s.timeLat i)]

/-- The fields of the constellation (Tables 13.7, 13.8); `n` is the word of CN_HASH. -/
def State.viewCN (s : State) (i n : Nat) : List (Fld × Nat) :=
  let on (v : Nat) : Nat := if s.listed i then v else 0
  [(F_CN_HASH_HASH, leAt s.configHash (4 * n) 4), (F_CN_FWD_OUT_OUT, s.fwdOut), (F_CN_M_STATUS_PRESENT, b2n (s.listed i)),
    (F_CN_M_STATUS_PEER, s.memberPeer i), (F_CN_M_STATUS_ROUTE_LINK, s.routeTo i), (F_CN_M_STATUS_NEXT_HOP, if s.cn.st = .member then on (recRoute s.cn.record s.me i) else 0),
    (F_CN_M_STATUS_SHARDS, on ((List.range 256).filter (fun k => recShard s.cn.record k == i)).length), (F_CN_M_JOIN_JOIN, on (recJoin s.cn.record i))]

/-- The fields of tenants (Tables 2.7, 15.6, 15.7). -/
def State.viewTN (s : State) (i : Nat) : List (Fld × Nat) :=
  let vfs := mask 64 (fun n => n != 0 && (s.hostFn n).tenant == some i)
  [(F_TN_T_STATUS_STATE, s.tenantState i), (F_TN_T_STREAMS_USED, (s.fn.streams.filter (fun p => p.2.st != .free && p.2.tenant == i)).length),
    (F_TN_T_QUEUES_QUEUES, (if i = 0 then 16 else 0) + (s.q.tab.filter (fun p => 16 ≤ p.1 && p.2.isBound && p.2.tenant == i)).length),
    (F_TN_T_VFS_VFS_LO, vfs), (F_TN_T_VFS_VFS_HI, vfs / 2 ^ 32), (F_TN_MAP_OLDCNT_OLDCNT, s.oldCount i (s.epoch i))]

/-- The fields of errors (Table 20.7); `n` is the word of ER_PREV_RECORD. -/
def State.viewER (s : State) (n : Nat) : List (Fld × Nat) :=
  [(F_ER_STATUS_FULL, b2n (decide (256 ≤ (s.fld F_ER_WPTR_WPTR + 2 ^ 32 - s.fld F_ER_RPTR_RPTR) % 2 ^ 32))),
    (F_ER_STATUS_PREV_FATAL, b2n s.er.storeValid), (F_ER_STATUS_RECOVERING, b2n (s.er.units.any (fun p => p.2.running.isSome))),
    (F_ER_STATUS_PREV_COUNT, s.er.storeCount), (F_ER_CORES_CORES, s.cores),
    (F_ER_PREV_RECORD_PREV, if s.er.storeValid then leAt s.er.store.bytes (4 * n) 4 else 0)]

/-- The fields of clocks and power (Tables 18.5, 18.6). -/
def State.viewCK (s : State) (i : Nat) : List (Fld × Nat) :=
  [(F_CK_PWR_STATUS_STATE, s.powerState), (F_CK_WAKE_PENDING, mask 8 (fun k => s.cr.wakes.any (fun w => w.1 == k))), (F_CK_D_STATUS_RUN, s.domRun i),
    (F_CK_D_STATUS_ABSENT, b2n (!s.domExists i)), (F_CK_D_STATUS_MHZ, s.domMhz i), (F_CK_D_FMAX_FMAX, if 1 ≤ i && i ≤ 8 then s.fld F_CK_D_FMAX_FMAX i else 0)]

/-- The fields of the root-of-trust block (Tables 16.10, 17.8); the mailbox is the port's own (R517). -/
def State.viewSE (s : State) (p : Port) (n : Nat) : List (Fld × Nat) :=
  let slots (st : SlotState) : Nat := (s.ks.filter (fun x => x.2.st = st)).length
  [(F_SE_MBX_STATUS_STATE, if mbxCodes p = [] then 0 else (s.mbx p).st),
    (F_SE_MBX_BUF_BUF, if mbxCodes p = [] then 0 else leAt (s.mbx p).buf (4 * n) 4), (F_SE_VBAT_NOW_LO, s.vbatNow), (F_SE_VBAT_NOW_HI, s.vbatNow / 2 ^ 32),
    (F_SE_KEY_FREE_FREE, s.slotsFree), (F_SE_KEY_FREE_RETIRING, slots .retiring), (F_SE_KEY_LOST_LOST, slots .lost)]

/-- The fields that report state held elsewhere, of an instance; `n` is the word of a register of several words. -/
def State.view (s : State) (p : Port) (blk i n : Nat) : List (Fld × Nat) :=
  if blk = 0 then
    [(F_TOP_ZERO_LEFT_LEFT, s.zeroLeft), (F_TOP_CAL_STATUS_PENDING, b2n s.calPending),
      (F_TOP_INPUTS_LEVEL, b2n (!s.ck.perst) + 2 * b2n (!s.ck.wakeOut) + 4 * b2n (s.fld F_PW_STATUS_PWR_FAULT == 0))]
  else if blk = 1 then s.viewQE i
  else if blk = 2 then s.viewFN i n
  else if blk = 3 then s.viewCT i
  else if blk = 4 then s.viewCR i
  else if blk = 5 then s.viewSK i
  else if blk = 6 then s.viewPJ i
  else if blk = 7 then s.viewPL
  else if blk = 8 || blk = 9 then s.viewMC i
  else if blk = 10 then s.viewSI i
  else if blk = 11 then s.viewLK i
  else if blk = 12 then s.viewCN i n
  else if blk = 14 then s.viewTN i
  else if blk = 15 then [(F_IR_F_VSEL_VINVALID, b2n (decide (vectorCount i ≤ s.fld F_IR_F_VSEL_VSEL i)))]
  else if blk = 17 then s.viewER n
  else if blk = 18 then s.viewCK i
  else if blk = 19 then [(F_PW_L_VSET_VSET, if i < 2 then s.target i else s.fld F_PW_L_VSET_VSET i)]
  else if blk = 20 then [(F_TM_COUNT_LO, s.now), (F_TM_COUNT_HI, s.now / 2 ^ 32), (F_TM_STATUS_FALLBACK, b2n s.onFallback)]
  else if blk = 21 then s.viewSE p n
  else [(F_DB_STATUS_EXTEST_HOLD, b2n s.se.hold)]

/-- What a field reads as (Table 0.5): a WO field reads 0. -/
def State.fieldValue (s : State) (p : Port) (f : Fld) (i n : Nat) : Nat :=
  if f.acc = .wo then 0
  else match (s.view p f.blk i n).find? (fun x => x.1 == f) with
    | some x => x.2 % 2 ^ f.wid
    | none => s.fld (f.at n) i

/-- The value of word `n` of a register. -/
def State.wordValue (s : State) (p : Port) (w : RegWord) (n i : Nat) : Nat :=
  (w.flds.map (fun f => s.fieldValue p f i n * 2 ^ f.lo)).foldl (· + ·) 0

/-- Word `k` of an MSI-X table entry: address, address, data, control with the mask in bit 0 (R456). -/
def MsixEntry.word (e : MsixEntry) (k : Nat) : Nat :=
  if k = 0 then e.addr % 2 ^ 32 else if k = 1 then e.addr / 2 ^ 32 % 2 ^ 32 else if k = 2 then e.data else b2n e.masked

/-- What a place reads as (R12, R24). -/
def State.placeValue (s : State) (p : Port) : Place → Nat
  | .sel b => s.selected p b
  | .selStatus b => b2n (!s.inRange p b (s.selected p b)) + s.blockCount b * 256
  | .word w n i => s.wordValue p w n i
  | .slot i k => ((s.er.ring.find? (fun x => x.1 == i)).map (fun x => leAt x.2.bytes (4 * k) 4)).getD 0
  | .vec f v k => (s.msix f v).word k
  | .pba f k => mask 32 (fun j => inSet s.ir.pba (vecKey f (32 * k + j)))
  | .empty => 0
  | .dark => 0
  | .noVector => 0

/-! ## Accesses -/

/-- The 64-bit registers (R751): block and offset of the low word. -/
def wideRegs : List (Nat × Nat) := [(1, 0x1008), (1, 0x1010), (2, 0x1000), (10, 0x10), (14, 0x101C), (11, 8), (21, 0x18), (20, 0)]

/-- The register words whose second offset is its high word; FN_F_VALUE belongs to a fence. -/
def RegWord.isLow (w : RegWord) : Bool := w.kind != .stream && wideRegs.any (fun x => x.1 == w.blk && x.2 == w.off)

/-- The high word of a 64-bit register. -/
def RegWord.isHigh (w : RegWord) : Bool := w.kind != .stream && wideRegs.any (fun x => x.1 == w.blk && x.2 + 4 == w.off)

/-- A place holds the low word of a 64-bit register. -/
def Place.isLow : Place → Bool
  | .word w _ _ => w.isLow
  | _ => false

/-- A place holds the high word of a 64-bit register. -/
def Place.isHigh : Place → Bool
  | .word w _ _ => w.isHigh
  | _ => false

/-- An RC field that has been read holds its reset value again. -/
def State.clearRc (s : State) (w : RegWord) (i : Nat) : State :=
  (w.flds.filter (fun f => f.acc = .rc)).foldl (fun s f => s.setFld f f.rst i) s

/-- The half of a port's read latch or staging register that belongs to the high word at a place (R14 to R16). -/
def heldWord (h : Option Half) (w : RegWord) (i : Nat) : Option Nat :=
  match h with
  | some x => if x.blk == w.blk && x.off + 4 == w.off && x.inst == i then some x.word else none
  | none => none

/-- A read of a place by a port: the value, with the read's side effects (R10, R14, R15). -/
def State.readPlace (s : State) (p : Port) (pl : Place) : State × Nat :=
  match pl with
  | .word w n i =>
    if w.isLow then
      let hi := match wordAt w.blk (w.off + 4) w.kind with | some h => s.wordValue p h 0 i | none => 0
      (s.setBank p { s.bank p with latch := some { blk := w.blk, off := w.off, inst := i, word := hi } }, s.wordValue p w n i)
    else if w.isHigh then (s, (heldWord (s.bank p).latch w i).getD 0)
    else (s.clearRc w i, s.wordValue p w n i)
  | pl => (s, s.placeValue p pl)

/-- An access to a register wakes the fabric (R590). -/
def State.touch (s : State) : State := if s.ck.power == 0 then { s with ck := { s.ck with slow := false } } else s

/-- The bytes of a word that byte enables ask for (R13). -/
def byEnables (v be : Nat) : Nat := ((List.range 4).map (fun i => if bit be i then bits v (8 * i) 8 * 256 ^ i else 0)).foldl (· + ·) 0

/-- A port's read of a BAR0 offset; a block that does not answer returns nothing (0 over I3C). -/
def State.busRead (s : State) (p : Port) (off : Nat) : State × Nat :=
  if s.answers p off then s.touch.readPlace p (s.place p off) else (s, 0)

/-- A host request to BAR0 outside a Secure IDE stream is refused where one is required (R466). -/
def State.ideStops (s : State) (a : Access) : Bool :=
  (match a.p with | .pf => true | .vf _ => true | _ => false) && s.ideBlocks a.secure

/-- A read of four bytes by a port, for the offsets that one row of the command table names. -/
def State.portRead4 (s : State) (a : Access) (mine : Place → Bool) : State :=
  if !s.answers a.p a.off || !mine (s.place a.p a.off) then s
  else
    let (t, v) := s.busRead a.p a.off
    t.emit (.regData (portCode a.p) a.off (byEnables v a.be))

/-- A read access of BAR0, for the offsets that one row of the command table names; one of eight bytes reads the low word first, then the high word
(R17, Table 0.8). Outside a Secure stream where one is required it completes with Unsupported Request, counted once (R466). -/
def State.portRead (s : State) (a : Access) (mine : Place → Bool) : State :=
  if a.bar2 || !s.answers a.p a.off || !mine (s.place a.p a.off) then s
  else if s.ideStops a then (s.bump F_HP_IDE_FAIL_IDE).emit (.refused (portCode a.p) a.off false)
  else if a.wide && mine (s.place a.p a.off) then (s.portRead4 a mine).portRead4 a.upper (fun _ => true) else s.portRead4 a mine

/-- The function of a port that has doorbell pages. -/
def portFn : Port → Option Nat
  | .pf => some 0
  | .vf n => some n
  | _ => none

/-- A read of four bytes of a doorbell page (R13, R86, R111, Table 3.9, log entry 32). -/
def State.pageRead4 (s : State) (fn : Nat) (a : Access) : State :=
  s.emit (.pageData fn a.off (byEnables (s.pageWord fn (a.off / 4096) (a.off % 4096 / 4 * 4)) a.be))

/-- A read access to a doorbell page; one of eight bytes reads the low word first (R17). -/
def State.pageRead (s : State) (a : Access) : State :=
  match portFn a.p with
  | none => s
  | some fn => s.pageAccess fn a.secure (fun s => s.emit (.refused fn a.off true))
      (fun s => if a.wide then (s.pageRead4 fn a).pageRead4 fn a.upper else s.pageRead4 fn a)

/-- RC_FIELD_READ (R10, R12, R13): a read of a 32-bit register; its RC fields clear. It carries the reads of doorbell pages too (log entry 32). -/
def execRcFieldRead (a : Access) (s : State) : Res :=
  .next (if a.bar2 then s.pageRead a else s.portRead a (fun (x : Place) => !x.isLow && !x.isHigh))

/-- LOW_WORD_READ (R14): the high word is latched. -/
def execLowWordRead (a : Access) (s : State) : Res := .next (s.portRead a Place.isLow)

/-- HIGH_WORD_READ (R15): the latched word, or 0. -/
def execHighWordRead (a : Access) (s : State) : Res := .next (s.portRead a Place.isHigh)

end Sys2Proof.Machine
end

