-- ==== Sys2Proof/Machine/Regs.lean ====
section
/-!
DEFINITION. Register writes: which port may write what, what a written value becomes, the registers whose write is a command of its own, the
64-bit registers and their staging register, MSI-X tables, and the register commands of the I3C binding (Scope, Roles and Conventions; Register
Map; Host Port and Management Transports).
-/
namespace Sys2Proof.Machine

/-- The state that a meaning leaves, or the one before it where it stops. -/
def Res.after (r : Res) (s : State) : State :=
  match r with
  | .next t => t
  | _ => s

/-! ## What a written value becomes -/

/-- The fields whose written value is brought into range by itself. -/
def fieldRanges (s : State) (i x : Nat) : List (Fld × Nat) :=
  let dflt (d : Nat) : Nat := if x = 0 then d else x
  [(F_QE_Q_CFG_LOG2SIZE, clamp 4 16 x), (F_QE_Q_CFG_CLASS, dflt 1), (F_QE_Q_CFG_MAXINFLIGHT, min 4096 (dflt 256)),
    (F_QE_Q_CFG_TIMEOUT_MS, min 2000 (dflt 100)), (F_QE_FREEZE_WINDOW_WINDOW, dflt 1), (F_CT_CFG_FWD_TIMEOUT, max 10 x),
    (F_CR_ATTEND_CFG_TASKS, min 64 (dflt 32)), (F_CR_ATTEND_CFG_MIN_RANGE, max 32 x), (F_SK_CFG_KEEP_MAX, min 16 x),
    (F_MC_CFG_MAX_SPEED, if 5 < x then 0 else x), (F_MC_RH_CFG_THRESH, max 128 x), (F_HB_RH_CFG_THRESH, max 128 x),
    (F_MC_WQ_CFG_HIGH, if 2 ≤ x && x ≤ 64 then x else 48), (F_HB_WQ_CFG_HIGH, if 2 ≤ x && x ≤ 32 then x else 24),
    (F_MC_MAINT_CFG_FLOOR, min 100 x), (F_HB_MAINT_CFG_FLOOR, min 100 x), (F_MC_SPARE_CFG_CE_THRESH, dflt 1),
    (F_MC_SPARE_CFG_CE_WINDOW, dflt 1), (F_HB_SPARE_CFG_CE_THRESH, dflt 1), (F_HB_SPARE_CFG_CE_WINDOW, dflt 1),
    (F_MC_MIGR_RATE_RATE, clamp 100 25600 x), (F_HB_SPARE_CFG_PERMILLE, min 40 x), (F_SI_INJ_CFG_DEV0, min 9 x), (F_SI_INJ_CFG_DEV1, min 9 x),
    (F_SI_INJ_ADDR_ADDR_LO, x / 64 * 64), (F_LK_CFG_CREDIT_TIMEOUT, dflt 1), (F_LK_CFG_TIME_PERIOD, max 10 x), (F_LK_VIOL_CFG_LIMIT, dflt 1),
    (F_LK_VIOL_CFG_WINDOW, dflt 1), (F_LK_L_CFG_MIN_WIDTH, dflt 1), (F_CN_TIME_CFG_SLEW_PPM, clamp 10 1000 x), (F_IR_F_COAL_COUNT, dflt 1),
    (F_ER_CFG_LOCK_WD, clamp 10 50000 x), (F_ER_CFG_HANG_WD, clamp 1 1000 x), (F_CK_PWR_CFG_DEEPEST, min 2 x), (F_CK_IDLE_CR_GATE_US, dflt 1),
    (F_CK_IDLE_CR_OFF_US, dflt 1), (F_CK_IDLE_MEM_SR_US, dflt 1), (F_CK_IDLE_MEM_ENG_US, dflt 1), (F_CK_IDLE_LINK_SLEEP_US, dflt 1),
    (F_CK_D_FMAX_FMAX, clamp 600 1250 x / 50 * 50), (F_PW_HEADROOM_PCT, clamp 50 (if s.fld F_PW_STATUS_CAL_INVALID = 1 then 70 else 100) x), (F_PW_L_FOLLOW_TIME, dflt 1), (F_PW_L_SLEW_SLEW, dflt 1),
    (F_PW_L_CFG_NMIN, clamp 1 (phasesOf i).length x), (F_PW_P_ILIM_ILIM, min (s.pw.cal.phases.getD (i - 8) {}).ilimMax x),
    (F_SE_KEY_CFG_CAP_MS, clamp 1 2000 x)]

/-- A field's value of a written word, brought into its own range. -/
def State.inField (s : State) (f : Fld) (i v : Nat) : Nat :=
  let x := bits v f.lo f.wid
  (((fieldRanges s i x).find? (fun p => p.1 == f)).map (·.2)).getD x

/-- The value a field takes from a written word; some are held to another field of the same word (Tables 10.7, 10.9). -/
def State.newField (s : State) (f : Fld) (i v : Nat) : Nat :=
  let x := s.inField f i v
  if f = F_MC_WQ_CFG_LOW then min x (s.inField F_MC_WQ_CFG_HIGH i v - 1)
  else if f = F_HB_WQ_CFG_LOW then min x (s.inField F_HB_WQ_CFG_HIGH i v - 1)
  else if f = F_MC_MAINT_CFG_CEIL then max x (s.inField F_MC_MAINT_CFG_FLOOR i v)
  else if f = F_HB_MAINT_CFG_CEIL then max x (s.inField F_HB_MAINT_CFG_FLOOR i v)
  else if f = F_MC_MAINT_CFG_MIGR_FLOOR then max (min 100 x) (s.inField F_MC_MAINT_CFG_FLOOR i v)
  else x

/-! ## Who may write, and when -/

/-- The ports that may write a register (R752 and the chapters): the PF and the control firmware; the rail controller's also the BMC; a mailbox
buffer the ports that have a mailbox; the interrupt window also its own VF. -/
def portWrites (p : Port) (w : RegWord) : Bool :=
  if w.blk = 21 && w.off = 0x400 then !(mbxCodes p).isEmpty
  else pfOrFw p || (w.blk == 19 && p == .bmc) || (w.blk == 15 && decide (0x1000 ≤ w.off) && (match p with | .vf _ => true | _ => false))

/-- A timing override (Table 10.11). -/
def isOverride (f : Fld) : Bool := (f.blk == 8 && decide (0x1030 ≤ f.off) && decide (f.off < 0x1040)) ||
  (f.blk == 9 && decide (0x30 ≤ f.off) && decide (f.off < 0x40))

/-- A field that a write can change. -/
def Fld.written (f : Fld) : Bool := f.acc = .rw || f.acc = .rwl || f.acc = .w1c || f.acc = .w1s

/-- The register takes writes in this state of its instance: queue settings while DISABLED (R76), the constellation identity in STANDALONE
(R420). A refused write is counted. -/
def State.openFor (s : State) (w : RegWord) (i : Nat) : Bool :=
  if w.blk = 1 && decide (0x1004 ≤ w.off) && decide (w.off < 0x1018) then (s.queue i).st = .disabled
  else if w.blk = 12 && (w.off = 8 || w.off = 0x100) then s.cn.st = .standalone
  else true

/-- A field is held by a rule of its chapter: nothing happens to it. PW_L_VSET of loops 0 and 1 and FMAX outside domains 1 to 8 are no such
fields, a window's base stays while it is enabled (Table 14.13), ILIM is held under CAL_INVALID (R651). -/
def State.fieldHeld (s : State) (f : Fld) (i : Nat) : Bool :=
  (f == F_PW_L_VSET_VSET && decide (i < 2)) || (f == F_CK_D_FMAX_FMAX && (i == 0 || decide (8 < i))) ||
    (f == F_HP_APT_BASE_FIRST_TFN && s.fld F_HP_APT_CFG_ENABLE i == 1) || (f == F_PW_P_ILIM_ILIM && s.fld F_PW_STATUS_CAL_INVALID == 1)

/-- Writes the fields of word `n` of a register (Table 0.5). -/
def State.writeFields (s : State) (w : RegWord) (n i v : Nat) : State :=
  w.flds.foldl (fun s f =>
    let g := f.at n
    if s.fieldHeld f i then s
    else if f.acc = .rwl || isOverride f then
      if isOverride f && s.training then s else s.headerFld g (s.newField f i v) i
    else if f.acc = .rw then s.setFld g (s.newField f i v) i
    else if f.acc = .w1c then s.setFld g (s.fld g i &&& ((2 ^ f.wid - 1) ^^^ bits v f.lo f.wid)) i
    else s) s

/-! ## Registers whose write is a command of its own -/

/-- The command that a write of a register is, with the operands that the word spells. -/
def State.trigger (s : State) (p : Port) (w : RegWord) (i v : Nat) (x : WriteAux) : Option Res :=
  let one := bit v 0
  let ctl (off : Nat) : Option Res := some (.next (s.ctlWrite p (bar0 w.blk off) id))
  if w.blk = 1 && w.off = 0x1018 then
    let c := v % 8
    some (if c = 1 then execQueueEnable p i s else if c = 2 then execQueuePause p i s else if c = 3 then execQueueResume p i s
      else if c = 4 then execQueueReset p i x.unf s else .next (s.qctl p i false id))
  else if w.blk = 4 && w.off = 0xC then
    let c := bits v 4 2
    if c = 1 then some (execClusterRemove p (v % 8) s) else if c = 2 then some (execClusterReturn p (v % 8) s) else ctl 0xC
  else if w.blk = 5 && w.off = 0x1008 then if one then some (execSkPFlush p i s) else ctl 0x1008
  else if w.blk = 5 && w.off = 0x1000 then some (execSkPLimitWrite p i v s)
  else if w.blk = 6 && w.off = 0x100C then if one then some (execPjUReturn p i s) else ctl 0x100C
  else if w.blk = 8 && w.off = 0x1018 then
    let c := bits v 4 2
    if c = 1 then some (execRankRetire p i (v % 8) s) else if c = 2 then some (execRankReturn p i (v % 8) s) else ctl 0x1018
  else if w.blk = 10 && w.off = 0x1C then if one then some (execInjectFire p s) else ctl 0x1C
  else if w.blk = 11 && w.off = 0x1004 then
    let c := v % 8
    if c = 1 then some (execLinkDisable p i s) else if c = 2 then some (execLinkEnable p i s)
    else if c = 3 then some (execLinkRetrain p i s) else if c = 4 then some (execClearHold p i s) else ctl 0x1004
  else if w.blk = 13 && w.off = 0x1000 then
    let t := if pfOrFw p && s.fld F_HP_APT_CFG_ENABLE i == 0 then s.setFld F_HP_APT_CFG_TENANT (v % 1024) i else s
    some (execApertureEnable p i (bit v 31) t)
  else if w.blk = 13 && w.off = 0x20 then
    let t := if pfOrFw p && s.fld F_HP_CXL_CFG_ENABLE == 0 then s.setFld F_HP_CXL_CFG_TENANT (v % 1024) else s
    some (execCxlBindingEnable p (bit v 31) t)
  else if w.blk = 0 && w.off = 0x204 then if one then some (execMemGo p s) else ctl 0x204
  else if w.blk = 17 && w.off = 4 then some (execErRptrWrite p v s)
  else if w.blk = 17 && w.off = 0x10 then if one then some (execFatalAck p s) else ctl 0x10
  else if w.blk = 18 && w.off = 8 then
    let c := v % 4
    some (if c = 1 then execEnterS3 p x.unf s else if c = 2 then execEnterS5 p x.unf s else if c = 3 then execExitS3 p s
      else .next (s.pwrCtl p id))
  else if w.blk = 19 && w.off = 0xC then some (if one then execRailRetry p s else .next (s.railWrite p 0xC id))
  else if w.kind = .loop && w.off = 0x1008 then
    let c := v % 4
    some (if c = 1 then execLoopStart p i x.vout x.bad s else if c = 2 then execLoopStop p i s else if c = 3 then execLoopClear p i s
      else .next (s.railWrite p 0x1008 id))
  else if w.kind = .phase && w.off = 0x1014 then some (if one then execReinstate p (i - 8) s else .next (s.railWrite p 0x1014 id))
  else if w.blk = 21 && w.off = 8 then
    some (if one then execMailboxGo p s
      else .next (if mbxCodes p = [] then (s.dropStage p).badAccess p mbxCtlOff else s.dropStage p))
  else none

/-! ## Writes -/

/-- A list of bytes with some of them replaced from an index on, lengthened with zeros where it is shorter. -/
def splice (l : List Byte) (i : Nat) (b : List Byte) : List Byte :=
  (l ++ List.replicate (i - l.length) 0).take i ++ b ++ l.drop (i + b.length)

/-- VSET_VALID follows the input that a loop's settings name; one that is invalid is alerted (R632). -/
def State.vsetNow (s : State) (k : Nat) (was : Bool) : State :=
  let on := s.fld F_PW_L_CFG_SRC k == 1
  let good := (kvGet {} s.pw.vset (s.fld F_PW_L_CFG_VSEL k)).valid
  let s := s.setFld F_PW_L_STATUS_VSET_VALID (b2n (on && good)) k
  if on && !good && !was then s.railWarn 3 k else s

/-- A write of a rail loop's settings and coefficients: ORDER, MINPHASE and the coefficients only in OFF and FAULT (R626). -/
def State.loopSettings (s : State) (p : Port) (off : Nat) (w : RegWord) (n i v : Nat) : State :=
  let free := s.loopSt i == 0 || s.loopSt i == 3
  if w.off = 0x1004 then
    let keep := putBits v 4 2 (s.fld F_PW_L_CFG_ORDER i + 2 * s.fld F_PW_L_CFG_MINPHASE i)
    let was := s.fld F_PW_L_CFG_SRC i == 1 && s.fld F_PW_L_STATUS_VSET_VALID i == 0
    if free || bits keep 4 2 == bits v 4 2 then (s.writeFields w n i v).vsetNow i was
    else (((s.writeFields w n i keep).vsetNow i was).loopLast i 1).badAccess p off
  else if free then s.writeFields w n i v
  else (s.loopLast i 1).badAccess p off

/-- The sum of CT_G_RESERVE over the share groups but one (R189). -/
def State.reserved (s : State) (g : Nat) : Nat :=
  ((List.range 256).map (fun k => if k = g then 0 else s.fld F_CT_G_RESERVE_RESERVE k)).foldl (· + ·) 0

/-- A write of a 32-bit register that is no command of its own. A RESERVE that takes the sum of all groups above 33,554,432 is ignored and
counted (R189). Any write of another port into the interrupt block is counted (R514). A write of IR_F_COAL by which pending completions are due sends their message (R502). -/
def State.plainWrite (s : State) (p : Port) (off : Nat) (w : RegWord) (n i v : Nat) : State :=
  let s := s.dropStage p
  if w.blk = 15 && !portWrites p w then s.badAccess p off
  else if !w.flds.any Fld.written then s
  else if !portWrites p w || !s.openFor w i then s.badAccess p off
  else if w.blk = 21 && w.off = 0x400 then
    s.setMbx p { s.mbx p with buf := splice (s.mbx p).buf (4 * n) (leBytes 4 v) }
  else if w.kind = .loop && (w.off = 0x1004 || w.off = 0x1040) then s.loopSettings p off w n i v
  else if w.blk = 3 && w.off = 0x1004 && decide (33554432 < s.reserved i + bits v 0 26) then s.badAccess p off
  else if w.blk = 19 && (w.off = 4 || w.off = 8) then (s.writeFields w n i v).driveAlert s
  else if w.blk = 15 && w.off = 0x1004 then (s.writeFields w n i v).sendDue (i / 2048) (i % 2048)
  else s.writeFields w n i v

/-- A port may write a 64-bit register now: the ring bases of a DISABLED queue and the injection address, the others are read-only. -/
def State.wideOpen (s : State) (p : Port) (w : RegWord) (i : Nat) : Bool :=
  portWrites p w && w.flds.any Fld.written && s.openFor w i

/-- The low word of a 64-bit register: staged for the port; nothing is staged for a read-only register, and a write that may not be made is
counted (R16, R18). -/
def State.lowWrite (s : State) (p : Port) (off : Nat) (w : RegWord) (i v : Nat) : State :=
  let s := s.dropStage p
  if !w.flds.any Fld.written then s
  else if s.wideOpen p w i then s.setBank p { s.bank p with stage := some { blk := w.blk, off := w.off, inst := i, word := v } }
  else s.badAccess p off

/-- The high word of a 64-bit register: both words take effect, or the write is ignored and counted (R16, R18). -/
def State.highWrite (s : State) (p : Port) (off : Nat) (w : RegWord) (i v : Nat) : State :=
  let lo := heldWord (s.bank p).stage w i
  let s := s.dropStage p
  match lo, wordAt w.blk (w.off - 4) w.kind with
  | some l, some wl => if s.wideOpen p w i then (s.writeFields wl 0 i l).writeFields w 0 i v else s.badAccess p off
  | _, _ => s.badAccess p off

/-- A write of an MSI-X table word; a vector that is unmasked sends what it held (R456, R503). -/
def State.vecWrite (s : State) (f n k v : Nat) : State :=
  let e := s.msix f n
  let e := if k = 0 then { e with addr := putBits e.addr 0 32 v } else if k = 1 then { e with addr := putBits e.addr 32 32 v }
    else if k = 2 then { e with data := v % 2 ^ 32 } else { e with masked := bit v 0 }
  let s := { s with ir := { s.ir with table := kvPut {} s.ir.table (vecKey f n) e } }
  (execVectorUnmask f n s).after s

/-- A port's write to a BAR0 offset (R11 to R13, R16, R24, R752). -/
def State.busWrite (s : State) (p : Port) (off v be : Nat) (x : WriteAux) : State :=
  if !s.answers p off then s.dropStage p
  else
    let s := s.touch
    match s.place p off with
    | .pba _ _ => s.dropStage p
    | pl =>
      if be % 16 ≠ 15 then (s.dropStage p).badAccess p off
      else match pl with
      | .sel b => (s.dropStage p).setBank p { (s.dropStage p).bank p with sel := kvPut 0 (s.bank p).sel b (v % 65536) }
      | .word w n i =>
        if w.isLow then s.lowWrite p off w i (v % 2 ^ 32)
        else if w.isHigh then s.highWrite p off w i (v % 2 ^ 32)
        else match s.trigger p w i (v % 2 ^ 32) x with
          | some r => r.after s
          | none => s.plainWrite p off w n i (v % 2 ^ 32)
      | .vec f n k => (s.dropStage p).vecWrite f n k (v % 2 ^ 32)
      | .empty => (s.dropStage p).badAccess p off
      | .dark => (s.dropStage p).badAccess p off
      | .noVector => if p = .bmc || p = .rtp then (s.dropStage p).badAccess p off else s.dropStage p
      | _ => s.dropStage p

/-- A write of four bytes by a port, for the offsets that one row of the command table names. -/
def State.portWrite4 (s : State) (a : Access) (v : Nat) (x : WriteAux) (mine : Place → Bool) : State :=
  if !mine (s.place a.p a.off) then s else s.busWrite a.p a.off v a.be x

/-- A write access of BAR0, for the offsets that one row of the command table names; one of eight bytes writes the low word first, then the high word
(R17, Table 0.8). A host write that R466 discards reaches no register: it is counted once and leaves the port's staged low word as it is (the spec is
silent; DESIGN CHOICE, log entry 98). -/
def State.portWrite (s : State) (a : Access) (v : Nat) (x : WriteAux) (mine : Place → Bool) : State :=
  if a.bar2 || !mine (s.place a.p a.off) then s
  else if s.answers a.p a.off && s.ideStops a then s.bump F_HP_IDE_FAIL_IDE
  else if a.wide && mine (s.place a.p a.off) then
    (s.portWrite4 a (v % 2 ^ 32) x mine).portWrite4 a.upper (v / 2 ^ 32) x (fun _ => true)
  else s.portWrite4 a v x mine

/-- A place of a select register. -/
def Place.isSel : Place → Bool
  | .sel _ => true
  | _ => false

/-- A write access to a doorbell page (log entry 32); one of eight bytes writes the low word first (R17). -/
def State.pageStores (s : State) (a : Access) (v : Nat) : State :=
  let one (s : State) (a : Access) (v : Nat) : State := match portFn a.p with
    | none => s
    | some fn => s.pageStore fn (a.off / 4096) (a.off % 4096 / 4 * 4) v a.be a.secure
  if a.wide && !s.ideStops a then one (one s a (v % 2 ^ 32)) a.upper (v / 2 ^ 32) else one s a v

/-- REGISTER_WRITE (R10 to R13): every offset but select registers and the words of 64-bit registers. It carries the writes of doorbell pages that
have no row of their own too (log entry 32). -/
def execRegisterWrite (a : Access) (v : Nat) (x : WriteAux) (s : State) : Res :=
  .next (if a.bar2 then s.pageStores a v else s.portWrite a v x (fun (pl : Place) => !pl.isLow && !pl.isHigh && !pl.isSel))

/-- LOW_WORD_WRITE (R16). -/
def execLowWordWrite (a : Access) (v : Nat) (s : State) : Res := .next (s.portWrite a v {} Place.isLow)

/-- HIGH_WORD_WRITE (R16, R18). -/
def execHighWordWrite (a : Access) (v : Nat) (s : State) : Res := .next (s.portWrite a v {} Place.isHigh)

/-- SEL_WRITE (R16, R20, R25): INVALID follows the selected instance whenever it is read. -/
def execSelWrite (a : Access) (v : Nat) (s : State) : Res := .next (s.portWrite a v {} Place.isSel)

/-! ## The I3C register commands (R477 to R479) -/

/-- A vendor-defined register command: on the I3C binding only, at a multiple of 4 below 0x400_0000. -/
def State.vendorReg (s : State) (b inst cmd off : Nat) (f : State → State × List Byte) : State :=
  if !s.bindUp b then s
  else if b ≠ 1 then s.answer b (vendorMsg false inst cmd (some 5) [])
  else if off % 4 ≠ 0 || 0x4000000 ≤ off then s.answer b (vendorMsg false inst cmd (some 2) [])
  else (f s).1.answer b (vendorMsg false inst cmd (some 0) (f s).2)

/-- REG_READ (R479). -/
def execRegRead (b inst off : Nat) (s : State) : Res :=
  .next (s.vendorReg b inst 0x10 off (fun s => ((s.busRead .bmc off).1, leBytes 4 (s.busRead .bmc off).2)))

/-- REG_WRITE (R479). -/
def execRegWrite (b inst off v : Nat) (x : WriteAux) (s : State) : Res :=
  .next (s.vendorReg b inst 0x11 off (fun s => (s.busWrite .bmc off v 15 x, [])))

end Sys2Proof.Machine
end

