-- ==== Sys2Proof/Machine/Debug.lean ====
section
/-!
DEFINITION. The test access port: boundary-scan instructions, debug tokens, debug accesses (Root of Trust, Life Cycle and Debug).
-/
namespace Sys2Proof.Machine

/-- IDCODE: version 1, part 0x4810, manufacturer code 0x5A3 (R552). -/
def tapIdcode : Nat := 1 * 2 ^ 28 + 0x4810 * 2 ^ 12 + 0x5A3 * 2 + 1

/-- The TAP answers more than IDCODE and BYPASS: in A0 to A2, and while a reset holds until cold reset (R547). -/
def State.tapOn (s : State) : Bool := s.ck.power == 0 || s.ck.power == 3

/-- An instruction of R546 (EXTEST and its kind): the first one zeroises T, W and P, and holds every block but the RTP in reset until
cold reset; the RTP's state stays, with its mailboxes and messages. -/
def State.boundaryScan (s : State) : State :=
  if !s.tapOn || s.se.hold then s
  else
    let s := ((s.loseClass true []).loseClass false []).loseWrap
    let t := s.holdReset 3
    let rtp (k : Nat) : Bool := keptKey true true k || k / 262144 % 32 == 21 || k / 262144 % 32 == 22
    { t with regs := s.regs.filter (fun p => rtp p.1), se := { s.se with hold := true }, ks := s.ks, mg := s.mg, now := s.now }

/-- EXTEST (R546). -/
def execExtest (s : State) : Res := .next s.boundaryScan

/-- CLAMP (R546). -/
def execClamp (s : State) : Res := .next s.boundaryScan

/-- HIGHZ (R546). -/
def execHighz (s : State) : Res := .next s.boundaryScan

/-- EXTEST_PULSE (R546). -/
def execExtestPulse (s : State) : Res := .next s.boundaryScan

/-- EXTEST_TRAIN (R546). -/
def execExtestTrain (s : State) : Res := .next s.boundaryScan

/-- DBG_AUTH (R545, R549, R552): reading the register returns a fresh nonce, a token that is shifted in is checked as DEBUG_UNLOCK checks it. -/
def execDbgAuth (tok : Option (List Byte)) (key : List Byte) (unf : List Nat) (s : State) : Res :=
  .next (if s.ck.power ≠ 0 && !s.se.hold then s
    else match tok with
      | none =>
        let (s, n) := s.newNonce 100
        s.emit (.mgmt 100 0 0 n)
      | some t => if s.locked then s else (s.debugToken [100] t key unf).1)

/-- The debug accesses that Table 16.7 allows now: 0 BAR0 register read, 1 trace, 2 halt of a control core, 3 memory read, 4 memory write,
5 access to the RTP, 6 halt of a carrel, 7 BAR0 register write. -/
def State.dapAllows (s : State) (kind : Nat) : Bool :=
  if s.ck.power ≠ 0 || s.se.hold then false
  else if s.lc = 0 then decide (kind ≤ 7)
  else if s.lc = 4 then inSet [0, 1, 2, 5, 6] kind
  else if s.se.debug = 1 then decide (kind ≤ 1)
  else s.se.debug == 2 && kind != 5 && decide (kind ≤ 7)

/-- DAP_ACCESS (R544, R547, R552): the answer goes out on the TAP; an access that the matrix does not allow is not answered. Registers are read
and written as the control firmware does. An access to the RTP reads or writes its private SRAM, whose bytes that debug has not written are free
values (log entry 149). A memory read is an access of no tenant, and no byte leaves where a sector is poisoned or its tag fails (R346, R352);
a carrel is halted, or with `n` 0 let go. -/
def execDapAccess (kind a n : Nat) (data : List Byte) (s : State) : Res :=
  .next (if !s.dapAllows kind then s
    else
      let answer (s : State) (b : List Byte) : State := s.emit (.mgmt 101 kind 0 b)
      if kind = 0 then answer (s.busRead .fw a).1 (leBytes 4 (s.busRead .fw a).2)
      else if kind = 2 then answer (if a < 8 then s.setCore a { s.core a with halted := true } else s) []
      else if kind = 3 then
        let (s, m) := s.readAccess (List.range' (a / 65536) (n / 65536 + 2)) none (a % 65536) n {} {}
        answer s (if m.status = .ok then s.readRuns (List.range' (a / 65536) (n / 65536 + 2)) (a % 65536) 0 n else [])
      else if kind = 4 then answer (s.writeMem a data) []
      else if kind = 5 then
        if !data.isEmpty then
          answer (s.onSe (fun e => { e with sram :=
            (data.zipIdx.filter (fun p => decide (a + p.2 < 524288))).foldl (fun m p => kvInsert m (a + p.2) p.1) e.sram })) []
        else answer s.draw ((List.range' a (min n (524288 - a))).map (fun i => kvGet (Config.rtpByte s.fresh i) s.se.sram i))
      else if kind = 6 then answer (if a < 64 then s.setCarrel a { s.carrel a with halted := decide (0 < n) } else s) []
      else if kind = 7 then
        match execRegisterWrite { p := .fw, off := a } (leAt data 0 4) {} s with
        | .next t => answer t []
        | _ => s
      else answer s [])

end Sys2Proof.Machine
end

