-- ==== Sys2Proof/Machine/Accept.lean ====
section
/-!
DEFINITION. Acceptance (Table 2.4): the forms of entries, the checks of steps 1 to 8, what a command touches, the descriptor
that steps 9 and 10 make. Fetch, arbitration and completion are in Complete.
-/
namespace Sys2Proof.Machine

/-- Why acceptance ends without a descriptor: the status, the step of Table 2.4 or the DETAIL that a rule names, the result. -/
structure Stop where
  st : Status
  step : Nat
  res : Result := {}
  deriving DecidableEq, Repr

/-- A stop is a refusal of R113: E_PARAM, E_PERM or E_UNSUPPORTED at steps 1 to 3 or 8. -/
def Stop.counted (x : Stop) : Bool :=
  (x.st = .param || x.st = .perm || x.st = .unsupported) && ((decide (1 ≤ x.step) && decide (x.step ≤ 3)) || x.step == 8)

/-- A stop that TN_MAP_REFUSED counts (Table 2.7): E_NOMAP or E_PERM at steps 6 to 8. -/
def Stop.mapRefused (x : Stop) : Bool :=
  (x.st = .nomap || x.st = .perm) && decide (6 ≤ x.step) && decide (x.step ≤ 8)

/-! ## The forms of entries (Tables 2.5, 4.2, 5.1, 6.7, 9.1, 11.9, 15.3, 17.3, 21.7, 22.6) -/

/-- What the owning chapter names of an opcode: management queues only, its OPFLAGS as a mask of [11:8], those for management queues only,
the bits that operands A and B and bytes 48 to 63 may set, the least and the largest LENGTH. -/
structure Form where
  mgmt : Bool := false
  flags : Nat := 0
  mflags : Nat := 0
  a : Nat := 0
  b : Nat := 0
  spec : Nat := 0
  lo : Nat := 0
  hi : Nat := 0
  deriving DecidableEq, Repr

/-- `n` one bits from bit `i` on. -/
def ones (n i : Nat) : Nat := (2 ^ n - 1) * 2 ^ i

/-- A number sets no bit outside a mask. -/
def within (v mask : Nat) : Bool := v &&& mask == v

/-- The mask of bytes 48 to 53 with a token and a budget. -/
def specToken : Nat := ones 48 0

/-- The mask of a budget with a destination in bytes 56 to 63. -/
def specDest : Nat := ones 16 32 + ones 64 64

/-- The form of each opcode of Table 3.5; none for an unassigned one. -/
def opForm (op : Nat) : Option Form :=
  let any := ones 64 0
  let ta := ones 40 0
  let folios : Form := { mgmt := true, a := ones 24 0, lo := 1, hi := 4096 }
  let request : Form := { b := any, lo := 64, hi := 67108864 }
  let hostOnly : Form := { mgmt := true }
  match op with
  | 0x00 => some {}
  | 0x01 => some { flags := 1, a := ones 12 0, b := ones 63 0 }
  | 0x02 => some { a := ones 12 0, b := ones 63 0 }
  | 0x03 => some { flags := 11, mflags := 3, a := ones 12 0, spec := ones 16 32 }
  | 0x04 => some { mgmt := true, flags := 1, a := ones 12 0 }
  | 0x10 => some { folios with a := ones 26 0, b := any, spec := ones 8 0 }
  | 0x11 => some folios
  | 0x12 => some { folios with flags := 1, b := any }
  | 0x13 => some folios
  | 0x14 => some { folios with mgmt := false, spec := ones 2 0 }
  | 0x15 => some { folios with spec := ones 4 0 }
  | 0x20 => some { a := ta, b := any, lo := 1, hi := 67108864 }
  | 0x21 => some { a := ta, b := any, lo := 1, hi := 67108864 }
  | 0x22 => some { a := ta, b := ta, lo := 1, hi := 67108864 }
  | 0x23 => some { flags := 8, a := ones 26 0, b := any, spec := specToken, lo := 1, hi := 16777216 }
  | 0x24 => some { flags := 8, a := ones 26 0, b := any, spec := specToken, lo := 1, hi := 16777216 }
  | 0x25 => some { flags := 8, a := ones 12 0, spec := specToken }
  | 0x30 => some { flags := 7, a := any, b := any, lo := 1, hi := 256 }
  | 0x31 => some { flags := 7, a := any, spec := ones 128 0, hi := 65536 }
  | 0x32 => some { flags := 3, a := any, hi := 65535 }
  | 0x33 => some { a := any, spec := ones 2 0 }
  | 0x40 => some { request with flags := 15, a := ones 20 0, spec := specDest + ones 32 0 }
  | 0x41 => some { request with flags := 11, spec := specDest }
  | 0x42 => some { a := ta, spec := ones 10 0 + ones 32 32 + ones 40 64, lo := 1, hi := 16777216 }
  | 0x43 => some { request with flags := 11, a := ones 20 0, spec := specDest + ones 32 0 }
  | 0x50 => some { request with flags := 11, spec := specDest }
  | 0x60 => some { flags := 1, b := any, hi := 1048576 }
  | 0x61 => some { flags := 6, mflags := 6, a := ones 12 0 }
  | 0x62 => some { flags := 1, a := ones 12 0, b := any, hi := 1048576 }
  | 0x63 => some { flags := 3, a := ones 12 0, b := any, hi := 1048576 }
  | 0x70 => some { hostOnly with b := any, lo := 64, hi := 64 }
  | 0x71 => some { hostOnly with flags := 3, b := any, lo := 64, hi := 64 }
  | 0x72 => some hostOnly
  | 0x73 => some { hostOnly with a := ones 24 0, b := ones 11 0, spec := ones 3 0 + ones 16 16 }
  | 0x74 => some { hostOnly with a := ones 16 0 }
  | 0x75 => some { hostOnly with flags := 1, a := ones 6 0 }
  | 0x76 => some hostOnly
  | 0x78 => some { hostOnly with flags := 1, a := ones 4 0 + ones 6 8, b := any, hi := 512 }
  | 0x79 => some { hostOnly with a := ones 32 0 }
  | 0x7A => some { hostOnly with flags := 1, a := ones 6 0 + ones 6 8, b := ones 32 0 }
  | 0x7B => some { hostOnly with a := ones 4 0, b := any, spec := ones 96 0, hi := 16777216 }
  | 0x7C => some { hostOnly with flags := 7, a := ones 2 0 + ones 6 4 + ones 3 12 + ones 4 16, b := any, spec := ones 32 0, hi := any }
  | 0x7D => some { hostOnly with a := ones 12 0, b := ones 11 0 }
  | 0x7E => some { hostOnly with flags := 1, b := any, lo := 64, hi := 1048576 }
  | 0x7F => some { hostOnly with flags := 1, a := any, b := any, hi := any }
  | _ => none

/-! ## Steps 1 and 2 -/

/-- Step 1 (R51, R485, R492): the tenant of the queue, or any for a management queue; a FREE tenant fails, a REMOVING one ends the entry
E_RETIRED, but for the forced paths, creation and removal. -/
def State.step1 (s : State) (q : Nat) (e : Entry) : Option Stop :=
  let forced := e.opcode == 0x04 || (e.opcode == 0x61 && e.flag 9)
  let admin := e.opcode == 0x70 || e.opcode == 0x72
  if !isMgmt q && e.tenant ≠ (s.queue q).tenant then some ⟨.perm, 1, {}⟩
  else match s.tenantState e.tenant with
    | 0 => if isMgmt q && admin then none else some ⟨.perm, 1, {}⟩
    | 1 => none
    | _ => if isMgmt q && (forced || admin) then none else some ⟨.retired, 1, {}⟩

/-- The hint class that an entry sets is HOLD (R187). -/
def Entry.setsHold (e : Entry) : Bool :=
  (e.opcode == 0x31 && e.pubHint == 3) || (e.opcode == 0x33 && bits e.spec 0 2 == 3)

/-- Step 2 (R49, R103, R149, R187, R691, R692): the pool is ready, the opcode assigned, the queue permitted. -/
def State.step2 (s : State) (q : Nat) (e : Entry) : Option Stop :=
  let early := e.opcode == 0x00 || e.opcode == 0x7F || e.opcode == 0x7E
  if s.fld F_TOP_BOOT_STATUS_POOL_READY = 0 && !early then
    some (if s.fld F_TOP_BOOT_STATUS_NO_POOL = 1 then ⟨.unsupported, 0xD0, {}⟩ else ⟨.busy, 0xD1, {}⟩)
  else match opForm e.opcode with
    | none => some ⟨.unsupported, 2, {}⟩
    | some f =>
      if !isMgmt q && (f.mgmt || e.flags &&& f.mflags != 0 || e.setsHold) then some ⟨.perm, 2, {}⟩ else none

/-! ## Step 3: the operands -/

/-- The request of a command: carrel commands but QUANTIZE, and PLACE. -/
def Entry.hasRequest (e : Entry) : Bool := e.opcode == 0x40 || e.opcode == 0x41 || e.opcode == 0x43 || e.opcode == 0x50

/-- The block of a stream command or a publish. -/
def Entry.hasBlock (e : Entry) : Bool := e.opcode == 0x60 || e.opcode == 0x62 || e.opcode == 0x63 || e.opcode == 0x31

/-- The request, block or list lies at a tenant address. -/
def Entry.sourceTa (e : Entry) : Bool :=
  (e.hasRequest && e.flag 8) || ((e.hasBlock || e.opcode == 0x30) && !e.flag 8)

/-- The address of a command's request or block. -/
def Entry.sourceAddr (e : Entry) : Nat := if e.opcode = 0x31 then e.opA else e.opB

/-- The output goes to a tenant address in bytes 56 to 63. -/
def Entry.destTa (e : Entry) : Bool := e.opcode == 0x42 || (e.hasRequest && e.flag 9)

/-- The entry names memory by tenant address (R51). -/
def Entry.namesTa (e : Entry) : Bool :=
  e.opcode == 0x20 || e.opcode == 0x21 || e.opcode == 0x22 || e.sourceTa || e.destTa

/-- A number that is no tenant address (R39). -/
def notTa (a : Nat) : Bool := decide (2 ^ 40 ≤ a)

/-- A host address or HOSTBUF in an entry of a link-origin queue (R70, Table 4.2, Table 6.7). -/
def Entry.hostOnLink (e : Entry) : Bool :=
  ((e.opcode == 0x20 || e.opcode == 0x21 || e.opcode == 0x23 || e.opcode == 0x24) && e.opB != 0) ||
    (e.hasRequest && ((!e.flag 8 && e.opB != 0) || (!e.flag 9 && e.dest != 0))) ||
    ((e.hasBlock || e.opcode == 0x30) && e.flag 8)

/-- A tenant address of an entry has bits above [39:0] set. -/
def Entry.badTa (e : Entry) : Bool :=
  (e.sourceTa && notTa e.sourceAddr) || (e.opcode == 0x30 && e.sourceTa && notTa e.opA) ||
    (e.hasRequest && e.flag 9 && notTa e.dest)

/-- FENCE_RESET's own refusals (R150). -/
def Entry.badFence (e : Entry) : Bool :=
  let set := e.flag 8 || e.flag 9
  (e.flag 8 && e.flag 9) || (set && decide (e.opA < 16)) || (e.flag 8 && e.tenant == 0)

/-- QUANTIZE's own refusals (Table 6.11, R223). -/
def Entry.badQuant (e : Entry) : Bool :=
  let r := quantReq e
  let n := elemBytes r.src e.len
  let m := quantBytes r.dst e.len
  !(decide (r.src ≤ 3) || r.src == 10) || decide (9 < r.dst) || r.mode == 3 ||
    (isMx r.dst && (r.mode != 0 || e.len % 32 != 0)) || (decide (e.opA < e.dest + m) && decide (e.dest < e.opA + n))

/-- The LENGTH of a KEY_CREATE by kind (Table 17.3). -/
def keyLen (kind : Nat) : Nat := if kind = 2 then 32 else if kind = 3 then 240 else if kind = 4 then 512 else 0

/-- The LENGTH of a DEVICE_ADMIN by SUB (Table 22.7). -/
def adminLen (sub : Nat) : Nat := if sub = 2 then 2688 else if sub = 3 then 256 else if sub = 4 then 512 else 0

/-- What an opcode's own rules refuse of its operands. -/
def Entry.badFields (e : Entry) : Bool :=
  match e.opcode with
  | 0x03 => e.badFence
  | 0x04 => e.flag 8 && e.opA != 0
  | 0x10 => bits e.opA 24 2 == 3 || decide (8 < bits e.spec 4 4)
  | 0x12 => e.opB % 8 != 0
  | 0x14 => bits e.spec 0 2 == 3
  | 0x15 => decide (8 < bits e.spec 0 4)
  | 0x24 => decide (e.through + 1 < e.len)
  | 0x31 => e.hash == 0
  | 0x32 => if e.flag 9 then e.len != 0 else e.len == 0 && !e.flag 8
  | 0x42 => e.badQuant
  | 0x61 => e.flag 10 && e.opA != 0
  | 0x73 => if bits e.opA 16 8 < 0x30 then e.opB != 0 else e.spec != 0
  | 0x78 =>
    e.keyKind == 0 || decide (4 < e.keyKind) || e.len != keyLen e.keyKind || (e.keyKind != 3 && bits e.opA 8 6 != 0) ||
      (e.flag 8 && e.keyKind != 4)
  | 0x7B =>
    let r := e.opA == 3
    e.opA == 0 || decide (3 < e.opA) || (e.opA == 1 && e.opB != 0) || (r && decide (2 ^ 24 ≤ e.opB)) ||
      (!r && (e.len != 0 || e.spec != 0))
  | 0x7C => !bistOk e e.bist
  | 0x7D =>
    let t := bits e.opA 0 8
    let act := bits e.opA 8 4
    decide (3 < act) || (decide (19 < t) && t != 0xFF) || (if act = 0 then e.opB == 0 || decide (1024 < e.opB) else e.opB != 0)
  | 0x7F => (e.flag 8 && e.opA != 1) || e.len != adminLen e.opA || (e.opA == 1 && e.opB != 0)
  | _ => false

/-- Tenant administration and key commands name a tenant; DEVICE_ADMIN names none (Table 15.3, R717). -/
def Entry.badTenant (e : Entry) : Bool :=
  (decide (0x70 ≤ e.opcode) && decide (e.opcode ≤ 0x76) && e.tenant == 0) || (e.opcode == 0x7F && e.tenant != 0) ||
    (e.tenant == 0 && e.namesTa)

/-- Step 3 on the entry itself (R39, R51, R70, R99, R100, R103, R717). -/
def Entry.step3 (e : Entry) (f : Form) (link : Bool) : Option Stop :=
  if e.rsv ≠ 0 || !within e.flags f.flags || !within e.opA f.a || !within e.opB f.b || !within e.spec f.spec ||
      (!e.wait && (e.waitId != 0 || e.waitVal != 0)) || (!e.signal && (e.sigId != 0 || e.sigVal != 0)) ||
      e.len < f.lo || f.hi < e.len || e.badTa || e.badTenant || (link && e.hostOnLink) then some ⟨.param, 3, {}⟩
  else if e.opcode = 0x7F && 256 ≤ e.opA then some ⟨.param, 3, {}⟩
  else if e.opcode = 0x7F && (e.opA = 0 || 4 < e.opA) then some ⟨.unsupported, 3, {}⟩
  else if e.badFields then some ⟨.param, 3, {}⟩
  else none

/-! ## What a command touches -/

/-- The right that a folio's role needs of its mirror entry (Table 2.3). -/
inductive Need where
  | valid | read | write | compute | share
  deriving DecidableEq, Repr

/-- A mirror entry carries the right (R164, R166). -/
def State.grants (s : State) (t tfn : Nat) : Need → Bool
  | .valid => true
  | .read => (s.entry t tfn).rd
  | .write => s.mayWrite t tfn
  | .compute => (s.entry t tfn).cp
  | .share => (s.entry t tfn).sh && (s.entry t tfn).rd

/-- Steps 6 and 7 over named TFNs: each below TN_MAP_LEN, then each with a readable and valid mirror entry (Table 20.6 code 1). -/
def State.mapStop (s : State) (t : Nat) (l : List Nat) : Option Stop :=
  if l.any (fun k => decide (s.fld F_TN_MAP_LEN_LEN t ≤ k)) then some ⟨.nomap, 6, {}⟩
  else (l.find? (fun k => s.mirrorBad t k || !(s.entry t k).valid)).map (fun k =>
    if s.mirrorBad t k then ⟨.poison, 7, {}⟩ else ⟨.nomap, 7, {}⟩)

/-- Step 8 over named TFNs with their rights. -/
def State.permStop (s : State) (t : Nat) (l : List (Nat × Need)) : Option Stop :=
  if l.all (fun p => s.grants t p.1 p.2) then none else some ⟨.perm, 8, {}⟩

/-- The memory keys of the owners of touched folios are there (R561, R569). The E_UNSUPPORTED of R561 is found after step 5 and counts as no refusal
(DESIGN CHOICE, log entry 141). -/
def State.keyStop (s : State) : List Nat → Option Stop
  | [] => none
  | t :: l => match s.memSlot t with
    | none => some ⟨.unsupported, 0xA1, {}⟩
    | some i => if (s.slot i).st = .active then s.keyStop l else some ⟨.retired, 5, {}⟩

/-- The entries of a tenant's range of bytes. -/
def grantsAt (a n : Nat) : List ListEntry := (tfnsOf a n).map ListEntry.grant

/-- The TFNs among list entries, each with a right. -/
def tfnsIn (need : Need) (l : List ListEntry) : List (Nat × Need) :=
  l.filterMap (fun x => match x with | .grant k => some (k, need) | .seg _ => none)

/-- The DFN of a list entry. -/
def State.dfnOf (s : State) (t : Nat) : ListEntry → Nat
  | .grant k => (s.entry t k).dfn
  | .seg f => f

/-- Pin class and default hint of a list entry (R236); a prefix entry has no mirror entry, which code 15 says. -/
def State.metaOf (s : State) (t : Nat) : ListEntry → Nat
  | .grant k => (s.entry t k).pin + 16 * (s.owner (s.entry t k).dfn).hint
  | .seg f => 15 + 16 * (s.owner f).hint

/-- What acceptance has found of a command: the folios it reads and writes with their rights, the TFNs of a map command (step 6 only),
TFNs that steps 6 and 7 alone check, a rule of access checked beyond them (R753), what the descriptor records. `barred` says that a command would write a prefix entry. -/
structure Want where
  src : List ListEntry := []
  need : Need := .read
  dst : List ListEntry := []
  tfns : List Nat := []
  maps : List Nat := []
  ruled : Bool := false
  barred : Bool := false
  strm : Option Nat := none
  aux : Nat := 0
  list : List Nat := []
  blk : List Byte := []
  data : List Byte := []
  deriving DecidableEq, Repr

/-! ## Step 5: streams -/

/-- A refusal of a stream command at step 5 with a reason of Table 4.4. -/
def State.strmStop (s : State) (i reason : Nat) : Stop :=
  ⟨.param, 5, { w0 := (s.stream i).st.code, w1 := reason }⟩

/-- The states in which a command may name a stream (Table 4.1). -/
def Entry.strmOk (e : Entry) (st : StreamState) : Bool :=
  if e.opcode = 0x61 then (if e.flag 9 then st != .free else st == .active || st == .suspended)
  else if e.opcode = 0x63 && !e.flag 9 then st == .suspended
  else st == .active

/-- The stream that an entry names. -/
def Entry.strm (e : Entry) : Nat := bits e.opA 0 12

/-- The layer that an entry names. -/
def Entry.layer (e : Entry) : Nat := bits e.opA 12 8

/-- The folio-list entries of a layer that hold tokens `lo` to `hi`: the number of the first one, and the entries. -/
def Stream.entriesOf (x : Stream) (l lo hi : Nat) : Nat × List ListEntry :=
  let n := max 1 x.layout.tpf
  (lo / n, (((x.layers.getD l {}).list).drop (lo / n)).take (hi / n + 1 - lo / n))

/-- The segment records that a stream's prefix entries belong to. -/
def State.segsOf (s : State) (x : Stream) (l : List ListEntry) : List SegRec :=
  let fs := l.filterMap (fun y => match y with | .seg f => some f | .grant _ => none)
  ((x.segs.filterMap s.handleIdx).map s.seg).filter (fun r => fs.any (inSet r.dfns))

/-- The reads of a stream's prefix pass (R172, Table 20.6 code 5): the scope is the tenant's, or it is the publisher. -/
def State.scopeStop (s : State) (t : Nat) (rs : List SegRec) : Option Stop :=
  if rs.any (·.bad) then some ⟨.poison, 5, {}⟩
  else if rs.all (fun r => decide (r.scope = s.scopeOf t) || r.publisher == t) then none
  else some ⟨.perm, 5, {}⟩

/-- The layer is the stream's and its list reaches the token (R130, R218). -/
def State.listStop (s : State) (i l tok : Nat) : Option Stop :=
  let x := s.stream i
  if x.layers.length ≤ l then some (s.strmStop i 3)
  else if (x.layers.getD l {}).list.length ≤ tok / max 1 x.layout.tpf then some (s.strmStop i 2)
  else none

/-- The slot and shard of APPEND_KV and GATHER_KV (R148): reason SLOT, or none for a shard out of range. -/
def State.slotStop (s : State) (i : Nat) (e : Entry) : Option Stop :=
  if e.slot = 0 || !(s.stream i).slots.any (fun p => p.1 == e.slot) then some (s.strmStop i 4)
  else if (kvGet {} (s.stream i).slots e.slot).shards ≤ e.shard then some (s.strmStop i 0)
  else none

/-- The first of several checks that stops. -/
def firstStop (l : List (Option Stop)) : Option Stop := (l.filterMap id).head?

/-- Two token ranges overlap without being equal. -/
def overlaps (a b c d : Nat) : Bool := decide (a ≤ d) && decide (c ≤ b) && !(a == c && b == d)

/-- The append tracker refuses an APPEND_KV (R126); an append that still waits for its entry counts as one. -/
def State.trackStop (s : State) (i : Nat) (e : Entry) : Option Stop :=
  let y := (s.stream i).layers.getD e.layer {}
  let lo := e.through
  let hi := lo + e.len - 1
  let waits := (s.q.descs.filter (fun p => p.2.e.opcode == 0x23 && p.2.strm == some i && p.2.aux == e.layer &&
    p.2.stage != .done)).map (fun p => ({ first := p.2.e.through, last := p.2.e.through + p.2.e.len - 1, slot := p.2.e.slot, mask := 0 } : Tracker))
  let all := y.trk ++ waits
  if all.any (fun t => overlaps lo hi t.first t.last || (t.first == lo && t.last == hi && t.slot != e.slot)) then
    some (s.strmStop i 5)
  else if lo < y.wm || y.trk.any (fun t => t.first == lo && t.last == hi && bit t.mask e.shard) then some (s.strmStop i 6)
  else none

/-- A prefix entry of a folio list, which holds a segment's DFN (R120). -/
def ListEntry.isSeg : ListEntry → Bool
  | .seg _ => true
  | .grant _ => false

/-- APPEND_KV (R123, R126, R130, R148). To a prefix entry there is no WRITE (R166; DESIGN CHOICE, log entry 103). -/
def State.wantAppend (s : State) (e : Entry) : Except Stop Want :=
  let i := e.strm
  let hi := e.through + e.len - 1
  match firstStop [s.listStop i e.layer 0 |>.filter (fun x => x.res.w1 == 3), s.slotStop i e, s.listStop i e.layer hi, s.trackStop i e] with
  | some x => .error x
  | none =>
    let (b, l) := (s.stream i).entriesOf e.layer e.through hi
    .ok { src := l, need := .write, dst := l, strm := some i, aux := e.layer, list := [b], barred := l.any ListEntry.isSeg }

/-- GATHER_KV (R123, R130, R148, R172). -/
def State.wantGather (s : State) (e : Entry) : Except Stop Want :=
  let i := e.strm
  let (b, l) := (s.stream i).entriesOf e.layer (e.through + 1 - e.len) e.through
  match firstStop [s.listStop i e.layer 0 |>.filter (fun x => x.res.w1 == 3), s.slotStop i e, s.listStop i e.layer e.through,
      s.scopeStop e.tenant (s.segsOf (s.stream i) l)] with
  | some x => .error x
  | none => .ok { src := l, strm := some i, aux := e.layer, list := [b], ruled := l.any ListEntry.isSeg }

/-- The folios of an output of `n` bytes at a tenant address; when its size is not known yet, the first one and those after it that can be
written, up to 64 MiB. -/
def State.outFolios (s : State) (t a : Nat) (n : Option Nat) : List ListEntry :=
  match n with
  | some n => grantsAt a n
  | none =>
    let l := List.range' (a / 65536) 1025
    (l.take 1 ++ (l.drop 1).takeWhile (fun k => s.mapped t k && s.mayWrite t k)).map ListEntry.grant

/-- ATTEND and SCORE_TOPK (R123, R172, R202, R218, Table 6.7). `known` says that the request has been read; one that is pulled later names
its FIRST_TOKEN only then, and is checked and translated from token 0 on (DESIGN CHOICE, log entry 115). -/
def State.wantAttend (s : State) (q : Nat) (e : Entry) (known : Bool) (blk : List Byte) : Except Stop Want :=
  let i := e.strm
  let score := e.opcode == 0x43
  let x : Desc := { q := q, e := e, blk := blk, strm := some i, aux := e.layer }
  let y := (s.stream i).layout
  let (b, l) := (s.stream i).entriesOf e.layer (if known then x.attend.first else 0) e.through
  let n := if known then some (s.plan x).bytes else none
  match firstStop [
      if known && !x.attend.headOk score e.len e.through then some ⟨.param, 3, {}⟩ else none,
      s.listStop i e.layer e.through,
      if known && (!x.attend.ok y score e.len e.through || decide (67108864 < (s.plan x).bytes)) then some (s.strmStop i 0) else none,
      s.scopeStop e.tenant (s.segsOf (s.stream i) l)] with
  | some x => .error x
  | none => .ok {
      src := l, need := .compute, dst := if e.flag 9 then s.outFolios e.tenant e.dest n else [], strm := some i
      aux := e.layer, list := [b], blk := blk, ruled := l.any ListEntry.isSeg }

/-- REDUCE_PARTIAL and PLACE (R221, R293). -/
def State.wantRequest (s : State) (q : Nat) (e : Entry) (known : Bool) (blk : List Byte) : Except Stop Want :=
  let x : Desc := { q := q, e := e, blk := blk }
  let ok := if e.opcode = 0x50 then placeOk blk e.len else (reduceReq blk).ok e.len && decide ((s.plan x).bytes ≤ 67108864)
  let n := if e.opcode = 0x50 then 4 * placeRows blk else (s.plan x).bytes
  if known && !ok then .error ⟨.param, 3, {}⟩
  else .ok { dst := if e.flag 9 then s.outFolios e.tenant e.dest (if known then some n else none) else [], blk := blk }

/-! ## Step 5: stream blocks -/

/-- The first slot of a block whose layout a check of Table 8.2 refuses: the slot and the check (R278). Slot 0 is checked when the block opens
a stream; slots 1 to 3 when they are set, against the stored layout where there is one. -/
def slotFault (b : List Byte) (tables : List (List Byte)) (opens : Bool) (z : Option Layout) : Option (Nat × Nat) :=
  let c := if opens then (Layout.ofBytes (blkSlot b 0)).check none (tables.getD 0 []) else 0
  if c ≠ 0 then some (0, c)
  else
    ([1, 2, 3].filterMap (fun k =>
      let y := Layout.ofBytes (blkSlot b k)
      let d := if (blkSlot b k).all (· == 0) then 0 else y.check (some (z.getD y)) (tables.getD k [])
      if d = 0 then none else some (k, d))).head?

/-- A slot that a STREAM_RESUME with EXTEND sets is named by a tracker entry or a descriptor of the stream (check 14). -/
def State.slotUsed (s : State) (i k : Nat) : Bool :=
  (s.stream i).layers.any (fun y => y.trk.any (fun t => t.slot == k)) ||
    s.q.descs.any (fun p => p.2.strm == some i && (p.2.e.opcode == 0x23 || p.2.e.opcode == 0x24) && p.2.e.slot == k)

/-- The header words of a stream block are in range: its counts, TOTAL for a suspension only, the reserved bytes (Table 4.3). -/
def blkHead (b : List Byte) (suspend : Bool) : Bool :=
  decide (0x110 ≤ b.length) && decide (blkSegs b ≤ 1024) && decide (blkGrants b ≤ 4096) && leAt b 0x108 8 == 0 &&
    (if suspend then blkSegs b == 0 && blkGrants b == 0 && (b.take 0x100).all (· == 0) else blkTotal b == 0)

/-- A block has the size of its parts, with `n` TFN words whose top byte is 0. -/
def blkSized (b : List Byte) (n : Nat) : Bool :=
  b.length == 0x110 + 8 * blkSegs b + 4 * n && (blkTfns b n).all (fun w => decide (w < 2 ^ 24))

/-- The segments that a block names may be moved to the stream (R121, R161, R169, R170, Table 20.6 code 5). -/
def State.handlesStop (s : State) (t : Nat) (y : Layout) (hs : List Nat) : Option Stop :=
  if hs.any (fun h => match s.handleIdx h with | some i => (s.seg i).bad | none => false) then some ⟨.poison, 5, {}⟩
  else if hs.all (s.segFits y) && s.refsHeld t hs then none
  else some ⟨.param, 5, {}⟩

/-- A refusal of a layout (R278). -/
def layoutStop (slot check : Nat) : Stop := ⟨.param, 3, { w0 := slot, w1 := check }⟩

/-- STREAM_OPEN (R121, R170, R276 to R278, Table 4.3). -/
def State.wantOpen (s : State) (e : Entry) (b : List Byte) (tables : List (List Byte)) : Except Stop Want :=
  let y := Layout.ofBytes (blkSlot b 0)
  let table := tables.getD 0 []
  if !blkHead b false then .error ⟨.param, 3, {}⟩
  else match slotFault b tables true (some y) with
    | some (k, c) => .error (layoutStop k c)
    | none =>
      if !blkSized b (y.layers * blkGrants b) then .error ⟨.param, 3, {}⟩
      else match s.handlesStop e.tenant (y.canon table) (blkHandles b) with
        | some x => .error x
        | none => .ok { blk := b, data := table }

/-- STREAM_RESUME (R121, R136, R137, R170, R278). A FREE stream has no layout and no number of layers to judge the block by, so checks against them do not apply, and step 5 refuses it (log
entry 64). -/
def State.wantResume (s : State) (e : Entry) (b : List Byte) : Except Stop Want :=
  let i := e.strm
  let x := s.stream i
  let free := x.st = .free
  let used := if e.flag 9 then [1, 2, 3].find? (fun k => !(blkSlot b k).all (· == 0) && s.slotUsed i k) else none
  if !blkHead b false || !(blkSlot b 0).all (· == 0) || (e.flag 9 && blkSegs b ≠ 0) then .error ⟨.param, 3, {}⟩
  else if !free && !blkSized b (x.layers.length * blkGrants b) then .error ⟨.param, 3, {}⟩
  else match slotFault b [] false (if free then none else some x.layout), used with
    | some (k, c), _ => .error (layoutStop k c)
    | none, some k => .error (layoutStop k 14)
    | none, none => if free then .ok {} else
      match s.handlesStop e.tenant x.layout (blkHandles b) with
      | some y => .error y
      | none =>
        if !e.flag 9 && s.segTokens (blkHandles b) ≠ x.pfx then .error (s.strmStop i 0)
        else .ok { blk := b, strm := some i }

/-- STREAM_SUSPEND (R54, R123, R135): every granted entry is translated, the hot ones are the sources, and the folios that take them are the
destinations. A destination TFN that maps a hot-tier folio is accepted as it is: the spec names no refusal for it (DESIGN CHOICE, log entry
104). -/
def State.wantSuspend (s : State) (e : Entry) (b : List Byte) : Except Stop Want :=
  let i := e.strm
  let y := s.stream i
  let hot := s.hotGrants e.tenant y
  let warm := (blkTfns b (blkTotal b)).map ListEntry.grant
  if !blkHead b true || !blkSized b (blkTotal b) then .error ⟨.param, 3, {}⟩
  else if blkTotal b ≠ hot.length then .error (s.strmStop i 0)
  else .ok {
    src := hot.map ListEntry.grant, need := .valid, dst := warm, maps := y.grants, blk := b, strm := some i, list := s.hotPlaces e.tenant y }

/-! ## Step 5: the catalog -/

/-- CATALOG_PUBLISH (R163, R164, R276, R278, Table 5.2). -/
def wantPublish (b table : List Byte) : Except Stop Want :=
  let y := pubLayout b
  let n := pubTokens b / max 1 y.tpf * pubLayers b
  let tfns := (List.range n).map (fun i => leAt b (0x48 + 4 * i) 4)
  if b.length < 0x48 then .error ⟨.param, 3, {}⟩
  else match y.check none table with
    | 0 =>
      let w := leAt b 0x40 4
      if bits w 9 7 ≠ 0 || bits w 25 7 ≠ 0 || leAt b 0x44 4 ≠ 0 || pubLayers b ≠ y.layers || pubTokens b < 16 || 256 < pubTokens b ||
          pubTokens b % max 1 y.tpf ≠ 0 || b.length ≠ 0x48 + 4 * n || !tfns.all (fun k => decide (k < 2 ^ 24)) then .error ⟨.param, 3, {}⟩
      else .ok { src := tfns.map ListEntry.grant, need := .share, blk := b, data := table }
    | c => .error (layoutStop 4 c)

/-- CATALOG_RELEASE and CATALOG_HINT (R161, R169, R185 to R187). -/
def State.wantHandle (s : State) (q : Nat) (e : Entry) : Except Stop Want :=
  match s.handleIdx e.opA with
  | none => .error ⟨.param, 5, {}⟩
  | some i =>
    let r := s.seg i
    if r.bad then .error ⟨.poison, 5, {}⟩
    else if (e.opcode = 0x33 || e.flag 8) && !isMgmt q && r.publisher ≠ e.tenant then .error ⟨.perm, 5, {}⟩
    else if e.opcode = 0x32 && !e.flag 9 && s.ledger e.tenant i < e.len then .error ⟨.param, 5, {}⟩
    else .ok {}

/-! ## Step 5 by opcode -/

/-- The request is known at acceptance: only a link-origin queue's data comes later (R399). -/
def State.known (s : State) (q : Nat) (e : Entry) : Bool := !((s.queue q).isLink && e.pulls)

/-- The weight slot of a RELEASE is not retiring (R569). -/
def State.weightRetired (s : State) (e : Entry) : Bool :=
  match s.slotOf (bits e.spec 0 32) with
  | some i => (s.slot i).st == .retiring || (s.slot i).st == .lost
  | none => false

/-- The entry names a stream. -/
def Entry.onStream (e : Entry) : Bool :=
  e.opcode == 0x23 || e.opcode == 0x24 || e.opcode == 0x25 || e.opcode == 0x40 || e.opcode == 0x43 ||
    (e.opcode == 0x61 && !e.flag 10) || e.opcode == 0x62 || e.opcode == 0x63

/-- The stream's state does not allow the command (R118). -/
def State.stateStop (s : State) (e : Entry) : Option Stop :=
  if e.onStream && !e.strmOk (s.stream e.strm).st then some (s.strmStop e.strm 1) else none

/-- What a command wants by its opcode, with the block or request that has been read and the scale tables of a block: what is left of step 3,
and step 5 but for the stream's state. -/
def State.wantOp (s : State) (q : Nat) (e : Entry) (b : List Byte) (tables : List (List Byte)) : Except Stop Want :=
  let i := e.strm
  match e.opcode with
  | 0x03 => if e.flag 8 && (s.fence (e.opA % 4096)).bound then .error ⟨.param, 5, {}⟩ else .ok {}
  | 0x10 | 0x11 | 0x12 | 0x13 | 0x14 => .ok { tfns := e.tfns }
  | 0x15 => .ok { tfns := e.tfns, list := (e.tfns.filter (fun k => (s.entry e.tenant k).valid)).map (fun k => (s.entry e.tenant k).pin) }
  | 0x20 => .ok { dst := grantsAt e.opA e.len }
  | 0x21 => .ok { src := grantsAt e.opA e.len }
  | 0x22 => .ok { src := grantsAt e.opB e.len, dst := grantsAt e.opA e.len }
  | 0x23 => s.wantAppend e
  | 0x24 => s.wantGather e
  | 0x25 => .ok { strm := some i }
  | 0x30 => .ok (if e.flag 8 then {} else { src := grantsAt e.opA (16 * e.len), dst := grantsAt e.opB (16 * e.len) })
  | 0x31 => wantPublish b (tables.getD 0 [])
  | 0x32 | 0x33 => s.wantHandle q e
  | 0x40 | 0x43 => s.wantAttend q e (s.known q e) b
  | 0x41 | 0x50 => s.wantRequest q e (s.known q e) b
  | 0x42 => .ok { src := grantsAt e.opA (elemBytes (quantReq e).src e.len), need := .compute
                  dst := grantsAt e.dest (quantBytes (quantReq e).dst e.len) }
  | 0x60 => s.wantOpen e b tables
  | 0x61 => .ok (if e.flag 10 then { list := (s.streamsOf e.tenant).map s.closeRef } else { list := [s.closeRef i], strm := some i })
  | 0x62 => s.wantSuspend e b
  | 0x63 => s.wantResume e b
  | 0x72 => if s.tenantState e.tenant = 1 then .ok {} else .error ⟨.param, 5, {}⟩
  | 0x7B =>
    if e.opA ≠ 3 then .ok {}
    else if s.weightRetired e then .error ⟨.retired, 5, {}⟩
    else .ok { src := (List.range' e.opB e.len).map ListEntry.grant }
  | _ => .ok { blk := b }

/-- Steps 3 and 5 of a command (R52): the contents of its block first, then the stream's state, then the rest. -/
def State.want (s : State) (q : Nat) (e : Entry) (b : List Byte) (tables : List (List Byte)) : Except Stop Want :=
  match s.wantOp q e b tables, s.stateStop e with
  | .error x, some y => .error (if x.step ≤ 3 then x else y)
  | .ok _, some y => .error y
  | r, none => r


/-! ## Blocks -/

/-- `n` bytes, from what the device read. -/
def fit (n : Nat) (b : List Byte) : List Byte := (b ++ List.replicate n 0).take n

/-- The bytes of a host block or request that acceptance reads. -/
def State.hostBytes (s : State) (q : Nat) (e : Entry) : Nat :=
  if e.hasRequest then (if e.flag 8 || (s.queue q).isLink then 0 else e.len)
  else if e.hasBlock then (if e.flag 8 then e.len else 0)
  else if e.opcode = 0x70 || e.opcode = 0x71 then 64
  else if e.opcode = 0x78 then (if e.flag 8 then 0 else e.len)
  else if e.opcode = 0x7F && e.opA = 2 then 2688
  else 0

/-- Reads bytes of a tenant's folios at acceptance: the memory key, steps 6 and 7, then the sectors. Without READ the bytes are taken without an
access, only to say which folios the command names: step 8 refuses it (R52; DESIGN CHOICE, log entry 64). -/
def State.takeBytes (s : State) (t a n : Nat) (w : For) : State × Except Stop (List Byte) :=
  let ks := tfnsOf a n
  let l := ks.map ListEntry.grant
  match firstStop [if n = 0 then none else s.keyStop [t], s.mapStop t ks] with
  | some x => (s, .error x)
  | none =>
    let s := s.metaReads (s.mirrorSecs t ks)
    let fs := l.map (s.dfnOf t)
    if !ks.all (fun k => s.grants t k .read) then (s, .ok (s.readRuns fs a 0 n))
    else
      let (s, m) := s.readAccess fs (some (l.map (s.metaOf t))) a n {} w
      if m.status ≠ .ok then (s, .error ⟨m.status, 3, {}⟩) else (s, .ok (s.readRuns fs a 0 n))

/-- The TFNs of a command's block or request. -/
def Entry.blockTfns (e : Entry) : List Nat := if e.sourceTa && e.opcode ≠ 0x30 then tfnsOf e.sourceAddr e.len else []

/-- The descriptors of a block that may name a scale table, by slot (R276, R278). -/
def blkLayouts (e : Entry) (b : List Byte) : List Layout :=
  if e.opcode = 0x60 then (List.range 4).map (fun k => Layout.ofBytes (blkSlot b k))
  else if e.opcode = 0x31 then [Layout.ofBytes (b.take 64)]
  else []

/-- The bytes of the scale table that a descriptor names: none when it names none, or its counts are out of range (R276). -/
def Layout.tableBytes (y : Layout) : Nat := if y.smode = 2 && y.layers ≤ 256 && y.heads ≤ 64 then 8 * y.layers * y.heads else 0

/-- Reads the scale tables of descriptors from tenant memory. One that cannot be read is empty, which check 5 of Table 8.2 refuses. -/
def State.takeTables (s : State) (e : Entry) (w : For) : List Layout → State × List (List Byte)
  | [] => (s, [])
  | y :: l =>
    let n := y.tableBytes
    let (s, t) := if n = 0 || notTa y.sref || !(tfnsOf y.sref n).all (fun k => s.grants e.tenant k .read) then (s, [])
      else match s.takeBytes e.tenant y.sref n w with
        | (s, .ok t) => (s, t)
        | (s, .error _) => (s, [])
    let (s, ts) := s.takeTables e w l
    (s, t :: ts)

/-- The scale tables of descriptors among what the device read from the host, one after another. -/
def hostTables : List Byte → List Layout → List (List Byte)
  | _, [] => []
  | b, y :: l => fit y.tableBytes b :: hostTables (b.drop y.tableBytes) l

/-- The block or request of a command and the scale tables of its slots: from the host `host` is what the device read, block first, then
tables. -/
def State.readBlock (s : State) (q : Nat) (e : Entry) (host : List Byte) : State × Except Stop (List Byte × List (List Byte)) :=
  let w : For := { ctx := errCtx q e.strm, tag := e.tag, tenant := e.tenant }
  if e.sourceTa && e.opcode ≠ 0x30 then
    match s.takeBytes e.tenant e.sourceAddr e.len w with
    | (s, .error x) => (s, .error x)
    | (s, .ok b) =>
      let (s, ts) := s.takeTables e w (blkLayouts e b)
      (s, .ok (b, ts))
  else
    let n := s.hostBytes q e
    let b := fit n host
    let ys := blkLayouts e b
    (ys.foldl (fun s y => s.askHost q y.sref y.tableBytes) (s.askHost q e.sourceAddr n), .ok (b, hostTables (host.drop n) ys))

/-! ## Steps 5 to 10 -/

/-- The fences that an entry names, but for BIND's own (R101, R150). -/
def Entry.fences (e : Entry) : List Nat :=
  (if e.wait then [e.waitId] else []) ++ (if e.signal then [e.sigId] else []) ++
    (if e.opcode = 0x01 || e.opcode = 0x02 || (e.opcode = 0x03 && !e.flag 8) || (e.opcode = 0x04 && !e.flag 8) then [e.opA % 4096]
      else [])

/-- Step 8 on fences and streams (R101, R117). -/
def State.ownStop (s : State) (e : Entry) (w : Want) : Option Stop :=
  let fences := e.fences.all (fun f => (s.fence f).bound && (s.fence f).tenant == e.tenant)
  let strm := match w.strm with | some i => (s.stream i).tenant == e.tenant | none => true
  if fences && strm then none else some ⟨.perm, 8, {}⟩

/-- The session through which a command of a link-origin queue pulls or returns data is not retiring (R569). -/
def State.sessionStop (s : State) (q : Nat) (e : Entry) : Option Stop :=
  let y := s.queue q
  let moves := y.isLink && (e.pulls || e.returns)
  let hs := ((s.link y.origin).sessions.filter (fun p => p.2.bound && p.2.tenant == y.tenant && p.1 != 63)).map (·.2.handle)
  if moves && hs.any (fun h => match s.slotOf h with
      | some i => decide ((s.slot i).st ≠ .active)
      | none => false) then some ⟨.retired, 5, {}⟩ else none

/-- The owners whose memory keys a command needs (R559, R561). -/
def State.keyOwners (s : State) (t : Nat) (w : Want) : List Nat :=
  ((w.src ++ w.dst).map (fun x => match x with | .grant _ => t | .seg f => (s.owner f).tenant)).eraseDups

/-- What is left of steps 5 to 8 once a command's touches are known. -/
def State.touchStop (s : State) (q : Nat) (e : Entry) (w : Want) : Option Stop :=
  firstStop [
    s.keyStop (s.keyOwners e.tenant w), s.sessionStop q e,
    if w.tfns.any (fun k => decide (s.fld F_TN_MAP_LEN_LEN e.tenant ≤ k)) then some ⟨.nomap, 6, {}⟩ else none,
    s.mapStop e.tenant (e.blockTfns ++ w.maps ++ (tfnsIn w.need w.src ++ tfnsIn .write w.dst).map (·.1)),
    s.permStop e.tenant (e.blockTfns.map (fun k => (k, .read)) ++ tfnsIn w.need w.src ++ tfnsIn .write w.dst),
    if w.barred then some ⟨.perm, 8, {}⟩ else none, s.ownStop e w]

/-- The folio-list entry and the TFNs that a command names whatever its block says: the entry of its through-token, the entries of a stream that is
suspended, the first folio of its output. -/
def State.knownTouch (s : State) (e : Entry) : List (ListEntry × Need) :=
  (if e.opcode = 0x40 || e.opcode = 0x43 then
      (((s.stream e.strm).entriesOf e.layer e.through e.through).2).map (fun x => (x, .compute))
    else if e.opcode = 0x62 then ((s.stream e.strm).grants).map (fun k => (.grant k, .valid))
    else []) ++
  (if e.hasRequest && e.flag 9 then [(.grant (e.dest / 65536), .write)] else [])

/-- What steps 5 to 7 find without the block, which goes before what they find of the block's own folios: step 5 first, then step 6 over all TFNs
that are known, then step 7 (R52; log entry 64). `x` is what the block's own folios gave. -/
def State.earlyStop (s : State) (q : Nat) (e : Entry) (x : Stop) : Stop :=
  let k := s.knownTouch e
  let ts := k.filterMap (fun p => match p.1 with | .grant n => some n | .seg _ => none)
  let owners := (k.map (fun p => match p.1 with | .grant _ => e.tenant | .seg f => (s.owner f).tenant)).eraseDups
  (firstStop [
    s.stateStop e, if e.opcode = 0x40 || e.opcode = 0x43 then s.listStop e.strm e.layer e.through else none,
    s.keyStop owners, s.sessionStop q e, s.mapStop e.tenant (e.blockTfns ++ ts)]).getD x

/-- A stream command refused at step 5 carries the code of its stream's state, whatever the check (Table 4.4). -/
def State.stepFive (s : State) (e : Entry) (x : Stop) : Stop :=
  if x.step = 5 && e.onStream then { x with res := { x.res with w0 := (s.stream e.strm).st.code } } else x

/-- The descriptor carries the tenant's epoch: its acceptance checked a rule of access (R753). -/
def carriesEpoch (e : Entry) (w : Want) : Bool :=
  decide (e.opcode < 0x70) && !(decide (0x10 ≤ e.opcode) && decide (e.opcode ≤ 0x15)) &&
    (!(tfnsIn w.need w.src ++ tfnsIn .write w.dst).isEmpty || !w.maps.isEmpty || w.ruled || (e.sourceTa && e.len != 0))

/-- The descriptor of step 10. -/
def State.newDesc (s : State) (q : Nat) (f : Fetched) (w : Want) : Desc :=
  let t := f.e.tenant
  let src := w.src.map (s.dfnOf t)
  let dst := w.dst.map (s.dfnOf t)
  let n := if f.e.opcode = 0x23 then runCount src else runCount src + runCount dst
  { q := q, e := f.e, seq := s.q.nextSeq, tFetch := f.t, tAcc := s.now, epoch := if carriesEpoch f.e w then some (s.epoch t) else none
    src := src, dst := dst, smeta := w.src.map (s.metaOf t), dmeta := w.dst.map (s.metaOf t), runs := n - 4, blk := w.blk
    data := w.data, aux := w.aux, list := w.list, strm := w.strm }

/-- The outcome of acceptance: an end without a descriptor, a wait (R58, R56, R94), or a descriptor. -/
inductive Accepted where
  | stop (x : Stop)
  | hold (h : Hold)
  | take (d : Nat) (x : Desc)
  deriving DecidableEq, Repr

/-- Steps 9 and 10 (R56). -/
def State.allot (s : State) (q : Nat) (f : Fetched) (w : Want) : Accepted :=
  let x := s.newDesc q f w
  match s.freshDesc with
  | none => .hold .resources
  | some d => if s.runsFree < x.runs then .hold .resources else .take d x

/-- Steps 1 to 3 on the entry alone. -/
def State.entryStop (s : State) (q : Nat) (e : Entry) : Option Stop :=
  firstStop [s.step1 q e, s.step2 q e, (opForm e.opcode).bind (fun g => e.step3 g (s.queue q).isLink)]

/-- The pieces of `n` bytes from address `a` that acceptance reads from a tenant's folios: none where a check refuses the read. -/
def State.taPieces (s : State) (t a n : Nat) : List Piece :=
  let ks := tfnsOf a n
  if (s.mapStop t ks).isNone && ks.all (fun k => s.grants t k .read) then pieces (ks.map (fun k => s.dfnOf t (.grant k))) a n else []

/-- The pieces of a command's block and of the scale tables that its descriptors name. -/
def State.blockPieces (s : State) (e : Entry) : List Piece :=
  if e.sourceTa && e.opcode ≠ 0x30 then
    let ps := s.taPieces e.tenant e.sourceAddr e.len
    let b := s.readRuns ((tfnsOf e.sourceAddr e.len).map (fun k => s.dfnOf e.tenant (.grant k))) e.sourceAddr 0 e.len
    ps ++ ((blkLayouts e b).map (fun y => if ps.isEmpty || notTa y.sref then [] else s.taPieces e.tenant y.sref y.tableBytes)).flatten
  else []

/-- Acceptance waits to read the block: for a unit that retrains (R318), or for the next interval of its tenant's cap (R497). -/
def State.blockWaits (s : State) (q : Nat) (e : Entry) : Bool :=
  !(e.ordered && s.inflight q != 0) && (s.entryStop q e).isNone && !s.inWindow e.tenant && s.readWaits e.tenant (s.blockPieces e)

/-- Acceptance of an entry (Table 2.4): ORDERED first (R94), steps 1 to 3 on the entry, the map window, the block, then steps 5 to 10. -/
def State.judge (s : State) (q : Nat) (f : Fetched) (host : List Byte) : State × Accepted :=
  let e := f.e
  if e.ordered && s.inflight q ≠ 0 then (s, .hold .ordered)
  else match s.entryStop q e with
  | some x => (s, .stop x)
  | none =>
    if s.inWindow e.tenant then (s, .hold .window)
    else match s.readBlock q e host with
      | (s, .error x) => (s, .stop (s.stepFive e (if 3 < x.step then s.earlyStop q e x else x)))
      | (s, .ok (b, tables)) => match s.want q e b tables with
        | .error x => (s, .stop (s.stepFive e x))
        | .ok w =>
          let s := s.metaReads ((if e.onStream then [s.streamSec e.strm] else []) ++
            s.mirrorSecs e.tenant (w.maps ++ (tfnsIn w.need w.src ++ tfnsIn .write w.dst).map (·.1)))
          match s.touchStop q e w with
          | some x => (s, .stop (s.stepFive e x))
          | none => (s, s.allot q f w)

/-! ## What acceptance does -/

/-- Once a descriptor exists: an append takes its tracker entry (R126), a suspension makes its stream SUSPENDING and a resumption RESUMING
(Table 4.1, R133), a close makes its streams CLOSING (Table 4.1), a removal makes its tenant REMOVING (R491), a carrel command whose request is known asks for clusters (R196), and the
command goes to its fence wait or begins (R92). -/
def State.accepted (s : State) (d : Nat) : State :=
  let x := s.desc d
  let s := if x.e.opcode = 0x23 then s.takeTracker x else s
  let i := x.strm.getD 0
  let s := if x.e.opcode = 0x62 then s.suspending i
    else if x.e.opcode = 0x63 && !x.e.flag 9 then s.setStream i { s.stream i with st := .resuming }
    else s
  let s := if x.e.opcode = 0x61 then s.closing x.seq x.list else s
  let s := if x.e.opcode = 0x72 then s.removeAccepted x.e.tenant d else s
  let carrel := x.e.opcode == 0x40 || x.e.opcode == 0x41 || x.e.opcode == 0x42 || x.e.opcode == 0x43
  let s := if carrel && s.known x.q x.e then s.wantWake d (s.plan x).tasks else s
  if x.e.wait then s.stage d (.wait .fence) else s.begin_ d

/-- Ends an entry without a descriptor, with the counts of R113 and Table 2.7. -/
def State.stopEntry (s : State) (q : Nat) (e : Entry) (x : Stop) : State :=
  let s := if x.mapRefused then s.bump F_TN_MAP_REFUSED_REFUSED 1 e.tenant else s
  s.refuseEntry q e x.st x.step x.counted x.res

/-- Records a new descriptor; a command accepted wakes the fabric (R590). -/
def State.enter (s : State) (d : Nat) (x : Desc) : State :=
  (({ s with ck := { s.ck with slow := false }, q := { s.q with nextSeq := s.q.nextSeq + 1 } }.setDesc d x)).accepted d

end Sys2Proof.Machine
end

