-- ==== Sys2Proof/Machine/Complete.lean ====
section
/-!
DEFINITION. The path of an entry around its operation: fetch, the grants of the arbiter, the ends of acceptance waits, timeouts and
completions (Queues and Command Packets).
-/
namespace Sys2Proof.Machine

/-! ## Fetch (R91, R116, R417) -/

/-- The link of a link-origin queue is in QUARANTINE. -/
def State.quarantined (s : State) (q : Nat) : Bool :=
  (s.queue q).isLink && decide ((s.link (s.queue q).origin).st = .quarantine)

/-- The queue may fetch: ACTIVE, with pending entries, its ring in reach (R452), no power state being entered (R600). -/
def State.mayFetch (s : State) (q : Nat) : Bool :=
  s.ck.power == 0 && s.ck.entry == 0 && decide ((s.queue q).st = .active) && s.pendingOf q != 0 && !s.hostBlocked q

/-- Counts how a read of host memory was answered (Table 14.12). -/
def State.countRead (s : State) : HostRead → State
  | .ok => s
  | .ur | .ca => s.bump F_HP_UR_CNT_ERR
  | .late => s.bump F_HP_CTO_CNT_CTO
  | .poisoned => s.bump F_HP_POISON_RX_POISON

/-- The 64 bytes at the SQ head, none when they cannot be read: of a ring in folios its sectors decide, of a ring in host memory what the
device reads. -/
def State.readEntry (s : State) (q : Nat) (bytes : List Byte) (got : HostRead) : State × Option (List Byte) :=
  let x := s.queue q
  let base := s.base F_QE_Q_SQBASE_SQBASE_LO F_QE_Q_SQBASE_SQBASE_HI q
  if s.qInFolios q then s.ringRead x.sqRing x.sqMeta base (x.sqHead * 64) 64 (x.who q)
  else ((s.askHost q (base + x.sqHead * 64) 64).countRead got, if got = .ok then some (fit 64 bytes) else none)

/-- The read of the entry at the head of a ring in folios waits for a unit that retrains (R318), or for its tenant's cap (R497). -/
def State.fetchWaits (s : State) (q : Nat) : Bool :=
  let x := s.queue q
  let r := Sys2Proof.Machine.ringAt x.sqRing (s.base F_QE_Q_SQBASE_SQBASE_LO F_QE_Q_SQBASE_SQBASE_HI q) (x.sqHead * 64)
  s.qInFolios q && s.readWaits (x.who q).tenant (pieces r.1 r.2 64)

/-- The write of a completion into a ring in folios waits likewise. -/
def State.cqWaits (s : State) (q : Nat) : Bool :=
  let x := s.queue q
  let r := Sys2Proof.Machine.ringAt x.cqRing (s.base F_QE_Q_CQBASE_CQBASE_LO F_QE_Q_CQBASE_CQBASE_HI q) (x.cqTail * 32)
  s.qInFolios q && s.mergeWaits (x.who q).tenant (pieces r.1 r.2 32)

/-- Takes the entry at the head of the ring. -/
def State.takeEntry (s : State) (q : Nat) (e : Entry) : State :=
  let x := s.queue q
  let s := s.setQueue q { x with sqHead := (x.sqHead + 1) % s.ringSize q }
  if s.quarantined q then s.refuseEntry q e .quarantine 0 false
  else s.setQueue q { s.queue q with fetched := x.fetched ++ [{ e := e, t := s.now }] }

/-- ENTRY_FETCH (R91, R116, R417, R453). On a link in QUARANTINE the entry completes at once, so it needs a CQ slot beyond those of the descriptors
in flight and of an entry that waits for its acceptance (R97). -/
def execEntryFetch (q : Nat) (bytes : List Byte) (got : HostRead) (s : State) : Res :=
  .next (if !s.mayFetch q || s.fetchWaits q || (s.quarantined q && decide (s.cqRoom q ≤ s.inflight q + (s.queue q).fetched.length)) then s
    else match s.readEntry q bytes got with
      | (s, none) => s.freeze q 3
      | (s, some b) => s.takeEntry q (Entry.ofBytes b))

/-! ## Acceptance of the head of a queue -/

/-- The key of a queue's tenant in its class: the management queues are one tenant (R108). -/
def State.arbKey (s : State) (q : Nat) : Nat :=
  let c := s.qClass q
  c * 1024 + (if c = 0 then 0 else (s.queue q).tenant)

/-- Replaces the arbiter. -/
def State.onArb (s : State) (f : Arbiter → Arbiter) : State := { s with q := { s.q with arb := f s.q.arb } }

/-- The entry at the head takes host bytes that its function cannot ask for now (R452). -/
def State.blockBlocked (s : State) (q : Nat) (e : Entry) : Bool := s.hostBytes q e != 0 && s.noHost q

/-- The queue is ready (R97, R107): ACTIVE, an entry fetched whose acceptance does not wait, room for a descriptor and its completion. -/
def State.ready (s : State) (q : Nat) : Bool :=
  let x := s.queue q
  decide (x.st = .active) && x.fetched.head?.any (fun f => decide (f.hold = .no) && !s.blockBlocked q f.e && !s.blockWaits q f.e) &&
    decide (s.inflight q < s.fld F_QE_Q_CFG_MAXINFLIGHT q) && decide (s.inflight q < s.cqRoom q) && !s.hostBlocked q

/-- The ready queues, in queue-ID order. -/
def State.readyQueues (s : State) : List Nat := (s.q.tab.map (·.1)).filter s.ready

/-- Passes the class pointer on from a tenant. -/
def Arbiter.pass (a : Arbiter) (c t : Nat) : Arbiter :=
  { a with ptr := kvInsert a.ptr c ((t + 1) % 1024), visiting := kvInsert a.visiting c false }

/-- Acceptance has ended: the tenant pays one unit of deficit, and the pointer passes on when it has no ready queue or less than one unit
(R108, R115). -/
def State.charge (s : State) (q : Nat) : State :=
  let k := s.arbKey q
  let c := k / 1024
  let left := s.readyQueues.any (fun p => s.arbKey p == k)
  let at_ := kvGet 0 s.q.arb.ptr c == k % 1024 && kvGet false s.q.arb.visiting c
  s.onArb (fun a =>
    let n := kvGet 0 a.deficit k - 1
    let a := { a with deficit := kvPut 0 a.deficit k (if left then n else 0) }
    if at_ && (!left || decide (n < 1)) then a.pass c (k % 1024) else a)

/-- The head of a queue leaves it. -/
def State.popHead (s : State) (q : Nat) : State :=
  s.setQueue q { s.queue q with fetched := (s.queue q).fetched.tail }

/-- Marks why the head of a queue waits. -/
def State.holdHead (s : State) (q : Nat) (h : Hold) : State :=
  s.setQueue q { s.queue q with fetched := match (s.queue q).fetched with
    | [] => []
    | f :: l => { f with hold := h } :: l }

/-- Acceptance of the head of a queue (R52): it ends without a descriptor, waits, or receives one. It goes on only while the free CQ slots
exceed the descriptors in flight (R97). -/
def State.accept (s : State) (q : Nat) (blk : List Byte) : State :=
  match (s.queue q).fetched with
  | [] => s
  | f :: _ =>
    if s.hostBlocked q || s.blockBlocked q f.e || s.blockWaits q f.e || s.cqRoom q ≤ s.inflight q then s
    else match s.judge q f blk with
      | (s, .hold h) => s.holdHead q h
      | (s, .stop x) => ((s.popHead q).stopEntry q f.e x).charge q
      | (s, .take d x) => ((s.popHead q).enter d x).charge q

/-- The head of a queue waits for a reason. -/
def State.headHeld (s : State) (q : Nat) (h : Hold) : Bool := (s.queue q).fetched.head?.any (fun f => decide (f.hold = h))

/-! ## Arbitration (R106 to R108) -/

/-- The weight of a tenant in a class: one for the management queues. -/
def State.weightIn (s : State) (c t : Nat) : Nat :=
  match c with
  | 0 => 1
  | 1 => s.fld F_TN_T_QE_WEIGHT_W1 t
  | 2 => s.fld F_TN_T_QE_WEIGHT_W2 t
  | _ => s.fld F_TN_T_QE_WEIGHT_W3 t

/-- The least number of a list from `p` on, or else the least of all: the next in a round. -/
def nextFrom (p : Nat) (l : List Nat) : Option Nat :=
  match (l.filter (fun k => decide (p ≤ k))).min? with
  | some k => some k
  | none => l.min?

/-- Since when each class has held a ready queue without a grant. -/
def State.noteReady (s : State) (rs : List Nat) : State :=
  s.onArb (fun a => { a with since := [0, 1, 2, 3].foldl (fun m c =>
    if rs.any (fun q => s.qClass q == c) then kvInsert m c (kvGet s.now m c) else kvErase m c) a.since })

/-- The class of the grant: the lowest with a ready queue, unless a higher one has waited for QE_STARVE_LIMIT; the one that has waited
longest then. -/
def State.grantClass (s : State) (rs : List Nat) : Option Nat :=
  let cs := [0, 1, 2, 3].filter (fun c => rs.any (fun q => s.qClass q == c))
  let lim := s.fld F_QE_STARVE_LIMIT_STARVE * 1000
  match cs with
  | [] => none
  | c :: up =>
    let since (k : Nat) : Nat := kvGet s.now s.q.arb.since k
    let late := up.filter (fun k => lim != 0 && decide (lim ≤ s.now - since k))
    some (late.foldl (fun m k => if m = c || since k < since m then k else m) c)

/-- The visit of a class: the tenant at the pointer, with its weight added when the visit is new; a tenant passed over because it has no
ready queue keeps no deficit. -/
def State.visit (s : State) (c t : Nat) : State :=
  let p := kvGet 0 s.q.arb.ptr c
  let old := kvGet false s.q.arb.visiting c
  s.onArb (fun a =>
    let a := if old && p ≠ t then { a with deficit := kvErase a.deficit (c * 1024 + p) } else a
    if old && p = t then a
    else
      let k := c * 1024 + t
      { a with
        ptr := kvInsert a.ptr c t, visiting := kvInsert a.visiting c true
        deficit := kvPut 0 a.deficit k (kvGet 0 a.deficit k + (s.weightIn c t : Int)) })

/-- The queue that receives the grant (R106 to R108): a class, a tenant of it, that tenant's next ready queue. -/
def State.granted (s : State) : State × Option Nat :=
  let rs := s.readyQueues
  let s := s.noteReady rs
  match s.grantClass rs with
  | none => (s, none)
  | some c =>
    let qs := rs.filter (fun q => s.qClass q == c)
    match nextFrom (kvGet 0 s.q.arb.ptr c) (qs.map (fun q => s.arbKey q % 1024)) with
    | none => (s, none)
    | some t =>
      let s := s.visit c t
      let k := c * 1024 + t
      match nextFrom (kvGet 0 s.q.arb.lastq k) (qs.filter (fun q => s.arbKey q == k)) with
      | none => (s, none)
      | some q => (s.onArb (fun a => { a with lastq := kvInsert a.lastq k (q + 1), since := kvInsert a.since c s.now }), some q)

/-- ARBITRATION_GRANT (R106 to R108): acceptance of the head of the granted queue begins. `blk` is what the device reads from the host as the
entry's block, if it has one there. -/
def execArbitrationGrant (blk : List Byte) (s : State) : Res :=
  .next (if s.ck.power ≠ 0 then s
    else match s.granted with
      | (s, none) => s
      | (s, some q) => s.accept q blk)

/-! ## The ends of acceptance waits -/

/-- TRANSLATION_WAIT_END (R56): the entry that waits at step 9 is accepted, or waits on. -/
def execTranslationWaitEnd (q : Nat) (blk : List Byte) (s : State) : Res :=
  .next (if s.headHeld q .resources then s.accept q blk else s)

/-- TRANSLATION_WAIT_TIMEOUT (R56): E_BUSY at step 9, counted. -/
def execTranslationWaitTimeout (q : Nat) (s : State) : Res :=
  .next (match (s.queue q).fetched with
    | [] => s
    | f :: _ =>
      if !s.headHeld q .resources || !s.timedOut q f.t || s.hostBlocked q || s.cqRoom q ≤ s.inflight q then s
      else (((s.popHead q).bump F_QE_XSTORE_WAITS_WAITS).stopEntry q f.e ⟨.busy, 9, {}⟩).charge q)

/-- The queues whose head waits for the map window of a tenant, in queue-ID order. -/
def State.windowHeld (s : State) (t : Nat) : List Nat :=
  (s.q.tab.filter (fun p => p.2.fetched.head?.any (fun f => decide (f.hold = .window) && f.e.tenant == t))).map (·.1)

/-- MAP_WINDOW_RELEASE (R58, R59): the window closes and held entries proceed. `blks` holds what the device reads for each queue. -/
def execMapWindowRelease (t : Nat) (blks : List (Nat × List Byte)) (s : State) : Res :=
  let s := s.closeWindow t
  .next (if s.inWindow t then s
    else (s.windowHeld t).foldl (fun s q => s.accept q (((blks.find? (fun p => p.1 == q)).map (·.2)).getD [])) s)

/-- ORDERED_RELEASE (R94). -/
def execOrderedRelease (q : Nat) (blk : List Byte) (s : State) : Res :=
  .next (if s.headHeld q .ordered && s.inflight q == 0 then s.accept q blk else s)

/-! ## Host reads that fail (R453, R454) -/

/-- A command reads host memory now: it is at its execution, and its function may send requests. -/
def State.readsHost (s : State) (d : Nat) : Bool :=
  let x := s.desc d
  (s.desc? d).isSome && decide (x.stage = .ready) && s.hostReads x != 0 && !s.noHost x.q

/-- The block of the entry at the head of a queue is read from the host now: nothing holds its acceptance before it (Table 2.4). -/
def State.readsBlock (s : State) (q : Nat) : Bool :=
  match (s.queue q).fetched.head? with
  | none => false
  | some f =>
    let t := f.e.tenant
    s.hostBytes q f.e != 0 && !s.noHost q && !s.hostBlocked q && (s.entryStop q f.e).isNone && decide (s.inflight q < s.cqRoom q) &&
      !(f.e.ordered && s.inflight q != 0) &&
      (match f.hold with
        | .no => s.granted.2 == some q && !s.inWindow t
        | .window => !(s.closeWindow t).inWindow t
        | _ => !s.inWindow t)

/-- The read of that block fails: the entry ends with a status and a DETAIL, and has changed nothing (R453, R454). -/
def State.blockFails (s : State) (q : Nat) (st : Status) (detail : Nat) : State :=
  match (s.queue q).fetched.head? with
  | none => s
  | some f =>
    let s := if f.hold = .no then s.granted.1 else s
    ((s.popHead q).stopEntry q f.e ⟨st, detail, {}⟩).charge q

/-- The answer of a host read that ends a transfer, by its code: 0 UR, 1 CA, 2 a timeout. -/
def readFault (code : Nat) : HostRead := if code = 2 then .late else if code = 1 then .ca else .ur

/-- The record of a host read that ends a transfer (Table 20.5 kind 0x35). -/
def State.transferRec (s : State) (q : Nat) (w : For) (code : Nat) : State :=
  s.report {
    kind := 0x35, utype := 14, inst := (s.queue q).fn, cls := 2, tenant := w.tenant, ctx := w.ctx, tag := w.tag
    status := 10, detail := 0x90 + code }

/-- HOST_COMPLETION_ERROR (R453): `code` 0 UR, 1 CA, 2 a timeout, once the function's completion timeout has passed. From 16,384 on `d` names the
queue whose entry's block is read (log entry 133). -/
def execHostCompletionError (d code : Nat) (unf : List Nat) (s : State) : Res :=
  let x := s.desc d
  let q := if 16384 ≤ d then d - 16384 else x.q
  let since := if 16384 ≤ d then (((s.queue q).fetched.head?).map (·.t)).getD 0 else x.tAcc
  let due := code != 2 || decide (since + (s.hostFn (s.queue q).fn).cto ≤ s.now)
  .next (if 2 < code || !due then s
    else if 16384 ≤ d then
      (match if s.readsBlock q then (s.queue q).fetched.head? else none with
        | none => s
        | some f =>
          ((s.countRead (readFault code)).blockFails q .aborted (0x90 + code)).transferRec q
            { ctx := errCtx q f.e.strm, tag := f.e.tag, tenant := f.e.tenant } code)
    else if s.readsHost d then ((s.countRead (readFault code)).endTransfer d (0x90 + code) unf).transferRec q x.who code
    else s)

/-- The opcodes whose host data is bound for tenant sectors: its poison marks them (Table 11.2). -/
def takesData (e : Entry) : Bool := e.opcode == 0x20 || e.opcode == 0x23

/-- POISONED_COMPLETION (R454): `n` bytes from offset `off` of what a command reads of host memory came poisoned. Data bound for tenant sectors keeps the
mark; a command that reads anything else ends E_POISON with a zero result and has changed nothing. From 16,384 on `d` names the queue whose entry's
block is read (log entry 133). -/
def execPoisonedCompletion (d off n : Nat) (s : State) : Res :=
  let x := s.desc d
  .next (if 16384 ≤ d then
      (if s.readsBlock (d - 16384) then (s.countRead .poisoned).blockFails (d - 16384) .poison 0 else s)
    else if !s.readsHost d then s
    else if takesData x.e then (s.countRead .poisoned).setDesc d { x with bad := x.bad ++ [(off, n)] }
    else (s.countRead .poisoned).finish d .poison)

/-! ## The end of a command -/

/-- A command gives up its translation: its DPAs, its runs and its epoch (R57). -/
def State.dropDpas (s : State) (d : Nat) : State :=
  match s.desc? d with
  | none => s
  | some x => s.setDesc d { x with src := [], dst := [], smeta := [], dmeta := [], runs := 0, epoch := none }

/-- COMMAND_TIMEOUT (R57, R92, R98, R754): begun sectors of the destination are poisoned and the command completes E_TIMEOUT; its
translation goes at once, also where its completion still waits to be written. A CATALOG_PUBLISH
stopped here or by a reset before its insert leaves the marks and the segment record it made (the spec is silent; DESIGN CHOICE, log entry
110). -/
def execCommandTimeout (d : Nat) (unfinished : List Nat) (s : State) : Res :=
  let x := s.desc d
  .next (if (s.desc? d).isNone || !s.timedOut x.q x.tFetch then s
    else ((if x.stage = .done then s else s.poisonUnfinished x.lineDst unfinished).finish d .timeout).dropDpas d)

/-- LINK_RESOURCE_WAIT_END (R414): a command that waits for its link pulls its data, or returns it. -/
def execLinkResourceWaitEnd (d : Nat) (s : State) : Res :=
  let x := s.desc d
  .next (if x.stage = .wait .link then s.begin_ d
    else if x.stage = .wait .linkOut && (s.queue x.outQ).isLink then s.resumeOut d
    else s)

/-- The suspensions that wait for the other descriptors of their streams go on where those are gone (R133). -/
def State.suspendsOn (s : State) : State := s.sweep State.suspendProgress (s.descsWhere (fun x => x.e.opcode == 0x62))

/-- COMMAND_COMPLETE (R96, R116, R452, R597): a final status is completed, unless the queue's completions cannot leave now; a CQ write that
fails freezes the queue and keeps the completion until a RESET. -/
def execCommandComplete (d : Nat) (cqFail : Bool) (unfinished : List Nat) (s : State) : Res :=
  let x := s.desc d
  let st := (s.queue x.q).st
  .next (if x.stage ≠ .done || s.writesWait x || s.cqWaits x.q || s.hostBlocked x.q || (x.kept && decide (st ≠ .resetting)) then s
    else (((s.completeBy d cqFail (decide (st ≠ .resetting))).suspendsOn).withdrawWakes).drained unfinished)

end Sys2Proof.Machine
end

