-- ==== Sys2Proof/Machine/Dispatch.lean ====
section
/-!
DEFINITION. The dispatch of commands to their meanings, one arm per row of spec/opcode_table.json.
-/
namespace Sys2Proof.Machine

def exec (i : Instr) (s : State) : Host.Outcome State Fault Refusal :=
  match i with
  | .registerWrite a v x => Sys2Proof.Machine.execRegisterWrite a v x s
  | .rcFieldRead a => Sys2Proof.Machine.execRcFieldRead a s
  | .lowWordRead a => Sys2Proof.Machine.execLowWordRead a s
  | .highWordRead a => Sys2Proof.Machine.execHighWordRead a s
  | .lowWordWrite a v => Sys2Proof.Machine.execLowWordWrite a v s
  | .highWordWrite a v => Sys2Proof.Machine.execHighWordWrite a v s
  | .selWrite a v => Sys2Proof.Machine.execSelWrite a v s
  | .folioAlloc d => Sys2Proof.Machine.execFolioAlloc d s
  | .folioFree d => Sys2Proof.Machine.execFolioFree d s
  | .mapSync d master => Sys2Proof.Machine.execMapSync d master s
  | .mapSyncVerify d master => Sys2Proof.Machine.execMapSyncVerify d master s
  | .unmap d => Sys2Proof.Machine.execUnmap d s
  | .folioHint d => Sys2Proof.Machine.execFolioHint d s
  | .pin d => Sys2Proof.Machine.execPin d s
  | .revokeWindowStart t => Sys2Proof.Machine.execRevokeWindowStart t s
  | .revokeDrainComplete t => Sys2Proof.Machine.execRevokeDrainComplete t s
  | .write d bytes => Sys2Proof.Machine.execWrite d bytes s
  | .read d => Sys2Proof.Machine.execRead d s
  | .copy d => Sys2Proof.Machine.execCopy d s
  | .translationWaitEnd q blk => Sys2Proof.Machine.execTranslationWaitEnd q blk s
  | .translationWaitTimeout q => Sys2Proof.Machine.execTranslationWaitTimeout q s
  | .commandTimeout d unfinished => Sys2Proof.Machine.execCommandTimeout d unfinished s
  | .folioReleaseComplete dfn => Sys2Proof.Machine.execFolioReleaseComplete dfn s
  | .folioZeroed dfn => Sys2Proof.Machine.execFolioZeroed dfn s
  | .queueEnable p q => Sys2Proof.Machine.execQueueEnable p q s
  | .queuePause p q => Sys2Proof.Machine.execQueuePause p q s
  | .queueResume p q => Sys2Proof.Machine.execQueueResume p q s
  | .queueReset p q unfinished => Sys2Proof.Machine.execQueueReset p q unfinished s
  | .queueResetComplete q => Sys2Proof.Machine.execQueueResetComplete q s
  | .dbSqTail fn q v secure => Sys2Proof.Machine.execDbSqTail fn q v secure s
  | .dbCqHead fn q v secure => Sys2Proof.Machine.execDbCqHead fn q v secure s
  | .entryFetch q bytes fail => Sys2Proof.Machine.execEntryFetch q bytes fail s
  | .arbitrationGrant blk => Sys2Proof.Machine.execArbitrationGrant blk s
  | .freezeWindowClose q => Sys2Proof.Machine.execFreezeWindowClose q s
  | .mapWindowRelease t blks => Sys2Proof.Machine.execMapWindowRelease t blks s
  | .orderedRelease q blk => Sys2Proof.Machine.execOrderedRelease q blk s
  | .fenceWaitSatisfied d => Sys2Proof.Machine.execFenceWaitSatisfied d s
  | .fenceWaitPoisoned d => Sys2Proof.Machine.execFenceWaitPoisoned d s
  | .commandComplete d cqFail unfinished => Sys2Proof.Machine.execCommandComplete d cqFail unfinished s
  | .nop d => Sys2Proof.Machine.execNop d s
  | .fenceSignal d => Sys2Proof.Machine.execFenceSignal d s
  | .fenceWait d => Sys2Proof.Machine.execFenceWait d s
  | .fenceReset d => Sys2Proof.Machine.execFenceReset d s
  | .fenceResetTakesEffect d => Sys2Proof.Machine.execFenceResetTakesEffect d s
  | .fenceResetBudgetExpired d => Sys2Proof.Machine.execFenceResetBudgetExpired d s
  | .fenceBind d => Sys2Proof.Machine.execFenceBind d s
  | .fenceUnbind d => Sys2Proof.Machine.execFenceUnbind d s
  | .fenceForce d => Sys2Proof.Machine.execFenceForce d s
  | .appendKv d bytes => Sys2Proof.Machine.execAppendKv d bytes s
  | .appendDurable d => Sys2Proof.Machine.execAppendDurable d s
  | .trackerWaitExpired d => Sys2Proof.Machine.execTrackerWaitExpired d s
  | .gatherKv d => Sys2Proof.Machine.execGatherKv d s
  | .stepCommit d => Sys2Proof.Machine.execStepCommit d s
  | .watermarkReached d => Sys2Proof.Machine.execWatermarkReached d s
  | .watermarkBudgetExpired d => Sys2Proof.Machine.execWatermarkBudgetExpired d s
  | .streamOpen d => Sys2Proof.Machine.execStreamOpen d s
  | .streamClose d => Sys2Proof.Machine.execStreamClose d s
  | .streamCloseForce d unfinished => Sys2Proof.Machine.execStreamCloseForce d unfinished s
  | .streamFreed ix => Sys2Proof.Machine.execStreamFreed ix s
  | .streamSuspend d => Sys2Proof.Machine.execStreamSuspend d s
  | .suspendCopiesDurable d failCode done => Sys2Proof.Machine.execSuspendCopiesDurable d failCode done s
  | .streamResume d => Sys2Proof.Machine.execStreamResume d s
  | .streamResumeExtend d => Sys2Proof.Machine.execStreamResumeExtend d s
  | .catalogLookup d bytes late => Sys2Proof.Machine.execCatalogLookup d bytes late s
  | .catalogPublish d => Sys2Proof.Machine.execCatalogPublish d s
  | .publishInsert d => Sys2Proof.Machine.execPublishInsert d s
  | .catalogRelease d => Sys2Proof.Machine.execCatalogRelease d s
  | .catalogWithdraw d => Sys2Proof.Machine.execCatalogWithdraw d s
  | .catalogHint d => Sys2Proof.Machine.execCatalogHint d s
  | .forwardTimeout req => Sys2Proof.Machine.execForwardTimeout req s
  | .fwdReq l unf => Sys2Proof.Machine.execFwdReq l unf s
  | .fwdRsp l unf => Sys2Proof.Machine.execFwdRsp l unf s
  | .fwdHoldExpired => Sys2Proof.Machine.execFwdHoldExpired s
  | .refstate l unf => Sys2Proof.Machine.execRefstate l unf s
  | .attend d => Sys2Proof.Machine.execAttend d s
  | .reducePartial d => Sys2Proof.Machine.execReducePartial d s
  | .quantize d => Sys2Proof.Machine.execQuantize d s
  | .scoreTopk d => Sys2Proof.Machine.execScoreTopk d s
  | .carrelDispatch d => Sys2Proof.Machine.execCarrelDispatch d s
  | .carrelWaitExpired d => Sys2Proof.Machine.execCarrelWaitExpired d s
  | .carrelTaskStart c => Sys2Proof.Machine.execCarrelTaskStart c s
  | .carrelTaskEnd c => Sys2Proof.Machine.execCarrelTaskEnd c s
  | .carrelFault c => Sys2Proof.Machine.execCarrelFault c s
  | .clusterRemove p k => Sys2Proof.Machine.execClusterRemove p k s
  | .clusterReturn p k => Sys2Proof.Machine.execClusterReturn p k s
  | .clusterTestDone k pass => Sys2Proof.Machine.execClusterTestDone k pass s
  | .wakeReexamine => Sys2Proof.Machine.execWakeReexamine s
  | .clusterWakeComplete k => Sys2Proof.Machine.execClusterWakeComplete k s
  | .clusterIdleGate k => Sys2Proof.Machine.execClusterIdleGate k s
  | .clusterIdleOff k => Sys2Proof.Machine.execClusterIdleOff k s
  | .skPFlush p k => Sys2Proof.Machine.execSkPFlush p k s
  | .flushEnd k => Sys2Proof.Machine.execFlushEnd k s
  | .skPLimitWrite p k v => Sys2Proof.Machine.execSkPLimitWrite p k v s
  | .demoteEnd k => Sys2Proof.Machine.execDemoteEnd k s
  | .pinSecondWalk => Sys2Proof.Machine.execPinSecondWalk s
  | .pinSecondWalkEnd => Sys2Proof.Machine.execPinSecondWalkEnd s
  | .skDataParity sec => Sys2Proof.Machine.execSkDataParity sec s
  | .skTagParity set => Sys2Proof.Machine.execSkTagParity set s
  | .scratchParity c => Sys2Proof.Machine.execScratchParity c s
  | .roCacheParity c => Sys2Proof.Machine.execRoCacheParity c s
  | .pjUnitAssign d => Sys2Proof.Machine.execPjUnitAssign d s
  | .pjUnitWaitExpired d => Sys2Proof.Machine.execPjUnitWaitExpired d s
  | .pjParity u d chunk => Sys2Proof.Machine.execPjParity u d chunk s
  | .pjUReturn p u => Sys2Proof.Machine.execPjUReturn p u s
  | .place d => Sys2Proof.Machine.execPlace d s
  | .solverStart => Sys2Proof.Machine.execSolverStart s
  | .solverWaitExpired d => Sys2Proof.Machine.execSolverWaitExpired d s
  | .solveComplete => Sys2Proof.Machine.execSolveComplete s
  | .plParity => Sys2Proof.Machine.execPlParity s
  | .ddr5Training ch dimms timing => Sys2Proof.Machine.execDdr5Training ch dimms timing s
  | .hbmTraining stack high12 lanes timing drfm rfm => Sys2Proof.Machine.execHbmTraining stack high12 lanes timing drfm rfm s
  | .periodicRetune target drift => Sys2Proof.Machine.execPeriodicRetune target drift s
  | .refreshDue u rank reads hot => Sys2Proof.Machine.execRefreshDue u rank reads hot s
  | .refreshRepay u rank reads => Sys2Proof.Machine.execRefreshRepay u rank reads s
  | .writeQueueRoom u => Sys2Proof.Machine.execWriteQueueRoom u s
  | .caParityAlert u at_ cleared => Sys2Proof.Machine.execCaParityAlert u at_ cleared s
  | .retrain u => Sys2Proof.Machine.execRetrain u s
  | .retrainEnd u ok => Sys2Proof.Machine.execRetrainEnd u ok s
  | .activateThreshold u bank acts => Sys2Proof.Machine.execActivateThreshold u bank acts s
  | .activateWindowClear => Sys2Proof.Machine.execActivateWindowClear s
  | .uncorrectableRead line first second d => Sys2Proof.Machine.execUncorrectableRead line first second d s
  | .rankRetirement ch => Sys2Proof.Machine.execRankRetirement ch s
  | .migrationUnitCopy ch bad => Sys2Proof.Machine.execMigrationUnitCopy ch bad s
  | .migrationComplete ch => Sys2Proof.Machine.execMigrationComplete ch s
  | .rankRetire p ch rank => Sys2Proof.Machine.execRankRetire p ch rank s
  | .rankReturn p ch rank => Sys2Proof.Machine.execRankReturn p ch rank s
  | .rowSpare u bank row => Sys2Proof.Machine.execRowSpare u bank row s
  | .spareCopyComplete dfn bad => Sys2Proof.Machine.execSpareCopyComplete dfn bad s
  | .selfRefreshEntry target => Sys2Proof.Machine.execSelfRefreshEntry target s
  | .selfRefreshExit target => Sys2Proof.Machine.execSelfRefreshExit target s
  | .scrubRead target first second late => Sys2Proof.Machine.execScrubRead target first second late s
  | .bistRun d planned => Sys2Proof.Machine.execBistRun d planned s
  | .bistRepair d records lack => Sys2Proof.Machine.execBistRepair d records lack s
  | .bistAbort d => Sys2Proof.Machine.execBistAbort d s
  | .bistSlice kind index rank records => Sys2Proof.Machine.execBistSlice kind index rank records s
  | .bistJobEnd kind index rank => Sys2Proof.Machine.execBistJobEnd kind index rank s
  | .scrubSetPeriod d => Sys2Proof.Machine.execScrubSetPeriod d s
  | .scrubPause d => Sys2Proof.Machine.execScrubPause d s
  | .scrubResume d => Sys2Proof.Machine.execScrubResume d s
  | .scrubRestartPass d => Sys2Proof.Machine.execScrubRestartPass d s
  | .injectFire p => Sys2Proof.Machine.execInjectFire p s
  | .wqParity line => Sys2Proof.Machine.execWqParity line s
  | .descParity d unfinished => Sys2Proof.Machine.execDescParity d unfinished s
  | .ctStashParity ix => Sys2Proof.Machine.execCtStashParity ix s
  | .ctCacheParity ix => Sys2Proof.Machine.execCtCacheParity ix s
  | .metadataUe code item second unfinished => Sys2Proof.Machine.execMetadataUe code item second unfinished s
  | .linkEnable p l => Sys2Proof.Machine.execLinkEnable p l s
  | .linkDisable p l => Sys2Proof.Machine.execLinkDisable p l s
  | .linkRetrain p l => Sys2Proof.Machine.execLinkRetrain p l s
  | .clearHold p l => Sys2Proof.Machine.execClearHold p l s
  | .trainingLock l => Sys2Proof.Machine.execTrainingLock l s
  | .trainingComplete l rate good mirror inverted => Sys2Proof.Machine.execTrainingComplete l rate good mirror inverted s
  | .trainingTimeout l => Sys2Proof.Machine.execTrainingTimeout l s
  | .configFlit l f unf => Sys2Proof.Machine.execConfig l f unf s
  | .configTimeout l => Sys2Proof.Machine.execConfigTimeout l s
  | .epochVerifyTimeout l => Sys2Proof.Machine.execEpochVerifyTimeout l s
  | .sequencedFlit l a unf => Sys2Proof.Machine.execSequencedFlit l a unf s
  | .linkCtl l ack nak freed => Sys2Proof.Machine.execLinkCtl l ack nak freed s
  | .ackTimer l => Sys2Proof.Machine.execAckTimer l s
  | .replayTimeout l => Sys2Proof.Machine.execReplayTimeout l s
  | .recovery l => Sys2Proof.Machine.execRecovery l s
  | .recoveryTimeout l unf => Sys2Proof.Machine.execRecoveryTimeout l unf s
  | .linkDrop l unf => Sys2Proof.Machine.execLinkDrop l unf s
  | .creditTimeout l vc unf => Sys2Proof.Machine.execCreditTimeout l vc unf s
  | .holdoffExpired l => Sys2Proof.Machine.execHoldoffExpired l s
  | .holdoffReset l => Sys2Proof.Machine.execHoldoffReset l s
  | .doorbell l unf => Sys2Proof.Machine.execDoorbell l unf s
  | .dataFlit l unf => Sys2Proof.Machine.execData l unf s
  | .dataAcknowledged d => Sys2Proof.Machine.execDataAcknowledged d s
  | .linkResourceWaitEnd d => Sys2Proof.Machine.execLinkResourceWaitEnd d s
  | .lcountTimeout q => Sys2Proof.Machine.execLcountTimeout q s
  | .timeSend l => Sys2Proof.Machine.execTimeSend l s
  | .timeFlit l tTx echo => Sys2Proof.Machine.execTime l tTx echo s
  | .steeringGap => Sys2Proof.Machine.execSteeringGap s
  | .timeDegradedClear => Sys2Proof.Machine.execTimeDegradedClear s
  | .openFlit l => Sys2Proof.Machine.execOpenFlit l s
  | .openAck l => Sys2Proof.Machine.execOpenAck l s
  | .rekey l => Sys2Proof.Machine.execRekey l s
  | .rekeyAck l => Sys2Proof.Machine.execRekeyAck l s
  | .rekeyStart l ix => Sys2Proof.Machine.execRekeyStart l ix s
  | .sessionCounterLimit l ix => Sys2Proof.Machine.execSessionCounterLimit l ix s
  | .closeFlit l => Sys2Proof.Machine.execCloseFlit l s
  | .closeAck l => Sys2Proof.Machine.execCloseAck l s
  | .refuse l => Sys2Proof.Machine.execRefuse l s
  | .mgmt l => Sys2Proof.Machine.execMgmt l s
  | .laneSleep quad => Sys2Proof.Machine.execLaneSleep quad s
  | .sleepTrainingBurst l => Sys2Proof.Machine.execSleepTrainingBurst l s
  | .quadWake l => Sys2Proof.Machine.execQuadWake l s
  | .epochLoad d => Sys2Proof.Machine.execEpochLoad d s
  | .epochSwitch => Sys2Proof.Machine.execEpochSwitch s
  | .peerAttestation l key ok => Sys2Proof.Machine.execPeerAttestation l key ok s
  | .getEpochRecord b inst epoch => Sys2Proof.Machine.execGetEpochRecord b inst epoch s
  | .putEpochRecord b inst record => Sys2Proof.Machine.execPutEpochRecord b inst record s
  | .regRead b inst off => Sys2Proof.Machine.execRegRead b inst off s
  | .regWrite b inst off v x => Sys2Proof.Machine.execRegWrite b inst off v x s
  | .pcieLinkUp rate width flit cxl => Sys2Proof.Machine.execPcieLinkUp rate width flit cxl s
  | .pcieLinkDown unf => Sys2Proof.Machine.execPcieLinkDown unf s
  | .perstAssert unf => Sys2Proof.Machine.execPerstAssert unf s
  | .perstRelease => Sys2Proof.Machine.execPerstRelease s
  | .hostPortReset unf => Sys2Proof.Machine.execHostPortReset unf s
  | .pfFlr unf => Sys2Proof.Machine.execPfFlr unf s
  | .vfFlr n unf => Sys2Proof.Machine.execVfFlr n unf s
  | .busMasterEnable fn bme d3 vfs unf => Sys2Proof.Machine.execBusMasterEnable fn bme d3 vfs unf s
  | .hostCompletionError d code unf => Sys2Proof.Machine.execHostCompletionError d code unf s
  | .hostWriteFail d ide unf => Sys2Proof.Machine.execHostWriteFail d ide unf s
  | .poisonedCompletion d off n => Sys2Proof.Machine.execPoisonedCompletion d off n s
  | .apertureRead w off n tag secure => Sys2Proof.Machine.execApertureRead w off n tag secure s
  | .apertureWrite w off data poison secure => Sys2Proof.Machine.execApertureWrite w off data poison secure s
  | .cxlMemRead a tag secure => Sys2Proof.Machine.execCxlMemRead a tag secure s
  | .cxlMemWrite a tag data poison secure => Sys2Proof.Machine.execCxlMemWrite a tag data poison secure s
  | .apertureEnable p w on => Sys2Proof.Machine.execApertureEnable p w on s
  | .cxlBindingEnable p on => Sys2Proof.Machine.execCxlBindingEnable p on s
  | .bindingFilled w => Sys2Proof.Machine.execBindingFilled w s
  | .ideCheckFail stream ds unf => Sys2Proof.Machine.execIdeCheckFail stream ds unf s
  | .mctpPacket b p => Sys2Proof.Machine.execMctpPacket b p s
  | .setEndpointId b eid => Sys2Proof.Machine.execSetEndpointId b eid s
  | .getEndpointId b => Sys2Proof.Machine.execGetEndpointId b s
  | .getEndpointUuid b => Sys2Proof.Machine.execGetEndpointUuid b s
  | .getMctpVersionSupport b t => Sys2Proof.Machine.execGetMctpVersionSupport b t s
  | .getMessageTypeSupport b => Sys2Proof.Machine.execGetMessageTypeSupport b s
  | .getVendorDefinedMessageSupport b sel => Sys2Proof.Machine.execGetVendorDefinedMessageSupport b sel s
  | .prepareForEndpointDiscovery b => Sys2Proof.Machine.execPrepareForEndpointDiscovery b s
  | .endpointDiscovery b => Sys2Proof.Machine.execEndpointDiscovery b s
  | .discoveryNotify b => Sys2Proof.Machine.execDiscoveryNotify b s
  | .doeDiscovery ix => Sys2Proof.Machine.execDoeDiscovery ix s
  | .cdatTableAccess ix => Sys2Proof.Machine.execCdatTableAccess ix s
  | .getVersion b => Sys2Proof.Machine.execGetVersion b s
  | .getCapabilities b => Sys2Proof.Machine.execGetCapabilities b s
  | .negotiateAlgorithms b ecdsa sha dhe aead => Sys2Proof.Machine.execNegotiateAlgorithms b ecdsa sha dhe aead s
  | .getDigests b => Sys2Proof.Machine.execGetDigests b s
  | .getCertificate b slot off n => Sys2Proof.Machine.execGetCertificate b slot off n s
  | .challenge b slot nonce => Sys2Proof.Machine.execChallenge b slot nonce s
  | .getMeasurements b ix sign => Sys2Proof.Machine.execGetMeasurements b ix sign s
  | .keyExchange b id => Sys2Proof.Machine.execKeyExchange b id s
  | .spdmFinish b id => Sys2Proof.Machine.execSpdmFinish b id s
  | .heartbeat b id => Sys2Proof.Machine.execHeartbeat b id s
  | .keyUpdate b id => Sys2Proof.Machine.execKeyUpdate b id s
  | .endSession b id => Sys2Proof.Machine.execEndSession b id s
  | .chunkSend b last data => Sys2Proof.Machine.execChunkSend b last data s
  | .chunkGet b => Sys2Proof.Machine.execChunkGet b s
  | .ideKm b id stream => Sys2Proof.Machine.execIdeKm b id stream s
  | .getTid b => Sys2Proof.Machine.execGetTid b s
  | .setTid b tid => Sys2Proof.Machine.execSetTid b tid s
  | .getPldmVersion b t => Sys2Proof.Machine.execGetPldmVersion b t s
  | .getPldmTypes b => Sys2Proof.Machine.execGetPldmTypes b s
  | .getPldmCommands b t => Sys2Proof.Machine.execGetPldmCommands b t s
  | .getPdrRepositoryInfo b => Sys2Proof.Machine.execGetPdrRepositoryInfo b s
  | .getPdr b h => Sys2Proof.Machine.execGetPdr b h s
  | .getSensorReading b ix sample => Sys2Proof.Machine.execGetSensorReading b ix sample s
  | .getStateSensorReadings b ix => Sys2Proof.Machine.execGetStateSensorReadings b ix s
  | .setEventReceiver b eid on => Sys2Proof.Machine.execSetEventReceiver b eid on s
  | .sensorThresholdCrossing ix st => Sys2Proof.Machine.execSensorThresholdCrossing ix st s
  | .pollForPlatformEventMessage b => Sys2Proof.Machine.execPollForPlatformEventMessage b s
  | .eventMessageSupported b => Sys2Proof.Machine.execEventMessageSupported b s
  | .queryDeviceIdentifiers b => Sys2Proof.Machine.execQueryDeviceIdentifiers b s
  | .getFirmwareParameters b => Sys2Proof.Machine.execGetFirmwareParameters b s
  | .requestUpdate b eid => Sys2Proof.Machine.execRequestUpdate b eid s
  | .passComponentTable b eid comp => Sys2Proof.Machine.execPassComponentTable b eid comp s
  | .updateComponent b eid comp => Sys2Proof.Machine.execUpdateComponent b eid comp s
  | .transferComplete ok => Sys2Proof.Machine.execTransferComplete ok s
  | .verifyComplete image key => Sys2Proof.Machine.execVerifyComplete image key s
  | .activateFirmware b eid selfContained => Sys2Proof.Machine.execActivateFirmware b eid selfContained s
  | .pldmGetStatus b => Sys2Proof.Machine.execPldmGetStatus b s
  | .cancelUpdateComponent b eid => Sys2Proof.Machine.execCancelUpdateComponent b eid s
  | .cancelUpdate b eid => Sys2Proof.Machine.execCancelUpdate b eid s
  | .updateIdleTimeout => Sys2Proof.Machine.execUpdateIdleTimeout s
  | .getEventRecords log => Sys2Proof.Machine.execGetEventRecords log s
  | .clearEventRecords log => Sys2Proof.Machine.execClearEventRecords log s
  | .getEventInterruptPolicy => Sys2Proof.Machine.execGetEventInterruptPolicy s
  | .setEventInterruptPolicy v => Sys2Proof.Machine.execSetEventInterruptPolicy v s
  | .getSupportedLogs => Sys2Proof.Machine.execGetSupportedLogs s
  | .getLog effects => Sys2Proof.Machine.execGetLog effects s
  | .getTimestamp => Sys2Proof.Machine.execGetTimestamp s
  | .identifyMemoryDevice => Sys2Proof.Machine.execIdentifyMemoryDevice s
  | .getPartitionInfo => Sys2Proof.Machine.execGetPartitionInfo s
  | .getHealthInfo => Sys2Proof.Machine.execGetHealthInfo s
  | .getPoisonList off n => Sys2Proof.Machine.execGetPoisonList off n s
  | .tenantCreate d => Sys2Proof.Machine.execTenantCreate d s
  | .tenantSet d => Sys2Proof.Machine.execTenantSet d s
  | .tenantSetShare d => Sys2Proof.Machine.execTenantSetShare d s
  | .tenantRemove t unf => Sys2Proof.Machine.execTenantRemove t unf s
  | .queueBind d => Sys2Proof.Machine.execQueueBind d s
  | .queueUnbind d unf => Sys2Proof.Machine.execQueueUnbind d unf s
  | .vfBind d => Sys2Proof.Machine.execVfBind d s
  | .vfUnbind d => Sys2Proof.Machine.execVfUnbind d s
  | .tenantReset d unf => Sys2Proof.Machine.execTenantReset d unf s
  | .reservationCredit => Sys2Proof.Machine.execReservationCredit s
  | .capInterval => Sys2Proof.Machine.execCapInterval s
  | .vectorCoalesceTimeout fn v => Sys2Proof.Machine.execVectorCoalesceTimeout fn v s
  | .vectorUnmask fn v => Sys2Proof.Machine.execVectorUnmask fn v s
  | .bmcPortReset lost => Sys2Proof.Machine.execBmcPortReset lost s
  | .i3cAddressAssign a => Sys2Proof.Machine.execI3cAddressAssign a s
  | .mailboxGo p => Sys2Proof.Machine.execMailboxGo p s
  | .getStatus p => Sys2Proof.Machine.execGetStatus p s
  | .getIdentity p => Sys2Proof.Machine.execGetIdentity p s
  | .getNonce p => Sys2Proof.Machine.execGetNonce p s
  | .debugUnlock p key unf => Sys2Proof.Machine.execDebugUnlock p key unf s
  | .debugLock p => Sys2Proof.Machine.execDebugLock p s
  | .lcChange p key cut mask => Sys2Proof.Machine.execLcChange p key cut mask s
  | .getTamper p => Sys2Proof.Machine.execGetTamper p s
  | .tamperAck p key => Sys2Proof.Machine.execTamperAck p key s
  | .fuseRead p => Sys2Proof.Machine.execFuseRead p s
  | .fwHealthy p cut => Sys2Proof.Machine.execFwHealthy p cut s
  | .vbatCfg p key => Sys2Proof.Machine.execVbatCfg p key s
  | .tokenLockoutEnd => Sys2Proof.Machine.execTokenLockoutEnd s
  | .trialTimeout => Sys2Proof.Machine.execTrialTimeout s
  | .tamperAlarm c levels unf => Sys2Proof.Machine.execTamperAlarm c levels unf s
  | .tamperAlarmRepeat c levels unf => Sys2Proof.Machine.execTamperAlarmRepeat c levels unf s
  | .extest => Sys2Proof.Machine.execExtest s
  | .clamp => Sys2Proof.Machine.execClamp s
  | .highz => Sys2Proof.Machine.execHighz s
  | .extestPulse => Sys2Proof.Machine.execExtestPulse s
  | .extestTrain => Sys2Proof.Machine.execExtestTrain s
  | .dbgAuth tok key unf => Sys2Proof.Machine.execDbgAuth tok key unf s
  | .dapAccess kind a n data => Sys2Proof.Machine.execDapAccess kind a n data s
  | .rtpParity unf => Sys2Proof.Machine.execRtpParity unf s
  | .keyCreateMemory d => Sys2Proof.Machine.execKeyCreateMemory d s
  | .keyCreateSessionShared d => Sys2Proof.Machine.execKeyCreateSessionShared d s
  | .keyCreateSessionAttested d ok root blocks => Sys2Proof.Machine.execKeyCreateSessionAttested d ok root blocks s
  | .keyCreateWeight d => Sys2Proof.Machine.execKeyCreateWeight d s
  | .keyRetire d => Sys2Proof.Machine.execKeyRetire d s
  | .retirementDrained ix => Sys2Proof.Machine.execRetirementDrained ix s
  | .retirementCap ix unf => Sys2Proof.Machine.execRetirementCap ix unf s
  | .sessionBind d => Sys2Proof.Machine.execSessionBind d s
  | .sessionUnbind d => Sys2Proof.Machine.execSessionUnbind d s
  | .wrapProvision d => Sys2Proof.Machine.execWrapProvision d s
  | .wrapInfo d => Sys2Proof.Machine.execWrapInfo d s
  | .weightRelease d => Sys2Proof.Machine.execWeightRelease d s
  | .enterS3 p unf => Sys2Proof.Machine.execEnterS3 p unf s
  | .s3DrainTimeout unf => Sys2Proof.Machine.execS3DrainTimeout unf s
  | .enterS5 p unf => Sys2Proof.Machine.execEnterS5 p unf s
  | .exitS3 p => Sys2Proof.Machine.execExitS3 p s
  | .wakeNEvent => Sys2Proof.Machine.execWakeNEvent s
  | .s3TimerExpired => Sys2Proof.Machine.execS3TimerExpired s
  | .s3Exit bad => Sys2Proof.Machine.execS3Exit bad s
  | .engineIdleGate k => Sys2Proof.Machine.execEngineIdleGate k s
  | .domainWake k => Sys2Proof.Machine.execDomainWake k s
  | .fabricSlow => Sys2Proof.Machine.execFabricSlow s
  | .clusterClockChange k => Sys2Proof.Machine.execClusterClockChange k s
  | .pllLockLoss k unf => Sys2Proof.Machine.execPllLockLoss k unf s
  | .pllRelock k ok => Sys2Proof.Machine.execPllRelock k ok s
  | .refLost => Sys2Proof.Machine.execRefLost s
  | .controlSample k b ph => Sys2Proof.Machine.execControlSample k b ph s
  | .phaseShed p => Sys2Proof.Machine.execPhaseShed p s
  | .stageFault p low => Sys2Proof.Machine.execStageFault p low s
  | .plausLoop k unf => Sys2Proof.Machine.execPlausLoop k unf s
  | .follow k unf => Sys2Proof.Machine.execFollow k unf s
  | .ovUv k unf => Sys2Proof.Machine.execOvUv k unf s
  | .rampToReg k outs next => Sys2Proof.Machine.execRampToReg k outs next s
  | .loadModelUpdate unf => Sys2Proof.Machine.execLoadModelUpdate unf s
  | .capacity k unf => Sys2Proof.Machine.execCapacity k unf s
  | .thermCapStep => Sys2Proof.Machine.execThermCapStep s
  | .tmonRead p mv => Sys2Proof.Machine.execTmonRead p mv s
  | .vinRead mv => Sys2Proof.Machine.execVinRead mv s
  | .thermistorConversion t uv rise => Sys2Proof.Machine.execThermistorConversion t uv rise s
  | .thermistorOpenTimeout t => Sys2Proof.Machine.execThermistorOpenTimeout t s
  | .vsetInvalid ix => Sys2Proof.Machine.execVsetInvalid ix s
  | .dcrMeasure p dcr => Sys2Proof.Machine.execDcrMeasure p dcr s
  | .gainWarn p => Sys2Proof.Machine.execGainWarn p s
  | .loopStart p k vout bad => Sys2Proof.Machine.execLoopStart p k vout bad s
  | .loopStop p k => Sys2Proof.Machine.execLoopStop p k s
  | .loopClear p k => Sys2Proof.Machine.execLoopClear p k s
  | .reinstate p ph => Sys2Proof.Machine.execReinstate p ph s
  | .pwrFault => Sys2Proof.Machine.execPwrFault s
  | .pwrFaultRelease => Sys2Proof.Machine.execPwrFaultRelease s
  | .railRetry p => Sys2Proof.Machine.execRailRetry p s
  | .powerUpSequence vouts dies => Sys2Proof.Machine.execPowerUpSequence vouts dies s
  | .powerUpLoopTimeout => Sys2Proof.Machine.execPowerUpLoopTimeout s
  | .powerUpRetryDelay vouts => Sys2Proof.Machine.execPowerUpRetryDelay vouts s
  | .lockBreak k lock serving => Sys2Proof.Machine.execLockBreak k lock serving s
  | .coreHang k serving => Sys2Proof.Machine.execCoreHang k serving s
  | .coreReload k ok => Sys2Proof.Machine.execCoreReload k ok s
  | .fatalError kind inst rkind rtype rinst => Sys2Proof.Machine.execFatalError kind inst rkind rtype rinst s
  | .fatalResetDelay => Sys2Proof.Machine.execFatalResetDelay s
  | .recoveryQueuedStart utype inst => Sys2Proof.Machine.execRecoveryQueuedStart utype inst s
  | .erRptrWrite p v => Sys2Proof.Machine.execErRptrWrite p v s
  | .fatalAck p => Sys2Proof.Machine.execFatalAck p s
  | .coldReset => Sys2Proof.Machine.execColdReset s
  | .deviceReset => Sys2Proof.Machine.execDeviceReset s
  | .memGo p => Sys2Proof.Machine.execMemGo p s
  | .hotReady unfixed => Sys2Proof.Machine.execHotReady unfixed s
  | .poolReady => Sys2Proof.Machine.execPoolReady s
  | .calWrite d bytes => Sys2Proof.Machine.execCalWrite d bytes s
  | .calWriteReadback d => Sys2Proof.Machine.execCalWriteReadback d s
  | .calFlashWriteDone ok => Sys2Proof.Machine.execCalFlashWriteDone ok s
  | .adminReset d => Sys2Proof.Machine.execAdminReset d s
  | .adminResetDelay => Sys2Proof.Machine.execAdminResetDelay s
  | .headerWrite d bytes => Sys2Proof.Machine.execHeaderWrite d bytes s
  | .headerFlashWriteDone ok => Sys2Proof.Machine.execHeaderFlashWriteDone ok s
  | .headerRead d => Sys2Proof.Machine.execHeaderRead d s
  | .brownOut => Sys2Proof.Machine.execBrownOut s
  | .thermalWarning src fell => Sys2Proof.Machine.execThermalWarning src fell s
  | .thermtrip src => Sys2Proof.Machine.execThermtrip src s
  | .recoveryRetrained l good => Sys2Proof.Machine.execRecoveryRetrained l good s
  | .pjUSelfTestDone u pass => Sys2Proof.Machine.execPjUSelfTestDone u pass s
  | .injectionDone => Sys2Proof.Machine.execInjectionDone s
  | .configSend l => Sys2Proof.Machine.execConfigSend l s
  | .vsetPwmValid k ps => Sys2Proof.Machine.execVsetPwmValid k ps s
  | .battLow => Sys2Proof.Machine.execBattLow s
  | .vbatLost => Sys2Proof.Machine.execVbatLost s
  | .tamperInputRelease ix levels => Sys2Proof.Machine.execTamperInputRelease ix levels s

end Sys2Proof.Machine
end

