-- ==== Sys2Proof/WellFormed.lean ====
section
/-!
DEFINITION. Well-formed commands: every operand in the range that the spec gives its kind (queue IDs, descriptors, links, tenants, BAR
offsets, flit fields). Meanings are total: an operand out of its range names nothing and leaves the state as it is.
-/
namespace Sys2Proof

/-- VFs are numbered 1 to 63 (R20). -/
def Port.wf : Port → Bool
  | .vf n => decide (1 ≤ n) && decide (n ≤ 63)
  | _ => true

/-- The PF and the VFs have doorbell pages (Table 14.3). -/
def Port.hasPages : Port → Bool
  | .pf => true
  | .vf _ => true
  | _ => false

/-- An access lies in BAR0, or in BAR2 (256 MiB) of a function, and its byte enables are four bits, or eight (R10, R13, R17). -/
def Access.wf (a : Access) : Bool :=
  a.p.wf && decide (a.off < if a.bar2 then 2 ^ 28 else 2 ^ 26) && (!a.bar2 || a.p.hasPages) && decide (a.be < if a.wide then 256 else 16)

/-- Sector numbers of the device's memory. -/
def sectorsOk (l : List Nat) : Bool := l.all (fun x => decide (x < 2 ^ 40))

/-- What is wrong in a line, within its codewords and words. -/
def lineErrOk (e : LineErr) : Bool :=
  decide (e.ondie < 3) && decide (e.words.length ≤ 4) && e.words.all (fun l => l.all (fun p => decide (p.1 < 266) && decide (p.2 < 65536)))

/-- The addresses of a decoder are host physical addresses. -/
def Hdm.wf (h : Hdm) : Bool := decide (h.base + h.size ≤ 2 ^ 52) && decide (h.ways < 32) && decide (h.gran ≤ 16384)

/-- What a write needs from outside is in range. -/
def WriteAux.wf (x : WriteAux) : Bool := sectorsOk x.unf && decide (x.vout < 65536)

/-- The fields of a configuration write fit their registers. -/
def ConfigWrite.wf (c : ConfigWrite) : Bool :=
  c.vfs.all (fun n => decide (n < 65536)) && c.mps.all (fun n => decide (n ≤ 4096)) && c.mrrs.all (fun n => decide (n ≤ 4096)) &&
    c.cto.all (fun n => decide (n ≤ 64000000000)) && c.hdm.all Hdm.wf

/-- I3C addresses have 7 bits. -/
def I3cAssign.wf : I3cAssign → Bool
  | .entdaa a => decide (a < 128)
  | .setdasa x a => decide (x < 128) && decide (a < 128)

/-- The header fields of a flit hold their widths and the body fits (Table 12.2). -/
def Flit.wf (f : Flit) : Bool :=
  decide (f.type < 16) && decide (f.vc < 4) && decide (f.seq < 1024) && decide (f.session < 64) && decide (f.queue < 65536) &&
    decide (f.xtag < 65536) && decide (f.body.length ≤ 240) && (f.type == 5 || (!f.poison && !f.last))

/-- A flit's arrival: 256 bytes, one of five flits, symbols of a pair on four lanes. -/
def Arrival.wf (a : Arrival) : Bool :=
  let ok (e : LaneErr) : Bool := decide (e.lane < 4) && decide (e.place < 1088) && decide (e.bits < 1024)
  a.bytes.length == 256 && decide (a.place < 6) && a.errs.all ok && a.before.all ok

/-- The operands of a command are in the ranges of their kinds. -/
def Instr.wf : Instr → Bool
  | .registerWrite a v x => a.wf && decide (v < if a.wide then 2 ^ 64 else 2 ^ 32) && x.wf
  | .rcFieldRead a => a.wf
  | .lowWordRead a => a.wf
  | .highWordRead a => a.wf
  | .lowWordWrite a v => a.wf && decide (v < if a.wide then 2 ^ 64 else 2 ^ 32)
  | .highWordWrite a v => a.wf && decide (v < if a.wide then 2 ^ 64 else 2 ^ 32)
  | .selWrite a v => a.wf && decide (v < if a.wide then 2 ^ 64 else 2 ^ 32)
  | .folioAlloc d => decide (d < 16384)
  | .folioFree d => decide (d < 16384)
  | .mapSync d _ => decide (d < 16384)
  | .mapSyncVerify d _ => decide (d < 16384)
  | .unmap d => decide (d < 16384)
  | .folioHint d => decide (d < 16384)
  | .pin d => decide (d < 16384)
  | .revokeWindowStart t => decide (t < 1024)
  | .revokeDrainComplete t => decide (t < 1024)
  | .write d _ => decide (d < 16384)
  | .read d => decide (d < 16384)
  | .copy d => decide (d < 16384)
  | .translationWaitEnd q _ => decide (q < 65536)
  | .translationWaitTimeout q => decide (q < 65536)
  | .commandTimeout d unfinished => decide (d < 16384) && sectorsOk unfinished
  | .folioReleaseComplete dfn => decide (dfn < 2 ^ 26)
  | .folioZeroed dfn => decide (dfn < 2 ^ 26)
  | .queueEnable p q => p.wf && decide (q < 65536)
  | .queuePause p q => p.wf && decide (q < 65536)
  | .queueResume p q => p.wf && decide (q < 65536)
  | .queueReset p q unfinished => p.wf && decide (q < 65536) && sectorsOk unfinished
  | .queueResetComplete q => decide (q < 65536)
  | .dbSqTail fn q v _ => decide (fn < 64) && decide (q < 65536) && decide (v < 2 ^ 32)
  | .dbCqHead fn q v _ => decide (fn < 64) && decide (q < 65536) && decide (v < 2 ^ 32)
  | .entryFetch q _ _ => decide (q < 65536)
  | .arbitrationGrant _ => true
  | .freezeWindowClose q => decide (q < 65536)
  | .mapWindowRelease t _ => decide (t < 1024)
  | .orderedRelease q _ => decide (q < 65536)
  | .fenceWaitSatisfied d => decide (d < 16384)
  | .fenceWaitPoisoned d => decide (d < 16384)
  | .commandComplete d _ unfinished => decide (d < 16384) && sectorsOk unfinished
  | .nop d => decide (d < 16384)
  | .fenceSignal d => decide (d < 16384)
  | .fenceWait d => decide (d < 16384)
  | .fenceReset d => decide (d < 16384)
  | .fenceResetTakesEffect d => decide (d < 16384)
  | .fenceResetBudgetExpired d => decide (d < 16384)
  | .fenceBind d => decide (d < 16384)
  | .fenceUnbind d => decide (d < 16384)
  | .fenceForce d => decide (d < 16384)
  | .appendKv d _ => decide (d < 16384)
  | .appendDurable d => decide (d < 16384)
  | .trackerWaitExpired d => decide (d < 16384)
  | .gatherKv d => decide (d < 16384)
  | .stepCommit d => decide (d < 16384)
  | .watermarkReached d => decide (d < 16384)
  | .watermarkBudgetExpired d => decide (d < 16384)
  | .streamOpen d => decide (d < 16384)
  | .streamClose d => decide (d < 16384)
  | .streamCloseForce d unfinished => decide (d < 16384) && sectorsOk unfinished
  | .streamFreed i => decide (i < 4096)
  | .streamSuspend d => decide (d < 16384)
  | .suspendCopiesDurable d failCode done => decide (d < 16384) && decide (failCode < 256) && decide (done < 2 ^ 32)
  | .streamResume d => decide (d < 16384)
  | .streamResumeExtend d => decide (d < 16384)
  | .catalogLookup d _ late => decide (d < 16384) && decide (late ≤ 256)
  | .catalogPublish d => decide (d < 16384)
  | .publishInsert d => decide (d < 16384)
  | .catalogRelease d => decide (d < 16384)
  | .catalogWithdraw d => decide (d < 16384)
  | .catalogHint d => decide (d < 16384)
  | .forwardTimeout req => decide (req < 65536)
  | .fwdReq l unf => decide (l < 48) && sectorsOk unf
  | .fwdRsp l unf => decide (l < 48) && sectorsOk unf
  | .fwdHoldExpired => true
  | .refstate l unf => decide (l < 48) && sectorsOk unf
  | .attend d => decide (d < 16384)
  | .reducePartial d => decide (d < 16384)
  | .quantize d => decide (d < 16384)
  | .scoreTopk d => decide (d < 16384)
  | .carrelDispatch d => decide (d < 16384)
  | .carrelWaitExpired d => decide (d < 16384)
  | .carrelTaskStart c => decide (c < 64)
  | .carrelTaskEnd c => decide (c < 64)
  | .carrelFault c => decide (c < 64)
  | .clusterRemove p k => p.wf && decide (k < 8)
  | .clusterReturn p k => p.wf && decide (k < 8)
  | .clusterTestDone k _ => decide (k < 8)
  | .wakeReexamine => true
  | .clusterWakeComplete k => decide (k < 8)
  | .clusterIdleGate k => decide (k < 8)
  | .clusterIdleOff k => decide (k < 8)
  | .skPFlush p k => p.wf && decide (k < 8)
  | .flushEnd k => decide (k < 8)
  | .skPLimitWrite p k v => p.wf && decide (k < 8) && decide (v < 2 ^ 32)
  | .demoteEnd k => decide (k < 8)
  | .pinSecondWalk => true
  | .pinSecondWalkEnd => true
  | .skDataParity sec => decide (sec < 2 ^ 40)
  | .skTagParity set => decide (set < 24576)
  | .scratchParity c => decide (c < 64)
  | .roCacheParity c => decide (c < 64)
  | .pjUnitAssign d => decide (d < 16384)
  | .pjUnitWaitExpired d => decide (d < 16384)
  | .pjParity u d chunk => decide (u < 8) && decide (d < 16384) && decide (chunk < 2 ^ 32)
  | .pjUReturn p u => p.wf && decide (u < 8)
  | .place d => decide (d < 16384)
  | .solverStart => true
  | .solverWaitExpired d => decide (d < 16384)
  | .solveComplete => true
  | .plParity => true
  | .ddr5Training ch dimms _ => decide (ch < 16) && decide (dimms.length ≤ 2)
  | .hbmTraining stack _ _ _ _ _ => decide (stack < 4)
  | .periodicRetune target _ => decide (target < 20)
  | .refreshDue u rank _ _ => decide (u < 144) && decide (rank < 32)
  | .refreshRepay u rank _ => decide (u < 144) && decide (rank < 32)
  | .writeQueueRoom u => decide (u < 144)
  | .caParityAlert u i _ => decide (u < 144) && decide (i < 32)
  | .retrain u => decide (u < 144)
  | .retrainEnd u _ => decide (u < 144)
  | .activateThreshold u bank _ => decide (u < 144) && decide (bank < 256)
  | .activateWindowClear => true
  | .uncorrectableRead line e f _ => decide (line < 2 ^ 42) && lineErrOk e && lineErrOk f
  | .rankRetirement ch => decide (ch < 16)
  | .migrationUnitCopy ch _ => decide (ch < 16)
  | .migrationComplete ch => decide (ch < 16)
  | .rankRetire p ch rank => p.wf && decide (ch < 16) && decide (rank < 32)
  | .rankReturn p ch rank => p.wf && decide (ch < 16) && decide (rank < 32)
  | .rowSpare u bank row => decide (u < 144) && decide (bank < 256) && decide (row < 2 ^ 18)
  | .spareCopyComplete dfn _ => decide (dfn < 2 ^ 26)
  | .selfRefreshEntry target => decide (target < 20)
  | .selfRefreshExit target => decide (target < 20)
  | .scrubRead target e f _ => decide (target < 20) && lineErrOk e && lineErrOk f
  | .bistRun d planned => decide (d < 16384) && decide (planned < 2 ^ 32)
  | .bistRepair d _ _ => decide (d < 16384)
  | .bistAbort d => decide (d < 16384)
  | .bistSlice kind index rank _ => decide (kind < 256) && decide (index < 65536) && decide (rank < 32)
  | .bistJobEnd kind index rank => decide (kind < 256) && decide (index < 65536) && decide (rank < 32)
  | .scrubSetPeriod d => decide (d < 16384)
  | .scrubPause d => decide (d < 16384)
  | .scrubResume d => decide (d < 16384)
  | .scrubRestartPass d => decide (d < 16384)
  | .injectFire p => p.wf
  | .wqParity line => decide (line < 2 ^ 42)
  | .descParity d unfinished => decide (d < 16384) && sectorsOk unfinished
  | .ctStashParity i => decide (i < 64)
  | .ctCacheParity i => decide (i < 65536)
  | .metadataUe code item _ unfinished => decide (code < 256) && decide (item < 2 ^ 32) && sectorsOk unfinished
  | .linkEnable p l => p.wf && decide (l < 48)
  | .linkDisable p l => p.wf && decide (l < 48)
  | .linkRetrain p l => p.wf && decide (l < 48)
  | .clearHold p l => p.wf && decide (l < 48)
  | .trainingLock l => decide (l < 48)
  | .trainingComplete l rate good _ inverted => decide (l < 48) && decide (rate < 2) && decide (good < 16) && decide (inverted < 16)
  | .trainingTimeout l => decide (l < 48)
  | .configFlit l f unf => decide (l < 48) && f.wf && sectorsOk unf
  | .configTimeout l => decide (l < 48)
  | .epochVerifyTimeout l => decide (l < 48)
  | .sequencedFlit l a unf => decide (l < 48) && a.wf && sectorsOk unf
  | .linkCtl l _ _ _ => decide (l < 48)
  | .ackTimer l => decide (l < 48)
  | .replayTimeout l => decide (l < 48)
  | .recovery l => decide (l < 48)
  | .recoveryTimeout l unf => decide (l < 48) && sectorsOk unf
  | .linkDrop l unf => decide (l < 48) && sectorsOk unf
  | .creditTimeout l vc unf => decide (l < 48) && decide (vc < 4) && sectorsOk unf
  | .holdoffExpired l => decide (l < 48)
  | .holdoffReset l => decide (l < 48)
  | .doorbell l unf => decide (l < 48) && sectorsOk unf
  | .dataFlit l unf => decide (l < 48) && sectorsOk unf
  | .dataAcknowledged d => decide (d < 16384)
  | .linkResourceWaitEnd d => decide (d < 16384)
  | .lcountTimeout q => decide (q < 65536)
  | .timeSend l => decide (l < 48)
  | .timeFlit l tTx _ => decide (l < 48) && decide (tTx < 2 ^ 64)
  | .steeringGap => true
  | .timeDegradedClear => true
  | .openFlit l => decide (l < 48)
  | .openAck l => decide (l < 48)
  | .rekey l => decide (l < 48)
  | .rekeyAck l => decide (l < 48)
  | .rekeyStart l i => decide (l < 48) && decide (i < 64)
  | .sessionCounterLimit l i => decide (l < 48) && decide (i < 64)
  | .closeFlit l => decide (l < 48)
  | .closeAck l => decide (l < 48)
  | .refuse l => decide (l < 48)
  | .mgmt l => decide (l < 48)
  | .laneSleep quad => decide (quad < 12)
  | .sleepTrainingBurst l => decide (l < 48)
  | .quadWake l => decide (l < 48)
  | .epochLoad d => decide (d < 16384)
  | .epochSwitch => true
  | .peerAttestation l _ _ => decide (l < 48)
  | .getEpochRecord b inst epoch => decide (b < 256) && decide (inst < 32) && decide (epoch < 2 ^ 32)
  | .putEpochRecord b inst _ => decide (b < 256) && decide (inst < 32)
  | .regRead b inst off => decide (b < 256) && decide (inst < 32) && decide (off < 2 ^ 32)
  | .regWrite b inst off v x => decide (b < 256) && decide (inst < 32) && decide (off < 2 ^ 32) && decide (v < 2 ^ 32) && x.wf
  | .pcieLinkUp rate width _ _ => decide (rate < 8) && decide (width < 17)
  | .pcieLinkDown unf => sectorsOk unf
  | .perstAssert unf => sectorsOk unf
  | .perstRelease => true
  | .hostPortReset unf => sectorsOk unf
  | .pfFlr unf => sectorsOk unf
  | .vfFlr n unf => decide (n < 64) && sectorsOk unf
  | .busMasterEnable fn _ _ cfg unf => decide (fn < 64) && cfg.wf && sectorsOk unf
  | .hostCompletionError d code unf => decide (d < 81920) && decide (code < 3) && sectorsOk unf
  | .hostWriteFail d _ unf => decide (d < 16384) && sectorsOk unf
  | .poisonedCompletion d off n => decide (d < 81920) && decide (off < 2 ^ 26) && decide (n < 2 ^ 26)
  | .apertureRead w off n tag _ => decide (w < 16) && decide (off < 2 ^ 42) && decide (n < 2 ^ 32) && decide (tag < 65536)
  | .apertureWrite w off _ _ _ => decide (w < 16) && decide (off < 2 ^ 42)
  | .cxlMemRead a tag _ => decide (a < 2 ^ 52) && decide (tag < 65536)
  | .cxlMemWrite a tag data _ _ => data.length == 64 && decide (a < 2 ^ 52) && decide (tag < 65536)
  | .apertureEnable p w _ => p.wf && decide (w < 16)
  | .cxlBindingEnable p _ => p.wf
  | .bindingFilled w => decide (w < 16)
  | .ideCheckFail stream _ unf => decide (stream < 5) && sectorsOk unf
  | .mctpPacket b _ => decide (b < 256)
  | .setEndpointId b eid => decide (b < 256) && decide (eid < 256)
  | .getEndpointId b => decide (b < 256)
  | .getEndpointUuid b => decide (b < 256)
  | .getMctpVersionSupport b t => decide (b < 256) && decide (t < 256)
  | .getMessageTypeSupport b => decide (b < 256)
  | .getVendorDefinedMessageSupport b sel => decide (b < 256) && decide (sel < 256)
  | .prepareForEndpointDiscovery b => decide (b < 256)
  | .endpointDiscovery b => decide (b < 256)
  | .discoveryNotify b => decide (b < 256)
  | .doeDiscovery i => decide (i < 65536)
  | .cdatTableAccess i => decide (i < 65536)
  | .getVersion b => decide (b < 256)
  | .getCapabilities b => decide (b < 256)
  | .negotiateAlgorithms b _ _ _ _ => decide (b < 256)
  | .getDigests b => decide (b < 256)
  | .getCertificate b slot off n => decide (b < 256) && decide (slot < 8) && decide (off < 2 ^ 42) && decide (n < 2 ^ 32)
  | .challenge b slot _ => decide (b < 256) && decide (slot < 8)
  | .getMeasurements b i _ => decide (b < 256) && decide (i < 65536)
  | .keyExchange b id => decide (b < 256) && decide (id < 65536)
  | .spdmFinish b id => decide (b < 256) && decide (id < 65536)
  | .heartbeat b id => decide (b < 256) && decide (id < 65536)
  | .keyUpdate b id => decide (b < 256) && decide (id < 65536)
  | .endSession b id => decide (b < 256) && decide (id < 65536)
  | .chunkSend b _ _ => decide (b < 256)
  | .chunkGet b => decide (b < 256)
  | .ideKm b id stream => decide (b < 256) && decide (id < 65536) && decide (stream < 5)
  | .getTid b => decide (b < 256)
  | .setTid b tid => decide (b < 256) && decide (tid < 256)
  | .getPldmVersion b t => decide (b < 256) && decide (t < 256)
  | .getPldmTypes b => decide (b < 256)
  | .getPldmCommands b t => decide (b < 256) && decide (t < 256)
  | .getPdrRepositoryInfo b => decide (b < 256)
  | .getPdr b h => decide (b < 256) && decide (h < 2 ^ 32)
  | .getSensorReading b i sample => decide (b < 256) && decide (i < 65536) && decide (sample < 2 ^ 32)
  | .getStateSensorReadings b i => decide (b < 256) && decide (i < 65536)
  | .setEventReceiver b eid _ => decide (b < 256) && decide (eid < 256)
  | .sensorThresholdCrossing i st => decide (i < 65536) && decide (st < 16)
  | .pollForPlatformEventMessage b => decide (b < 256)
  | .eventMessageSupported b => decide (b < 256)
  | .queryDeviceIdentifiers b => decide (b < 256)
  | .getFirmwareParameters b => decide (b < 256)
  | .requestUpdate b eid => decide (b < 256) && decide (eid < 256)
  | .passComponentTable b eid comp => decide (b < 256) && decide (eid < 256) && decide (comp < 16)
  | .updateComponent b eid comp => decide (b < 256) && decide (eid < 256) && decide (comp < 16)
  | .transferComplete _ => true
  | .verifyComplete image key => key.length == 97 && decide (0xB0 ≤ image.length)
  | .activateFirmware b eid _ => decide (b < 256) && decide (eid < 256)
  | .pldmGetStatus b => decide (b < 256)
  | .cancelUpdateComponent b eid => decide (b < 256) && decide (eid < 256)
  | .cancelUpdate b eid => decide (b < 256) && decide (eid < 256)
  | .updateIdleTimeout => true
  | .getEventRecords log => decide (log < 8)
  | .clearEventRecords log => decide (log < 8)
  | .getEventInterruptPolicy => true
  | .setEventInterruptPolicy v => decide (v < 2 ^ 32)
  | .getSupportedLogs => true
  | .getLog _ => true
  | .getTimestamp => true
  | .identifyMemoryDevice => true
  | .getPartitionInfo => true
  | .getHealthInfo => true
  | .getPoisonList off n => decide (off < 2 ^ 42) && decide (n < 2 ^ 32)
  | .tenantCreate d => decide (d < 16384)
  | .tenantSet d => decide (d < 16384)
  | .tenantSetShare d => decide (d < 16384)
  | .tenantRemove t unf => decide (t < 1024) && sectorsOk unf
  | .queueBind d => decide (d < 16384)
  | .queueUnbind d unf => decide (d < 16384) && sectorsOk unf
  | .vfBind d => decide (d < 16384)
  | .vfUnbind d => decide (d < 16384)
  | .tenantReset d unf => decide (d < 16384) && sectorsOk unf
  | .reservationCredit => true
  | .capInterval => true
  | .vectorCoalesceTimeout fn v => decide (fn < 64) && decide (v < 2048)
  | .vectorUnmask fn v => decide (fn < 64) && decide (v < 2048)
  | .bmcPortReset _ => true
  | .i3cAddressAssign a => a.wf
  | .mailboxGo p => p.wf
  | .getStatus p => p.wf
  | .getIdentity p => p.wf
  | .getNonce p => p.wf
  | .debugUnlock p _ unf => p.wf && sectorsOk unf
  | .debugLock p => p.wf
  | .lcChange p _ cut _ => p.wf && decide (cut < 6)
  | .getTamper p => p.wf
  | .tamperAck p _ => p.wf
  | .fuseRead p => p.wf
  | .fwHealthy p cut => p.wf && decide (cut.getD 0 < 1024)
  | .vbatCfg p _ => p.wf
  | .tokenLockoutEnd => true
  | .trialTimeout => true
  | .tamperAlarm c levels unf => decide (c < 6) && decide (levels.length ≤ 3) && sectorsOk unf
  | .tamperAlarmRepeat c levels unf => decide (c < 6) && decide (levels.length ≤ 3) && sectorsOk unf
  | .extest => true
  | .clamp => true
  | .highz => true
  | .extestPulse => true
  | .extestTrain => true
  | .dbgAuth _ _ unf => sectorsOk unf
  | .dapAccess kind a n _ => decide (kind < 8) && decide (a < 2 ^ 48) && decide (n < 2 ^ 32)
  | .rtpParity unf => sectorsOk unf
  | .keyCreateMemory d => decide (d < 16384)
  | .keyCreateSessionShared d => decide (d < 16384)
  | .keyCreateSessionAttested d _ _ _ => decide (d < 16384)
  | .keyCreateWeight d => decide (d < 16384)
  | .keyRetire d => decide (d < 16384)
  | .retirementDrained i => decide (i < 65536)
  | .retirementCap i unf => decide (i < 65536) && sectorsOk unf
  | .sessionBind d => decide (d < 16384)
  | .sessionUnbind d => decide (d < 16384)
  | .wrapProvision d => decide (d < 16384)
  | .wrapInfo d => decide (d < 16384)
  | .weightRelease d => decide (d < 16384)
  | .enterS3 p unf => p.wf && sectorsOk unf
  | .s3DrainTimeout unf => sectorsOk unf
  | .enterS5 p unf => p.wf && sectorsOk unf
  | .exitS3 p => p.wf
  | .wakeNEvent => true
  | .s3TimerExpired => true
  | .s3Exit _ => true
  | .engineIdleGate k => decide (k < 64)
  | .domainWake k => decide (k < 64)
  | .fabricSlow => true
  | .clusterClockChange k => decide (k < 8)
  | .pllLockLoss k unf => decide (k < 64) && sectorsOk unf
  | .pllRelock k _ => decide (k < 64)
  | .refLost => true
  | .controlSample k b _ => b.length == 64 && decide (k < 8)
  | .phaseShed p => decide (p < 40)
  | .stageFault p _ => decide (p < 40)
  | .plausLoop k unf => decide (k < 8) && sectorsOk unf
  | .follow k unf => decide (k < 8) && sectorsOk unf
  | .ovUv k unf => decide (k < 8) && sectorsOk unf
  | .rampToReg k _ next => decide (k < 8) && decide (next < 65536)
  | .loadModelUpdate unf => sectorsOk unf
  | .capacity k unf => decide (k < 8) && sectorsOk unf
  | .thermCapStep => true
  | .tmonRead p mv => decide (p < 40) && decide (mv < 65536)
  | .vinRead mv => decide (mv < 65536)
  | .thermistorConversion t uv rise => decide (t < 8) && decide (uv < 2 ^ 32) && decide (rise < 2 ^ 32)
  | .thermistorOpenTimeout t => decide (t < 8)
  | .vsetInvalid i => decide (i < 4)
  | .dcrMeasure p dcr => decide (p < 40) && decide (dcr < 65536)
  | .gainWarn p => decide (p < 40)
  | .loopStart p k vout _ => p.wf && decide (k < 8) && decide (vout < 65536)
  | .loopStop p k => p.wf && decide (k < 8)
  | .loopClear p k => p.wf && decide (k < 8)
  | .reinstate p ph => p.wf && decide (ph < 40)
  | .pwrFault => true
  | .pwrFaultRelease => true
  | .railRetry p => p.wf
  | .powerUpSequence _ dies => decide (dies.length = 24)
  | .powerUpLoopTimeout => true
  | .powerUpRetryDelay _ => true
  | .lockBreak k lock _ => decide (k < 8) && decide (lock < 256)
  | .coreHang k _ => decide (k < 8)
  | .coreReload k _ => decide (k < 8)
  | .fatalError kind inst rkind rtype rinst => decide (kind < 256) && decide (inst < 65536) && decide (rkind < 256) && decide (rtype < 256) && decide (rinst < 65536)
  | .fatalResetDelay => true
  | .recoveryQueuedStart utype inst => decide (utype < 256) && decide (inst < 65536)
  | .erRptrWrite p v => p.wf && decide (v < 2 ^ 32)
  | .fatalAck p => p.wf
  | .coldReset => true
  | .deviceReset => true
  | .memGo p => p.wf
  | .hotReady _ => true
  | .poolReady => true
  | .calWrite d _ => decide (d < 16384)
  | .calWriteReadback d => decide (d < 16384)
  | .calFlashWriteDone _ => true
  | .adminReset d => decide (d < 16384)
  | .adminResetDelay => true
  | .headerWrite d _ => decide (d < 16384)
  | .headerFlashWriteDone _ => true
  | .headerRead d => decide (d < 16384)
  | .brownOut => true
  | .thermalWarning src _ => decide (src < 60)
  | .thermtrip src => decide (src < 28)
  | .recoveryRetrained l good => decide (l < 48) && decide (good < 16)
  | .pjUSelfTestDone u _ => decide (u < 8)
  | .injectionDone => true
  | .configSend l => decide (l < 48)
  | .vsetPwmValid i ps => decide (i < 4) && ps.length == 4 && ps.all (fun p => decide (p.2 ≤ p.1))
  | .battLow => true
  | .vbatLost => true
  | .tamperInputRelease i levels => decide (i < 4) && decide (levels.length ≤ 3)

end Sys2Proof
end

