-- ==== Sys2Proof/Safety.lean ====
section
/-!
DEFINITION. What claims are stated in: commands that complete and where they lead, descriptors in their stages, safe runs, canonical memory.
-/
namespace Sys2Proof.Machine

/-- A command answers a next state of which a property holds. -/
def Leads (c : Instr) (s : State) (P : State → Prop) : Prop := ∃ t, exec c s = .next t ∧ P t

/-- Descriptor `d` holds a command of an opcode whose operation may run (Table 3.2). -/
abbrev Runs (s : State) (d op : Nat) (x : Desc) : Prop := s.desc? d = some x ∧ x.e.opcode = op ∧ x.stage = .ready

/-- Descriptor `d` holds a command that waits. -/
abbrev Waits (s : State) (d : Nat) (w : Wait) (x : Desc) : Prop := s.desc? d = some x ∧ x.stage = .wait w

/-- The status of descriptor `d` is final. -/
abbrev Ended (t : State) (d : Nat) (st : Status) : Prop := (t.desc d).stage = .done ∧ (t.desc d).status = st

/-- The state once a command's requests of the tiers, what it reads and what it writes, have paid their turns (R496). -/
abbrev State.turned (s : State) (x : Desc) (r w : List Piece) : State := s.payTurns x.e.tenant r w

/-- The read that a command makes of its source from operand `a`: the state after it, and what it met. -/
abbrev State.readOf (s : State) (x : Desc) (a : Nat) : State × Met := s.readAccess x.src (some x.smeta) a x.e.len {} x.who

/-- The bytes of a WRITE, from the host or pulled over its link. -/
abbrev State.writeBytes (s : State) (x : Desc) (b : List Byte) : List Byte :=
  ((if (s.queue x.q).isLink then x.data else b) ++ List.replicate x.e.len 0).take x.e.len

/-- No line of the pieces is one that the decoder would miscorrect. -/
abbrev State.decodesWell (s : State) (ps : List Piece) : Prop := ∀ p ∈ ps, s.secVerdict p.sec ≠ .wrong

/-- What function `f` of the host port has been sent at an address, oldest first. -/
abbrev State.sentTo (t : State) (f a : Nat) : List (List Byte) :=
  t.outbox.filterMap (fun m => match m with | .hostWrite g b c => if g = f ∧ b = a then some c else none | _ => none)

/-- `t` is `s` after one answer on binding `b`: to a requester on MCTP as the packets of a response, else as a message with its code. -/
abbrev Answered (s t : State) (b ty cmd code : Nat) (data : List Byte) : Prop :=
  t = if b < 50 then s.sendMsg b false (BitVec.ofNat 8 ty :: BitVec.ofNat 8 cmd :: BitVec.ofNat 8 code :: data)
    else { s with outbox := s.outbox ++ [.mgmt b (ty * 65536 + cmd) code data] }

/-- `t` is `s` after one SPDM response on binding `b`; one of more than 4,096 B is kept for the requester to take in chunks. -/
abbrev SpdmReplied (s t : State) (b cmd : Nat) (data : List Byte) : Prop :=
  if data.length ≤ 4096 then Answered s t b 5 cmd 0 data
  else Answered { s with mg := { s.mg with spdm := kvPut {} s.mg.spdm b { s.spdm b with chunksOut := data } } } t b 5 cmd 0xF []

/-- The mailbox of port `p` is answered now and holds a request of command `c` with `n` bytes of data. -/
abbrev Mailed (s : State) (p : Port) (c n : Nat) : Prop :=
  s.mbxOn p = true ∧ (s.mbx p).st = 1 ∧ leAt (s.mbx p).buf 0 2 = c ∧ leAt (s.mbx p).buf 2 2 = n

/-- The data of the request in a port's mailbox. -/
abbrev State.mailData (s : State) (p : Port) (n : Nat) : List Byte := ((s.mbx p).buf.drop 4 ++ List.replicate n 0).take n

/-- The mailbox of port `p` holds a response: the result, the length, the data, and behind them what stood there. -/
abbrev MailAnswered (s t : State) (p : Port) (code : Nat) (data : List Byte) : Prop :=
  t.mbx p = { buf := leBytes 2 code ++ leBytes 2 data.length ++ data ++ (s.mbx p).buf.drop (4 + data.length), st := 2 }

/-- The index entry that a publish of segment record `i` inserts. -/
abbrev State.publishEntry (s : State) (x : Desc) (i : Nat) : IndexEntry :=
  { hash := (s.seg i).hash, scope := (s.seg i).scope, owner := (s.seg i).owner
    handle := mkHandle i (s.seg i).owner (s.seg i).gen, hint := x.e.pubHint, tokens := (s.seg i).tokens, layers := (s.seg i).layers }

/-- A run of `k` steps from a state meets no fault and no refusal. -/
def Safe (s : State) (k : Nat) : Prop := ∃ t, core.run k s = .next t

/-- Memory is in its canonical form, so that equal memories are equal data. -/
abbrev State.Canonical (s : State) : Prop := Memory.wf s.mem = true

end Sys2Proof.Machine
end

