-- ==== Sys2Proof/Certificates/Slice0/Obligations.lean ====
section
/-!
DEFINITION. The statements for the provers. A completion statement says of each command it names, for every state and operands that meet
the hypotheses, that the command answers a next state, and what that state holds.
-/
open Sys2Proof Sys2Proof.Machine

/-- With a descriptor whose operation may run and no window or drain of its tenant in its way: FOLIO_ALLOC that finds its TFNs unmapped and
enough FREE folios gives entry i the i-th of them, OWNED by the tenant and mapped once, with the permissions and pin class of SPEC, and
writes their DFNs to its buffer; with too few it ends E_CAPACITY and changes no entry. FOLIO_FREE of mapped TFNs and UNMAP leave their
entries invalid, MAP_SYNC copies the master entries, and each advances the epoch exactly when it revokes; these commands, FOLIO_ALLOC and
PIN hold the map window open with their result. MAP_SYNC with VERIFY reports the number of differences and changes no entry, FOLIO_HINT sets
the hint of the mapped folios, PIN the pin class of the valid entries, and none of these three changes the epoch. (R45, R58, R60, R63, R64,
R65, R66, R67, R68, R242, 02_folios_and_translation.md) -/
def Obligations.FolioCommandsComplete : Prop :=
  (∀ (s : State) (d : Nat) (x : Desc),
      Runs s d 0x10 x →
      s.inWindow x.e.tenant = false →
      s.noHost x.q = false →
      (∀ k ∈ x.e.tfns, (s.entry x.e.tenant k).valid = false) →
      (s.takeFolios (bits x.e.opA 24 2) x.e.len).length = x.e.len →
      s.hostFault = none →
      Leads (.folioAlloc d) s fun t => (t.desc d).stage = .wait .window ∧ (t.desc d).status = .ok ∧ t.inWindow x.e.tenant = true ∧
        t.epoch x.e.tenant = s.epoch x.e.tenant ∧
        (∀ i, i < x.e.len → t.entry x.e.tenant (bits x.e.opA 0 24 + i) = { dfn := (s.takeFolios (bits x.e.opA 24 2) x.e.len).getD i 0, rd := bit x.e.spec 0, wr := bit x.e.spec 1, cp := bit x.e.spec 2, sh := bit x.e.spec 3, pin := bits x.e.spec 4 4, epoch := s.epoch x.e.tenant, valid := true }) ∧
        (∀ i, i < x.e.len → t.owner ((s.takeFolios (bits x.e.opA 24 2) x.e.len).getD i 0) = { st := .owned, tenant := x.e.tenant, maps := 1 }) ∧
        Msg.hostWrite 0 x.e.opB (((s.takeFolios (bits x.e.opA 24 2) x.e.len).map (leBytes 4)).flatten) ∈ t.outbox) ∧
  (∀ (s : State) (d : Nat) (x : Desc),
      Runs s d 0x10 x →
      s.inWindow x.e.tenant = false →
      s.noHost x.q = false →
      (∀ k ∈ x.e.tfns, (s.entry x.e.tenant k).valid = false) →
      (s.takeFolios (bits x.e.opA 24 2) x.e.len).length < x.e.len →
      Leads (.folioAlloc d) s fun t => Ended t d .capacity ∧ t.map = s.map) ∧
  (∀ (s : State) (d : Nat) (x : Desc),
      Runs s d 0x11 x →
      s.revokeBusy x.e.tenant = false →
      s.inWindow x.e.tenant = false →
      (∀ k ∈ x.e.tfns, (s.entry x.e.tenant k).valid = true) →
      x.e.len ≠ 0 →
      Leads (.folioFree d) s fun t => (t.desc d).stage = .wait .window ∧ (t.desc d).status = .ok ∧ t.inWindow x.e.tenant = true ∧
        t.epoch x.e.tenant = (s.epoch x.e.tenant + 1) % 65536 ∧ (∀ k ∈ x.e.tfns, (t.entry x.e.tenant k).valid = false)) ∧
  (∀ (s : State) (d : Nat) (x : Desc),
      Runs s d 0x13 x →
      s.revokeBusy x.e.tenant = false →
      s.inWindow x.e.tenant = false →
      Leads (.unmap d) s fun t => (t.desc d).stage = .wait .window ∧ (t.desc d).status = .ok ∧ t.inWindow x.e.tenant = true ∧
        (∀ k ∈ x.e.tfns, (t.entry x.e.tenant k).valid = false) ∧
        t.epoch x.e.tenant = (if x.e.tfns.any (fun k => (s.entry x.e.tenant k).valid) then (s.epoch x.e.tenant + 1) % 65536 else s.epoch x.e.tenant)) ∧
  (∀ (s : State) (d : Nat) (b : List Byte) (x : Desc),
      Runs s d 0x12 x →
      x.e.flag 8 = false →
      s.noHost x.q = false →
      s.revokeBusy x.e.tenant = false →
      s.inWindow x.e.tenant = false →
      s.masterCheck x.e.tenant ({ x with blk := b } : Desc).master = none →
      Leads (.mapSync d b) s fun t => (t.desc d).stage = .wait .window ∧ (t.desc d).status = .ok ∧ t.inWindow x.e.tenant = true ∧
        t.epoch x.e.tenant = (if ({ x with blk := b } : Desc).master.any (fun p => revokesEntry (s.entry x.e.tenant p.1) (MapEntry.ofNat p.2)) then (s.epoch x.e.tenant + 1) % 65536 else s.epoch x.e.tenant) ∧
        (∀ p ∈ ({ x with blk := b } : Desc).master, t.entry x.e.tenant p.1 = { MapEntry.ofNat p.2 with epoch := if bit p.2 63 then t.epoch x.e.tenant else 0 })) ∧
  (∀ (s : State) (d : Nat) (b : List Byte) (x : Desc),
      Runs s d 0x12 x →
      x.e.flag 8 = true →
      s.noHost x.q = false →
      Leads (.mapSyncVerify d b) s fun t => Ended t d .ok ∧
        (t.desc d).res.w3 = (s.verifyDiffs x.e.tenant ({ x with blk := b } : Desc).master).length ∧
        t.map = s.map ∧ t.epoch x.e.tenant = s.epoch x.e.tenant) ∧
  (∀ (s : State) (d : Nat) (x : Desc),
      Runs s d 0x14 x →
      Leads (.folioHint d) s fun t => Ended t d .ok ∧
        (∀ k ∈ x.e.tfns, (s.entry x.e.tenant k).valid = true → (t.owner (s.entry x.e.tenant k).dfn).hint = bits x.e.spec 0 2) ∧
        t.map.mirror = s.map.mirror ∧ t.epoch x.e.tenant = s.epoch x.e.tenant) ∧
  (∀ (s : State) (d : Nat) (x : Desc),
      Runs s d 0x15 x →
      s.inWindow x.e.tenant = false →
      Leads (.pin d) s fun t => (t.desc d).stage = .wait .window ∧ (t.desc d).status = .ok ∧ t.inWindow x.e.tenant = true ∧
        t.epoch x.e.tenant = s.epoch x.e.tenant ∧
        (∀ k ∈ x.e.tfns, (s.entry x.e.tenant k).valid = true → t.entry x.e.tenant k = { s.entry x.e.tenant k with pin := bits x.e.spec 0 4 }))

/-- With no drain and no open window of the tenant, the revoking command that has waited longest for its turn opens its window, and an
UNMAP's entries are invalid then. A drain with no descriptor of the previous epoch and no host access under it left ends, and the revoking
command that waits for it ends OK. A RELEASING folio without catalog reference and without a descriptor that carries it enters ZEROING; the
folio at the head of its tier's order is zeroed, its poison cleared, and nothing else in memory changes. With no entry held for it, a map
window closes: a command that revoked while descriptors of the previous epoch are left waits for its drain, a PIN ends OK with its second
walk noted, every other command ends with its status. (R44, R58, R59, R61, R62, R243, R344, R695, R754, R755) -/
def Obligations.RevocationProceeds : Prop :=
  (∀ (s : State) (n : Nat) (d : Nat) (x : Desc),
      s.nextRevoke n = some d →
      s.desc? d = some x →
      x.e.tenant = n →
      s.fld F_TN_MAP_EPOCH_DRAINING n = 0 →
      s.inWindow n = false →
      Leads (.revokeWindowStart n) s fun t => (t.desc d).stage = .wait .window ∧ t.inWindow n = true ∧
        (x.e.opcode = 0x13 → ∀ k ∈ x.e.tfns, (t.entry n k).valid = false)) ∧
  (∀ (s : State) (n : Nat) (d : Nat) (x : Desc),
      s.fld F_TN_MAP_EPOCH_DRAINING n = 1 →
      s.drainLeft n = 0 →
      (s.revokes n).running = some d →
      s.desc? d = some x →
      x.stage = .wait .drain →
      Leads (.revokeDrainComplete n) s fun t => t.fld F_TN_MAP_EPOCH_DRAINING n = 0 ∧ (t.revokes n).running = none ∧ Ended t d .ok) ∧
  (∀ (s : State) (n : Nat),
      s.fld F_TN_MAP_EPOCH_DRAINING n = 1 →
      s.drainLeft n = 0 →
      (s.revokes n).running = none →
      Leads (.revokeDrainComplete n) s fun t => t.fld F_TN_MAP_EPOCH_DRAINING n = 0 ∧ t.q = s.q) ∧
  (∀ (s : State) (n : Nat),
      (s.owner n).st = .releasing →
      s.catalogued n = false →
      s.carried n = false →
      Leads (.folioReleaseComplete n) s fun t => t.inZeroing n = true ∧ (t.owner n).st = .zeroing ∧ ∀ a, t.byte a = s.byte a) ∧
  (∀ (s : State) (n : Nat),
      s.ck.power = 0 →
      s.zeroHead (decide (n < warmBase)) = some n →
      Leads (.folioZeroed n) s fun t => (∀ a, n * 65536 ≤ a → a < n * 65536 + 65536 → t.byte a = 0) ∧
        (∀ a, (a < n * 65536 ∨ n * 65536 + 65536 ≤ a) → t.byte a = s.byte a) ∧
        (∀ k, k / 256 = n → t.poisoned k = false) ∧ (t.inZeroing n = false → (t.owner n).st = .free)) ∧
  (∀ (s : State) (n : Nat) (blks : List (Nat × List Byte)) (d : Nat) (x : Desc),
      s.q.descs.find? (fun p => p.2.stage == .wait .window && p.2.e.tenant == n) = some (d, x) →
      s.desc? d = some x →
      x.e.opcode ≠ 0x15 →
      (x.aux = 0 ∨ s.drainLeft n = 0) →
      s.fld F_TN_MAP_EPOCH_DRAINING n = 0 →
      s.windowHeld n = [] →
      Leads (.mapWindowRelease n blks) s fun t => t.inWindow n = false ∧ Ended t d x.status) ∧
  (∀ (s : State) (n : Nat) (blks : List (Nat × List Byte)) (d : Nat) (x : Desc),
      s.q.descs.find? (fun p => p.2.stage == .wait .window && p.2.e.tenant == n) = some (d, x) →
      s.desc? d = some x →
      x.aux = 1 →
      s.drainLeft n ≠ 0 →
      s.windowHeld n = [] →
      Leads (.mapWindowRelease n blks) s fun t => t.inWindow n = false ∧ t.desc? d = some (x.to s.now (.wait .drain)) ∧
        t.fld F_TN_MAP_EPOCH_DRAINING n = 1 ∧ (t.revokes n).running = some d) ∧
  (∀ (s : State) (n : Nat) (blks : List (Nat × List Byte)) (d : Nat) (x : Desc),
      s.q.descs.find? (fun p => p.2.stage == .wait .window && p.2.e.tenant == n) = some (d, x) →
      s.desc? d = some x →
      x.e.opcode = 0x15 →
      x.aux = 0 →
      s.fld F_TN_MAP_EPOCH_DRAINING n = 0 →
      s.windowHeld n = [] →
      Leads (.mapWindowRelease n blks) s fun t => t.inWindow n = false ∧ Ended t d .ok ∧
        t.sk.sweeps.length = s.sk.sweeps.length + 1)

/-- Where no unit they touch is retraining, asleep or at its cap, and no other tenant is first on them: WRITE, from a host or a link, ends
with the status that storing its bytes gives and changes no byte outside the destination folios. A READ whose source reads well sends the
bytes to the host in one posted write and ends OK, or sends them over its link and waits for the acknowledgement; one whose source does not
ends with the status that the source gives. A COPY whose source reads and whose destination writes well ends OK; in every outcome it changes
no byte outside its folios. READ changes no byte, and COPY none outside the destination, unless the decoder miscorrects a source line. A
command of these that must wait, or whose turn it is not, leaves the state as it is. (R69, R318, R344, R346, R347, R353, R496, R497) -/
def Obligations.DataCommandsComplete : Prop :=
  (∀ (s : State) (d : Nat) (b : List Byte) (x : Desc),
      Runs s d 0x20 x →
      s.noHost x.q = false →
      s.mergeWaits x.e.tenant (pieces x.dst x.e.opA x.e.len) = false →
      s.outOfTurn x.e.tenant [] (pieces x.dst x.e.opA x.e.len) = false →
      (∀ p ∈ pieces x.dst x.e.opA x.e.len, p.sec / 256 ∈ x.dst) →
      Leads (.write d b) s fun t => Ended t d (((s.turned x [] (pieces x.dst x.e.opA x.e.len)).askHost x.q x.e.opB x.e.len).storeData x (s.writeBytes x b)).2.status ∧ (∀ a, a / 65536 ∉ x.dst → t.byte a = s.byte a)) ∧
  (∀ (s : State) (d : Nat) (x : Desc),
      Runs s d 0x21 x →
      s.readWaits x.e.tenant (pieces x.src x.e.opA x.e.len) = false →
      s.outOfTurn x.e.tenant (pieces x.src x.e.opA x.e.len) [] = false →
      ((s.turned x (pieces x.src x.e.opA x.e.len) []).readOf x x.e.opA).2.status = .ok →
      (s.queue x.q).isLink = false →
      s.noHost x.q = false →
      s.hostFault = none →
      Leads (.read d) s fun t => Ended t d .ok ∧ Msg.hostWrite (s.queue x.q).fn x.e.opB (((s.turned x (pieces x.src x.e.opA x.e.len) []).readOf x x.e.opA).1.readRuns x.src x.e.opA 0 x.e.len) ∈ t.outbox ∧
        (s.decodesWell (pieces x.src x.e.opA x.e.len) → ∀ a, t.byte a = s.byte a)) ∧
  (∀ (s : State) (d : Nat) (x : Desc),
      Runs s d 0x21 x →
      s.readWaits x.e.tenant (pieces x.src x.e.opA x.e.len) = false →
      s.outOfTurn x.e.tenant (pieces x.src x.e.opA x.e.len) [] = false →
      ((s.turned x (pieces x.src x.e.opA x.e.len) []).readOf x x.e.opA).2.status = .ok →
      (s.queue x.q).isLink = true →
      s.sessionRetiring (s.queue x.q).origin (s.queue x.q).tenant = false →
      s.linkReady (s.queue x.q).origin (s.queue x.q).tenant = true →
      s.dataUnacked (s.queue x.q).origin x.q x.xtag = false →
      Leads (.read d) s fun t => (t.desc d).stage = .wait .dataOut ∧ (t.desc d).data = ((s.turned x (pieces x.src x.e.opA x.e.len) []).readOf x x.e.opA).1.readRuns x.src x.e.opA 0 x.e.len ∧
        (s.decodesWell (pieces x.src x.e.opA x.e.len) → ∀ a, t.byte a = s.byte a)) ∧
  (∀ (s : State) (d : Nat) (x : Desc),
      Runs s d 0x21 x →
      s.readWaits x.e.tenant (pieces x.src x.e.opA x.e.len) = false →
      s.outOfTurn x.e.tenant (pieces x.src x.e.opA x.e.len) [] = false →
      ((s.turned x (pieces x.src x.e.opA x.e.len) []).readOf x x.e.opA).2.status ≠ .ok →
      Leads (.read d) s fun t => Ended t d ((s.turned x (pieces x.src x.e.opA x.e.len) []).readOf x x.e.opA).2.status) ∧
  (∀ (s : State) (d : Nat) (x : Desc),
      Runs s d 0x22 x →
      s.readWaits x.e.tenant (pieces x.src x.e.opB x.e.len) = false →
      s.mergeWaits x.e.tenant (pieces x.dst x.e.opA x.e.len) = false →
      s.outOfTurn x.e.tenant (pieces x.src x.e.opB x.e.len) (pieces x.dst x.e.opA x.e.len) = false →
      ((s.turned x (pieces x.src x.e.opB x.e.len) (pieces x.dst x.e.opA x.e.len)).readOf x x.e.opB).2 = {} →
      (∀ p ∈ pieces x.dst x.e.opA x.e.len, p.sec / 256 ∈ x.dst) →
      ((((s.turned x (pieces x.src x.e.opB x.e.len) (pieces x.dst x.e.opA x.e.len)).readOf x x.e.opB).1).writePieces x.dmeta {} x.who (((s.turned x (pieces x.src x.e.opB x.e.len) (pieces x.dst x.e.opA x.e.len)).readOf x x.e.opB).1.readRuns x.src x.e.opB 0 x.e.len) (pieces x.dst x.e.opA x.e.len) {}).2 = {} →
      Leads (.copy d) s fun t => Ended t d .ok ∧ (s.decodesWell (pieces x.src x.e.opB x.e.len) → ∀ a, a / 65536 ∉ x.dst → t.byte a = s.byte a)) ∧
  (∀ (s : State) (d : Nat) (x : Desc),
      Runs s d 0x22 x →
      s.readWaits x.e.tenant (pieces x.src x.e.opB x.e.len) = false →
      s.mergeWaits x.e.tenant (pieces x.dst x.e.opA x.e.len) = false →
      s.outOfTurn x.e.tenant (pieces x.src x.e.opB x.e.len) (pieces x.dst x.e.opA x.e.len) = false →
      (∀ p ∈ pieces x.dst x.e.opA x.e.len, p.sec / 256 ∈ x.dst) →
      (∀ p ∈ pieces x.src x.e.opB x.e.len, p.sec / 256 ∈ x.src) →
      Leads (.copy d) s fun t => (t.desc d).stage = .done ∧ (∀ a, a / 65536 ∉ x.dst → a / 65536 ∉ x.src → t.byte a = s.byte a)) ∧
  (∀ (s : State) (d : Nat) (b : List Byte) (x : Desc),
      Runs s d 0x20 x →
      (s.mergeWaits x.e.tenant (pieces x.dst x.e.opA x.e.len) = true ∨ s.outOfTurn x.e.tenant [] (pieces x.dst x.e.opA x.e.len) = true) →
      Leads (.write d b) s fun t => t = s) ∧
  (∀ (s : State) (d : Nat) (x : Desc),
      Runs s d 0x21 x →
      (s.readWaits x.e.tenant (pieces x.src x.e.opA x.e.len) = true ∨ s.outOfTurn x.e.tenant (pieces x.src x.e.opA x.e.len) [] = true) →
      Leads (.read d) s fun t => t = s) ∧
  (∀ (s : State) (d : Nat) (x : Desc),
      Runs s d 0x22 x →
      (s.readWaits x.e.tenant (pieces x.src x.e.opB x.e.len) = true ∨ s.mergeWaits x.e.tenant (pieces x.dst x.e.opA x.e.len) = true ∨ s.outOfTurn x.e.tenant (pieces x.src x.e.opB x.e.len) (pieces x.dst x.e.opA x.e.len) = true) →
      Leads (.copy d) s fun t => t = s)

/-- FENCE_SIGNAL of a fence below its maximum ends OK and raises the value of a fence, unless it was poisoned in an earlier tick, when the
new value is higher; at the maximum it ends E_PARAM. FENCE_WAIT ends OK on a reached value, E_FENCE_POISON on poison, and waits otherwise;
the wait of a FENCE_WAIT that is met ends it OK, a packet wait that is met goes on to the operation or to the pull of its link data, and a
wait that poison ends is E_FENCE_POISON. FENCE_RESET and UNBIND without waiters from before this tick set the fence to 0 without poison,
UNBIND unbinds it, with waiters they wait or, with no budget, end E_BUSY, and take effect when the last waiter has gone or their budget
ends. BIND binds an unbound fence at 0 and ends E_PARAM on a bound one. FENCE_FORCE poisons the named fence, with ALL every fence of the
tenant. No other fence changes. (R139, R141, R142, R144, R145, R146, R150, R158, R756, 04_streams_steps_and_fences.md) -/
def Obligations.FenceCommandsComplete : Prop :=
  (∀ (s : State) (d : Nat) (x : Desc),
      Runs s d 0x01 x →
      (s.fence (bits x.e.opA 0 12)).value ≠ fenceMax →
      Leads (.fenceSignal d) s fun t => Ended t d .ok ∧
        t.fence (bits x.e.opA 0 12) = { s.fence (bits x.e.opA 0 12) with value := if (s.fence (bits x.e.opA 0 12)).poison && (s.fence (bits x.e.opA 0 12)).since != some s.now then (s.fence (bits x.e.opA 0 12)).value else max (s.fence (bits x.e.opA 0 12)).value (min fenceMax (if x.e.flag 8 then (s.fence (bits x.e.opA 0 12)).value + x.e.opB else x.e.opB)) } ∧
        ∀ g, g ≠ bits x.e.opA 0 12 → t.fence g = s.fence g) ∧
  (∀ (s : State) (d : Nat) (x : Desc),
      Runs s d 0x01 x →
      (s.fence (bits x.e.opA 0 12)).value = fenceMax →
      Leads (.fenceSignal d) s fun t => Ended t d .param ∧ ∀ g, t.fence g = s.fence g) ∧
  (∀ (s : State) (d : Nat) (x : Desc),
      Runs s d 0x02 x →
      (s.fence (bits x.e.opA 0 12)).poison = false →
      x.e.opB ≤ (s.fence (bits x.e.opA 0 12)).value →
      Leads (.fenceWait d) s fun t => Ended t d .ok ∧ ∀ g, t.fence g = s.fence g) ∧
  (∀ (s : State) (d : Nat) (x : Desc),
      Runs s d 0x02 x →
      (s.fence (bits x.e.opA 0 12)).poison = true →
      Leads (.fenceWait d) s fun t => Ended t d .fencePoison ∧ ∀ g, t.fence g = s.fence g) ∧
  (∀ (s : State) (d : Nat) (x : Desc),
      Runs s d 0x02 x →
      (s.fence (bits x.e.opA 0 12)).poison = false →
      (s.fence (bits x.e.opA 0 12)).value < x.e.opB →
      Leads (.fenceWait d) s fun t => (t.desc d).stage = .wait .fence ∧ (t.desc d).ownWait = true ∧ ∀ g, t.fence g = s.fence g) ∧
  (∀ (s : State) (d : Nat) (x : Desc),
      Waits s d .fence x →
      x.ownWait = false →
      (s.fence x.e.waitId).poison = false →
      waitMet (s.fence x.e.waitId) x.e.waitVal = true →
      (x.e.pulls && (s.queue x.q).isLink) = false →
      Leads (.fenceWaitSatisfied d) s fun t => (t.desc d).stage = .ready ∧ ∀ g, t.fence g = s.fence g) ∧
  (∀ (s : State) (d : Nat) (x : Desc),
      Waits s d .fence x →
      x.ownWait = false →
      (s.fence x.e.waitId).poison = false →
      waitMet (s.fence x.e.waitId) x.e.waitVal = true →
      x.e.pulls = true →
      (s.queue x.q).isLink = true →
      s.sessionRetiring (s.queue x.q).origin (s.queue x.q).tenant = false →
      s.linkReady (s.queue x.q).origin (s.queue x.q).tenant = true →
      (s.link (s.queue x.q).origin).pulls.any (fun r => r.queue == x.q && r.xtag == x.xtag) = false →
      Leads (.fenceWaitSatisfied d) s fun t => (t.desc d).stage = .wait .dataIn ∧ (t.desc d).data = [] ∧ ∀ g, t.fence g = s.fence g) ∧
  (∀ (s : State) (d : Nat) (x : Desc),
      Waits s d .fence x →
      x.ownWait = true →
      (s.fence x.awaits).poison = false →
      x.e.opB ≤ (s.fence x.awaits).value →
      Leads (.fenceWaitSatisfied d) s fun t => Ended t d .ok ∧ ∀ g, t.fence g = s.fence g) ∧
  (∀ (s : State) (d : Nat) (x : Desc),
      Waits s d .fence x →
      (s.fence x.awaits).poison = true →
      Leads (.fenceWaitPoisoned d) s fun t => Ended t d .fencePoison ∧ ∀ g, t.fence g = s.fence g) ∧
  (∀ (s : State) (d : Nat) (x : Desc),
      s.desc? d = some x →
      s.poisonable x = true →
      x.stage ≠ .done →
      Leads (.fenceWaitPoisoned d) s fun t => Ended t d .fencePoison ∧ ∀ g, t.fence g = s.fence g) ∧
  (∀ (s : State) (d : Nat) (x : Desc),
      Runs s d 0x03 x →
      x.e.flag 8 = false →
      x.e.flag 9 = false →
      s.oldWaiters (bits x.e.opA 0 12) = 0 →
      Leads (.fenceReset d) s fun t => Ended t d .ok ∧ t.fence (bits x.e.opA 0 12) = { s.fence (bits x.e.opA 0 12) with value := 0, poison := false, since := none } ∧
        ∀ g, g ≠ bits x.e.opA 0 12 → t.fence g = s.fence g) ∧
  (∀ (s : State) (d : Nat) (x : Desc),
      Runs s d 0x03 x →
      x.e.flag 8 = false →
      x.e.flag 9 = false →
      s.oldWaiters (bits x.e.opA 0 12) ≠ 0 →
      Leads (.fenceReset d) s fun t => (if s.budget x.e = 0 then Ended t d .busy else (t.desc d).stage = .wait .fenceIdle) ∧ ∀ g, t.fence g = s.fence g) ∧
  (∀ (s : State) (d : Nat) (x : Desc),
      Runs s d 0x03 x →
      x.e.flag 9 = true →
      s.oldWaiters (bits x.e.opA 0 12) = 0 →
      Leads (.fenceUnbind d) s fun t => Ended t d .ok ∧ t.fence (bits x.e.opA 0 12) = { s.fence (bits x.e.opA 0 12) with bound := false, tenant := 0, value := 0, poison := false, since := none } ∧
        ∀ g, g ≠ bits x.e.opA 0 12 → t.fence g = s.fence g) ∧
  (∀ (s : State) (d : Nat) (x : Desc),
      Runs s d 0x03 x →
      x.e.flag 9 = true →
      s.oldWaiters (bits x.e.opA 0 12) ≠ 0 →
      Leads (.fenceUnbind d) s fun t => (if s.budget x.e = 0 then Ended t d .busy else (t.desc d).stage = .wait .fenceIdle) ∧ ∀ g, t.fence g = s.fence g) ∧
  (∀ (s : State) (d : Nat) (x : Desc),
      Runs s d 0x03 x →
      x.e.flag 8 = true →
      (s.fence (bits x.e.opA 0 12)).bound = false →
      Leads (.fenceBind d) s fun t => Ended t d .ok ∧ t.fence (bits x.e.opA 0 12) = { bound := true, tenant := x.e.tenant } ∧
        ∀ g, g ≠ bits x.e.opA 0 12 → t.fence g = s.fence g) ∧
  (∀ (s : State) (d : Nat) (x : Desc),
      Runs s d 0x03 x →
      x.e.flag 8 = true →
      (s.fence (bits x.e.opA 0 12)).bound = true →
      Leads (.fenceBind d) s fun t => Ended t d .param ∧ ∀ g, t.fence g = s.fence g) ∧
  (∀ (s : State) (d : Nat) (x : Desc),
      Waits s d .fenceIdle x →
      s.oldWaiters (bits x.e.opA 0 12) = 0 →
      Leads (.fenceResetTakesEffect d) s fun t => Ended t d .ok ∧ (t.fence (bits x.e.opA 0 12)).value = 0 ∧
        (t.fence (bits x.e.opA 0 12)).poison = false ∧ (x.e.flag 9 = true → (t.fence (bits x.e.opA 0 12)).bound = false) ∧
        ∀ g, g ≠ bits x.e.opA 0 12 → t.fence g = s.fence g) ∧
  (∀ (s : State) (d : Nat) (x : Desc),
      Waits s d .fenceIdle x →
      s.waitedOut x (s.budget x.e) = true →
      s.oldWaiters (bits x.e.opA 0 12) ≠ 0 →
      Leads (.fenceResetBudgetExpired d) s fun t => Ended t d .busy ∧ ∀ g, t.fence g = s.fence g) ∧
  (∀ (s : State) (d : Nat) (x : Desc),
      Waits s d .fenceIdle x →
      s.waitedOut x (s.budget x.e) = true →
      s.oldWaiters (bits x.e.opA 0 12) = 0 →
      Leads (.fenceResetBudgetExpired d) s fun t => Ended t d .ok ∧ (t.fence (bits x.e.opA 0 12)).value = 0 ∧
        (t.fence (bits x.e.opA 0 12)).poison = false ∧ ∀ g, g ≠ bits x.e.opA 0 12 → t.fence g = s.fence g) ∧
  (∀ (s : State) (d : Nat) (x : Desc),
      Runs s d 0x04 x →
      x.e.flag 8 = false →
      Leads (.fenceForce d) s fun t => Ended t d .ok ∧ t.fence (bits x.e.opA 0 12) = { s.fence (bits x.e.opA 0 12) with poison := true, since := if (s.fence (bits x.e.opA 0 12)).poison then (s.fence (bits x.e.opA 0 12)).since else some s.now } ∧
        (t.desc d).res.w1 = s.waiters (bits x.e.opA 0 12) ∧ ∀ g, g ≠ bits x.e.opA 0 12 → t.fence g = s.fence g) ∧
  (∀ (s : State) (d : Nat) (x : Desc),
      Runs s d 0x04 x →
      x.e.flag 8 = true →
      Leads (.fenceForce d) s fun t => Ended t d .ok ∧ (t.desc d).res.w0 = (s.fencesOf x.e.tenant).length ∧
        (∀ g ∈ s.fencesOf x.e.tenant, t.fence g = { s.fence g with poison := true, since := if (s.fence g).poison then (s.fence g).since else some s.now }) ∧ ∀ g, g ∉ s.fencesOf x.e.tenant → t.fence g = s.fence g)

/-- STREAM_OPEN with a free stream, quota, references and list space gives the lowest free stream to the tenant; without a free stream it
ends E_CAPACITY. STREAM_CLOSE, with and without FORCE, frees the streams that its acceptance put in CLOSING and that no other command holds
or has yet to close, and counts them; with commands left it ends the watermark waits E_ABORTED, with FORCE every command of the stream, and
waits, until STREAM_FREED frees the stream and ends it. STEP_COMMIT at or below the committed token changes nothing, with every layer there
it commits, behind the satisfied steps accepted before it, otherwise it waits or, without a budget, ends E_STALE. A watermark wait that is
met goes on to its unit or carrel, or commits with the satisfied steps accepted before it; one whose budget ends first is E_STALE.
STREAM_SUSPEND rolls the stream back once no other command holds it, its copies rename the lists and leave it SUSPENDED, a copy that fails
leaves it ACTIVE with lists and references kept; RESUME makes it ACTIVE with the named segments, EXTEND leaves its state. (R117, R118, R131,
R132, R133, R134, R135, R136, R137, R151, R155, 04_streams_steps_and_fences.md) -/
def Obligations.StreamCommandsComplete : Prop :=
  (∀ (s : State) (d : Nat) (x : Desc) (i : Nat),
      Runs s d 0x60 x →
      s.freshStream = some i →
      (s.streamsOf x.e.tenant).length < s.fld F_TN_T_STREAMS_QUOTA x.e.tenant →
      s.refsHeld x.e.tenant (blkHandles x.blk) = true →
      s.grantsFit (Layout.ofBytes (blkSlot x.blk 0)).layers 0 (s.segTokens (blkHandles x.blk) / max 1 (Layout.ofBytes (blkSlot x.blk 0)).tpf + blkGrants x.blk) = true →
      Leads (.streamOpen d) s fun t => Ended t d .ok ∧ (t.desc d).res.w0 = i ∧ (t.stream i).st = .active ∧
        (t.stream i).tenant = x.e.tenant ∧ (t.stream i).cTok = 0 ∧ (t.stream i).segs = blkHandles x.blk ∧ (t.stream i).pfx = s.segTokens (blkHandles x.blk) ∧
        (t.stream i).layers.length = (Layout.ofBytes (blkSlot x.blk 0)).layers ∧ ∀ k, k ≠ i → t.stream k = s.stream k) ∧
  (∀ (s : State) (d : Nat) (x : Desc),
      Runs s d 0x60 x →
      (s.freshStream = none ∨ s.fld F_TN_T_STREAMS_QUOTA x.e.tenant ≤ (s.streamsOf x.e.tenant).length) →
      Leads (.streamOpen d) s fun t => Ended t d .capacity ∧ ∀ k, t.stream k = s.stream k) ∧
  (∀ (s : State) (d : Nat) (x : Desc),
      Runs s d 0x61 x →
      x.e.flag 9 = false →
      (∀ r ∈ x.list, s.refHere r = true ∧ (s.stream (refId r)).st = .closing ∧ (s.stream (refId r)).closer = some x.seq ∧ s.streamDescs (refId r) = [] ∧ (s.stage d (.wait .others)).closeDue (s.stream (refId r)) = false) →
      (x.list.map refId).Nodup →
      Leads (.streamClose d) s fun t => Ended t d .ok ∧ (t.desc d).res.w0 = x.list.length ∧ ∀ r ∈ x.list, t.stream (refId r) = {}) ∧
  (∀ (s : State) (d : Nat) (x : Desc) (r : Nat),
      Runs s d 0x61 x →
      x.e.flag 9 = false →
      x.list = [r] →
      s.refHere r = true →
      (s.stream (refId r)).st = .closing →
      (s.stream (refId r)).closer = some x.seq →
      s.streamDescs (refId r) ≠ [] →
      Leads (.streamClose d) s fun t => (t.desc d).stage = .wait .others ∧ (t.stream (refId r)).st = .closing ∧
        ∀ k ∈ s.wmWaiters (refId r), k ≠ d → (s.desc k).stage = .wait .watermark → Ended t k .aborted) ∧
  (∀ (s : State) (d : Nat) (unf : List Nat) (x : Desc),
      Runs s d 0x61 x →
      x.e.flag 9 = true →
      s.pl.running ≠ some d →
      (∀ r ∈ x.list, s.refHere r = true ∧ (s.stream (refId r)).st = .closing ∧ (s.stream (refId r)).closer = some x.seq ∧ s.streamDescs (refId r) = [] ∧ (s.stage d (.wait .others)).closeDue (s.stream (refId r)) = false) →
      (x.list.map refId).Nodup →
      Leads (.streamCloseForce d unf) s fun t => Ended t d .ok ∧ (t.desc d).res.w0 = x.list.length ∧ ∀ r ∈ x.list, t.stream (refId r) = {}) ∧
  (∀ (s : State) (d : Nat) (unf : List Nat) (x : Desc) (r : Nat),
      Runs s d 0x61 x →
      x.e.flag 9 = true →
      x.list = [r] →
      s.refHere r = true →
      (s.stream (refId r)).st = .closing →
      (s.stream (refId r)).closer = some x.seq →
      s.streamDescs (refId r) ≠ [] →
      Leads (.streamCloseForce d unf) s fun t => (t.desc d).stage = .wait .others ∧ (t.stream (refId r)).st = .closing ∧
        ∀ k ∈ s.streamDescs (refId r), k ≠ d → (s.desc k).stage ≠ .done → Ended t k .aborted) ∧
  (∀ (s : State) (i : Nat),
      (s.stream i).st = .closing →
      s.streamDescs i = [] →
      s.descsWhere (fun x => x.e.opcode == 0x61) = [] →
      Leads (.streamFreed i) s fun t => t.stream i = {} ∧ t.q = s.q) ∧
  (∀ (s : State) (i : Nat) (d : Nat) (x : Desc),
      (s.stream i).st = .closing →
      s.streamDescs i = [] →
      s.descsWhere (fun x => x.e.opcode == 0x61) = [d] →
      Waits s d .others x →
      x.e.opcode = 0x61 →
      (∀ r ∈ x.list, refId r = i) →
      Leads (.streamFreed i) s fun t => t.stream i = {} ∧ Ended t d .ok) ∧
  (∀ (s : State) (d : Nat) (x : Desc) (i : Nat),
      Runs s d 0x25 x →
      x.strm = some i →
      (x.e.through < (s.stream i).cTok ∨ s.wmMet x = true) →
      s.commitsUpTo d = [d] →
      Leads (.stepCommit d) s fun t => Ended t d .ok ∧ t.stream i = (if x.e.through < (s.stream i).cTok then s.stream i else { s.stream i with cTok := x.e.through + 1, cStep := (s.stream i).cStep + 1 }) ∧
        ∀ k, k ≠ i → t.stream k = s.stream k) ∧
  (∀ (s : State) (d : Nat) (x : Desc) (i : Nat),
      Runs s d 0x25 x →
      x.strm = some i →
      (x.e.through < (s.stream i).cTok ∨ s.wmMet x = true) →
      Leads (.stepCommit d) s fun t => x.e.through < (t.stream i).cTok ∧ d ∈ s.commitsUpTo d ∧ (∀ k ∈ s.commitsUpTo d, (s.desc k).stage ≠ .done → Ended t k .ok) ∧
        ∀ k, k ≠ i → t.stream k = s.stream k) ∧
  (∀ (s : State) (d : Nat) (x : Desc) (i : Nat),
      Runs s d 0x25 x →
      x.strm = some i →
      (s.stream i).cTok ≤ x.e.through →
      s.wmMet x = false →
      Leads (.stepCommit d) s fun t => (if s.budget x.e = 0 then Ended t d .stale else (t.desc d).stage = .wait .watermark) ∧ ∀ k, t.stream k = s.stream k) ∧
  (∀ (s : State) (d : Nat) (x : Desc),
      Waits s d .watermark x →
      x.e.opcode ≠ 0x25 →
      s.wmMet x = true →
      Leads (.watermarkReached d) s fun t => t.desc? d = some (x.to s.now (.wait (if x.e.opcode = 0x24 then .unit else .carrel)))) ∧
  (∀ (s : State) (d : Nat) (x : Desc) (i : Nat),
      Waits s d .watermark x →
      x.e.opcode = 0x25 →
      x.strm = some i →
      s.wmMet x = true →
      Leads (.watermarkReached d) s fun t => x.e.through < (t.stream i).cTok ∧ d ∈ s.commitsUpTo d ∧ ∀ k ∈ s.commitsUpTo d, (s.desc k).stage ≠ .done → Ended t k .ok) ∧
  (∀ (s : State) (d : Nat) (x : Desc),
      Waits s d .watermark x →
      s.waitedOut x (s.budget x.e) = true →
      s.wmMet x = false →
      Leads (.watermarkBudgetExpired d) s fun t => Ended t d .stale) ∧
  (∀ (s : State) (d : Nat) (x : Desc),
      Waits s d .watermark x →
      s.waitedOut x (s.budget x.e) = true →
      x.e.opcode ≠ 0x25 →
      s.wmMet x = true →
      Leads (.watermarkBudgetExpired d) s fun t => t.desc? d = some (x.to s.now (.wait (if x.e.opcode = 0x24 then .unit else .carrel)))) ∧
  (∀ (s : State) (d : Nat) (x : Desc) (i : Nat),
      Runs s d 0x62 x →
      x.strm = some i →
      ((s.stream i).st = .active ∨ (s.stream i).st = .suspending) →
      (s.streamDescs i).filter (fun k => k != d) = [] →
      s.wmWaiters i = [] →
      Leads (.streamSuspend d) s fun t => (t.desc d).stage = .wait .copies ∧ (t.stream i).st = .suspending ∧
        (t.stream i).layers = (s.stream i).rollback.layers ∧ (t.stream i).segs = (s.stream i).segs ∧ (t.stream i).cTok = (s.stream i).cTok) ∧
  (∀ (s : State) (d : Nat) (x : Desc) (i : Nat),
      Runs s d 0x62 x →
      x.strm = some i →
      ((s.stream i).st = .active ∨ (s.stream i).st = .suspending) →
      (s.streamDescs i).filter (fun k => k != d) ≠ [] →
      (∀ k ∈ s.wmWaiters i, k ≠ d ∧ (s.desc k).e.opcode ≠ 0x62) →
      Leads (.streamSuspend d) s fun t => (t.desc d).stage = .wait .others ∧ (t.stream i).st = .suspending ∧
        ∀ k ∈ s.wmWaiters i, (s.desc k).stage = .wait .watermark → Ended t k .stale) ∧
  (∀ (s : State) (d : Nat) (n : Nat) (x : Desc) (i : Nat),
      Waits s d .copies x →
      x.e.opcode = 0x62 →
      x.strm = some i →
      (s.stream i).st ≠ .closing →
      s.readWaits x.e.tenant (wholeFolios x.src) = false →
      s.mergeWaits x.e.tenant (wholeFolios x.dst) = false →
      s.outOfTurn x.e.tenant (wholeFolios x.src) (wholeFolios x.dst) = false →
      ((s.turned x (wholeFolios x.src) (wholeFolios x.dst)).copyFolios x.who ((x.src.zip x.smeta).zip (x.dst.zip x.dmeta)).length ((x.src.zip x.smeta).zip (x.dst.zip x.dmeta)) 0).2.2 = .ok →
      Leads (.suspendCopiesDurable d 0 n) s fun t => Ended t d .ok ∧ (t.stream i).st = .suspended ∧ (t.stream i).segs = [] ∧
        (t.stream i).layers = renameLayers x.list (s.stream i).layers ((blkTfns x.blk (blkTotal x.blk)).map (· % 2 ^ 24))) ∧
  (∀ (s : State) (d : Nat) (n : Nat) (x : Desc) (i : Nat),
      Waits s d .copies x →
      x.e.opcode = 0x62 →
      x.strm = some i →
      (s.stream i).st ≠ .closing →
      s.readWaits x.e.tenant (wholeFolios x.src) = false →
      s.mergeWaits x.e.tenant (wholeFolios x.dst) = false →
      s.outOfTurn x.e.tenant (wholeFolios x.src) (wholeFolios x.dst) = false →
      ((s.turned x (wholeFolios x.src) (wholeFolios x.dst)).copyFolios x.who ((x.src.zip x.smeta).zip (x.dst.zip x.dmeta)).length ((x.src.zip x.smeta).zip (x.dst.zip x.dmeta)) 0).2.2 ≠ .ok →
      Leads (.suspendCopiesDurable d 0 n) s fun t => Ended t d ((s.turned x (wholeFolios x.src) (wholeFolios x.dst)).copyFolios x.who ((x.src.zip x.smeta).zip (x.dst.zip x.dmeta)).length ((x.src.zip x.smeta).zip (x.dst.zip x.dmeta)) 0).2.2 ∧
        t.stream i = { s.stream i with st := .active }) ∧
  (∀ (s : State) (d : Nat) (x : Desc) (i : Nat),
      Runs s d 0x63 x →
      x.e.flag 9 = false →
      x.strm = some i →
      ((s.stream i).st = .suspended ∨ (s.stream i).st = .resuming) →
      s.segTokens (blkHandles x.blk) = (s.stream i).pfx →
      (blkHandles x.blk).all (s.segFits (s.stream i).layout) = true →
      s.refsHeld x.e.tenant (blkHandles x.blk) = true →
      s.grantsFit (s.stream i).layers.length (s.stream i).listLen ((s.stream i).pfx / max 1 (s.stream i).layout.tpf + blkGrants x.blk) = true →
      Leads (.streamResume d) s fun t => Ended t d .ok ∧ (t.stream i).st = .active ∧ (t.stream i).segs = blkHandles x.blk ∧
        (t.stream i).cTok = (s.stream i).cTok ∧ (t.stream i).layers.length = (s.stream i).layers.length) ∧
  (∀ (s : State) (d : Nat) (x : Desc) (i : Nat),
      Runs s d 0x63 x →
      x.e.flag 9 = true →
      x.strm = some i →
      ((s.stream i).st = .active ∨ (s.stream i).st = .suspending ∨ (s.stream i).st = .closing) →
      s.grantsFit (s.stream i).layers.length (s.stream i).listLen (blkGrants x.blk) = true →
      Leads (.streamResumeExtend d) s fun t => Ended t d .ok ∧ (t.stream i).st = (s.stream i).st ∧ (t.stream i).segs = (s.stream i).segs ∧
        (t.stream i).layers.length = (s.stream i).layers.length ∧ (t.stream i).cTok = (s.stream i).cTok)

/-- With the catalog clocked: a lookup over a host buffer on a device outside a constellation ends OK with one 16-byte record for each hash,
MISS exactly for hashes without an entry when no STOP_AT_MISS is set; one over folios that reads well comes to its end, or waits for its
destination, and then ends; a hash of 0 ends it E_PARAM. A publish marks and records its folios; its insert here of folios not all freed
ends OK, OK with EXISTS or E_CAPACITY as the index answers, and at another member waits for the answer. A release lowers the tenant's
references by what it still holds; a withdrawal here removes the entry and at another member waits for the answer; a stale handle ends
either E_PARAM. A hint is recorded, one above the HOLD quota ends E_CAPACITY, and one without an entry here changes nothing. A forward that
is not answered ends: a withdrawal ends OK, a one-hash lookup reads UNREACHABLE, an INSERT stays marked as ended. (R165, R167, R168, R175,
R179, R184, R185, R186, R187, R189, R426, 05_prefix_catalog.md) -/
def Obligations.CatalogCommandsComplete : Prop :=
  (∀ (s : State) (d : Nat) (b : List Byte) (l : Nat) (x : Desc),
      Runs s d 0x30 x →
      x.e.flag 8 = true →
      s.noHost x.q = false →
      (s.queue x.q).isLink = false →
      s.hostFault = none →
      s.domGated 55 = false →
      s.domFailed 55 = false →
      s.cn.st = .standalone →
      s.ct.fwd.any (fun f => f.d == some d) = false →
      (∀ i, i < x.e.len → leAt b (16 * i) 16 ≠ 0) →
      Leads (.catalogLookup d b l) s fun t => Ended t d .ok ∧
        (∃ c ∈ t.sentTo (s.queue x.q).fn x.e.opB, c.length = 16 * x.e.len ∧
        ∀ i, i < x.e.len → x.e.flag 10 = false → (leAt c (16 * i) 1 = 1 ↔ s.findEntry (leAt b (16 * i) 16) (s.scopeOf x.e.tenant) = none))) ∧
  (∀ (s : State) (d : Nat) (b : List Byte) (l : Nat) (x : Desc),
      Runs s d 0x30 x →
      x.e.flag 8 = false →
      s.readWaits x.e.tenant (pieces x.src x.e.opA (16 * x.e.len)) = false →
      s.domGated 55 = false →
      s.domFailed 55 = false →
      s.cn.st = .standalone →
      s.ct.fwd.any (fun f => f.d == some d) = false →
      (s.readAccess x.src (some x.smeta) x.e.opA (16 * x.e.len) {} x.who).2.status = .ok →
      Leads (.catalogLookup d b l) s fun t => (t.desc d).stage = .done ∨ ((t.desc d).stage = .exec ∧ t.outWaits (t.desc d) x.e.opB (16 * (t.desc d).list.length) = true)) ∧
  (∀ (s : State) (d : Nat) (b : List Byte) (l : Nat) (x : Desc),
      s.desc? d = some x →
      x.e.opcode = 0x30 →
      x.stage = .exec →
      x.e.flag 8 = false →
      x.list.length ≤ ((s.records d).filterMap id).length →
      s.outWaits x x.e.opB (16 * x.list.length) = false →
      Leads (.catalogLookup d b l) s fun t => (t.desc d).stage = .done) ∧
  (∀ (s : State) (d : Nat) (b : List Byte) (l : Nat) (x : Desc),
      Runs s d 0x30 x →
      x.e.flag 8 = true →
      s.noHost x.q = false →
      s.domGated 55 = false →
      s.domFailed 55 = false →
      (hashesOf b x.e.len).any (· == 0) = true →
      Leads (.catalogLookup d b l) s fun t => Ended t d .param) ∧
  (∀ (s : State) (d : Nat) (x : Desc) (i : Nat),
      Runs s d 0x31 x →
      s.domGated 55 = false →
      s.domFailed 55 = false →
      s.freshSeg = some i →
      Leads (.catalogPublish d) s fun t => (t.desc d).stage = .wait .publish ∧ (t.seg i).live = true ∧ (t.seg i).dfns = x.src ∧
        (t.seg i).publisher = x.e.tenant ∧ (t.seg i).refs = 0 ∧ (t.seg i).inIndex = false ∧ (t.seg i).hash = x.e.hash ∧
        (t.seg i).scope = s.scopeOf x.e.tenant ∧ ∀ f ∈ x.src, (t.owner f).pub ≠ 0) ∧
  (∀ (s : State) (d : Nat) (x : Desc) (i : Nat) (n : Nat),
      Waits s d .publish x →
      x.list = [i, n] →
      s.q.descs.any (fun p => decide (p.2.seq < n) && p.2.dst.any (inSet (s.seg i).dfns)) = false →
      s.shardOwner (shardOf (s.seg i).hash) = s.me →
      (s.indexInsert (s.publishEntry x i)).2 = .done →
      (s.seg i).dfns.any (fun f => !decide ((s.owner f).st = .releasing)) = true →
      Leads (.publishInsert d) s fun t => Ended t d .ok ∧ (t.seg i).inIndex = true ∧ (t.desc d).res.w2 = 0) ∧
  (∀ (s : State) (d : Nat) (x : Desc) (i : Nat) (n : Nat) (h : Nat),
      Waits s d .publish x →
      x.list = [i, n] →
      s.q.descs.any (fun p => decide (p.2.seq < n) && p.2.dst.any (inSet (s.seg i).dfns)) = false →
      s.shardOwner (shardOf (s.seg i).hash) = s.me →
      (s.indexInsert (s.publishEntry x i)).2 = .exists_ h →
      Leads (.publishInsert d) s fun t => Ended t d .ok ∧ (t.desc d).res.w2 = 1 ∧ (t.desc d).res.w0 = h % 2 ^ 32) ∧
  (∀ (s : State) (d : Nat) (x : Desc) (i : Nat) (n : Nat),
      Waits s d .publish x →
      x.list = [i, n] →
      s.q.descs.any (fun p => decide (p.2.seq < n) && p.2.dst.any (inSet (s.seg i).dfns)) = false →
      s.shardOwner (shardOf (s.seg i).hash) = s.me →
      (s.indexInsert (s.publishEntry x i)).2 = .capacity →
      Leads (.publishInsert d) s fun t => Ended t d .capacity) ∧
  (∀ (s : State) (d : Nat) (x : Desc) (i : Nat) (n : Nat),
      Waits s d .publish x →
      x.list = [i, n] →
      s.q.descs.any (fun p => decide (p.2.seq < n) && p.2.dst.any (inSet (s.seg i).dfns)) = false →
      s.shardOwner (shardOf (s.seg i).hash) ≠ s.me →
      Leads (.publishInsert d) s fun t => (t.desc d).stage = .wait .answers ∧ (t.seg i).inserter = s.shardOwner (shardOf (s.seg i).hash)) ∧
  (∀ (s : State) (d : Nat) (x : Desc) (i : Nat),
      Runs s d 0x32 x →
      x.e.flag 8 = false →
      s.domGated 55 = false →
      s.domFailed 55 = false →
      s.handleIdx x.e.opA = some i →
      Leads (.catalogRelease d) s fun t => Ended t d .ok ∧ t.ledger x.e.tenant i = s.ledger x.e.tenant i - s.releaseCount x.e i ∧
        (t.desc d).res.w0 = s.releaseCount x.e i) ∧
  (∀ (s : State) (d : Nat) (x : Desc),
      Runs s d 0x32 x →
      x.e.flag 8 = false →
      s.domGated 55 = false →
      s.domFailed 55 = false →
      s.handleIdx x.e.opA = none →
      Leads (.catalogRelease d) s fun t => Ended t d .param ∧ t.ct.ledger = s.ct.ledger) ∧
  (∀ (s : State) (d : Nat) (x : Desc) (i : Nat),
      Runs s d 0x32 x →
      x.e.flag 8 = true →
      s.domGated 55 = false →
      s.domFailed 55 = false →
      s.handleIdx x.e.opA = some i →
      ((s.seg i).inIndex && (s.seg i).inserter != s.me) = false →
      Leads (.catalogWithdraw d) s fun t => Ended t d .ok ∧ (t.desc d).res.w3 = 1 ∧
        t.entries.all (fun e => !(e.keyed (s.seg i).hash (s.seg i).scope && e.handle == x.e.opA)) = true ∧
        t.ledger x.e.tenant i = s.ledger x.e.tenant i - s.releaseCount x.e i) ∧
  (∀ (s : State) (d : Nat) (x : Desc) (i : Nat),
      Runs s d 0x32 x →
      x.e.flag 8 = true →
      s.domGated 55 = false →
      s.domFailed 55 = false →
      s.handleIdx x.e.opA = some i →
      (s.seg i).inIndex = true →
      (s.seg i).inserter ≠ s.me →
      Leads (.catalogWithdraw d) s fun t => (t.desc d).stage = .wait .answers ∧ t.ledger x.e.tenant i = s.ledger x.e.tenant i - s.releaseCount x.e i) ∧
  (∀ (s : State) (d : Nat) (x : Desc),
      Runs s d 0x32 x →
      x.e.flag 8 = true →
      s.domGated 55 = false →
      s.domFailed 55 = false →
      s.handleIdx x.e.opA = none →
      Leads (.catalogWithdraw d) s fun t => Ended t d .param ∧ t.ct.ledger = s.ct.ledger) ∧
  (∀ (s : State) (d : Nat) (x : Desc) (y : IndexEntry),
      Runs s d 0x33 x →
      s.domGated 55 = false →
      s.domFailed 55 = false →
      s.entryOf x.e.opA = some y →
      (bits x.e.spec 0 2 ≠ 3 ∨ y.hint = 3 ∨ s.holdCount y.scope.groupNo < s.fld F_CT_G_HOLD_HOLD y.scope.groupNo) →
      Leads (.catalogHint d) s fun t => Ended t d .ok ∧ (t.desc d).res.w0 = y.hint ∧ (t.desc d).res.w1 = bits x.e.spec 0 2 ∧
        t.entries.all (fun e => !e.keyed y.hash y.scope || e.hint == bits x.e.spec 0 2) = true) ∧
  (∀ (s : State) (d : Nat) (x : Desc) (y : IndexEntry),
      Runs s d 0x33 x →
      s.domGated 55 = false →
      s.domFailed 55 = false →
      s.entryOf x.e.opA = some y →
      bits x.e.spec 0 2 = 3 →
      y.hint ≠ 3 →
      s.fld F_CT_G_HOLD_HOLD y.scope.groupNo ≤ s.holdCount y.scope.groupNo →
      Leads (.catalogHint d) s fun t => Ended t d .capacity ∧ t.ct = s.ct) ∧
  (∀ (s : State) (d : Nat) (x : Desc),
      Runs s d 0x33 x →
      s.domGated 55 = false →
      s.domFailed 55 = false →
      s.entryOf x.e.opA = none →
      Leads (.catalogHint d) s fun t => Ended t d .ok ∧ t.ct = s.ct) ∧
  (∀ (s : State) (n : Nat) (d : Nat) (x : Desc) (y : Forward),
      s.ct.fwd.find? (fun g => g.req == n && g.sent && !g.ended) = some y →
      y.d = some d →
      leAt y.msg 0 1 % 16 = 3 →
      Waits s d .answers x →
      Leads (.forwardTimeout n) s fun t => Ended t d .ok ∧ t.ct.fwd.any (fun g => g.req == n) = false) ∧
  (∀ (s : State) (n : Nat) (d : Nat) (x : Desc) (y : Forward),
      s.ct.fwd.find? (fun g => g.req == n && g.sent && !g.ended) = some y →
      y.d = some d →
      leAt y.msg 0 1 % 16 = 2 →
      Waits s d .answers x →
      Leads (.forwardTimeout n) s fun t => t.desc? d = some x ∧ t.ct.fwd.any (fun g => g.req == n && g.ended) = true) ∧
  (∀ (s : State) (n : Nat) (d : Nat) (x : Desc) (y : Forward) (h : Nat),
      s.ct.fwd.find? (fun g => g.req == n && g.sent && !g.ended) = some y →
      y.d = some d →
      leAt y.msg 0 1 % 16 = 1 →
      y.idx = 0 →
      s.desc? d = some x →
      x.e.opcode = 0x30 →
      x.stage = .exec →
      x.list = [h] →
      s.records d = [none] →
      x.e.flag 8 = true →
      (s.queue x.q).isLink = false →
      s.noHost x.q = false →
      s.hostFault = none →
      Leads (.forwardTimeout n) s fun t => Ended t d .ok ∧ ({ status := 5, fwded := true } : LookupRec).bytes ∈ t.sentTo (s.queue x.q).fn x.e.opB) ∧
  (∀ (s : State) (n : Nat) (y : Forward),
      s.ct.fwd.find? (fun g => g.req == n && g.sent && !g.ended) = some y →
      y.d = none →
      leAt y.msg 0 1 % 16 ≠ 2 →
      Leads (.forwardTimeout n) s fun t => t.ct.fwd.any (fun g => g.req == n) = false ∧ t.q = s.q)

/-- While the QE window answers, from a port that may send it: ENABLE of a DISABLED queue makes it ACTIVE with its pointers at 0, or leaves
it DISABLED with the code of the first failing ring check in LAST_CTL; PAUSE of an ACTIVE queue, RESUME of a PAUSED one and RESET of one
that is ACTIVE, PAUSED or FROZEN change its state, and a RESET leaves no fetched entry, no kept completion and no command of the queue
running; in any other state each only sets LAST_CTL to REFUSED_STATE, and from a port that may not send it each is counted and changes no
queue. The end of a RESET makes the queue DISABLED, clears WINCNT and, for a QUEUE_UNBIND, unbinds it and completes the command. A doorbell
from the bound function moves its pointer in ACTIVE and PAUSED when it is in range, is a counted refusal when it is not, is counted in
FROZEN, and changes nothing in DISABLED and RESETTING; one from another function is counted as a bad doorbell and one outside IDE where IDE
is required as an IDE failure. The end of a freeze window clears WINCNT. (R76, R77, R78, R80, R85, R88, R89, R90, R114, R466, R495,
03_queues_and_command_packets.md) -/
def Obligations.QueueControlTakesEffect : Prop :=
  (∀ (s : State) (p : Port) (q : Nat),
      s.answers p qctlOff = true →
      s.mayControl p q false = true →
      (s.queue q).st = .disabled →
      s.ringCheck q = 0 →
      Leads (.queueEnable p q) s fun t => (t.queue q).st = .active ∧ (t.queue q).sqHead = 0 ∧ (t.queue q).sqTail = 0 ∧
        (t.queue q).cqTail = 0 ∧ (t.queue q).cqHead = 0 ∧ (t.queue q).phase = true ∧ (t.queue q).lastCtl = 0 ∧ (t.queue q).cause = 0) ∧
  (∀ (s : State) (p : Port) (q : Nat),
      s.answers p qctlOff = true →
      s.mayControl p q false = true →
      (s.queue q).st = .disabled →
      s.ringCheck q ≠ 0 →
      Leads (.queueEnable p q) s fun t => (t.queue q).st = .disabled ∧ (t.queue q).lastCtl = s.ringCheck q) ∧
  (∀ (s : State) (p : Port) (q : Nat),
      s.answers p qctlOff = true →
      s.mayControl p q false = true →
      (s.queue q).st ≠ .disabled →
      Leads (.queueEnable p q) s fun t => t.queue q = { s.queue q with lastCtl := 1 }) ∧
  (∀ (s : State) (p : Port) (q : Nat),
      s.answers p qctlOff = true →
      s.mayControl p q false = false →
      Leads (.queueEnable p q) s fun t => t.q = s.q ∧ t.fld F_TOP_BAD_ACCESS_ADDR_OFFSET = qctlOff) ∧
  (∀ (s : State) (p : Port) (q : Nat),
      s.answers p qctlOff = true →
      s.mayControl p q false = true →
      (s.queue q).st = .active →
      Leads (.queuePause p q) s fun t => t.queue q = { s.queue q with st := .paused, lastCtl := 0 }) ∧
  (∀ (s : State) (p : Port) (q : Nat),
      s.answers p qctlOff = true →
      s.mayControl p q false = true →
      (s.queue q).st ≠ .active →
      Leads (.queuePause p q) s fun t => t.queue q = { s.queue q with lastCtl := 1 }) ∧
  (∀ (s : State) (p : Port) (q : Nat),
      s.answers p qctlOff = true →
      s.mayControl p q false = false →
      Leads (.queuePause p q) s fun t => t.q = s.q ∧ t.fld F_TOP_BAD_ACCESS_ADDR_OFFSET = qctlOff) ∧
  (∀ (s : State) (p : Port) (q : Nat),
      s.answers p qctlOff = true →
      s.mayControl p q false = true →
      (s.queue q).st = .paused →
      Leads (.queueResume p q) s fun t => t.queue q = { s.queue q with st := .active, lastCtl := 0 }) ∧
  (∀ (s : State) (p : Port) (q : Nat),
      s.answers p qctlOff = true →
      s.mayControl p q false = true →
      (s.queue q).st ≠ .paused →
      Leads (.queueResume p q) s fun t => t.queue q = { s.queue q with lastCtl := 1 }) ∧
  (∀ (s : State) (p : Port) (q : Nat),
      s.answers p qctlOff = true →
      s.mayControl p q false = false →
      Leads (.queueResume p q) s fun t => t.q = s.q ∧ t.fld F_TOP_BAD_ACCESS_ADDR_OFFSET = qctlOff) ∧
  (∀ (s : State) (p : Port) (q : Nat) (l : List Nat),
      s.answers p qctlOff = true →
      s.mayControl p q true = true →
      ((s.queue q).st = .active ∨ (s.queue q).st = .paused ∨ (s.queue q).st = .frozen) →
      Leads (.queueReset p q l) s fun t => (t.queue q).st = .resetting ∧ (t.queue q).fetched = [] ∧ (t.queue q).keptCq = [] ∧
        (t.queue q).lastCtl = 0 ∧ ∀ d ∈ s.descsOf q, (t.desc d).stage = .done) ∧
  (∀ (s : State) (p : Port) (q : Nat) (l : List Nat),
      s.answers p qctlOff = true →
      s.mayControl p q true = true →
      ((s.queue q).st = .disabled ∨ (s.queue q).st = .resetting) →
      Leads (.queueReset p q l) s fun t => t.queue q = { s.queue q with lastCtl := 1 } ∧ t.q.descs = s.q.descs) ∧
  (∀ (s : State) (p : Port) (q : Nat) (l : List Nat),
      s.answers p qctlOff = true →
      s.mayControl p q true = false →
      Leads (.queueReset p q l) s fun t => t.q = s.q ∧ t.fld F_TOP_BAD_ACCESS_ADDR_OFFSET = qctlOff) ∧
  (∀ (s : State) (q : Nat),
      (s.queue q).st = .resetting →
      (s.queue q).fetched = [] →
      s.inflight q = 0 →
      (s.queue q).unbindBy = none →
      Leads (.queueResetComplete q) s fun t => (t.queue q).st = .disabled ∧ (t.queue q).winCnt = 0 ∧ (t.queue q).sqRing = [] ∧
        (t.queue q).cqRing = []) ∧
  (∀ (s : State) (q : Nat) (d : Nat) (x : Desc),
      (s.queue q).st = .resetting →
      (s.queue q).fetched = [] →
      s.inflight q = 0 →
      (s.queue q).unbindBy = some d →
      s.desc? d = some x →
      x.stage ≠ .done →
      Leads (.queueResetComplete q) s fun t => t.queue q = {} ∧ Ended t d .ok) ∧
  (∀ (s : State) (n : Nat) (q : Nat) (v : Nat) (sec : Bool),
      s.answers (fnPort n) qctlOff = true →
      (s.fld F_HP_CFG_IDE_REQUIRED == 1 && !sec) = false →
      (s.queue q).origin = 0x80 + n →
      ((s.queue q).st = .active ∨ (s.queue q).st = .paused) →
      v % 65536 < s.ringSize q →
      Leads (.dbSqTail n q v sec) s fun t => t.queue q = { s.queue q with sqTail := v % 65536 }) ∧
  (∀ (s : State) (n : Nat) (q : Nat) (v : Nat) (sec : Bool),
      s.answers (fnPort n) qctlOff = true →
      (s.fld F_HP_CFG_IDE_REQUIRED == 1 && !sec) = false →
      (s.queue q).origin = 0x80 + n →
      ((s.queue q).st = .active ∨ (s.queue q).st = .paused) →
      s.ringSize q ≤ v % 65536 →
      Leads (.dbSqTail n q v sec) s fun t => (t.queue q).sqTail = (s.queue q).sqTail ∧ (t.queue q).winCnt = min 65535 ((s.queue q).winCnt + 1)) ∧
  (∀ (s : State) (n : Nat) (q : Nat) (v : Nat) (sec : Bool),
      s.answers (fnPort n) qctlOff = true →
      (s.fld F_HP_CFG_IDE_REQUIRED == 1 && !sec) = false →
      (s.queue q).origin = 0x80 + n →
      (s.queue q).st = .frozen →
      Leads (.dbSqTail n q v sec) s fun t => t.q = s.q ∧
        t.fld F_QE_Q_REFUSED_REFUSED q = min (s.fld F_QE_Q_REFUSED_REFUSED q + 1) (2 ^ F_QE_Q_REFUSED_REFUSED.wid - 1)) ∧
  (∀ (s : State) (n : Nat) (q : Nat) (v : Nat) (sec : Bool),
      s.answers (fnPort n) qctlOff = true →
      (s.fld F_HP_CFG_IDE_REQUIRED == 1 && !sec) = false →
      (s.queue q).origin = 0x80 + n →
      ((s.queue q).st = .disabled ∨ (s.queue q).st = .resetting) →
      Leads (.dbSqTail n q v sec) s fun t => t.q = s.q ∧ t.regs = s.regs) ∧
  (∀ (s : State) (n : Nat) (q : Nat) (v : Nat) (sec : Bool),
      s.answers (fnPort n) qctlOff = true →
      (s.fld F_HP_CFG_IDE_REQUIRED == 1 && !sec) = false →
      (s.queue q).origin ≠ 0x80 + n →
      Leads (.dbSqTail n q v sec) s fun t => t.q = s.q ∧
        t.fld F_QE_BAD_DOORBELL_CNT_BADDB = min (s.fld F_QE_BAD_DOORBELL_CNT_BADDB + 1) (2 ^ F_QE_BAD_DOORBELL_CNT_BADDB.wid - 1)) ∧
  (∀ (s : State) (n : Nat) (q : Nat) (v : Nat) (sec : Bool),
      s.answers (fnPort n) qctlOff = true →
      (s.fld F_HP_CFG_IDE_REQUIRED == 1 && !sec) = true →
      Leads (.dbSqTail n q v sec) s fun t => t.q = s.q ∧
        t.fld F_HP_IDE_FAIL_IDE = min (s.fld F_HP_IDE_FAIL_IDE + 1) (2 ^ F_HP_IDE_FAIL_IDE.wid - 1)) ∧
  (∀ (s : State) (n : Nat) (q : Nat) (v : Nat) (sec : Bool),
      s.answers (fnPort n) qctlOff = true →
      (s.fld F_HP_CFG_IDE_REQUIRED == 1 && !sec) = false →
      (s.queue q).origin = 0x80 + n →
      ((s.queue q).st = .active ∨ (s.queue q).st = .paused) →
      v % 65536 < s.ringSize q →
      (v % 65536 + s.ringSize q - (s.queue q).cqHead % s.ringSize q) % s.ringSize q ≤ ((s.queue q).cqTail + s.ringSize q - (s.queue q).cqHead % s.ringSize q) % s.ringSize q →
      Leads (.dbCqHead n q v sec) s fun t => t.queue q = { s.queue q with cqHead := v % 65536 }) ∧
  (∀ (s : State) (n : Nat) (q : Nat) (v : Nat) (sec : Bool),
      s.answers (fnPort n) qctlOff = true →
      (s.fld F_HP_CFG_IDE_REQUIRED == 1 && !sec) = false →
      (s.queue q).origin = 0x80 + n →
      ((s.queue q).st = .active ∨ (s.queue q).st = .paused) →
      (s.ringSize q ≤ v % 65536 ∨ ((s.queue q).cqTail + s.ringSize q - (s.queue q).cqHead % s.ringSize q) % s.ringSize q < (v % 65536 + s.ringSize q - (s.queue q).cqHead % s.ringSize q) % s.ringSize q) →
      Leads (.dbCqHead n q v sec) s fun t => (t.queue q).cqHead = (s.queue q).cqHead ∧ (t.queue q).winCnt = min 65535 ((s.queue q).winCnt + 1)) ∧
  (∀ (s : State) (n : Nat) (q : Nat) (v : Nat) (sec : Bool),
      s.answers (fnPort n) qctlOff = true →
      (s.fld F_HP_CFG_IDE_REQUIRED == 1 && !sec) = false →
      (s.queue q).origin = 0x80 + n →
      (s.queue q).st = .frozen →
      Leads (.dbCqHead n q v sec) s fun t => t.q = s.q ∧
        t.fld F_QE_Q_REFUSED_REFUSED q = min (s.fld F_QE_Q_REFUSED_REFUSED q + 1) (2 ^ F_QE_Q_REFUSED_REFUSED.wid - 1)) ∧
  (∀ (s : State) (n : Nat) (q : Nat) (v : Nat) (sec : Bool),
      s.answers (fnPort n) qctlOff = true →
      (s.fld F_HP_CFG_IDE_REQUIRED == 1 && !sec) = false →
      (s.queue q).origin = 0x80 + n →
      ((s.queue q).st = .disabled ∨ (s.queue q).st = .resetting) →
      Leads (.dbCqHead n q v sec) s fun t => t.q = s.q ∧ t.regs = s.regs) ∧
  (∀ (s : State) (n : Nat) (q : Nat) (v : Nat) (sec : Bool),
      s.answers (fnPort n) qctlOff = true →
      (s.fld F_HP_CFG_IDE_REQUIRED == 1 && !sec) = false →
      (s.queue q).origin ≠ 0x80 + n →
      Leads (.dbCqHead n q v sec) s fun t => t.q = s.q ∧
        t.fld F_QE_BAD_DOORBELL_CNT_BADDB = min (s.fld F_QE_BAD_DOORBELL_CNT_BADDB + 1) (2 ^ F_QE_BAD_DOORBELL_CNT_BADDB.wid - 1)) ∧
  (∀ (s : State) (n : Nat) (q : Nat) (v : Nat) (sec : Bool),
      s.answers (fnPort n) qctlOff = true →
      (s.fld F_HP_CFG_IDE_REQUIRED == 1 && !sec) = true →
      Leads (.dbCqHead n q v sec) s fun t => t.q = s.q ∧
        t.fld F_HP_IDE_FAIL_IDE = min (s.fld F_HP_IDE_FAIL_IDE + 1) (2 ^ F_HP_IDE_FAIL_IDE.wid - 1)) ∧
  (∀ (s : State) (q : Nat),
      Leads (.freezeWindowClose q) s fun t => t.queue q = { s.queue q with winCnt := 0 })

/-- A fetch that reads its entry takes it from the SQ head; on a link in QUARANTINE the entry is completed at once and no descriptor
changes; one that cannot read it freezes the queue with cause 3. At a grant, at the end of a wait for a descriptor and at the end of an
ORDERED wait the entry at the head is judged by Table 2.4: judged good it leaves the queue for a new descriptor, stopped it leaves the queue
and no descriptor is made, and held it stays with the reason it waits for. A NOP is judged good into the lowest free descriptor, ready to
run. With QE_STARVE_LIMIT 0 the granted queue is a ready one of the lowest class that has any. A wait for a descriptor that times out
completes E_BUSY at step 9 and is counted. (R52, R56, R91, R92, R94, R97, R106, R107, R108, R116, R417) -/
def Obligations.EntriesAreAccepted : Prop :=
  (∀ (s : State) (q : Nat) (b : List Byte),
      s.mayFetch q = true →
      s.quarantined q = false →
      s.qInFolios q = false →
      Leads (.entryFetch q b .ok) s fun t => (t.queue q).sqHead = ((s.queue q).sqHead + 1) % s.ringSize q ∧
        (t.queue q).fetched = (s.queue q).fetched ++ [{ e := Entry.ofBytes (fit 64 b), t := s.now }]) ∧
  (∀ (s u : State) (q : Nat) (b c : List Byte) (f : HostRead),
      s.mayFetch q = true →
      s.fetchWaits q = false →
      s.quarantined q = false →
      s.readEntry q b f = (u, some c) →
      u.quarantined q = false →
      Leads (.entryFetch q b f) s fun t => (t.queue q).sqHead = ((u.queue q).sqHead + 1) % u.ringSize q ∧
        (t.queue q).fetched = (u.queue q).fetched ++ [{ e := Entry.ofBytes c, t := u.now }]) ∧
  (∀ (s u : State) (q : Nat) (b c : List Byte) (f : HostRead),
      s.mayFetch q = true →
      s.fetchWaits q = false →
      s.quarantined q = true →
      s.inflight q + (s.queue q).fetched.length < s.cqRoom q →
      s.readEntry q b f = (u, some c) →
      u.quarantined q = true →
      Leads (.entryFetch q b f) s fun t => (t.queue q).sqHead = ((u.queue q).sqHead + 1) % u.ringSize q ∧
        (t.queue q).fetched = (u.queue q).fetched ∧ t.q.descs = u.q.descs) ∧
  (∀ (s u : State) (q : Nat) (b : List Byte) (f : HostRead),
      s.mayFetch q = true →
      s.fetchWaits q = false →
      s.quarantined q = false →
      s.readEntry q b f = (u, none) →
      (u.queue q).st ≠ .resetting →
      Leads (.entryFetch q b f) s fun t => (t.queue q).st = .frozen ∧ (t.queue q).cause = 3) ∧
  (∀ (s v : State) (b : List Byte) (q : Nat) (f : Fetched) (l : List Fetched) (n : Nat) (g : Nat) (d : Nat),
      s.ck.power = 0 →
      s.granted = (v, some q) →
      (v.queue q).fetched = f :: l →
      f.e = { opcode := 0, tenant := n, tag := g } →
      ((v.queue q).tenant = n ∨ isMgmt q = true) →
      v.tenantState n = 1 →
      v.inWindow n = false →
      v.freshDesc = some d →
      v.hostBlocked q = false →
      v.inflight q < v.cqRoom q →
      Leads (.arbitrationGrant b) s fun t => (t.queue q).fetched = l ∧ (t.desc d).e = f.e ∧ (t.desc d).q = q ∧ (t.desc d).stage = .ready ∧
        (t.desc d).tFetch = f.t) ∧
  (∀ (s v w : State) (b : List Byte) (q : Nat) (f : Fetched) (l : List Fetched) (d : Nat) (x : Desc),
      s.ck.power = 0 →
      s.granted = (v, some q) →
      (v.queue q).fetched = f :: l →
      v.hostBlocked q = false →
      v.blockBlocked q f.e = false →
      v.blockWaits q f.e = false →
      v.inflight q < v.cqRoom q →
      v.judge q f b = (w, .take d x) →
      Leads (.arbitrationGrant b) s fun t => (t.queue q).fetched = (w.queue q).fetched.tail ∧ (t.desc? d).isSome = true ∧ (t.desc d).e = x.e ∧
        (t.desc d).q = x.q ∧ (t.desc d).seq = x.seq) ∧
  (∀ (s v w : State) (b : List Byte) (q : Nat) (f : Fetched) (l : List Fetched) (x : Stop),
      s.ck.power = 0 →
      s.granted = (v, some q) →
      (v.queue q).fetched = f :: l →
      v.hostBlocked q = false →
      v.blockBlocked q f.e = false →
      v.blockWaits q f.e = false →
      v.inflight q < v.cqRoom q →
      v.judge q f b = (w, .stop x) →
      Leads (.arbitrationGrant b) s fun t => (t.queue q).fetched = (w.queue q).fetched.tail ∧ t.q.descs = w.q.descs) ∧
  (∀ (s v w : State) (b : List Byte) (q : Nat) (f : Fetched) (l : List Fetched) (h : Hold),
      s.ck.power = 0 →
      s.granted = (v, some q) →
      (v.queue q).fetched = f :: l →
      v.hostBlocked q = false →
      v.blockBlocked q f.e = false →
      v.blockWaits q f.e = false →
      v.inflight q < v.cqRoom q →
      v.judge q f b = (w, .hold h) →
      Leads (.arbitrationGrant b) s fun t => ((t.queue q).fetched.head?.map (·.hold) = (w.queue q).fetched.head?.map (fun _ => h)) ∧ t.q.descs = w.q.descs) ∧
  (∀ (s : State) (b : List Byte) (q : Nat) (f : Fetched) (l : List Fetched) (n : Nat) (g : Nat) (d : Nat),
      f.hold = .resources →
      (s.queue q).fetched = f :: l →
      f.e = { opcode := 0, tenant := n, tag := g } →
      ((s.queue q).tenant = n ∨ isMgmt q = true) →
      s.tenantState n = 1 →
      s.inWindow n = false →
      s.freshDesc = some d →
      s.hostBlocked q = false →
      s.inflight q < s.cqRoom q →
      Leads (.translationWaitEnd q b) s fun t => (t.queue q).fetched = l ∧ (t.desc d).e = f.e ∧ (t.desc d).q = q ∧ (t.desc d).stage = .ready ∧
        (t.desc d).tFetch = f.t) ∧
  (∀ (s w : State) (b : List Byte) (q : Nat) (f : Fetched) (l : List Fetched) (d : Nat) (x : Desc),
      f.hold = .resources →
      (s.queue q).fetched = f :: l →
      s.hostBlocked q = false →
      s.blockBlocked q f.e = false →
      s.blockWaits q f.e = false →
      s.inflight q < s.cqRoom q →
      s.judge q f b = (w, .take d x) →
      Leads (.translationWaitEnd q b) s fun t => (t.queue q).fetched = (w.queue q).fetched.tail ∧ (t.desc? d).isSome = true ∧ (t.desc d).e = x.e ∧
        (t.desc d).q = x.q ∧ (t.desc d).seq = x.seq) ∧
  (∀ (s w : State) (b : List Byte) (q : Nat) (f : Fetched) (l : List Fetched) (x : Stop),
      f.hold = .resources →
      (s.queue q).fetched = f :: l →
      s.hostBlocked q = false →
      s.blockBlocked q f.e = false →
      s.blockWaits q f.e = false →
      s.inflight q < s.cqRoom q →
      s.judge q f b = (w, .stop x) →
      Leads (.translationWaitEnd q b) s fun t => (t.queue q).fetched = (w.queue q).fetched.tail ∧ t.q.descs = w.q.descs) ∧
  (∀ (s w : State) (b : List Byte) (q : Nat) (f : Fetched) (l : List Fetched) (h : Hold),
      f.hold = .resources →
      (s.queue q).fetched = f :: l →
      s.hostBlocked q = false →
      s.blockBlocked q f.e = false →
      s.blockWaits q f.e = false →
      s.inflight q < s.cqRoom q →
      s.judge q f b = (w, .hold h) →
      Leads (.translationWaitEnd q b) s fun t => ((t.queue q).fetched.head?.map (·.hold) = (w.queue q).fetched.head?.map (fun _ => h)) ∧ t.q.descs = w.q.descs) ∧
  (∀ (s : State) (b : List Byte) (q : Nat) (f : Fetched) (l : List Fetched) (n : Nat) (g : Nat) (d : Nat),
      f.hold = .ordered →
      s.inflight q = 0 →
      (s.queue q).fetched = f :: l →
      f.e = { opcode := 0, tenant := n, tag := g, ordered := true } →
      ((s.queue q).tenant = n ∨ isMgmt q = true) →
      s.tenantState n = 1 →
      s.inWindow n = false →
      s.freshDesc = some d →
      s.hostBlocked q = false →
      s.inflight q < s.cqRoom q →
      Leads (.orderedRelease q b) s fun t => (t.queue q).fetched = l ∧ (t.desc d).e = f.e ∧ (t.desc d).q = q ∧ (t.desc d).stage = .ready ∧
        (t.desc d).tFetch = f.t) ∧
  (∀ (s w : State) (b : List Byte) (q : Nat) (f : Fetched) (l : List Fetched) (d : Nat) (x : Desc),
      f.hold = .ordered →
      s.inflight q = 0 →
      (s.queue q).fetched = f :: l →
      s.hostBlocked q = false →
      s.blockBlocked q f.e = false →
      s.blockWaits q f.e = false →
      s.inflight q < s.cqRoom q →
      s.judge q f b = (w, .take d x) →
      Leads (.orderedRelease q b) s fun t => (t.queue q).fetched = (w.queue q).fetched.tail ∧ (t.desc? d).isSome = true ∧ (t.desc d).e = x.e ∧
        (t.desc d).q = x.q ∧ (t.desc d).seq = x.seq) ∧
  (∀ (s w : State) (b : List Byte) (q : Nat) (f : Fetched) (l : List Fetched) (x : Stop),
      f.hold = .ordered →
      s.inflight q = 0 →
      (s.queue q).fetched = f :: l →
      s.hostBlocked q = false →
      s.blockBlocked q f.e = false →
      s.blockWaits q f.e = false →
      s.inflight q < s.cqRoom q →
      s.judge q f b = (w, .stop x) →
      Leads (.orderedRelease q b) s fun t => (t.queue q).fetched = (w.queue q).fetched.tail ∧ t.q.descs = w.q.descs) ∧
  (∀ (s w : State) (b : List Byte) (q : Nat) (f : Fetched) (l : List Fetched) (h : Hold),
      f.hold = .ordered →
      s.inflight q = 0 →
      (s.queue q).fetched = f :: l →
      s.hostBlocked q = false →
      s.blockBlocked q f.e = false →
      s.blockWaits q f.e = false →
      s.inflight q < s.cqRoom q →
      s.judge q f b = (w, .hold h) →
      Leads (.orderedRelease q b) s fun t => ((t.queue q).fetched.head?.map (·.hold) = (w.queue q).fetched.head?.map (fun _ => h)) ∧ t.q.descs = w.q.descs) ∧
  (∀ (s v : State) (q p : Nat) (b : List Byte),
      s.ck.power = 0 →
      s.granted = (v, some q) →
      s.fld F_QE_STARVE_LIMIT_STARVE = 0 →
      p ∈ s.readyQueues →
      Leads (.arbitrationGrant b) s fun t => t = v.accept q b ∧ q ∈ s.readyQueues ∧ s.qClass q ≤ s.qClass p) ∧
  (∀ (s : State) (q : Nat) (f : Fetched) (l : List Fetched),
      (s.queue q).fetched = f :: l →
      f.hold = .resources →
      s.timedOut q f.t = true →
      s.hostBlocked q = false →
      s.inflight q < s.cqRoom q →
      s.qInFolios q = false →
      s.hostFault = none →
      Leads (.translationWaitTimeout q) s fun t => (t.queue q).fetched = l ∧ t.q.descs = s.q.descs ∧
        (t.queue q).cqTail = ((s.queue q).cqTail + 1) % s.ringSize q ∧
        t.fld F_QE_XSTORE_WAITS_WAITS = min (s.fld F_QE_XSTORE_WAITS_WAITS + 1) (2 ^ F_QE_XSTORE_WAITS_WAITS.wid - 1) ∧
        cqBytes f.e.tag .busy 9 (s.queue q).phase false false false s.now {} ∈ t.sentTo (s.queue q).fn
        (s.base F_QE_Q_CQBASE_CQBASE_LO F_QE_Q_CQBASE_CQBASE_HI q + (s.queue q).cqTail * 32))

/-- NOP ends OK with a zero result. A command whose timeout has run since its fetch ends E_TIMEOUT and gives up its translation, unless its
status is final already, and then only a status of lower rank of the same tick gives way. A command that waits for its link pulls its data
when the link is ready and its XTAG free, goes on waiting when not, and ends E_RETIRED when its session's key retires; one that waits to
return data over a ready link sends it. A final status that can be written is written to the completion queue of a host ring after the
signal fence, moves its tail and frees the descriptor; a signal of OK raises its fence; a write that fails freezes the queue and keeps the
completion. (R57, R92, R96, R98, R104, R116, R139, R399, R400, R414, R569) -/
def Obligations.CommandsEnd : Prop :=
  (∀ (s : State) (d : Nat) (x : Desc),
      Runs s d 0x00 x →
      Leads (.nop d) s fun t => Ended t d .ok ∧ (t.desc d).res = {}) ∧
  (∀ (s : State) (d : Nat) (x : Desc) (l : List Nat),
      s.desc? d = some x →
      s.timedOut x.q x.tFetch = false →
      Leads (.commandTimeout d l) s fun t => t = s) ∧
  (∀ (s : State) (d : Nat) (x : Desc) (l : List Nat),
      s.desc? d = some x →
      s.timedOut x.q x.tFetch = true →
      x.stage ≠ .done →
      Leads (.commandTimeout d l) s fun t => Ended t d .timeout ∧ (t.desc d).src = [] ∧ (t.desc d).dst = [] ∧ (t.desc d).epoch = none) ∧
  (∀ (s : State) (d : Nat) (x : Desc) (l : List Nat),
      s.desc? d = some x →
      s.timedOut x.q x.tFetch = true →
      x.stage = .done →
      x.tEnd = s.now →
      Status.timeout.rank < x.status.rank →
      Leads (.commandTimeout d l) s fun t => Ended t d .timeout ∧ t.mem = s.mem) ∧
  (∀ (s : State) (d : Nat) (x : Desc) (l : List Nat),
      s.desc? d = some x →
      s.timedOut x.q x.tFetch = true →
      x.stage = .done →
      (x.tEnd ≠ s.now ∨ x.status.rank ≤ Status.timeout.rank) →
      Leads (.commandTimeout d l) s fun t => t = s.dropDpas d) ∧
  (∀ (s : State) (d : Nat) (x : Desc),
      Waits s d .link x →
      x.e.pulls = true →
      (s.queue x.q).isLink = true →
      s.sessionRetiring (s.queue x.q).origin (s.queue x.q).tenant = false →
      s.linkReady (s.queue x.q).origin (s.queue x.q).tenant = true →
      (s.link (s.queue x.q).origin).pulls.any (fun r => r.queue == x.q && r.xtag == x.xtag) = false →
      Leads (.linkResourceWaitEnd d) s fun t => (t.desc d).stage = .wait .dataIn ∧ (t.desc d).data = []) ∧
  (∀ (s : State) (d : Nat) (x : Desc),
      Waits s d .link x →
      x.e.pulls = true →
      (s.queue x.q).isLink = true →
      s.sessionRetiring (s.queue x.q).origin (s.queue x.q).tenant = true →
      Leads (.linkResourceWaitEnd d) s fun t => Ended t d .retired) ∧
  (∀ (s : State) (d : Nat) (x : Desc),
      Waits s d .link x →
      x.e.pulls = true →
      (s.queue x.q).isLink = true →
      s.sessionRetiring (s.queue x.q).origin (s.queue x.q).tenant = false →
      (s.linkReady (s.queue x.q).origin (s.queue x.q).tenant = false ∨ (s.link (s.queue x.q).origin).pulls.any (fun r => r.queue == x.q && r.xtag == x.xtag) = true) →
      Leads (.linkResourceWaitEnd d) s fun t => (t.desc d).stage = .wait .link ∧ (t.desc d).e = x.e ∧ (t.desc d).q = x.q) ∧
  (∀ (s : State) (d : Nat) (x : Desc),
      Waits s d .linkOut x →
      (s.queue x.outQ).isLink = true →
      s.sessionRetiring (s.queue x.outQ).origin (s.queue x.outQ).tenant = false →
      s.linkReady (s.queue x.outQ).origin (s.queue x.outQ).tenant = true →
      s.dataUnacked (s.queue x.outQ).origin x.outQ x.xtag = false →
      Leads (.linkResourceWaitEnd d) s fun t => (t.desc d).stage = .wait .dataOut ∧ (t.desc d).data = x.data ∧ (t.desc d).res = x.res) ∧
  (∀ (s : State) (d : Nat) (x : Desc) (l : List Nat),
      s.desc? d = some x →
      x.stage = .done →
      (x.kept = false ∨ (s.queue x.q).st = .resetting) →
      s.writesWait x = false →
      s.hostBlocked x.q = false →
      s.qInFolios x.q = false →
      s.hostFault = none →
      0 < s.cqRoom x.q →
      s.ck.entry = 0 →
      Leads (.commandComplete d false l) s fun t => t.desc? d = none ∧
        (t.queue x.q).cqTail = ((s.queue x.q).cqTail + 1) % s.ringSize x.q ∧
        cqBytes x.e.tag x.status x.detail (s.queue x.q).phase (s.settle x).2 x.refused.isNone (x.refused.getD false) x.tEnd x.res ∈
        t.sentTo (s.queue x.q).fn (s.base F_QE_Q_CQBASE_CQBASE_LO F_QE_Q_CQBASE_CQBASE_HI x.q + (s.queue x.q).cqTail * 32)) ∧
  (∀ (s : State) (d : Nat) (x : Desc) (l : List Nat),
      s.desc? d = some x →
      x.stage = .done →
      x.status = .ok →
      x.kept = false →
      x.signalled = none →
      x.refused = none →
      x.e.signal = true →
      s.writesWait x = false →
      s.hostBlocked x.q = false →
      s.qInFolios x.q = false →
      s.hostFault = none →
      0 < s.cqRoom x.q →
      s.ck.entry = 0 →
      (s.fence x.e.sigId).poison = false →
      (s.fence x.e.sigId).value < x.e.sigVal →
      x.e.sigVal ≤ fenceMax →
      Leads (.commandComplete d false l) s fun t => t.desc? d = none ∧ (t.fence x.e.sigId).value = x.e.sigVal) ∧
  (∀ (s : State) (d : Nat) (x : Desc) (l : List Nat) (f : Bool),
      s.desc? d = some x →
      x.stage = .done →
      x.kept = false →
      s.writesWait x = false →
      s.hostBlocked x.q = false →
      s.qInFolios x.q = false →
      (f = true ∨ s.hostFault ≠ none) →
      0 < s.cqRoom x.q →
      ((s.queue x.q).st = .active ∨ (s.queue x.q).st = .paused) →
      s.ck.entry = 0 →
      Leads (.commandComplete d f l) s fun t => (t.queue x.q).st = .frozen ∧ (t.queue x.q).cause = 3 ∧ (t.desc d).kept = true ∧
        (t.desc d).stage = .done ∧ (t.desc d).status = x.status) ∧
  (∀ (s : State) (d : Nat) (x : Desc) (l : List Nat) (f : Bool),
      s.desc? d = some x →
      (x.stage ≠ .done ∨ s.writesWait x = true ∨ s.cqWaits x.q = true ∨ s.hostBlocked x.q = true ∨ (x.kept = true ∧ (s.queue x.q).st ≠ .resetting)) →
      Leads (.commandComplete d f l) s fun t => t = s)

/-- ATTEND and SCORE_TOPK whose watermark is met, REDUCE_PARTIAL and QUANTIZE, each with a good request, are dispatched with the tasks that
the division rules give when their budget is 0 and a cluster takes tasks and the output has staging, end E_BUSY and are counted when their
budget is 0 and not, and wait for carrels with any other budget. An ATTEND or SCORE_TOPK whose watermark is not met waits for it, or ends
E_STALE when its budget is 0; one whose pulled request fails a check ends E_PARAM with that step as DETAIL, as does a REDUCE_PARTIAL. A
waiting carrel command is dispatched at CARREL_DISPATCH, and in the tick in which its wait expires, when a cluster takes tasks and the
output has staging; otherwise it waits on, and its expiry, once the budget has run since the wait began, ends E_BUSY and is counted. (R155,
R195, R197, R198, R199, R201, R218, R219, R221, R223, R756, 06_carrels_and_attention.md) -/
def Obligations.CarrelCommandsComplete : Prop :=
  (∀ (s : State) (d : Nat) (x : Desc),
      Runs s d 0x40 x →
      s.attendFault x false = none →
      s.wmMet x = true →
      s.budget x.e = 0 →
      s.canDispatch d = true →
      Leads (.attend d) s fun t => (t.desc d).stage = .exec ∧ (t.carrelCmd d).tasks = List.replicate (s.plan x).tasks {} ∧
        (t.carrelCmd d).ranges = (s.plan x).ranges ∧ (t.carrelCmd d).stage = (s.plan x).bytes ∧ t.cr.order = s.cr.order + 1) ∧
  (∀ (s : State) (d : Nat) (x : Desc),
      Runs s d 0x40 x →
      s.attendFault x false = none →
      s.wmMet x = true →
      s.budget x.e = 0 →
      s.canDispatch d = false →
      Leads (.attend d) s fun t => Ended t d .busy ∧ t.fld F_CR_WAIT_BUSY_BUSY = min (s.fld F_CR_WAIT_BUSY_BUSY + 1) (2 ^ F_CR_WAIT_BUSY_BUSY.wid - 1)) ∧
  (∀ (s : State) (d : Nat) (x : Desc),
      Runs s d 0x40 x →
      s.attendFault x false = none →
      s.wmMet x = true →
      s.budget x.e ≠ 0 →
      Leads (.attend d) s fun t => (t.desc d).stage = .wait .carrel) ∧
  (∀ (s : State) (d : Nat) (x : Desc),
      Runs s d 0x40 x →
      s.attendFault x false = none →
      s.wmMet x = false →
      s.budget x.e = 0 →
      Leads (.attend d) s fun t => Ended t d .stale) ∧
  (∀ (s : State) (d : Nat) (x : Desc),
      Runs s d 0x40 x →
      s.attendFault x false = none →
      s.wmMet x = false →
      s.budget x.e ≠ 0 →
      Leads (.attend d) s fun t => (t.desc d).stage = .wait .watermark) ∧
  (∀ (s : State) (d : Nat) (x : Desc) (k : Nat) (r : Result),
      Runs s d 0x40 x →
      s.attendFault x false = some (k, r) →
      Leads (.attend d) s fun t => Ended t d .param ∧ (t.desc d).detail = k) ∧
  (∀ (s : State) (d : Nat) (x : Desc),
      Runs s d 0x43 x →
      s.attendFault x true = none →
      s.wmMet x = true →
      s.budget x.e = 0 →
      s.canDispatch d = true →
      Leads (.scoreTopk d) s fun t => (t.desc d).stage = .exec ∧ (t.carrelCmd d).tasks = List.replicate (s.plan x).tasks {} ∧
        (t.carrelCmd d).ranges = (s.plan x).ranges ∧ (t.carrelCmd d).stage = (s.plan x).bytes ∧ t.cr.order = s.cr.order + 1) ∧
  (∀ (s : State) (d : Nat) (x : Desc),
      Runs s d 0x43 x →
      s.attendFault x true = none →
      s.wmMet x = true →
      s.budget x.e = 0 →
      s.canDispatch d = false →
      Leads (.scoreTopk d) s fun t => Ended t d .busy ∧ t.fld F_CR_WAIT_BUSY_BUSY = min (s.fld F_CR_WAIT_BUSY_BUSY + 1) (2 ^ F_CR_WAIT_BUSY_BUSY.wid - 1)) ∧
  (∀ (s : State) (d : Nat) (x : Desc),
      Runs s d 0x43 x →
      s.attendFault x true = none →
      s.wmMet x = true →
      s.budget x.e ≠ 0 →
      Leads (.scoreTopk d) s fun t => (t.desc d).stage = .wait .carrel) ∧
  (∀ (s : State) (d : Nat) (x : Desc),
      Runs s d 0x43 x →
      s.attendFault x true = none →
      s.wmMet x = false →
      s.budget x.e = 0 →
      Leads (.scoreTopk d) s fun t => Ended t d .stale) ∧
  (∀ (s : State) (d : Nat) (x : Desc),
      Runs s d 0x43 x →
      s.attendFault x true = none →
      s.wmMet x = false →
      s.budget x.e ≠ 0 →
      Leads (.scoreTopk d) s fun t => (t.desc d).stage = .wait .watermark) ∧
  (∀ (s : State) (d : Nat) (x : Desc) (k : Nat) (r : Result),
      Runs s d 0x43 x →
      s.attendFault x true = some (k, r) →
      Leads (.scoreTopk d) s fun t => Ended t d .param ∧ (t.desc d).detail = k) ∧
  (∀ (s : State) (d : Nat) (x : Desc),
      Runs s d 0x41 x →
      (reduceReq x.blk).ok x.e.len = true →
      (s.plan x).bytes ≤ 67108864 →
      s.budget x.e = 0 →
      s.canDispatch d = true →
      Leads (.reducePartial d) s fun t => (t.desc d).stage = .exec ∧ (t.carrelCmd d).tasks = List.replicate (s.plan x).tasks {} ∧
        (t.carrelCmd d).ranges = (s.plan x).ranges ∧ (t.carrelCmd d).stage = (s.plan x).bytes ∧ t.cr.order = s.cr.order + 1) ∧
  (∀ (s : State) (d : Nat) (x : Desc),
      Runs s d 0x41 x →
      (reduceReq x.blk).ok x.e.len = true →
      (s.plan x).bytes ≤ 67108864 →
      s.budget x.e = 0 →
      s.canDispatch d = false →
      Leads (.reducePartial d) s fun t => Ended t d .busy ∧ t.fld F_CR_WAIT_BUSY_BUSY = min (s.fld F_CR_WAIT_BUSY_BUSY + 1) (2 ^ F_CR_WAIT_BUSY_BUSY.wid - 1)) ∧
  (∀ (s : State) (d : Nat) (x : Desc),
      Runs s d 0x41 x →
      (reduceReq x.blk).ok x.e.len = true →
      (s.plan x).bytes ≤ 67108864 →
      s.budget x.e ≠ 0 →
      Leads (.reducePartial d) s fun t => (t.desc d).stage = .wait .carrel) ∧
  (∀ (s : State) (d : Nat) (x : Desc),
      Runs s d 0x41 x →
      ((reduceReq x.blk).ok x.e.len = false ∨ 67108864 < (s.plan x).bytes) →
      Leads (.reducePartial d) s fun t => Ended t d .param ∧ (t.desc d).detail = 3) ∧
  (∀ (s : State) (d : Nat) (x : Desc),
      Runs s d 0x42 x →
      s.fld F_FN_WAIT_DEFAULT_WAIT = 0 →
      s.canDispatch d = true →
      Leads (.quantize d) s fun t => (t.desc d).stage = .exec ∧ (t.carrelCmd d).tasks = List.replicate (s.plan x).tasks {} ∧
        (t.carrelCmd d).ranges = (s.plan x).ranges ∧ (t.carrelCmd d).stage = (s.plan x).bytes ∧ t.cr.order = s.cr.order + 1) ∧
  (∀ (s : State) (d : Nat) (x : Desc),
      Runs s d 0x42 x →
      s.fld F_FN_WAIT_DEFAULT_WAIT = 0 →
      s.canDispatch d = false →
      Leads (.quantize d) s fun t => Ended t d .busy ∧ t.fld F_CR_WAIT_BUSY_BUSY = min (s.fld F_CR_WAIT_BUSY_BUSY + 1) (2 ^ F_CR_WAIT_BUSY_BUSY.wid - 1)) ∧
  (∀ (s : State) (d : Nat) (x : Desc),
      Runs s d 0x42 x →
      s.fld F_FN_WAIT_DEFAULT_WAIT ≠ 0 →
      Leads (.quantize d) s fun t => (t.desc d).stage = .wait .carrel) ∧
  (∀ (s : State) (d : Nat) (x : Desc),
      Waits s d .carrel x →
      s.canDispatch d = true →
      Leads (.carrelDispatch d) s fun t => (t.desc d).stage = .exec ∧ (t.carrelCmd d).tasks = List.replicate (s.plan x).tasks {} ∧
        (t.carrelCmd d).ranges = (s.plan x).ranges ∧ (t.carrelCmd d).stage = (s.plan x).bytes ∧ t.cr.order = s.cr.order + 1) ∧
  (∀ (s : State) (d : Nat) (x : Desc),
      Waits s d .carrel x →
      s.canDispatch d = false →
      Leads (.carrelDispatch d) s fun t => t = s) ∧
  (∀ (s : State) (d : Nat) (x : Desc),
      Waits s d .carrel x →
      s.waitedOut x (if x.e.opcode = 0x42 then s.fld F_FN_WAIT_DEFAULT_WAIT else s.budget x.e) = true →
      s.canDispatch d = true →
      Leads (.carrelWaitExpired d) s fun t => (t.desc d).stage = .exec ∧ (t.carrelCmd d).tasks = List.replicate (s.plan x).tasks {} ∧
        (t.carrelCmd d).ranges = (s.plan x).ranges ∧ (t.carrelCmd d).stage = (s.plan x).bytes ∧ t.cr.order = s.cr.order + 1) ∧
  (∀ (s : State) (d : Nat) (x : Desc),
      Waits s d .carrel x →
      s.waitedOut x (if x.e.opcode = 0x42 then s.fld F_FN_WAIT_DEFAULT_WAIT else s.budget x.e) = true →
      s.canDispatch d = false →
      Leads (.carrelWaitExpired d) s fun t => Ended t d .busy ∧ t.fld F_CR_WAIT_BUSY_BUSY = min (s.fld F_CR_WAIT_BUSY_BUSY + 1) (2 ^ F_CR_WAIT_BUSY_BUSY.wid - 1)) ∧
  (∀ (s : State) (d : Nat) (x : Desc),
      Waits s d .carrel x →
      s.waitedOut x (if x.e.opcode = 0x42 then s.fld F_FN_WAIT_DEFAULT_WAIT else s.budget x.e) = false →
      Leads (.carrelWaitExpired d) s fun t => t = s)

/-- A free carrel of a READY cluster takes the next task of the tenant that the round serves, its scratch empty when a REDUCE_PARTIAL or
QUANTIZE follows another tenant; with no tenant to serve nothing changes. The end of a task whose sources read well leaves its output in
staging and its carrel free while others remain; the last one of a REDUCE_PARTIAL for a host sends the outputs of all tasks in order and
ends OK; a task that met poison or a failing tag ends the command with that status. A first uncorrected error of a task sends the cluster
OUT and the task back to wait for another carrel; a second ends the command E_ABORTED with DETAIL 0x40; one without a task changes nothing.
CLUSTER_REMOVE from a port that may send it makes a cluster without tasks OUT and marks one with tasks, and leaves one that is OUT or in
test; CLUSTER_RETURN tests a cluster that is OUT, is counted during a self-test job and otherwise ignored; from another port each is
counted. The end of a test, the re-examination of wakes, the end of a wake and the two idle states change a cluster as Table 6.2 and R590
say. (R194, R200, R204, R208, R224, R225, R247, R257, R499, R590, R596, R660) -/
def Obligations.CarrelTasksAndClusters : Prop :=
  (∀ (s u : State) (c n d i : Nat),
      c < 64 →
      (s.carrel c).halted = false →
      (s.carrel c).task = none →
      s.clusterReady (c / 8) = true →
      s.pickTenant c = some (n, u) →
      s.nextTask n c = some (d, i) →
      i < (s.carrelCmd d).tasks.length →
      Leads (.carrelTaskStart c) s fun t => (t.carrel c).task = some (d, i) ∧ (t.carrel c).last = some n ∧
        ((t.carrelCmd d).tasks.getD i {}).st = 1 ∧ ((t.carrelCmd d).tasks.getD i {}).carrel = c ∧
        ((s.carrel c).last ≠ some n → ((s.desc d).e.opcode = 0x41 ∨ (s.desc d).e.opcode = 0x42) → (t.carrel c).scratch = {})) ∧
  (∀ (s : State) (c : Nat),
      (64 ≤ c ∨ (s.carrel c).halted = true ∨ (s.carrel c).task ≠ none ∨ s.clusterReady (c / 8) = false ∨ s.pickTenant c = none) →
      Leads (.carrelTaskStart c) s fun t => t = s) ∧
  (∀ (s u : State) (c d i : Nat) (r : List Piece),
      (s.carrel c).task = some (d, i) →
      (s.carrel c).halted = false →
      r = s.taskReads (s.desc d) ((s.carrel c).args.getD (s.taskArgs d i)) →
      s.readWaits (s.desc d).e.tenant r = false →
      s.outOfTurn (s.desc d).e.tenant r [] = false →
      u = s.payTurns (s.desc d).e.tenant r [] →
      (u.runTask c d i).2.met.status = .ok →
      i < (s.carrelCmd d).tasks.length →
      (∃ k ∈ (s.carrelCmd d).tasks.eraseIdx i, k.st ≠ 2) →
      Leads (.carrelTaskEnd c) s fun t => (t.carrel c).task = none ∧ ((t.carrelCmd d).tasks.getD i {}).st = 2 ∧
        ((t.carrelCmd d).tasks.getD i {}).out = (u.runTask c d i).2.out ∧ ((t.carrelCmd d).tasks.getD i {}).scales = (u.runTask c d i).2.scales) ∧
  (∀ (s : State) (c d i : Nat) (x : Desc),
      (s.carrel c).task = some (d, i) →
      (s.carrel c).halted = false →
      s.desc? d = some x →
      x.e.opcode = 0x41 →
      x.stage ≠ .done →
      x.e.flag 9 = false →
      i < (s.carrelCmd d).tasks.length →
      (∀ k ∈ (s.carrelCmd d).tasks.eraseIdx i, k.st = 2) →
      (s.queue x.q).isLink = false →
      s.noHost x.q = false →
      s.hostFault = none →
      Leads (.carrelTaskEnd c) s fun t => Ended t d .ok ∧ (t.carrel c).task = none ∧ (t.desc d).res.w0 = (reduceReq x.blk).heads ∧
        (((s.carrelCmd d).tasks.set i { out := (s.runTask c d i).2.out }).map (·.out)).flatten ∈ t.sentTo (s.queue x.q).fn x.e.dest) ∧
  (∀ (s u : State) (c d i : Nat) (x : Desc) (r : List Piece),
      (s.carrel c).task = some (d, i) →
      (s.carrel c).halted = false →
      s.desc? d = some x →
      x.stage ≠ .done →
      r = s.taskReads x ((s.carrel c).args.getD (s.taskArgs d i)) →
      s.readWaits x.e.tenant r = false →
      s.outOfTurn x.e.tenant r [] = false →
      u = s.payTurns x.e.tenant r [] →
      (u.runTask c d i).2.met.status ≠ .ok →
      Leads (.carrelTaskEnd c) s fun t => Ended t d (u.runTask c d i).2.met.status ∧ (t.carrel c).task = none) ∧
  (∀ (s : State) (c : Nat),
      ((s.carrel c).task = none ∨ (s.carrel c).halted = true) →
      Leads (.carrelTaskEnd c) s fun t => t = s) ∧
  (∀ (s : State) (c d i : Nat) (r : List Piece),
      (s.carrel c).task = some (d, i) →
      r = s.taskReads (s.desc d) ((s.carrel c).args.getD (s.taskArgs d i)) →
      (s.readWaits (s.desc d).e.tenant r = true ∨ s.outOfTurn (s.desc d).e.tenant r [] = true) →
      Leads (.carrelTaskEnd c) s fun t => t = s) ∧
  (∀ (s : State) (c d i : Nat),
      (s.carrel c).task = some (d, i) →
      ((s.carrelCmd d).tasks.getD i {}).tries = 0 →
      i < (s.carrelCmd d).tasks.length →
      Leads (.carrelFault c) s fun t => (t.cluster (c / 8)).st = 4 ∧ (t.carrel c).task = none ∧ (t.carrel c).faulted = true ∧
        ((t.carrelCmd d).tasks.getD i {}).st = 0 ∧ ((t.carrelCmd d).tasks.getD i {}).tries = 1 ∧ ((t.carrelCmd d).tasks.getD i {}).bad = some c) ∧
  (∀ (s : State) (c d i : Nat) (x : Desc),
      (s.carrel c).task = some (d, i) →
      s.desc? d = some x →
      x.stage ≠ .done →
      ((s.carrelCmd d).tasks.getD i {}).tries ≠ 0 →
      Leads (.carrelFault c) s fun t => (t.cluster (c / 8)).st = 4 ∧ (t.carrel c).task = none ∧ (t.carrel c).faulted = true ∧ Ended t d .aborted ∧
        (t.desc d).detail = 0x40) ∧
  (∀ (s : State) (c : Nat),
      (s.carrel c).task = none →
      Leads (.carrelFault c) s fun t => t = s) ∧
  (∀ (s : State) (c d i : Nat),
      (s.carrel c).task = some (d, i) →
      ((s.carrelCmd d).tasks.getD i {}).tries = 0 →
      i < (s.carrelCmd d).tasks.length →
      Leads (.scratchParity c) s fun t => (t.cluster (c / 8)).st = 4 ∧ (t.carrel c).task = none ∧ (t.carrel c).faulted = true ∧
        ((t.carrelCmd d).tasks.getD i {}).st = 0 ∧ ((t.carrelCmd d).tasks.getD i {}).tries = 1 ∧ ((t.carrelCmd d).tasks.getD i {}).bad = some c) ∧
  (∀ (s : State) (c d i : Nat) (x : Desc),
      (s.carrel c).task = some (d, i) →
      s.desc? d = some x →
      x.stage ≠ .done →
      ((s.carrelCmd d).tasks.getD i {}).tries ≠ 0 →
      Leads (.scratchParity c) s fun t => (t.cluster (c / 8)).st = 4 ∧ (t.carrel c).task = none ∧ (t.carrel c).faulted = true ∧ Ended t d .aborted ∧
        (t.desc d).detail = 0x40) ∧
  (∀ (s : State) (c : Nat),
      (s.carrel c).task = none →
      Leads (.scratchParity c) s fun t => t = s) ∧
  (∀ (s : State) (p : Port) (k : Nat),
      s.answers p clusterCtlOff = true →
      pfOrFw p = true →
      k < 8 →
      (s.cluster k).st ≠ 4 →
      (s.cluster k).st ≠ 5 →
      s.clusterBusy k = false →
      Leads (.clusterRemove p k) s fun t => (t.cluster k).st = 4 ∧ t.cr.wakes.all (fun w => w.1 != k) = true) ∧
  (∀ (s : State) (p : Port) (k : Nat),
      s.answers p clusterCtlOff = true →
      pfOrFw p = true →
      k < 8 →
      (s.cluster k).st ≠ 4 →
      (s.cluster k).st ≠ 5 →
      s.clusterBusy k = true →
      Leads (.clusterRemove p k) s fun t => t.cluster k = { s.cluster k with removing := true }) ∧
  (∀ (s : State) (p : Port) (k : Nat),
      s.answers p clusterCtlOff = true →
      pfOrFw p = true →
      ((s.cluster k).st = 4 ∨ (s.cluster k).st = 5) →
      Leads (.clusterRemove p k) s fun t => t.cr = s.cr ∧ t.regs = s.regs) ∧
  (∀ (s : State) (p : Port) (k : Nat),
      s.answers p clusterCtlOff = true →
      pfOrFw p = false →
      Leads (.clusterRemove p k) s fun t => t.cr = s.cr ∧ t.fld F_TOP_BAD_ACCESS_ADDR_OFFSET = clusterCtlOff) ∧
  (∀ (s : State) (p : Port) (k : Nat),
      s.answers p clusterCtlOff = true →
      pfOrFw p = true →
      k < 8 →
      s.jobOn 2 k 0 = false →
      (s.cluster k).st = 4 →
      Leads (.clusterReturn p k) s fun t => (t.cluster k).st = 5 ∧ (t.cluster k).passed = false ∧ (t.cluster k).removing = false) ∧
  (∀ (s : State) (p : Port) (k : Nat),
      s.answers p clusterCtlOff = true →
      pfOrFw p = true →
      s.jobOn 2 k 0 = false →
      (s.cluster k).st ≠ 4 →
      Leads (.clusterReturn p k) s fun t => t.cr = s.cr ∧ t.regs = s.regs) ∧
  (∀ (s : State) (p : Port) (k : Nat),
      s.answers p clusterCtlOff = true →
      (pfOrFw p = false ∨ (k < 8 ∧ s.jobOn 2 k 0 = true)) →
      Leads (.clusterReturn p k) s fun t => t.cr = s.cr ∧ t.fld F_TOP_BAD_ACCESS_ADDR_OFFSET = clusterCtlOff) ∧
  (∀ (s : State) (k : Nat),
      k < 8 →
      (s.cluster k).st = 5 →
      (s.cluster k).boot = false →
      Leads (.clusterTestDone k true) s fun t => (t.cluster k).st = 5 ∧ (t.cluster k).passed = true ∧
        ∀ c, c / 8 = k → (t.carrel c).faulted = false) ∧
  (∀ (s : State) (k : Nat),
      (s.cluster k).st = 5 →
      (s.cluster k).boot = true →
      Leads (.clusterTestDone k true) s fun t => (t.cluster k).st = 1) ∧
  (∀ (s : State) (k : Nat),
      (s.cluster k).st = 5 →
      Leads (.clusterTestDone k false) s fun t => (t.cluster k).st = 4 ∧ (t.cluster k).passed = false) ∧
  (∀ (s : State) (k : Nat) (b : Bool),
      (s.cluster k).st ≠ 5 →
      Leads (.clusterTestDone k b) s fun t => t = s) ∧
  (∀ (s : State),
      Leads .wakeReexamine s fun t => t.cr.wakes.all (fun w => s.cr.wakes.any (fun v => v == w) && w.2.any s.waitsCarrel) = true ∧
        ∀ k, s.cr.wakes.all (fun w => w.1 != k) = true → t.cluster k = s.cluster k) ∧
  (∀ (s : State) (k : Nat) (l : List Nat),
      s.cr.wakes = [(k, l)] →
      l.any s.waitsCarrel = true →
      s.wakeOk k = true →
      Leads .wakeReexamine s fun t => (t.cluster k).st = 2 ∧ t.cr.wakes = []) ∧
  (∀ (s : State) (k : Nat) (l : List Nat),
      s.cr.wakes = [(k, l)] →
      l.any s.waitsCarrel = true →
      s.wakeOk k = false →
      Leads .wakeReexamine s fun t => t.cr = s.cr ∧ t.fld F_CK_WAKE_REFUSED_REFUSED = min (s.fld F_CK_WAKE_REFUSED_REFUSED + 1) (2 ^ F_CK_WAKE_REFUSED_REFUSED.wid - 1)) ∧
  (∀ (s : State) (k : Nat),
      (s.cluster k).st = 2 →
      Leads (.clusterWakeComplete k) s fun t => (t.cluster k).st = 3) ∧
  (∀ (s : State) (k : Nat),
      (s.cluster k).st ≠ 2 →
      Leads (.clusterWakeComplete k) s fun t => t = s) ∧
  (∀ (s : State) (k : Nat),
      s.clusterReady k = true →
      s.clusterBusy k = false →
      1 ≤ s.fld F_CK_PWR_CFG_DEEPEST →
      Leads (.clusterIdleGate k) s fun t => (t.cluster k).st = 1) ∧
  (∀ (s : State) (k : Nat),
      (s.clusterReady k = false ∨ s.clusterBusy k = true ∨ s.fld F_CK_PWR_CFG_DEEPEST = 0) →
      Leads (.clusterIdleGate k) s fun t => t = s) ∧
  (∀ (s : State) (k : Nat),
      (s.cluster k).st = 1 →
      2 ≤ s.fld F_CK_PWR_CFG_DEEPEST →
      Leads (.clusterIdleOff k) s fun t => (t.cluster k).st = 0) ∧
  (∀ (s : State) (k : Nat),
      ((s.cluster k).st ≠ 1 ∨ s.fld F_CK_PWR_CFG_DEEPEST < 2) →
      Leads (.clusterIdleOff k) s fun t => t = s)

/-- PIN_SECOND_WALK starts each sweep whose descriptors have gone, and its end retags the lines of the first sweep started and drops the
sweep. From a port that may send it SK_P_FLUSH turns every line pinned in a partition NORMAL and marks the flush, and is ignored while one
runs; SK_P_LIMIT_WRITE is taken at once and starts or ends the demotion as USED stands against it, and is counted and refused when the sum
of limits would pass 196,608; from another port each is counted. FLUSH_END and DEMOTE_END end the flush and the demotion, which keeps every
line. A data parity error drops the line, a tag parity error all lines of its set, and each is counted; a read-only cache error is counted,
and unless it escalates its cluster every task runs on and the constants of the carrel read again as their streams hold them. (R243, R244,
R245, R250, R251, R252, R254, R255, R256, R258, 07_stacks_cache_and_scratch.md) -/
def Obligations.CacheCommandsTakeEffect : Prop :=
  (∀ (s : State),
      Leads .pinSecondWalk s fun t => t.sk.sets = s.sk.sets ∧
        t.sk.sweeps = s.sk.sweeps.map (fun w => if w.seq ≤ s.oldestSeq then { w with started := true } else w)) ∧
  (∀ (s : State) (w : Sweep),
      s.sk.sweeps.find? (·.started) = some w →
      Leads .pinSecondWalkEnd s fun t => t.sk.sweeps = s.sk.sweeps.erase w ∧ t.sk.sets = (s.walkFolios w.pin w.dfns).sk.sets) ∧
  (∀ (s : State),
      s.sk.sweeps.any (·.started) = false →
      Leads .pinSecondWalkEnd s fun t => t = s) ∧
  (∀ (s : State) (p : Port) (k : Nat),
      s.answers p (bar0 5 0x1008) = true →
      pfOrFw p = true →
      k < 8 →
      inSet s.sk.flushing k = false →
      Leads (.skPFlush p k) s fun t => inSet t.sk.flushing k = true ∧ ∀ j, ∀ l ∈ (t.cset j).lines, l.pin ≠ k + 1) ∧
  (∀ (s : State) (p : Port) (k : Nat),
      s.answers p (bar0 5 0x1008) = true →
      pfOrFw p = true →
      inSet s.sk.flushing k = true →
      Leads (.skPFlush p k) s fun t => t.sk = s.sk ∧ t.regs = s.regs) ∧
  (∀ (s : State) (p : Port) (k : Nat),
      s.answers p (bar0 5 0x1008) = true →
      pfOrFw p = false →
      Leads (.skPFlush p k) s fun t => t.sk = s.sk ∧ t.fld F_TOP_BAD_ACCESS_ADDR_OFFSET = bar0 5 0x1008) ∧
  (∀ (s : State) (k : Nat),
      Leads (.flushEnd k) s fun t => inSet t.sk.flushing k = false ∧ t.sk.sets = s.sk.sets) ∧
  (∀ (s : State) (p : Port) (k : Nat) (v : Nat),
      s.answers p (bar0 5 0x1000) = true →
      pfOrFw p = true →
      k < 8 →
      s.pinSum - s.fld F_SK_P_LIMIT_LIMIT k + v % 2 ^ 18 ≤ 196608 →
      Leads (.skPLimitWrite p k v) s fun t => t.fld F_SK_P_LIMIT_LIMIT k = v % 2 ^ 18 ∧
        inSet t.sk.demoting k = decide (v % 2 ^ 18 < s.fld F_SK_P_USED_USED k) ∧ t.sk.sets = s.sk.sets) ∧
  (∀ (s : State) (p : Port) (k : Nat) (v : Nat),
      s.answers p (bar0 5 0x1000) = true →
      pfOrFw p = true →
      k < 8 →
      196608 < s.pinSum - s.fld F_SK_P_LIMIT_LIMIT k + v % 2 ^ 18 →
      Leads (.skPLimitWrite p k v) s fun t => t.fld F_SK_P_LIMIT_LIMIT k = s.fld F_SK_P_LIMIT_LIMIT k ∧ t.sk = s.sk ∧ t.fld F_TOP_BAD_ACCESS_ADDR_OFFSET = bar0 5 0x1000) ∧
  (∀ (s : State) (p : Port) (k : Nat) (v : Nat),
      s.answers p (bar0 5 0x1000) = true →
      pfOrFw p = false →
      Leads (.skPLimitWrite p k v) s fun t => t.fld F_SK_P_LIMIT_LIMIT k = s.fld F_SK_P_LIMIT_LIMIT k ∧ t.sk = s.sk ∧ t.fld F_TOP_BAD_ACCESS_ADDR_OFFSET = bar0 5 0x1000) ∧
  (∀ (s : State) (k : Nat),
      inSet s.sk.demoting k = true →
      Leads (.demoteEnd k) s fun t => inSet t.sk.demoting k = false ∧
        ∀ j, (t.cset j).lines.map (·.sec) = (s.cset j).lines.map (·.sec)) ∧
  (∀ (s : State) (k : Nat),
      inSet s.sk.demoting k = false →
      Leads (.demoteEnd k) s fun t => t = s) ∧
  (∀ (s : State) (n : Nat),
      (s.cset (setOf n)).lines.any (fun l => l.sec == n) = true →
      Leads (.skDataParity n) s fun t => (t.cset (setOf n)).lines.any (fun l => l.sec == n) = false ∧ t.fld F_SK_PARITY_CNT_DATA = min (s.fld F_SK_PARITY_CNT_DATA + 1) (2 ^ F_SK_PARITY_CNT_DATA.wid - 1)) ∧
  (∀ (s : State) (n : Nat),
      (s.cset (setOf n)).lines.any (fun l => l.sec == n) = false →
      Leads (.skDataParity n) s fun t => t = s) ∧
  (∀ (s : State) (n : Nat),
      n < 24576 →
      (s.cset n).off = false →
      Leads (.skTagParity n) s fun t => (t.cset n).lines = [] ∧ t.fld F_SK_TAG_PARITY_CNT_TAG = min (s.fld F_SK_TAG_PARITY_CNT_TAG + 1) (2 ^ F_SK_TAG_PARITY_CNT_TAG.wid - 1)) ∧
  (∀ (s : State) (n : Nat),
      (s.cset n).off = true →
      Leads (.skTagParity n) s fun t => t = s) ∧
  (∀ (s : State) (c : Nat),
      c < 64 →
      Leads (.roCacheParity c) s fun t => t.fld F_SK_RO_PARITY_CNT_RO = min (s.fld F_SK_RO_PARITY_CNT_RO + 1) (2 ^ F_SK_RO_PARITY_CNT_RO.wid - 1)) ∧
  (∀ (s : State) (c : Nat),
      c < 64 →
      (s.recent (s.unitRec (unitKey 6 (c / 8)))).length < 2 →
      (s.unitRec (unitKey 6 (c / 8))).queued = none →
      Leads (.roCacheParity c) s fun t => (∀ k, (t.carrel k).task = (s.carrel k).task) ∧
        ∀ e ∈ (t.carrel c).consts, e = s.scalesOf e.strm e.layer e.head)

/-- APPEND_KV from a host it can reach takes its tracker entry and its data and waits for a unit, or ends E_BUSY when its budget is 0 and no
unit is in service; without an entry it waits for one, or ends E_BUSY when its budget is 0. Data of an append that its unit has written make
the layer as R127 says, advancing the watermark past a complete entry, and end it OK; data that met poison or a failing tag end it with that
status and leave the stream. A unit's access waits for a unit of memory that retrains, for a cap or for its tenant's turn. GATHER_KV whose
watermark is reached waits for a unit, one whose watermark is not waits or ends E_STALE, and one served whose sources read well returns its
buffer to the host. Units take commands, give up those that an OUT unit still serves, redo a chunk once, end a command E_ABORTED with DETAIL
0x50 at the second error of a chunk, and are tested and returned. PLACE with a good request waits for the engine, or with budget 0 starts or
ends E_BUSY; one with a bad request ends E_PARAM. The free engine starts the next of the round; a solve ends with its records written to the
host or to the tenant, or E_FEASIBILITY with what blocks; a first parity error of a solve restarts it and a second ends it E_ABORTED with
DETAIL 0x60. (R126, R127, R129, R155, R272, R279, R281, R282, R284, R287, R289, R296) -/
def Obligations.ProjectionAndSolverComplete : Prop :=
  (∀ (s : State) (d : Nat) (b : List Byte) (x : Desc),
      Runs s d 0x23 x →
      s.noHost x.q = false →
      (s.hasTracker x = true ∨ (((s.stream (x.strm.getD 0)).layers.getD x.aux {}).trk.length < 16 ∧ x.aux < (s.stream (x.strm.getD 0)).layers.length)) →
      (s.chooseUnit ≠ none ∨ s.budget x.e ≠ 0) →
      Leads (.appendKv d b) s fun t => (t.desc d).stage = .wait .unit ∧ t.hasTracker x = true ∧
        (t.desc d).data.length = (s.clientLayout x).bufBytes x.e.shard x.e.len) ∧
  (∀ (s : State) (d : Nat) (b : List Byte) (x : Desc),
      Runs s d 0x23 x →
      s.noHost x.q = false →
      (s.hasTracker x = true ∨ (((s.stream (x.strm.getD 0)).layers.getD x.aux {}).trk.length < 16 ∧ x.aux < (s.stream (x.strm.getD 0)).layers.length)) →
      s.chooseUnit = none →
      s.budget x.e = 0 →
      Leads (.appendKv d b) s fun t => Ended t d .busy) ∧
  (∀ (s : State) (d : Nat) (b : List Byte) (x : Desc),
      Runs s d 0x23 x →
      s.noHost x.q = false →
      s.hasTracker x = false →
      16 ≤ ((s.stream (x.strm.getD 0)).layers.getD x.aux {}).trk.length →
      s.budget x.e ≠ 0 →
      Leads (.appendKv d b) s fun t => (t.desc d).stage = .wait .tracker) ∧
  (∀ (s : State) (d : Nat) (b : List Byte) (x : Desc),
      Runs s d 0x23 x →
      s.noHost x.q = false →
      s.hasTracker x = false →
      16 ≤ ((s.stream (x.strm.getD 0)).layers.getD x.aux {}).trk.length →
      s.budget x.e = 0 →
      Leads (.appendKv d b) s fun t => Ended t d .busy) ∧
  (∀ (s : State) (d : Nat) (b : List Byte) (x : Desc),
      Runs s d 0x23 x →
      s.noHost x.q = true →
      Leads (.appendKv d b) s fun t => t = s) ∧
  (∀ (s : State) (d : Nat) (x : Desc) (i : Nat),
      s.desc? d = some x →
      x.e.opcode = 0x23 →
      x.stage = .exec →
      s.pjServed d = true →
      s.mergeWaits x.e.tenant (s.appendPieces d) = false →
      s.outOfTurn x.e.tenant [] (s.appendPieces d) = false →
      x.strm = some i →
      x.aux < (s.stream i).layers.length →
      ((s.turned x [] (s.appendPieces d)).appendData d).2.1.status = .ok →
      s.trackerWaiters i x.aux = [] →
      Leads (.appendDurable d) s fun t => Ended t d .ok ∧
        (t.stream i).layers.getD x.aux {} = Layer.durable (s.stream i).slots x ((s.stream i).layers.getD x.aux {})) ∧
  (∀ (s : State) (d : Nat) (x : Desc) (i : Nat) (y : Tracker),
      s.desc? d = some x →
      x.e.opcode = 0x23 →
      x.stage = .exec →
      s.pjServed d = true →
      s.mergeWaits x.e.tenant (s.appendPieces d) = false →
      s.outOfTurn x.e.tenant [] (s.appendPieces d) = false →
      x.strm = some i →
      ((s.turned x [] (s.appendPieces d)).appendData d).2.1.status = .ok →
      s.trackerWaiters i x.aux = [] →
      (s.stream i).layers[x.aux]? = some { wm := y.first, trk := [y] } →
      y.first = x.e.through →
      y.last = x.e.through + x.e.len - 1 →
      y.slot = x.e.slot →
      y.mask = 0 →
      x.e.shard = 0 →
      (kvGet {} (s.stream i).slots y.slot).shards = 1 →
      Leads (.appendDurable d) s fun t => Ended t d .ok ∧ ((t.stream i).layers.getD x.aux {}) = { wm := y.last + 1 }) ∧
  (∀ (s : State) (d : Nat) (x : Desc),
      s.desc? d = some x →
      x.e.opcode = 0x23 →
      x.stage = .exec →
      s.pjServed d = true →
      s.mergeWaits x.e.tenant (s.appendPieces d) = false →
      s.outOfTurn x.e.tenant [] (s.appendPieces d) = false →
      ((s.turned x [] (s.appendPieces d)).appendData d).2.1.status ≠ .ok →
      Leads (.appendDurable d) s fun t => Ended t d ((s.turned x [] (s.appendPieces d)).appendData d).2.1.status ∧ t.fn.streams = s.fn.streams) ∧
  (∀ (s : State) (d : Nat) (x : Desc),
      s.desc? d = some x →
      s.pjServed d = false →
      Leads (.appendDurable d) s fun t => t = s) ∧
  (∀ (s : State) (d : Nat) (x : Desc),
      s.desc? d = some x →
      (s.mergeWaits x.e.tenant (s.appendPieces d) = true ∨ s.outOfTurn x.e.tenant [] (s.appendPieces d) = true) →
      Leads (.appendDurable d) s fun t => t = s) ∧
  (∀ (s : State) (d : Nat) (x : Desc),
      Waits s d .tracker x →
      s.waitedOut x (s.budget x.e) = true →
      s.hasTracker x = false →
      16 ≤ ((s.stream (x.strm.getD 0)).layers.getD x.aux {}).trk.length →
      Leads (.trackerWaitExpired d) s fun t => Ended t d .busy) ∧
  (∀ (s : State) (d : Nat) (x : Desc),
      Waits s d .tracker x →
      s.waitedOut x (s.budget x.e) = true →
      (s.hasTracker x = true ∨ (((s.stream (x.strm.getD 0)).layers.getD x.aux {}).trk.length < 16 ∧ x.aux < (s.stream (x.strm.getD 0)).layers.length)) →
      Leads (.trackerWaitExpired d) s fun t => (t.desc d).stage = .ready ∧ t.hasTracker x = true) ∧
  (∀ (s : State) (d : Nat) (x : Desc),
      Runs s d 0x24 x →
      s.wmMet x = true →
      (s.chooseUnit ≠ none ∨ s.budget x.e ≠ 0) →
      Leads (.gatherKv d) s fun t => (t.desc d).stage = .wait .unit) ∧
  (∀ (s : State) (d : Nat) (x : Desc),
      Runs s d 0x24 x →
      s.wmMet x = true →
      s.chooseUnit = none →
      s.budget x.e = 0 →
      Leads (.gatherKv d) s fun t => Ended t d .busy) ∧
  (∀ (s : State) (d : Nat) (x : Desc),
      Runs s d 0x24 x →
      s.wmMet x = false →
      s.budget x.e ≠ 0 →
      Leads (.gatherKv d) s fun t => (t.desc d).stage = .wait .watermark) ∧
  (∀ (s : State) (d : Nat) (x : Desc),
      Runs s d 0x24 x →
      s.wmMet x = false →
      s.budget x.e = 0 →
      Leads (.gatherKv d) s fun t => Ended t d .stale) ∧
  (∀ (s : State) (d : Nat) (x : Desc),
      s.desc? d = some x →
      x.e.opcode = 0x24 →
      x.stage = .exec →
      s.pjServed d = true →
      s.readWaits x.e.tenant (s.gatherPieces d) = false →
      s.outOfTurn x.e.tenant (s.gatherPieces d) [] = false →
      ((s.turned x (s.gatherPieces d) []).gatherMet d).2.status = .ok →
      (s.queue x.q).isLink = false →
      s.noHost x.q = false →
      s.hostFault = none →
      Leads (.gatherKv d) s fun t => Ended t d .ok ∧
        ∃ b ∈ t.sentTo (s.queue x.q).fn x.e.opB, b.length = (s.clientLayout x).bufBytes x.e.shard x.e.len) ∧
  (∀ (s : State) (d : Nat) (x : Desc),
      s.desc? d = some x →
      x.e.opcode = 0x24 →
      x.stage = .exec →
      s.pjServed d = true →
      s.readWaits x.e.tenant (s.gatherPieces d) = false →
      s.outOfTurn x.e.tenant (s.gatherPieces d) [] = false →
      ((s.turned x (s.gatherPieces d) []).gatherMet d).2.status ≠ .ok →
      Leads (.gatherKv d) s fun t => Ended t d ((s.turned x (s.gatherPieces d) []).gatherMet d).2.status) ∧
  (∀ (s : State) (d : Nat) (x : Desc),
      s.desc? d = some x →
      x.stage = .exec →
      (s.readWaits x.e.tenant (s.gatherPieces d) = true ∨ s.outOfTurn x.e.tenant (s.gatherPieces d) [] = true) →
      Leads (.gatherKv d) s fun t => t = s) ∧
  (∀ (s : State) (d : Nat) (x : Desc) (u : Nat),
      Waits s d .unit x →
      s.chooseUnit = some u →
      (x.e.opcode = 0x23 ∨ x.e.opcode = 0x24) →
      Leads (.pjUnitAssign d) s fun t => (t.desc d).stage = .exec ∧ (t.pjUnit u).cmds = (s.pjUnit u).cmds ++ [(d, s.pjBytes x)]) ∧
  (∀ (s : State) (d : Nat) (x : Desc) (u : Nat),
      Waits s d .unit x →
      s.waitedOut x (s.budget x.e) = true →
      s.chooseUnit = some u →
      (x.e.opcode = 0x23 ∨ x.e.opcode = 0x24) →
      Leads (.pjUnitWaitExpired d) s fun t => (t.desc d).stage = .exec ∧ (t.pjUnit u).cmds = (s.pjUnit u).cmds ++ [(d, s.pjBytes x)]) ∧
  (∀ (s : State) (d : Nat) (x : Desc),
      Waits s d .unit x →
      s.chooseUnit = none →
      (x.e.opcode = 0x23 ∨ x.e.opcode = 0x24) →
      Leads (.pjUnitAssign d) s fun t => t = s) ∧
  (∀ (s : State) (d u v : Nat) (x : Desc),
      s.desc? d = some x →
      x.stage ≠ .wait .unit →
      (List.range 8).find? (fun u => (s.pjUnit u).out && (s.pjUnit u).cmds.any (fun c => c.1 == d)) = some u →
      s.chooseUnit = some v →
      Leads (.pjUnitAssign d) s fun t => (t.pjUnit u).cmds.any (fun c => c.1 == d) = false ∧ (t.pjUnit v).cmds.any (fun c => c.1 == d) = true) ∧
  (∀ (s : State) (d : Nat) (x : Desc),
      Waits s d .unit x →
      s.waitedOut x (s.budget x.e) = true →
      s.chooseUnit = none →
      Leads (.pjUnitWaitExpired d) s fun t => Ended t d .busy) ∧
  (∀ (s : State) (u d n : Nat),
      (s.pjUnit u).served.any (fun c => c.1 == d) = true →
      n < (s.desc d).chunks →
      (s.pjUnit u).redo.any (fun r => r == (d, n)) = false →
      (s.recent (s.unitRec (unitKey 7 u))).length < 2 →
      (s.unitRec (unitKey 7 u)).queued = none →
      Leads (.pjParity u d n) s fun t => (t.pjUnit u).redo = (s.pjUnit u).redo ++ [(d, n)] ∧ (t.pjUnit u).cmds = (s.pjUnit u).cmds ∧
        t.q.descs = s.q.descs ∧ t.fld F_PJ_REDO_CNT_REDO = min (s.fld F_PJ_REDO_CNT_REDO + 1) (2 ^ F_PJ_REDO_CNT_REDO.wid - 1)) ∧
  (∀ (s : State) (u d n : Nat) (x : Desc),
      (s.pjUnit u).served.any (fun c => c.1 == d) = true →
      n < (s.desc d).chunks →
      (s.pjUnit u).redo.any (fun r => r == (d, n)) = true →
      s.desc? d = some x →
      x.stage ≠ .done →
      Leads (.pjParity u d n) s fun t => Ended t d .aborted ∧ (t.desc d).detail = 0x50) ∧
  (∀ (s : State) (u d n : Nat),
      ((s.pjUnit u).served.any (fun c => c.1 == d) = false ∨ (s.desc d).chunks ≤ n) →
      Leads (.pjParity u d n) s fun t => t = s) ∧
  (∀ (s : State) (p : Port) (u : Nat),
      s.answers p (bar0 6 0x100C) = true →
      pfOrFw p = true →
      u < 8 →
      s.jobOn 3 u 0 = false →
      (s.pjUnit u).out = false →
      Leads (.pjUReturn p u) s fun t => t.pjUnit u = { s.pjUnit u with testing := true }) ∧
  (∀ (s : State) (p : Port) (u : Nat),
      s.answers p (bar0 6 0x100C) = true →
      pfOrFw p = true →
      u < 8 →
      s.jobOn 3 u 0 = false →
      (s.pjUnit u).out = true →
      Leads (.pjUReturn p u) s fun t => (t.pjUnit u).testing = true ∧ (t.pjUnit u).cmds = [] ∧ (t.pjUnit u).out = true) ∧
  (∀ (s : State) (p : Port) (u : Nat),
      s.answers p (bar0 6 0x100C) = true →
      (pfOrFw p = false ∨ (u < 8 ∧ s.jobOn 3 u 0 = true)) →
      Leads (.pjUReturn p u) s fun t => t.pj = s.pj ∧ t.fld F_TOP_BAD_ACCESS_ADDR_OFFSET = bar0 6 0x100C) ∧
  (∀ (s : State) (u : Nat),
      (s.pjUnit u).testing = true →
      Leads (.pjUSelfTestDone u true) s fun t => t.pjUnit u = { s.pjUnit u with testing := false, out := false }) ∧
  (∀ (s : State) (u : Nat),
      (s.pjUnit u).testing = true →
      Leads (.pjUSelfTestDone u false) s fun t => t.pjUnit u = { s.pjUnit u with testing := false }) ∧
  (∀ (s : State) (u : Nat) (b : Bool),
      (s.pjUnit u).testing = false →
      Leads (.pjUSelfTestDone u b) s fun t => t = s) ∧
  (∀ (s : State) (d : Nat) (x : Desc),
      Runs s d 0x50 x →
      s.domGated 56 = false →
      placeOk x.blk x.e.len = true →
      s.budget x.e ≠ 0 →
      Leads (.place d) s fun t => (t.desc d).stage = .wait .solver) ∧
  (∀ (s : State) (d : Nat) (x : Desc),
      Runs s d 0x50 x →
      s.domGated 56 = false →
      placeOk x.blk x.e.len = true →
      s.budget x.e = 0 →
      s.pl.running = none →
      s.solverWaiters = [] →
      s.domFailed 56 = false →
      Leads (.place d) s fun t => (t.desc d).stage = .exec ∧ t.pl.running = some d ∧ t.pl.started = s.now) ∧
  (∀ (s : State) (d : Nat) (x : Desc),
      Runs s d 0x50 x →
      s.domGated 56 = false →
      placeOk x.blk x.e.len = true →
      s.budget x.e = 0 →
      (s.pl.running ≠ none ∨ s.solverWaiters ≠ [] ∨ s.domFailed 56 = true) →
      Leads (.place d) s fun t => Ended t d .busy) ∧
  (∀ (s : State) (d : Nat) (x : Desc),
      Runs s d 0x50 x →
      s.domGated 56 = false →
      placeOk x.blk x.e.len = false →
      Leads (.place d) s fun t => Ended t d .param ∧ (t.desc d).detail = 3) ∧
  (∀ (s : State) (d : Nat) (x : Desc),
      s.pl.running = none →
      s.domGated 56 = false →
      s.nextSolve = some d →
      s.desc? d = some x →
      Leads .solverStart s fun t => (t.desc d).stage = .exec ∧ t.pl.running = some d ∧ t.pl.last = x.e.tenant) ∧
  (∀ (s : State),
      (s.pl.running ≠ none ∨ s.domGated 56 = true ∨ s.nextSolve = none) →
      Leads .solverStart s fun t => t = s) ∧
  (∀ (s : State) (d : Nat) (x : Desc),
      Waits s d .solver x →
      s.waitedOut x (s.budget x.e) = true →
      s.pl.running = none →
      s.nextSolve = some d →
      Leads (.solverWaitExpired d) s fun t => (t.desc d).stage = .exec ∧ t.pl.running = some d) ∧
  (∀ (s : State) (d : Nat) (x : Desc),
      Waits s d .solver x →
      s.waitedOut x (s.budget x.e) = true →
      (s.pl.running ≠ none ∨ s.nextSolve ≠ some d) →
      Leads (.solverWaitExpired d) s fun t => Ended t d .busy) ∧
  (∀ (s : State) (d : Nat) (x : Desc),
      s.pl.running = some d →
      s.desc? d = some x →
      x.stage ≠ .done →
      (feasibility x.blk).2 = none →
      x.e.flag 9 = false →
      (s.queue x.outQ).isLink = false →
      s.noHost x.q = false →
      s.hostFault = none →
      Leads .solveComplete s fun t => Ended t d .ok ∧ t.pl.running = none ∧
        placeBytes x.blk (solve x.blk).1 ∈ t.sentTo (s.queue x.outQ).fn x.e.dest) ∧
  (∀ (s : State) (d : Nat) (x : Desc),
      s.pl.running = some d →
      s.desc? d = some x →
      x.stage ≠ .done →
      (feasibility x.blk).2 = none →
      x.e.flag 9 = true →
      s.outWaits x x.e.dest (placeBytes x.blk (solve x.blk).1).length = false →
      (((s.leaveEngine d).setFld F_PL_LAST_TIME_TICKS ((s.now - s.pl.started) % 2 ^ 32)).writeAllOrNone x.dst x.dmeta x.e.dest (placeBytes x.blk (solve x.blk).1) {} x.who).2.status = .ok →
      Leads .solveComplete s fun t => Ended t d .ok ∧ t.pl.running = none ∧
        t.mem = (((s.leaveEngine d).setFld F_PL_LAST_TIME_TICKS ((s.now - s.pl.started) % 2 ^ 32)).writeAllOrNone x.dst x.dmeta x.e.dest (placeBytes x.blk (solve x.blk).1) {} x.who).1.mem) ∧
  (∀ (s : State) (d : Nat) (x : Desc),
      s.pl.running = some d →
      s.desc? d = some x →
      (feasibility x.blk).2 = none →
      x.e.flag 9 = true →
      s.outWaits x x.e.dest (placeBytes x.blk (solve x.blk).1).length = true →
      Leads .solveComplete s fun t => t = s) ∧
  (∀ (s : State) (d : Nat) (x : Desc) (n r : Nat),
      s.pl.running = some d →
      s.desc? d = some x →
      x.stage ≠ .done →
      feasibility x.blk = (n, some r) →
      Leads .solveComplete s fun t => Ended t d .feasibility ∧ (t.desc d).res.w0 = n ∧ (t.desc d).res.w1 = r ∧ t.pl.running = none ∧
        t.mem = s.mem) ∧
  (∀ (s : State),
      s.pl.running = none →
      Leads .solveComplete s fun t => t = s) ∧
  (∀ (s : State) (d : Nat),
      s.pl.running = some d →
      inSet s.pl.redone (s.desc d).seq = false →
      (s.recent (s.unitRec (unitKey 8 0))).length < 2 →
      (s.unitRec (unitKey 8 0)).queued = none →
      Leads .plParity s fun t => inSet t.pl.redone (s.desc d).seq = true ∧ t.pl.running = some d ∧ t.q.descs = s.q.descs ∧ t.fld F_PL_RERUN_CNT_RERUN = min (s.fld F_PL_RERUN_CNT_RERUN + 1) (2 ^ F_PL_RERUN_CNT_RERUN.wid - 1)) ∧
  (∀ (s : State) (d : Nat) (x : Desc),
      s.pl.running = some d →
      s.desc? d = some x →
      x.stage ≠ .done →
      inSet s.pl.redone x.seq = true →
      Leads .plParity s fun t => Ended t d .aborted ∧ (t.desc d).detail = 0x60 ∧ t.pl.running = none) ∧
  (∀ (s : State),
      s.pl.running = none →
      Leads .plParity s fun t => t = s) ∧
  (∀ (s : State) (d : Nat) (x : Desc),
      Waits s d .tracker x →
      s.waitedOut x (s.budget x.e) = false →
      Leads (.trackerWaitExpired d) s fun t => t = s) ∧
  (∀ (s : State) (d : Nat) (x : Desc),
      Waits s d .unit x →
      s.waitedOut x (s.budget x.e) = false →
      Leads (.pjUnitWaitExpired d) s fun t => t = s) ∧
  (∀ (s : State) (d : Nat) (x : Desc),
      Waits s d .solver x →
      s.waitedOut x (s.budget x.e) = false →
      Leads (.solverWaitExpired d) s fun t => t = s)

/-- Training of a channel or stack records what it found, the timings in force and the state that follows; the last channel fixes the
interleave set and the last stack the stack set, and no unit of theirs is left in training; training of anything else changes nothing. A
LIVE unit takes up its drifts, any other none. A refresh is withheld by a self-test retention wait, postponed while the rank is busy and
fewer than 8 are postponed, and otherwise issued, and one is repaid when the rank is idle and no self-test withholds it. The first write
that waits enters a queue that has room or holds its line, and a queue that reaches HIGH drains to LOW. An alert has the commands from it on
reissued; a unit whose alerts persist retrains; its end is LIVE, where host accesses that waited for it go on, or OUT with its queues empty
and the writes that waited completing E_POISON. An activate counts; a counter that reaches the threshold clears, and a channel counts the
neighbour refreshes; the window clears all counters. (R297, R299, R308, R309, R310, R311, R313, R316, R317, R318, R319, R320) -/
def Obligations.MemoryTrainingAndRefresh : Prop :=
  (∀ (s : State) (n : Nat) (l : List Dimm) (ts : List Nat),
      n < 16 →
      s.unitState n = 1 →
      (s.dram n).trained = false →
      (∃ c ∈ List.range 16, c ≠ n ∧ (s.dram c).trained = false) →
      Leads (.ddr5Training n l ts) s fun t => (t.dram n).found = some (l.take 2) ∧ (t.dram n).trained = true ∧
        (t.dram n).timing = inForce (s.chOverrides n) ts ∧ t.fld F_MC_CH_STATUS_TIMING_CLAMPED n = b2n (timingClamped (s.chOverrides n) ts) ∧
        ((l.take 2).map (·.ranks) = [1] → t.fld F_MC_CH_CFG_MODE n = 0) ∧
        t.unitState n = (l.head?.map (fun d => if dimmSupported d = false then 6 else if d.ok = false then 5 else 1)).getD 0) ∧
  (∀ (s : State) (n : Nat) (l : List Dimm) (ts : List Nat),
      n < 16 →
      s.unitState n = 1 →
      (s.dram n).trained = false →
      (∀ c ∈ List.range 16, c ≠ n → (s.dram c).trained = true) →
      Leads (.ddr5Training n l ts) s fun t => (t.dram n).found = some (l.take 2) ∧ (t.dram n).trained = true ∧
        (∀ c ∈ List.range 16, t.unitState c ≠ 1) ∧ t.fld F_MC_STATUS_WAYS ∈ [0, 4, 8, 16]) ∧
  (∀ (s : State) (n : Nat) (l : List Dimm) (ts : List Nat),
      (16 ≤ n ∨ s.unitState n ≠ 1 ∨ (s.dram n).trained = true) →
      Leads (.ddr5Training n l ts) s fun t => t = s) ∧
  (∀ (s : State) (n : Nat) (v : Bool) (l : List (Option Nat)) (ts : List Nat) (b : Bool) (r : Nat),
      n ∈ s.stacks →
      (∀ u ∈ targetUnits (16 + n), s.unitState u = 1 ∧ (s.dram u).trained = false) →
      (∃ k ∈ s.stacks, k ≠ n ∧ ∃ u ∈ targetUnits (16 + k), (s.dram u).trained = false) →
      Leads (.hbmTraining n v l ts b r) s fun t => ∀ u ∈ targetUnits (16 + n), (t.dram u).trained = true ∧
        (t.dram u).timing = inForce s.hbOverrides ts ∧ (t.dram u).drfm = b ∧ (t.dram u).rfm = r ∧
        t.unitState u = (if v = false then 6 else if (l.getD ((u - 16) % 32) none).isNone then 5 else 1)) ∧
  (∀ (s : State) (n : Nat) (v : Bool) (l : List (Option Nat)) (ts : List Nat) (b : Bool) (r : Nat),
      n ∈ s.stacks →
      (∀ u ∈ targetUnits (16 + n), s.unitState u = 1 ∧ (s.dram u).trained = false) →
      (∀ k ∈ s.stacks, k ≠ n → ∀ u ∈ targetUnits (16 + k), (s.dram u).trained = true) →
      Leads (.hbmTraining n v l ts b r) s fun t => ∀ k ∈ s.stacks, ∀ u ∈ targetUnits (16 + k), t.unitState u ≠ 1) ∧
  (∀ (s : State) (n : Nat) (v : Bool) (l : List (Option Nat)) (ts : List Nat) (b : Bool) (r : Nat),
      (n ∉ s.stacks ∨ ∃ u ∈ targetUnits (16 + n), s.unitState u ≠ 1 ∨ (s.dram u).trained = true) →
      Leads (.hbmTraining n v l ts b r) s fun t => t = s) ∧
  (∀ (s : State) (n : Nat) (l : List Int),
      Leads (.periodicRetune n l) s fun t => ∀ u ∈ targetUnits n,
        (t.dram u).drift = if s.unitState u = 2 then addDrift (s.dram u).drift (if n < 16 then l else (l.drop ((u - 16) % 32)).take 1) else (s.dram u).drift) ∧
  (∀ (s : State) (u r : Nat) (b h : Bool),
      s.refreshWithheld u r = false →
      (s.dram u).selfRef = false →
      s.rankBusy u r b = true →
      kvGet 0 (s.dram u).pend r < 8 →
      Leads (.refreshDue u r b h) s fun t => kvGet 0 (t.dram u).pend r = kvGet 0 (s.dram u).pend r + 1 ∧ (t.dram u).halved = h) ∧
  (∀ (s : State) (u r : Nat) (b h : Bool),
      s.refreshWithheld u r = false →
      (s.dram u).selfRef = false →
      (s.rankBusy u r b = false ∨ 8 ≤ kvGet 0 (s.dram u).pend r) →
      Leads (.refreshDue u r b h) s fun t => (t.dram u).halved = h ∧ (t.dram u).refBank = (if u < 16 then (s.dram u).refBank else ((s.dram u).refBank + 1) % 48) ∧
        (t.dram u).retry.getLast? = some (.refresh r (if u < 16 then 0 else (s.dram u).refBank)) ∧ (t.dram u).pend = (s.dram u).pend ∧ (t.dram u).wq = (s.dram u).wq) ∧
  (∀ (s : State) (u r : Nat) (b h : Bool),
      s.refreshWithheld u r = true →
      Leads (.refreshDue u r b h) s fun t => t = s) ∧
  (∀ (s : State) (u r : Nat) (b h : Bool),
      s.refreshWithheld u r = false →
      (s.dram u).selfRef = true →
      Leads (.refreshDue u r b h) s fun t => t.dram u = { s.dram u with halved := h }) ∧
  (∀ (s : State) (u r : Nat) (b : Bool),
      s.refreshWithheld u r = false →
      s.rankBusy u r b = false →
      kvGet 0 (s.dram u).pend r ≠ 0 →
      Leads (.refreshRepay u r b) s fun t => kvGet 0 (t.dram u).pend r = kvGet 0 (s.dram u).pend r - 1 ∧ (t.dram u).wq = (s.dram u).wq ∧
        (t.dram u).retry.getLast? = some (.refresh r (if u < 16 then 0 else (s.dram u).refBank))) ∧
  (∀ (s : State) (u r : Nat) (b : Bool),
      (s.refreshWithheld u r = true ∨ s.rankBusy u r b = true ∨ kvGet 0 (s.dram u).pend r = 0) →
      Leads (.refreshRepay u r b) s fun t => t = s) ∧
  (∀ (s : State) (u : Nat) (e : WqEntry),
      (s.dram u).wwait.find? (fun e => !s.inCopy (e.line / 4)) = some e →
      (s.dram u).wq.length < wqSize u →
      hasLine (s.dram u).wq e.line = false →
      (s.dram u).wq.length + 1 < (if u < 16 then s.fld F_MC_WQ_CFG_HIGH else s.fld F_HB_WQ_CFG_HIGH) →
      Leads (.writeQueueRoom u) s fun t => (t.dram u).wwait = (s.dram u).wwait.filter (fun w => w.line != e.line) ∧
        (t.dram u).wq = (s.dram u).wq ++ [{ e with seqs := [] }]) ∧
  (∀ (s : State) (u : Nat) (e : WqEntry),
      (s.dram u).wwait.find? (fun e => !s.inCopy (e.line / 4)) = some e →
      hasLine (s.dram u).wq e.line = true →
      (s.dram u).wq.length < (if u < 16 then s.fld F_MC_WQ_CFG_HIGH else s.fld F_HB_WQ_CFG_HIGH) →
      Leads (.writeQueueRoom u) s fun t => (t.dram u).wwait = (s.dram u).wwait.filter (fun w => w.line != e.line) ∧
        (t.dram u).wq = mergeWq (s.dram u).wq { e with seqs := [] }) ∧
  (∀ (s : State) (u : Nat) (e : WqEntry),
      (s.dram u).wwait.find? (fun e => !s.inCopy (e.line / 4)) = some e →
      (s.dram u).wq.length < wqSize u →
      hasLine (s.dram u).wq e.line = false →
      (if u < 16 then s.fld F_MC_WQ_CFG_HIGH else s.fld F_HB_WQ_CFG_HIGH) ≤ (s.dram u).wq.length + 1 →
      s.unitState u ≠ 3 →
      (s.dram u).selfRef = false →
      Leads (.writeQueueRoom u) s fun t => (t.dram u).wwait = (s.dram u).wwait.filter (fun w => w.line != e.line) ∧
        (t.dram u).wq = ((s.dram u).wq ++ [{ e with seqs := [] }]).drop ((s.dram u).wq.length + 1 - (if u < 16 then s.fld F_MC_WQ_CFG_LOW else s.fld F_HB_WQ_CFG_LOW))) ∧
  (∀ (s : State) (u : Nat),
      (∀ e ∈ (s.dram u).wwait, s.inCopy (e.line / 4) = true ∨ (wqSize u ≤ (s.dram u).wq.length ∧ hasLine (s.dram u).wq e.line = false)) →
      Leads (.writeQueueRoom u) s fun t => t = s) ∧
  (∀ (s : State) (u n : Nat) (v : Bool),
      s.unitState u = 2 →
      Leads (.caParityAlert u n v) s fun t => (t.dram u).persist = ((s.dram u).persist || !v) ∧ (t.dram u).reissued = (s.dram u).retry.drop n ∧
        (t.dram u).alerts = s.recentAlerts (s.dram u) ++ [s.now] ∧ t.unitState u = 2) ∧
  (∀ (s : State) (u n : Nat) (v : Bool),
      s.unitState u ≠ 2 →
      Leads (.caParityAlert u n v) s fun t => t = s) ∧
  (∀ (s : State) (u : Nat),
      ((s.dram u).persist = true ∨ 16 ≤ (s.recentAlerts (s.dram u)).length) →
      s.unitState u = 2 →
      (s.unitRec (unitKey (if u < 16 then 10 else 11) (if u < 16 then u else u - 16))).running = none →
      Leads (.retrain u) s fun t => t.unitState u = 3 ∧ (t.dram u).persist = false ∧ (t.dram u).alerts = []) ∧
  (∀ (s : State) (u : Nat),
      ((s.dram u).persist = true ∨ 16 ≤ (s.recentAlerts (s.dram u)).length) →
      (s.unitState u = 3 ∨ (s.unitState u = 2 ∧ (s.unitRec (unitKey (if u < 16 then 10 else 11) (if u < 16 then u else u - 16))).running ≠ none)) →
      Leads (.retrain u) s fun t => t.unitState u = s.unitState u ∧ (t.dram u).persist = false ∧ (t.dram u).alerts = []) ∧
  (∀ (s : State) (u : Nat),
      (((s.dram u).persist = false ∧ (s.recentAlerts (s.dram u)).length < 16) ∨ (s.unitState u ≠ 2 ∧ s.unitState u ≠ 3)) →
      Leads (.retrain u) s fun t => t = s) ∧
  (∀ (s : State) (u : Nat),
      s.unitState u = 3 →
      s.hp.held = [] →
      Leads (.retrainEnd u true) s fun t => t.unitState u = 2 ∧ (t.dram u).wwait = (s.dram u).wwait) ∧
  (∀ (s v : State) (u : Nat) (a : HeldAccess),
      s.unitState u = 3 →
      s.hp.held = [a] →
      v = ((s.setUnitState u 2).drainWq u).recoveryEnd (if u < 16 then 10 else 11) (if u < 16 then u else u - 16) true →
      v.apWaits a = false →
      Leads (.retrainEnd u true) s fun t => t = ({ v with hp := { v.hp with held := [] } } : State).apFinish a ∧ t.hp.held = []) ∧
  (∀ (s : State) (u : Nat),
      s.unitState u = 3 →
      s.hp.held = [] →
      Leads (.retrainEnd u false) s fun t => t.unitState u = 4 ∧ (t.dram u).wq = [] ∧ (t.dram u).wwait = []) ∧
  (∀ (s : State) (u d : Nat) (x : Desc),
      s.unitState u = 3 →
      s.desc? d = some x →
      x.stage = .done →
      x.status = .ok →
      (s.dram u).wwait.any (fun e => inSet e.seqs x.seq) = true →
      Leads (.retrainEnd u false) s fun t => (t.desc d).stage = .done ∧ (t.desc d).status = .poison) ∧
  (∀ (s : State) (u : Nat) (v : Bool),
      s.unitState u ≠ 3 →
      Leads (.retrainEnd u v) s fun t => t = s) ∧
  (∀ (s : State) (u k r : Nat),
      (s.dram u).caErr = false →
      (activate (kvGet [] (s.dram u).act k) r).2 < (if u < 16 then s.fld F_MC_RH_CFG_THRESH else s.fld F_HB_RH_CFG_THRESH) →
      Leads (.activateThreshold u k [(r, 1)]) s fun t => kvGet [] (t.dram u).act k = (activate (kvGet [] (s.dram u).act k) r).1 ∧ t.regs = s.regs) ∧
  (∀ (s : State) (u k r : Nat),
      (if u < 16 then s.fld F_MC_RH_CFG_THRESH else s.fld F_HB_RH_CFG_THRESH) ≤ (activate (kvGet [] (s.dram u).act k) r).2 →
      Leads (.activateThreshold u k [(r, 1)]) s fun t =>
        kvGet [] (t.dram u).act k = (activate (kvGet [] (s.dram u).act k) r).1.map (fun e => if e.1 == r then (r, 0) else e) ∧
        (u < 16 → t.fld F_MC_NREF_CNT_NREF = min (s.fld F_MC_NREF_CNT_NREF + neighbours r (s.fld F_MC_RH_CFG_BLAST == 1) (s.dram u).drfm) (2 ^ F_MC_NREF_CNT_NREF.wid - 1))) ∧
  (∀ (s : State),
      Leads .activateWindowClear s fun t => ∀ u, (t.dram u).act = [] ∧ (t.dram u).wq = (s.dram u).wq)

/-- A read whose line is uncorrectable twice poisons its sector and ends the command that read it E_POISON, and one of owner records sends
their folios to DEVICE; a line that its decoder delivers leaves every queue and poison mark as they were, and when it is clean or corrected
every byte; a sector poisoned already changes nothing. A triggered rank that is LIVE starts its migration to the spare, waits while the
recovery unit of its channel is busy, and sets SPARE_EXHAUSTED without a spare; one that is not LIVE loses its trigger. The copy of a unit
advances the migration, and with nothing wrong in memory changes no byte; its end remaps the rank. RANK_RETIRE and RANK_RETURN act, or say
in LAST why not, and are counted from a port that may not send them. A failing row leaves the triggers; its folio is copied to a free spare
and the row listed, or without one EXHAUSTED is set; the end of a copy puts the remap in force. Self-refresh is entered when it is allowed
and left. (R323, R324, R325, R327, R328, R330, R331, R332, R336, R338, R590, R594) -/
def Obligations.RetirementAndSparing : Prop :=
  (∀ (s : State) (n : Nat) (f g : LineErr),
      s.poisoned (n / 4) = false →
      lineVerdict (isHotSec (n / 4)) (s.natural n f g) = .failed →
      s.metaPart (n / 4) = none →
      Leads (.uncorrectableRead n f g none) s fun t => t.poisoned (n / 4) = true ∧ t.q = s.q) ∧
  (∀ (s : State) (n : Nat) (f g : LineErr) (i : Nat),
      s.poisoned (n / 4) = false →
      lineVerdict (isHotSec (n / 4)) (s.natural n f g) = .failed →
      s.metaPart (n / 4) = some (2, i) →
      Leads (.uncorrectableRead n f g none) s fun t => ∀ k ∈ List.range' (i * 32) 32, t.folioState k = .device) ∧
  (∀ (s : State) (n : Nat) (f g : LineErr) (d : Nat) (x : Desc),
      s.poisoned (n / 4) = false →
      lineVerdict (isHotSec (n / 4)) (s.natural n f g) = .failed →
      s.desc? d = some x →
      x.stage ≠ .done →
      Leads (.uncorrectableRead n f g (some d)) s fun t => t.poisoned (n / 4) = true ∧ Ended t d .poison) ∧
  (∀ (s : State) (n : Nat) (f g : LineErr) (d : Option Nat),
      s.poisoned (n / 4) = false →
      (lineVerdict (isHotSec (n / 4)) (s.natural n f g) = .clean ∨ lineVerdict (isHotSec (n / 4)) (s.natural n f g) = .fixed) →
      d.all (fun k => (s.desc? k).isSome) = true →
      Leads (.uncorrectableRead n f g d) s fun t => t.q = s.q ∧ t.poison = s.poison ∧ t.mem = s.mem) ∧
  (∀ (s : State) (n : Nat) (f g : LineErr) (d : Option Nat),
      s.poisoned (n / 4) = false →
      lineVerdict (isHotSec (n / 4)) (s.natural n f g) ≠ .failed →
      lineVerdict (isHotSec (n / 4)) (s.natural n f g) ≠ .poison →
      Leads (.uncorrectableRead n f g d) s fun t => t.q = s.q ∧ t.poison = s.poison) ∧
  (∀ (s : State) (n : Nat) (f g : LineErr) (d : Option Nat),
      s.poisoned (n / 4) = true →
      Leads (.uncorrectableRead n f g d) s fun t => t = s) ∧
  (∀ (s : State) (n r c : Nat) (l : List (Nat × Nat)) (k : Nat),
      n < 16 →
      s.unitState n = 2 →
      s.fld F_MC_CH_CFG_MODE n = 1 →
      (s.dram n).migr = none →
      (s.recent (s.unitRec (unitKey 10 n))).length < 2 →
      (s.unitRec (unitKey 10 n)).running = none →
      (s.unitRec (unitKey 10 n)).queued = none →
      (s.unitRec (unitKey 10 n)).escBy = none →
      (s.dram n).trig = (r, c) :: l →
      kvGet 0 (s.dram n).ranks r = 1 →
      (s.dram n).rankIn 2 = some k →
      k ≠ r →
      Leads (.rankRetirement n) s fun t => (t.dram n).migr = some { src := r, tgt := k, total := (s.dram n).rankBytes / 2048 } ∧
        kvGet 0 (t.dram n).ranks r = 3 ∧ kvGet 0 (t.dram n).ranks k = 4 ∧ t.fld F_MC_CH_MIGR_ACTIVE n = 1) ∧
  (∀ (s : State) (n r c : Nat) (l : List (Nat × Nat)) (k : Nat),
      n < 16 →
      s.unitState n = 2 →
      s.fld F_MC_CH_CFG_MODE n = 1 →
      (s.dram n).migr = none →
      (s.recent (s.unitRec (unitKey 10 n))).length < 2 →
      (s.unitRec (unitKey 10 n)).running ≠ none →
      (s.unitRec (unitKey 10 n)).queued = none →
      (s.unitRec (unitKey 10 n)).escBy = none →
      (s.dram n).trig = (r, c) :: l →
      kvGet 0 (s.dram n).ranks r = 1 →
      (s.dram n).rankIn 2 = some k →
      Leads (.rankRetirement n) s fun t => t.dram n = s.dram n) ∧
  (∀ (s : State) (n r c : Nat) (l : List (Nat × Nat)),
      n < 16 →
      (s.dram n).trig = (r, c) :: l →
      kvGet 0 (s.dram n).ranks r = 1 →
      (s.dram n).rankIn 2 = none →
      Leads (.rankRetirement n) s fun t => t.fld F_MC_CH_STATUS_SPARE_EXHAUSTED n = 1 ∧ t.mc = s.mc) ∧
  (∀ (s : State) (n r c : Nat) (l : List (Nat × Nat)),
      n < 16 →
      s.unitState n = 2 →
      s.fld F_MC_CH_CFG_MODE n = 1 →
      (s.dram n).migr = none →
      (s.unitRec (unitKey 10 n)).queued = none →
      (s.dram n).trig = (r, c) :: l →
      kvGet 0 (s.dram n).ranks r ≠ 1 →
      Leads (.rankRetirement n) s fun t => t.dram n = { s.dram n with trig := l }) ∧
  (∀ (s : State) (n : Nat),
      (16 ≤ n ∨ (s.dram n).trig = []) →
      Leads (.rankRetirement n) s fun t => t = s) ∧
  (∀ (s : State) (n : Nat) (m : Migr) (l : List Nat),
      (s.dram n).migr = some m →
      m.paused = false →
      (s.dram n).selfRef = false →
      m.done < m.total →
      s.unitState n = 2 →
      s.jobOn 0 n m.tgt = false →
      Leads (.migrationUnitCopy n l) s fun t => (t.dram n).migr = some { m with done := m.done + 1 } ∧ (t.dram n).lmap = (s.dram n).lmap) ∧
  (∀ (s : State) (n : Nat) (m : Migr),
      (s.dram n).migr = some m →
      m.paused = false →
      (s.dram n).selfRef = false →
      m.done < m.total →
      s.unitState n = 2 →
      s.jobOn 0 n m.tgt = false →
      s.si.lineErr = [] →
      Leads (.migrationUnitCopy n []) s fun t => (t.dram n).migr = some { m with done := m.done + 1 } ∧ ∀ a, t.byte a = s.byte a) ∧
  (∀ (s : State) (n : Nat) (m : Migr) (l : List Nat),
      (s.dram n).migr = some m →
      (m.paused = true ∨ (s.dram n).selfRef = true ∨ m.total ≤ m.done ∨ s.unitState n ≠ 2 ∨ s.jobOn 0 n m.tgt = true) →
      Leads (.migrationUnitCopy n l) s fun t => t = s) ∧
  (∀ (s : State) (n : Nat) (m : Migr),
      (s.dram n).migr = some m →
      m.total ≤ m.done →
      Leads (.migrationComplete n) s fun t => (t.dram n).migr = none ∧ kvGet 0 (t.dram n).ranks m.tgt = 1 ∧
        (m.src ≠ m.tgt → kvGet 0 (t.dram n).ranks m.src = 5) ∧
        (t.dram n).lmap = (s.dram n).lmap.map (fun r => if r == m.src then m.tgt else r) ∧ t.fld F_MC_CH_MIGR_ACTIVE n = 0) ∧
  (∀ (s : State) (n : Nat) (m : Migr),
      (s.dram n).migr = some m →
      m.done < m.total →
      Leads (.migrationComplete n) s fun t => t = s) ∧
  (∀ (s : State) (p : Port) (n r : Nat) (k : Nat),
      s.answers p rankCtlOff = true →
      pfOrFw p = true →
      n < 16 →
      s.unitState n = 2 →
      s.fld F_MC_CH_CFG_MODE n = 1 →
      (s.dram n).migr = none →
      (s.recent (s.unitRec (unitKey 10 n))).length < 2 →
      (s.unitRec (unitKey 10 n)).running = none →
      (s.unitRec (unitKey 10 n)).queued = none →
      (s.unitRec (unitKey 10 n)).escBy = none →
      kvGet 0 (s.dram n).ranks (r % 8) = 1 →
      (s.dram n).rankIn 2 = some k →
      k ≠ r % 8 →
      Leads (.rankRetire p n r) s fun t => (t.dram n).migr = some { src := r % 8, tgt := k, total := (s.dram n).rankBytes / 2048 } ∧
        kvGet 0 (t.dram n).ranks (r % 8) = 3 ∧ kvGet 0 (t.dram n).ranks k = 4 ∧ t.fld F_MC_CH_LAST_LAST n = 0) ∧
  (∀ (s : State) (p : Port) (n r : Nat),
      s.answers p rankCtlOff = true →
      pfOrFw p = true →
      n < 16 →
      s.fld F_MC_CH_CFG_MODE n ≠ 1 →
      Leads (.rankRetire p n r) s fun t => t.mc = s.mc ∧ t.fld F_MC_CH_LAST_LAST n = 1) ∧
  (∀ (s : State) (p : Port) (n r : Nat),
      s.answers p rankCtlOff = true →
      pfOrFw p = true →
      n < 16 →
      s.fld F_MC_CH_CFG_MODE n = 1 →
      (s.dram n).migr ≠ none →
      Leads (.rankRetire p n r) s fun t => t.mc = s.mc ∧ t.fld F_MC_CH_LAST_LAST n = 3) ∧
  (∀ (s : State) (p : Port) (n r : Nat),
      s.answers p rankCtlOff = true →
      pfOrFw p = true →
      n < 16 →
      s.fld F_MC_CH_CFG_MODE n = 1 →
      (s.dram n).migr = none →
      (s.dram n).rankIn 2 = none →
      Leads (.rankRetire p n r) s fun t => t.mc = s.mc ∧ t.fld F_MC_CH_LAST_LAST n = 2) ∧
  (∀ (s : State) (p : Port) (n r : Nat),
      s.answers p rankCtlOff = true →
      pfOrFw p = true →
      n < 16 →
      s.fld F_MC_CH_CFG_MODE n = 1 →
      (s.dram n).migr = none →
      (s.dram n).rankIn 2 ≠ none →
      kvGet 0 (s.dram n).ranks (r % 8) ≠ 1 →
      Leads (.rankRetire p n r) s fun t => t.mc = s.mc ∧ t.fld F_MC_CH_LAST_LAST n = 5) ∧
  (∀ (s : State) (p : Port) (n r : Nat),
      s.answers p rankCtlOff = true →
      pfOrFw p = false →
      Leads (.rankRetire p n r) s fun t => t.mc = s.mc ∧ t.fld F_TOP_BAD_ACCESS_ADDR_OFFSET = rankCtlOff) ∧
  (∀ (s : State) (p : Port) (n r : Nat),
      s.answers p rankCtlOff = true →
      pfOrFw p = true →
      n < 16 →
      kvGet 0 (s.dram n).ranks (r % 8) = 5 →
      s.jobOn 0 n (r % 8) = false →
      (s.dram n).rankIn 2 = none →
      (s.dram n).rankIn 3 = none →
      (s.dram n).rankIn 4 = none →
      bit (s.fld F_SI_T_PASS_PASS n) (r % 8) = true →
      Leads (.rankReturn p n r) s fun t => kvGet 0 (t.dram n).ranks (r % 8) = 2 ∧ t.fld F_MC_CH_LAST_LAST n = 0) ∧
  (∀ (s : State) (p : Port) (n r : Nat),
      s.answers p rankCtlOff = true →
      pfOrFw p = true →
      n < 16 →
      s.jobOn 0 n (r % 8) = false →
      kvGet 0 (s.dram n).ranks (r % 8) ≠ 5 →
      Leads (.rankReturn p n r) s fun t => t.mc = s.mc ∧ t.fld F_MC_CH_LAST_LAST n = 5) ∧
  (∀ (s : State) (p : Port) (n r : Nat),
      s.answers p rankCtlOff = true →
      pfOrFw p = true →
      n < 16 →
      (s.jobOn 0 n (r % 8) = true ∨ (kvGet 0 (s.dram n).ranks (r % 8) = 5 ∧ ((s.dram n).rankIn 2 ≠ none ∨ (s.dram n).rankIn 3 ≠ none ∨ (s.dram n).rankIn 4 ≠ none))) →
      Leads (.rankReturn p n r) s fun t => t.mc = s.mc ∧ t.fld F_MC_CH_LAST_LAST n = 3) ∧
  (∀ (s : State) (p : Port) (n r : Nat),
      s.answers p rankCtlOff = true →
      pfOrFw p = true →
      n < 16 →
      kvGet 0 (s.dram n).ranks (r % 8) = 5 →
      s.jobOn 0 n (r % 8) = false →
      (s.dram n).rankIn 2 = none →
      (s.dram n).rankIn 3 = none →
      (s.dram n).rankIn 4 = none →
      bit (s.fld F_SI_T_PASS_PASS n) (r % 8) = false →
      Leads (.rankReturn p n r) s fun t => t.mc = s.mc ∧ t.fld F_MC_CH_LAST_LAST n = 4) ∧
  (∀ (s : State) (p : Port) (n r : Nat),
      s.answers p rankCtlOff = true →
      pfOrFw p = false →
      Leads (.rankReturn p n r) s fun t => t.mc = s.mc ∧ t.fld F_TOP_BAD_ACCESS_ADDR_OFFSET = rankCtlOff) ∧
  (∀ (s : State) (u k r : Nat),
      s.mc.rowTrig.any (fun x => x == { unit := u, bank := k, row := r }) = true →
      Leads (.rowSpare u k r) s fun t => t.mc.rowTrig.any (fun x => x == { unit := u, bank := k, row := r }) = false) ∧
  (∀ (s : State) (u k r : Nat) (n v : Nat),
      s.mc.rowTrig.any (fun x => x == { unit := u, bank := k, row := r }) = true →
      s.rowFolios { unit := u, bank := k, row := r } = [n] →
      s.mc.remap = [] →
      s.isSpare n = false →
      s.freeSpare = some v →
      Leads (.rowSpare u k r) s fun t => t.mc.remap = [{ dfn := n, spare := v, unit := u }] ∧
        t.mc.repairList.any (fun x => x == { unit := u, bank := k, row := r }) = true) ∧
  (∀ (s : State) (u k r : Nat) (n : Nat),
      s.mc.rowTrig.any (fun x => x == { unit := u, bank := k, row := r }) = true →
      s.rowFolios { unit := u, bank := k, row := r } = [n] →
      s.mc.remap = [] →
      s.isSpare n = false →
      s.freeSpare = none →
      Leads (.rowSpare u k r) s fun t => t.mc.remap = [] ∧ t.fld F_HB_SPARE_STATUS_EXHAUSTED = 1 ∧ t.mc.repairList = s.mc.repairList) ∧
  (∀ (s : State) (u k r : Nat),
      s.mc.rowTrig.any (fun x => x == { unit := u, bank := k, row := r }) = false →
      Leads (.rowSpare u k r) s fun t => t = s) ∧
  (∀ (s : State) (n : Nat) (k : Spare) (l : List Nat),
      s.ck.power = 0 →
      s.mc.remap.find? (fun r => r.dfn == n && r.copying) = some k →
      Leads (.spareCopyComplete n l) s fun t => t.mc.remap.any (fun r => r.dfn == n && r.copying) = false ∧
        t.mc.remap.any (fun r => r.dfn == n && r.spare == k.spare) = true ∧ t.fld F_HB_SPARED_CNT_SPARED = min (s.fld F_HB_SPARED_CNT_SPARED + 1) (2 ^ F_HB_SPARED_CNT_SPARED.wid - 1)) ∧
  (∀ (s : State) (n : Nat) (k : Spare),
      s.ck.power = 0 →
      s.mc.remap.find? (fun r => r.dfn == n && r.copying) = some k →
      s.si.lineErr = [] →
      Leads (.spareCopyComplete n []) s fun t => ∀ a, t.byte a = s.byte a) ∧
  (∀ (s : State) (n : Nat) (l : List Nat),
      (s.ck.power ≠ 0 ∨ s.mc.remap.find? (fun r => r.dfn == n && r.copying) = none) →
      Leads (.spareCopyComplete n l) s fun t => t = s) ∧
  (∀ (s : State) (n : Nat),
      n < 20 →
      s.fld F_CK_PWR_CFG_DEEPEST = 2 →
      s.inService n = true →
      s.maintenance n = false →
      (∀ u ∈ targetUnits n, (s.dram u).wwait = [] ∧ (s.dram u).selfRef = false) →
      Leads (.selfRefreshEntry n) s fun t => ∀ u ∈ targetUnits n, (t.dram u).selfRef = true ∧ (t.dram u).wq = [] ∧ (t.dram u).pend = []) ∧
  (∀ (s : State) (n : Nat),
      (s.fld F_CK_PWR_CFG_DEEPEST ≠ 2 ∨ s.inService n = false ∨ s.maintenance n = true ∨ ∃ u ∈ targetUnits n, (s.dram u).wwait ≠ [] ∨ (s.dram u).selfRef = true) →
      Leads (.selfRefreshEntry n) s fun t => t = s) ∧
  (∀ (s : State) (n : Nat),
      n < 20 →
      (∃ u ∈ targetUnits n, (s.dram u).selfRef = true) →
      Leads (.selfRefreshExit n) s fun t => ∀ u ∈ targetUnits n, (t.dram u).selfRef = false ∧ (s.hp.held = [] → (t.dram u).wq = (s.dram u).wq)) ∧
  (∀ (s : State) (n : Nat),
      (∀ u ∈ targetUnits n, (s.dram u).selfRef = false) →
      Leads (.selfRefreshExit n) s fun t => t = s)

/-- The scrubber of a target in service that is not stopped reads its next line, begins the next pass after the last, counts a corrected
line and leaves every byte, and poisons and counts an uncorrectable one; one that is stopped does nothing. SCRUB_CTL sets the period,
pauses, resumes or restarts every scrubber it names and ends OK, or ends E_PARAM when it names none or its hours are out of place. BIST_RUN
starts a job on an allowed target, BIST_ABORT stops one, BIST_REPAIR writes its records back and clears the pass, or ends E_ABORTED when the
host port cannot take them; each ends E_PARAM, E_BUSY or E_UNSUPPORTED as Table 11.10 says otherwise. A slice advances its job, and the end
of a job that has run or was stopped sets the state and, with four patterns and no failure, the pass. (R357, R359, R361, R362, R363, R364,
R365, R366, R367, R369, R372, 11_stored_data_integrity.md) -/
def Obligations.ScrubAndSelfTestComplete : Prop :=
  (∀ (s : State) (n : Nat) (f g : LineErr) (v : Bool),
      s.scrubs n = true →
      s.scrubStopped n = false →
      (s.scrubber n).pos + 1 < s.scrubLines n →
      Leads (.scrubRead n f g v) s fun t => (t.scrubber n).pos = (s.scrubber n).pos + 1 ∧ (t.scrubber n).late = v) ∧
  (∀ (s : State) (n : Nat) (f g : LineErr) (v : Bool),
      s.scrubs n = true →
      s.scrubStopped n = false →
      s.scrubLines n ≤ (s.scrubber n).pos + 1 →
      Leads (.scrubRead n f g v) s fun t => (t.scrubber n).pos = 0 ∧ (t.scrubber n).counted = [] ∧ t.fld F_SI_T_PASSES_PASSES n = (s.fld F_SI_T_PASSES_PASSES n + 1) % 2 ^ F_SI_T_PASSES_PASSES.wid) ∧
  (∀ (s : State) (n : Nat) (f g : LineErr) (v : Bool) (k : Nat),
      s.scrubs n = true →
      s.scrubStopped n = false →
      s.scrubSector n (s.scrubber n).pos = some k →
      s.poisoned k = false →
      lineVerdict (isHotSec k) (s.natural (k * 4 + (s.scrubber n).pos % 4) f g) = .fixed →
      Leads (.scrubRead n f g v) s fun t => t.mem = s.mem ∧ t.poison = s.poison ∧ t.fld F_SI_T_SCRUB_CE_CE n = min (s.fld F_SI_T_SCRUB_CE_CE n + 1) (2 ^ F_SI_T_SCRUB_CE_CE.wid - 1)) ∧
  (∀ (s : State) (n : Nat) (f g : LineErr) (v : Bool) (k : Nat),
      s.scrubs n = true →
      s.scrubStopped n = false →
      s.scrubSector n (s.scrubber n).pos = some k →
      s.poisoned k = false →
      lineVerdict (isHotSec k) (s.natural (k * 4 + (s.scrubber n).pos % 4) f g) = .failed →
      Leads (.scrubRead n f g v) s fun t => t.poisoned k = true ∧ t.fld F_SI_T_SCRUB_UE_UE n = min (s.fld F_SI_T_SCRUB_UE_UE n + 1) (2 ^ F_SI_T_SCRUB_UE_UE.wid - 1)) ∧
  (∀ (s : State) (n : Nat) (f g : LineErr) (v : Bool) (k : Nat),
      s.scrubs n = true →
      s.scrubStopped n = false →
      s.scrubSector n (s.scrubber n).pos = some k →
      (lineVerdict (isHotSec k) (s.natural (k * 4 + (s.scrubber n).pos % 4) f g) = .clean ∨ s.poisoned k = true) →
      Leads (.scrubRead n f g v) s fun t => t.mem = s.mem ∧ t.poison = s.poison) ∧
  (∀ (s : State) (n : Nat) (f g : LineErr) (v : Bool),
      (s.scrubs n = false ∨ s.scrubStopped n = true) →
      Leads (.scrubRead n f g v) s fun t => t = s) ∧
  (∀ (s : State) (d : Nat) (x : Desc),
      Runs s d 0x7D x →
      bits x.e.opA 8 4 = 0 →
      s.scrubNamed (bits x.e.opA 0 8) ≠ [] →
      1 ≤ bits x.e.opB 0 11 →
      bits x.e.opB 0 11 ≤ 1024 →
      Leads (.scrubSetPeriod d) s fun t => Ended t d .ok ∧ ∀ k ∈ s.scrubNamed (bits x.e.opA 0 8), t.fld F_SI_T_SCRUB_PERIOD k = bits x.e.opB 0 11) ∧
  (∀ (s : State) (d : Nat) (x : Desc),
      Runs s d 0x7D x →
      bits x.e.opA 8 4 = 0 →
      (s.scrubNamed (bits x.e.opA 0 8) = [] ∨ bits x.e.opB 0 11 = 0 ∨ 1024 < bits x.e.opB 0 11) →
      Leads (.scrubSetPeriod d) s fun t => Ended t d .param ∧ t.si = s.si) ∧
  (∀ (s : State) (d : Nat) (x : Desc),
      Runs s d 0x7D x →
      bits x.e.opA 8 4 ≠ 0 →
      Leads (.scrubSetPeriod d) s fun t => t = s) ∧
  (∀ (s : State) (d : Nat) (x : Desc),
      Runs s d 0x7D x →
      bits x.e.opA 8 4 = 1 →
      s.scrubNamed (bits x.e.opA 0 8) ≠ [] →
      bits x.e.opB 0 11 = 0 →
      Leads (.scrubPause d) s fun t => Ended t d .ok ∧ ∀ k ∈ s.scrubNamed (bits x.e.opA 0 8), (t.scrubber k).held = true) ∧
  (∀ (s : State) (d : Nat) (x : Desc),
      Runs s d 0x7D x →
      bits x.e.opA 8 4 = 1 →
      (s.scrubNamed (bits x.e.opA 0 8) = [] ∨ bits x.e.opB 0 11 ≠ 0) →
      Leads (.scrubPause d) s fun t => Ended t d .param ∧ t.si = s.si) ∧
  (∀ (s : State) (d : Nat) (x : Desc),
      Runs s d 0x7D x →
      bits x.e.opA 8 4 ≠ 1 →
      Leads (.scrubPause d) s fun t => t = s) ∧
  (∀ (s : State) (d : Nat) (x : Desc),
      Runs s d 0x7D x →
      bits x.e.opA 8 4 = 2 →
      s.scrubNamed (bits x.e.opA 0 8) ≠ [] →
      bits x.e.opB 0 11 = 0 →
      Leads (.scrubResume d) s fun t => Ended t d .ok ∧ ∀ k ∈ s.scrubNamed (bits x.e.opA 0 8), (t.scrubber k).held = false) ∧
  (∀ (s : State) (d : Nat) (x : Desc),
      Runs s d 0x7D x →
      bits x.e.opA 8 4 = 2 →
      (s.scrubNamed (bits x.e.opA 0 8) = [] ∨ bits x.e.opB 0 11 ≠ 0) →
      Leads (.scrubResume d) s fun t => Ended t d .param ∧ t.si = s.si) ∧
  (∀ (s : State) (d : Nat) (x : Desc),
      Runs s d 0x7D x →
      bits x.e.opA 8 4 ≠ 2 →
      Leads (.scrubResume d) s fun t => t = s) ∧
  (∀ (s : State) (d : Nat) (x : Desc),
      Runs s d 0x7D x →
      bits x.e.opA 8 4 = 3 →
      s.scrubNamed (bits x.e.opA 0 8) ≠ [] →
      bits x.e.opB 0 11 = 0 →
      Leads (.scrubRestartPass d) s fun t => Ended t d .ok ∧ ∀ k ∈ s.scrubNamed (bits x.e.opA 0 8), (t.scrubber k).pos = 0) ∧
  (∀ (s : State) (d : Nat) (x : Desc),
      Runs s d 0x7D x →
      bits x.e.opA 8 4 = 3 →
      (s.scrubNamed (bits x.e.opA 0 8) = [] ∨ bits x.e.opB 0 11 ≠ 0) →
      Leads (.scrubRestartPass d) s fun t => Ended t d .param ∧ t.si = s.si) ∧
  (∀ (s : State) (d : Nat) (x : Desc),
      Runs s d 0x7D x →
      bits x.e.opA 8 4 ≠ 3 →
      Leads (.scrubRestartPass d) s fun t => t = s) ∧
  (∀ (s : State) (d n : Nat) (x : Desc),
      Runs s d 0x7C x →
      x.e.flag 8 = false →
      x.e.flag 10 = false →
      bistOk x.e x.e.bist = true →
      s.bistAllowed x.e.bist = true →
      s.jobOn x.e.bist.kind x.e.bist.index x.e.bist.rank = false →
      s.si.jobs.length < 16 →
      Leads (.bistRun d n) s fun t => Ended t d .ok ∧ t.si.jobs.length = s.si.jobs.length + 1 ∧
        t.jobOn x.e.bist.kind x.e.bist.index x.e.bist.rank = true ∧ t.fld F_SI_T_BIST_STATE x.e.bist.target = 1 ∧ (t.desc d).res.w1 = max 8 n) ∧
  (∀ (s : State) (d n : Nat) (x : Desc),
      Runs s d 0x7C x →
      x.e.flag 8 = false →
      x.e.flag 10 = false →
      bistOk x.e x.e.bist = false →
      Leads (.bistRun d n) s fun t => Ended t d .param ∧ t.si = s.si) ∧
  (∀ (s : State) (d n : Nat) (x : Desc),
      Runs s d 0x7C x →
      x.e.flag 8 = false →
      x.e.flag 10 = false →
      bistOk x.e x.e.bist = true →
      s.bistAllowed x.e.bist = false →
      Leads (.bistRun d n) s fun t => Ended t d .busy ∧ (t.desc d).detail = 1 ∧ t.si = s.si) ∧
  (∀ (s : State) (d n : Nat) (x : Desc),
      Runs s d 0x7C x →
      x.e.flag 8 = false →
      x.e.flag 10 = false →
      bistOk x.e x.e.bist = true →
      s.bistAllowed x.e.bist = true →
      (s.jobOn x.e.bist.kind x.e.bist.index x.e.bist.rank = true ∨ 16 ≤ s.si.jobs.length) →
      Leads (.bistRun d n) s fun t => Ended t d .busy ∧ (t.desc d).detail = 2 ∧ t.si = s.si) ∧
  (∀ (s : State) (d : Nat) (x : Desc),
      Runs s d 0x7C x →
      x.e.flag 10 = true →
      bistOk x.e x.e.bist = true →
      s.jobOn x.e.bist.kind x.e.bist.index x.e.bist.rank = true →
      Leads (.bistAbort d) s fun t => Ended t d .ok ∧
        ∀ j ∈ t.si.jobs, j.kind = x.e.bist.kind → j.index = x.e.bist.index → j.rank = x.e.bist.rank → j.stopping = true) ∧
  (∀ (s : State) (d : Nat) (x : Desc),
      Runs s d 0x7C x →
      x.e.flag 10 = true →
      (bistOk x.e x.e.bist = false ∨ s.jobOn x.e.bist.kind x.e.bist.index x.e.bist.rank = false) →
      Leads (.bistAbort d) s fun t => Ended t d .param ∧ t.si = s.si) ∧
  (∀ (s : State) (d : Nat) (b : List Byte) (l : List Nat) (x : Desc),
      Runs s d 0x7C x →
      x.e.flag 8 = true →
      x.e.flag 10 = false →
      s.noHost x.q = false →
      s.fld F_SE_STATUS_LC ≠ 4 →
      bistOk x.e x.e.bist = true →
      s.bistAllowed x.e.bist = true →
      s.jobOn x.e.bist.kind x.e.bist.index x.e.bist.rank = false →
      s.hostFault = none →
      Leads (.bistRepair d b l) s fun t => Ended t d .ok ∧ bit (t.fld F_SI_T_PASS_PASS x.e.bist.target) x.e.bist.rank = false ∧
        t.mem = s.mem ∧ ∃ c ∈ t.sentTo (s.queue x.q).fn x.e.opB, c.length = x.e.len) ∧
  (∀ (s : State) (d : Nat) (b : List Byte) (l : List Nat) (x : Desc) (k : Nat),
      Runs s d 0x7C x →
      x.e.flag 8 = true →
      x.e.flag 10 = false →
      s.noHost x.q = false →
      s.fld F_SE_STATUS_LC ≠ 4 →
      bistOk x.e x.e.bist = true →
      s.bistAllowed x.e.bist = true →
      s.jobOn x.e.bist.kind x.e.bist.index x.e.bist.rank = false →
      s.hostFault = some k →
      Leads (.bistRepair d b l) s fun t => Ended t d .aborted ∧ (t.desc d).detail = k ∧ bit (t.fld F_SI_T_PASS_PASS x.e.bist.target) x.e.bist.rank = false) ∧
  (∀ (s : State) (d : Nat) (b : List Byte) (l : List Nat) (x : Desc),
      Runs s d 0x7C x →
      s.noHost x.q = true →
      Leads (.bistRepair d b l) s fun t => t = s) ∧
  (∀ (s : State) (d : Nat) (b : List Byte) (l : List Nat) (x : Desc),
      Runs s d 0x7C x →
      x.e.flag 8 = true →
      x.e.flag 10 = false →
      s.noHost x.q = false →
      s.fld F_SE_STATUS_LC = 4 →
      Leads (.bistRepair d b l) s fun t => Ended t d .unsupported) ∧
  (∀ (s : State) (d : Nat) (b : List Byte) (l : List Nat) (x : Desc),
      Runs s d 0x7C x →
      x.e.flag 8 = true →
      x.e.flag 10 = false →
      s.noHost x.q = false →
      s.fld F_SE_STATUS_LC ≠ 4 →
      bistOk x.e x.e.bist = false →
      Leads (.bistRepair d b l) s fun t => Ended t d .param) ∧
  (∀ (s : State) (d : Nat) (b : List Byte) (l : List Nat) (x : Desc),
      Runs s d 0x7C x →
      x.e.flag 8 = true →
      x.e.flag 10 = false →
      s.noHost x.q = false →
      s.fld F_SE_STATUS_LC ≠ 4 →
      bistOk x.e x.e.bist = true →
      s.bistAllowed x.e.bist = false →
      Leads (.bistRepair d b l) s fun t => Ended t d .busy ∧ (t.desc d).detail = 1) ∧
  (∀ (s : State) (d : Nat) (b : List Byte) (l : List Nat) (x : Desc),
      Runs s d 0x7C x →
      x.e.flag 8 = true →
      x.e.flag 10 = false →
      s.noHost x.q = false →
      s.fld F_SE_STATUS_LC ≠ 4 →
      bistOk x.e x.e.bist = true →
      s.bistAllowed x.e.bist = true →
      s.jobOn x.e.bist.kind x.e.bist.index x.e.bist.rank = true →
      Leads (.bistRepair d b l) s fun t => Ended t d .busy ∧ (t.desc d).detail = 2) ∧
  (∀ (s : State) (k i r : Nat) (l : List (List Byte)) (j : BistJob),
      s.job? k i r = some j →
      j.stopping = false →
      j.paused = false →
      j.ran < j.planned →
      j.waitTill ≤ s.now →
      (l.take (j.room - j.written) = [] ∨ s.fnSilent j.fn = false) →
      Leads (.bistSlice k i r l) s fun t => (t.job? k i r).map (fun y => (y.ran, y.fails)) = some (j.ran + 1, j.fails + l.length)) ∧
  (∀ (s : State) (k i r : Nat) (l : List (List Byte)) (j : BistJob),
      s.job? k i r = some j →
      (j.stopping = true ∨ j.paused = true ∨ j.planned ≤ j.ran ∨ s.now < j.waitTill ∨ (l.take (j.room - j.written) ≠ [] ∧ s.fnSilent j.fn = true)) →
      Leads (.bistSlice k i r l) s fun t => t = s) ∧
  (∀ (s : State) (k i r : Nat) (j : BistJob),
      s.job? k i r = some j →
      j.stopping = false →
      j.planned ≤ j.ran →
      r < 8 →
      Leads (.bistJobEnd k i r) s fun t => j ∉ t.si.jobs ∧ t.fld F_SI_T_BIST_STATE (bistTarget k i) = 3 ∧
        (j.patterns = 15 → j.fails = 0 → bit (t.fld F_SI_T_PASS_PASS (bistTarget k i)) r = true)) ∧
  (∀ (s : State) (k i r : Nat) (j : BistJob),
      s.job? k i r = some j →
      j.stopping = true →
      Leads (.bistJobEnd k i r) s fun t => j ∉ t.si.jobs ∧ t.fld F_SI_T_BIST_STATE (bistTarget k i) = 4 ∧
        t.fld F_SI_T_PASS_PASS (bistTarget k i) = s.fld F_SI_T_PASS_PASS (bistTarget k i)) ∧
  (∀ (s : State) (k i r : Nat) (j : BistJob),
      s.job? k i r = some j →
      j.stopping = false →
      j.ran < j.planned →
      Leads (.bistJobEnd k i r) s fun t => t = s)

/-- FIRE of an injection that is not refused holds its line and kind and reads in progress; a refused one reads refused, one in progress
stands, and one from a port the window does not answer, or that may not write, arms nothing. The end of an injection leaves the inverted
bits in the line, the marked channel, or the inverted tag bit, with every byte of memory kept where the line decodes clean or corrected;
where the first read is uncorrectable it refuses and poisons the sector. A write-queue parity error poisons the sector of the line; a
descriptor or translation-store error aborts the command with detail 0x70; a stash error removes the stash entry and a hot-cache error keeps
the index unless it escalates the catalog, which then removes the entries. Metadata that is unreadable twice, or poisoned, loses or closes
what Table 20.6 says by its code; metadata that a second read gives changes nothing. (R323, R356, R370, R371, R375, R671,
11_stored_data_integrity.md, 20_errors_and_recovery.md) -/
def Obligations.InjectionAndParityTakeEffect : Prop :=
  (∀ (s : State) (p : Port),
      s.answers p (bar0 10 0x1C) = true →
      pfOrFw p = true →
      s.fld F_SI_INJ_STATUS_LAST ≠ 3 →
      s.injRefused = false →
      Leads (.injectFire p) s fun t => t.si.inject = some (s.injLine * 8 + s.fld F_SI_INJ_CFG_KIND) ∧ t.fld F_SI_INJ_STATUS_LAST = 3) ∧
  (∀ (s : State) (p : Port),
      s.answers p (bar0 10 0x1C) = true →
      pfOrFw p = true →
      s.fld F_SI_INJ_STATUS_LAST ≠ 3 →
      s.injRefused = true →
      Leads (.injectFire p) s fun t => t.si = s.si ∧ t.fld F_SI_INJ_STATUS_LAST = 2) ∧
  (∀ (s : State) (p : Port),
      s.answers p (bar0 10 0x1C) = true →
      pfOrFw p = true →
      s.fld F_SI_INJ_STATUS_LAST = 3 →
      Leads (.injectFire p) s fun t => t = s) ∧
  (∀ (s : State) (p : Port),
      (s.answers p (bar0 10 0x1C) = false ∨ pfOrFw p = false) →
      Leads (.injectFire p) s fun t => t.si = s.si ∧ t.fld F_SI_INJ_STATUS_LAST = s.fld F_SI_INJ_STATUS_LAST) ∧
  (∀ (s : State) (n : Nat),
      s.si.inject = some (n * 8 + 1) →
      (lineVerdict (isHotSec (n / 4)) (s.errOf n) = .clean ∨ lineVerdict (isHotSec (n / 4)) (s.errOf n) = .fixed) →
      Leads (.injectionDone) s fun t => t.errOf n = injectErr (isHotSec (n / 4)) 1 (s.fld F_SI_INJ_CFG_DEV0) (s.fld F_SI_INJ_CFG_DEV1) (s.fld F_SI_INJ_CFG_BIT0) (s.fld F_SI_INJ_CFG_BIT1) ∧
        t.mem = s.mem ∧ t.si.inject = none ∧ t.fld F_SI_INJ_STATUS_LAST = 1) ∧
  (∀ (s : State) (n : Nat),
      s.si.inject = some (n * 8 + 2) →
      (lineVerdict (isHotSec (n / 4)) (s.errOf n) = .clean ∨ lineVerdict (isHotSec (n / 4)) (s.errOf n) = .fixed) →
      Leads (.injectionDone) s fun t => t.errOf n = injectErr (isHotSec (n / 4)) 2 (s.fld F_SI_INJ_CFG_DEV0) (s.fld F_SI_INJ_CFG_DEV1) (s.fld F_SI_INJ_CFG_BIT0) (s.fld F_SI_INJ_CFG_BIT1) ∧
        t.mem = s.mem ∧ t.si.inject = none ∧ t.fld F_SI_INJ_STATUS_LAST = 1) ∧
  (∀ (s : State) (n : Nat),
      s.si.inject = some (n * 8 + 3) →
      (lineVerdict (isHotSec (n / 4)) (s.errOf n) = .clean ∨ lineVerdict (isHotSec (n / 4)) (s.errOf n) = .fixed) →
      Leads (.injectionDone) s fun t => (t.dram (s.unitOf (n / 4))).caErr = true ∧
        t.mem = s.mem ∧ t.si.inject = none ∧ t.fld F_SI_INJ_STATUS_LAST = 1) ∧
  (∀ (s : State) (n : Nat),
      s.si.inject = some (n * 8 + 4) →
      (lineVerdict (isHotSec (n / 4)) (s.errOf n) = .clean ∨ lineVerdict (isHotSec (n / 4)) (s.errOf n) = .fixed) →
      Leads (.injectionDone) s fun t => t.tag (n / 4) = s.tag (n / 4) ^^^ 1 ∧ t.mem = s.mem ∧ t.si.inject = none ∧
        t.fld F_SI_INJ_STATUS_LAST = 1) ∧
  (∀ (s : State) (v : Nat),
      s.si.inject = some v →
      lineVerdict (isHotSec (v / 8 / 4)) (s.errOf (v / 8)) = .failed →
      Leads (.injectionDone) s fun t => t.poisoned (v / 8 / 4) = true ∧ t.si.inject = none ∧ t.fld F_SI_INJ_STATUS_LAST = 2) ∧
  (∀ (s : State),
      s.si.inject = none →
      Leads (.injectionDone) s fun t => t = s) ∧
  (∀ (s : State) (n : Nat),
      hasLine (s.dram (s.unitOf (n / 4))).wq n = true →
      Leads (.wqParity n) s fun t => t.poisoned (n / 4) = true ∧ t.fld F_SI_POISON_CNT_POISONED = min (s.fld F_SI_POISON_CNT_POISONED + 1) (2 ^ F_SI_POISON_CNT_POISONED.wid - 1)) ∧
  (∀ (s : State) (n : Nat),
      hasLine (s.dram (s.unitOf (n / 4))).wq n = false →
      Leads (.wqParity n) s fun t => t = s) ∧
  (∀ (s : State) (d : Nat) (unf : List Nat) (x : Desc),
      s.desc? d = some x →
      x.stage ≠ .done →
      Leads (.descParity d unf) s fun t => Ended t d .aborted ∧ (t.desc d).detail = 0x70) ∧
  (∀ (s : State) (d : Nat) (unf : List Nat),
      s.desc? d = none →
      Leads (.descParity d unf) s fun t => t = s) ∧
  (∀ (s : State) (n : Nat) (e : IndexEntry),
      s.ct.stash[n]? = some e →
      Leads (.ctStashParity n) s fun t => t.ct.stash.length < s.ct.stash.length) ∧
  (∀ (s : State) (n i : Nat) (e : IndexEntry),
      s.ct.stash[n]? = some e →
      s.handleIdx e.handle = some i →
      (s.seg i).refs ≠ 0 →
      (s.seg i).bad = false →
      Leads (.ctStashParity n) s fun t => t.ct.stash = s.ct.stash.eraseIdx n ∧ t.seg i = { s.seg i with inIndex := false }) ∧
  (∀ (s : State) (n : Nat),
      s.ct.stash.length ≤ n →
      Leads (.ctStashParity n) s fun t => t = s) ∧
  (∀ (s : State) (n : Nat) (h : Nat),
      s.ct.hot[n]? = some h →
      (s.recent (s.unitRec (unitKey 9 0))).length < 2 →
      (s.unitRec (unitKey 9 0)).queued = none →
      Leads (.ctCacheParity n) s fun t => t.ct = s.ct) ∧
  (∀ (s : State) (n : Nat) (h : Nat),
      s.ct.hot[n]? = some h →
      2 ≤ (s.recent (s.unitRec (unitKey 9 0))).length →
      (s.unitRec (unitKey 9 0)).escBy = none →
      Leads (.ctCacheParity n) s fun t => ∀ e ∈ t.entries, e.hash ≠ h) ∧
  (∀ (s : State) (n : Nat),
      s.ct.hot.length ≤ n →
      Leads (.ctCacheParity n) s fun t => t = s) ∧
  (∀ (s : State) (n : Nat) (v : Bool) (unf : List Nat),
      (v = true ∨ s.poisoned (s.metaItem 1 n) = true) →
      Leads (.metadataUe 1 n v unf) s fun t => inSet t.map.badMirror n = true) ∧
  (∀ (s : State) (n : Nat) (v : Bool) (unf : List Nat),
      (v = true ∨ s.poisoned (s.metaItem 2 n) = true) →
      Leads (.metadataUe 2 n v unf) s fun t => ∀ f ∈ List.range' (n * 32) 32, inSet t.map.device f = true) ∧
  (∀ (s : State) (n : Nat) (v : Bool) (unf : List Nat),
      (v = true ∨ s.poisoned (s.metaItem 3 n) = true) →
      (s.stream n).st = .active →
      s.wmEnded n = [] →
      s.streamDescs n = [] →
      Leads (.metadataUe 3 n v unf) s fun t => (t.stream n).st = .free) ∧
  (∀ (s : State) (n : Nat) (v : Bool) (unf : List Nat),
      (v = true ∨ s.poisoned (s.metaItem 4 n) = true) →
      Leads (.metadataUe 4 n v unf) s fun t => ∀ p ∈ t.ct.index, p.1 / 4 ≠ n) ∧
  (∀ (s : State) (n : Nat) (v : Bool) (unf : List Nat),
      (v = true ∨ s.poisoned (s.metaItem 5 n) = true) →
      (s.seg n).live = true →
      (s.seg n).refs ≠ 0 →
      Leads (.metadataUe 5 n v unf) s fun t => t.seg n = { s.seg n with bad := true }) ∧
  (∀ (s : State) (n : Nat) (v : Bool) (unf : List Nat),
      (v = true ∨ s.poisoned (s.metaItem 6 n) = true) →
      Leads (.metadataUe 6 n v unf) s fun t => inSet t.si.badTags n = true) ∧
  (∀ (s : State) (n : Nat) (v : Bool) (unf : List Nat) (x : Desc),
      (v = true ∨ s.poisoned (s.metaItem 7 n) = true) →
      s.desc? n = some x →
      x.stage ≠ .done →
      Leads (.metadataUe 7 n v unf) s fun t => Ended t n .aborted ∧ (t.desc n).detail = 0x70) ∧
  (∀ (s : State) (n : Nat) (v : Bool) (unf : List Nat),
      (v = true ∨ s.poisoned (s.metaItem 8 n) = true) →
      Leads (.metadataUe 8 n v unf) s fun t => t.er.action ≠ .none) ∧
  (∀ (s : State) (c n : Nat) (v : Bool) (unf : List Nat),
      v = false →
      s.poisoned (s.metaItem c n) = false →
      Leads (.metadataUe c n v unf) s fun t => t = s)

/-- ENABLE, DISABLE, RETRAIN and CLEAR_HOLD move a link that is in a state of Table 12.4 they apply to, leave its state otherwise, and act
on no link from a port that may not write. A DOWN link of an awake quad locks at its highest rate; training that gives the width it asks for
leads to CONFIG with the widest lanes, too narrow a width or 500 ms tries half rate and then goes DOWN; CONFIG flits are sent and taken, one
out of form counts a violation, one on a link that is up drops it, and 100 ms ends CONFIG. Hold-offs end at their time and reset after 320 s
up; a quad sleeps with no link in use, sends its bursts, and wakes. Each of these is left undone in a state it does not apply to. (R376,
R377, R405, R408, R409, R416, R590, R593, R660, 12_gweusk_links.md) -/
def Obligations.LinkControlAndTraining : Prop :=
  (∀ (s : State) (p : Port) (n : Nat),
      s.answers p linkCtlOff = true →
      pfOrFw p = true →
      n < 48 →
      (s.link n).st = .disabled →
      Leads (.linkEnable p n) s fun t => (t.link n).st = .down ∧ inSet t.lk.asleep (n / 4) = false) ∧
  (∀ (s : State) (p : Port) (n : Nat),
      s.answers p linkCtlOff = true →
      pfOrFw p = true →
      n < 48 →
      (s.link n).st ≠ .disabled →
      Leads (.linkEnable p n) s fun t => t.link n = s.link n ∧ inSet t.lk.asleep (n / 4) = false) ∧
  (∀ (s : State) (p : Port) (n : Nat),
      s.answers p linkCtlOff = true →
      pfOrFw p = true →
      n < 48 →
      Leads (.linkDisable p n) s fun t => (t.link n).st = .disabled ∧ (t.link n).unacked = [] ∧ (t.link n).waiting = []) ∧
  (∀ (s : State) (p : Port) (n : Nat),
      s.answers p linkCtlOff = true →
      pfOrFw p = true →
      n < 48 →
      ((s.link n).isUp = true ∨ (s.link n).st = .recovery) →
      Leads (.linkRetrain p n) s fun t => (t.link n).st = .down ∧ inSet t.lk.asleep (n / 4) = false) ∧
  (∀ (s : State) (p : Port) (n : Nat),
      s.answers p linkCtlOff = true →
      pfOrFw p = true →
      n < 48 →
      (s.link n).isUp = false →
      (s.link n).st ≠ .recovery →
      Leads (.linkRetrain p n) s fun t => t.link n = s.link n ∧ inSet t.lk.asleep (n / 4) = false) ∧
  (∀ (s : State) (p : Port) (n : Nat),
      s.answers p linkCtlOff = true →
      pfOrFw p = true →
      n < 48 →
      (s.link n).st = .held →
      Leads (.clearHold p n) s fun t => (t.link n).st = .down ∧ t.fld F_LK_L_HOLD_HOLDOFF n = 10) ∧
  (∀ (s : State) (p : Port) (n : Nat),
      s.answers p linkCtlOff = true →
      pfOrFw p = true →
      n < 48 →
      (s.link n).st ≠ .held →
      Leads (.clearHold p n) s fun t => t.link n = s.link n ∧ t.fld F_LK_L_HOLD_HOLDOFF n = 10) ∧
  (∀ (s : State) (p : Port) (n : Nat),
      s.answers p (linkCtlOff) = true →
      pfOrFw p = false →
      Leads (.linkEnable p n) s fun t => t.lk = s.lk ∧ t.fld F_TOP_BAD_ACCESS_ADDR_OFFSET = linkCtlOff) ∧
  (∀ (s : State) (p : Port) (n : Nat),
      s.answers p (linkCtlOff) = false →
      Leads (.linkEnable p n) s fun t => t.lk = s.lk ∧ t.regs = s.regs) ∧
  (∀ (s : State) (p : Port) (n : Nat),
      s.answers p linkCtlOff = true →
      pfOrFw p = true →
      48 ≤ n →
      Leads (.linkEnable p n) s fun t => t.lk = s.lk) ∧
  (∀ (s : State) (p : Port) (n : Nat),
      s.answers p (linkCtlOff) = true →
      pfOrFw p = false →
      Leads (.linkDisable p n) s fun t => t.lk = s.lk ∧ t.fld F_TOP_BAD_ACCESS_ADDR_OFFSET = linkCtlOff) ∧
  (∀ (s : State) (p : Port) (n : Nat),
      s.answers p (linkCtlOff) = false →
      Leads (.linkDisable p n) s fun t => t.lk = s.lk ∧ t.regs = s.regs) ∧
  (∀ (s : State) (p : Port) (n : Nat),
      s.answers p linkCtlOff = true →
      pfOrFw p = true →
      48 ≤ n →
      Leads (.linkDisable p n) s fun t => t.lk = s.lk) ∧
  (∀ (s : State) (p : Port) (n : Nat),
      s.answers p (linkCtlOff) = true →
      pfOrFw p = false →
      Leads (.linkRetrain p n) s fun t => t.lk = s.lk ∧ t.fld F_TOP_BAD_ACCESS_ADDR_OFFSET = linkCtlOff) ∧
  (∀ (s : State) (p : Port) (n : Nat),
      s.answers p (linkCtlOff) = false →
      Leads (.linkRetrain p n) s fun t => t.lk = s.lk ∧ t.regs = s.regs) ∧
  (∀ (s : State) (p : Port) (n : Nat),
      s.answers p linkCtlOff = true →
      pfOrFw p = true →
      48 ≤ n →
      Leads (.linkRetrain p n) s fun t => t.lk = s.lk) ∧
  (∀ (s : State) (p : Port) (n : Nat),
      s.answers p (linkCtlOff) = true →
      pfOrFw p = false →
      Leads (.clearHold p n) s fun t => t.lk = s.lk ∧ t.fld F_TOP_BAD_ACCESS_ADDR_OFFSET = linkCtlOff) ∧
  (∀ (s : State) (p : Port) (n : Nat),
      s.answers p (linkCtlOff) = false →
      Leads (.clearHold p n) s fun t => t.lk = s.lk ∧ t.regs = s.regs) ∧
  (∀ (s : State) (p : Port) (n : Nat),
      s.answers p linkCtlOff = true →
      pfOrFw p = true →
      48 ≤ n →
      Leads (.clearHold p n) s fun t => t.lk = s.lk) ∧
  (∀ (s : State) (n : Nat),
      (s.link n).st = .held →
      (s.link n).heldUntil ≤ s.now →
      Leads (.holdoffExpired n) s fun t => (t.link n).st = .down) ∧
  (∀ (s : State) (n : Nat),
      ((s.link n).st ≠ .held ∨ s.now < (s.link n).heldUntil) →
      Leads (.holdoffExpired n) s fun t => t = s) ∧
  (∀ (s : State) (n : Nat),
      (s.link n).isUp = true →
      (s.link n).upSince + 320000000000 ≤ s.now →
      Leads (.holdoffReset n) s fun t => t.fld F_LK_L_HOLD_HOLDOFF n = 10 ∧ t.lk = s.lk) ∧
  (∀ (s : State) (n : Nat),
      ((s.link n).isUp = false ∨ s.now < (s.link n).upSince + 320000000000) →
      Leads (.holdoffReset n) s fun t => t = s) ∧
  (∀ (s : State) (n : Nat),
      n < 48 →
      s.fld F_TOP_BOOT_STATUS_STAGE = 3 →
      s.ck.power = 0 →
      (s.link n).st = .down →
      inSet s.lk.asleep (n / 4) = false →
      Leads (.trainingLock n) s fun t => (t.link n).st = .training ∧ (t.link n).tryRate = s.fld F_LK_L_CFG_MAX_RATE n) ∧
  (∀ (s : State) (n : Nat),
      (48 ≤ n ∨ s.fld F_TOP_BOOT_STATUS_STAGE ≠ 3 ∨ s.ck.power ≠ 0 ∨ (s.link n).st ≠ .down ∨ inSet s.lk.asleep (n / 4) = true) →
      Leads (.trainingLock n) s fun t => t = s) ∧
  (∀ (s : State) (n r g : Nat) (m : Bool) (i : Nat),
      (s.link n).st = .training →
      r ≤ (s.link n).tryRate →
      s.fld F_LK_L_CFG_MIN_WIDTH n ≤ (widest g).1 →
      Leads (.trainingComplete n r g m i) s fun t => (t.link n).st = .config ∧ (t.link n).rate = r ∧ (t.link n).width = (widest g).1 ∧
        (t.link n).lanes = (widest g).2 ∧ (t.link n).mirror = m ∧ (t.link n).inverted = i ∧ (t.link n).partner = none) ∧
  (∀ (s : State) (n r g : Nat) (m : Bool) (i : Nat),
      (s.link n).st = .training →
      r ≤ (s.link n).tryRate →
      (widest g).1 < s.fld F_LK_L_CFG_MIN_WIDTH n →
      r = 1 →
      Leads (.trainingComplete n r g m i) s fun t => (t.link n).st = .training ∧ (t.link n).tryRate = 0) ∧
  (∀ (s : State) (n r g : Nat) (m : Bool) (i : Nat),
      (s.link n).st = .training →
      r ≤ (s.link n).tryRate →
      (widest g).1 < s.fld F_LK_L_CFG_MIN_WIDTH n →
      r ≠ 1 →
      Leads (.trainingComplete n r g m i) s fun t => (t.link n).st = .down) ∧
  (∀ (s : State) (n r g : Nat) (m : Bool) (i : Nat),
      ((s.link n).st ≠ .training ∨ (s.link n).tryRate < r) →
      Leads (.trainingComplete n r g m i) s fun t => t = s) ∧
  (∀ (s : State) (n : Nat),
      (s.link n).st = .training →
      (s.link n).tryRate = 1 →
      Leads (.trainingTimeout n) s fun t => (t.link n).st = .training ∧ (t.link n).tryRate = 0) ∧
  (∀ (s : State) (n : Nat),
      (s.link n).st = .training →
      (s.link n).tryRate ≠ 1 →
      Leads (.trainingTimeout n) s fun t => (t.link n).st = .down) ∧
  (∀ (s : State) (n : Nat),
      (s.link n).st ≠ .training →
      Leads (.trainingTimeout n) s fun t => t = s) ∧
  (∀ (s : State) (n : Nat),
      (s.link n).st = .config →
      (s.link n).partner = none →
      Leads (.configSend n) s fun t => t.outbox = s.outbox ++ [.flit n (s.configFlit n false)] ∧ t.lk.asleep = s.lk.asleep ∧ (t.link n).ackSent = (s.link n).ackSent) ∧
  (∀ (s : State) (n : Nat) (q : Partner),
      (s.link n).st = .config →
      (s.link n).partner = some q →
      (s.link n).ackSeen = false →
      Leads (.configSend n) s fun t => t.outbox = s.outbox ++ [.flit n (s.configFlit n true)] ∧ (t.link n).ackSent = true) ∧
  (∀ (s : State) (n : Nat) (q : Partner),
      (s.link n).st = .config →
      (s.link n).partner = some q →
      (s.link n).ackSeen = true →
      4 ≤ q.credits.getD 3 0 →
      s.configCheck n q = 0 →
      Leads (.configSend n) s fun t => (t.link n).st = .active ∧ (t.link n).qcause = 0 ∧ (t.link n).ackSent = true ∧
        t.fld F_LK_L_PARTNER_ID n = q.id % 2 ^ F_LK_L_PARTNER_ID.wid) ∧
  (∀ (s : State) (n : Nat),
      (s.link n).st ≠ .config →
      Leads (.configSend n) s fun t => t = s) ∧
  (∀ (s : State) (n : Nat) (f : Flit) (unf : List Nat),
      (s.link n).st = .config →
      f.type = 2 →
      f.vc = 0 →
      f.session = 0 →
      f.queue = 0 →
      f.xtag = 0 →
      f.poison = false →
      f.last = false →
      f.seq = 0 →
      strayPayload 2 f.body = false →
      (s.link n).ackSent = false →
      Leads (.configFlit n f unf) s fun t => (t.link n).partner = some (partnerOf f.body) ∧
        (t.link n).ackSeen = ((s.link n).ackSeen || bit (leAt f.body 0x28 1) 7) ∧ (t.link n).st = .config) ∧
  (∀ (s : State) (n : Nat) (f : Flit) (unf : List Nat),
      ((s.link n).isUp = true ∨ (s.link n).st = .recovery) →
      f.type = 2 →
      f.vc = 0 →
      f.session = 0 →
      f.queue = 0 →
      f.xtag = 0 →
      f.poison = false →
      f.last = false →
      f.seq = 0 →
      strayPayload 2 f.body = false →
      5 > (((s.link n).drops ++ [s.now]).filter (fun k => decide (s.now - k < 10000000000))).length →
      Leads (.configFlit n f unf) s fun t => (t.link n).st = .down ∧ t.fld F_LK_L_LASTDROP_CAUSE n = 6) ∧
  (∀ (s : State) (n : Nat) (f : Flit) (unf : List Nat),
      ((s.link n).isUp = true ∨ (s.link n).st = .recovery ∨ (s.link n).st = .config) →
      f.type = 2 →
      (f.vc ≠ 0 ∨ f.session ≠ 0 ∨ f.queue ≠ 0 ∨ f.xtag ≠ 0 ∨ f.poison = true ∨ f.last = true ∨ f.seq ≠ 0 ∨ 240 < f.body.length ∨ strayPayload 2 f.body = true) →
      Leads (.configFlit n f unf) s fun t => t.fld F_LK_L_VIOL_CNT_VIOL n = min (s.fld F_LK_L_VIOL_CNT_VIOL n + 1) (2 ^ F_LK_L_VIOL_CNT_VIOL.wid - 1)) ∧
  (∀ (s : State) (n : Nat) (f : Flit) (unf : List Nat),
      (f.type ≠ 2 ∨ ((s.link n).isUp = false ∧ (s.link n).st ≠ .recovery ∧ (s.link n).st ≠ .config)) →
      Leads (.configFlit n f unf) s fun t => t = s) ∧
  (∀ (s : State) (n : Nat),
      (s.link n).st = .config →
      Leads (.configTimeout n) s fun t => (t.link n).st = .down ∧ (t.link n).partner = none) ∧
  (∀ (s : State) (n : Nat),
      (s.link n).st ≠ .config →
      Leads (.configTimeout n) s fun t => t = s) ∧
  (∀ (s : State) (n : Nat),
      (s.link n).st = .quarantine →
      (s.link n).qcause = 6 →
      Leads (.epochVerifyTimeout n) s fun t => (t.link n).qcause = 7 ∧ (t.link n).st = .quarantine) ∧
  (∀ (s : State) (n : Nat),
      ((s.link n).st ≠ .quarantine ∨ (s.link n).qcause ≠ 6) →
      Leads (.epochVerifyTimeout n) s fun t => t = s) ∧
  (∀ (s : State) (n : Nat),
      n < 12 →
      1 ≤ s.fld F_CK_PWR_CFG_DEEPEST →
      (∀ i ∈ List.range 4, (s.link (4 * n + i)).st = .disabled ∨ (s.link (4 * n + i)).st = .down ∨ (s.link (4 * n + i)).st = .held) →
      Leads (.laneSleep n) s fun t => inSet t.lk.asleep n = true ∧ t.lk.links = s.lk.links) ∧
  (∀ (s : State) (n : Nat),
      (12 ≤ n ∨ s.fld F_CK_PWR_CFG_DEEPEST = 0 ∨ ∃ i ∈ List.range 4, (s.link (4 * n + i)).st ≠ .disabled ∧ (s.link (4 * n + i)).st ≠ .down ∧ (s.link (4 * n + i)).st ≠ .held) →
      Leads (.laneSleep n) s fun t => t = s) ∧
  (∀ (s : State) (n : Nat),
      (s.link n).st = .down →
      inSet s.lk.asleep (n / 4) = true →
      Leads (.sleepTrainingBurst n) s fun t => t = { s with outbox := s.outbox ++ [.training n] }) ∧
  (∀ (s : State) (n : Nat),
      ((s.link n).st ≠ .down ∨ inSet s.lk.asleep (n / 4) = false) →
      Leads (.sleepTrainingBurst n) s fun t => t = s) ∧
  (∀ (s : State) (n : Nat),
      (s.link n).st = .down →
      inSet s.lk.asleep (n / 4) = true →
      Leads (.quadWake n) s fun t => (t.link n).st = .training ∧ inSet t.lk.asleep (n / 4) = false) ∧
  (∀ (s : State) (n : Nat),
      inSet s.lk.asleep (n / 4) = false →
      Leads (.quadWake n) s fun t => t = s) ∧
  (∀ (s : State) (n : Nat),
      (s.link n).st ≠ .down →
      inSet s.lk.asleep (n / 4) = true →
      Leads (.quadWake n) s fun t => t.lk.links = s.lk.links ∧ inSet t.lk.asleep (n / 4) = false)

/-- A flit that arrives in order with a good CRC, no uncorrectable codeword, credit and the form of its type is expected no more, waits in
its VC, and is acknowledged at once when 64 have come; one without credit drops the link with cause 3, one out of form counts a violation,
one that its session does not take counts an authentication failure, one that a link in QUARANTINE does not take is consumed; a bad CRC or a
lost codeword counts and asks for a replay once; a repeated flit is acknowledged again, a later one asks for a replay once; an unsequenced
flit of good form leaves the links as they are, as do the codewords of marker pairs and of a link in CONFIG or RECOVERY, which are counted
alone. LINK_CTL releases what it acknowledges, records the credits, and resends from the flit it asks for. Acknowledgements and replays go
out on their timers; recovery keeps what is unacknowledged, ends at the width that trained, and gives up; drops and starved channels take
the link DOWN or into HELD with their cause. A link in a state these do not apply to stays as it is. (R381, R383, R385, R386, R387, R388,
R391, R405, R406, R407, R412, 12_gweusk_links.md) -/
def Obligations.LinkSequencingAndReplay : Prop :=
  (∀ (s : State) (n : Nat) (a : Arrival) (unf : List Nat) (r : Arrived) (f : Flit),
      (s.link n).isUp = true →
      a.place < 5 →
      r = arrive (s.link n).lanes (s.link n).mirror a →
      f = flitOf r.bytes →
      r.lost = false →
      crcOk r.bytes = true →
      isSequenced f.type = true →
      f.seq = (s.link n).expect →
      s.flitCheck n f (malformed r.bytes) = 0 →
      (s.link n).sinceCtl + 1 < 64 →
      f.session = 0 →
      Leads (.sequencedFlit n a unf) s fun t => (t.link n).rxq = (s.link n).rxq ++ [{ toFlit := f, isNew := true }] ∧
        (t.link n).expect = ((s.link n).expect + 1) % 1024 ∧ (t.link n).ackDue = true ∧ (t.link n).st = (s.link n).st ∧ t.outbox = s.outbox) ∧
  (∀ (s : State) (n : Nat) (a : Arrival) (unf : List Nat) (r : Arrived) (f : Flit),
      (s.link n).isUp = true →
      a.place < 5 →
      r = arrive (s.link n).lanes (s.link n).mirror a →
      f = flitOf r.bytes →
      r.lost = false →
      crcOk r.bytes = true →
      isSequenced f.type = true →
      f.seq = (s.link n).expect →
      s.flitCheck n f (malformed r.bytes) = 0 →
      (s.link n).sinceCtl + 1 < 64 →
      Leads (.sequencedFlit n a unf) s fun t => (t.link n).rxq = ((s.link n).take f).rxq ∧
        (t.link n).expect = ((s.link n).expect + 1) % 1024 ∧ (t.link n).st = (s.link n).st) ∧
  (∀ (s : State) (n : Nat) (a : Arrival) (unf : List Nat) (r : Arrived) (f : Flit),
      (s.link n).isUp = true →
      a.place < 5 →
      r = arrive (s.link n).lanes (s.link n).mirror a →
      f = flitOf r.bytes →
      r.lost = false →
      crcOk r.bytes = true →
      isSequenced f.type = true →
      f.seq = (s.link n).expect →
      s.flitCheck n f (malformed r.bytes) = 0 →
      64 ≤ (s.link n).sinceCtl + 1 →
      Leads (.sequencedFlit n a unf) s fun t => (t.link n).ackDue = false ∧ (t.link n).sinceCtl = 0 ∧ t.outbox = s.outbox ++ [.flit n ((t.link n).ctlFlit false)]) ∧
  (∀ (s : State) (n : Nat) (a : Arrival) (unf : List Nat) (r : Arrived) (f : Flit),
      (s.link n).isUp = true →
      a.place < 5 →
      r = arrive (s.link n).lanes (s.link n).mirror a →
      f = flitOf r.bytes →
      r.lost = false →
      crcOk r.bytes = true →
      isSequenced f.type = true →
      f.seq = (s.link n).expect →
      s.flitCheck n f (malformed r.bytes) = 2 →
      Leads (.sequencedFlit n a unf) s fun t => ((t.link n).st = .down ∨ (t.link n).st = .held) ∧ t.fld F_LK_L_LASTDROP_CAUSE n = 3 ∧ t.fld F_LK_L_VIOL_CNT_VIOL n = min (s.fld F_LK_L_VIOL_CNT_VIOL n + 1) (2 ^ F_LK_L_VIOL_CNT_VIOL.wid - 1)) ∧
  (∀ (s : State) (n : Nat) (a : Arrival) (unf : List Nat) (r : Arrived) (f : Flit),
      (s.link n).isUp = true →
      a.place < 5 →
      r = arrive (s.link n).lanes (s.link n).mirror a →
      f = flitOf r.bytes →
      r.lost = false →
      crcOk r.bytes = true →
      isSequenced f.type = true →
      f.seq = (s.link n).expect →
      s.flitCheck n f (malformed r.bytes) = 5 →
      (s.link n).sinceCtl + 1 < 64 →
      Leads (.sequencedFlit n a unf) s fun t => (t.link n).rxq = (s.link n).rxq ∧ (t.link n).expect = ((s.link n).expect + 1) % 1024 ∧ t.fld F_LK_L_AUTH_FAIL_AUTH n = min (s.fld F_LK_L_AUTH_FAIL_AUTH n + 1) (2 ^ F_LK_L_AUTH_FAIL_AUTH.wid - 1)) ∧
  (∀ (s : State) (n : Nat) (a : Arrival) (unf : List Nat) (r : Arrived) (f : Flit),
      (s.link n).isUp = true →
      a.place < 5 →
      r = arrive (s.link n).lanes (s.link n).mirror a →
      f = flitOf r.bytes →
      r.lost = false →
      crcOk r.bytes = true →
      isSequenced f.type = true →
      f.seq = (s.link n).expect →
      s.flitCheck n f (malformed r.bytes) = 1 →
      (s.link n).sinceCtl + 1 < 64 →
      Leads (.sequencedFlit n a unf) s fun t => (t.link n).rxq = ((s.link n).skip f).rxq ∧ (f.type ≠ 5 → (t.link n).rxq = (s.link n).rxq) ∧ (t.link n).expect = ((s.link n).expect + 1) % 1024) ∧
  (∀ (s : State) (n : Nat) (a : Arrival) (unf : List Nat) (r : Arrived) (f : Flit),
      (s.link n).isUp = true →
      a.place < 5 →
      r = arrive (s.link n).lanes (s.link n).mirror a →
      f = flitOf r.bytes →
      r.lost = false →
      crcOk r.bytes = true →
      isSequenced f.type = true →
      f.seq = (s.link n).expect →
      (s.flitCheck n f (malformed r.bytes) = 3 ∨ s.flitCheck n f (malformed r.bytes) = 4) →
      Leads (.sequencedFlit n a unf) s fun t => t.fld F_LK_L_VIOL_CNT_VIOL n = min (s.fld F_LK_L_VIOL_CNT_VIOL n + 1) (2 ^ F_LK_L_VIOL_CNT_VIOL.wid - 1)) ∧
  (∀ (s : State) (n : Nat) (a : Arrival) (unf : List Nat) (r : Arrived) (f : Flit),
      (s.link n).isUp = true →
      a.place < 5 →
      r = arrive (s.link n).lanes (s.link n).mirror a →
      f = flitOf r.bytes →
      (r.lost = true ∨ crcOk r.bytes = false) →
      (s.link n).nakSent = false →
      Leads (.sequencedFlit n a unf) s fun t => (t.link n).nakSent = true ∧ (t.link n).expect = (s.link n).expect ∧
        t.outbox = s.outbox ++ [.flit n ((s.link n).ctlFlit true)] ∧ t.fld F_LK_L_CRC_CNT_CRC n = min (s.fld F_LK_L_CRC_CNT_CRC n + 1) (2 ^ F_LK_L_CRC_CNT_CRC.wid - 1)) ∧
  (∀ (s : State) (n : Nat) (a : Arrival) (unf : List Nat) (r : Arrived) (f : Flit),
      (s.link n).isUp = true →
      a.place < 5 →
      r = arrive (s.link n).lanes (s.link n).mirror a →
      f = flitOf r.bytes →
      (r.lost = true ∨ crcOk r.bytes = false) →
      (s.link n).nakSent = true →
      Leads (.sequencedFlit n a unf) s fun t => t.lk = s.lk ∧ t.outbox = s.outbox ∧ t.fld F_LK_L_CRC_CNT_CRC n = min (s.fld F_LK_L_CRC_CNT_CRC n + 1) (2 ^ F_LK_L_CRC_CNT_CRC.wid - 1)) ∧
  (∀ (s : State) (n : Nat) (a : Arrival) (unf : List Nat) (r : Arrived) (f : Flit),
      (s.link n).isUp = true →
      a.place < 5 →
      r = arrive (s.link n).lanes (s.link n).mirror a →
      f = flitOf r.bytes →
      r.lost = false →
      crcOk r.bytes = true →
      isSequenced f.type = false →
      malformed r.bytes = false →
      Leads (.sequencedFlit n a unf) s fun t => t.lk = s.lk ∧ t.outbox = s.outbox ∧
        t.fld F_LK_L_FEC_CE_CE n = min (s.fld F_LK_L_FEC_CE_CE n + r.counted.count .corrected) (2 ^ F_LK_L_FEC_CE_CE.wid - 1)) ∧
  (∀ (s : State) (n : Nat) (a : Arrival) (unf : List Nat) (r : Arrived) (f : Flit),
      (s.link n).isUp = true →
      a.place < 5 →
      r = arrive (s.link n).lanes (s.link n).mirror a →
      f = flitOf r.bytes →
      r.lost = false →
      crcOk r.bytes = true →
      isSequenced f.type = false →
      malformed r.bytes = true →
      Leads (.sequencedFlit n a unf) s fun t => t.fld F_LK_L_VIOL_CNT_VIOL n = min (s.fld F_LK_L_VIOL_CNT_VIOL n + 1) (2 ^ F_LK_L_VIOL_CNT_VIOL.wid - 1)) ∧
  (∀ (s : State) (n : Nat) (a : Arrival) (unf : List Nat) (r : Arrived) (f : Flit),
      (s.link n).isUp = true →
      a.place < 5 →
      r = arrive (s.link n).lanes (s.link n).mirror a →
      f = flitOf r.bytes →
      r.lost = false →
      crcOk r.bytes = true →
      isSequenced f.type = true →
      f.seq ≠ (s.link n).expect →
      1 ≤ ((s.link n).expect + 1024 - f.seq) % 1024 →
      ((s.link n).expect + 1024 - f.seq) % 1024 ≤ 512 →
      Leads (.sequencedFlit n a unf) s fun t => t.outbox = s.outbox ++ [.flit n ((s.link n).ctlFlit false)] ∧
        (t.link n).expect = (s.link n).expect ∧ (t.link n).rxq.length = (s.link n).rxq.length) ∧
  (∀ (s : State) (n : Nat) (a : Arrival) (unf : List Nat) (r : Arrived) (f : Flit),
      (s.link n).isUp = true →
      a.place < 5 →
      r = arrive (s.link n).lanes (s.link n).mirror a →
      f = flitOf r.bytes →
      r.lost = false →
      crcOk r.bytes = true →
      isSequenced f.type = true →
      512 < ((s.link n).expect + 1024 - f.seq) % 1024 →
      (s.link n).nakSent = false →
      Leads (.sequencedFlit n a unf) s fun t => t.outbox = s.outbox ++ [.flit n ((s.link n).ctlFlit true)] ∧
        (t.link n).nakSent = true ∧ (t.link n).expect = (s.link n).expect) ∧
  (∀ (s : State) (n : Nat) (a : Arrival) (unf : List Nat) (r : Arrived),
      ((s.link n).st = .config ∨ (s.link n).st = .recovery ∨ ((s.link n).isUp = true ∧ 5 ≤ a.place)) →
      r = arrive (s.link n).lanes (s.link n).mirror a →
      Leads (.sequencedFlit n a unf) s fun t => t.lk = s.lk ∧ t.outbox = s.outbox ∧
        t.fld F_LK_L_FEC_CE_CE n = min (s.fld F_LK_L_FEC_CE_CE n + r.counted.count .corrected) (2 ^ F_LK_L_FEC_CE_CE.wid - 1)) ∧
  (∀ (s : State) (n : Nat) (a : Arrival) (unf : List Nat),
      (s.link n).isUp = false →
      (s.link n).st ≠ .config →
      (s.link n).st ≠ .recovery →
      Leads (.sequencedFlit n a unf) s fun t => t = s) ∧
  (∀ (s : State) (n i : Nat) (a : Nat) (l : List Nat),
      (s.link n).isUp = true →
      (s.link n).waiting = [] →
      (s.link n).unacked.findIdx? (fun f => f.seq == a) = some i →
      Leads (.linkCtl n (some a) none l) s fun t => (t.link n).unacked = (s.link n).unacked.drop (i + 1) ∧ (t.link n).freed = ((s.link n).credited l).freed) ∧
  (∀ (s : State) (n a : Nat) (l : List Nat) (g : TxFlit) (r : List TxFlit),
      (s.link n).isUp = true →
      (s.link n).unacked = g :: r →
      g.seq = a →
      g.type = 6 →
      Leads (.linkCtl n (some a) none l) s fun t => (t.queue g.queue).ackedCq = g.cq) ∧
  (∀ (s : State) (n a : Nat) (l : List Nat),
      (s.link n).isUp = true →
      (s.link n).waiting = [] →
      (s.link n).unacked.findIdx? (fun f => f.seq == a) = none →
      Leads (.linkCtl n (some a) none l) s fun t => (t.link n).unacked = (s.link n).unacked ∧ (t.link n).freed = ((s.link n).credited l).freed) ∧
  (∀ (s : State) (n : Nat) (l : List Nat),
      (s.link n).isUp = true →
      (s.link n).waiting ≠ [] →
      Leads (.linkCtl n none none l) s fun t => (t.link n).freed = ((s.link n).credited l).freed ∧ t.link n = ((s.setLink n ((s.link n).credited l)).pump n (s.link n).waiting.length).link n) ∧
  (∀ (s : State) (n k : Nat) (l : List Nat),
      (s.link n).isUp = true →
      (s.link n).waiting = [] →
      (∃ f ∈ (s.link n).unacked, f.seq = k) →
      Leads (.linkCtl n none (some k) l) s fun t => t.outbox = s.outbox ++ ((s.link n).unacked.dropWhile (fun f => f.seq != k)).map (fun f => .flit n f.toFlit) ∧
        (t.link n).unacked = (s.link n).unacked ∧ t.fld F_LK_L_REPLAY_CNT_REPLAY n = min (s.fld F_LK_L_REPLAY_CNT_REPLAY n + 1) (2 ^ F_LK_L_REPLAY_CNT_REPLAY.wid - 1) ∧ (t.link n).freed = ((s.link n).credited l).freed) ∧
  (∀ (s : State) (n : Nat) (a k : Option Nat) (l : List Nat),
      (s.link n).isUp = false →
      Leads (.linkCtl n a k l) s fun t => t = s) ∧
  (∀ (s : State) (n : Nat),
      (s.link n).isUp = true →
      ((s.link n).ackDue = true ∨ (s.link n).used ≠ (s.link n).told) →
      Leads (.ackTimer n) s fun t => (t.link n).ackDue = false ∧ (t.link n).told = (s.link n).used ∧ t.outbox = s.outbox ++ [.flit n ((s.link n).ctlFlit false)]) ∧
  (∀ (s : State) (n : Nat),
      ((s.link n).isUp = false ∨ ((s.link n).ackDue = false ∧ (s.link n).used = (s.link n).told)) →
      Leads (.ackTimer n) s fun t => t = s) ∧
  (∀ (s : State) (n : Nat) (g : TxFlit) (r : List TxFlit),
      (s.link n).isUp = true →
      (s.link n).unacked = g :: r →
      Leads (.replayTimeout n) s fun t => t.outbox = s.outbox ++ (g :: r).map (fun f => .flit n f.toFlit) ∧
        (t.link n).unacked = g :: r ∧ (t.link n).rsSeq = g.seq ∧ t.fld F_LK_L_REPLAY_CNT_REPLAY n = min (s.fld F_LK_L_REPLAY_CNT_REPLAY n + 1) (2 ^ F_LK_L_REPLAY_CNT_REPLAY.wid - 1)) ∧
  (∀ (s : State) (n : Nat),
      ((s.link n).isUp = false ∨ (s.link n).unacked = []) →
      Leads (.replayTimeout n) s fun t => t = s) ∧
  (∀ (s : State) (n : Nat),
      (s.link n).isUp = true →
      8 ≤ (s.link n).rsRun →
      Leads (.recovery n) s fun t => (t.link n).st = .recovery ∧ (t.link n).prev = (s.link n).st ∧
        (t.link n).unacked = (s.link n).unacked ∧ (t.link n).rxq = (s.link n).rxq ∧ (t.link n).expect = (s.link n).expect) ∧
  (∀ (s : State) (n : Nat),
      ((s.link n).isUp = false ∨ (s.link n).rsRun < 8) →
      Leads (.recovery n) s fun t => t = s) ∧
  (∀ (s : State) (n g : Nat),
      (s.link n).st = .recovery →
      ((s.link n).retrained g).1 ≤ (s.link n).width →
      (s.link n).minWidth ≤ ((s.link n).retrained g).1 →
      Leads (.recoveryRetrained n g) s fun t => (t.link n).st = (s.link n).prev ∧ (t.link n).width = ((s.link n).retrained g).1 ∧ (t.link n).lanes = ((s.link n).retrained g).2) ∧
  (∀ (s : State) (n g : Nat),
      ((s.link n).st ≠ .recovery ∨ (s.link n).width < ((s.link n).retrained g).1 ∨ ((s.link n).retrained g).1 < (s.link n).minWidth) →
      Leads (.recoveryRetrained n g) s fun t => t = s) ∧
  (∀ (s : State) (n : Nat) (unf : List Nat),
      (s.link n).st = .recovery →
      Leads (.recoveryTimeout n unf) s fun t => ((t.link n).st = .down ∨ (t.link n).st = .held) ∧ t.fld F_LK_L_LASTDROP_CAUSE n = 2 ∧ t.fld F_LK_L_DROPS_DROPS n = min (s.fld F_LK_L_DROPS_DROPS n + 1) (2 ^ F_LK_L_DROPS_DROPS.wid - 1) ∧
        (t.link n).unacked = [] ∧ (t.link n).expect = 0) ∧
  (∀ (s : State) (n : Nat) (unf : List Nat),
      (s.link n).st ≠ .recovery →
      Leads (.recoveryTimeout n unf) s fun t => t = s) ∧
  (∀ (s : State) (n : Nat) (unf : List Nat),
      ((s.link n).isUp = true ∨ (s.link n).st = .recovery) →
      Leads (.linkDrop n unf) s fun t => ((t.link n).st = .down ∨ (t.link n).st = .held) ∧ t.fld F_LK_L_LASTDROP_CAUSE n = 1 ∧ t.fld F_LK_L_DROPS_DROPS n = min (s.fld F_LK_L_DROPS_DROPS n + 1) (2 ^ F_LK_L_DROPS_DROPS.wid - 1) ∧
        (t.link n).unacked = [] ∧ (t.link n).expect = 0) ∧
  (∀ (s : State) (n : Nat) (unf : List Nat),
      (s.link n).isUp = false →
      (s.link n).st ≠ .recovery →
      Leads (.linkDrop n unf) s fun t => t = s) ∧
  (∀ (s : State) (n : Nat) (v : Nat) (unf : List Nat),
      (s.link n).isUp = true →
      (∃ f ∈ (s.link n).waiting, f.vc = v) →
      (s.link n).credit v = 0 →
      Leads (.creditTimeout n v unf) s fun t => ((t.link n).st = .down ∨ (t.link n).st = .held) ∧ t.fld F_LK_L_LASTDROP_CAUSE n = 4 ∧ t.fld F_LK_L_DROPS_DROPS n = min (s.fld F_LK_L_DROPS_DROPS n + 1) (2 ^ F_LK_L_DROPS_DROPS.wid - 1) ∧
        (t.link n).unacked = [] ∧ (t.link n).expect = 0) ∧
  (∀ (s : State) (n : Nat) (v : Nat) (unf : List Nat),
      ((s.link n).isUp = false ∨ (∀ f ∈ (s.link n).waiting, f.vc ≠ v) ∨ 0 < (s.link n).credit v) →
      Leads (.creditTimeout n v unf) s fun t => t = s)

/-- A whole DOORBELL of good form moves the tail and the CQ head of its link-origin queue; one for a queue of another origin, a FROZEN
queue, a tail or head out of range, of bad form or with a failed tag is counted, and one for a queue in another state changes no queue. A
whole DATA flit adds its bytes to the command that pulled them, which runs once the last have come; too many bytes end it with detail 0x82,
a failed tag with 0x81, and a flit that no pull asked for is counted; what follows in a pull that has failed is taken and left. Acknowledged
data end their command; gathered completions go out after their time where the link carries them; TIME flits are sent with the echo of the
last, noted, and steer a member that is not the source; the time state follows gaps and their end. Where nothing of the kind is there,
nothing changes. (R90, R391, R398, R399, R401, R404, R437, R438, R440, R506, 12_gweusk_links.md) -/
def Obligations.LinkTrafficComplete : Prop :=
  (∀ (s : State) (n : Nat) (unf : List Nat) (g : RxFlit),
      s.headFlit n 0 = some g →
      g.type = 3 →
      g.verdict = some true →
      doorbellForm g.body = true →
      (s.queue g.queue).origin = n →
      ((s.queue g.queue).st = .active ∨ (s.queue g.queue).st = .paused) →
      leAt g.body 0 2 < s.ringSize g.queue →
      leAt g.body 4 1 % 4 ≤ (leAt g.body 0 2 + s.ringSize g.queue - (s.queue g.queue).sqTail % s.ringSize g.queue) % s.ringSize g.queue →
      leAt g.body 2 2 < s.ringSize g.queue →
      (leAt g.body 2 2 + s.ringSize g.queue - (s.queue g.queue).cqHead % s.ringSize g.queue) % s.ringSize g.queue ≤ ((s.queue g.queue).cqTail + s.ringSize g.queue - (s.queue g.queue).cqHead % s.ringSize g.queue) % s.ringSize g.queue →
      Leads (.doorbell n unf) s fun t => (t.queue g.queue).sqTail = leAt g.body 0 2 ∧ (t.queue g.queue).cqHead = leAt g.body 2 2) ∧
  (∀ (s : State) (n : Nat) (unf : List Nat) (g : RxFlit),
      s.headFlit n 0 = some g →
      g.type = 3 →
      g.verdict = some true →
      doorbellForm g.body = true →
      (s.queue g.queue).origin = n →
      ((s.queue g.queue).st = .active ∨ (s.queue g.queue).st = .paused) →
      leAt g.body 0 2 < s.ringSize g.queue →
      leAt g.body 4 1 % 4 ≤ (leAt g.body 0 2 + s.ringSize g.queue - (s.queue g.queue).sqTail % s.ringSize g.queue) % s.ringSize g.queue →
      s.ringSize g.queue ≤ leAt g.body 2 2 →
      Leads (.doorbell n unf) s fun t => t.fld F_QE_Q_REFUSED_REFUSED g.queue = min (s.fld F_QE_Q_REFUSED_REFUSED g.queue + 1) (2 ^ F_QE_Q_REFUSED_REFUSED.wid - 1)) ∧
  (∀ (s : State) (n : Nat) (unf : List Nat) (g : RxFlit),
      s.headFlit n 0 = some g →
      g.type = 3 →
      g.verdict = some true →
      doorbellForm g.body = true →
      (s.queue g.queue).origin = n →
      ((s.queue g.queue).st = .active ∨ (s.queue g.queue).st = .paused) →
      s.ringSize g.queue ≤ leAt g.body 0 2 →
      Leads (.doorbell n unf) s fun t => t.fld F_QE_Q_REFUSED_REFUSED g.queue = min (s.fld F_QE_Q_REFUSED_REFUSED g.queue + 1) (2 ^ F_QE_Q_REFUSED_REFUSED.wid - 1)) ∧
  (∀ (s : State) (n : Nat) (unf : List Nat) (g : RxFlit),
      s.headFlit n 0 = some g →
      g.type = 3 →
      g.verdict = some true →
      doorbellForm g.body = true →
      (s.queue g.queue).origin = n →
      (s.queue g.queue).st = .frozen →
      Leads (.doorbell n unf) s fun t => t.q = s.q ∧ t.fld F_QE_Q_REFUSED_REFUSED g.queue = min (s.fld F_QE_Q_REFUSED_REFUSED g.queue + 1) (2 ^ F_QE_Q_REFUSED_REFUSED.wid - 1)) ∧
  (∀ (s : State) (n : Nat) (unf : List Nat) (g : RxFlit),
      s.headFlit n 0 = some g →
      g.type = 3 →
      g.verdict = some true →
      doorbellForm g.body = true →
      (s.queue g.queue).origin = n →
      (s.queue g.queue).st ≠ .frozen →
      (s.queue g.queue).st ≠ .active →
      (s.queue g.queue).st ≠ .paused →
      Leads (.doorbell n unf) s fun t => t.q = s.q) ∧
  (∀ (s : State) (n : Nat) (unf : List Nat) (g : RxFlit),
      s.headFlit n 0 = some g →
      g.type = 3 →
      g.verdict = some true →
      doorbellForm g.body = true →
      (s.queue g.queue).origin ≠ n →
      Leads (.doorbell n unf) s fun t => t.q = s.q ∧ t.fld F_QE_BAD_DOORBELL_CNT_BADDB = min (s.fld F_QE_BAD_DOORBELL_CNT_BADDB + 1) (2 ^ F_QE_BAD_DOORBELL_CNT_BADDB.wid - 1)) ∧
  (∀ (s : State) (n : Nat) (unf : List Nat) (g : RxFlit),
      s.headFlit n 0 = some g →
      g.type = 3 →
      g.verdict = some true →
      doorbellForm g.body = false →
      Leads (.doorbell n unf) s fun t => t.fld F_LK_L_VIOL_CNT_VIOL n = min (s.fld F_LK_L_VIOL_CNT_VIOL n + 1) (2 ^ F_LK_L_VIOL_CNT_VIOL.wid - 1)) ∧
  (∀ (s : State) (n : Nat) (unf : List Nat) (g : RxFlit),
      s.headFlit n 0 = some g →
      g.type = 3 →
      g.verdict = some false →
      Leads (.doorbell n unf) s fun t => t.fld F_LK_L_AUTH_FAIL_AUTH n = min (s.fld F_LK_L_AUTH_FAIL_AUTH n + 1) (2 ^ F_LK_L_AUTH_FAIL_AUTH.wid - 1)) ∧
  (∀ (s : State) (n : Nat) (unf : List Nat),
      (s.headFlit n 0).all (fun g => g.type != 3 || g.verdict.isNone) = true →
      Leads (.doorbell n unf) s fun t => t = s) ∧
  (∀ (s : State) (n : Nat) (unf : List Nat) (g : RxFlit) (y : Pull) (x : Desc),
      s.headFlit n 1 = some g →
      g.type = 5 →
      g.verdict = some true →
      (s.link n).pullFor g.toFlit = some y →
      y.failed = false →
      g.last = false →
      y.got + g.body.length ≤ y.count →
      Waits s y.d .dataIn x →
      Leads (.dataFlit n unf) s fun t => t.desc? y.d = some { x with data := x.data ++ g.body, bad := if g.poison && g.body.length != 0 then x.bad ++ [(y.off + y.got, g.body.length)] else x.bad } ∧
        ∃ r ∈ (t.link n).pulls, r = { y with got := y.got + g.body.length }) ∧
  (∀ (s : State) (n : Nat) (unf : List Nat) (g : RxFlit) (y : Pull) (x : Desc),
      s.headFlit n 1 = some g →
      g.type = 5 →
      g.verdict = some true →
      (s.link n).pullFor g.toFlit = some y →
      y.failed = false →
      g.last = true →
      y.got + g.body.length = y.count →
      (∀ r ∈ (s.link n).pulls.erase y, r.d ≠ y.d) →
      (x.e.opcode = 0x20 ∨ x.e.opcode = 0x23) →
      Waits s y.d .dataIn x →
      Leads (.dataFlit n unf) s fun t => (t.desc y.d).stage = .ready ∧ (t.desc y.d).data = x.data ++ g.body) ∧
  (∀ (s : State) (n : Nat) (unf : List Nat) (g : RxFlit) (y : Pull) (x : Desc),
      s.headFlit n 1 = some g →
      g.type = 5 →
      g.verdict = some true →
      (s.link n).pullFor g.toFlit = some y →
      y.failed = false →
      g.last = true →
      y.got + g.body.length = y.count →
      (∀ r ∈ (s.link n).pulls.erase y, r.d ≠ y.d) →
      x.e.opcode ≠ 0x20 →
      x.e.opcode ≠ 0x23 →
      x.bad = [] →
      g.poison = false →
      Waits s y.d .dataIn x →
      Leads (.dataFlit n unf) s fun t => (t.desc y.d).stage = .ready ∧ (t.desc y.d).blk = x.data ++ g.body) ∧
  (∀ (s : State) (n : Nat) (unf : List Nat) (g : RxFlit) (y : Pull) (x : Desc),
      s.headFlit n 1 = some g →
      g.type = 5 →
      g.verdict = some true →
      (s.link n).pullFor g.toFlit = some y →
      y.failed = false →
      (y.count < y.got + g.body.length ∨ (g.last = true ∧ y.got + g.body.length ≠ y.count)) →
      Waits s y.d .dataIn x →
      Leads (.dataFlit n unf) s fun t => Ended t y.d .aborted ∧ (t.desc y.d).detail = 0x82 ∧ t.fld F_LK_L_VIOL_CNT_VIOL n = min (s.fld F_LK_L_VIOL_CNT_VIOL n + 1) (2 ^ F_LK_L_VIOL_CNT_VIOL.wid - 1)) ∧
  (∀ (s : State) (n : Nat) (unf : List Nat) (g : RxFlit) (y : Pull) (x : Desc),
      s.headFlit n 1 = some g →
      g.type = 5 →
      g.verdict = some false →
      (s.link n).pullFor g.toFlit = some y →
      y.failed = false →
      Waits s y.d .dataIn x →
      Leads (.dataFlit n unf) s fun t => Ended t y.d .aborted ∧ (t.desc y.d).detail = 0x81 ∧ t.fld F_LK_L_AUTH_FAIL_AUTH n = min (s.fld F_LK_L_AUTH_FAIL_AUTH n + 1) (2 ^ F_LK_L_AUTH_FAIL_AUTH.wid - 1)) ∧
  (∀ (s : State) (n : Nat) (unf : List Nat) (g : RxFlit) (y : Pull),
      s.headFlit n 1 = some g →
      g.type = 5 →
      g.verdict = some true →
      (s.link n).pullFor g.toFlit = some y →
      y.failed = true →
      Leads (.dataFlit n unf) s fun t => t.q = s.q ∧ t.fld F_LK_L_VIOL_CNT_VIOL n = s.fld F_LK_L_VIOL_CNT_VIOL n) ∧
  (∀ (s : State) (n : Nat) (unf : List Nat) (g : RxFlit),
      s.headFlit n 1 = some g →
      g.type = 5 →
      g.verdict = some true →
      (s.link n).pullFor g.toFlit = none →
      Leads (.dataFlit n unf) s fun t => t.fld F_LK_L_VIOL_CNT_VIOL n = min (s.fld F_LK_L_VIOL_CNT_VIOL n + 1) (2 ^ F_LK_L_VIOL_CNT_VIOL.wid - 1)) ∧
  (∀ (s : State) (n : Nat) (unf : List Nat) (g : RxFlit),
      s.headFlit n 1 = some g →
      g.type = 5 →
      g.verdict = some false →
      (s.link n).pullFor g.toFlit = none →
      Leads (.dataFlit n unf) s fun t => t.fld F_LK_L_AUTH_FAIL_AUTH n = min (s.fld F_LK_L_AUTH_FAIL_AUTH n + 1) (2 ^ F_LK_L_AUTH_FAIL_AUTH.wid - 1)) ∧
  (∀ (s : State) (n : Nat) (unf : List Nat),
      (s.headFlit n 1).all (fun g => g.type != 5 || g.verdict.isNone) = true →
      Leads (.dataFlit n unf) s fun t => t = s) ∧
  (∀ (s : State) (d : Nat) (x : Desc),
      Waits s d .dataOut x →
      s.dataUnacked (s.queue x.outQ).origin x.outQ x.xtag = false →
      Leads (.dataAcknowledged d) s fun t => Ended t d x.status ∧ (t.desc d).res = x.res) ∧
  (∀ (s : State) (d : Nat),
      ((s.desc d).stage ≠ .wait .dataOut ∨ s.dataUnacked (s.queue (s.desc d).outQ).origin (s.desc d).outQ (s.desc d).xtag = true) →
      Leads (.dataAcknowledged d) s fun t => t = s) ∧
  (∀ (s : State) (q : Nat),
      (s.queue q).isLink = true →
      (s.queue q).gathered ≠ 0 →
      (s.queue q).gatherAt + 1000 * (s.queue q).ltime ≤ s.now →
      (s.queue q).uncarried ≠ [] →
      s.canCarry (s.queue q).origin (s.queue q).tenant (((s.queue q).uncarried.drop ((s.queue q).uncarried.length - 6)).any (fun p => p.2.getD 4 0 == BitVec.ofNat 8 Status.quarantine.code)) = true →
      Leads (.lcountTimeout q) s fun t => (t.queue q).gathered = 0 ∧ (t.queue q).uncarried = []) ∧
  (∀ (s : State) (q : Nat),
      ((s.queue q).isLink = false ∨ (s.queue q).gathered = 0 ∨ s.now < (s.queue q).gatherAt + 1000 * (s.queue q).ltime ∨ (s.queue q).uncarried = [] ∨ s.canCarry (s.queue q).origin (s.queue q).tenant (((s.queue q).uncarried.drop ((s.queue q).uncarried.length - 6)).any (fun p => p.2.getD 4 0 == BitVec.ofNat 8 Status.quarantine.code)) = false) →
      Leads (.lcountTimeout q) s fun t => t = s) ∧
  (∀ (s : State) (n : Nat) (f : Flit),
      (s.link n).isUp = true →
      f.type = 10 →
      f.vc = 3 →
      f.session = 0 →
      f.queue = 0 →
      f.xtag = 0 →
      f.seq = 0 →
      f.poison = false →
      f.last = false →
      f.body = leBytes 1 1 ++ leBytes 1 (b2n (s.link n).lastTime.isSome) ++ leBytes 6 0 ++ leBytes 8 (s.now + s.timeLat n) ++ leBytes 8 (((s.link n).lastTime.map (·.1)).getD 0) ++ leBytes 8 (((s.link n).lastTime.map (·.2)).getD 0) →
      Leads (.timeSend n) s fun t => t = { s with outbox := s.outbox ++ [.flit n f] }) ∧
  (∀ (s : State) (n : Nat),
      (s.link n).isUp = false →
      Leads (.timeSend n) s fun t => t = s) ∧
  (∀ (s : State) (n : Nat) (v : Nat) (e : Option (Nat × Nat)),
      (s.link n).isUp = true →
      (e = none ∨ s.steers = false ∨ s.routeTo s.timeParent ≠ n ∨ s.peer n ≠ 2) →
      Leads (.timeFlit n v e) s fun t => (t.link n).lastTime = some (v, s.now) ∧ t.now = s.now ∧ t.cn = s.cn ∧ t.regs = s.regs) ∧
  (∀ (s : State) (n : Nat) (v : Nat) (a b : Nat) (o m : Int),
      (s.link n).isUp = true →
      s.steers = true →
      s.routeTo s.timeParent = n →
      s.peer n = 2 →
      o = ((b : Int) - a + (v - s.now)) / 2 →
      m = ((b : Int) - a - (v - s.now)) / 2 →
      1000000 < o →
      s.cn.steered = false →
      Leads (.timeFlit n v (some (a, b))) s fun t => t.now = s.now + o.toNat ∧ t.cn.steered = true ∧ t.cn.rate = s.cn.rate ∧
        t.fld F_CN_OFFSET_OFFSET = (clampInt (-2147483648) 2147483647 o % 4294967296).toNat ∧ t.fld F_CN_STATUS_TIME_DEGRADED = 1) ∧
  (∀ (s : State) (n : Nat) (v : Nat) (a b : Nat) (o m : Int),
      (s.link n).isUp = true →
      s.steers = true →
      s.routeTo s.timeParent = n →
      s.peer n = 2 →
      o = ((b : Int) - a + (v - s.now)) / 2 →
      m = ((b : Int) - a - (v - s.now)) / 2 →
      o ≤ 1000000 →
      Leads (.timeFlit n v (some (a, b))) s fun t => t.now = s.now ∧ t.cn.steered = true ∧ (0 < o → 1 ≤ t.cn.rate) ∧ (o < 0 → 1 ≤ s.fld F_CN_TIME_CFG_SLEW_PPM → t.cn.rate ≤ -1) ∧
        t.fld F_CN_OFFSET_OFFSET = (clampInt (-2147483648) 2147483647 o % 4294967296).toNat ∧ t.fld F_CN_DELAY_DELAY = m.toNat % 2 ^ F_CN_DELAY_DELAY.wid ∧
        (1000 < o.natAbs → t.fld F_CN_STATUS_TIME_DEGRADED = 1) ∧ (o.natAbs ≤ 500 → t.cn.goodSince = some (s.cn.goodSince.getD s.now))) ∧
  (∀ (s : State) (n : Nat) (v : Nat) (e : Option (Nat × Nat)),
      (s.link n).isUp = false →
      Leads (.timeFlit n v e) s fun t => t = s) ∧
  (∀ (s : State),
      s.steers = true →
      s.lastExchange + 100000000 ≤ s.now →
      Leads (.steeringGap) s fun t => t.fld F_CN_STATUS_TIME_DEGRADED = 1 ∧ t.cn.goodSince = none) ∧
  (∀ (s : State),
      (s.steers = false ∨ s.now < s.lastExchange + 100000000) →
      Leads (.steeringGap) s fun t => t = s) ∧
  (∀ (s : State),
      s.steers = true →
      s.cn.goodSince.any (fun g => decide (g + 1000000000 ≤ s.now)) = true →
      Leads (.timeDegradedClear) s fun t => t.fld F_CN_STATUS_TIME_DEGRADED ≠ 1) ∧
  (∀ (s : State),
      (s.steers = false ∨ s.cn.goodSince.any (fun g => decide (g + 1000000000 ≤ s.now)) = false) →
      Leads (.timeDegradedClear) s fun t => t = s)

/-- OPEN and OPEN_ACK of a binding that fits open the session under the keys of both nonces, with its receive counter at 0; an OPEN or REKEY
that does not fit leaves the session as it is, and one on a link that is up is answered REFUSE; OPEN_ACK of a session that was not asked for
changes no session. REKEY and REKEY_ACK give an open session new keys; a counter that reaches 2^31 starts a rekey, one that reaches 2^32
closes the session; CLOSE closes it, CLOSE_ACK ends the wait of the close, and REFUSE ends the wait of an opening or rekey and leaves the
session open or not as it was. A row whose SESSION flit is not the next on the channel changes nothing. (R394, R395, R397, R563, R568,
12_gweusk_links.md) -/
def Obligations.SessionFlitsTakeEffect : Prop :=
  (∀ (s : State) (n i : Nat) (g : RxFlit),
      s.headFlit n 3 = some g →
      g.type = 12 →
      leAt g.body 0 1 % 8 = 1 →
      leAt g.body 1 1 % 64 = i →
      s.sessionFits n i g.toFlit = true →
      Leads (.openFlit n) s fun t => (t.session n i).isOpen = true ∧ (t.session n i).rxCtr = 0 ∧
        (t.session n i).keys = some (s.trafficKeys (s.session n i) i (leBytes 16 (Config.nonce s.fresh)) (flitNonce g.toFlit))) ∧
  (∀ (s : State) (n i : Nat) (g : RxFlit),
      s.headFlit n 3 = some g →
      g.type = 12 →
      leAt g.body 0 1 % 8 = 1 →
      leAt g.body 1 1 % 64 = i →
      s.sessionFits n i g.toFlit = false →
      Leads (.openFlit n) s fun t => (t.session n i).isOpen = (s.session n i).isOpen ∧ (t.session n i).keys = (s.session n i).keys) ∧
  (∀ (s : State) (n i : Nat) (g : RxFlit),
      s.headFlit n 3 = some g →
      g.type = 12 →
      leAt g.body 0 1 % 8 = 1 →
      leAt g.body 1 1 % 64 = i →
      s.sessionFits n i g.toFlit = false →
      (s.link n).isUp = true →
      Leads (.openFlit n) s fun t => ∃ f ∈ (t.link n).waiting ++ (t.link n).unacked, f.type = 12 ∧ f.body = (sessionFlit 7 i (leAt g.body 2 2 % 1024) (leAt g.body 4 4) []).body) ∧
  (∀ (s : State) (n : Nat),
      (s.headFlit n 3).all (fun g => g.type != 12 || leAt g.body 0 1 % 8 != 1) = true →
      Leads (.openFlit n) s fun t => t = s) ∧
  (∀ (s : State) (n i : Nat) (g : RxFlit),
      s.headFlit n 3 = some g →
      g.type = 12 →
      leAt g.body 0 1 % 8 = 2 →
      leAt g.body 1 1 % 64 = i →
      s.sessionFits n i g.toFlit = true →
      (s.session n i).opening = true →
      Leads (.openAck n) s fun t => (t.session n i).isOpen = true ∧ (t.session n i).rxCtr = 0 ∧
        (t.session n i).keys = some (s.trafficKeys (s.session n i) i (s.session n i).nonce (flitNonce g.toFlit))) ∧
  (∀ (s : State) (n i : Nat) (g : RxFlit),
      s.headFlit n 3 = some g →
      g.type = 12 →
      leAt g.body 0 1 % 8 = 2 →
      leAt g.body 1 1 % 64 = i →
      ((s.session n i).opening = false ∨ s.sessionFits n i g.toFlit = false) →
      Leads (.openAck n) s fun t => (t.session n i) = (s.session n i)) ∧
  (∀ (s : State) (n : Nat),
      (s.headFlit n 3).all (fun g => g.type != 12 || leAt g.body 0 1 % 8 != 2) = true →
      Leads (.openAck n) s fun t => t = s) ∧
  (∀ (s : State) (n i : Nat) (g : RxFlit),
      s.headFlit n 3 = some g →
      g.type = 12 →
      leAt g.body 0 1 % 8 = 3 →
      leAt g.body 1 1 % 64 = i →
      s.sessionFits n i g.toFlit = true →
      (s.session n i).isOpen = true →
      Leads (.rekey n) s fun t => (t.session n i).isOpen = true ∧ (t.session n i).rxCtr = 0 ∧
        (t.session n i).keys = some (s.trafficKeys (s.session n i) i (leBytes 16 (Config.nonce s.fresh)) (flitNonce g.toFlit))) ∧
  (∀ (s : State) (n i : Nat) (g : RxFlit),
      s.headFlit n 3 = some g →
      g.type = 12 →
      leAt g.body 0 1 % 8 = 3 →
      leAt g.body 1 1 % 64 = i →
      ((s.session n i).isOpen = false ∨ s.sessionFits n i g.toFlit = false) →
      Leads (.rekey n) s fun t => (t.session n i).isOpen = (s.session n i).isOpen ∧ (t.session n i).keys = (s.session n i).keys) ∧
  (∀ (s : State) (n i : Nat) (g : RxFlit),
      s.headFlit n 3 = some g →
      g.type = 12 →
      leAt g.body 0 1 % 8 = 3 →
      leAt g.body 1 1 % 64 = i →
      ((s.session n i).isOpen = false ∨ s.sessionFits n i g.toFlit = false) →
      (s.link n).isUp = true →
      Leads (.rekey n) s fun t => ∃ f ∈ (t.link n).waiting ++ (t.link n).unacked, f.type = 12 ∧ f.body = (sessionFlit 7 i (leAt g.body 2 2 % 1024) (leAt g.body 4 4) []).body) ∧
  (∀ (s : State) (n : Nat),
      (s.headFlit n 3).all (fun g => g.type != 12 || leAt g.body 0 1 % 8 != 3) = true →
      Leads (.rekey n) s fun t => t = s) ∧
  (∀ (s : State) (n i : Nat) (g : RxFlit),
      s.headFlit n 3 = some g →
      g.type = 12 →
      leAt g.body 0 1 % 8 = 4 →
      leAt g.body 1 1 % 64 = i →
      (s.session n i).isOpen = true →
      (s.session n i).rekeying = true →
      Leads (.rekeyAck n) s fun t => (t.session n i).isOpen = true ∧ (t.session n i).rxCtr = 0 ∧
        (t.session n i).keys = some (s.trafficKeys (s.session n i) i (s.session n i).nonce (flitNonce g.toFlit)) ∧ (t.session n i).rekeying = false) ∧
  (∀ (s : State) (n i : Nat) (g : RxFlit),
      s.headFlit n 3 = some g →
      g.type = 12 →
      leAt g.body 0 1 % 8 = 4 →
      leAt g.body 1 1 % 64 = i →
      ((s.session n i).isOpen = false ∨ (s.session n i).rekeying = false) →
      Leads (.rekeyAck n) s fun t => (t.session n i) = (s.session n i)) ∧
  (∀ (s : State) (n : Nat),
      (s.headFlit n 3).all (fun g => g.type != 12 || leAt g.body 0 1 % 8 != 4) = true →
      Leads (.rekeyAck n) s fun t => t = s) ∧
  (∀ (s : State) (n i : Nat),
      (s.session n i).isOpen = true →
      (s.session n i).rekeying = false →
      (2 ^ 31 ≤ (s.session n i).txCtr ∨ 2 ^ 31 ≤ (s.session n i).rxCtr) →
      Leads (.rekeyStart n i) s fun t => (t.session n i).rekeying = true ∧ (t.session n i).nonce = leBytes 16 (Config.nonce s.fresh) ∧ (t.session n i).isOpen = (s.session n i).isOpen ∧ (t.session n i).keys = (s.session n i).keys) ∧
  (∀ (s : State) (n i : Nat),
      ((s.session n i).isOpen = false ∨ (s.session n i).rekeying = true ∨ ((s.session n i).txCtr < 2 ^ 31 ∧ (s.session n i).rxCtr < 2 ^ 31)) →
      Leads (.rekeyStart n i) s fun t => t = s) ∧
  (∀ (s : State) (n i : Nat),
      (s.session n i).isOpen = true →
      (2 ^ 32 ≤ (s.session n i).txCtr ∨ 2 ^ 32 ≤ (s.session n i).rxCtr) →
      Leads (.sessionCounterLimit n i) s fun t => (t.session n i).isOpen = false ∧ (t.session n i).keys = none) ∧
  (∀ (s : State) (n i : Nat),
      ((s.session n i).isOpen = false ∨ ((s.session n i).txCtr < 2 ^ 32 ∧ (s.session n i).rxCtr < 2 ^ 32)) →
      Leads (.sessionCounterLimit n i) s fun t => t = s) ∧
  (∀ (s : State) (n i : Nat) (g : RxFlit),
      s.headFlit n 3 = some g →
      g.type = 12 →
      leAt g.body 0 1 % 8 = 5 →
      leAt g.body 1 1 % 64 = i →
      Leads (.closeFlit n) s fun t => (t.session n i).isOpen = false ∧ (t.session n i).keys = none ∧ (t.session n i).closing = false) ∧
  (∀ (s : State) (n : Nat),
      (s.headFlit n 3).all (fun g => g.type != 12 || leAt g.body 0 1 % 8 != 5) = true →
      Leads (.closeFlit n) s fun t => t = s) ∧
  (∀ (s : State) (n i : Nat) (g : RxFlit),
      s.headFlit n 3 = some g →
      g.type = 12 →
      leAt g.body 0 1 % 8 = 6 →
      leAt g.body 1 1 % 64 = i →
      Leads (.closeAck n) s fun t => (t.session n i).closing = false) ∧
  (∀ (s : State) (n : Nat),
      (s.headFlit n 3).all (fun g => g.type != 12 || leAt g.body 0 1 % 8 != 6) = true →
      Leads (.closeAck n) s fun t => t = s) ∧
  (∀ (s : State) (n i : Nat) (g : RxFlit),
      s.headFlit n 3 = some g →
      g.type = 12 →
      leAt g.body 0 1 % 8 = 7 →
      leAt g.body 1 1 % 64 = i →
      Leads (.refuse n) s fun t => (t.session n i).opening = false ∧ (t.session n i).rekeying = false ∧ (t.session n i).isOpen = (s.session n i).isOpen ∧ (t.session n i).keys = (s.session n i).keys) ∧
  (∀ (s : State) (n : Nat),
      (s.headFlit n 3).all (fun g => g.type != 12 || leAt g.body 0 1 % 8 != 7) = true →
      Leads (.refuse n) s fun t => t = s)

/-- A forwarded request of good form and source is dropped by a device outside any constellation, relayed or answered for another member,
held when its epoch is newer, and for this member served: a lookup is counted hit or miss, an insert of a key that is there changes no
entry, a removal takes the entry out, REFSTATE clears PENDING; one of bad form counts a violation, one with a failed tag an authentication
failure. An answer ends the forward that asked, a publish ends E_CAPACITY on a refused insert, an answer that no forward awaits changes no
forward but for a hit, which is answered with REFSTATE, and one for another member without TTL is counted. A request that has waited 100 ms
leaves the hold. A record in EPOCH_LOAD, PUT_EPOCH_RECORD or an answer to GET_EPOCH_RECORD that verifies starts its adoption, one that is
refused or in conflict is counted and answered with its check, an identical one is accepted, and the switch makes the record, its epoch and
this device's place in it the ones in force once no forward is outstanding. A matching attestation verifies the peer and binds session 63 to
a key of its own, any other fails the peer. Packets of messages are reassembled, and a message is judged as a whole. Where a row does not
apply, nothing changes. (R168, R179, R423, R424, R426, R430, R432, R433, R435, R436, R470, R478) -/
def Obligations.ConstellationCommandsComplete : Prop :=
  (∀ (s : State) (n : Nat) (unf : List Nat) (g : RxFlit),
      s.headFlit n 0 = some g →
      g.type = 8 →
      g.verdict = some true →
      fwdFormOk true g.body = true →
      s.fwdSourceOk n g.body = true →
      s.cn.st = .standalone →
      leAt g.body 0 1 ≠ 4 →
      Leads (.fwdReq n unf) s fun t => t = s.popFlit n 0) ∧
  (∀ (s : State) (n : Nat) (unf : List Nat) (g : RxFlit),
      s.headFlit n 0 = some g →
      g.type = 8 →
      g.verdict = some true →
      fwdFormOk true g.body = true →
      s.fwdSourceOk n g.body = true →
      s.cn.st = .member →
      s.forOther g.body = true →
      leAt g.body 3 1 ≠ 0 →
      s.fwdReady (s.routeTo (leAt g.body 2 1)) = true →
      Leads (.fwdReq n unf) s fun t => t.fld F_CN_RELAYED_RELAYED = min (s.fld F_CN_RELAYED_RELAYED + 1) (2 ^ F_CN_RELAYED_RELAYED.wid - 1)) ∧
  (∀ (s : State) (n : Nat) (unf : List Nat) (g : RxFlit),
      s.headFlit n 0 = some g →
      g.type = 8 →
      g.verdict = some true →
      fwdFormOk true g.body = true →
      s.fwdSourceOk n g.body = true →
      s.cn.st = .member →
      s.forOther g.body = true →
      leAt g.body 3 1 = 0 →
      Leads (.fwdReq n unf) s fun t => t = (s.popFlit n 0).reply n g.toFlit 5 []) ∧
  (∀ (s : State) (n : Nat) (unf : List Nat) (g : RxFlit),
      s.headFlit n 0 = some g →
      g.type = 8 →
      g.verdict = some true →
      fwdFormOk true g.body = true →
      s.fwdSourceOk n g.body = true →
      s.cn.st = .member →
      s.forOther g.body = false →
      s.fld F_CN_EPOCH_EPOCH < leAt g.body 4 4 →
      leAt g.body 0 1 ≠ 4 →
      Leads (.fwdReq n unf) s fun t => t.cn.held = s.cn.held ++ [{ link := n, f := g.toFlit, since := s.now }]) ∧
  (∀ (s : State) (n : Nat) (unf : List Nat) (g : RxFlit),
      s.headFlit n 0 = some g →
      g.type = 8 →
      g.verdict = some true →
      fwdFormOk true g.body = true →
      s.fwdSourceOk n g.body = true →
      s.cn.st = .member →
      s.forOther g.body = false →
      leAt g.body 4 4 ≤ s.fld F_CN_EPOCH_EPOCH →
      leAt g.body 0 1 ≠ 4 →
      s.mapOwner (shardOf (leAt g.body 0x10 16)) ≠ s.me →
      Leads (.fwdReq n unf) s fun t => t = (s.popFlit n 0).reply n g.toFlit 4 (movedTail (s.mapOwner (shardOf (leAt g.body 0x10 16))))) ∧
  (∀ (s : State) (n : Nat) (unf : List Nat) (g : RxFlit),
      s.headFlit n 0 = some g →
      g.type = 8 →
      g.verdict = some true →
      fwdFormOk true g.body = true →
      s.fwdSourceOk n g.body = true →
      s.cn.st = .member →
      s.forOther g.body = false →
      leAt g.body 4 4 ≤ s.fld F_CN_EPOCH_EPOCH →
      s.mapOwner (shardOf (leAt g.body 0x10 16)) = s.me →
      leAt g.body 0 1 = 1 →
      s.findEntry (leAt g.body 0x10 16) (Scope.ofNum (leAt g.body 8 2)) = none →
      Leads (.fwdReq n unf) s fun t => t.ct = s.ct ∧ t.fld F_CT_G_MISSES_MISSES (Scope.ofNum (leAt g.body 8 2)).groupNo = min (s.fld F_CT_G_MISSES_MISSES (Scope.ofNum (leAt g.body 8 2)).groupNo + 1) (2 ^ F_CT_G_MISSES_MISSES.wid - 1)) ∧
  (∀ (s : State) (n : Nat) (unf : List Nat) (g : RxFlit) (e : IndexEntry),
      s.headFlit n 0 = some g →
      g.type = 8 →
      g.verdict = some true →
      fwdFormOk true g.body = true →
      s.fwdSourceOk n g.body = true →
      s.cn.st = .member →
      s.forOther g.body = false →
      leAt g.body 4 4 ≤ s.fld F_CN_EPOCH_EPOCH →
      s.mapOwner (shardOf (leAt g.body 0x10 16)) = s.me →
      leAt g.body 0 1 = 1 →
      s.findEntry (leAt g.body 0x10 16) (Scope.ofNum (leAt g.body 8 2)) = some e →
      Leads (.fwdReq n unf) s fun t => t.entries.length = s.entries.length ∧ t.fld F_CT_G_HITS_HITS (Scope.ofNum (leAt g.body 8 2)).groupNo = min (s.fld F_CT_G_HITS_HITS (Scope.ofNum (leAt g.body 8 2)).groupNo + 1) (2 ^ F_CT_G_HITS_HITS.wid - 1)) ∧
  (∀ (s : State) (n : Nat) (unf : List Nat) (g : RxFlit) (e : IndexEntry),
      s.headFlit n 0 = some g →
      g.type = 8 →
      g.verdict = some true →
      fwdFormOk true g.body = true →
      s.fwdSourceOk n g.body = true →
      s.cn.st = .member →
      s.forOther g.body = false →
      leAt g.body 4 4 ≤ s.fld F_CN_EPOCH_EPOCH →
      s.mapOwner (shardOf (leAt g.body 0x10 16)) = s.me →
      leAt g.body 0 1 = 2 →
      s.findEntry (leAt g.body 0x10 16) (Scope.ofNum (leAt g.body 8 2)) = some e →
      Leads (.fwdReq n unf) s fun t => t.entries = s.entries) ∧
  (∀ (s : State) (n : Nat) (unf : List Nat) (g : RxFlit),
      s.headFlit n 0 = some g →
      g.type = 8 →
      g.verdict = some true →
      fwdFormOk true g.body = true →
      s.fwdSourceOk n g.body = true →
      s.cn.st = .member →
      s.forOther g.body = false →
      leAt g.body 4 4 ≤ s.fld F_CN_EPOCH_EPOCH →
      s.mapOwner (shardOf (leAt g.body 0x10 16)) = s.me →
      leAt g.body 0 1 = 2 →
      s.findEntry (leAt g.body 0x10 16) (Scope.ofNum (leAt g.body 8 2)) = none →
      s.groupCount (Scope.ofNum (leAt g.body 8 2)).groupNo < s.fld F_CT_G_QUOTA_QUOTA (Scope.ofNum (leAt g.body 8 2)).groupNo →
      leAt g.body 0x28 1 % 4 ≠ 3 →
      s.ct.index = [] →
      Leads (.fwdReq n unf) s fun t => ∃ e ∈ t.entries, e.keyed (leAt g.body 0x10 16) (Scope.ofNum (leAt g.body 8 2)) = true ∧ e.handle = leAt g.body 0x20 8) ∧
  (∀ (s : State) (n : Nat) (unf : List Nat) (g : RxFlit),
      s.headFlit n 0 = some g →
      g.type = 8 →
      g.verdict = some true →
      fwdFormOk true g.body = true →
      s.fwdSourceOk n g.body = true →
      s.cn.st = .member →
      s.forOther g.body = false →
      leAt g.body 4 4 ≤ s.fld F_CN_EPOCH_EPOCH →
      s.mapOwner (shardOf (leAt g.body 0x10 16)) = s.me →
      leAt g.body 0 1 = 3 →
      Leads (.fwdReq n unf) s fun t => ∀ e ∈ t.entries, ¬(e.keyed (leAt g.body 0x10 16) (Scope.ofNum (leAt g.body 8 2)) = true ∧ e.handle = leAt g.body 0x20 8)) ∧
  (∀ (s : State) (n : Nat) (unf : List Nat) (g : RxFlit),
      s.headFlit n 0 = some g →
      g.type = 8 →
      g.verdict = some true →
      (fwdFormOk true g.body = false ∨ s.fwdSourceOk n g.body = false) →
      (leAt g.body 0 1 ≠ 4 ∨ s.forOther g.body = true) →
      Leads (.fwdReq n unf) s fun t => t.fld F_LK_L_VIOL_CNT_VIOL n = min (s.fld F_LK_L_VIOL_CNT_VIOL n + 1) (2 ^ F_LK_L_VIOL_CNT_VIOL.wid - 1)) ∧
  (∀ (s : State) (n : Nat) (unf : List Nat) (g : RxFlit),
      s.headFlit n 0 = some g →
      g.type = 8 →
      g.verdict = some false →
      (leAt g.body 0 1 ≠ 4 ∨ s.forOther g.body = true) →
      Leads (.fwdReq n unf) s fun t => t.fld F_LK_L_AUTH_FAIL_AUTH n = min (s.fld F_LK_L_AUTH_FAIL_AUTH n + 1) (2 ^ F_LK_L_AUTH_FAIL_AUTH.wid - 1)) ∧
  (∀ (s : State) (n : Nat) (unf : List Nat),
      ((s.headFlit n 0).all (fun g => g.type != 8 || g.verdict.isNone) = true ∨ s.refstateNext n = true) →
      Leads (.fwdReq n unf) s fun t => t = s) ∧
  (∀ (s : State) (n : Nat) (unf : List Nat) (g : RxFlit),
      s.headFlit n 0 = some g →
      g.type = 8 →
      g.verdict = some true →
      fwdFormOk true g.body = true →
      s.fwdSourceOk n g.body = true →
      s.cn.st = .member →
      s.forOther g.body = false →
      leAt g.body 4 4 ≤ s.fld F_CN_EPOCH_EPOCH →
      s.mapOwner (shardOf (leAt g.body 0x10 16)) = s.me →
      leAt g.body 0 1 = 4 →
      Leads (.refstate n unf) s fun t => t.entries.length = s.entries.length ∧
        ∀ e ∈ t.entries, e.keyed (leAt g.body 0x10 16) (Scope.ofNum (leAt g.body 8 2)) = true → e.handle = leAt g.body 0x20 8 → e.pending = false ∧ e.idle = bit (leAt g.body 0x28 1) 0) ∧
  (∀ (s : State) (n : Nat) (unf : List Nat),
      s.refstateNext n = false →
      Leads (.refstate n unf) s fun t => t = s) ∧
  (∀ (s : State) (n : Nat) (unf : List Nat) (g : RxFlit) (f : Forward) (d : Nat) (x : Desc),
      s.headFlit n 2 = some g →
      g.type = 9 →
      g.verdict = some true →
      fwdFormOk false g.body = true →
      s.fwdSourceOk n g.body = true →
      s.cn.st = .member →
      s.forOther g.body = false →
      leAt g.body 4 4 ≤ s.fld F_CN_EPOCH_EPOCH →
      s.ct.fwd.find? (fun f => f.sent && f.req == g.xtag && leAt f.msg 0 1 == leAt g.body 0 1) = some f →
      (leAt g.body 0 1 = 3 ∨ leAt g.body 0 1 = 4) →
      f.d = some d →
      Waits s d .answers x →
      Leads (.fwdRsp n unf) s fun t => Ended t d .ok ∧ t.ct.fwd.length < s.ct.fwd.length) ∧
  (∀ (s : State) (n : Nat) (unf : List Nat) (g : RxFlit) (f : Forward) (d : Nat) (x : Desc),
      s.headFlit n 2 = some g →
      g.type = 9 →
      g.verdict = some true →
      fwdFormOk false g.body = true →
      s.fwdSourceOk n g.body = true →
      s.cn.st = .member →
      s.forOther g.body = false →
      leAt g.body 4 4 ≤ s.fld F_CN_EPOCH_EPOCH →
      s.ct.fwd.find? (fun f => f.sent && f.req == g.xtag && leAt f.msg 0 1 == leAt g.body 0 1) = some f →
      leAt g.body 0 1 = 2 →
      leAt g.body 0xA 1 = 10 →
      f.d = some d →
      Waits s d .answers x →
      Leads (.fwdRsp n unf) s fun t => Ended t d .capacity) ∧
  (∀ (s : State) (n : Nat) (unf : List Nat) (g : RxFlit) (f : Forward) (d : Nat) (x : Desc),
      s.headFlit n 2 = some g →
      g.type = 9 →
      g.verdict = some true →
      fwdFormOk false g.body = true →
      s.fwdSourceOk n g.body = true →
      s.cn.st = .member →
      s.forOther g.body = false →
      leAt g.body 4 4 ≤ s.fld F_CN_EPOCH_EPOCH →
      s.ct.fwd.find? (fun f => f.sent && f.req == g.xtag && leAt f.msg 0 1 == leAt g.body 0 1) = some f →
      leAt g.body 0 1 = 2 →
      leAt g.body 0xA 1 = 9 →
      f.d = some d →
      Waits s d .answers x →
      Leads (.fwdRsp n unf) s fun t => Ended t d .ok ∧ (t.desc d).res = pubResult (leAt g.body 0x20 8) true) ∧
  (∀ (s : State) (n : Nat) (unf : List Nat) (g : RxFlit) (f : Forward) (d : Nat) (x : Desc),
      s.headFlit n 2 = some g →
      g.type = 9 →
      g.verdict = some true →
      fwdFormOk false g.body = true →
      s.fwdSourceOk n g.body = true →
      s.cn.st = .member →
      s.forOther g.body = false →
      leAt g.body 4 4 ≤ s.fld F_CN_EPOCH_EPOCH →
      s.ct.fwd.find? (fun f => f.sent && f.req == g.xtag && leAt f.msg 0 1 == leAt g.body 0 1) = some f →
      leAt g.body 0 1 = 2 →
      leAt g.body 0xA 1 = 4 →
      f.d = some d →
      Waits s d .answers x →
      Leads (.fwdRsp n unf) s fun t => Ended t d .moved ∧ t.fld F_CT_MOVED_CNT_MOVED = min (s.fld F_CT_MOVED_CNT_MOVED + 1) (2 ^ F_CT_MOVED_CNT_MOVED.wid - 1)) ∧
  (∀ (s : State) (n : Nat) (unf : List Nat) (g : RxFlit),
      s.headFlit n 2 = some g →
      g.type = 9 →
      g.verdict = some true →
      fwdFormOk false g.body = true →
      s.fwdSourceOk n g.body = true →
      s.cn.st = .member →
      s.forOther g.body = false →
      leAt g.body 4 4 ≤ s.fld F_CN_EPOCH_EPOCH →
      s.ct.fwd.find? (fun f => f.sent && f.req == g.xtag && leAt f.msg 0 1 == leAt g.body 0 1) = none →
      (leAt g.body 0 1 ≠ 1 ∨ leAt g.body 0xA 1 ≠ 0 ∨ bits (leAt g.body 0x20 8) 25 5 ≠ s.me) →
      Leads (.fwdRsp n unf) s fun t => t = s.popFlit n 2) ∧
  (∀ (s : State) (n : Nat) (unf : List Nat) (g : RxFlit),
      s.headFlit n 2 = some g →
      g.type = 9 →
      g.verdict = some true →
      fwdFormOk false g.body = true →
      s.fwdSourceOk n g.body = true →
      s.cn.st = .member →
      s.forOther g.body = false →
      leAt g.body 4 4 ≤ s.fld F_CN_EPOCH_EPOCH →
      s.ct.fwd.find? (fun f => f.sent && f.req == g.xtag && leAt f.msg 0 1 == leAt g.body 0 1) = none →
      leAt g.body 0 1 = 1 →
      leAt g.body 0xA 1 = 0 →
      bits (leAt g.body 0x20 8) 25 5 = s.me →
      Leads (.fwdRsp n unf) s fun t => t = (s.popFlit n 2).hitRefstate (leAt g.body 1 1) (leAt g.body 8 2) (leAt g.body 0x10 16) (leAt g.body 0x20 8) true ∧ s.ct.fwd.length < t.ct.fwd.length) ∧
  (∀ (s : State) (n : Nat) (unf : List Nat) (g : RxFlit),
      s.headFlit n 2 = some g →
      g.type = 9 →
      g.verdict = some true →
      fwdFormOk false g.body = true →
      s.fwdSourceOk n g.body = true →
      s.cn.st = .standalone →
      Leads (.fwdRsp n unf) s fun t => t = s.popFlit n 2) ∧
  (∀ (s : State) (n : Nat) (unf : List Nat) (g : RxFlit),
      s.headFlit n 2 = some g →
      g.type = 9 →
      g.verdict = some true →
      fwdFormOk false g.body = true →
      s.fwdSourceOk n g.body = true →
      s.cn.st = .member →
      s.forOther g.body = true →
      leAt g.body 3 1 = 0 →
      Leads (.fwdRsp n unf) s fun t => t.ct = s.ct ∧ t.fld F_CN_TTL_DROPS_TTL = min (s.fld F_CN_TTL_DROPS_TTL + 1) (2 ^ F_CN_TTL_DROPS_TTL.wid - 1)) ∧
  (∀ (s : State) (n : Nat) (unf : List Nat) (g : RxFlit),
      s.headFlit n 2 = some g →
      g.type = 9 →
      g.verdict = some true →
      (fwdFormOk false g.body = false ∨ s.fwdSourceOk n g.body = false) →
      Leads (.fwdRsp n unf) s fun t => t.fld F_LK_L_VIOL_CNT_VIOL n = min (s.fld F_LK_L_VIOL_CNT_VIOL n + 1) (2 ^ F_LK_L_VIOL_CNT_VIOL.wid - 1)) ∧
  (∀ (s : State) (n : Nat) (unf : List Nat) (g : RxFlit),
      s.headFlit n 2 = some g →
      g.type = 9 →
      g.verdict = some false →
      Leads (.fwdRsp n unf) s fun t => t.fld F_LK_L_AUTH_FAIL_AUTH n = min (s.fld F_LK_L_AUTH_FAIL_AUTH n + 1) (2 ^ F_LK_L_AUTH_FAIL_AUTH.wid - 1)) ∧
  (∀ (s : State) (n : Nat) (unf : List Nat),
      (s.headFlit n 2).all (fun g => g.type != 9 || g.verdict.isNone) = true →
      Leads (.fwdRsp n unf) s fun t => t = s) ∧
  (∀ (s : State) (h : HeldReq) (l : List HeldReq),
      s.cn.held = h :: l →
      s.now < h.since + 100000000 →
      Leads (.fwdHoldExpired) s fun t => t = s) ∧
  (∀ (s : State) (h : HeldReq) (l : List HeldReq),
      s.cn.held = h :: l →
      h.since + 100000000 ≤ s.now →
      Leads (.fwdHoldExpired) s fun t => t.cn.held = l) ∧
  (∀ (s : State),
      s.cn.held = [] →
      Leads (.fwdHoldExpired) s fun t => t = s) ∧
  (∀ (s : State) (d : Nat) (x : Desc),
      Runs s d 0x7F x →
      x.e.opA = 2 →
      s.fld F_CN_STATUS_SWITCHING = 0 →
      (∀ p ∈ s.q.descs, p.2.runs? 0x7F = true → p.2.e.opA = 2 → x.seq ≤ p.2.seq) →
      s.verifyRecord x.blk = .adopt →
      Leads (.epochLoad d) s fun t => (t.desc d).stage = .exec ∧ t.cn.next = some x.blk ∧ t.cn.nextBy = some d ∧
        t.fld F_CN_STATUS_SWITCHING = 1 ∧ t.cn.record = s.cn.record) ∧
  (∀ (s : State) (d : Nat) (x : Desc),
      Runs s d 0x7F x →
      x.e.opA = 2 →
      s.fld F_CN_STATUS_SWITCHING = 0 →
      (∀ p ∈ s.q.descs, p.2.runs? 0x7F = true → p.2.e.opA = 2 → x.seq ≤ p.2.seq) →
      s.verifyRecord x.blk = .same →
      Leads (.epochLoad d) s fun t => Ended t d .ok ∧ t.cn = s.cn) ∧
  (∀ (s : State) (d : Nat) (x : Desc),
      Runs s d 0x7F x →
      x.e.opA = 2 →
      s.fld F_CN_STATUS_SWITCHING = 0 →
      (∀ p ∈ s.q.descs, p.2.runs? 0x7F = true → p.2.e.opA = 2 → x.seq ≤ p.2.seq) →
      s.verifyRecord x.blk = .conflict →
      Leads (.epochLoad d) s fun t => Ended t d .param ∧ (t.desc d).detail = 4 ∧ t.cn = s.cn ∧
        t.fld F_CN_REFUSED_REFUSED = min (s.fld F_CN_REFUSED_REFUSED + 1) (2 ^ F_CN_REFUSED_REFUSED.wid - 1) ∧ t.fld F_CN_CONFLICT_CONFLICT = min (s.fld F_CN_CONFLICT_CONFLICT + 1) (2 ^ F_CN_CONFLICT_CONFLICT.wid - 1)) ∧
  (∀ (s : State) (d : Nat) (x : Desc) (c : Nat),
      Runs s d 0x7F x →
      x.e.opA = 2 →
      s.fld F_CN_STATUS_SWITCHING = 0 →
      (∀ p ∈ s.q.descs, p.2.runs? 0x7F = true → p.2.e.opA = 2 → x.seq ≤ p.2.seq) →
      s.verifyRecord x.blk = .refused c →
      Leads (.epochLoad d) s fun t => Ended t d .param ∧ (t.desc d).detail = c ∧ t.cn = s.cn ∧ t.fld F_CN_REFUSED_REFUSED = min (s.fld F_CN_REFUSED_REFUSED + 1) (2 ^ F_CN_REFUSED_REFUSED.wid - 1)) ∧
  (∀ (s : State) (d : Nat) (x : Desc),
      Runs s d 0x7F x →
      x.e.opA = 2 →
      (s.fld F_CN_STATUS_SWITCHING = 1 ∨ ∃ p ∈ s.q.descs, p.2.runs? 0x7F = true ∧ p.2.e.opA = 2 ∧ p.2.seq < x.seq) →
      Leads (.epochLoad d) s fun t => t = s) ∧
  (∀ (s : State) (r : List Byte),
      s.cn.next = some r →
      s.fwdOut = 0 →
      Leads (.epochSwitch) s fun t => t.cn.record = r ∧ t.cn.next = none ∧ t.fld F_CN_STATUS_SWITCHING = 0 ∧
        t.fld F_CN_EPOCH_EPOCH = recEpoch r ∧ t.cn.member = (s.ownIndex r).getD 0 ∧ t.cn.st = (if (s.ownIndex r).isSome then .member else .departed)) ∧
  (∀ (s : State),
      (s.cn.next = none ∨ s.fwdOut ≠ 0) →
      Leads (.epochSwitch) s fun t => t = s) ∧
  (∀ (s : State) (n : Nat) (b : List Byte) (v : Bool) (y : Partner),
      (s.link n).isUp = true →
      (s.link n).partner = some y →
      y.role = 0 →
      s.peer n ≠ 0 →
      v = true →
      s.cn.st ≠ .standalone →
      recPresent s.cn.record y.member = true →
      recDigest s.cn.record y.member = sha256 b →
      s.keysAllowed = true →
      Leads (.peerAttestation n b v) s fun t => t.peer n = 2 ∧ (t.slot (16 + n)).st = .active ∧ (t.session n 63).bound = true ∧ (t.session n 63).handle = t.slotHandle (16 + n)) ∧
  (∀ (s : State) (n : Nat) (b : List Byte) (v : Bool) (y : Partner),
      (s.link n).isUp = true →
      (s.link n).partner = some y →
      y.role = 0 →
      s.peer n ≠ 0 →
      v = true →
      s.cn.st ≠ .standalone →
      recPresent s.cn.record y.member = true →
      recDigest s.cn.record y.member = sha256 b →
      s.keysAllowed = false →
      Leads (.peerAttestation n b v) s fun t => t.peer n = 2 ∧ t.ks = s.ks) ∧
  (∀ (s : State) (n : Nat) (b : List Byte) (v : Bool) (y : Partner),
      (s.link n).isUp = true →
      (s.link n).partner = some y →
      y.role = 0 →
      s.peer n ≠ 0 →
      (v = false ∨ s.cn.st = .standalone ∨ recPresent s.cn.record y.member = false ∨ recDigest s.cn.record y.member ≠ sha256 b) →
      Leads (.peerAttestation n b v) s fun t => t.peer n = 3 ∧ (t.session n 63).isOpen = false) ∧
  (∀ (s : State) (n : Nat) (b : List Byte) (v : Bool),
      ((s.link n).isUp = false ∨ (s.link n).partner.all (fun y => y.role != 0) = true ∨ s.peer n = 0) →
      Leads (.peerAttestation n b v) s fun t => t = s) ∧
  (∀ (s : State) (b i e : Nat),
      s.bindUp b = true →
      b < 2 →
      s.cn.st ≠ .standalone →
      (e = 0 ∨ e = s.fld F_CN_EPOCH_EPOCH) →
      Leads (.getEpochRecord b i e) s fun t => t.outbox = s.outbox ++ (mctpPackets 64 (kvGet 0 s.mg.eid b) false (vendorMsg false i 1 (some 0) s.cn.record)).map (Msg.mctp b)) ∧
  (∀ (s : State) (b i e : Nat),
      s.bindUp b = true →
      b < 2 →
      (s.cn.st = .standalone ∨ (e ≠ 0 ∧ e ≠ s.fld F_CN_EPOCH_EPOCH)) →
      Leads (.getEpochRecord b i e) s fun t => t.outbox = s.outbox ++ (mctpPackets 64 (kvGet 0 s.mg.eid b) false (vendorMsg false i 1 (some 4) [])).map (Msg.mctp b)) ∧
  (∀ (s : State) (b i e : Nat),
      s.bindUp b = true →
      2 ≤ b →
      s.cn.st ≠ .standalone →
      (e = 0 ∨ e = s.fld F_CN_EPOCH_EPOCH) →
      Leads (.getEpochRecord b i e) s fun t => t = s.answer b (vendorMsg false i 1 (some 0) s.cn.record)) ∧
  (∀ (s : State) (b i e : Nat),
      s.bindUp b = false →
      Leads (.getEpochRecord b i e) s fun t => t = s) ∧
  (∀ (s : State) (b i : Nat) (r : List Byte),
      s.bindUp b = true →
      2 ≤ b →
      (s.link (b - 2)).partner.map (·.role) = some 0 →
      r.length = 2688 →
      s.fld F_CN_STATUS_SWITCHING = 0 →
      s.verifyRecord r = .adopt →
      Leads (.putEpochRecord b i r) s fun t => t.cn.next = some r ∧ t.cn.nextFrom = some (b, i) ∧ t.fld F_CN_STATUS_SWITCHING = 1) ∧
  (∀ (s : State) (b i : Nat) (r : List Byte),
      s.bindUp b = true →
      2 ≤ b →
      (s.link (b - 2)).partner.map (·.role) = some 0 →
      r.length = 2688 →
      s.fld F_CN_STATUS_SWITCHING = 0 →
      s.verifyRecord r = .same →
      Leads (.putEpochRecord b i r) s fun t => t.cn = s.cn) ∧
  (∀ (s : State) (b i : Nat) (r : List Byte) (c : Nat),
      s.bindUp b = true →
      2 ≤ b →
      (s.link (b - 2)).partner.map (·.role) = some 0 →
      r.length = 2688 →
      s.fld F_CN_STATUS_SWITCHING = 0 →
      s.verifyRecord r = .refused c →
      Leads (.putEpochRecord b i r) s fun t => t.cn = s.cn ∧ t.fld F_CN_REFUSED_REFUSED = min (s.fld F_CN_REFUSED_REFUSED + 1) (2 ^ F_CN_REFUSED_REFUSED.wid - 1)) ∧
  (∀ (s : State) (b i : Nat) (r : List Byte),
      s.bindUp b = true →
      b < 2 →
      Leads (.putEpochRecord b i r) s fun t => t.outbox = s.outbox ++ (mctpPackets 64 (kvGet 0 s.mg.eid b) false (vendorMsg false i 2 (some 5) [])).map (Msg.mctp b) ∧ t.cn = s.cn) ∧
  (∀ (s : State) (b i : Nat) (r : List Byte),
      s.bindUp b = true →
      2 ≤ b →
      ((s.link (b - 2)).partner.map (·.role) ≠ some 0 ∨ r.length ≠ 2688 ∨ s.fld F_CN_STATUS_SWITCHING = 1) →
      Leads (.putEpochRecord b i r) s fun t => t.cn = s.cn ∧ t.regs = s.regs) ∧
  (∀ (s : State) (b i : Nat) (r : List Byte),
      s.bindUp b = false →
      Leads (.putEpochRecord b i r) s fun t => t = s) ∧
  (∀ (s : State) (n : Nat) (g : RxFlit),
      s.headFlit n 3 = some g →
      g.type = 11 →
      g.verdict.isSome = true →
      s.mg.asm = [] →
      bit (leAt g.body 3 1) 7 = true →
      bit (leAt g.body 3 1) 6 = false →
      g.body.length ≤ 4100 →
      Leads (.mgmt n) s fun t => t.mg.asm = [{ bind := 2 + n, src := leAt g.body 2 1, tag := leAt g.body 3 1 % 16, seq := leAt g.body 3 1 / 16 % 4, body := g.body.drop 4 }]) ∧
  (∀ (s : State) (n : Nat) (g : RxFlit),
      s.headFlit n 3 = some g →
      g.type = 11 →
      g.verdict.isSome = true →
      s.mg.asm = [] →
      bit (leAt g.body 3 1) 7 = false →
      Leads (.mgmt n) s fun t => t.mg.asm = [] ∧ t.fld F_HP_MCTP_DROP_DROP = min (s.fld F_HP_MCTP_DROP_DROP + 1) (2 ^ F_HP_MCTP_DROP_DROP.wid - 1)) ∧
  (∀ (s : State) (n : Nat) (g : RxFlit),
      s.headFlit n 3 = some g →
      g.type = 11 →
      g.verdict.isSome = true →
      s.mg.asm = [] →
      bit (leAt g.body 3 1) 7 = true →
      bit (leAt g.body 3 1) 6 = true →
      g.body.length ≤ 4100 →
      leAt (g.body.drop 4) 0 1 % 128 ∉ [0, 5, 6, 126] →
      Leads (.mgmt n) s fun t => t.mg.asm = [] ∧ t.fld F_HP_MCTP_DROP_DROP = min (s.fld F_HP_MCTP_DROP_DROP + 1) (2 ^ F_HP_MCTP_DROP_DROP.wid - 1)) ∧
  (∀ (s : State) (n : Nat) (g : RxFlit),
      s.headFlit n 3 = some g →
      g.type = 11 →
      g.verdict.isSome = true →
      s.mg.asm = [] →
      bit (leAt g.body 3 1) 7 = true →
      bit (leAt g.body 3 1) 6 = true →
      g.body.length ≤ 4100 →
      leAt (g.body.drop 4) 0 1 % 128 ∈ [0, 5, 6] →
      Leads (.mgmt n) s fun t => t = (s.popFlit n 3).unknownCmd (2 + n) (g.body.drop 4)) ∧
  (∀ (s : State) (n : Nat) (g : RxFlit) (r : Reasm),
      s.headFlit n 3 = some g →
      g.type = 11 →
      g.verdict.isSome = true →
      s.mg.asm = [r] →
      r.from_ (2 + n) (leAt g.body 2 1) (leAt g.body 3 1 % 16) = true →
      bit (leAt g.body 3 1) 7 = false →
      bit (leAt g.body 3 1) 6 = true →
      leAt g.body 3 1 / 16 % 4 = (r.seq + 1) % 4 →
      (r.body ++ g.body.drop 4).length ≤ 4096 →
      (r.body ++ g.body.drop 4).take 6 = vendorMsg false 0 1 (some 0) [] →
      s.fld F_CN_STATUS_SWITCHING = 0 →
      s.verifyRecord ((r.body ++ g.body.drop 4).drop 6) = .adopt →
      Leads (.mgmt n) s fun t => t.mg.asm = [] ∧ t.cn.next = some ((r.body ++ g.body.drop 4).drop 6) ∧ t.fld F_CN_STATUS_SWITCHING = 1) ∧
  (∀ (s : State) (n : Nat),
      (s.headFlit n 3).all (fun g => g.type != 11 || g.verdict.isNone) = true →
      Leads (.mgmt n) s fun t => t = s)

/-- KEY_CREATE of each kind fills the lowest free slot with its kind, tenant and secret, ends E_CAPACITY with a full table, and ends as the
checks of its kind say otherwise (a second MEMORY slot, an accelerator that does not attest, a sealed record that Table 17.5 refuses).
KEY_RETIRE starts the retirement of a slot it may name, frees a LOST one, and refuses others; a retirement ends once nothing holds the slot
and its completions are written, closes its sessions, and stops what still holds it once its cap has passed. SESSION_BIND and SESSION_UNBIND
bind and unbind an index or refuse, the wrapping key is made where R574 allows, WRAP_INFO sends its record to the host, and a weight release
that is allowed returns the plaintext of its chunks or ends with the status of the chunk that failed. Each ends E_UNSUPPORTED where keys are
not allowed, and does nothing where no such command is ready. (R557, R558, R561, R564, R568, R574, R575, R576, R578, R579, R581, R582) -/
def Obligations.KeyCommandsComplete : Prop :=
  (∀ (s : State) (d : Nat) (x : Desc) (i : Nat),
      Runs s d 0x78 x →
      x.e.opA % 16 = 1 →
      s.keysAllowed = true →
      s.freshSlot = some i →
      s.memSlot x.e.tenant = none →
      Leads (.keyCreateMemory d) s fun t => Ended t d .ok ∧ (t.slot i).st = .active ∧ (t.slot i).kind = 1 ∧
        (t.slot i).tenant = x.e.tenant ∧ (t.slot i).gen = (s.slot i).gen ∧ (t.slot i).secret = .random s.fresh) ∧
  (∀ (s : State) (d : Nat) (x : Desc) (i : Nat),
      Runs s d 0x78 x →
      x.e.opA % 16 = 1 →
      s.keysAllowed = true →
      s.memSlot x.e.tenant = some i →
      Leads (.keyCreateMemory d) s fun t => Ended t d .param ∧ t.ks = s.ks) ∧
  (∀ (s : State) (d : Nat) (x : Desc),
      Runs s d 0x78 x →
      x.e.opA % 16 = 1 →
      s.keysAllowed = true →
      s.memSlot x.e.tenant = none →
      s.freshSlot = none →
      Leads (.keyCreateMemory d) s fun t => Ended t d .capacity ∧ t.ks = s.ks) ∧
  (∀ (s : State) (d : Nat),
      s.creates d 1 = false →
      Leads (.keyCreateMemory d) s fun t => t = s) ∧
  (∀ (s : State) (d : Nat) (x : Desc),
      Runs s d 0x78 x →
      x.e.opA % 16 = 1 →
      s.keysAllowed = false →
      Leads (.keyCreateMemory d) s fun t => Ended t d .unsupported ∧ t.ks = s.ks ∧ t.lk = s.lk) ∧
  (∀ (s : State) (d : Nat) (x : Desc) (i : Nat),
      Runs s d 0x78 x →
      x.e.opA % 16 = 2 →
      s.keysAllowed = true →
      s.freshSlot = some i →
      Leads (.keyCreateSessionShared d) s fun t => Ended t d .ok ∧ (t.slot i).st = .active ∧ (t.slot i).kind = 2 ∧
        (t.slot i).tenant = x.e.tenant ∧ (t.slot i).gen = (s.slot i).gen ∧ (t.slot i).secret = .given (x.blk.take 32)) ∧
  (∀ (s : State) (d : Nat) (x : Desc),
      Runs s d 0x78 x →
      x.e.opA % 16 = 2 →
      s.keysAllowed = true →
      s.freshSlot = none →
      Leads (.keyCreateSessionShared d) s fun t => Ended t d .capacity ∧ t.ks = s.ks) ∧
  (∀ (s : State) (d : Nat),
      s.creates d 2 = false →
      Leads (.keyCreateSessionShared d) s fun t => t = s) ∧
  (∀ (s : State) (d : Nat) (x : Desc),
      Runs s d 0x78 x →
      x.e.opA % 16 = 2 →
      s.keysAllowed = false →
      Leads (.keyCreateSessionShared d) s fun t => Ended t d .unsupported ∧ t.ks = s.ks ∧ t.lk = s.lk) ∧
  (∀ (s : State) (d : Nat) (v : Bool) (r b : List Byte) (x : Desc) (i : Nat),
      Runs s d 0x78 x →
      x.e.opA % 16 = 3 →
      s.keysAllowed = true →
      (s.link (bits x.e.opA 8 6)).st = .active →
      (s.link (bits x.e.opA 8 6)).partner.map (·.role) = some 1 →
      v = true →
      sha384 r = (policyOf x.blk).1 →
      digestOk (policyOf x.blk).2 (sha384 b) = true →
      s.freshSlot = some i →
      Leads (.keyCreateSessionAttested d v r b) s fun t => Ended t d .ok ∧ (t.slot i).st = .active ∧ (t.slot i).kind = 3 ∧
        (t.slot i).tenant = x.e.tenant ∧ (t.slot i).gen = (s.slot i).gen ∧ (t.slot i).mdigest = sha384 b ∧
        (t.slot i).rootHash = sha384 r ∧ (t.slot i).link = bits x.e.opA 8 6) ∧
  (∀ (s : State) (d : Nat) (v : Bool) (r b : List Byte) (x : Desc),
      Runs s d 0x78 x →
      x.e.opA % 16 = 3 →
      s.keysAllowed = true →
      (s.link (bits x.e.opA 8 6)).st = .active →
      (s.link (bits x.e.opA 8 6)).partner.map (·.role) = some 1 →
      v = true →
      sha384 r = (policyOf x.blk).1 →
      digestOk (policyOf x.blk).2 (sha384 b) = true →
      s.freshSlot = none →
      Leads (.keyCreateSessionAttested d v r b) s fun t => Ended t d .capacity ∧ t.ks = s.ks) ∧
  (∀ (s : State) (d : Nat) (v : Bool) (r b : List Byte) (x : Desc),
      Runs s d 0x78 x →
      x.e.opA % 16 = 3 →
      s.keysAllowed = true →
      ((s.link (bits x.e.opA 8 6)).st ≠ .active ∨ (s.link (bits x.e.opA 8 6)).partner.map (·.role) ≠ some 1 ∨ v = false ∨ sha384 r ≠ (policyOf x.blk).1 ∨ digestOk (policyOf x.blk).2 (sha384 b) = false) →
      Leads (.keyCreateSessionAttested d v r b) s fun t => Ended t d .perm ∧ (t.desc d).detail = 0xA3 ∧ t.ks = s.ks) ∧
  (∀ (s : State) (d : Nat) (v : Bool) (r b : List Byte),
      s.creates d 3 = false →
      Leads (.keyCreateSessionAttested d v r b) s fun t => t = s) ∧
  (∀ (s : State) (d : Nat) (v : Bool) (r b : List Byte) (x : Desc),
      Runs s d 0x78 x →
      x.e.opA % 16 = 3 →
      s.keysAllowed = false →
      Leads (.keyCreateSessionAttested d v r b) s fun t => Ended t d .unsupported ∧ t.ks = s.ks ∧ t.lk = s.lk) ∧
  (∀ (s : State) (d : Nat) (x : Desc) (b : List Byte) (i : Nat),
      Runs s d 0x78 x →
      x.e.opA % 16 = 4 →
      s.keysAllowed = true →
      s.sealedRecord x = some b →
      s.freshSlot = some i →
      Leads (.keyCreateWeight d) s fun t => (t.desc d).stage = .done ∧
        (s.sealedCheck x.e.tenant b = none → Ended t d .ok ∧ (t.slot i).st = .active ∧ (t.slot i).kind = 4 ∧
        (t.slot i).tenant = x.e.tenant ∧ (t.slot i).gen = (s.slot i).gen ∧
        (t.slot i).weightId = sealedId b ∧ (t.slot i).chunks = leAt b 0x20 4)) ∧
  (∀ (s : State) (d : Nat) (x : Desc) (b : List Byte) (st : Status) (n : Nat),
      Runs s d 0x78 x →
      x.e.opA % 16 = 4 →
      s.keysAllowed = true →
      s.sealedRecord x = some b →
      s.sealedCheck x.e.tenant b = some (st, n) →
      Leads (.keyCreateWeight d) s fun t => Ended t d st ∧ (t.desc d).detail = n ∧ t.ks = s.ks ∧ t.se = s.se) ∧
  (∀ (s : State) (d : Nat) (x : Desc),
      Runs s d 0x78 x →
      x.e.opA % 16 = 4 →
      s.keysAllowed = true →
      s.sealedRecord x = none →
      Leads (.keyCreateWeight d) s fun t => Ended t d .param ∧ t.ks = s.ks) ∧
  (∀ (s : State) (d : Nat),
      s.creates d 4 = false →
      Leads (.keyCreateWeight d) s fun t => t = s) ∧
  (∀ (s : State) (d : Nat) (x : Desc),
      Runs s d 0x78 x →
      x.e.opA % 16 = 4 →
      s.keysAllowed = false →
      Leads (.keyCreateWeight d) s fun t => Ended t d .unsupported ∧ t.ks = s.ks ∧ t.lk = s.lk) ∧
  (∀ (s : State) (d : Nat) (x : Desc) (i : Nat),
      Runs s d 0x79 x →
      s.keysAllowed = true →
      s.slotOf (x.e.opA % 2 ^ 32) = some i →
      64 ≤ i →
      (s.slot i).kind ≠ 1 →
      (s.slot i).tenant = x.e.tenant →
      (s.slot i).st = .active →
      Leads (.keyRetire d) s fun t => (t.desc d).stage = .wait .retire ∧ (t.slot i).st = .retiring ∧ (t.slot i).gen = (s.slot i).gen) ∧
  (∀ (s : State) (d : Nat) (x : Desc) (i : Nat),
      Runs s d 0x79 x →
      s.keysAllowed = true →
      s.slotOf (x.e.opA % 2 ^ 32) = some i →
      64 ≤ i →
      (s.slot i).kind ≠ 1 →
      (s.slot i).tenant = x.e.tenant →
      (s.slot i).st = .retiring →
      Leads (.keyRetire d) s fun t => (t.desc d).stage = .wait .retire ∧ t.ks = s.ks) ∧
  (∀ (s : State) (d : Nat) (x : Desc) (i : Nat),
      Runs s d 0x79 x →
      s.keysAllowed = true →
      s.slotOf (x.e.opA % 2 ^ 32) = some i →
      64 ≤ i →
      (s.slot i).kind ≠ 1 →
      (s.slot i).tenant = x.e.tenant →
      (s.slot i).st = .lost →
      Leads (.keyRetire d) s fun t => Ended t d .ok ∧ (t.slot i).st = .free ∧ (t.slot i).gen = (s.slot i).gen) ∧
  (∀ (s : State) (d : Nat) (x : Desc) (i : Nat),
      Runs s d 0x79 x →
      s.keysAllowed = true →
      s.slotOf (x.e.opA % 2 ^ 32) = some i →
      (i < 64 ∨ (s.slot i).kind = 1 ∨ (s.slot i).tenant ≠ x.e.tenant) →
      Leads (.keyRetire d) s fun t => Ended t d .param ∧ t.ks = s.ks) ∧
  (∀ (s : State) (d : Nat) (x : Desc),
      Runs s d 0x79 x →
      s.keysAllowed = true →
      s.slotOf (x.e.opA % 2 ^ 32) = none →
      Leads (.keyRetire d) s fun t => Ended t d .param ∧ t.ks = s.ks) ∧
  (∀ (s : State) (d : Nat),
      (s.desc d).runs? 0x79 = false →
      Leads (.keyRetire d) s fun t => t = s) ∧
  (∀ (s : State) (d : Nat) (x : Desc),
      Runs s d 0x79 x →
      s.keysAllowed = false →
      Leads (.keyRetire d) s fun t => Ended t d .unsupported ∧ t.ks = s.ks ∧ t.lk = s.lk) ∧
  (∀ (s : State) (i : Nat),
      (s.slot i).st = .retiring →
      s.holders i true = [] →
      s.apHolds i = false →
      s.sessionsOn i = [] →
      Leads (.retirementDrained i) s fun t => t.slot i = { gen := ((s.slot i).gen + 1) % 65536 }) ∧
  (∀ (s : State) (i n k : Nat),
      (s.slot i).st = .retiring →
      s.holders i true = [] →
      s.apHolds i = false →
      s.sessionsOn i = [(n, k)] →
      s.unwritten n (s.session n k).tenant = false →
      (s.session n k).isOpen = true →
      (s.link n).st = .active →
      Leads (.retirementDrained i) s fun t => (t.session n k).isOpen = false ∧ (t.session n k).closing = true ∧ t.ks = s.ks) ∧
  (∀ (s : State) (i : Nat),
      ((s.slot i).st ≠ .retiring ∨ s.holders i true ≠ [] ∨ s.apHolds i = true ∨ (s.sessionsOn i).any (fun p => s.unwritten p.1 (s.session p.1 p.2).tenant) = true) →
      Leads (.retirementDrained i) s fun t => t = s) ∧
  (∀ (s : State) (i : Nat) (unf : List Nat),
      (s.slot i).st = .retiring →
      (s.slot i).since + 1000000 * s.fld F_SE_KEY_CFG_CAP_MS ≤ s.now →
      kvSorted s.q.descs = true →
      Leads (.retirementCap i unf) s fun t => (∀ d ∈ s.holders i true, Ended t d .retired) ∧ (∀ a ∈ t.hp.held, s.memSlot a.tenant ≠ some i) ∧
        t.fld F_SE_KEY_ABORTS_ABORTS = min (s.fld F_SE_KEY_ABORTS_ABORTS + ((s.holders i true).length + (s.hp.held.filter (fun a => s.memSlot a.tenant == some i)).length)) (2 ^ F_SE_KEY_ABORTS_ABORTS.wid - 1)) ∧
  (∀ (s : State) (i : Nat) (unf : List Nat),
      ((s.slot i).st ≠ .retiring ∨ s.now < (s.slot i).since + 1000000 * s.fld F_SE_KEY_CFG_CAP_MS) →
      Leads (.retirementCap i unf) s fun t => t = s) ∧
  (∀ (s : State) (d : Nat) (x : Desc) (n i k : Nat),
      Runs s d 0x7A x →
      x.e.flag 8 = false →
      s.keysAllowed = true →
      x.e.sessionAt = (n, i) →
      s.slotOf (x.e.opB % 2 ^ 32) = some k →
      n < 48 →
      1 ≤ i →
      i ≤ 62 →
      64 ≤ k →
      (s.session n i).bound = false →
      (s.slot k).tenant = x.e.tenant →
      ((s.slot k).kind = 2 ∨ ((s.slot k).kind = 3 ∧ (s.slot k).link = n)) →
      (∀ p ∈ (s.link n).sessions, p.2.bound = true → p.1 ≠ 63 → p.2.tenant ≠ x.e.tenant) →
      (s.slot k).st = .active →
      Leads (.sessionBind d) s fun t => Ended t d .ok ∧ (t.session n i).bound = true ∧ (t.session n i).tenant = x.e.tenant ∧
        (t.session n i).handle = x.e.opB % 2 ^ 32 ∧ ((s.link n).isUp = true → (t.session n i).opening = true)) ∧
  (∀ (s : State) (d : Nat) (x : Desc) (n i k : Nat),
      Runs s d 0x7A x →
      x.e.flag 8 = false →
      s.keysAllowed = true →
      x.e.sessionAt = (n, i) →
      s.slotOf (x.e.opB % 2 ^ 32) = some k →
      n < 48 →
      1 ≤ i →
      i ≤ 62 →
      64 ≤ k →
      (s.session n i).bound = false →
      (s.slot k).tenant = x.e.tenant →
      ((s.slot k).kind = 2 ∨ ((s.slot k).kind = 3 ∧ (s.slot k).link = n)) →
      (∀ p ∈ (s.link n).sessions, p.2.bound = true → p.1 ≠ 63 → p.2.tenant ≠ x.e.tenant) →
      (s.slot k).st ≠ .active →
      Leads (.sessionBind d) s fun t => Ended t d .retired ∧ t.lk = s.lk) ∧
  (∀ (s : State) (d : Nat) (x : Desc) (n i k : Nat),
      Runs s d 0x7A x →
      x.e.flag 8 = false →
      s.keysAllowed = true →
      x.e.sessionAt = (n, i) →
      s.slotOf (x.e.opB % 2 ^ 32) = some k →
      (48 ≤ n ∨ i = 0 ∨ 62 < i ∨ (s.session n i).bound = true ∨ k < 64 ∨ (s.slot k).tenant ≠ x.e.tenant ∨ ((s.slot k).kind ≠ 2 ∧ (s.slot k).kind ≠ 3) ∨ ((s.slot k).kind = 3 ∧ (s.slot k).link ≠ n)) →
      Leads (.sessionBind d) s fun t => Ended t d .param ∧ t.lk = s.lk) ∧
  (∀ (s : State) (d : Nat) (x : Desc) (n i k : Nat) (p : Nat × Session),
      Runs s d 0x7A x →
      x.e.flag 8 = false →
      s.keysAllowed = true →
      x.e.sessionAt = (n, i) →
      s.slotOf (x.e.opB % 2 ^ 32) = some k →
      p ∈ (s.link n).sessions →
      p.2.bound = true →
      p.1 ≠ 63 →
      p.2.tenant = x.e.tenant →
      (s.slot k).tenant = x.e.tenant →
      Leads (.sessionBind d) s fun t => Ended t d .param ∧ t.lk = s.lk) ∧
  (∀ (s : State) (d : Nat) (x : Desc),
      Runs s d 0x7A x →
      x.e.flag 8 = false →
      s.keysAllowed = true →
      s.slotOf (x.e.opB % 2 ^ 32) = none →
      Leads (.sessionBind d) s fun t => Ended t d .param ∧ t.lk = s.lk) ∧
  (∀ (s : State) (d : Nat),
      ((s.desc d).runs? 0x7A && !(s.desc d).e.flag 8) = false →
      Leads (.sessionBind d) s fun t => t = s) ∧
  (∀ (s : State) (d : Nat) (x : Desc),
      Runs s d 0x7A x →
      x.e.flag 8 = false →
      s.keysAllowed = false →
      Leads (.sessionBind d) s fun t => Ended t d .unsupported ∧ t.ks = s.ks ∧ t.lk = s.lk) ∧
  (∀ (s : State) (d : Nat) (x : Desc) (n i : Nat),
      Runs s d 0x7A x →
      x.e.flag 8 = true →
      s.keysAllowed = true →
      x.e.sessionAt = (n, i) →
      n < 48 →
      i ≠ 63 →
      (s.session n i).bound = true →
      (s.session n i).tenant = x.e.tenant →
      (s.session n i).handle = x.e.opB % 2 ^ 32 →
      (s.session n i).isOpen = false →
      (s.session n i).closing = false →
      Leads (.sessionUnbind d) s fun t => Ended t d .ok ∧ t.session n i = {}) ∧
  (∀ (s : State) (d : Nat) (x : Desc) (n i : Nat),
      Runs s d 0x7A x →
      x.e.flag 8 = true →
      s.keysAllowed = true →
      x.e.sessionAt = (n, i) →
      n < 48 →
      i ≠ 63 →
      (s.session n i).bound = true →
      (s.session n i).tenant = x.e.tenant →
      (s.session n i).handle = x.e.opB % 2 ^ 32 →
      (s.session n i).isOpen = true →
      (s.link n).st = .active →
      Leads (.sessionUnbind d) s fun t => (t.desc d).stage = .wait .others ∧ (t.session n i).isOpen = false ∧ (t.session n i).closing = true) ∧
  (∀ (s : State) (d : Nat) (x : Desc) (n i : Nat),
      Runs s d 0x7A x →
      x.e.flag 8 = true →
      s.keysAllowed = true →
      x.e.sessionAt = (n, i) →
      (48 ≤ n ∨ i = 63 ∨ (s.session n i).bound = false ∨ (s.session n i).tenant ≠ x.e.tenant ∨ (s.session n i).handle ≠ x.e.opB % 2 ^ 32) →
      Leads (.sessionUnbind d) s fun t => Ended t d .param ∧ t.lk = s.lk) ∧
  (∀ (s : State) (d : Nat),
      ((s.desc d).runs? 0x7A && (s.desc d).e.flag 8) = false →
      Leads (.sessionUnbind d) s fun t => t = s) ∧
  (∀ (s : State) (d : Nat) (x : Desc),
      Runs s d 0x7A x →
      x.e.flag 8 = true →
      s.keysAllowed = false →
      Leads (.sessionUnbind d) s fun t => Ended t d .unsupported ∧ t.ks = s.ks ∧ t.lk = s.lk) ∧
  (∀ (s : State) (d : Nat) (x : Desc),
      Runs s d 0x7B x →
      x.e.opA % 16 = 1 →
      s.lc = 2 →
      s.se.debug = 0 →
      s.se.vbat.wrap = .absent →
      Leads (.wrapProvision d) s fun t => Ended t d .ok ∧ t.se.vbat = { s.se.vbat with wrap := .random s.fresh } ∧
        t.fld F_SE_STATUS_WRAP = 1 ∧ t.fresh = s.fresh + 1) ∧
  (∀ (s : State) (d : Nat) (x : Desc),
      Runs s d 0x7B x →
      x.e.opA % 16 = 1 →
      s.keysAllowed = true →
      (s.lc ≠ 2 ∨ s.se.debug ≠ 0 ∨ s.se.vbat.wrap ≠ .absent) →
      Leads (.wrapProvision d) s fun t => Ended t d .unsupported ∧ (t.desc d).detail = 0xA2 ∧ t.se = s.se) ∧
  (∀ (s : State) (d : Nat),
      s.weighs d 1 = false →
      Leads (.wrapProvision d) s fun t => t = s) ∧
  (∀ (s : State) (d : Nat) (x : Desc),
      Runs s d 0x7B x →
      x.e.opA % 16 = 1 →
      s.keysAllowed = false →
      Leads (.wrapProvision d) s fun t => Ended t d .unsupported ∧ t.ks = s.ks ∧ t.lk = s.lk) ∧
  (∀ (s : State) (d : Nat) (x : Desc),
      Runs s d 0x7B x →
      x.e.opA % 16 = 2 →
      s.keysAllowed = true →
      s.noHost x.q = false →
      s.hostFault = none →
      s.se.vbat.wrap ≠ .absent →
      Leads (.wrapInfo d) s fun t => Ended t d .ok ∧ s.wrapRecord ∈ t.sentTo 0 x.e.opB ∧ t.se = s.se) ∧
  (∀ (s : State) (d : Nat) (x : Desc),
      Runs s d 0x7B x →
      x.e.opA % 16 = 2 →
      s.keysAllowed = true →
      s.noHost x.q = false →
      s.se.vbat.wrap = .absent →
      Leads (.wrapInfo d) s fun t => Ended t d .unsupported ∧ (t.desc d).detail = 0xA2) ∧
  (∀ (s : State) (d : Nat) (x : Desc) (k : Nat),
      Runs s d 0x7B x →
      x.e.opA % 16 = 2 →
      s.keysAllowed = true →
      s.noHost x.q = false →
      s.hostFault = some k →
      s.se.vbat.wrap ≠ .absent →
      Leads (.wrapInfo d) s fun t => Ended t d .aborted ∧ (t.desc d).detail = k ∧ t.outbox = s.outbox) ∧
  (∀ (s : State) (d : Nat) (x : Desc),
      Runs s d 0x7B x →
      x.e.opA % 16 = 2 →
      s.noHost x.q = true →
      Leads (.wrapInfo d) s fun t => t = s) ∧
  (∀ (s : State) (d : Nat) (x : Desc),
      Runs s d 0x7B x →
      x.e.opA % 16 = 2 →
      s.noHost x.q = false →
      s.keysAllowed = false →
      Leads (.wrapInfo d) s fun t => Ended t d .unsupported ∧ t.outbox = s.outbox) ∧
  (∀ (s : State) (d : Nat),
      s.weighs d 2 = false →
      Leads (.wrapInfo d) s fun t => t = s) ∧
  (∀ (s : State) (d : Nat) (x : Desc) (i : Nat) (ps : List Piece),
      Runs s d 0x7B x →
      x.e.opA % 16 = 3 →
      ps = (x.src.map (fun f => pieces [f] 0 65536)).flatten →
      s.readWaits x.e.tenant ps = false →
      s.outOfTurn x.e.tenant ps [] = false →
      s.keysAllowed = true →
      i = bits x.e.spec 0 32 % 2048 →
      s.releaseOk x = true →
      bits x.e.spec 48 32 + x.e.len ≤ (s.slot i).chunks →
      ((s.payTurns x.e.tenant ps []).readChunks x (s.slot i) x.e.len 0).2.2.2 = .ok →
      (s.link (s.queue x.outQ).origin).st = .active →
      s.dataUnacked (s.queue x.outQ).origin x.outQ x.xtag = false →
      Leads (.weightRelease d) s fun t => (t.desc d).stage = .wait .dataOut ∧ (t.desc d).data = ((s.payTurns x.e.tenant ps []).readChunks x (s.slot i) x.e.len 0).2.1 ∧
        (t.desc d).status = .ok) ∧
  (∀ (s : State) (d : Nat) (x : Desc) (i : Nat) (ps : List Piece),
      Runs s d 0x7B x →
      x.e.opA % 16 = 3 →
      ps = (x.src.map (fun f => pieces [f] 0 65536)).flatten →
      s.readWaits x.e.tenant ps = false →
      s.outOfTurn x.e.tenant ps [] = false →
      s.keysAllowed = true →
      i = bits x.e.spec 0 32 % 2048 →
      s.releaseOk x = true →
      bits x.e.spec 48 32 + x.e.len ≤ (s.slot i).chunks →
      ((s.payTurns x.e.tenant ps []).readChunks x (s.slot i) x.e.len 0).2.2.2 ≠ .ok →
      Leads (.weightRelease d) s fun t => Ended t d ((s.payTurns x.e.tenant ps []).readChunks x (s.slot i) x.e.len 0).2.2.2 ∧ (t.desc d).res.w1 = ((s.payTurns x.e.tenant ps []).readChunks x (s.slot i) x.e.len 0).2.2.1) ∧
  (∀ (s : State) (d : Nat) (x : Desc) (i : Nat) (ps : List Piece),
      Runs s d 0x7B x →
      x.e.opA % 16 = 3 →
      ps = (x.src.map (fun f => pieces [f] 0 65536)).flatten →
      s.readWaits x.e.tenant ps = false →
      s.outOfTurn x.e.tenant ps [] = false →
      s.keysAllowed = true →
      i = bits x.e.spec 0 32 % 2048 →
      s.releaseOk x = true →
      (s.slot i).chunks < bits x.e.spec 48 32 + x.e.len →
      Leads (.weightRelease d) s fun t => Ended t d .param ∧ t.outbox = s.outbox) ∧
  (∀ (s : State) (d : Nat) (x : Desc) (ps : List Piece),
      Runs s d 0x7B x →
      x.e.opA % 16 = 3 →
      ps = (x.src.map (fun f => pieces [f] 0 65536)).flatten →
      s.readWaits x.e.tenant ps = false →
      s.outOfTurn x.e.tenant ps [] = false →
      s.keysAllowed = true →
      s.releaseOk x = false →
      Leads (.weightRelease d) s fun t => Ended t d .perm ∧ (t.desc d).detail = 0xB8 ∧ t.outbox = s.outbox) ∧
  (∀ (s : State) (d : Nat) (x : Desc) (ps : List Piece),
      Runs s d 0x7B x →
      x.e.opA % 16 = 3 →
      ps = (x.src.map (fun f => pieces [f] 0 65536)).flatten →
      s.readWaits x.e.tenant ps = false →
      s.outOfTurn x.e.tenant ps [] = false →
      s.keysAllowed = false →
      Leads (.weightRelease d) s fun t => Ended t d .unsupported ∧ t.outbox = s.outbox) ∧
  (∀ (s : State) (d : Nat),
      (s.weighs d 3 = false ∨ s.readWaits (s.desc d).e.tenant (((s.desc d).src.map (fun f => pieces [f] 0 65536)).flatten) = true ∨ s.outOfTurn (s.desc d).e.tenant (((s.desc d).src.map (fun f => pieces [f] 0 65536)).flatten) [] = true) →
      Leads (.weightRelease d) s fun t => t = s)

/-- TENANT_CREATE makes a FREE tenant ACTIVE with the length, share group and quality of service of its block, or ends E_PARAM,
E_UNSUPPORTED (tags where none are present) or E_CAPACITY with the tenant as it was; TENANT_SET changes the quality of service, or with
SHARE opens a map window, waits for one, and ends with the status of the check that fails. A removal starts, waits for key slots and
windows, and ends with the tenant FREE. Queues and VFs are bound and unbound or refused, TENANT_RESET disables the queues of the tenant.
Reservation credit accrues on the units of both tiers, the shares come into force, cap counts lose one share and held host accesses are
tried again, and a vector whose oldest completion has waited its time, or that is unmasked, is sent, or marked pending where it cannot be.
Each does nothing where no such command or condition is there. (R348, R486, R487, R488, R491, R493, R494, R495, R496, R497, R503, R508) -/
def Obligations.TenantCommandsComplete : Prop :=
  (∀ (s : State) (d : Nat) (x : Desc),
      Runs s d 0x70 x →
      s.tenantState x.e.tenant = 0 →
      blkReserved x.blk = true →
      blkWord x.blk 0 ≤ 16777216 →
      s.qosOk x.blk = true →
      (bits (blkWord x.blk 4) 8 1 = 1 → s.fld F_SI_CFG_TAGS_PRESENT = 1) →
      blkWord x.blk 0 ≤ s.fld F_TN_MAP_POOL_FREE_FREE →
      s.resFit x.e.tenant x.blk = true →
      Leads (.tenantCreate d) s fun t => Ended t d .ok ∧ t.tenantState x.e.tenant = 1 ∧
        t.fld F_TN_MAP_LEN_LEN x.e.tenant = blkWord x.blk 0 ∧ t.fld F_TN_T_STATUS_SHARE_GROUP x.e.tenant = bits (blkWord x.blk 4) 0 8 ∧
        t.fld F_TN_T_STATUS_TAGS x.e.tenant = bits (blkWord x.blk 4) 8 1 ∧ t.fld F_TN_T_QE_WEIGHT_W1 x.e.tenant = bits (blkWord x.blk 8) 0 8 ∧
        t.fld F_TN_MAP_POOL_FREE_FREE = (s.fld F_TN_MAP_POOL_FREE_FREE - blkWord x.blk 0) % 2 ^ F_TN_MAP_POOL_FREE_FREE.wid ∧ (t.desc d).res.w0 = blkWord x.blk 0) ∧
  (∀ (s : State) (d : Nat) (x : Desc),
      Runs s d 0x70 x →
      (s.tenantState x.e.tenant ≠ 0 ∨ blkReserved x.blk = false ∨ 16777216 < blkWord x.blk 0 ∨ s.qosOk x.blk = false) →
      Leads (.tenantCreate d) s fun t => Ended t d .param ∧ t.tenantState x.e.tenant = s.tenantState x.e.tenant ∧ t.fld F_TN_MAP_POOL_FREE_FREE = s.fld F_TN_MAP_POOL_FREE_FREE) ∧
  (∀ (s : State) (d : Nat) (x : Desc),
      Runs s d 0x70 x →
      s.tenantState x.e.tenant = 0 →
      blkReserved x.blk = true →
      blkWord x.blk 0 ≤ 16777216 →
      s.qosOk x.blk = true →
      bits (blkWord x.blk 4) 8 1 = 1 →
      s.fld F_SI_CFG_TAGS_PRESENT ≠ 1 →
      Leads (.tenantCreate d) s fun t => Ended t d .unsupported ∧ t.tenantState x.e.tenant = s.tenantState x.e.tenant ∧ t.fld F_TN_MAP_POOL_FREE_FREE = s.fld F_TN_MAP_POOL_FREE_FREE) ∧
  (∀ (s : State) (d : Nat) (x : Desc),
      Runs s d 0x70 x →
      s.tenantState x.e.tenant = 0 →
      blkReserved x.blk = true →
      blkWord x.blk 0 ≤ 16777216 →
      s.qosOk x.blk = true →
      (bits (blkWord x.blk 4) 8 1 = 1 → s.fld F_SI_CFG_TAGS_PRESENT = 1) →
      (s.fld F_TN_MAP_POOL_FREE_FREE < blkWord x.blk 0 ∨ s.resFit x.e.tenant x.blk = false) →
      Leads (.tenantCreate d) s fun t => Ended t d .capacity ∧ t.tenantState x.e.tenant = s.tenantState x.e.tenant ∧ t.fld F_TN_MAP_POOL_FREE_FREE = s.fld F_TN_MAP_POOL_FREE_FREE) ∧
  (∀ (s : State) (d : Nat),
      (s.desc d).runs? 0x70 = false →
      Leads (.tenantCreate d) s fun t => t = s) ∧
  (∀ (s : State) (d : Nat) (x : Desc),
      Runs s d 0x71 x →
      x.e.flag 9 = false →
      s.setCheck x = .ok →
      Leads (.tenantSet d) s fun t => Ended t d .ok ∧ t.fld F_TN_T_QE_WEIGHT_W1 x.e.tenant = bits (blkWord x.blk 8) 0 8 ∧
        t.fld F_TN_T_SHARE_CARREL_MAX x.e.tenant = bits (blkWord x.blk 0xC) 16 7 ∧ t.fld F_TN_T_CAP_HOT x.e.tenant = blkWord x.blk 0x14 % 65536 ∧ t.epoch x.e.tenant = s.epoch x.e.tenant) ∧
  (∀ (s : State) (d : Nat) (x : Desc),
      Runs s d 0x71 x →
      x.e.flag 9 = false →
      s.setCheck x ≠ .ok →
      Leads (.tenantSet d) s fun t => Ended t d (s.setCheck x) ∧ t.fld F_TN_T_QE_WEIGHT_W1 x.e.tenant = s.fld F_TN_T_QE_WEIGHT_W1 x.e.tenant) ∧
  (∀ (s : State) (d : Nat),
      ((s.desc d).runs? 0x71 && !(s.desc d).e.flag 9) = false →
      Leads (.tenantSet d) s fun t => t = s) ∧
  (∀ (s : State) (d : Nat) (x : Desc),
      Runs s d 0x71 x →
      x.e.flag 9 = true →
      s.setCheck x = .ok →
      s.revokeBusy x.e.tenant = false →
      s.inWindow x.e.tenant = false →
      Leads (.tenantSetShare d) s fun t => (t.desc d).stage = .wait .window ∧ t.inWindow x.e.tenant = true ∧
        t.fld F_TN_T_STATUS_SHARE_GROUP x.e.tenant = bits (blkWord x.blk 4) 0 8) ∧
  (∀ (s : State) (d : Nat) (x : Desc),
      Runs s d 0x71 x →
      x.e.flag 9 = true →
      s.setCheck x = .ok →
      s.revokeBusy x.e.tenant = true →
      Leads (.tenantSetShare d) s fun t => (t.desc d).stage = .wait .turn ∧ t.regs = s.regs) ∧
  (∀ (s : State) (d : Nat) (x : Desc),
      Runs s d 0x71 x →
      x.e.flag 9 = true →
      s.setCheck x = .ok →
      s.revokeBusy x.e.tenant = false →
      s.inWindow x.e.tenant = true →
      Leads (.tenantSetShare d) s fun t => t = s) ∧
  (∀ (s : State) (d : Nat) (x : Desc),
      Runs s d 0x71 x →
      x.e.flag 9 = true →
      s.setCheck x ≠ .ok →
      Leads (.tenantSetShare d) s fun t => Ended t d (s.setCheck x) ∧ t.fld F_TN_T_STATUS_SHARE_GROUP x.e.tenant = s.fld F_TN_T_STATUS_SHARE_GROUP x.e.tenant) ∧
  (∀ (s : State) (d : Nat),
      ((s.desc d).runs? 0x71 && (s.desc d).e.flag 9) = false →
      Leads (.tenantSetShare d) s fun t => t = s) ∧
  (∀ (s : State) (n : Nat) (unf : List Nat) (r : Removal),
      s.tn.removals.find? (fun r => r.tenant == n) = some r →
      r.started = false →
      Leads (.tenantRemove n unf) s fun t => (∃ k ∈ t.tn.removals, k = { r with started := true }) ∧ t.fld F_TN_T_STATUS_STATE n = s.fld F_TN_T_STATUS_STATE n ∧
        ∀ i ∈ s.slotsOf n, (t.slot i).st = .retiring ∨ (t.slot i).st = .free) ∧
  (∀ (s : State) (n : Nat) (unf : List Nat) (r : Removal),
      s.tn.removals.find? (fun r => r.tenant == n) = some r →
      r.started = true →
      s.slotsOf n = [] →
      s.inWindow n = false →
      Leads (.tenantRemove n unf) s fun t => t.tn.removals = s.tn.removals.filter (fun r => r.tenant != n) ∧ t.fld F_TN_T_STATUS_STATE n = 0 ∧
        t.fld F_TN_MAP_LEN_LEN n = 0 ∧ ∀ p ∈ t.map.mirror, p.1 / 16777216 ≠ n) ∧
  (∀ (s : State) (n : Nat) (unf : List Nat) (r : Removal),
      s.tn.removals.find? (fun r => r.tenant == n) = some r →
      r.started = true →
      (s.slotsOf n ≠ [] ∨ s.inWindow n = true) →
      Leads (.tenantRemove n unf) s fun t => t = s) ∧
  (∀ (s : State) (n : Nat) (unf : List Nat),
      s.tn.removals.find? (fun r => r.tenant == n) = none →
      Leads (.tenantRemove n unf) s fun t => t = s) ∧
  (∀ (s : State) (d : Nat) (x : Desc) (q n : Nat),
      Runs s d 0x73 x →
      bits x.e.opA 0 16 = q →
      bits x.e.opA 16 8 = n →
      16 ≤ q →
      (s.queue q).isBound = false →
      (s.queue q).st = .disabled →
      s.originOk x.e.tenant n = true →
      0x80 ≤ n →
      bits x.e.opB 0 11 < vectorCount (n - 0x80) →
      Leads (.queueBind d) s fun t => Ended t d .ok ∧
        t.queue q = { tenant := x.e.tenant, origin := n, vector := bits x.e.opB 0 11, lcount := 1, ltime := bits x.e.spec 16 16 } ∧
        t.ringSize q = 16) ∧
  (∀ (s : State) (d : Nat) (x : Desc) (q n : Nat),
      Runs s d 0x73 x →
      bits x.e.opA 0 16 = q →
      bits x.e.opA 16 8 = n →
      16 ≤ q →
      (s.queue q).isBound = false →
      (s.queue q).st = .disabled →
      s.originOk x.e.tenant n = true →
      n < 0x30 →
      1 ≤ bits x.e.spec 0 3 →
      bits x.e.spec 0 3 ≤ 6 →
      Leads (.queueBind d) s fun t => Ended t d .ok ∧
        t.queue q = { tenant := x.e.tenant, origin := n, vector := bits x.e.opB 0 11, lcount := bits x.e.spec 0 3, ltime := bits x.e.spec 16 16 }) ∧
  (∀ (s : State) (d : Nat) (x : Desc) (q n : Nat),
      Runs s d 0x73 x →
      bits x.e.opA 0 16 = q →
      bits x.e.opA 16 8 = n →
      (q < 16 ∨ (s.queue q).isBound = true ∨ (s.queue q).st ≠ .disabled ∨ s.originOk x.e.tenant n = false ∨ (n < 0x30 ∧ (bits x.e.spec 0 3 = 0 ∨ bits x.e.spec 0 3 = 7)) ∨ (0x30 ≤ n ∧ vectorCount (n - 0x80) ≤ bits x.e.opB 0 11)) →
      Leads (.queueBind d) s fun t => Ended t d .param ∧ t.q.tab = s.q.tab) ∧
  (∀ (s : State) (d : Nat),
      (s.desc d).runs? 0x73 = false →
      Leads (.queueBind d) s fun t => t = s) ∧
  (∀ (s : State) (d : Nat) (unf : List Nat) (x : Desc) (q : Nat),
      Runs s d 0x74 x →
      bits x.e.opA 0 16 = q →
      16 ≤ q →
      (s.queue q).isBound = true →
      (s.queue q).tenant = x.e.tenant →
      (s.queue q).unbindBy = none →
      (s.queue q).st = .disabled →
      Leads (.queueUnbind d unf) s fun t => Ended t d .ok ∧ t.queue q = {}) ∧
  (∀ (s : State) (d : Nat) (unf : List Nat) (x : Desc) (q : Nat),
      Runs s d 0x74 x →
      bits x.e.opA 0 16 = q →
      16 ≤ q →
      (s.queue q).isBound = true →
      (s.queue q).tenant = x.e.tenant →
      (s.queue q).unbindBy = none →
      (s.queue q).st ≠ .disabled →
      x.q ≠ q →
      Leads (.queueUnbind d unf) s fun t => (t.desc d).stage = .wait .others ∧ (t.queue q).st = .resetting ∧ (t.queue q).unbindBy = some d) ∧
  (∀ (s : State) (d : Nat) (unf : List Nat) (x : Desc) (q : Nat),
      Runs s d 0x74 x →
      bits x.e.opA 0 16 = q →
      16 ≤ q →
      (s.queue q).isBound = true →
      (s.queue q).tenant = x.e.tenant →
      (s.queue q).unbindBy = none →
      (s.queue q).st ≠ .disabled →
      x.q = q →
      Leads (.queueUnbind d unf) s fun t => (t.queue q).st = .resetting ∧ (t.queue q).unbindBy = some d) ∧
  (∀ (s : State) (d : Nat) (unf : List Nat) (x : Desc) (q : Nat),
      Runs s d 0x74 x →
      bits x.e.opA 0 16 = q →
      (q < 16 ∨ (s.queue q).isBound = false ∨ (s.queue q).tenant ≠ x.e.tenant ∨ (s.queue q).unbindBy ≠ none) →
      Leads (.queueUnbind d unf) s fun t => Ended t d .param ∧ t.q.tab = s.q.tab) ∧
  (∀ (s : State) (d : Nat) (unf : List Nat),
      (s.desc d).runs? 0x74 = false →
      Leads (.queueUnbind d unf) s fun t => t = s) ∧
  (∀ (s : State) (d : Nat) (x : Desc) (n : Nat),
      Runs s d 0x75 x →
      x.e.flag 8 = false →
      bits x.e.opA 0 6 = n →
      n ≠ 0 →
      n ≤ s.ir.numVfs →
      (s.hostFn n).tenant = none →
      Leads (.vfBind d) s fun t => Ended t d .ok ∧ t.hostFn n = { s.hostFn n with tenant := some x.e.tenant }) ∧
  (∀ (s : State) (d : Nat) (x : Desc) (n : Nat),
      Runs s d 0x75 x →
      x.e.flag 8 = false →
      bits x.e.opA 0 6 = n →
      (n = 0 ∨ s.ir.numVfs < n ∨ (s.hostFn n).tenant ≠ none) →
      Leads (.vfBind d) s fun t => Ended t d .param ∧ t.ir = s.ir) ∧
  (∀ (s : State) (d : Nat),
      ((s.desc d).runs? 0x75 && !(s.desc d).e.flag 8) = false →
      Leads (.vfBind d) s fun t => t = s) ∧
  (∀ (s : State) (d : Nat) (x : Desc) (n : Nat),
      Runs s d 0x75 x →
      x.e.flag 8 = true →
      bits x.e.opA 0 6 = n →
      (s.hostFn n).tenant = some x.e.tenant →
      s.queuesWhere (fun y => y.origin == 0x80 + n) = [] →
      Leads (.vfUnbind d) s fun t => Ended t d .ok ∧ t.hostFn n = { s.hostFn n with tenant := none }) ∧
  (∀ (s : State) (d : Nat) (x : Desc) (n : Nat),
      Runs s d 0x75 x →
      x.e.flag 8 = true →
      bits x.e.opA 0 6 = n →
      ((s.hostFn n).tenant ≠ some x.e.tenant ∨ s.queuesWhere (fun y => y.origin == 0x80 + n) ≠ []) →
      Leads (.vfUnbind d) s fun t => Ended t d .param ∧ t.ir = s.ir) ∧
  (∀ (s : State) (d : Nat),
      ((s.desc d).runs? 0x75 && (s.desc d).e.flag 8) = false →
      Leads (.vfUnbind d) s fun t => t = s) ∧
  (∀ (s : State) (d : Nat) (unf : List Nat) (x : Desc),
      Runs s d 0x76 x →
      (s.queue x.q).tenant ≠ x.e.tenant →
      kvSorted s.q.descs = true →
      kvSorted s.q.tab = true →
      Leads (.tenantReset d unf) s fun t => Ended t d .ok ∧
        ∀ p ∈ s.q.tab, (s.queue p.1).isBound = true → (s.queue p.1).tenant = x.e.tenant → (t.queue p.1).st = .disabled) ∧
  (∀ (s : State) (d : Nat) (unf : List Nat),
      (s.desc d).runs? 0x76 = false →
      Leads (.tenantReset d unf) s fun t => t = s) ∧
  (∀ (s : State) (n : Nat) (u : Nat) (c : Nat),
      n ∈ s.sharers →
      u ∈ s.tierUnits true →
      s.fld F_TN_T_RESERVE_WARM n ≠ 0 →
      c = s.fld F_TN_T_RESERVE_WARM n * 16000 / max 1 (s.tierUnits true).length →
      Leads (.reservationCredit) s fun t => kvGet 0 t.tn.credit (creditKey n u) = min (4 * c) (kvGet 0 s.tn.credit (creditKey n u) + c) ∧
        (s.tenantState n ≠ 0 → t.terms n = s.termsNow n) ∧ t.tn.served = s.tn.served) ∧
  (∀ (s : State) (n : Nat) (u : Nat) (c : Nat),
      n ∈ s.sharers →
      u ∈ s.tierUnits false →
      s.fld F_TN_T_RESERVE_HOT n ≠ 0 →
      c = s.fld F_TN_T_RESERVE_HOT n * 16000 / max 1 (s.tierUnits false).length →
      Leads (.reservationCredit) s fun t => kvGet 0 t.tn.credit (creditKey n u) = min (4 * c) (kvGet 0 s.tn.credit (creditKey n u) + c) ∧
        (s.tenantState n ≠ 0 → t.terms n = s.termsNow n) ∧ t.tn.served = s.tn.served) ∧
  (∀ (s : State),
      Leads (.capInterval) s fun t => t = ({ s with tn := { s.tn with served := (s.tn.served.map (fun p => (p.1, p.2 - s.capShare (p.1 / 256) (p.1 % 256)))).filter (fun p => p.2 != 0) } } : State).apSweep ∧
        (s.hp.held = [] → t.tn.credit = s.tn.credit ∧ t.tn.served = (s.tn.served.map (fun p => (p.1, p.2 - s.capShare (p.1 / 256) (p.1 % 256)))).filter (fun p => p.2 != 0))) ∧
  (∀ (s : State) (n : Nat) (v : Nat),
      s.fld F_IR_F_VPEND_PENDING (vecKey n v) ≠ 0 →
      s.waitedTime n v = true →
      s.canSend n v = true →
      Leads (.vectorCoalesceTimeout n v) s fun t => t.outbox = s.outbox ++ [.msix n v] ∧ t.fld F_IR_F_VPEND_PENDING (vecKey n v) = 0) ∧
  (∀ (s : State) (n : Nat) (v : Nat),
      s.fld F_IR_F_VPEND_PENDING (vecKey n v) ≠ 0 →
      s.waitedTime n v = true →
      s.canSend n v = false →
      Leads (.vectorCoalesceTimeout n v) s fun t => t.outbox = s.outbox ∧ inSet t.ir.pba (vecKey n v) = true ∧ t.regs = s.regs) ∧
  (∀ (s : State) (n : Nat) (v : Nat),
      (s.fld F_IR_F_VPEND_PENDING (vecKey n v) = 0 ∨ s.waitedTime n v = false) →
      Leads (.vectorCoalesceTimeout n v) s fun t => t = s) ∧
  (∀ (s : State) (n : Nat) (v : Nat),
      inSet s.ir.pba (vecKey n v) = true →
      s.canSend n v = true →
      Leads (.vectorUnmask n v) s fun t => t.outbox = s.outbox ++ [.msix n v] ∧ inSet t.ir.pba (vecKey n v) = false ∧
        (s.fld F_IR_F_COAL_TIME (vecKey n v) = 0 ∨ s.vecDue n v = true → t.fld F_IR_F_VPEND_PENDING (vecKey n v) = 0)) ∧
  (∀ (s : State) (n : Nat) (v : Nat),
      (inSet s.ir.pba (vecKey n v) = false ∨ s.canSend n v = false) →
      Leads (.vectorUnmask n v) s fun t => t = s)

/-- A link that is down trains to a rate and width the port has and reads them with its modes, and otherwise stays; DL_Down of a link that
is up, a hot reset and an FLR of the PF disable every queue of the host port, return its functions and clear IDE and NumVFs, an FLR of a VF
those of the VF. Bus Master Enable, the D-state, the fields of the PCI Express capability and NumVFs change as written, an HDM decoder
commits where it may and reports its error otherwise, a waiting command then returns its data, and clearing VF Enable resets every VF. A
host read that fails ends its command with the DETAIL of its cause, poisoned data mark the bytes or end the command E_POISON, an entry whose
block cannot be read is refused, and a failed IDE check makes the stream Insecure and ends what used it. Each changes nothing where its
condition is not there. (R444, R445, R447, R452, R453, R454, R466, R507, R509, R510, R759, 14_host_port_and_management.md) -/
def Obligations.HostPortCommandsComplete : Prop :=
  (∀ (s : State) (r : Nat) (n : Nat) (f : Bool) (c : Bool),
      s.hostLinkUp = false →
      s.ck.perst = false →
      s.ck.power = 0 →
      s.fld F_TOP_BOOT_STATUS_STAGE ≠ 0 →
      1 ≤ r →
      r ≤ 6 →
      (n = 1 ∨ n = 2 ∨ n = 4 ∨ n = 8 ∨ n = 16) →
      Leads (.pcieLinkUp r n f c) s fun t => t.fld F_HP_STATUS_RATE = r ∧ t.fld F_HP_STATUS_WIDTH = n ∧
        t.fld F_HP_STATUS_FLIT = (if r = 6 ∨ f = true then 1 else 0) ∧
        t.fld F_HP_STATUS_CXL_NEG = (if s.fld F_HP_STATUS_CXL = 1 ∧ c = true then 1 else 0) ∧ t.fld F_HP_STATUS_SLOW = (if r ≤ 3 then 1 else 0)) ∧
  (∀ (s : State) (r : Nat) (n : Nat) (f : Bool) (c : Bool),
      (s.hostLinkUp = true ∨ s.ck.perst = true ∨ s.ck.power ≠ 0 ∨ s.fld F_TOP_BOOT_STATUS_STAGE = 0 ∨ r = 0 ∨ 6 < r ∨ (n ≠ 1 ∧ n ≠ 2 ∧ n ≠ 4 ∧ n ≠ 8 ∧ n ≠ 16)) →
      Leads (.pcieLinkUp r n f c) s fun t => t = s) ∧
  (∀ (s : State) (unf : List Nat) (q : Nat),
      s.hostLinkUp = true →
      kvSorted s.q.descs = true →
      kvSorted s.q.tab = true →
      (s.queue q).isBound = true →
      (s.queue q).isLink = false →
      Leads (.pcieLinkDown unf) s fun t => (t.queue q).st = .disabled ∧ t.ir.numVfs = 0 ∧ t.hp.ide = [] ∧ t.fld F_HP_STATUS_RATE = 0 ∧
        ∀ f, f < 64 → t.hostFn f = { tenant := (s.hostFn f).tenant }) ∧
  (∀ (s : State) (unf : List Nat),
      s.hostLinkUp = false →
      Leads (.pcieLinkDown unf) s fun t => t = s) ∧
  (∀ (s : State) (unf : List Nat) (q : Nat),
      kvSorted s.q.descs = true →
      kvSorted s.q.tab = true →
      (s.queue q).isBound = true →
      (s.queue q).isLink = false →
      Leads (.hostPortReset unf) s fun t => (t.queue q).st = .disabled ∧ t.ir.numVfs = 0 ∧ t.hp.ide = [] ∧ t.fld F_HP_STATUS_RATE = 0 ∧
        ∀ f, f < 64 → t.hostFn f = { tenant := (s.hostFn f).tenant }) ∧
  (∀ (s : State) (unf : List Nat) (q : Nat),
      kvSorted s.q.descs = true →
      kvSorted s.q.tab = true →
      (s.queue q).isBound = true →
      (s.queue q).isLink = false →
      Leads (.pfFlr unf) s fun t => (t.queue q).st = .disabled ∧ t.ir.numVfs = 0 ∧ t.hp.ide = [] ∧ t.fld F_HP_STATUS_RATE = s.fld F_HP_STATUS_RATE ∧
        ∀ f, f < 64 → t.hostFn f = { tenant := (s.hostFn f).tenant }) ∧
  (∀ (s : State) (n : Nat) (unf : List Nat) (q : Nat),
      kvSorted s.q.descs = true →
      kvSorted s.q.tab = true →
      1 ≤ n →
      n ≤ 63 →
      (s.queue q).origin = 0x80 + n →
      Leads (.vfFlr n unf) s fun t => (t.queue q).st = .disabled ∧ t.hostFn n = { tenant := (s.hostFn n).tenant } ∧
        t.ir.numVfs = s.ir.numVfs) ∧
  (∀ (s : State) (n : Nat) (unf : List Nat),
      (n = 0 ∨ 63 < n) →
      Leads (.vfFlr n unf) s fun t => t = s) ∧
  (∀ (s : State) (n : Nat) (b : Bool) (c : Bool) (unf : List Nat) (v : ConfigWrite),
      n < 64 →
      (n ≠ 0 ∨ (v.vfs = none ∧ v.hdm = none)) →
      Leads (.busMasterEnable n b c v unf) s fun t => t.hostFn n = { (s.hostFn n).express v with bme := b, d3 := c } ∧ t.ir.numVfs = s.ir.numVfs) ∧
  (∀ (s : State) (b : Bool) (c : Bool) (k : Nat) (unf : List Nat) (v : ConfigWrite),
      v.vfs = some k →
      k ≠ 0 →
      Leads (.busMasterEnable 0 b c v unf) s fun t => t.hostFn 0 = { (s.hostFn 0).express v with bme := b, d3 := c } ∧ t.ir.numVfs = min 63 k) ∧
  (∀ (s : State) (b : Bool) (c : Bool) (unf : List Nat) (v : ConfigWrite),
      v.vfs = some 0 →
      s.ir.numVfs ≠ 0 →
      Leads (.busMasterEnable 0 b c v unf) s fun t => t.ir.numVfs = 0 ∧
        ∀ f, f < 64 → f ≠ 0 → t.hostFn f = { tenant := (s.hostFn f).tenant }) ∧
  (∀ (s : State) (n : Nat) (unf : List Nat) (d : Nat) (x : Desc),
      n < 64 →
      Waits s d .linkOut x →
      x.outQ = x.q →
      (s.queue x.q).origin = 0x80 + n →
      s.hostFault = none →
      Leads (.busMasterEnable n true false {} unf) s fun t => Ended t d x.status ∧ x.data ∈ t.sentTo n x.e.outAddr) ∧
  (∀ (s : State) (b : Bool) (c : Bool) (unf : List Nat) (v : ConfigWrite) (h : Hdm),
      v.hdm = some h →
      v.vfs = none →
      s.fld F_HP_STATUS_CXL ≠ 0 →
      s.fld F_HP_CXL_CFG_ENABLE ≠ 1 →
      hdmOk h = true →
      Leads (.busMasterEnable 0 b c v unf) s fun t => t.hp.hdm = h ∧ t.hp.hdmErr = false) ∧
  (∀ (s : State) (b : Bool) (c : Bool) (unf : List Nat) (v : ConfigWrite) (h : Hdm),
      v.hdm = some h →
      v.vfs = none →
      s.fld F_HP_STATUS_CXL ≠ 0 →
      s.fld F_HP_CXL_CFG_ENABLE ≠ 1 →
      hdmOk h = false →
      Leads (.busMasterEnable 0 b c v unf) s fun t => t.hp.hdm = s.hp.hdm ∧ t.hp.hdmErr = true) ∧
  (∀ (s : State) (n : Nat) (b : Bool) (c : Bool) (unf : List Nat) (v : ConfigWrite),
      64 ≤ n →
      Leads (.busMasterEnable n b c v unf) s fun t => t = s) ∧
  (∀ (s : State) (d : Nat) (c : Nat) (unf : List Nat) (x : Desc),
      s.desc? d = some x →
      d < 16384 →
      s.readsHost d = true →
      c < 2 →
      Leads (.hostCompletionError d c unf) s fun t => Ended t d .aborted ∧ (t.desc d).detail = 0x90 + c ∧ t.fld F_HP_UR_CNT_ERR = min (s.fld F_HP_UR_CNT_ERR + 1) (2 ^ F_HP_UR_CNT_ERR.wid - 1)) ∧
  (∀ (s : State) (d : Nat) (c : Nat) (unf : List Nat) (f : Fetched) (q : Nat),
      d = 16384 + q →
      s.readsBlock q = true →
      (s.queue q).fetched.head? = some f →
      c < 2 →
      Leads (.hostCompletionError d c unf) s fun t => (t.queue q).fetched.length < (s.queue q).fetched.length ∧ t.fld F_HP_UR_CNT_ERR = min (s.fld F_HP_UR_CNT_ERR + 1) (2 ^ F_HP_UR_CNT_ERR.wid - 1)) ∧
  (∀ (s : State) (d : Nat) (c : Nat) (unf : List Nat) (x : Desc),
      s.desc? d = some x →
      d < 16384 →
      s.readsHost d = true →
      x.tAcc + (s.hostFn (s.queue x.q).fn).cto ≤ s.now →
      c = 2 →
      Leads (.hostCompletionError d c unf) s fun t => Ended t d .aborted ∧ (t.desc d).detail = 0x92 ∧ t.fld F_HP_CTO_CNT_CTO = min (s.fld F_HP_CTO_CNT_CTO + 1) (2 ^ F_HP_CTO_CNT_CTO.wid - 1)) ∧
  (∀ (s : State) (d : Nat) (c : Nat) (unf : List Nat) (f : Fetched) (q : Nat),
      d = 16384 + q →
      s.readsBlock q = true →
      (s.queue q).fetched.head? = some f →
      c = 2 →
      f.t + (s.hostFn (s.queue q).fn).cto ≤ s.now →
      Leads (.hostCompletionError d c unf) s fun t => (t.queue q).fetched.length < (s.queue q).fetched.length ∧ t.fld F_HP_CTO_CNT_CTO = min (s.fld F_HP_CTO_CNT_CTO + 1) (2 ^ F_HP_CTO_CNT_CTO.wid - 1)) ∧
  (∀ (s : State) (d : Nat) (c : Nat) (unf : List Nat),
      ((d < 16384 ∧ s.readsHost d = false) ∨ (16384 ≤ d ∧ s.readsBlock (d - 16384) = false) ∨ 2 < c ∨ (c = 2 ∧ d < 16384 ∧ s.now < (s.desc d).tAcc + (s.hostFn (s.queue (s.desc d).q).fn).cto)) →
      Leads (.hostCompletionError d c unf) s fun t => t = s) ∧
  (∀ (s : State) (d : Nat) (unf : List Nat) (x : Desc),
      s.desc? d = some x →
      s.hostBusy x = true →
      s.noHost x.q = false →
      s.hostLinkUp = false →
      Leads (.hostWriteFail d false unf) s fun t => Ended t d .aborted ∧ (t.desc d).detail = 0x94) ∧
  (∀ (s : State) (d : Nat) (unf : List Nat) (x : Desc),
      s.desc? d = some x →
      s.hostBusy x = true →
      s.noHost x.q = false →
      (∃ p ∈ s.hp.ide, p.2 = 2) →
      Leads (.hostWriteFail d true unf) s fun t => Ended t d .aborted ∧ (t.desc d).detail = 0x93) ∧
  (∀ (s : State) (d : Nat) (v : Bool) (unf : List Nat),
      (s.desc? d = none ∨ s.hostBusy (s.desc d) = false ∨ s.noHost (s.desc d).q = true ∨ (v = true ∧ ∀ p ∈ s.hp.ide, p.2 ≠ 2) ∨ (v = false ∧ s.hostLinkUp = true)) →
      Leads (.hostWriteFail d v unf) s fun t => t = s) ∧
  (∀ (s : State) (d : Nat) (v : Nat) (n : Nat) (x : Desc),
      s.desc? d = some x →
      d < 16384 →
      s.readsHost d = true →
      takesData x.e = true →
      Leads (.poisonedCompletion d v n) s fun t => t.desc? d = some { x with bad := x.bad ++ [(v, n)] } ∧ t.fld F_HP_POISON_RX_POISON = min (s.fld F_HP_POISON_RX_POISON + 1) (2 ^ F_HP_POISON_RX_POISON.wid - 1)) ∧
  (∀ (s : State) (d : Nat) (v : Nat) (n : Nat) (q : Nat) (f : Fetched),
      d = 16384 + q →
      s.readsBlock q = true →
      (s.queue q).fetched.head? = some f →
      Leads (.poisonedCompletion d v n) s fun t => (t.queue q).fetched.length < (s.queue q).fetched.length ∧ t.fld F_HP_POISON_RX_POISON = min (s.fld F_HP_POISON_RX_POISON + 1) (2 ^ F_HP_POISON_RX_POISON.wid - 1)) ∧
  (∀ (s : State) (d : Nat) (v : Nat) (n : Nat) (x : Desc),
      s.desc? d = some x →
      d < 16384 →
      s.readsHost d = true →
      takesData x.e = false →
      Leads (.poisonedCompletion d v n) s fun t => Ended t d .poison ∧ (t.desc d).res = {} ∧ t.fld F_HP_POISON_RX_POISON = min (s.fld F_HP_POISON_RX_POISON + 1) (2 ^ F_HP_POISON_RX_POISON.wid - 1)) ∧
  (∀ (s : State) (d : Nat) (v : Nat) (n : Nat),
      ((d < 16384 ∧ s.readsHost d = false) ∨ (16384 ≤ d ∧ s.readsBlock (d - 16384) = false)) →
      Leads (.poisonedCompletion d v n) s fun t => t = s) ∧
  (∀ (s : State) (n : Nat) (l : List Nat) (unf : List Nat),
      n < 5 →
      kvGet 0 s.hp.ide n = 1 →
      Leads (.ideCheckFail n l unf) s fun t => kvGet 0 t.hp.ide n = 2 ∧ t.fld F_HP_IDE_FAIL_IDE = min (s.fld F_HP_IDE_FAIL_IDE + 1) (2 ^ F_HP_IDE_FAIL_IDE.wid - 1) ∧
        ∀ d ∈ l, (s.desc? d).isSome = true → s.hostBusy (s.desc d) = true → Ended t d .aborted ∧ (t.desc d).detail = 0x93) ∧
  (∀ (s : State) (n : Nat) (l : List Nat) (unf : List Nat),
      (5 ≤ n ∨ kvGet 0 s.hp.ide n ≠ 1) →
      Leads (.ideCheckFail n l unf) s fun t => t = s)

/-- A read of a window that is on, through entries that are there, returns the bytes of the sectors that read well, or all ones with poison;
a write that stores changes no byte outside its folios and metadata, and one byte written is the byte there; data that came poisoned poison
the sectors they would be written to. A request outside a Secure stream while IDE is required, or through entries that are not there, is
counted and refused; every request of CXL.mem is completed. A request to a window that is not there changes nothing, and one that must wait
for a unit is held with the entries that it found. A window or binding is enabled, filled and disabled as its register is written, with the
reason of a refusal, and keeps its state for a port that may not write. (R318, R447, R454, R457, R459, R460, R461, R462, R466, R481) -/
def Obligations.ApertureAndCxlComplete : Prop :=
  (∀ (s : State) (w : Nat) (v : Nat) (n : Nat) (g : Nat) (b : Bool) (e : List Nat × List Nat),
      s.bar4 w v n = true →
      s.ideBlocks b = false →
      s.apOn w = true →
      s.apEntries (s.fld F_HP_APT_CFG_TENANT w) (s.apAddr w v) n false = some e →
      s.readWaits (s.fld F_HP_APT_CFG_TENANT w) (pieces e.1 (s.apAddr w v) n) = true →
      Leads (.apertureRead w v n g b) s fun t => t = { s with hp := { s.hp with held := s.hp.held ++ [{ tenant := s.fld F_HP_APT_CFG_TENANT w, epoch := s.epoch (s.fld F_HP_APT_CFG_TENANT w), addr := s.apAddr w v, len := n, tag := g, dfns := e.1, metas := e.2 }] } }) ∧
  (∀ (s : State) (w : Nat) (v : Nat) (n : Nat) (g : Nat) (b : Bool) (e : List Nat × List Nat),
      s.bar4 w v n = true →
      s.readWaits (s.fld F_HP_APT_CFG_TENANT w) (pieces e.1 (s.apAddr w v) n) = false →
      s.ideBlocks b = false →
      s.apOn w = true →
      s.apEntries (s.fld F_HP_APT_CFG_TENANT w) (s.apAddr w v) n false = some e →
      (s.readAccess e.1 (some e.2) (s.apAddr w v) n {} { tenant := (s.fld F_HP_APT_CFG_TENANT w) }).2.status = .ok →
      Leads (.apertureRead w v n g b) s fun t => t.outbox = (s.readAccess e.1 (some e.2) (s.apAddr w v) n {} { tenant := (s.fld F_HP_APT_CFG_TENANT w) }).1.outbox ++ [.hostCpl g true false ((s.readAccess e.1 (some e.2) (s.apAddr w v) n {} { tenant := (s.fld F_HP_APT_CFG_TENANT w) }).1.readRuns e.1 (s.apAddr w v) 0 n)]) ∧
  (∀ (s : State) (w : Nat) (v : Nat) (n : Nat) (g : Nat) (b : Bool) (e : List Nat × List Nat),
      s.bar4 w v n = true →
      s.readWaits (s.fld F_HP_APT_CFG_TENANT w) (pieces e.1 (s.apAddr w v) n) = false →
      s.ideBlocks b = false →
      s.apOn w = true →
      s.apEntries (s.fld F_HP_APT_CFG_TENANT w) (s.apAddr w v) n false = some e →
      (s.readAccess e.1 (some e.2) (s.apAddr w v) n {} { tenant := (s.fld F_HP_APT_CFG_TENANT w) }).2.status ≠ .ok →
      Leads (.apertureRead w v n g b) s fun t => t.outbox = (s.readAccess e.1 (some e.2) (s.apAddr w v) n {} { tenant := (s.fld F_HP_APT_CFG_TENANT w) }).1.outbox ++ [.hostCpl g true true (List.replicate n 0xFF)]) ∧
  (∀ (s : State) (w : Nat) (v : Nat) (n : Nat) (g : Nat) (b : Bool),
      s.bar4 w v n = true →
      s.ideBlocks b = false →
      (s.apOn w = false ∨ s.apEntries (s.fld F_HP_APT_CFG_TENANT w) (s.apAddr w v) n false = none) →
      Leads (.apertureRead w v n g b) s fun t => t.outbox = s.outbox ++ [.hostCpl g false false []] ∧ t.fld F_HP_APT_REFUSED_REFUSED = min (s.fld F_HP_APT_REFUSED_REFUSED + 1) (2 ^ F_HP_APT_REFUSED_REFUSED.wid - 1) ∧ t.mem = s.mem) ∧
  (∀ (s : State) (w : Nat) (v : Nat) (n : Nat) (g : Nat) (b : Bool),
      s.bar4 w v n = true →
      s.ideBlocks b = true →
      Leads (.apertureRead w v n g b) s fun t => t.outbox = s.outbox ++ [.hostCpl g false false []] ∧ t.fld F_HP_IDE_FAIL_IDE = min (s.fld F_HP_IDE_FAIL_IDE + 1) (2 ^ F_HP_IDE_FAIL_IDE.wid - 1) ∧ t.mem = s.mem) ∧
  (∀ (s : State) (w : Nat) (v : Nat) (n : Nat) (g : Nat) (b : Bool),
      s.bar4 w v n = false →
      Leads (.apertureRead w v n g b) s fun t => t = s) ∧
  (∀ (s : State) (w : Nat) (v : Nat) (d : List Byte) (k b : Bool) (e : List Nat × List Nat),
      s.bar4 w v d.length = true →
      s.ideBlocks b = false →
      s.apOn w = true →
      s.apEntries (s.fld F_HP_APT_CFG_TENANT w) (s.apAddr w v) d.length true = some e →
      s.mergeWaits (s.fld F_HP_APT_CFG_TENANT w) (pieces e.1 (s.apAddr w v) d.length) = true →
      Leads (.apertureWrite w v d k b) s fun t => t = { (s.countPoison k) with hp := { s.hp with held := s.hp.held ++ [{ tenant := s.fld F_HP_APT_CFG_TENANT w, epoch := s.epoch (s.fld F_HP_APT_CFG_TENANT w), addr := s.apAddr w v, len := d.length, tag := 0, dfns := e.1, metas := e.2, write := some (d, k) }] } }) ∧
  (∀ (s : State) (w : Nat) (v : Nat) (d : List Byte) (k b : Bool) (e : List Nat × List Nat),
      s.bar4 w v d.length = true →
      s.mergeWaits (s.fld F_HP_APT_CFG_TENANT w) (pieces e.1 (s.apAddr w v) d.length) = false →
      s.ideBlocks b = false →
      s.apOn w = true →
      s.apEntries (s.fld F_HP_APT_CFG_TENANT w) (s.apAddr w v) d.length true = some e →
      k = false →
      (s.writeAccess e.1 e.2 (s.apAddr w v) d {} { tenant := (s.fld F_HP_APT_CFG_TENANT w) }).2.status = .ok →
      Leads (.apertureWrite w v d k b) s fun t => t = (s.writeAccess e.1 e.2 (s.apAddr w v) d {} { tenant := (s.fld F_HP_APT_CFG_TENANT w) }).1 ∧ (∀ a, a / 65536 ∉ 0 :: e.1 → t.byte a = s.byte a) ∧
        ∀ z, d = [z] → e.1.length = 1 → t.byte (dpaAt e.1 (s.apAddr w v) 0) = z) ∧
  (∀ (s : State) (w : Nat) (v : Nat) (d : List Byte) (k b : Bool) (e : List Nat × List Nat),
      s.bar4 w v d.length = true →
      s.mergeWaits (s.fld F_HP_APT_CFG_TENANT w) (pieces e.1 (s.apAddr w v) d.length) = false →
      s.ideBlocks b = false →
      s.apOn w = true →
      s.apEntries (s.fld F_HP_APT_CFG_TENANT w) (s.apAddr w v) d.length true = some e →
      k = true →
      Leads (.apertureWrite w v d k b) s fun t => (∀ p ∈ pieces e.1 (s.apAddr w v) d.length, t.poisoned p.sec = true) ∧ t.fld F_HP_POISON_RX_POISON = min (s.fld F_HP_POISON_RX_POISON + 1) (2 ^ F_HP_POISON_RX_POISON.wid - 1)) ∧
  (∀ (s : State) (w : Nat) (v : Nat) (d : List Byte) (k b : Bool),
      s.bar4 w v d.length = true →
      s.ideBlocks b = false →
      (s.apOn w = false ∨ s.apEntries (s.fld F_HP_APT_CFG_TENANT w) (s.apAddr w v) d.length true = none) →
      Leads (.apertureWrite w v d k b) s fun t => t.mem = s.mem ∧ t.poison = s.poison ∧ t.fld F_HP_APT_REFUSED_REFUSED = min (s.fld F_HP_APT_REFUSED_REFUSED + 1) (2 ^ F_HP_APT_REFUSED_REFUSED.wid - 1)) ∧
  (∀ (s : State) (w : Nat) (v : Nat) (d : List Byte) (k b : Bool),
      s.bar4 w v d.length = true →
      s.ideBlocks b = true →
      Leads (.apertureWrite w v d k b) s fun t => t.mem = s.mem ∧ t.poison = s.poison ∧ t.fld F_HP_IDE_FAIL_IDE = min (s.fld F_HP_IDE_FAIL_IDE + 1) (2 ^ F_HP_IDE_FAIL_IDE.wid - 1)) ∧
  (∀ (s : State) (w : Nat) (v : Nat) (d : List Byte) (k b : Bool),
      s.bar4 w v d.length = false →
      Leads (.apertureWrite w v d k b) s fun t => t = s) ∧
  (∀ (s : State) (a : Nat) (g : Nat) (b : Bool) (e : List Nat × List Nat),
      s.cxlMem = true →
      s.ideBlocks b = false →
      s.cxlOn a = true →
      s.apEntries (s.fld F_HP_CXL_CFG_TENANT) (s.cxlAddr a) 64 false = some e →
      s.readWaits (s.fld F_HP_CXL_CFG_TENANT) (pieces e.1 (s.cxlAddr a) 64) = true →
      Leads (.cxlMemRead a g b) s fun t => t = { s with hp := { s.hp with held := s.hp.held ++ [{ tenant := s.fld F_HP_CXL_CFG_TENANT, epoch := s.epoch (s.fld F_HP_CXL_CFG_TENANT), addr := s.cxlAddr a, len := 64, tag := g, dfns := e.1, metas := e.2, cxl := true }] } }) ∧
  (∀ (s : State) (a : Nat) (g : Nat) (b : Bool) (e : List Nat × List Nat),
      s.cxlMem = true →
      s.readWaits (s.fld F_HP_CXL_CFG_TENANT) (pieces e.1 (s.cxlAddr a) 64) = false →
      s.ideBlocks b = false →
      s.cxlOn a = true →
      s.apEntries (s.fld F_HP_CXL_CFG_TENANT) (s.cxlAddr a) 64 false = some e →
      (s.readAccess e.1 (some e.2) (s.cxlAddr a) 64 {} { tenant := (s.fld F_HP_CXL_CFG_TENANT) }).2.status = .ok →
      Leads (.cxlMemRead a g b) s fun t => t.outbox = (s.readAccess e.1 (some e.2) (s.cxlAddr a) 64 {} { tenant := (s.fld F_HP_CXL_CFG_TENANT) }).1.outbox ++ [.hostCpl g true false ((s.readAccess e.1 (some e.2) (s.cxlAddr a) 64 {} { tenant := (s.fld F_HP_CXL_CFG_TENANT) }).1.readRuns e.1 (s.cxlAddr a) 0 64)]) ∧
  (∀ (s : State) (a : Nat) (g : Nat) (b : Bool) (e : List Nat × List Nat),
      s.cxlMem = true →
      s.readWaits (s.fld F_HP_CXL_CFG_TENANT) (pieces e.1 (s.cxlAddr a) 64) = false →
      s.ideBlocks b = false →
      s.cxlOn a = true →
      s.apEntries (s.fld F_HP_CXL_CFG_TENANT) (s.cxlAddr a) 64 false = some e →
      (s.readAccess e.1 (some e.2) (s.cxlAddr a) 64 {} { tenant := (s.fld F_HP_CXL_CFG_TENANT) }).2.status ≠ .ok →
      Leads (.cxlMemRead a g b) s fun t => t.outbox = (s.readAccess e.1 (some e.2) (s.cxlAddr a) 64 {} { tenant := (s.fld F_HP_CXL_CFG_TENANT) }).1.outbox ++ [.hostCpl g true true (List.replicate 64 0xFF)]) ∧
  (∀ (s : State) (a : Nat) (g : Nat) (b : Bool),
      s.cxlMem = true →
      s.ideBlocks b = false →
      (s.cxlOn a = false ∨ s.apEntries (s.fld F_HP_CXL_CFG_TENANT) (s.cxlAddr a) 64 false = none) →
      Leads (.cxlMemRead a g b) s fun t => t.outbox = s.outbox ++ [.hostCpl g true true (List.replicate 64 0xFF)] ∧ t.fld F_HP_APT_REFUSED_REFUSED = min (s.fld F_HP_APT_REFUSED_REFUSED + 1) (2 ^ F_HP_APT_REFUSED_REFUSED.wid - 1) ∧ t.mem = s.mem) ∧
  (∀ (s : State) (a : Nat) (g : Nat) (b : Bool),
      s.cxlMem = true →
      s.ideBlocks b = true →
      Leads (.cxlMemRead a g b) s fun t => t.outbox = s.outbox ++ [.hostCpl g true true (List.replicate 64 0xFF)] ∧ t.fld F_HP_IDE_FAIL_IDE = min (s.fld F_HP_IDE_FAIL_IDE + 1) (2 ^ F_HP_IDE_FAIL_IDE.wid - 1) ∧ t.mem = s.mem) ∧
  (∀ (s : State) (a : Nat) (g : Nat) (b : Bool),
      s.cxlMem = false →
      Leads (.cxlMemRead a g b) s fun t => t = s) ∧
  (∀ (s : State) (a : Nat) (g : Nat) (d : List Byte) (k b : Bool) (e : List Nat × List Nat),
      s.cxlMem = true →
      d.length = 64 →
      s.ideBlocks b = false →
      s.cxlOn a = true →
      s.apEntries (s.fld F_HP_CXL_CFG_TENANT) (s.cxlAddr a) 64 true = some e →
      s.mergeWaits (s.fld F_HP_CXL_CFG_TENANT) (pieces e.1 (s.cxlAddr a) 64) = true →
      Leads (.cxlMemWrite a g d k b) s fun t => t = { (s.countPoison k) with hp := { s.hp with held := s.hp.held ++ [{ tenant := s.fld F_HP_CXL_CFG_TENANT, epoch := s.epoch (s.fld F_HP_CXL_CFG_TENANT), addr := s.cxlAddr a, len := 64, tag := g, dfns := e.1, metas := e.2, write := some (d, k), cxl := true }] } }) ∧
  (∀ (s : State) (a : Nat) (g : Nat) (d : List Byte) (k b : Bool) (e : List Nat × List Nat),
      s.cxlMem = true →
      s.mergeWaits (s.fld F_HP_CXL_CFG_TENANT) (pieces e.1 (s.cxlAddr a) 64) = false →
      d.length = 64 →
      s.ideBlocks b = false →
      s.cxlOn a = true →
      s.apEntries (s.fld F_HP_CXL_CFG_TENANT) (s.cxlAddr a) 64 true = some e →
      k = false →
      (s.writeAccess e.1 e.2 (s.cxlAddr a) d {} { tenant := (s.fld F_HP_CXL_CFG_TENANT) }).2.status = .ok →
      Leads (.cxlMemWrite a g d k b) s fun t => t = { (s.writeAccess e.1 e.2 (s.cxlAddr a) d {} { tenant := (s.fld F_HP_CXL_CFG_TENANT) }).1 with outbox := (s.writeAccess e.1 e.2 (s.cxlAddr a) d {} { tenant := (s.fld F_HP_CXL_CFG_TENANT) }).1.outbox ++ [.hostCpl g true false []] } ∧ ∀ j, j / 65536 ∉ 0 :: e.1 → t.byte j = s.byte j) ∧
  (∀ (s : State) (a : Nat) (g : Nat) (d : List Byte) (k b : Bool) (e : List Nat × List Nat),
      s.cxlMem = true →
      s.mergeWaits (s.fld F_HP_CXL_CFG_TENANT) (pieces e.1 (s.cxlAddr a) 64) = false →
      d.length = 64 →
      s.ideBlocks b = false →
      s.cxlOn a = true →
      s.apEntries (s.fld F_HP_CXL_CFG_TENANT) (s.cxlAddr a) 64 true = some e →
      k = true →
      Leads (.cxlMemWrite a g d k b) s fun t => (∀ p ∈ pieces e.1 (s.cxlAddr a) 64, t.poisoned p.sec = true) ∧ .hostCpl g true false [] ∈ t.outbox ∧ t.fld F_HP_POISON_RX_POISON = min (s.fld F_HP_POISON_RX_POISON + 1) (2 ^ F_HP_POISON_RX_POISON.wid - 1)) ∧
  (∀ (s : State) (a : Nat) (g : Nat) (d : List Byte) (k b : Bool),
      s.cxlMem = true →
      d.length = 64 →
      s.ideBlocks b = false →
      (s.cxlOn a = false ∨ s.apEntries (s.fld F_HP_CXL_CFG_TENANT) (s.cxlAddr a) 64 true = none) →
      Leads (.cxlMemWrite a g d k b) s fun t => t.outbox = s.outbox ++ [.hostCpl g true false []] ∧ t.mem = s.mem ∧ t.fld F_HP_APT_REFUSED_REFUSED = min (s.fld F_HP_APT_REFUSED_REFUSED + 1) (2 ^ F_HP_APT_REFUSED_REFUSED.wid - 1)) ∧
  (∀ (s : State) (a : Nat) (g : Nat) (d : List Byte) (k b : Bool),
      s.cxlMem = true →
      d.length = 64 →
      s.ideBlocks b = true →
      Leads (.cxlMemWrite a g d k b) s fun t => t.outbox = s.outbox ++ [.hostCpl g true false []] ∧ t.mem = s.mem ∧ t.fld F_HP_IDE_FAIL_IDE = min (s.fld F_HP_IDE_FAIL_IDE + 1) (2 ^ F_HP_IDE_FAIL_IDE.wid - 1)) ∧
  (∀ (s : State) (a : Nat) (g : Nat) (d : List Byte) (k b : Bool),
      (s.cxlMem = false ∨ d.length ≠ 64) →
      Leads (.cxlMemWrite a g d k b) s fun t => t = s) ∧
  (∀ (s : State) (p : Port) (w : Nat),
      s.answers p (bar0 13 0x1000) = true →
      pfOrFw p = true →
      w < 16 →
      s.fld F_HP_STATUS_CXL ≠ 1 →
      s.fld F_HP_APT_CFG_ENABLE w ≠ 1 →
      (s.fld F_HP_APT_CFG_TENANT w) ≠ 0 →
      s.tenantState (s.fld F_HP_APT_CFG_TENANT w) = 1 →
      s.fld F_HP_APT_BASE_FIRST_TFN w + 65536 ≤ 16777216 →
      Leads (.apertureEnable p w true) s fun t => t.fld F_HP_APT_CFG_ENABLE w = 1 ∧ t.fld F_HP_APT_CFG_BINDING w = 1 ∧
        t.fld F_HP_APT_STATUS_LAST w = 0) ∧
  (∀ (s : State) (p : Port) (w : Nat),
      s.answers p (bar0 13 0x1000) = true →
      pfOrFw p = true →
      w < 16 →
      s.fld F_HP_STATUS_CXL ≠ 1 →
      s.fld F_HP_APT_CFG_ENABLE w ≠ 1 →
      ((s.fld F_HP_APT_CFG_TENANT w) = 0 ∨ s.tenantState (s.fld F_HP_APT_CFG_TENANT w) ≠ 1) →
      Leads (.apertureEnable p w true) s fun t => t.fld F_HP_APT_CFG_ENABLE w = s.fld F_HP_APT_CFG_ENABLE w ∧ t.fld F_HP_APT_STATUS_LAST w = 1) ∧
  (∀ (s : State) (p : Port) (w : Nat),
      s.answers p (bar0 13 0x1000) = true →
      pfOrFw p = true →
      w < 16 →
      s.fld F_HP_STATUS_CXL ≠ 1 →
      s.fld F_HP_APT_CFG_ENABLE w ≠ 1 →
      (s.fld F_HP_APT_CFG_TENANT w) ≠ 0 →
      s.tenantState (s.fld F_HP_APT_CFG_TENANT w) = 1 →
      16777216 < s.fld F_HP_APT_BASE_FIRST_TFN w + 65536 →
      Leads (.apertureEnable p w true) s fun t => t.fld F_HP_APT_CFG_ENABLE w = s.fld F_HP_APT_CFG_ENABLE w ∧ t.fld F_HP_APT_STATUS_LAST w = 2) ∧
  (∀ (s : State) (p : Port) (w : Nat),
      s.answers p (bar0 13 0x1000) = true →
      pfOrFw p = true →
      w < 16 →
      s.fld F_HP_STATUS_CXL ≠ 1 →
      s.fld F_HP_APT_CFG_ENABLE w = 1 →
      Leads (.apertureEnable p w true) s fun t => t.regs = s.regs) ∧
  (∀ (s : State) (p : Port) (w : Nat),
      s.answers p (bar0 13 0x1000) = true →
      pfOrFw p = true →
      w < 16 →
      s.fld F_HP_STATUS_CXL ≠ 1 →
      Leads (.apertureEnable p w false) s fun t => t.fld F_HP_APT_CFG_ENABLE w = 0 ∧ t.fld F_HP_APT_CFG_BINDING w = 0) ∧
  (∀ (s : State) (p : Port) (w : Nat) (v : Bool),
      s.answers p (bar0 13 0x1000) = true →
      pfOrFw p = true →
      (16 ≤ w ∨ s.fld F_HP_STATUS_CXL = 1) →
      Leads (.apertureEnable p w v) s fun t => t.regs = s.regs) ∧
  (∀ (s : State) (p : Port) (w : Nat) (v : Bool),
      s.answers p (bar0 13 0x1000) = true →
      pfOrFw p = false →
      Leads (.apertureEnable p w v) s fun t => t.fld F_HP_APT_CFG_ENABLE w = s.fld F_HP_APT_CFG_ENABLE w ∧ t.fld F_TOP_BAD_ACCESS_ADDR_OFFSET = bar0 13 0x1000) ∧
  (∀ (s : State) (p : Port) (w : Nat) (v : Bool),
      s.answers p (bar0 13 0x1000) = false →
      Leads (.apertureEnable p w v) s fun t => t.fld F_HP_APT_CFG_ENABLE w = s.fld F_HP_APT_CFG_ENABLE w ∧ t.regs = s.regs) ∧
  (∀ (s : State) (p : Port),
      s.answers p (bar0 13 0x20) = true →
      pfOrFw p = true →
      s.fld F_HP_STATUS_CXL ≠ 0 →
      s.fld F_HP_CXL_CFG_ENABLE ≠ 1 →
      (s.fld F_HP_CXL_CFG_TENANT) ≠ 0 →
      s.tenantState (s.fld F_HP_CXL_CFG_TENANT) = 1 →
      Leads (.cxlBindingEnable p true) s fun t => t.fld F_HP_CXL_CFG_ENABLE = 1 ∧ t.fld F_HP_CXL_STATUS_BINDING = 1 ∧
        t.fld F_HP_CXL_STATUS_LAST = 0 ∧ t.hp = s.hp) ∧
  (∀ (s : State) (p : Port),
      s.answers p (bar0 13 0x20) = true →
      pfOrFw p = true →
      s.fld F_HP_STATUS_CXL = 0 →
      s.fld F_HP_CXL_CFG_ENABLE ≠ 1 →
      Leads (.cxlBindingEnable p true) s fun t => t.fld F_HP_CXL_CFG_ENABLE = s.fld F_HP_CXL_CFG_ENABLE ∧ t.hp = s.hp ∧ t.fld F_HP_CXL_STATUS_LAST = 2) ∧
  (∀ (s : State) (p : Port),
      s.answers p (bar0 13 0x20) = true →
      pfOrFw p = true →
      s.fld F_HP_STATUS_CXL ≠ 0 →
      s.fld F_HP_CXL_CFG_ENABLE ≠ 1 →
      ((s.fld F_HP_CXL_CFG_TENANT) = 0 ∨ s.tenantState (s.fld F_HP_CXL_CFG_TENANT) ≠ 1) →
      Leads (.cxlBindingEnable p true) s fun t => t.fld F_HP_CXL_CFG_ENABLE = s.fld F_HP_CXL_CFG_ENABLE ∧ t.hp = s.hp ∧ t.fld F_HP_CXL_STATUS_LAST = 1) ∧
  (∀ (s : State) (p : Port),
      s.answers p (bar0 13 0x20) = true →
      pfOrFw p = true →
      s.fld F_HP_CXL_CFG_ENABLE = 1 →
      Leads (.cxlBindingEnable p true) s fun t => t.regs = s.regs ∧ t.hp = s.hp) ∧
  (∀ (s : State) (p : Port),
      s.answers p (bar0 13 0x20) = true →
      pfOrFw p = true →
      Leads (.cxlBindingEnable p false) s fun t => t.fld F_HP_CXL_CFG_ENABLE = 0 ∧ t.fld F_HP_CXL_STATUS_BOUND = 0 ∧
        t.fld F_HP_CXL_STATUS_BINDING = 0) ∧
  (∀ (s : State) (p : Port) (v : Bool),
      s.answers p (bar0 13 0x20) = true →
      pfOrFw p = false →
      Leads (.cxlBindingEnable p v) s fun t => t.fld F_HP_CXL_CFG_ENABLE = s.fld F_HP_CXL_CFG_ENABLE ∧ t.hp = s.hp ∧ t.fld F_TOP_BAD_ACCESS_ADDR_OFFSET = bar0 13 0x20) ∧
  (∀ (s : State) (p : Port) (v : Bool),
      s.answers p (bar0 13 0x20) = false →
      Leads (.cxlBindingEnable p v) s fun t => t.fld F_HP_CXL_CFG_ENABLE = s.fld F_HP_CXL_CFG_ENABLE ∧ t.hp = s.hp ∧ t.regs = s.regs) ∧
  (∀ (s : State) (w : Nat),
      w < 16 →
      Leads (.bindingFilled w) s fun t => t.fld F_HP_APT_CFG_BINDING w = 0) ∧
  (∀ (s : State) (w : Nat),
      16 ≤ w →
      s.fld F_HP_CXL_STATUS_BINDING = 1 →
      Leads (.bindingFilled w) s fun t => t.fld F_HP_CXL_STATUS_BINDING = 0 ∧ t.fld F_HP_CXL_STATUS_BOUND = 1) ∧
  (∀ (s : State) (w : Nat),
      16 ≤ w →
      s.fld F_HP_CXL_STATUS_BINDING ≠ 1 →
      Leads (.bindingFilled w) s fun t => t = s)

/-- A packet of at most 64 bytes begins, continues or ends a message, or is dropped with it and counted; a message, and a request of the DOE
or CXL mailbox, of a command that the device does not have is answered as unknown. Each MCTP control command on a binding that answers
control messages is answered once and changes nothing but what it commands (an EID, discovery); where its field is out of range or the
binding does not take it, the answer says so. The DOE mailbox answers discovery by index, and in CXL mode the five CDAT entries. Where
nothing listens, or the mailbox takes no such message, nothing changes. (R464, R467, R469, R470, 14_host_port_and_management.md) -/
def Obligations.MctpAndDoeAnswer : Prop :=
  (∀ (s : State) (b : Nat) (l : List Byte),
      s.listens b = true →
      b < 2 →
      (l.drop 4).length ≤ 64 →
      bit (leAt l 3 1) 7 = true →
      bit (leAt l 3 1) 6 = false →
      (s.mg.asm.any (fun r => r.from_ b (leAt l 2 1) (leAt l 3 1 % 16)) = true ∨ ((s.mg.asm.filter (fun r => !r.from_ b (leAt l 2 1) (leAt l 3 1 % 16))).filter (fun r => r.bind == b)).length < 8) →
      Leads (.mctpPacket b l) s fun t => t = { s with mg := { s.mg with asm := s.mg.asm.filter (fun r => !r.from_ b (leAt l 2 1) (leAt l 3 1 % 16)) ++ [{ bind := b, src := leAt l 2 1, tag := leAt l 3 1 % 16, seq := leAt l 3 1 / 16 % 4, body := l.drop 4 }] } }) ∧
  (∀ (s : State) (b : Nat) (l : List Byte),
      s.listens b = true →
      b < 2 →
      (l.drop 4).length ≤ 64 →
      bit (leAt l 3 1) 7 = true →
      bit (leAt l 3 1) 6 = true →
      (s.mg.asm.any (fun r => r.from_ b (leAt l 2 1) (leAt l 3 1 % 16)) = true ∨ ((s.mg.asm.filter (fun r => !r.from_ b (leAt l 2 1) (leAt l 3 1 % 16))).filter (fun r => r.bind == b)).length < 8) →
      Leads (.mctpPacket b l) s fun t => t = (if typeOn (leAt (l.drop 4) 0 1 % 128) b then ({ s with mg := { s.mg with asm := s.mg.asm.filter (fun r => !r.from_ b (leAt l 2 1) (leAt l 3 1 % 16)) } } : State).unknownCmd b (l.drop 4) else
        ({ s with mg := { s.mg with asm := s.mg.asm.filter (fun r => !r.from_ b (leAt l 2 1) (leAt l 3 1 % 16)) } } : State).bump F_HP_MCTP_DROP_DROP)) ∧
  (∀ (s : State) (b : Nat) (l : List Byte) (r : Reasm),
      s.listens b = true →
      b < 2 →
      (l.drop 4).length ≤ 64 →
      bit (leAt l 3 1) 7 = false →
      bit (leAt l 3 1) 6 = false →
      s.mg.asm.find? (fun r => r.from_ b (leAt l 2 1) (leAt l 3 1 % 16)) = some r →
      leAt l 3 1 / 16 % 4 = (r.seq + 1) % 4 →
      r.body.length + (l.drop 4).length ≤ 4096 →
      Leads (.mctpPacket b l) s fun t => t = { s with mg := { s.mg with asm := s.mg.asm.filter (fun r => !r.from_ b (leAt l 2 1) (leAt l 3 1 % 16)) ++ [{ r with seq := leAt l 3 1 / 16 % 4, body := r.body ++ l.drop 4 }] } }) ∧
  (∀ (s : State) (b : Nat) (l : List Byte) (r : Reasm),
      s.listens b = true →
      b < 2 →
      (l.drop 4).length ≤ 64 →
      bit (leAt l 3 1) 7 = false →
      bit (leAt l 3 1) 6 = true →
      s.mg.asm.find? (fun r => r.from_ b (leAt l 2 1) (leAt l 3 1 % 16)) = some r →
      leAt l 3 1 / 16 % 4 = (r.seq + 1) % 4 →
      r.body.length + (l.drop 4).length ≤ 4096 →
      Leads (.mctpPacket b l) s fun t => t = (if typeOn (leAt (r.body ++ l.drop 4) 0 1 % 128) b then ({ s with mg := { s.mg with asm := s.mg.asm.filter (fun r => !r.from_ b (leAt l 2 1) (leAt l 3 1 % 16)) } } : State).unknownCmd b (r.body ++ l.drop 4) else
        ({ s with mg := { s.mg with asm := s.mg.asm.filter (fun r => !r.from_ b (leAt l 2 1) (leAt l 3 1 % 16)) } } : State).bump F_HP_MCTP_DROP_DROP)) ∧
  (∀ (s : State) (b : Nat) (l : List Byte),
      s.listens b = true →
      b < 2 →
      bit (leAt l 3 1) 7 = false →
      s.mg.asm.find? (fun r => r.from_ b (leAt l 2 1) (leAt l 3 1 % 16)) = none →
      Leads (.mctpPacket b l) s fun t => t = ({ s with mg := { s.mg with asm := s.mg.asm.filter (fun r => !r.from_ b (leAt l 2 1) (leAt l 3 1 % 16)) } }).bump F_HP_MCTP_DROP_DROP) ∧
  (∀ (s : State) (b : Nat) (l : List Byte) (r : Reasm),
      s.listens b = true →
      b < 2 →
      bit (leAt l 3 1) 7 = false →
      s.mg.asm.find? (fun r => r.from_ b (leAt l 2 1) (leAt l 3 1 % 16)) = some r →
      (leAt l 3 1 / 16 % 4 ≠ (r.seq + 1) % 4 ∨ 4096 < r.body.length + (l.drop 4).length) →
      Leads (.mctpPacket b l) s fun t => t = ({ s with mg := { s.mg with asm := s.mg.asm.filter (fun r => !r.from_ b (leAt l 2 1) (leAt l 3 1 % 16)) } }).bump F_HP_MCTP_DROP_DROP) ∧
  (∀ (s : State) (b : Nat) (l : List Byte),
      s.listens b = true →
      b < 2 →
      bit (leAt l 3 1) 7 = true →
      s.mg.asm.find? (fun r => r.from_ b (leAt l 2 1) (leAt l 3 1 % 16)) = none →
      8 ≤ ((s.mg.asm.filter (fun r => !r.from_ b (leAt l 2 1) (leAt l 3 1 % 16))).filter (fun r => r.bind == b)).length →
      Leads (.mctpPacket b l) s fun t => t = ({ s with mg := { s.mg with asm := s.mg.asm.filter (fun r => !r.from_ b (leAt l 2 1) (leAt l 3 1 % 16)) } }).bump F_HP_MCTP_DROP_DROP) ∧
  (∀ (s : State) (b : Nat) (l : List Byte),
      s.listens b = true →
      b < 2 →
      64 < (l.drop 4).length →
      Leads (.mctpPacket b l) s fun t => t = ({ s with mg := { s.mg with asm := s.mg.asm.filter (fun r => !r.from_ b (leAt l 2 1) (leAt l 3 1 % 16)) } }).bump F_HP_MCTP_DROP_DROP) ∧
  (∀ (s : State) (b : Nat) (l : List Byte),
      (s.listens b = false ∨ (2 ≤ b ∧ b ≠ 64 ∧ b ≠ 65)) →
      Leads (.mctpPacket b l) s fun t => t = s) ∧
  (∀ (s : State) (l : List Byte),
      s.listens 64 = true →
      Leads (.mctpPacket 64 l) s fun t => t = if typeOn (leAt l 0 1 % 128) 64 then s.unknownCmd 64 l else s) ∧
  (∀ (s : State) (l : List Byte),
      s.listens 65 = true →
      Leads (.mctpPacket 65 l) s fun t => if inSet cxlOpcodes (leAt l 0 2) then t = s else t.outbox = s.outbox ++ [.mgmt 65 (leAt l 0 2) 3 []]) ∧
  (∀ (s : State) (b : Nat) (n : Nat),
      s.listens b = true →
      typeOn 0 b = true →
      b < 2 →
      1 ≤ n →
      n ≤ 254 →
      Leads (.setEndpointId b n) s fun t => Answered ({ s with mg := { s.mg with eid := kvPut 0 s.mg.eid b n, found := s.mg.found || b == 0 } }) t b 0 0x1 0 ([0, BitVec.ofNat 8 n, 0])) ∧
  (∀ (s : State) (b : Nat) (n : Nat),
      s.listens b = true →
      typeOn 0 b = true →
      b < 2 →
      (n = 0 ∨ 255 ≤ n) →
      Leads (.setEndpointId b n) s fun t => Answered (s) t b 0 0x1 2 ([])) ∧
  (∀ (s : State) (b : Nat) (n : Nat),
      s.listens b = true →
      typeOn 0 b = true →
      2 ≤ b →
      Leads (.setEndpointId b n) s fun t => Answered (s) t b 0 0x1 5 ([])) ∧
  (∀ (s : State) (b : Nat) (n : Nat),
      (s.listens b = false ∨ (50 ≤ b ∧ typeOn 0 b = false)) →
      Leads (.setEndpointId b n) s fun t => t = s) ∧
  (∀ (s : State) (b : Nat),
      s.listens b = true →
      typeOn 0 b = true →
      Leads (.getEndpointId b) s fun t => Answered (s) t b 0 0x2 0 ([BitVec.ofNat 8 (s.eidOf b), 0, 0])) ∧
  (∀ (s : State) (b : Nat),
      (s.listens b = false ∨ (50 ≤ b ∧ typeOn 0 b = false)) →
      Leads (.getEndpointId b) s fun t => t = s) ∧
  (∀ (s : State) (b : Nat),
      s.listens b = true →
      typeOn 0 b = true →
      Leads (.getEndpointUuid b) s fun t => Answered (s) t b 0 0x3 0 (Config.uuid.take 16)) ∧
  (∀ (s : State) (b : Nat),
      (s.listens b = false ∨ (50 ≤ b ∧ typeOn 0 b = false)) →
      Leads (.getEndpointUuid b) s fun t => t = s) ∧
  (∀ (s : State) (b : Nat) (n : Nat),
      s.listens b = true →
      typeOn 0 b = true →
      (n = 0 ∨ n = 0xFF) →
      Leads (.getMctpVersionSupport b n) s fun t => Answered (s) t b 0 0x4 0 ([1, 0xF1, 0xF3, 0xF1, 0])) ∧
  (∀ (s : State) (b : Nat) (n : Nat),
      s.listens b = true →
      typeOn 0 b = true →
      n ≠ 0 →
      n ≠ 0xFF →
      typeOn n b = true →
      Leads (.getMctpVersionSupport b n) s fun t => Answered (s) t b 0 0x4 0 (1 :: leBytes 4 (Config.stdVersion n))) ∧
  (∀ (s : State) (b : Nat) (n : Nat),
      s.listens b = true →
      typeOn 0 b = true →
      n ≠ 0 →
      n ≠ 0xFF →
      typeOn n b = false →
      Leads (.getMctpVersionSupport b n) s fun t => Answered (s) t b 0 0x4 0x80 ([])) ∧
  (∀ (s : State) (b : Nat) (n : Nat),
      (s.listens b = false ∨ (50 ≤ b ∧ typeOn 0 b = false)) →
      Leads (.getMctpVersionSupport b n) s fun t => t = s) ∧
  (∀ (s : State) (b : Nat),
      s.listens b = true →
      typeOn 0 b = true →
      b < 2 →
      Leads (.getMessageTypeSupport b) s fun t => Answered (s) t b 0 0x5 0 ([5, 0, 1, 5, 6, 0x7E])) ∧
  (∀ (s : State) (b : Nat),
      s.listens b = true →
      typeOn 0 b = true →
      2 ≤ b →
      Leads (.getMessageTypeSupport b) s fun t => Answered (s) t b 0 0x5 0 ([4, 0, 5, 6, 0x7E])) ∧
  (∀ (s : State) (b : Nat),
      (s.listens b = false ∨ (50 ≤ b ∧ typeOn 0 b = false)) →
      Leads (.getMessageTypeSupport b) s fun t => t = s) ∧
  (∀ (s : State) (b : Nat),
      s.listens b = true →
      typeOn 0 b = true →
      Leads (.getVendorDefinedMessageSupport b 0) s fun t => Answered (s) t b 0 0x6 0 ([0xFF, 0, 0x1F, 0x7A, 0, 0])) ∧
  (∀ (s : State) (b : Nat) (n : Nat),
      s.listens b = true →
      typeOn 0 b = true →
      n ≠ 0 →
      Leads (.getVendorDefinedMessageSupport b n) s fun t => Answered (s) t b 0 0x6 2 ([])) ∧
  (∀ (s : State) (b : Nat) (n : Nat),
      (s.listens b = false ∨ (50 ≤ b ∧ typeOn 0 b = false)) →
      Leads (.getVendorDefinedMessageSupport b n) s fun t => t = s) ∧
  (∀ (s : State) (b : Nat),
      s.listens b = true →
      typeOn 0 b = true →
      b = 0 →
      Leads (.prepareForEndpointDiscovery b) s fun t => Answered ({ s with mg := { s.mg with found := false } }) t b 0 0xB 0 ([])) ∧
  (∀ (s : State) (b : Nat),
      s.listens b = true →
      typeOn 0 b = true →
      b ≠ 0 →
      Leads (.prepareForEndpointDiscovery b) s fun t => Answered (s) t b 0 0xB 5 ([])) ∧
  (∀ (s : State) (b : Nat),
      (s.listens b = false ∨ (50 ≤ b ∧ typeOn 0 b = false)) →
      Leads (.prepareForEndpointDiscovery b) s fun t => t = s) ∧
  (∀ (s : State) (b : Nat),
      s.listens b = true →
      typeOn 0 b = true →
      b = 0 →
      s.mg.found = false →
      Leads (.endpointDiscovery b) s fun t => Answered (s) t b 0 0xC 0 ([])) ∧
  (∀ (s : State),
      s.listens 0 = true →
      s.mg.found = true →
      Leads (.endpointDiscovery 0) s fun t => t = s) ∧
  (∀ (s : State) (b : Nat),
      s.listens b = true →
      typeOn 0 b = true →
      b ≠ 0 →
      Leads (.endpointDiscovery b) s fun t => Answered (s) t b 0 0xC 5 ([])) ∧
  (∀ (s : State) (b : Nat),
      (s.listens b = false ∨ (50 ≤ b ∧ typeOn 0 b = false)) →
      Leads (.endpointDiscovery b) s fun t => t = s) ∧
  (∀ (s : State) (b : Nat),
      s.listens b = true →
      typeOn 0 b = true →
      b = 0 →
      Leads (.discoveryNotify b) s fun t => Answered (s) t b 0 0xD 0 ([])) ∧
  (∀ (s : State) (b : Nat),
      s.listens b = true →
      typeOn 0 b = true →
      b ≠ 0 →
      Leads (.discoveryNotify b) s fun t => Answered (s) t b 0 0xD 5 ([])) ∧
  (∀ (s : State) (b : Nat),
      (s.listens b = false ∨ (50 ≤ b ∧ typeOn 0 b = false)) →
      Leads (.discoveryNotify b) s fun t => t = s) ∧
  (∀ (s : State) (n : Nat),
      s.listens 64 = true →
      n < 3 →
      Leads (.doeDiscovery n) s fun t => Answered s t 64 0x40 0 0
        ([1, 0, BitVec.ofNat 8 n, BitVec.ofNat 8 (if n < 2 ∨ s.fld F_HP_STATUS_CXL = 1 then n + 1 else 0)])) ∧
  (∀ (s : State) (n : Nat),
      s.listens 64 = true →
      n = 3 →
      s.fld F_HP_STATUS_CXL = 1 →
      Leads (.doeDiscovery n) s fun t => Answered s t 64 0x40 0 0 ([0x98, 0x1E, 2, 0])) ∧
  (∀ (s : State) (n : Nat),
      s.listens 64 = true →
      ((3 ≤ n ∧ s.fld F_HP_STATUS_CXL ≠ 1) ∨ 4 ≤ n) →
      Leads (.doeDiscovery n) s fun t => Answered s t 64 0x40 0 0 ([0xFF, 0xFF, 0, 0])) ∧
  (∀ (s : State) (n : Nat),
      s.listens 64 = false →
      Leads (.doeDiscovery n) s fun t => t = s) ∧
  (∀ (s : State),
      s.listens 64 = true →
      s.fld F_HP_STATUS_CXL ≠ 0 →
      Leads (.cdatTableAccess 0) s fun t => Answered s t 64 0x41 0 0 (leBytes 1 0 ++ leBytes 8 (hdmWindow s.hp.hdm) ++ leBytes 2 1)) ∧
  (∀ (s : State),
      s.listens 64 = true →
      s.fld F_HP_STATUS_CXL ≠ 0 →
      Leads (.cdatTableAccess 1) s fun t => Answered s t 64 0x41 0 0 (leBytes 1 1 ++ leBytes 8 (450) ++ leBytes 2 2)) ∧
  (∀ (s : State),
      s.listens 64 = true →
      s.fld F_HP_STATUS_CXL ≠ 0 →
      Leads (.cdatTableAccess 2) s fun t => Answered s t 64 0x41 0 0 (leBytes 1 2 ++ leBytes 8 (350) ++ leBytes 2 3)) ∧
  (∀ (s : State),
      s.listens 64 = true →
      s.fld F_HP_STATUS_CXL ≠ 0 →
      Leads (.cdatTableAccess 3) s fun t => Answered s t 64 0x41 0 0 (leBytes 1 4 ++ leBytes 8 (200000) ++ leBytes 2 4)) ∧
  (∀ (s : State),
      s.listens 64 = true →
      s.fld F_HP_STATUS_CXL ≠ 0 →
      Leads (.cdatTableAccess 4) s fun t => Answered s t 64 0x41 0 0 (leBytes 1 5 ++ leBytes 8 (200000) ++ leBytes 2 0xFFFF)) ∧
  (∀ (s : State) (n : Nat),
      s.listens 64 = true →
      s.fld F_HP_STATUS_CXL ≠ 0 →
      5 ≤ n →
      Leads (.cdatTableAccess n) s fun t => Answered s t 64 0x41 0 1 ([])) ∧
  (∀ (s : State) (n : Nat),
      (s.listens 64 = false ∨ s.fld F_HP_STATUS_CXL = 0) →
      Leads (.cdatTableAccess n) s fun t => t = s)

/-- Each SPDM request on a binding that answers SPDM is answered once, but for the chunk that completes another, and changes only the
connection, the sessions, the chunks and the IDE streams, as Table 14.7 has it: a request before its stage is answered unexpected, one
without certificates, with a wrong slot, index or session is refused, a fifth session is answered Busy, and a response above 4,096 bytes is
kept for CHUNK_GET; the last chunk of a large request has the whole request run after its acknowledgement. A signed answer draws one
signature. A request on a binding that listens but has no SPDM changes nothing; where nothing listens nothing changes. (R465, R469, R471,
R472, R528, R529, 14_host_port_and_management.md) -/
def Obligations.SpdmAnswers : Prop :=
  (∀ (s : State) (b : Nat),
      s.listens b = true →
      typeOn 5 b = true →
      Leads (.getVersion b) s fun t => Answered ({ s with mg := { s.mg with spdm := kvPut {} s.mg.spdm b { stage := 1 } } }) t b 5 0x84 0 ([0x12, 0x13])) ∧
  (∀ (s : State) (b : Nat),
      (s.listens b = false ∨ b = 65) →
      Leads (.getVersion b) s fun t => t = s) ∧
  (∀ (s : State) (b : Nat),
      s.listens b = true →
      typeOn 5 b = true →
      1 ≤ (s.spdm b).stage →
      Leads (.getCapabilities b) s fun t => Answered ({ s with mg := { s.mg with spdm := kvPut {} s.mg.spdm b { s.spdm b with stage := max 2 (s.spdm b).stage } } }) t b 5 0xE1 0 ([0x84, 0xE1, 0xE3, 0x81, 0x82, 0x83, 0xE0, 0xE4, 0xE5, 0xE8, 0xE9, 0xEC, 0x85, 0x86] ++
        (if b = 64 then [0xFE] else []))) ∧
  (∀ (s : State) (b : Nat),
      s.listens b = true →
      typeOn 5 b = true →
      (s.spdm b).stage < 1 →
      Leads (.getCapabilities b) s fun t => Answered (s) t b 5 0xE1 4 ([])) ∧
  (∀ (s : State) (b : Nat),
      (s.listens b = false ∨ b = 65) →
      Leads (.getCapabilities b) s fun t => t = s) ∧
  (∀ (s : State) (b : Nat),
      s.listens b = true →
      typeOn 5 b = true →
      2 ≤ (s.spdm b).stage →
      Leads (.negotiateAlgorithms b true true true true) s fun t => Answered ({ s with mg := { s.mg with spdm := kvPut {} s.mg.spdm b { s.spdm b with stage := 3 } } }) t b 5 0xE3 0 ([1, 1, 1, 1])) ∧
  (∀ (s : State) (b : Nat) (u : Bool) (v : Bool) (w : Bool) (x : Bool),
      s.listens b = true →
      typeOn 5 b = true →
      2 ≤ (s.spdm b).stage →
      (u = false ∨ v = false ∨ w = false ∨ x = false) →
      Leads (.negotiateAlgorithms b u v w x) s fun t => Answered (s) t b 5 0xE3 1 ([])) ∧
  (∀ (s : State) (b : Nat) (u : Bool) (v : Bool) (w : Bool) (x : Bool),
      s.listens b = true →
      typeOn 5 b = true →
      (s.spdm b).stage < 2 →
      Leads (.negotiateAlgorithms b u v w x) s fun t => Answered (s) t b 5 0xE3 4 ([])) ∧
  (∀ (s : State) (b : Nat) (u : Bool) (v : Bool) (w : Bool) (x : Bool),
      (s.listens b = false ∨ b = 65) →
      Leads (.negotiateAlgorithms b u v w x) s fun t => t = s) ∧
  (∀ (s : State) (b : Nat),
      s.listens b = true →
      typeOn 5 b = true →
      3 ≤ (s.spdm b).stage →
      s.certs.isSome = true →
      Leads (.getDigests b) s fun t => Answered (s) t b 5 0x81 0 (1 :: sha384 (s.certs.getD []))) ∧
  (∀ (s : State) (b : Nat),
      s.listens b = true →
      typeOn 5 b = true →
      3 ≤ (s.spdm b).stage →
      s.certs = none →
      Leads (.getDigests b) s fun t => Answered (s) t b 5 0x81 0 ([0])) ∧
  (∀ (s : State) (b : Nat),
      s.listens b = true →
      typeOn 5 b = true →
      (s.spdm b).stage < 3 →
      Leads (.getDigests b) s fun t => Answered (s) t b 5 0x81 4 ([])) ∧
  (∀ (s : State) (b : Nat),
      (s.listens b = false ∨ b = 65) →
      Leads (.getDigests b) s fun t => t = s) ∧
  (∀ (s : State) (b : Nat) (k : Nat) (n : Nat),
      s.listens b = true →
      typeOn 5 b = true →
      3 ≤ (s.spdm b).stage →
      s.certs.isSome = true →
      Leads (.getCertificate b 0 k n) s fun t => SpdmReplied (s) t b 0x82 (((s.certs.getD []).drop k).take n)) ∧
  (∀ (s : State) (b : Nat) (m : Nat) (k : Nat) (n : Nat),
      s.listens b = true →
      typeOn 5 b = true →
      3 ≤ (s.spdm b).stage →
      (m ≠ 0 ∨ s.certs = none) →
      Leads (.getCertificate b m k n) s fun t => Answered (s) t b 5 0x82 1 ([])) ∧
  (∀ (s : State) (b : Nat) (m : Nat) (k : Nat) (n : Nat),
      s.listens b = true →
      typeOn 5 b = true →
      (s.spdm b).stage < 3 →
      Leads (.getCertificate b m k n) s fun t => Answered (s) t b 5 0x82 4 ([])) ∧
  (∀ (s : State) (b : Nat) (m : Nat) (k : Nat) (n : Nat),
      (s.listens b = false ∨ b = 65) →
      Leads (.getCertificate b m k n) s fun t => t = s) ∧
  (∀ (s : State) (b : Nat) (l : List Byte),
      s.listens b = true →
      typeOn 5 b = true →
      3 ≤ (s.spdm b).stage →
      s.certs.isSome = true →
      Leads (.challenge b 0 l) s fun t => Answered ({ s with fresh := s.fresh + 1 }) t b 5 0x83 0 (l ++ (Config.signature s.fresh).take 96)) ∧
  (∀ (s : State) (b : Nat) (m : Nat) (l : List Byte),
      s.listens b = true →
      typeOn 5 b = true →
      3 ≤ (s.spdm b).stage →
      (m ≠ 0 ∨ s.certs = none) →
      Leads (.challenge b m l) s fun t => Answered (s) t b 5 0x83 1 ([])) ∧
  (∀ (s : State) (b : Nat) (m : Nat) (l : List Byte),
      s.listens b = true →
      typeOn 5 b = true →
      (s.spdm b).stage < 3 →
      Leads (.challenge b m l) s fun t => Answered (s) t b 5 0x83 4 ([])) ∧
  (∀ (s : State) (b : Nat) (m : Nat) (l : List Byte),
      (s.listens b = false ∨ b = 65) →
      Leads (.challenge b m l) s fun t => t = s) ∧
  (∀ (s : State) (b : Nat) (n : Nat),
      s.listens b = true →
      typeOn 5 b = true →
      3 ≤ (s.spdm b).stage →
      1 ≤ n →
      n ≤ 7 →
      Leads (.getMeasurements b n false) s fun t => SpdmReplied (s) t b 0xE0 (s.dmtf n)) ∧
  (∀ (s : State) (b : Nat) (n : Nat),
      s.listens b = true →
      typeOn 5 b = true →
      3 ≤ (s.spdm b).stage →
      s.certs.isSome = true →
      1 ≤ n →
      n ≤ 7 →
      Leads (.getMeasurements b n true) s fun t => SpdmReplied ({ s with fresh := s.fresh + 1 }) t b 0xE0 (s.dmtf n ++ (Config.signature s.fresh).take 96)) ∧
  (∀ (s : State) (b : Nat),
      s.listens b = true →
      typeOn 5 b = true →
      3 ≤ (s.spdm b).stage →
      Leads (.getMeasurements b 0 false) s fun t => SpdmReplied (s) t b 0xE0 ([7])) ∧
  (∀ (s : State) (b : Nat),
      s.listens b = true →
      typeOn 5 b = true →
      3 ≤ (s.spdm b).stage →
      s.certs.isSome = true →
      Leads (.getMeasurements b 0 true) s fun t => SpdmReplied ({ s with fresh := s.fresh + 1 }) t b 0xE0 (([7]) ++ (Config.signature s.fresh).take 96)) ∧
  (∀ (s : State) (b : Nat),
      s.listens b = true →
      typeOn 5 b = true →
      3 ≤ (s.spdm b).stage →
      Leads (.getMeasurements b 255 false) s fun t => SpdmReplied (s) t b 0xE0 (((List.range' 1 7).map s.dmtf).flatten)) ∧
  (∀ (s : State) (b : Nat),
      s.listens b = true →
      typeOn 5 b = true →
      3 ≤ (s.spdm b).stage →
      s.certs.isSome = true →
      Leads (.getMeasurements b 255 true) s fun t => SpdmReplied ({ s with fresh := s.fresh + 1 }) t b 0xE0 ((((List.range' 1 7).map s.dmtf).flatten) ++ (Config.signature s.fresh).take 96)) ∧
  (∀ (s : State) (b : Nat) (n : Nat) (v : Bool),
      s.listens b = true →
      typeOn 5 b = true →
      3 ≤ (s.spdm b).stage →
      7 < n →
      n ≠ 255 →
      Leads (.getMeasurements b n v) s fun t => Answered (s) t b 5 0xE0 1 ([])) ∧
  (∀ (s : State) (b : Nat) (n : Nat),
      s.listens b = true →
      typeOn 5 b = true →
      3 ≤ (s.spdm b).stage →
      (n ≤ 7 ∨ n = 255) →
      s.certs = none →
      Leads (.getMeasurements b n true) s fun t => Answered (s) t b 5 0xE0 1 ([])) ∧
  (∀ (s : State) (b : Nat) (n : Nat) (v : Bool),
      s.listens b = true →
      typeOn 5 b = true →
      (s.spdm b).stage < 3 →
      Leads (.getMeasurements b n v) s fun t => Answered (s) t b 5 0xE0 4 ([])) ∧
  (∀ (s : State) (b : Nat) (n : Nat) (v : Bool),
      (s.listens b = false ∨ b = 65) →
      Leads (.getMeasurements b n v) s fun t => t = s) ∧
  (∀ (s : State) (b : Nat) (n : Nat),
      s.listens b = true →
      typeOn 5 b = true →
      3 ≤ (s.spdm b).stage →
      s.certs.isSome = true →
      s.mg.sessions.any (fun x => x.bind == b && x.id == n) = false →
      s.mg.sessions.length < 4 →
      Leads (.keyExchange b n) s fun t => Answered ({ s with fresh := s.fresh + 1, mg := { s.mg with sessions := s.mg.sessions ++ [{ bind := b, id := n }] } }) t b 5 0xE4 0 ((Config.signature s.fresh).take 96)) ∧
  (∀ (s : State) (b : Nat) (n : Nat),
      s.listens b = true →
      typeOn 5 b = true →
      3 ≤ (s.spdm b).stage →
      (s.certs = none ∨ s.mg.sessions.any (fun x => x.bind == b && x.id == n) = true) →
      Leads (.keyExchange b n) s fun t => Answered (s) t b 5 0xE4 1 ([])) ∧
  (∀ (s : State) (b : Nat) (n : Nat),
      s.listens b = true →
      typeOn 5 b = true →
      3 ≤ (s.spdm b).stage →
      s.certs.isSome = true →
      s.mg.sessions.any (fun x => x.bind == b && x.id == n) = false →
      4 ≤ s.mg.sessions.length →
      Leads (.keyExchange b n) s fun t => Answered (s) t b 5 0xE4 3 ([])) ∧
  (∀ (s : State) (b : Nat) (n : Nat),
      s.listens b = true →
      typeOn 5 b = true →
      (s.spdm b).stage < 3 →
      Leads (.keyExchange b n) s fun t => Answered (s) t b 5 0xE4 4 ([])) ∧
  (∀ (s : State) (b : Nat) (n : Nat),
      (s.listens b = false ∨ b = 65) →
      Leads (.keyExchange b n) s fun t => t = s) ∧
  (∀ (s : State) (b : Nat) (n : Nat),
      s.listens b = true →
      typeOn 5 b = true →
      s.spdmSession b n false = true →
      Leads (.spdmFinish b n) s fun t => Answered ({ s with mg := { s.mg with sessions := s.mg.sessions.map (fun x => if x.bind = b ∧ x.id = n then { x with open_ := true } else x) } }) t b 5 0xE5 0 ([])) ∧
  (∀ (s : State) (b : Nat) (n : Nat),
      s.listens b = true →
      typeOn 5 b = true →
      s.spdmSession b n false = false →
      Leads (.spdmFinish b n) s fun t => Answered (s) t b 5 0xE5 2 ([])) ∧
  (∀ (s : State) (b : Nat) (n : Nat),
      (s.listens b = false ∨ b = 65) →
      Leads (.spdmFinish b n) s fun t => t = s) ∧
  (∀ (s : State) (b : Nat) (n : Nat),
      s.listens b = true →
      typeOn 5 b = true →
      s.spdmSession b n true = true →
      Leads (.heartbeat b n) s fun t => Answered (s) t b 5 0xE8 0 ([])) ∧
  (∀ (s : State) (b : Nat) (n : Nat),
      s.listens b = true →
      typeOn 5 b = true →
      s.spdmSession b n true = false →
      Leads (.heartbeat b n) s fun t => Answered (s) t b 5 0xE8 2 ([])) ∧
  (∀ (s : State) (b : Nat) (n : Nat),
      (s.listens b = false ∨ b = 65) →
      Leads (.heartbeat b n) s fun t => t = s) ∧
  (∀ (s : State) (b : Nat) (n : Nat),
      s.listens b = true →
      typeOn 5 b = true →
      s.spdmSession b n true = true →
      Leads (.keyUpdate b n) s fun t => Answered (s) t b 5 0xE9 0 ([])) ∧
  (∀ (s : State) (b : Nat) (n : Nat),
      s.listens b = true →
      typeOn 5 b = true →
      s.spdmSession b n true = false →
      Leads (.keyUpdate b n) s fun t => Answered (s) t b 5 0xE9 2 ([])) ∧
  (∀ (s : State) (b : Nat) (n : Nat),
      (s.listens b = false ∨ b = 65) →
      Leads (.keyUpdate b n) s fun t => t = s) ∧
  (∀ (s : State) (b : Nat) (n : Nat),
      s.listens b = true →
      typeOn 5 b = true →
      s.spdmSession b n true = true →
      Leads (.endSession b n) s fun t => Answered ({ s with mg := { s.mg with sessions := s.mg.sessions.filter (fun x => !(x.bind == b && x.id == n)) } }) t b 5 0xEC 0 ([])) ∧
  (∀ (s : State) (b : Nat) (n : Nat),
      s.listens b = true →
      typeOn 5 b = true →
      s.spdmSession b n true = false →
      Leads (.endSession b n) s fun t => Answered (s) t b 5 0xEC 2 ([])) ∧
  (∀ (s : State) (b : Nat) (n : Nat),
      (s.listens b = false ∨ b = 65) →
      Leads (.endSession b n) s fun t => t = s) ∧
  (∀ (s : State) (b : Nat) (l : List Byte),
      s.listens b = true →
      typeOn 5 b = true →
      Leads (.chunkSend b false l) s fun t => Answered ({ s with mg := { s.mg with spdm := kvPut {} s.mg.spdm b { s.spdm b with chunksIn := (s.spdm b).chunksIn ++ l } } }) t b 5 0x85 0 ([])) ∧
  (∀ (s : State) (b : Nat) (l : List Byte),
      s.listens b = true →
      typeOn 5 b = true →
      Leads (.chunkSend b true l) s fun t => Answered ({ s with mg := { s.mg with spdm := kvPut {} s.mg.spdm b { s.spdm b with chunksIn := [] } } }) (({ s with mg := { s.mg with spdm := kvPut {} s.mg.spdm b { s.spdm b with chunksIn := [] } } } : State).respond b 5 0x85 0 []) b 5 0x85 0 [] ∧ t = (({ s with mg := { s.mg with spdm := kvPut {} s.mg.spdm b { s.spdm b with chunksIn := [] } } } : State).respond b 5 0x85 0 []).runSpdm b ((s.spdm b).chunksIn ++ l) ∧
        (inSet (spdmRequests b) (leAt ((s.spdm b).chunksIn ++ l) 1 1) = false → Answered (({ s with mg := { s.mg with spdm := kvPut {} s.mg.spdm b { s.spdm b with chunksIn := [] } } } : State).respond b 5 0x85 0 []) t b 5 (leAt ((s.spdm b).chunksIn ++ l) 1 1) 7 [])) ∧
  (∀ (s : State) (b : Nat) (v : Bool) (l : List Byte),
      (s.listens b = false ∨ b = 65) →
      Leads (.chunkSend b v l) s fun t => t = s) ∧
  (∀ (s : State) (b : Nat),
      s.listens b = true →
      typeOn 5 b = true →
      (s.spdm b).chunksOut ≠ [] →
      Leads (.chunkGet b) s fun t => Answered ({ s with mg := { s.mg with spdm := kvPut {} s.mg.spdm b { s.spdm b with chunksOut := (s.spdm b).chunksOut.drop 4096 } } }) t b 5 0x86 0 ((s.spdm b).chunksOut.take 4096)) ∧
  (∀ (s : State) (b : Nat),
      s.listens b = true →
      typeOn 5 b = true →
      (s.spdm b).chunksOut = [] →
      Leads (.chunkGet b) s fun t => Answered (s) t b 5 0x86 1 ([])) ∧
  (∀ (s : State) (b : Nat),
      (s.listens b = false ∨ b = 65) →
      Leads (.chunkGet b) s fun t => t = s) ∧
  (∀ (s : State) (n : Nat) (k : Nat),
      s.listens 64 = true →
      s.spdmSession 64 n true = true →
      k < 5 →
      Leads (.ideKm 64 n k) s fun t => Answered ({ s with hp := { s.hp with ide := kvPut 0 s.hp.ide k 1 } }) t 64 5 0xFE 0 []) ∧
  (∀ (s : State) (n : Nat) (k : Nat),
      s.listens 64 = true →
      s.spdmSession 64 n true = true →
      5 ≤ k →
      Leads (.ideKm 64 n k) s fun t => Answered s t 64 5 0xFE 1 []) ∧
  (∀ (s : State) (n : Nat) (k : Nat),
      s.listens 64 = true →
      s.spdmSession 64 n true = false →
      Leads (.ideKm 64 n k) s fun t => Answered s t 64 5 0xFE 2 []) ∧
  (∀ (s : State) (b : Nat) (n : Nat) (k : Nat),
      s.listens b = true →
      typeOn 5 b = true →
      b ≠ 64 →
      Leads (.ideKm b n k) s fun t => Answered (s) t b 5 0xFE 7 ([])) ∧
  (∀ (s : State) (b : Nat) (n : Nat) (k : Nat),
      (s.listens b = false ∨ b = 65) →
      Leads (.ideKm b n k) s fun t => t = s)

/-- On PCIe VDM and I3C each PLDM command of types 0, 2 and 5 is answered once and changes only what it commands: the terminus ID, the event
receiver, the held events, and the firmware update. An update is requested, its components are written to slots that are INVALID meanwhile,
transferred, verified (a bad image, a low security revision and a good one reported) and activated into STAGED slots, or cancelled or timed
out, which leaves what was written INVALID; another agent, a wrong state or a wrong field is answered with its code. On a link PLDM is
dropped and counted; where nothing listens nothing changes. (R469, R473, R474, R475, R476, R520, R521, R525, R554, R705,
14_host_port_and_management.md) -/
def Obligations.PldmAnswers : Prop :=
  (∀ (s : State) (b : Nat),
      s.listens b = true →
      b < 2 →
      Leads (.getTid b) s fun t => Answered (s) t b 1 0x2 0 (leBytes 1 s.mg.tid)) ∧
  (∀ (s : State) (b : Nat),
      (s.listens b = false ∨ 50 ≤ b) →
      Leads (.getTid b) s fun t => t = s) ∧
  (∀ (s : State) (b : Nat),
      s.listens b = true →
      2 ≤ b →
      b < 50 →
      Leads (.getTid b) s fun t => t = s.bump F_HP_MCTP_DROP_DROP) ∧
  (∀ (s : State) (b : Nat) (n : Nat),
      s.listens b = true →
      b < 2 →
      1 ≤ n →
      n ≤ 254 →
      Leads (.setTid b n) s fun t => Answered ({ s with mg := { s.mg with tid := n } }) t b 1 0x1 0 ([])) ∧
  (∀ (s : State) (b : Nat) (n : Nat),
      s.listens b = true →
      b < 2 →
      (n = 0 ∨ 255 ≤ n) →
      Leads (.setTid b n) s fun t => Answered (s) t b 1 0x1 2 ([])) ∧
  (∀ (s : State) (b : Nat) (n : Nat),
      (s.listens b = false ∨ 50 ≤ b) →
      Leads (.setTid b n) s fun t => t = s) ∧
  (∀ (s : State) (b : Nat) (n : Nat),
      s.listens b = true →
      2 ≤ b →
      b < 50 →
      Leads (.setTid b n) s fun t => t = s.bump F_HP_MCTP_DROP_DROP) ∧
  (∀ (s : State) (b : Nat) (n : Nat),
      s.listens b = true →
      b < 2 →
      (n = 0 ∨ n = 2 ∨ n = 5) →
      Leads (.getPldmVersion b n) s fun t => Answered (s) t b 1 0x3 0 (leBytes 4 (Config.stdVersion (0x100 + n)))) ∧
  (∀ (s : State) (b : Nat) (n : Nat),
      s.listens b = true →
      b < 2 →
      n ≠ 0 →
      n ≠ 2 →
      n ≠ 5 →
      Leads (.getPldmVersion b n) s fun t => Answered (s) t b 1 0x3 0x83 ([])) ∧
  (∀ (s : State) (b : Nat) (n : Nat),
      (s.listens b = false ∨ 50 ≤ b) →
      Leads (.getPldmVersion b n) s fun t => t = s) ∧
  (∀ (s : State) (b : Nat) (n : Nat),
      s.listens b = true →
      2 ≤ b →
      b < 50 →
      Leads (.getPldmVersion b n) s fun t => t = s.bump F_HP_MCTP_DROP_DROP) ∧
  (∀ (s : State) (b : Nat),
      s.listens b = true →
      b < 2 →
      Leads (.getPldmTypes b) s fun t => Answered (s) t b 1 0x4 0 ([0x25, 0, 0, 0, 0, 0, 0, 0])) ∧
  (∀ (s : State) (b : Nat),
      (s.listens b = false ∨ 50 ≤ b) →
      Leads (.getPldmTypes b) s fun t => t = s) ∧
  (∀ (s : State) (b : Nat),
      s.listens b = true →
      2 ≤ b →
      b < 50 →
      Leads (.getPldmTypes b) s fun t => t = s.bump F_HP_MCTP_DROP_DROP) ∧
  (∀ (s : State) (b : Nat) (n : Nat),
      s.listens b = true →
      b < 2 →
      (n = 0 ∨ n = 2 ∨ n = 5) →
      Leads (.getPldmCommands b n) s fun t => Answered (s) t b 1 0x5 0 ((pldmCommands n).map (fun (c : Nat) => BitVec.ofNat 8 c))) ∧
  (∀ (s : State) (b : Nat) (n : Nat),
      s.listens b = true →
      b < 2 →
      n ≠ 0 →
      n ≠ 2 →
      n ≠ 5 →
      Leads (.getPldmCommands b n) s fun t => Answered (s) t b 1 0x5 0x83 ([])) ∧
  (∀ (s : State) (b : Nat) (n : Nat),
      (s.listens b = false ∨ 50 ≤ b) →
      Leads (.getPldmCommands b n) s fun t => t = s) ∧
  (∀ (s : State) (b : Nat) (n : Nat),
      s.listens b = true →
      2 ≤ b →
      b < 50 →
      Leads (.getPldmCommands b n) s fun t => t = s.bump F_HP_MCTP_DROP_DROP) ∧
  (∀ (s : State) (b : Nat),
      s.listens b = true →
      b < 2 →
      Leads (.getPdrRepositoryInfo b) s fun t => Answered (s) t b 1 0x50 0 (leBytes 4 s.sensors.length)) ∧
  (∀ (s : State) (b : Nat),
      (s.listens b = false ∨ 50 ≤ b) →
      Leads (.getPdrRepositoryInfo b) s fun t => t = s) ∧
  (∀ (s : State) (b : Nat),
      s.listens b = true →
      2 ≤ b →
      b < 50 →
      Leads (.getPdrRepositoryInfo b) s fun t => t = s.bump F_HP_MCTP_DROP_DROP) ∧
  (∀ (s : State) (b : Nat) (n : Nat),
      s.listens b = true →
      b < 2 →
      1 ≤ n →
      n ≤ s.sensors.length →
      Leads (.getPdr b n) s fun t => Answered (s) t b 1 0x51 0 (leBytes 4 (if n - 1 + 1 < s.sensors.length then n - 1 + 2 else 0) ++ leBytes 2 (s.sensors.getD (n - 1) 0) ++
        leBytes 1 (sensorUnit (s.sensors.getD (n - 1) 0)))) ∧
  (∀ (s : State) (b : Nat),
      s.listens b = true →
      b < 2 →
      Leads (.getPdr b 0) s fun t => Answered (s) t b 1 0x51 0 (leBytes 4 (if 0 + 1 < s.sensors.length then 0 + 2 else 0) ++ leBytes 2 (s.sensors.getD (0) 0) ++
        leBytes 1 (sensorUnit (s.sensors.getD (0) 0)))) ∧
  (∀ (s : State) (b : Nat) (n : Nat),
      s.listens b = true →
      b < 2 →
      s.sensors.length < n →
      Leads (.getPdr b n) s fun t => Answered (s) t b 1 0x51 0x82 ([])) ∧
  (∀ (s : State) (b : Nat) (n : Nat),
      (s.listens b = false ∨ 50 ≤ b) →
      Leads (.getPdr b n) s fun t => t = s) ∧
  (∀ (s : State) (b : Nat) (n : Nat),
      s.listens b = true →
      2 ≤ b →
      b < 50 →
      Leads (.getPdr b n) s fun t => t = s.bump F_HP_MCTP_DROP_DROP) ∧
  (∀ (s : State) (b : Nat) (n : Nat) (k : Nat),
      s.listens b = true →
      b < 2 →
      inSet s.sensors n = true →
      Leads (.getSensorReading b n k) s fun t => Answered (s) t b 1 0x11 0 (leBytes 1 (if n / 16 = 0x10 ∧ s.fld F_PW_T_STATUS_OPEN (48 + n % 16) = 1 then 4 else 0) ++
        leBytes 4 (s.reading n k))) ∧
  (∀ (s : State) (b : Nat) (n : Nat) (k : Nat),
      s.listens b = true →
      b < 2 →
      inSet s.sensors n = false →
      Leads (.getSensorReading b n k) s fun t => Answered (s) t b 1 0x11 0x80 ([])) ∧
  (∀ (s : State) (b : Nat) (n : Nat) (k : Nat),
      (s.listens b = false ∨ 50 ≤ b) →
      Leads (.getSensorReading b n k) s fun t => t = s) ∧
  (∀ (s : State) (b : Nat) (n : Nat) (k : Nat),
      s.listens b = true →
      2 ≤ b →
      b < 50 →
      Leads (.getSensorReading b n k) s fun t => t = s.bump F_HP_MCTP_DROP_DROP) ∧
  (∀ (s : State) (b : Nat) (n : Nat),
      s.listens b = true →
      b < 2 →
      Leads (.getStateSensorReadings b n) s fun t => Answered (s) t b 1 0x21 0x80 ([])) ∧
  (∀ (s : State) (b : Nat) (n : Nat),
      (s.listens b = false ∨ 50 ≤ b) →
      Leads (.getStateSensorReadings b n) s fun t => t = s) ∧
  (∀ (s : State) (b : Nat) (n : Nat),
      s.listens b = true →
      2 ≤ b →
      b < 50 →
      Leads (.getStateSensorReadings b n) s fun t => t = s.bump F_HP_MCTP_DROP_DROP) ∧
  (∀ (s : State) (b : Nat) (n : Nat) (v : Bool),
      s.listens b = true →
      b < 2 →
      Leads (.setEventReceiver b n v) s fun t => Answered ({ s with mg := { s.mg with receiver := if v then some (b, n) else none } }) t b 1 0x4 0 ([])) ∧
  (∀ (s : State) (b : Nat) (n : Nat) (v : Bool),
      (s.listens b = false ∨ 50 ≤ b) →
      Leads (.setEventReceiver b n v) s fun t => t = s) ∧
  (∀ (s : State) (b : Nat) (n : Nat) (v : Bool),
      s.listens b = true →
      2 ≤ b →
      b < 50 →
      Leads (.setEventReceiver b n v) s fun t => t = s.bump F_HP_MCTP_DROP_DROP) ∧
  (∀ (s : State) (n : Nat) (k : Nat) (b : Nat) (v : Nat),
      inSet s.sensors n = true →
      s.mg.receiver = some (b, v) →
      Leads (.sensorThresholdCrossing n k) s fun t =>
        t = s.sendMsg b true ([1, 0x0A, BitVec.ofNat 8 v] ++ leBytes 2 n ++ leBytes 1 k)) ∧
  (∀ (s : State) (n : Nat) (k : Nat),
      inSet s.sensors n = true →
      s.mg.receiver = none →
      Leads (.sensorThresholdCrossing n k) s fun t =>
        t = { s with mg := { s.mg with events := (s.mg.events ++ [(n, k)]).drop (s.mg.events.length - 63) } }) ∧
  (∀ (s : State) (n : Nat) (k : Nat),
      inSet s.sensors n = false →
      Leads (.sensorThresholdCrossing n k) s fun t => t = s) ∧
  (∀ (s : State) (b : Nat) (n : Nat) (k : Nat) (l : List (Nat × Nat)),
      s.listens b = true →
      b < 2 →
      s.mg.events = (n, k) :: l →
      Leads (.pollForPlatformEventMessage b) s fun t => Answered ({ s with mg := { s.mg with events := l } }) t b 1 0xB 0 (leBytes 2 n ++ leBytes 1 k)) ∧
  (∀ (s : State) (b : Nat),
      s.listens b = true →
      b < 2 →
      s.mg.events = [] →
      Leads (.pollForPlatformEventMessage b) s fun t => Answered (s) t b 1 0xB 0 ([])) ∧
  (∀ (s : State) (b : Nat),
      (s.listens b = false ∨ 50 ≤ b) →
      Leads (.pollForPlatformEventMessage b) s fun t => t = s) ∧
  (∀ (s : State) (b : Nat),
      s.listens b = true →
      2 ≤ b →
      b < 50 →
      Leads (.pollForPlatformEventMessage b) s fun t => t = s.bump F_HP_MCTP_DROP_DROP) ∧
  (∀ (s : State) (b : Nat),
      s.listens b = true →
      b < 2 →
      Leads (.eventMessageSupported b) s fun t => Answered (s) t b 1 0xC 0 ([1, 0])) ∧
  (∀ (s : State) (b : Nat),
      (s.listens b = false ∨ 50 ≤ b) →
      Leads (.eventMessageSupported b) s fun t => t = s) ∧
  (∀ (s : State) (b : Nat),
      s.listens b = true →
      2 ≤ b →
      b < 50 →
      Leads (.eventMessageSupported b) s fun t => t = s.bump F_HP_MCTP_DROP_DROP) ∧
  (∀ (s : State) (b : Nat),
      (s.romUpdate b = true ∨ (s.listens b = true ∧ b < 2)) →
      Leads (.queryDeviceIdentifiers b) s fun t => Answered (s) t b 1 0x501 0 ([0x7A, 0x1F, 0x10, 0x48])) ∧
  (∀ (s : State) (b : Nat),
      s.romUpdate b = false →
      (s.listens b = false ∨ 50 ≤ b) →
      Leads (.queryDeviceIdentifiers b) s fun t => t = s) ∧
  (∀ (s : State) (b : Nat),
      s.listens b = true →
      2 ≤ b →
      b < 50 →
      Leads (.queryDeviceIdentifiers b) s fun t => t = s.bump F_HP_MCTP_DROP_DROP) ∧
  (∀ (s : State) (b : Nat),
      (s.romUpdate b = true ∨ (s.listens b = true ∧ b < 2)) →
      Leads (.getFirmwareParameters b) s fun t => Answered (s) t b 1 0x502 0 (leBytes 2 1 ++ leBytes 4 (s.fld F_TOP_RTP_VERSION_VERSION) ++
        leBytes 4 (if (s.slotRec (s.inactive 1)).st = 1 then (s.slotRec (s.inactive 1)).image.version else 0) ++
        leBytes 2 2 ++ leBytes 4 (s.fld F_TOP_FW_VERSION_VERSION) ++ leBytes 4 (if (s.slotRec (s.inactive 2)).st = 1 then (s.slotRec (s.inactive 2)).image.version else 0))) ∧
  (∀ (s : State) (b : Nat),
      s.romUpdate b = false →
      (s.listens b = false ∨ 50 ≤ b) →
      Leads (.getFirmwareParameters b) s fun t => t = s) ∧
  (∀ (s : State) (b : Nat),
      s.listens b = true →
      2 ≤ b →
      b < 50 →
      Leads (.getFirmwareParameters b) s fun t => t = s.bump F_HP_MCTP_DROP_DROP) ∧
  (∀ (s : State) (b : Nat) (n : Nat),
      (s.romUpdate b = true ∨ (s.listens b = true ∧ b < 2)) →
      s.mg.update = none →
      (∀ i, i < 4 → (s.slotRec i).st ≠ 2) →
      Leads (.requestUpdate b n) s fun t => Answered ({ s with mg := { s.mg with update := some { bind := b, eid := n, last := s.now } } }) t b 1 0x510 0 ([])) ∧
  (∀ (s : State) (b : Nat) (n : Nat),
      (s.romUpdate b = true ∨ (s.listens b = true ∧ b < 2)) →
      s.mg.update ≠ none →
      Leads (.requestUpdate b n) s fun t => Answered (s) t b 1 0x510 0x81 ([])) ∧
  (∀ (s : State) (b : Nat) (n : Nat) (i : Nat),
      (s.romUpdate b = true ∨ (s.listens b = true ∧ b < 2)) →
      s.mg.update = none →
      i < 4 →
      (s.slotRec i).st = 2 →
      Leads (.requestUpdate b n) s fun t => Answered (s) t b 1 0x510 0x8A ([])) ∧
  (∀ (s : State) (b : Nat) (n : Nat),
      s.romUpdate b = false →
      (s.listens b = false ∨ 50 ≤ b) →
      Leads (.requestUpdate b n) s fun t => t = s) ∧
  (∀ (s : State) (b : Nat) (n : Nat),
      s.listens b = true →
      2 ≤ b →
      b < 50 →
      Leads (.requestUpdate b n) s fun t => t = s.bump F_HP_MCTP_DROP_DROP) ∧
  (∀ (s : State) (b : Nat) (n : Nat) (k : Nat) (u : Update),
      (s.romUpdate b = true ∨ (s.listens b = true ∧ b < 2)) →
      s.mg.update = some u →
      u.bind = b →
      u.eid = n →
      Leads (.passComponentTable b n k) s fun t => Answered ({ s with mg := { s.mg with update := some { u with last := s.now } } }) t b 1 0x513 0 ([if k = 1 ∨ (k = 2 ∧ s.rtpUp = true) then 0 else 1])) ∧
  (∀ (s : State) (b : Nat) (n : Nat) (k : Nat),
      (s.romUpdate b = true ∨ (s.listens b = true ∧ b < 2)) →
      s.mg.update.any (fun u => u.bind == b && u.eid == n) = false →
      Leads (.passComponentTable b n k) s fun t => Answered (s) t b 1 0x513 0x80 ([])) ∧
  (∀ (s : State) (b : Nat) (n : Nat) (k : Nat),
      s.romUpdate b = false →
      (s.listens b = false ∨ 50 ≤ b) →
      Leads (.passComponentTable b n k) s fun t => t = s) ∧
  (∀ (s : State) (b : Nat) (n : Nat) (k : Nat),
      s.listens b = true →
      2 ≤ b →
      b < 50 →
      Leads (.passComponentTable b n k) s fun t => t = s.bump F_HP_MCTP_DROP_DROP) ∧
  (∀ (s : State) (b : Nat) (n : Nat) (k : Nat) (u : Update),
      (s.romUpdate b = true ∨ (s.listens b = true ∧ b < 2)) →
      s.mg.update = some u →
      u.bind = b →
      u.eid = n →
      u.comp = 0 →
      (k = 1 ∨ (k = 2 ∧ s.rtpUp = true)) →
      Leads (.updateComponent b n k) s fun t =>
        t.mg = { s.mg with update := some { u with last := s.now, comp := k, sent := false, good := u.good.filter (fun p => p.1 != k) } } ∧
        (t.slotRec (s.inactive k)).st = 4 ∧ (∀ j, j ≠ s.inactive k → t.slotRec j = s.slotRec j) ∧
        t.outbox = ((s.respond b 1 0x514 0 [0]).sendMsg b true [1, 0x15, BitVec.ofNat 8 n]).outbox) ∧
  (∀ (s : State) (b : Nat) (n : Nat) (k : Nat) (u : Update),
      (s.romUpdate b = true ∨ (s.listens b = true ∧ b < 2)) →
      s.mg.update = some u →
      u.bind = b →
      u.eid = n →
      u.comp ≠ 0 →
      Leads (.updateComponent b n k) s fun t => Answered ({ s with mg := { s.mg with update := some { u with last := s.now } } }) t b 1 0x514 0x84 ([])) ∧
  (∀ (s : State) (b : Nat) (n : Nat) (k : Nat) (u : Update),
      (s.romUpdate b = true ∨ (s.listens b = true ∧ b < 2)) →
      s.mg.update = some u →
      u.bind = b →
      u.eid = n →
      u.comp = 0 →
      k ≠ 1 →
      (k ≠ 2 ∨ s.rtpUp = false) →
      Leads (.updateComponent b n k) s fun t => Answered ({ s with mg := { s.mg with update := some { u with last := s.now } } }) t b 1 0x514 2 ([])) ∧
  (∀ (s : State) (b : Nat) (n : Nat) (k : Nat),
      (s.romUpdate b = true ∨ (s.listens b = true ∧ b < 2)) →
      s.mg.update.any (fun u => u.bind == b && u.eid == n) = false →
      Leads (.updateComponent b n k) s fun t => Answered (s) t b 1 0x514 0x80 ([])) ∧
  (∀ (s : State) (b : Nat) (n : Nat) (k : Nat),
      s.romUpdate b = false →
      (s.listens b = false ∨ 50 ≤ b) →
      Leads (.updateComponent b n k) s fun t => t = s) ∧
  (∀ (s : State) (b : Nat) (n : Nat) (k : Nat),
      s.listens b = true →
      2 ≤ b →
      b < 50 →
      Leads (.updateComponent b n k) s fun t => t = s.bump F_HP_MCTP_DROP_DROP) ∧
  (∀ (s : State) (v : Bool) (u : Update),
      s.mg.update = some u →
      u.comp ≠ 0 →
      u.sent = false →
      s.fld F_TOP_CAL_STATUS_WRITE ≠ 1 →
      Leads (.transferComplete v) s fun t => t = ({ s with mg := { s.mg with update := some { u with sent := v, comp := if v then u.comp else 0 } } } : State).sendMsg u.bind true [1, 0x16, if v then 0 else 1]) ∧
  (∀ (s : State) (v : Bool),
      (s.mg.update.any (fun u => u.comp != 0 && !u.sent) = false ∨ s.fld F_TOP_CAL_STATUS_WRITE = 1) →
      Leads (.transferComplete v) s fun t => t = s) ∧
  (∀ (s : State) (l : List Byte) (k : List Byte) (u : Update),
      s.mg.update = some u →
      u.comp ≠ 0 →
      u.sent = true →
      s.imageFault u.comp (s.imageOf l k) (imageFits u.comp l) = 0 →
      Leads (.verifyComplete l k) s fun t => t = (({ s with mg := { s.mg with update := some { u with comp := 0, sent := false, good := u.good ++ [(u.comp, s.imageOf l k)] } } } : State).sendMsg u.bind true
        [1, 0x17, 0]).sendMsg u.bind true [1, 0x18, 0]) ∧
  (∀ (s : State) (l : List Byte) (k : List Byte) (u : Update),
      s.mg.update = some u →
      u.comp ≠ 0 →
      u.sent = true →
      s.imageFault u.comp (s.imageOf l k) (imageFits u.comp l) ≠ 0 →
      Leads (.verifyComplete l k) s fun t => t = ({ s with mg := { s.mg with update := some { u with comp := 0, sent := false } } } : State).sendMsg u.bind true
        [1, 0x17, BitVec.ofNat 8 (s.imageFault u.comp (s.imageOf l k) (imageFits u.comp l))]) ∧
  (∀ (s : State) (l : List Byte) (k : List Byte),
      s.mg.update.any (fun u => u.comp != 0 && u.sent) = false →
      Leads (.verifyComplete l k) s fun t => t = s) ∧
  (∀ (s : State) (b : Nat) (n : Nat) (u : Update) (k : Nat) (g : Image) (l : List (Nat × Image)),
      (s.romUpdate b = true ∨ (s.listens b = true ∧ b < 2)) →
      s.mg.update = some u →
      u.bind = b →
      u.eid = n →
      u.comp = 0 →
      u.good = (k, g) :: l →
      l.all (fun p => decide (s.inactive p.1 ≠ s.inactive k)) = true →
      Leads (.activateFirmware b n false) s fun t => t.mg = { s.mg with update := none } ∧
        t.slotRec (s.inactive k) = { st := 1, image := g } ∧ t.outbox = (s.respond b 1 0x51A 0 [1]).outbox) ∧
  (∀ (s : State) (b : Nat) (n : Nat) (u : Update),
      (s.romUpdate b = true ∨ (s.listens b = true ∧ b < 2)) →
      s.mg.update = some u →
      u.bind = b →
      u.eid = n →
      (u.comp ≠ 0 ∨ u.good = []) →
      Leads (.activateFirmware b n false) s fun t => Answered ({ s with mg := { s.mg with update := some { u with last := s.now } } }) t b 1 0x51A 0x84 ([])) ∧
  (∀ (s : State) (b : Nat) (n : Nat) (u : Update),
      (s.romUpdate b = true ∨ (s.listens b = true ∧ b < 2)) →
      s.mg.update = some u →
      u.bind = b →
      u.eid = n →
      Leads (.activateFirmware b n true) s fun t => Answered ({ s with mg := { s.mg with update := some { u with last := s.now } } }) t b 1 0x51A 0x8C ([])) ∧
  (∀ (s : State) (b : Nat) (n : Nat) (v : Bool),
      (s.romUpdate b = true ∨ (s.listens b = true ∧ b < 2)) →
      s.mg.update.any (fun u => u.bind == b && u.eid == n) = false →
      Leads (.activateFirmware b n v) s fun t => Answered (s) t b 1 0x51A 0x80 ([])) ∧
  (∀ (s : State) (b : Nat) (n : Nat) (v : Bool),
      s.romUpdate b = false →
      (s.listens b = false ∨ 50 ≤ b) →
      Leads (.activateFirmware b n v) s fun t => t = s) ∧
  (∀ (s : State) (b : Nat) (n : Nat) (v : Bool),
      s.listens b = true →
      2 ≤ b →
      b < 50 →
      Leads (.activateFirmware b n v) s fun t => t = s.bump F_HP_MCTP_DROP_DROP) ∧
  (∀ (s : State) (b : Nat),
      (s.romUpdate b = true ∨ (s.listens b = true ∧ b < 2)) →
      s.mg.update = none →
      Leads (.pldmGetStatus b) s fun t => Answered (s) t b 1 0x51B 0 ([0])) ∧
  (∀ (s : State) (b : Nat) (u : Update),
      (s.romUpdate b = true ∨ (s.listens b = true ∧ b < 2)) →
      s.mg.update = some u →
      Leads (.pldmGetStatus b) s fun t => Answered (s) t b 1 0x51B 0 ([if u.comp = 0 then 1 else if u.sent then 4 else 3])) ∧
  (∀ (s : State) (b : Nat),
      s.romUpdate b = false →
      (s.listens b = false ∨ 50 ≤ b) →
      Leads (.pldmGetStatus b) s fun t => t = s) ∧
  (∀ (s : State) (b : Nat),
      s.listens b = true →
      2 ≤ b →
      b < 50 →
      Leads (.pldmGetStatus b) s fun t => t = s.bump F_HP_MCTP_DROP_DROP) ∧
  (∀ (s : State) (b : Nat) (n : Nat) (u : Update),
      (s.romUpdate b = true ∨ (s.listens b = true ∧ b < 2)) →
      s.mg.update = some u →
      u.bind = b →
      u.eid = n →
      u.comp ≠ 0 →
      Leads (.cancelUpdateComponent b n) s fun t => Answered ({ s with mg := { s.mg with update := some { u with last := s.now, comp := 0, sent := false } } }) t b 1 0x51C 0 ([])) ∧
  (∀ (s : State) (b : Nat) (n : Nat) (u : Update),
      (s.romUpdate b = true ∨ (s.listens b = true ∧ b < 2)) →
      s.mg.update = some u →
      u.bind = b →
      u.eid = n →
      u.comp = 0 →
      Leads (.cancelUpdateComponent b n) s fun t => Answered ({ s with mg := { s.mg with update := some { u with last := s.now } } }) t b 1 0x51C 0x84 ([])) ∧
  (∀ (s : State) (b : Nat) (n : Nat),
      (s.romUpdate b = true ∨ (s.listens b = true ∧ b < 2)) →
      s.mg.update.any (fun u => u.bind == b && u.eid == n) = false →
      Leads (.cancelUpdateComponent b n) s fun t => Answered (s) t b 1 0x51C 0x80 ([])) ∧
  (∀ (s : State) (b : Nat) (n : Nat),
      s.romUpdate b = false →
      (s.listens b = false ∨ 50 ≤ b) →
      Leads (.cancelUpdateComponent b n) s fun t => t = s) ∧
  (∀ (s : State) (b : Nat) (n : Nat),
      s.listens b = true →
      2 ≤ b →
      b < 50 →
      Leads (.cancelUpdateComponent b n) s fun t => t = s.bump F_HP_MCTP_DROP_DROP) ∧
  (∀ (s : State) (b : Nat) (n : Nat) (u : Update),
      (s.romUpdate b = true ∨ (s.listens b = true ∧ b < 2)) →
      s.mg.update = some u →
      u.bind = b →
      u.eid = n →
      Leads (.cancelUpdate b n) s fun t => t.mg = { s.mg with update := none } ∧ (u.comp ≠ 0 → (t.slotRec (s.inactive u.comp)).st = 4) ∧
        (∀ p ∈ u.good, (t.slotRec (s.inactive p.1)).st = 4) ∧
        t.outbox = (s.respond b 1 0x51D 0 []).outbox) ∧
  (∀ (s : State) (b : Nat) (n : Nat),
      (s.romUpdate b = true ∨ (s.listens b = true ∧ b < 2)) →
      s.mg.update.any (fun u => u.bind == b && u.eid == n) = false →
      Leads (.cancelUpdate b n) s fun t => Answered (s) t b 1 0x51D 0x80 ([])) ∧
  (∀ (s : State) (b : Nat) (n : Nat),
      s.romUpdate b = false →
      (s.listens b = false ∨ 50 ≤ b) →
      Leads (.cancelUpdate b n) s fun t => t = s) ∧
  (∀ (s : State) (b : Nat) (n : Nat),
      s.listens b = true →
      2 ≤ b →
      b < 50 →
      Leads (.cancelUpdate b n) s fun t => t = s.bump F_HP_MCTP_DROP_DROP) ∧
  (∀ (s : State) (u : Update),
      s.mg.update = some u →
      u.last + 120000000000 ≤ s.now →
      Leads (.updateIdleTimeout) s fun t => t.mg = { s.mg with update := none } ∧ (u.comp ≠ 0 → (t.slotRec (s.inactive u.comp)).st = 4) ∧
        (∀ p ∈ u.good, (t.slotRec (s.inactive p.1)).st = 4) ∧ t.outbox = s.outbox) ∧
  (∀ (s : State),
      s.mg.update.any (fun u => decide (u.last + 120000000000 ≤ s.now)) = false →
      Leads (.updateIdleTimeout) s fun t => t = s)

/-- In CXL mode with the link up each mailbox command of Table 14.4 is answered once with its data: the event and health records are free
values, the event interrupt policy is kept as set, the one log is the Command Effects Log, the poison list holds the poisoned sectors of the
window part asked for; a log number or log that the device has not is refused with return code 2. Otherwise, outside CXL mode, nothing
changes. (R463, R458, 14_host_port_and_management.md) -/
def Obligations.CxlMailboxAnswers : Prop :=
  (∀ (s : State) (n : Nat),
      s.listens 65 = true →
      n < 4 →
      Leads (.getEventRecords n) s fun t => t = { { s with fresh := s.fresh + 1 } with outbox := s.outbox ++ [Msg.mgmt 65 0x100 0 (Config.cxlInfo 0x100 s.fresh)] }) ∧
  (∀ (s : State) (n : Nat),
      s.listens 65 = true →
      4 ≤ n →
      Leads (.getEventRecords n) s fun t => t = { s with outbox := s.outbox ++ [Msg.mgmt 65 0x100 2 ([])] }) ∧
  (∀ (s : State) (n : Nat),
      s.listens 65 = false →
      Leads (.getEventRecords n) s fun t => t = s) ∧
  (∀ (s : State) (n : Nat),
      s.listens 65 = true →
      n < 4 →
      Leads (.clearEventRecords n) s fun t => t = { s with outbox := s.outbox ++ [Msg.mgmt 65 0x101 0 ([])] }) ∧
  (∀ (s : State) (n : Nat),
      s.listens 65 = true →
      4 ≤ n →
      Leads (.clearEventRecords n) s fun t => t = { s with outbox := s.outbox ++ [Msg.mgmt 65 0x101 2 ([])] }) ∧
  (∀ (s : State) (n : Nat),
      s.listens 65 = false →
      Leads (.clearEventRecords n) s fun t => t = s) ∧
  (∀ (s : State),
      s.listens 65 = true →
      Leads (.getEventInterruptPolicy) s fun t => t = { s with outbox := s.outbox ++ [Msg.mgmt 65 0x102 0 (leBytes 4 s.mg.cxlPolicy)] }) ∧
  (∀ (s : State),
      s.listens 65 = false →
      Leads (.getEventInterruptPolicy) s fun t => t = s) ∧
  (∀ (s : State) (n : Nat),
      s.listens 65 = true →
      Leads (.setEventInterruptPolicy n) s fun t => t = { { s with mg := { s.mg with cxlPolicy := n % 2 ^ 32 } } with outbox := s.outbox ++ [Msg.mgmt 65 0x103 0 ([])] }) ∧
  (∀ (s : State) (n : Nat),
      s.listens 65 = false →
      Leads (.setEventInterruptPolicy n) s fun t => t = s) ∧
  (∀ (s : State),
      s.listens 65 = true →
      Leads (.getSupportedLogs) s fun t => t = { s with outbox := s.outbox ++ [Msg.mgmt 65 0x400 0 ([1, 0])] }) ∧
  (∀ (s : State),
      s.listens 65 = false →
      Leads (.getSupportedLogs) s fun t => t = s) ∧
  (∀ (s : State),
      s.listens 65 = true →
      Leads (.getLog true) s fun t => t = { s with outbox := s.outbox ++ [Msg.mgmt 65 0x401 0 ((cxlOpcodes.map (fun o => leBytes 2 o)).flatten)] }) ∧
  (∀ (s : State),
      s.listens 65 = true →
      Leads (.getLog false) s fun t => t = { s with outbox := s.outbox ++ [Msg.mgmt 65 0x401 2 ([])] }) ∧
  (∀ (s : State) (v : Bool),
      s.listens 65 = false →
      Leads (.getLog v) s fun t => t = s) ∧
  (∀ (s : State),
      s.listens 65 = true →
      Leads (.getTimestamp) s fun t => t = { s with outbox := s.outbox ++ [Msg.mgmt 65 0x300 0 (leBytes 8 s.now)] }) ∧
  (∀ (s : State),
      s.listens 65 = false →
      Leads (.getTimestamp) s fun t => t = s) ∧
  (∀ (s : State),
      s.listens 65 = true →
      Leads (.identifyMemoryDevice) s fun t => t = { s with outbox := s.outbox ++ [Msg.mgmt 65 0x4000 0 (leBytes 8 4096 ++ leBytes 8 4096 ++ leBytes 8 0)] }) ∧
  (∀ (s : State),
      s.listens 65 = false →
      Leads (.identifyMemoryDevice) s fun t => t = s) ∧
  (∀ (s : State),
      s.listens 65 = true →
      Leads (.getPartitionInfo) s fun t => t = { s with outbox := s.outbox ++ [Msg.mgmt 65 0x4100 0 (leBytes 8 4096 ++ leBytes 8 0)] }) ∧
  (∀ (s : State),
      s.listens 65 = false →
      Leads (.getPartitionInfo) s fun t => t = s) ∧
  (∀ (s : State),
      s.listens 65 = true →
      Leads (.getHealthInfo) s fun t => t = { { s with fresh := s.fresh + 1 } with outbox := s.outbox ++ [Msg.mgmt 65 0x4200 0 (Config.cxlInfo 0x4200 s.fresh)] }) ∧
  (∀ (s : State),
      s.listens 65 = false →
      Leads (.getHealthInfo) s fun t => t = s) ∧
  (∀ (s : State) (n : Nat) (k : Nat) (l : List Nat),
      s.listens 65 = true →
      s.cxlPoison.filter (fun c => decide (n ≤ c) && decide (c < n + k)) = l →
      Leads (.getPoisonList n k) s fun t =>
        t = { s with outbox := s.outbox ++ [Msg.mgmt 65 0x4300 0 (leBytes 2 l.length ++ (l.map (fun c => leBytes 8 c)).flatten)] }) ∧
  (∀ (s : State) (n : Nat) (k : Nat),
      s.listens 65 = false →
      Leads (.getPoisonList n k) s fun t => t = s)

/-- In every loop that regulates, a control sample filters the 64 bits of the modulator, reads the output, moves the setpoint a slew step
and sums the currents of the active phases; in another loop it only reads the output. A phase that fails eight samples, has overcurrent, a
short or FAULT_N low is shed with its diagnosis, alert and count; a loop that fails a check faults with its cause, its phases go to
mid-level, or low on OV; loops 0, 2 and 7 hold the device, the others keep it running, and in a power-up run the run ends. A loop in band
enters REG, and a run goes on to its next loop or ends. Each changes nothing without its condition. (R616, R617, R621, R630, R633, R634,
R635, R636, R637, R638, R653, R683) -/
def Obligations.ControlSampleAndFaults : Prop :=
  (∀ (s : State) (k : Nat) (b : List Bool) (ph : List Int),
      k < 8 →
      (s.loopSt k = 1 ∨ s.loopSt k = 2) →
      Leads (.controlSample k b ph) s fun t => t.fld F_PW_L_VOUT_VOUT k = clamp 0 8191 (((s.loop k).sense b).sample (s.fld F_PW_L_CFG_MINPHASE k == 1) * 4000 / 2 ^ 20).toNat % 2 ^ F_PW_L_VOUT_VOUT.wid ∧
        t.fld F_PW_L_VOUT_VCMD k = slewTo (s.loop k).sp (4 * s.target k) (if (s.loop k).bootRamp then 20 else max 1 (s.fld F_PW_L_SLEW_SLEW k)) / 4 % 2 ^ F_PW_L_VOUT_VCMD.wid ∧
        t.fld F_PW_L_IOUT_IOUT k = signedCode 16 ((((s.usable k).filter (fun p => s.phaseSt p == 0)).map (fun p =>
        (s.pw.cal.phases.getD p {}).current (ph.getD (p - (phasesOf k).headD 0) 0))).foldl (· + ·) 0) ∧
        (t.loop k).bits = ((s.loop k).sense b).bits ∧ t.loopSt k = s.loopSt k ∧ t.mem = s.mem ∧ t.q = s.q) ∧
  (∀ (s : State) (k : Nat) (b : List Bool) (ph : List Int),
      k < 8 →
      s.loopSt k ≠ 1 →
      s.loopSt k ≠ 2 →
      Leads (.controlSample k b ph) s fun t => t = (s.setLoop k ((s.loop k).sense b)).setFld F_PW_L_VOUT_VOUT (clamp 0 8191 (((s.loop k).sense b).sample (s.fld F_PW_L_CFG_MINPHASE k == 1) * 4000 / 2 ^ 20).toNat) k) ∧
  (∀ (s : State) (k : Nat) (b : List Bool) (ph : List Int),
      8 ≤ k →
      Leads (.controlSample k b ph) s fun t => t = s) ∧
  (∀ (s : State) (p : Nat),
      p < 40 →
      s.phaseSt p < 2 →
      8 ≤ (s.phase p).fails →
      Leads (.phaseShed p) s fun t => t.phaseSt p = 2 ∧ t.fld F_PW_P_STATUS_DIAG (8 + p) = (if 8 ≤ (s.phase p).wins then 1 else if 8 ≤ (s.phase p).opens then 2 else 3) ∧ (t.phase p).en = false ∧ (t.phase p).pwm = 0 ∧
        bit (t.fld F_PW_ALERT_ALERT) 1 = true) ∧
  (∀ (s : State) (p : Nat),
      (40 ≤ p ∨ 2 ≤ s.phaseSt p ∨ (s.phase p).fails < 8) →
      Leads (.phaseShed p) s fun t => t = s) ∧
  (∀ (s : State) (p : Nat) (v : Bool),
      p < 40 →
      s.phaseSt p < 2 →
      (v = true ∨ 2 ≤ (s.phase p).short ∨ 2 ≤ (s.phase p).oc) →
      Leads (.stageFault p v) s fun t => t.phaseSt p = 2 ∧ t.fld F_PW_P_STATUS_DIAG (8 + p) = (if v = true then 5 else if 2 ≤ (s.phase p).short then 4 else 6) ∧ (t.phase p).en = false ∧ (t.phase p).pwm = 0 ∧
        bit (t.fld F_PW_ALERT_ALERT) 1 = true) ∧
  (∀ (s : State) (p : Nat) (v : Bool),
      (40 ≤ p ∨ 2 ≤ s.phaseSt p ∨ (v = false ∧ (s.phase p).short < 2 ∧ (s.phase p).oc < 2)) →
      Leads (.stageFault p v) s fun t => t = s) ∧
  (∀ (s : State) (k : Nat) (unf : List Nat),
      k < 8 →
      (s.loopSt k = 1 ∨ s.loopSt k = 2) →
      8 ≤ (s.loop k).plaus →
      Leads (.plausLoop k unf) s fun t => t.fld F_PW_L_STATUS_CAUSE k = 4 ∧ bit (t.fld F_PW_ALERT_ALERT) 0 = true ∧
        t.loopSt k = (if s.pw.run = none ∧ (k = 0 ∨ k = 2 ∨ k = 7) then 0 else 3) ∧ (s.pw.run = none ∧ (k = 0 ∨ k = 2 ∨ k = 7) → t.ck.power = 3) ∧
        (s.pw.run ≠ none → t.pw.run = none ∧ t.pw.failed = s.pw.failed + 1) ∧ ∀ p ∈ phasesOf k, (t.phase p).pwm = 0 ∧ (t.phase p).en = false) ∧
  (∀ (s : State) (k : Nat) (unf : List Nat),
      (8 ≤ k ∨ (s.loopSt k ≠ 1 ∧ s.loopSt k ≠ 2) ∨ (s.loop k).plaus < 8) →
      Leads (.plausLoop k unf) s fun t => t = s) ∧
  (∀ (s : State) (k : Nat) (unf : List Nat),
      k < 8 →
      (s.loopSt k = 1 ∨ s.loopSt k = 2) →
      (s.loop k).follow.any (fun z => decide (z + 1000 * s.fld F_PW_L_FOLLOW_TIME k ≤ s.now)) = true →
      Leads (.follow k unf) s fun t => t.fld F_PW_L_STATUS_CAUSE k = 3 ∧ bit (t.fld F_PW_ALERT_ALERT) 0 = true ∧
        t.loopSt k = (if s.pw.run = none ∧ (k = 0 ∨ k = 2 ∨ k = 7) then 0 else 3) ∧ (s.pw.run = none ∧ (k = 0 ∨ k = 2 ∨ k = 7) → t.ck.power = 3) ∧
        (s.pw.run ≠ none → t.pw.run = none ∧ t.pw.failed = s.pw.failed + 1) ∧ ∀ p ∈ phasesOf k, (t.phase p).pwm = 0 ∧ (t.phase p).en = false) ∧
  (∀ (s : State) (k : Nat) (unf : List Nat),
      (8 ≤ k ∨ (s.loopSt k ≠ 1 ∧ s.loopSt k ≠ 2) ∨ (s.loop k).follow.any (fun z => decide (z + 1000 * s.fld F_PW_L_FOLLOW_TIME k ≤ s.now)) = false) →
      Leads (.follow k unf) s fun t => t = s) ∧
  (∀ (s : State) (k : Nat) (unf : List Nat),
      k < 8 →
      (s.loopSt k = 1 ∨ s.loopSt k = 2) →
      (2 ≤ (s.loop k).ov ∨ 2 ≤ (s.loop k).uv) →
      Leads (.ovUv k unf) s fun t => t.fld F_PW_L_STATUS_CAUSE k = (if 2 ≤ (s.loop k).ov then 1 else 2) ∧ bit (t.fld F_PW_ALERT_ALERT) 0 = true ∧
        t.loopSt k = (if s.pw.run = none ∧ (k = 0 ∨ k = 2 ∨ k = 7) then 0 else 3) ∧ (s.pw.run = none ∧ (k = 0 ∨ k = 2 ∨ k = 7) → t.ck.power = 3) ∧
        (s.pw.run ≠ none → t.pw.run = none ∧ t.pw.failed = s.pw.failed + 1) ∧ ∀ p ∈ phasesOf k,
        if 2 ≤ (s.loop k).ov ∧ s.phaseSt p < 2 then (t.phase p).pwm = 2 ∧ (t.phase p).en = true else (t.phase p).pwm = 0 ∧ (t.phase p).en = false) ∧
  (∀ (s : State) (k : Nat) (unf : List Nat),
      (8 ≤ k ∨ (s.loopSt k ≠ 1 ∧ s.loopSt k ≠ 2) ∨ ((s.loop k).ov < 2 ∧ (s.loop k).uv < 2)) →
      Leads (.ovUv k unf) s fun t => t = s) ∧
  (∀ (s : State) (k : Nat) (unf : List Nat),
      k < 8 →
      (s.loopSt k = 1 ∨ s.loopSt k = 2) →
      (s.loop k).above.any (fun z => decide (z + 100000 ≤ s.now)) = true →
      Leads (.capacity k unf) s fun t => t.fld F_PW_L_STATUS_CAUSE k = 5 ∧ bit (t.fld F_PW_ALERT_ALERT) 0 = true ∧
        t.loopSt k = (if s.pw.run = none ∧ (k = 0 ∨ k = 2 ∨ k = 7) then 0 else 3) ∧ (s.pw.run = none ∧ (k = 0 ∨ k = 2 ∨ k = 7) → t.ck.power = 3) ∧
        (s.pw.run ≠ none → t.pw.run = none ∧ t.pw.failed = s.pw.failed + 1) ∧ ∀ p ∈ phasesOf k, (t.phase p).pwm = 0 ∧ (t.phase p).en = false) ∧
  (∀ (s : State) (k : Nat) (unf : List Nat),
      (8 ≤ k ∨ (s.loopSt k ≠ 1 ∧ s.loopSt k ≠ 2) ∨ (s.loop k).above.any (fun z => decide (z + 100000 ≤ s.now)) = false) →
      Leads (.capacity k unf) s fun t => t = s) ∧
  (∀ (s : State) (k : Nat) (l : List Int) (n : Nat),
      k < 8 →
      s.loopSt k = 1 →
      s.inBand k l = true →
      s.pw.run.map (powerOrder.getD · 0) ≠ some k →
      Leads (.rampToReg k l n) s fun t => t.loopSt k = 2 ∧ (t.loop k).bootRamp = false ∧ t.pw.run = s.pw.run ∧
        ∀ j, j < 8 → j ≠ k → t.loopSt j = s.loopSt j) ∧
  (∀ (s : State) (k : Nat) (l : List Int) (n : Nat) (i : Nat),
      k < 8 →
      s.loopSt k = 1 →
      s.inBand k l = true →
      s.pw.run = some i →
      i < 7 →
      powerOrder.getD i 0 = k →
      Leads (.rampToReg k l n) s fun t => t.loopSt k = 2 ∧ t.pw.run = some (i + 1) ∧ t.loopSt (powerOrder.getD (i + 1) 0) = 1 ∧
        (t.loop (powerOrder.getD (i + 1) 0)).sp = 4 * n ∧ (t.loop (powerOrder.getD (i + 1) 0)).bootRamp = true) ∧
  (∀ (s : State) (l : List Int) (n : Nat),
      s.loopSt 1 = 1 →
      s.inBand 1 l = true →
      s.pw.run = some 7 →
      Leads (.rampToReg 1 l n) s fun t => t.loopSt 1 = 2 ∧ t.pw.run = none ∧ t.pw.failed = 0) ∧
  (∀ (s : State) (k : Nat) (l : List Int) (n : Nat),
      (8 ≤ k ∨ s.loopSt k ≠ 1 ∨ s.inBand k l = false) →
      Leads (.rampToReg k l n) s fun t => t = s)

/-- Every 10 µs the models give each phase and loop its temperatures and each loop its capacity, and a loop at TRIP stops. The clock cap
steps down with its alert while loop 1 is hot, up once it is cool, and stays between. TMON, VIN and thermistors read as converted: a
thermistor that is not fitted reads 0, one that is open keeps its temperature, is alerted, and after 1 s counts as 85 °C. A VSET input
becomes valid with four good periods, counts the clamped ones and gives its loops their setpoint, and becomes invalid with an alert; the DCR
estimate is the mean of 64 measurements at 25 °C, and its warning and that of the gain set as measured. Each changes nothing without its
condition. (R619, R620, R631, R632, R639, R640, R641, R642, R645, R646, R737, 19_rail_controller.md) -/
def Obligations.RailSensorsTakeEffect : Prop :=
  (∀ (s : State) (unf : List Nat) (k : Nat) (p : Nat),
      k < 8 →
      p < 40 →
      Leads (.loadModelUpdate unf) s fun t => t.fld F_PW_L_TEMP_HOT k = signedCode 12 (s.hotOf k) ∧
        t.fld F_PW_P_TEMP_TS (8 + p) = signedCode 12 (s.nodesOf p).1 ∧ t.fld F_PW_P_TEMP_TL (8 + p) = signedCode 12 (s.nodesOf p).2 ∧
        t.fld F_PW_L_IOUT_CAP k = min (((s.usable k).map (fun p => min (s.fld F_PW_P_ILIM_ILIM (8 + p)) (s.thermCurrent p))).foldl (· + ·) 0) 65535 ∧
        (t.phase p).squares = 0 ∧ ((s.phase p).pwm = 2 → (t.phase p).pwm = 0 ∧ (t.phase p).en = false) ∧
        (signedOf 12 (s.fld F_PW_L_HOT_TRIP k) ≤ signedOf 12 (t.fld F_PW_L_TEMP_HOT k) → t.loopSt k ≠ 1 ∧ t.loopSt k ≠ 2)) ∧
  (∀ (s : State),
      (signedOf 12 (s.fld F_PW_L_HOT_WARN 1) ≤ signedOf 12 (s.fld F_PW_L_TEMP_HOT 1) ∨ (phasesOf 1).any (fun p => decide (920 ≤ s.stageTemp p)) = true) →
      Leads (.thermCapStep) s fun t => bit (t.fld F_PW_ALERT_ALERT) 4 = true ∧
        t.fld F_CK_THERM_CAP_MHZ = (if max 600 (s.fld F_CK_THERM_CAP_MHZ - 50) < s.fld F_CK_THERM_CAP_MHZ then max 600 (s.fld F_CK_THERM_CAP_MHZ - 50) % 2 ^ F_CK_THERM_CAP_MHZ.wid else s.fld F_CK_THERM_CAP_MHZ)) ∧
  (∀ (s : State),
      signedOf 12 (s.fld F_PW_L_TEMP_HOT 1) + 40 ≤ signedOf 12 (s.fld F_PW_L_HOT_WARN 1) →
      (phasesOf 1).all (fun p => decide (s.stageTemp p + 40 ≤ 920)) = true →
      Leads (.thermCapStep) s fun t => t = s.setFld F_CK_THERM_CAP_MHZ (min (if s.fld F_PW_STATUS_CAL_INVALID = 1 then 900 else 1250) (s.fld F_CK_THERM_CAP_MHZ + 50))) ∧
  (∀ (s : State),
      signedOf 12 (s.fld F_PW_L_TEMP_HOT 1) < signedOf 12 (s.fld F_PW_L_HOT_WARN 1) →
      (phasesOf 1).all (fun p => decide (s.stageTemp p < 920)) = true →
      (signedOf 12 (s.fld F_PW_L_HOT_WARN 1) < signedOf 12 (s.fld F_PW_L_TEMP_HOT 1) + 40 ∨ (phasesOf 1).any (fun p => decide (920 < s.stageTemp p + 40)) = true) →
      Leads (.thermCapStep) s fun t => t = s) ∧
  (∀ (s : State) (p : Nat) (v : Nat),
      p < 40 →
      200 ≤ v →
      v ≤ 2000 →
      Leads (.tmonRead p v) s fun t => t.fld F_PW_P_STATUS_TMON_OPEN (8 + p) = 0 ∧
        (t.phase p).tmon = ((v : Int) - (s.pw.cal.phases.getD p {}).tmonOff) * 80 / (max 1 (s.pw.cal.phases.getD p {}).tmonGain : Int)) ∧
  (∀ (s : State) (p : Nat) (v : Nat),
      p < 40 →
      (v < 200 ∨ 2000 < v) →
      Leads (.tmonRead p v) s fun t => t.fld F_PW_P_STATUS_TMON_OPEN (8 + p) = 1 ∧ (t.phase p).tmon = (s.phase p).tmon) ∧
  (∀ (s : State) (p : Nat) (v : Nat),
      40 ≤ p →
      Leads (.tmonRead p v) s fun t => t = s) ∧
  (∀ (s : State) (v : Nat),
      Leads (.vinRead v) s fun t => t = s.setFld F_PW_VIN_VIN (min 65535 (10 * v))) ∧
  (∀ (s : State) (n : Nat) (v : Nat) (r : Nat),
      n < 8 →
      (s.pw.calBoard.therm.getD n (false, 0, 0)).1 = true →
      2 * r ≤ 15 * (s.pw.calBoard.therm.getD n (false, 0, 0)).2.1 →
      12000 ≤ v →
      Leads (.thermistorConversion n v r) s fun t => t.fld F_PW_T_STATUS_OPEN (48 + n) = 0 ∧ t.fld F_PW_T_STATUS_STALE (48 + n) = 0 ∧
        t.fld F_PW_T_STATUS_TEMP (48 + n) = signedCode 12 (Config.thermTemp (s.pw.calBoard.therm.getD n (false, 0, 0)).2.1 (s.pw.calBoard.therm.getD n (false, 0, 0)).2.2 ((s.pw.calBoard.therm.getD n (false, 0, 0)).2.1 * v / (1200000 - v))) ∧
        inSet t.pw.subst n = false ∧ kvGet 0 t.pw.opened n = 0) ∧
  (∀ (s : State) (n : Nat) (v : Nat) (r : Nat),
      n < 8 →
      (s.pw.calBoard.therm.getD n (false, 0, 0)).1 = true →
      (15 * (s.pw.calBoard.therm.getD n (false, 0, 0)).2.1 < 2 * r ∨ v < 12000) →
      s.fld F_PW_T_STATUS_OPEN (48 + n) ≠ 1 →
      Leads (.thermistorConversion n v r) s fun t => t.fld F_PW_T_STATUS_OPEN (48 + n) = 1 ∧ t.fld F_PW_T_STATUS_STALE (48 + n) = 1 ∧
        t.fld F_PW_T_STATUS_TEMP (48 + n) = s.fld F_PW_T_STATUS_TEMP (48 + n) ∧ kvGet 0 t.pw.opened n = s.now ∧ bit (t.fld F_PW_ALERT_ALERT) 5 = true) ∧
  (∀ (s : State) (n : Nat) (v : Nat) (r : Nat),
      n < 8 →
      (s.pw.calBoard.therm.getD n (false, 0, 0)).1 = true →
      (15 * (s.pw.calBoard.therm.getD n (false, 0, 0)).2.1 < 2 * r ∨ v < 12000) →
      s.fld F_PW_T_STATUS_OPEN (48 + n) = 1 →
      Leads (.thermistorConversion n v r) s fun t => t = (s.setFld F_PW_T_STATUS_OPEN 1 (48 + n)).setFld F_PW_T_STATUS_STALE 1 (48 + n)) ∧
  (∀ (s : State) (n : Nat) (v : Nat) (r : Nat),
      n < 8 →
      (s.pw.calBoard.therm.getD n (false, 0, 0)).1 = false →
      Leads (.thermistorConversion n v r) s fun t => t.fld F_PW_T_STATUS_TEMP (48 + n) = 0 ∧ t.fld F_PW_T_STATUS_OPEN (48 + n) = 0 ∧
        t.fld F_PW_T_STATUS_STALE (48 + n) = 0 ∧ t.pw = s.pw) ∧
  (∀ (s : State) (n : Nat) (v : Nat) (r : Nat),
      8 ≤ n →
      Leads (.thermistorConversion n v r) s fun t => t = s) ∧
  (∀ (s : State) (n : Nat),
      n < 8 →
      s.fld F_PW_T_STATUS_OPEN (48 + n) = 1 →
      kvGet 0 s.pw.opened n + 1000000000 ≤ s.now →
      Leads (.thermistorOpenTimeout n) s fun t => inSet t.pw.subst n = true ∧ t.regs = s.regs ∧
        (∀ k, k < 8 → s.fld F_PW_L_CFG_THERM k = n → t.boardTemp k = 680)) ∧
  (∀ (s : State) (n : Nat),
      (8 ≤ n ∨ s.fld F_PW_T_STATUS_OPEN (48 + n) ≠ 1 ∨ s.now < kvGet 0 s.pw.opened n + 1000000000) →
      Leads (.thermistorOpenTimeout n) s fun t => t = s) ∧
  (∀ (s : State) (n : Nat),
      n < 4 →
      (kvGet {} s.pw.vset n).valid = true →
      Leads (.vsetInvalid n) s fun t => (kvGet {} t.pw.vset n).valid = false ∧
        (∀ k, k < 8 → s.fld F_PW_L_CFG_SRC k = 1 → s.fld F_PW_L_CFG_VSEL k = n → t.fld F_PW_L_STATUS_VSET_VALID k = 0 ∧ (t.loop k).held = (s.loop k).held ∧ bit (t.fld F_PW_ALERT_ALERT) 3 = true)) ∧
  (∀ (s : State) (n : Nat),
      (4 ≤ n ∨ (kvGet {} s.pw.vset n).valid = false) →
      Leads (.vsetInvalid n) s fun t => t = s) ∧
  (∀ (s : State) (n : Nat) (ps : List (Nat × Nat)) (d : Nat),
      n < 4 →
      vsetDuty ps = some d →
      Leads (.vsetPwmValid n ps) s fun t => kvGet {} t.pw.vset n = { valid := true, duty := d } ∧
        t.fld F_PW_VSET_CLAMP_CLAMP = min (s.fld F_PW_VSET_CLAMP_CLAMP + (ps.filter (fun p => decide (p.2 * 10 < p.1) || decide (9 * p.1 < p.2 * 10))).length) (2 ^ F_PW_VSET_CLAMP_CLAMP.wid - 1) ∧
        (∀ k, k < 8 → s.fld F_PW_L_CFG_SRC k = 1 → s.fld F_PW_L_CFG_VSEL k = n → t.fld F_PW_L_STATUS_VSET_VALID k = 1 ∧ (t.loop k).held = vsetMap k d)) ∧
  (∀ (s : State) (n : Nat) (ps : List (Nat × Nat)),
      (4 ≤ n ∨ vsetDuty ps = none) →
      Leads (.vsetPwmValid n ps) s fun t => t = s) ∧
  (∀ (s : State) (p : Nat) (v : Nat) (l : List Nat),
      p < 40 →
      (dcrAt25 v (signedOf 12 (s.fld F_PW_P_TEMP_TL (8 + p))) :: (s.phase p).dcrs).take 64 = l →
      l.length = 64 →
      Leads (.dcrMeasure p v) s fun t => (t.phase p).dcrs = l ∧ t.fld F_PW_P_DCR_DCR (8 + p) = min (l.foldl (· + ·) 0 / l.length) 65535 ∧
        t.fld F_PW_P_STATUS_DCR_WARN (8 + p) = (if s.fld F_PW_DIAG_DCR * s.fld F_PW_P_DCR_CAL (8 + p) < 100 * (s.fld F_PW_P_DCR_CAL (8 + p) - (l.foldl (· + ·) 0 / l.length) + ((l.foldl (· + ·) 0 / l.length) - s.fld F_PW_P_DCR_CAL (8 + p))) then 1 else 0)) ∧
  (∀ (s : State) (p : Nat) (v : Nat) (l : List Nat),
      p < 40 →
      (dcrAt25 v (signedOf 12 (s.fld F_PW_P_TEMP_TL (8 + p))) :: (s.phase p).dcrs).take 64 = l →
      l.length < 64 →
      Leads (.dcrMeasure p v) s fun t => (t.phase p).dcrs = l ∧ t.fld F_PW_P_DCR_DCR (8 + p) = min (l.foldl (· + ·) 0 / l.length) 65535 ∧
        t.fld F_PW_P_STATUS_DCR_WARN (8 + p) = s.fld F_PW_P_STATUS_DCR_WARN (8 + p)) ∧
  (∀ (s : State) (p : Nat) (v : Nat),
      40 ≤ p →
      Leads (.dcrMeasure p v) s fun t => t = s) ∧
  (∀ (s : State) (p : Nat),
      p < 40 →
      s.phaseSt p = 0 →
      (s.fld F_PW_DIAG_GAIN : Int) * ((s.loop (loopOf p)).u.headD {}).m * 2 ^ 20 < 100 * (magnitude (s.phase p).trim : Int) * 2 ^ ((s.loop (loopOf p)).u.headD {}).s →
      Leads (.gainWarn p) s fun t => t.fld F_PW_P_STATUS_GAIN_WARN (8 + p) = 1 ∧ t.pw = s.pw ∧
        (s.fld F_PW_P_STATUS_GAIN_WARN (8 + p) ≠ 1 → bit (t.fld F_PW_ALERT_ALERT) 2 = true)) ∧
  (∀ (s : State) (p : Nat),
      (40 ≤ p ∨ s.phaseSt p ≠ 0 ∨ 100 * (magnitude (s.phase p).trim : Int) * 2 ^ ((s.loop (loopOf p)).u.headD {}).s ≤ (s.fld F_PW_DIAG_GAIN : Int) * ((s.loop (loopOf p)).u.headD {}).m * 2 ^ 20) →
      Leads (.gainWarn p) s fun t => t = s)

/-- START, STOP, CLEAR and REINSTATE written by a port that may act in the states that R625 to R628 and R647 name, and LAST says how they
ended, as it says why they did not; a write of another port is counted, and one that nothing answers changes only its stage. A power-up run
that is due starts with its first loop once PWR_FAULT_N is high and every die is below 100 °C, ends on a timeout with its loops off, and
repeats at most twice. PWR_FAULT_N low holds every loop with its cause, and RETRY of the BMC port after its release makes a run due. (R625,
R626, R627, R628, R630, R632, R647, R649, R650, R680, R682, R683) -/
def Obligations.RailCommandsComplete : Prop :=
  (∀ (s : State) (p : Port) (k : Nat) (v : Nat) (l : List (Nat × Nat)),
      s.answers p (bar0 19 0x1008) = true →
      (pfOrFw p || p == .bmc) = true →
      k < 8 →
      s.loopSt k = 0 →
      ¬(s.fld F_PW_L_CFG_ORDER k = 0 ∧ (s.fld (F_PW_L_B0_COEF.at 3) k ≠ 0 ∨ s.fld (F_PW_L_B0_COEF.at 6) k ≠ 0)) →
      ¬(s.fld F_PW_L_CFG_SRC k = 1 ∧ (kvGet {} s.pw.vset (s.fld F_PW_L_CFG_VSEL k)).valid = false) →
      Leads (.loopStart p k v l) s fun t => t.loopSt k = 1 ∧ t.fld F_PW_L_STATUS_CAUSE k = 0 ∧ t.fld F_PW_L_STATUS_LAST k = 0 ∧
        t.fld F_PW_L_VOUT_VCMD k = v % 2 ^ F_PW_L_VOUT_VCMD.wid ∧ (t.loop k).sp = 4 * v ∧ (t.loop k).bootRamp = false ∧
        (∀ q ∈ phasesOf k, (s.phase q).back = true → l.any (fun b => b.1 == q) = true → s.phaseSt q < 2 → t.phaseSt q = 2) ∧
        (∀ j, j < 8 → j ≠ k → t.loopSt j = s.loopSt j)) ∧
  (∀ (s : State) (p : Port) (k : Nat) (v : Nat) (l : List (Nat × Nat)),
      s.answers p (bar0 19 0x1008) = true →
      (pfOrFw p || p == .bmc) = true →
      k < 8 →
      s.loopSt k ≠ 0 →
      Leads (.loopStart p k v l) s fun t => t = (s.dropStage p).setFld F_PW_L_STATUS_LAST 1 k) ∧
  (∀ (s : State) (p : Port) (k : Nat) (v : Nat) (l : List (Nat × Nat)),
      s.answers p (bar0 19 0x1008) = true →
      (pfOrFw p || p == .bmc) = true →
      k < 8 →
      s.loopSt k = 0 →
      (s.fld F_PW_L_CFG_ORDER k = 0 ∧ (s.fld (F_PW_L_B0_COEF.at 3) k ≠ 0 ∨ s.fld (F_PW_L_B0_COEF.at 6) k ≠ 0)) →
      Leads (.loopStart p k v l) s fun t => t = (s.dropStage p).setFld F_PW_L_STATUS_LAST 3 k) ∧
  (∀ (s : State) (p : Port) (k : Nat) (v : Nat) (l : List (Nat × Nat)),
      s.answers p (bar0 19 0x1008) = true →
      (pfOrFw p || p == .bmc) = true →
      k < 8 →
      s.loopSt k = 0 →
      ¬(s.fld F_PW_L_CFG_ORDER k = 0 ∧ (s.fld (F_PW_L_B0_COEF.at 3) k ≠ 0 ∨ s.fld (F_PW_L_B0_COEF.at 6) k ≠ 0)) →
      (s.fld F_PW_L_CFG_SRC k = 1 ∧ (kvGet {} s.pw.vset (s.fld F_PW_L_CFG_VSEL k)).valid = false) →
      Leads (.loopStart p k v l) s fun t => t = (s.dropStage p).setFld F_PW_L_STATUS_LAST 4 k) ∧
  (∀ (s : State) (p : Port) (k : Nat) (v : Nat) (l : List (Nat × Nat)),
      s.answers p (bar0 19 0x1008) = true →
      (pfOrFw p || p == .bmc) = true →
      8 ≤ k →
      Leads (.loopStart p k v l) s fun t => t = s.dropStage p) ∧
  (∀ (s : State) (p : Port) (k : Nat) (v : Nat) (l : List (Nat × Nat)),
      s.answers p (bar0 19 0x1008) = true →
      pfOrFw p = false →
      p ≠ .bmc →
      Leads (.loopStart p k v l) s fun t => t.pw = s.pw ∧ t.fld F_TOP_BAD_ACCESS_ADDR_OFFSET = bar0 19 0x1008 ∧ (∀ j, j < 8 → t.loopSt j = s.loopSt j)) ∧
  (∀ (s : State) (p : Port) (k : Nat) (v : Nat) (l : List (Nat × Nat)),
      s.answers p (bar0 19 0x1008) = false →
      Leads (.loopStart p k v l) s fun t => t = s.dropStage p) ∧
  (∀ (s : State) (p : Port) (k : Nat),
      s.answers p (bar0 19 0x1008) = true →
      (pfOrFw p || p == .bmc) = true →
      k < 8 →
      (s.loopSt k = 1 ∨ s.loopSt k = 2) →
      k ≠ 0 →
      k ≠ 2 →
      k ≠ 7 →
      s.loopInUse k = false →
      Leads (.loopStop p k) s fun t => t.loopSt k = 0 ∧ t.fld F_PW_L_STATUS_LAST k = 0 ∧ t.fld F_PW_L_STATUS_ACTIVE k = 0 ∧ t.fld F_PW_L_VOUT_VCMD k = 0 ∧
        (∀ q ∈ phasesOf k, (t.phase q).en = false ∧ (t.phase q).pwm = 0) ∧ (∀ j, j < 8 → j ≠ k → t.loopSt j = s.loopSt j)) ∧
  (∀ (s : State) (p : Port) (k : Nat),
      s.answers p (bar0 19 0x1008) = true →
      (pfOrFw p || p == .bmc) = true →
      k < 8 →
      (s.loopSt k = 1 ∨ s.loopSt k = 2) →
      k ≠ 0 →
      k ≠ 2 →
      k ≠ 7 →
      s.loopInUse k = true →
      Leads (.loopStop p k) s fun t => t = (s.dropStage p).setFld F_PW_L_STATUS_LAST 2 k) ∧
  (∀ (s : State) (p : Port) (k : Nat),
      s.answers p (bar0 19 0x1008) = true →
      (pfOrFw p || p == .bmc) = true →
      k < 8 →
      (k = 0 ∨ k = 2 ∨ k = 7 ∨ (s.loopSt k ≠ 1 ∧ s.loopSt k ≠ 2)) →
      Leads (.loopStop p k) s fun t => t = (s.dropStage p).setFld F_PW_L_STATUS_LAST 1 k) ∧
  (∀ (s : State) (p : Port) (k : Nat),
      s.answers p (bar0 19 0x1008) = true →
      (pfOrFw p || p == .bmc) = true →
      8 ≤ k →
      Leads (.loopStop p k) s fun t => t = s.dropStage p) ∧
  (∀ (s : State) (p : Port) (k : Nat),
      s.answers p (bar0 19 0x1008) = true →
      pfOrFw p = false →
      p ≠ .bmc →
      Leads (.loopStop p k) s fun t => t.pw = s.pw ∧ t.fld F_TOP_BAD_ACCESS_ADDR_OFFSET = bar0 19 0x1008 ∧ (∀ j, j < 8 → t.loopSt j = s.loopSt j)) ∧
  (∀ (s : State) (p : Port) (k : Nat),
      s.answers p (bar0 19 0x1008) = false →
      Leads (.loopStop p k) s fun t => t = s.dropStage p) ∧
  (∀ (s : State) (p : Port) (k : Nat),
      s.answers p (bar0 19 0x1008) = true →
      (pfOrFw p || p == .bmc) = true →
      k < 8 →
      s.loopSt k = 3 →
      Leads (.loopClear p k) s fun t => t.loopSt k = 0 ∧ t.fld F_PW_L_STATUS_LAST k = 0 ∧ t.fld F_PW_L_STATUS_ACTIVE k = 0 ∧ t.fld F_PW_L_VOUT_VCMD k = 0 ∧
        (∀ q ∈ phasesOf k, (t.phase q).en = false ∧ (t.phase q).pwm = 0) ∧ (∀ j, j < 8 → j ≠ k → t.loopSt j = s.loopSt j) ∧ bit (t.fld F_PW_STATUS_FAULT) k = false) ∧
  (∀ (s : State) (p : Port) (k : Nat),
      s.answers p (bar0 19 0x1008) = true →
      (pfOrFw p || p == .bmc) = true →
      k < 8 →
      s.loopSt k ≠ 3 →
      Leads (.loopClear p k) s fun t => t = (s.dropStage p).setFld F_PW_L_STATUS_LAST 1 k) ∧
  (∀ (s : State) (p : Port) (k : Nat),
      s.answers p (bar0 19 0x1008) = true →
      (pfOrFw p || p == .bmc) = true →
      8 ≤ k →
      Leads (.loopClear p k) s fun t => t = s.dropStage p) ∧
  (∀ (s : State) (p : Port) (k : Nat),
      s.answers p (bar0 19 0x1008) = true →
      pfOrFw p = false →
      p ≠ .bmc →
      Leads (.loopClear p k) s fun t => t.pw = s.pw ∧ t.fld F_TOP_BAD_ACCESS_ADDR_OFFSET = bar0 19 0x1008 ∧ (∀ j, j < 8 → t.loopSt j = s.loopSt j)) ∧
  (∀ (s : State) (p : Port) (k : Nat),
      s.answers p (bar0 19 0x1008) = false →
      Leads (.loopClear p k) s fun t => t = s.dropStage p) ∧
  (∀ (s : State) (p : Port) (k : Nat),
      s.answers p (bar0 19 0x1014) = true →
      (pfOrFw p || p == .bmc) = true →
      k < 40 →
      s.loopSt (loopOf k) = 0 →
      s.phaseSt k = 2 →
      Leads (.reinstate p k) s fun t => t.phaseSt k = 1 ∧ t.fld F_PW_P_STATUS_DIAG (8 + k) = 0 ∧ (t.phase k).back = true ∧
        (∀ j, j < 40 → j ≠ k → t.phaseSt j = s.phaseSt j)) ∧
  (∀ (s : State) (p : Port) (k : Nat),
      s.answers p (bar0 19 0x1014) = true →
      (pfOrFw p || p == .bmc) = true →
      (40 ≤ k ∨ s.loopSt (loopOf k) ≠ 0 ∨ s.phaseSt k ≠ 2) →
      Leads (.reinstate p k) s fun t => t = s.dropStage p) ∧
  (∀ (s : State) (p : Port) (k : Nat),
      s.answers p (bar0 19 0x1014) = true →
      pfOrFw p = false →
      p ≠ .bmc →
      Leads (.reinstate p k) s fun t => t.pw = s.pw ∧ t.fld F_TOP_BAD_ACCESS_ADDR_OFFSET = bar0 19 0x1014 ∧ (∀ j, j < 8 → t.loopSt j = s.loopSt j)) ∧
  (∀ (s : State) (p : Port) (k : Nat),
      s.answers p (bar0 19 0x1014) = false →
      Leads (.reinstate p k) s fun t => t = s.dropStage p) ∧
  (∀ (s : State) (l : List Nat) (z : List Int),
      s.pw.due = true →
      s.pw.run = none →
      s.fld F_PW_STATUS_PWR_FAULT = 0 →
      z.all (fun d => decide (d < 100)) = true →
      Leads (.powerUpSequence l z) s fun t => t.pw.run = some 0 ∧ t.pw.due = false ∧ t.loopSt 0 = 1 ∧ (t.loop 0).sp = 4 * l.headD 0 ∧ (t.loop 0).bootRamp = true ∧ t.pw.failed = s.pw.failed) ∧
  (∀ (s : State) (l : List Nat) (z : List Int),
      (s.pw.due = false ∨ s.pw.run ≠ none ∨ s.fld F_PW_STATUS_PWR_FAULT ≠ 0 ∨ z.all (fun d => decide (d < 100)) = false) →
      Leads (.powerUpSequence l z) s fun t => t = s) ∧
  (∀ (s : State),
      s.pw.run.isSome = true →
      Leads .powerUpLoopTimeout s fun t => t.pw.run = none ∧ t.pw.failed = s.pw.failed + 1 ∧
        (∀ k, k < 8 → t.loopSt k ≠ 1 ∧ t.loopSt k ≠ 2)) ∧
  (∀ (s : State),
      s.pw.run = none →
      Leads .powerUpLoopTimeout s fun t => t = s) ∧
  (∀ (s : State) (l : List Nat),
      s.pw.run = none →
      1 ≤ s.pw.failed →
      s.pw.failed < 3 →
      s.pw.due = false →
      s.fld F_PW_STATUS_PWR_FAULT = 0 →
      Leads (.powerUpRetryDelay l) s fun t => t.pw.run = some 0 ∧ t.pw.due = false ∧ t.loopSt 0 = 1 ∧ (t.loop 0).sp = 4 * l.headD 0 ∧ (t.loop 0).bootRamp = true ∧ t.pw.failed = s.pw.failed) ∧
  (∀ (s : State) (l : List Nat),
      (s.pw.run ≠ none ∨ s.pw.failed = 0 ∨ 3 ≤ s.pw.failed ∨ s.pw.due = true ∨ s.fld F_PW_STATUS_PWR_FAULT ≠ 0) →
      Leads (.powerUpRetryDelay l) s fun t => t = s) ∧
  (∀ (s : State),
      s.fld F_PW_STATUS_PWR_FAULT ≠ 1 →
      s.ck.power ≠ 2 →
      s.ck.power ≠ 4 →
      Leads .pwrFault s fun t => t.fld F_PW_STATUS_PWR_FAULT = 1 ∧ (∀ k, k < 8 → t.loopSt k = 4 ∧ t.fld F_PW_L_STATUS_CAUSE k = 7) ∧ t.pw.run = none ∧
        t.fld F_PW_STATUS_RETRY_WAIT = 0 ∧ t.pw.due = (s.pw.due && s.ck.power == 0) ∧ (s.ck.power = 0 → t.fld F_TOP_BOOT_STATUS_STAGE = 0 ∧ t.mem = [])) ∧
  (∀ (s : State),
      s.fld F_PW_STATUS_PWR_FAULT ≠ 1 →
      (s.ck.power = 2 ∨ s.ck.power = 4) →
      Leads .pwrFault s fun t => t = s.setFld F_PW_STATUS_PWR_FAULT 1) ∧
  (∀ (s : State),
      s.fld F_PW_STATUS_PWR_FAULT = 1 →
      Leads .pwrFault s fun t => t = s) ∧
  (∀ (s : State),
      s.fld F_PW_STATUS_PWR_FAULT ≠ 0 →
      (s.pw.due = true ∨ 1 < s.ck.power) →
      Leads .pwrFaultRelease s fun t => t = s.setFld F_PW_STATUS_PWR_FAULT 0) ∧
  (∀ (s : State),
      s.fld F_PW_STATUS_PWR_FAULT ≠ 0 →
      s.pw.due = false →
      s.ck.power = 1 →
      s.ck.wake ≠ 0 →
      Leads .pwrFaultRelease s fun t => t.fld F_PW_STATUS_PWR_FAULT = 0 ∧ t.pw.due = true ∧ t.pw.failed = 0 ∧ ∀ k, k < 8 → t.loopSt k = 0) ∧
  (∀ (s : State),
      s.fld F_PW_STATUS_PWR_FAULT ≠ 0 →
      s.pw.due = false →
      s.ck.power ≤ 1 →
      (s.ck.power = 0 ∨ s.ck.wake = 0) →
      Leads .pwrFaultRelease s fun t => t = (s.setFld F_PW_STATUS_PWR_FAULT 0).setFld F_PW_STATUS_RETRY_WAIT 1) ∧
  (∀ (s : State),
      s.fld F_PW_STATUS_PWR_FAULT = 0 →
      Leads .pwrFaultRelease s fun t => t = s) ∧
  (∀ (s : State),
      s.answers .bmc (bar0 19 0xC) = true →
      s.fld F_PW_STATUS_PWR_FAULT ≠ 1 →
      (s.fld F_PW_STATUS_RETRY_WAIT = 1 ∨ 3 ≤ s.pw.failed) →
      Leads (.railRetry .bmc) s fun t => t.pw.due = true ∧ t.pw.failed = 0 ∧ t.fld F_PW_STATUS_RETRY_WAIT = 0 ∧
        ∀ k, k < 8 → t.loopSt k = 0) ∧
  (∀ (s : State),
      s.answers .bmc (bar0 19 0xC) = true →
      s.fld F_PW_STATUS_PWR_FAULT ≠ 1 →
      s.fld F_PW_STATUS_RETRY_WAIT ≠ 1 →
      s.pw.failed < 3 →
      Leads (.railRetry .bmc) s fun t => t = s.dropStage .bmc) ∧
  (∀ (s : State) (p : Port),
      s.answers p (bar0 19 0xC) = true →
      (p ≠ .bmc ∨ s.fld F_PW_STATUS_PWR_FAULT = 1) →
      Leads (.railRetry p) s fun t => t.pw = s.pw ∧ t.fld F_TOP_BAD_ACCESS_ADDR_OFFSET = bar0 19 0xC) ∧
  (∀ (s : State) (p : Port),
      s.answers p (bar0 19 0xC) = false →
      Leads (.railRetry p) s fun t => t = s.dropStage p)

/-- A write of CK_PWR_CTL by a port that may begins an entry, which waits for the descriptors to drain or for a reset that is due; then it
ends refused with its LAST code, or in S3 with the loops and queues of the host port off and the session keys kept aside, or in S5, which
waits for a flash write. 100 ms end the drain the same way. A wake event cancels a drain; in S3 it begins the exit with its cause, drives
WAKE_N unless PERST_N woke the device, and makes a power-up run due; the exit brings keys, links and power state back. What comes in another
state or from another port changes nothing but what it counts. (R590, R600, R601, R602, R603, R604, R605, R606, R607, R719,
18_clocks_and_power_states.md) -/
def Obligations.PowerStatesComplete : Prop :=
  (∀ (s : State) (p : Port) (unf : List Nat),
      s.answers p pwrCtlOff = true →
      (pfOrFw p || p == .bmc) = true →
      s.fld F_CK_PWR_STATUS_ENTERING ≠ 1 →
      s.ck.power = 0 →
      s.q.descs = [] →
      s.bt.resetAt = none →
      s.er.action ≠ .reset →
      s.s3Refused = 0 →
      Leads (.enterS3 p unf) s fun t => t.ck.power = 1 ∧ t.ck.entry = 0 ∧ t.ck.slow = false ∧ t.fld F_CK_PWR_STATUS_ENTERING = 0 ∧ t.fld F_CK_PWR_STATUS_LAST = 1 ∧
        t.ks = [(0, {})] ∧ (∀ k, k < 8 → t.loopSt k = 0) ∧ t.hostLinkUp = false) ∧
  (∀ (s : State) (p : Port) (unf : List Nat),
      s.answers p pwrCtlOff = true →
      (pfOrFw p || p == .bmc) = true →
      s.fld F_CK_PWR_STATUS_ENTERING ≠ 1 →
      s.ck.power = 0 →
      s.q.descs = [] →
      s.bt.resetAt = none →
      s.er.action ≠ .reset →
      s.s3Refused ≠ 0 →
      Leads (.enterS3 p unf) s fun t => t.ck.entry = 0 ∧ t.fld F_CK_PWR_STATUS_ENTERING = 0 ∧ t.fld F_CK_PWR_STATUS_LAST = s.s3Refused ∧ t.ck.power = s.ck.power ∧ t.mem = s.mem) ∧
  (∀ (s : State) (p : Port) (unf : List Nat),
      s.answers p pwrCtlOff = true →
      (pfOrFw p || p == .bmc) = true →
      s.fld F_CK_PWR_STATUS_ENTERING ≠ 1 →
      s.ck.power = 0 →
      (s.q.descs ≠ [] ∨ s.bt.resetAt ≠ none ∨ s.er.action = .reset) →
      Leads (.enterS3 p unf) s fun t => t.ck.entry = 3 ∧ t.ck.power = 0 ∧ t.fld F_CK_PWR_STATUS_ENTERING = 1 ∧ t.q = s.q ∧ t.mem = s.mem) ∧
  (∀ (s : State) (p : Port) (unf : List Nat),
      s.answers p pwrCtlOff = true →
      (pfOrFw p || p == .bmc) = true →
      (s.fld F_CK_PWR_STATUS_ENTERING = 1 ∨ s.ck.power ≠ 0) →
      Leads (.enterS3 p unf) s fun t => t = s.dropStage p) ∧
  (∀ (s : State) (p : Port) (unf : List Nat),
      s.answers p pwrCtlOff = true →
      pfOrFw p = false →
      p ≠ .bmc →
      Leads (.enterS3 p unf) s fun t => t.ck = s.ck ∧ t.fld F_TOP_BAD_ACCESS_ADDR_OFFSET = pwrCtlOff) ∧
  (∀ (s : State) (p : Port) (unf : List Nat),
      s.answers p pwrCtlOff = false →
      Leads (.enterS3 p unf) s fun t => t = s.dropStage p) ∧
  (∀ (s : State) (p : Port) (unf : List Nat),
      s.answers p pwrCtlOff = true →
      (pfOrFw p || p == .bmc) = true →
      s.fld F_CK_PWR_STATUS_ENTERING ≠ 1 →
      s.ck.power = 0 →
      (s.q.descs ≠ [] ∨ s.bt.resetAt ≠ none ∨ s.er.action = .reset) →
      Leads (.enterS5 p unf) s fun t => t.ck.entry = 5 ∧ t.ck.power = 0 ∧ t.fld F_CK_PWR_STATUS_ENTERING = 1 ∧ t.q = s.q ∧ t.mem = s.mem) ∧
  (∀ (s : State) (p : Port) (unf : List Nat),
      s.answers p pwrCtlOff = true →
      (pfOrFw p || p == .bmc) = true →
      (s.fld F_CK_PWR_STATUS_ENTERING = 1 ∨ s.ck.power ≠ 0) →
      Leads (.enterS5 p unf) s fun t => t = s.dropStage p) ∧
  (∀ (s : State) (p : Port) (unf : List Nat),
      s.answers p pwrCtlOff = true →
      pfOrFw p = false →
      p ≠ .bmc →
      Leads (.enterS5 p unf) s fun t => t.ck = s.ck ∧ t.fld F_TOP_BAD_ACCESS_ADDR_OFFSET = pwrCtlOff) ∧
  (∀ (s : State) (p : Port) (unf : List Nat),
      s.answers p pwrCtlOff = false →
      Leads (.enterS5 p unf) s fun t => t = s.dropStage p) ∧
  (∀ (s : State) (p : Port) (unf : List Nat),
      s.answers p pwrCtlOff = true →
      (pfOrFw p || p == .bmc) = true →
      s.fld F_CK_PWR_STATUS_ENTERING ≠ 1 →
      s.ck.power = 0 →
      s.q.descs = [] →
      s.bt.resetAt = none →
      s.er.action ≠ .reset →
      s.fld F_TOP_CAL_STATUS_WRITE ≠ 1 →
      s.fld F_TOP_ADMIN_STATUS_HDR_WRITE ≠ 1 →
      Leads (.enterS5 p unf) s fun t => t.ck.power = 2 ∧ t.mem = [] ∧ t.ks = [] ∧ t.q = {} ∧ (∀ k, k < 8 → t.loopSt k = 0)) ∧
  (∀ (s : State) (p : Port) (unf : List Nat),
      s.answers p pwrCtlOff = true →
      (pfOrFw p || p == .bmc) = true →
      s.fld F_CK_PWR_STATUS_ENTERING ≠ 1 →
      s.ck.power = 0 →
      s.q.descs = [] →
      s.bt.resetAt = none →
      s.er.action ≠ .reset →
      (s.fld F_TOP_CAL_STATUS_WRITE = 1 ∨ s.fld F_TOP_ADMIN_STATUS_HDR_WRITE = 1) →
      Leads (.enterS5 p unf) s fun t => t.ck.power = 0 ∧ t.ck.entry = 6 ∧ t.mem = s.mem) ∧
  (∀ (s : State) (unf : List Nat),
      s.ck.since + 100000000 ≤ s.now →
      s.bt.resetAt = none →
      s.er.action ≠ .reset →
      s.ck.entry = 3 →
      s.s3Refused ≠ 0 →
      Leads (.s3DrainTimeout unf) s fun t => t.ck.entry = 0 ∧ t.fld F_CK_PWR_STATUS_ENTERING = 0 ∧ t.fld F_CK_PWR_STATUS_LAST = s.s3Refused ∧ t.ck.power = s.ck.power ∧ t.mem = s.mem ∧ t.q = s.q) ∧
  (∀ (s : State) (unf : List Nat),
      s.ck.since + 100000000 ≤ s.now →
      s.bt.resetAt = none →
      s.er.action ≠ .reset →
      s.ck.entry = 3 →
      s.s3Refused = 0 →
      Leads (.s3DrainTimeout unf) s fun t => t.ck.power = 1 ∧ t.ck.entry = 0 ∧ t.ck.slow = false ∧ t.fld F_CK_PWR_STATUS_ENTERING = 0 ∧ t.fld F_CK_PWR_STATUS_LAST = 1 ∧
        t.ks = [(0, {})] ∧ (∀ k, k < 8 → t.loopSt k = 0) ∧ t.hostLinkUp = false) ∧
  (∀ (s : State) (unf : List Nat),
      s.ck.since + 100000000 ≤ s.now →
      s.bt.resetAt = none →
      s.er.action ≠ .reset →
      s.ck.entry = 5 →
      s.fld F_TOP_CAL_STATUS_WRITE ≠ 1 →
      s.fld F_TOP_ADMIN_STATUS_HDR_WRITE ≠ 1 →
      Leads (.s3DrainTimeout unf) s fun t => t.ck.power = 2 ∧ t.mem = [] ∧ t.ks = [] ∧ t.q = {} ∧ (∀ k, k < 8 → t.loopSt k = 0)) ∧
  (∀ (s : State) (unf : List Nat),
      s.ck.since + 100000000 ≤ s.now →
      s.bt.resetAt = none →
      s.er.action ≠ .reset →
      s.ck.entry = 5 →
      (s.fld F_TOP_CAL_STATUS_WRITE = 1 ∨ s.fld F_TOP_ADMIN_STATUS_HDR_WRITE = 1) →
      Leads (.s3DrainTimeout unf) s fun t => t.ck.power = s.ck.power ∧ t.ck.entry = 6) ∧
  (∀ (s : State) (unf : List Nat),
      (s.now < s.ck.since + 100000000 ∨ s.bt.resetAt ≠ none ∨ s.er.action = .reset ∨ (s.ck.entry ≠ 3 ∧ s.ck.entry ≠ 5)) →
      Leads (.s3DrainTimeout unf) s fun t => t = s) ∧
  (∀ (s : State),
      s.answers .bmc pwrCtlOff = true →
      s.fld F_CK_PWR_STATUS_ENTERING ≠ 1 →
      s.ck.entry ≠ 3 →
      s.ck.power = 1 →
      s.ck.wake = 0 →
      (s.fld F_PW_STATUS_RETRY_WAIT = 1 ∨ (s.fld F_PW_STATUS_PWR_FAULT ≠ 1 ∧ ∀ k ∈ List.range 8, s.loopSt k ≠ 4)) →
      Leads (.exitS3 .bmc) s fun t => t.ck.wake = 3 ∧ t.fld F_CK_PWR_STATUS_WAKE_CAUSE = 3 ∧ t.ck.power = 1 ∧ t.ck.wakeOut = true ∧
        t.pw.due = true ∧ t.pw.failed = 0 ∧ ∀ k, k < 8 → t.loopSt k = 0) ∧
  (∀ (s : State),
      s.answers .bmc pwrCtlOff = true →
      s.fld F_CK_PWR_STATUS_ENTERING ≠ 1 →
      s.ck.entry ≠ 3 →
      s.ck.power = 1 →
      s.ck.wake = 0 →
      s.fld F_PW_STATUS_RETRY_WAIT ≠ 1 →
      (s.fld F_PW_STATUS_PWR_FAULT = 1 ∨ ∃ k ∈ List.range 8, s.loopSt k = 4) →
      Leads (.exitS3 .bmc) s fun t => t.ck.wake = 3 ∧ t.fld F_CK_PWR_STATUS_WAKE_CAUSE = 3 ∧ t.ck.power = 1 ∧ t.ck.wakeOut = true ∧
        t.pw.due = s.pw.due ∧ ∀ k, k < 8 → t.loopSt k = s.loopSt k) ∧
  (∀ (s : State),
      s.answers .bmc pwrCtlOff = true →
      s.fld F_CK_PWR_STATUS_ENTERING ≠ 1 →
      (s.ck.power ≠ 1 ∨ (s.ck.entry ≠ 3 ∧ s.ck.wake ≠ 0)) →
      Leads (.exitS3 .bmc) s fun t => t = s.dropStage .bmc) ∧
  (∀ (s : State) (p : Port),
      s.answers p pwrCtlOff = true →
      (pfOrFw p || p == .bmc) = true →
      (p ≠ .bmc ∨ s.fld F_CK_PWR_STATUS_ENTERING = 1) →
      Leads (.exitS3 p) s fun t => t = s.dropStage p) ∧
  (∀ (s : State) (p : Port),
      s.answers p pwrCtlOff = true →
      pfOrFw p = false →
      p ≠ .bmc →
      Leads (.exitS3 p) s fun t => t.ck = s.ck ∧ t.fld F_TOP_BAD_ACCESS_ADDR_OFFSET = pwrCtlOff) ∧
  (∀ (s : State) (p : Port),
      s.answers p pwrCtlOff = false →
      Leads (.exitS3 p) s fun t => t = s.dropStage p) ∧
  (∀ (s : State),
      s.ck.wakeOut = false →
      s.ck.entry ≠ 3 →
      s.ck.power = 1 →
      s.ck.wake = 0 →
      (s.fld F_PW_STATUS_RETRY_WAIT = 1 ∨ (s.fld F_PW_STATUS_PWR_FAULT ≠ 1 ∧ ∀ k ∈ List.range 8, s.loopSt k ≠ 4)) →
      Leads .wakeNEvent s fun t => t.ck.wake = 2 ∧ t.fld F_CK_PWR_STATUS_WAKE_CAUSE = 2 ∧ t.ck.power = 1 ∧ t.ck.wakeOut = true ∧
        t.pw.due = true ∧ t.pw.failed = 0 ∧ ∀ k, k < 8 → t.loopSt k = 0) ∧
  (∀ (s : State),
      s.ck.wakeOut = false →
      s.ck.entry ≠ 3 →
      s.ck.power = 1 →
      s.ck.wake = 0 →
      s.fld F_PW_STATUS_RETRY_WAIT ≠ 1 →
      (s.fld F_PW_STATUS_PWR_FAULT = 1 ∨ ∃ k ∈ List.range 8, s.loopSt k = 4) →
      Leads .wakeNEvent s fun t => t.ck.wake = 2 ∧ t.fld F_CK_PWR_STATUS_WAKE_CAUSE = 2 ∧ t.ck.power = 1 ∧ t.ck.wakeOut = true ∧
        t.pw.due = s.pw.due ∧ ∀ k, k < 8 → t.loopSt k = s.loopSt k) ∧
  (∀ (s : State),
      s.ck.wakeOut = false →
      s.ck.entry = 3 →
      Leads .wakeNEvent s fun t => t.ck.entry = 0 ∧ t.fld F_CK_PWR_STATUS_ENTERING = 0 ∧ t.fld F_CK_PWR_STATUS_LAST = 7 ∧ t.ck.power = s.ck.power ∧ t.ck.wake = s.ck.wake) ∧
  (∀ (s : State),
      (s.ck.wakeOut = true ∨ (s.ck.entry ≠ 3 ∧ (s.ck.power ≠ 1 ∨ s.ck.wake ≠ 0))) →
      Leads .wakeNEvent s fun t => t = s) ∧
  (∀ (s : State),
      s.fld F_CK_S3_TIMER_SECONDS ≠ 0 →
      s.ck.since + s.fld F_CK_S3_TIMER_SECONDS * 1000000000 ≤ s.now →
      s.ck.entry ≠ 3 →
      s.ck.power = 1 →
      s.ck.wake = 0 →
      (s.fld F_PW_STATUS_RETRY_WAIT = 1 ∨ (s.fld F_PW_STATUS_PWR_FAULT ≠ 1 ∧ ∀ k ∈ List.range 8, s.loopSt k ≠ 4)) →
      Leads .s3TimerExpired s fun t => t.ck.wake = 4 ∧ t.fld F_CK_PWR_STATUS_WAKE_CAUSE = 4 ∧ t.ck.power = 1 ∧ t.ck.wakeOut = true ∧
        t.pw.due = true ∧ t.pw.failed = 0 ∧ ∀ k, k < 8 → t.loopSt k = 0) ∧
  (∀ (s : State),
      s.fld F_CK_S3_TIMER_SECONDS ≠ 0 →
      s.ck.since + s.fld F_CK_S3_TIMER_SECONDS * 1000000000 ≤ s.now →
      s.ck.entry ≠ 3 →
      s.ck.power = 1 →
      s.ck.wake = 0 →
      s.fld F_PW_STATUS_RETRY_WAIT ≠ 1 →
      (s.fld F_PW_STATUS_PWR_FAULT = 1 ∨ ∃ k ∈ List.range 8, s.loopSt k = 4) →
      Leads .s3TimerExpired s fun t => t.ck.wake = 4 ∧ t.fld F_CK_PWR_STATUS_WAKE_CAUSE = 4 ∧ t.ck.power = 1 ∧ t.ck.wakeOut = true ∧
        t.pw.due = s.pw.due ∧ ∀ k, k < 8 → t.loopSt k = s.loopSt k) ∧
  (∀ (s : State),
      (s.fld F_CK_S3_TIMER_SECONDS = 0 ∨ s.now < s.ck.since + s.fld F_CK_S3_TIMER_SECONDS * 1000000000 ∨ s.ck.power ≠ 1 ∨ (s.ck.entry ≠ 3 ∧ s.ck.wake ≠ 0)) →
      Leads .s3TimerExpired s fun t => t = s) ∧
  (∀ (s : State) (l : List Nat),
      s.ck.power = 1 →
      s.ck.wake ≠ 0 →
      s.pw.run = none →
      (∀ k, k < 8 → s.loopSt k = 2) →
      Leads (.s3Exit l) s fun t => t.ck.power = 0 ∧ t.ck.wake = 0 ∧ t.ck.retained = [] ∧ t.ck.links = [] ∧
        ∀ i ∈ s.ck.links, (t.link i).st = .down) ∧
  (∀ (s : State) (l : List Nat),
      (s.ck.power ≠ 1 ∨ s.ck.wake = 0 ∨ s.pw.run ≠ none ∨ ∃ k ∈ List.range 8, s.loopSt k ≠ 2) →
      Leads (.s3Exit l) s fun t => t = s)

/-- An engine domain without work gates and wakes, the fabric slows when nothing runs, a READY cluster takes the clock it is allowed. A loss
of lock is counted and its domain faulted: clusters, units and links of the domain go out, the time base falls back, loss of another is
fatal, or holds the device, as Table 18.8 says; a relock restores an engine or leaves it faulted with what it was doing waiting. A loss of
the reference, a brown-out and over-temperature hold the device; PERST_N resets the host port, is counted, and its release ends WAKE_N and
wakes from S3. Each changes nothing without its condition. (R587, R590, R595, R599, R603, R610, R611, R697, R730, R744, R745,
18_clocks_and_power_states.md) -/
def Obligations.ClocksAndPinsTakeEffect : Prop :=
  (∀ (s : State) (k : Nat),
      55 ≤ k →
      k ≤ 57 →
      1 ≤ s.fld F_CK_PWR_CFG_DEEPEST →
      kvGet 0 s.ck.dom k = 0 →
      s.domainBusy k = false →
      Leads (.engineIdleGate k) s fun t => kvGet 0 t.ck.dom k = 1 ∧ t.q = s.q ∧ t.regs = s.regs) ∧
  (∀ (s : State) (k : Nat),
      (k < 55 ∨ 57 < k ∨ s.fld F_CK_PWR_CFG_DEEPEST = 0 ∨ kvGet 0 s.ck.dom k ≠ 0 ∨ s.domainBusy k = true) →
      Leads (.engineIdleGate k) s fun t => t = s) ∧
  (∀ (s : State) (k : Nat),
      kvGet 0 s.ck.dom k = 1 →
      Leads (.domainWake k) s fun t => kvGet 0 t.ck.dom k = 0 ∧ t.q = s.q ∧ t.regs = s.regs) ∧
  (∀ (s : State) (k : Nat),
      kvGet 0 s.ck.dom k ≠ 1 →
      Leads (.domainWake k) s fun t => t = s) ∧
  (∀ (s : State),
      s.fld F_CK_PWR_CFG_DEEPEST = 2 →
      s.ck.power = 0 →
      s.q.descs = [] →
      (∀ k, k < 8 → (s.cluster k).st = 0 ∨ (s.cluster k).st = 4) →
      (∀ k, k < 20 → s.inService k = false ∨ (targetUnits k).all (fun u => (s.dram u).selfRef || s.unitState u == 4) = true) →
      Leads .fabricSlow s fun t => t = { s with ck := { s.ck with slow := true } }) ∧
  (∀ (s : State),
      (s.fld F_CK_PWR_CFG_DEEPEST ≠ 2 ∨ s.ck.power ≠ 0 ∨ s.q.descs ≠ [] ∨ (∃ k ∈ List.range 8, (s.cluster k).st ≠ 0 ∧ (s.cluster k).st ≠ 4) ∨ (∃ k ∈ List.range 20, s.inService k = true ∧ (targetUnits k).all (fun u => (s.dram u).selfRef || s.unitState u == 4) = false)) →
      Leads .fabricSlow s fun t => t = s) ∧
  (∀ (s : State) (k : Nat),
      k < 8 →
      (s.cluster k).st = 3 →
      Leads (.clusterClockChange k) s fun t => t.clockNow k = s.clusterMhz k ∧ t.cr = s.cr ∧ t.regs = s.regs) ∧
  (∀ (s : State) (k : Nat),
      (8 ≤ k ∨ (s.cluster k).st ≠ 3) →
      Leads (.clusterClockChange k) s fun t => t = s) ∧
  (∀ (s : State) (k : Nat) (unf : List Nat),
      s.domExists k = true →
      s.ck.power = 0 →
      s.domFailed k = false →
      inSet [45, 46, 50, 59] k = false →
      1 ≤ k →
      k ≤ 8 →
      Leads (.pllLockLoss k unf) s fun t => t.fld F_CK_D_FAULTS_FAULTS k = min (s.fld F_CK_D_FAULTS_FAULTS k + 1) (2 ^ F_CK_D_FAULTS_FAULTS.wid - 1) ∧ kvGet 0 t.ck.dom k = 3 ∧
        (t.cluster (k - 1)).st = 4 ∧ ∀ c, c / 8 = k - 1 → (t.carrel c).task = none) ∧
  (∀ (s : State) (k : Nat) (unf : List Nat),
      s.domExists k = true →
      s.ck.power = 0 →
      s.domFailed k = false →
      inSet [45, 46, 50, 59] k = false →
      9 ≤ k →
      k ≤ 16 →
      Leads (.pllLockLoss k unf) s fun t => t.fld F_CK_D_FAULTS_FAULTS k = min (s.fld F_CK_D_FAULTS_FAULTS k + 1) (2 ^ F_CK_D_FAULTS_FAULTS.wid - 1) ∧ kvGet 0 t.ck.dom k = 3 ∧
        ∀ u, (16 + 16 * (k - 9)) ≤ u → u < 16 + 16 * (k - 9) + 16 → t.unitState u ≠ 2 ∧ t.unitState u ≠ 3) ∧
  (∀ (s : State) (k : Nat) (unf : List Nat),
      s.domExists k = true →
      s.ck.power = 0 →
      s.domFailed k = false →
      inSet [45, 46, 50, 59] k = false →
      17 ≤ k →
      k ≤ 32 →
      Leads (.pllLockLoss k unf) s fun t => t.fld F_CK_D_FAULTS_FAULTS k = min (s.fld F_CK_D_FAULTS_FAULTS k + 1) (2 ^ F_CK_D_FAULTS_FAULTS.wid - 1) ∧ kvGet 0 t.ck.dom k = 3 ∧ t.unitState (k - 17) ≠ 2 ∧ t.unitState (k - 17) ≠ 3) ∧
  (∀ (s : State) (k : Nat) (unf : List Nat),
      s.domExists k = true →
      s.ck.power = 0 →
      s.domFailed k = false →
      inSet [45, 46, 50, 59] k = false →
      33 ≤ k →
      k ≤ 44 →
      Leads (.pllLockLoss k unf) s fun t => t.fld F_CK_D_FAULTS_FAULTS k = min (s.fld F_CK_D_FAULTS_FAULTS k + 1) (2 ^ F_CK_D_FAULTS_FAULTS.wid - 1) ∧ kvGet 0 t.ck.dom k = 3 ∧ ∀ l, l / 4 = k - 33 → (t.link l).isUp = false) ∧
  (∀ (s : State) (k : Nat) (unf : List Nat),
      s.domExists k = true →
      s.ck.power = 0 →
      s.domFailed k = false →
      inSet [45, 46, 50, 59] k = false →
      55 ≤ k →
      k ≤ 58 →
      Leads (.pllLockLoss k unf) s fun t => t.fld F_CK_D_FAULTS_FAULTS k = min (s.fld F_CK_D_FAULTS_FAULTS k + 1) (2 ^ F_CK_D_FAULTS_FAULTS.wid - 1) ∧ kvGet 0 t.ck.dom k = 3 ∧ t.ck.fallback = (if k = 58 then true else s.ck.fallback)) ∧
  (∀ (s : State) (k : Nat) (unf : List Nat),
      s.domExists k = true →
      s.ck.power = 0 →
      s.domFailed k = false →
      inSet [45, 46, 50, 59] k = false →
      (k = 49 ∨ k = 51 ∨ k = 52) →
      Leads (.pllLockLoss k unf) s fun t => t.ck.power = 3 ∧ t.er.storeValid = true ∧ ∀ j, j < 8 → t.loopSt j = 0) ∧
  (∀ (s : State) (k : Nat) (unf : List Nat),
      s.domExists k = true →
      s.ck.power = 0 →
      s.domFailed k = false →
      inSet [45, 46, 50, 59] k = false →
      (k = 0 ∨ k = 47 ∨ k = 48 ∨ k = 53 ∨ k = 54) →
      Leads (.pllLockLoss k unf) s fun t => t.fld F_CK_D_FAULTS_FAULTS k = min (s.fld F_CK_D_FAULTS_FAULTS k + 1) (2 ^ F_CK_D_FAULTS_FAULTS.wid - 1) ∧ kvGet 0 t.ck.dom k = 3 ∧
        t.er.action ≠ .none ∧ t.er.storeValid = true ∧ t.er.alert = true) ∧
  (∀ (s : State) (k : Nat) (unf : List Nat),
      (s.domExists k = false ∨ s.ck.power ≠ 0 ∨ s.domFailed k = true ∨ inSet [45, 46, 50, 59] k = true) →
      Leads (.pllLockLoss k unf) s fun t => t = s) ∧
  (∀ (s : State) (k : Nat),
      kvGet 0 s.ck.dom k = 3 →
      55 ≤ k →
      k ≤ 58 →
      Leads (.pllRelock k true) s fun t => kvGet 0 t.ck.dom k = 0 ∧ t.ck.fallback = (if k = 58 then false else s.ck.fallback)) ∧
  (∀ (s : State),
      kvGet 0 s.ck.dom 58 = 3 →
      Leads (.pllRelock 58 false) s fun t => t = s) ∧
  (∀ (s : State) (k : Nat),
      kvGet 0 s.ck.dom k = 3 →
      k = 55 →
      Leads (.pllRelock k false) s fun t => t.ck = { s.ck with dom := kvInsert s.ck.dom k 4 } ∧ t.q = s.q) ∧
  (∀ (s : State) (d : Nat),
      kvGet 0 s.ck.dom 56 = 3 →
      s.pl.running = some d →
      (s.desc? d).isSome = true →
      Leads (.pllRelock 56 false) s fun t => t.ck = { s.ck with dom := kvInsert s.ck.dom 56 4 } ∧ t.pl.running = none ∧ (t.desc d).stage = .wait .solver) ∧
  (∀ (s : State),
      kvGet 0 s.ck.dom 56 = 3 →
      s.pl.running = none →
      Leads (.pllRelock 56 false) s fun t => t.ck = { s.ck with dom := kvInsert s.ck.dom 56 4 } ∧ t.q = s.q) ∧
  (∀ (s : State),
      kvGet 0 s.ck.dom 57 = 3 →
      Leads (.pllRelock 57 false) s fun t => t.ck = { s.ck with dom := kvInsert s.ck.dom 57 4 } ∧ ∀ u, u < 8 → (t.pjUnit u).cmds = []) ∧
  (∀ (s : State) (k : Nat) (v : Bool),
      (kvGet 0 s.ck.dom k ≠ 3 ∨ k < 55 ∨ 58 < k) →
      Leads (.pllRelock k v) s fun t => t = s) ∧
  (∀ (s : State),
      s.ck.power ≤ 1 →
      Leads .refLost s fun t => t.ck.power = 3 ∧ t.er.storeValid = true ∧ t.er.alert = true ∧ ∀ j, j < 8 → t.loopSt j = 0) ∧
  (∀ (s : State),
      1 < s.ck.power →
      Leads .refLost s fun t => t = s) ∧
  (∀ (s : State) (unf : List Nat),
      s.ck.perst = false →
      s.ck.power = 0 →
      s.fld F_TOP_BOOT_STATUS_STAGE ≠ 0 →
      Leads (.perstAssert unf) s fun t => t.ck.perst = true ∧ t.fld F_TOP_PERST_CNT_COUNT = min (s.fld F_TOP_PERST_CNT_COUNT + 1) (2 ^ F_TOP_PERST_CNT_COUNT.wid - 1) ∧ t.hostLinkUp = false ∧ t.hp.ide = []) ∧
  (∀ (s : State) (unf : List Nat),
      s.ck.perst = false →
      s.ck.power = 1 →
      s.fld F_TOP_BOOT_STATUS_STAGE ≠ 0 →
      Leads (.perstAssert unf) s fun t => t.ck = { s.ck with perst := true } ∧ t.fld F_TOP_PERST_CNT_COUNT = min (s.fld F_TOP_PERST_CNT_COUNT + 1) (2 ^ F_TOP_PERST_CNT_COUNT.wid - 1) ∧ t.q = s.q) ∧
  (∀ (s : State) (unf : List Nat),
      s.ck.perst = false →
      (2 ≤ s.ck.power ∨ s.fld F_TOP_BOOT_STATUS_STAGE = 0) →
      Leads (.perstAssert unf) s fun t => t = { s with ck := { s.ck with perst := true } }) ∧
  (∀ (s : State) (unf : List Nat),
      s.ck.perst = true →
      Leads (.perstAssert unf) s fun t => t = s) ∧
  (∀ (s : State),
      s.ck.perst = true →
      Leads .perstRelease s fun t => t.ck.perst = false ∧ t.ck.released = true ∧ t.ck.wakeOut = false ∧
        (s.ck.wakeOut = true → Msg.pin .wakeN true ∈ t.outbox) ∧
        (s.ck.entry = 3 → t.ck.entry = 0 ∧ t.fld F_CK_PWR_STATUS_LAST = 7) ∧
        (s.ck.entry ≠ 3 ∧ s.ck.power = 1 ∧ s.ck.wake = 0 → t.ck.wake = 1 ∧ t.fld F_CK_PWR_STATUS_WAKE_CAUSE = 1)) ∧
  (∀ (s : State),
      s.ck.perst = false →
      Leads .perstRelease s fun t => t = s) ∧
  (∀ (s : State),
      s.ck.power ≠ 4 →
      Leads .brownOut s fun t => t.ck.power = 4 ∧ t.mem = [] ∧ t.q = {} ∧ t.ks = []) ∧
  (∀ (s : State),
      s.ck.power = 4 →
      Leads .brownOut s fun t => t = s) ∧
  (∀ (s : State) (n : Nat) (l : List Nat),
      n < 60 →
      inSet (s.bt.hotSensors.filter (fun x => !inSet l x)) n = false →
      s.ck.power = 0 →
      Leads (.thermalWarning n l) s fun t => t.bt.hotSensors = setInsert (s.bt.hotSensors.filter (fun x => !inSet l x)) n ∧ inSet t.bt.hotSensors n = true ∧
        bit (t.fld F_IR_EVT_STATUS_STATUS) 5 = true ∧ (∀ k ∈ l, k ≠ n → inSet t.bt.hotSensors k = false)) ∧
  (∀ (s : State) (n : Nat) (l : List Nat),
      (60 ≤ n ∨ inSet (s.bt.hotSensors.filter (fun x => !inSet l x)) n = true ∨ s.ck.power ≠ 0) →
      Leads (.thermalWarning n l) s fun t => t = { s with bt := { s.bt with hotSensors := s.bt.hotSensors.filter (fun x => !inSet l x) } }) ∧
  (∀ (s : State) (n : Nat),
      s.bt.thermtrip = false →
      s.ck.power ≠ 4 →
      s.tripSource n = true →
      Leads (.thermtrip n) s fun t => t.bt.thermtrip = true ∧ t.ck.power = 3 ∧ Msg.pin .thermtripN false ∈ t.outbox ∧ (∀ j, j < 8 → t.loopSt j = 0) ∧
        (s.loopSt 0 = 1 ∨ s.loopSt 0 = 2 → t.fld F_PW_L_STATUS_CAUSE 0 = 6)) ∧
  (∀ (s : State) (n : Nat),
      (s.bt.thermtrip = true ∨ s.ck.power = 4 ∨ s.tripSource n = false) →
      Leads (.thermtrip n) s fun t => t = s)

/-- MEM_GO starts training with the header values locked; HOT_READY gives the hot tier its size and spares, and the unfixed rows leave it;
POOL_READY gives the tiers their sizes and the pool its free folios, or NO_POOL. A device reset that a fatal error, DEVICE_ADMIN, or a trial
without FW_HEALTHY calls for counts itself, gives its cause, ends every queue and keeps memory and the time; a cold reset clears memory,
queues and keys, keeps the fuses and the fatal store, and makes a power-up run due. Each changes nothing without its condition. (R307, R333,
R523, R682, R686, R687, R692, R693, R713, R715, R719, R762) -/
def Obligations.BootCommandsComplete : Prop :=
  (∀ (s : State) (p : Port),
      s.answers p (bar0 0 0x204) = true →
      pfOrFw p = true →
      s.fld F_TOP_BOOT_STATUS_MEM_WAIT = 1 →
      Leads (.memGo p) s fun t => t.fld F_TOP_BOOT_STATUS_MEM_WAIT = 0 ∧ inSet t.bt.rwl (F_MC_CFG_MAX_SPEED.key 0) = true ∧
        inSet t.bt.rwl (F_SI_CFG_TAGS_PRESENT.key 0) = true ∧ inSet t.bt.rwl (F_HB_SPARE_CFG_PERMILLE.key 0) = true ∧
        (∀ c, c < 16 → inSet t.bt.rwl (F_MC_CH_CFG_MODE.key c) = true)) ∧
  (∀ (s : State) (p : Port),
      s.answers p (bar0 0 0x204) = true →
      pfOrFw p = true →
      s.fld F_TOP_BOOT_STATUS_MEM_WAIT ≠ 1 →
      Leads (.memGo p) s fun t => t = s.dropStage p) ∧
  (∀ (s : State) (p : Port),
      s.answers p (bar0 0 0x204) = true →
      pfOrFw p = false →
      Leads (.memGo p) s fun t => t.bt.rwl = s.bt.rwl ∧ t.fld F_TOP_BAD_ACCESS_ADDR_OFFSET = bar0 0 0x204) ∧
  (∀ (s : State) (p : Port),
      s.answers p (bar0 0 0x204) = false →
      Leads (.memGo p) s fun t => t.bt.rwl = s.bt.rwl ∧ t.regs = s.regs) ∧
  (∀ (s : State) (l : List (Nat × Nat × Nat)),
      s.training = true →
      s.fld F_TOP_BOOT_STATUS_HOT_READY ≠ 1 →
      s.stacksTrained = true →
      s.fld F_HB_STATUS_SET ≠ 0 →
      Leads (.hotReady l) s fun t => t.fld F_TOP_BOOT_STATUS_HOT_READY = 1 ∧
        t.fld F_TOP_HOT_FOLIOS_COUNT = 589824 * popCount (s.fld F_HB_STATUS_SET) 4 ∧
        t.map.spares = (589824 * popCount (s.fld F_HB_STATUS_SET) 4 - 589824 * popCount (s.fld F_HB_STATUS_SET) 4 * s.fld F_HB_SPARE_CFG_PERMILLE / 1000, 589824 * popCount (s.fld F_HB_STATUS_SET) 4 * s.fld F_HB_SPARE_CFG_PERMILLE / 1000) ∧
        (l = [] → t.map.device = s.map.device) ∧ t.mem = s.mem ∧ t.q = s.q) ∧
  (∀ (s : State) (l : List (Nat × Nat × Nat)),
      (s.training = false ∨ s.fld F_TOP_BOOT_STATUS_HOT_READY = 1 ∨ s.stacksTrained = false ∨ s.fld F_HB_STATUS_SET = 0) →
      Leads (.hotReady l) s fun t => t = s) ∧
  (∀ (s : State),
      s.training = true →
      s.fld F_TOP_BOOT_STATUS_POOL_READY ≠ 1 →
      s.fld F_TOP_BOOT_STATUS_NO_POOL ≠ 1 →
      (∀ c, c < 16 → (s.dram c).trained = true) →
      (s.fld F_TOP_BOOT_STATUS_HOT_READY = 1 ∨ (s.stacksTrained = true ∧ s.fld F_HB_STATUS_SET = 0)) →
      s.warmFolios < s.metaFolios (s.fld F_TOP_HOT_FOLIOS_COUNT + s.warmFolios) + 4096 →
      Leads .poolReady s fun t => t.fld F_TOP_WARM_FOLIOS_COUNT = s.warmFolios % 2 ^ F_TOP_WARM_FOLIOS_COUNT.wid ∧ t.fld F_TOP_META_SIZE_COUNT = s.metaFolios (s.fld F_TOP_HOT_FOLIOS_COUNT + s.warmFolios) % 2 ^ F_TOP_META_SIZE_COUNT.wid ∧
        t.fld F_TOP_BOOT_STATUS_NO_POOL = 1 ∧
        t.fld F_TOP_BOOT_STATUS_POOL_READY = s.fld F_TOP_BOOT_STATUS_POOL_READY ∧ t.map = s.map) ∧
  (∀ (s : State),
      s.training = true →
      s.fld F_TOP_BOOT_STATUS_POOL_READY ≠ 1 →
      s.fld F_TOP_BOOT_STATUS_NO_POOL ≠ 1 →
      (∀ c, c < 16 → (s.dram c).trained = true) →
      (s.fld F_TOP_BOOT_STATUS_HOT_READY = 1 ∨ (s.stacksTrained = true ∧ s.fld F_HB_STATUS_SET = 0)) →
      s.metaFolios (s.fld F_TOP_HOT_FOLIOS_COUNT + s.warmFolios) + 4096 ≤ s.warmFolios →
      Leads .poolReady s fun t => t.fld F_TOP_WARM_FOLIOS_COUNT = s.warmFolios % 2 ^ F_TOP_WARM_FOLIOS_COUNT.wid ∧ t.fld F_TOP_META_SIZE_COUNT = s.metaFolios (s.fld F_TOP_HOT_FOLIOS_COUNT + s.warmFolios) % 2 ^ F_TOP_META_SIZE_COUNT.wid ∧
        t.fld F_TOP_BOOT_STATUS_POOL_READY = 1 ∧ t.mg.pdr = some s.populated ∧
        t.fld F_TN_MAP_POOL_FREE_FREE = s.bt.mapFactor * (s.fld F_TOP_HOT_FOLIOS_COUNT + s.warmFolios) % 2 ^ F_TN_MAP_POOL_FREE_FREE.wid ∧
        t.map.zeroing = cutRun 0 s.map.spares.1 s.map.device ++ cutRun warmBase (s.warmFolios - (s.metaFolios (s.fld F_TOP_HOT_FOLIOS_COUNT + s.warmFolios))) []) ∧
  (∀ (s : State),
      (s.training = false ∨ s.fld F_TOP_BOOT_STATUS_POOL_READY = 1 ∨ s.fld F_TOP_BOOT_STATUS_NO_POOL = 1 ∨ (∃ c ∈ List.range 16, (s.dram c).trained = false) ∨ (s.fld F_TOP_BOOT_STATUS_HOT_READY ≠ 1 ∧ (s.stacksTrained = false ∨ s.fld F_HB_STATUS_SET ≠ 0))) →
      Leads .poolReady s fun t => t = s) ∧
  (∀ (s : State),
      s.ck.power = 0 →
      s.er.action = .reset →
      s.er.due ≤ s.now →
      Leads .deviceReset s fun t => t.fld F_RS_CAUSE_CAUSE = 2 ∧ t.fld F_RS_CAUSE_KIND = s.er.kind % 2 ^ F_RS_CAUSE_KIND.wid ∧
        t.fld F_RS_DEV_CNT_COUNT = min (s.fld F_RS_DEV_CNT_COUNT + 1) (2 ^ F_RS_DEV_CNT_COUNT.wid - 1) ∧
        t.mem = s.mem ∧ t.now = s.now ∧ t.q = {} ∧ t.er.action = .none ∧ t.bt.resetAt = none ∧ t.pw.due = s.pw.due) ∧
  (∀ (s : State),
      s.ck.power = 0 →
      s.er.action ≠ .reset →
      s.bt.resetAt.any (fun z => decide (z ≤ s.now)) = true →
      Leads .deviceReset s fun t => t.fld F_RS_CAUSE_CAUSE = 1 ∧ t.fld F_RS_CAUSE_KIND = 0 ∧
        t.fld F_RS_DEV_CNT_COUNT = min (s.fld F_RS_DEV_CNT_COUNT + 1) (2 ^ F_RS_DEV_CNT_COUNT.wid - 1) ∧
        t.mem = s.mem ∧ t.now = s.now ∧ t.q = {} ∧ t.er.action = .none ∧ t.bt.resetAt = none ∧ t.pw.due = s.pw.due) ∧
  (∀ (s : State),
      (s.ck.power ≠ 0 ∨ (s.er.action = .reset ∧ s.now < s.er.due) ∨ (s.er.action ≠ .reset ∧ s.bt.resetAt.any (fun z => decide (z ≤ s.now)) = false)) →
      Leads .deviceReset s fun t => t = s) ∧
  (∀ (s : State),
      s.ck.power = 0 →
      s.er.action = .reset →
      s.er.due ≤ s.now →
      Leads .fatalResetDelay s fun t => t.fld F_RS_CAUSE_CAUSE = 2 ∧ t.fld F_RS_CAUSE_KIND = s.er.kind % 2 ^ F_RS_CAUSE_KIND.wid ∧
        t.fld F_RS_DEV_CNT_COUNT = min (s.fld F_RS_DEV_CNT_COUNT + 1) (2 ^ F_RS_DEV_CNT_COUNT.wid - 1) ∧
        t.mem = s.mem ∧ t.now = s.now ∧ t.q = {} ∧ t.er.action = .none ∧ t.bt.resetAt = none ∧ t.pw.due = s.pw.due) ∧
  (∀ (s : State),
      (s.ck.power ≠ 0 ∨ s.er.action ≠ .reset ∨ s.now < s.er.due) →
      Leads .fatalResetDelay s fun t => t = s) ∧
  (∀ (s : State),
      s.ck.power = 0 →
      s.er.action = .none →
      s.bt.resetAt.any (fun z => decide (z ≤ s.now)) = true →
      Leads .adminResetDelay s fun t => t.fld F_RS_CAUSE_CAUSE = 1 ∧ t.fld F_RS_CAUSE_KIND = 0 ∧
        t.fld F_RS_DEV_CNT_COUNT = min (s.fld F_RS_DEV_CNT_COUNT + 1) (2 ^ F_RS_DEV_CNT_COUNT.wid - 1) ∧
        t.mem = s.mem ∧ t.now = s.now ∧ t.q = {} ∧ t.er.action = .none ∧ t.bt.resetAt = none ∧ t.pw.due = s.pw.due) ∧
  (∀ (s : State),
      (s.ck.power ≠ 0 ∨ s.er.action ≠ .none ∨ s.bt.resetAt.any (fun z => decide (z ≤ s.now)) = false) →
      Leads .adminResetDelay s fun t => t = s) ∧
  (∀ (s : State),
      s.firmwareUp = true →
      s.fld F_SE_STATUS_TRIAL = 1 →
      s.fld F_TOP_BOOT_STATUS_MEM_WAIT = 0 →
      s.se.healthy = false →
      Leads .trialTimeout s fun t => t.fld F_RS_CAUSE_CAUSE = 4 ∧ t.fld F_RS_CAUSE_KIND = 0 ∧
        t.fld F_RS_DEV_CNT_COUNT = min (s.fld F_RS_DEV_CNT_COUNT + 1) (2 ^ F_RS_DEV_CNT_COUNT.wid - 1) ∧
        t.mem = s.mem ∧ t.now = s.now ∧ t.q = {} ∧ t.er.action = .none ∧ t.bt.resetAt = none ∧ t.pw.due = s.pw.due) ∧
  (∀ (s : State),
      (s.firmwareUp = false ∨ s.fld F_SE_STATUS_TRIAL ≠ 1 ∨ s.fld F_TOP_BOOT_STATUS_MEM_WAIT ≠ 0 ∨ s.se.healthy = true) →
      Leads .trialTimeout s fun t => t = s) ∧
  (∀ (s : State),
      Leads .coldReset s fun t => t.mem = [] ∧ t.now = 0 ∧ t.q = {} ∧ t.ks = [] ∧ t.pw.due = true ∧ t.pw.run = none ∧ t.pw.failed = 0 ∧
        t.bt.thermtrip = false ∧ t.ck.power = 0 ∧ t.se.fuses = s.se.fuses ∧ t.er.storeValid = s.er.storeValid ∧ t.er.store = s.er.store ∧
        (s.bt.thermtrip = true → Msg.pin .thermtripN true ∈ t.outbox))

/-- A control core that breaks a lock or hangs is halted and what it served ends E_ABORTED with DETAIL 0xC0 or 0xC1; with fewer than two
cores left the device is lost. A reload brings the core back, or an out one to rest, or its failure is fatal. A fatal error fills the empty
fatal store, drives ALERT_N and calls for its action. A queued recovery starts once none runs: a retraining, a migration, what is still
under way, or it ends at once where its cause is gone. The read pointer moves within the last 256 records and is otherwise refused; ACK
empties the store. Each changes nothing without its condition. (R658, R661, R663, R665, R667, R672, R673, R674, R675, R761,
20_errors_and_recovery.md) -/
def Obligations.ErrorCommandsTakeEffect : Prop :=
  (∀ (s : State) (k : Nat) (n : Nat) (l : List Nat),
      k < 8 →
      s.coreUp k = true →
      s.firmwareUp = true →
      Leads (.lockBreak k n l) s fun t => (t.core k).halted = true ∧ t.coreUp k = false ∧
        (∀ d ∈ l, (s.desc? d).isSome = true → (s.desc d).stage ≠ .done → Ended t d .aborted ∧ (t.desc d).detail = 0xC0) ∧
        (((List.range 8).filter (fun j => j != k && s.coreUp j)).length < 2 → t.er.storeValid = true ∧ t.er.action ≠ .none)) ∧
  (∀ (s : State) (k : Nat) (n : Nat) (l : List Nat),
      (8 ≤ k ∨ s.coreUp k = false ∨ s.firmwareUp = false) →
      Leads (.lockBreak k n l) s fun t => t = s) ∧
  (∀ (s : State) (k : Nat) (l : List Nat),
      k < 8 →
      s.coreUp k = true →
      s.firmwareUp = true →
      Leads (.coreHang k l) s fun t => (t.core k).halted = true ∧ t.coreUp k = false ∧
        (∀ d ∈ l, (s.desc? d).isSome = true → (s.desc d).stage ≠ .done → Ended t d .aborted ∧ (t.desc d).detail = 0xC1) ∧
        (((List.range 8).filter (fun j => j != k && s.coreUp j)).length < 2 → t.er.storeValid = true ∧ t.er.action ≠ .none)) ∧
  (∀ (s : State) (k : Nat) (l : List Nat),
      (8 ≤ k ∨ s.coreUp k = false ∨ s.firmwareUp = false) →
      Leads (.coreHang k l) s fun t => t = s) ∧
  (∀ (s : State) (k : Nat),
      (s.core k).halted = true →
      s.firmwareUp = true →
      (s.core k).out = false →
      Leads (.coreReload k true) s fun t => t.core k = {} ∧ (t.unitRec (unitKey 17 k)).running = none ∧ t.q = s.q) ∧
  (∀ (s : State) (k : Nat) (v : Bool),
      (s.core k).halted = true →
      s.firmwareUp = true →
      (s.core k).out = true →
      Leads (.coreReload k v) s fun t => t.core k = { s.core k with halted := false } ∧ t.coreUp k = false ∧ t.q = s.q) ∧
  (∀ (s : State) (k : Nat),
      (s.core k).halted = true →
      s.firmwareUp = true →
      (s.core k).out = false →
      Leads (.coreReload k false) s fun t => t.er.storeValid = true ∧ t.er.alert = true ∧ t.er.action ≠ .none ∧ (t.core k).halted = true) ∧
  (∀ (s : State) (k : Nat) (v : Bool),
      ((s.core k).halted = false ∨ s.firmwareUp = false) →
      Leads (.coreReload k v) s fun t => t = s) ∧
  (∀ (s : State) (n : Nat) (k : Nat) (c : Nat) (v : Nat),
      s.firmwareUp = true →
      n < 8 →
      Leads (.fatalError 0x42 n k c v) s fun t => t.er.storeValid = true ∧ t.er.alert = true ∧ t.er.action ≠ .none ∧
        (s.er.storeValid = false → t.er.store.kind = 0x42 ∧ t.er.store.inst = n) ∧ (s.er.storeValid = true → t.er.store = s.er.store)) ∧
  (∀ (s : State) (n : Nat) (k : Nat) (c : Nat) (v : Nat),
      s.firmwareUp = true →
      (s.unitRec (unitKey c v)).running.isSome = true →
      Leads (.fatalError 0x46 n k c v) s fun t => t.er.storeValid = true ∧ t.er.alert = true ∧ t.er.action ≠ .none ∧
        (s.er.storeValid = false → t.er.store.kind = 0x46 ∧ t.er.store.utype = 20) ∧ (s.er.storeValid = true → t.er.store = s.er.store)) ∧
  (∀ (s : State) (m : Nat) (n : Nat) (k : Nat) (c : Nat) (v : Nat),
      (s.firmwareUp = false ∨ (m ≠ 0x42 ∧ m ≠ 0x46) ∨ (m = 0x42 ∧ 8 ≤ n) ∨ (m = 0x46 ∧ (s.unitRec (unitKey c v)).running = none)) →
      Leads (.fatalError m n k c v) s fun t => t = s) ∧
  (∀ (s : State) (c : Nat) (n : Nat) (r : Nat),
      (s.unitRec (unitKey c n)).running = none →
      (s.unitRec (unitKey c n)).queued = some r →
      c = 17 →
      (s.core n).halted = true →
      Leads (.recoveryQueuedStart c n) s fun t => t.unitRec (unitKey c n) = { s.unitRec (unitKey c n) with running := some r, queued := none }) ∧
  (∀ (s : State) (c : Nat) (n : Nat) (r : Nat),
      (s.unitRec (unitKey c n)).running = none →
      (s.unitRec (unitKey c n)).queued = some r →
      c = 17 →
      (s.core n).halted = false →
      Leads (.recoveryQueuedStart c n) s fun t => t.unitRec (unitKey c n) = { s.unitRec (unitKey c n) with running := none, queued := none }) ∧
  (∀ (s : State) (c : Nat) (n : Nat) (r : Nat),
      (s.unitRec (unitKey c n)).running = none →
      (s.unitRec (unitKey c n)).queued = some r →
      c = 6 →
      s.cr.cmds.any (fun c => c.2.tasks.any (fun t => t.redo == some n)) = true →
      Leads (.recoveryQueuedStart c n) s fun t => t.unitRec (unitKey c n) = { s.unitRec (unitKey c n) with running := some r, queued := none }) ∧
  (∀ (s : State) (c : Nat) (n : Nat) (r : Nat),
      (s.unitRec (unitKey c n)).running = none →
      (s.unitRec (unitKey c n)).queued = some r →
      c = 6 →
      s.cr.cmds.any (fun c => c.2.tasks.any (fun t => t.redo == some n)) = false →
      Leads (.recoveryQueuedStart c n) s fun t => t.unitRec (unitKey c n) = { s.unitRec (unitKey c n) with running := none, queued := none }) ∧
  (∀ (s : State) (c : Nat) (n : Nat) (r : Nat),
      (s.unitRec (unitKey c n)).running = none →
      (s.unitRec (unitKey c n)).queued = some r →
      c ≠ 6 →
      c ≠ 10 →
      c ≠ 11 →
      c ≠ 17 →
      Leads (.recoveryQueuedStart c n) s fun t => t.unitRec (unitKey c n) = { s.unitRec (unitKey c n) with running := none, queued := none }) ∧
  (∀ (s : State) (c : Nat) (n : Nat) (r : Nat),
      (s.unitRec (unitKey c n)).running = none →
      (s.unitRec (unitKey c n)).queued = some r →
      c = 10 →
      ((s.ringRec r).map (·.kind)).getD 0x23 ≠ 0x25 →
      s.unitState n = 2 →
      n < 16 →
      Leads (.recoveryQueuedStart c n) s fun t => t.unitRec (unitKey c n) = { s.unitRec (unitKey c n) with running := some r, queued := none } ∧ t.unitState n = 3 ∧
        t.fld F_MC_RETRAIN_CNT_RETRAIN = min (s.fld F_MC_RETRAIN_CNT_RETRAIN + 1) (2 ^ F_MC_RETRAIN_CNT_RETRAIN.wid - 1)) ∧
  (∀ (s : State) (c : Nat) (n : Nat) (r : Nat),
      (s.unitRec (unitKey c n)).running = none →
      (s.unitRec (unitKey c n)).queued = some r →
      c = 11 →
      ((s.ringRec r).map (·.kind)).getD 0x23 ≠ 0x26 →
      s.unitState (16 + n) = 2 →
      Leads (.recoveryQueuedStart c n) s fun t => t.unitRec (unitKey c n) = { s.unitRec (unitKey c n) with running := some r, queued := none } ∧ t.unitState (16 + n) = 3) ∧
  (∀ (s : State) (c : Nat) (n : Nat) (r : Nat),
      (s.unitRec (unitKey c n)).running = none →
      (s.unitRec (unitKey c n)).queued = some r →
      c = 10 →
      ((s.ringRec r).map (·.kind)).getD 0x23 ≠ 0x25 →
      s.unitState n ≠ 2 →
      n < 16 →
      Leads (.recoveryQueuedStart c n) s fun t => t.unitRec (unitKey c n) = { s.unitRec (unitKey c n) with running := none, queued := none }) ∧
  (∀ (s : State) (c : Nat) (n : Nat) (r : Nat),
      (s.unitRec (unitKey c n)).running = none →
      (s.unitRec (unitKey c n)).queued = some r →
      c = 11 →
      ((s.ringRec r).map (·.kind)).getD 0x23 ≠ 0x26 →
      s.unitState (16 + n) ≠ 2 →
      Leads (.recoveryQueuedStart c n) s fun t => t.unitRec (unitKey c n) = { s.unitRec (unitKey c n) with running := none, queued := none }) ∧
  (∀ (s : State) (c : Nat) (n : Nat) (r : Nat),
      (s.unitRec (unitKey c n)).running = none →
      (s.unitRec (unitKey c n)).queued = some r →
      c = 10 →
      ((s.ringRec r).map (·.kind)).getD 0x23 = 0x25 →
      (s.dram n).trig = [] →
      Leads (.recoveryQueuedStart c n) s fun t => t.unitRec (unitKey c n) = { s.unitRec (unitKey c n) with running := none, queued := none }) ∧
  (∀ (s : State) (c : Nat) (n : Nat) (r : Nat),
      (s.unitRec (unitKey c n)).running = none →
      (s.unitRec (unitKey c n)).queued = some r →
      c = 11 →
      ((s.ringRec r).map (·.kind)).getD 0x23 = 0x26 →
      s.mc.remap.any (fun r => r.copying && s.unitOf (r.dfn * 256) == 16 + n) = false →
      Leads (.recoveryQueuedStart c n) s fun t => t.unitRec (unitKey c n) = { s.unitRec (unitKey c n) with running := none, queued := none }) ∧
  (∀ (s : State) (c : Nat) (n : Nat) (r : Nat),
      (s.unitRec (unitKey c n)).running = none →
      (s.unitRec (unitKey c n)).queued = some r →
      c = 11 →
      ((s.ringRec r).map (·.kind)).getD 0x23 = 0x26 →
      s.mc.remap.any (fun r => r.copying && s.unitOf (r.dfn * 256) == 16 + n) = true →
      Leads (.recoveryQueuedStart c n) s fun t => t.unitRec (unitKey c n) = { s.unitRec (unitKey c n) with running := some r, queued := none }) ∧
  (∀ (s : State) (c : Nat) (n : Nat) (r : Nat),
      (s.unitRec (unitKey c n)).running = none →
      (s.unitRec (unitKey c n)).queued = some r →
      c = 10 →
      ((s.ringRec r).map (·.kind)).getD 0x23 = 0x25 →
      (s.dram n).trig ≠ [] →
      (s.unitState n ≠ 2 ∨ (s.dram n).rankIn 2 = none) →
      Leads (.recoveryQueuedStart c n) s fun t => t.unitRec (unitKey c n) = { s.unitRec (unitKey c n) with running := none, queued := none }) ∧
  (∀ (s : State) (c : Nat) (n : Nat) (r : Nat) (a : Nat) (b : Nat),
      (s.unitRec (unitKey c n)).running = none →
      (s.unitRec (unitKey c n)).queued = some r →
      c = 10 →
      ((s.ringRec r).map (·.kind)).getD 0x23 = 0x25 →
      n < 16 →
      (s.dram n).trig.head?.map (·.1) = some a →
      (s.dram n).rankIn 2 = some b →
      s.unitState n = 2 →
      Leads (.recoveryQueuedStart c n) s fun t => t.unitRec (unitKey c n) = { s.unitRec (unitKey c n) with running := some r, queued := none } ∧ (t.dram n).migr.isSome = true ∧
        t.fld F_MC_CH_MIGR_ACTIVE n = 1 ∧ t.fld F_MC_CH_MIGR_SRC n = a % 2 ^ F_MC_CH_MIGR_SRC.wid ∧ t.fld F_MC_CH_MIGR_TGT n = b % 2 ^ F_MC_CH_MIGR_TGT.wid) ∧
  (∀ (s : State) (c : Nat) (n : Nat) (r : Nat),
      (s.unitRec (unitKey c n)).running = none →
      (s.unitRec (unitKey c n)).queued = some r →
      Leads (.recoveryQueuedStart c n) s fun t => (t.unitRec (unitKey c n)).queued = none) ∧
  (∀ (s : State) (c : Nat) (n : Nat),
      ((s.unitRec (unitKey c n)).running.isSome = true ∨ (s.unitRec (unitKey c n)).queued = none) →
      Leads (.recoveryQueuedStart c n) s fun t => t = s) ∧
  (∀ (s : State) (p : Port) (v : Nat),
      s.answers p (bar0 17 4) = true →
      pfOrFw p = true →
      (s.fld F_ER_WPTR_WPTR + 2 ^ 32 - v % 2 ^ 32) % 2 ^ 32 ≤ 256 →
      Leads (.erRptrWrite p v) s fun t => t = (s.dropStage p).setFld F_ER_RPTR_RPTR v ∧ t.fld F_ER_RPTR_RPTR = v % 2 ^ 32) ∧
  (∀ (s : State) (p : Port) (v : Nat),
      s.answers p (bar0 17 4) = true →
      pfOrFw p = true →
      256 < (s.fld F_ER_WPTR_WPTR + 2 ^ 32 - v % 2 ^ 32) % 2 ^ 32 →
      Leads (.erRptrWrite p v) s fun t => t = (s.dropStage p).badAccess p (bar0 17 4) ∧ t.fld F_ER_RPTR_RPTR = s.fld F_ER_RPTR_RPTR) ∧
  (∀ (s : State) (p : Port) (v : Nat),
      s.answers p (bar0 17 4) = true →
      pfOrFw p = false →
      Leads (.erRptrWrite p v) s fun t => t.fld F_ER_RPTR_RPTR = s.fld F_ER_RPTR_RPTR ∧ t.fld F_TOP_BAD_ACCESS_ADDR_OFFSET = bar0 17 4) ∧
  (∀ (s : State) (p : Port) (v : Nat),
      s.answers p (bar0 17 4) = false →
      Leads (.erRptrWrite p v) s fun t => t.fld F_ER_RPTR_RPTR = s.fld F_ER_RPTR_RPTR ∧ t.regs = s.regs) ∧
  (∀ (s : State) (p : Port),
      s.answers p (bar0 17 0x10) = true →
      pfOrFw p = true →
      Leads (.fatalAck p) s fun t => t.er = { s.er with store := {}, storeValid := false, storeCount := 0 } ∧ t.regs = (s.dropStage p).regs) ∧
  (∀ (s : State) (p : Port),
      s.answers p (bar0 17 0x10) = true →
      pfOrFw p = false →
      Leads (.fatalAck p) s fun t => t.er = s.er ∧ t.fld F_TOP_BAD_ACCESS_ADDR_OFFSET = bar0 17 0x10) ∧
  (∀ (s : State) (p : Port),
      s.answers p (bar0 17 0x10) = false →
      Leads (.fatalAck p) s fun t => t.er = s.er ∧ t.regs = s.regs)

/-- A calibration set is judged and its flash write started, or refused with its failing check and section; the set in flash is returned, or
refused where it is longer than asked. RESET sets the time of the device reset, kept when one is due. A boot header is judged and its write
started, or refused with the offset at fault; what the header block holds is returned. Each is refused E_BUSY while a write that excludes it
runs. A flash write that ends well stands in flash, one that fails leaves free values with its mark, and S5 that waited is entered. Data
that the host cannot take ends the command E_ABORTED or waits for its link. Without its command each changes nothing. (R606, R703, R704,
R705, R718, R719, R723, R724, R725, R726, R759, 21_bring_up_and_calibration.md) -/
def Obligations.AdminCommandsComplete : Prop :=
  (∀ (s : State) (d : Nat) (b : List Byte) (x : Desc),
      Runs s d 0x7E x →
      x.e.flag 8 = false →
      s.noHost x.q = false →
      s.calWriting = false →
      s.updating = false →
      Leads (.calWrite d b) s fun t => (t.desc d).stage = .done ∧ (t.desc d).res = calResult (calBytes ((b ++ List.replicate x.e.len 0).take x.e.len)) (leAt ((b ++ List.replicate x.e.len 0).take x.e.len) 8 4) (calFault ((b ++ List.replicate x.e.len 0).take x.e.len)) ∧
        (t.desc d).status = (if (calFault ((b ++ List.replicate x.e.len 0).take x.e.len)).1 = 0 then .ok else .param) ∧
        ((calFault ((b ++ List.replicate x.e.len 0).take x.e.len)).1 = 0 → t.bt = { s.bt with calNew := some (calBytes ((b ++ List.replicate x.e.len 0).take x.e.len)) } ∧ t.calWriting = true) ∧
        ((calFault ((b ++ List.replicate x.e.len 0).take x.e.len)).1 ≠ 0 → t.bt = s.bt ∧ t.calWriting = false)) ∧
  (∀ (s : State) (d : Nat) (b : List Byte) (x : Desc),
      Runs s d 0x7E x →
      x.e.flag 8 = false →
      s.noHost x.q = false →
      (s.calWriting = true ∨ s.updating = true) →
      Leads (.calWrite d b) s fun t => Ended t d .busy ∧ t.bt = s.bt) ∧
  (∀ (s : State) (d : Nat) (b : List Byte),
      (((s.desc d).runs? 0x7E && !(s.desc d).e.flag 8) = false ∨ s.noHost (s.desc d).q = true) →
      Leads (.calWrite d b) s fun t => t = s) ∧
  (∀ (s : State) (d : Nat) (x : Desc),
      Runs s d 0x7E x →
      x.e.flag 8 = true →
      s.calWriting = false →
      s.updating = false →
      (if s.bt.calBad.1 = 1 then erasedTo 1048576 s.bt.cal else calBytes s.bt.cal).length ≤ x.e.len →
      (s.queue x.outQ).isLink = false →
      s.noHost x.q = false →
      s.hostFault = none →
      Leads (.calWriteReadback d) s fun t => Ended t d .ok ∧ (t.desc d).res = calResult (if s.bt.calBad.1 = 1 then erasedTo 1048576 s.bt.cal else calBytes s.bt.cal) (if s.bt.calBad.1 = 1 then erasedTo 1048576 s.bt.cal else calBytes s.bt.cal).length s.bt.calBad ∧
        Msg.hostWrite (s.queue x.outQ).fn x.e.opB ((if s.bt.calBad.1 = 1 then erasedTo 1048576 s.bt.cal else calBytes s.bt.cal)) ∈ t.outbox) ∧
  (∀ (s : State) (d : Nat) (x : Desc) (c : Nat),
      Runs s d 0x7E x →
      x.e.flag 8 = true →
      s.calWriting = false →
      s.updating = false →
      (if s.bt.calBad.1 = 1 then erasedTo 1048576 s.bt.cal else calBytes s.bt.cal).length ≤ x.e.len →
      (s.queue x.outQ).isLink = false →
      s.noHost x.q = false →
      s.hostFault = some c →
      Leads (.calWriteReadback d) s fun t => Ended t d .aborted ∧ (t.desc d).detail = c ∧ t.outbox = s.outbox) ∧
  (∀ (s : State) (d : Nat) (x : Desc),
      Runs s d 0x7E x →
      x.e.flag 8 = true →
      s.calWriting = false →
      s.updating = false →
      (if s.bt.calBad.1 = 1 then erasedTo 1048576 s.bt.cal else calBytes s.bt.cal).length ≤ x.e.len →
      (s.queue x.outQ).isLink = false →
      s.noHost x.q = true →
      Leads (.calWriteReadback d) s fun t => (t.desc d).stage = .wait .linkOut ∧ (t.desc d).data = (if s.bt.calBad.1 = 1 then erasedTo 1048576 s.bt.cal else calBytes s.bt.cal) ∧ (t.desc d).res = calResult (if s.bt.calBad.1 = 1 then erasedTo 1048576 s.bt.cal else calBytes s.bt.cal) (if s.bt.calBad.1 = 1 then erasedTo 1048576 s.bt.cal else calBytes s.bt.cal).length s.bt.calBad) ∧
  (∀ (s : State) (d : Nat) (x : Desc),
      Runs s d 0x7E x →
      x.e.flag 8 = true →
      s.calWriting = false →
      s.updating = false →
      (if s.bt.calBad.1 = 1 then erasedTo 1048576 s.bt.cal else calBytes s.bt.cal).length ≤ x.e.len →
      (s.queue x.outQ).isLink = true →
      Leads (.calWriteReadback d) s fun t => (t.desc d).stage = .wait .linkOut ∨ (t.desc d).stage = .wait .dataOut ∨ Ended t d .retired) ∧
  (∀ (s : State) (d : Nat) (x : Desc),
      Runs s d 0x7E x →
      x.e.flag 8 = true →
      s.calWriting = false →
      s.updating = false →
      x.e.len < (if s.bt.calBad.1 = 1 then erasedTo 1048576 s.bt.cal else calBytes s.bt.cal).length →
      Leads (.calWriteReadback d) s fun t => Ended t d .param ∧ (t.desc d).res = calResult (if s.bt.calBad.1 = 1 then erasedTo 1048576 s.bt.cal else calBytes s.bt.cal) (if s.bt.calBad.1 = 1 then erasedTo 1048576 s.bt.cal else calBytes s.bt.cal).length s.bt.calBad ∧ t.outbox = s.outbox) ∧
  (∀ (s : State) (d : Nat) (x : Desc),
      Runs s d 0x7E x →
      x.e.flag 8 = true →
      (s.calWriting = true ∨ s.updating = true) →
      Leads (.calWriteReadback d) s fun t => Ended t d .busy ∧ t.outbox = s.outbox) ∧
  (∀ (s : State) (d : Nat),
      ((s.desc d).runs? 0x7E && (s.desc d).e.flag 8) = false →
      Leads (.calWriteReadback d) s fun t => t = s) ∧
  (∀ (s : State) (b : List Byte),
      s.bt.calNew = some b →
      s.hdrWriting = false →
      s.ck.entry ≠ 6 →
      Leads (.calFlashWriteDone true) s fun t => t.bt.cal = b ∧ t.bt.calBad = calFault b ∧ t.bt.calNew = none ∧ t.fld F_TOP_CAL_STATUS_WRITE = 2) ∧
  (∀ (s : State) (b : List Byte),
      s.bt.calNew = some b →
      s.hdrWriting = false →
      s.ck.entry ≠ 6 →
      Leads (.calFlashWriteDone false) s fun t => t.bt.calNew = none ∧ t.fld F_TOP_CAL_STATUS_WRITE = 3 ∧ 1 ≤ t.bt.calBad.1 ∧
        t.bt.calBad.1 ≤ 6 ∧ t.bt.cal = Config.cutFlash s.fresh ∧ t.fresh = s.fresh + 1) ∧
  (∀ (s : State) (v : Bool) (b : List Byte),
      s.bt.calNew = some b →
      s.hdrWriting = false →
      s.ck.entry = 6 →
      Leads (.calFlashWriteDone v) s fun t => t.ck.power = 2 ∧ t.mem = [] ∧ t.q = {}) ∧
  (∀ (s : State) (v : Bool),
      (s.bt.calNew = none ∨ s.hdrWriting = true) →
      Leads (.calFlashWriteDone v) s fun t => t = s) ∧
  (∀ (s : State) (d : Nat) (x : Desc),
      Runs s d 0x7F x →
      x.e.opA = 1 →
      (x.e.flag 8 = true ∨ (s.calWriting = false ∧ s.hdrWriting = false ∧ s.updating = false)) →
      Leads (.adminReset d) s fun t => Ended t d .ok ∧ t.bt.resetAt = some (s.bt.resetAt.getD (s.now + 1000000)) ∧
        t.fld F_TOP_ADMIN_STATUS_RESET_PENDING = 1 ∧ (t.desc d).res = { w0 := (s.bt.resetAt.getD (s.now + 1000000)) % 2 ^ 32, w1 := (s.bt.resetAt.getD (s.now + 1000000)) / 2 ^ 32, w2 := s.fld F_RS_DEV_CNT_COUNT }) ∧
  (∀ (s : State) (d : Nat) (x : Desc),
      Runs s d 0x7F x →
      x.e.opA = 1 →
      x.e.flag 8 = false →
      (s.calWriting = true ∨ s.hdrWriting = true ∨ s.updating = true) →
      Leads (.adminReset d) s fun t => Ended t d .busy ∧ (t.desc d).detail = 1 ∧ t.bt = s.bt) ∧
  (∀ (s : State) (d : Nat),
      ((s.desc d).runs? 0x7F && (s.desc d).e.opA == 1) = false →
      Leads (.adminReset d) s fun t => t = s) ∧
  (∀ (s : State) (d : Nat) (b : List Byte) (x : Desc),
      Runs s d 0x7F x →
      x.e.opA = 3 →
      s.noHost x.q = false →
      s.calWriting = false →
      s.updating = false →
      s.hdrWriting = false →
      headerFault ((b ++ List.replicate 256 0).take 256) = none →
      Leads (.headerWrite d b) s fun t => Ended t d .ok ∧ t.bt = { s.bt with hdrNew := some ((b ++ List.replicate 256 0).take 256) } ∧
        t.hdrWriting = true ∧ (t.desc d).res = { w0 := leAt ((b ++ List.replicate 256 0).take 256) 0xFC 4, w2 := 0xFFFF_FFFF }) ∧
  (∀ (s : State) (d : Nat) (b : List Byte) (x : Desc) (n : Nat),
      Runs s d 0x7F x →
      x.e.opA = 3 →
      s.noHost x.q = false →
      s.calWriting = false →
      s.updating = false →
      s.hdrWriting = false →
      headerFault ((b ++ List.replicate 256 0).take 256) = some n →
      Leads (.headerWrite d b) s fun t => Ended t d .param ∧ t.bt = s.bt ∧ t.hdrWriting = false ∧
        (t.desc d).res = { w0 := leAt ((b ++ List.replicate 256 0).take 256) 0xFC 4, w2 := n }) ∧
  (∀ (s : State) (d : Nat) (b : List Byte) (x : Desc),
      Runs s d 0x7F x →
      x.e.opA = 3 →
      s.noHost x.q = false →
      (s.calWriting = true ∨ s.hdrWriting = true ∨ s.updating = true) →
      Leads (.headerWrite d b) s fun t => Ended t d .busy ∧ (t.desc d).detail = 1 ∧ t.bt = s.bt) ∧
  (∀ (s : State) (d : Nat) (b : List Byte),
      (((s.desc d).runs? 0x7F && (s.desc d).e.opA == 3) = false ∨ s.noHost (s.desc d).q = true) →
      Leads (.headerWrite d b) s fun t => t = s) ∧
  (∀ (s : State) (b : List Byte),
      s.bt.hdrNew = some b →
      s.ck.entry ≠ 6 →
      Leads (.headerFlashWriteDone true) s fun t => t.bt = { s.bt with header := b, headerCut := false, hdrNew := none } ∧ t.fld F_TOP_ADMIN_STATUS_HDR_WRITE = 2) ∧
  (∀ (s : State) (b : List Byte),
      s.bt.hdrNew = some b →
      s.ck.entry ≠ 6 →
      Leads (.headerFlashWriteDone false) s fun t => t.bt = { s.bt with header := Config.cutFlash s.fresh, headerCut := true, hdrNew := none } ∧
        t.fld F_TOP_ADMIN_STATUS_HDR_WRITE = 3 ∧ t.fresh = s.fresh + 1) ∧
  (∀ (s : State) (v : Bool) (b : List Byte),
      s.bt.hdrNew = some b →
      s.ck.entry = 6 →
      s.calWriting = false →
      Leads (.headerFlashWriteDone v) s fun t => t.ck.power = 2 ∧ t.mem = [] ∧ t.q = {}) ∧
  (∀ (s : State) (v : Bool) (b : List Byte),
      s.bt.hdrNew = some b →
      s.ck.entry = 6 →
      s.calWriting = true →
      Leads (.headerFlashWriteDone v) s fun t => t.ck.power = s.ck.power ∧ t.ck.entry = 6 ∧ t.bt.hdrNew = none) ∧
  (∀ (s : State) (v : Bool),
      s.bt.hdrNew = none →
      Leads (.headerFlashWriteDone v) s fun t => t = s) ∧
  (∀ (s : State) (d : Nat) (x : Desc),
      Runs s d 0x7F x →
      x.e.opA = 4 →
      (s.queue x.outQ).isLink = false →
      s.noHost x.q = false →
      s.hostFault = none →
      Leads (.headerRead d) s fun t => Ended t d .ok ∧ (t.desc d).res = { w0 := b2n (leAt s.headerBlock 0xFC 4 == crc32 (s.headerBlock.take 0xFC)) + 2 * b2n (leAt s.headerBlock 0x110 4 == crc32 ((s.headerBlock.drop 0x100).take 16)) } ∧
        Msg.hostWrite (s.queue x.outQ).fn x.e.opB (s.headerBlock) ∈ t.outbox) ∧
  (∀ (s : State) (d : Nat) (x : Desc) (c : Nat),
      Runs s d 0x7F x →
      x.e.opA = 4 →
      (s.queue x.outQ).isLink = false →
      s.noHost x.q = false →
      s.hostFault = some c →
      Leads (.headerRead d) s fun t => Ended t d .aborted ∧ (t.desc d).detail = c ∧ t.outbox = s.outbox) ∧
  (∀ (s : State) (d : Nat) (x : Desc),
      Runs s d 0x7F x →
      x.e.opA = 4 →
      (s.queue x.outQ).isLink = false →
      s.noHost x.q = true →
      Leads (.headerRead d) s fun t => (t.desc d).stage = .wait .linkOut ∧ (t.desc d).data = s.headerBlock ∧ (t.desc d).res = { w0 := b2n (leAt s.headerBlock 0xFC 4 == crc32 (s.headerBlock.take 0xFC)) + 2 * b2n (leAt s.headerBlock 0x110 4 == crc32 ((s.headerBlock.drop 0x100).take 16)) }) ∧
  (∀ (s : State) (d : Nat) (x : Desc),
      Runs s d 0x7F x →
      x.e.opA = 4 →
      (s.queue x.outQ).isLink = true →
      Leads (.headerRead d) s fun t => (t.desc d).stage = .wait .linkOut ∨ (t.desc d).stage = .wait .dataOut ∨ Ended t d .retired) ∧
  (∀ (s : State) (d : Nat),
      ((s.desc d).runs? 0x7F && (s.desc d).e.opA == 4) = false →
      Leads (.headerRead d) s fun t => t = s)

/-- A GO on the mailbox of a port that has one makes it BUSY, or answers a code that the port has not and a length beyond the buffer; a GO
of another port is counted. Each request of Table 16.8 that a port holds is answered with its result and data: status, identity, a new
nonce, the tamper record, fuse rows (reserved rows and wrong entries refused), the trial images accepted (a loss of power inside this holds
the device and takes no counter back), debug closed (not in BLANK and SCRAPPED). A wrong length is answered as such, and a mailbox without
the request changes nothing. A BMC port reset empties the port, an I3C address is assigned by ENTDAA, or by SETDASA to the static address,
and the token lockout ends after its time. (R468, R507, R517, R523, R526, R527, R544, R545, R548, R549, R550,
16_root_of_trust_and_life_cycle.md) -/
def Obligations.MailboxCommandsComplete : Prop :=
  (∀ (s : State) (v : Bool),
      Leads (.bmcPortReset v) s fun t => t.bank .bmc = {} ∧ (∀ x ∈ t.mg.asm, x.bind ≠ 1) ∧ t.mg.i3c = (if v then 0 else s.mg.i3c) ∧
        t.mem = s.mem ∧ t.regs = s.regs ∧ t.se = s.se) ∧
  (∀ (s : State) (n : Nat),
      (s.ck.power ≤ 1 ∨ s.se.hold = true) →
      1 ≤ n →
      n < 126 →
      Leads (.i3cAddressAssign (.entdaa n)) s fun t => t = { s with mg := { s.mg with i3c := n } }) ∧
  (∀ (s : State) (n : Nat),
      (s.ck.power ≤ 1 ∨ s.se.hold = true) →
      1 ≤ n →
      n < 126 →
      Leads (.i3cAddressAssign (.setdasa i3cStatic n)) s fun t => t = { s with mg := { s.mg with i3c := n } }) ∧
  (∀ (s : State) (n : Nat),
      ((1 < s.ck.power ∧ s.se.hold = false) ∨ n = 0 ∨ 126 ≤ n) →
      Leads (.i3cAddressAssign (.entdaa n)) s fun t => t = s) ∧
  (∀ (s : State) (x : Nat) (n : Nat),
      ((1 < s.ck.power ∧ s.se.hold = false) ∨ n = 0 ∨ 126 ≤ n ∨ x ≠ i3cStatic) →
      Leads (.i3cAddressAssign (.setdasa x n)) s fun t => t = s) ∧
  (∀ (s : State) (p : Port),
      s.answers p mbxCtlOff = true →
      mbxCodes p ≠ [] →
      s.mbxOn p = true →
      (s.mbx p).st ≠ 1 →
      inSet (mbxCodes p) (leAt (s.mbx p).buf 0 2) = true →
      leAt (s.mbx p).buf 2 2 ≤ 1020 →
      Leads (.mailboxGo p) s fun t => t.mbx p = { s.mbx p with st := 1 } ∧ t.regs = (s.dropStage p).regs) ∧
  (∀ (s : State) (p : Port),
      s.answers p mbxCtlOff = true →
      mbxCodes p ≠ [] →
      s.mbxOn p = true →
      (s.mbx p).st ≠ 1 →
      inSet (mbxCodes p) (leAt (s.mbx p).buf 0 2) = false →
      Leads (.mailboxGo p) s fun t => MailAnswered s t p 1 []) ∧
  (∀ (s : State) (p : Port),
      s.answers p mbxCtlOff = true →
      mbxCodes p ≠ [] →
      s.mbxOn p = true →
      (s.mbx p).st ≠ 1 →
      inSet (mbxCodes p) (leAt (s.mbx p).buf 0 2) = true →
      1020 < leAt (s.mbx p).buf 2 2 →
      Leads (.mailboxGo p) s fun t => MailAnswered s t p 2 []) ∧
  (∀ (s : State) (p : Port),
      s.answers p mbxCtlOff = true →
      mbxCodes p ≠ [] →
      (s.mbxOn p = false ∨ (s.mbx p).st = 1) →
      Leads (.mailboxGo p) s fun t => t = s.dropStage p) ∧
  (∀ (s : State) (p : Port),
      s.answers p mbxCtlOff = true →
      mbxCodes p = [] →
      Leads (.mailboxGo p) s fun t => t.se = s.se ∧ t.fld F_TOP_BAD_ACCESS_ADDR_OFFSET = mbxCtlOff) ∧
  (∀ (s : State) (p : Port),
      s.answers p mbxCtlOff = false →
      Leads (.mailboxGo p) s fun t => t = s.dropStage p) ∧
  (∀ (s : State) (p : Port),
      Mailed s p 1 0 →
      Leads (.getStatus p) s fun t => MailAnswered s t p 0 (leBytes 4 s.seStatus ++ leBytes 4 s.seSvn ++ s.se.vbat.register) ∧ t.se.vbat = s.se.vbat) ∧
  (∀ (s : State) (p : Port) (z : Nat),
      Mailed s p 1 z →
      z ≠ 0 →
      Leads (.getStatus p) s fun t => MailAnswered s t p 2 [] ∧ t.se.fuses = s.se.fuses ∧ t.se.debug = s.se.debug) ∧
  (∀ (s : State) (p : Port),
      (s.mbxOn p = false ∨ (s.mbx p).st ≠ 1 ∨ leAt (s.mbx p).buf 0 2 ≠ 1) →
      Leads (.getStatus p) s fun t => t = s) ∧
  (∀ (s : State) (p : Port),
      Mailed s p 2 0 →
      Leads (.getIdentity p) s fun t => t.fresh = s.fresh + 1 ∧ MailAnswered s t p 0
        (((s.classI.map ClassI.device).getD (Config.signature s.fresh) ++ List.replicate 97 0).take 97 ++ s.identity)) ∧
  (∀ (s : State) (p : Port) (z : Nat),
      Mailed s p 2 z →
      z ≠ 0 →
      Leads (.getIdentity p) s fun t => MailAnswered s t p 2 [] ∧ t.se.fuses = s.se.fuses ∧ t.se.debug = s.se.debug) ∧
  (∀ (s : State) (p : Port),
      (s.mbxOn p = false ∨ (s.mbx p).st ≠ 1 ∨ leAt (s.mbx p).buf 0 2 ≠ 2) →
      Leads (.getIdentity p) s fun t => t = s) ∧
  (∀ (s : State) (p : Port),
      Mailed s p 3 0 →
      Leads (.getNonce p) s fun t => MailAnswered s t p 0 (leBytes 32 (Config.nonce s.fresh)) ∧
        kvGet [] t.se.nonces (portCode p) = leBytes 32 (Config.nonce s.fresh) ∧ t.fresh = s.fresh + 1) ∧
  (∀ (s : State) (p : Port) (z : Nat),
      Mailed s p 3 z →
      z ≠ 0 →
      Leads (.getNonce p) s fun t => MailAnswered s t p 2 [] ∧ t.se.fuses = s.se.fuses ∧ t.se.debug = s.se.debug) ∧
  (∀ (s : State) (p : Port),
      (s.mbxOn p = false ∨ (s.mbx p).st ≠ 1 ∨ leAt (s.mbx p).buf 0 2 ≠ 3) →
      Leads (.getNonce p) s fun t => t = s) ∧
  (∀ (s : State) (p : Port),
      Mailed s p 7 0 →
      Leads (.getTamper p) s fun t => MailAnswered s t p 0 s.se.vbat.register ∧ t.se.vbat = s.se.vbat) ∧
  (∀ (s : State) (p : Port) (z : Nat),
      Mailed s p 7 z →
      z ≠ 0 →
      Leads (.getTamper p) s fun t => MailAnswered s t p 2 [] ∧ t.se.fuses = s.se.fuses ∧ t.se.debug = s.se.debug) ∧
  (∀ (s : State) (p : Port),
      (s.mbxOn p = false ∨ (s.mbx p).st ≠ 1 ∨ leAt (s.mbx p).buf 0 2 ≠ 7) →
      Leads (.getTamper p) s fun t => t = s) ∧
  (∀ (s : State) (p : Port),
      Mailed s p 9 4 →
      leAt (s.mailData p 4) 0 1 ≤ 11 →
      leAt (s.mailData p 4) 2 2 ≤ 511 →
      (leAt (s.mailData p 4) 2 2 = 0 ∨ leAt (s.mailData p 4) 0 1 = 11) →
      (leAt (s.mailData p 4) 0 1 < 5 ∨ 7 < leAt (s.mailData p 4) 0 1) →
      Leads (.fuseRead p) s fun t => MailAnswered s t p 0 (s.fuseRow (leAt (s.mailData p 4) 0 1) (leAt (s.mailData p 4) 2 2)) ∧ t.se.fuses = s.se.fuses) ∧
  (∀ (s : State) (p : Port),
      Mailed s p 9 4 →
      5 ≤ leAt (s.mailData p 4) 0 1 →
      leAt (s.mailData p 4) 0 1 ≤ 7 →
      leAt (s.mailData p 4) 2 2 = 0 →
      Leads (.fuseRead p) s fun t => MailAnswered s t p 4 [] ∧ t.se.fuses = s.se.fuses) ∧
  (∀ (s : State) (p : Port),
      Mailed s p 9 4 →
      (11 < leAt (s.mailData p 4) 0 1 ∨ 511 < leAt (s.mailData p 4) 2 2 ∨ (leAt (s.mailData p 4) 2 2 ≠ 0 ∧ leAt (s.mailData p 4) 0 1 ≠ 11)) →
      Leads (.fuseRead p) s fun t => MailAnswered s t p 1 [] ∧ t.se.fuses = s.se.fuses) ∧
  (∀ (s : State) (p : Port) (z : Nat),
      Mailed s p 9 z →
      z ≠ 4 →
      Leads (.fuseRead p) s fun t => MailAnswered s t p 2 [] ∧ t.se.fuses = s.se.fuses ∧ t.se.debug = s.se.debug) ∧
  (∀ (s : State) (p : Port),
      (s.mbxOn p = false ∨ (s.mbx p).st ≠ 1 ∨ leAt (s.mbx p).buf 0 2 ≠ 9) →
      Leads (.fuseRead p) s fun t => t = s) ∧
  (∀ (s : State) (p : Port),
      Mailed s p 10 0 →
      Leads (.fwHealthy p none) s fun t => MailAnswered s t p 0 [] ∧ t.se.healthy = true ∧ t.fld F_SE_STATUS_TRIAL = 0 ∧
        (∀ i, i < 4 → (t.fwSlot i).st = (if (s.fwSlot i).st = 2 then 3 else (s.fwSlot i).st) ∧ (t.fwSlot i).image = (s.fwSlot i).image) ∧
        (∀ i, i < 2 → (s.fwSlot i).st = 2 → min 128 (s.fwSlot i).image.svn ≤ t.se.fuses.rtpSvn.count) ∧
        (∀ i, i < 4 → 2 ≤ i → (s.fwSlot i).st = 2 → min 128 (s.fwSlot i).image.svn ≤ t.se.fuses.ctlSvn.count)) ∧
  (∀ (s : State) (p : Port) (n : Nat),
      Mailed s p 10 0 →
      Leads (.fwHealthy p (some n)) s fun t => t.ck.power = 4 ∧ t.se.fuses.lc = s.se.fuses.lc ∧
        (∀ i, bit s.se.fuses.rtpSvn.read i = true → bit t.se.fuses.rtpSvn.read i = true) ∧ (∀ i, bit s.se.fuses.ctlSvn.read i = true → bit t.se.fuses.ctlSvn.read i = true)) ∧
  (∀ (s : State) (p : Port) (z : Nat) (n : Option Nat),
      Mailed s p 10 z →
      z ≠ 0 →
      Leads (.fwHealthy p n) s fun t => MailAnswered s t p 2 [] ∧ t.se.fuses = s.se.fuses ∧ t.se.debug = s.se.debug) ∧
  (∀ (s : State) (p : Port) (n : Option Nat),
      (s.mbxOn p = false ∨ (s.mbx p).st ≠ 1 ∨ leAt (s.mbx p).buf 0 2 ≠ 10) →
      Leads (.fwHealthy p n) s fun t => t = s) ∧
  (∀ (s : State) (p : Port),
      Mailed s p 5 0 →
      s.lc ≠ 0 →
      s.lc ≠ 4 →
      Leads (.debugLock p) s fun t => MailAnswered s t p 0 [] ∧ t.se.debug = 0 ∧ t.se.signer = 0 ∧ t.fld F_SE_STATUS_DEBUG = 0 ∧ t.fld F_DB_STATUS_DEBUG = 0 ∧ t.ks = s.ks) ∧
  (∀ (s : State) (p : Port),
      Mailed s p 5 0 →
      (s.lc = 0 ∨ s.lc = 4) →
      Leads (.debugLock p) s fun t => MailAnswered s t p 4 [] ∧ t.se.debug = s.se.debug) ∧
  (∀ (s : State) (p : Port) (z : Nat),
      Mailed s p 5 z →
      z ≠ 0 →
      Leads (.debugLock p) s fun t => MailAnswered s t p 2 [] ∧ t.se.fuses = s.se.fuses ∧ t.se.debug = s.se.debug) ∧
  (∀ (s : State) (p : Port),
      (s.mbxOn p = false ∨ (s.mbx p).st ≠ 1 ∨ leAt (s.mbx p).buf 0 2 ≠ 5) →
      Leads (.debugLock p) s fun t => t = s) ∧
  (∀ (s : State),
      s.locked = true →
      s.se.lockedUntil ≤ s.now →
      Leads .tokenLockoutEnd s fun t => t.locked = false ∧ t.se.mbx = s.se.mbx ∧ t.se.nonces = s.se.nonces ∧ t.se.refused = []) ∧
  (∀ (s : State),
      (s.locked = false ∨ s.now < s.se.lockedUntil) →
      Leads .tokenLockoutEnd s fun t => t = s)

/-- A token that passes the checks of R549 is answered OK and its nonce used up: debug is unlocked, and invasive debug destroys the keys;
the life cycle blows INTENT and COMMIT of its new state and resets the device (or, under boundary scan, not), where main power may be lost
in between; a tamper event is acknowledged; the tamper inputs are configured. A refused token is answered with its result and counted, and
leaves everything; a life-cycle state, input, fuse row or length that does not allow the command is answered as such; in the lockout every
token command is answered BUSY. The test access port draws a nonce and takes tokens the same way, without an answer. (R519, R531, R532,
R533, R534, R542, R543, R544, R545, R546, R549, R551) -/
def Obligations.TokenCommandsComplete : Prop :=
  (∀ (s : State) (p : Port) (k : List Byte) (unf : List Nat) (l : List Byte),
      Mailed s p 4 192 →
      s.locked = false →
      s.mailData p 192 = l →
      s.lc ≠ 0 →
      s.lc ≠ 4 →
      s.tokenFault { kind := 1, request := if leAt l 1 1 = 2 then 2 else 1, signer := some (debugSigner s.lc), ports := [portCode p, 100] } l k = 0 →
      Leads (.debugUnlock p k unf) s fun t => MailAnswered s t p 0 [] ∧ t.se.debug = leAt l 1 1 ∧ t.se.signer = debugSigner s.lc + 1 ∧ (∀ x ∈ t.se.nonces, x.2 ≠ (l.drop 0x28).take 32) ∧
        (leAt l 1 1 = 2 ∧ s.lc = 2 → t.se.vbat.wrap = .absent ∧ ∀ i, i < 2048 → (t.slot i).st = .free ∨ (t.slot i).st = .lost)) ∧
  (∀ (s : State) (p : Port) (k : List Byte) (unf : List Nat) (l : List Byte),
      Mailed s p 4 192 →
      s.locked = false →
      s.mailData p 192 = l →
      s.lc ≠ 0 →
      s.lc ≠ 4 →
      s.tokenFault { kind := 1, request := if leAt l 1 1 = 2 then 2 else 1, signer := some (debugSigner s.lc), ports := [portCode p, 100] } l k ≠ 0 →
      Leads (.debugUnlock p k unf) s fun t => MailAnswered s t p (s.tokenFault { kind := 1, request := if leAt l 1 1 = 2 then 2 else 1, signer := some (debugSigner s.lc), ports := [portCode p, 100] } l k) [] ∧ t.se.nonces = s.se.nonces ∧ t.se.debug = s.se.debug ∧ t.se.fuses = s.se.fuses ∧ t.se.vbat = s.se.vbat ∧
        t.fld F_SE_AUTH_FAIL_AUTH = min (s.fld F_SE_AUTH_FAIL_AUTH + 1) (2 ^ F_SE_AUTH_FAIL_AUTH.wid - 1)) ∧
  (∀ (s : State) (p : Port) (k : List Byte) (unf : List Nat),
      Mailed s p 4 192 →
      s.locked = false →
      (s.lc = 0 ∨ s.lc = 4) →
      Leads (.debugUnlock p k unf) s fun t => MailAnswered s t p 4 [] ∧ t.se.debug = s.se.debug) ∧
  (∀ (s : State) (p : Port) (k : List Byte) (unf : List Nat) (z : Nat),
      Mailed s p 4 z →
      z ≠ 192 →
      s.locked = false →
      Leads (.debugUnlock p k unf) s fun t => MailAnswered s t p 2 [] ∧ t.se.fuses = s.se.fuses ∧ t.se.debug = s.se.debug) ∧
  (∀ (s : State) (p : Port) (k : List Byte) (unf : List Nat) (z : Nat),
      Mailed s p 4 z →
      s.locked = true →
      Leads (.debugUnlock p k unf) s fun t => MailAnswered s t p 5 [] ∧ t.se.nonces = s.se.nonces ∧ t.se.fuses = s.se.fuses) ∧
  (∀ (s : State) (p : Port) (k : List Byte) (unf : List Nat),
      (s.mbxOn p = false ∨ (s.mbx p).st ≠ 1 ∨ leAt (s.mbx p).buf 0 2 ≠ 4) →
      Leads (.debugUnlock p k unf) s fun t => t = s) ∧
  (∀ (s : State) (k : List Byte) (unf : List Nat),
      (s.ck.power = 0 ∨ s.se.hold = true) →
      Leads (.dbgAuth none k unf) s fun t => kvGet [] t.se.nonces 100 = leBytes 32 (Config.nonce s.fresh) ∧
        t.outbox = s.outbox ++ [Msg.mgmt 100 0 0 (leBytes 32 (Config.nonce s.fresh))] ∧ t.se.debug = s.se.debug ∧ t.fresh = s.fresh + 1) ∧
  (∀ (s : State) (k : List Byte) (unf : List Nat) (l : List Byte),
      (s.ck.power = 0 ∨ s.se.hold = true) →
      s.locked = false →
      s.lc ≠ 0 →
      s.lc ≠ 4 →
      s.tokenFault { kind := 1, request := if leAt l 1 1 = 2 then 2 else 1, signer := some (debugSigner s.lc), ports := [100] } l k = 0 →
      Leads (.dbgAuth (some l) k unf) s fun t => t.se.debug = leAt l 1 1 ∧ t.se.signer = debugSigner s.lc + 1 ∧ (∀ x ∈ t.se.nonces, x.2 ≠ (l.drop 0x28).take 32) ∧
        (leAt l 1 1 = 2 ∧ s.lc = 2 → t.se.vbat.wrap = .absent ∧ ∀ i, i < 2048 → (t.slot i).st = .free ∨ (t.slot i).st = .lost) ∧ (leAt l 1 1 = 1 → t.outbox = s.outbox)) ∧
  (∀ (s : State) (k : List Byte) (unf : List Nat) (l : List Byte),
      (s.ck.power = 0 ∨ s.se.hold = true) →
      s.locked = false →
      s.lc ≠ 0 →
      s.lc ≠ 4 →
      s.tokenFault { kind := 1, request := if leAt l 1 1 = 2 then 2 else 1, signer := some (debugSigner s.lc), ports := [100] } l k ≠ 0 →
      Leads (.dbgAuth (some l) k unf) s fun t => t.se.debug = s.se.debug ∧ t.se.nonces = s.se.nonces ∧ t.outbox = s.outbox ∧
        t.fld F_SE_AUTH_FAIL_AUTH = min (s.fld F_SE_AUTH_FAIL_AUTH + 1) (2 ^ F_SE_AUTH_FAIL_AUTH.wid - 1)) ∧
  (∀ (s : State) (k : List Byte) (unf : List Nat) (l : List Byte),
      (s.ck.power = 0 ∨ s.se.hold = true) →
      (s.locked = true ∨ s.lc = 0 ∨ s.lc = 4) →
      Leads (.dbgAuth (some l) k unf) s fun t => t = s) ∧
  (∀ (s : State) (k : List Byte) (unf : List Nat) (o : Option (List Byte)),
      s.ck.power ≠ 0 →
      s.se.hold = false →
      Leads (.dbgAuth o k unf) s fun t => t = s) ∧
  (∀ (s : State) (p : Port) (k : List Byte) (c : Nat) (m : List Byte) (n : Nat) (l : List Byte) (g : Option Nat),
      Mailed s p 6 n →
      (n = 192 ∨ n = 240) →
      s.locked = false →
      s.mailData p n = l →
      lcRule s.lc (leAt l 1 1) = some g →
      (n = 240 ↔ leAt l 1 1 = 2) →
      s.tokenFault { kind := 2, request := leAt l 1 1, signer := g, ports := [portCode p] } (l.take 192) k = 0 →
      s.fusesFit (leAt l 1 1) (l.drop 192) = true →
      s.se.hold = false →
      (c = 0 ∨ 5 < c) →
      Leads (.lcChange p k c m) s fun t => bit t.se.fuses.lc.read (2 * leAt l 1 1 - 1) = true ∧ bit t.se.fuses.lc.read (2 * leAt l 1 1 - 2) = true ∧
        t.fld F_RS_CAUSE_CAUSE = 3 ∧ t.q = {} ∧ (leAt l 1 1 = 2 → t.se.fuses.owner = l.drop 192)) ∧
  (∀ (s : State) (p : Port) (k : List Byte) (c : Nat) (m : List Byte) (n : Nat) (l : List Byte) (g : Option Nat),
      Mailed s p 6 n →
      (n = 192 ∨ n = 240) →
      s.locked = false →
      s.mailData p n = l →
      lcRule s.lc (leAt l 1 1) = some g →
      (n = 240 ↔ leAt l 1 1 = 2) →
      s.tokenFault { kind := 2, request := leAt l 1 1, signer := g, ports := [portCode p] } (l.take 192) k = 0 →
      s.fusesFit (leAt l 1 1) (l.drop 192) = true →
      s.se.hold = true →
      (c = 0 ∨ 5 < c) →
      Leads (.lcChange p k c m) s fun t => bit t.se.fuses.lc.read (2 * leAt l 1 1 - 1) = true ∧ bit t.se.fuses.lc.read (2 * leAt l 1 1 - 2) = true ∧
        t.se.mbx = [] ∧ t.ck = s.ck ∧ (leAt l 1 1 = 2 → t.se.fuses.owner = l.drop 192)) ∧
  (∀ (s : State) (p : Port) (k : List Byte) (c : Nat) (m : List Byte) (n : Nat) (l : List Byte) (g : Option Nat),
      Mailed s p 6 n →
      (n = 192 ∨ n = 240) →
      s.locked = false →
      s.mailData p n = l →
      lcRule s.lc (leAt l 1 1) = some g →
      (n = 240 ↔ leAt l 1 1 = 2) →
      s.tokenFault { kind := 2, request := leAt l 1 1, signer := g, ports := [portCode p] } (l.take 192) k = 0 →
      s.fusesFit (leAt l 1 1) (l.drop 192) = true →
      1 ≤ c →
      c ≤ 5 →
      Leads (.lcChange p k c m) s fun t => t.ck.power = 4 ∧ t.mem = [] ∧ t.q = {} ∧ (c ≤ 2 → t.se.fuses.lc = s.se.fuses.lc) ∧
        (c = 3 ∨ c = 5 → bit t.se.fuses.lc.read (2 * leAt l 1 1 - 2) = true)) ∧
  (∀ (s : State) (p : Port) (k : List Byte) (c : Nat) (m : List Byte) (n : Nat) (l : List Byte) (g : Option Nat),
      Mailed s p 6 n →
      (n = 192 ∨ n = 240) →
      s.locked = false →
      s.mailData p n = l →
      lcRule s.lc (leAt l 1 1) = some g →
      (n = 240 ↔ leAt l 1 1 = 2) →
      s.tokenFault { kind := 2, request := leAt l 1 1, signer := g, ports := [portCode p] } (l.take 192) k = 0 →
      s.fusesFit (leAt l 1 1) (l.drop 192) = false →
      Leads (.lcChange p k c m) s fun t => MailAnswered s t p 6 [] ∧ t.se.fuses = s.se.fuses ∧ (∀ x ∈ t.se.nonces, x.2 ≠ ((l.take 192).drop 0x28).take 32)) ∧
  (∀ (s : State) (p : Port) (k : List Byte) (c : Nat) (m : List Byte) (n : Nat) (l : List Byte) (g : Option Nat),
      Mailed s p 6 n →
      (n = 192 ∨ n = 240) →
      s.locked = false →
      s.mailData p n = l →
      lcRule s.lc (leAt l 1 1) = some g →
      (n = 240 ↔ leAt l 1 1 = 2) →
      s.tokenFault { kind := 2, request := leAt l 1 1, signer := g, ports := [portCode p] } (l.take 192) k ≠ 0 →
      Leads (.lcChange p k c m) s fun t => MailAnswered s t p (s.tokenFault { kind := 2, request := leAt l 1 1, signer := g, ports := [portCode p] } (l.take 192) k) [] ∧ t.se.nonces = s.se.nonces ∧ t.se.debug = s.se.debug ∧ t.se.fuses = s.se.fuses ∧ t.se.vbat = s.se.vbat ∧
        t.fld F_SE_AUTH_FAIL_AUTH = min (s.fld F_SE_AUTH_FAIL_AUTH + 1) (2 ^ F_SE_AUTH_FAIL_AUTH.wid - 1)) ∧
  (∀ (s : State) (p : Port) (k : List Byte) (c : Nat) (m : List Byte) (n : Nat) (l : List Byte) (g : Option Nat),
      Mailed s p 6 n →
      (n = 192 ∨ n = 240) →
      s.locked = false →
      s.mailData p n = l →
      lcRule s.lc (leAt l 1 1) = some g →
      ¬(n = 240 ↔ leAt l 1 1 = 2) →
      Leads (.lcChange p k c m) s fun t => MailAnswered s t p 2 [] ∧ t.se.fuses = s.se.fuses ∧ t.se.nonces = s.se.nonces) ∧
  (∀ (s : State) (p : Port) (k : List Byte) (c : Nat) (m : List Byte) (n : Nat) (l : List Byte),
      Mailed s p 6 n →
      (n = 192 ∨ n = 240) →
      s.locked = false →
      s.mailData p n = l →
      lcRule s.lc (leAt l 1 1) = none →
      Leads (.lcChange p k c m) s fun t => MailAnswered s t p 4 [] ∧ t.se.fuses = s.se.fuses ∧ t.se.nonces = s.se.nonces) ∧
  (∀ (s : State) (p : Port) (k : List Byte) (c : Nat) (m : List Byte) (z : Nat),
      Mailed s p 6 z →
      z ≠ 192 →
      z ≠ 240 →
      s.locked = false →
      Leads (.lcChange p k c m) s fun t => MailAnswered s t p 2 [] ∧ t.se.fuses = s.se.fuses ∧ t.se.debug = s.se.debug) ∧
  (∀ (s : State) (p : Port) (k : List Byte) (c : Nat) (m : List Byte) (z : Nat),
      Mailed s p 6 z →
      s.locked = true →
      Leads (.lcChange p k c m) s fun t => MailAnswered s t p 5 [] ∧ t.se.nonces = s.se.nonces ∧ t.se.fuses = s.se.fuses) ∧
  (∀ (s : State) (p : Port) (k : List Byte) (c : Nat) (m : List Byte),
      (s.mbxOn p = false ∨ (s.mbx p).st ≠ 1 ∨ leAt (s.mbx p).buf 0 2 ≠ 6) →
      Leads (.lcChange p k c m) s fun t => t = s) ∧
  (∀ (s : State) (p : Port) (k : List Byte) (n : Nat),
      Mailed s p 8 n →
      s.locked = false →
      (n = 0 ∨ n = 192) →
      s.lc ≠ 2 →
      s.se.vbat.inputActive = false →
      Leads (.tamperAck p k) s fun t => MailAnswered s t p 0 [] ∧ t.se.vbat = { s.se.vbat with zeroised := false, cause := 0, count := 0, first := 0, last := 0 } ∧
        t.fld F_SE_STATUS_TAMPERED = 0) ∧
  (∀ (s : State) (p : Port) (k : List Byte) (l : List Byte),
      Mailed s p 8 192 →
      s.locked = false →
      s.mailData p 192 = l →
      s.lc = 2 →
      s.se.vbat.inputActive = false →
      s.tokenFault { kind := 3, request := 0, signer := some 1, ports := [portCode p] } l k = 0 →
      Leads (.tamperAck p k) s fun t => MailAnswered s t p 0 [] ∧ t.se.vbat = { s.se.vbat with zeroised := false, cause := 0, count := 0, first := 0, last := 0 } ∧
        t.fld F_SE_STATUS_TAMPERED = 0 ∧ (∀ x ∈ t.se.nonces, x.2 ≠ (l.drop 0x28).take 32)) ∧
  (∀ (s : State) (p : Port) (k : List Byte) (l : List Byte),
      Mailed s p 8 192 →
      s.locked = false →
      s.mailData p 192 = l →
      s.lc = 2 →
      s.se.vbat.inputActive = false →
      s.tokenFault { kind := 3, request := 0, signer := some 1, ports := [portCode p] } l k ≠ 0 →
      Leads (.tamperAck p k) s fun t => MailAnswered s t p (s.tokenFault { kind := 3, request := 0, signer := some 1, ports := [portCode p] } l k) [] ∧ t.se.nonces = s.se.nonces ∧ t.se.debug = s.se.debug ∧ t.se.fuses = s.se.fuses ∧ t.se.vbat = s.se.vbat ∧
        t.fld F_SE_AUTH_FAIL_AUTH = min (s.fld F_SE_AUTH_FAIL_AUTH + 1) (2 ^ F_SE_AUTH_FAIL_AUTH.wid - 1)) ∧
  (∀ (s : State) (p : Port) (k : List Byte) (n : Nat),
      Mailed s p 8 n →
      s.locked = false →
      (n = 192 ∨ (n = 0 ∧ s.lc ≠ 2)) →
      s.se.vbat.inputActive = true →
      Leads (.tamperAck p k) s fun t => MailAnswered s t p 4 [] ∧ t.se.vbat = s.se.vbat ∧ t.se.nonces = s.se.nonces) ∧
  (∀ (s : State) (p : Port) (k : List Byte) (z : Nat),
      Mailed s p 8 z →
      z ≠ 192 →
      (z ≠ 0 ∨ s.lc = 2) →
      s.locked = false →
      Leads (.tamperAck p k) s fun t => MailAnswered s t p 2 [] ∧ t.se.fuses = s.se.fuses ∧ t.se.debug = s.se.debug) ∧
  (∀ (s : State) (p : Port) (k : List Byte) (z : Nat),
      Mailed s p 8 z →
      s.locked = true →
      Leads (.tamperAck p k) s fun t => MailAnswered s t p 5 [] ∧ t.se.nonces = s.se.nonces ∧ t.se.fuses = s.se.fuses) ∧
  (∀ (s : State) (p : Port) (k : List Byte),
      (s.mbxOn p = false ∨ (s.mbx p).st ≠ 1 ∨ leAt (s.mbx p).buf 0 2 ≠ 8) →
      Leads (.tamperAck p k) s fun t => t = s) ∧
  (∀ (s : State) (p : Port) (k : List Byte) (l : List Byte),
      Mailed s p 11 4 →
      s.locked = false →
      s.mailData p 4 = l →
      s.lc = 1 →
      Leads (.vbatCfg p k) s fun t => MailAnswered s t p 0 [] ∧ t.se.vbat = { s.se.vbat with inputs := l.map tamperIn }) ∧
  (∀ (s : State) (p : Port) (k : List Byte) (l : List Byte),
      Mailed s p 11 196 →
      s.locked = false →
      s.mailData p 196 = l →
      s.lc = 2 →
      s.tokenFault { kind := 4, request := 0, signer := some 1, ports := [portCode p] } (l.take 192) k = 0 →
      Leads (.vbatCfg p k) s fun t => MailAnswered s t p 0 [] ∧ t.se.vbat = { s.se.vbat with inputs := (l.drop 192).map tamperIn } ∧ (∀ x ∈ t.se.nonces, x.2 ≠ ((l.take 192).drop 0x28).take 32)) ∧
  (∀ (s : State) (p : Port) (k : List Byte) (l : List Byte),
      Mailed s p 11 196 →
      s.locked = false →
      s.mailData p 196 = l →
      s.lc = 2 →
      s.tokenFault { kind := 4, request := 0, signer := some 1, ports := [portCode p] } (l.take 192) k ≠ 0 →
      Leads (.vbatCfg p k) s fun t => MailAnswered s t p (s.tokenFault { kind := 4, request := 0, signer := some 1, ports := [portCode p] } (l.take 192) k) [] ∧ t.se.nonces = s.se.nonces ∧ t.se.debug = s.se.debug ∧ t.se.fuses = s.se.fuses ∧ t.se.vbat = s.se.vbat ∧
        t.fld F_SE_AUTH_FAIL_AUTH = min (s.fld F_SE_AUTH_FAIL_AUTH + 1) (2 ^ F_SE_AUTH_FAIL_AUTH.wid - 1)) ∧
  (∀ (s : State) (p : Port) (k : List Byte),
      Mailed s p 11 4 →
      s.locked = false →
      s.lc ≠ 1 →
      s.lc ≠ 2 →
      Leads (.vbatCfg p k) s fun t => MailAnswered s t p 4 [] ∧ t.se.vbat = s.se.vbat) ∧
  (∀ (s : State) (p : Port) (k : List Byte) (z : Nat),
      Mailed s p 11 z →
      z ≠ (if s.lc = 2 then 196 else 4) →
      s.locked = false →
      Leads (.vbatCfg p k) s fun t => MailAnswered s t p 2 [] ∧ t.se.fuses = s.se.fuses ∧ t.se.debug = s.se.debug) ∧
  (∀ (s : State) (p : Port) (k : List Byte) (z : Nat),
      Mailed s p 11 z →
      s.locked = true →
      Leads (.vbatCfg p k) s fun t => MailAnswered s t p 5 [] ∧ t.se.nonces = s.se.nonces ∧ t.se.fuses = s.se.fuses) ∧
  (∀ (s : State) (p : Port) (k : List Byte),
      (s.mbxOn p = false ∨ (s.mbx p).st ≠ 1 ∨ leAt (s.mbx p).buf 0 2 ≠ 11) →
      Leads (.vbatCfg p k) s fun t => t = s)

/-- The first alarm that is recognised destroys the wrapping key and records its time and cause, later ones their time and count, and while
the RTP runs TAMPERED sets; an input that is quiet is released, the cell warns on the main rails and fails off them. Each boundary-scan
instruction destroys every key and holds the device until cold reset. A debug access that the life cycle allows is answered: a register is
read or written as the control firmware does, a core or a carrel halted, memory written, or read where no sector is poisoned or fails its
tag. Parity in the RTP destroys every key and is fatal. Each changes nothing where its condition is not there. (R536, R537, R538, R539,
R540, R541, R544, R546, R547, R552, R555, 16_root_of_trust_and_life_cycle.md) -/
def Obligations.TamperAndTestAccessTakeEffect : Prop :=
  (∀ (s : State) (c : Nat) (l : List Bool) (unf : List Nat),
      s.alarmDue c l = true →
      s.se.vbat.zeroised = false →
      Leads (.tamperAlarm c l unf) s fun t => t.se.vbat.wrap = .absent ∧ t.se.vbat.zeroised = true ∧ bit t.se.vbat.cause c = true ∧
        t.se.vbat.first = s.vbatNow ∧ t.fld F_SE_STATUS_WRAP = 0 ∧ (c < 4 → inSet t.se.vbat.active c = true) ∧
        ((s.ck.power ≤ 1 ∨ s.se.hold = true) ∧ s.rtpUp = true → t.fld F_SE_STATUS_TAMPERED = 1)) ∧
  (∀ (s : State) (c : Nat) (l : List Bool) (unf : List Nat),
      (s.alarmDue c l = false ∨ s.se.vbat.zeroised = true) →
      Leads (.tamperAlarm c l unf) s fun t => t = s) ∧
  (∀ (s : State) (c : Nat) (l : List Bool) (unf : List Nat),
      s.alarmDue c l = true →
      s.se.vbat.zeroised = true →
      Leads (.tamperAlarmRepeat c l unf) s fun t => t.se.vbat.zeroised = true ∧ bit t.se.vbat.cause c = true ∧ t.se.vbat.last = s.vbatNow ∧
        t.se.vbat.count = min 255 (s.se.vbat.count + 1) ∧ t.se.vbat.first = s.se.vbat.first ∧
        ((s.ck.power ≤ 1 ∨ s.se.hold = true) ∧ s.rtpUp = true → t.fld F_SE_STATUS_TAMPERED = 1)) ∧
  (∀ (s : State) (c : Nat) (l : List Bool) (unf : List Nat),
      (s.alarmDue c l = false ∨ s.se.vbat.zeroised = false) →
      Leads (.tamperAlarmRepeat c l unf) s fun t => t = s) ∧
  (∀ (s : State) (n : Nat) (l : List Bool),
      s.inputQuiet n l = true →
      Leads (.tamperInputRelease n l) s fun t => t.se.vbat = { s.se.vbat with active := setErase s.se.vbat.active n } ∧ inSet t.se.vbat.active n = false) ∧
  (∀ (s : State) (n : Nat) (l : List Bool),
      s.inputQuiet n l = false →
      Leads (.tamperInputRelease n l) s fun t => t = s) ∧
  (∀ (s : State),
      s.mainRails = true →
      Leads .battLow s fun t => t.se.vbat = { s.se.vbat with battLow := true } ∧ t.mem = s.mem) ∧
  (∀ (s : State),
      s.mainRails = false →
      Leads .battLow s fun t => t = s) ∧
  (∀ (s : State),
      s.mainRails = false →
      Leads .vbatLost s fun t => t.se.vbat.lost = true ∧ t.se.vbat.wrap = .absent ∧ t.se.vbat.inputs = [{}, {}, {}, {}] ∧
        t.vbatNow = 0 ∧ t.er.storeValid = false ∧ t.fld F_SE_STATUS_WRAP = 0) ∧
  (∀ (s : State),
      s.mainRails = true →
      Leads .vbatLost s fun t => t = s) ∧
  (∀ (s : State) (unf : List Nat),
      s.ck.power ≤ 1 →
      s.fld F_TOP_BOOT_STATUS_STAGE ≠ 0 →
      Leads (.rtpParity unf) s fun t => t.er.action ≠ .none ∧ t.er.storeValid = true ∧ t.ck.retained = [] ∧ t.se.sram = zeroRetention s.se.sram ∧
        (∀ i, i < 2048 → (t.slot i).st = .free ∨ (t.slot i).st = .lost)) ∧
  (∀ (s : State) (unf : List Nat),
      (1 < s.ck.power ∨ s.fld F_TOP_BOOT_STATUS_STAGE = 0) →
      Leads (.rtpParity unf) s fun t => t = s) ∧
  (∀ (s : State),
      s.tapOn = true →
      s.se.hold = false →
      Leads .extest s fun t => t.se.hold = true ∧ t.ck.power = 3 ∧ t.se.vbat.wrap = .absent ∧
        (∀ i, i < 2048 → (t.slot i).st = .free ∨ (t.slot i).st = .lost) ∧ t.mem = [] ∧ t.q = {}) ∧
  (∀ (s : State),
      (s.tapOn = false ∨ s.se.hold = true) →
      Leads .extest s fun t => t = s) ∧
  (∀ (s : State),
      s.tapOn = true →
      s.se.hold = false →
      Leads .clamp s fun t => t.se.hold = true ∧ t.ck.power = 3 ∧ t.se.vbat.wrap = .absent ∧
        (∀ i, i < 2048 → (t.slot i).st = .free ∨ (t.slot i).st = .lost) ∧ t.mem = [] ∧ t.q = {}) ∧
  (∀ (s : State),
      (s.tapOn = false ∨ s.se.hold = true) →
      Leads .clamp s fun t => t = s) ∧
  (∀ (s : State),
      s.tapOn = true →
      s.se.hold = false →
      Leads .highz s fun t => t.se.hold = true ∧ t.ck.power = 3 ∧ t.se.vbat.wrap = .absent ∧
        (∀ i, i < 2048 → (t.slot i).st = .free ∨ (t.slot i).st = .lost) ∧ t.mem = [] ∧ t.q = {}) ∧
  (∀ (s : State),
      (s.tapOn = false ∨ s.se.hold = true) →
      Leads .highz s fun t => t = s) ∧
  (∀ (s : State),
      s.tapOn = true →
      s.se.hold = false →
      Leads .extestPulse s fun t => t.se.hold = true ∧ t.ck.power = 3 ∧ t.se.vbat.wrap = .absent ∧
        (∀ i, i < 2048 → (t.slot i).st = .free ∨ (t.slot i).st = .lost) ∧ t.mem = [] ∧ t.q = {}) ∧
  (∀ (s : State),
      (s.tapOn = false ∨ s.se.hold = true) →
      Leads .extestPulse s fun t => t = s) ∧
  (∀ (s : State),
      s.tapOn = true →
      s.se.hold = false →
      Leads .extestTrain s fun t => t.se.hold = true ∧ t.ck.power = 3 ∧ t.se.vbat.wrap = .absent ∧
        (∀ i, i < 2048 → (t.slot i).st = .free ∨ (t.slot i).st = .lost) ∧ t.mem = [] ∧ t.q = {}) ∧
  (∀ (s : State),
      (s.tapOn = false ∨ s.se.hold = true) →
      Leads .extestTrain s fun t => t = s) ∧
  (∀ (s : State) (v : Nat) (n : Nat) (l : List Byte),
      s.dapAllows 0 = true →
      Leads (.dapAccess 0 v n l) s fun t => t = { (s.busRead .fw v).1 with outbox := (s.busRead .fw v).1.outbox ++ [Msg.mgmt 101 0 0 (leBytes 4 (s.busRead .fw v).2)] }) ∧
  (∀ (s : State) (k : Nat) (v : Nat) (n : Nat) (l : List Byte),
      s.dapAllows k = true →
      (k = 1 ∨ (k = 2 ∧ 8 ≤ v) ∨ (k = 6 ∧ 64 ≤ v)) →
      Leads (.dapAccess k v n l) s fun t => t = { s with outbox := s.outbox ++ [Msg.mgmt 101 k 0 ([])] }) ∧
  (∀ (s : State) (v : Nat) (n : Nat) (l : List Byte),
      s.dapAllows 5 = true →
      l ≠ [] →
      Leads (.dapAccess 5 v n l) s fun t => (∀ i, i < l.length → v + i < 524288 → kvGet 0 t.se.sram (v + i) = l.getD i 0) ∧
        t.outbox = s.outbox ++ [Msg.mgmt 101 5 0 []] ∧ t.mem = s.mem ∧ t.regs = s.regs) ∧
  (∀ (s : State) (v : Nat) (n : Nat),
      s.dapAllows 5 = true →
      Leads (.dapAccess 5 v n []) s fun t => t = { s with fresh := s.fresh + 1, outbox := s.outbox ++ [Msg.mgmt 101 5 0 ((List.range' v (min n (524288 - v))).map (fun i => kvGet (Config.rtpByte s.fresh i) s.se.sram i))] }) ∧
  (∀ (s : State) (v : Nat) (n : Nat) (l : List Byte),
      s.dapAllows 2 = true →
      v < 8 →
      Leads (.dapAccess 2 v n l) s fun t => t.core v = { s.core v with halted := true } ∧ t.coreUp v = false ∧ t.outbox = s.outbox ++ [Msg.mgmt 101 2 0 []] ∧ t.mem = s.mem) ∧
  (∀ (s : State) (v : Nat) (n : Nat) (l : List Byte),
      s.dapAllows 6 = true →
      v < 64 →
      Leads (.dapAccess 6 v n l) s fun t => t.carrel v = { s.carrel v with halted := decide (0 < n) } ∧ t.outbox = s.outbox ++ [Msg.mgmt 101 6 0 []] ∧ t.mem = s.mem) ∧
  (∀ (s : State) (v : Nat) (n : Nat) (l : List Byte),
      s.dapAllows 4 = true →
      Leads (.dapAccess 4 v n l) s fun t => t.readMem v l.length = l ∧ (∀ z, z < v ∨ v + l.length ≤ z → t.byte z = s.byte z) ∧
        t.outbox = s.outbox ++ [Msg.mgmt 101 4 0 []] ∧ t.regs = s.regs) ∧
  (∀ (s : State) (v : Nat) (n : Nat) (l : List Byte),
      s.dapAllows 7 = true →
      Leads (.dapAccess 7 v n l) s fun t => ∃ u, exec (.registerWrite { p := .fw, off := v } (leAt l 0 4) {}) s = .next u ∧
        t = { u with outbox := u.outbox ++ [Msg.mgmt 101 7 0 []] }) ∧
  (∀ (s : State) (v : Nat) (n : Nat) (l : List Byte),
      s.dapAllows 3 = true →
      (s.readAccess (List.range' (v / 65536) (n / 65536 + 2)) none (v % 65536) n {} {}).2.status = .ok →
      Leads (.dapAccess 3 v n l) s fun t => t = { (s.readAccess (List.range' (v / 65536) (n / 65536 + 2)) none (v % 65536) n {} {}).1 with outbox := (s.readAccess (List.range' (v / 65536) (n / 65536 + 2)) none (v % 65536) n {} {}).1.outbox ++ [Msg.mgmt 101 3 0 ((s.readAccess (List.range' (v / 65536) (n / 65536 + 2)) none (v % 65536) n {} {}).1.readRuns (List.range' (v / 65536) (n / 65536 + 2)) (v % 65536) 0 n)] }) ∧
  (∀ (s : State) (v : Nat) (n : Nat) (l : List Byte),
      s.dapAllows 3 = true →
      (s.readAccess (List.range' (v / 65536) (n / 65536 + 2)) none (v % 65536) n {} {}).2.status ≠ .ok →
      Leads (.dapAccess 3 v n l) s fun t => t = { (s.readAccess (List.range' (v / 65536) (n / 65536 + 2)) none (v % 65536) n {} {}).1 with outbox := (s.readAccess (List.range' (v / 65536) (n / 65536 + 2)) none (v % 65536) n {} {}).1.outbox ++ [Msg.mgmt 101 3 0 ([])] }) ∧
  (∀ (s : State) (k : Nat) (v : Nat) (n : Nat) (l : List Byte),
      s.dapAllows k = false →
      Leads (.dapAccess k v n l) s fun t => t = s)

/-- A read that the block answers returns the bytes asked for of the place at its offset: a register word, whose RC fields return to their
reset values, a select register, a window under INVALID (0), a word of an error-ring slot, of an MSI-X table or of a PBA; the low word of a
64-bit register latches the high word, whose read returns the latch or 0. An access of eight bytes is the read of its low word and then of
its high word. A host read that R466 refuses, of a register or of a doorbell page, is counted once and completes as an Unsupported Request;
an access that no register port answers, or whose offset is not of the row, changes nothing; a read of a doorbell page by a function returns
the word of the page, one by another port nothing. REG_READ answers on the I3C binding with the register, with code 2 for a bad offset, on
another binding with code 5. (R10, R12, R13, R14, R15, R17, R24, R466, R479, 00_scope.md) -/
def Obligations.RegisterReadsAnswer : Prop :=
  (∀ (s : State) (a : Access) (w : RegWord) (n : Nat) (i : Nat),
      a.wide = false →
      a.bar2 = false →
      s.answers a.p a.off = true →
      s.ideStops a = false →
      s.place a.p a.off = .word w n i →
      w.isLow = false →
      w.isHigh = false →
      Leads (.rcFieldRead a) s fun t => t.outbox = s.outbox ++ [Msg.regData (portCode a.p) a.off (byEnables (s.touch.wordValue a.p w n i) a.be)] ∧
        (∀ f ∈ w.flds, f.acc = .rc → t.fld f i = f.rst % 2 ^ f.wid) ∧ t.ports = s.ports ∧ t.mem = s.mem) ∧
  (∀ (s : State) (a : Access) (b : Nat),
      a.wide = false →
      a.bar2 = false →
      s.answers a.p a.off = true →
      s.ideStops a = false →
      s.place a.p a.off = .sel b →
      Leads (.rcFieldRead a) s fun t => t.outbox = s.outbox ++ [Msg.regData (portCode a.p) a.off (byEnables (s.placeValue a.p (.sel b)) a.be)] ∧
        t.regs = s.regs ∧ t.ports = s.ports) ∧
  (∀ (s : State) (a : Access) (b : Nat),
      a.wide = false →
      a.bar2 = false →
      s.answers a.p a.off = true →
      s.ideStops a = false →
      s.place a.p a.off = .selStatus b →
      Leads (.rcFieldRead a) s fun t => t.outbox = s.outbox ++ [Msg.regData (portCode a.p) a.off (byEnables (s.placeValue a.p (.selStatus b)) a.be)] ∧
        t.regs = s.regs ∧ t.ports = s.ports) ∧
  (∀ (s : State) (a : Access) (i : Nat) (k : Nat),
      a.wide = false →
      a.bar2 = false →
      s.answers a.p a.off = true →
      s.ideStops a = false →
      s.place a.p a.off = .slot i k →
      Leads (.rcFieldRead a) s fun t => t.outbox = s.outbox ++ [Msg.regData (portCode a.p) a.off (byEnables (s.placeValue a.p (.slot i k)) a.be)] ∧
        t.regs = s.regs ∧ t.ports = s.ports) ∧
  (∀ (s : State) (a : Access) (f : Nat) (v : Nat) (k : Nat),
      a.wide = false →
      a.bar2 = false →
      s.answers a.p a.off = true →
      s.ideStops a = false →
      s.place a.p a.off = .vec f v k →
      Leads (.rcFieldRead a) s fun t => t.outbox = s.outbox ++ [Msg.regData (portCode a.p) a.off (byEnables (s.placeValue a.p (.vec f v k)) a.be)] ∧
        t.regs = s.regs ∧ t.ports = s.ports) ∧
  (∀ (s : State) (a : Access) (f : Nat) (k : Nat),
      a.wide = false →
      a.bar2 = false →
      s.answers a.p a.off = true →
      s.ideStops a = false →
      s.place a.p a.off = .pba f k →
      Leads (.rcFieldRead a) s fun t => t.outbox = s.outbox ++ [Msg.regData (portCode a.p) a.off (byEnables (s.placeValue a.p (.pba f k)) a.be)] ∧
        t.regs = s.regs ∧ t.ports = s.ports) ∧
  (∀ (s : State) (a : Access),
      a.wide = false →
      a.bar2 = false →
      s.answers a.p a.off = true →
      s.ideStops a = false →
      (s.place a.p a.off = .empty ∨ s.place a.p a.off = .dark ∨ s.place a.p a.off = .noVector) →
      Leads (.rcFieldRead a) s fun t => t.outbox = s.outbox ++ [Msg.regData (portCode a.p) a.off 0] ∧ t.regs = s.regs ∧ t.ports = s.ports) ∧
  (∀ (s : State) (a : Access) (w : RegWord) (z : RegWord) (n : Nat) (i : Nat),
      a.wide = false →
      a.bar2 = false →
      s.answers a.p a.off = true →
      s.ideStops a = false →
      s.place a.p a.off = .word w n i →
      w.isLow = true →
      wordAt w.blk (w.off + 4) w.kind = some z →
      Leads (.lowWordRead a) s fun t => t.outbox = s.outbox ++ [Msg.regData (portCode a.p) a.off (byEnables (s.touch.wordValue a.p w n i) a.be)] ∧
        (t.bank a.p).latch = some { blk := w.blk, off := w.off, inst := i, word := s.touch.wordValue a.p z 0 i } ∧ t.regs = s.regs ∧ t.mem = s.mem) ∧
  (∀ (s : State) (a : Access) (w : RegWord) (n : Nat) (i : Nat),
      a.wide = false →
      a.bar2 = false →
      s.answers a.p a.off = true →
      s.ideStops a = false →
      s.place a.p a.off = .word w n i →
      w.isHigh = true →
      w.isLow = false →
      Leads (.highWordRead a) s fun t => t.outbox = s.outbox ++ [Msg.regData (portCode a.p) a.off (byEnables ((heldWord (s.bank a.p).latch w i).getD 0) a.be)] ∧
        t.ports = s.ports ∧ t.regs = s.regs ∧ t.mem = s.mem) ∧
  (∀ (s : State) (a : Access),
      a.wide = true →
      a.bar2 = false →
      s.answers a.p a.off = true →
      s.ideStops a = false →
      ((s.place a.p a.off).isLow = false ∧ (s.place a.p a.off).isHigh = false) →
      Leads (.rcFieldRead a) s fun t => t = (s.portRead4 a (fun (x : Place) => !x.isLow && !x.isHigh)).portRead4 a.upper (fun _ => true)) ∧
  (∀ (s : State) (a : Access),
      a.bar2 = false →
      s.answers a.p a.off = true →
      s.ideStops a = true →
      ((s.place a.p a.off).isLow = false ∧ (s.place a.p a.off).isHigh = false) →
      Leads (.rcFieldRead a) s fun t => t = (s.bump F_HP_IDE_FAIL_IDE).emit (.refused (portCode a.p) a.off false)) ∧
  (∀ (s : State) (a : Access),
      a.bar2 = false →
      (s.answers a.p a.off = false ∨ (s.place a.p a.off).isLow = true ∨ (s.place a.p a.off).isHigh = true) →
      Leads (.rcFieldRead a) s fun t => t = s) ∧
  (∀ (s : State) (a : Access),
      a.wide = true →
      a.bar2 = false →
      s.answers a.p a.off = true →
      s.ideStops a = false →
      (s.place a.p a.off).isLow = true →
      Leads (.lowWordRead a) s fun t => t = (s.portRead4 a (Place.isLow)).portRead4 a.upper (fun _ => true)) ∧
  (∀ (s : State) (a : Access),
      a.bar2 = false →
      s.answers a.p a.off = true →
      s.ideStops a = true →
      (s.place a.p a.off).isLow = true →
      Leads (.lowWordRead a) s fun t => t = (s.bump F_HP_IDE_FAIL_IDE).emit (.refused (portCode a.p) a.off false)) ∧
  (∀ (s : State) (a : Access),
      a.bar2 = false →
      (s.answers a.p a.off = false ∨ (s.place a.p a.off).isLow = false) →
      Leads (.lowWordRead a) s fun t => t = s) ∧
  (∀ (s : State) (a : Access),
      a.bar2 = true →
      Leads (.lowWordRead a) s fun t => t = s) ∧
  (∀ (s : State) (a : Access),
      a.wide = true →
      a.bar2 = false →
      s.answers a.p a.off = true →
      s.ideStops a = false →
      (s.place a.p a.off).isHigh = true →
      Leads (.highWordRead a) s fun t => t = (s.portRead4 a (Place.isHigh)).portRead4 a.upper (fun _ => true)) ∧
  (∀ (s : State) (a : Access),
      a.bar2 = false →
      s.answers a.p a.off = true →
      s.ideStops a = true →
      (s.place a.p a.off).isHigh = true →
      Leads (.highWordRead a) s fun t => t = (s.bump F_HP_IDE_FAIL_IDE).emit (.refused (portCode a.p) a.off false)) ∧
  (∀ (s : State) (a : Access),
      a.bar2 = false →
      (s.answers a.p a.off = false ∨ (s.place a.p a.off).isHigh = false) →
      Leads (.highWordRead a) s fun t => t = s) ∧
  (∀ (s : State) (a : Access),
      a.bar2 = true →
      Leads (.highWordRead a) s fun t => t = s) ∧
  (∀ (s : State) (a : Access),
      a.bar2 = true →
      (portFn a.p = none ∨ s.answers a.p qctlOff = false) →
      Leads (.rcFieldRead a) s fun t => t = s) ∧
  (∀ (s : State) (a : Access) (n : Nat),
      a.bar2 = true →
      portFn a.p = some n →
      s.answers a.p qctlOff = true →
      (s.fld F_HP_CFG_IDE_REQUIRED = 1 ∧ a.secure = false) →
      Leads (.rcFieldRead a) s fun t => t = (s.bump F_HP_IDE_FAIL_IDE).emit (.refused n a.off true)) ∧
  (∀ (s : State) (a : Access) (n : Nat),
      a.bar2 = true →
      portFn a.p = some n →
      s.answers a.p qctlOff = true →
      (s.fld F_HP_CFG_IDE_REQUIRED ≠ 1 ∨ a.secure = true) →
      a.wide = false →
      Leads (.rcFieldRead a) s fun t => t = s.emit (.pageData n a.off (byEnables (s.pageWord n (a.off / 4096) (a.off % 4096 / 4 * 4)) a.be))) ∧
  (∀ (s : State) (a : Access) (n : Nat),
      a.bar2 = true →
      portFn a.p = some n →
      s.answers a.p qctlOff = true →
      (s.fld F_HP_CFG_IDE_REQUIRED ≠ 1 ∨ a.secure = true) →
      a.wide = true →
      Leads (.rcFieldRead a) s fun t => t = (s.pageRead4 n a).pageRead4 n a.upper) ∧
  (∀ (s : State) (n : Nat) (v : Nat),
      s.bindUp 1 = true →
      v % 4 = 0 →
      v < 0x4000000 →
      Leads (.regRead 1 n v) s fun t => t.outbox = s.outbox ++ (mctpPackets (mctpUnit 1) (kvGet 0 s.mg.eid 1) false (vendorMsg false n 0x10 (some 0) (leBytes 4 (s.busRead .bmc v).2))).map (Msg.mctp 1) ∧
        t.regs = (s.busRead .bmc v).1.regs ∧ t.ports = (s.busRead .bmc v).1.ports ∧ t.mem = s.mem) ∧
  (∀ (s : State) (b : Nat) (n : Nat) (v : Nat),
      s.bindUp b = true →
      b ≠ 1 →
      Leads (.regRead b n v) s fun t => t = s.answer b (vendorMsg false n 0x10 (some 5) [])) ∧
  (∀ (s : State) (n : Nat) (v : Nat),
      s.bindUp 1 = true →
      (v % 4 ≠ 0 ∨ 0x4000000 ≤ v) →
      Leads (.regRead 1 n v) s fun t => t = s.answer 1 (vendorMsg false n 0x10 (some 2) [])) ∧
  (∀ (s : State) (b : Nat) (n : Nat) (v : Nat),
      s.bindUp b = false →
      Leads (.regRead b n v) s fun t => t = s)

/-- A whole-word write by a port that may make it sets the RW fields of the register to what the word spells, brought into their ranges,
clears the W1C bits it names and leaves the RO and RC fields, or is the command that the register triggers; an RWL field takes one write. A
low word is staged and takes effect with its high word; a select write selects; a vector table word is stored. A write that is partial, at
an offset that holds nothing, under INVALID, by a port or in a state that may not make it, or of a RESERVE beyond the sum is counted in
TOP_BAD_ACCESS_CNT and changes nothing else but the staged low word; a read-only register ignores it, but for the vector fields, whose other
ports count. An access of eight bytes is the write of its low word and then of its high word. What R466 refuses is counted (that the stage
stays is the model's choice, log entry 98); a write that no register port answers drops the stage; a doorbell page write is the page store.
REG_WRITE writes on the I3C binding. (R11, R12, R13, R16, R17, R18, R20, R189, R466, R479, R752, 00_scope.md) -/
def Obligations.RegisterWritesTakeEffect : Prop :=
  (∀ (s : State) (a : Access) (v : Nat) (x : WriteAux) (w : RegWord) (n : Nat) (i : Nat) (f : Fld),
      a.wide = false →
      a.bar2 = false →
      s.answers a.p a.off = true →
      s.ideStops a = false →
      a.be % 16 = 15 →
      s.place a.p a.off = .word w n i →
      w.isLow = false →
      w.isHigh = false →
      portWrites a.p w = true →
      s.openFor w i = true →
      (w.blk ≠ 21 ∨ w.off ≠ 0x400) →
      (w.kind ≠ .loop ∨ (w.off ≠ 0x1004 ∧ w.off ≠ 0x1040)) →
      (w.blk ≠ 3 ∨ w.off ≠ 0x1004 ∨ s.reserved i + bits v 0 26 ≤ 33554432) →
      (s.touch.trigger a.p w i (v % 2 ^ 32) x).isNone = true →
      f ∈ w.flds →
      s.fieldHeld f i = false →
      f.acc = .rw →
      isOverride f = false →
      Leads (.registerWrite a v x) s fun t => t.fld (f.at n) i = s.newField f i (v % 2 ^ 32) % 2 ^ f.wid ∧ (t.bank a.p).stage = none ∧ t.mem = s.mem) ∧
  (∀ (s : State) (a : Access) (v : Nat) (x : WriteAux) (w : RegWord) (n : Nat) (i : Nat) (f : Fld),
      a.wide = false →
      a.bar2 = false →
      s.answers a.p a.off = true →
      s.ideStops a = false →
      a.be % 16 = 15 →
      s.place a.p a.off = .word w n i →
      w.isLow = false →
      w.isHigh = false →
      portWrites a.p w = true →
      s.openFor w i = true →
      (w.blk ≠ 21 ∨ w.off ≠ 0x400) →
      (w.kind ≠ .loop ∨ (w.off ≠ 0x1004 ∧ w.off ≠ 0x1040)) →
      (w.blk ≠ 3 ∨ w.off ≠ 0x1004 ∨ s.reserved i + bits v 0 26 ≤ 33554432) →
      (s.touch.trigger a.p w i (v % 2 ^ 32) x).isNone = true →
      f ∈ w.flds →
      s.fieldHeld f i = true →
      Leads (.registerWrite a v x) s fun t => t.fld (f.at n) i = s.fld (f.at n) i ∧ (t.bank a.p).stage = none ∧ t.mem = s.mem) ∧
  (∀ (s : State) (a : Access) (v : Nat) (x : WriteAux) (w : RegWord) (n : Nat) (i : Nat) (f : Fld),
      a.wide = false →
      a.bar2 = false →
      s.answers a.p a.off = true →
      s.ideStops a = false →
      a.be % 16 = 15 →
      s.place a.p a.off = .word w n i →
      w.isLow = false →
      w.isHigh = false →
      portWrites a.p w = true →
      s.openFor w i = true →
      (w.blk ≠ 21 ∨ w.off ≠ 0x400) →
      (w.kind ≠ .loop ∨ (w.off ≠ 0x1004 ∧ w.off ≠ 0x1040)) →
      (w.blk ≠ 3 ∨ w.off ≠ 0x1004 ∨ s.reserved i + bits v 0 26 ≤ 33554432) →
      (s.touch.trigger a.p w i (v % 2 ^ 32) x).isNone = true →
      f ∈ w.flds →
      s.fieldHeld f i = false →
      (f.acc = .rwl ∨ isOverride f = true) →
      inSet s.bt.rwl ((f.at n).key i) = false →
      (isOverride f = false ∨ s.training = false) →
      Leads (.registerWrite a v x) s fun t => t.fld (f.at n) i = s.newField f i (v % 2 ^ 32) % 2 ^ f.wid ∧ inSet t.bt.rwl ((f.at n).key i) = true ∧ (t.bank a.p).stage = none ∧ t.mem = s.mem) ∧
  (∀ (s : State) (a : Access) (v : Nat) (x : WriteAux) (w : RegWord) (n : Nat) (i : Nat) (f : Fld),
      a.wide = false →
      a.bar2 = false →
      s.answers a.p a.off = true →
      s.ideStops a = false →
      a.be % 16 = 15 →
      s.place a.p a.off = .word w n i →
      w.isLow = false →
      w.isHigh = false →
      portWrites a.p w = true →
      s.openFor w i = true →
      (w.blk ≠ 21 ∨ w.off ≠ 0x400) →
      (w.kind ≠ .loop ∨ (w.off ≠ 0x1004 ∧ w.off ≠ 0x1040)) →
      (w.blk ≠ 3 ∨ w.off ≠ 0x1004 ∨ s.reserved i + bits v 0 26 ≤ 33554432) →
      (s.touch.trigger a.p w i (v % 2 ^ 32) x).isNone = true →
      f ∈ w.flds →
      (f.acc = .rwl ∨ isOverride f = true) →
      (inSet s.bt.rwl ((f.at n).key i) = true ∨ (isOverride f = true ∧ s.training = true)) →
      Leads (.registerWrite a v x) s fun t => t.fld (f.at n) i = s.fld (f.at n) i ∧ (t.bank a.p).stage = none ∧ t.mem = s.mem) ∧
  (∀ (s : State) (a : Access) (v : Nat) (x : WriteAux) (w : RegWord) (n : Nat) (i : Nat) (f : Fld),
      a.wide = false →
      a.bar2 = false →
      s.answers a.p a.off = true →
      s.ideStops a = false →
      a.be % 16 = 15 →
      s.place a.p a.off = .word w n i →
      w.isLow = false →
      w.isHigh = false →
      portWrites a.p w = true →
      s.openFor w i = true →
      (w.blk ≠ 21 ∨ w.off ≠ 0x400) →
      (w.kind ≠ .loop ∨ (w.off ≠ 0x1004 ∧ w.off ≠ 0x1040)) →
      (w.blk ≠ 3 ∨ w.off ≠ 0x1004 ∨ s.reserved i + bits v 0 26 ≤ 33554432) →
      (s.touch.trigger a.p w i (v % 2 ^ 32) x).isNone = true →
      f ∈ w.flds →
      s.fieldHeld f i = false →
      f.acc = .w1c →
      Leads (.registerWrite a v x) s fun t => t.fld (f.at n) i = (s.fld (f.at n) i &&& ((2 ^ f.wid - 1) ^^^ bits (v % 2 ^ 32) f.lo f.wid)) % 2 ^ f.wid ∧ (t.bank a.p).stage = none ∧ t.mem = s.mem) ∧
  (∀ (s : State) (a : Access) (v : Nat) (x : WriteAux) (w : RegWord) (n : Nat) (i : Nat) (f : Fld),
      a.wide = false →
      a.bar2 = false →
      s.answers a.p a.off = true →
      s.ideStops a = false →
      a.be % 16 = 15 →
      s.place a.p a.off = .word w n i →
      w.isLow = false →
      w.isHigh = false →
      portWrites a.p w = true →
      s.openFor w i = true →
      (w.blk ≠ 21 ∨ w.off ≠ 0x400) →
      (w.kind ≠ .loop ∨ (w.off ≠ 0x1004 ∧ w.off ≠ 0x1040)) →
      (w.blk ≠ 3 ∨ w.off ≠ 0x1004 ∨ s.reserved i + bits v 0 26 ≤ 33554432) →
      (s.touch.trigger a.p w i (v % 2 ^ 32) x).isNone = true →
      f ∈ w.flds →
      (f.acc = .ro ∨ f.acc = .rc) →
      isOverride f = false →
      Leads (.registerWrite a v x) s fun t => t.fld (f.at n) i = s.fld (f.at n) i ∧ (t.bank a.p).stage = none ∧ t.mem = s.mem) ∧
  (∀ (s : State) (a : Access) (v : Nat) (x : WriteAux) (w : RegWord) (n : Nat) (i : Nat),
      a.wide = false →
      a.bar2 = false →
      s.answers a.p a.off = true →
      s.ideStops a = false →
      a.be % 16 = 15 →
      s.place a.p a.off = .word w n i →
      w.isLow = false →
      w.isHigh = false →
      (s.touch.trigger a.p w i (v % 2 ^ 32) x).isSome = true →
      Leads (.registerWrite a v x) s fun t => (s.touch.trigger a.p w i (v % 2 ^ 32) x).map (fun z => z.after s.touch) = some t) ∧
  (∀ (s : State) (a : Access) (v : Nat) (x : WriteAux) (w : RegWord) (n : Nat) (i : Nat),
      a.wide = false →
      a.bar2 = false →
      s.answers a.p a.off = true →
      s.ideStops a = false →
      a.be % 16 = 15 →
      s.place a.p a.off = .word w n i →
      w.isLow = false →
      w.isHigh = false →
      (s.touch.trigger a.p w i (v % 2 ^ 32) x).isNone = true →
      w.flds.any Fld.written = true →
      (portWrites a.p w = false ∨ s.openFor w i = false) →
      Leads (.registerWrite a v x) s fun t => t = (s.touch.dropStage a.p).badAccess a.p a.off) ∧
  (∀ (s : State) (a : Access) (v : Nat) (x : WriteAux) (w : RegWord) (n : Nat) (i : Nat),
      a.wide = false →
      a.bar2 = false →
      s.answers a.p a.off = true →
      s.ideStops a = false →
      a.be % 16 = 15 →
      s.place a.p a.off = .word w n i →
      w.isLow = false →
      w.isHigh = false →
      (s.touch.trigger a.p w i (v % 2 ^ 32) x).isNone = true →
      w.flds.any Fld.written = false →
      (w.blk ≠ 15 ∨ portWrites a.p w = true) →
      Leads (.registerWrite a v x) s fun t => t = s.touch.dropStage a.p) ∧
  (∀ (s : State) (a : Access) (v : Nat) (x : WriteAux) (w : RegWord) (n : Nat) (i : Nat),
      a.wide = false →
      a.bar2 = false →
      s.answers a.p a.off = true →
      s.ideStops a = false →
      a.be % 16 = 15 →
      s.place a.p a.off = .word w n i →
      w.isLow = false →
      w.isHigh = false →
      (s.touch.trigger a.p w i (v % 2 ^ 32) x).isNone = true →
      w.blk = 15 →
      portWrites a.p w = false →
      Leads (.registerWrite a v x) s fun t => t = (s.touch.dropStage a.p).badAccess a.p a.off) ∧
  (∀ (s : State) (a : Access) (v : Nat) (x : WriteAux) (w : RegWord) (n : Nat) (i : Nat),
      a.wide = false →
      a.bar2 = false →
      s.answers a.p a.off = true →
      s.ideStops a = false →
      a.be % 16 = 15 →
      s.place a.p a.off = .word w n i →
      w.isLow = false →
      w.isHigh = false →
      w.blk = 3 →
      w.off = 0x1004 →
      portWrites a.p w = true →
      33554432 < s.reserved i + bits v 0 26 →
      Leads (.registerWrite a v x) s fun t => t = (s.touch.dropStage a.p).badAccess a.p a.off) ∧
  (∀ (s : State) (a : Access) (v : Nat) (x : WriteAux) (w : RegWord) (n : Nat) (i : Nat),
      a.wide = false →
      a.bar2 = false →
      s.answers a.p a.off = true →
      s.ideStops a = false →
      a.be % 16 = 15 →
      s.place a.p a.off = .word w n i →
      w.isLow = false →
      w.isHigh = false →
      w.blk = 21 →
      w.off = 0x400 →
      portWrites a.p w = true →
      Leads (.registerWrite a v x) s fun t => t.mbx a.p = { s.mbx a.p with buf := splice (s.mbx a.p).buf (4 * n) (leBytes 4 (v % 2 ^ 32)) } ∧ t.regs = s.regs ∧ (t.bank a.p).stage = none ∧ t.mem = s.mem) ∧
  (∀ (s : State) (a : Access) (v : Nat) (x : WriteAux) (w : RegWord) (n : Nat) (i : Nat) (f : Fld),
      a.wide = false →
      a.bar2 = false →
      s.answers a.p a.off = true →
      s.ideStops a = false →
      a.be % 16 = 15 →
      s.place a.p a.off = .word w n i →
      w.isLow = false →
      w.isHigh = false →
      portWrites a.p w = true →
      w.kind = .loop →
      (w.off = 0x1004 ∨ w.off = 0x1040) →
      (s.loopSt i = 0 ∨ s.loopSt i = 3) →
      f ∈ w.flds →
      Leads (.registerWrite a v x) s fun t => t.fld (f.at n) i = s.newField f i (v % 2 ^ 32) % 2 ^ f.wid ∧ (t.bank a.p).stage = none ∧ t.mem = s.mem) ∧
  (∀ (s : State) (a : Access) (v : Nat) (x : WriteAux) (w : RegWord) (n : Nat) (i : Nat),
      a.wide = false →
      a.bar2 = false →
      s.answers a.p a.off = true →
      s.ideStops a = false →
      a.be % 16 = 15 →
      s.place a.p a.off = .word w n i →
      w.isLow = false →
      w.isHigh = false →
      portWrites a.p w = true →
      w.kind = .loop →
      w.off = 0x1040 →
      s.loopSt i ≠ 0 →
      s.loopSt i ≠ 3 →
      Leads (.registerWrite a v x) s fun t => t = ((s.touch.dropStage a.p).loopLast i 1).badAccess a.p a.off) ∧
  (∀ (s : State) (a : Access) (v : Nat) (x : WriteAux) (w : RegWord) (n : Nat) (i : Nat) (f : Fld),
      a.wide = false →
      a.bar2 = false →
      s.answers a.p a.off = true →
      s.ideStops a = false →
      a.be % 16 = 15 →
      s.place a.p a.off = .word w n i →
      w.isLow = false →
      w.isHigh = false →
      portWrites a.p w = true →
      w.kind = .loop →
      w.off = 0x1004 →
      s.loopSt i ≠ 0 →
      s.loopSt i ≠ 3 →
      s.fld F_PW_L_CFG_ORDER i < 2 →
      s.fld F_PW_L_CFG_MINPHASE i < 2 →
      f ∈ w.flds →
      Leads (.registerWrite a v x) s fun t => (f ≠ F_PW_L_CFG_ORDER → f ≠ F_PW_L_CFG_MINPHASE → t.fld f i = s.newField f i (v % 2 ^ 32) % 2 ^ f.wid) ∧
        t.fld F_PW_L_CFG_ORDER i = s.fld F_PW_L_CFG_ORDER i ∧ t.fld F_PW_L_CFG_MINPHASE i = s.fld F_PW_L_CFG_MINPHASE i ∧
        (bits v 4 2 ≠ s.fld F_PW_L_CFG_ORDER i + 2 * s.fld F_PW_L_CFG_MINPHASE i → t.fld F_PW_L_STATUS_LAST i = 1 ∧ t.fld F_TOP_BAD_ACCESS_ADDR_OFFSET = a.off % 2 ^ F_TOP_BAD_ACCESS_ADDR_OFFSET.wid) ∧ (t.bank a.p).stage = none ∧ t.mem = s.mem) ∧
  (∀ (s : State) (a : Access) (v : Nat) (x : WriteAux) (f : Nat) (n : Nat) (k : Nat),
      a.wide = false →
      a.bar2 = false →
      s.answers a.p a.off = true →
      s.ideStops a = false →
      a.be % 16 = 15 →
      s.place a.p a.off = .vec f n k →
      k < 4 →
      Leads (.registerWrite a v x) s fun t => (t.msix f n).word k = (if k = 3 then v % 2 else v % 2 ^ 32) ∧
        (∀ j, j < 4 → j ≠ k → (t.msix f n).word j = (s.msix f n).word j) ∧ (t.bank a.p).stage = none ∧ t.mem = s.mem) ∧
  (∀ (s : State) (a : Access) (v : Nat) (x : WriteAux),
      a.wide = false →
      a.bar2 = false →
      s.answers a.p a.off = true →
      s.ideStops a = false →
      a.be % 16 = 15 →
      (s.place a.p a.off = .empty ∨ s.place a.p a.off = .dark) →
      Leads (.registerWrite a v x) s fun t => t = (s.touch.dropStage a.p).badAccess a.p a.off) ∧
  (∀ (s : State) (a : Access) (v : Nat) (x : WriteAux),
      a.wide = false →
      a.bar2 = false →
      s.answers a.p a.off = true →
      s.ideStops a = false →
      a.be % 16 = 15 →
      (match s.place a.p a.off with | .selStatus _ => true | .slot _ _ => true | .noVector => a.p != .bmc && a.p != .rtp | _ => false) = true →
      Leads (.registerWrite a v x) s fun t => t = s.touch.dropStage a.p) ∧
  (∀ (s : State) (a : Access) (v : Nat) (x : WriteAux),
      a.wide = false →
      a.bar2 = false →
      s.answers a.p a.off = true →
      s.ideStops a = false →
      a.be % 16 = 15 →
      s.place a.p a.off = .noVector →
      (a.p = .bmc ∨ a.p = .rtp) →
      Leads (.registerWrite a v x) s fun t => t = (s.touch.dropStage a.p).badAccess a.p a.off) ∧
  (∀ (s : State) (a : Access) (v : Nat) (x : WriteAux) (f : Nat) (k : Nat),
      a.wide = false →
      a.bar2 = false →
      s.answers a.p a.off = true →
      s.ideStops a = false →
      s.place a.p a.off = .pba f k →
      Leads (.registerWrite a v x) s fun t => t = s.touch.dropStage a.p) ∧
  (∀ (s : State) (a : Access) (v : Nat) (x : WriteAux),
      a.wide = false →
      a.bar2 = false →
      s.answers a.p a.off = true →
      s.ideStops a = false →
      a.be % 16 ≠ 15 →
      (fun (pl : Place) => !pl.isLow && !pl.isHigh && !pl.isSel) (s.place a.p a.off) = true →
      (match s.place a.p a.off with | .pba _ _ => false | _ => true) = true →
      Leads (.registerWrite a v x) s fun t => t = (s.touch.dropStage a.p).badAccess a.p a.off) ∧
  (∀ (s : State) (a : Access) (v : Nat) (x : WriteAux),
      a.bar2 = false →
      s.answers a.p a.off = true →
      s.ideStops a = true →
      (fun (pl : Place) => !pl.isLow && !pl.isHigh && !pl.isSel) (s.place a.p a.off) = true →
      Leads (.registerWrite a v x) s fun t => t = s.bump F_HP_IDE_FAIL_IDE) ∧
  (∀ (s : State) (a : Access) (v : Nat) (x : WriteAux),
      a.wide = false →
      a.bar2 = false →
      s.answers a.p a.off = false →
      (fun (pl : Place) => !pl.isLow && !pl.isHigh && !pl.isSel) (s.place a.p a.off) = true →
      Leads (.registerWrite a v x) s fun t => t = s.dropStage a.p) ∧
  (∀ (s : State) (a : Access) (v : Nat) (x : WriteAux),
      a.bar2 = false →
      (fun (pl : Place) => !pl.isLow && !pl.isHigh && !pl.isSel) (s.place a.p a.off) = false →
      Leads (.registerWrite a v x) s fun t => t = s) ∧
  (∀ (s : State) (a : Access) (v : Nat) (x : WriteAux),
      a.bar2 = false →
      a.wide = true →
      (s.answers a.p a.off = false ∨ s.ideStops a = false) →
      (fun (pl : Place) => !pl.isLow && !pl.isHigh && !pl.isSel) (s.place a.p a.off) = true →
      Leads (.registerWrite a v x) s fun t => t = (s.portWrite4 a (v % 2 ^ 32) x (fun (pl : Place) => !pl.isLow && !pl.isHigh && !pl.isSel)).portWrite4 a.upper (v / 2 ^ 32) x (fun _ => true)) ∧
  (∀ (s : State) (a : Access) (v : Nat),
      a.wide = false →
      a.bar2 = false →
      s.answers a.p a.off = true →
      s.ideStops a = false →
      a.be % 16 ≠ 15 →
      (s.place a.p a.off).isLow = true →
      Leads (.lowWordWrite a v) s fun t => t = (s.touch.dropStage a.p).badAccess a.p a.off) ∧
  (∀ (s : State) (a : Access) (v : Nat),
      a.bar2 = false →
      s.answers a.p a.off = true →
      s.ideStops a = true →
      (s.place a.p a.off).isLow = true →
      Leads (.lowWordWrite a v) s fun t => t = s.bump F_HP_IDE_FAIL_IDE) ∧
  (∀ (s : State) (a : Access) (v : Nat),
      a.wide = false →
      a.bar2 = false →
      s.answers a.p a.off = false →
      (s.place a.p a.off).isLow = true →
      Leads (.lowWordWrite a v) s fun t => t = s.dropStage a.p) ∧
  (∀ (s : State) (a : Access) (v : Nat),
      a.bar2 = false →
      (s.place a.p a.off).isLow = false →
      Leads (.lowWordWrite a v) s fun t => t = s) ∧
  (∀ (s : State) (a : Access) (v : Nat),
      a.bar2 = false →
      a.wide = true →
      (s.answers a.p a.off = false ∨ s.ideStops a = false) →
      (s.place a.p a.off).isLow = true →
      Leads (.lowWordWrite a v) s fun t => t = (s.portWrite4 a (v % 2 ^ 32) {} (Place.isLow)).portWrite4 a.upper (v / 2 ^ 32) {} (fun _ => true)) ∧
  (∀ (s : State) (a : Access) (v : Nat),
      a.bar2 = true →
      Leads (.lowWordWrite a v) s fun t => t = s) ∧
  (∀ (s : State) (a : Access) (v : Nat),
      a.wide = false →
      a.bar2 = false →
      s.answers a.p a.off = true →
      s.ideStops a = false →
      a.be % 16 ≠ 15 →
      (s.place a.p a.off).isHigh = true →
      Leads (.highWordWrite a v) s fun t => t = (s.touch.dropStage a.p).badAccess a.p a.off) ∧
  (∀ (s : State) (a : Access) (v : Nat),
      a.bar2 = false →
      s.answers a.p a.off = true →
      s.ideStops a = true →
      (s.place a.p a.off).isHigh = true →
      Leads (.highWordWrite a v) s fun t => t = s.bump F_HP_IDE_FAIL_IDE) ∧
  (∀ (s : State) (a : Access) (v : Nat),
      a.wide = false →
      a.bar2 = false →
      s.answers a.p a.off = false →
      (s.place a.p a.off).isHigh = true →
      Leads (.highWordWrite a v) s fun t => t = s.dropStage a.p) ∧
  (∀ (s : State) (a : Access) (v : Nat),
      a.bar2 = false →
      (s.place a.p a.off).isHigh = false →
      Leads (.highWordWrite a v) s fun t => t = s) ∧
  (∀ (s : State) (a : Access) (v : Nat),
      a.bar2 = false →
      a.wide = true →
      (s.answers a.p a.off = false ∨ s.ideStops a = false) →
      (s.place a.p a.off).isHigh = true →
      Leads (.highWordWrite a v) s fun t => t = (s.portWrite4 a (v % 2 ^ 32) {} (Place.isHigh)).portWrite4 a.upper (v / 2 ^ 32) {} (fun _ => true)) ∧
  (∀ (s : State) (a : Access) (v : Nat),
      a.bar2 = true →
      Leads (.highWordWrite a v) s fun t => t = s) ∧
  (∀ (s : State) (a : Access) (v : Nat),
      a.wide = false →
      a.bar2 = false →
      s.answers a.p a.off = true →
      s.ideStops a = false →
      a.be % 16 ≠ 15 →
      (s.place a.p a.off).isSel = true →
      Leads (.selWrite a v) s fun t => t = (s.touch.dropStage a.p).badAccess a.p a.off) ∧
  (∀ (s : State) (a : Access) (v : Nat),
      a.bar2 = false →
      s.answers a.p a.off = true →
      s.ideStops a = true →
      (s.place a.p a.off).isSel = true →
      Leads (.selWrite a v) s fun t => t = s.bump F_HP_IDE_FAIL_IDE) ∧
  (∀ (s : State) (a : Access) (v : Nat),
      a.wide = false →
      a.bar2 = false →
      s.answers a.p a.off = false →
      (s.place a.p a.off).isSel = true →
      Leads (.selWrite a v) s fun t => t = s.dropStage a.p) ∧
  (∀ (s : State) (a : Access) (v : Nat),
      a.bar2 = false →
      (s.place a.p a.off).isSel = false →
      Leads (.selWrite a v) s fun t => t = s) ∧
  (∀ (s : State) (a : Access) (v : Nat),
      a.bar2 = false →
      a.wide = true →
      (s.answers a.p a.off = false ∨ s.ideStops a = false) →
      (s.place a.p a.off).isSel = true →
      Leads (.selWrite a v) s fun t => t = (s.portWrite4 a (v % 2 ^ 32) {} (Place.isSel)).portWrite4 a.upper (v / 2 ^ 32) {} (fun _ => true)) ∧
  (∀ (s : State) (a : Access) (v : Nat),
      a.bar2 = true →
      Leads (.selWrite a v) s fun t => t = s) ∧
  (∀ (s : State) (a : Access) (v : Nat) (x : WriteAux),
      a.bar2 = true →
      portFn a.p = none →
      Leads (.registerWrite a v x) s fun t => t = s) ∧
  (∀ (s : State) (a : Access) (v : Nat) (x : WriteAux) (k : Nat),
      a.bar2 = true →
      (a.wide = false ∨ s.ideStops a = true) →
      portFn a.p = some k →
      Leads (.registerWrite a v x) s fun t => t = s.pageStore k (a.off / 4096) (a.off % 4096 / 4 * 4) v a.be a.secure) ∧
  (∀ (s : State) (a : Access) (v : Nat) (x : WriteAux) (k : Nat),
      a.bar2 = true →
      a.wide = true →
      s.ideStops a = false →
      portFn a.p = some k →
      Leads (.registerWrite a v x) s fun t => t = (s.pageStore k (a.off / 4096) (a.off % 4096 / 4 * 4) (v % 2 ^ 32) a.be a.secure).pageStore k ((a.off + 4) / 4096) ((a.off + 4) % 4096 / 4 * 4) (v / 2 ^ 32) (a.be / 16) a.secure) ∧
  (∀ (s : State) (a : Access) (v : Nat) (w : RegWord) (n : Nat) (i : Nat),
      a.wide = false →
      a.bar2 = false →
      s.answers a.p a.off = true →
      s.ideStops a = false →
      a.be % 16 = 15 →
      s.place a.p a.off = .word w n i →
      w.isLow = true →
      s.wideOpen a.p w i = true →
      Leads (.lowWordWrite a v) s fun t => (t.bank a.p).stage = some { blk := w.blk, off := w.off, inst := i, word := v % 2 ^ 32 } ∧
        t.regs = s.regs ∧ t.mem = s.mem) ∧
  (∀ (s : State) (a : Access) (v : Nat) (w : RegWord) (n : Nat) (i : Nat),
      a.wide = false →
      a.bar2 = false →
      s.answers a.p a.off = true →
      s.ideStops a = false →
      a.be % 16 = 15 →
      s.place a.p a.off = .word w n i →
      w.isLow = true →
      w.flds.any Fld.written = true →
      s.wideOpen a.p w i = false →
      Leads (.lowWordWrite a v) s fun t => t = (s.touch.dropStage a.p).badAccess a.p a.off) ∧
  (∀ (s : State) (a : Access) (v : Nat) (w : RegWord) (n : Nat) (i : Nat),
      a.wide = false →
      a.bar2 = false →
      s.answers a.p a.off = true →
      s.ideStops a = false →
      a.be % 16 = 15 →
      s.place a.p a.off = .word w n i →
      w.isLow = true →
      w.flds.any Fld.written = false →
      Leads (.lowWordWrite a v) s fun t => t = s.touch.dropStage a.p) ∧
  (∀ (s : State) (a : Access) (v : Nat) (w : RegWord) (z : RegWord) (n : Nat) (i : Nat) (k : Nat) (f : Fld) (g : Fld),
      a.wide = false →
      a.bar2 = false →
      s.answers a.p a.off = true →
      s.ideStops a = false →
      a.be % 16 = 15 →
      s.place a.p a.off = .word w n i →
      w.isHigh = true →
      w.isLow = false →
      heldWord (s.bank a.p).stage w i = some k →
      wordAt w.blk (w.off - 4) w.kind = some z →
      s.wideOpen a.p w i = true →
      f ∈ z.flds →
      f.acc = .rw →
      g ∈ w.flds →
      g.acc = .rw →
      Leads (.highWordWrite a v) s fun t => t.fld f i = s.newField f i k % 2 ^ f.wid ∧
        t.fld g i = s.newField g i (v % 2 ^ 32) % 2 ^ g.wid ∧ (t.bank a.p).stage = none ∧ t.mem = s.mem) ∧
  (∀ (s : State) (a : Access) (v : Nat) (w : RegWord) (n : Nat) (i : Nat),
      a.wide = false →
      a.bar2 = false →
      s.answers a.p a.off = true →
      s.ideStops a = false →
      a.be % 16 = 15 →
      s.place a.p a.off = .word w n i →
      w.isHigh = true →
      w.isLow = false →
      (heldWord (s.bank a.p).stage w i = none ∨ s.wideOpen a.p w i = false) →
      Leads (.highWordWrite a v) s fun t => t = (s.touch.dropStage a.p).badAccess a.p a.off) ∧
  (∀ (s : State) (a : Access) (v : Nat) (b : Nat),
      a.wide = false →
      a.bar2 = false →
      s.answers a.p a.off = true →
      s.ideStops a = false →
      a.be % 16 = 15 →
      s.place a.p a.off = .sel b →
      Leads (.selWrite a v) s fun t => t.selected a.p b = v % 65536 ∧ (∀ k, k ≠ b → t.selected a.p k = s.selected a.p k) ∧
        t.regs = s.regs ∧ (t.bank a.p).stage = none ∧ t.mem = s.mem) ∧
  (∀ (s : State) (n : Nat) (v : Nat) (k : Nat) (x : WriteAux),
      s.bindUp 1 = true →
      v % 4 = 0 →
      v < 0x4000000 →
      Leads (.regWrite 1 n v k x) s fun t => t = (s.busWrite .bmc v k 15 x).answer 1 (vendorMsg false n 0x11 (some 0) [])) ∧
  (∀ (s : State) (b : Nat) (n : Nat) (v : Nat) (k : Nat) (x : WriteAux),
      s.bindUp b = true →
      b ≠ 1 →
      Leads (.regWrite b n v k x) s fun t => t = s.answer b (vendorMsg false n 0x11 (some 5) [])) ∧
  (∀ (s : State) (n : Nat) (v : Nat) (k : Nat) (x : WriteAux),
      s.bindUp 1 = true →
      (v % 4 ≠ 0 ∨ 0x4000000 ≤ v) →
      Leads (.regWrite 1 n v k x) s fun t => t = s.answer 1 (vendorMsg false n 0x11 (some 2) [])) ∧
  (∀ (s : State) (b : Nat) (n : Nat) (v : Nat) (k : Nat) (x : WriteAux),
      s.bindUp b = false →
      Leads (.regWrite b n v k x) s fun t => t = s)

/-- A step at a state whose queue begins with a command is the meaning of that command on the state with the rest of the queue; with an
empty queue the system counter ticks: where no host access waits and the device runs on its reference clock unsteered, it advances by one
(the model's choice, log entry 42). (00_scope.md) -/
def Obligations.StepRunsFrontCommand : Prop :=
  (∀ (s : State) (c : Instr) (l : List Instr), s.pending = c :: l → step s = exec c { s with pending := l }) ∧
  (∀ s : State, s.pending = [] → step s = .next s.tick) ∧
  ∀ s : State, s.pending = [] → s.hp.held = [] → s.onFallback = false → s.cn.rate = 0 → s.cn.phase = 0 → step s = .next { s with now := s.now + 1 }

/-- No command of the table ends in a fault or a refusal in any state: where its conditions do not hold the state stays as it is (the
model's choice, log entry 41). (95_what_each_step_holds.md) -/
def Obligations.EveryCommandAnswersAState : Prop :=
  ∀ (c : Instr) (s : State), ∃ t, exec c s = .next t

/-- Whatever a command does, the commands that wait behind it stay as they are. (00_scope.md) -/
def Obligations.CommandsLeaveTheQueue : Prop :=
  ∀ (c : Instr) (s t : State), exec c s = .next t → t.pending = s.pending

/-- The reset state lists no byte of memory and no command waits in it. (02_folios_and_translation.md) -/
def Obligations.ResetIsCanonical : Prop :=
  State.reset.Canonical ∧ State.reset.mem = [] ∧ State.reset.pending = []

/-- From every state whose memory is in its canonical form (addresses rising, no zero byte listed), a step leads to one whose memory is:
equal memories stay equal data, whatever command runs. (02_folios_and_translation.md, 11_stored_data_integrity.md) -/
def Obligations.StepKeepsCanonicalMemory : Prop :=
  ∀ s t : State, s.Canonical → step s = .next t → t.Canonical

/-- An INTENT or COMMIT bit of the life-cycle row that reads 1 reads 1 after every command, in every state, and so does each of its four
fuses that is blown: the life cycle never goes back. (16_root_of_trust_and_life_cycle.md, R519, R531, R534) -/
def Obligations.LifeCycleOnlyAdvances : Prop :=
  ∀ (c : Instr) (s t : State) (i : Nat), exec c s = .next t →
    (bit s.se.fuses.lc.read i = true → bit t.se.fuses.lc.read i = true) ∧
    (bit s.se.fuses.lc.a i = true → bit t.se.fuses.lc.a i = true) ∧ (bit s.se.fuses.lc.b i = true → bit t.se.fuses.lc.b i = true) ∧
    (bit s.se.fuses.lc.c i = true → bit t.se.fuses.lc.c i = true) ∧ (bit s.se.fuses.lc.d i = true → bit t.se.fuses.lc.d i = true)

/-- While the selected instance is out of the port's range, a read in the instance window returns 0 with no side effect on any register, and
a write is ignored and counted in TOP_BAD_ACCESS_CNT. (R24) -/
def Obligations.InvalidWindowReadsZero : Prop :=
  ∀ (s : State) (a : Access) (v : Nat) (x : WriteAux), a.wide = false → a.bar2 = false → s.answers a.p a.off = true → s.ideStops a = false →
    a.off / 0x100000 ≤ 22 → 0x1000 ≤ a.off % 0x100000 → a.off % 0x100000 < 0x2000 →
    s.inRange a.p (a.off / 0x100000) (s.selected a.p (a.off / 0x100000)) = false →
    Leads (.rcFieldRead a) s (fun t => t.outbox = s.outbox ++ [Msg.regData (portCode a.p) a.off 0] ∧ t.regs = s.regs) ∧
    Leads (.registerWrite a v x) s (fun t => t = (s.touch.dropStage a.p).badAccess a.p a.off)

/-- With 256 unread records a record that is not fatal leaves ring and write pointer as they are, takes no SEQ and raises ER_OVF_CNT. (R668)
-/
def Obligations.FullRingDropsNonFatal : Prop :=
  ∀ (s : State) (r : ErrRec), 256 ≤ (s.fld F_ER_WPTR_WPTR + 2 ^ 32 - s.fld F_ER_RPTR_RPTR) % 2 ^ 32 → r.cls ≠ 3 →
    (s.writeRec r).1.er = s.er ∧ (s.writeRec r).1.fld F_ER_WPTR_WPTR = s.fld F_ER_WPTR_WPTR ∧ (s.writeRec r).2 = 0xFFFF_FFFF ∧
    (s.writeRec r).1.fld F_ER_OVF_CNT_OVF = min (s.fld F_ER_OVF_CNT_OVF + 1) (2 ^ F_ER_OVF_CNT_OVF.wid - 1)

/-- A fatal error found while an action is in progress leaves the action and its kind, except that HOLD supersedes RESET, and raises the
count of a fatal store that is VALID, up to 255. (R664) -/
def Obligations.LaterFatalErrors : Prop :=
  ∀ (s : State) (r : ErrRec) (a : FatalAction), s.er.action ≠ .none → s.er.storeValid = true →
    (s.fatal r a).er.action = (if a = .hold then .hold else s.er.action) ∧ (s.fatal r a).er.kind = s.er.kind ∧
    (s.fatal r a).er.store = s.er.store ∧ (s.fatal r a).er.storeCount = min 255 (s.er.storeCount + 1)

/-- A record that finds room in the ring, or that replaces a record that is not fatal, sets bit 0 of IR_EVT_STATUS. (R657) -/
def Obligations.RecordsSetTheErrorEvent : Prop :=
  ∀ (s : State) (r : ErrRec),
    ((s.fld F_ER_WPTR_WPTR + 2 ^ 32 - s.fld F_ER_RPTR_RPTR) % 2 ^ 32 < 256 ∨ (r.cls = 3 ∧ (s.newestNonFatal 256 ((s.fld F_ER_WPTR_WPTR + 2 ^ 32 - 1) % 2 ^ 32)).isSome = true)) →
    bit ((s.writeRec r).1.fld F_IR_EVT_STATUS_STATUS) 0 = true

/-- What either reset leaves before boot writes anything: no record, and both pointers at 0; after COLD_RESET the ring is empty. (R670) -/
def Obligations.ResetsEmptyTheRing : Prop :=
  (∀ (s : State) (c p : Bool), (s.cleared c p).er.ring = [] ∧ (s.cleared c p).fld F_ER_WPTR_WPTR = 0 ∧ (s.cleared c p).fld F_ER_RPTR_RPTR = 0) ∧
  ∀ s : State, Leads .coldReset s (fun t => t.er.ring = [] ∧ t.fld F_ER_WPTR_WPTR = 0 ∧ t.fld F_ER_RPTR_RPTR = 0)

/-- CORE_HANG on a core in service halts it, and each command it was serving that has not ended ends E_ABORTED with DETAIL 0xC1. (R673) -/
def Obligations.HungCoreIsHalted : Prop :=
  ∀ (s : State) (k : Nat) (l : List Nat), k < 8 → s.coreUp k = true → s.firmwareUp = true →
    Leads (.coreHang k l) s (fun t => (t.core k).halted = true ∧
      ∀ d ∈ l, (s.desc? d).isSome = true → (s.desc d).stage ≠ .done → Ended t d .aborted ∧ (t.desc d).detail = 0xC1)

/-- Where the command need not wait and it is its tenant's turn, every sector reads and writes well and the recorded folios are distinct and
cover the operand, byte i of a WRITE (of a COPY: of what its source reads as) stands at the i-th address of the destination run afterwards.
Every other byte of memory is as before, but that the rest of a FRESH sector that is written in part becomes the zeros it read as. (R39,
R69, R344, R351, 02_folios_and_translation.md) -/
def Obligations.WriteStoresExactly : Prop :=
  (∀ (s : State) (d : Nat) (b : List Byte) (x : Desc), Runs s d 0x20 x → s.noHost x.q = false →
      s.mergeWaits x.e.tenant (pieces x.dst x.e.opA x.e.len) = false → s.outOfTurn x.e.tenant [] (pieces x.dst x.e.opA x.e.len) = false →
      x.bad = [] → x.dst.Nodup → (∀ i, i < x.e.len → (x.e.opA % 65536 + i) / 65536 < x.dst.length) →
      s.decodesWell (pieces x.dst x.e.opA x.e.len) → (((s.turned x [] (pieces x.dst x.e.opA x.e.len)).askHost x.q x.e.opB x.e.len).storeData x (s.writeBytes x b)).2 = {} →
      Leads (.write d b) s (fun t =>
        (∀ i, i < x.e.len → t.byte (dpaAt x.dst x.e.opA i) = (s.writeBytes x b).getD i 0) ∧
        ∀ a, (∀ i, i < x.e.len → a ≠ dpaAt x.dst x.e.opA i) →
          t.byte a = if (pieces x.dst x.e.opA x.e.len).any (fun p => p.sec == sectorOf a) then s.look a else s.byte a)) ∧
  ∀ (s : State) (d : Nat) (x : Desc), Runs s d 0x22 x →
      s.readWaits x.e.tenant (pieces x.src x.e.opB x.e.len) = false → s.mergeWaits x.e.tenant (pieces x.dst x.e.opA x.e.len) = false →
      s.outOfTurn x.e.tenant (pieces x.src x.e.opB x.e.len) (pieces x.dst x.e.opA x.e.len) = false →
      x.dst.Nodup → (∀ i, i < x.e.len → (x.e.opA % 65536 + i) / 65536 < x.dst.length) →
      s.decodesWell (pieces x.src x.e.opB x.e.len) → s.decodesWell (pieces x.dst x.e.opA x.e.len) →
      ((s.turned x (pieces x.src x.e.opB x.e.len) (pieces x.dst x.e.opA x.e.len)).readOf x x.e.opB).2 = {} →
      (((s.turned x (pieces x.src x.e.opB x.e.len) (pieces x.dst x.e.opA x.e.len)).readOf x x.e.opB).1.writePieces x.dmeta {} x.who
        (((s.turned x (pieces x.src x.e.opB x.e.len) (pieces x.dst x.e.opA x.e.len)).readOf x x.e.opB).1.readRuns x.src x.e.opB 0 x.e.len) (pieces x.dst x.e.opA x.e.len) {}).2 = {} →
      Leads (.copy d) s (fun t =>
        (∀ i, i < x.e.len → t.byte (dpaAt x.dst x.e.opA i) = s.look (dpaAt x.src x.e.opB i)) ∧
        ∀ a, (∀ i, i < x.e.len → a ≠ dpaAt x.dst x.e.opA i) →
          t.byte a = if (pieces x.dst x.e.opA x.e.len).any (fun p => p.sec == sectorOf a) then s.look a else s.byte a)

/-- NOP, the fence commands and the ends of their waits leave every byte of memory, every poison mark, the folio owners, the catalog, the
key slots, the root of trust, the cache, the memory controllers, the tag store, the constellation, clocks, rails and boot state as they are,
whichever end they come to. (04_streams_steps_and_fences.md, 03_queues_and_command_packets.md) -/
def Obligations.FenceCommandsFrame : Prop :=
  ∀ (c : Instr) (d : Nat) (s t : State),
    c ∈ ([.nop d, .fenceSignal d, .fenceWait d, .fenceWaitPoisoned d, .fenceReset d, .fenceResetTakesEffect d, .fenceResetBudgetExpired d,
      .fenceBind d, .fenceUnbind d, .fenceForce d] : List Instr) →
    exec c s = .next t →
    t.mem = s.mem ∧ t.poison = s.poison ∧ t.map.owner = s.map.owner ∧ t.ct = s.ct ∧ t.ks = s.ks ∧ t.se = s.se ∧ t.sk = s.sk ∧
      t.mc = s.mc ∧ t.si = s.si ∧ t.cn = s.cn ∧ t.ck = s.ck ∧ t.pw = s.pw ∧ t.bt = s.bt ∧ t.ports = s.ports ∧ t.pending = s.pending

/-- Whatever it reaches, an access that reads a register or a doorbell page, of four or eight bytes, changes no part of the device but the
register fields it clears or counts in, the banks of the ports and the slow mode of the fabric; what it answers is added to what the device
has sent. (00_scope.md, 22_register_map.md) -/
def Obligations.RegisterReadsFrame : Prop :=
  ∀ (c : Instr) (a : Access) (s t : State), c ∈ ([.rcFieldRead a, .lowWordRead a, .highWordRead a] : List Instr) → exec c s = .next t →
    ∃ r p b l, t = { s with regs := r, ports := p, ck := { s.ck with slow := b }, outbox := s.outbox ++ l } ∧ l.length ≤ 2

/-- A SEL_WRITE, LOW_WORD_WRITE or HIGH_WORD_WRITE of four bytes changes no part of the device but register fields, the banks of the ports,
the slow mode of the fabric and the set of RWL fields that have been written: no memory, queue, stream, folio or key. (00_scope.md,
22_register_map.md) -/
def Obligations.WordWritesFrame : Prop :=
  ∀ (c : Instr) (a : Access) (v : Nat) (s t : State), a.wide = false →
    c ∈ ([.selWrite a v, .lowWordWrite a v, .highWordWrite a v] : List Instr) → exec c s = .next t →
    ∃ r p b l, t = { s with regs := r, ports := p, ck := { s.ck with slow := b }, bt := { s.bt with rwl := l } }
end

