-- ==== Sys2Proof/Laws/Memory.lean ====
section
/-!
SUPPORT. The laws of keyed tables and of device memory: a read after a write, what a write leaves alone, and the canonical form that every
memory operation keeps.
-/
namespace Sys2Proof

variable {α : Type}

@[simp] theorem kvGet_kvInsert (d : α) (m : KV α) (k j : Nat) (v : α) :
    kvGet d (kvInsert m k v) j = if k = j then v else kvGet d m j := by
  induction m with
  | nil => rfl
  | cons p t ih =>
    obtain ⟨k', v'⟩ := p
    simp only [kvInsert]
    split
    · rfl
    · split
      · subst k'
        simp only [kvGet]
        split <;> rfl
      · simp only [kvGet, ih]
        by_cases hj : k' = j
        · subst hj
          simp [‹¬k = k'›]
        · simp [hj]

@[simp] theorem kvGet_kvErase (d : α) (m : KV α) (k j : Nat) :
    kvGet d (kvErase m k) j = if k = j then d else kvGet d m j := by
  induction m with
  | nil => simp [kvErase, kvGet]
  | cons p t ih =>
    obtain ⟨k', v'⟩ := p
    simp only [kvErase]
    split
    · subst k'
      rw [ih]
      split
      · rfl
      · simp [kvGet, *]
    · simp only [kvGet, ih]
      by_cases hj : k' = j
      · subst hj
        simp [Ne.symm ‹¬k' = k›]
      · simp [hj]

@[simp] theorem kvGet_kvPut [DecidableEq α] (d : α) (m : KV α) (k j : Nat) (v : α) :
    kvGet d (kvPut d m k v) j = if k = j then v else kvGet d m j := by
  unfold kvPut
  split
  · subst v
    exact kvGet_kvErase d m k j
  · exact kvGet_kvInsert d m k j v

/-- Rising keys, as a relation between any two entries. -/
theorem kvSorted_iff (m : KV α) : kvSorted m = true ↔ m.Pairwise (fun p q => p.1 < q.1) := by
  induction m with
  | nil => simp [kvSorted]
  | cons p t ih =>
    cases t with
    | nil => simp [kvSorted]
    | cons q u =>
      simp only [kvSorted, Bool.and_eq_true, decide_eq_true_eq, ih]
      constructor
      · rintro ⟨hpq, h⟩
        refine List.pairwise_cons.2 ⟨fun r hr => ?_, h⟩
        rcases List.mem_cons.1 hr with rfl | hr
        · exact hpq
        · exact hpq.trans ((List.pairwise_cons.1 h).1 r hr)
      · intro h
        exact ⟨(List.pairwise_cons.1 h).1 q (by simp), (List.pairwise_cons.1 h).2⟩

theorem mem_kvErase {m : KV α} {k : Nat} {p : Nat × α} (h : p ∈ kvErase m k) : p ∈ m := by
  induction m with
  | nil => exact h
  | cons q t ih =>
    obtain ⟨k', v'⟩ := q
    simp only [kvErase] at h
    split at h
    · exact List.mem_cons_of_mem _ (ih h)
    · rcases List.mem_cons.1 h with rfl | h
      · exact List.mem_cons_self ..
      · exact List.mem_cons_of_mem _ (ih h)

theorem mem_kvInsert {m : KV α} {k : Nat} {v : α} {p : Nat × α} (h : p ∈ kvInsert m k v) : p = (k, v) ∨ p ∈ m := by
  induction m with
  | nil => exact .inl (by simpa [kvInsert] using h)
  | cons q t ih =>
    obtain ⟨k', v'⟩ := q
    simp only [kvInsert] at h
    split at h
    · exact (List.mem_cons.1 h).imp_right id
    · split at h
      · exact (List.mem_cons.1 h).imp_right (List.mem_cons_of_mem _)
      · rcases List.mem_cons.1 h with rfl | h
        · exact .inr (List.mem_cons_self ..)
        · exact (ih h).imp_right (List.mem_cons_of_mem _)

theorem kvErase_sorted {m : KV α} (k : Nat) (h : m.Pairwise (fun p q => p.1 < q.1)) :
    (kvErase m k).Pairwise (fun p q => p.1 < q.1) := by
  induction m with
  | nil => exact h
  | cons q t ih =>
    obtain ⟨k', v'⟩ := q
    obtain ⟨hq, ht⟩ := List.pairwise_cons.1 h
    simp only [kvErase]
    split
    · exact ih ht
    · exact List.pairwise_cons.2 ⟨fun r hr => hq r (mem_kvErase hr), ih ht⟩

theorem kvInsert_sorted {m : KV α} (k : Nat) (v : α) (h : m.Pairwise (fun p q => p.1 < q.1)) :
    (kvInsert m k v).Pairwise (fun p q => p.1 < q.1) := by
  induction m with
  | nil => simp [kvInsert]
  | cons q t ih =>
    obtain ⟨k', v'⟩ := q
    obtain ⟨hq, ht⟩ := List.pairwise_cons.1 h
    simp only [kvInsert]
    split
    · refine List.pairwise_cons.2 ⟨fun r hr => ?_, h⟩
      rcases List.mem_cons.1 hr with rfl | hr
      · assumption
      · exact Nat.lt_trans ‹k < k'› (hq r hr)
    · split
      · subst k'
        exact List.pairwise_cons.2 ⟨hq, ht⟩
      · refine List.pairwise_cons.2 ⟨fun r hr => ?_, ih ht⟩
        rcases mem_kvInsert hr with rfl | hr
        · show k' < k
          omega
        · exact hq r hr

/-- The canonical form, as what it says of the entries. -/
theorem kvWf_iff [DecidableEq α] (d : α) (m : KV α) :
    kvWf d m = true ↔ m.Pairwise (fun p q => p.1 < q.1) ∧ ∀ p ∈ m, p.2 ≠ d := by
  simp [kvWf, kvSorted_iff]

/-- A write keeps the canonical form. -/
theorem kvPut_wf [DecidableEq α] {d : α} {m : KV α} (k : Nat) (v : α) (h : kvWf d m = true) :
    kvWf d (kvPut d m k v) = true := by
  rw [kvWf_iff] at h ⊢
  unfold kvPut
  split
  · exact ⟨kvErase_sorted k h.1, fun p hp => h.2 p (mem_kvErase hp)⟩
  · refine ⟨kvInsert_sorted k v h.1, fun p hp => ?_⟩
    rcases mem_kvInsert hp with rfl | hp
    · assumption
    · exact h.2 p hp

/-- Forgetting entries keeps the canonical form. -/
theorem kvFilter_wf [DecidableEq α] {d : α} {m : KV α} (f : Nat × α → Bool) (h : kvWf d m = true) :
    kvWf d (m.filter f) = true := by
  rw [kvWf_iff] at h ⊢
  exact ⟨h.1.filter f, fun p hp => h.2 p (List.mem_of_mem_filter hp)⟩

/-- A series of writes keeps the canonical form. -/
theorem kvFold_wf [DecidableEq α] {d : α} (l : List (Nat × α)) {m : KV α} (h : kvWf d m = true) :
    kvWf d (l.foldl (fun m c => kvPut d m c.1 c.2) m) = true := by
  induction l generalizing m with
  | nil => exact h
  | cons c l ih => exact ih (kvPut_wf c.1 c.2 h)

/-- An entry outside the filter's reach reads as before, one that the filter drops as an unlisted one. -/
theorem kvGet_filter (d : α) (m : KV α) (f : Nat → Bool) (j : Nat) :
    kvGet d (m.filter (fun c => f c.1)) j = if f j then kvGet d m j else d := by
  induction m with
  | nil => simp [kvGet]
  | cons p t ih =>
    obtain ⟨k', v'⟩ := p
    by_cases hj : k' = j
    · subst hj
      cases hf : f k' <;> simp_all [kvGet]
    · cases hf : f k' <;> simp [kvGet, hf, hj, ih]

namespace Machine

/-! ## Reads after writes -/

/-- A byte after one byte is written. -/
@[simp] theorem byte_setByte (s : State) (a x : Nat) (b : Byte) :
    (s.setByte a b).byte x = if a = x then b else s.byte x := kvGet_kvPut 0 s.mem a x b

/-- A byte outside the bytes written is unchanged. -/
theorem byte_writeMem_outside (s : State) (a x : Nat) (l : List Byte) (h : x < a ∨ a + l.length ≤ x) :
    (s.writeMem a l).byte x = s.byte x := by
  induction l generalizing s a with
  | nil => rfl
  | cons b t ih =>
    simp only [List.length_cons] at h
    rw [State.writeMem, ih _ _ (by omega), byte_setByte, if_neg (by omega)]

/-- A byte among the bytes written is the one of its place. -/
theorem byte_writeMem_inside (s : State) (a i : Nat) (l : List Byte) (h : i < l.length) :
    (s.writeMem a l).byte (a + i) = l[i] := by
  induction l generalizing s a i with
  | nil => simp at h
  | cons b t ih =>
    rw [State.writeMem]
    cases i with
    | zero => rw [byte_writeMem_outside _ _ _ _ (by omega)]; simp
    | succ i =>
      have hi := ih (s.setByte a b) (a + 1) i (by simpa using h)
      rw [show a + (i + 1) = a + 1 + i by omega, hi]
      simp

/-- Writing zero to a range: its bytes read 0, the others as before. -/
theorem byte_zeroMem (s : State) (a n x : Nat) :
    (s.zeroMem a n).byte x = if x < a ∨ a + n ≤ x then s.byte x else 0 := by
  have h := kvGet_filter (0 : Byte) s.mem (fun x => decide (x < a) || decide (a + n ≤ x)) x
  simpa [State.zeroMem, State.byte] using h

/-- A byte that no address of a series of writes through folios names is unchanged. -/
theorem byte_writeRuns_outside (s : State) (dfns : List Nat) (a i x : Nat) (l : List Byte)
    (h : ∀ j, j < l.length → dpaAt dfns a (i + j) ≠ x) : (s.writeRuns dfns a i l).byte x = s.byte x := by
  induction l generalizing s i with
  | nil => rfl
  | cons b t ih =>
    rw [State.writeRuns, ih _ _ (fun j hj => by
      have := h (j + 1) (by simpa using hj)
      rwa [show i + (j + 1) = i + 1 + j by omega] at this),
      byte_setByte, if_neg (by simpa using h 0 (by simp))]

/-! ## The canonical form -/

theorem setByte_wf {s : State} (a : Nat) (b : Byte) (h : Memory.wf s.mem = true) :
    Memory.wf (s.setByte a b).mem = true := kvPut_wf a b h

theorem writeMem_wf {s : State} (a : Nat) (l : List Byte) (h : Memory.wf s.mem = true) :
    Memory.wf (s.writeMem a l).mem = true := by
  induction l generalizing s a with
  | nil => exact h
  | cons b t ih => exact ih (a + 1) (setByte_wf a b h)

theorem writeRuns_wf {s : State} (dfns : List Nat) (a i : Nat) (l : List Byte) (h : Memory.wf s.mem = true) :
    Memory.wf (s.writeRuns dfns a i l).mem = true := by
  induction l generalizing s i with
  | nil => exact h
  | cons b t ih => exact ih (i + 1) (setByte_wf _ b h)

theorem zeroMem_wf {s : State} (a n : Nat) (h : Memory.wf s.mem = true) : Memory.wf (s.zeroMem a n).mem = true :=
  kvFilter_wf _ h

theorem copyMem_wf {s : State} (src dst n : Nat) (h : Memory.wf s.mem = true) :
    Memory.wf (s.copyMem src dst n).mem = true := kvFold_wf _ (zeroMem_wf dst n h)

/-! ## What else the memory operations leave alone -/

/-- Writing bytes changes memory only. -/
theorem writeMem_frame (s : State) (a : Nat) (l : List Byte) : ∃ m, s.writeMem a l = { s with mem := m } := by
  induction l generalizing s a with
  | nil => exact ⟨s.mem, rfl⟩
  | cons b t ih =>
    obtain ⟨m, hm⟩ := ih (s.setByte a b) (a + 1)
    exact ⟨m, hm⟩

/-- Writing bytes through folios changes memory only. -/
theorem writeRuns_frame (s : State) (dfns : List Nat) (a i : Nat) (l : List Byte) :
    ∃ m, s.writeRuns dfns a i l = { s with mem := m } := by
  induction l generalizing s i with
  | nil => exact ⟨s.mem, rfl⟩
  | cons b t ih =>
    obtain ⟨m, hm⟩ := ih (s.setByte (dpaAt dfns a i) b) (i + 1)
    exact ⟨m, hm⟩

end Machine
end Sys2Proof
end

