-- ==== Sys2Proof/Laws/State.lean ====
section
/-!
SUPPORT. The fields of State after each named update of Machine/Ops.lean: what each leaves as it is, and what it writes reads back.
-/
namespace Sys2Proof.Machine

variable (s : State)

/-! ## setFld -/

@[simp] theorem State.setFld_ports (f : Fld) (v i : Nat) : (s.setFld f v i).ports = s.ports := rfl
@[simp] theorem State.setFld_map (f : Fld) (v i : Nat) : (s.setFld f v i).map = s.map := rfl
@[simp] theorem State.setFld_q (f : Fld) (v i : Nat) : (s.setFld f v i).q = s.q := rfl
@[simp] theorem State.setFld_fn (f : Fld) (v i : Nat) : (s.setFld f v i).fn = s.fn := rfl
@[simp] theorem State.setFld_ct (f : Fld) (v i : Nat) : (s.setFld f v i).ct = s.ct := rfl
@[simp] theorem State.setFld_er (f : Fld) (v i : Nat) : (s.setFld f v i).er = s.er := rfl
@[simp] theorem State.setFld_ir (f : Fld) (v i : Nat) : (s.setFld f v i).ir = s.ir := rfl
@[simp] theorem State.setFld_lk (f : Fld) (v i : Nat) : (s.setFld f v i).lk = s.lk := rfl
@[simp] theorem State.setFld_cn (f : Fld) (v i : Nat) : (s.setFld f v i).cn = s.cn := rfl
@[simp] theorem State.setFld_ks (f : Fld) (v i : Nat) : (s.setFld f v i).ks = s.ks := rfl
@[simp] theorem State.setFld_sk (f : Fld) (v i : Nat) : (s.setFld f v i).sk = s.sk := rfl
@[simp] theorem State.setFld_mc (f : Fld) (v i : Nat) : (s.setFld f v i).mc = s.mc := rfl
@[simp] theorem State.setFld_si (f : Fld) (v i : Nat) : (s.setFld f v i).si = s.si := rfl
@[simp] theorem State.setFld_cr (f : Fld) (v i : Nat) : (s.setFld f v i).cr = s.cr := rfl
@[simp] theorem State.setFld_pj (f : Fld) (v i : Nat) : (s.setFld f v i).pj = s.pj := rfl
@[simp] theorem State.setFld_pl (f : Fld) (v i : Nat) : (s.setFld f v i).pl = s.pl := rfl
@[simp] theorem State.setFld_tn (f : Fld) (v i : Nat) : (s.setFld f v i).tn = s.tn := rfl
@[simp] theorem State.setFld_hp (f : Fld) (v i : Nat) : (s.setFld f v i).hp = s.hp := rfl
@[simp] theorem State.setFld_mg (f : Fld) (v i : Nat) : (s.setFld f v i).mg = s.mg := rfl
@[simp] theorem State.setFld_se (f : Fld) (v i : Nat) : (s.setFld f v i).se = s.se := rfl
@[simp] theorem State.setFld_pw (f : Fld) (v i : Nat) : (s.setFld f v i).pw = s.pw := rfl
@[simp] theorem State.setFld_ck (f : Fld) (v i : Nat) : (s.setFld f v i).ck = s.ck := rfl
@[simp] theorem State.setFld_bt (f : Fld) (v i : Nat) : (s.setFld f v i).bt = s.bt := rfl
@[simp] theorem State.setFld_mem (f : Fld) (v i : Nat) : (s.setFld f v i).mem = s.mem := rfl
@[simp] theorem State.setFld_poison (f : Fld) (v i : Nat) : (s.setFld f v i).poison = s.poison := rfl
@[simp] theorem State.setFld_now (f : Fld) (v i : Nat) : (s.setFld f v i).now = s.now := rfl
@[simp] theorem State.setFld_fresh (f : Fld) (v i : Nat) : (s.setFld f v i).fresh = s.fresh := rfl
@[simp] theorem State.setFld_outbox (f : Fld) (v i : Nat) : (s.setFld f v i).outbox = s.outbox := rfl
@[simp] theorem State.setFld_pending (f : Fld) (v i : Nat) : (s.setFld f v i).pending = s.pending := rfl

/-! ## bump -/

@[simp] theorem State.bump_ports (f : Fld) (n i : Nat) : (s.bump f n i).ports = s.ports := rfl
@[simp] theorem State.bump_map (f : Fld) (n i : Nat) : (s.bump f n i).map = s.map := rfl
@[simp] theorem State.bump_q (f : Fld) (n i : Nat) : (s.bump f n i).q = s.q := rfl
@[simp] theorem State.bump_fn (f : Fld) (n i : Nat) : (s.bump f n i).fn = s.fn := rfl
@[simp] theorem State.bump_ct (f : Fld) (n i : Nat) : (s.bump f n i).ct = s.ct := rfl
@[simp] theorem State.bump_er (f : Fld) (n i : Nat) : (s.bump f n i).er = s.er := rfl
@[simp] theorem State.bump_ir (f : Fld) (n i : Nat) : (s.bump f n i).ir = s.ir := rfl
@[simp] theorem State.bump_lk (f : Fld) (n i : Nat) : (s.bump f n i).lk = s.lk := rfl
@[simp] theorem State.bump_cn (f : Fld) (n i : Nat) : (s.bump f n i).cn = s.cn := rfl
@[simp] theorem State.bump_ks (f : Fld) (n i : Nat) : (s.bump f n i).ks = s.ks := rfl
@[simp] theorem State.bump_sk (f : Fld) (n i : Nat) : (s.bump f n i).sk = s.sk := rfl
@[simp] theorem State.bump_mc (f : Fld) (n i : Nat) : (s.bump f n i).mc = s.mc := rfl
@[simp] theorem State.bump_si (f : Fld) (n i : Nat) : (s.bump f n i).si = s.si := rfl
@[simp] theorem State.bump_cr (f : Fld) (n i : Nat) : (s.bump f n i).cr = s.cr := rfl
@[simp] theorem State.bump_pj (f : Fld) (n i : Nat) : (s.bump f n i).pj = s.pj := rfl
@[simp] theorem State.bump_pl (f : Fld) (n i : Nat) : (s.bump f n i).pl = s.pl := rfl
@[simp] theorem State.bump_tn (f : Fld) (n i : Nat) : (s.bump f n i).tn = s.tn := rfl
@[simp] theorem State.bump_hp (f : Fld) (n i : Nat) : (s.bump f n i).hp = s.hp := rfl
@[simp] theorem State.bump_mg (f : Fld) (n i : Nat) : (s.bump f n i).mg = s.mg := rfl
@[simp] theorem State.bump_se (f : Fld) (n i : Nat) : (s.bump f n i).se = s.se := rfl
@[simp] theorem State.bump_pw (f : Fld) (n i : Nat) : (s.bump f n i).pw = s.pw := rfl
@[simp] theorem State.bump_ck (f : Fld) (n i : Nat) : (s.bump f n i).ck = s.ck := rfl
@[simp] theorem State.bump_bt (f : Fld) (n i : Nat) : (s.bump f n i).bt = s.bt := rfl
@[simp] theorem State.bump_mem (f : Fld) (n i : Nat) : (s.bump f n i).mem = s.mem := rfl
@[simp] theorem State.bump_poison (f : Fld) (n i : Nat) : (s.bump f n i).poison = s.poison := rfl
@[simp] theorem State.bump_now (f : Fld) (n i : Nat) : (s.bump f n i).now = s.now := rfl
@[simp] theorem State.bump_fresh (f : Fld) (n i : Nat) : (s.bump f n i).fresh = s.fresh := rfl
@[simp] theorem State.bump_outbox (f : Fld) (n i : Nat) : (s.bump f n i).outbox = s.outbox := rfl
@[simp] theorem State.bump_pending (f : Fld) (n i : Nat) : (s.bump f n i).pending = s.pending := rfl

/-! ## drop -/

@[simp] theorem State.drop_ports (f : Fld) (n i : Nat) : (s.drop f n i).ports = s.ports := rfl
@[simp] theorem State.drop_map (f : Fld) (n i : Nat) : (s.drop f n i).map = s.map := rfl
@[simp] theorem State.drop_q (f : Fld) (n i : Nat) : (s.drop f n i).q = s.q := rfl
@[simp] theorem State.drop_fn (f : Fld) (n i : Nat) : (s.drop f n i).fn = s.fn := rfl
@[simp] theorem State.drop_ct (f : Fld) (n i : Nat) : (s.drop f n i).ct = s.ct := rfl
@[simp] theorem State.drop_er (f : Fld) (n i : Nat) : (s.drop f n i).er = s.er := rfl
@[simp] theorem State.drop_ir (f : Fld) (n i : Nat) : (s.drop f n i).ir = s.ir := rfl
@[simp] theorem State.drop_lk (f : Fld) (n i : Nat) : (s.drop f n i).lk = s.lk := rfl
@[simp] theorem State.drop_cn (f : Fld) (n i : Nat) : (s.drop f n i).cn = s.cn := rfl
@[simp] theorem State.drop_ks (f : Fld) (n i : Nat) : (s.drop f n i).ks = s.ks := rfl
@[simp] theorem State.drop_sk (f : Fld) (n i : Nat) : (s.drop f n i).sk = s.sk := rfl
@[simp] theorem State.drop_mc (f : Fld) (n i : Nat) : (s.drop f n i).mc = s.mc := rfl
@[simp] theorem State.drop_si (f : Fld) (n i : Nat) : (s.drop f n i).si = s.si := rfl
@[simp] theorem State.drop_cr (f : Fld) (n i : Nat) : (s.drop f n i).cr = s.cr := rfl
@[simp] theorem State.drop_pj (f : Fld) (n i : Nat) : (s.drop f n i).pj = s.pj := rfl
@[simp] theorem State.drop_pl (f : Fld) (n i : Nat) : (s.drop f n i).pl = s.pl := rfl
@[simp] theorem State.drop_tn (f : Fld) (n i : Nat) : (s.drop f n i).tn = s.tn := rfl
@[simp] theorem State.drop_hp (f : Fld) (n i : Nat) : (s.drop f n i).hp = s.hp := rfl
@[simp] theorem State.drop_mg (f : Fld) (n i : Nat) : (s.drop f n i).mg = s.mg := rfl
@[simp] theorem State.drop_se (f : Fld) (n i : Nat) : (s.drop f n i).se = s.se := rfl
@[simp] theorem State.drop_pw (f : Fld) (n i : Nat) : (s.drop f n i).pw = s.pw := rfl
@[simp] theorem State.drop_ck (f : Fld) (n i : Nat) : (s.drop f n i).ck = s.ck := rfl
@[simp] theorem State.drop_bt (f : Fld) (n i : Nat) : (s.drop f n i).bt = s.bt := rfl
@[simp] theorem State.drop_mem (f : Fld) (n i : Nat) : (s.drop f n i).mem = s.mem := rfl
@[simp] theorem State.drop_poison (f : Fld) (n i : Nat) : (s.drop f n i).poison = s.poison := rfl
@[simp] theorem State.drop_now (f : Fld) (n i : Nat) : (s.drop f n i).now = s.now := rfl
@[simp] theorem State.drop_fresh (f : Fld) (n i : Nat) : (s.drop f n i).fresh = s.fresh := rfl
@[simp] theorem State.drop_outbox (f : Fld) (n i : Nat) : (s.drop f n i).outbox = s.outbox := rfl
@[simp] theorem State.drop_pending (f : Fld) (n i : Nat) : (s.drop f n i).pending = s.pending := rfl

/-! ## emit -/

@[simp] theorem State.emit_regs (m : Msg) : (s.emit m).regs = s.regs := rfl
@[simp] theorem State.emit_ports (m : Msg) : (s.emit m).ports = s.ports := rfl
@[simp] theorem State.emit_map (m : Msg) : (s.emit m).map = s.map := rfl
@[simp] theorem State.emit_q (m : Msg) : (s.emit m).q = s.q := rfl
@[simp] theorem State.emit_fn (m : Msg) : (s.emit m).fn = s.fn := rfl
@[simp] theorem State.emit_ct (m : Msg) : (s.emit m).ct = s.ct := rfl
@[simp] theorem State.emit_er (m : Msg) : (s.emit m).er = s.er := rfl
@[simp] theorem State.emit_ir (m : Msg) : (s.emit m).ir = s.ir := rfl
@[simp] theorem State.emit_lk (m : Msg) : (s.emit m).lk = s.lk := rfl
@[simp] theorem State.emit_cn (m : Msg) : (s.emit m).cn = s.cn := rfl
@[simp] theorem State.emit_ks (m : Msg) : (s.emit m).ks = s.ks := rfl
@[simp] theorem State.emit_sk (m : Msg) : (s.emit m).sk = s.sk := rfl
@[simp] theorem State.emit_mc (m : Msg) : (s.emit m).mc = s.mc := rfl
@[simp] theorem State.emit_si (m : Msg) : (s.emit m).si = s.si := rfl
@[simp] theorem State.emit_cr (m : Msg) : (s.emit m).cr = s.cr := rfl
@[simp] theorem State.emit_pj (m : Msg) : (s.emit m).pj = s.pj := rfl
@[simp] theorem State.emit_pl (m : Msg) : (s.emit m).pl = s.pl := rfl
@[simp] theorem State.emit_tn (m : Msg) : (s.emit m).tn = s.tn := rfl
@[simp] theorem State.emit_hp (m : Msg) : (s.emit m).hp = s.hp := rfl
@[simp] theorem State.emit_mg (m : Msg) : (s.emit m).mg = s.mg := rfl
@[simp] theorem State.emit_se (m : Msg) : (s.emit m).se = s.se := rfl
@[simp] theorem State.emit_pw (m : Msg) : (s.emit m).pw = s.pw := rfl
@[simp] theorem State.emit_ck (m : Msg) : (s.emit m).ck = s.ck := rfl
@[simp] theorem State.emit_bt (m : Msg) : (s.emit m).bt = s.bt := rfl
@[simp] theorem State.emit_mem (m : Msg) : (s.emit m).mem = s.mem := rfl
@[simp] theorem State.emit_poison (m : Msg) : (s.emit m).poison = s.poison := rfl
@[simp] theorem State.emit_now (m : Msg) : (s.emit m).now = s.now := rfl
@[simp] theorem State.emit_fresh (m : Msg) : (s.emit m).fresh = s.fresh := rfl
@[simp] theorem State.emit_pending (m : Msg) : (s.emit m).pending = s.pending := rfl

/-! ## draw -/

@[simp] theorem State.draw_regs : (s.draw).regs = s.regs := rfl
@[simp] theorem State.draw_ports : (s.draw).ports = s.ports := rfl
@[simp] theorem State.draw_map : (s.draw).map = s.map := rfl
@[simp] theorem State.draw_q : (s.draw).q = s.q := rfl
@[simp] theorem State.draw_fn : (s.draw).fn = s.fn := rfl
@[simp] theorem State.draw_ct : (s.draw).ct = s.ct := rfl
@[simp] theorem State.draw_er : (s.draw).er = s.er := rfl
@[simp] theorem State.draw_ir : (s.draw).ir = s.ir := rfl
@[simp] theorem State.draw_lk : (s.draw).lk = s.lk := rfl
@[simp] theorem State.draw_cn : (s.draw).cn = s.cn := rfl
@[simp] theorem State.draw_ks : (s.draw).ks = s.ks := rfl
@[simp] theorem State.draw_sk : (s.draw).sk = s.sk := rfl
@[simp] theorem State.draw_mc : (s.draw).mc = s.mc := rfl
@[simp] theorem State.draw_si : (s.draw).si = s.si := rfl
@[simp] theorem State.draw_cr : (s.draw).cr = s.cr := rfl
@[simp] theorem State.draw_pj : (s.draw).pj = s.pj := rfl
@[simp] theorem State.draw_pl : (s.draw).pl = s.pl := rfl
@[simp] theorem State.draw_tn : (s.draw).tn = s.tn := rfl
@[simp] theorem State.draw_hp : (s.draw).hp = s.hp := rfl
@[simp] theorem State.draw_mg : (s.draw).mg = s.mg := rfl
@[simp] theorem State.draw_se : (s.draw).se = s.se := rfl
@[simp] theorem State.draw_pw : (s.draw).pw = s.pw := rfl
@[simp] theorem State.draw_ck : (s.draw).ck = s.ck := rfl
@[simp] theorem State.draw_bt : (s.draw).bt = s.bt := rfl
@[simp] theorem State.draw_mem : (s.draw).mem = s.mem := rfl
@[simp] theorem State.draw_poison : (s.draw).poison = s.poison := rfl
@[simp] theorem State.draw_now : (s.draw).now = s.now := rfl
@[simp] theorem State.draw_outbox : (s.draw).outbox = s.outbox := rfl
@[simp] theorem State.draw_pending : (s.draw).pending = s.pending := rfl

/-! ## setByte -/

@[simp] theorem State.setByte_regs (a : Nat) (b : Byte) : (s.setByte a b).regs = s.regs := rfl
@[simp] theorem State.setByte_ports (a : Nat) (b : Byte) : (s.setByte a b).ports = s.ports := rfl
@[simp] theorem State.setByte_map (a : Nat) (b : Byte) : (s.setByte a b).map = s.map := rfl
@[simp] theorem State.setByte_q (a : Nat) (b : Byte) : (s.setByte a b).q = s.q := rfl
@[simp] theorem State.setByte_fn (a : Nat) (b : Byte) : (s.setByte a b).fn = s.fn := rfl
@[simp] theorem State.setByte_ct (a : Nat) (b : Byte) : (s.setByte a b).ct = s.ct := rfl
@[simp] theorem State.setByte_er (a : Nat) (b : Byte) : (s.setByte a b).er = s.er := rfl
@[simp] theorem State.setByte_ir (a : Nat) (b : Byte) : (s.setByte a b).ir = s.ir := rfl
@[simp] theorem State.setByte_lk (a : Nat) (b : Byte) : (s.setByte a b).lk = s.lk := rfl
@[simp] theorem State.setByte_cn (a : Nat) (b : Byte) : (s.setByte a b).cn = s.cn := rfl
@[simp] theorem State.setByte_ks (a : Nat) (b : Byte) : (s.setByte a b).ks = s.ks := rfl
@[simp] theorem State.setByte_sk (a : Nat) (b : Byte) : (s.setByte a b).sk = s.sk := rfl
@[simp] theorem State.setByte_mc (a : Nat) (b : Byte) : (s.setByte a b).mc = s.mc := rfl
@[simp] theorem State.setByte_si (a : Nat) (b : Byte) : (s.setByte a b).si = s.si := rfl
@[simp] theorem State.setByte_cr (a : Nat) (b : Byte) : (s.setByte a b).cr = s.cr := rfl
@[simp] theorem State.setByte_pj (a : Nat) (b : Byte) : (s.setByte a b).pj = s.pj := rfl
@[simp] theorem State.setByte_pl (a : Nat) (b : Byte) : (s.setByte a b).pl = s.pl := rfl
@[simp] theorem State.setByte_tn (a : Nat) (b : Byte) : (s.setByte a b).tn = s.tn := rfl
@[simp] theorem State.setByte_hp (a : Nat) (b : Byte) : (s.setByte a b).hp = s.hp := rfl
@[simp] theorem State.setByte_mg (a : Nat) (b : Byte) : (s.setByte a b).mg = s.mg := rfl
@[simp] theorem State.setByte_se (a : Nat) (b : Byte) : (s.setByte a b).se = s.se := rfl
@[simp] theorem State.setByte_pw (a : Nat) (b : Byte) : (s.setByte a b).pw = s.pw := rfl
@[simp] theorem State.setByte_ck (a : Nat) (b : Byte) : (s.setByte a b).ck = s.ck := rfl
@[simp] theorem State.setByte_bt (a : Nat) (b : Byte) : (s.setByte a b).bt = s.bt := rfl
@[simp] theorem State.setByte_poison (a : Nat) (b : Byte) : (s.setByte a b).poison = s.poison := rfl
@[simp] theorem State.setByte_now (a : Nat) (b : Byte) : (s.setByte a b).now = s.now := rfl
@[simp] theorem State.setByte_fresh (a : Nat) (b : Byte) : (s.setByte a b).fresh = s.fresh := rfl
@[simp] theorem State.setByte_outbox (a : Nat) (b : Byte) : (s.setByte a b).outbox = s.outbox := rfl
@[simp] theorem State.setByte_pending (a : Nat) (b : Byte) : (s.setByte a b).pending = s.pending := rfl

/-! ## zeroMem -/

@[simp] theorem State.zeroMem_regs (a n : Nat) : (s.zeroMem a n).regs = s.regs := rfl
@[simp] theorem State.zeroMem_ports (a n : Nat) : (s.zeroMem a n).ports = s.ports := rfl
@[simp] theorem State.zeroMem_map (a n : Nat) : (s.zeroMem a n).map = s.map := rfl
@[simp] theorem State.zeroMem_q (a n : Nat) : (s.zeroMem a n).q = s.q := rfl
@[simp] theorem State.zeroMem_fn (a n : Nat) : (s.zeroMem a n).fn = s.fn := rfl
@[simp] theorem State.zeroMem_ct (a n : Nat) : (s.zeroMem a n).ct = s.ct := rfl
@[simp] theorem State.zeroMem_er (a n : Nat) : (s.zeroMem a n).er = s.er := rfl
@[simp] theorem State.zeroMem_ir (a n : Nat) : (s.zeroMem a n).ir = s.ir := rfl
@[simp] theorem State.zeroMem_lk (a n : Nat) : (s.zeroMem a n).lk = s.lk := rfl
@[simp] theorem State.zeroMem_cn (a n : Nat) : (s.zeroMem a n).cn = s.cn := rfl
@[simp] theorem State.zeroMem_ks (a n : Nat) : (s.zeroMem a n).ks = s.ks := rfl
@[simp] theorem State.zeroMem_sk (a n : Nat) : (s.zeroMem a n).sk = s.sk := rfl
@[simp] theorem State.zeroMem_mc (a n : Nat) : (s.zeroMem a n).mc = s.mc := rfl
@[simp] theorem State.zeroMem_si (a n : Nat) : (s.zeroMem a n).si = s.si := rfl
@[simp] theorem State.zeroMem_cr (a n : Nat) : (s.zeroMem a n).cr = s.cr := rfl
@[simp] theorem State.zeroMem_pj (a n : Nat) : (s.zeroMem a n).pj = s.pj := rfl
@[simp] theorem State.zeroMem_pl (a n : Nat) : (s.zeroMem a n).pl = s.pl := rfl
@[simp] theorem State.zeroMem_tn (a n : Nat) : (s.zeroMem a n).tn = s.tn := rfl
@[simp] theorem State.zeroMem_hp (a n : Nat) : (s.zeroMem a n).hp = s.hp := rfl
@[simp] theorem State.zeroMem_mg (a n : Nat) : (s.zeroMem a n).mg = s.mg := rfl
@[simp] theorem State.zeroMem_se (a n : Nat) : (s.zeroMem a n).se = s.se := rfl
@[simp] theorem State.zeroMem_pw (a n : Nat) : (s.zeroMem a n).pw = s.pw := rfl
@[simp] theorem State.zeroMem_ck (a n : Nat) : (s.zeroMem a n).ck = s.ck := rfl
@[simp] theorem State.zeroMem_bt (a n : Nat) : (s.zeroMem a n).bt = s.bt := rfl
@[simp] theorem State.zeroMem_poison (a n : Nat) : (s.zeroMem a n).poison = s.poison := rfl
@[simp] theorem State.zeroMem_now (a n : Nat) : (s.zeroMem a n).now = s.now := rfl
@[simp] theorem State.zeroMem_fresh (a n : Nat) : (s.zeroMem a n).fresh = s.fresh := rfl
@[simp] theorem State.zeroMem_outbox (a n : Nat) : (s.zeroMem a n).outbox = s.outbox := rfl
@[simp] theorem State.zeroMem_pending (a n : Nat) : (s.zeroMem a n).pending = s.pending := rfl

/-! ## copyMem -/

@[simp] theorem State.copyMem_regs (a b n : Nat) : (s.copyMem a b n).regs = s.regs := rfl
@[simp] theorem State.copyMem_ports (a b n : Nat) : (s.copyMem a b n).ports = s.ports := rfl
@[simp] theorem State.copyMem_map (a b n : Nat) : (s.copyMem a b n).map = s.map := rfl
@[simp] theorem State.copyMem_q (a b n : Nat) : (s.copyMem a b n).q = s.q := rfl
@[simp] theorem State.copyMem_fn (a b n : Nat) : (s.copyMem a b n).fn = s.fn := rfl
@[simp] theorem State.copyMem_ct (a b n : Nat) : (s.copyMem a b n).ct = s.ct := rfl
@[simp] theorem State.copyMem_er (a b n : Nat) : (s.copyMem a b n).er = s.er := rfl
@[simp] theorem State.copyMem_ir (a b n : Nat) : (s.copyMem a b n).ir = s.ir := rfl
@[simp] theorem State.copyMem_lk (a b n : Nat) : (s.copyMem a b n).lk = s.lk := rfl
@[simp] theorem State.copyMem_cn (a b n : Nat) : (s.copyMem a b n).cn = s.cn := rfl
@[simp] theorem State.copyMem_ks (a b n : Nat) : (s.copyMem a b n).ks = s.ks := rfl
@[simp] theorem State.copyMem_sk (a b n : Nat) : (s.copyMem a b n).sk = s.sk := rfl
@[simp] theorem State.copyMem_mc (a b n : Nat) : (s.copyMem a b n).mc = s.mc := rfl
@[simp] theorem State.copyMem_si (a b n : Nat) : (s.copyMem a b n).si = s.si := rfl
@[simp] theorem State.copyMem_cr (a b n : Nat) : (s.copyMem a b n).cr = s.cr := rfl
@[simp] theorem State.copyMem_pj (a b n : Nat) : (s.copyMem a b n).pj = s.pj := rfl
@[simp] theorem State.copyMem_pl (a b n : Nat) : (s.copyMem a b n).pl = s.pl := rfl
@[simp] theorem State.copyMem_tn (a b n : Nat) : (s.copyMem a b n).tn = s.tn := rfl
@[simp] theorem State.copyMem_hp (a b n : Nat) : (s.copyMem a b n).hp = s.hp := rfl
@[simp] theorem State.copyMem_mg (a b n : Nat) : (s.copyMem a b n).mg = s.mg := rfl
@[simp] theorem State.copyMem_se (a b n : Nat) : (s.copyMem a b n).se = s.se := rfl
@[simp] theorem State.copyMem_pw (a b n : Nat) : (s.copyMem a b n).pw = s.pw := rfl
@[simp] theorem State.copyMem_ck (a b n : Nat) : (s.copyMem a b n).ck = s.ck := rfl
@[simp] theorem State.copyMem_bt (a b n : Nat) : (s.copyMem a b n).bt = s.bt := rfl
@[simp] theorem State.copyMem_poison (a b n : Nat) : (s.copyMem a b n).poison = s.poison := rfl
@[simp] theorem State.copyMem_now (a b n : Nat) : (s.copyMem a b n).now = s.now := rfl
@[simp] theorem State.copyMem_fresh (a b n : Nat) : (s.copyMem a b n).fresh = s.fresh := rfl
@[simp] theorem State.copyMem_outbox (a b n : Nat) : (s.copyMem a b n).outbox = s.outbox := rfl
@[simp] theorem State.copyMem_pending (a b n : Nat) : (s.copyMem a b n).pending = s.pending := rfl

/-! ## setPoison -/

@[simp] theorem State.setPoison_regs (k : Nat) : (s.setPoison k).regs = s.regs := rfl
@[simp] theorem State.setPoison_ports (k : Nat) : (s.setPoison k).ports = s.ports := rfl
@[simp] theorem State.setPoison_map (k : Nat) : (s.setPoison k).map = s.map := rfl
@[simp] theorem State.setPoison_q (k : Nat) : (s.setPoison k).q = s.q := rfl
@[simp] theorem State.setPoison_fn (k : Nat) : (s.setPoison k).fn = s.fn := rfl
@[simp] theorem State.setPoison_ct (k : Nat) : (s.setPoison k).ct = s.ct := rfl
@[simp] theorem State.setPoison_er (k : Nat) : (s.setPoison k).er = s.er := rfl
@[simp] theorem State.setPoison_ir (k : Nat) : (s.setPoison k).ir = s.ir := rfl
@[simp] theorem State.setPoison_lk (k : Nat) : (s.setPoison k).lk = s.lk := rfl
@[simp] theorem State.setPoison_cn (k : Nat) : (s.setPoison k).cn = s.cn := rfl
@[simp] theorem State.setPoison_ks (k : Nat) : (s.setPoison k).ks = s.ks := rfl
@[simp] theorem State.setPoison_sk (k : Nat) : (s.setPoison k).sk = s.sk := rfl
@[simp] theorem State.setPoison_mc (k : Nat) : (s.setPoison k).mc = s.mc := rfl
@[simp] theorem State.setPoison_si (k : Nat) : (s.setPoison k).si = s.si := rfl
@[simp] theorem State.setPoison_cr (k : Nat) : (s.setPoison k).cr = s.cr := rfl
@[simp] theorem State.setPoison_pj (k : Nat) : (s.setPoison k).pj = s.pj := rfl
@[simp] theorem State.setPoison_pl (k : Nat) : (s.setPoison k).pl = s.pl := rfl
@[simp] theorem State.setPoison_tn (k : Nat) : (s.setPoison k).tn = s.tn := rfl
@[simp] theorem State.setPoison_hp (k : Nat) : (s.setPoison k).hp = s.hp := rfl
@[simp] theorem State.setPoison_mg (k : Nat) : (s.setPoison k).mg = s.mg := rfl
@[simp] theorem State.setPoison_se (k : Nat) : (s.setPoison k).se = s.se := rfl
@[simp] theorem State.setPoison_pw (k : Nat) : (s.setPoison k).pw = s.pw := rfl
@[simp] theorem State.setPoison_ck (k : Nat) : (s.setPoison k).ck = s.ck := rfl
@[simp] theorem State.setPoison_bt (k : Nat) : (s.setPoison k).bt = s.bt := rfl
@[simp] theorem State.setPoison_mem (k : Nat) : (s.setPoison k).mem = s.mem := rfl
@[simp] theorem State.setPoison_now (k : Nat) : (s.setPoison k).now = s.now := rfl
@[simp] theorem State.setPoison_fresh (k : Nat) : (s.setPoison k).fresh = s.fresh := rfl
@[simp] theorem State.setPoison_outbox (k : Nat) : (s.setPoison k).outbox = s.outbox := rfl
@[simp] theorem State.setPoison_pending (k : Nat) : (s.setPoison k).pending = s.pending := rfl

/-! ## clearPoison -/

@[simp] theorem State.clearPoison_regs (k : Nat) : (s.clearPoison k).regs = s.regs := rfl
@[simp] theorem State.clearPoison_ports (k : Nat) : (s.clearPoison k).ports = s.ports := rfl
@[simp] theorem State.clearPoison_map (k : Nat) : (s.clearPoison k).map = s.map := rfl
@[simp] theorem State.clearPoison_q (k : Nat) : (s.clearPoison k).q = s.q := rfl
@[simp] theorem State.clearPoison_fn (k : Nat) : (s.clearPoison k).fn = s.fn := rfl
@[simp] theorem State.clearPoison_ct (k : Nat) : (s.clearPoison k).ct = s.ct := rfl
@[simp] theorem State.clearPoison_er (k : Nat) : (s.clearPoison k).er = s.er := rfl
@[simp] theorem State.clearPoison_ir (k : Nat) : (s.clearPoison k).ir = s.ir := rfl
@[simp] theorem State.clearPoison_lk (k : Nat) : (s.clearPoison k).lk = s.lk := rfl
@[simp] theorem State.clearPoison_cn (k : Nat) : (s.clearPoison k).cn = s.cn := rfl
@[simp] theorem State.clearPoison_ks (k : Nat) : (s.clearPoison k).ks = s.ks := rfl
@[simp] theorem State.clearPoison_sk (k : Nat) : (s.clearPoison k).sk = s.sk := rfl
@[simp] theorem State.clearPoison_mc (k : Nat) : (s.clearPoison k).mc = s.mc := rfl
@[simp] theorem State.clearPoison_si (k : Nat) : (s.clearPoison k).si = s.si := rfl
@[simp] theorem State.clearPoison_cr (k : Nat) : (s.clearPoison k).cr = s.cr := rfl
@[simp] theorem State.clearPoison_pj (k : Nat) : (s.clearPoison k).pj = s.pj := rfl
@[simp] theorem State.clearPoison_pl (k : Nat) : (s.clearPoison k).pl = s.pl := rfl
@[simp] theorem State.clearPoison_tn (k : Nat) : (s.clearPoison k).tn = s.tn := rfl
@[simp] theorem State.clearPoison_hp (k : Nat) : (s.clearPoison k).hp = s.hp := rfl
@[simp] theorem State.clearPoison_mg (k : Nat) : (s.clearPoison k).mg = s.mg := rfl
@[simp] theorem State.clearPoison_se (k : Nat) : (s.clearPoison k).se = s.se := rfl
@[simp] theorem State.clearPoison_pw (k : Nat) : (s.clearPoison k).pw = s.pw := rfl
@[simp] theorem State.clearPoison_ck (k : Nat) : (s.clearPoison k).ck = s.ck := rfl
@[simp] theorem State.clearPoison_bt (k : Nat) : (s.clearPoison k).bt = s.bt := rfl
@[simp] theorem State.clearPoison_mem (k : Nat) : (s.clearPoison k).mem = s.mem := rfl
@[simp] theorem State.clearPoison_now (k : Nat) : (s.clearPoison k).now = s.now := rfl
@[simp] theorem State.clearPoison_fresh (k : Nat) : (s.clearPoison k).fresh = s.fresh := rfl
@[simp] theorem State.clearPoison_outbox (k : Nat) : (s.clearPoison k).outbox = s.outbox := rfl
@[simp] theorem State.clearPoison_pending (k : Nat) : (s.clearPoison k).pending = s.pending := rfl

/-! ## setQueue -/

@[simp] theorem State.setQueue_regs (k : Nat) (x : Queue) : (s.setQueue k x).regs = s.regs := rfl
@[simp] theorem State.setQueue_ports (k : Nat) (x : Queue) : (s.setQueue k x).ports = s.ports := rfl
@[simp] theorem State.setQueue_map (k : Nat) (x : Queue) : (s.setQueue k x).map = s.map := rfl
@[simp] theorem State.setQueue_fn (k : Nat) (x : Queue) : (s.setQueue k x).fn = s.fn := rfl
@[simp] theorem State.setQueue_ct (k : Nat) (x : Queue) : (s.setQueue k x).ct = s.ct := rfl
@[simp] theorem State.setQueue_er (k : Nat) (x : Queue) : (s.setQueue k x).er = s.er := rfl
@[simp] theorem State.setQueue_ir (k : Nat) (x : Queue) : (s.setQueue k x).ir = s.ir := rfl
@[simp] theorem State.setQueue_lk (k : Nat) (x : Queue) : (s.setQueue k x).lk = s.lk := rfl
@[simp] theorem State.setQueue_cn (k : Nat) (x : Queue) : (s.setQueue k x).cn = s.cn := rfl
@[simp] theorem State.setQueue_ks (k : Nat) (x : Queue) : (s.setQueue k x).ks = s.ks := rfl
@[simp] theorem State.setQueue_sk (k : Nat) (x : Queue) : (s.setQueue k x).sk = s.sk := rfl
@[simp] theorem State.setQueue_mc (k : Nat) (x : Queue) : (s.setQueue k x).mc = s.mc := rfl
@[simp] theorem State.setQueue_si (k : Nat) (x : Queue) : (s.setQueue k x).si = s.si := rfl
@[simp] theorem State.setQueue_cr (k : Nat) (x : Queue) : (s.setQueue k x).cr = s.cr := rfl
@[simp] theorem State.setQueue_pj (k : Nat) (x : Queue) : (s.setQueue k x).pj = s.pj := rfl
@[simp] theorem State.setQueue_pl (k : Nat) (x : Queue) : (s.setQueue k x).pl = s.pl := rfl
@[simp] theorem State.setQueue_tn (k : Nat) (x : Queue) : (s.setQueue k x).tn = s.tn := rfl
@[simp] theorem State.setQueue_hp (k : Nat) (x : Queue) : (s.setQueue k x).hp = s.hp := rfl
@[simp] theorem State.setQueue_mg (k : Nat) (x : Queue) : (s.setQueue k x).mg = s.mg := rfl
@[simp] theorem State.setQueue_se (k : Nat) (x : Queue) : (s.setQueue k x).se = s.se := rfl
@[simp] theorem State.setQueue_pw (k : Nat) (x : Queue) : (s.setQueue k x).pw = s.pw := rfl
@[simp] theorem State.setQueue_ck (k : Nat) (x : Queue) : (s.setQueue k x).ck = s.ck := rfl
@[simp] theorem State.setQueue_bt (k : Nat) (x : Queue) : (s.setQueue k x).bt = s.bt := rfl
@[simp] theorem State.setQueue_mem (k : Nat) (x : Queue) : (s.setQueue k x).mem = s.mem := rfl
@[simp] theorem State.setQueue_poison (k : Nat) (x : Queue) : (s.setQueue k x).poison = s.poison := rfl
@[simp] theorem State.setQueue_now (k : Nat) (x : Queue) : (s.setQueue k x).now = s.now := rfl
@[simp] theorem State.setQueue_fresh (k : Nat) (x : Queue) : (s.setQueue k x).fresh = s.fresh := rfl
@[simp] theorem State.setQueue_outbox (k : Nat) (x : Queue) : (s.setQueue k x).outbox = s.outbox := rfl
@[simp] theorem State.setQueue_pending (k : Nat) (x : Queue) : (s.setQueue k x).pending = s.pending := rfl

/-! ## setDesc -/

@[simp] theorem State.setDesc_regs (k : Nat) (x : Desc) : (s.setDesc k x).regs = s.regs := rfl
@[simp] theorem State.setDesc_ports (k : Nat) (x : Desc) : (s.setDesc k x).ports = s.ports := rfl
@[simp] theorem State.setDesc_map (k : Nat) (x : Desc) : (s.setDesc k x).map = s.map := rfl
@[simp] theorem State.setDesc_fn (k : Nat) (x : Desc) : (s.setDesc k x).fn = s.fn := rfl
@[simp] theorem State.setDesc_ct (k : Nat) (x : Desc) : (s.setDesc k x).ct = s.ct := rfl
@[simp] theorem State.setDesc_er (k : Nat) (x : Desc) : (s.setDesc k x).er = s.er := rfl
@[simp] theorem State.setDesc_ir (k : Nat) (x : Desc) : (s.setDesc k x).ir = s.ir := rfl
@[simp] theorem State.setDesc_lk (k : Nat) (x : Desc) : (s.setDesc k x).lk = s.lk := rfl
@[simp] theorem State.setDesc_cn (k : Nat) (x : Desc) : (s.setDesc k x).cn = s.cn := rfl
@[simp] theorem State.setDesc_ks (k : Nat) (x : Desc) : (s.setDesc k x).ks = s.ks := rfl
@[simp] theorem State.setDesc_sk (k : Nat) (x : Desc) : (s.setDesc k x).sk = s.sk := rfl
@[simp] theorem State.setDesc_mc (k : Nat) (x : Desc) : (s.setDesc k x).mc = s.mc := rfl
@[simp] theorem State.setDesc_si (k : Nat) (x : Desc) : (s.setDesc k x).si = s.si := rfl
@[simp] theorem State.setDesc_cr (k : Nat) (x : Desc) : (s.setDesc k x).cr = s.cr := rfl
@[simp] theorem State.setDesc_pj (k : Nat) (x : Desc) : (s.setDesc k x).pj = s.pj := rfl
@[simp] theorem State.setDesc_pl (k : Nat) (x : Desc) : (s.setDesc k x).pl = s.pl := rfl
@[simp] theorem State.setDesc_tn (k : Nat) (x : Desc) : (s.setDesc k x).tn = s.tn := rfl
@[simp] theorem State.setDesc_hp (k : Nat) (x : Desc) : (s.setDesc k x).hp = s.hp := rfl
@[simp] theorem State.setDesc_mg (k : Nat) (x : Desc) : (s.setDesc k x).mg = s.mg := rfl
@[simp] theorem State.setDesc_se (k : Nat) (x : Desc) : (s.setDesc k x).se = s.se := rfl
@[simp] theorem State.setDesc_pw (k : Nat) (x : Desc) : (s.setDesc k x).pw = s.pw := rfl
@[simp] theorem State.setDesc_ck (k : Nat) (x : Desc) : (s.setDesc k x).ck = s.ck := rfl
@[simp] theorem State.setDesc_bt (k : Nat) (x : Desc) : (s.setDesc k x).bt = s.bt := rfl
@[simp] theorem State.setDesc_mem (k : Nat) (x : Desc) : (s.setDesc k x).mem = s.mem := rfl
@[simp] theorem State.setDesc_poison (k : Nat) (x : Desc) : (s.setDesc k x).poison = s.poison := rfl
@[simp] theorem State.setDesc_now (k : Nat) (x : Desc) : (s.setDesc k x).now = s.now := rfl
@[simp] theorem State.setDesc_fresh (k : Nat) (x : Desc) : (s.setDesc k x).fresh = s.fresh := rfl
@[simp] theorem State.setDesc_outbox (k : Nat) (x : Desc) : (s.setDesc k x).outbox = s.outbox := rfl
@[simp] theorem State.setDesc_pending (k : Nat) (x : Desc) : (s.setDesc k x).pending = s.pending := rfl

/-! ## freeDesc -/

@[simp] theorem State.freeDesc_regs (k : Nat) : (s.freeDesc k).regs = s.regs := rfl
@[simp] theorem State.freeDesc_ports (k : Nat) : (s.freeDesc k).ports = s.ports := rfl
@[simp] theorem State.freeDesc_fn (k : Nat) : (s.freeDesc k).fn = s.fn := rfl
@[simp] theorem State.freeDesc_er (k : Nat) : (s.freeDesc k).er = s.er := rfl
@[simp] theorem State.freeDesc_ir (k : Nat) : (s.freeDesc k).ir = s.ir := rfl
@[simp] theorem State.freeDesc_ks (k : Nat) : (s.freeDesc k).ks = s.ks := rfl
@[simp] theorem State.freeDesc_sk (k : Nat) : (s.freeDesc k).sk = s.sk := rfl
@[simp] theorem State.freeDesc_mc (k : Nat) : (s.freeDesc k).mc = s.mc := rfl
@[simp] theorem State.freeDesc_si (k : Nat) : (s.freeDesc k).si = s.si := rfl
@[simp] theorem State.freeDesc_pj (k : Nat) : (s.freeDesc k).pj = s.pj := rfl
@[simp] theorem State.freeDesc_pl (k : Nat) : (s.freeDesc k).pl = s.pl := rfl
@[simp] theorem State.freeDesc_hp (k : Nat) : (s.freeDesc k).hp = s.hp := rfl
@[simp] theorem State.freeDesc_mg (k : Nat) : (s.freeDesc k).mg = s.mg := rfl
@[simp] theorem State.freeDesc_se (k : Nat) : (s.freeDesc k).se = s.se := rfl
@[simp] theorem State.freeDesc_pw (k : Nat) : (s.freeDesc k).pw = s.pw := rfl
@[simp] theorem State.freeDesc_ck (k : Nat) : (s.freeDesc k).ck = s.ck := rfl
@[simp] theorem State.freeDesc_bt (k : Nat) : (s.freeDesc k).bt = s.bt := rfl
@[simp] theorem State.freeDesc_mem (k : Nat) : (s.freeDesc k).mem = s.mem := rfl
@[simp] theorem State.freeDesc_poison (k : Nat) : (s.freeDesc k).poison = s.poison := rfl
@[simp] theorem State.freeDesc_now (k : Nat) : (s.freeDesc k).now = s.now := rfl
@[simp] theorem State.freeDesc_fresh (k : Nat) : (s.freeDesc k).fresh = s.fresh := rfl
@[simp] theorem State.freeDesc_outbox (k : Nat) : (s.freeDesc k).outbox = s.outbox := rfl
@[simp] theorem State.freeDesc_pending (k : Nat) : (s.freeDesc k).pending = s.pending := rfl

/-! ## setEntry -/

@[simp] theorem State.setEntry_regs (t k : Nat) (x : MapEntry) : (s.setEntry t k x).regs = s.regs := rfl
@[simp] theorem State.setEntry_ports (t k : Nat) (x : MapEntry) : (s.setEntry t k x).ports = s.ports := rfl
@[simp] theorem State.setEntry_q (t k : Nat) (x : MapEntry) : (s.setEntry t k x).q = s.q := rfl
@[simp] theorem State.setEntry_fn (t k : Nat) (x : MapEntry) : (s.setEntry t k x).fn = s.fn := rfl
@[simp] theorem State.setEntry_ct (t k : Nat) (x : MapEntry) : (s.setEntry t k x).ct = s.ct := rfl
@[simp] theorem State.setEntry_er (t k : Nat) (x : MapEntry) : (s.setEntry t k x).er = s.er := rfl
@[simp] theorem State.setEntry_ir (t k : Nat) (x : MapEntry) : (s.setEntry t k x).ir = s.ir := rfl
@[simp] theorem State.setEntry_lk (t k : Nat) (x : MapEntry) : (s.setEntry t k x).lk = s.lk := rfl
@[simp] theorem State.setEntry_cn (t k : Nat) (x : MapEntry) : (s.setEntry t k x).cn = s.cn := rfl
@[simp] theorem State.setEntry_ks (t k : Nat) (x : MapEntry) : (s.setEntry t k x).ks = s.ks := rfl
@[simp] theorem State.setEntry_sk (t k : Nat) (x : MapEntry) : (s.setEntry t k x).sk = s.sk := rfl
@[simp] theorem State.setEntry_mc (t k : Nat) (x : MapEntry) : (s.setEntry t k x).mc = s.mc := rfl
@[simp] theorem State.setEntry_si (t k : Nat) (x : MapEntry) : (s.setEntry t k x).si = s.si := rfl
@[simp] theorem State.setEntry_cr (t k : Nat) (x : MapEntry) : (s.setEntry t k x).cr = s.cr := rfl
@[simp] theorem State.setEntry_pj (t k : Nat) (x : MapEntry) : (s.setEntry t k x).pj = s.pj := rfl
@[simp] theorem State.setEntry_pl (t k : Nat) (x : MapEntry) : (s.setEntry t k x).pl = s.pl := rfl
@[simp] theorem State.setEntry_tn (t k : Nat) (x : MapEntry) : (s.setEntry t k x).tn = s.tn := rfl
@[simp] theorem State.setEntry_hp (t k : Nat) (x : MapEntry) : (s.setEntry t k x).hp = s.hp := rfl
@[simp] theorem State.setEntry_mg (t k : Nat) (x : MapEntry) : (s.setEntry t k x).mg = s.mg := rfl
@[simp] theorem State.setEntry_se (t k : Nat) (x : MapEntry) : (s.setEntry t k x).se = s.se := rfl
@[simp] theorem State.setEntry_pw (t k : Nat) (x : MapEntry) : (s.setEntry t k x).pw = s.pw := rfl
@[simp] theorem State.setEntry_ck (t k : Nat) (x : MapEntry) : (s.setEntry t k x).ck = s.ck := rfl
@[simp] theorem State.setEntry_bt (t k : Nat) (x : MapEntry) : (s.setEntry t k x).bt = s.bt := rfl
@[simp] theorem State.setEntry_mem (t k : Nat) (x : MapEntry) : (s.setEntry t k x).mem = s.mem := rfl
@[simp] theorem State.setEntry_poison (t k : Nat) (x : MapEntry) : (s.setEntry t k x).poison = s.poison := rfl
@[simp] theorem State.setEntry_now (t k : Nat) (x : MapEntry) : (s.setEntry t k x).now = s.now := rfl
@[simp] theorem State.setEntry_fresh (t k : Nat) (x : MapEntry) : (s.setEntry t k x).fresh = s.fresh := rfl
@[simp] theorem State.setEntry_outbox (t k : Nat) (x : MapEntry) : (s.setEntry t k x).outbox = s.outbox := rfl
@[simp] theorem State.setEntry_pending (t k : Nat) (x : MapEntry) : (s.setEntry t k x).pending = s.pending := rfl

/-! ## setOwner -/

@[simp] theorem State.setOwner_regs (k : Nat) (x : Owner) : (s.setOwner k x).regs = s.regs := rfl
@[simp] theorem State.setOwner_ports (k : Nat) (x : Owner) : (s.setOwner k x).ports = s.ports := rfl
@[simp] theorem State.setOwner_q (k : Nat) (x : Owner) : (s.setOwner k x).q = s.q := rfl
@[simp] theorem State.setOwner_fn (k : Nat) (x : Owner) : (s.setOwner k x).fn = s.fn := rfl
@[simp] theorem State.setOwner_ct (k : Nat) (x : Owner) : (s.setOwner k x).ct = s.ct := rfl
@[simp] theorem State.setOwner_er (k : Nat) (x : Owner) : (s.setOwner k x).er = s.er := rfl
@[simp] theorem State.setOwner_ir (k : Nat) (x : Owner) : (s.setOwner k x).ir = s.ir := rfl
@[simp] theorem State.setOwner_lk (k : Nat) (x : Owner) : (s.setOwner k x).lk = s.lk := rfl
@[simp] theorem State.setOwner_cn (k : Nat) (x : Owner) : (s.setOwner k x).cn = s.cn := rfl
@[simp] theorem State.setOwner_ks (k : Nat) (x : Owner) : (s.setOwner k x).ks = s.ks := rfl
@[simp] theorem State.setOwner_sk (k : Nat) (x : Owner) : (s.setOwner k x).sk = s.sk := rfl
@[simp] theorem State.setOwner_mc (k : Nat) (x : Owner) : (s.setOwner k x).mc = s.mc := rfl
@[simp] theorem State.setOwner_si (k : Nat) (x : Owner) : (s.setOwner k x).si = s.si := rfl
@[simp] theorem State.setOwner_cr (k : Nat) (x : Owner) : (s.setOwner k x).cr = s.cr := rfl
@[simp] theorem State.setOwner_pj (k : Nat) (x : Owner) : (s.setOwner k x).pj = s.pj := rfl
@[simp] theorem State.setOwner_pl (k : Nat) (x : Owner) : (s.setOwner k x).pl = s.pl := rfl
@[simp] theorem State.setOwner_tn (k : Nat) (x : Owner) : (s.setOwner k x).tn = s.tn := rfl
@[simp] theorem State.setOwner_hp (k : Nat) (x : Owner) : (s.setOwner k x).hp = s.hp := rfl
@[simp] theorem State.setOwner_mg (k : Nat) (x : Owner) : (s.setOwner k x).mg = s.mg := rfl
@[simp] theorem State.setOwner_se (k : Nat) (x : Owner) : (s.setOwner k x).se = s.se := rfl
@[simp] theorem State.setOwner_pw (k : Nat) (x : Owner) : (s.setOwner k x).pw = s.pw := rfl
@[simp] theorem State.setOwner_ck (k : Nat) (x : Owner) : (s.setOwner k x).ck = s.ck := rfl
@[simp] theorem State.setOwner_bt (k : Nat) (x : Owner) : (s.setOwner k x).bt = s.bt := rfl
@[simp] theorem State.setOwner_mem (k : Nat) (x : Owner) : (s.setOwner k x).mem = s.mem := rfl
@[simp] theorem State.setOwner_poison (k : Nat) (x : Owner) : (s.setOwner k x).poison = s.poison := rfl
@[simp] theorem State.setOwner_now (k : Nat) (x : Owner) : (s.setOwner k x).now = s.now := rfl
@[simp] theorem State.setOwner_fresh (k : Nat) (x : Owner) : (s.setOwner k x).fresh = s.fresh := rfl
@[simp] theorem State.setOwner_outbox (k : Nat) (x : Owner) : (s.setOwner k x).outbox = s.outbox := rfl
@[simp] theorem State.setOwner_pending (k : Nat) (x : Owner) : (s.setOwner k x).pending = s.pending := rfl

/-! ## toZeroing -/

@[simp] theorem State.toZeroing_regs (k : Nat) : (s.toZeroing k).regs = s.regs := rfl
@[simp] theorem State.toZeroing_ports (k : Nat) : (s.toZeroing k).ports = s.ports := rfl
@[simp] theorem State.toZeroing_q (k : Nat) : (s.toZeroing k).q = s.q := rfl
@[simp] theorem State.toZeroing_fn (k : Nat) : (s.toZeroing k).fn = s.fn := rfl
@[simp] theorem State.toZeroing_ct (k : Nat) : (s.toZeroing k).ct = s.ct := rfl
@[simp] theorem State.toZeroing_er (k : Nat) : (s.toZeroing k).er = s.er := rfl
@[simp] theorem State.toZeroing_ir (k : Nat) : (s.toZeroing k).ir = s.ir := rfl
@[simp] theorem State.toZeroing_lk (k : Nat) : (s.toZeroing k).lk = s.lk := rfl
@[simp] theorem State.toZeroing_cn (k : Nat) : (s.toZeroing k).cn = s.cn := rfl
@[simp] theorem State.toZeroing_ks (k : Nat) : (s.toZeroing k).ks = s.ks := rfl
@[simp] theorem State.toZeroing_sk (k : Nat) : (s.toZeroing k).sk = s.sk := rfl
@[simp] theorem State.toZeroing_mc (k : Nat) : (s.toZeroing k).mc = s.mc := rfl
@[simp] theorem State.toZeroing_si (k : Nat) : (s.toZeroing k).si = s.si := rfl
@[simp] theorem State.toZeroing_cr (k : Nat) : (s.toZeroing k).cr = s.cr := rfl
@[simp] theorem State.toZeroing_pj (k : Nat) : (s.toZeroing k).pj = s.pj := rfl
@[simp] theorem State.toZeroing_pl (k : Nat) : (s.toZeroing k).pl = s.pl := rfl
@[simp] theorem State.toZeroing_tn (k : Nat) : (s.toZeroing k).tn = s.tn := rfl
@[simp] theorem State.toZeroing_hp (k : Nat) : (s.toZeroing k).hp = s.hp := rfl
@[simp] theorem State.toZeroing_mg (k : Nat) : (s.toZeroing k).mg = s.mg := rfl
@[simp] theorem State.toZeroing_se (k : Nat) : (s.toZeroing k).se = s.se := rfl
@[simp] theorem State.toZeroing_pw (k : Nat) : (s.toZeroing k).pw = s.pw := rfl
@[simp] theorem State.toZeroing_ck (k : Nat) : (s.toZeroing k).ck = s.ck := rfl
@[simp] theorem State.toZeroing_bt (k : Nat) : (s.toZeroing k).bt = s.bt := rfl
@[simp] theorem State.toZeroing_mem (k : Nat) : (s.toZeroing k).mem = s.mem := rfl
@[simp] theorem State.toZeroing_poison (k : Nat) : (s.toZeroing k).poison = s.poison := rfl
@[simp] theorem State.toZeroing_now (k : Nat) : (s.toZeroing k).now = s.now := rfl
@[simp] theorem State.toZeroing_fresh (k : Nat) : (s.toZeroing k).fresh = s.fresh := rfl
@[simp] theorem State.toZeroing_outbox (k : Nat) : (s.toZeroing k).outbox = s.outbox := rfl
@[simp] theorem State.toZeroing_pending (k : Nat) : (s.toZeroing k).pending = s.pending := rfl

/-! ## setRevokes -/

@[simp] theorem State.setRevokes_regs (k : Nat) (x : Revokes) : (s.setRevokes k x).regs = s.regs := rfl
@[simp] theorem State.setRevokes_ports (k : Nat) (x : Revokes) : (s.setRevokes k x).ports = s.ports := rfl
@[simp] theorem State.setRevokes_q (k : Nat) (x : Revokes) : (s.setRevokes k x).q = s.q := rfl
@[simp] theorem State.setRevokes_fn (k : Nat) (x : Revokes) : (s.setRevokes k x).fn = s.fn := rfl
@[simp] theorem State.setRevokes_ct (k : Nat) (x : Revokes) : (s.setRevokes k x).ct = s.ct := rfl
@[simp] theorem State.setRevokes_er (k : Nat) (x : Revokes) : (s.setRevokes k x).er = s.er := rfl
@[simp] theorem State.setRevokes_ir (k : Nat) (x : Revokes) : (s.setRevokes k x).ir = s.ir := rfl
@[simp] theorem State.setRevokes_lk (k : Nat) (x : Revokes) : (s.setRevokes k x).lk = s.lk := rfl
@[simp] theorem State.setRevokes_cn (k : Nat) (x : Revokes) : (s.setRevokes k x).cn = s.cn := rfl
@[simp] theorem State.setRevokes_ks (k : Nat) (x : Revokes) : (s.setRevokes k x).ks = s.ks := rfl
@[simp] theorem State.setRevokes_sk (k : Nat) (x : Revokes) : (s.setRevokes k x).sk = s.sk := rfl
@[simp] theorem State.setRevokes_mc (k : Nat) (x : Revokes) : (s.setRevokes k x).mc = s.mc := rfl
@[simp] theorem State.setRevokes_si (k : Nat) (x : Revokes) : (s.setRevokes k x).si = s.si := rfl
@[simp] theorem State.setRevokes_cr (k : Nat) (x : Revokes) : (s.setRevokes k x).cr = s.cr := rfl
@[simp] theorem State.setRevokes_pj (k : Nat) (x : Revokes) : (s.setRevokes k x).pj = s.pj := rfl
@[simp] theorem State.setRevokes_pl (k : Nat) (x : Revokes) : (s.setRevokes k x).pl = s.pl := rfl
@[simp] theorem State.setRevokes_tn (k : Nat) (x : Revokes) : (s.setRevokes k x).tn = s.tn := rfl
@[simp] theorem State.setRevokes_hp (k : Nat) (x : Revokes) : (s.setRevokes k x).hp = s.hp := rfl
@[simp] theorem State.setRevokes_mg (k : Nat) (x : Revokes) : (s.setRevokes k x).mg = s.mg := rfl
@[simp] theorem State.setRevokes_se (k : Nat) (x : Revokes) : (s.setRevokes k x).se = s.se := rfl
@[simp] theorem State.setRevokes_pw (k : Nat) (x : Revokes) : (s.setRevokes k x).pw = s.pw := rfl
@[simp] theorem State.setRevokes_ck (k : Nat) (x : Revokes) : (s.setRevokes k x).ck = s.ck := rfl
@[simp] theorem State.setRevokes_bt (k : Nat) (x : Revokes) : (s.setRevokes k x).bt = s.bt := rfl
@[simp] theorem State.setRevokes_mem (k : Nat) (x : Revokes) : (s.setRevokes k x).mem = s.mem := rfl
@[simp] theorem State.setRevokes_poison (k : Nat) (x : Revokes) : (s.setRevokes k x).poison = s.poison := rfl
@[simp] theorem State.setRevokes_now (k : Nat) (x : Revokes) : (s.setRevokes k x).now = s.now := rfl
@[simp] theorem State.setRevokes_fresh (k : Nat) (x : Revokes) : (s.setRevokes k x).fresh = s.fresh := rfl
@[simp] theorem State.setRevokes_outbox (k : Nat) (x : Revokes) : (s.setRevokes k x).outbox = s.outbox := rfl
@[simp] theorem State.setRevokes_pending (k : Nat) (x : Revokes) : (s.setRevokes k x).pending = s.pending := rfl

/-! ## setUnitRec -/

@[simp] theorem State.setUnitRec_regs (k : Nat) (x : UnitRec) : (s.setUnitRec k x).regs = s.regs := rfl
@[simp] theorem State.setUnitRec_ports (k : Nat) (x : UnitRec) : (s.setUnitRec k x).ports = s.ports := rfl
@[simp] theorem State.setUnitRec_map (k : Nat) (x : UnitRec) : (s.setUnitRec k x).map = s.map := rfl
@[simp] theorem State.setUnitRec_q (k : Nat) (x : UnitRec) : (s.setUnitRec k x).q = s.q := rfl
@[simp] theorem State.setUnitRec_fn (k : Nat) (x : UnitRec) : (s.setUnitRec k x).fn = s.fn := rfl
@[simp] theorem State.setUnitRec_ct (k : Nat) (x : UnitRec) : (s.setUnitRec k x).ct = s.ct := rfl
@[simp] theorem State.setUnitRec_ir (k : Nat) (x : UnitRec) : (s.setUnitRec k x).ir = s.ir := rfl
@[simp] theorem State.setUnitRec_lk (k : Nat) (x : UnitRec) : (s.setUnitRec k x).lk = s.lk := rfl
@[simp] theorem State.setUnitRec_cn (k : Nat) (x : UnitRec) : (s.setUnitRec k x).cn = s.cn := rfl
@[simp] theorem State.setUnitRec_ks (k : Nat) (x : UnitRec) : (s.setUnitRec k x).ks = s.ks := rfl
@[simp] theorem State.setUnitRec_sk (k : Nat) (x : UnitRec) : (s.setUnitRec k x).sk = s.sk := rfl
@[simp] theorem State.setUnitRec_mc (k : Nat) (x : UnitRec) : (s.setUnitRec k x).mc = s.mc := rfl
@[simp] theorem State.setUnitRec_si (k : Nat) (x : UnitRec) : (s.setUnitRec k x).si = s.si := rfl
@[simp] theorem State.setUnitRec_cr (k : Nat) (x : UnitRec) : (s.setUnitRec k x).cr = s.cr := rfl
@[simp] theorem State.setUnitRec_pj (k : Nat) (x : UnitRec) : (s.setUnitRec k x).pj = s.pj := rfl
@[simp] theorem State.setUnitRec_pl (k : Nat) (x : UnitRec) : (s.setUnitRec k x).pl = s.pl := rfl
@[simp] theorem State.setUnitRec_tn (k : Nat) (x : UnitRec) : (s.setUnitRec k x).tn = s.tn := rfl
@[simp] theorem State.setUnitRec_hp (k : Nat) (x : UnitRec) : (s.setUnitRec k x).hp = s.hp := rfl
@[simp] theorem State.setUnitRec_mg (k : Nat) (x : UnitRec) : (s.setUnitRec k x).mg = s.mg := rfl
@[simp] theorem State.setUnitRec_se (k : Nat) (x : UnitRec) : (s.setUnitRec k x).se = s.se := rfl
@[simp] theorem State.setUnitRec_pw (k : Nat) (x : UnitRec) : (s.setUnitRec k x).pw = s.pw := rfl
@[simp] theorem State.setUnitRec_ck (k : Nat) (x : UnitRec) : (s.setUnitRec k x).ck = s.ck := rfl
@[simp] theorem State.setUnitRec_bt (k : Nat) (x : UnitRec) : (s.setUnitRec k x).bt = s.bt := rfl
@[simp] theorem State.setUnitRec_mem (k : Nat) (x : UnitRec) : (s.setUnitRec k x).mem = s.mem := rfl
@[simp] theorem State.setUnitRec_poison (k : Nat) (x : UnitRec) : (s.setUnitRec k x).poison = s.poison := rfl
@[simp] theorem State.setUnitRec_now (k : Nat) (x : UnitRec) : (s.setUnitRec k x).now = s.now := rfl
@[simp] theorem State.setUnitRec_fresh (k : Nat) (x : UnitRec) : (s.setUnitRec k x).fresh = s.fresh := rfl
@[simp] theorem State.setUnitRec_outbox (k : Nat) (x : UnitRec) : (s.setUnitRec k x).outbox = s.outbox := rfl
@[simp] theorem State.setUnitRec_pending (k : Nat) (x : UnitRec) : (s.setUnitRec k x).pending = s.pending := rfl

/-! ## setRing -/

@[simp] theorem State.setRing_regs (x : ErrRec) : (s.setRing x).regs = s.regs := rfl
@[simp] theorem State.setRing_ports (x : ErrRec) : (s.setRing x).ports = s.ports := rfl
@[simp] theorem State.setRing_map (x : ErrRec) : (s.setRing x).map = s.map := rfl
@[simp] theorem State.setRing_q (x : ErrRec) : (s.setRing x).q = s.q := rfl
@[simp] theorem State.setRing_fn (x : ErrRec) : (s.setRing x).fn = s.fn := rfl
@[simp] theorem State.setRing_ct (x : ErrRec) : (s.setRing x).ct = s.ct := rfl
@[simp] theorem State.setRing_ir (x : ErrRec) : (s.setRing x).ir = s.ir := rfl
@[simp] theorem State.setRing_lk (x : ErrRec) : (s.setRing x).lk = s.lk := rfl
@[simp] theorem State.setRing_cn (x : ErrRec) : (s.setRing x).cn = s.cn := rfl
@[simp] theorem State.setRing_ks (x : ErrRec) : (s.setRing x).ks = s.ks := rfl
@[simp] theorem State.setRing_sk (x : ErrRec) : (s.setRing x).sk = s.sk := rfl
@[simp] theorem State.setRing_mc (x : ErrRec) : (s.setRing x).mc = s.mc := rfl
@[simp] theorem State.setRing_si (x : ErrRec) : (s.setRing x).si = s.si := rfl
@[simp] theorem State.setRing_cr (x : ErrRec) : (s.setRing x).cr = s.cr := rfl
@[simp] theorem State.setRing_pj (x : ErrRec) : (s.setRing x).pj = s.pj := rfl
@[simp] theorem State.setRing_pl (x : ErrRec) : (s.setRing x).pl = s.pl := rfl
@[simp] theorem State.setRing_tn (x : ErrRec) : (s.setRing x).tn = s.tn := rfl
@[simp] theorem State.setRing_hp (x : ErrRec) : (s.setRing x).hp = s.hp := rfl
@[simp] theorem State.setRing_mg (x : ErrRec) : (s.setRing x).mg = s.mg := rfl
@[simp] theorem State.setRing_se (x : ErrRec) : (s.setRing x).se = s.se := rfl
@[simp] theorem State.setRing_pw (x : ErrRec) : (s.setRing x).pw = s.pw := rfl
@[simp] theorem State.setRing_ck (x : ErrRec) : (s.setRing x).ck = s.ck := rfl
@[simp] theorem State.setRing_bt (x : ErrRec) : (s.setRing x).bt = s.bt := rfl
@[simp] theorem State.setRing_mem (x : ErrRec) : (s.setRing x).mem = s.mem := rfl
@[simp] theorem State.setRing_poison (x : ErrRec) : (s.setRing x).poison = s.poison := rfl
@[simp] theorem State.setRing_now (x : ErrRec) : (s.setRing x).now = s.now := rfl
@[simp] theorem State.setRing_fresh (x : ErrRec) : (s.setRing x).fresh = s.fresh := rfl
@[simp] theorem State.setRing_outbox (x : ErrRec) : (s.setRing x).outbox = s.outbox := rfl
@[simp] theorem State.setRing_pending (x : ErrRec) : (s.setRing x).pending = s.pending := rfl

/-! ## setLink -/

@[simp] theorem State.setLink_regs (k : Nat) (x : Link) : (s.setLink k x).regs = s.regs := rfl
@[simp] theorem State.setLink_ports (k : Nat) (x : Link) : (s.setLink k x).ports = s.ports := rfl
@[simp] theorem State.setLink_map (k : Nat) (x : Link) : (s.setLink k x).map = s.map := rfl
@[simp] theorem State.setLink_q (k : Nat) (x : Link) : (s.setLink k x).q = s.q := rfl
@[simp] theorem State.setLink_fn (k : Nat) (x : Link) : (s.setLink k x).fn = s.fn := rfl
@[simp] theorem State.setLink_ct (k : Nat) (x : Link) : (s.setLink k x).ct = s.ct := rfl
@[simp] theorem State.setLink_er (k : Nat) (x : Link) : (s.setLink k x).er = s.er := rfl
@[simp] theorem State.setLink_ir (k : Nat) (x : Link) : (s.setLink k x).ir = s.ir := rfl
@[simp] theorem State.setLink_cn (k : Nat) (x : Link) : (s.setLink k x).cn = s.cn := rfl
@[simp] theorem State.setLink_ks (k : Nat) (x : Link) : (s.setLink k x).ks = s.ks := rfl
@[simp] theorem State.setLink_sk (k : Nat) (x : Link) : (s.setLink k x).sk = s.sk := rfl
@[simp] theorem State.setLink_mc (k : Nat) (x : Link) : (s.setLink k x).mc = s.mc := rfl
@[simp] theorem State.setLink_si (k : Nat) (x : Link) : (s.setLink k x).si = s.si := rfl
@[simp] theorem State.setLink_cr (k : Nat) (x : Link) : (s.setLink k x).cr = s.cr := rfl
@[simp] theorem State.setLink_pj (k : Nat) (x : Link) : (s.setLink k x).pj = s.pj := rfl
@[simp] theorem State.setLink_pl (k : Nat) (x : Link) : (s.setLink k x).pl = s.pl := rfl
@[simp] theorem State.setLink_tn (k : Nat) (x : Link) : (s.setLink k x).tn = s.tn := rfl
@[simp] theorem State.setLink_hp (k : Nat) (x : Link) : (s.setLink k x).hp = s.hp := rfl
@[simp] theorem State.setLink_mg (k : Nat) (x : Link) : (s.setLink k x).mg = s.mg := rfl
@[simp] theorem State.setLink_se (k : Nat) (x : Link) : (s.setLink k x).se = s.se := rfl
@[simp] theorem State.setLink_pw (k : Nat) (x : Link) : (s.setLink k x).pw = s.pw := rfl
@[simp] theorem State.setLink_ck (k : Nat) (x : Link) : (s.setLink k x).ck = s.ck := rfl
@[simp] theorem State.setLink_bt (k : Nat) (x : Link) : (s.setLink k x).bt = s.bt := rfl
@[simp] theorem State.setLink_mem (k : Nat) (x : Link) : (s.setLink k x).mem = s.mem := rfl
@[simp] theorem State.setLink_poison (k : Nat) (x : Link) : (s.setLink k x).poison = s.poison := rfl
@[simp] theorem State.setLink_now (k : Nat) (x : Link) : (s.setLink k x).now = s.now := rfl
@[simp] theorem State.setLink_fresh (k : Nat) (x : Link) : (s.setLink k x).fresh = s.fresh := rfl
@[simp] theorem State.setLink_outbox (k : Nat) (x : Link) : (s.setLink k x).outbox = s.outbox := rfl
@[simp] theorem State.setLink_pending (k : Nat) (x : Link) : (s.setLink k x).pending = s.pending := rfl

/-! ## setCarrel -/

@[simp] theorem State.setCarrel_regs (k : Nat) (x : Carrel) : (s.setCarrel k x).regs = s.regs := rfl
@[simp] theorem State.setCarrel_ports (k : Nat) (x : Carrel) : (s.setCarrel k x).ports = s.ports := rfl
@[simp] theorem State.setCarrel_map (k : Nat) (x : Carrel) : (s.setCarrel k x).map = s.map := rfl
@[simp] theorem State.setCarrel_q (k : Nat) (x : Carrel) : (s.setCarrel k x).q = s.q := rfl
@[simp] theorem State.setCarrel_fn (k : Nat) (x : Carrel) : (s.setCarrel k x).fn = s.fn := rfl
@[simp] theorem State.setCarrel_ct (k : Nat) (x : Carrel) : (s.setCarrel k x).ct = s.ct := rfl
@[simp] theorem State.setCarrel_er (k : Nat) (x : Carrel) : (s.setCarrel k x).er = s.er := rfl
@[simp] theorem State.setCarrel_ir (k : Nat) (x : Carrel) : (s.setCarrel k x).ir = s.ir := rfl
@[simp] theorem State.setCarrel_lk (k : Nat) (x : Carrel) : (s.setCarrel k x).lk = s.lk := rfl
@[simp] theorem State.setCarrel_cn (k : Nat) (x : Carrel) : (s.setCarrel k x).cn = s.cn := rfl
@[simp] theorem State.setCarrel_ks (k : Nat) (x : Carrel) : (s.setCarrel k x).ks = s.ks := rfl
@[simp] theorem State.setCarrel_sk (k : Nat) (x : Carrel) : (s.setCarrel k x).sk = s.sk := rfl
@[simp] theorem State.setCarrel_mc (k : Nat) (x : Carrel) : (s.setCarrel k x).mc = s.mc := rfl
@[simp] theorem State.setCarrel_si (k : Nat) (x : Carrel) : (s.setCarrel k x).si = s.si := rfl
@[simp] theorem State.setCarrel_pj (k : Nat) (x : Carrel) : (s.setCarrel k x).pj = s.pj := rfl
@[simp] theorem State.setCarrel_pl (k : Nat) (x : Carrel) : (s.setCarrel k x).pl = s.pl := rfl
@[simp] theorem State.setCarrel_tn (k : Nat) (x : Carrel) : (s.setCarrel k x).tn = s.tn := rfl
@[simp] theorem State.setCarrel_hp (k : Nat) (x : Carrel) : (s.setCarrel k x).hp = s.hp := rfl
@[simp] theorem State.setCarrel_mg (k : Nat) (x : Carrel) : (s.setCarrel k x).mg = s.mg := rfl
@[simp] theorem State.setCarrel_se (k : Nat) (x : Carrel) : (s.setCarrel k x).se = s.se := rfl
@[simp] theorem State.setCarrel_pw (k : Nat) (x : Carrel) : (s.setCarrel k x).pw = s.pw := rfl
@[simp] theorem State.setCarrel_ck (k : Nat) (x : Carrel) : (s.setCarrel k x).ck = s.ck := rfl
@[simp] theorem State.setCarrel_bt (k : Nat) (x : Carrel) : (s.setCarrel k x).bt = s.bt := rfl
@[simp] theorem State.setCarrel_mem (k : Nat) (x : Carrel) : (s.setCarrel k x).mem = s.mem := rfl
@[simp] theorem State.setCarrel_poison (k : Nat) (x : Carrel) : (s.setCarrel k x).poison = s.poison := rfl
@[simp] theorem State.setCarrel_now (k : Nat) (x : Carrel) : (s.setCarrel k x).now = s.now := rfl
@[simp] theorem State.setCarrel_fresh (k : Nat) (x : Carrel) : (s.setCarrel k x).fresh = s.fresh := rfl
@[simp] theorem State.setCarrel_outbox (k : Nat) (x : Carrel) : (s.setCarrel k x).outbox = s.outbox := rfl
@[simp] theorem State.setCarrel_pending (k : Nat) (x : Carrel) : (s.setCarrel k x).pending = s.pending := rfl

/-! ## setCarrelCmd -/

@[simp] theorem State.setCarrelCmd_regs (k : Nat) (x : CarrelCmd) : (s.setCarrelCmd k x).regs = s.regs := rfl
@[simp] theorem State.setCarrelCmd_ports (k : Nat) (x : CarrelCmd) : (s.setCarrelCmd k x).ports = s.ports := rfl
@[simp] theorem State.setCarrelCmd_map (k : Nat) (x : CarrelCmd) : (s.setCarrelCmd k x).map = s.map := rfl
@[simp] theorem State.setCarrelCmd_q (k : Nat) (x : CarrelCmd) : (s.setCarrelCmd k x).q = s.q := rfl
@[simp] theorem State.setCarrelCmd_fn (k : Nat) (x : CarrelCmd) : (s.setCarrelCmd k x).fn = s.fn := rfl
@[simp] theorem State.setCarrelCmd_ct (k : Nat) (x : CarrelCmd) : (s.setCarrelCmd k x).ct = s.ct := rfl
@[simp] theorem State.setCarrelCmd_er (k : Nat) (x : CarrelCmd) : (s.setCarrelCmd k x).er = s.er := rfl
@[simp] theorem State.setCarrelCmd_ir (k : Nat) (x : CarrelCmd) : (s.setCarrelCmd k x).ir = s.ir := rfl
@[simp] theorem State.setCarrelCmd_lk (k : Nat) (x : CarrelCmd) : (s.setCarrelCmd k x).lk = s.lk := rfl
@[simp] theorem State.setCarrelCmd_cn (k : Nat) (x : CarrelCmd) : (s.setCarrelCmd k x).cn = s.cn := rfl
@[simp] theorem State.setCarrelCmd_ks (k : Nat) (x : CarrelCmd) : (s.setCarrelCmd k x).ks = s.ks := rfl
@[simp] theorem State.setCarrelCmd_sk (k : Nat) (x : CarrelCmd) : (s.setCarrelCmd k x).sk = s.sk := rfl
@[simp] theorem State.setCarrelCmd_mc (k : Nat) (x : CarrelCmd) : (s.setCarrelCmd k x).mc = s.mc := rfl
@[simp] theorem State.setCarrelCmd_si (k : Nat) (x : CarrelCmd) : (s.setCarrelCmd k x).si = s.si := rfl
@[simp] theorem State.setCarrelCmd_pj (k : Nat) (x : CarrelCmd) : (s.setCarrelCmd k x).pj = s.pj := rfl
@[simp] theorem State.setCarrelCmd_pl (k : Nat) (x : CarrelCmd) : (s.setCarrelCmd k x).pl = s.pl := rfl
@[simp] theorem State.setCarrelCmd_tn (k : Nat) (x : CarrelCmd) : (s.setCarrelCmd k x).tn = s.tn := rfl
@[simp] theorem State.setCarrelCmd_hp (k : Nat) (x : CarrelCmd) : (s.setCarrelCmd k x).hp = s.hp := rfl
@[simp] theorem State.setCarrelCmd_mg (k : Nat) (x : CarrelCmd) : (s.setCarrelCmd k x).mg = s.mg := rfl
@[simp] theorem State.setCarrelCmd_se (k : Nat) (x : CarrelCmd) : (s.setCarrelCmd k x).se = s.se := rfl
@[simp] theorem State.setCarrelCmd_pw (k : Nat) (x : CarrelCmd) : (s.setCarrelCmd k x).pw = s.pw := rfl
@[simp] theorem State.setCarrelCmd_ck (k : Nat) (x : CarrelCmd) : (s.setCarrelCmd k x).ck = s.ck := rfl
@[simp] theorem State.setCarrelCmd_bt (k : Nat) (x : CarrelCmd) : (s.setCarrelCmd k x).bt = s.bt := rfl
@[simp] theorem State.setCarrelCmd_mem (k : Nat) (x : CarrelCmd) : (s.setCarrelCmd k x).mem = s.mem := rfl
@[simp] theorem State.setCarrelCmd_poison (k : Nat) (x : CarrelCmd) : (s.setCarrelCmd k x).poison = s.poison := rfl
@[simp] theorem State.setCarrelCmd_now (k : Nat) (x : CarrelCmd) : (s.setCarrelCmd k x).now = s.now := rfl
@[simp] theorem State.setCarrelCmd_fresh (k : Nat) (x : CarrelCmd) : (s.setCarrelCmd k x).fresh = s.fresh := rfl
@[simp] theorem State.setCarrelCmd_outbox (k : Nat) (x : CarrelCmd) : (s.setCarrelCmd k x).outbox = s.outbox := rfl
@[simp] theorem State.setCarrelCmd_pending (k : Nat) (x : CarrelCmd) : (s.setCarrelCmd k x).pending = s.pending := rfl

/-! ## setCluster -/

@[simp] theorem State.setCluster_ports (k : Nat) (x : Cluster) : (s.setCluster k x).ports = s.ports := by
  unfold State.setCluster; dsimp only; split <;> rfl
@[simp] theorem State.setCluster_map (k : Nat) (x : Cluster) : (s.setCluster k x).map = s.map := by
  unfold State.setCluster; dsimp only; split <;> rfl
@[simp] theorem State.setCluster_q (k : Nat) (x : Cluster) : (s.setCluster k x).q = s.q := by
  unfold State.setCluster; dsimp only; split <;> rfl
@[simp] theorem State.setCluster_fn (k : Nat) (x : Cluster) : (s.setCluster k x).fn = s.fn := by
  unfold State.setCluster; dsimp only; split <;> rfl
@[simp] theorem State.setCluster_ct (k : Nat) (x : Cluster) : (s.setCluster k x).ct = s.ct := by
  unfold State.setCluster; dsimp only; split <;> rfl
@[simp] theorem State.setCluster_er (k : Nat) (x : Cluster) : (s.setCluster k x).er = s.er := by
  unfold State.setCluster; dsimp only; split <;> rfl
@[simp] theorem State.setCluster_ir (k : Nat) (x : Cluster) : (s.setCluster k x).ir = s.ir := by
  unfold State.setCluster; dsimp only; split <;> rfl
@[simp] theorem State.setCluster_lk (k : Nat) (x : Cluster) : (s.setCluster k x).lk = s.lk := by
  unfold State.setCluster; dsimp only; split <;> rfl
@[simp] theorem State.setCluster_cn (k : Nat) (x : Cluster) : (s.setCluster k x).cn = s.cn := by
  unfold State.setCluster; dsimp only; split <;> rfl
@[simp] theorem State.setCluster_ks (k : Nat) (x : Cluster) : (s.setCluster k x).ks = s.ks := by
  unfold State.setCluster; dsimp only; split <;> rfl
@[simp] theorem State.setCluster_sk (k : Nat) (x : Cluster) : (s.setCluster k x).sk = s.sk := by
  unfold State.setCluster; dsimp only; split <;> rfl
@[simp] theorem State.setCluster_mc (k : Nat) (x : Cluster) : (s.setCluster k x).mc = s.mc := by
  unfold State.setCluster; dsimp only; split <;> rfl
@[simp] theorem State.setCluster_si (k : Nat) (x : Cluster) : (s.setCluster k x).si = s.si := by
  unfold State.setCluster; dsimp only; split <;> rfl
@[simp] theorem State.setCluster_pj (k : Nat) (x : Cluster) : (s.setCluster k x).pj = s.pj := by
  unfold State.setCluster; dsimp only; split <;> rfl
@[simp] theorem State.setCluster_pl (k : Nat) (x : Cluster) : (s.setCluster k x).pl = s.pl := by
  unfold State.setCluster; dsimp only; split <;> rfl
@[simp] theorem State.setCluster_tn (k : Nat) (x : Cluster) : (s.setCluster k x).tn = s.tn := by
  unfold State.setCluster; dsimp only; split <;> rfl
@[simp] theorem State.setCluster_hp (k : Nat) (x : Cluster) : (s.setCluster k x).hp = s.hp := by
  unfold State.setCluster; dsimp only; split <;> rfl
@[simp] theorem State.setCluster_mg (k : Nat) (x : Cluster) : (s.setCluster k x).mg = s.mg := by
  unfold State.setCluster; dsimp only; split <;> rfl
@[simp] theorem State.setCluster_se (k : Nat) (x : Cluster) : (s.setCluster k x).se = s.se := by
  unfold State.setCluster; dsimp only; split <;> rfl
@[simp] theorem State.setCluster_pw (k : Nat) (x : Cluster) : (s.setCluster k x).pw = s.pw := by
  unfold State.setCluster; dsimp only; split <;> rfl
@[simp] theorem State.setCluster_ck (k : Nat) (x : Cluster) : (s.setCluster k x).ck = s.ck := by
  unfold State.setCluster; dsimp only; split <;> rfl
@[simp] theorem State.setCluster_bt (k : Nat) (x : Cluster) : (s.setCluster k x).bt = s.bt := by
  unfold State.setCluster; dsimp only; split <;> rfl
@[simp] theorem State.setCluster_mem (k : Nat) (x : Cluster) : (s.setCluster k x).mem = s.mem := by
  unfold State.setCluster; dsimp only; split <;> rfl
@[simp] theorem State.setCluster_poison (k : Nat) (x : Cluster) : (s.setCluster k x).poison = s.poison := by
  unfold State.setCluster; dsimp only; split <;> rfl
@[simp] theorem State.setCluster_now (k : Nat) (x : Cluster) : (s.setCluster k x).now = s.now := by
  unfold State.setCluster; dsimp only; split <;> rfl
@[simp] theorem State.setCluster_fresh (k : Nat) (x : Cluster) : (s.setCluster k x).fresh = s.fresh := by
  unfold State.setCluster; dsimp only; split <;> rfl
@[simp] theorem State.setCluster_outbox (k : Nat) (x : Cluster) : (s.setCluster k x).outbox = s.outbox := by
  unfold State.setCluster; dsimp only; split <;> rfl
@[simp] theorem State.setCluster_pending (k : Nat) (x : Cluster) : (s.setCluster k x).pending = s.pending := by
  unfold State.setCluster; dsimp only; split <;> rfl

/-! ## setPjUnit -/

@[simp] theorem State.setPjUnit_regs (k : Nat) (x : PjUnit) : (s.setPjUnit k x).regs = s.regs := rfl
@[simp] theorem State.setPjUnit_ports (k : Nat) (x : PjUnit) : (s.setPjUnit k x).ports = s.ports := rfl
@[simp] theorem State.setPjUnit_map (k : Nat) (x : PjUnit) : (s.setPjUnit k x).map = s.map := rfl
@[simp] theorem State.setPjUnit_q (k : Nat) (x : PjUnit) : (s.setPjUnit k x).q = s.q := rfl
@[simp] theorem State.setPjUnit_fn (k : Nat) (x : PjUnit) : (s.setPjUnit k x).fn = s.fn := rfl
@[simp] theorem State.setPjUnit_ct (k : Nat) (x : PjUnit) : (s.setPjUnit k x).ct = s.ct := rfl
@[simp] theorem State.setPjUnit_er (k : Nat) (x : PjUnit) : (s.setPjUnit k x).er = s.er := rfl
@[simp] theorem State.setPjUnit_ir (k : Nat) (x : PjUnit) : (s.setPjUnit k x).ir = s.ir := rfl
@[simp] theorem State.setPjUnit_lk (k : Nat) (x : PjUnit) : (s.setPjUnit k x).lk = s.lk := rfl
@[simp] theorem State.setPjUnit_cn (k : Nat) (x : PjUnit) : (s.setPjUnit k x).cn = s.cn := rfl
@[simp] theorem State.setPjUnit_ks (k : Nat) (x : PjUnit) : (s.setPjUnit k x).ks = s.ks := rfl
@[simp] theorem State.setPjUnit_sk (k : Nat) (x : PjUnit) : (s.setPjUnit k x).sk = s.sk := rfl
@[simp] theorem State.setPjUnit_mc (k : Nat) (x : PjUnit) : (s.setPjUnit k x).mc = s.mc := rfl
@[simp] theorem State.setPjUnit_si (k : Nat) (x : PjUnit) : (s.setPjUnit k x).si = s.si := rfl
@[simp] theorem State.setPjUnit_cr (k : Nat) (x : PjUnit) : (s.setPjUnit k x).cr = s.cr := rfl
@[simp] theorem State.setPjUnit_pl (k : Nat) (x : PjUnit) : (s.setPjUnit k x).pl = s.pl := rfl
@[simp] theorem State.setPjUnit_tn (k : Nat) (x : PjUnit) : (s.setPjUnit k x).tn = s.tn := rfl
@[simp] theorem State.setPjUnit_hp (k : Nat) (x : PjUnit) : (s.setPjUnit k x).hp = s.hp := rfl
@[simp] theorem State.setPjUnit_mg (k : Nat) (x : PjUnit) : (s.setPjUnit k x).mg = s.mg := rfl
@[simp] theorem State.setPjUnit_se (k : Nat) (x : PjUnit) : (s.setPjUnit k x).se = s.se := rfl
@[simp] theorem State.setPjUnit_pw (k : Nat) (x : PjUnit) : (s.setPjUnit k x).pw = s.pw := rfl
@[simp] theorem State.setPjUnit_ck (k : Nat) (x : PjUnit) : (s.setPjUnit k x).ck = s.ck := rfl
@[simp] theorem State.setPjUnit_bt (k : Nat) (x : PjUnit) : (s.setPjUnit k x).bt = s.bt := rfl
@[simp] theorem State.setPjUnit_mem (k : Nat) (x : PjUnit) : (s.setPjUnit k x).mem = s.mem := rfl
@[simp] theorem State.setPjUnit_poison (k : Nat) (x : PjUnit) : (s.setPjUnit k x).poison = s.poison := rfl
@[simp] theorem State.setPjUnit_now (k : Nat) (x : PjUnit) : (s.setPjUnit k x).now = s.now := rfl
@[simp] theorem State.setPjUnit_fresh (k : Nat) (x : PjUnit) : (s.setPjUnit k x).fresh = s.fresh := rfl
@[simp] theorem State.setPjUnit_outbox (k : Nat) (x : PjUnit) : (s.setPjUnit k x).outbox = s.outbox := rfl
@[simp] theorem State.setPjUnit_pending (k : Nat) (x : PjUnit) : (s.setPjUnit k x).pending = s.pending := rfl

/-! ## setFence -/

@[simp] theorem State.setFence_regs (k : Nat) (x : Fence) : (s.setFence k x).regs = s.regs := rfl
@[simp] theorem State.setFence_ports (k : Nat) (x : Fence) : (s.setFence k x).ports = s.ports := rfl
@[simp] theorem State.setFence_map (k : Nat) (x : Fence) : (s.setFence k x).map = s.map := rfl
@[simp] theorem State.setFence_q (k : Nat) (x : Fence) : (s.setFence k x).q = s.q := rfl
@[simp] theorem State.setFence_ct (k : Nat) (x : Fence) : (s.setFence k x).ct = s.ct := rfl
@[simp] theorem State.setFence_er (k : Nat) (x : Fence) : (s.setFence k x).er = s.er := rfl
@[simp] theorem State.setFence_ir (k : Nat) (x : Fence) : (s.setFence k x).ir = s.ir := rfl
@[simp] theorem State.setFence_lk (k : Nat) (x : Fence) : (s.setFence k x).lk = s.lk := rfl
@[simp] theorem State.setFence_cn (k : Nat) (x : Fence) : (s.setFence k x).cn = s.cn := rfl
@[simp] theorem State.setFence_ks (k : Nat) (x : Fence) : (s.setFence k x).ks = s.ks := rfl
@[simp] theorem State.setFence_sk (k : Nat) (x : Fence) : (s.setFence k x).sk = s.sk := rfl
@[simp] theorem State.setFence_mc (k : Nat) (x : Fence) : (s.setFence k x).mc = s.mc := rfl
@[simp] theorem State.setFence_si (k : Nat) (x : Fence) : (s.setFence k x).si = s.si := rfl
@[simp] theorem State.setFence_cr (k : Nat) (x : Fence) : (s.setFence k x).cr = s.cr := rfl
@[simp] theorem State.setFence_pj (k : Nat) (x : Fence) : (s.setFence k x).pj = s.pj := rfl
@[simp] theorem State.setFence_pl (k : Nat) (x : Fence) : (s.setFence k x).pl = s.pl := rfl
@[simp] theorem State.setFence_tn (k : Nat) (x : Fence) : (s.setFence k x).tn = s.tn := rfl
@[simp] theorem State.setFence_hp (k : Nat) (x : Fence) : (s.setFence k x).hp = s.hp := rfl
@[simp] theorem State.setFence_mg (k : Nat) (x : Fence) : (s.setFence k x).mg = s.mg := rfl
@[simp] theorem State.setFence_se (k : Nat) (x : Fence) : (s.setFence k x).se = s.se := rfl
@[simp] theorem State.setFence_pw (k : Nat) (x : Fence) : (s.setFence k x).pw = s.pw := rfl
@[simp] theorem State.setFence_ck (k : Nat) (x : Fence) : (s.setFence k x).ck = s.ck := rfl
@[simp] theorem State.setFence_bt (k : Nat) (x : Fence) : (s.setFence k x).bt = s.bt := rfl
@[simp] theorem State.setFence_mem (k : Nat) (x : Fence) : (s.setFence k x).mem = s.mem := rfl
@[simp] theorem State.setFence_poison (k : Nat) (x : Fence) : (s.setFence k x).poison = s.poison := rfl
@[simp] theorem State.setFence_now (k : Nat) (x : Fence) : (s.setFence k x).now = s.now := rfl
@[simp] theorem State.setFence_fresh (k : Nat) (x : Fence) : (s.setFence k x).fresh = s.fresh := rfl
@[simp] theorem State.setFence_outbox (k : Nat) (x : Fence) : (s.setFence k x).outbox = s.outbox := rfl
@[simp] theorem State.setFence_pending (k : Nat) (x : Fence) : (s.setFence k x).pending = s.pending := rfl

/-! ## setStream -/

@[simp] theorem State.setStream_regs (k : Nat) (x : Stream) : (s.setStream k x).regs = s.regs := rfl
@[simp] theorem State.setStream_ports (k : Nat) (x : Stream) : (s.setStream k x).ports = s.ports := rfl
@[simp] theorem State.setStream_map (k : Nat) (x : Stream) : (s.setStream k x).map = s.map := rfl
@[simp] theorem State.setStream_q (k : Nat) (x : Stream) : (s.setStream k x).q = s.q := rfl
@[simp] theorem State.setStream_ct (k : Nat) (x : Stream) : (s.setStream k x).ct = s.ct := rfl
@[simp] theorem State.setStream_er (k : Nat) (x : Stream) : (s.setStream k x).er = s.er := rfl
@[simp] theorem State.setStream_ir (k : Nat) (x : Stream) : (s.setStream k x).ir = s.ir := rfl
@[simp] theorem State.setStream_lk (k : Nat) (x : Stream) : (s.setStream k x).lk = s.lk := rfl
@[simp] theorem State.setStream_cn (k : Nat) (x : Stream) : (s.setStream k x).cn = s.cn := rfl
@[simp] theorem State.setStream_ks (k : Nat) (x : Stream) : (s.setStream k x).ks = s.ks := rfl
@[simp] theorem State.setStream_sk (k : Nat) (x : Stream) : (s.setStream k x).sk = s.sk := rfl
@[simp] theorem State.setStream_mc (k : Nat) (x : Stream) : (s.setStream k x).mc = s.mc := rfl
@[simp] theorem State.setStream_si (k : Nat) (x : Stream) : (s.setStream k x).si = s.si := rfl
@[simp] theorem State.setStream_cr (k : Nat) (x : Stream) : (s.setStream k x).cr = s.cr := rfl
@[simp] theorem State.setStream_pj (k : Nat) (x : Stream) : (s.setStream k x).pj = s.pj := rfl
@[simp] theorem State.setStream_pl (k : Nat) (x : Stream) : (s.setStream k x).pl = s.pl := rfl
@[simp] theorem State.setStream_tn (k : Nat) (x : Stream) : (s.setStream k x).tn = s.tn := rfl
@[simp] theorem State.setStream_hp (k : Nat) (x : Stream) : (s.setStream k x).hp = s.hp := rfl
@[simp] theorem State.setStream_mg (k : Nat) (x : Stream) : (s.setStream k x).mg = s.mg := rfl
@[simp] theorem State.setStream_se (k : Nat) (x : Stream) : (s.setStream k x).se = s.se := rfl
@[simp] theorem State.setStream_pw (k : Nat) (x : Stream) : (s.setStream k x).pw = s.pw := rfl
@[simp] theorem State.setStream_ck (k : Nat) (x : Stream) : (s.setStream k x).ck = s.ck := rfl
@[simp] theorem State.setStream_bt (k : Nat) (x : Stream) : (s.setStream k x).bt = s.bt := rfl
@[simp] theorem State.setStream_mem (k : Nat) (x : Stream) : (s.setStream k x).mem = s.mem := rfl
@[simp] theorem State.setStream_poison (k : Nat) (x : Stream) : (s.setStream k x).poison = s.poison := rfl
@[simp] theorem State.setStream_now (k : Nat) (x : Stream) : (s.setStream k x).now = s.now := rfl
@[simp] theorem State.setStream_fresh (k : Nat) (x : Stream) : (s.setStream k x).fresh = s.fresh := rfl
@[simp] theorem State.setStream_outbox (k : Nat) (x : Stream) : (s.setStream k x).outbox = s.outbox := rfl
@[simp] theorem State.setStream_pending (k : Nat) (x : Stream) : (s.setStream k x).pending = s.pending := rfl

/-! ## setHostFn -/

@[simp] theorem State.setHostFn_regs (k : Nat) (x : HostFn) : (s.setHostFn k x).regs = s.regs := rfl
@[simp] theorem State.setHostFn_ports (k : Nat) (x : HostFn) : (s.setHostFn k x).ports = s.ports := rfl
@[simp] theorem State.setHostFn_map (k : Nat) (x : HostFn) : (s.setHostFn k x).map = s.map := rfl
@[simp] theorem State.setHostFn_q (k : Nat) (x : HostFn) : (s.setHostFn k x).q = s.q := rfl
@[simp] theorem State.setHostFn_fn (k : Nat) (x : HostFn) : (s.setHostFn k x).fn = s.fn := rfl
@[simp] theorem State.setHostFn_ct (k : Nat) (x : HostFn) : (s.setHostFn k x).ct = s.ct := rfl
@[simp] theorem State.setHostFn_er (k : Nat) (x : HostFn) : (s.setHostFn k x).er = s.er := rfl
@[simp] theorem State.setHostFn_lk (k : Nat) (x : HostFn) : (s.setHostFn k x).lk = s.lk := rfl
@[simp] theorem State.setHostFn_cn (k : Nat) (x : HostFn) : (s.setHostFn k x).cn = s.cn := rfl
@[simp] theorem State.setHostFn_ks (k : Nat) (x : HostFn) : (s.setHostFn k x).ks = s.ks := rfl
@[simp] theorem State.setHostFn_sk (k : Nat) (x : HostFn) : (s.setHostFn k x).sk = s.sk := rfl
@[simp] theorem State.setHostFn_mc (k : Nat) (x : HostFn) : (s.setHostFn k x).mc = s.mc := rfl
@[simp] theorem State.setHostFn_si (k : Nat) (x : HostFn) : (s.setHostFn k x).si = s.si := rfl
@[simp] theorem State.setHostFn_cr (k : Nat) (x : HostFn) : (s.setHostFn k x).cr = s.cr := rfl
@[simp] theorem State.setHostFn_pj (k : Nat) (x : HostFn) : (s.setHostFn k x).pj = s.pj := rfl
@[simp] theorem State.setHostFn_pl (k : Nat) (x : HostFn) : (s.setHostFn k x).pl = s.pl := rfl
@[simp] theorem State.setHostFn_tn (k : Nat) (x : HostFn) : (s.setHostFn k x).tn = s.tn := rfl
@[simp] theorem State.setHostFn_hp (k : Nat) (x : HostFn) : (s.setHostFn k x).hp = s.hp := rfl
@[simp] theorem State.setHostFn_mg (k : Nat) (x : HostFn) : (s.setHostFn k x).mg = s.mg := rfl
@[simp] theorem State.setHostFn_se (k : Nat) (x : HostFn) : (s.setHostFn k x).se = s.se := rfl
@[simp] theorem State.setHostFn_pw (k : Nat) (x : HostFn) : (s.setHostFn k x).pw = s.pw := rfl
@[simp] theorem State.setHostFn_ck (k : Nat) (x : HostFn) : (s.setHostFn k x).ck = s.ck := rfl
@[simp] theorem State.setHostFn_bt (k : Nat) (x : HostFn) : (s.setHostFn k x).bt = s.bt := rfl
@[simp] theorem State.setHostFn_mem (k : Nat) (x : HostFn) : (s.setHostFn k x).mem = s.mem := rfl
@[simp] theorem State.setHostFn_poison (k : Nat) (x : HostFn) : (s.setHostFn k x).poison = s.poison := rfl
@[simp] theorem State.setHostFn_now (k : Nat) (x : HostFn) : (s.setHostFn k x).now = s.now := rfl
@[simp] theorem State.setHostFn_fresh (k : Nat) (x : HostFn) : (s.setHostFn k x).fresh = s.fresh := rfl
@[simp] theorem State.setHostFn_outbox (k : Nat) (x : HostFn) : (s.setHostFn k x).outbox = s.outbox := rfl
@[simp] theorem State.setHostFn_pending (k : Nat) (x : HostFn) : (s.setHostFn k x).pending = s.pending := rfl

/-! ## setBank -/

@[simp] theorem State.setBank_regs (p : Port) (b : PortBank) : (s.setBank p b).regs = s.regs := rfl
@[simp] theorem State.setBank_map (p : Port) (b : PortBank) : (s.setBank p b).map = s.map := rfl
@[simp] theorem State.setBank_q (p : Port) (b : PortBank) : (s.setBank p b).q = s.q := rfl
@[simp] theorem State.setBank_fn (p : Port) (b : PortBank) : (s.setBank p b).fn = s.fn := rfl
@[simp] theorem State.setBank_ct (p : Port) (b : PortBank) : (s.setBank p b).ct = s.ct := rfl
@[simp] theorem State.setBank_er (p : Port) (b : PortBank) : (s.setBank p b).er = s.er := rfl
@[simp] theorem State.setBank_ir (p : Port) (b : PortBank) : (s.setBank p b).ir = s.ir := rfl
@[simp] theorem State.setBank_lk (p : Port) (b : PortBank) : (s.setBank p b).lk = s.lk := rfl
@[simp] theorem State.setBank_cn (p : Port) (b : PortBank) : (s.setBank p b).cn = s.cn := rfl
@[simp] theorem State.setBank_ks (p : Port) (b : PortBank) : (s.setBank p b).ks = s.ks := rfl
@[simp] theorem State.setBank_sk (p : Port) (b : PortBank) : (s.setBank p b).sk = s.sk := rfl
@[simp] theorem State.setBank_mc (p : Port) (b : PortBank) : (s.setBank p b).mc = s.mc := rfl
@[simp] theorem State.setBank_si (p : Port) (b : PortBank) : (s.setBank p b).si = s.si := rfl
@[simp] theorem State.setBank_cr (p : Port) (b : PortBank) : (s.setBank p b).cr = s.cr := rfl
@[simp] theorem State.setBank_pj (p : Port) (b : PortBank) : (s.setBank p b).pj = s.pj := rfl
@[simp] theorem State.setBank_pl (p : Port) (b : PortBank) : (s.setBank p b).pl = s.pl := rfl
@[simp] theorem State.setBank_tn (p : Port) (b : PortBank) : (s.setBank p b).tn = s.tn := rfl
@[simp] theorem State.setBank_hp (p : Port) (b : PortBank) : (s.setBank p b).hp = s.hp := rfl
@[simp] theorem State.setBank_mg (p : Port) (b : PortBank) : (s.setBank p b).mg = s.mg := rfl
@[simp] theorem State.setBank_se (p : Port) (b : PortBank) : (s.setBank p b).se = s.se := rfl
@[simp] theorem State.setBank_pw (p : Port) (b : PortBank) : (s.setBank p b).pw = s.pw := rfl
@[simp] theorem State.setBank_ck (p : Port) (b : PortBank) : (s.setBank p b).ck = s.ck := rfl
@[simp] theorem State.setBank_bt (p : Port) (b : PortBank) : (s.setBank p b).bt = s.bt := rfl
@[simp] theorem State.setBank_mem (p : Port) (b : PortBank) : (s.setBank p b).mem = s.mem := rfl
@[simp] theorem State.setBank_poison (p : Port) (b : PortBank) : (s.setBank p b).poison = s.poison := rfl
@[simp] theorem State.setBank_now (p : Port) (b : PortBank) : (s.setBank p b).now = s.now := rfl
@[simp] theorem State.setBank_fresh (p : Port) (b : PortBank) : (s.setBank p b).fresh = s.fresh := rfl
@[simp] theorem State.setBank_outbox (p : Port) (b : PortBank) : (s.setBank p b).outbox = s.outbox := rfl
@[simp] theorem State.setBank_pending (p : Port) (b : PortBank) : (s.setBank p b).pending = s.pending := rfl

/-! ## What was written reads back -/

/-- A field after a field is set: its width in bits is held. -/
@[simp] theorem State.fld_setFld (f g : Fld) (v i j : Nat) :
    (s.setFld f v i).fld g j = if f.key i = g.key j then v % 2 ^ f.wid else s.fld g j := kvGet_kvInsert ..

/-- A counter after it is raised. -/
theorem State.fld_bump (f : Fld) (n i : Nat) :
    (s.bump f n i).fld f i = min (s.fld f i + n) (2 ^ f.wid - 1) := by
  rw [State.bump, State.fld_setFld, if_pos rfl]
  exact Nat.mod_eq_of_lt (by have := Nat.two_pow_pos f.wid; omega)

@[simp] theorem State.queue_setQueue (k j : Nat) (x : Queue) :
    (s.setQueue k x).queue j = if k = j then x else s.queue j := by
  unfold State.queue State.setQueue kvPut
  dsimp only
  by_cases h : k = j
  · subst h
    split <;> simp [*]
  · split <;> simp [h]

@[simp] theorem State.desc_setDesc (k j : Nat) (x : Desc) :
    (s.setDesc k x).desc j = if k = j then x else s.desc j := kvGet_kvInsert ..

@[simp] theorem State.revokes_setRevokes (k j : Nat) (x : Revokes) :
    (s.setRevokes k x).revokes j = if k = j then x else s.revokes j := kvGet_kvPut ..

@[simp] theorem State.unitRec_setUnitRec (k j : Nat) (x : UnitRec) :
    (s.setUnitRec k x).unitRec j = if k = j then x else s.unitRec j := kvGet_kvPut ..

@[simp] theorem State.link_setLink (k j : Nat) (x : Link) :
    (s.setLink k x).link j = if k = j then x else s.link j := kvGet_kvPut ..

@[simp] theorem State.carrel_setCarrel (k j : Nat) (x : Carrel) :
    (s.setCarrel k x).carrel j = if k = j then x else s.carrel j := kvGet_kvPut ..

@[simp] theorem State.cluster_setCluster (k j : Nat) (x : Cluster) :
    (s.setCluster k x).cluster j = if k = j then x else s.cluster j := by
  unfold State.cluster State.setCluster
  dsimp only
  split <;> simp [kvGet_kvPut]

@[simp] theorem State.carrelCmd_setCarrelCmd (k j : Nat) (x : CarrelCmd) :
    (s.setCarrelCmd k x).carrelCmd j = if k = j then x else s.carrelCmd j := kvGet_kvPut ..

@[simp] theorem State.pjUnit_setPjUnit (k j : Nat) (x : PjUnit) :
    (s.setPjUnit k x).pjUnit j = if k = j then x else s.pjUnit j := kvGet_kvPut ..

@[simp] theorem State.fence_setFence (k j : Nat) (x : Fence) :
    (s.setFence k x).fence j = if k = j then x else s.fence j := by
  unfold State.fence State.setFence kvPut
  dsimp only
  by_cases h : k = j
  · subst h
    split <;> simp [*]
  · split <;> simp [h]

@[simp] theorem State.stream_setStream (k j : Nat) (x : Stream) :
    (s.setStream k x).stream j = if k = j then x else s.stream j := kvGet_kvPut ..

@[simp] theorem State.hostFn_setHostFn (k j : Nat) (x : HostFn) :
    (s.setHostFn k x).hostFn j = if k = j then x else s.hostFn j := kvGet_kvPut ..

end Sys2Proof.Machine
end

