-- ==== Sys2Proof/Laws/Ops.lean ====
section
/-!
SUPPORT. What the shared operations can do, said once: each frame names every field of State that its operation may change, so that a proof
about a command cites it and need not unfold the operation.
-/
namespace Sys2Proof.Machine

variable {s t : State}

/-- A completion from the state that a command answers. -/
theorem leads_next {c : Instr} {P : State → Prop} (h : exec c s = .next t) (p : P t) : Leads c s P := ⟨t, h, p⟩

/-- A completion gives less where less is asked. -/
theorem Leads.mono {c : Instr} {P Q : State → Prop} (h : Leads c s P) (f : ∀ t, P t → Q t) : Leads c s Q :=
  let ⟨t, e, p⟩ := h
  ⟨t, e, f t p⟩

/-! ## Registers and ports -/

theorem setFld_frame (f : Fld) (v i : Nat) : ∃ r, s.setFld f v i = { s with regs := r } := ⟨_, rfl⟩

theorem bump_frame (f : Fld) (n i : Nat) : ∃ r, s.bump f n i = { s with regs := r } := ⟨_, rfl⟩

/-- A counted access writes the TOP_BAD_ACCESS registers and nothing else (R714). -/
theorem badAccess_frame (p : Port) (off : Nat) : ∃ r, s.badAccess p off = { s with regs := r } := ⟨_, rfl⟩

/-- A dropped stage changes the bank of its port alone (R16). -/
theorem dropStage_frame (p : Port) : ∃ b, s.dropStage p = { s with ports := b } := ⟨_, rfl⟩

/-- An access wakes the fabric and changes nothing else (R590). -/
theorem touch_frame : ∃ b, s.touch = { s with ck := { s.ck with slow := b } } := by
  unfold State.touch
  split
  · exact ⟨false, rfl⟩
  · exact ⟨s.ck.slow, rfl⟩

theorem bank_setBank (p q : Port) (b : PortBank) :
    (s.setBank p b).bank q = if portCode p = portCode q then b else s.bank q := kvGet_kvPut ..

theorem dropStage_stage (p : Port) : ((s.dropStage p).bank p).stage = none := by
  unfold State.dropStage
  rw [bank_setBank, if_pos rfl]

/-- RC fields that are read: registers change and nothing else (R10). -/
theorem clearRc_frame (w : RegWord) (i : Nat) : ∃ r, s.clearRc w i = { s with regs := r } := by
  unfold State.clearRc
  generalize w.flds.filter (fun f => f.acc = .rc) = l
  induction l generalizing s with
  | nil => exact ⟨s.regs, rfl⟩
  | cons f l ih =>
    obtain ⟨r, h⟩ := ih (s := s.setFld f f.rst i)
    exact ⟨r, h⟩

/-! ## Messages and events -/

theorem emit_frame (m : Msg) : s.emit m = { s with outbox := s.outbox ++ [m] } := rfl

/-- An interrupt message is sent or stays pending (R456, R503). -/
theorem sendMsix_frame (f v : Nat) : ∃ r o i, s.sendMsix f v = { s with regs := r, outbox := o, ir := i } := by
  unfold State.sendMsix
  split
  · exact ⟨_, _, s.ir, rfl⟩
  · exact ⟨s.regs, s.outbox, _, rfl⟩

/-- A device event changes registers, the outbox and the pending vectors (R505). -/
theorem devEvent_frame (b : Nat) : ∃ r o i, s.devEvent b = { s with regs := r, outbox := o, ir := i } := by
  unfold State.devEvent
  dsimp only
  split
  · exact ⟨s.regs, s.outbox, s.ir, rfl⟩
  · split
    · obtain ⟨r, o, i, h⟩ := sendMsix_frame (s := s.setFld F_IR_EVT_STATUS_STATUS (s.fld F_IR_EVT_STATUS_STATUS + 2 ^ b)) 0
        ((s.setFld F_IR_EVT_STATUS_STATUS (s.fld F_IR_EVT_STATUS_STATUS + 2 ^ b)).fld F_IR_EVT_CFG_VECTOR)
      exact ⟨r, o, i, h⟩
    · exact ⟨_, s.outbox, s.ir, rfl⟩

/-- A record changes the ring, registers, the outbox and the pending vectors (R657, R667 to R669). -/
theorem writeRec_frame (x : ErrRec) : ∃ r o i e, (s.writeRec x).1 = { s with regs := r, outbox := o, ir := i, er := e } := by
  have two (y : State) (r e) (h : y = { s with regs := r, er := e }) :
      ∃ r o i e, y.devEvent 0 = { s with regs := r, outbox := o, ir := i, er := e } := by
    obtain ⟨r, o, i, k⟩ := devEvent_frame (s := y) 0
    exact ⟨r, o, i, e, by rw [k, h]⟩
  have one (r e) : ∃ r' o i e', ({ s with regs := r, er := e } : State) = { s with regs := r', outbox := o, ir := i, er := e' } :=
    ⟨r, s.outbox, s.ir, e, rfl⟩
  unfold State.writeRec
  extract_lets w p s₁
  by_cases h : (w + 2 ^ 32 - p) % 2 ^ 32 < 256
  · rw [if_pos h]
    exact two _ _ _ rfl
  · rw [if_neg h]
    by_cases k : (x.cls != 3) = true
    · rw [if_pos k]
      exact one _ _
    · rw [if_neg k]
      generalize s.newestNonFatal 256 _ = n
      cases n with
      | none => exact one _ _
      | some q => exact two _ _ _ rfl

/-- The end of a recovery changes the error records alone (R658, R761). -/
theorem recoveryEnd_frame (utype inst : Nat) (ok : Bool) : ∃ e, s.recoveryEnd utype inst ok = { s with er := e } := by
  unfold State.recoveryEnd State.setOutcome
  dsimp only
  split
  · exact ⟨s.er, rfl⟩
  · split <;> exact ⟨_, rfl⟩

/-! ## Memory -/

/-- A miscorrected line delivers other bytes of its own and of no other line (R341). -/
theorem byte_miscorrect_outside (line a : Nat) (e : LineErr) (h : a < line * 64 ∨ line * 64 + 64 ≤ a) :
    (s.miscorrect line e).byte a = s.byte a := by
  unfold State.miscorrect
  exact byte_writeMem_outside s _ a _ (by simpa using h)

/-- Zeroed memory reads as zero (R45). -/
theorem byte_zeroMem_inside (a n x : Nat) (h : a ≤ x) (k : x < a + n) : (s.zeroMem a n).byte x = 0 := by
  rw [byte_zeroMem]
  simp [h, k]

/-- A FRESH sector reads as zeros (R351). -/
theorem look_fresh (a : Nat) (h : s.freshAt (sectorOf a) = true) : s.look a = 0 := by
  unfold State.look
  rw [if_pos h]

/-! ## Descriptors -/

/-- A command whose status is not final ends with the status it is given (R98). -/
theorem finish_ended (d : Nat) (x : Desc) (st : Status) (res : Result) (detail : Nat) (h : s.desc? d = some x) (k : x.stage ≠ .done) :
    Ended (s.finish d st res detail) d st ∧ ((s.finish d st res detail).desc d).res = res ∧
      ((s.finish d st res detail).desc d).detail = detail := by
  unfold State.finish
  rw [h]
  simp [k, Ended]

/-! ## Turns, DRAM commands, host requests, ticks -/

/-- A fold of steps that each keep a property of the state keeps it. -/
theorem foldl_keeps {α : Type} (P : State → Prop) (f : State → α → State) (h : ∀ z a, P z → P (f z a)) (l : List α) (z : State) (p : P z) :
    P (l.foldl f z) := by
  induction l generalizing z with
  | nil => exact p
  | cons a l ih => exact ih _ (h _ _ p)

/-- A request's turn is paid for in the tiers' rounds alone. -/
theorem payTurns_frame (n : Nat) (r w : List Piece) : ∃ k, s.payTurns n r w = { s with tn := { s.tn with rounds := k } } := by
  refine foldl_keeps (fun z => ∃ k, z = { s with tn := { s.tn with rounds := k } }) _ ?_ _ _ ⟨s.tn.rounds, rfl⟩
  rintro z u ⟨k, rfl⟩
  dsimp only
  split
  · exact ⟨k, rfl⟩
  · exact ⟨_, rfl⟩

/-- Asking the host for bytes sends at most a request. -/
theorem askHost_frame (q a n : Nat) : ∃ o, s.askHost q a n = { s with outbox := s.outbox ++ o } := by
  unfold State.askHost
  split
  · exact ⟨[], by simp⟩
  · exact ⟨_, rfl⟩

/-- Issuing DRAM commands changes the unit's state and the counter of alerts alone. -/
theorem issue_frame (u : Nat) (l : List DramCmd) : ∃ r m, s.issue u l = { s with regs := r, mc := m } := by
  unfold State.issue
  dsimp only
  split
  · exact ⟨_, _, rfl⟩
  · split
    · split <;> exact ⟨_, _, rfl⟩
    · exact ⟨_, _, rfl⟩

/-- An idle step with no access waiting changes the time, the servo's phase and the fallback's divider alone. -/
theorem tick_frame (h : s.hp.held = []) :
    ∃ n k p, s.tick = { s with now := n, ck := { s.ck with sub := k }, cn := { s.cn with phase := p } } := by
  have e : s.apSweep = s := by
    unfold State.apSweep
    rw [h]
    show ({ s with hp := { s.hp with held := [] } } : State) = s
    rw [← h]
  unfold State.tick
  rw [e]
  dsimp only
  repeat' split
  all_goals exact ⟨_, _, _, rfl⟩

end Sys2Proof.Machine
end

