-- ==== Sys2Proof/Tests/Slice0.lean ====
section
/-!
SUPPORT. Tests: states and operands that meet the hypotheses of the statements, ill-formed commands, single steps checked against the spec's
worked cases and tables.
-/
set_option Elab.async false

namespace Sys2Proof.Machine

/-! ## States and descriptors for the tests -/

/-- A state with one descriptor. -/
def withDesc (d : Nat) (x : Desc) : State := { ({} : State) with q := { descs := [(d, x)] } }

/-- A descriptor whose operation may run, of tenant 5 on management queue 0. -/
def cmd (op : Nat) (a b len : Nat) (spec : Nat := 0) (flags : Nat := 0) : Desc :=
  { e := { opcode := op, tenant := 5, opA := a, opB := b, len := len, spec := spec, flags := flags } }

/-- TFNs 0 and 1 of tenant 5 map folios 7 and 8, which it owns. -/
def withMap (s : State) : State :=
  { s with
    map := {
      mirror := [(mirrorKey 5 0, { dfn := 7, rd := true, wr := true, valid := true }),
        (mirrorKey 5 1, { dfn := 8, rd := true, wr := true, cp := true, valid := true })]
      owner := [(7, { st := .owned, tenant := 5, maps := 1 }), (8, { st := .owned, tenant := 5, maps := 1 })] } }

def wFolio : Desc := cmd 0x10 0 4096 2 0x13
def wFree : Desc := cmd 0x11 0 0 2
def wUnmap : Desc := cmd 0x13 0 0 2
def wSync : Desc := cmd 0x12 0 0 1
def wVerify : Desc := cmd 0x12 0 0 1 0 1
def wHint : Desc := cmd 0x14 0 0 2 1
def wPin : Desc := cmd 0x15 0 0 2 3
def wWrite : Desc := { cmd 0x20 10 4096 3 with dst := [7], dmeta := [0] }
def wRead : Desc := { cmd 0x21 10 4096 300 with src := [7], smeta := [0] }
def wCopy : Desc := { cmd 0x22 10 65540 300 with src := [8], smeta := [0], dst := [7], dmeta := [0] }

/-! ## Worked cases and tables of the spec -/

/-- DPA 0x0105_3A7C_4D28 of the worked case in chapter 0: its folio and its sector. -/
theorem test_dpa_decode :
    0x01053A7C4D28 / 65536 = 0x01053A7C ∧ sectorOf 0x01053A7C4D28 % 256 = 77 ∧ warmBase ≤ 0x01053A7C := by decide +kernel

/-- A state in which the control firmware runs on an A4. -/
def running : State := { regs := [(F_TOP_ID_STACKS.key 0, 4), (F_TOP_BOOT_STATUS_STAGE.key 0, 3)] }

/-- Table 0.1: TOP_ID of the A4 reads 0x0410_4810. -/
theorem test_top_id : running.placeValue .pf (running.place .pf 0) = 0x04104810 := by decide +kernel

/-- The worked case of chapter 0: LK_SEL_STATUS after 47 and after 48 are selected. -/
theorem test_select_window :
    Leads (.selWrite { p := .pf, off := 0xB00800 } 47) running (fun t => t.placeValue .pf (t.place .pf 0xB00804) = 0x3000) ∧
    Leads (.selWrite { p := .pf, off := 0xB00800 } 48) running (fun t => t.placeValue .pf (t.place .pf 0xB00804) = 0x3001) :=
  ⟨⟨_, rfl, by decide +kernel⟩, ⟨_, rfl, by decide +kernel⟩⟩

/-- CRC-32 of IEEE 802.3: its published check value, over the digits 1 to 9. -/
theorem test_crc32 : crc32 [0x31, 0x32, 0x33, 0x34, 0x35, 0x36, 0x37, 0x38, 0x39] = 0xCBF43926 := by decide +kernel

/-- The worked case of chapter 8: BF16 0x404C divided by a scale of 0.0625 is E4M3 0x65, which gathers as BF16 0x4050; 30.0 saturates to 0x7E
and is counted. -/
theorem test_projection_values :
    (convVec 1 2 1 (.fin false 16 0) [0x4C, 0x40]).1 = [0x65] ∧ (convVec 2 1 1 (.fin false 1 (-4)) [0x65]).1 = [0x50, 0x40] ∧
    convVec 1 2 1 (.fin false 16 0) [0xF0, 0x41] = ([0x7E], { sat := 1 }) := by decide +kernel

/-- The worked case of chapter 9: the costs of Table 9.7 place rows 0, 1 and 2 in columns 1, 2 and 0 at 470. -/
theorem test_place :
    (solve ([0x03, 0x04, 0, 0] ++ List.replicate 60 0 ++
      [120, 0, 180, 0, 150, 0, 210, 0, 100, 0, 160, 0, 90, 0, 150, 0, 200, 0, 4, 1, 0xFF, 0xFF, 0xFF, 0xFF])).1 = [1, 2, 0] := by
  decide +kernel

/-- A state in which tenant 17 has weight 3 and tenant 40 weight 1 in class 2, as in the worked case of chapter 3. -/
def twoTenants : State := { running with
  regs := [(F_TOP_BOOT_STATUS_STAGE.key 0, 3), (F_TN_T_QE_WEIGHT_W2.key 17, 3), (F_TN_T_QE_WEIGHT_W2.key 40, 1)] }

/-- Table 3.11: a new visit to tenant 17 has deficit 3, and moving on to tenant 40 gives that one 1 and leaves 17 none. -/
theorem test_visits :
    (kvGet 0 (twoTenants.visit 2 17).q.arb.deficit (2 * 1024 + 17), (twoTenants.visit 2 17).q.arb.deficit.length) = (3, 1) ∧
    ((twoTenants.visit 2 17).visit 2 40).q.arb.deficit = [(2 * 1024 + 40, 1)] := by decide +kernel

/-- R519: the life-cycle state is the highest whose COMMIT bit is blown; a lone INTENT of RETURN is completed at boot (Table 16.14). -/
theorem test_intent_completed :
    lcOf 15 = 2 ∧ ({ se := { fuses := { lc := .of (15 + 16) } } } : State).completeIntent.lc = 3 := by decide +kernel

/-! ## Ill-formed commands, one for each check of WellFormed -/

theorem test_ill_formed_ports_and_accesses :
    [Instr.mailboxGo (.vf 0), .mailboxGo (.vf 64), .rcFieldRead { p := .pf, off := 2 ^ 26 }, .rcFieldRead { p := .pf, off := 0, be := 16 },
      .selWrite { p := .pf, off := 0 } (2 ^ 32)].all (fun c => !c.wf) = true := by decide

theorem test_ill_formed_numbers :
    [Instr.write 16384 [], .queueEnable .pf 65536, .unmap 16384, .linkDisable .pf 48, .revokeWindowStart 1024, .folioZeroed (2 ^ 26),
      .streamFreed 4096, .carrelFault 64, .laneSleep 12, .retrain 144, .migrationComplete 16, .periodicRetune 20 [0], .tmonRead 40 1000,
      .loopStop .pf 8, .thermalWarning 60 [], .vsetInvalid 4].all (fun c => !c.wf) = true := by decide

theorem test_ill_formed_sectors_and_lists :
    [Instr.tenantReset 3 [2 ^ 40], .ddr5Training 20 [] [], .loopStart .pf 0 65536 []].all (fun c => !c.wf) = true := by decide

theorem test_ill_formed_flits :
    [({ type := 16 } : Flit), { vc := 4 }, { seq := 1024 }, { session := 64 }, { queue := 65536 }, { xtag := 65536 },
      { body := List.replicate 241 0 }, { type := 4, poison := true }, { type := 4, last := true }].all (fun f => !f.wf) = true := by
  decide +kernel

/-! ## Helpers of the witnesses -/

/-- The root-of-trust processor runs; host link in CXL mode, I3C and link 2 are up. -/
def listening : State :=
  { regs := [(F_TOP_BOOT_STATUS_STAGE.key 0, 3), (F_HP_STATUS_RATE.key 0, 5), (F_HP_STATUS_CXL.key 0, 1)], lk := { links := [(2, { st := .active })] } }

/-- A state with a queue of tenant 5 whose fetched entries are given; the tenant's TFN 0 maps folio 7. -/
def headOf (l : List Fetched) : State := { ({} : State) with
  q := { tab := [(20, { tenant := 5, origin := 0x80, st := .active, fetched := l })] }
  regs := [(F_TOP_BOOT_STATUS_POOL_READY.key 0, 1), (F_TN_MAP_LEN_LEN.key 5, 4), (F_TN_T_STATUS_STATE.key 5, 1),
    (F_HP_STATUS_RATE.key 0, 5)]
  ir := { fns := [(0, { bme := true })] }
  ks := [(64, { st := .active, kind := 1, tenant := 5 })]
  map := {
    mirror := [(mirrorKey 5 0, { dfn := 7, rd := true, wr := true, valid := true })]
    owner := [(7, { st := .owned, tenant := 5, maps := 1 })] } }

/-- An entry of tenant 5 at the head of its queue. -/
def headEntry (h : Hold) (op len : Nat) (ordered : Bool) : Fetched :=
  { e := { opcode := op, tenant := 5, tag := 9, len := len, ordered := ordered }, t := 2, hold := h }

/-- The descriptor that an acceptance makes. -/
def takenOf : Accepted → Desc
  | .take _ x => x
  | _ => {}

/-- The base point of P-384 as a public key of 96 bytes: the key of the private scalar 1. -/
def oneKey : List Byte := beBytes 48 p384G.1 ++ beBytes 48 p384G.2

/-- The ECDSA signature of a digest under the private scalar 1, with the nonce 1. -/
def oneSig (z : Nat) : List Byte := beBytes 48 (p384G.1 % p384N) ++ beBytes 48 ((z + p384G.1) % p384N)

/-- CN_KEY holding that key. -/
def cnKeyRegs : List (Nat × Nat) := (List.range 24).map (fun i => ((F_CN_KEY_KEY.at i).key 0, leAt oneKey (4 * i) 4))

/-- An epoch record of member 0 alone, of epoch 1, signed under that key; the number is its SHA-384 digest. -/
def oneRecord : List Byte :=
  [1, 0, 0, 0, 0, 0, 0, 0, 1, 0, 0, 0, 1] ++ List.replicate 2579 0 ++
    oneSig 8302041400739003350177396684492222557111622678029899689048407586112526926514882631186589120263029698182892252601068

/-- That public key as the fuses' hashes take it, uncompressed. -/
def rootKey : List Byte := 4 :: oneKey

/-- An image of component 2 with SVN 3 and one byte, signed under root key 1 if that is the key above; the number is the SHA-384 digest of its header. -/
def oneImage : List Byte :=
  [0x47, 0x4D, 0x49, 0x4A, 2, 0, 0, 0, 9, 0, 0, 0, 3, 0, 0, 0, 1, 0, 0, 0, 1, 0, 0, 0, 0, 0, 0, 0, 0, 0, 0, 0] ++ sha384 [7] ++
    oneSig 8414869633885900082363357593063237139231038558096280130771826352718544094698425487818507932726985586853279682647223 ++ [7]

/-- A token for a device without an identity: kind, request, signer, the nonce of 32 equal bytes, then its signature. -/
def tokenOf (kind req signer n : Byte) (sig : List Byte) : List Byte :=
  [kind, req, signer, 0, 0, 0, 0, 0] ++ List.replicate 32 0 ++ List.replicate 32 n ++ List.replicate 24 0 ++ sig

/-- Tokens signed under the key above; the numbers are the SHA-384 digests of their first 96 bytes. -/
def debugToken9 : List Byte :=
  tokenOf 1 2 1 9 (oneSig 7892557732701398295438485559281319312084929247560562164311039466498499580878768137340611614739921132177001451098203)

/-- Likewise. -/
def debugToken7 : List Byte :=
  tokenOf 1 1 1 7 (oneSig 15934182854905836781725047298919614066905184066899078416959404490428851593700774727374808044984761900486507895021368)

/-- Likewise. -/
def ackToken : List Byte :=
  tokenOf 3 0 1 9 (oneSig 966531062323522130974100267289097229331123505355148416804356059229676372144841110082139979413403379994746211251023)

/-- Likewise. -/
def cfgToken : List Byte :=
  tokenOf 4 0 1 9 (oneSig 36286843021050394259554649631534149204910116950059147961002354019203623650106338679861831958996359990224336100236917)

/-- An unsigned token. -/
def plainToken (req : Byte) : List Byte := tokenOf 2 req 0 9 (List.replicate 96 0)

/-- A table that holds one value under every key from `i` on, `n` of them. -/
def filled {α : Type} (v : α) : Nat → Nat → KV α
  | 0, _ => []
  | n + 1, i => (i, v) :: filled v n (i + 1)

theorem kvGet_filled {α : Type} (d v : α) (n i j : Nat) (h : i ≤ j) (k : j < i + n) : kvGet d (filled v n i) j = v := by
  induction n generalizing i with
  | zero => omega
  | succ n ih =>
    simp only [filled, kvGet]
    split
    · rfl
    · exact ih (i + 1) (by omega) (by omega)

theorem firstFrom_none (p : Nat → Bool) (n i : Nat) (h : ∀ j, i ≤ j → j < i + n → p j = false) : firstFrom p n i = none := by
  induction n generalizing i with
  | zero => rfl
  | succ n ih =>
    simp only [firstFrom, h i (Nat.le_refl i) (by omega), Bool.false_eq_true, if_false]
    exact ih (i + 1) (fun j a b => h j (by omega) (by omega))

/-- A key table without a free tenant slot. -/
theorem freshSlot_filled (s : State) (h : s.ks = filled { st := .active } 1984 64) : s.freshSlot = none :=
  firstFrom_none _ _ _ (fun j a b => by
    have : s.slot j = { st := .active } := by
      simp only [State.slot, h]
      exact kvGet_filled _ _ _ _ _ a (by omega)
    simp [this])

/-! ## States that meet the hypotheses of the statements, clause by clause -/

theorem test_meets_folio_commands_complete_1 :
    (∃ (s : State) (d : Nat) (x : Desc), Runs s d 0x10 x ∧ s.inWindow x.e.tenant = false ∧ s.noHost x.q = false ∧ (∀ k ∈ x.e.tfns, (s.entry x.e.tenant k).valid = false) ∧ (s.takeFolios (bits x.e.opA 24 2) x.e.len).length = x.e.len ∧ s.hostFault = none) ∧
    (∃ (s : State) (d : Nat) (x : Desc), Runs s d 0x10 x ∧ s.inWindow x.e.tenant = false ∧ s.noHost x.q = false ∧ (∀ k ∈ x.e.tfns, (s.entry x.e.tenant k).valid = false) ∧ (s.takeFolios (bits x.e.opA 24 2) x.e.len).length < x.e.len) ∧
    (∃ (s : State) (d : Nat) (x : Desc), Runs s d 0x11 x ∧ s.revokeBusy x.e.tenant = false ∧ s.inWindow x.e.tenant = false ∧ (∀ k ∈ x.e.tfns, (s.entry x.e.tenant k).valid = true) ∧ x.e.len ≠ 0) ∧
    (∃ (s : State) (d : Nat) (x : Desc), Runs s d 0x13 x ∧ s.revokeBusy x.e.tenant = false ∧ s.inWindow x.e.tenant = false) ∧
    (∃ (s : State) (d : Nat) (b : List Byte) (x : Desc), Runs s d 0x12 x ∧ x.e.flag 8 = false ∧ s.noHost x.q = false ∧ s.revokeBusy x.e.tenant = false ∧ s.inWindow x.e.tenant = false ∧ s.masterCheck x.e.tenant ({ x with blk := b } : Desc).master = none) ∧
    (∃ (s : State) (d : Nat) (b : List Byte) (x : Desc), Runs s d 0x12 x ∧ x.e.flag 8 = false ∧ s.noHost x.q = false ∧ s.revokeBusy x.e.tenant = false ∧ s.inWindow x.e.tenant = false ∧ s.masterCheck x.e.tenant ({ x with blk := b } : Desc).master = none) ∧
    (∃ (s : State) (d : Nat) (x : Desc), Runs s d 0x12 x ∧ x.e.flag 8 = true ∧ s.noHost x.q = false) ∧
    (∃ (s : State) (d : Nat) (x : Desc), Runs s d 0x14 x) :=
  ⟨⟨{ withDesc 3 wFolio with regs := [(F_TOP_HOT_FOLIOS_COUNT.key 0, 4), (F_HP_STATUS_RATE.key 0, 5)], ir := { fns := [(0, { bme := true })] } }, 3, wFolio, by decide +kernel⟩,
    ⟨{ withDesc 3 wFolio with regs := [(F_TOP_HOT_FOLIOS_COUNT.key 0, 1)], ir := { fns := [(0, { bme := true })] } }, 3, wFolio, by decide +kernel⟩,
    ⟨withMap (withDesc 3 wFree), 3, wFree, by decide +kernel⟩,
    ⟨withMap (withDesc 3 wUnmap), 3, wUnmap, by decide +kernel⟩,
    ⟨{ withMap (withDesc 3 wSync) with ir := { fns := [(0, { bme := true })] } }, 3, [], wSync, by decide +kernel⟩,
    ⟨{ withMap (withDesc 3 wSync) with regs := [(F_TOP_HOT_FOLIOS_COUNT.key 0, 100)], ir := { fns := [(0, { bme := true })] } }, 3, [8, 0, 0, 0, 1, 0, 0, 0x80], wSync, by decide +kernel⟩,
    ⟨{ withMap (withDesc 3 wVerify) with ir := { fns := [(0, { bme := true })] } }, 3, wVerify, by decide +kernel⟩,
    ⟨withMap (withDesc 3 wHint), 3, wHint, by decide +kernel⟩⟩

theorem test_meets_folio_commands_complete_2 :
    (∃ (s : State) (d : Nat) (x : Desc), Runs s d 0x15 x ∧ s.inWindow x.e.tenant = false) :=
  ⟨withMap (withDesc 3 wPin), 3, wPin, by decide +kernel⟩

theorem test_meets_revocation_proceeds_1 :
    (∃ (s : State) (n : Nat) (d : Nat) (x : Desc), s.nextRevoke n = some d ∧ s.desc? d = some x ∧ x.e.tenant = n ∧ s.fld F_TN_MAP_EPOCH_DRAINING n = 0 ∧ s.inWindow n = false) ∧
    (∃ (s : State) (n : Nat) (d : Nat) (x : Desc), s.nextRevoke n = some d ∧ s.desc? d = some x ∧ x.e.tenant = n ∧ s.fld F_TN_MAP_EPOCH_DRAINING n = 0 ∧ s.inWindow n = false) ∧
    (∃ (s : State) (n : Nat) (d : Nat) (x : Desc), s.fld F_TN_MAP_EPOCH_DRAINING n = 1 ∧ s.drainLeft n = 0 ∧ (s.revokes n).running = some d ∧ s.desc? d = some x ∧ x.stage = .wait .drain) ∧
    (∃ (s : State) (n : Nat), s.fld F_TN_MAP_EPOCH_DRAINING n = 1 ∧ s.drainLeft n = 0 ∧ (s.revokes n).running = none) ∧
    (∃ (s : State) (n : Nat), (s.owner n).st = .releasing ∧ s.catalogued n = false ∧ s.carried n = false) ∧
    (∃ (s : State) (n : Nat), s.ck.power = 0 ∧ s.zeroHead (decide (n < warmBase)) = some n) ∧
    (∃ (s : State) (n : Nat) (d : Nat) (x : Desc), s.q.descs.find? (fun p => p.2.stage == .wait .window && p.2.e.tenant == n) = some (d, x) ∧ s.desc? d = some x ∧ x.e.opcode ≠ 0x15 ∧ (x.aux = 0 ∨ s.drainLeft n = 0) ∧ s.fld F_TN_MAP_EPOCH_DRAINING n = 0 ∧ s.windowHeld n = []) ∧
    (∃ (s : State) (n : Nat) (d : Nat) (x : Desc), s.q.descs.find? (fun p => p.2.stage == .wait .window && p.2.e.tenant == n) = some (d, x) ∧ s.desc? d = some x ∧ x.aux = 1 ∧ s.drainLeft n ≠ 0 ∧ s.windowHeld n = []) :=
  ⟨⟨withDesc 3 { wUnmap with stage := .wait .turn }, 5, 3, { wUnmap with stage := .wait .turn }, by decide +kernel⟩,
    ⟨withMap (withDesc 3 { wFree with stage := .wait .turn }), 5, 3, { wFree with stage := .wait .turn }, by decide +kernel⟩,
    ⟨{ withDesc 3 { wUnmap with stage := .wait .drain } with regs := [(F_TN_MAP_EPOCH_DRAINING.key 5, 1)], map := { revokes := [(5, { running := some 3 })] } }, 5, 3, { wUnmap with stage := .wait .drain }, by decide +kernel⟩,
    ⟨{ ({} : State) with regs := [(F_TN_MAP_EPOCH_DRAINING.key 5, 1)] }, 5, by decide +kernel⟩,
    ⟨{ ({} : State) with map := { owner := [(7, { st := .releasing, tenant := 5 })] } }, 7, by decide +kernel⟩,
    ⟨{ ({} : State) with map := { zeroing := [(7, 1)] }, mem := [(458752, 3), (524288, 4)] }, 7, by decide +kernel⟩,
    ⟨{ withDesc 3 { wUnmap with stage := .wait .window } with regs := [(F_TN_MAP_EPOCH_WINDOW.key 5, 1)] }, 5, 3, { wUnmap with stage := .wait .window }, by decide +kernel⟩,
    ⟨{ ({} : State) with q := { descs := [(2, { wWrite with epoch := some 65535 }), (3, { wUnmap with stage := .wait .window, aux := 1 })] }, regs := [(F_TN_MAP_EPOCH_WINDOW.key 5, 1)] }, 5, 3, { wUnmap with stage := .wait .window, aux := 1 }, by decide +kernel⟩⟩

theorem test_meets_revocation_proceeds_2 :
    (∃ (s : State) (n : Nat) (d : Nat) (x : Desc), s.q.descs.find? (fun p => p.2.stage == .wait .window && p.2.e.tenant == n) = some (d, x) ∧ s.desc? d = some x ∧ x.e.opcode = 0x15 ∧ x.aux = 0 ∧ s.fld F_TN_MAP_EPOCH_DRAINING n = 0 ∧ s.windowHeld n = []) :=
  ⟨{ withDesc 3 { wPin with stage := .wait .window } with regs := [(F_TN_MAP_EPOCH_WINDOW.key 5, 1)] }, 5, 3, { wPin with stage := .wait .window }, by decide +kernel⟩

theorem test_meets_data_commands_complete_1 :
    (∃ (s : State) (d : Nat) (x : Desc), Runs s d 0x20 x ∧ s.noHost x.q = false ∧ s.mergeWaits x.e.tenant (pieces x.dst x.e.opA x.e.len) = false ∧ s.outOfTurn x.e.tenant [] (pieces x.dst x.e.opA x.e.len) = false ∧ (∀ p ∈ pieces x.dst x.e.opA x.e.len, p.sec / 256 ∈ x.dst)) ∧
    (∃ (s : State) (d : Nat) (x : Desc), Runs s d 0x20 x ∧ s.noHost x.q = false ∧ s.mergeWaits x.e.tenant (pieces x.dst x.e.opA x.e.len) = false ∧ s.outOfTurn x.e.tenant [] (pieces x.dst x.e.opA x.e.len) = false ∧ (∀ p ∈ pieces x.dst x.e.opA x.e.len, p.sec / 256 ∈ x.dst)) ∧
    (∃ (s : State) (d : Nat) (x : Desc), Runs s d 0x21 x ∧ s.readWaits x.e.tenant (pieces x.src x.e.opA x.e.len) = false ∧ s.outOfTurn x.e.tenant (pieces x.src x.e.opA x.e.len) [] = false ∧ ((s.turned x (pieces x.src x.e.opA x.e.len) []).readOf x x.e.opA).2.status = .ok ∧ (s.queue x.q).isLink = false ∧ s.noHost x.q = false ∧ s.hostFault = none) ∧
    (∃ (s : State) (d : Nat) (x : Desc), Runs s d 0x21 x ∧ s.readWaits x.e.tenant (pieces x.src x.e.opA x.e.len) = false ∧ s.outOfTurn x.e.tenant (pieces x.src x.e.opA x.e.len) [] = false ∧ ((s.turned x (pieces x.src x.e.opA x.e.len) []).readOf x x.e.opA).2.status = .ok ∧ (s.queue x.q).isLink = true ∧ s.sessionRetiring (s.queue x.q).origin (s.queue x.q).tenant = false ∧ s.linkReady (s.queue x.q).origin (s.queue x.q).tenant = true ∧ s.dataUnacked (s.queue x.q).origin x.q x.xtag = false) ∧
    (∃ (s : State) (d : Nat) (x : Desc), Runs s d 0x21 x ∧ s.readWaits x.e.tenant (pieces x.src x.e.opA x.e.len) = false ∧ s.outOfTurn x.e.tenant (pieces x.src x.e.opA x.e.len) [] = false ∧ ((s.turned x (pieces x.src x.e.opA x.e.len) []).readOf x x.e.opA).2.status ≠ .ok) ∧
    (∃ (s : State) (d : Nat) (x : Desc), Runs s d 0x22 x ∧ s.readWaits x.e.tenant (pieces x.src x.e.opB x.e.len) = false ∧ s.mergeWaits x.e.tenant (pieces x.dst x.e.opA x.e.len) = false ∧ s.outOfTurn x.e.tenant (pieces x.src x.e.opB x.e.len) (pieces x.dst x.e.opA x.e.len) = false ∧ ((s.turned x (pieces x.src x.e.opB x.e.len) (pieces x.dst x.e.opA x.e.len)).readOf x x.e.opB).2 = {} ∧ (∀ p ∈ pieces x.dst x.e.opA x.e.len, p.sec / 256 ∈ x.dst) ∧ ((((s.turned x (pieces x.src x.e.opB x.e.len) (pieces x.dst x.e.opA x.e.len)).readOf x x.e.opB).1).writePieces x.dmeta {} x.who (((s.turned x (pieces x.src x.e.opB x.e.len) (pieces x.dst x.e.opA x.e.len)).readOf x x.e.opB).1.readRuns x.src x.e.opB 0 x.e.len) (pieces x.dst x.e.opA x.e.len) {}).2 = {}) ∧
    (∃ (s : State) (d : Nat) (x : Desc), Runs s d 0x22 x ∧ s.readWaits x.e.tenant (pieces x.src x.e.opB x.e.len) = false ∧ s.mergeWaits x.e.tenant (pieces x.dst x.e.opA x.e.len) = false ∧ s.outOfTurn x.e.tenant (pieces x.src x.e.opB x.e.len) (pieces x.dst x.e.opA x.e.len) = false ∧ (∀ p ∈ pieces x.dst x.e.opA x.e.len, p.sec / 256 ∈ x.dst) ∧ (∀ p ∈ pieces x.src x.e.opB x.e.len, p.sec / 256 ∈ x.src)) ∧
    (∃ (s : State) (d : Nat) (x : Desc), Runs s d 0x20 x ∧ (s.mergeWaits x.e.tenant (pieces x.dst x.e.opA x.e.len) = true ∨ s.outOfTurn x.e.tenant [] (pieces x.dst x.e.opA x.e.len) = true)) :=
  ⟨⟨{ withDesc 3 wWrite with ir := { fns := [(0, { bme := true })] } }, 3, wWrite, by decide +kernel⟩,
    ⟨{ withDesc 3 { wWrite with q := 20, data := [1, 2, 3], bad := [(1, 1)] } with q := { (withDesc 3 { wWrite with q := 20, data := [1, 2, 3], bad := [(1, 1)] }).q with tab := [(20, { tenant := 5, origin := 2 })] } }, 3, { wWrite with q := 20, data := [1, 2, 3], bad := [(1, 1)] }, by decide +kernel⟩,
    ⟨{ withDesc 3 wRead with regs := [(F_HP_STATUS_RATE.key 0, 5)], ir := { fns := [(0, { bme := true })] } }, 3, wRead, by decide +kernel⟩,
    ⟨{ ({} : State) with q := { tab := [(20, { tenant := 5, origin := 2, st := .active })], descs := [(3, { wRead with q := 20 })] }, lk := { links := [(2, { st := .active, sessions := [(1, { bound := true, isOpen := true, tenant := 5 })] })] } }, 3, { wRead with q := 20 }, by decide +kernel⟩,
    ⟨{ withDesc 3 wRead with poison := [1792] }, 3, wRead, by decide +kernel⟩,
    ⟨withDesc 3 wCopy, 3, wCopy, by decide +kernel⟩,
    ⟨{ withDesc 3 wCopy with poison := [2048] }, 3, wCopy, by decide +kernel⟩,
    ⟨{ withDesc 3 wWrite with regs := [(F_HB_STATUS_SET.key 0, 15)], mc := { units := [(16, { selfRef := true })] } }, 3, wWrite, by decide +kernel⟩⟩

theorem test_meets_data_commands_complete_2 :
    (∃ (s : State) (d : Nat) (x : Desc), Runs s d 0x21 x ∧ (s.readWaits x.e.tenant (pieces x.src x.e.opA x.e.len) = true ∨ s.outOfTurn x.e.tenant (pieces x.src x.e.opA x.e.len) [] = true)) ∧
    (∃ (s : State) (d : Nat) (x : Desc), Runs s d 0x22 x ∧ (s.readWaits x.e.tenant (pieces x.src x.e.opB x.e.len) = true ∨ s.mergeWaits x.e.tenant (pieces x.dst x.e.opA x.e.len) = true ∨ s.outOfTurn x.e.tenant (pieces x.src x.e.opB x.e.len) (pieces x.dst x.e.opA x.e.len) = true)) :=
  ⟨⟨{ withDesc 3 wRead with regs := [(F_HB_STATUS_SET.key 0, 15)], mc := { units := [(16, { selfRef := true })] } }, 3, wRead, by decide +kernel⟩,
    ⟨{ withDesc 3 wCopy with regs := [(F_HB_STATUS_SET.key 0, 15)], mc := { units := [(16, { selfRef := true })] } }, 3, wCopy, by decide +kernel⟩⟩

theorem test_meets_fence_commands_complete_1 :
    (∃ (s : State) (d : Nat) (x : Desc), Runs s d 0x01 x ∧ (s.fence (bits x.e.opA 0 12)).value ≠ fenceMax) ∧
    (∃ (s : State) (d : Nat) (x : Desc), Runs s d 0x01 x ∧ (s.fence (bits x.e.opA 0 12)).value ≠ fenceMax) ∧
    (∃ (s : State) (d : Nat) (x : Desc), Runs s d 0x01 x ∧ (s.fence (bits x.e.opA 0 12)).value = fenceMax) ∧
    (∃ (s : State) (d : Nat) (x : Desc), Runs s d 0x02 x ∧ (s.fence (bits x.e.opA 0 12)).poison = false ∧ x.e.opB ≤ (s.fence (bits x.e.opA 0 12)).value) ∧
    (∃ (s : State) (d : Nat) (x : Desc), Runs s d 0x02 x ∧ (s.fence (bits x.e.opA 0 12)).poison = true) ∧
    (∃ (s : State) (d : Nat) (x : Desc), Runs s d 0x02 x ∧ (s.fence (bits x.e.opA 0 12)).poison = false ∧ (s.fence (bits x.e.opA 0 12)).value < x.e.opB) ∧
    (∃ (s : State) (d : Nat) (x : Desc), Waits s d .fence x ∧ x.ownWait = false ∧ (s.fence x.e.waitId).poison = false ∧ waitMet (s.fence x.e.waitId) x.e.waitVal = true ∧ (x.e.pulls && (s.queue x.q).isLink) = false) ∧
    (∃ (s : State) (d : Nat) (x : Desc), Waits s d .fence x ∧ x.ownWait = false ∧ (s.fence x.e.waitId).poison = false ∧ waitMet (s.fence x.e.waitId) x.e.waitVal = true ∧ x.e.pulls = true ∧ (s.queue x.q).isLink = true ∧ s.sessionRetiring (s.queue x.q).origin (s.queue x.q).tenant = false ∧ s.linkReady (s.queue x.q).origin (s.queue x.q).tenant = true ∧ (s.link (s.queue x.q).origin).pulls.any (fun r => r.queue == x.q && r.xtag == x.xtag) = false) :=
  ⟨⟨withDesc 3 (cmd 0x01 20 7 0), 3, cmd 0x01 20 7 0, by decide +kernel⟩,
    ⟨{ withDesc 3 (cmd 0x01 20 7 0 0 1) with fn := { fences := [(20, { value := 5, bound := true })] } }, 3, cmd 0x01 20 7 0 0 1, by decide +kernel⟩,
    ⟨{ withDesc 3 (cmd 0x01 20 7 0) with fn := { fences := [(20, { value := fenceMax })] } }, 3, cmd 0x01 20 7 0, by decide +kernel⟩,
    ⟨withDesc 3 (cmd 0x02 20 0 0), 3, cmd 0x02 20 0 0, by decide +kernel⟩,
    ⟨{ withDesc 3 (cmd 0x02 20 0 0) with fn := { fences := [(20, { poison := true })] } }, 3, cmd 0x02 20 0 0, by decide +kernel⟩,
    ⟨withDesc 3 (cmd 0x02 20 1 0), 3, cmd 0x02 20 1 0, by decide +kernel⟩,
    ⟨withDesc 3 { cmd 0 0 0 0 with stage := .wait .fence }, 3, { cmd 0 0 0 0 with stage := .wait .fence }, by decide +kernel⟩,
    ⟨{ ({} : State) with q := { tab := [(20, { tenant := 5, origin := 2, st := .active })], descs := [(3, { cmd 0x20 0 0 4 with q := 20, stage := .wait .fence })] }, lk := { links := [(2, { st := .active, sessions := [(1, { bound := true, isOpen := true, tenant := 5 })] })] } }, 3, { cmd 0x20 0 0 4 with q := 20, stage := .wait .fence }, by decide +kernel⟩⟩

theorem test_meets_fence_commands_complete_2 :
    (∃ (s : State) (d : Nat) (x : Desc), Waits s d .fence x ∧ x.ownWait = true ∧ (s.fence x.awaits).poison = false ∧ x.e.opB ≤ (s.fence x.awaits).value) ∧
    (∃ (s : State) (d : Nat) (x : Desc), Waits s d .fence x ∧ (s.fence x.awaits).poison = true) ∧
    (∃ (s : State) (d : Nat) (x : Desc), s.desc? d = some x ∧ s.poisonable x = true ∧ x.stage ≠ .done) ∧
    (∃ (s : State) (d : Nat) (x : Desc), Runs s d 0x03 x ∧ x.e.flag 8 = false ∧ x.e.flag 9 = false ∧ s.oldWaiters (bits x.e.opA 0 12) = 0) ∧
    (∃ (s : State) (d : Nat) (x : Desc), Runs s d 0x03 x ∧ x.e.flag 8 = false ∧ x.e.flag 9 = false ∧ s.oldWaiters (bits x.e.opA 0 12) ≠ 0) ∧
    (∃ (s : State) (d : Nat) (x : Desc), Runs s d 0x03 x ∧ x.e.flag 8 = false ∧ x.e.flag 9 = false ∧ s.oldWaiters (bits x.e.opA 0 12) ≠ 0) ∧
    (∃ (s : State) (d : Nat) (x : Desc), Runs s d 0x03 x ∧ x.e.flag 9 = true ∧ s.oldWaiters (bits x.e.opA 0 12) = 0) ∧
    (∃ (s : State) (d : Nat) (x : Desc), Runs s d 0x03 x ∧ x.e.flag 9 = true ∧ s.oldWaiters (bits x.e.opA 0 12) ≠ 0) :=
  ⟨⟨withDesc 3 { cmd 0x02 20 0 0 with stage := .wait .fence, aux := 1 }, 3, { cmd 0x02 20 0 0 with stage := .wait .fence, aux := 1 }, by decide +kernel⟩,
    ⟨{ withDesc 3 { cmd 0 0 0 0 with stage := .wait .fence } with fn := { fences := [(0, { poison := true })] } }, 3, { cmd 0 0 0 0 with stage := .wait .fence }, by decide +kernel⟩,
    ⟨{ withDesc 3 { cmd 0x20 0 0 3 with met := some (0, 20) } with fn := { fences := [(20, { poison := true })] } }, 3, { cmd 0x20 0 0 3 with met := some (0, 20) }, by decide +kernel⟩,
    ⟨withDesc 3 (cmd 0x03 20 0 0), 3, cmd 0x03 20 0 0, by decide +kernel⟩,
    ⟨{ ({} : State) with q := { descs := [(3, cmd 0x03 20 0 0), (4, { cmd 0x02 20 0 0 with stage := .wait .fence, aux := 1 })] }, now := 9 }, 3, cmd 0x03 20 0 0, by decide +kernel⟩,
    ⟨{ ({} : State) with q := { descs := [(3, cmd 0x03 20 0 0 0 8), (4, { cmd 0x02 20 0 0 with stage := .wait .fence, aux := 1 })] }, now := 9 }, 3, cmd 0x03 20 0 0 0 8, by decide +kernel⟩,
    ⟨withDesc 3 (cmd 0x03 20 0 0 0 2), 3, cmd 0x03 20 0 0 0 2, by decide +kernel⟩,
    ⟨{ ({} : State) with q := { descs := [(3, cmd 0x03 20 0 0 0 2), (4, { cmd 0x02 20 0 0 with stage := .wait .fence, aux := 1 })] }, now := 9 }, 3, cmd 0x03 20 0 0 0 2, by decide +kernel⟩⟩

theorem test_meets_fence_commands_complete_3 :
    (∃ (s : State) (d : Nat) (x : Desc), Runs s d 0x03 x ∧ x.e.flag 8 = true ∧ (s.fence (bits x.e.opA 0 12)).bound = false) ∧
    (∃ (s : State) (d : Nat) (x : Desc), Runs s d 0x03 x ∧ x.e.flag 8 = true ∧ (s.fence (bits x.e.opA 0 12)).bound = true) ∧
    (∃ (s : State) (d : Nat) (x : Desc), Waits s d .fenceIdle x ∧ s.oldWaiters (bits x.e.opA 0 12) = 0) ∧
    (∃ (s : State) (d : Nat) (x : Desc), Waits s d .fenceIdle x ∧ s.waitedOut x (s.budget x.e) = true ∧ s.oldWaiters (bits x.e.opA 0 12) ≠ 0) ∧
    (∃ (s : State) (d : Nat) (x : Desc), Waits s d .fenceIdle x ∧ s.waitedOut x (s.budget x.e) = true ∧ s.oldWaiters (bits x.e.opA 0 12) = 0) ∧
    (∃ (s : State) (d : Nat) (x : Desc), Runs s d 0x04 x ∧ x.e.flag 8 = false) ∧
    (∃ (s : State) (d : Nat) (x : Desc), Runs s d 0x04 x ∧ x.e.flag 8 = true) :=
  ⟨⟨withDesc 3 (cmd 0x03 20 0 0 0 1), 3, cmd 0x03 20 0 0 0 1, by decide +kernel⟩,
    ⟨{ withDesc 3 (cmd 0x03 20 0 0 0 1) with fn := { fences := [(20, { bound := true, tenant := 5 })] } }, 3, cmd 0x03 20 0 0 0 1, by decide +kernel⟩,
    ⟨withDesc 3 { cmd 0x03 20 0 0 with stage := .wait .fenceIdle }, 3, { cmd 0x03 20 0 0 with stage := .wait .fenceIdle }, by decide +kernel⟩,
    ⟨{ ({} : State) with q := { descs := [(3, { cmd 0x03 20 0 0 0 8 with stage := .wait .fenceIdle }), (4, { cmd 0x02 20 0 0 with stage := .wait .fence, aux := 1 })] }, now := 9 }, 3, { cmd 0x03 20 0 0 0 8 with stage := .wait .fenceIdle }, by decide +kernel⟩,
    ⟨withDesc 3 { cmd 0x03 20 0 0 0 8 with stage := .wait .fenceIdle }, 3, { cmd 0x03 20 0 0 0 8 with stage := .wait .fenceIdle }, by decide +kernel⟩,
    ⟨withDesc 3 (cmd 0x04 20 0 0), 3, cmd 0x04 20 0 0, by decide +kernel⟩,
    ⟨{ withDesc 3 (cmd 0x04 0 0 0 0 1) with fn := { fences := [(20, { bound := true, tenant := 5 })] } }, 3, cmd 0x04 0 0 0 0 1, by decide +kernel⟩⟩

theorem test_meets_stream_commands_complete_1 :
    (∃ (s : State) (d : Nat) (x : Desc) (i : Nat), Runs s d 0x60 x ∧ s.freshStream = some i ∧ (s.streamsOf x.e.tenant).length < s.fld F_TN_T_STREAMS_QUOTA x.e.tenant ∧ s.refsHeld x.e.tenant (blkHandles x.blk) = true ∧ s.grantsFit (Layout.ofBytes (blkSlot x.blk 0)).layers 0 (s.segTokens (blkHandles x.blk) / max 1 (Layout.ofBytes (blkSlot x.blk 0)).tpf + blkGrants x.blk) = true) ∧
    (∃ (s : State) (d : Nat) (x : Desc), Runs s d 0x60 x ∧ (s.freshStream = none ∨ s.fld F_TN_T_STREAMS_QUOTA x.e.tenant ≤ (s.streamsOf x.e.tenant).length)) ∧
    (∃ (s : State) (d : Nat) (x : Desc), Runs s d 0x61 x ∧ x.e.flag 9 = false ∧ (∀ r ∈ x.list, s.refHere r = true ∧ (s.stream (refId r)).st = .closing ∧ (s.stream (refId r)).closer = some x.seq ∧ s.streamDescs (refId r) = [] ∧ (s.stage d (.wait .others)).closeDue (s.stream (refId r)) = false) ∧ (x.list.map refId).Nodup) ∧
    (∃ (s : State) (d : Nat) (x : Desc), Runs s d 0x61 x ∧ x.e.flag 9 = false ∧ (∀ r ∈ x.list, s.refHere r = true ∧ (s.stream (refId r)).st = .closing ∧ (s.stream (refId r)).closer = some x.seq ∧ s.streamDescs (refId r) = [] ∧ (s.stage d (.wait .others)).closeDue (s.stream (refId r)) = false) ∧ (x.list.map refId).Nodup) ∧
    (∃ (s : State) (d : Nat) (x : Desc) (r : Nat), Runs s d 0x61 x ∧ x.e.flag 9 = false ∧ x.list = [r] ∧ s.refHere r = true ∧ (s.stream (refId r)).st = .closing ∧ (s.stream (refId r)).closer = some x.seq ∧ s.streamDescs (refId r) ≠ []) ∧
    (∃ (s : State) (d : Nat) (x : Desc), Runs s d 0x61 x ∧ x.e.flag 9 = true ∧ s.pl.running ≠ some d ∧ (∀ r ∈ x.list, s.refHere r = true ∧ (s.stream (refId r)).st = .closing ∧ (s.stream (refId r)).closer = some x.seq ∧ s.streamDescs (refId r) = [] ∧ (s.stage d (.wait .others)).closeDue (s.stream (refId r)) = false) ∧ (x.list.map refId).Nodup) ∧
    (∃ (s : State) (d : Nat) (x : Desc) (r : Nat), Runs s d 0x61 x ∧ x.e.flag 9 = true ∧ x.list = [r] ∧ s.refHere r = true ∧ (s.stream (refId r)).st = .closing ∧ (s.stream (refId r)).closer = some x.seq ∧ s.streamDescs (refId r) ≠ []) ∧
    (∃ (s : State) (i : Nat), (s.stream i).st = .closing ∧ s.streamDescs i = [] ∧ s.descsWhere (fun x => x.e.opcode == 0x61) = []) :=
  ⟨⟨{ withDesc 3 (cmd 0x60 0 0 0) with regs := [(F_TN_T_STREAMS_QUOTA.key 5, 4)] }, 3, cmd 0x60 0 0 0, 0, by decide +kernel⟩,
    ⟨withDesc 3 (cmd 0x60 0 0 0), 3, cmd 0x60 0 0 0, by decide +kernel⟩,
    ⟨{ withDesc 3 { cmd 0x61 9 0 0 with list := [9 + 4096], seq := 7 } with fn := { streams := [(9, { st := .closing, tenant := 5, closer := some 7 })] } }, 3, { cmd 0x61 9 0 0 with list := [9 + 4096], seq := 7 }, by decide +kernel⟩,
    ⟨{ withDesc 3 { cmd 0x61 9 0 0 with list := [9, 4095], seq := 7 } with fn := { streams := [(9, { st := .closing, tenant := 5, closer := some 7 }), (4095, { st := .closing, tenant := 5, closer := some 7 })] } }, 3, { cmd 0x61 9 0 0 with list := [9, 4095], seq := 7 }, by decide +kernel⟩,
    ⟨{ ({} : State) with q := { descs := [(3, { cmd 0x61 9 0 0 with list := [9], seq := 7 }), (4, { cmd 0x24 9 0 0 with strm := some 9, stage := .wait .watermark })] }, fn := { streams := [(9, { st := .closing, tenant := 5, closer := some 7 })] } }, 3, { cmd 0x61 9 0 0 with list := [9], seq := 7 }, 9, by decide +kernel⟩,
    ⟨{ withDesc 3 { cmd 0x61 9 0 0 0 2 with list := [9], seq := 7 } with fn := { streams := [(9, { st := .closing, tenant := 5, closer := some 7 })] } }, 3, { cmd 0x61 9 0 0 0 2 with list := [9], seq := 7 }, by decide +kernel⟩,
    ⟨{ ({} : State) with q := { descs := [(3, { cmd 0x61 9 0 0 0 2 with list := [9], seq := 7 }), (4, { cmd 0x24 9 0 0 with strm := some 9, stage := .wait .watermark }), (5, { cmd 0x23 9 0 0 with strm := some 9, stage := .exec })] }, fn := { streams := [(9, { st := .closing, tenant := 5, closer := some 7 })] } }, 3, { cmd 0x61 9 0 0 0 2 with list := [9], seq := 7 }, 9, by decide +kernel⟩,
    ⟨{ ({} : State) with fn := { streams := [(9, { st := .closing, tenant := 5 })] } }, 9, by decide +kernel⟩⟩

theorem test_meets_stream_commands_complete_2 :
    (∃ (s : State) (i : Nat) (d : Nat) (x : Desc), (s.stream i).st = .closing ∧ s.streamDescs i = [] ∧ s.descsWhere (fun x => x.e.opcode == 0x61) = [d] ∧ Waits s d .others x ∧ x.e.opcode = 0x61 ∧ (∀ r ∈ x.list, refId r = i)) ∧
    (∃ (s : State) (d : Nat) (x : Desc) (i : Nat), Runs s d 0x25 x ∧ x.strm = some i ∧ (x.e.through < (s.stream i).cTok ∨ s.wmMet x = true) ∧ s.commitsUpTo d = [d]) ∧
    (∃ (s : State) (d : Nat) (x : Desc) (i : Nat), Runs s d 0x25 x ∧ x.strm = some i ∧ (x.e.through < (s.stream i).cTok ∨ s.wmMet x = true) ∧ s.commitsUpTo d = [d]) ∧
    (∃ (s : State) (d : Nat) (x : Desc) (i : Nat), Runs s d 0x25 x ∧ x.strm = some i ∧ (x.e.through < (s.stream i).cTok ∨ s.wmMet x = true)) ∧
    (∃ (s : State) (d : Nat) (x : Desc) (i : Nat), Runs s d 0x25 x ∧ x.strm = some i ∧ (s.stream i).cTok ≤ x.e.through ∧ s.wmMet x = false) ∧
    (∃ (s : State) (d : Nat) (x : Desc), Waits s d .watermark x ∧ x.e.opcode ≠ 0x25 ∧ s.wmMet x = true) ∧
    (∃ (s : State) (d : Nat) (x : Desc), Waits s d .watermark x ∧ x.e.opcode ≠ 0x25 ∧ s.wmMet x = true) ∧
    (∃ (s : State) (d : Nat) (x : Desc) (i : Nat), Waits s d .watermark x ∧ x.e.opcode = 0x25 ∧ x.strm = some i ∧ s.wmMet x = true) :=
  ⟨⟨{ withDesc 3 { cmd 0x61 9 0 0 0 2 with list := [9], seq := 7, stage := .wait .others } with fn := { streams := [(9, { st := .closing, tenant := 5, closer := some 7 })] } }, 9, 3, { cmd 0x61 9 0 0 0 2 with list := [9], seq := 7, stage := .wait .others }, by decide +kernel⟩,
    ⟨{ withDesc 3 { cmd 0x25 9 0 0 4 with strm := some 9 } with fn := { streams := [(9, { st := .active, tenant := 5, layers := [{ wm := 8 }] })] } }, 3, { cmd 0x25 9 0 0 4 with strm := some 9 }, 9, by decide +kernel⟩,
    ⟨{ withDesc 3 { cmd 0x25 9 0 0 4 with strm := some 9 } with fn := { streams := [(9, { st := .active, tenant := 5, cTok := 5, layers := [{ wm := 3 }] })] } }, 3, { cmd 0x25 9 0 0 4 with strm := some 9 }, 9, by decide +kernel⟩,
    ⟨{ ({} : State) with q := { descs := [(3, { cmd 0x25 9 0 0 4 with strm := some 9, seq := 8 }), (4, { cmd 0x25 9 0 0 3 with strm := some 9, stage := .wait .watermark, seq := 7 })] }, fn := { streams := [(9, { st := .active, tenant := 5, layers := [{ wm := 8 }] })] } }, 3, { cmd 0x25 9 0 0 4 with strm := some 9, seq := 8 }, 9, by decide +kernel⟩,
    ⟨{ withDesc 3 { cmd 0x25 9 0 0 4 with strm := some 9 } with fn := { streams := [(9, { st := .active, tenant := 5, layers := [{ wm := 3 }] })] } }, 3, { cmd 0x25 9 0 0 4 with strm := some 9 }, 9, by decide +kernel⟩,
    ⟨{ withDesc 3 { cmd 0x24 9 0 0 4 with strm := some 9, stage := .wait .watermark } with fn := { streams := [(9, { st := .active, tenant := 5, layers := [{ wm := 8 }] })] } }, 3, { cmd 0x24 9 0 0 4 with strm := some 9, stage := .wait .watermark }, by decide +kernel⟩,
    ⟨{ withDesc 3 { cmd 0x40 9 0 0 4 with strm := some 9, stage := .wait .watermark } with fn := { streams := [(9, { st := .active, tenant := 5, layers := [{ wm := 8 }] })] } }, 3, { cmd 0x40 9 0 0 4 with strm := some 9, stage := .wait .watermark }, by decide +kernel⟩,
    ⟨{ ({} : State) with q := { descs := [(3, { cmd 0x25 9 0 0 4 with strm := some 9, stage := .wait .watermark, seq := 8 }), (4, { cmd 0x25 9 0 0 3 with strm := some 9, stage := .wait .watermark, seq := 7 })] }, fn := { streams := [(9, { st := .active, tenant := 5, layers := [{ wm := 8 }] })] } }, 3, { cmd 0x25 9 0 0 4 with strm := some 9, stage := .wait .watermark, seq := 8 }, 9, by decide +kernel⟩⟩

theorem test_meets_stream_commands_complete_3 :
    (∃ (s : State) (d : Nat) (x : Desc), Waits s d .watermark x ∧ s.waitedOut x (s.budget x.e) = true ∧ s.wmMet x = false) ∧
    (∃ (s : State) (d : Nat) (x : Desc), Waits s d .watermark x ∧ s.waitedOut x (s.budget x.e) = true ∧ x.e.opcode ≠ 0x25 ∧ s.wmMet x = true) ∧
    (∃ (s : State) (d : Nat) (x : Desc) (i : Nat), Runs s d 0x62 x ∧ x.strm = some i ∧ ((s.stream i).st = .active ∨ (s.stream i).st = .suspending) ∧ (s.streamDescs i).filter (fun k => k != d) = [] ∧ s.wmWaiters i = []) ∧
    (∃ (s : State) (d : Nat) (x : Desc) (i : Nat), Runs s d 0x62 x ∧ x.strm = some i ∧ ((s.stream i).st = .active ∨ (s.stream i).st = .suspending) ∧ (s.streamDescs i).filter (fun k => k != d) ≠ [] ∧ (∀ k ∈ s.wmWaiters i, k ≠ d ∧ (s.desc k).e.opcode ≠ 0x62)) ∧
    (∃ (s : State) (d : Nat) (x : Desc) (i : Nat), Waits s d .copies x ∧ x.e.opcode = 0x62 ∧ x.strm = some i ∧ (s.stream i).st ≠ .closing ∧ s.readWaits x.e.tenant (wholeFolios x.src) = false ∧ s.mergeWaits x.e.tenant (wholeFolios x.dst) = false ∧ s.outOfTurn x.e.tenant (wholeFolios x.src) (wholeFolios x.dst) = false ∧ ((s.turned x (wholeFolios x.src) (wholeFolios x.dst)).copyFolios x.who ((x.src.zip x.smeta).zip (x.dst.zip x.dmeta)).length ((x.src.zip x.smeta).zip (x.dst.zip x.dmeta)) 0).2.2 = .ok) ∧
    (∃ (s : State) (d : Nat) (x : Desc) (i : Nat), Waits s d .copies x ∧ x.e.opcode = 0x62 ∧ x.strm = some i ∧ (s.stream i).st ≠ .closing ∧ s.readWaits x.e.tenant (wholeFolios x.src) = false ∧ s.mergeWaits x.e.tenant (wholeFolios x.dst) = false ∧ s.outOfTurn x.e.tenant (wholeFolios x.src) (wholeFolios x.dst) = false ∧ ((s.turned x (wholeFolios x.src) (wholeFolios x.dst)).copyFolios x.who ((x.src.zip x.smeta).zip (x.dst.zip x.dmeta)).length ((x.src.zip x.smeta).zip (x.dst.zip x.dmeta)) 0).2.2 = .ok) ∧
    (∃ (s : State) (d : Nat) (x : Desc) (i : Nat), Waits s d .copies x ∧ x.e.opcode = 0x62 ∧ x.strm = some i ∧ (s.stream i).st ≠ .closing ∧ s.readWaits x.e.tenant (wholeFolios x.src) = false ∧ s.mergeWaits x.e.tenant (wholeFolios x.dst) = false ∧ s.outOfTurn x.e.tenant (wholeFolios x.src) (wholeFolios x.dst) = false ∧ ((s.turned x (wholeFolios x.src) (wholeFolios x.dst)).copyFolios x.who ((x.src.zip x.smeta).zip (x.dst.zip x.dmeta)).length ((x.src.zip x.smeta).zip (x.dst.zip x.dmeta)) 0).2.2 ≠ .ok) ∧
    (∃ (s : State) (d : Nat) (x : Desc) (i : Nat), Runs s d 0x63 x ∧ x.e.flag 9 = false ∧ x.strm = some i ∧ ((s.stream i).st = .suspended ∨ (s.stream i).st = .resuming) ∧ s.segTokens (blkHandles x.blk) = (s.stream i).pfx ∧ (blkHandles x.blk).all (s.segFits (s.stream i).layout) = true ∧ s.refsHeld x.e.tenant (blkHandles x.blk) = true ∧ s.grantsFit (s.stream i).layers.length (s.stream i).listLen ((s.stream i).pfx / max 1 (s.stream i).layout.tpf + blkGrants x.blk) = true) :=
  ⟨⟨{ withDesc 3 { cmd 0x24 9 0 0 4 8 with strm := some 9, stage := .wait .watermark } with fn := { streams := [(9, { st := .active, tenant := 5, layers := [{ wm := 3 }] })] } }, 3, { cmd 0x24 9 0 0 4 8 with strm := some 9, stage := .wait .watermark }, by decide +kernel⟩,
    ⟨{ withDesc 3 { cmd 0x24 9 0 0 4 8 with strm := some 9, stage := .wait .watermark } with fn := { streams := [(9, { st := .active, tenant := 5, layers := [{ wm := 8 }] })] } }, 3, { cmd 0x24 9 0 0 4 8 with strm := some 9, stage := .wait .watermark }, by decide +kernel⟩,
    ⟨{ withDesc 3 { cmd 0x62 9 0 0 with strm := some 9 } with fn := { streams := [(9, { st := .suspending, tenant := 5, cTok := 2, layers := [{ wm := 3 }] })] } }, 3, { cmd 0x62 9 0 0 with strm := some 9 }, 9, by decide +kernel⟩,
    ⟨{ ({} : State) with q := { descs := [(3, { cmd 0x62 9 0 0 with strm := some 9 }), (4, { cmd 0x24 9 0 0 with strm := some 9, stage := .wait .watermark })] }, fn := { streams := [(9, { st := .active, tenant := 5, cTok := 2, layers := [{ wm := 3 }] })] } }, 3, { cmd 0x62 9 0 0 with strm := some 9 }, 9, by decide +kernel⟩,
    ⟨{ withDesc 3 { cmd 0x62 9 0 0 with strm := some 9, stage := .wait .copies } with fn := { streams := [(9, { st := .suspending, tenant := 5, cTok := 2, layers := [{ wm := 2 }] })] } }, 3, { cmd 0x62 9 0 0 with strm := some 9, stage := .wait .copies }, 9, by decide +kernel⟩,
    ⟨{ withDesc 3 { cmd 0x62 9 0 0 with strm := some 9, stage := .wait .copies, src := [7], smeta := [0], dst := [8], dmeta := [0], list := [0] } with fn := { streams := [(9, { st := .suspending, tenant := 5, cTok := 2, layers := [{ wm := 2, list := [.grant 1] }] })] } }, 3, { cmd 0x62 9 0 0 with strm := some 9, stage := .wait .copies, src := [7], smeta := [0], dst := [8], dmeta := [0], list := [0] }, 9, by decide +kernel⟩,
    ⟨{ withDesc 3 { cmd 0x62 9 0 0 with strm := some 9, stage := .wait .copies, src := [7], smeta := [0], dst := [8], dmeta := [0], list := [0] } with poison := [1792], fn := { streams := [(9, { st := .suspending, tenant := 5, cTok := 2, layers := [{ wm := 2, list := [.grant 1] }] })] } }, 3, { cmd 0x62 9 0 0 with strm := some 9, stage := .wait .copies, src := [7], smeta := [0], dst := [8], dmeta := [0], list := [0] }, 9, by decide +kernel⟩,
    ⟨{ withDesc 3 { cmd 0x63 9 0 0 with strm := some 9 } with fn := { streams := [(9, { st := .resuming, tenant := 5, cTok := 2, layers := [{ wm := 2 }] })] } }, 3, { cmd 0x63 9 0 0 with strm := some 9 }, 9, by decide +kernel⟩⟩

theorem test_meets_stream_commands_complete_4 :
    (∃ (s : State) (d : Nat) (x : Desc) (i : Nat), Runs s d 0x63 x ∧ x.e.flag 9 = true ∧ x.strm = some i ∧ ((s.stream i).st = .active ∨ (s.stream i).st = .suspending ∨ (s.stream i).st = .closing) ∧ s.grantsFit (s.stream i).layers.length (s.stream i).listLen (blkGrants x.blk) = true) :=
  ⟨{ withDesc 3 { cmd 0x63 9 0 0 0 2 with strm := some 9 } with fn := { streams := [(9, { st := .active, tenant := 5, cTok := 2, layers := [{ wm := 2 }] })] } }, 3, { cmd 0x63 9 0 0 0 2 with strm := some 9 }, 9, by decide +kernel⟩

theorem test_meets_catalog_commands_complete_1 :
    (∃ (s : State) (d : Nat) (b : List Byte) (x : Desc), Runs s d 0x30 x ∧ x.e.flag 8 = true ∧ s.noHost x.q = false ∧ (s.queue x.q).isLink = false ∧ s.hostFault = none ∧ s.domGated 55 = false ∧ s.domFailed 55 = false ∧ s.cn.st = .standalone ∧ s.ct.fwd.any (fun f => f.d == some d) = false ∧ (∀ i, i < x.e.len → leAt b (16 * i) 16 ≠ 0)) ∧
    (∃ (s : State) (d : Nat) (x : Desc), Runs s d 0x30 x ∧ x.e.flag 8 = false ∧ s.readWaits x.e.tenant (pieces x.src x.e.opA (16 * x.e.len)) = false ∧ s.domGated 55 = false ∧ s.domFailed 55 = false ∧ s.cn.st = .standalone ∧ s.ct.fwd.any (fun f => f.d == some d) = false ∧ (s.readAccess x.src (some x.smeta) x.e.opA (16 * x.e.len) {} x.who).2.status = .ok) ∧
    (∃ (s : State) (d : Nat) (x : Desc), s.desc? d = some x ∧ x.e.opcode = 0x30 ∧ x.stage = .exec ∧ x.e.flag 8 = false ∧ x.list.length ≤ ((s.records d).filterMap id).length ∧ s.outWaits x x.e.opB (16 * x.list.length) = false) ∧
    (∃ (s : State) (d : Nat) (b : List Byte) (x : Desc), Runs s d 0x30 x ∧ x.e.flag 8 = true ∧ s.noHost x.q = false ∧ s.domGated 55 = false ∧ s.domFailed 55 = false ∧ (hashesOf b x.e.len).any (· == 0) = true) ∧
    (∃ (s : State) (d : Nat) (x : Desc) (i : Nat), Runs s d 0x31 x ∧ s.domGated 55 = false ∧ s.domFailed 55 = false ∧ s.freshSeg = some i) ∧
    (∃ (s : State) (d : Nat) (x : Desc) (i : Nat) (n : Nat), Waits s d .publish x ∧ x.list = [i, n] ∧ s.q.descs.any (fun p => decide (p.2.seq < n) && p.2.dst.any (inSet (s.seg i).dfns)) = false ∧ s.shardOwner (shardOf (s.seg i).hash) = s.me ∧ (s.indexInsert (s.publishEntry x i)).2 = .done ∧ (s.seg i).dfns.any (fun f => !decide ((s.owner f).st = .releasing)) = true) ∧
    (∃ (s : State) (d : Nat) (x : Desc) (i : Nat) (n : Nat) (h : Nat), Waits s d .publish x ∧ x.list = [i, n] ∧ s.q.descs.any (fun p => decide (p.2.seq < n) && p.2.dst.any (inSet (s.seg i).dfns)) = false ∧ s.shardOwner (shardOf (s.seg i).hash) = s.me ∧ (s.indexInsert (s.publishEntry x i)).2 = .exists_ h) ∧
    (∃ (s : State) (d : Nat) (x : Desc) (i : Nat) (n : Nat), Waits s d .publish x ∧ x.list = [i, n] ∧ s.q.descs.any (fun p => decide (p.2.seq < n) && p.2.dst.any (inSet (s.seg i).dfns)) = false ∧ s.shardOwner (shardOf (s.seg i).hash) = s.me ∧ (s.indexInsert (s.publishEntry x i)).2 = .capacity) :=
  ⟨⟨{ withDesc 3 (cmd 0x30 0 4096 1 0 3) with regs := [(F_HP_STATUS_RATE.key 0, 5)], ir := { fns := [(0, { bme := true })] } }, 3, [1], cmd 0x30 0 4096 1 0 3, by decide +kernel⟩,
    ⟨{ withDesc 3 { cmd 0x30 0 0 1 with src := [7], dst := [8], smeta := [0], dmeta := [0] } with mem := [(458752, 1)] }, 3, { cmd 0x30 0 0 1 with src := [7], dst := [8], smeta := [0], dmeta := [0] }, by decide +kernel⟩,
    ⟨{ withDesc 3 { cmd 0x30 0 0 1 with dst := [8], dmeta := [0], list := [1], stage := .exec } with ct := { lookups := [(3, [some { status := 1 }])] } }, 3, { cmd 0x30 0 0 1 with dst := [8], dmeta := [0], list := [1], stage := .exec }, by decide +kernel⟩,
    ⟨{ withDesc 3 (cmd 0x30 0 4096 1 0 3) with ir := { fns := [(0, { bme := true })] } }, 3, [], cmd 0x30 0 4096 1 0 3, by decide +kernel⟩,
    ⟨withDesc 3 { cmd 0x31 0 0 0 77 with src := [7] }, 3, { cmd 0x31 0 0 0 77 with src := [7] }, 0, by decide +kernel⟩,
    ⟨{ withDesc 3 { cmd 0x31 0 0 0 77 with src := [7], stage := .wait .publish, list := [0, 0] } with ct := { segs := [(0, { live := true, making := true, hash := 77, dfns := [7] })] }, regs := [(F_CT_G_QUOTA_QUOTA.key 0, 10)] }, 3, { cmd 0x31 0 0 0 77 with src := [7], stage := .wait .publish, list := [0, 0] }, 0, 0, by decide +kernel⟩,
    ⟨{ withDesc 3 { cmd 0x31 0 0 0 77 with src := [7], stage := .wait .publish, list := [0, 0] } with ct := { segs := [(0, { live := true, making := true, hash := 77, dfns := [7] })], index := [(5, { hash := 77 })] }, regs := [(F_CT_G_QUOTA_QUOTA.key 0, 10)] }, 3, { cmd 0x31 0 0 0 77 with src := [7], stage := .wait .publish, list := [0, 0] }, 0, 0, 0, by decide +kernel⟩,
    ⟨{ withDesc 3 { cmd 0x31 0 0 0 77 with src := [7], stage := .wait .publish, list := [0, 0] } with ct := { segs := [(0, { live := true, making := true, hash := 77, dfns := [7] })] }, regs := [(F_CT_G_QUOTA_QUOTA.key 0, 0)] }, 3, { cmd 0x31 0 0 0 77 with src := [7], stage := .wait .publish, list := [0, 0] }, 0, 0, by decide +kernel⟩⟩

theorem test_meets_catalog_commands_complete_2 :
    (∃ (s : State) (d : Nat) (x : Desc) (i : Nat) (n : Nat), Waits s d .publish x ∧ x.list = [i, n] ∧ s.q.descs.any (fun p => decide (p.2.seq < n) && p.2.dst.any (inSet (s.seg i).dfns)) = false ∧ s.shardOwner (shardOf (s.seg i).hash) ≠ s.me) ∧
    (∃ (s : State) (d : Nat) (x : Desc) (i : Nat), Runs s d 0x32 x ∧ x.e.flag 8 = false ∧ s.domGated 55 = false ∧ s.domFailed 55 = false ∧ s.handleIdx x.e.opA = some i) ∧
    (∃ (s : State) (d : Nat) (x : Desc), Runs s d 0x32 x ∧ x.e.flag 8 = false ∧ s.domGated 55 = false ∧ s.domFailed 55 = false ∧ s.handleIdx x.e.opA = none) ∧
    (∃ (s : State) (d : Nat) (x : Desc) (i : Nat), Runs s d 0x32 x ∧ x.e.flag 8 = true ∧ s.domGated 55 = false ∧ s.domFailed 55 = false ∧ s.handleIdx x.e.opA = some i ∧ ((s.seg i).inIndex && (s.seg i).inserter != s.me) = false) ∧
    (∃ (s : State) (d : Nat) (x : Desc) (i : Nat), Runs s d 0x32 x ∧ x.e.flag 8 = true ∧ s.domGated 55 = false ∧ s.domFailed 55 = false ∧ s.handleIdx x.e.opA = some i ∧ (s.seg i).inIndex = true ∧ (s.seg i).inserter ≠ s.me) ∧
    (∃ (s : State) (d : Nat) (x : Desc), Runs s d 0x32 x ∧ x.e.flag 8 = true ∧ s.domGated 55 = false ∧ s.domFailed 55 = false ∧ s.handleIdx x.e.opA = none) ∧
    (∃ (s : State) (d : Nat) (x : Desc) (y : IndexEntry), Runs s d 0x33 x ∧ s.domGated 55 = false ∧ s.domFailed 55 = false ∧ s.entryOf x.e.opA = some y ∧ (bits x.e.spec 0 2 ≠ 3 ∨ y.hint = 3 ∨ s.holdCount y.scope.groupNo < s.fld F_CT_G_HOLD_HOLD y.scope.groupNo)) ∧
    (∃ (s : State) (d : Nat) (x : Desc) (y : IndexEntry), Runs s d 0x33 x ∧ s.domGated 55 = false ∧ s.domFailed 55 = false ∧ s.entryOf x.e.opA = some y ∧ bits x.e.spec 0 2 = 3 ∧ y.hint ≠ 3 ∧ s.fld F_CT_G_HOLD_HOLD y.scope.groupNo ≤ s.holdCount y.scope.groupNo) :=
  ⟨⟨{ withDesc 3 { cmd 0x31 0 0 0 77 with src := [7], stage := .wait .publish, list := [0, 0] } with ct := { segs := [(0, { live := true, making := true, hash := 77, dfns := [7] })] }, cn := { st := .member, member := 1 } }, 3, { cmd 0x31 0 0 0 77 with src := [7], stage := .wait .publish, list := [0, 0] }, 0, 0, by decide +kernel⟩,
    ⟨{ withDesc 3 (cmd 0x32 0 0 2) with ct := { segs := [(0, { live := true, hash := 77, dfns := [7], refs := 3, inIndex := true })], ledger := [(ledgerKey 5 0, 3)] } }, 3, cmd 0x32 0 0 2, 0, by decide +kernel⟩,
    ⟨withDesc 3 (cmd 0x32 0 0 2), 3, cmd 0x32 0 0 2, by decide +kernel⟩,
    ⟨{ withDesc 3 (cmd 0x32 0 0 2 0 1) with ct := { segs := [(0, { live := true, hash := 77, dfns := [7], refs := 3, inIndex := true })], ledger := [(ledgerKey 5 0, 3)], index := [(5, { hash := 77 })] } }, 3, cmd 0x32 0 0 2 0 1, 0, by decide +kernel⟩,
    ⟨{ withDesc 3 (cmd 0x32 0 0 2 0 1) with ct := { segs := [(0, { live := true, hash := 77, dfns := [7], refs := 3, inIndex := true, inserter := 1 })], ledger := [(ledgerKey 5 0, 3)] } }, 3, cmd 0x32 0 0 2 0 1, 0, by decide +kernel⟩,
    ⟨withDesc 3 (cmd 0x32 0 0 2 0 1), 3, cmd 0x32 0 0 2 0 1, by decide +kernel⟩,
    ⟨{ withDesc 3 (cmd 0x33 0 0 0 2) with ct := { index := [(5, { hash := 77 })] } }, 3, cmd 0x33 0 0 0 2, { hash := 77 }, by decide +kernel⟩,
    ⟨{ withDesc 3 (cmd 0x33 0 0 0 3) with ct := { index := [(5, { hash := 77 })] } }, 3, cmd 0x33 0 0 0 3, { hash := 77 }, by decide +kernel⟩⟩

theorem test_meets_catalog_commands_complete_3 :
    (∃ (s : State) (d : Nat) (x : Desc), Runs s d 0x33 x ∧ s.domGated 55 = false ∧ s.domFailed 55 = false ∧ s.entryOf x.e.opA = none) ∧
    (∃ (s : State) (n : Nat) (d : Nat) (x : Desc) (y : Forward), s.ct.fwd.find? (fun g => g.req == n && g.sent && !g.ended) = some y ∧ y.d = some d ∧ leAt y.msg 0 1 % 16 = 3 ∧ Waits s d .answers x) ∧
    (∃ (s : State) (n : Nat) (d : Nat) (x : Desc) (y : Forward), s.ct.fwd.find? (fun g => g.req == n && g.sent && !g.ended) = some y ∧ y.d = some d ∧ leAt y.msg 0 1 % 16 = 2 ∧ Waits s d .answers x) ∧
    (∃ (s : State) (n : Nat) (d : Nat) (x : Desc) (y : Forward) (h : Nat), s.ct.fwd.find? (fun g => g.req == n && g.sent && !g.ended) = some y ∧ y.d = some d ∧ leAt y.msg 0 1 % 16 = 1 ∧ y.idx = 0 ∧ s.desc? d = some x ∧ x.e.opcode = 0x30 ∧ x.stage = .exec ∧ x.list = [h] ∧ s.records d = [none] ∧ x.e.flag 8 = true ∧ (s.queue x.q).isLink = false ∧ s.noHost x.q = false ∧ s.hostFault = none) ∧
    (∃ (s : State) (n : Nat) (y : Forward), s.ct.fwd.find? (fun g => g.req == n && g.sent && !g.ended) = some y ∧ y.d = none ∧ leAt y.msg 0 1 % 16 ≠ 2) :=
  ⟨⟨withDesc 3 (cmd 0x33 0 0 0 3), 3, cmd 0x33 0 0 0 3, by decide +kernel⟩,
    ⟨{ withDesc 3 { cmd 0x32 0 0 2 0 1 with stage := .wait .answers } with ct := { fwd := [{ d := some 3, req := 8, msg := [3], sent := true }] } }, 8, 3, { cmd 0x32 0 0 2 0 1 with stage := .wait .answers }, { d := some 3, req := 8, msg := [3], sent := true }, by decide +kernel⟩,
    ⟨{ withDesc 3 { cmd 0x31 0 0 0 77 with stage := .wait .answers } with ct := { fwd := [{ d := some 3, req := 8, msg := [2], sent := true }] } }, 8, 3, { cmd 0x31 0 0 0 77 with stage := .wait .answers }, { d := some 3, req := 8, msg := [2], sent := true }, by decide +kernel⟩,
    ⟨{ withDesc 3 { cmd 0x30 0 4096 1 0 3 with stage := .exec, list := [77] } with ct := { lookups := [(3, [none])], fwd := [{ d := some 3, req := 8, msg := [1], sent := true }] }, regs := [(F_HP_STATUS_RATE.key 0, 5)], ir := { fns := [(0, { bme := true })] } }, 8, 3, { cmd 0x30 0 4096 1 0 3 with stage := .exec, list := [77] }, { d := some 3, req := 8, msg := [1], sent := true }, 77, by decide +kernel⟩,
    ⟨{ ({} : State) with ct := { fwd := [{ req := 8, msg := [4], sent := true }] } }, 8, { req := 8, msg := [4], sent := true }, by decide +kernel⟩⟩

theorem test_meets_queue_control_takes_effect_1 :
    (∃ (s : State) (p : Port) (q : Nat), s.answers p qctlOff = true ∧ s.mayControl p q false = true ∧ (s.queue q).st = .disabled ∧ s.ringCheck q = 0) ∧
    (∃ (s : State) (p : Port) (q : Nat), s.answers p qctlOff = true ∧ s.mayControl p q false = true ∧ (s.queue q).st = .disabled ∧ s.ringCheck q ≠ 0) ∧
    (∃ (s : State) (p : Port) (q : Nat), s.answers p qctlOff = true ∧ s.mayControl p q false = true ∧ (s.queue q).st ≠ .disabled) ∧
    (∃ (s : State) (p : Port) (q : Nat), s.answers p qctlOff = true ∧ s.mayControl p q false = false) ∧
    (∃ (s : State) (p : Port) (q : Nat), s.answers p qctlOff = true ∧ s.mayControl p q false = true ∧ (s.queue q).st = .active) ∧
    (∃ (s : State) (p : Port) (q : Nat), s.answers p qctlOff = true ∧ s.mayControl p q false = true ∧ (s.queue q).st ≠ .active) ∧
    (∃ (s : State) (p : Port) (q : Nat), s.answers p qctlOff = true ∧ s.mayControl p q false = false) ∧
    (∃ (s : State) (p : Port) (q : Nat), s.answers p qctlOff = true ∧ s.mayControl p q false = true ∧ (s.queue q).st = .paused) :=
  ⟨⟨{ ({} : State) with q := { tab := [(20, { tenant := 5, origin := 0x80 })] }, regs := [(F_TOP_BOOT_STATUS_STAGE.key 0, 3)] }, .fw, 20, by decide +kernel⟩,
    ⟨{ ({} : State) with regs := [(F_TOP_BOOT_STATUS_STAGE.key 0, 3)] }, .fw, 20, by decide +kernel⟩,
    ⟨{ ({} : State) with q := { tab := [(20, { tenant := 5, origin := 0x80, st := .active })] }, regs := [(F_TOP_BOOT_STATUS_STAGE.key 0, 3)] }, .pf, 20, by decide +kernel⟩,
    ⟨{ ({} : State) with regs := [(F_TOP_BOOT_STATUS_STAGE.key 0, 3)] }, .vf 3, 20, by decide +kernel⟩,
    ⟨{ ({} : State) with q := { tab := [(20, { tenant := 5, origin := 0x80, st := .active })] }, regs := [(F_TOP_BOOT_STATUS_STAGE.key 0, 3)] }, .pf, 20, by decide +kernel⟩,
    ⟨{ ({} : State) with regs := [(F_TOP_BOOT_STATUS_STAGE.key 0, 3)] }, .pf, 20, by decide +kernel⟩,
    ⟨{ ({} : State) with regs := [(F_TOP_BOOT_STATUS_STAGE.key 0, 3)] }, .vf 3, 20, by decide +kernel⟩,
    ⟨{ ({} : State) with q := { tab := [(20, { tenant := 5, origin := 0x80, st := .paused })] }, regs := [(F_TOP_BOOT_STATUS_STAGE.key 0, 3)] }, .pf, 20, by decide +kernel⟩⟩

theorem test_meets_queue_control_takes_effect_2 :
    (∃ (s : State) (p : Port) (q : Nat), s.answers p qctlOff = true ∧ s.mayControl p q false = true ∧ (s.queue q).st ≠ .paused) ∧
    (∃ (s : State) (p : Port) (q : Nat), s.answers p qctlOff = true ∧ s.mayControl p q false = false) ∧
    (∃ (s : State) (p : Port) (q : Nat), s.answers p qctlOff = true ∧ s.mayControl p q true = true ∧ ((s.queue q).st = .active ∨ (s.queue q).st = .paused ∨ (s.queue q).st = .frozen)) ∧
    (∃ (s : State) (p : Port) (q : Nat), s.answers p qctlOff = true ∧ s.mayControl p q true = true ∧ ((s.queue q).st = .disabled ∨ (s.queue q).st = .resetting)) ∧
    (∃ (s : State) (p : Port) (q : Nat), s.answers p qctlOff = true ∧ s.mayControl p q true = false) ∧
    (∃ (s : State) (q : Nat), (s.queue q).st = .resetting ∧ (s.queue q).fetched = [] ∧ s.inflight q = 0 ∧ (s.queue q).unbindBy = none) ∧
    (∃ (s : State) (q : Nat) (d : Nat) (x : Desc), (s.queue q).st = .resetting ∧ (s.queue q).fetched = [] ∧ s.inflight q = 0 ∧ (s.queue q).unbindBy = some d ∧ s.desc? d = some x ∧ x.stage ≠ .done) ∧
    (∃ (s : State) (n : Nat) (q : Nat) (v : Nat) (sec : Bool), s.answers (fnPort n) qctlOff = true ∧ (s.fld F_HP_CFG_IDE_REQUIRED == 1 && !sec) = false ∧ (s.queue q).origin = 0x80 + n ∧ ((s.queue q).st = .active ∨ (s.queue q).st = .paused) ∧ v % 65536 < s.ringSize q) :=
  ⟨⟨{ ({} : State) with regs := [(F_TOP_BOOT_STATUS_STAGE.key 0, 3)] }, .pf, 20, by decide +kernel⟩,
    ⟨{ ({} : State) with regs := [(F_TOP_BOOT_STATUS_STAGE.key 0, 3)] }, .vf 3, 20, by decide +kernel⟩,
    ⟨{ withDesc 3 { wWrite with q := 20 } with q := { tab := [(20, { tenant := 5, origin := 0x80, st := .active, fetched := [{ e := { tenant := 5, tag := 9 }, t := 2, hold := .no }] })], descs := [(3, { wWrite with q := 20 })] }, regs := [(F_TOP_BOOT_STATUS_STAGE.key 0, 3)] }, .pf, 20, by decide +kernel⟩,
    ⟨{ ({} : State) with regs := [(F_TOP_BOOT_STATUS_STAGE.key 0, 3)] }, .pf, 20, by decide +kernel⟩,
    ⟨{ ({} : State) with regs := [(F_TOP_BOOT_STATUS_STAGE.key 0, 3)] }, .vf 3, 20, by decide +kernel⟩,
    ⟨{ ({} : State) with q := { tab := [(20, { tenant := 5, origin := 0x80, st := .resetting, winCnt := 4 })] }, regs := [(F_TOP_BOOT_STATUS_STAGE.key 0, 3)] }, 20, by decide +kernel⟩,
    ⟨{ ({} : State) with q := { tab := [(20, { tenant := 5, origin := 0x80, st := .resetting, unbindBy := some 3 })], descs := [(3, { cmd 0x74 20 0 0 with stage := .exec })] }, regs := [(F_TOP_BOOT_STATUS_STAGE.key 0, 3)] }, 20, 3, { cmd 0x74 20 0 0 with stage := .exec }, by decide +kernel⟩,
    ⟨{ ({} : State) with q := { tab := [(20, { tenant := 5, origin := 0x80, st := .active })] }, regs := [(F_TOP_BOOT_STATUS_STAGE.key 0, 3)] }, 0, 20, 15, false, by decide +kernel⟩⟩

theorem test_meets_queue_control_takes_effect_3 :
    (∃ (s : State) (n : Nat) (q : Nat) (v : Nat) (sec : Bool), s.answers (fnPort n) qctlOff = true ∧ (s.fld F_HP_CFG_IDE_REQUIRED == 1 && !sec) = false ∧ (s.queue q).origin = 0x80 + n ∧ ((s.queue q).st = .active ∨ (s.queue q).st = .paused) ∧ s.ringSize q ≤ v % 65536) ∧
    (∃ (s : State) (n : Nat) (q : Nat) (sec : Bool), s.answers (fnPort n) qctlOff = true ∧ (s.fld F_HP_CFG_IDE_REQUIRED == 1 && !sec) = false ∧ (s.queue q).origin = 0x80 + n ∧ (s.queue q).st = .frozen) ∧
    (∃ (s : State) (n : Nat) (q : Nat) (sec : Bool), s.answers (fnPort n) qctlOff = true ∧ (s.fld F_HP_CFG_IDE_REQUIRED == 1 && !sec) = false ∧ (s.queue q).origin = 0x80 + n ∧ ((s.queue q).st = .disabled ∨ (s.queue q).st = .resetting)) ∧
    (∃ (s : State) (n : Nat) (q : Nat) (sec : Bool), s.answers (fnPort n) qctlOff = true ∧ (s.fld F_HP_CFG_IDE_REQUIRED == 1 && !sec) = false ∧ (s.queue q).origin ≠ 0x80 + n) ∧
    (∃ (s : State) (n : Nat) (sec : Bool), s.answers (fnPort n) qctlOff = true ∧ (s.fld F_HP_CFG_IDE_REQUIRED == 1 && !sec) = true) ∧
    (∃ (s : State) (n : Nat) (q : Nat) (v : Nat) (sec : Bool), s.answers (fnPort n) qctlOff = true ∧ (s.fld F_HP_CFG_IDE_REQUIRED == 1 && !sec) = false ∧ (s.queue q).origin = 0x80 + n ∧ ((s.queue q).st = .active ∨ (s.queue q).st = .paused) ∧ v % 65536 < s.ringSize q ∧ (v % 65536 + s.ringSize q - (s.queue q).cqHead % s.ringSize q) % s.ringSize q ≤ ((s.queue q).cqTail + s.ringSize q - (s.queue q).cqHead % s.ringSize q) % s.ringSize q) ∧
    (∃ (s : State) (n : Nat) (q : Nat) (v : Nat) (sec : Bool), s.answers (fnPort n) qctlOff = true ∧ (s.fld F_HP_CFG_IDE_REQUIRED == 1 && !sec) = false ∧ (s.queue q).origin = 0x80 + n ∧ ((s.queue q).st = .active ∨ (s.queue q).st = .paused) ∧ (s.ringSize q ≤ v % 65536 ∨ ((s.queue q).cqTail + s.ringSize q - (s.queue q).cqHead % s.ringSize q) % s.ringSize q < (v % 65536 + s.ringSize q - (s.queue q).cqHead % s.ringSize q) % s.ringSize q)) ∧
    (∃ (s : State) (n : Nat) (q : Nat) (sec : Bool), s.answers (fnPort n) qctlOff = true ∧ (s.fld F_HP_CFG_IDE_REQUIRED == 1 && !sec) = false ∧ (s.queue q).origin = 0x80 + n ∧ (s.queue q).st = .frozen) :=
  ⟨⟨{ ({} : State) with q := { tab := [(20, { tenant := 5, origin := 0x80, st := .active })] }, regs := [(F_TOP_BOOT_STATUS_STAGE.key 0, 3)] }, 0, 20, 16, false, by decide +kernel⟩,
    ⟨{ ({} : State) with q := { tab := [(20, { tenant := 5, origin := 0x83, st := .frozen })] }, regs := [(F_TOP_BOOT_STATUS_STAGE.key 0, 3)] }, 3, 20, true, by decide +kernel⟩,
    ⟨{ ({} : State) with q := { tab := [(20, { tenant := 5, origin := 0x80 })] }, regs := [(F_TOP_BOOT_STATUS_STAGE.key 0, 3)], ports := [(0, { stage := some { blk := 1, off := 4, inst := 0, word := 4 } })] }, 0, 20, false, by decide +kernel⟩,
    ⟨{ ({} : State) with regs := [(F_TOP_BOOT_STATUS_STAGE.key 0, 3)] }, 0, 20, false, by decide +kernel⟩,
    ⟨{ ({} : State) with regs := [(F_TOP_BOOT_STATUS_STAGE.key 0, 3), (F_HP_CFG_IDE_REQUIRED.key 0, 1)] }, 0, false, by decide +kernel⟩,
    ⟨{ ({} : State) with q := { tab := [(20, { tenant := 5, origin := 0x80, st := .active, cqTail := 15 })] }, regs := [(F_TOP_BOOT_STATUS_STAGE.key 0, 3)] }, 0, 20, 15, false, by decide +kernel⟩,
    ⟨{ ({} : State) with q := { tab := [(20, { tenant := 5, origin := 0x80, st := .active, cqTail := 14 })] }, regs := [(F_TOP_BOOT_STATUS_STAGE.key 0, 3)] }, 0, 20, 15, false, by decide +kernel⟩,
    ⟨{ ({} : State) with q := { tab := [(20, { tenant := 5, origin := 0x83, st := .frozen })] }, regs := [(F_TOP_BOOT_STATUS_STAGE.key 0, 3)] }, 3, 20, true, by decide +kernel⟩⟩

theorem test_meets_queue_control_takes_effect_4 :
    (∃ (s : State) (n : Nat) (q : Nat) (sec : Bool), s.answers (fnPort n) qctlOff = true ∧ (s.fld F_HP_CFG_IDE_REQUIRED == 1 && !sec) = false ∧ (s.queue q).origin = 0x80 + n ∧ ((s.queue q).st = .disabled ∨ (s.queue q).st = .resetting)) ∧
    (∃ (s : State) (n : Nat) (q : Nat) (sec : Bool), s.answers (fnPort n) qctlOff = true ∧ (s.fld F_HP_CFG_IDE_REQUIRED == 1 && !sec) = false ∧ (s.queue q).origin ≠ 0x80 + n) ∧
    (∃ (s : State) (n : Nat) (sec : Bool), s.answers (fnPort n) qctlOff = true ∧ (s.fld F_HP_CFG_IDE_REQUIRED == 1 && !sec) = true) :=
  ⟨⟨{ ({} : State) with q := { tab := [(20, { tenant := 5, origin := 0x80 })] }, regs := [(F_TOP_BOOT_STATUS_STAGE.key 0, 3)], ports := [(0, { stage := some { blk := 1, off := 4, inst := 0, word := 4 } })] }, 0, 20, false, by decide +kernel⟩,
    ⟨{ ({} : State) with regs := [(F_TOP_BOOT_STATUS_STAGE.key 0, 3)] }, 0, 20, false, by decide +kernel⟩,
    ⟨{ ({} : State) with regs := [(F_TOP_BOOT_STATUS_STAGE.key 0, 3), (F_HP_CFG_IDE_REQUIRED.key 0, 1)] }, 0, false, by decide +kernel⟩⟩

theorem test_meets_entries_are_accepted_1 :
    (∃ (s : State) (q : Nat), s.mayFetch q = true ∧ s.quarantined q = false ∧ s.qInFolios q = false) ∧
    (∃ (s : State) (u : State) (q : Nat) (b : List Byte) (c : List Byte) (f : HostRead), s.mayFetch q = true ∧ s.fetchWaits q = false ∧ s.quarantined q = false ∧ s.readEntry q b f = (u, some c) ∧ u.quarantined q = false) ∧
    (∃ (s : State) (u : State) (q : Nat) (b : List Byte) (c : List Byte) (f : HostRead), s.mayFetch q = true ∧ s.fetchWaits q = false ∧ s.quarantined q = true ∧ s.inflight q + (s.queue q).fetched.length < s.cqRoom q ∧ s.readEntry q b f = (u, some c) ∧ u.quarantined q = true) ∧
    (∃ (s : State) (u : State) (q : Nat) (b : List Byte) (f : HostRead), s.mayFetch q = true ∧ s.fetchWaits q = false ∧ s.quarantined q = false ∧ s.readEntry q b f = (u, none) ∧ (u.queue q).st ≠ .resetting) ∧
    (∃ (s : State) (v : State) (q : Nat) (f : Fetched) (l : List Fetched) (n : Nat) (g : Nat) (d : Nat), s.ck.power = 0 ∧ s.granted = (v, some q) ∧ (v.queue q).fetched = f :: l ∧ f.e = { opcode := 0, tenant := n, tag := g } ∧ ((v.queue q).tenant = n ∨ isMgmt q = true) ∧ v.tenantState n = 1 ∧ v.inWindow n = false ∧ v.freshDesc = some d ∧ v.hostBlocked q = false ∧ v.inflight q < v.cqRoom q) ∧
    (∃ (s : State) (v : State) (w : State) (b : List Byte) (q : Nat) (f : Fetched) (l : List Fetched) (d : Nat) (x : Desc), s.ck.power = 0 ∧ s.granted = (v, some q) ∧ (v.queue q).fetched = f :: l ∧ v.hostBlocked q = false ∧ v.blockBlocked q f.e = false ∧ v.blockWaits q f.e = false ∧ v.inflight q < v.cqRoom q ∧ v.judge q f b = (w, .take d x)) ∧
    (∃ (s : State) (v : State) (w : State) (b : List Byte) (q : Nat) (f : Fetched) (l : List Fetched) (x : Stop), s.ck.power = 0 ∧ s.granted = (v, some q) ∧ (v.queue q).fetched = f :: l ∧ v.hostBlocked q = false ∧ v.blockBlocked q f.e = false ∧ v.blockWaits q f.e = false ∧ v.inflight q < v.cqRoom q ∧ v.judge q f b = (w, .stop x)) ∧
    (∃ (s : State) (v : State) (w : State) (b : List Byte) (q : Nat) (f : Fetched) (l : List Fetched) (h : Hold), s.ck.power = 0 ∧ s.granted = (v, some q) ∧ (v.queue q).fetched = f :: l ∧ v.hostBlocked q = false ∧ v.blockBlocked q f.e = false ∧ v.blockWaits q f.e = false ∧ v.inflight q < v.cqRoom q ∧ v.judge q f b = (w, .hold h)) :=
  ⟨⟨{ ({} : State) with q := { tab := [(20, { tenant := 5, origin := 0x80, st := .active, sqTail := 1 })] }, ir := { fns := [(0, { bme := true })] } }, 20, by decide +kernel⟩,
    ⟨{ ({} : State) with q := { tab := [(20, { tenant := 5, origin := 0x82, st := .active, sqTail := 1, sqRing := [7], sqMeta := [0], cqRing := [8], cqMeta := [0] })] }, regs := [(F_QE_Q_CFG_LOC.key 20, 1)], map := { owner := [(7, { st := .owned, tenant := 5, maps := 1 }), (8, { st := .owned, tenant := 5, maps := 1 })] }, ir := { fns := [(2, { bme := true })] } }, (({ ({} : State) with q := { tab := [(20, { tenant := 5, origin := 0x82, st := .active, sqTail := 1, sqRing := [7], sqMeta := [0], cqRing := [8], cqMeta := [0] })] }, regs := [(F_QE_Q_CFG_LOC.key 20, 1)], map := { owner := [(7, { st := .owned, tenant := 5, maps := 1 }), (8, { st := .owned, tenant := 5, maps := 1 })] }, ir := { fns := [(2, { bme := true })] } } : State).readEntry 20 [] .ok).1, 20, [], ((({ ({} : State) with q := { tab := [(20, { tenant := 5, origin := 0x82, st := .active, sqTail := 1, sqRing := [7], sqMeta := [0], cqRing := [8], cqMeta := [0] })] }, regs := [(F_QE_Q_CFG_LOC.key 20, 1)], map := { owner := [(7, { st := .owned, tenant := 5, maps := 1 }), (8, { st := .owned, tenant := 5, maps := 1 })] }, ir := { fns := [(2, { bme := true })] } } : State).readEntry 20 [] .ok).2.getD []), .ok, by decide +kernel⟩,
    ⟨{ ({} : State) with q := { tab := [(20, { tenant := 5, origin := 2, st := .active, sqTail := 1, sqRing := [7], sqMeta := [0], cqRing := [8], cqMeta := [0] })] }, regs := [(F_QE_Q_CFG_LOC.key 20, 1)], map := { owner := [(7, { st := .owned, tenant := 5, maps := 1 }), (8, { st := .owned, tenant := 5, maps := 1 })] }, lk := { links := [(2, { st := .quarantine })] } }, (({ ({} : State) with q := { tab := [(20, { tenant := 5, origin := 2, st := .active, sqTail := 1, sqRing := [7], sqMeta := [0], cqRing := [8], cqMeta := [0] })] }, regs := [(F_QE_Q_CFG_LOC.key 20, 1)], map := { owner := [(7, { st := .owned, tenant := 5, maps := 1 }), (8, { st := .owned, tenant := 5, maps := 1 })] }, lk := { links := [(2, { st := .quarantine })] } } : State).readEntry 20 [] .ok).1, 20, [], ((({ ({} : State) with q := { tab := [(20, { tenant := 5, origin := 2, st := .active, sqTail := 1, sqRing := [7], sqMeta := [0], cqRing := [8], cqMeta := [0] })] }, regs := [(F_QE_Q_CFG_LOC.key 20, 1)], map := { owner := [(7, { st := .owned, tenant := 5, maps := 1 }), (8, { st := .owned, tenant := 5, maps := 1 })] }, lk := { links := [(2, { st := .quarantine })] } } : State).readEntry 20 [] .ok).2.getD []), .ok, by decide +kernel⟩,
    ⟨{ ({} : State) with q := { tab := [(20, { tenant := 5, origin := 0x80, st := .active, sqTail := 1 })] }, ir := { fns := [(0, { bme := true })] } }, (({ ({} : State) with q := { tab := [(20, { tenant := 5, origin := 0x80, st := .active, sqTail := 1 })] }, ir := { fns := [(0, { bme := true })] } } : State).readEntry 20 [] .ur).1, 20, [], .ur, by decide +kernel⟩,
    ⟨headOf [(headEntry .no 0 0 false)], (headOf [(headEntry .no 0 0 false)] : State).granted.1, 20, (headEntry .no 0 0 false), [], 5, 9, 0, by decide +kernel⟩,
    ⟨headOf [(headEntry .no 0x20 4 false)], (headOf [(headEntry .no 0x20 4 false)] : State).granted.1, (((headOf [(headEntry .no 0x20 4 false)] : State).granted.1 : State).judge 20 (headEntry .no 0x20 4 false) []).1, [], 20, (headEntry .no 0x20 4 false), [], 0, takenOf (((headOf [(headEntry .no 0x20 4 false)] : State).granted.1 : State).judge 20 (headEntry .no 0x20 4 false) []).2, by decide +kernel⟩,
    ⟨headOf [(headEntry .no 0x1F 4 false)], (headOf [(headEntry .no 0x1F 4 false)] : State).granted.1, (((headOf [(headEntry .no 0x1F 4 false)] : State).granted.1 : State).judge 20 (headEntry .no 0x1F 4 false) []).1, [], 20, (headEntry .no 0x1F 4 false), [], { st := .unsupported, step := 2 }, by decide +kernel⟩,
    ⟨{ headOf [(headEntry .no 0 0 false)] with regs := (F_TN_MAP_EPOCH_WINDOW.key 5, 1) :: (headOf [(headEntry .no 0 0 false)]).regs }, ({ headOf [(headEntry .no 0 0 false)] with regs := (F_TN_MAP_EPOCH_WINDOW.key 5, 1) :: (headOf [(headEntry .no 0 0 false)]).regs } : State).granted.1, ((({ headOf [(headEntry .no 0 0 false)] with regs := (F_TN_MAP_EPOCH_WINDOW.key 5, 1) :: (headOf [(headEntry .no 0 0 false)]).regs } : State).granted.1 : State).judge 20 (headEntry .no 0 0 false) []).1, [], 20, (headEntry .no 0 0 false), [], .window, by decide +kernel⟩⟩

theorem test_meets_entries_are_accepted_2 :
    (∃ (s : State) (q : Nat) (f : Fetched) (l : List Fetched) (n : Nat) (g : Nat) (d : Nat), f.hold = .resources ∧ (s.queue q).fetched = f :: l ∧ f.e = { opcode := 0, tenant := n, tag := g } ∧ ((s.queue q).tenant = n ∨ isMgmt q = true) ∧ s.tenantState n = 1 ∧ s.inWindow n = false ∧ s.freshDesc = some d ∧ s.hostBlocked q = false ∧ s.inflight q < s.cqRoom q) ∧
    (∃ (s : State) (w : State) (b : List Byte) (q : Nat) (f : Fetched) (l : List Fetched) (d : Nat) (x : Desc), f.hold = .resources ∧ (s.queue q).fetched = f :: l ∧ s.hostBlocked q = false ∧ s.blockBlocked q f.e = false ∧ s.blockWaits q f.e = false ∧ s.inflight q < s.cqRoom q ∧ s.judge q f b = (w, .take d x)) ∧
    (∃ (s : State) (w : State) (b : List Byte) (q : Nat) (f : Fetched) (l : List Fetched) (x : Stop), f.hold = .resources ∧ (s.queue q).fetched = f :: l ∧ s.hostBlocked q = false ∧ s.blockBlocked q f.e = false ∧ s.blockWaits q f.e = false ∧ s.inflight q < s.cqRoom q ∧ s.judge q f b = (w, .stop x)) ∧
    (∃ (s : State) (w : State) (b : List Byte) (q : Nat) (f : Fetched) (l : List Fetched) (h : Hold), f.hold = .resources ∧ (s.queue q).fetched = f :: l ∧ s.hostBlocked q = false ∧ s.blockBlocked q f.e = false ∧ s.blockWaits q f.e = false ∧ s.inflight q < s.cqRoom q ∧ s.judge q f b = (w, .hold h)) ∧
    (∃ (s : State) (q : Nat) (f : Fetched) (l : List Fetched) (n : Nat) (g : Nat) (d : Nat), f.hold = .ordered ∧ s.inflight q = 0 ∧ (s.queue q).fetched = f :: l ∧ f.e = { opcode := 0, tenant := n, tag := g, ordered := true } ∧ ((s.queue q).tenant = n ∨ isMgmt q = true) ∧ s.tenantState n = 1 ∧ s.inWindow n = false ∧ s.freshDesc = some d ∧ s.hostBlocked q = false ∧ s.inflight q < s.cqRoom q) ∧
    (∃ (s : State) (w : State) (b : List Byte) (q : Nat) (f : Fetched) (l : List Fetched) (d : Nat) (x : Desc), f.hold = .ordered ∧ s.inflight q = 0 ∧ (s.queue q).fetched = f :: l ∧ s.hostBlocked q = false ∧ s.blockBlocked q f.e = false ∧ s.blockWaits q f.e = false ∧ s.inflight q < s.cqRoom q ∧ s.judge q f b = (w, .take d x)) ∧
    (∃ (s : State) (w : State) (b : List Byte) (q : Nat) (f : Fetched) (l : List Fetched) (x : Stop), f.hold = .ordered ∧ s.inflight q = 0 ∧ (s.queue q).fetched = f :: l ∧ s.hostBlocked q = false ∧ s.blockBlocked q f.e = false ∧ s.blockWaits q f.e = false ∧ s.inflight q < s.cqRoom q ∧ s.judge q f b = (w, .stop x)) ∧
    (∃ (s : State) (w : State) (b : List Byte) (q : Nat) (f : Fetched) (l : List Fetched) (h : Hold), f.hold = .ordered ∧ s.inflight q = 0 ∧ (s.queue q).fetched = f :: l ∧ s.hostBlocked q = false ∧ s.blockBlocked q f.e = false ∧ s.blockWaits q f.e = false ∧ s.inflight q < s.cqRoom q ∧ s.judge q f b = (w, .hold h)) :=
  ⟨⟨headOf [(headEntry .resources 0 0 false)], 20, (headEntry .resources 0 0 false), [], 5, 9, 0, by decide +kernel⟩,
    ⟨headOf [(headEntry .resources 0x20 4 false)], ((headOf [(headEntry .resources 0x20 4 false)] : State).judge 20 (headEntry .resources 0x20 4 false) []).1, [], 20, (headEntry .resources 0x20 4 false), [], 0, takenOf ((headOf [(headEntry .resources 0x20 4 false)] : State).judge 20 (headEntry .resources 0x20 4 false) []).2, by decide +kernel⟩,
    ⟨headOf [(headEntry .resources 0x1F 4 false)], ((headOf [(headEntry .resources 0x1F 4 false)] : State).judge 20 (headEntry .resources 0x1F 4 false) []).1, [], 20, (headEntry .resources 0x1F 4 false), [], { st := .unsupported, step := 2 }, by decide +kernel⟩,
    ⟨{ headOf [(headEntry .resources 0 0 false)] with regs := (F_TN_MAP_EPOCH_WINDOW.key 5, 1) :: (headOf [(headEntry .resources 0 0 false)]).regs }, (({ headOf [(headEntry .resources 0 0 false)] with regs := (F_TN_MAP_EPOCH_WINDOW.key 5, 1) :: (headOf [(headEntry .resources 0 0 false)]).regs } : State).judge 20 (headEntry .resources 0 0 false) []).1, [], 20, (headEntry .resources 0 0 false), [], .window, by decide +kernel⟩,
    ⟨headOf [(headEntry .ordered 0 0 true)], 20, (headEntry .ordered 0 0 true), [], 5, 9, 0, by decide +kernel⟩,
    ⟨headOf [(headEntry .ordered 0x20 4 true)], ((headOf [(headEntry .ordered 0x20 4 true)] : State).judge 20 (headEntry .ordered 0x20 4 true) []).1, [], 20, (headEntry .ordered 0x20 4 true), [], 0, takenOf ((headOf [(headEntry .ordered 0x20 4 true)] : State).judge 20 (headEntry .ordered 0x20 4 true) []).2, by decide +kernel⟩,
    ⟨headOf [(headEntry .ordered 0x1F 4 true)], ((headOf [(headEntry .ordered 0x1F 4 true)] : State).judge 20 (headEntry .ordered 0x1F 4 true) []).1, [], 20, (headEntry .ordered 0x1F 4 true), [], { st := .unsupported, step := 2 }, by decide +kernel⟩,
    ⟨{ headOf [(headEntry .ordered 0 0 true)] with regs := (F_TN_MAP_EPOCH_WINDOW.key 5, 1) :: (headOf [(headEntry .ordered 0 0 true)]).regs }, (({ headOf [(headEntry .ordered 0 0 true)] with regs := (F_TN_MAP_EPOCH_WINDOW.key 5, 1) :: (headOf [(headEntry .ordered 0 0 true)]).regs } : State).judge 20 (headEntry .ordered 0 0 true) []).1, [], 20, (headEntry .ordered 0 0 true), [], .window, by decide +kernel⟩⟩

theorem test_meets_entries_are_accepted_3 :
    (∃ (s : State) (v : State) (q : Nat) (p : Nat), s.ck.power = 0 ∧ s.granted = (v, some q) ∧ s.fld F_QE_STARVE_LIMIT_STARVE = 0 ∧ p ∈ s.readyQueues) ∧
    (∃ (s : State) (q : Nat) (f : Fetched) (l : List Fetched), (s.queue q).fetched = f :: l ∧ f.hold = .resources ∧ s.timedOut q f.t = true ∧ s.hostBlocked q = false ∧ s.inflight q < s.cqRoom q ∧ s.qInFolios q = false ∧ s.hostFault = none) :=
  ⟨⟨{ headOf [(headEntry .no 0 0 false)] with regs := (F_QE_STARVE_LIMIT_STARVE.key 0, 0) :: (headOf [(headEntry .no 0 0 false)]).regs }, ({ headOf [(headEntry .no 0 0 false)] with regs := (F_QE_STARVE_LIMIT_STARVE.key 0, 0) :: (headOf [(headEntry .no 0 0 false)]).regs } : State).granted.1, 20, 20, by decide +kernel⟩,
    ⟨{ headOf [(headEntry .resources 0 0 false)] with now := 1000000000000 }, 20, (headEntry .resources 0 0 false), [], by decide +kernel⟩⟩

theorem test_meets_commands_end_1 :
    (∃ (s : State) (d : Nat) (x : Desc), Runs s d 0x00 x) ∧
    (∃ (s : State) (d : Nat) (x : Desc), s.desc? d = some x ∧ s.timedOut x.q x.tFetch = false) ∧
    (∃ (s : State) (d : Nat) (x : Desc), s.desc? d = some x ∧ s.timedOut x.q x.tFetch = true ∧ x.stage ≠ .done) ∧
    (∃ (s : State) (d : Nat) (x : Desc), s.desc? d = some x ∧ s.timedOut x.q x.tFetch = true ∧ x.stage = .done ∧ x.tEnd = s.now ∧ Status.timeout.rank < x.status.rank) ∧
    (∃ (s : State) (d : Nat) (x : Desc), s.desc? d = some x ∧ s.timedOut x.q x.tFetch = true ∧ x.stage = .done ∧ (x.tEnd ≠ s.now ∨ x.status.rank ≤ Status.timeout.rank)) ∧
    (∃ (s : State) (d : Nat) (x : Desc), Waits s d .link x ∧ x.e.pulls = true ∧ (s.queue x.q).isLink = true ∧ s.sessionRetiring (s.queue x.q).origin (s.queue x.q).tenant = false ∧ s.linkReady (s.queue x.q).origin (s.queue x.q).tenant = true ∧ (s.link (s.queue x.q).origin).pulls.any (fun r => r.queue == x.q && r.xtag == x.xtag) = false) ∧
    (∃ (s : State) (d : Nat) (x : Desc), Waits s d .link x ∧ x.e.pulls = true ∧ (s.queue x.q).isLink = true ∧ s.sessionRetiring (s.queue x.q).origin (s.queue x.q).tenant = true) ∧
    (∃ (s : State) (d : Nat) (x : Desc), Waits s d .link x ∧ x.e.pulls = true ∧ (s.queue x.q).isLink = true ∧ s.sessionRetiring (s.queue x.q).origin (s.queue x.q).tenant = false ∧ (s.linkReady (s.queue x.q).origin (s.queue x.q).tenant = false ∨ (s.link (s.queue x.q).origin).pulls.any (fun r => r.queue == x.q && r.xtag == x.xtag) = true)) :=
  ⟨⟨withDesc 3 (cmd 0 0 0 0), 3, cmd 0 0 0 0, by decide +kernel⟩,
    ⟨withDesc 3 { wWrite with stage := .wait .fence }, 3, { wWrite with stage := .wait .fence }, by decide +kernel⟩,
    ⟨{ withDesc 3 { wWrite with stage := .wait .fence } with now := 1000000000000 }, 3, { wWrite with stage := .wait .fence }, by decide +kernel⟩,
    ⟨{ withDesc 3 { wWrite with stage := .done, tEnd := 1000000000000 } with now := 1000000000000 }, 3, { wWrite with stage := .done, tEnd := 1000000000000 }, by decide +kernel⟩,
    ⟨{ withDesc 3 { wWrite with stage := .done, status := .aborted } with now := 1000000000000 }, 3, { wWrite with stage := .done, status := .aborted }, by decide +kernel⟩,
    ⟨{ ({} : State) with q := { tab := [(20, { tenant := 5, origin := 2, st := .active })], descs := [(3, { cmd 0x20 0 0 4 with q := 20, stage := .wait .link })] }, lk := { links := [(2, { st := .active, sessions := [(1, { bound := true, isOpen := true, tenant := 5 })] })] } }, 3, { cmd 0x20 0 0 4 with q := 20, stage := .wait .link }, by decide +kernel⟩,
    ⟨{ ({} : State) with q := { tab := [(20, { tenant := 5, origin := 2, st := .active })], descs := [(3, { cmd 0x20 0 0 4 with q := 20, stage := .wait .link })] }, lk := { links := [(2, { st := .active, sessions := [(1, { bound := true, isOpen := true, tenant := 5, handle := 70 })] })] }, ks := [(70, { st := .retiring, kind := 2, tenant := 5 })] }, 3, { cmd 0x20 0 0 4 with q := 20, stage := .wait .link }, by decide +kernel⟩,
    ⟨{ ({} : State) with q := { tab := [(20, { tenant := 5, origin := 2, st := .active })], descs := [(3, { cmd 0x20 0 0 4 with q := 20, stage := .wait .link })] } }, 3, { cmd 0x20 0 0 4 with q := 20, stage := .wait .link }, by decide +kernel⟩⟩

theorem test_meets_commands_end_2 :
    (∃ (s : State) (d : Nat) (x : Desc), Waits s d .linkOut x ∧ (s.queue x.outQ).isLink = true ∧ s.sessionRetiring (s.queue x.outQ).origin (s.queue x.outQ).tenant = false ∧ s.linkReady (s.queue x.outQ).origin (s.queue x.outQ).tenant = true ∧ s.dataUnacked (s.queue x.outQ).origin x.outQ x.xtag = false) ∧
    (∃ (s : State) (d : Nat) (x : Desc), s.desc? d = some x ∧ x.stage = .done ∧ (x.kept = false ∨ (s.queue x.q).st = .resetting) ∧ s.writesWait x = false ∧ s.hostBlocked x.q = false ∧ s.qInFolios x.q = false ∧ s.hostFault = none ∧ 0 < s.cqRoom x.q ∧ s.ck.entry = 0) ∧
    (∃ (s : State) (d : Nat) (x : Desc), s.desc? d = some x ∧ x.stage = .done ∧ x.status = .ok ∧ x.kept = false ∧ x.signalled = none ∧ x.refused = none ∧ x.e.signal = true ∧ s.writesWait x = false ∧ s.hostBlocked x.q = false ∧ s.qInFolios x.q = false ∧ s.hostFault = none ∧ 0 < s.cqRoom x.q ∧ s.ck.entry = 0 ∧ (s.fence x.e.sigId).poison = false ∧ (s.fence x.e.sigId).value < x.e.sigVal ∧ x.e.sigVal ≤ fenceMax) ∧
    (∃ (s : State) (d : Nat) (x : Desc) (f : Bool), s.desc? d = some x ∧ x.stage = .done ∧ x.kept = false ∧ s.writesWait x = false ∧ s.hostBlocked x.q = false ∧ s.qInFolios x.q = false ∧ (f = true ∨ s.hostFault ≠ none) ∧ 0 < s.cqRoom x.q ∧ ((s.queue x.q).st = .active ∨ (s.queue x.q).st = .paused) ∧ s.ck.entry = 0) ∧
    (∃ (s : State) (d : Nat) (x : Desc), s.desc? d = some x ∧ (x.stage ≠ .done ∨ s.writesWait x = true ∨ s.cqWaits x.q = true ∨ s.hostBlocked x.q = true ∨ (x.kept = true ∧ (s.queue x.q).st ≠ .resetting))) :=
  ⟨⟨{ ({} : State) with q := { tab := [(20, { tenant := 5, origin := 2, st := .active })], descs := [(3, { cmd 0x21 0 0 1 with q := 20, stage := .wait .linkOut, data := [9] })] }, lk := { links := [(2, { st := .active, sessions := [(1, { bound := true, isOpen := true, tenant := 5 })] })] } }, 3, { cmd 0x21 0 0 1 with q := 20, stage := .wait .linkOut, data := [9] }, by decide +kernel⟩,
    ⟨{ withDesc 3 { cmd 0 0 0 0 with stage := .done } with regs := [(F_HP_STATUS_RATE.key 0, 5)], ir := { fns := [(0, { bme := true })] } }, 3, { cmd 0 0 0 0 with stage := .done }, by decide +kernel⟩,
    ⟨{ withDesc 3 { e := { opcode := 0, tenant := 5, signal := true, sigId := 20, sigVal := 7 }, stage := .done } with regs := [(F_HP_STATUS_RATE.key 0, 5)], ir := { fns := [(0, { bme := true })] } }, 3, { e := { opcode := 0, tenant := 5, signal := true, sigId := 20, sigVal := 7 }, stage := .done }, by decide +kernel⟩,
    ⟨{ ({} : State) with q := { tab := [(20, { tenant := 5, origin := 0x80, st := .active })], descs := [(3, { cmd 0 0 0 0 with q := 20, stage := .done })] }, regs := [(F_HP_STATUS_RATE.key 0, 5)], ir := { fns := [(0, { bme := true })] } }, 3, { cmd 0 0 0 0 with q := 20, stage := .done }, true, by decide +kernel⟩,
    ⟨withDesc 3 { cmd 0 0 0 0 with stage := .done }, 3, { cmd 0 0 0 0 with stage := .done }, by decide +kernel⟩⟩

theorem test_meets_carrel_commands_complete_1 :
    (∃ (s : State) (d : Nat) (x : Desc), Runs s d 0x40 x ∧ s.attendFault x false = none ∧ s.wmMet x = true ∧ s.budget x.e = 0 ∧ s.canDispatch d = true) ∧
    (∃ (s : State) (d : Nat) (x : Desc), Runs s d 0x40 x ∧ s.attendFault x false = none ∧ s.wmMet x = true ∧ s.budget x.e = 0 ∧ s.canDispatch d = false) ∧
    (∃ (s : State) (d : Nat) (x : Desc), Runs s d 0x40 x ∧ s.attendFault x false = none ∧ s.wmMet x = true ∧ s.budget x.e ≠ 0) ∧
    (∃ (s : State) (d : Nat) (x : Desc), Runs s d 0x40 x ∧ s.attendFault x false = none ∧ s.wmMet x = false ∧ s.budget x.e = 0) ∧
    (∃ (s : State) (d : Nat) (x : Desc), Runs s d 0x40 x ∧ s.attendFault x false = none ∧ s.wmMet x = false ∧ s.budget x.e ≠ 0) ∧
    (∃ (s : State) (d : Nat) (x : Desc) (k : Nat) (r : Result), Runs s d 0x40 x ∧ s.attendFault x false = some (k, r)) ∧
    (∃ (s : State) (d : Nat) (x : Desc), Runs s d 0x43 x ∧ s.attendFault x true = none ∧ s.wmMet x = true ∧ s.budget x.e = 0 ∧ s.canDispatch d = true) ∧
    (∃ (s : State) (d : Nat) (x : Desc), Runs s d 0x43 x ∧ s.attendFault x true = none ∧ s.wmMet x = true ∧ s.budget x.e = 0 ∧ s.canDispatch d = false) :=
  ⟨⟨{ withDesc 3 { cmd 0x40 9 0 192 4 8 with strm := some 9, blk := [0, 1, 1, 1, 0, 0, 0, 0, 0, 0, 128, 63] ++ List.replicate 180 0 } with cr := { clusters := [(1, { st := 3 })] }, fn := { streams := [(9, { st := .active, tenant := 5, layout := { heads := 1, layers := 1 }, layers := [{ wm := 8 }] })] } }, 3, { cmd 0x40 9 0 192 4 8 with strm := some 9, blk := [0, 1, 1, 1, 0, 0, 0, 0, 0, 0, 128, 63] ++ List.replicate 180 0 }, by decide +kernel⟩,
    ⟨{ withDesc 3 { cmd 0x40 9 0 192 4 8 with strm := some 9, blk := [0, 1, 1, 1, 0, 0, 0, 0, 0, 0, 128, 63] ++ List.replicate 180 0 } with fn := { streams := [(9, { st := .active, tenant := 5, layout := { heads := 1, layers := 1 }, layers := [{ wm := 8 }] })] } }, 3, { cmd 0x40 9 0 192 4 8 with strm := some 9, blk := [0, 1, 1, 1, 0, 0, 0, 0, 0, 0, 128, 63] ++ List.replicate 180 0 }, by decide +kernel⟩,
    ⟨{ withDesc 3 { cmd 0x40 9 0 192 4294967300 8 with strm := some 9, blk := [0, 1, 1, 1, 0, 0, 0, 0, 0, 0, 128, 63] ++ List.replicate 180 0 } with fn := { streams := [(9, { st := .active, tenant := 5, layout := { heads := 1, layers := 1 }, layers := [{ wm := 8 }] })] } }, 3, { cmd 0x40 9 0 192 4294967300 8 with strm := some 9, blk := [0, 1, 1, 1, 0, 0, 0, 0, 0, 0, 128, 63] ++ List.replicate 180 0 }, by decide +kernel⟩,
    ⟨{ withDesc 3 { cmd 0x40 9 0 192 4 8 with strm := some 9, blk := [0, 1, 1, 1, 0, 0, 0, 0, 0, 0, 128, 63] ++ List.replicate 180 0 } with cr := { clusters := [(1, { st := 3 })] }, fn := { streams := [(9, { st := .active, tenant := 5, layout := { heads := 1, layers := 1 }, layers := [{ wm := 0 }] })] } }, 3, { cmd 0x40 9 0 192 4 8 with strm := some 9, blk := [0, 1, 1, 1, 0, 0, 0, 0, 0, 0, 128, 63] ++ List.replicate 180 0 }, by decide +kernel⟩,
    ⟨{ withDesc 3 { cmd 0x40 9 0 192 4294967300 8 with strm := some 9, blk := [0, 1, 1, 1, 0, 0, 0, 0, 0, 0, 128, 63] ++ List.replicate 180 0 } with cr := { clusters := [(1, { st := 3 })] }, fn := { streams := [(9, { st := .active, tenant := 5, layout := { heads := 1, layers := 1 }, layers := [{ wm := 0 }] })] } }, 3, { cmd 0x40 9 0 192 4294967300 8 with strm := some 9, blk := [0, 1, 1, 1, 0, 0, 0, 0, 0, 0, 128, 63] ++ List.replicate 180 0 }, by decide +kernel⟩,
    ⟨{ withDesc 3 (cmd 0x40 9 0 192 4 8) with fn := { streams := [(9, { st := .active, tenant := 5, layout := { heads := 1, layers := 1 }, layers := [{ wm := 8 }] })] } }, 3, cmd 0x40 9 0 192 4 8, 3, {}, by decide +kernel⟩,
    ⟨{ withDesc 3 { cmd 0x43 9 0 192 4 8 with strm := some 9, blk := [0, 1, 1, 0, 0, 0, 0, 0, 0, 0, 128, 63] ++ List.replicate 180 0 } with cr := { clusters := [(1, { st := 3 })] }, fn := { streams := [(9, { st := .active, tenant := 5, layout := { heads := 1, layers := 1 }, layers := [{ wm := 8 }] })] } }, 3, { cmd 0x43 9 0 192 4 8 with strm := some 9, blk := [0, 1, 1, 0, 0, 0, 0, 0, 0, 0, 128, 63] ++ List.replicate 180 0 }, by decide +kernel⟩,
    ⟨{ withDesc 3 { cmd 0x43 9 0 192 4 8 with strm := some 9, blk := [0, 1, 1, 0, 0, 0, 0, 0, 0, 0, 128, 63] ++ List.replicate 180 0 } with fn := { streams := [(9, { st := .active, tenant := 5, layout := { heads := 1, layers := 1 }, layers := [{ wm := 8 }] })] } }, 3, { cmd 0x43 9 0 192 4 8 with strm := some 9, blk := [0, 1, 1, 0, 0, 0, 0, 0, 0, 0, 128, 63] ++ List.replicate 180 0 }, by decide +kernel⟩⟩

theorem test_meets_carrel_commands_complete_2 :
    (∃ (s : State) (d : Nat) (x : Desc), Runs s d 0x43 x ∧ s.attendFault x true = none ∧ s.wmMet x = true ∧ s.budget x.e ≠ 0) ∧
    (∃ (s : State) (d : Nat) (x : Desc), Runs s d 0x43 x ∧ s.attendFault x true = none ∧ s.wmMet x = false ∧ s.budget x.e = 0) ∧
    (∃ (s : State) (d : Nat) (x : Desc), Runs s d 0x43 x ∧ s.attendFault x true = none ∧ s.wmMet x = false ∧ s.budget x.e ≠ 0) ∧
    (∃ (s : State) (d : Nat) (x : Desc) (k : Nat) (r : Result), Runs s d 0x43 x ∧ s.attendFault x true = some (k, r)) ∧
    (∃ (s : State) (d : Nat) (x : Desc), Runs s d 0x41 x ∧ (reduceReq x.blk).ok x.e.len = true ∧ (s.plan x).bytes ≤ 67108864 ∧ s.budget x.e = 0 ∧ s.canDispatch d = true) ∧
    (∃ (s : State) (d : Nat) (x : Desc), Runs s d 0x41 x ∧ (reduceReq x.blk).ok x.e.len = true ∧ (s.plan x).bytes ≤ 67108864 ∧ s.budget x.e = 0 ∧ s.canDispatch d = false) ∧
    (∃ (s : State) (d : Nat) (x : Desc), Runs s d 0x41 x ∧ (reduceReq x.blk).ok x.e.len = true ∧ (s.plan x).bytes ≤ 67108864 ∧ s.budget x.e ≠ 0) ∧
    (∃ (s : State) (d : Nat) (x : Desc), Runs s d 0x41 x ∧ ((reduceReq x.blk).ok x.e.len = false ∨ 67108864 < (s.plan x).bytes)) :=
  ⟨⟨{ withDesc 3 { cmd 0x43 9 0 192 4294967300 8 with strm := some 9, blk := [0, 1, 1, 0, 0, 0, 0, 0, 0, 0, 128, 63] ++ List.replicate 180 0 } with fn := { streams := [(9, { st := .active, tenant := 5, layout := { heads := 1, layers := 1 }, layers := [{ wm := 8 }] })] } }, 3, { cmd 0x43 9 0 192 4294967300 8 with strm := some 9, blk := [0, 1, 1, 0, 0, 0, 0, 0, 0, 0, 128, 63] ++ List.replicate 180 0 }, by decide +kernel⟩,
    ⟨{ withDesc 3 { cmd 0x43 9 0 192 4 8 with strm := some 9, blk := [0, 1, 1, 0, 0, 0, 0, 0, 0, 0, 128, 63] ++ List.replicate 180 0 } with cr := { clusters := [(1, { st := 3 })] }, fn := { streams := [(9, { st := .active, tenant := 5, layout := { heads := 1, layers := 1 }, layers := [{ wm := 0 }] })] } }, 3, { cmd 0x43 9 0 192 4 8 with strm := some 9, blk := [0, 1, 1, 0, 0, 0, 0, 0, 0, 0, 128, 63] ++ List.replicate 180 0 }, by decide +kernel⟩,
    ⟨{ withDesc 3 { cmd 0x43 9 0 192 4294967300 8 with strm := some 9, blk := [0, 1, 1, 0, 0, 0, 0, 0, 0, 0, 128, 63] ++ List.replicate 180 0 } with cr := { clusters := [(1, { st := 3 })] }, fn := { streams := [(9, { st := .active, tenant := 5, layout := { heads := 1, layers := 1 }, layers := [{ wm := 0 }] })] } }, 3, { cmd 0x43 9 0 192 4294967300 8 with strm := some 9, blk := [0, 1, 1, 0, 0, 0, 0, 0, 0, 0, 128, 63] ++ List.replicate 180 0 }, by decide +kernel⟩,
    ⟨{ withDesc 3 (cmd 0x43 9 0 192 4 8) with fn := { streams := [(9, { st := .active, tenant := 5, layout := { heads := 1, layers := 1 }, layers := [{ wm := 8 }] })] } }, 3, cmd 0x43 9 0 192 4 8, 3, {}, by decide +kernel⟩,
    ⟨{ withDesc 3 { cmd 0x41 9 0 592 0 8 with blk := [0, 2, 0, 0, 1, 0, 0, 0] ++ List.replicate 584 0 } with cr := { clusters := [(1, { st := 3 })] } }, 3, { cmd 0x41 9 0 592 0 8 with blk := [0, 2, 0, 0, 1, 0, 0, 0] ++ List.replicate 584 0 }, by decide +kernel⟩,
    ⟨withDesc 3 { cmd 0x41 9 0 592 0 8 with blk := [0, 2, 0, 0, 1, 0, 0, 0] ++ List.replicate 584 0 }, 3, { cmd 0x41 9 0 592 0 8 with blk := [0, 2, 0, 0, 1, 0, 0, 0] ++ List.replicate 584 0 }, by decide +kernel⟩,
    ⟨withDesc 3 { cmd 0x41 9 0 592 4294967296 8 with blk := [0, 2, 0, 0, 1, 0, 0, 0] ++ List.replicate 584 0 }, 3, { cmd 0x41 9 0 592 4294967296 8 with blk := [0, 2, 0, 0, 1, 0, 0, 0] ++ List.replicate 584 0 }, by decide +kernel⟩,
    ⟨withDesc 3 (cmd 0x41 9 0 592 0 8), 3, (cmd 0x41 9 0 592 0 8), by decide +kernel⟩⟩

theorem test_meets_carrel_commands_complete_3 :
    (∃ (s : State) (d : Nat) (x : Desc), Runs s d 0x42 x ∧ s.fld F_FN_WAIT_DEFAULT_WAIT = 0 ∧ s.canDispatch d = true) ∧
    (∃ (s : State) (d : Nat) (x : Desc), Runs s d 0x42 x ∧ s.fld F_FN_WAIT_DEFAULT_WAIT = 0 ∧ s.canDispatch d = false) ∧
    (∃ (s : State) (d : Nat) (x : Desc), Runs s d 0x42 x ∧ s.fld F_FN_WAIT_DEFAULT_WAIT ≠ 0) ∧
    (∃ (s : State) (d : Nat) (x : Desc), Waits s d .carrel x ∧ s.canDispatch d = true) ∧
    (∃ (s : State) (d : Nat) (x : Desc), Waits s d .carrel x ∧ s.canDispatch d = false) ∧
    (∃ (s : State) (d : Nat) (x : Desc), Waits s d .carrel x ∧ s.waitedOut x (if x.e.opcode = 0x42 then s.fld F_FN_WAIT_DEFAULT_WAIT else s.budget x.e) = true ∧ s.canDispatch d = true) ∧
    (∃ (s : State) (d : Nat) (x : Desc), Waits s d .carrel x ∧ s.waitedOut x (if x.e.opcode = 0x42 then s.fld F_FN_WAIT_DEFAULT_WAIT else s.budget x.e) = true ∧ s.canDispatch d = false) ∧
    (∃ (s : State) (d : Nat) (x : Desc), Waits s d .carrel x ∧ s.waitedOut x (if x.e.opcode = 0x42 then s.fld F_FN_WAIT_DEFAULT_WAIT else s.budget x.e) = false) :=
  ⟨⟨{ withDesc 3 (cmd 0x42 9 0 16) with cr := { clusters := [(1, { st := 3 })] }, regs := [(F_FN_WAIT_DEFAULT_WAIT.key 0, 0)] }, 3, (cmd 0x42 9 0 16), by decide +kernel⟩,
    ⟨{ withDesc 3 (cmd 0x42 9 0 16) with regs := [(F_FN_WAIT_DEFAULT_WAIT.key 0, 0)] }, 3, (cmd 0x42 9 0 16), by decide +kernel⟩,
    ⟨{ withDesc 3 (cmd 0x42 9 0 16) with regs := [(F_FN_WAIT_DEFAULT_WAIT.key 0, 9)] }, 3, (cmd 0x42 9 0 16), by decide +kernel⟩,
    ⟨{ withDesc 3 { cmd 0x42 9 0 16 with stage := .wait .carrel } with cr := { clusters := [(1, { st := 3 })] } }, 3, { cmd 0x42 9 0 16 with stage := .wait .carrel }, by decide +kernel⟩,
    ⟨withDesc 3 { cmd 0x42 9 0 16 with stage := .wait .carrel }, 3, { cmd 0x42 9 0 16 with stage := .wait .carrel }, by decide +kernel⟩,
    ⟨{ withDesc 3 { cmd 0x42 9 0 16 with stage := .wait .carrel } with now := 1000000000000, cr := { clusters := [(1, { st := 3 })] } }, 3, { cmd 0x42 9 0 16 with stage := .wait .carrel }, by decide +kernel⟩,
    ⟨{ withDesc 3 { cmd 0x42 9 0 16 with stage := .wait .carrel } with now := 1000000000000 }, 3, { cmd 0x42 9 0 16 with stage := .wait .carrel }, by decide +kernel⟩,
    ⟨withDesc 3 { cmd 0x42 9 0 16 with stage := .wait .carrel }, 3, { cmd 0x42 9 0 16 with stage := .wait .carrel }, by decide +kernel⟩⟩

theorem test_meets_carrel_tasks_and_clusters_1 :
    (∃ (s : State) (u : State) (c : Nat) (n : Nat) (d : Nat) (i : Nat), c < 64 ∧ (s.carrel c).halted = false ∧ (s.carrel c).task = none ∧ s.clusterReady (c / 8) = true ∧ s.pickTenant c = some (n, u) ∧ s.nextTask n c = some (d, i) ∧ i < (s.carrelCmd d).tasks.length) ∧
    (∃ (s : State) (c : Nat), (64 ≤ c ∨ (s.carrel c).halted = true ∨ (s.carrel c).task ≠ none ∨ s.clusterReady (c / 8) = false ∨ s.pickTenant c = none)) ∧
    (∃ (s : State) (u : State) (c : Nat) (d : Nat) (i : Nat) (r : List Piece), (s.carrel c).task = some (d, i) ∧ (s.carrel c).halted = false ∧ r = s.taskReads (s.desc d) ((s.carrel c).args.getD (s.taskArgs d i)) ∧ s.readWaits (s.desc d).e.tenant r = false ∧ s.outOfTurn (s.desc d).e.tenant r [] = false ∧ u = s.payTurns (s.desc d).e.tenant r [] ∧ (u.runTask c d i).2.met.status = .ok ∧ i < (s.carrelCmd d).tasks.length ∧ (∃ k ∈ (s.carrelCmd d).tasks.eraseIdx i, k.st ≠ 2)) ∧
    (∃ (s : State) (c : Nat) (d : Nat) (i : Nat) (x : Desc), (s.carrel c).task = some (d, i) ∧ (s.carrel c).halted = false ∧ s.desc? d = some x ∧ x.e.opcode = 0x41 ∧ x.stage ≠ .done ∧ x.e.flag 9 = false ∧ i < (s.carrelCmd d).tasks.length ∧ (∀ k ∈ (s.carrelCmd d).tasks.eraseIdx i, k.st = 2) ∧ (s.queue x.q).isLink = false ∧ s.noHost x.q = false ∧ s.hostFault = none) ∧
    (∃ (s : State) (u : State) (c : Nat) (d : Nat) (i : Nat) (x : Desc) (r : List Piece), (s.carrel c).task = some (d, i) ∧ (s.carrel c).halted = false ∧ s.desc? d = some x ∧ x.stage ≠ .done ∧ r = s.taskReads x ((s.carrel c).args.getD (s.taskArgs d i)) ∧ s.readWaits x.e.tenant r = false ∧ s.outOfTurn x.e.tenant r [] = false ∧ u = s.payTurns x.e.tenant r [] ∧ (u.runTask c d i).2.met.status ≠ .ok) ∧
    (∃ (s : State) (c : Nat), ((s.carrel c).task = none ∨ (s.carrel c).halted = true)) ∧
    (∃ (s : State) (c : Nat) (d : Nat) (i : Nat) (r : List Piece), (s.carrel c).task = some (d, i) ∧ r = s.taskReads (s.desc d) ((s.carrel c).args.getD (s.taskArgs d i)) ∧ (s.readWaits (s.desc d).e.tenant r = true ∨ s.outOfTurn (s.desc d).e.tenant r [] = true)) ∧
    (∃ (s : State) (c : Nat) (d : Nat) (i : Nat), (s.carrel c).task = some (d, i) ∧ ((s.carrelCmd d).tasks.getD i {}).tries = 0 ∧ i < (s.carrelCmd d).tasks.length) :=
  ⟨⟨{ withDesc 3 { cmd 0x41 9 0 592 with stage := .exec, blk := [0, 2, 0, 0, 70, 0, 0, 0] ++ List.replicate 584 0 } with cr := { clusters := [(1, { st := 3 })], cmds := [(3, { order := 1, tasks := [{}, {}] })], carrels := [(9, { last := some 6 })] } }, ((({ withDesc 3 { cmd 0x41 9 0 592 with stage := .exec, blk := [0, 2, 0, 0, 70, 0, 0, 0] ++ List.replicate 584 0 } with cr := { clusters := [(1, { st := 3 })], cmds := [(3, { order := 1, tasks := [{}, {}] })], carrels := [(9, { last := some 6 })] } } : State).pickTenant 9).map (·.2)).getD {}, 9, 5, 3, 0, by decide +kernel⟩,
    ⟨{ withDesc 3 { cmd 0x41 9 0 592 with stage := .exec, blk := [0, 2, 0, 0, 70, 0, 0, 0] ++ List.replicate 584 0 } with cr := { clusters := [(1, { st := 3 })] } }, 9, by decide +kernel⟩,
    ⟨{ withDesc 3 { cmd 0x41 9 0 592 with stage := .exec, blk := [0, 2, 0, 0, 70, 0, 0, 0] ++ List.replicate 584 0 } with cr := { clusters := [(1, { st := 3 })], cmds := [(3, { order := 1, tasks := [{ st := 1, carrel := 9 }, {}] })], carrels := [(9, { task := some (3, 0) })] } }, { withDesc 3 { cmd 0x41 9 0 592 with stage := .exec, blk := [0, 2, 0, 0, 70, 0, 0, 0] ++ List.replicate 584 0 } with cr := { clusters := [(1, { st := 3 })], cmds := [(3, { order := 1, tasks := [{ st := 1, carrel := 9 }, {}] })], carrels := [(9, { task := some (3, 0) })] } }, 9, 3, 0, [], by decide +kernel⟩,
    ⟨{ withDesc 3 { cmd 0x41 9 0 592 with stage := .exec, blk := [0, 2, 0, 0, 70, 0, 0, 0] ++ List.replicate 584 0 } with cr := { clusters := [(1, { st := 3 })], cmds := [(3, { order := 1, tasks := [{ st := 1, carrel := 9 }] })], carrels := [(9, { task := some (3, 0) })] }, regs := [(F_HP_STATUS_RATE.key 0, 5)], ir := { fns := [(0, { bme := true })] } }, 9, 3, 0, { cmd 0x41 9 0 592 with stage := .exec, blk := [0, 2, 0, 0, 70, 0, 0, 0] ++ List.replicate 584 0 }, by decide +kernel⟩,
    ⟨{ withDesc 3 { cmd 0x42 0 0 16 with stage := .exec, src := [7], smeta := [0] } with cr := { clusters := [(1, { st := 3 })], cmds := [(3, { order := 1, tasks := [{ st := 1, carrel := 9 }] })], carrels := [(9, { task := some (3, 0) })] }, poison := [1792] }, ({ withDesc 3 { cmd 0x42 0 0 16 with stage := .exec, src := [7], smeta := [0] } with cr := { clusters := [(1, { st := 3 })], cmds := [(3, { order := 1, tasks := [{ st := 1, carrel := 9 }] })], carrels := [(9, { task := some (3, 0) })] }, poison := [1792] } : State).payTurns 5 (({ withDesc 3 { cmd 0x42 0 0 16 with stage := .exec, src := [7], smeta := [0] } with cr := { clusters := [(1, { st := 3 })], cmds := [(3, { order := 1, tasks := [{ st := 1, carrel := 9 }] })], carrels := [(9, { task := some (3, 0) })] }, poison := [1792] } : State).taskReads { cmd 0x42 0 0 16 with stage := .exec, src := [7], smeta := [0] } (({ withDesc 3 { cmd 0x42 0 0 16 with stage := .exec, src := [7], smeta := [0] } with cr := { clusters := [(1, { st := 3 })], cmds := [(3, { order := 1, tasks := [{ st := 1, carrel := 9 }] })], carrels := [(9, { task := some (3, 0) })] }, poison := [1792] } : State).taskArgs 3 0)) [], 9, 3, 0, { cmd 0x42 0 0 16 with stage := .exec, src := [7], smeta := [0] }, ({ withDesc 3 { cmd 0x42 0 0 16 with stage := .exec, src := [7], smeta := [0] } with cr := { clusters := [(1, { st := 3 })], cmds := [(3, { order := 1, tasks := [{ st := 1, carrel := 9 }] })], carrels := [(9, { task := some (3, 0) })] }, poison := [1792] } : State).taskReads { cmd 0x42 0 0 16 with stage := .exec, src := [7], smeta := [0] } (({ withDesc 3 { cmd 0x42 0 0 16 with stage := .exec, src := [7], smeta := [0] } with cr := { clusters := [(1, { st := 3 })], cmds := [(3, { order := 1, tasks := [{ st := 1, carrel := 9 }] })], carrels := [(9, { task := some (3, 0) })] }, poison := [1792] } : State).taskArgs 3 0), by decide +kernel⟩,
    ⟨({} : State), 9, by decide +kernel⟩,
    ⟨{ withDesc 3 { cmd 0x42 0 0 16 with stage := .exec, src := [7], smeta := [0] } with regs := [(F_HB_STATUS_SET.key 0, 15)], mc := { units := [(16, { selfRef := true })] }, cr := { clusters := [(1, { st := 3 })], cmds := [(3, { order := 1, tasks := [{ st := 1, carrel := 9 }] })], carrels := [(9, { task := some (3, 0) })] } }, 9, 3, 0, ({ withDesc 3 { cmd 0x42 0 0 16 with stage := .exec, src := [7], smeta := [0] } with regs := [(F_HB_STATUS_SET.key 0, 15)], mc := { units := [(16, { selfRef := true })] }, cr := { clusters := [(1, { st := 3 })], cmds := [(3, { order := 1, tasks := [{ st := 1, carrel := 9 }] })], carrels := [(9, { task := some (3, 0) })] } } : State).taskReads { cmd 0x42 0 0 16 with stage := .exec, src := [7], smeta := [0] } (({ withDesc 3 { cmd 0x42 0 0 16 with stage := .exec, src := [7], smeta := [0] } with regs := [(F_HB_STATUS_SET.key 0, 15)], mc := { units := [(16, { selfRef := true })] }, cr := { clusters := [(1, { st := 3 })], cmds := [(3, { order := 1, tasks := [{ st := 1, carrel := 9 }] })], carrels := [(9, { task := some (3, 0) })] } } : State).taskArgs 3 0), by decide +kernel⟩,
    ⟨{ withDesc 3 { cmd 0x41 9 0 592 with stage := .exec, blk := [0, 2, 0, 0, 70, 0, 0, 0] ++ List.replicate 584 0 } with cr := { clusters := [(1, { st := 3 })], cmds := [(3, { order := 1, tasks := [{ st := 1, carrel := 9 }, {}] })], carrels := [(9, { task := some (3, 0) })] } }, 9, 3, 0, by decide +kernel⟩⟩

theorem test_meets_carrel_tasks_and_clusters_2 :
    (∃ (s : State) (c : Nat) (d : Nat) (i : Nat) (x : Desc), (s.carrel c).task = some (d, i) ∧ s.desc? d = some x ∧ x.stage ≠ .done ∧ ((s.carrelCmd d).tasks.getD i {}).tries ≠ 0) ∧
    (∃ (s : State) (c : Nat), (s.carrel c).task = none) ∧
    (∃ (s : State) (c : Nat) (d : Nat) (i : Nat), (s.carrel c).task = some (d, i) ∧ ((s.carrelCmd d).tasks.getD i {}).tries = 0 ∧ i < (s.carrelCmd d).tasks.length) ∧
    (∃ (s : State) (c : Nat) (d : Nat) (i : Nat) (x : Desc), (s.carrel c).task = some (d, i) ∧ s.desc? d = some x ∧ x.stage ≠ .done ∧ ((s.carrelCmd d).tasks.getD i {}).tries ≠ 0) ∧
    (∃ (s : State) (c : Nat), (s.carrel c).task = none) ∧
    (∃ (s : State) (p : Port) (k : Nat), s.answers p clusterCtlOff = true ∧ pfOrFw p = true ∧ k < 8 ∧ (s.cluster k).st ≠ 4 ∧ (s.cluster k).st ≠ 5 ∧ s.clusterBusy k = false) ∧
    (∃ (s : State) (p : Port) (k : Nat), s.answers p clusterCtlOff = true ∧ pfOrFw p = true ∧ k < 8 ∧ (s.cluster k).st ≠ 4 ∧ (s.cluster k).st ≠ 5 ∧ s.clusterBusy k = true) ∧
    (∃ (s : State) (p : Port) (k : Nat), s.answers p clusterCtlOff = true ∧ pfOrFw p = true ∧ ((s.cluster k).st = 4 ∨ (s.cluster k).st = 5)) :=
  ⟨⟨{ withDesc 3 { cmd 0x41 9 0 592 with stage := .exec, blk := [0, 2, 0, 0, 70, 0, 0, 0] ++ List.replicate 584 0 } with cr := { clusters := [(1, { st := 3 })], cmds := [(3, { order := 1, tasks := [{ st := 1, carrel := 9, tries := 1 }, {}] })], carrels := [(9, { task := some (3, 0) })] } }, 9, 3, 0, { cmd 0x41 9 0 592 with stage := .exec, blk := [0, 2, 0, 0, 70, 0, 0, 0] ++ List.replicate 584 0 }, by decide +kernel⟩,
    ⟨({} : State), 9, by decide +kernel⟩,
    ⟨{ withDesc 3 { cmd 0x41 9 0 592 with stage := .exec, blk := [0, 2, 0, 0, 70, 0, 0, 0] ++ List.replicate 584 0 } with cr := { clusters := [(1, { st := 3 })], cmds := [(3, { order := 1, tasks := [{ st := 1, carrel := 9 }, {}] })], carrels := [(9, { task := some (3, 0) })] } }, 9, 3, 0, by decide +kernel⟩,
    ⟨{ withDesc 3 { cmd 0x41 9 0 592 with stage := .exec, blk := [0, 2, 0, 0, 70, 0, 0, 0] ++ List.replicate 584 0 } with cr := { clusters := [(1, { st := 3 })], cmds := [(3, { order := 1, tasks := [{ st := 1, carrel := 9, tries := 1 }, {}] })], carrels := [(9, { task := some (3, 0) })] } }, 9, 3, 0, { cmd 0x41 9 0 592 with stage := .exec, blk := [0, 2, 0, 0, 70, 0, 0, 0] ++ List.replicate 584 0 }, by decide +kernel⟩,
    ⟨({} : State), 9, by decide +kernel⟩,
    ⟨{ ({} : State) with cr := { clusters := [(7, { st := 3 })] }, regs := [(F_TOP_BOOT_STATUS_STAGE.key 0, 3)] }, .pf, 7, by decide +kernel⟩,
    ⟨{ ({} : State) with cr := { clusters := [(7, { st := 3 })], carrels := [(57, { task := some (3, 0) })] }, regs := [(F_TOP_BOOT_STATUS_STAGE.key 0, 3)] }, .pf, 7, by decide +kernel⟩,
    ⟨{ ({} : State) with cr := { clusters := [(7, { st := 4 })] }, regs := [(F_TOP_BOOT_STATUS_STAGE.key 0, 3)] }, .pf, 7, by decide +kernel⟩⟩

theorem test_meets_carrel_tasks_and_clusters_3 :
    (∃ (s : State) (p : Port), s.answers p clusterCtlOff = true ∧ pfOrFw p = false) ∧
    (∃ (s : State) (p : Port) (k : Nat), s.answers p clusterCtlOff = true ∧ pfOrFw p = true ∧ k < 8 ∧ s.jobOn 2 k 0 = false ∧ (s.cluster k).st = 4) ∧
    (∃ (s : State) (p : Port) (k : Nat), s.answers p clusterCtlOff = true ∧ pfOrFw p = true ∧ s.jobOn 2 k 0 = false ∧ (s.cluster k).st ≠ 4) ∧
    (∃ (s : State) (p : Port) (k : Nat), s.answers p clusterCtlOff = true ∧ (pfOrFw p = false ∨ (k < 8 ∧ s.jobOn 2 k 0 = true))) ∧
    (∃ (s : State) (k : Nat), k < 8 ∧ (s.cluster k).st = 5 ∧ (s.cluster k).boot = false) ∧
    (∃ (s : State) (k : Nat), (s.cluster k).st = 5 ∧ (s.cluster k).boot = true) ∧
    (∃ (s : State) (k : Nat), (s.cluster k).st = 5) ∧
    (∃ (s : State) (k : Nat), (s.cluster k).st = 5) :=
  ⟨⟨{ ({} : State) with cr := { clusters := [(7, { st := 3 })] }, regs := [(F_TOP_BOOT_STATUS_STAGE.key 0, 3)] }, .vf 3, by decide +kernel⟩,
    ⟨{ ({} : State) with cr := { clusters := [(7, { st := 4 })] }, regs := [(F_TOP_BOOT_STATUS_STAGE.key 0, 3)] }, .fw, 7, by decide +kernel⟩,
    ⟨{ ({} : State) with cr := { clusters := [(7, { st := 3 })] }, regs := [(F_TOP_BOOT_STATUS_STAGE.key 0, 3)] }, .fw, 7, by decide +kernel⟩,
    ⟨{ ({} : State) with regs := [(F_TOP_BOOT_STATUS_STAGE.key 0, 3)] }, .vf 3, 7, by decide +kernel⟩,
    ⟨{ ({} : State) with cr := { clusters := [(7, { st := 5 })], carrels := [(63, { faulted := true })] } }, 7, by decide +kernel⟩,
    ⟨{ ({} : State) with cr := { clusters := [(7, { st := 5, boot := true })] }, regs := [(F_TOP_BOOT_STATUS_STAGE.key 0, 3)] }, 7, by decide +kernel⟩,
    ⟨{ ({} : State) with cr := { clusters := [(7, { st := 5 })] }, regs := [(F_TOP_BOOT_STATUS_STAGE.key 0, 3)] }, 7, by decide +kernel⟩,
    ⟨{ ({} : State) with cr := { clusters := [(7, { st := 5, boot := true })] }, regs := [(F_TOP_BOOT_STATUS_STAGE.key 0, 3)] }, 7, by decide +kernel⟩⟩

theorem test_meets_carrel_tasks_and_clusters_4 :
    (∃ (s : State) (k : Nat), (s.cluster k).st ≠ 5) ∧
    (∃ (s : State) (k : Nat) (l : List Nat), s.cr.wakes = [(k, l)] ∧ l.any s.waitsCarrel = true ∧ s.wakeOk k = true) ∧
    (∃ (s : State) (k : Nat) (l : List Nat), s.cr.wakes = [(k, l)] ∧ l.any s.waitsCarrel = true ∧ s.wakeOk k = false) ∧
    (∃ (s : State) (k : Nat), (s.cluster k).st = 2) ∧
    (∃ (s : State) (k : Nat), (s.cluster k).st ≠ 2) ∧
    (∃ (s : State) (k : Nat), s.clusterReady k = true ∧ s.clusterBusy k = false ∧ 1 ≤ s.fld F_CK_PWR_CFG_DEEPEST) ∧
    (∃ (s : State) (k : Nat), (s.clusterReady k = false ∨ s.clusterBusy k = true ∨ s.fld F_CK_PWR_CFG_DEEPEST = 0)) ∧
    (∃ (s : State) (k : Nat), (s.cluster k).st = 1 ∧ 2 ≤ s.fld F_CK_PWR_CFG_DEEPEST) :=
  ⟨⟨{ ({} : State) with cr := { clusters := [(7, { st := 3 })] }, regs := [(F_TOP_BOOT_STATUS_STAGE.key 0, 3)] }, 7, by decide +kernel⟩,
    ⟨{ ({} : State) with q := { descs := [(3, { cmd 0x42 0 0 0 with stage := .wait .carrel })] }, cr := { wakes := [(7, [0])] }, regs := [(F_PW_HEADROOM_PCT.key 0, 90), (F_PW_L_IOUT_CAP.key 1, 4000), (F_PW_L_HOT_WARN.key 1, 90)] }, 7, [0], by decide +kernel⟩,
    ⟨{ ({} : State) with q := { descs := [(3, { cmd 0x42 0 0 0 with stage := .wait .carrel })] }, cr := { wakes := [(7, [0])] }, regs := [(F_PW_L_HOT_WARN.key 1, 0)] }, 7, [0], by decide +kernel⟩,
    ⟨{ ({} : State) with cr := { clusters := [(7, { st := 2 })] }, regs := [(F_TOP_BOOT_STATUS_STAGE.key 0, 3)] }, 7, by decide +kernel⟩,
    ⟨{ ({} : State) with cr := { clusters := [(7, { st := 3 })] }, regs := [(F_TOP_BOOT_STATUS_STAGE.key 0, 3)] }, 7, by decide +kernel⟩,
    ⟨{ ({} : State) with cr := { clusters := [(7, { st := 3 })] }, regs := [(F_CK_PWR_CFG_DEEPEST.key 0, 1), (F_TOP_BOOT_STATUS_STAGE.key 0, 3)] }, 7, by decide +kernel⟩,
    ⟨{ ({} : State) with cr := { clusters := [(7, { st := 2 })] }, regs := [(F_TOP_BOOT_STATUS_STAGE.key 0, 3)] }, 7, by decide +kernel⟩,
    ⟨{ ({} : State) with cr := { clusters := [(7, { st := 1 })] }, regs := [(F_CK_PWR_CFG_DEEPEST.key 0, 2), (F_TOP_BOOT_STATUS_STAGE.key 0, 3)] }, 7, by decide +kernel⟩⟩

theorem test_meets_carrel_tasks_and_clusters_5 :
    (∃ (s : State) (k : Nat), ((s.cluster k).st ≠ 1 ∨ s.fld F_CK_PWR_CFG_DEEPEST < 2)) :=
  ⟨{ ({} : State) with cr := { clusters := [(7, { st := 3 })] }, regs := [(F_TOP_BOOT_STATUS_STAGE.key 0, 3)] }, 7, by decide +kernel⟩

theorem test_meets_cache_commands_take_effect_1 :
    (∃ (s : State) (w : Sweep), s.sk.sweeps.find? (·.started) = some w) ∧
    (∃ (s : State), s.sk.sweeps.any (·.started) = false) ∧
    (∃ (s : State) (p : Port) (k : Nat), s.answers p (bar0 5 0x1008) = true ∧ pfOrFw p = true ∧ k < 8 ∧ inSet s.sk.flushing k = false) ∧
    (∃ (s : State) (p : Port) (k : Nat), s.answers p (bar0 5 0x1008) = true ∧ pfOrFw p = true ∧ inSet s.sk.flushing k = true) ∧
    (∃ (s : State) (p : Port), s.answers p (bar0 5 0x1008) = true ∧ pfOrFw p = false) ∧
    (∃ (s : State) (p : Port) (k : Nat) (v : Nat), s.answers p (bar0 5 0x1000) = true ∧ pfOrFw p = true ∧ k < 8 ∧ s.pinSum - s.fld F_SK_P_LIMIT_LIMIT k + v % 2 ^ 18 ≤ 196608) ∧
    (∃ (s : State) (p : Port) (k : Nat) (v : Nat), s.answers p (bar0 5 0x1000) = true ∧ pfOrFw p = true ∧ k < 8 ∧ 196608 < s.pinSum - s.fld F_SK_P_LIMIT_LIMIT k + v % 2 ^ 18) ∧
    (∃ (s : State) (p : Port), s.answers p (bar0 5 0x1000) = true ∧ pfOrFw p = false) :=
  ⟨⟨{ ({} : State) with sk := { sets := [(setOf 1798, { lines := [{ sec := 1798, handle := 0, pin := 8 }] })], sweeps := [{ seq := 0, pin := 1, dfns := [7], parts := [], started := true }] } }, { seq := 0, pin := 1, dfns := [7], parts := [], started := true }, by decide +kernel⟩,
    ⟨{ ({} : State) with sk := { sweeps := [{ seq := 0, pin := 1, dfns := [7], parts := [] }] } }, by decide +kernel⟩,
    ⟨{ ({} : State) with sk := { sets := [(6, { lines := [{ sec := 6, handle := 0, pin := 8 }] })] }, regs := [(F_TOP_BOOT_STATUS_STAGE.key 0, 3)] }, .pf, 7, by decide +kernel⟩,
    ⟨{ ({} : State) with sk := { flushing := [7] }, regs := [(F_TOP_BOOT_STATUS_STAGE.key 0, 3)] }, .pf, 7, by decide +kernel⟩,
    ⟨{ ({} : State) with sk := { sets := [(6, { lines := [{ sec := 6, handle := 0, pin := 8 }] })] }, regs := [(F_TOP_BOOT_STATUS_STAGE.key 0, 3)] }, .vf 3, by decide +kernel⟩,
    ⟨{ ({} : State) with sk := { sets := [(6, { lines := [{ sec := 6, handle := 0, pin := 8 }] })] }, regs := [(F_TOP_BOOT_STATUS_STAGE.key 0, 3)] }, .fw, 7, 4096, by decide +kernel⟩,
    ⟨{ ({} : State) with sk := { sets := [(6, { lines := [{ sec := 6, handle := 0, pin := 8 }] })] }, regs := [(F_TOP_BOOT_STATUS_STAGE.key 0, 3)] }, .fw, 7, 196609, by decide +kernel⟩,
    ⟨{ ({} : State) with sk := { sets := [(6, { lines := [{ sec := 6, handle := 0, pin := 8 }] })] }, regs := [(F_TOP_BOOT_STATUS_STAGE.key 0, 3)] }, .vf 3, by decide +kernel⟩⟩

theorem test_meets_cache_commands_take_effect_2 :
    (∃ (s : State) (k : Nat), inSet s.sk.demoting k = true) ∧
    (∃ (s : State) (k : Nat), inSet s.sk.demoting k = false) ∧
    (∃ (s : State) (n : Nat), (s.cset (setOf n)).lines.any (fun l => l.sec == n) = true) ∧
    (∃ (s : State) (n : Nat), (s.cset (setOf n)).lines.any (fun l => l.sec == n) = false) ∧
    (∃ (s : State) (n : Nat), n < 24576 ∧ (s.cset n).off = false) ∧
    (∃ (s : State) (n : Nat), (s.cset n).off = true) ∧
    (∃ (c : Nat), c < 64) ∧
    (∃ (s : State) (c : Nat), c < 64 ∧ (s.recent (s.unitRec (unitKey 6 (c / 8)))).length < 2 ∧ (s.unitRec (unitKey 6 (c / 8))).queued = none) :=
  ⟨⟨{ ({} : State) with sk := { demoting := [7], sets := [(6, { lines := [{ sec := 6, handle := 0, pin := 8 }] })] } }, 7, by decide +kernel⟩,
    ⟨{ ({} : State) with sk := { sets := [(6, { lines := [{ sec := 6, handle := 0, pin := 8 }] })] } }, 7, by decide +kernel⟩,
    ⟨{ ({} : State) with sk := { sets := [(setOf 6, { lines := [{ sec := 6, handle := 0, pin := 8 }] })] } }, 6, by decide +kernel⟩,
    ⟨{}, 6, by decide +kernel⟩,
    ⟨{ ({} : State) with sk := { sets := [(6, { lines := [{ sec := 6, handle := 0, pin := 8 }] })] } }, 6, by decide +kernel⟩,
    ⟨{ ({} : State) with sk := { sets := [(6, { off := true })] } }, 6, by decide +kernel⟩,
    ⟨63, by decide +kernel⟩,
    ⟨{ ({} : State) with cr := { carrels := [(63, { consts := [{ strm := 9, layer := 0, head := 0, k := 7, v := 7 }], last := some 5 })] } }, 63, by decide +kernel⟩⟩

theorem test_meets_projection_and_solver_complete_1 :
    (∃ (s : State) (d : Nat) (x : Desc), Runs s d 0x23 x ∧ s.noHost x.q = false ∧ (s.hasTracker x = true ∨ (((s.stream (x.strm.getD 0)).layers.getD x.aux {}).trk.length < 16 ∧ x.aux < (s.stream (x.strm.getD 0)).layers.length)) ∧ (s.chooseUnit ≠ none ∨ s.budget x.e ≠ 0)) ∧
    (∃ (s : State) (d : Nat) (x : Desc), Runs s d 0x23 x ∧ s.noHost x.q = false ∧ (s.hasTracker x = true ∨ (((s.stream (x.strm.getD 0)).layers.getD x.aux {}).trk.length < 16 ∧ x.aux < (s.stream (x.strm.getD 0)).layers.length)) ∧ s.chooseUnit = none ∧ s.budget x.e = 0) ∧
    (∃ (s : State) (d : Nat) (x : Desc), Runs s d 0x23 x ∧ s.noHost x.q = false ∧ s.hasTracker x = false ∧ 16 ≤ ((s.stream (x.strm.getD 0)).layers.getD x.aux {}).trk.length ∧ s.budget x.e ≠ 0) ∧
    (∃ (s : State) (d : Nat) (x : Desc), Runs s d 0x23 x ∧ s.noHost x.q = false ∧ s.hasTracker x = false ∧ 16 ≤ ((s.stream (x.strm.getD 0)).layers.getD x.aux {}).trk.length ∧ s.budget x.e = 0) ∧
    (∃ (s : State) (d : Nat) (x : Desc), Runs s d 0x23 x ∧ s.noHost x.q = true) ∧
    (∃ (s : State) (d : Nat) (x : Desc) (i : Nat), s.desc? d = some x ∧ x.e.opcode = 0x23 ∧ x.stage = .exec ∧ s.pjServed d = true ∧ s.mergeWaits x.e.tenant (s.appendPieces d) = false ∧ s.outOfTurn x.e.tenant [] (s.appendPieces d) = false ∧ x.strm = some i ∧ x.aux < (s.stream i).layers.length ∧ ((s.turned x [] (s.appendPieces d)).appendData d).2.1.status = .ok ∧ s.trackerWaiters i x.aux = []) ∧
    (∃ (s : State) (d : Nat) (x : Desc) (i : Nat) (y : Tracker), s.desc? d = some x ∧ x.e.opcode = 0x23 ∧ x.stage = .exec ∧ s.pjServed d = true ∧ s.mergeWaits x.e.tenant (s.appendPieces d) = false ∧ s.outOfTurn x.e.tenant [] (s.appendPieces d) = false ∧ x.strm = some i ∧ ((s.turned x [] (s.appendPieces d)).appendData d).2.1.status = .ok ∧ s.trackerWaiters i x.aux = [] ∧ (s.stream i).layers[x.aux]? = some { wm := y.first, trk := [y] } ∧ y.first = x.e.through ∧ y.last = x.e.through + x.e.len - 1 ∧ y.slot = x.e.slot ∧ y.mask = 0 ∧ x.e.shard = 0 ∧ (kvGet {} (s.stream i).slots y.slot).shards = 1) ∧
    (∃ (s : State) (d : Nat) (x : Desc), s.desc? d = some x ∧ x.e.opcode = 0x23 ∧ x.stage = .exec ∧ s.pjServed d = true ∧ s.mergeWaits x.e.tenant (s.appendPieces d) = false ∧ s.outOfTurn x.e.tenant [] (s.appendPieces d) = false ∧ ((s.turned x [] (s.appendPieces d)).appendData d).2.1.status ≠ .ok) :=
  ⟨⟨{ withDesc 3 { cmd 0x23 9 0 1 0 with strm := some 9 } with fn := { streams := [(9, { st := .active, tenant := 5, layout := { heads := 1, layers := 1, shards := 1 }, layers := [{ wm := 0 }] })] }, ir := { fns := [(0, { bme := true })] }, regs := [(F_FN_WAIT_DEFAULT_WAIT.key 0, 9)] }, 3, { cmd 0x23 9 0 1 0 with strm := some 9 }, by decide +kernel⟩,
    ⟨{ withDesc 3 { cmd 0x23 9 0 1 0 8 with strm := some 9 } with fn := { streams := [(9, { st := .active, tenant := 5, layout := { heads := 1, layers := 1, shards := 1 }, layers := [{ wm := 0 }] })] }, ir := { fns := [(0, { bme := true })] }, pj := (List.range 8).map (fun i => (i, { out := true })) }, 3, { cmd 0x23 9 0 1 0 8 with strm := some 9 }, by decide +kernel⟩,
    ⟨{ withDesc 3 { cmd 0x23 9 0 1 0 with strm := some 9 } with fn := { streams := [(9, { st := .active, tenant := 5, layout := { heads := 1, layers := 1, shards := 1 }, layers := [{ wm := 0, trk := List.replicate 16 { first := 7, last := 8, slot := 0, mask := 0 } }] })] }, ir := { fns := [(0, { bme := true })] }, regs := [(F_FN_WAIT_DEFAULT_WAIT.key 0, 9)] }, 3, { cmd 0x23 9 0 1 0 with strm := some 9 }, by decide +kernel⟩,
    ⟨{ withDesc 3 { cmd 0x23 9 0 1 0 8 with strm := some 9 } with fn := { streams := [(9, { st := .active, tenant := 5, layout := { heads := 1, layers := 1, shards := 1 }, layers := [{ wm := 0, trk := List.replicate 16 { first := 7, last := 8, slot := 0, mask := 0 } }] })] }, ir := { fns := [(0, { bme := true })] } }, 3, { cmd 0x23 9 0 1 0 8 with strm := some 9 }, by decide +kernel⟩,
    ⟨{ withDesc 3 { cmd 0x23 9 0 1 0 with q := 20, strm := some 9 } with q := { tab := [(20, { tenant := 5, origin := 0x80, st := .active })], descs := [(3, { cmd 0x23 9 0 1 0 with q := 20, strm := some 9 })] } }, 3, { cmd 0x23 9 0 1 0 with q := 20, strm := some 9 }, by decide +kernel⟩,
    ⟨{ withDesc 3 { cmd 0x23 9 0 1 0 with strm := some 9, stage := .exec } with fn := { streams := [(9, { st := .active, tenant := 5, slots := [(0, { shards := 1, heads := 1, tpf := 1 })], layers := [{ wm := 0, trk := [{ first := 0, last := 0, slot := 0, mask := 0 }] }] })] }, pj := [(2, { cmds := [(3, 4)] })] }, 3, { cmd 0x23 9 0 1 0 with strm := some 9, stage := .exec }, 9, by decide +kernel⟩,
    ⟨{ withDesc 3 { cmd 0x23 9 0 1 0 with strm := some 9, stage := .exec } with fn := { streams := [(9, { st := .active, tenant := 5, slots := [(0, { shards := 1, heads := 1, tpf := 1 })], layers := [{ wm := 0, trk := [{ first := 0, last := 0, slot := 0, mask := 0 }] }] })] }, pj := [(2, { cmds := [(3, 4)] })] }, 3, { cmd 0x23 9 0 1 0 with strm := some 9, stage := .exec }, 9, { first := 0, last := 0, slot := 0, mask := 0 }, by decide +kernel⟩,
    ⟨{ withDesc 3 { cmd 0x23 4194313 0 1 0 with strm := some 9, stage := .exec, bad := [(0, 1)] } with fn := { streams := [(9, { st := .active, tenant := 5, slots := [(0, { shards := 2, reps := 2, heads := 1, tpf := 1 })], layers := [{ wm := 0, trk := [{ first := 0, last := 0, slot := 0, mask := 0 }] }] })] }, pj := [(2, { cmds := [(3, 4)] })] }, 3, { cmd 0x23 4194313 0 1 0 with strm := some 9, stage := .exec, bad := [(0, 1)] }, by decide +kernel⟩⟩

theorem test_meets_projection_and_solver_complete_2 :
    (∃ (s : State) (d : Nat) (x : Desc), s.desc? d = some x ∧ s.pjServed d = false) ∧
    (∃ (s : State) (d : Nat) (x : Desc), s.desc? d = some x ∧ (s.mergeWaits x.e.tenant (s.appendPieces d) = true ∨ s.outOfTurn x.e.tenant [] (s.appendPieces d) = true)) ∧
    (∃ (s : State) (d : Nat) (x : Desc), Waits s d .tracker x ∧ s.waitedOut x (s.budget x.e) = true ∧ s.hasTracker x = false ∧ 16 ≤ ((s.stream (x.strm.getD 0)).layers.getD x.aux {}).trk.length) ∧
    (∃ (s : State) (d : Nat) (x : Desc), Waits s d .tracker x ∧ s.waitedOut x (s.budget x.e) = true ∧ (s.hasTracker x = true ∨ (((s.stream (x.strm.getD 0)).layers.getD x.aux {}).trk.length < 16 ∧ x.aux < (s.stream (x.strm.getD 0)).layers.length))) ∧
    (∃ (s : State) (d : Nat) (x : Desc), Runs s d 0x24 x ∧ s.wmMet x = true ∧ (s.chooseUnit ≠ none ∨ s.budget x.e ≠ 0)) ∧
    (∃ (s : State) (d : Nat) (x : Desc), Runs s d 0x24 x ∧ s.wmMet x = true ∧ s.chooseUnit = none ∧ s.budget x.e = 0) ∧
    (∃ (s : State) (d : Nat) (x : Desc), Runs s d 0x24 x ∧ s.wmMet x = false ∧ s.budget x.e ≠ 0) ∧
    (∃ (s : State) (d : Nat) (x : Desc), Runs s d 0x24 x ∧ s.wmMet x = false ∧ s.budget x.e = 0) :=
  ⟨⟨{ withDesc 3 { cmd 0x23 9 0 1 0 with strm := some 9, stage := .exec } with fn := { streams := [(9, { st := .active, tenant := 5, slots := [(0, { shards := 1, heads := 1, tpf := 1 })], layers := [{ wm := 0, trk := [{ first := 0, last := 0, slot := 0, mask := 0 }] }] })] } }, 3, { cmd 0x23 9 0 1 0 with strm := some 9, stage := .exec }, by decide +kernel⟩,
    ⟨{ withDesc 3 { cmd 0x23 9 0 1 0 with strm := some 9, stage := .exec, dst := [7], dmeta := [0], list := [0], data := List.replicate 512 0 } with fn := { streams := [(9, { st := .active, tenant := 5, slots := [(0, { shards := 1, heads := 1, tpf := 1, prec := 2 })], layout := { heads := 1, layers := 1, shards := 1, tpf := 1, prec := 2 }, layers := [{ wm := 0, trk := [{ first := 0, last := 0, slot := 0, mask := 0 }] }] })] }, pj := [(2, { cmds := [(3, 4)] })], regs := [(F_HB_STATUS_SET.key 0, 15)], mc := { units := [(16, { selfRef := true })] } }, 3, { cmd 0x23 9 0 1 0 with strm := some 9, stage := .exec, dst := [7], dmeta := [0], list := [0], data := List.replicate 512 0 }, by decide +kernel⟩,
    ⟨{ withDesc 3 { cmd 0x23 9 0 1 0 with strm := some 9, stage := .wait .tracker } with now := 1000000000000, fn := { streams := [(9, { st := .active, tenant := 5, layout := { heads := 1, layers := 1, shards := 1 }, layers := [{ wm := 0, trk := List.replicate 16 { first := 7, last := 8, slot := 0, mask := 0 } }] })] } }, 3, { cmd 0x23 9 0 1 0 with strm := some 9, stage := .wait .tracker }, by decide +kernel⟩,
    ⟨{ withDesc 3 { cmd 0x23 9 0 1 0 with strm := some 9, stage := .wait .tracker } with now := 1000000000000, fn := { streams := [(9, { st := .active, tenant := 5, layout := { heads := 1, layers := 1, shards := 1 }, layers := [{ wm := 0 }] })] } }, 3, { cmd 0x23 9 0 1 0 with strm := some 9, stage := .wait .tracker }, by decide +kernel⟩,
    ⟨{ withDesc 3 { cmd 0x24 9 0 1 0 with strm := some 9 } with fn := { streams := [(9, { st := .active, tenant := 5, layout := { heads := 1, layers := 1, shards := 1 }, layers := [{ wm := 8 }] })] }, regs := [(F_FN_WAIT_DEFAULT_WAIT.key 0, 9)] }, 3, { cmd 0x24 9 0 1 0 with strm := some 9 }, by decide +kernel⟩,
    ⟨{ withDesc 3 { cmd 0x24 9 0 1 0 8 with strm := some 9 } with fn := { streams := [(9, { st := .active, tenant := 5, layout := { heads := 1, layers := 1, shards := 1 }, layers := [{ wm := 8 }] })] }, pj := (List.range 8).map (fun i => (i, { out := true })) }, 3, { cmd 0x24 9 0 1 0 8 with strm := some 9 }, by decide +kernel⟩,
    ⟨{ withDesc 3 { cmd 0x24 9 0 1 0 with strm := some 9 } with fn := { streams := [(9, { st := .active, tenant := 5, layout := { heads := 1, layers := 1, shards := 1 }, layers := [{ wm := 0 }] })] }, regs := [(F_FN_WAIT_DEFAULT_WAIT.key 0, 9)] }, 3, { cmd 0x24 9 0 1 0 with strm := some 9 }, by decide +kernel⟩,
    ⟨{ withDesc 3 { cmd 0x24 9 0 1 0 8 with strm := some 9 } with fn := { streams := [(9, { st := .active, tenant := 5, layout := { heads := 1, layers := 1, shards := 1 }, layers := [{ wm := 0 }] })] } }, 3, { cmd 0x24 9 0 1 0 8 with strm := some 9 }, by decide +kernel⟩⟩

theorem test_meets_projection_and_solver_complete_3 :
    (∃ (s : State) (d : Nat) (x : Desc), s.desc? d = some x ∧ x.e.opcode = 0x24 ∧ x.stage = .exec ∧ s.pjServed d = true ∧ s.readWaits x.e.tenant (s.gatherPieces d) = false ∧ s.outOfTurn x.e.tenant (s.gatherPieces d) [] = false ∧ ((s.turned x (s.gatherPieces d) []).gatherMet d).2.status = .ok ∧ (s.queue x.q).isLink = false ∧ s.noHost x.q = false ∧ s.hostFault = none) ∧
    (∃ (s : State) (d : Nat) (x : Desc), s.desc? d = some x ∧ x.e.opcode = 0x24 ∧ x.stage = .exec ∧ s.pjServed d = true ∧ s.readWaits x.e.tenant (s.gatherPieces d) = false ∧ s.outOfTurn x.e.tenant (s.gatherPieces d) [] = false ∧ ((s.turned x (s.gatherPieces d) []).gatherMet d).2.status ≠ .ok) ∧
    (∃ (s : State) (d : Nat) (x : Desc), s.desc? d = some x ∧ x.stage = .exec ∧ (s.readWaits x.e.tenant (s.gatherPieces d) = true ∨ s.outOfTurn x.e.tenant (s.gatherPieces d) [] = true)) ∧
    (∃ (s : State) (d : Nat) (x : Desc) (u : Nat), Waits s d .unit x ∧ s.chooseUnit = some u ∧ (x.e.opcode = 0x23 ∨ x.e.opcode = 0x24)) ∧
    (∃ (s : State) (d : Nat) (x : Desc) (u : Nat), Waits s d .unit x ∧ s.waitedOut x (s.budget x.e) = true ∧ s.chooseUnit = some u ∧ (x.e.opcode = 0x23 ∨ x.e.opcode = 0x24)) ∧
    (∃ (s : State) (d : Nat) (x : Desc), Waits s d .unit x ∧ s.chooseUnit = none ∧ (x.e.opcode = 0x23 ∨ x.e.opcode = 0x24)) ∧
    (∃ (s : State) (d : Nat) (u : Nat) (v : Nat) (x : Desc), s.desc? d = some x ∧ x.stage ≠ .wait .unit ∧ (List.range 8).find? (fun u => (s.pjUnit u).out && (s.pjUnit u).cmds.any (fun c => c.1 == d)) = some u ∧ s.chooseUnit = some v) ∧
    (∃ (s : State) (d : Nat) (x : Desc), Waits s d .unit x ∧ s.waitedOut x (s.budget x.e) = true ∧ s.chooseUnit = none) :=
  ⟨⟨{ withDesc 3 { cmd 0x24 9 0 1 0 with strm := some 9, stage := .exec, src := [7], smeta := [0], list := [0] } with fn := { streams := [(9, { st := .active, tenant := 5, layout := { heads := 1, layers := 1, shards := 1, tpf := 1, prec := 1 }, slots := [(0, { shards := 1, heads := 1, tpf := 1, prec := 1 })], layers := [{ wm := 8 }] })] }, pj := [(2, { cmds := [(3, 4)] })], ir := { fns := [(0, { bme := true })] }, regs := [(F_HP_STATUS_RATE.key 0, 5)] }, 3, { cmd 0x24 9 0 1 0 with strm := some 9, stage := .exec, src := [7], smeta := [0], list := [0] }, by decide +kernel⟩,
    ⟨{ withDesc 3 { cmd 0x24 9 0 1 0 with strm := some 9, stage := .exec, src := [7], smeta := [0], list := [0] } with fn := { streams := [(9, { st := .active, tenant := 5, layout := { heads := 1, layers := 1, shards := 1, tpf := 1, prec := 1 }, slots := [(0, { shards := 1, heads := 1, tpf := 1, prec := 1 })], layers := [{ wm := 8 }] })] }, pj := [(2, { cmds := [(3, 4)] })], poison := [1792, 1793, 1794] }, 3, { cmd 0x24 9 0 1 0 with strm := some 9, stage := .exec, src := [7], smeta := [0], list := [0] }, by decide +kernel⟩,
    ⟨{ withDesc 3 { cmd 0x24 9 0 1 0 with strm := some 9, stage := .exec, src := [7], smeta := [0], list := [0] } with fn := { streams := [(9, { st := .active, tenant := 5, layout := { heads := 1, layers := 1, shards := 1, tpf := 1, prec := 1 }, slots := [(0, { shards := 1, heads := 1, tpf := 1, prec := 1 })], layers := [{ wm := 8 }] })] }, pj := [(2, { cmds := [(3, 4)] })], regs := [(F_HB_STATUS_SET.key 0, 15)], mc := { units := [(16, { selfRef := true })] } }, 3, { cmd 0x24 9 0 1 0 with strm := some 9, stage := .exec, src := [7], smeta := [0], list := [0] }, by decide +kernel⟩,
    ⟨withDesc 3 { cmd 0x24 9 0 1 0 with strm := some 9, stage := .wait .unit }, 3, { cmd 0x24 9 0 1 0 with strm := some 9, stage := .wait .unit }, 0, by decide +kernel⟩,
    ⟨{ withDesc 3 { cmd 0x24 9 0 1 0 with strm := some 9, stage := .wait .unit } with now := 1000000000000 }, 3, { cmd 0x24 9 0 1 0 with strm := some 9, stage := .wait .unit }, 0, by decide +kernel⟩,
    ⟨{ withDesc 3 { cmd 0x24 9 0 1 0 with strm := some 9, stage := .wait .unit } with pj := (List.range 8).map (fun i => (i, { out := true })) }, 3, { cmd 0x24 9 0 1 0 with strm := some 9, stage := .wait .unit }, by decide +kernel⟩,
    ⟨{ withDesc 3 { cmd 0x24 9 0 1 0 with strm := some 9, stage := .exec } with pj := [(0, { out := true, cmds := [(3, 4)] })] }, 3, 0, 1, { cmd 0x24 9 0 1 0 with strm := some 9, stage := .exec }, by decide +kernel⟩,
    ⟨{ withDesc 3 { cmd 0x24 9 0 1 0 with strm := some 9, stage := .wait .unit } with now := 1000000000000, pj := (List.range 8).map (fun i => (i, { out := true })) }, 3, { cmd 0x24 9 0 1 0 with strm := some 9, stage := .wait .unit }, by decide +kernel⟩⟩

theorem test_meets_projection_and_solver_complete_4 :
    (∃ (s : State) (u : Nat) (d : Nat) (n : Nat), (s.pjUnit u).served.any (fun c => c.1 == d) = true ∧ n < (s.desc d).chunks ∧ (s.pjUnit u).redo.any (fun r => r == (d, n)) = false ∧ (s.recent (s.unitRec (unitKey 7 u))).length < 2 ∧ (s.unitRec (unitKey 7 u)).queued = none) ∧
    (∃ (s : State) (u : Nat) (d : Nat) (n : Nat) (x : Desc), (s.pjUnit u).served.any (fun c => c.1 == d) = true ∧ n < (s.desc d).chunks ∧ (s.pjUnit u).redo.any (fun r => r == (d, n)) = true ∧ s.desc? d = some x ∧ x.stage ≠ .done) ∧
    (∃ (s : State) (u : Nat) (d : Nat) (n : Nat), ((s.pjUnit u).served.any (fun c => c.1 == d) = false ∨ (s.desc d).chunks ≤ n)) ∧
    (∃ (s : State) (p : Port) (u : Nat), s.answers p (bar0 6 0x100C) = true ∧ pfOrFw p = true ∧ u < 8 ∧ s.jobOn 3 u 0 = false ∧ (s.pjUnit u).out = false) ∧
    (∃ (s : State) (p : Port) (u : Nat), s.answers p (bar0 6 0x100C) = true ∧ pfOrFw p = true ∧ u < 8 ∧ s.jobOn 3 u 0 = false ∧ (s.pjUnit u).out = true) ∧
    (∃ (s : State) (p : Port) (u : Nat), s.answers p (bar0 6 0x100C) = true ∧ (pfOrFw p = false ∨ (u < 8 ∧ s.jobOn 3 u 0 = true))) ∧
    (∃ (s : State) (u : Nat), (s.pjUnit u).testing = true) ∧
    (∃ (s : State) (u : Nat), (s.pjUnit u).testing = true) :=
  ⟨⟨{ withDesc 3 { cmd 0x24 9 0 1 0 with strm := some 9, stage := .exec } with pj := [(2, { cmds := [(3, 4)] })] }, 2, 3, 0, by decide +kernel⟩,
    ⟨{ withDesc 3 { cmd 0x24 9 0 1 0 with strm := some 9, stage := .exec } with pj := [(2, { cmds := [(3, 4)], redo := [(3, 0)] })] }, 2, 3, 0, { cmd 0x24 9 0 1 0 with strm := some 9, stage := .exec }, by decide +kernel⟩,
    ⟨{}, 2, 3, 5, by decide +kernel⟩,
    ⟨{ ({} : State) with regs := [(F_TOP_BOOT_STATUS_STAGE.key 0, 3)] }, .pf, 7, by decide +kernel⟩,
    ⟨{ ({} : State) with regs := [(F_TOP_BOOT_STATUS_STAGE.key 0, 3)], pj := [(7, { out := true, cmds := [(3, 4)] })] }, .pf, 7, by decide +kernel⟩,
    ⟨{ ({} : State) with regs := [(F_TOP_BOOT_STATUS_STAGE.key 0, 3)] }, .vf 3, 7, by decide +kernel⟩,
    ⟨{ ({} : State) with pj := [(7, { testing := true, out := true })] }, 7, by decide +kernel⟩,
    ⟨{ ({} : State) with pj := [(7, { testing := true, out := true })] }, 7, by decide +kernel⟩⟩

theorem test_meets_projection_and_solver_complete_5 :
    (∃ (s : State) (u : Nat), (s.pjUnit u).testing = false) ∧
    (∃ (s : State) (d : Nat) (x : Desc), Runs s d 0x50 x ∧ s.domGated 56 = false ∧ placeOk x.blk x.e.len = true ∧ s.budget x.e ≠ 0) ∧
    (∃ (s : State) (d : Nat) (x : Desc), Runs s d 0x50 x ∧ s.domGated 56 = false ∧ placeOk x.blk x.e.len = true ∧ s.budget x.e = 0 ∧ s.pl.running = none ∧ s.solverWaiters = [] ∧ s.domFailed 56 = false) ∧
    (∃ (s : State) (d : Nat) (x : Desc), Runs s d 0x50 x ∧ s.domGated 56 = false ∧ placeOk x.blk x.e.len = true ∧ s.budget x.e = 0 ∧ (s.pl.running ≠ none ∨ s.solverWaiters ≠ [] ∨ s.domFailed 56 = true)) ∧
    (∃ (s : State) (d : Nat) (x : Desc), Runs s d 0x50 x ∧ s.domGated 56 = false ∧ placeOk x.blk x.e.len = false) ∧
    (∃ (s : State) (d : Nat) (x : Desc), s.pl.running = none ∧ s.domGated 56 = false ∧ s.nextSolve = some d ∧ s.desc? d = some x) ∧
    (∃ (s : State), (s.pl.running ≠ none ∨ s.domGated 56 = true ∨ s.nextSolve = none)) ∧
    (∃ (s : State) (d : Nat) (x : Desc), Waits s d .solver x ∧ s.waitedOut x (s.budget x.e) = true ∧ s.pl.running = none ∧ s.nextSolve = some d) :=
  ⟨⟨{}, 7, by decide +kernel⟩,
    ⟨{ withDesc 3 { cmd 0x50 0 0 66 with blk := [1, 1] ++ List.replicate 62 0 ++ [5, 0] } with regs := [(F_FN_WAIT_DEFAULT_WAIT.key 0, 9)] }, 3, { cmd 0x50 0 0 66 with blk := [1, 1] ++ List.replicate 62 0 ++ [5, 0] }, by decide +kernel⟩,
    ⟨withDesc 3 { cmd 0x50 0 0 66 0 8 with blk := [1, 1] ++ List.replicate 62 0 ++ [5, 0] }, 3, { cmd 0x50 0 0 66 0 8 with blk := [1, 1] ++ List.replicate 62 0 ++ [5, 0] }, by decide +kernel⟩,
    ⟨{ withDesc 3 { cmd 0x50 0 0 66 0 8 with blk := [1, 1] ++ List.replicate 62 0 ++ [5, 0] } with pl := { running := some 4 } }, 3, { cmd 0x50 0 0 66 0 8 with blk := [1, 1] ++ List.replicate 62 0 ++ [5, 0] }, by decide +kernel⟩,
    ⟨withDesc 3 (cmd 0x50 0 0 66), 3, cmd 0x50 0 0 66, by decide +kernel⟩,
    ⟨withDesc 3 { cmd 0x50 0 0 66 with stage := .wait .solver, blk := [1, 1] ++ List.replicate 62 0 ++ [5, 0] }, 3, { cmd 0x50 0 0 66 with stage := .wait .solver, blk := [1, 1] ++ List.replicate 62 0 ++ [5, 0] }, by decide +kernel⟩,
    ⟨{}, by decide +kernel⟩,
    ⟨{ withDesc 3 { cmd 0x50 0 0 66 with stage := .wait .solver, blk := [1, 1] ++ List.replicate 62 0 ++ [5, 0] } with now := 1000000000000 }, 3, { cmd 0x50 0 0 66 with stage := .wait .solver, blk := [1, 1] ++ List.replicate 62 0 ++ [5, 0] }, by decide +kernel⟩⟩

theorem test_meets_projection_and_solver_complete_6 :
    (∃ (s : State) (d : Nat) (x : Desc), Waits s d .solver x ∧ s.waitedOut x (s.budget x.e) = true ∧ (s.pl.running ≠ none ∨ s.nextSolve ≠ some d)) ∧
    (∃ (s : State) (d : Nat) (x : Desc), s.pl.running = some d ∧ s.desc? d = some x ∧ x.stage ≠ .done ∧ (feasibility x.blk).2 = none ∧ x.e.flag 9 = false ∧ (s.queue x.outQ).isLink = false ∧ s.noHost x.q = false ∧ s.hostFault = none) ∧
    (∃ (s : State) (d : Nat) (x : Desc), s.pl.running = some d ∧ s.desc? d = some x ∧ x.stage ≠ .done ∧ (feasibility x.blk).2 = none ∧ x.e.flag 9 = true ∧ s.outWaits x x.e.dest (placeBytes x.blk (solve x.blk).1).length = false ∧ (((s.leaveEngine d).setFld F_PL_LAST_TIME_TICKS ((s.now - s.pl.started) % 2 ^ 32)).writeAllOrNone x.dst x.dmeta x.e.dest (placeBytes x.blk (solve x.blk).1) {} x.who).2.status = .ok) ∧
    (∃ (s : State) (d : Nat) (x : Desc), s.pl.running = some d ∧ s.desc? d = some x ∧ (feasibility x.blk).2 = none ∧ x.e.flag 9 = true ∧ s.outWaits x x.e.dest (placeBytes x.blk (solve x.blk).1).length = true) ∧
    (∃ (s : State) (d : Nat) (x : Desc) (n : Nat) (r : Nat), s.pl.running = some d ∧ s.desc? d = some x ∧ x.stage ≠ .done ∧ feasibility x.blk = (n, some r)) ∧
    (∃ (s : State), s.pl.running = none) ∧
    (∃ (s : State) (d : Nat), s.pl.running = some d ∧ inSet s.pl.redone (s.desc d).seq = false ∧ (s.recent (s.unitRec (unitKey 8 0))).length < 2 ∧ (s.unitRec (unitKey 8 0)).queued = none) ∧
    (∃ (s : State) (d : Nat) (x : Desc), s.pl.running = some d ∧ s.desc? d = some x ∧ x.stage ≠ .done ∧ inSet s.pl.redone x.seq = true) :=
  ⟨⟨{ withDesc 3 { cmd 0x50 0 0 66 with stage := .wait .solver, blk := [1, 1] ++ List.replicate 62 0 ++ [5, 0] } with now := 1000000000000, pl := { running := some 4 } }, 3, { cmd 0x50 0 0 66 with stage := .wait .solver, blk := [1, 1] ++ List.replicate 62 0 ++ [5, 0] }, by decide +kernel⟩,
    ⟨{ withDesc 3 { cmd 0x50 0 0 66 with stage := .exec, blk := [1, 1] ++ List.replicate 62 0 ++ [5, 0] } with pl := { running := some 3 }, regs := [(F_HP_STATUS_RATE.key 0, 5)], ir := { fns := [(0, { bme := true })] } }, 3, { cmd 0x50 0 0 66 with stage := .exec, blk := [1, 1] ++ List.replicate 62 0 ++ [5, 0] }, by decide +kernel⟩,
    ⟨{ withDesc 3 { cmd 0x50 0 0 66 0x100000000000000000000 2 with stage := .exec, dst := [7], dmeta := [0], blk := [1, 1] ++ List.replicate 62 0 ++ [5, 0] } with pl := { running := some 3 } }, 3, { cmd 0x50 0 0 66 0x100000000000000000000 2 with stage := .exec, dst := [7], dmeta := [0], blk := [1, 1] ++ List.replicate 62 0 ++ [5, 0] }, by decide +kernel⟩,
    ⟨{ withDesc 3 { cmd 0x50 0 0 66 0x100000000000000000000 2 with stage := .exec, dst := [7], dmeta := [0], blk := [1, 1] ++ List.replicate 62 0 ++ [5, 0] } with pl := { running := some 3 }, regs := [(F_HB_STATUS_SET.key 0, 15)], mc := { units := [(16, { selfRef := true })] } }, 3, { cmd 0x50 0 0 66 0x100000000000000000000 2 with stage := .exec, dst := [7], dmeta := [0], blk := [1, 1] ++ List.replicate 62 0 ++ [5, 0] }, by decide +kernel⟩,
    ⟨{ withDesc 3 { cmd 0x50 0 0 66 with stage := .exec, blk := [1, 1] ++ List.replicate 62 0 ++ [255, 255] } with pl := { running := some 3 } }, 3, { cmd 0x50 0 0 66 with stage := .exec, blk := [1, 1] ++ List.replicate 62 0 ++ [255, 255] }, 0, 0, by decide +kernel⟩,
    ⟨{}, by decide +kernel⟩,
    ⟨{ withDesc 3 { cmd 0x50 0 0 66 with stage := .exec, blk := [1, 1] ++ List.replicate 62 0 ++ [5, 0] } with pl := { running := some 3 } }, 3, by decide +kernel⟩,
    ⟨{ withDesc 3 { cmd 0x50 0 0 66 with stage := .exec, blk := [1, 1] ++ List.replicate 62 0 ++ [5, 0] } with pl := { running := some 3, redone := [0] } }, 3, { cmd 0x50 0 0 66 with stage := .exec, blk := [1, 1] ++ List.replicate 62 0 ++ [5, 0] }, by decide +kernel⟩⟩

theorem test_meets_projection_and_solver_complete_7 :
    (∃ (s : State), s.pl.running = none) ∧
    (∃ (s : State) (d : Nat) (x : Desc), Waits s d .tracker x ∧ s.waitedOut x (s.budget x.e) = false) ∧
    (∃ (s : State) (d : Nat) (x : Desc), Waits s d .unit x ∧ s.waitedOut x (s.budget x.e) = false) ∧
    (∃ (s : State) (d : Nat) (x : Desc), Waits s d .solver x ∧ s.waitedOut x (s.budget x.e) = false) :=
  ⟨⟨{}, by decide +kernel⟩,
    ⟨withDesc 3 { cmd 0x23 9 0 1 0 with strm := some 9, stage := .wait .tracker }, 3, { cmd 0x23 9 0 1 0 with strm := some 9, stage := .wait .tracker }, by decide +kernel⟩,
    ⟨withDesc 3 { cmd 0x24 9 0 1 0 with strm := some 9, stage := .wait .unit }, 3, { cmd 0x24 9 0 1 0 with strm := some 9, stage := .wait .unit }, by decide +kernel⟩,
    ⟨withDesc 3 { cmd 0x50 0 0 66 with stage := .wait .solver }, 3, { cmd 0x50 0 0 66 with stage := .wait .solver }, by decide +kernel⟩⟩

theorem test_meets_memory_training_and_refresh_1 :
    (∃ (s : State) (n : Nat), n < 16 ∧ s.unitState n = 1 ∧ (s.dram n).trained = false ∧ (∃ c ∈ List.range 16, c ≠ n ∧ (s.dram c).trained = false)) ∧
    (∃ (s : State) (n : Nat), n < 16 ∧ s.unitState n = 1 ∧ (s.dram n).trained = false ∧ (∀ c ∈ List.range 16, c ≠ n → (s.dram c).trained = true)) ∧
    (∃ (s : State) (n : Nat), (16 ≤ n ∨ s.unitState n ≠ 1 ∨ (s.dram n).trained = true)) ∧
    (∃ (s : State) (n : Nat), n ∈ s.stacks ∧ (∀ u ∈ targetUnits (16 + n), s.unitState u = 1 ∧ (s.dram u).trained = false) ∧ (∃ k ∈ s.stacks, k ≠ n ∧ ∃ u ∈ targetUnits (16 + k), (s.dram u).trained = false)) ∧
    (∃ (s : State) (n : Nat), n ∈ s.stacks ∧ (∀ u ∈ targetUnits (16 + n), s.unitState u = 1 ∧ (s.dram u).trained = false) ∧ (∀ k ∈ s.stacks, k ≠ n → ∀ u ∈ targetUnits (16 + k), (s.dram u).trained = true)) ∧
    (∃ (s : State) (n : Nat), (n ∉ s.stacks ∨ ∃ u ∈ targetUnits (16 + n), s.unitState u ≠ 1 ∨ (s.dram u).trained = true)) ∧
    (∃ (s : State) (u : Nat) (r : Nat) (b : Bool), s.refreshWithheld u r = false ∧ (s.dram u).selfRef = false ∧ s.rankBusy u r b = true ∧ kvGet 0 (s.dram u).pend r < 8) ∧
    (∃ (s : State) (u : Nat) (r : Nat) (b : Bool), s.refreshWithheld u r = false ∧ (s.dram u).selfRef = false ∧ (s.rankBusy u r b = false ∨ 8 ≤ kvGet 0 (s.dram u).pend r)) :=
  ⟨⟨{ ({} : State) with regs := [(F_MC_CH_STATUS_STATE.key 15, 1)] }, 15, by decide +kernel⟩,
    ⟨{ ({} : State) with regs := [(F_MC_CH_STATUS_STATE.key 15, 1)], mc := { units := [(0, { trained := true }), (1, { trained := true }), (2, { trained := true }), (3, { trained := true }), (4, { trained := true }), (5, { trained := true }), (6, { trained := true }), (7, { trained := true }), (8, { trained := true }), (9, { trained := true }), (10, { trained := true }), (11, { trained := true }), (12, { trained := true }), (13, { trained := true }), (14, { trained := true })] } }, 15, by decide +kernel⟩,
    ⟨{}, 15, by decide +kernel⟩,
    ⟨{ ({} : State) with regs := (F_TOP_ID_STACKS.key 0, 2) :: (List.range 64).map (fun i => (F_HB_PC_STATUS_STATE.key i, 1)) }, 0, by decide +kernel⟩,
    ⟨{ ({} : State) with regs := (F_TOP_ID_STACKS.key 0, 2) :: (List.range 64).map (fun i => (F_HB_PC_STATUS_STATE.key i, 1)), mc := { units := (List.range 32).map (fun i => (16 + i, { trained := true })) } }, 1, by decide +kernel⟩,
    ⟨{}, 5, by decide +kernel⟩,
    ⟨{ ({} : State) with mc := { units := [(15, { pend := [(1, 7)] })] } }, 15, 1, true, by decide +kernel⟩,
    ⟨{ ({} : State) with mc := { units := [(16, { pend := [(0, 8)], refBank := 47 })] } }, 16, 0, true, by decide +kernel⟩⟩

theorem test_meets_memory_training_and_refresh_2 :
    (∃ (s : State) (u : Nat) (r : Nat), s.refreshWithheld u r = true) ∧
    (∃ (s : State) (u : Nat) (r : Nat), s.refreshWithheld u r = false ∧ (s.dram u).selfRef = true) ∧
    (∃ (s : State) (u : Nat) (r : Nat) (b : Bool), s.refreshWithheld u r = false ∧ s.rankBusy u r b = false ∧ kvGet 0 (s.dram u).pend r ≠ 0) ∧
    (∃ (s : State) (u : Nat) (r : Nat) (b : Bool), (s.refreshWithheld u r = true ∨ s.rankBusy u r b = true ∨ kvGet 0 (s.dram u).pend r = 0)) ∧
    (∃ (s : State) (u : Nat) (e : WqEntry), (s.dram u).wwait.find? (fun e => !s.inCopy (e.line / 4)) = some e ∧ (s.dram u).wq.length < wqSize u ∧ hasLine (s.dram u).wq e.line = false ∧ (s.dram u).wq.length + 1 < (if u < 16 then s.fld F_MC_WQ_CFG_HIGH else s.fld F_HB_WQ_CFG_HIGH)) ∧
    (∃ (s : State) (u : Nat) (e : WqEntry), (s.dram u).wwait.find? (fun e => !s.inCopy (e.line / 4)) = some e ∧ hasLine (s.dram u).wq e.line = true ∧ (s.dram u).wq.length < (if u < 16 then s.fld F_MC_WQ_CFG_HIGH else s.fld F_HB_WQ_CFG_HIGH)) ∧
    (∃ (s : State) (u : Nat) (e : WqEntry), (s.dram u).wwait.find? (fun e => !s.inCopy (e.line / 4)) = some e ∧ (s.dram u).wq.length < wqSize u ∧ hasLine (s.dram u).wq e.line = false ∧ (if u < 16 then s.fld F_MC_WQ_CFG_HIGH else s.fld F_HB_WQ_CFG_HIGH) ≤ (s.dram u).wq.length + 1 ∧ s.unitState u ≠ 3 ∧ (s.dram u).selfRef = false) ∧
    (∃ (s : State) (u : Nat), (∀ e ∈ (s.dram u).wwait, s.inCopy (e.line / 4) = true ∨ (wqSize u ≤ (s.dram u).wq.length ∧ hasLine (s.dram u).wq e.line = false))) :=
  ⟨⟨{ ({} : State) with si := { jobs := [{ kind := 0, index := 15, rank := 1, waitTill := 9 }] } }, 15, 1, by decide +kernel⟩,
    ⟨{ ({} : State) with mc := { units := [(16, { selfRef := true })] } }, 16, 0, by decide +kernel⟩,
    ⟨{ ({} : State) with mc := { units := [(15, { pend := [(1, 8)] })] } }, 15, 1, false, by decide +kernel⟩,
    ⟨{}, 15, 1, true, by decide +kernel⟩,
    ⟨{ ({} : State) with mc := { units := [(15, { wwait := [{ line := 9, mask := 1, seqs := [4] }] })] } }, 15, { line := 9, mask := 1, seqs := [4] }, by decide +kernel⟩,
    ⟨{ ({} : State) with mc := { units := [(15, { wwait := [{ line := 9, mask := 1, seqs := [4] }], wq := [{ line := 9, mask := 2 }] })] } }, 15, { line := 9, mask := 1, seqs := [4] }, by decide +kernel⟩,
    ⟨{ ({} : State) with regs := [(F_MC_WQ_CFG_HIGH.key 0, 1), (F_MC_WQ_CFG_LOW.key 0, 0)], mc := { units := [(15, { wwait := [{ line := 9, mask := 1, seqs := [4] }] })] } }, 15, { line := 9, mask := 1, seqs := [4] }, by decide +kernel⟩,
    ⟨{}, 15, by decide +kernel⟩⟩

theorem test_meets_memory_training_and_refresh_3 :
    (∃ (s : State) (u : Nat), s.unitState u = 2) ∧
    (∃ (s : State) (u : Nat), s.unitState u ≠ 2) ∧
    (∃ (s : State) (u : Nat), ((s.dram u).persist = true ∨ 16 ≤ (s.recentAlerts (s.dram u)).length) ∧ s.unitState u = 2 ∧ (s.unitRec (unitKey (if u < 16 then 10 else 11) (if u < 16 then u else u - 16))).running = none) ∧
    (∃ (s : State) (u : Nat), ((s.dram u).persist = true ∨ 16 ≤ (s.recentAlerts (s.dram u)).length) ∧ (s.unitState u = 3 ∨ (s.unitState u = 2 ∧ (s.unitRec (unitKey (if u < 16 then 10 else 11) (if u < 16 then u else u - 16))).running ≠ none))) ∧
    (∃ (s : State) (u : Nat), (((s.dram u).persist = false ∧ (s.recentAlerts (s.dram u)).length < 16) ∨ (s.unitState u ≠ 2 ∧ s.unitState u ≠ 3))) ∧
    (∃ (s : State) (u : Nat), s.unitState u = 3 ∧ s.hp.held = []) ∧
    (∃ (s : State) (v : State) (u : Nat) (a : HeldAccess), s.unitState u = 3 ∧ s.hp.held = [a] ∧ v = ((s.setUnitState u 2).drainWq u).recoveryEnd (if u < 16 then 10 else 11) (if u < 16 then u else u - 16) true ∧ v.apWaits a = false) ∧
    (∃ (s : State) (u : Nat), s.unitState u = 3 ∧ s.hp.held = []) :=
  ⟨⟨{ ({} : State) with regs := [(F_MC_CH_STATUS_STATE.key 15, 2)], mc := { units := [(15, { retry := [.read 4, .write 5] })] } }, 15, by decide +kernel⟩,
    ⟨{}, 15, by decide +kernel⟩,
    ⟨{ ({} : State) with regs := [(F_MC_CH_STATUS_STATE.key 15, 2)], mc := { units := [(15, { persist := true })] } }, 15, by decide +kernel⟩,
    ⟨{ ({} : State) with regs := [(F_MC_CH_STATUS_STATE.key 15, 3)], mc := { units := [(15, { persist := true })] } }, 15, by decide +kernel⟩,
    ⟨{}, 15, by decide +kernel⟩,
    ⟨{ ({} : State) with regs := [(F_MC_CH_STATUS_STATE.key 15, 3)] }, 15, by decide +kernel⟩,
    ⟨{ ({} : State) with regs := [(F_HB_STATUS_SET.key 0, 15), (F_HB_PC_STATUS_STATE.key 0, 3)], hp := { held := [{ tenant := 5, addr := 0, len := 8, tag := 7, dfns := [7], metas := [0] }] } }, ((({ ({} : State) with regs := [(F_HB_STATUS_SET.key 0, 15), (F_HB_PC_STATUS_STATE.key 0, 3)], hp := { held := [{ tenant := 5, addr := 0, len := 8, tag := 7, dfns := [7], metas := [0] }] } } : State).setUnitState 16 2).drainWq 16).recoveryEnd 11 0 true, 16, { tenant := 5, addr := 0, len := 8, tag := 7, dfns := [7], metas := [0] }, by decide +kernel⟩,
    ⟨{ ({} : State) with regs := [(F_MC_CH_STATUS_STATE.key 15, 3)] }, 15, by decide +kernel⟩⟩

theorem test_meets_memory_training_and_refresh_4 :
    (∃ (s : State) (u : Nat) (d : Nat) (x : Desc), s.unitState u = 3 ∧ s.desc? d = some x ∧ x.stage = .done ∧ x.status = .ok ∧ (s.dram u).wwait.any (fun e => inSet e.seqs x.seq) = true) ∧
    (∃ (s : State) (u : Nat), s.unitState u ≠ 3) ∧
    (∃ (s : State) (u : Nat) (k : Nat) (r : Nat), (s.dram u).caErr = false ∧ (activate (kvGet [] (s.dram u).act k) r).2 < (if u < 16 then s.fld F_MC_RH_CFG_THRESH else s.fld F_HB_RH_CFG_THRESH)) ∧
    (∃ (s : State) (u : Nat) (k : Nat) (r : Nat), (if u < 16 then s.fld F_MC_RH_CFG_THRESH else s.fld F_HB_RH_CFG_THRESH) ≤ (activate (kvGet [] (s.dram u).act k) r).2) :=
  ⟨⟨{ withDesc 3 { wWrite with stage := .done, seq := 4 } with regs := [(F_MC_CH_STATUS_STATE.key 15, 3)], mc := { units := [(15, { wwait := [{ line := 9, mask := 1, seqs := [4] }] })] } }, 15, 3, { wWrite with stage := .done, seq := 4 }, by decide +kernel⟩,
    ⟨{}, 15, by decide +kernel⟩,
    ⟨{}, 15, 3, 0, by decide +kernel⟩,
    ⟨{ ({} : State) with mc := { units := [(15, { act := [(3, [(77, 70000)])] })] } }, 15, 3, 77, by decide +kernel⟩⟩

theorem test_meets_retirement_and_sparing_1 :
    (∃ (s : State) (n : Nat) (f : LineErr) (g : LineErr), s.poisoned (n / 4) = false ∧ lineVerdict (isHotSec (n / 4)) (s.natural n f g) = .failed ∧ s.metaPart (n / 4) = none) ∧
    (∃ (s : State) (n : Nat) (f : LineErr) (g : LineErr) (i : Nat), s.poisoned (n / 4) = false ∧ lineVerdict (isHotSec (n / 4)) (s.natural n f g) = .failed ∧ s.metaPart (n / 4) = some (2, i)) ∧
    (∃ (s : State) (n : Nat) (f : LineErr) (g : LineErr) (d : Nat) (x : Desc), s.poisoned (n / 4) = false ∧ lineVerdict (isHotSec (n / 4)) (s.natural n f g) = .failed ∧ s.desc? d = some x ∧ x.stage ≠ .done) ∧
    (∃ (s : State) (n : Nat) (f : LineErr) (g : LineErr) (d : Option Nat), s.poisoned (n / 4) = false ∧ (lineVerdict (isHotSec (n / 4)) (s.natural n f g) = .clean ∨ lineVerdict (isHotSec (n / 4)) (s.natural n f g) = .fixed) ∧ d.all (fun k => (s.desc? k).isSome) = true) ∧
    (∃ (s : State) (n : Nat) (f : LineErr) (g : LineErr) (d : Option Nat), s.poisoned (n / 4) = false ∧ (lineVerdict (isHotSec (n / 4)) (s.natural n f g) = .clean ∨ lineVerdict (isHotSec (n / 4)) (s.natural n f g) = .fixed) ∧ d.all (fun k => (s.desc? k).isSome) = true) ∧
    (∃ (s : State) (n : Nat) (f : LineErr) (g : LineErr), s.poisoned (n / 4) = false ∧ lineVerdict (isHotSec (n / 4)) (s.natural n f g) ≠ .failed ∧ lineVerdict (isHotSec (n / 4)) (s.natural n f g) ≠ .poison) ∧
    (∃ (s : State) (n : Nat), s.poisoned (n / 4) = true) ∧
    (∃ (s : State) (n : Nat) (r : Nat) (c : Nat) (l : List (Nat × Nat)) (k : Nat), n < 16 ∧ s.unitState n = 2 ∧ s.fld F_MC_CH_CFG_MODE n = 1 ∧ (s.dram n).migr = none ∧ (s.recent (s.unitRec (unitKey 10 n))).length < 2 ∧ (s.unitRec (unitKey 10 n)).running = none ∧ (s.unitRec (unitKey 10 n)).queued = none ∧ (s.unitRec (unitKey 10 n)).escBy = none ∧ (s.dram n).trig = (r, c) :: l ∧ kvGet 0 (s.dram n).ranks r = 1 ∧ (s.dram n).rankIn 2 = some k ∧ k ≠ r) :=
  ⟨⟨{}, 9, { words := [[(3, 1), (7, 1)]] }, { words := [[(3, 1), (7, 1)]] }, by decide +kernel⟩,
    ⟨{ ({} : State) with regs := [(F_TOP_HOT_FOLIOS_COUNT.key 0, 1000), (F_TOP_WARM_FOLIOS_COUNT.key 0, 1000000), (F_TOP_META_SIZE_COUNT.key 0, 300000)] }, 18046091284, { words := [[(3, 1)], [(7, 1)]] }, { words := [[(3, 1)], [(7, 1)]] }, 5, by decide +kernel⟩,
    ⟨withDesc 3 (cmd 0x21 0 0 4), 9, { words := [[(3, 1), (7, 1)]] }, { words := [[(3, 1), (7, 1)]] }, 3, cmd 0x21 0 0 4, by decide +kernel⟩,
    ⟨{}, 9, { words := [[(3, 1)]] }, {}, none, by decide +kernel⟩,
    ⟨{}, 17179869184, { words := [[(3, 1)], [(3, 5)]] }, {}, none, by decide +kernel⟩,
    ⟨{}, 9, {}, {}, by decide +kernel⟩,
    ⟨{ ({} : State) with poison := [2] }, 9, by decide +kernel⟩,
    ⟨{ ({} : State) with regs := [(F_MC_CH_STATUS_STATE.key 15, 2), (F_TOP_BOOT_STATUS_STAGE.key 0, 3), (F_MC_CH_CFG_MODE.key 15, 1)], mc := { units := [(15, { ranks := [(0, 1), (1, 2)], lmap := [0], trig := [(0, 0)] })] } }, 15, 0, 0, [], 1, by decide +kernel⟩⟩

theorem test_meets_retirement_and_sparing_2 :
    (∃ (s : State) (n : Nat) (r : Nat) (c : Nat) (l : List (Nat × Nat)) (k : Nat), n < 16 ∧ s.unitState n = 2 ∧ s.fld F_MC_CH_CFG_MODE n = 1 ∧ (s.dram n).migr = none ∧ (s.recent (s.unitRec (unitKey 10 n))).length < 2 ∧ (s.unitRec (unitKey 10 n)).running ≠ none ∧ (s.unitRec (unitKey 10 n)).queued = none ∧ (s.unitRec (unitKey 10 n)).escBy = none ∧ (s.dram n).trig = (r, c) :: l ∧ kvGet 0 (s.dram n).ranks r = 1 ∧ (s.dram n).rankIn 2 = some k) ∧
    (∃ (s : State) (n : Nat) (r : Nat) (c : Nat) (l : List (Nat × Nat)), n < 16 ∧ (s.dram n).trig = (r, c) :: l ∧ kvGet 0 (s.dram n).ranks r = 1 ∧ (s.dram n).rankIn 2 = none) ∧
    (∃ (s : State) (n : Nat) (r : Nat) (c : Nat) (l : List (Nat × Nat)), n < 16 ∧ s.unitState n = 2 ∧ s.fld F_MC_CH_CFG_MODE n = 1 ∧ (s.dram n).migr = none ∧ (s.unitRec (unitKey 10 n)).queued = none ∧ (s.dram n).trig = (r, c) :: l ∧ kvGet 0 (s.dram n).ranks r ≠ 1) ∧
    (∃ (s : State) (n : Nat), (16 ≤ n ∨ (s.dram n).trig = [])) ∧
    (∃ (s : State) (n : Nat) (m : Migr), (s.dram n).migr = some m ∧ m.paused = false ∧ (s.dram n).selfRef = false ∧ m.done < m.total ∧ s.unitState n = 2 ∧ s.jobOn 0 n m.tgt = false) ∧
    (∃ (s : State) (n : Nat) (m : Migr), (s.dram n).migr = some m ∧ m.paused = false ∧ (s.dram n).selfRef = false ∧ m.done < m.total ∧ s.unitState n = 2 ∧ s.jobOn 0 n m.tgt = false ∧ s.si.lineErr = []) ∧
    (∃ (s : State) (n : Nat) (m : Migr), (s.dram n).migr = some m ∧ (m.paused = true ∨ (s.dram n).selfRef = true ∨ m.total ≤ m.done ∨ s.unitState n ≠ 2 ∨ s.jobOn 0 n m.tgt = true)) ∧
    (∃ (s : State) (n : Nat) (m : Migr), (s.dram n).migr = some m ∧ m.total ≤ m.done) :=
  ⟨⟨{ ({} : State) with regs := [(F_MC_CH_STATUS_STATE.key 15, 2), (F_TOP_BOOT_STATUS_STAGE.key 0, 3), (F_MC_CH_CFG_MODE.key 15, 1)], mc := { units := [(15, { ranks := [(0, 1), (1, 2)], lmap := [0], trig := [(0, 0)] })] }, er := { units := [(unitKey 10 15, { running := some 4 })] } }, 15, 0, 0, [], 1, by decide +kernel⟩,
    ⟨{ ({} : State) with regs := [(F_MC_CH_STATUS_STATE.key 15, 2), (F_TOP_BOOT_STATUS_STAGE.key 0, 3), (F_MC_CH_CFG_MODE.key 15, 1)], mc := { units := [(15, { ranks := [(0, 1)], trig := [(0, 0)] })] } }, 15, 0, 0, [], by decide +kernel⟩,
    ⟨{ ({} : State) with regs := [(F_MC_CH_STATUS_STATE.key 15, 2), (F_TOP_BOOT_STATUS_STAGE.key 0, 3), (F_MC_CH_CFG_MODE.key 15, 1)], mc := { units := [(15, { ranks := [(0, 5)], trig := [(0, 0)] })] } }, 15, 0, 0, [], by decide +kernel⟩,
    ⟨{}, 15, by decide +kernel⟩,
    ⟨{ ({} : State) with regs := [(F_MC_CH_STATUS_STATE.key 15, 2), (F_TOP_BOOT_STATUS_STAGE.key 0, 3), (F_MC_CH_CFG_MODE.key 15, 1)], mc := { units := [(15, { lmap := [0], migr := some { src := 0, tgt := 1, total := 4 } })] } }, 15, { src := 0, tgt := 1, total := 4 }, by decide +kernel⟩,
    ⟨{ ({} : State) with regs := [(F_MC_CH_STATUS_STATE.key 15, 2), (F_TOP_BOOT_STATUS_STAGE.key 0, 3), (F_MC_CH_CFG_MODE.key 15, 1)], mc := { units := [(15, { migr := some { src := 0, tgt := 1, total := 4 } })] } }, 15, { src := 0, tgt := 1, total := 4 }, by decide +kernel⟩,
    ⟨{ ({} : State) with regs := [(F_MC_CH_STATUS_STATE.key 15, 2), (F_TOP_BOOT_STATUS_STAGE.key 0, 3), (F_MC_CH_CFG_MODE.key 15, 1)], mc := { units := [(15, { migr := some { src := 0, tgt := 1, total := 4, done := 4 } })] } }, 15, { src := 0, tgt := 1, total := 4, done := 4 }, by decide +kernel⟩,
    ⟨{ ({} : State) with regs := [(F_MC_CH_STATUS_STATE.key 15, 2), (F_TOP_BOOT_STATUS_STAGE.key 0, 3), (F_MC_CH_CFG_MODE.key 15, 1)], mc := { units := [(15, { lmap := [0], migr := some { src := 0, tgt := 1, total := 4, done := 4 } })] } }, 15, { src := 0, tgt := 1, total := 4, done := 4 }, by decide +kernel⟩⟩

theorem test_meets_retirement_and_sparing_3 :
    (∃ (s : State) (n : Nat) (m : Migr), (s.dram n).migr = some m ∧ m.done < m.total) ∧
    (∃ (s : State) (p : Port) (n : Nat) (r : Nat) (k : Nat), s.answers p rankCtlOff = true ∧ pfOrFw p = true ∧ n < 16 ∧ s.unitState n = 2 ∧ s.fld F_MC_CH_CFG_MODE n = 1 ∧ (s.dram n).migr = none ∧ (s.recent (s.unitRec (unitKey 10 n))).length < 2 ∧ (s.unitRec (unitKey 10 n)).running = none ∧ (s.unitRec (unitKey 10 n)).queued = none ∧ (s.unitRec (unitKey 10 n)).escBy = none ∧ kvGet 0 (s.dram n).ranks (r % 8) = 1 ∧ (s.dram n).rankIn 2 = some k ∧ k ≠ r % 8) ∧
    (∃ (s : State) (p : Port) (n : Nat), s.answers p rankCtlOff = true ∧ pfOrFw p = true ∧ n < 16 ∧ s.fld F_MC_CH_CFG_MODE n ≠ 1) ∧
    (∃ (s : State) (p : Port) (n : Nat), s.answers p rankCtlOff = true ∧ pfOrFw p = true ∧ n < 16 ∧ s.fld F_MC_CH_CFG_MODE n = 1 ∧ (s.dram n).migr ≠ none) ∧
    (∃ (s : State) (p : Port) (n : Nat), s.answers p rankCtlOff = true ∧ pfOrFw p = true ∧ n < 16 ∧ s.fld F_MC_CH_CFG_MODE n = 1 ∧ (s.dram n).migr = none ∧ (s.dram n).rankIn 2 = none) ∧
    (∃ (s : State) (p : Port) (n : Nat) (r : Nat), s.answers p rankCtlOff = true ∧ pfOrFw p = true ∧ n < 16 ∧ s.fld F_MC_CH_CFG_MODE n = 1 ∧ (s.dram n).migr = none ∧ (s.dram n).rankIn 2 ≠ none ∧ kvGet 0 (s.dram n).ranks (r % 8) ≠ 1) ∧
    (∃ (s : State) (p : Port), s.answers p rankCtlOff = true ∧ pfOrFw p = false) ∧
    (∃ (s : State) (p : Port) (n : Nat) (r : Nat), s.answers p rankCtlOff = true ∧ pfOrFw p = true ∧ n < 16 ∧ kvGet 0 (s.dram n).ranks (r % 8) = 5 ∧ s.jobOn 0 n (r % 8) = false ∧ (s.dram n).rankIn 2 = none ∧ (s.dram n).rankIn 3 = none ∧ (s.dram n).rankIn 4 = none ∧ bit (s.fld F_SI_T_PASS_PASS n) (r % 8) = true) :=
  ⟨⟨{ ({} : State) with regs := [(F_MC_CH_STATUS_STATE.key 15, 2), (F_TOP_BOOT_STATUS_STAGE.key 0, 3), (F_MC_CH_CFG_MODE.key 15, 1)], mc := { units := [(15, { migr := some { src := 0, tgt := 1, total := 4 } })] } }, 15, { src := 0, tgt := 1, total := 4 }, by decide +kernel⟩,
    ⟨{ ({} : State) with regs := [(F_MC_CH_STATUS_STATE.key 15, 2), (F_TOP_BOOT_STATUS_STAGE.key 0, 3), (F_MC_CH_CFG_MODE.key 15, 1)], mc := { units := [(15, { ranks := [(0, 1), (1, 2)], lmap := [0], trig := [(0, 0)] })] } }, .pf, 15, 0, 1, by decide +kernel⟩,
    ⟨{ ({} : State) with regs := [(F_TOP_BOOT_STATUS_STAGE.key 0, 3)] }, .pf, 15, by decide +kernel⟩,
    ⟨{ ({} : State) with regs := [(F_MC_CH_STATUS_STATE.key 15, 2), (F_TOP_BOOT_STATUS_STAGE.key 0, 3), (F_MC_CH_CFG_MODE.key 15, 1)], mc := { units := [(15, { migr := some { src := 0, tgt := 1, total := 4 } })] } }, .fw, 15, by decide +kernel⟩,
    ⟨{ ({} : State) with regs := [(F_MC_CH_STATUS_STATE.key 15, 2), (F_TOP_BOOT_STATUS_STAGE.key 0, 3), (F_MC_CH_CFG_MODE.key 15, 1)], mc := { units := [(15, { ranks := [(0, 1)] })] } }, .fw, 15, by decide +kernel⟩,
    ⟨{ ({} : State) with regs := [(F_MC_CH_STATUS_STATE.key 15, 2), (F_TOP_BOOT_STATUS_STAGE.key 0, 3), (F_MC_CH_CFG_MODE.key 15, 1)], mc := { units := [(15, { ranks := [(0, 1), (1, 2)], lmap := [0], trig := [(0, 0)] })] } }, .fw, 15, 7, by decide +kernel⟩,
    ⟨{ ({} : State) with regs := [(F_MC_CH_STATUS_STATE.key 15, 2), (F_TOP_BOOT_STATUS_STAGE.key 0, 3), (F_MC_CH_CFG_MODE.key 15, 1)], mc := { units := [(15, { ranks := [(0, 1), (1, 2)], lmap := [0], trig := [(0, 0)] })] } }, .vf 3, by decide +kernel⟩,
    ⟨{ ({} : State) with regs := [(F_TOP_BOOT_STATUS_STAGE.key 0, 3), (F_SI_T_PASS_PASS.key 15, 128)], mc := { units := [(15, { ranks := [(0, 1), (7, 5)] })] } }, .fw, 15, 7, by decide +kernel⟩⟩

theorem test_meets_retirement_and_sparing_4 :
    (∃ (s : State) (p : Port) (n : Nat) (r : Nat), s.answers p rankCtlOff = true ∧ pfOrFw p = true ∧ n < 16 ∧ s.jobOn 0 n (r % 8) = false ∧ kvGet 0 (s.dram n).ranks (r % 8) ≠ 5) ∧
    (∃ (s : State) (p : Port) (n : Nat) (r : Nat), s.answers p rankCtlOff = true ∧ pfOrFw p = true ∧ n < 16 ∧ (s.jobOn 0 n (r % 8) = true ∨ (kvGet 0 (s.dram n).ranks (r % 8) = 5 ∧ ((s.dram n).rankIn 2 ≠ none ∨ (s.dram n).rankIn 3 ≠ none ∨ (s.dram n).rankIn 4 ≠ none)))) ∧
    (∃ (s : State) (p : Port) (n : Nat) (r : Nat), s.answers p rankCtlOff = true ∧ pfOrFw p = true ∧ n < 16 ∧ kvGet 0 (s.dram n).ranks (r % 8) = 5 ∧ s.jobOn 0 n (r % 8) = false ∧ (s.dram n).rankIn 2 = none ∧ (s.dram n).rankIn 3 = none ∧ (s.dram n).rankIn 4 = none ∧ bit (s.fld F_SI_T_PASS_PASS n) (r % 8) = false) ∧
    (∃ (s : State) (p : Port), s.answers p rankCtlOff = true ∧ pfOrFw p = false) ∧
    (∃ (s : State) (u : Nat) (k : Nat) (r : Nat), s.mc.rowTrig.any (fun x => x == { unit := u, bank := k, row := r }) = true) ∧
    (∃ (s : State) (u : Nat) (k : Nat) (r : Nat) (n : Nat) (v : Nat), s.mc.rowTrig.any (fun x => x == { unit := u, bank := k, row := r }) = true ∧ s.rowFolios { unit := u, bank := k, row := r } = [n] ∧ s.mc.remap = [] ∧ s.isSpare n = false ∧ s.freeSpare = some v) ∧
    (∃ (s : State) (u : Nat) (k : Nat) (r : Nat) (n : Nat), s.mc.rowTrig.any (fun x => x == { unit := u, bank := k, row := r }) = true ∧ s.rowFolios { unit := u, bank := k, row := r } = [n] ∧ s.mc.remap = [] ∧ s.isSpare n = false ∧ s.freeSpare = none) ∧
    (∃ (s : State) (u : Nat) (k : Nat) (r : Nat), s.mc.rowTrig.any (fun x => x == { unit := u, bank := k, row := r }) = false) :=
  ⟨⟨{ ({} : State) with regs := [(F_TOP_BOOT_STATUS_STAGE.key 0, 3)], mc := { units := [(15, { ranks := [(0, 1), (7, 5)] })] } }, .fw, 15, 0, by decide +kernel⟩,
    ⟨{ ({} : State) with regs := [(F_TOP_BOOT_STATUS_STAGE.key 0, 3)], mc := { units := [(15, { ranks := [(0, 1), (7, 5), (6, 2)] })] } }, .fw, 15, 7, by decide +kernel⟩,
    ⟨{ ({} : State) with regs := [(F_TOP_BOOT_STATUS_STAGE.key 0, 3), (F_SI_T_PASS_PASS.key 15, 0)], mc := { units := [(15, { ranks := [(0, 1), (7, 5)] })] } }, .fw, 15, 7, by decide +kernel⟩,
    ⟨{ ({} : State) with regs := [(F_TOP_BOOT_STATUS_STAGE.key 0, 3)], mc := { units := [(15, { ranks := [(0, 1), (7, 5)] })] } }, .vf 3, by decide +kernel⟩,
    ⟨{ ({} : State) with mc := { rowTrig := [{ unit := 16, bank := 47, row := 9 }] } }, 16, 47, 9, by decide +kernel⟩,
    ⟨{ ({} : State) with mc := { rowTrig := [{ unit := 16, bank := 0, row := 0 }] }, map := { spares := (100, 9) }, regs := [(F_HB_STATUS_SET.key 0, 1)] }, 16, 0, 0, 0, 100, by decide +kernel⟩,
    ⟨{ ({} : State) with mc := { rowTrig := [{ unit := 16, bank := 0, row := 0 }] }, regs := [(F_HB_STATUS_SET.key 0, 1)] }, 16, 0, 0, 0, by decide +kernel⟩,
    ⟨{}, 16, 47, 9, by decide +kernel⟩⟩

theorem test_meets_retirement_and_sparing_5 :
    (∃ (s : State) (n : Nat) (k : Spare), s.ck.power = 0 ∧ s.mc.remap.find? (fun r => r.dfn == n && r.copying) = some k) ∧
    (∃ (s : State) (n : Nat) (k : Spare), s.ck.power = 0 ∧ s.mc.remap.find? (fun r => r.dfn == n && r.copying) = some k ∧ s.si.lineErr = []) ∧
    (∃ (s : State) (n : Nat), (s.ck.power ≠ 0 ∨ s.mc.remap.find? (fun r => r.dfn == n && r.copying) = none)) ∧
    (∃ (s : State) (n : Nat), n < 20 ∧ s.fld F_CK_PWR_CFG_DEEPEST = 2 ∧ s.inService n = true ∧ s.maintenance n = false ∧ (∀ u ∈ targetUnits n, (s.dram u).wwait = [] ∧ (s.dram u).selfRef = false)) ∧
    (∃ (s : State) (n : Nat), (s.fld F_CK_PWR_CFG_DEEPEST ≠ 2 ∨ s.inService n = false ∨ s.maintenance n = true ∨ ∃ u ∈ targetUnits n, (s.dram u).wwait ≠ [] ∨ (s.dram u).selfRef = true)) ∧
    (∃ (s : State) (n : Nat), n < 20 ∧ (∃ u ∈ targetUnits n, (s.dram u).selfRef = true)) ∧
    (∃ (s : State) (n : Nat), (∀ u ∈ targetUnits n, (s.dram u).selfRef = false)) :=
  ⟨⟨{ ({} : State) with mc := { remap := [{ dfn := 7, spare := 100 }] } }, 7, { dfn := 7, spare := 100 }, by decide +kernel⟩,
    ⟨{ ({} : State) with mc := { remap := [{ dfn := 7, spare := 100 }] } }, 7, { dfn := 7, spare := 100 }, by decide +kernel⟩,
    ⟨{}, 7, by decide +kernel⟩,
    ⟨{ ({} : State) with regs := [(F_MC_CH_STATUS_STATE.key 15, 2), (F_CK_PWR_CFG_DEEPEST.key 0, 2)] }, 15, by decide +kernel⟩,
    ⟨{}, 15, by decide +kernel⟩,
    ⟨{ ({} : State) with mc := { units := [(15, { selfRef := true })] } }, 15, by decide +kernel⟩,
    ⟨{}, 15, by decide +kernel⟩⟩

theorem test_meets_scrub_and_self_test_complete_1 :
    (∃ (s : State) (n : Nat), s.scrubs n = true ∧ s.scrubStopped n = false ∧ (s.scrubber n).pos + 1 < s.scrubLines n) ∧
    (∃ (s : State) (n : Nat), s.scrubs n = true ∧ s.scrubStopped n = false ∧ s.scrubLines n ≤ (s.scrubber n).pos + 1) ∧
    (∃ (s : State) (n : Nat) (f : LineErr) (g : LineErr) (k : Nat), s.scrubs n = true ∧ s.scrubStopped n = false ∧ s.scrubSector n (s.scrubber n).pos = some k ∧ s.poisoned k = false ∧ lineVerdict (isHotSec k) (s.natural (k * 4 + (s.scrubber n).pos % 4) f g) = .fixed) ∧
    (∃ (s : State) (n : Nat) (f : LineErr) (g : LineErr) (k : Nat), s.scrubs n = true ∧ s.scrubStopped n = false ∧ s.scrubSector n (s.scrubber n).pos = some k ∧ s.poisoned k = false ∧ lineVerdict (isHotSec k) (s.natural (k * 4 + (s.scrubber n).pos % 4) f g) = .failed) ∧
    (∃ (s : State) (n : Nat) (f : LineErr) (g : LineErr) (k : Nat), s.scrubs n = true ∧ s.scrubStopped n = false ∧ s.scrubSector n (s.scrubber n).pos = some k ∧ (lineVerdict (isHotSec k) (s.natural (k * 4 + (s.scrubber n).pos % 4) f g) = .clean ∨ s.poisoned k = true)) ∧
    (∃ (s : State) (n : Nat), (s.scrubs n = false ∨ s.scrubStopped n = true)) ∧
    (∃ (s : State) (d : Nat) (x : Desc), Runs s d 0x7D x ∧ bits x.e.opA 8 4 = 0 ∧ s.scrubNamed (bits x.e.opA 0 8) ≠ [] ∧ 1 ≤ bits x.e.opB 0 11 ∧ bits x.e.opB 0 11 ≤ 1024) ∧
    (∃ (s : State) (d : Nat) (x : Desc), Runs s d 0x7D x ∧ bits x.e.opA 8 4 = 0 ∧ (s.scrubNamed (bits x.e.opA 0 8) = [] ∨ bits x.e.opB 0 11 = 0 ∨ 1024 < bits x.e.opB 0 11)) :=
  ⟨⟨{ ({} : State) with regs := [(F_HB_STATUS_SET.key 0, 1), (F_TOP_HOT_FOLIOS_COUNT.key 0, 100)] }, 16, by decide +kernel⟩,
    ⟨{ ({} : State) with regs := [(F_HB_STATUS_SET.key 0, 1), (F_TOP_HOT_FOLIOS_COUNT.key 0, 100)], si := { scrub := [(16, { pos := 603979775 })] } }, 16, by decide +kernel⟩,
    ⟨{ ({} : State) with regs := [(F_HB_STATUS_SET.key 0, 1), (F_TOP_HOT_FOLIOS_COUNT.key 0, 100)] }, 16, { words := [[(3, 1)]] }, {}, 0, by decide +kernel⟩,
    ⟨{ ({} : State) with regs := [(F_HB_STATUS_SET.key 0, 1), (F_TOP_HOT_FOLIOS_COUNT.key 0, 100)] }, 16, { ondie := 2 }, { ondie := 2 }, 0, by decide +kernel⟩,
    ⟨{ ({} : State) with regs := [(F_HB_STATUS_SET.key 0, 1), (F_TOP_HOT_FOLIOS_COUNT.key 0, 100)] }, 16, {}, {}, 0, by decide +kernel⟩,
    ⟨{}, 16, by decide +kernel⟩,
    ⟨{ withDesc 3 (cmd 0x7D 16 1024 0) with regs := [(F_HB_STATUS_SET.key 0, 1), (F_TOP_HOT_FOLIOS_COUNT.key 0, 100)], si := { scrub := [(16, { pos := 5, held := false })] } }, 3, cmd 0x7D 16 1024 0, by decide +kernel⟩,
    ⟨{ withDesc 3 (cmd 0x7D 16 0 0) with regs := [(F_HB_STATUS_SET.key 0, 1), (F_TOP_HOT_FOLIOS_COUNT.key 0, 100)], si := { scrub := [(16, { pos := 5, held := false })] } }, 3, cmd 0x7D 16 0 0, by decide +kernel⟩⟩

theorem test_meets_scrub_and_self_test_complete_2 :
    (∃ (s : State) (d : Nat) (x : Desc), Runs s d 0x7D x ∧ bits x.e.opA 8 4 ≠ 0) ∧
    (∃ (s : State) (d : Nat) (x : Desc), Runs s d 0x7D x ∧ bits x.e.opA 8 4 = 1 ∧ s.scrubNamed (bits x.e.opA 0 8) ≠ [] ∧ bits x.e.opB 0 11 = 0) ∧
    (∃ (s : State) (d : Nat) (x : Desc), Runs s d 0x7D x ∧ bits x.e.opA 8 4 = 1 ∧ (s.scrubNamed (bits x.e.opA 0 8) = [] ∨ bits x.e.opB 0 11 ≠ 0)) ∧
    (∃ (s : State) (d : Nat) (x : Desc), Runs s d 0x7D x ∧ bits x.e.opA 8 4 ≠ 1) ∧
    (∃ (s : State) (d : Nat) (x : Desc), Runs s d 0x7D x ∧ bits x.e.opA 8 4 = 2 ∧ s.scrubNamed (bits x.e.opA 0 8) ≠ [] ∧ bits x.e.opB 0 11 = 0) ∧
    (∃ (s : State) (d : Nat) (x : Desc), Runs s d 0x7D x ∧ bits x.e.opA 8 4 = 2 ∧ (s.scrubNamed (bits x.e.opA 0 8) = [] ∨ bits x.e.opB 0 11 ≠ 0)) ∧
    (∃ (s : State) (d : Nat) (x : Desc), Runs s d 0x7D x ∧ bits x.e.opA 8 4 ≠ 2) ∧
    (∃ (s : State) (d : Nat) (x : Desc), Runs s d 0x7D x ∧ bits x.e.opA 8 4 = 3 ∧ s.scrubNamed (bits x.e.opA 0 8) ≠ [] ∧ bits x.e.opB 0 11 = 0) :=
  ⟨⟨{ withDesc 3 (cmd 0x7D 272 0 0) with regs := [(F_HB_STATUS_SET.key 0, 1), (F_TOP_HOT_FOLIOS_COUNT.key 0, 100)], si := { scrub := [(16, { pos := 5, held := false })] } }, 3, cmd 0x7D 272 0 0, by decide +kernel⟩,
    ⟨{ withDesc 3 (cmd 0x7D 272 0 0) with regs := [(F_HB_STATUS_SET.key 0, 1), (F_TOP_HOT_FOLIOS_COUNT.key 0, 100)], si := { scrub := [(16, { pos := 5, held := false })] } }, 3, cmd 0x7D 272 0 0, by decide +kernel⟩,
    ⟨{ withDesc 3 (cmd 0x7D 272 1 0) with regs := [(F_HB_STATUS_SET.key 0, 1), (F_TOP_HOT_FOLIOS_COUNT.key 0, 100)], si := { scrub := [(16, { pos := 5, held := false })] } }, 3, cmd 0x7D 272 1 0, by decide +kernel⟩,
    ⟨{ withDesc 3 (cmd 0x7D 528 0 0) with regs := [(F_HB_STATUS_SET.key 0, 1), (F_TOP_HOT_FOLIOS_COUNT.key 0, 100)], si := { scrub := [(16, { pos := 5, held := false })] } }, 3, cmd 0x7D 528 0 0, by decide +kernel⟩,
    ⟨{ withDesc 3 (cmd 0x7D 767 0 0) with regs := [(F_HB_STATUS_SET.key 0, 1), (F_TOP_HOT_FOLIOS_COUNT.key 0, 100)], si := { scrub := [(16, { pos := 5, held := true })] } }, 3, cmd 0x7D 767 0 0, by decide +kernel⟩,
    ⟨{ withDesc 3 (cmd 0x7D 528 1 0) with regs := [(F_HB_STATUS_SET.key 0, 1), (F_TOP_HOT_FOLIOS_COUNT.key 0, 100)], si := { scrub := [(16, { pos := 5, held := true })] } }, 3, cmd 0x7D 528 1 0, by decide +kernel⟩,
    ⟨{ withDesc 3 (cmd 0x7D 784 0 0) with regs := [(F_HB_STATUS_SET.key 0, 1), (F_TOP_HOT_FOLIOS_COUNT.key 0, 100)], si := { scrub := [(16, { pos := 5, held := true })] } }, 3, cmd 0x7D 784 0 0, by decide +kernel⟩,
    ⟨{ withDesc 3 (cmd 0x7D 784 0 0) with regs := [(F_HB_STATUS_SET.key 0, 1), (F_TOP_HOT_FOLIOS_COUNT.key 0, 100)], si := { scrub := [(16, { pos := 5, held := false })] } }, 3, cmd 0x7D 784 0 0, by decide +kernel⟩⟩

theorem test_meets_scrub_and_self_test_complete_3 :
    (∃ (s : State) (d : Nat) (x : Desc), Runs s d 0x7D x ∧ bits x.e.opA 8 4 = 3 ∧ (s.scrubNamed (bits x.e.opA 0 8) = [] ∨ bits x.e.opB 0 11 ≠ 0)) ∧
    (∃ (s : State) (d : Nat) (x : Desc), Runs s d 0x7D x ∧ bits x.e.opA 8 4 ≠ 3) ∧
    (∃ (s : State) (d : Nat) (x : Desc), Runs s d 0x7C x ∧ x.e.flag 8 = false ∧ x.e.flag 10 = false ∧ bistOk x.e x.e.bist = true ∧ s.bistAllowed x.e.bist = true ∧ s.jobOn x.e.bist.kind x.e.bist.index x.e.bist.rank = false ∧ s.si.jobs.length < 16) ∧
    (∃ (s : State) (d : Nat) (x : Desc), Runs s d 0x7C x ∧ x.e.flag 8 = false ∧ x.e.flag 10 = false ∧ bistOk x.e x.e.bist = false) ∧
    (∃ (s : State) (d : Nat) (x : Desc), Runs s d 0x7C x ∧ x.e.flag 8 = false ∧ x.e.flag 10 = false ∧ bistOk x.e x.e.bist = true ∧ s.bistAllowed x.e.bist = false) ∧
    (∃ (s : State) (d : Nat) (x : Desc), Runs s d 0x7C x ∧ x.e.flag 8 = false ∧ x.e.flag 10 = false ∧ bistOk x.e x.e.bist = true ∧ s.bistAllowed x.e.bist = true ∧ (s.jobOn x.e.bist.kind x.e.bist.index x.e.bist.rank = true ∨ 16 ≤ s.si.jobs.length)) ∧
    (∃ (s : State) (d : Nat) (x : Desc), Runs s d 0x7C x ∧ x.e.flag 10 = true ∧ bistOk x.e x.e.bist = true ∧ s.jobOn x.e.bist.kind x.e.bist.index x.e.bist.rank = true) ∧
    (∃ (s : State) (d : Nat) (x : Desc), Runs s d 0x7C x ∧ x.e.flag 10 = true ∧ (bistOk x.e x.e.bist = false ∨ s.jobOn x.e.bist.kind x.e.bist.index x.e.bist.rank = false)) :=
  ⟨⟨{ withDesc 3 (cmd 0x7D 784 1 0) with regs := [(F_HB_STATUS_SET.key 0, 1), (F_TOP_HOT_FOLIOS_COUNT.key 0, 100)], si := { scrub := [(16, { pos := 5, held := false })] } }, 3, cmd 0x7D 784 1 0, by decide +kernel⟩,
    ⟨{ withDesc 3 (cmd 0x7D 16 0 0) with regs := [(F_HB_STATUS_SET.key 0, 1), (F_TOP_HOT_FOLIOS_COUNT.key 0, 100)], si := { scrub := [(16, { pos := 5, held := false })] } }, 3, cmd 0x7D 16 0 0, by decide +kernel⟩,
    ⟨withDesc 3 (cmd 0x7C 983089 4096 32 0 0), 3, cmd 0x7C 983089 4096 32 0 0, by decide +kernel⟩,
    ⟨withDesc 3 (cmd 0x7C 49 4096 32), 3, cmd 0x7C 49 4096 32, by decide +kernel⟩,
    ⟨{ withDesc 3 (cmd 0x7C 983089 4096 32 0 0) with regs := [(F_HB_STATUS_SET.key 0, 15)] }, 3, cmd 0x7C 983089 4096 32 0 0, by decide +kernel⟩,
    ⟨{ withDesc 3 (cmd 0x7C 983089 4096 32 0 0) with si := { jobs := [{ kind := 1, index := 3, patterns := 15, planned := 4, room := 1 }] } }, 3, cmd 0x7C 983089 4096 32 0 0, by decide +kernel⟩,
    ⟨{ withDesc 3 (cmd 0x7C 983089 4096 32 0 4) with si := { jobs := [{ kind := 1, index := 3, patterns := 15, planned := 4, room := 1 }] } }, 3, cmd 0x7C 983089 4096 32 0 4, by decide +kernel⟩,
    ⟨withDesc 3 (cmd 0x7C 983089 4096 32 0 4), 3, cmd 0x7C 983089 4096 32 0 4, by decide +kernel⟩⟩

theorem test_meets_scrub_and_self_test_complete_4 :
    (∃ (s : State) (d : Nat) (x : Desc), Runs s d 0x7C x ∧ x.e.flag 10 = true ∧ (bistOk x.e x.e.bist = false ∨ s.jobOn x.e.bist.kind x.e.bist.index x.e.bist.rank = false)) ∧
    (∃ (s : State) (d : Nat) (x : Desc), Runs s d 0x7C x ∧ x.e.flag 8 = true ∧ x.e.flag 10 = false ∧ s.noHost x.q = false ∧ s.fld F_SE_STATUS_LC ≠ 4 ∧ bistOk x.e x.e.bist = true ∧ s.bistAllowed x.e.bist = true ∧ s.jobOn x.e.bist.kind x.e.bist.index x.e.bist.rank = false ∧ s.hostFault = none) ∧
    (∃ (s : State) (d : Nat) (x : Desc) (k : Nat), Runs s d 0x7C x ∧ x.e.flag 8 = true ∧ x.e.flag 10 = false ∧ s.noHost x.q = false ∧ s.fld F_SE_STATUS_LC ≠ 4 ∧ bistOk x.e x.e.bist = true ∧ s.bistAllowed x.e.bist = true ∧ s.jobOn x.e.bist.kind x.e.bist.index x.e.bist.rank = false ∧ s.hostFault = some k) ∧
    (∃ (s : State) (d : Nat) (x : Desc), Runs s d 0x7C x ∧ s.noHost x.q = true) ∧
    (∃ (s : State) (d : Nat) (x : Desc), Runs s d 0x7C x ∧ x.e.flag 8 = true ∧ x.e.flag 10 = false ∧ s.noHost x.q = false ∧ s.fld F_SE_STATUS_LC = 4) ∧
    (∃ (s : State) (d : Nat) (x : Desc), Runs s d 0x7C x ∧ x.e.flag 8 = true ∧ x.e.flag 10 = false ∧ s.noHost x.q = false ∧ s.fld F_SE_STATUS_LC ≠ 4 ∧ bistOk x.e x.e.bist = false) ∧
    (∃ (s : State) (d : Nat) (x : Desc), Runs s d 0x7C x ∧ x.e.flag 8 = true ∧ x.e.flag 10 = false ∧ s.noHost x.q = false ∧ s.fld F_SE_STATUS_LC ≠ 4 ∧ bistOk x.e x.e.bist = true ∧ s.bistAllowed x.e.bist = false) ∧
    (∃ (s : State) (d : Nat) (x : Desc), Runs s d 0x7C x ∧ x.e.flag 8 = true ∧ x.e.flag 10 = false ∧ s.noHost x.q = false ∧ s.fld F_SE_STATUS_LC ≠ 4 ∧ bistOk x.e x.e.bist = true ∧ s.bistAllowed x.e.bist = true ∧ s.jobOn x.e.bist.kind x.e.bist.index x.e.bist.rank = true) :=
  ⟨⟨{ withDesc 3 (cmd 0x7C 49 4096 32 0 4) with si := { jobs := [{ kind := 1, index := 3, patterns := 15, planned := 4, room := 1 }] } }, 3, cmd 0x7C 49 4096 32 0 4, by decide +kernel⟩,
    ⟨{ withDesc 3 (cmd 0x7C 983089 4096 32 0 1) with ir := { fns := [(0, { bme := true })] }, regs := [(F_HP_STATUS_RATE.key 0, 5)] }, 3, cmd 0x7C 983089 4096 32 0 1, by decide +kernel⟩,
    ⟨{ withDesc 3 (cmd 0x7C 983089 4096 32 0 1) with ir := { fns := [(0, { bme := true })] } }, 3, cmd 0x7C 983089 4096 32 0 1, 0x94, by decide +kernel⟩,
    ⟨{ ({} : State) with q := { tab := [(20, { tenant := 5, origin := 0x80, st := .active })], descs := [(3, { cmd 0x7C 983089 4096 32 0 1 with q := 20 })] } }, 3, { cmd 0x7C 983089 4096 32 0 1 with q := 20 }, by decide +kernel⟩,
    ⟨{ withDesc 3 (cmd 0x7C 983089 4096 32 0 1) with ir := { fns := [(0, { bme := true })] }, regs := [(F_SE_STATUS_LC.key 0, 4)] }, 3, cmd 0x7C 983089 4096 32 0 1, by decide +kernel⟩,
    ⟨{ withDesc 3 (cmd 0x7C 49 4096 32 0 1) with ir := { fns := [(0, { bme := true })] } }, 3, cmd 0x7C 49 4096 32 0 1, by decide +kernel⟩,
    ⟨{ withDesc 3 (cmd 0x7C 983089 4096 32 0 1) with ir := { fns := [(0, { bme := true })] }, regs := [(F_HB_STATUS_SET.key 0, 15)] }, 3, cmd 0x7C 983089 4096 32 0 1, by decide +kernel⟩,
    ⟨{ withDesc 3 (cmd 0x7C 983089 4096 32 0 1) with ir := { fns := [(0, { bme := true })] }, si := { jobs := [{ kind := 1, index := 3, patterns := 15, planned := 4, room := 1 }] } }, 3, cmd 0x7C 983089 4096 32 0 1, by decide +kernel⟩⟩

theorem test_meets_scrub_and_self_test_complete_5 :
    (∃ (s : State) (k : Nat) (i : Nat) (r : Nat) (l : List (List Byte)) (j : BistJob), s.job? k i r = some j ∧ j.stopping = false ∧ j.paused = false ∧ j.ran < j.planned ∧ j.waitTill ≤ s.now ∧ (l.take (j.room - j.written) = [] ∨ s.fnSilent j.fn = false)) ∧
    (∃ (s : State) (k : Nat) (i : Nat) (r : Nat) (l : List (List Byte)) (j : BistJob), s.job? k i r = some j ∧ (j.stopping = true ∨ j.paused = true ∨ j.planned ≤ j.ran ∨ s.now < j.waitTill ∨ (l.take (j.room - j.written) ≠ [] ∧ s.fnSilent j.fn = true))) ∧
    (∃ (s : State) (k : Nat) (i : Nat) (r : Nat) (j : BistJob), s.job? k i r = some j ∧ j.stopping = false ∧ j.planned ≤ j.ran ∧ r < 8) ∧
    (∃ (s : State) (k : Nat) (i : Nat) (r : Nat) (j : BistJob), s.job? k i r = some j ∧ j.stopping = true) ∧
    (∃ (s : State) (k : Nat) (i : Nat) (r : Nat) (j : BistJob), s.job? k i r = some j ∧ j.stopping = false ∧ j.ran < j.planned) :=
  ⟨⟨{ ({} : State) with si := { jobs := [{ kind := 1, index := 3, patterns := 15, planned := 4, room := 1 }] }, ir := { fns := [(0, { bme := true })] } }, 1, 3, 0, [[]], { kind := 1, index := 3, patterns := 15, planned := 4, room := 1 }, by decide +kernel⟩,
    ⟨{ ({} : State) with si := { jobs := [{ kind := 1, index := 3, patterns := 15, planned := 4, room := 1, waitTill := 5 }] } }, 1, 3, 0, [[]], { kind := 1, index := 3, patterns := 15, planned := 4, room := 1, waitTill := 5 }, by decide +kernel⟩,
    ⟨{ ({} : State) with si := { jobs := [{ kind := 1, index := 3, patterns := 15, planned := 4, room := 1, ran := 4 }] } }, 1, 3, 0, { kind := 1, index := 3, patterns := 15, planned := 4, room := 1, ran := 4 }, by decide +kernel⟩,
    ⟨{ ({} : State) with si := { jobs := [{ kind := 1, index := 3, patterns := 15, planned := 4, room := 1, stopping := true }] } }, 1, 3, 0, { kind := 1, index := 3, patterns := 15, planned := 4, room := 1, stopping := true }, by decide +kernel⟩,
    ⟨{ ({} : State) with si := { jobs := [{ kind := 1, index := 3, patterns := 15, planned := 4, room := 1 }] } }, 1, 3, 0, { kind := 1, index := 3, patterns := 15, planned := 4, room := 1 }, by decide +kernel⟩⟩

theorem test_meets_injection_and_parity_take_effect_1 :
    (∃ (s : State) (p : Port), s.answers p (bar0 10 0x1C) = true ∧ pfOrFw p = true ∧ s.fld F_SI_INJ_STATUS_LAST ≠ 3 ∧ s.injRefused = false) ∧
    (∃ (s : State) (p : Port), s.answers p (bar0 10 0x1C) = true ∧ pfOrFw p = true ∧ s.fld F_SI_INJ_STATUS_LAST ≠ 3 ∧ s.injRefused = true) ∧
    (∃ (s : State) (p : Port), s.answers p (bar0 10 0x1C) = true ∧ pfOrFw p = true ∧ s.fld F_SI_INJ_STATUS_LAST = 3) ∧
    (∃ (s : State) (p : Port), (s.answers p (bar0 10 0x1C) = false ∨ pfOrFw p = false)) ∧
    (∃ (s : State) (p : Port), (s.answers p (bar0 10 0x1C) = false ∨ pfOrFw p = false)) ∧
    (∃ (s : State) (n : Nat), s.si.inject = some (n * 8 + 1) ∧ (lineVerdict (isHotSec (n / 4)) (s.errOf n) = .clean ∨ lineVerdict (isHotSec (n / 4)) (s.errOf n) = .fixed)) ∧
    (∃ (s : State) (n : Nat), s.si.inject = some (n * 8 + 2) ∧ (lineVerdict (isHotSec (n / 4)) (s.errOf n) = .clean ∨ lineVerdict (isHotSec (n / 4)) (s.errOf n) = .fixed)) ∧
    (∃ (s : State) (n : Nat), s.si.inject = some (n * 8 + 3) ∧ (lineVerdict (isHotSec (n / 4)) (s.errOf n) = .clean ∨ lineVerdict (isHotSec (n / 4)) (s.errOf n) = .fixed)) :=
  ⟨⟨{ ({} : State) with regs := [(F_TOP_BOOT_STATUS_STAGE.key 0, 3), (F_SI_INJ_CFG_KIND.key 0, 1), (F_TOP_HOT_FOLIOS_COUNT.key 0, 8)] }, .pf, by decide +kernel⟩,
    ⟨running, .pf, by decide +kernel⟩,
    ⟨{ running with regs := [(F_TOP_BOOT_STATUS_STAGE.key 0, 3), (F_SI_INJ_STATUS_LAST.key 0, 3)] }, .pf, by decide +kernel⟩,
    ⟨running, .vf 3, by decide +kernel⟩,
    ⟨running, .bmc, by decide +kernel⟩,
    ⟨{ ({} : State) with si := { inject := some (9 * 8 + 1) } }, 9, by decide +kernel⟩,
    ⟨{ ({} : State) with si := { inject := some (9 * 8 + 2) } }, 9, by decide +kernel⟩,
    ⟨{ ({} : State) with si := { inject := some (9 * 8 + 3) } }, 9, by decide +kernel⟩⟩

theorem test_meets_injection_and_parity_take_effect_2 :
    (∃ (s : State) (n : Nat), s.si.inject = some (n * 8 + 4) ∧ (lineVerdict (isHotSec (n / 4)) (s.errOf n) = .clean ∨ lineVerdict (isHotSec (n / 4)) (s.errOf n) = .fixed)) ∧
    (∃ (s : State) (v : Nat), s.si.inject = some v ∧ lineVerdict (isHotSec (v / 8 / 4)) (s.errOf (v / 8)) = .failed) ∧
    (∃ (s : State), s.si.inject = none) ∧
    (∃ (s : State) (n : Nat), hasLine (s.dram (s.unitOf (n / 4))).wq n = true) ∧
    (∃ (s : State) (n : Nat), hasLine (s.dram (s.unitOf (n / 4))).wq n = false) ∧
    (∃ (s : State) (d : Nat) (x : Desc), s.desc? d = some x ∧ x.stage ≠ .done) ∧
    (∃ (s : State) (d : Nat), s.desc? d = none) ∧
    (∃ (s : State) (n : Nat) (e : IndexEntry), s.ct.stash[n]? = some e) :=
  ⟨⟨{ ({} : State) with si := { inject := some (9 * 8 + 4) } }, 9, by decide +kernel⟩,
    ⟨{ ({} : State) with si := { inject := some (9 * 8 + 1), lineErr := [(9, { ondie := 2 })] } }, 73, by decide +kernel⟩,
    ⟨{}, by decide +kernel⟩,
    ⟨{ ({} : State) with mc := { units := [(16, { wq := [{ line := 9 }, { line := 10, mask := 5 }] })] } }, 9, by decide +kernel⟩,
    ⟨{ ({} : State) with mc := { units := [(16, { wq := [{ line := 9 }, { line := 10, mask := 5 }] })] } }, 11, by decide +kernel⟩,
    ⟨withDesc 3 (cmd 0x20 0 0 4), 3, cmd 0x20 0 0 4, by decide +kernel⟩,
    ⟨{}, 3, by decide +kernel⟩,
    ⟨{ ({} : State) with ct := { stash := [{ hash := 5 }] } }, 0, { hash := 5 }, by decide +kernel⟩⟩

theorem test_meets_injection_and_parity_take_effect_3 :
    (∃ (s : State) (n : Nat) (i : Nat) (e : IndexEntry), s.ct.stash[n]? = some e ∧ s.handleIdx e.handle = some i ∧ (s.seg i).refs ≠ 0 ∧ (s.seg i).bad = false) ∧
    (∃ (s : State) (n : Nat), s.ct.stash.length ≤ n) ∧
    (∃ (s : State) (n : Nat) (h : Nat), s.ct.hot[n]? = some h ∧ (s.recent (s.unitRec (unitKey 9 0))).length < 2 ∧ (s.unitRec (unitKey 9 0)).queued = none) ∧
    (∃ (s : State) (n : Nat) (h : Nat), s.ct.hot[n]? = some h ∧ 2 ≤ (s.recent (s.unitRec (unitKey 9 0))).length ∧ (s.unitRec (unitKey 9 0)).escBy = none) ∧
    (∃ (s : State) (n : Nat), s.ct.hot.length ≤ n) ∧
    (∃ (s : State) (n : Nat) (v : Bool), (v = true ∨ s.poisoned (s.metaItem 1 n) = true)) ∧
    (∃ (s : State) (n : Nat) (v : Bool), (v = true ∨ s.poisoned (s.metaItem 1 n) = true)) ∧
    (∃ (s : State) (n : Nat) (v : Bool), (v = true ∨ s.poisoned (s.metaItem 2 n) = true)) :=
  ⟨⟨{ ({} : State) with ct := { stash := [{ hash := 5, handle := mkHandle 4 0 0 }], segs := [(4, { live := true, inIndex := true, refs := 2 })] } }, 0, 4, { hash := 5, handle := mkHandle 4 0 0 }, by decide +kernel⟩,
    ⟨{}, 0, by decide +kernel⟩,
    ⟨{ ({} : State) with ct := { hot := [5], index := [(2, { hash := 5 }), (3, { hash := 6 })] }, er := { units := [(unitKey 9 0, { times := [] })] } }, 0, 5, by decide +kernel⟩,
    ⟨{ ({} : State) with ct := { hot := [5], index := [(2, { hash := 5 }), (3, { hash := 6 })] }, er := { units := [(unitKey 9 0, { times := [0, 0] })] } }, 0, 5, by decide +kernel⟩,
    ⟨{}, 0, by decide +kernel⟩,
    ⟨{}, 9, true, by decide +kernel⟩,
    ⟨{ ({} : State) with poison := [(({} : State).metaItem 1 9)] }, 9, false, by decide +kernel⟩,
    ⟨{}, 9, true, by decide +kernel⟩⟩

theorem test_meets_injection_and_parity_take_effect_4 :
    (∃ (s : State) (n : Nat) (v : Bool), (v = true ∨ s.poisoned (s.metaItem 3 n) = true) ∧ (s.stream n).st = .active ∧ s.wmEnded n = [] ∧ s.streamDescs n = []) ∧
    (∃ (s : State) (n : Nat) (v : Bool), (v = true ∨ s.poisoned (s.metaItem 4 n) = true)) ∧
    (∃ (s : State) (n : Nat) (v : Bool), (v = true ∨ s.poisoned (s.metaItem 5 n) = true) ∧ (s.seg n).live = true ∧ (s.seg n).refs ≠ 0) ∧
    (∃ (s : State) (n : Nat) (v : Bool), (v = true ∨ s.poisoned (s.metaItem 6 n) = true)) ∧
    (∃ (s : State) (n : Nat) (v : Bool) (x : Desc), (v = true ∨ s.poisoned (s.metaItem 7 n) = true) ∧ s.desc? n = some x ∧ x.stage ≠ .done) ∧
    (∃ (s : State) (n : Nat) (v : Bool), (v = true ∨ s.poisoned (s.metaItem 8 n) = true)) ∧
    (∃ (s : State) (c : Nat) (n : Nat) (v : Bool), v = false ∧ s.poisoned (s.metaItem c n) = false) :=
  ⟨⟨{ ({} : State) with fn := { streams := [(9, { st := .active, tenant := 5 })] } }, 9, true, by decide +kernel⟩,
    ⟨{ ({} : State) with ct := { index := [(37, { hash := 5 })] } }, 9, true, by decide +kernel⟩,
    ⟨{ ({} : State) with ct := { segs := [(9, { live := true, refs := 1 })] } }, 9, true, by decide +kernel⟩,
    ⟨{}, 9, true, by decide +kernel⟩,
    ⟨withDesc 3 (cmd 0x20 0 0 4), 3, true, cmd 0x20 0 0 4, by decide +kernel⟩,
    ⟨{}, 9, true, by decide +kernel⟩,
    ⟨{}, 3, 9, false, by decide +kernel⟩⟩

theorem test_meets_link_control_and_training_1 :
    (∃ (s : State) (p : Port) (n : Nat), s.answers p linkCtlOff = true ∧ pfOrFw p = true ∧ n < 48 ∧ (s.link n).st = .disabled) ∧
    (∃ (s : State) (p : Port) (n : Nat), s.answers p linkCtlOff = true ∧ pfOrFw p = true ∧ n < 48 ∧ (s.link n).st ≠ .disabled) ∧
    (∃ (s : State) (p : Port) (n : Nat), s.answers p linkCtlOff = true ∧ pfOrFw p = true ∧ n < 48) ∧
    (∃ (s : State) (p : Port) (n : Nat), s.answers p linkCtlOff = true ∧ pfOrFw p = true ∧ n < 48 ∧ ((s.link n).isUp = true ∨ (s.link n).st = .recovery)) ∧
    (∃ (s : State) (p : Port) (n : Nat), s.answers p linkCtlOff = true ∧ pfOrFw p = true ∧ n < 48 ∧ (s.link n).isUp = false ∧ (s.link n).st ≠ .recovery) ∧
    (∃ (s : State) (p : Port) (n : Nat), s.answers p linkCtlOff = true ∧ pfOrFw p = true ∧ n < 48 ∧ (s.link n).st = .held) ∧
    (∃ (s : State) (p : Port) (n : Nat), s.answers p linkCtlOff = true ∧ pfOrFw p = true ∧ n < 48 ∧ (s.link n).st ≠ .held) ∧
    (∃ (s : State) (p : Port), s.answers p (linkCtlOff) = true ∧ pfOrFw p = false) :=
  ⟨⟨{ ({} : State) with lk := { links := [(2, { st := .disabled })] }, regs := [(F_TOP_BOOT_STATUS_STAGE.key 0, 3)] }, .pf, 2, by decide +kernel⟩,
    ⟨{ ({} : State) with lk := { links := [(2, { st := .active })] }, regs := [(F_TOP_BOOT_STATUS_STAGE.key 0, 3)] }, .pf, 2, by decide +kernel⟩,
    ⟨{ ({} : State) with lk := { links := [(2, { st := .active })] }, regs := [(F_TOP_BOOT_STATUS_STAGE.key 0, 3)] }, .pf, 2, by decide +kernel⟩,
    ⟨{ ({} : State) with lk := { links := [(2, { st := .active })] }, regs := [(F_TOP_BOOT_STATUS_STAGE.key 0, 3)] }, .pf, 2, by decide +kernel⟩,
    ⟨{ ({} : State) with lk := { links := [(2, { st := .held })] }, regs := [(F_TOP_BOOT_STATUS_STAGE.key 0, 3)] }, .pf, 2, by decide +kernel⟩,
    ⟨{ ({} : State) with lk := { links := [(2, { st := .held })] }, regs := [(F_TOP_BOOT_STATUS_STAGE.key 0, 3)] }, .pf, 2, by decide +kernel⟩,
    ⟨{ ({} : State) with lk := { links := [(2, { st := .down })] }, regs := [(F_TOP_BOOT_STATUS_STAGE.key 0, 3)] }, .pf, 2, by decide +kernel⟩,
    ⟨running, .vf 3, by decide +kernel⟩⟩

theorem test_meets_link_control_and_training_2 :
    (∃ (s : State) (p : Port), s.answers p (linkCtlOff) = false) ∧
    (∃ (s : State) (p : Port) (n : Nat), s.answers p linkCtlOff = true ∧ pfOrFw p = true ∧ 48 ≤ n) ∧
    (∃ (s : State) (p : Port), s.answers p (linkCtlOff) = true ∧ pfOrFw p = false) ∧
    (∃ (s : State) (p : Port), s.answers p (linkCtlOff) = false) ∧
    (∃ (s : State) (p : Port) (n : Nat), s.answers p linkCtlOff = true ∧ pfOrFw p = true ∧ 48 ≤ n) ∧
    (∃ (s : State) (p : Port), s.answers p (linkCtlOff) = true ∧ pfOrFw p = false) ∧
    (∃ (s : State) (p : Port), s.answers p (linkCtlOff) = false) ∧
    (∃ (s : State) (p : Port) (n : Nat), s.answers p linkCtlOff = true ∧ pfOrFw p = true ∧ 48 ≤ n) :=
  ⟨⟨{}, .pf, by decide +kernel⟩,
    ⟨running, .pf, 48, by decide +kernel⟩,
    ⟨running, .vf 3, by decide +kernel⟩,
    ⟨{}, .pf, by decide +kernel⟩,
    ⟨running, .pf, 48, by decide +kernel⟩,
    ⟨running, .vf 3, by decide +kernel⟩,
    ⟨{}, .pf, by decide +kernel⟩,
    ⟨running, .pf, 48, by decide +kernel⟩⟩

theorem test_meets_link_control_and_training_3 :
    (∃ (s : State) (p : Port), s.answers p (linkCtlOff) = true ∧ pfOrFw p = false) ∧
    (∃ (s : State) (p : Port), s.answers p (linkCtlOff) = false) ∧
    (∃ (s : State) (p : Port) (n : Nat), s.answers p linkCtlOff = true ∧ pfOrFw p = true ∧ 48 ≤ n) ∧
    (∃ (s : State) (n : Nat), (s.link n).st = .held ∧ (s.link n).heldUntil ≤ s.now) ∧
    (∃ (s : State) (n : Nat), ((s.link n).st ≠ .held ∨ s.now < (s.link n).heldUntil)) ∧
    (∃ (s : State) (n : Nat), (s.link n).isUp = true ∧ (s.link n).upSince + 320000000000 ≤ s.now) ∧
    (∃ (s : State) (n : Nat), ((s.link n).isUp = false ∨ s.now < (s.link n).upSince + 320000000000)) ∧
    (∃ (s : State) (n : Nat), n < 48 ∧ s.fld F_TOP_BOOT_STATUS_STAGE = 3 ∧ s.ck.power = 0 ∧ (s.link n).st = .down ∧ inSet s.lk.asleep (n / 4) = false) :=
  ⟨⟨running, .vf 3, by decide +kernel⟩,
    ⟨{}, .pf, by decide +kernel⟩,
    ⟨running, .pf, 48, by decide +kernel⟩,
    ⟨{ ({} : State) with lk := { links := [(2, { st := .held })] }, regs := [(F_TOP_BOOT_STATUS_STAGE.key 0, 3)] }, 2, by decide +kernel⟩,
    ⟨{}, 2, by decide +kernel⟩,
    ⟨{ ({} : State) with now := 320000000000, lk := { links := [(2, { st := .active })] }, regs := [(F_TOP_BOOT_STATUS_STAGE.key 0, 3)] }, 2, by decide +kernel⟩,
    ⟨{}, 2, by decide +kernel⟩,
    ⟨{ ({} : State) with lk := { links := [(2, { st := .down })] }, regs := [(F_TOP_BOOT_STATUS_STAGE.key 0, 3)] }, 2, by decide +kernel⟩⟩

theorem test_meets_link_control_and_training_4 :
    (∃ (s : State) (n : Nat), (48 ≤ n ∨ s.fld F_TOP_BOOT_STATUS_STAGE ≠ 3 ∨ s.ck.power ≠ 0 ∨ (s.link n).st ≠ .down ∨ inSet s.lk.asleep (n / 4) = true)) ∧
    (∃ (s : State) (n : Nat) (r : Nat) (g : Nat), (s.link n).st = .training ∧ r ≤ (s.link n).tryRate ∧ s.fld F_LK_L_CFG_MIN_WIDTH n ≤ (widest g).1) ∧
    (∃ (s : State) (n : Nat) (r : Nat) (g : Nat), (s.link n).st = .training ∧ r ≤ (s.link n).tryRate ∧ (widest g).1 < s.fld F_LK_L_CFG_MIN_WIDTH n ∧ r = 1) ∧
    (∃ (s : State) (n : Nat) (r : Nat) (g : Nat), (s.link n).st = .training ∧ r ≤ (s.link n).tryRate ∧ (widest g).1 < s.fld F_LK_L_CFG_MIN_WIDTH n ∧ r ≠ 1) ∧
    (∃ (s : State) (n : Nat) (r : Nat), ((s.link n).st ≠ .training ∨ (s.link n).tryRate < r)) ∧
    (∃ (s : State) (n : Nat), (s.link n).st = .training ∧ (s.link n).tryRate = 1) ∧
    (∃ (s : State) (n : Nat), (s.link n).st = .training ∧ (s.link n).tryRate ≠ 1) ∧
    (∃ (s : State) (n : Nat), (s.link n).st ≠ .training) :=
  ⟨⟨{}, 2, by decide +kernel⟩,
    ⟨{ ({} : State) with lk := { links := [(2, { st := .training })] }, regs := [(F_TOP_BOOT_STATUS_STAGE.key 0, 3)] }, 2, 1, 12, by decide +kernel⟩,
    ⟨{ ({} : State) with lk := { links := [(2, { st := .training })] }, regs := [(F_TOP_BOOT_STATUS_STAGE.key 0, 3)] }, 2, 1, 0, by decide +kernel⟩,
    ⟨{ ({} : State) with lk := { links := [(2, { st := .training, tryRate := 0 })] }, regs := [(F_TOP_BOOT_STATUS_STAGE.key 0, 3)] }, 2, 0, 0, by decide +kernel⟩,
    ⟨{}, 2, 1, by decide +kernel⟩,
    ⟨{ ({} : State) with lk := { links := [(2, { st := .training })] }, regs := [(F_TOP_BOOT_STATUS_STAGE.key 0, 3)] }, 2, by decide +kernel⟩,
    ⟨{ ({} : State) with lk := { links := [(2, { st := .training, tryRate := 0 })] }, regs := [(F_TOP_BOOT_STATUS_STAGE.key 0, 3)] }, 2, by decide +kernel⟩,
    ⟨{}, 2, by decide +kernel⟩⟩

theorem test_meets_link_control_and_training_5 :
    (∃ (s : State) (n : Nat), (s.link n).st = .config ∧ (s.link n).partner = none) ∧
    (∃ (s : State) (n : Nat) (q : Partner), (s.link n).st = .config ∧ (s.link n).partner = some q ∧ (s.link n).ackSeen = false) ∧
    (∃ (s : State) (n : Nat) (q : Partner), (s.link n).st = .config ∧ (s.link n).partner = some q ∧ (s.link n).ackSeen = true ∧ 4 ≤ q.credits.getD 3 0 ∧ s.configCheck n q = 0) ∧
    (∃ (s : State) (n : Nat), (s.link n).st ≠ .config) ∧
    (∃ (s : State) (n : Nat) (f : Flit), (s.link n).st = .config ∧ f.type = 2 ∧ f.vc = 0 ∧ f.session = 0 ∧ f.queue = 0 ∧ f.xtag = 0 ∧ f.poison = false ∧ f.last = false ∧ f.seq = 0 ∧ strayPayload 2 f.body = false ∧ (s.link n).ackSent = false) ∧
    (∃ (s : State) (n : Nat) (f : Flit), ((s.link n).isUp = true ∨ (s.link n).st = .recovery) ∧ f.type = 2 ∧ f.vc = 0 ∧ f.session = 0 ∧ f.queue = 0 ∧ f.xtag = 0 ∧ f.poison = false ∧ f.last = false ∧ f.seq = 0 ∧ strayPayload 2 f.body = false ∧ 5 > (((s.link n).drops ++ [s.now]).filter (fun k => decide (s.now - k < 10000000000))).length) ∧
    (∃ (s : State) (n : Nat) (f : Flit), ((s.link n).isUp = true ∨ (s.link n).st = .recovery ∨ (s.link n).st = .config) ∧ f.type = 2 ∧ (f.vc ≠ 0 ∨ f.session ≠ 0 ∨ f.queue ≠ 0 ∨ f.xtag ≠ 0 ∨ f.poison = true ∨ f.last = true ∨ f.seq ≠ 0 ∨ 240 < f.body.length ∨ strayPayload 2 f.body = true)) ∧
    (∃ (s : State) (n : Nat) (f : Flit), (f.type ≠ 2 ∨ ((s.link n).isUp = false ∧ (s.link n).st ≠ .recovery ∧ (s.link n).st ≠ .config))) :=
  ⟨⟨{ ({} : State) with lk := { links := [(2, { st := .config })] }, regs := [(F_TOP_BOOT_STATUS_STAGE.key 0, 3)] }, 2, by decide +kernel⟩,
    ⟨{ ({} : State) with lk := { links := [(2, { st := .config, partner := some {} })] }, regs := [(F_TOP_BOOT_STATUS_STAGE.key 0, 3)] }, 2, {}, by decide +kernel⟩,
    ⟨{ ({} : State) with lk := { links := [(2, { st := .config, ackSeen := true, partner := some { role := 1, major := 1, credits := [4, 4, 4, 4] } })] }, regs := [(F_TOP_BOOT_STATUS_STAGE.key 0, 3), (F_LK_L_CFG_ROLE.key 2, 1)] }, 2, { role := 1, major := 1, credits := [4, 4, 4, 4] }, by decide +kernel⟩,
    ⟨{}, 2, by decide +kernel⟩,
    ⟨{ ({} : State) with lk := { links := [(2, { st := .config })] }, regs := [(F_TOP_BOOT_STATUS_STAGE.key 0, 3)] }, 2, { type := 2, body := [1] ++ List.replicate 47 0 }, by decide +kernel⟩,
    ⟨{ ({} : State) with lk := { links := [(2, { st := .active })] }, regs := [(F_TOP_BOOT_STATUS_STAGE.key 0, 3)] }, 2, { type := 2, body := [1] ++ List.replicate 47 0 }, by decide +kernel⟩,
    ⟨{ ({} : State) with lk := { links := [(2, { st := .config })] }, regs := [(F_TOP_BOOT_STATUS_STAGE.key 0, 3)] }, 2, { type := 2, vc := 1 }, by decide +kernel⟩,
    ⟨{}, 2, { type := 2 }, by decide +kernel⟩⟩

theorem test_meets_link_control_and_training_6 :
    (∃ (s : State) (n : Nat), (s.link n).st = .config) ∧
    (∃ (s : State) (n : Nat), (s.link n).st ≠ .config) ∧
    (∃ (s : State) (n : Nat), (s.link n).st = .quarantine ∧ (s.link n).qcause = 6) ∧
    (∃ (s : State) (n : Nat), ((s.link n).st ≠ .quarantine ∨ (s.link n).qcause ≠ 6)) ∧
    (∃ (s : State) (n : Nat), n < 12 ∧ 1 ≤ s.fld F_CK_PWR_CFG_DEEPEST ∧ (∀ i ∈ List.range 4, (s.link (4 * n + i)).st = .disabled ∨ (s.link (4 * n + i)).st = .down ∨ (s.link (4 * n + i)).st = .held)) ∧
    (∃ (s : State) (n : Nat), (12 ≤ n ∨ s.fld F_CK_PWR_CFG_DEEPEST = 0 ∨ ∃ i ∈ List.range 4, (s.link (4 * n + i)).st ≠ .disabled ∧ (s.link (4 * n + i)).st ≠ .down ∧ (s.link (4 * n + i)).st ≠ .held)) ∧
    (∃ (s : State) (n : Nat), (s.link n).st = .down ∧ inSet s.lk.asleep (n / 4) = true) ∧
    (∃ (s : State) (n : Nat), ((s.link n).st ≠ .down ∨ inSet s.lk.asleep (n / 4) = false)) :=
  ⟨⟨{ ({} : State) with lk := { links := [(2, { st := .config })] }, regs := [(F_TOP_BOOT_STATUS_STAGE.key 0, 3)] }, 2, by decide +kernel⟩,
    ⟨{}, 2, by decide +kernel⟩,
    ⟨{ ({} : State) with lk := { links := [(2, { st := .quarantine, qcause := 6 })] }, regs := [(F_TOP_BOOT_STATUS_STAGE.key 0, 3)] }, 2, by decide +kernel⟩,
    ⟨{}, 2, by decide +kernel⟩,
    ⟨{ ({} : State) with regs := [(F_CK_PWR_CFG_DEEPEST.key 0, 1)] }, 11, by decide +kernel⟩,
    ⟨{ ({} : State) with lk := { links := [(2, { st := .active })] }, regs := [(F_CK_PWR_CFG_DEEPEST.key 0, 1)] }, 0, by decide +kernel⟩,
    ⟨{ ({} : State) with lk := { asleep := [0] } }, 2, by decide +kernel⟩,
    ⟨{}, 2, by decide +kernel⟩⟩

theorem test_meets_link_control_and_training_7 :
    (∃ (s : State) (n : Nat), (s.link n).st = .down ∧ inSet s.lk.asleep (n / 4) = true) ∧
    (∃ (s : State) (n : Nat), inSet s.lk.asleep (n / 4) = false) ∧
    (∃ (s : State) (n : Nat), (s.link n).st ≠ .down ∧ inSet s.lk.asleep (n / 4) = true) :=
  ⟨⟨{ ({} : State) with lk := { asleep := [0] } }, 2, by decide +kernel⟩,
    ⟨{}, 2, by decide +kernel⟩,
    ⟨{ ({} : State) with lk := { links := [(2, { st := .held })], asleep := [0] } }, 2, by decide +kernel⟩⟩

set_option maxRecDepth 100000 in
theorem test_meets_link_sequencing_and_replay_1 :
    (∃ (s : State) (n : Nat) (a : Arrival) (r : Arrived) (f : Flit), (s.link n).isUp = true ∧ a.place < 5 ∧ r = arrive (s.link n).lanes (s.link n).mirror a ∧ f = flitOf r.bytes ∧ r.lost = false ∧ crcOk r.bytes = true ∧ isSequenced f.type = true ∧ f.seq = (s.link n).expect ∧ s.flitCheck n f (malformed r.bytes) = 0 ∧ (s.link n).sinceCtl + 1 < 64 ∧ f.session = 0) ∧
    (∃ (s : State) (n : Nat) (a : Arrival) (r : Arrived) (f : Flit), (s.link n).isUp = true ∧ a.place < 5 ∧ r = arrive (s.link n).lanes (s.link n).mirror a ∧ f = flitOf r.bytes ∧ r.lost = false ∧ crcOk r.bytes = true ∧ isSequenced f.type = true ∧ f.seq = (s.link n).expect ∧ s.flitCheck n f (malformed r.bytes) = 0 ∧ (s.link n).sinceCtl + 1 < 64) ∧
    (∃ (s : State) (n : Nat) (a : Arrival) (r : Arrived) (f : Flit), (s.link n).isUp = true ∧ a.place < 5 ∧ r = arrive (s.link n).lanes (s.link n).mirror a ∧ f = flitOf r.bytes ∧ r.lost = false ∧ crcOk r.bytes = true ∧ isSequenced f.type = true ∧ f.seq = (s.link n).expect ∧ s.flitCheck n f (malformed r.bytes) = 0 ∧ (s.link n).sinceCtl + 1 < 64) ∧
    (∃ (s : State) (n : Nat) (a : Arrival) (r : Arrived) (f : Flit), (s.link n).isUp = true ∧ a.place < 5 ∧ r = arrive (s.link n).lanes (s.link n).mirror a ∧ f = flitOf r.bytes ∧ r.lost = false ∧ crcOk r.bytes = true ∧ isSequenced f.type = true ∧ f.seq = (s.link n).expect ∧ s.flitCheck n f (malformed r.bytes) = 0 ∧ 64 ≤ (s.link n).sinceCtl + 1) ∧
    (∃ (s : State) (n : Nat) (a : Arrival) (r : Arrived) (f : Flit), (s.link n).isUp = true ∧ a.place < 5 ∧ r = arrive (s.link n).lanes (s.link n).mirror a ∧ f = flitOf r.bytes ∧ r.lost = false ∧ crcOk r.bytes = true ∧ isSequenced f.type = true ∧ f.seq = (s.link n).expect ∧ s.flitCheck n f (malformed r.bytes) = 2) ∧
    (∃ (s : State) (n : Nat) (a : Arrival) (r : Arrived) (f : Flit), (s.link n).isUp = true ∧ a.place < 5 ∧ r = arrive (s.link n).lanes (s.link n).mirror a ∧ f = flitOf r.bytes ∧ r.lost = false ∧ crcOk r.bytes = true ∧ isSequenced f.type = true ∧ f.seq = (s.link n).expect ∧ s.flitCheck n f (malformed r.bytes) = 5 ∧ (s.link n).sinceCtl + 1 < 64) ∧
    (∃ (s : State) (n : Nat) (a : Arrival) (r : Arrived) (f : Flit), (s.link n).isUp = true ∧ a.place < 5 ∧ r = arrive (s.link n).lanes (s.link n).mirror a ∧ f = flitOf r.bytes ∧ r.lost = false ∧ crcOk r.bytes = true ∧ isSequenced f.type = true ∧ f.seq = (s.link n).expect ∧ s.flitCheck n f (malformed r.bytes) = 1 ∧ (s.link n).sinceCtl + 1 < 64) ∧
    (∃ (s : State) (n : Nat) (a : Arrival) (r : Arrived) (f : Flit), (s.link n).isUp = true ∧ a.place < 5 ∧ r = arrive (s.link n).lanes (s.link n).mirror a ∧ f = flitOf r.bytes ∧ r.lost = false ∧ crcOk r.bytes = true ∧ isSequenced f.type = true ∧ f.seq = (s.link n).expect ∧ (s.flitCheck n f (malformed r.bytes) = 3 ∨ s.flitCheck n f (malformed r.bytes) = 4)) :=
  ⟨⟨{ ({} : State) with lk := { links := [(2, { st := .active })] }, regs := [(F_TOP_BOOT_STATUS_STAGE.key 0, 3)] }, 2, { bytes := flitWire { type := 11, vc := 3, body := [1] } }, arrive 0 false ({ bytes := flitWire { type := 11, vc := 3, body := [1] } }), flitOf (arrive 0 false ({ bytes := flitWire { type := 11, vc := 3, body := [1] } })).bytes, by decide +kernel⟩,
    ⟨{ ({} : State) with lk := { links := [(2, { st := .active })] }, regs := [(F_TOP_BOOT_STATUS_STAGE.key 0, 3)] }, 2, { bytes := flitWire { type := 11, vc := 3, body := [1] } }, arrive 0 false ({ bytes := flitWire { type := 11, vc := 3, body := [1] } }), flitOf (arrive 0 false ({ bytes := flitWire { type := 11, vc := 3, body := [1] } })).bytes, by decide +kernel⟩,
    ⟨{ ({} : State) with lk := { links := [(2, { st := .active, sessions := [(5, { bound := true, isOpen := true, tenant := 3 })] })] }, regs := [(F_TOP_BOOT_STATUS_STAGE.key 0, 3)] }, 2, { bytes := flitWire { type := 3, vc := 0, session := 5, queue := 7, body := List.replicate 24 0 } }, arrive 0 false ({ bytes := flitWire { type := 3, vc := 0, session := 5, queue := 7, body := List.replicate 24 0 } }), flitOf (arrive 0 false ({ bytes := flitWire { type := 3, vc := 0, session := 5, queue := 7, body := List.replicate 24 0 } })).bytes, by decide +kernel⟩,
    ⟨{ ({} : State) with lk := { links := [(2, { st := .active, sinceCtl := 63 })] }, regs := [(F_TOP_BOOT_STATUS_STAGE.key 0, 3)] }, 2, { bytes := flitWire { type := 11, vc := 3, body := [1] } }, arrive 0 false ({ bytes := flitWire { type := 11, vc := 3, body := [1] } }), flitOf (arrive 0 false ({ bytes := flitWire { type := 11, vc := 3, body := [1] } })).bytes, by decide +kernel⟩,
    ⟨{ ({} : State) with lk := { links := [(2, { st := .active, got := [(3, ownCredits 3)] })] }, regs := [(F_TOP_BOOT_STATUS_STAGE.key 0, 3)] }, 2, { bytes := flitWire { type := 11, vc := 3, body := [1] } }, arrive 0 false ({ bytes := flitWire { type := 11, vc := 3, body := [1] } }), flitOf (arrive 0 false ({ bytes := flitWire { type := 11, vc := 3, body := [1] } })).bytes, by decide +kernel⟩,
    ⟨{ ({} : State) with lk := { links := [(2, { st := .active })] }, regs := [(F_TOP_BOOT_STATUS_STAGE.key 0, 3)] }, 2, { bytes := flitWire { type := 3, vc := 0, session := 5, queue := 7, body := List.replicate 24 0 } }, arrive 0 false ({ bytes := flitWire { type := 3, vc := 0, session := 5, queue := 7, body := List.replicate 24 0 } }), flitOf (arrive 0 false ({ bytes := flitWire { type := 3, vc := 0, session := 5, queue := 7, body := List.replicate 24 0 } })).bytes, by decide +kernel⟩,
    ⟨{ ({} : State) with lk := { links := [(2, { st := .quarantine, sessions := [(63, { bound := true, isOpen := true })], partner := some {} })] }, regs := [(F_TOP_BOOT_STATUS_STAGE.key 0, 3)] }, 2, { bytes := flitWire { type := 8, vc := vcOf 8, session := 63, body := List.replicate 64 0 } }, arrive 0 false ({ bytes := flitWire { type := 8, vc := vcOf 8, session := 63, body := List.replicate 64 0 } }), flitOf (arrive 0 false ({ bytes := flitWire { type := 8, vc := vcOf 8, session := 63, body := List.replicate 64 0 } })).bytes, by decide +kernel⟩,
    ⟨{ ({} : State) with lk := { links := [(2, { st := .active })] }, regs := [(F_TOP_BOOT_STATUS_STAGE.key 0, 3)] }, 2, { bytes := flitWire { type := 11, vc := 3, queue := 9 } }, arrive 0 false ({ bytes := flitWire { type := 11, vc := 3, queue := 9 } }), flitOf (arrive 0 false ({ bytes := flitWire { type := 11, vc := 3, queue := 9 } })).bytes, by decide +kernel⟩⟩

set_option maxRecDepth 100000 in
theorem test_meets_link_sequencing_and_replay_2 :
    (∃ (s : State) (n : Nat) (a : Arrival) (r : Arrived) (f : Flit), (s.link n).isUp = true ∧ a.place < 5 ∧ r = arrive (s.link n).lanes (s.link n).mirror a ∧ f = flitOf r.bytes ∧ r.lost = false ∧ crcOk r.bytes = true ∧ isSequenced f.type = true ∧ f.seq = (s.link n).expect ∧ (s.flitCheck n f (malformed r.bytes) = 3 ∨ s.flitCheck n f (malformed r.bytes) = 4)) ∧
    (∃ (s : State) (n : Nat) (a : Arrival) (r : Arrived) (f : Flit), (s.link n).isUp = true ∧ a.place < 5 ∧ r = arrive (s.link n).lanes (s.link n).mirror a ∧ f = flitOf r.bytes ∧ (r.lost = true ∨ crcOk r.bytes = false) ∧ (s.link n).nakSent = false) ∧
    (∃ (s : State) (n : Nat) (a : Arrival) (r : Arrived) (f : Flit), (s.link n).isUp = true ∧ a.place < 5 ∧ r = arrive (s.link n).lanes (s.link n).mirror a ∧ f = flitOf r.bytes ∧ (r.lost = true ∨ crcOk r.bytes = false) ∧ (s.link n).nakSent = true) ∧
    (∃ (s : State) (n : Nat) (a : Arrival) (r : Arrived) (f : Flit), (s.link n).isUp = true ∧ a.place < 5 ∧ r = arrive (s.link n).lanes (s.link n).mirror a ∧ f = flitOf r.bytes ∧ r.lost = false ∧ crcOk r.bytes = true ∧ isSequenced f.type = false ∧ malformed r.bytes = false) ∧
    (∃ (s : State) (n : Nat) (a : Arrival) (r : Arrived) (f : Flit), (s.link n).isUp = true ∧ a.place < 5 ∧ r = arrive (s.link n).lanes (s.link n).mirror a ∧ f = flitOf r.bytes ∧ r.lost = false ∧ crcOk r.bytes = true ∧ isSequenced f.type = false ∧ malformed r.bytes = true) ∧
    (∃ (s : State) (n : Nat) (a : Arrival) (r : Arrived) (f : Flit), (s.link n).isUp = true ∧ a.place < 5 ∧ r = arrive (s.link n).lanes (s.link n).mirror a ∧ f = flitOf r.bytes ∧ r.lost = false ∧ crcOk r.bytes = true ∧ isSequenced f.type = true ∧ f.seq ≠ (s.link n).expect ∧ 1 ≤ ((s.link n).expect + 1024 - f.seq) % 1024 ∧ ((s.link n).expect + 1024 - f.seq) % 1024 ≤ 512) ∧
    (∃ (s : State) (n : Nat) (a : Arrival) (r : Arrived) (f : Flit), (s.link n).isUp = true ∧ a.place < 5 ∧ r = arrive (s.link n).lanes (s.link n).mirror a ∧ f = flitOf r.bytes ∧ r.lost = false ∧ crcOk r.bytes = true ∧ isSequenced f.type = true ∧ 512 < ((s.link n).expect + 1024 - f.seq) % 1024 ∧ (s.link n).nakSent = false) ∧
    (∃ (s : State) (n : Nat) (a : Arrival) (r : Arrived), ((s.link n).st = .config ∨ (s.link n).st = .recovery ∨ ((s.link n).isUp = true ∧ 5 ≤ a.place)) ∧ r = arrive (s.link n).lanes (s.link n).mirror a) :=
  ⟨⟨{ ({} : State) with lk := { links := [(2, { st := .active })] }, regs := [(F_TOP_BOOT_STATUS_STAGE.key 0, 3)] }, 2, { bytes := flitWire { type := 4, vc := 2, session := 5, queue := 7 } }, arrive 0 false ({ bytes := flitWire { type := 4, vc := 2, session := 5, queue := 7 } }), flitOf (arrive 0 false ({ bytes := flitWire { type := 4, vc := 2, session := 5, queue := 7 } })).bytes, by decide +kernel⟩,
    ⟨{ ({} : State) with lk := { links := [(2, { st := .active })] }, regs := [(F_TOP_BOOT_STATUS_STAGE.key 0, 3)] }, 2, {}, arrive 0 false ({}), flitOf (arrive 0 false ({})).bytes, by decide +kernel⟩,
    ⟨{ ({} : State) with lk := { links := [(2, { st := .active, nakSent := true })] }, regs := [(F_TOP_BOOT_STATUS_STAGE.key 0, 3)] }, 2, {}, arrive 0 false ({}), flitOf (arrive 0 false ({})).bytes, by decide +kernel⟩,
    ⟨{ ({} : State) with lk := { links := [(2, { st := .active })] }, regs := [(F_TOP_BOOT_STATUS_STAGE.key 0, 3)] }, 2, { bytes := flitWire {  } }, arrive 0 false ({ bytes := flitWire {  } }), flitOf (arrive 0 false ({ bytes := flitWire {  } })).bytes, by decide +kernel⟩,
    ⟨{ ({} : State) with lk := { links := [(2, { st := .active })] }, regs := [(F_TOP_BOOT_STATUS_STAGE.key 0, 3)] }, 2, { bytes := flitWire { queue := 9 } }, arrive 0 false ({ bytes := flitWire { queue := 9 } }), flitOf (arrive 0 false ({ bytes := flitWire { queue := 9 } })).bytes, by decide +kernel⟩,
    ⟨{ ({} : State) with lk := { links := [(2, { st := .active, expect := 1 })] }, regs := [(F_TOP_BOOT_STATUS_STAGE.key 0, 3)] }, 2, { bytes := flitWire { type := 11, vc := 3, body := [1] } }, arrive 0 false ({ bytes := flitWire { type := 11, vc := 3, body := [1] } }), flitOf (arrive 0 false ({ bytes := flitWire { type := 11, vc := 3, body := [1] } })).bytes, by decide +kernel⟩,
    ⟨{ ({} : State) with lk := { links := [(2, { st := .active, expect := 1 })] }, regs := [(F_TOP_BOOT_STATUS_STAGE.key 0, 3)] }, 2, { bytes := flitWire { type := 11, vc := 3, seq := 4, body := [1] } }, arrive 0 false ({ bytes := flitWire { type := 11, vc := 3, seq := 4, body := [1] } }), flitOf (arrive 0 false ({ bytes := flitWire { type := 11, vc := 3, seq := 4, body := [1] } })).bytes, by decide +kernel⟩,
    ⟨{ ({} : State) with lk := { links := [(2, { st := .config })] }, regs := [(F_TOP_BOOT_STATUS_STAGE.key 0, 3)] }, 2, { bytes := flitWire {  } }, arrive 0 false ({ bytes := flitWire {  } }), by decide +kernel⟩⟩

theorem test_meets_link_sequencing_and_replay_3 :
    (∃ (s : State) (n : Nat), (s.link n).isUp = false ∧ (s.link n).st ≠ .config ∧ (s.link n).st ≠ .recovery) ∧
    (∃ (s : State) (n : Nat) (i : Nat) (a : Nat), (s.link n).isUp = true ∧ (s.link n).waiting = [] ∧ (s.link n).unacked.findIdx? (fun f => f.seq == a) = some i) ∧
    (∃ (s : State) (n : Nat) (a : Nat) (g : TxFlit) (r : List TxFlit), (s.link n).isUp = true ∧ (s.link n).unacked = g :: r ∧ g.seq = a ∧ g.type = 6) ∧
    (∃ (s : State) (n : Nat) (a : Nat), (s.link n).isUp = true ∧ (s.link n).waiting = [] ∧ (s.link n).unacked.findIdx? (fun f => f.seq == a) = none) ∧
    (∃ (s : State) (n : Nat), (s.link n).isUp = true ∧ (s.link n).waiting ≠ []) ∧
    (∃ (s : State) (n : Nat) (k : Nat), (s.link n).isUp = true ∧ (s.link n).waiting = [] ∧ (∃ f ∈ (s.link n).unacked, f.seq = k)) ∧
    (∃ (s : State) (n : Nat), (s.link n).isUp = false) ∧
    (∃ (s : State) (n : Nat), (s.link n).isUp = true ∧ ((s.link n).ackDue = true ∨ (s.link n).used ≠ (s.link n).told)) :=
  ⟨⟨{}, 2, by decide +kernel⟩,
    ⟨{ ({} : State) with lk := { links := [(2, { st := .active, unacked := [{ type := 11, vc := 3, seq := 9 }, { type := 6, vc := 2, seq := 10, queue := 4, cq := 3 }] })] }, regs := [(F_TOP_BOOT_STATUS_STAGE.key 0, 3)] }, 2, 1, 10, by decide +kernel⟩,
    ⟨{ ({} : State) with lk := { links := [(2, { st := .active, unacked := [{ type := 6, vc := 2, seq := 10, queue := 4, cq := 3 }] })] }, regs := [(F_TOP_BOOT_STATUS_STAGE.key 0, 3)] }, 2, 10, { type := 6, vc := 2, seq := 10, queue := 4, cq := 3 }, [], by decide +kernel⟩,
    ⟨{ ({} : State) with lk := { links := [(2, { st := .active, unacked := [{ type := 11, vc := 3, seq := 9 }, { type := 6, vc := 2, seq := 10, queue := 4, cq := 3 }] })] }, regs := [(F_TOP_BOOT_STATUS_STAGE.key 0, 3)] }, 2, 11, by decide +kernel⟩,
    ⟨{ ({} : State) with lk := { links := [(2, { st := .active, partner := some { credits := [0, 0, 0, 4] }, waiting := [{ type := 11, vc := 3 }] })] }, regs := [(F_TOP_BOOT_STATUS_STAGE.key 0, 3)] }, 2, by decide +kernel⟩,
    ⟨{ ({} : State) with lk := { links := [(2, { st := .active, unacked := [{ type := 11, vc := 3, seq := 9 }, { type := 6, vc := 2, seq := 10, queue := 4, cq := 3 }] })] }, regs := [(F_TOP_BOOT_STATUS_STAGE.key 0, 3)] }, 2, 10, by decide +kernel⟩,
    ⟨{}, 2, by decide +kernel⟩,
    ⟨{ ({} : State) with lk := { links := [(2, { st := .active, ackDue := true })] }, regs := [(F_TOP_BOOT_STATUS_STAGE.key 0, 3)] }, 2, by decide +kernel⟩⟩

theorem test_meets_link_sequencing_and_replay_4 :
    (∃ (s : State) (n : Nat), (s.link n).isUp = true ∧ ((s.link n).ackDue = true ∨ (s.link n).used ≠ (s.link n).told)) ∧
    (∃ (s : State) (n : Nat), ((s.link n).isUp = false ∨ ((s.link n).ackDue = false ∧ (s.link n).used = (s.link n).told))) ∧
    (∃ (s : State) (n : Nat) (g : TxFlit) (r : List TxFlit), (s.link n).isUp = true ∧ (s.link n).unacked = g :: r) ∧
    (∃ (s : State) (n : Nat), ((s.link n).isUp = false ∨ (s.link n).unacked = [])) ∧
    (∃ (s : State) (n : Nat), (s.link n).isUp = true ∧ 8 ≤ (s.link n).rsRun) ∧
    (∃ (s : State) (n : Nat), ((s.link n).isUp = false ∨ (s.link n).rsRun < 8)) ∧
    (∃ (s : State) (n : Nat) (g : Nat), (s.link n).st = .recovery ∧ ((s.link n).retrained g).1 ≤ (s.link n).width ∧ (s.link n).minWidth ≤ ((s.link n).retrained g).1) ∧
    (∃ (s : State) (n : Nat) (g : Nat), ((s.link n).st ≠ .recovery ∨ (s.link n).width < ((s.link n).retrained g).1 ∨ ((s.link n).retrained g).1 < (s.link n).minWidth)) :=
  ⟨⟨{ ({} : State) with lk := { links := [(2, { st := .active, used := [(3, 1)] })] }, regs := [(F_TOP_BOOT_STATUS_STAGE.key 0, 3)] }, 2, by decide +kernel⟩,
    ⟨{}, 2, by decide +kernel⟩,
    ⟨{ ({} : State) with lk := { links := [(2, { st := .active, unacked := [{ type := 11, vc := 3, seq := 9 }] })] }, regs := [(F_TOP_BOOT_STATUS_STAGE.key 0, 3)] }, 2, { type := 11, vc := 3, seq := 9 }, [], by decide +kernel⟩,
    ⟨{}, 2, by decide +kernel⟩,
    ⟨{ ({} : State) with lk := { links := [(2, { st := .active, rsRun := 8 })] }, regs := [(F_TOP_BOOT_STATUS_STAGE.key 0, 3)] }, 2, by decide +kernel⟩,
    ⟨{}, 2, by decide +kernel⟩,
    ⟨{ ({} : State) with lk := { links := [(2, { st := .recovery, width := 3, lanes := 15 })] }, regs := [(F_TOP_BOOT_STATUS_STAGE.key 0, 3)] }, 2, 12, by decide +kernel⟩,
    ⟨{ ({} : State) with lk := { links := [(2, { st := .recovery, width := 3, lanes := 15 })] }, regs := [(F_TOP_BOOT_STATUS_STAGE.key 0, 3)] }, 2, 0, by decide +kernel⟩⟩

theorem test_meets_link_sequencing_and_replay_5 :
    (∃ (s : State) (n : Nat), (s.link n).st = .recovery) ∧
    (∃ (s : State) (n : Nat), (s.link n).st ≠ .recovery) ∧
    (∃ (s : State) (n : Nat), ((s.link n).isUp = true ∨ (s.link n).st = .recovery)) ∧
    (∃ (s : State) (n : Nat), (s.link n).isUp = false ∧ (s.link n).st ≠ .recovery) ∧
    (∃ (s : State) (n : Nat) (v : Nat), (s.link n).isUp = true ∧ (∃ f ∈ (s.link n).waiting, f.vc = v) ∧ (s.link n).credit v = 0) ∧
    (∃ (s : State) (n : Nat) (v : Nat), ((s.link n).isUp = false ∨ (∀ f ∈ (s.link n).waiting, f.vc ≠ v) ∨ 0 < (s.link n).credit v)) :=
  ⟨⟨{ ({} : State) with lk := { links := [(2, { st := .recovery })] }, regs := [(F_TOP_BOOT_STATUS_STAGE.key 0, 3)] }, 2, by decide +kernel⟩,
    ⟨{}, 2, by decide +kernel⟩,
    ⟨{ ({} : State) with lk := { links := [(2, { st := .active })] }, regs := [(F_TOP_BOOT_STATUS_STAGE.key 0, 3)] }, 2, by decide +kernel⟩,
    ⟨{}, 2, by decide +kernel⟩,
    ⟨{ ({} : State) with lk := { links := [(2, { st := .active, waiting := [{ type := 11, vc := 3 }] })] }, regs := [(F_TOP_BOOT_STATUS_STAGE.key 0, 3)] }, 2, 3, by decide +kernel⟩,
    ⟨{}, 2, 3, by decide +kernel⟩⟩

theorem test_meets_link_traffic_complete_1 :
    (∃ (s : State) (n : Nat) (g : RxFlit), s.headFlit n 0 = some g ∧ g.type = 3 ∧ g.verdict = some true ∧ doorbellForm g.body = true ∧ (s.queue g.queue).origin = n ∧ ((s.queue g.queue).st = .active ∨ (s.queue g.queue).st = .paused) ∧ leAt g.body 0 2 < s.ringSize g.queue ∧ leAt g.body 4 1 % 4 ≤ (leAt g.body 0 2 + s.ringSize g.queue - (s.queue g.queue).sqTail % s.ringSize g.queue) % s.ringSize g.queue ∧ leAt g.body 2 2 < s.ringSize g.queue ∧ (leAt g.body 2 2 + s.ringSize g.queue - (s.queue g.queue).cqHead % s.ringSize g.queue) % s.ringSize g.queue ≤ ((s.queue g.queue).cqTail + s.ringSize g.queue - (s.queue g.queue).cqHead % s.ringSize g.queue) % s.ringSize g.queue) ∧
    (∃ (s : State) (n : Nat) (g : RxFlit), s.headFlit n 0 = some g ∧ g.type = 3 ∧ g.verdict = some true ∧ doorbellForm g.body = true ∧ (s.queue g.queue).origin = n ∧ ((s.queue g.queue).st = .active ∨ (s.queue g.queue).st = .paused) ∧ leAt g.body 0 2 < s.ringSize g.queue ∧ leAt g.body 4 1 % 4 ≤ (leAt g.body 0 2 + s.ringSize g.queue - (s.queue g.queue).sqTail % s.ringSize g.queue) % s.ringSize g.queue ∧ leAt g.body 2 2 < s.ringSize g.queue ∧ (leAt g.body 2 2 + s.ringSize g.queue - (s.queue g.queue).cqHead % s.ringSize g.queue) % s.ringSize g.queue ≤ ((s.queue g.queue).cqTail + s.ringSize g.queue - (s.queue g.queue).cqHead % s.ringSize g.queue) % s.ringSize g.queue) ∧
    (∃ (s : State) (n : Nat) (g : RxFlit), s.headFlit n 0 = some g ∧ g.type = 3 ∧ g.verdict = some true ∧ doorbellForm g.body = true ∧ (s.queue g.queue).origin = n ∧ ((s.queue g.queue).st = .active ∨ (s.queue g.queue).st = .paused) ∧ leAt g.body 0 2 < s.ringSize g.queue ∧ leAt g.body 4 1 % 4 ≤ (leAt g.body 0 2 + s.ringSize g.queue - (s.queue g.queue).sqTail % s.ringSize g.queue) % s.ringSize g.queue ∧ s.ringSize g.queue ≤ leAt g.body 2 2) ∧
    (∃ (s : State) (n : Nat) (g : RxFlit), s.headFlit n 0 = some g ∧ g.type = 3 ∧ g.verdict = some true ∧ doorbellForm g.body = true ∧ (s.queue g.queue).origin = n ∧ ((s.queue g.queue).st = .active ∨ (s.queue g.queue).st = .paused) ∧ s.ringSize g.queue ≤ leAt g.body 0 2) ∧
    (∃ (s : State) (n : Nat) (g : RxFlit), s.headFlit n 0 = some g ∧ g.type = 3 ∧ g.verdict = some true ∧ doorbellForm g.body = true ∧ (s.queue g.queue).origin = n ∧ (s.queue g.queue).st = .frozen) ∧
    (∃ (s : State) (n : Nat) (g : RxFlit), s.headFlit n 0 = some g ∧ g.type = 3 ∧ g.verdict = some true ∧ doorbellForm g.body = true ∧ (s.queue g.queue).origin = n ∧ (s.queue g.queue).st ≠ .frozen ∧ (s.queue g.queue).st ≠ .active ∧ (s.queue g.queue).st ≠ .paused) ∧
    (∃ (s : State) (n : Nat) (g : RxFlit), s.headFlit n 0 = some g ∧ g.type = 3 ∧ g.verdict = some true ∧ doorbellForm g.body = true ∧ (s.queue g.queue).origin ≠ n) ∧
    (∃ (s : State) (n : Nat) (g : RxFlit), s.headFlit n 0 = some g ∧ g.type = 3 ∧ g.verdict = some true ∧ doorbellForm g.body = false) :=
  ⟨⟨{ ({} : State) with lk := { links := [(2, { st := .active, rxq := [{ type := 3, session := 1, queue := 20, body := [1, 0, 0, 0, 1, 0, 0, 0] ++ List.replicate 64 7, verdict := some true }] })] }, regs := [(F_TOP_BOOT_STATUS_STAGE.key 0, 3), (F_QE_Q_CFG_LOG2SIZE.key 20, 4)], q := { tab := [(20, { tenant := 5, origin := 2, st := .active })] } }, 2, { type := 3, session := 1, queue := 20, body := [1, 0, 0, 0, 1, 0, 0, 0] ++ List.replicate 64 7, verdict := some true }, by decide +kernel⟩,
    ⟨{ ({} : State) with lk := { links := [(2, { st := .active, rxq := [{ type := 3, session := 1, queue := 20, body := [0, 0, 0, 0, 0, 0, 0, 0], verdict := some true }] })] }, regs := [(F_TOP_BOOT_STATUS_STAGE.key 0, 3), (F_QE_Q_CFG_LOG2SIZE.key 20, 4)], q := { tab := [(20, { tenant := 5, origin := 2, st := .paused })] } }, 2, { type := 3, session := 1, queue := 20, body := [0, 0, 0, 0, 0, 0, 0, 0], verdict := some true }, by decide +kernel⟩,
    ⟨{ ({} : State) with lk := { links := [(2, { st := .active, rxq := [{ type := 3, session := 1, queue := 20, body := [1, 0, 255, 0, 0, 0, 0, 0], verdict := some true }] })] }, regs := [(F_TOP_BOOT_STATUS_STAGE.key 0, 3), (F_QE_Q_CFG_LOG2SIZE.key 20, 4)], q := { tab := [(20, { tenant := 5, origin := 2, st := .active })] } }, 2, { type := 3, session := 1, queue := 20, body := [1, 0, 255, 0, 0, 0, 0, 0], verdict := some true }, by decide +kernel⟩,
    ⟨{ ({} : State) with lk := { links := [(2, { st := .active, rxq := [{ type := 3, session := 1, queue := 20, body := [255, 0, 0, 0, 0, 0, 0, 0], verdict := some true }] })] }, regs := [(F_TOP_BOOT_STATUS_STAGE.key 0, 3), (F_QE_Q_CFG_LOG2SIZE.key 20, 4)], q := { tab := [(20, { tenant := 5, origin := 2, st := .active })] } }, 2, { type := 3, session := 1, queue := 20, body := [255, 0, 0, 0, 0, 0, 0, 0], verdict := some true }, by decide +kernel⟩,
    ⟨{ ({} : State) with lk := { links := [(2, { st := .active, rxq := [{ type := 3, session := 1, queue := 20, body := [0, 0, 0, 0, 0, 0, 0, 0], verdict := some true }] })] }, regs := [(F_TOP_BOOT_STATUS_STAGE.key 0, 3)], q := { tab := [(20, { tenant := 5, origin := 2, st := .frozen })] } }, 2, { type := 3, session := 1, queue := 20, body := [0, 0, 0, 0, 0, 0, 0, 0], verdict := some true }, by decide +kernel⟩,
    ⟨{ ({} : State) with lk := { links := [(2, { st := .active, rxq := [{ type := 3, session := 1, queue := 20, body := [0, 0, 0, 0, 0, 0, 0, 0], verdict := some true }] })] }, regs := [(F_TOP_BOOT_STATUS_STAGE.key 0, 3)], q := { tab := [(20, { tenant := 5, origin := 2, st := .disabled })] } }, 2, { type := 3, session := 1, queue := 20, body := [0, 0, 0, 0, 0, 0, 0, 0], verdict := some true }, by decide +kernel⟩,
    ⟨{ ({} : State) with lk := { links := [(2, { st := .active, rxq := [{ type := 3, session := 1, queue := 20, body := [0, 0, 0, 0, 0, 0, 0, 0], verdict := some true }] })] }, regs := [(F_TOP_BOOT_STATUS_STAGE.key 0, 3)], q := { tab := [(20, { tenant := 5, origin := 3, st := .active })] } }, 2, { type := 3, session := 1, queue := 20, body := [0, 0, 0, 0, 0, 0, 0, 0], verdict := some true }, by decide +kernel⟩,
    ⟨{ ({} : State) with lk := { links := [(2, { st := .active, rxq := [{ type := 3, session := 1, queue := 20, body := [0, 0, 0, 0, 4, 0, 0, 0], verdict := some true }] })] }, regs := [(F_TOP_BOOT_STATUS_STAGE.key 0, 3)], q := { tab := [(20, { tenant := 5, origin := 2, st := .active })] } }, 2, { type := 3, session := 1, queue := 20, body := [0, 0, 0, 0, 4, 0, 0, 0], verdict := some true }, by decide +kernel⟩⟩

theorem test_meets_link_traffic_complete_2 :
    (∃ (s : State) (n : Nat) (g : RxFlit), s.headFlit n 0 = some g ∧ g.type = 3 ∧ g.verdict = some false) ∧
    (∃ (s : State) (n : Nat), (s.headFlit n 0).all (fun g => g.type != 3 || g.verdict.isNone) = true) ∧
    (∃ (s : State) (n : Nat), (s.headFlit n 0).all (fun g => g.type != 3 || g.verdict.isNone) = true) ∧
    (∃ (s : State) (n : Nat) (g : RxFlit) (y : Pull) (x : Desc), s.headFlit n 1 = some g ∧ g.type = 5 ∧ g.verdict = some true ∧ (s.link n).pullFor g.toFlit = some y ∧ y.failed = false ∧ g.last = false ∧ y.got + g.body.length ≤ y.count ∧ Waits s y.d .dataIn x) ∧
    (∃ (s : State) (n : Nat) (g : RxFlit) (y : Pull) (x : Desc), s.headFlit n 1 = some g ∧ g.type = 5 ∧ g.verdict = some true ∧ (s.link n).pullFor g.toFlit = some y ∧ y.failed = false ∧ g.last = true ∧ y.got + g.body.length = y.count ∧ (∀ r ∈ (s.link n).pulls.erase y, r.d ≠ y.d) ∧ (x.e.opcode = 0x20 ∨ x.e.opcode = 0x23) ∧ Waits s y.d .dataIn x) ∧
    (∃ (s : State) (n : Nat) (g : RxFlit) (y : Pull) (x : Desc), s.headFlit n 1 = some g ∧ g.type = 5 ∧ g.verdict = some true ∧ (s.link n).pullFor g.toFlit = some y ∧ y.failed = false ∧ g.last = true ∧ y.got + g.body.length = y.count ∧ (∀ r ∈ (s.link n).pulls.erase y, r.d ≠ y.d) ∧ x.e.opcode ≠ 0x20 ∧ x.e.opcode ≠ 0x23 ∧ x.bad = [] ∧ g.poison = false ∧ Waits s y.d .dataIn x) ∧
    (∃ (s : State) (n : Nat) (g : RxFlit) (y : Pull) (x : Desc), s.headFlit n 1 = some g ∧ g.type = 5 ∧ g.verdict = some true ∧ (s.link n).pullFor g.toFlit = some y ∧ y.failed = false ∧ (y.count < y.got + g.body.length ∨ (g.last = true ∧ y.got + g.body.length ≠ y.count)) ∧ Waits s y.d .dataIn x) ∧
    (∃ (s : State) (n : Nat) (g : RxFlit) (y : Pull) (x : Desc), s.headFlit n 1 = some g ∧ g.type = 5 ∧ g.verdict = some true ∧ (s.link n).pullFor g.toFlit = some y ∧ y.failed = false ∧ (y.count < y.got + g.body.length ∨ (g.last = true ∧ y.got + g.body.length ≠ y.count)) ∧ Waits s y.d .dataIn x) :=
  ⟨⟨{ ({} : State) with lk := { links := [(2, { st := .active, rxq := [{ type := 3, session := 1, queue := 20, body := [0, 0, 0, 0, 0, 0, 0, 0], verdict := some false }] })] }, regs := [(F_TOP_BOOT_STATUS_STAGE.key 0, 3)], q := { tab := [(20, { tenant := 5, origin := 2, st := .active })] } }, 2, { type := 3, session := 1, queue := 20, body := [0, 0, 0, 0, 0, 0, 0, 0], verdict := some false }, by decide +kernel⟩,
    ⟨{}, 2, by decide +kernel⟩,
    ⟨{ ({} : State) with lk := { links := [(2, { st := .active, rxq := [{ type := 8 }] })] }, regs := [(F_TOP_BOOT_STATUS_STAGE.key 0, 3)] }, 2, by decide +kernel⟩,
    ⟨{ ({} : State) with lk := { links := [(2, { st := .active, rxq := [{ type := 5, vc := 1, session := 1, queue := 20, last := false, body := [1, 2, 3], verdict := some true }], pulls := [{ d := 3, queue := 20, xtag := 0, off := 0, count := 9, asked := true }] })] }, regs := [(F_TOP_BOOT_STATUS_STAGE.key 0, 3)], q := { descs := [(3, { cmd 0x20 0 0 9 with q := 20, stage := .wait .dataIn })] } }, 2, { type := 5, vc := 1, session := 1, queue := 20, last := false, body := [1, 2, 3], verdict := some true }, { d := 3, queue := 20, xtag := 0, off := 0, count := 9, asked := true }, { cmd 0x20 0 0 9 with q := 20, stage := .wait .dataIn }, by decide +kernel⟩,
    ⟨{ ({} : State) with lk := { links := [(2, { st := .active, rxq := [{ type := 5, vc := 1, session := 1, queue := 20, last := true, body := [1, 2, 3], verdict := some true }], pulls := [{ d := 3, queue := 20, xtag := 0, off := 0, count := 3, asked := true }] })] }, regs := [(F_TOP_BOOT_STATUS_STAGE.key 0, 3)], q := { descs := [(3, { cmd 0x20 0 0 9 with q := 20, stage := .wait .dataIn })] } }, 2, { type := 5, vc := 1, session := 1, queue := 20, last := true, body := [1, 2, 3], verdict := some true }, { d := 3, queue := 20, xtag := 0, off := 0, count := 3, asked := true }, { cmd 0x20 0 0 9 with q := 20, stage := .wait .dataIn }, by decide +kernel⟩,
    ⟨{ ({} : State) with lk := { links := [(2, { st := .active, rxq := [{ type := 5, vc := 1, session := 1, queue := 20, last := true, body := [1, 2, 3], verdict := some true }], pulls := [{ d := 3, queue := 20, xtag := 0, off := 0, count := 3, asked := true }] })] }, regs := [(F_TOP_BOOT_STATUS_STAGE.key 0, 3)], q := { descs := [(3, { cmd 0x40 0 0 9 with q := 20, stage := .wait .dataIn })] } }, 2, { type := 5, vc := 1, session := 1, queue := 20, last := true, body := [1, 2, 3], verdict := some true }, { d := 3, queue := 20, xtag := 0, off := 0, count := 3, asked := true }, { cmd 0x40 0 0 9 with q := 20, stage := .wait .dataIn }, by decide +kernel⟩,
    ⟨{ ({} : State) with lk := { links := [(2, { st := .active, rxq := [{ type := 5, vc := 1, session := 1, queue := 20, last := false, body := [1, 2, 3], verdict := some true }], pulls := [{ d := 3, queue := 20, xtag := 0, off := 0, count := 2, asked := true }] })] }, regs := [(F_TOP_BOOT_STATUS_STAGE.key 0, 3)], q := { descs := [(3, { cmd 0x20 0 0 9 with q := 20, stage := .wait .dataIn })] } }, 2, { type := 5, vc := 1, session := 1, queue := 20, last := false, body := [1, 2, 3], verdict := some true }, { d := 3, queue := 20, xtag := 0, off := 0, count := 2, asked := true }, { cmd 0x20 0 0 9 with q := 20, stage := .wait .dataIn }, by decide +kernel⟩,
    ⟨{ ({} : State) with lk := { links := [(2, { st := .active, rxq := [{ type := 5, vc := 1, session := 1, queue := 20, last := true, body := [1, 2, 3], verdict := some true }], pulls := [{ d := 3, queue := 20, xtag := 0, off := 0, count := 4, asked := true }] })] }, regs := [(F_TOP_BOOT_STATUS_STAGE.key 0, 3)], q := { descs := [(3, { cmd 0x20 0 0 9 with q := 20, stage := .wait .dataIn })] } }, 2, { type := 5, vc := 1, session := 1, queue := 20, last := true, body := [1, 2, 3], verdict := some true }, { d := 3, queue := 20, xtag := 0, off := 0, count := 4, asked := true }, { cmd 0x20 0 0 9 with q := 20, stage := .wait .dataIn }, by decide +kernel⟩⟩

theorem test_meets_link_traffic_complete_3 :
    (∃ (s : State) (n : Nat) (g : RxFlit) (y : Pull) (x : Desc), s.headFlit n 1 = some g ∧ g.type = 5 ∧ g.verdict = some false ∧ (s.link n).pullFor g.toFlit = some y ∧ y.failed = false ∧ Waits s y.d .dataIn x) ∧
    (∃ (s : State) (n : Nat) (g : RxFlit) (y : Pull), s.headFlit n 1 = some g ∧ g.type = 5 ∧ g.verdict = some true ∧ (s.link n).pullFor g.toFlit = some y ∧ y.failed = true) ∧
    (∃ (s : State) (n : Nat) (g : RxFlit), s.headFlit n 1 = some g ∧ g.type = 5 ∧ g.verdict = some true ∧ (s.link n).pullFor g.toFlit = none) ∧
    (∃ (s : State) (n : Nat) (g : RxFlit), s.headFlit n 1 = some g ∧ g.type = 5 ∧ g.verdict = some false ∧ (s.link n).pullFor g.toFlit = none) ∧
    (∃ (s : State) (n : Nat), (s.headFlit n 1).all (fun g => g.type != 5 || g.verdict.isNone) = true) ∧
    (∃ (s : State) (n : Nat), (s.headFlit n 1).all (fun g => g.type != 5 || g.verdict.isNone) = true) ∧
    (∃ (s : State) (d : Nat) (x : Desc), Waits s d .dataOut x ∧ s.dataUnacked (s.queue x.outQ).origin x.outQ x.xtag = false) ∧
    (∃ (s : State) (d : Nat), ((s.desc d).stage ≠ .wait .dataOut ∨ s.dataUnacked (s.queue (s.desc d).outQ).origin (s.desc d).outQ (s.desc d).xtag = true)) :=
  ⟨⟨{ ({} : State) with lk := { links := [(2, { st := .active, rxq := [{ type := 5, vc := 1, session := 1, queue := 20, last := false, body := [], verdict := some false }], pulls := [{ d := 3, queue := 20, xtag := 0, off := 0, count := 9, asked := true }] })] }, regs := [(F_TOP_BOOT_STATUS_STAGE.key 0, 3)], q := { descs := [(3, { cmd 0x20 0 0 9 with q := 20, stage := .wait .dataIn })] } }, 2, { type := 5, vc := 1, session := 1, queue := 20, last := false, body := [], verdict := some false }, { d := 3, queue := 20, xtag := 0, off := 0, count := 9, asked := true }, { cmd 0x20 0 0 9 with q := 20, stage := .wait .dataIn }, by decide +kernel⟩,
    ⟨{ ({} : State) with lk := { links := [(2, { st := .active, rxq := [{ type := 5, vc := 1, session := 1, queue := 20, last := false, body := [], verdict := some true }], pulls := [{ d := 3, queue := 20, xtag := 0, off := 0, count := 9, asked := true, failed := true }] })] }, regs := [(F_TOP_BOOT_STATUS_STAGE.key 0, 3)], q := { descs := [(3, { cmd 0x20 0 0 9 with q := 20, stage := .wait .dataIn })] } }, 2, { type := 5, vc := 1, session := 1, queue := 20, last := false, body := [], verdict := some true }, { d := 3, queue := 20, xtag := 0, off := 0, count := 9, asked := true, failed := true }, by decide +kernel⟩,
    ⟨{ ({} : State) with lk := { links := [(2, { st := .active, rxq := [{ type := 5, vc := 1, session := 1, queue := 20, last := false, body := [1, 2, 3], verdict := some true }] })] }, regs := [(F_TOP_BOOT_STATUS_STAGE.key 0, 3)] }, 2, { type := 5, vc := 1, session := 1, queue := 20, last := false, body := [1, 2, 3], verdict := some true }, by decide +kernel⟩,
    ⟨{ ({} : State) with lk := { links := [(2, { st := .active, rxq := [{ type := 5, vc := 1, session := 1, queue := 20, last := false, body := [1, 2, 3], verdict := some false }] })] }, regs := [(F_TOP_BOOT_STATUS_STAGE.key 0, 3)] }, 2, { type := 5, vc := 1, session := 1, queue := 20, last := false, body := [1, 2, 3], verdict := some false }, by decide +kernel⟩,
    ⟨{}, 2, by decide +kernel⟩,
    ⟨{ ({} : State) with lk := { links := [(2, { st := .active, rxq := [{ type := 5, vc := 1, session := 1, queue := 20, last := false, body := [1, 2, 3], verdict := none }] })] }, regs := [(F_TOP_BOOT_STATUS_STAGE.key 0, 3)] }, 2, by decide +kernel⟩,
    ⟨withDesc 3 { cmd 0x21 0 0 9 with q := 20, stage := .wait .dataOut }, 3, { cmd 0x21 0 0 9 with q := 20, stage := .wait .dataOut }, by decide +kernel⟩,
    ⟨{}, 3, by decide +kernel⟩⟩

theorem test_meets_link_traffic_complete_4 :
    (∃ (s : State) (q : Nat), (s.queue q).isLink = true ∧ (s.queue q).gathered ≠ 0 ∧ (s.queue q).gatherAt + 1000 * (s.queue q).ltime ≤ s.now ∧ (s.queue q).uncarried ≠ [] ∧ s.canCarry (s.queue q).origin (s.queue q).tenant (((s.queue q).uncarried.drop ((s.queue q).uncarried.length - 6)).any (fun p => p.2.getD 4 0 == BitVec.ofNat 8 Status.quarantine.code)) = true) ∧
    (∃ (s : State) (q : Nat), ((s.queue q).isLink = false ∨ (s.queue q).gathered = 0 ∨ s.now < (s.queue q).gatherAt + 1000 * (s.queue q).ltime ∨ (s.queue q).uncarried = [] ∨ s.canCarry (s.queue q).origin (s.queue q).tenant (((s.queue q).uncarried.drop ((s.queue q).uncarried.length - 6)).any (fun p => p.2.getD 4 0 == BitVec.ofNat 8 Status.quarantine.code)) = false)) ∧
    (∃ (s : State) (n : Nat) (f : Flit), (s.link n).isUp = true ∧ f.type = 10 ∧ f.vc = 3 ∧ f.session = 0 ∧ f.queue = 0 ∧ f.xtag = 0 ∧ f.seq = 0 ∧ f.poison = false ∧ f.last = false ∧ f.body = leBytes 1 1 ++ leBytes 1 (b2n (s.link n).lastTime.isSome) ++ leBytes 6 0 ++ leBytes 8 (s.now + s.timeLat n) ++ leBytes 8 (((s.link n).lastTime.map (·.1)).getD 0) ++ leBytes 8 (((s.link n).lastTime.map (·.2)).getD 0)) ∧
    (∃ (s : State) (n : Nat), (s.link n).isUp = false) ∧
    (∃ (s : State) (n : Nat) (e : Option (Nat × Nat)), (s.link n).isUp = true ∧ (e = none ∨ s.steers = false ∨ s.routeTo s.timeParent ≠ n ∨ s.peer n ≠ 2)) ∧
    (∃ (s : State) (n : Nat) (v : Nat) (a : Nat) (b : Nat) (o : Int) (m : Int), (s.link n).isUp = true ∧ s.steers = true ∧ s.routeTo s.timeParent = n ∧ s.peer n = 2 ∧ o = ((b : Int) - a + (v - s.now)) / 2 ∧ m = ((b : Int) - a - (v - s.now)) / 2 ∧ 1000000 < o ∧ s.cn.steered = false) ∧
    (∃ (s : State) (n : Nat) (v : Nat) (a : Nat) (b : Nat) (o : Int) (m : Int), (s.link n).isUp = true ∧ s.steers = true ∧ s.routeTo s.timeParent = n ∧ s.peer n = 2 ∧ o = ((b : Int) - a + (v - s.now)) / 2 ∧ m = ((b : Int) - a - (v - s.now)) / 2 ∧ o ≤ 1000000) ∧
    (∃ (s : State) (n : Nat), (s.link n).isUp = false) :=
  ⟨⟨{ ({} : State) with now := 1000000000, lk := { links := [(2, { st := .active, sessions := [(1, { bound := true, isOpen := true, tenant := 5 })] })] }, q := { tab := [(20, { tenant := 5, origin := 2, st := .active, gathered := 1, uncarried := [(0, [])] })] } }, 20, by decide +kernel⟩,
    ⟨{}, 20, by decide +kernel⟩,
    ⟨{ ({} : State) with lk := { links := [(2, { st := .active })] }, regs := [(F_TOP_BOOT_STATUS_STAGE.key 0, 3)] }, 2, { type := 10, vc := 3, body := leBytes 1 1 ++ leBytes 1 (b2n false) ++ leBytes 6 0 ++ leBytes 8 (0 + ({ ({} : State) with lk := { links := [(2, { st := .active })] }, regs := [(F_TOP_BOOT_STATUS_STAGE.key 0, 3)] } : State).timeLat 2) ++ leBytes 8 0 ++ leBytes 8 0 }, ⟨by decide, by decide, by decide, by decide, by decide, by decide, by decide, by decide, by decide, rfl⟩⟩,
    ⟨{}, 2, by decide +kernel⟩,
    ⟨{ ({} : State) with lk := { links := [(2, { st := .active })] }, regs := [(F_TOP_BOOT_STATUS_STAGE.key 0, 3)] }, 2, none, by decide +kernel⟩,
    ⟨{ ({} : State) with lk := { links := [(2, { st := .active })] }, regs := [(F_TOP_BOOT_STATUS_STAGE.key 0, 3)], cn := { st := .member, member := 1, goodSince := some 4, routeLink := [(0, 2)], peers := [(2, 2)] } }, 2, 9000000, 0, 9000000, 9000000, 0, by decide +kernel⟩,
    ⟨{ ({} : State) with lk := { links := [(2, { st := .active })] }, regs := [(F_TOP_BOOT_STATUS_STAGE.key 0, 3)], cn := { st := .member, member := 1, goodSince := some 4, routeLink := [(0, 2)], peers := [(2, 2)] } }, 2, 40, 0, 60, 50, 10, by decide +kernel⟩,
    ⟨{}, 2, by decide +kernel⟩⟩

theorem test_meets_link_traffic_complete_5 :
    (∃ (s : State), s.steers = true ∧ s.lastExchange + 100000000 ≤ s.now) ∧
    (∃ (s : State), (s.steers = false ∨ s.now < s.lastExchange + 100000000)) ∧
    (∃ (s : State), s.steers = true ∧ s.cn.goodSince.any (fun g => decide (g + 1000000000 ≤ s.now)) = true) ∧
    (∃ (s : State), (s.steers = false ∨ s.cn.goodSince.any (fun g => decide (g + 1000000000 ≤ s.now)) = false)) :=
  ⟨⟨{ ({} : State) with now := 100000000, lk := { links := [(2, { st := .active })] }, regs := [(F_TOP_BOOT_STATUS_STAGE.key 0, 3)], cn := { st := .member, member := 1, goodSince := some 4, routeLink := [(0, 2)], peers := [(2, 2)] } }, by decide +kernel⟩,
    ⟨{}, by decide +kernel⟩,
    ⟨{ ({} : State) with now := 2000000000, lk := { links := [(2, { st := .active })] }, regs := [(F_TOP_BOOT_STATUS_STAGE.key 0, 3)], cn := { st := .member, member := 1, goodSince := some 4, routeLink := [(0, 2)], peers := [(2, 2)] } }, by decide +kernel⟩,
    ⟨{}, by decide +kernel⟩⟩

theorem test_meets_session_flits_take_effect_1 :
    (∃ (s : State) (n : Nat) (i : Nat) (g : RxFlit), s.headFlit n 3 = some g ∧ g.type = 12 ∧ leAt g.body 0 1 % 8 = 1 ∧ leAt g.body 1 1 % 64 = i ∧ s.sessionFits n i g.toFlit = true) ∧
    (∃ (s : State) (n : Nat) (i : Nat) (g : RxFlit), s.headFlit n 3 = some g ∧ g.type = 12 ∧ leAt g.body 0 1 % 8 = 1 ∧ leAt g.body 1 1 % 64 = i ∧ s.sessionFits n i g.toFlit = false) ∧
    (∃ (s : State) (n : Nat) (i : Nat) (g : RxFlit), s.headFlit n 3 = some g ∧ g.type = 12 ∧ leAt g.body 0 1 % 8 = 1 ∧ leAt g.body 1 1 % 64 = i ∧ s.sessionFits n i g.toFlit = false ∧ (s.link n).isUp = true) ∧
    (∃ (s : State) (n : Nat), (s.headFlit n 3).all (fun g => g.type != 12 || leAt g.body 0 1 % 8 != 1) = true) ∧
    (∃ (s : State) (n : Nat) (i : Nat) (g : RxFlit), s.headFlit n 3 = some g ∧ g.type = 12 ∧ leAt g.body 0 1 % 8 = 2 ∧ leAt g.body 1 1 % 64 = i ∧ s.sessionFits n i g.toFlit = true ∧ (s.session n i).opening = true) ∧
    (∃ (s : State) (n : Nat) (i : Nat) (g : RxFlit), s.headFlit n 3 = some g ∧ g.type = 12 ∧ leAt g.body 0 1 % 8 = 2 ∧ leAt g.body 1 1 % 64 = i ∧ ((s.session n i).opening = false ∨ s.sessionFits n i g.toFlit = false)) ∧
    (∃ (s : State) (n : Nat) (i : Nat) (g : RxFlit), s.headFlit n 3 = some g ∧ g.type = 12 ∧ leAt g.body 0 1 % 8 = 2 ∧ leAt g.body 1 1 % 64 = i ∧ ((s.session n i).opening = false ∨ s.sessionFits n i g.toFlit = false)) ∧
    (∃ (s : State) (n : Nat), (s.headFlit n 3).all (fun g => g.type != 12 || leAt g.body 0 1 % 8 != 2) = true) :=
  ⟨⟨{ ({} : State) with lk := { links := [(2, { st := .active, rxq := [{ type := 12, vc := 3, body := [1, 1, 5, 0, 64, 0, 0, 0] }], sessions := [(1, { bound := true, tenant := 5, handle := 64 })] })] }, regs := [(F_TOP_BOOT_STATUS_STAGE.key 0, 3)], ks := [(64, { st := .active, kind := 2, tenant := 5 })] }, 2, 1, { type := 12, vc := 3, body := [1, 1, 5, 0, 64, 0, 0, 0] }, by decide +kernel⟩,
    ⟨{ ({} : State) with lk := { links := [(2, { st := .active, rxq := [{ type := 12, vc := 3, body := [1, 1, 5, 0, 65, 0, 0, 0] }], sessions := [(1, { bound := true, tenant := 5, handle := 64 })] })] }, regs := [(F_TOP_BOOT_STATUS_STAGE.key 0, 3)], ks := [(64, { st := .active, kind := 2, tenant := 5 })] }, 2, 1, { type := 12, vc := 3, body := [1, 1, 5, 0, 65, 0, 0, 0] }, by decide +kernel⟩,
    ⟨{ ({} : State) with lk := { links := [(2, { st := .active, rxq := [{ type := 12, vc := 3, body := [1, 1, 5, 0, 65, 0, 0, 0] }], sessions := [(1, { bound := true, tenant := 5, handle := 64 })] })] }, regs := [(F_TOP_BOOT_STATUS_STAGE.key 0, 3)], ks := [(64, { st := .active, kind := 2, tenant := 5 })] }, 2, 1, { type := 12, vc := 3, body := [1, 1, 5, 0, 65, 0, 0, 0] }, by decide +kernel⟩,
    ⟨{ ({} : State) with lk := { links := [(2, { st := .active, rxq := [{ type := 12, vc := 3, body := [2, 1, 5, 0, 64, 0, 0, 0] }] })] } }, 2, by decide +kernel⟩,
    ⟨{ ({} : State) with lk := { links := [(2, { st := .active, rxq := [{ type := 12, vc := 3, body := [2, 1, 5, 0, 64, 0, 0, 0] }], sessions := [(1, { bound := true, tenant := 5, handle := 64, opening := true })] })] }, regs := [(F_TOP_BOOT_STATUS_STAGE.key 0, 3)], ks := [(64, { st := .active, kind := 2, tenant := 5 })] }, 2, 1, { type := 12, vc := 3, body := [2, 1, 5, 0, 64, 0, 0, 0] }, by decide +kernel⟩,
    ⟨{ ({} : State) with lk := { links := [(2, { st := .active, rxq := [{ type := 12, vc := 3, body := [2, 1, 5, 0, 64, 0, 0, 0] }], sessions := [(1, { bound := true, tenant := 5, handle := 64 })] })] }, regs := [(F_TOP_BOOT_STATUS_STAGE.key 0, 3)], ks := [(64, { st := .active, kind := 2, tenant := 5 })] }, 2, 1, { type := 12, vc := 3, body := [2, 1, 5, 0, 64, 0, 0, 0] }, by decide +kernel⟩,
    ⟨{ ({} : State) with lk := { links := [(2, { st := .active, rxq := [{ type := 12, vc := 3, body := [2, 1, 5, 0, 65, 0, 0, 0] }], sessions := [(1, { bound := true, tenant := 5, handle := 64, opening := true })] })] }, regs := [(F_TOP_BOOT_STATUS_STAGE.key 0, 3)], ks := [(64, { st := .active, kind := 2, tenant := 5 })] }, 2, 1, { type := 12, vc := 3, body := [2, 1, 5, 0, 65, 0, 0, 0] }, by decide +kernel⟩,
    ⟨{ ({} : State) with lk := { links := [(2, { st := .active, rxq := [{ type := 12, vc := 3, body := [3, 1, 5, 0, 64, 0, 0, 0] }] })] } }, 2, by decide +kernel⟩⟩

theorem test_meets_session_flits_take_effect_2 :
    (∃ (s : State) (n : Nat) (i : Nat) (g : RxFlit), s.headFlit n 3 = some g ∧ g.type = 12 ∧ leAt g.body 0 1 % 8 = 3 ∧ leAt g.body 1 1 % 64 = i ∧ s.sessionFits n i g.toFlit = true ∧ (s.session n i).isOpen = true) ∧
    (∃ (s : State) (n : Nat) (i : Nat) (g : RxFlit), s.headFlit n 3 = some g ∧ g.type = 12 ∧ leAt g.body 0 1 % 8 = 3 ∧ leAt g.body 1 1 % 64 = i ∧ ((s.session n i).isOpen = false ∨ s.sessionFits n i g.toFlit = false)) ∧
    (∃ (s : State) (n : Nat) (i : Nat) (g : RxFlit), s.headFlit n 3 = some g ∧ g.type = 12 ∧ leAt g.body 0 1 % 8 = 3 ∧ leAt g.body 1 1 % 64 = i ∧ ((s.session n i).isOpen = false ∨ s.sessionFits n i g.toFlit = false) ∧ (s.link n).isUp = true) ∧
    (∃ (s : State) (n : Nat), (s.headFlit n 3).all (fun g => g.type != 12 || leAt g.body 0 1 % 8 != 3) = true) ∧
    (∃ (s : State) (n : Nat) (i : Nat) (g : RxFlit), s.headFlit n 3 = some g ∧ g.type = 12 ∧ leAt g.body 0 1 % 8 = 4 ∧ leAt g.body 1 1 % 64 = i ∧ (s.session n i).isOpen = true ∧ (s.session n i).rekeying = true) ∧
    (∃ (s : State) (n : Nat) (i : Nat) (g : RxFlit), s.headFlit n 3 = some g ∧ g.type = 12 ∧ leAt g.body 0 1 % 8 = 4 ∧ leAt g.body 1 1 % 64 = i ∧ ((s.session n i).isOpen = false ∨ (s.session n i).rekeying = false)) ∧
    (∃ (s : State) (n : Nat), (s.headFlit n 3).all (fun g => g.type != 12 || leAt g.body 0 1 % 8 != 4) = true) ∧
    (∃ (s : State) (n : Nat) (i : Nat), (s.session n i).isOpen = true ∧ (s.session n i).rekeying = false ∧ (2 ^ 31 ≤ (s.session n i).txCtr ∨ 2 ^ 31 ≤ (s.session n i).rxCtr)) :=
  ⟨⟨{ ({} : State) with lk := { links := [(2, { st := .active, rxq := [{ type := 12, vc := 3, body := [3, 1, 5, 0, 64, 0, 0, 0] }], sessions := [(1, { bound := true, tenant := 5, handle := 64, isOpen := true, rxCtr := 4 })] })] }, regs := [(F_TOP_BOOT_STATUS_STAGE.key 0, 3)], ks := [(64, { st := .active, kind := 2, tenant := 5 })] }, 2, 1, { type := 12, vc := 3, body := [3, 1, 5, 0, 64, 0, 0, 0] }, by decide +kernel⟩,
    ⟨{ ({} : State) with lk := { links := [(2, { st := .active, rxq := [{ type := 12, vc := 3, body := [3, 1, 5, 0, 64, 0, 0, 0] }], sessions := [(1, { bound := true, tenant := 5, handle := 64 })] })] }, regs := [(F_TOP_BOOT_STATUS_STAGE.key 0, 3)], ks := [(64, { st := .active, kind := 2, tenant := 5 })] }, 2, 1, { type := 12, vc := 3, body := [3, 1, 5, 0, 64, 0, 0, 0] }, by decide +kernel⟩,
    ⟨{ ({} : State) with lk := { links := [(2, { st := .active, rxq := [{ type := 12, vc := 3, body := [3, 1, 5, 0, 64, 0, 0, 0] }], sessions := [(1, { bound := true, tenant := 5, handle := 64 })] })] }, regs := [(F_TOP_BOOT_STATUS_STAGE.key 0, 3)], ks := [(64, { st := .active, kind := 2, tenant := 5 })] }, 2, 1, { type := 12, vc := 3, body := [3, 1, 5, 0, 64, 0, 0, 0] }, by decide +kernel⟩,
    ⟨{ ({} : State) with lk := { links := [(2, { st := .active, rxq := [{ type := 12, vc := 3, body := [4, 1, 5, 0, 64, 0, 0, 0] }] })] } }, 2, by decide +kernel⟩,
    ⟨{ ({} : State) with lk := { links := [(2, { st := .active, rxq := [{ type := 12, vc := 3, body := [4, 1, 5, 0, 64, 0, 0, 0] }], sessions := [(1, { bound := true, tenant := 5, handle := 64, isOpen := true, rekeying := true })] })] }, regs := [(F_TOP_BOOT_STATUS_STAGE.key 0, 3)], ks := [(64, { st := .active, kind := 2, tenant := 5 })] }, 2, 1, { type := 12, vc := 3, body := [4, 1, 5, 0, 64, 0, 0, 0] }, by decide +kernel⟩,
    ⟨{ ({} : State) with lk := { links := [(2, { st := .active, rxq := [{ type := 12, vc := 3, body := [4, 1, 5, 0, 64, 0, 0, 0] }], sessions := [(1, { bound := true, tenant := 5, handle := 64, isOpen := true })] })] }, regs := [(F_TOP_BOOT_STATUS_STAGE.key 0, 3)], ks := [(64, { st := .active, kind := 2, tenant := 5 })] }, 2, 1, { type := 12, vc := 3, body := [4, 1, 5, 0, 64, 0, 0, 0] }, by decide +kernel⟩,
    ⟨{ ({} : State) with lk := { links := [(2, { st := .active, rxq := [{ type := 12, vc := 3, body := [5, 1, 5, 0, 64, 0, 0, 0] }] })] } }, 2, by decide +kernel⟩,
    ⟨{ ({} : State) with lk := { links := [(2, { st := .active, rxq := [{ type := 12, vc := 3, body := [4, 1, 5, 0, 64, 0, 0, 0] }], sessions := [(1, { bound := true, tenant := 5, handle := 64, isOpen := true, txCtr := 2 ^ 31 })] })] }, regs := [(F_TOP_BOOT_STATUS_STAGE.key 0, 3)], ks := [(64, { st := .active, kind := 2, tenant := 5 })] }, 2, 1, by decide +kernel⟩⟩

theorem test_meets_session_flits_take_effect_3 :
    (∃ (s : State) (n : Nat) (i : Nat), ((s.session n i).isOpen = false ∨ (s.session n i).rekeying = true ∨ ((s.session n i).txCtr < 2 ^ 31 ∧ (s.session n i).rxCtr < 2 ^ 31))) ∧
    (∃ (s : State) (n : Nat) (i : Nat), (s.session n i).isOpen = true ∧ (2 ^ 32 ≤ (s.session n i).txCtr ∨ 2 ^ 32 ≤ (s.session n i).rxCtr)) ∧
    (∃ (s : State) (n : Nat) (i : Nat), ((s.session n i).isOpen = false ∨ ((s.session n i).txCtr < 2 ^ 32 ∧ (s.session n i).rxCtr < 2 ^ 32))) ∧
    (∃ (s : State) (n : Nat) (i : Nat) (g : RxFlit), s.headFlit n 3 = some g ∧ g.type = 12 ∧ leAt g.body 0 1 % 8 = 5 ∧ leAt g.body 1 1 % 64 = i) ∧
    (∃ (s : State) (n : Nat), (s.headFlit n 3).all (fun g => g.type != 12 || leAt g.body 0 1 % 8 != 5) = true) ∧
    (∃ (s : State) (n : Nat) (i : Nat) (g : RxFlit), s.headFlit n 3 = some g ∧ g.type = 12 ∧ leAt g.body 0 1 % 8 = 6 ∧ leAt g.body 1 1 % 64 = i) ∧
    (∃ (s : State) (n : Nat), (s.headFlit n 3).all (fun g => g.type != 12 || leAt g.body 0 1 % 8 != 6) = true) ∧
    (∃ (s : State) (n : Nat) (i : Nat) (g : RxFlit), s.headFlit n 3 = some g ∧ g.type = 12 ∧ leAt g.body 0 1 % 8 = 7 ∧ leAt g.body 1 1 % 64 = i) :=
  ⟨⟨{}, 2, 1, by decide +kernel⟩,
    ⟨{ ({} : State) with lk := { links := [(2, { st := .active, rxq := [{ type := 12, vc := 3, body := [4, 1, 5, 0, 64, 0, 0, 0] }], sessions := [(1, { bound := true, tenant := 5, handle := 64, isOpen := true, txCtr := 2 ^ 32 })] })] }, regs := [(F_TOP_BOOT_STATUS_STAGE.key 0, 3)], ks := [(64, { st := .active, kind := 2, tenant := 5 })] }, 2, 1, by decide +kernel⟩,
    ⟨{}, 2, 1, by decide +kernel⟩,
    ⟨{ ({} : State) with lk := { links := [(2, { st := .active, rxq := [{ type := 12, vc := 3, body := [5, 1, 5, 0, 64, 0, 0, 0] }], sessions := [(1, { bound := true, tenant := 5, handle := 64, isOpen := true })] })] }, regs := [(F_TOP_BOOT_STATUS_STAGE.key 0, 3)], ks := [(64, { st := .active, kind := 2, tenant := 5 })] }, 2, 1, { type := 12, vc := 3, body := [5, 1, 5, 0, 64, 0, 0, 0] }, by decide +kernel⟩,
    ⟨{ ({} : State) with lk := { links := [(2, { st := .active, rxq := [{ type := 12, vc := 3, body := [6, 1, 5, 0, 64, 0, 0, 0] }] })] } }, 2, by decide +kernel⟩,
    ⟨{ ({} : State) with lk := { links := [(2, { st := .active, rxq := [{ type := 12, vc := 3, body := [6, 1, 5, 0, 64, 0, 0, 0] }], sessions := [(1, { bound := true, tenant := 5, handle := 64, closing := true })] })] }, regs := [(F_TOP_BOOT_STATUS_STAGE.key 0, 3)], ks := [(64, { st := .active, kind := 2, tenant := 5 })] }, 2, 1, { type := 12, vc := 3, body := [6, 1, 5, 0, 64, 0, 0, 0] }, by decide +kernel⟩,
    ⟨{ ({} : State) with lk := { links := [(2, { st := .active, rxq := [{ type := 12, vc := 3, body := [7, 1, 5, 0, 64, 0, 0, 0] }] })] } }, 2, by decide +kernel⟩,
    ⟨{ ({} : State) with lk := { links := [(2, { st := .active, rxq := [{ type := 12, vc := 3, body := [7, 1, 5, 0, 64, 0, 0, 0] }], sessions := [(1, { bound := true, tenant := 5, handle := 64, opening := true })] })] }, regs := [(F_TOP_BOOT_STATUS_STAGE.key 0, 3)], ks := [(64, { st := .active, kind := 2, tenant := 5 })] }, 2, 1, { type := 12, vc := 3, body := [7, 1, 5, 0, 64, 0, 0, 0] }, by decide +kernel⟩⟩

theorem test_meets_session_flits_take_effect_4 :
    (∃ (s : State) (n : Nat), (s.headFlit n 3).all (fun g => g.type != 12 || leAt g.body 0 1 % 8 != 7) = true) :=
  ⟨{ ({} : State) with lk := { links := [(2, { st := .active, rxq := [{ type := 12, vc := 3, body := [0, 1, 5, 0, 64, 0, 0, 0] }] })] } }, 2, by decide +kernel⟩

theorem test_meets_constellation_commands_complete_1 :
    (∃ (s : State) (n : Nat) (g : RxFlit), s.headFlit n 0 = some g ∧ g.type = 8 ∧ g.verdict = some true ∧ fwdFormOk true g.body = true ∧ s.fwdSourceOk n g.body = true ∧ s.cn.st = .standalone ∧ leAt g.body 0 1 ≠ 4) ∧
    (∃ (s : State) (n : Nat) (g : RxFlit), s.headFlit n 0 = some g ∧ g.type = 8 ∧ g.verdict = some true ∧ fwdFormOk true g.body = true ∧ s.fwdSourceOk n g.body = true ∧ s.cn.st = .member ∧ s.forOther g.body = true ∧ leAt g.body 3 1 ≠ 0 ∧ s.fwdReady (s.routeTo (leAt g.body 2 1)) = true) ∧
    (∃ (s : State) (n : Nat) (g : RxFlit), s.headFlit n 0 = some g ∧ g.type = 8 ∧ g.verdict = some true ∧ fwdFormOk true g.body = true ∧ s.fwdSourceOk n g.body = true ∧ s.cn.st = .member ∧ s.forOther g.body = true ∧ leAt g.body 3 1 = 0) ∧
    (∃ (s : State) (n : Nat) (g : RxFlit), s.headFlit n 0 = some g ∧ g.type = 8 ∧ g.verdict = some true ∧ fwdFormOk true g.body = true ∧ s.fwdSourceOk n g.body = true ∧ s.cn.st = .member ∧ s.forOther g.body = false ∧ s.fld F_CN_EPOCH_EPOCH < leAt g.body 4 4 ∧ leAt g.body 0 1 ≠ 4) ∧
    (∃ (s : State) (n : Nat) (g : RxFlit), s.headFlit n 0 = some g ∧ g.type = 8 ∧ g.verdict = some true ∧ fwdFormOk true g.body = true ∧ s.fwdSourceOk n g.body = true ∧ s.cn.st = .member ∧ s.forOther g.body = false ∧ leAt g.body 4 4 ≤ s.fld F_CN_EPOCH_EPOCH ∧ leAt g.body 0 1 ≠ 4 ∧ s.mapOwner (shardOf (leAt g.body 0x10 16)) ≠ s.me) ∧
    (∃ (s : State) (n : Nat) (g : RxFlit), s.headFlit n 0 = some g ∧ g.type = 8 ∧ g.verdict = some true ∧ fwdFormOk true g.body = true ∧ s.fwdSourceOk n g.body = true ∧ s.cn.st = .member ∧ s.forOther g.body = false ∧ leAt g.body 4 4 ≤ s.fld F_CN_EPOCH_EPOCH ∧ s.mapOwner (shardOf (leAt g.body 0x10 16)) = s.me ∧ leAt g.body 0 1 = 1 ∧ s.findEntry (leAt g.body 0x10 16) (Scope.ofNum (leAt g.body 8 2)) = none) ∧
    (∃ (s : State) (n : Nat) (g : RxFlit) (e : IndexEntry), s.headFlit n 0 = some g ∧ g.type = 8 ∧ g.verdict = some true ∧ fwdFormOk true g.body = true ∧ s.fwdSourceOk n g.body = true ∧ s.cn.st = .member ∧ s.forOther g.body = false ∧ leAt g.body 4 4 ≤ s.fld F_CN_EPOCH_EPOCH ∧ s.mapOwner (shardOf (leAt g.body 0x10 16)) = s.me ∧ leAt g.body 0 1 = 1 ∧ s.findEntry (leAt g.body 0x10 16) (Scope.ofNum (leAt g.body 8 2)) = some e) ∧
    (∃ (s : State) (n : Nat) (g : RxFlit) (e : IndexEntry), s.headFlit n 0 = some g ∧ g.type = 8 ∧ g.verdict = some true ∧ fwdFormOk true g.body = true ∧ s.fwdSourceOk n g.body = true ∧ s.cn.st = .member ∧ s.forOther g.body = false ∧ leAt g.body 4 4 ≤ s.fld F_CN_EPOCH_EPOCH ∧ s.mapOwner (shardOf (leAt g.body 0x10 16)) = s.me ∧ leAt g.body 0 1 = 2 ∧ s.findEntry (leAt g.body 0x10 16) (Scope.ofNum (leAt g.body 8 2)) = some e) :=
  ⟨⟨{ ({} : State) with lk := { links := [(2, { st := .active, rxq := [{ type := 8, vc := vcOf 8, session := 63, xtag := 8, body := [1, 2, 1, 4, 0] ++ List.replicate 11 0 ++ [77] ++ List.replicate 15 0 ++ [0] ++ List.replicate 31 0, verdict := some true }], partner := some { member := 2 } })] }, regs := [(F_TOP_BOOT_STATUS_STAGE.key 0, 3)], cn := { st := .standalone } }, 2, { type := 8, vc := vcOf 8, session := 63, xtag := 8, body := [1, 2, 1, 4, 0] ++ List.replicate 11 0 ++ [77] ++ List.replicate 15 0 ++ [0] ++ List.replicate 31 0, verdict := some true }, by decide +kernel⟩,
    ⟨{ ({} : State) with lk := { links := [(2, { st := .active, sessions := [(63, { bound := true, isOpen := true })], rxq := [{ type := 8, vc := vcOf 8, session := 63, xtag := 8, body := [1, 2, 3, 4, 0] ++ List.replicate 11 0 ++ [77] ++ List.replicate 15 0 ++ [0] ++ List.replicate 31 0, verdict := some true }], partner := some { member := 2 } })] }, regs := [(F_TOP_BOOT_STATUS_STAGE.key 0, 3)], cn := { st := .member, member := 1, routeLink := [(3, 2)], peers := [(2, 2)] } }, 2, { type := 8, vc := vcOf 8, session := 63, xtag := 8, body := [1, 2, 3, 4, 0] ++ List.replicate 11 0 ++ [77] ++ List.replicate 15 0 ++ [0] ++ List.replicate 31 0, verdict := some true }, by decide +kernel⟩,
    ⟨{ ({} : State) with lk := { links := [(2, { st := .active, rxq := [{ type := 8, vc := vcOf 8, session := 63, xtag := 8, body := [1, 2, 3, 0, 0] ++ List.replicate 11 0 ++ [77] ++ List.replicate 15 0 ++ [0] ++ List.replicate 31 0, verdict := some true }], partner := some { member := 2 } })] }, regs := [(F_TOP_BOOT_STATUS_STAGE.key 0, 3)], cn := { st := .member, member := 1, record := List.replicate 400 1 } }, 2, { type := 8, vc := vcOf 8, session := 63, xtag := 8, body := [1, 2, 3, 0, 0] ++ List.replicate 11 0 ++ [77] ++ List.replicate 15 0 ++ [0] ++ List.replicate 31 0, verdict := some true }, by decide +kernel⟩,
    ⟨{ ({} : State) with lk := { links := [(2, { st := .active, rxq := [{ type := 8, vc := vcOf 8, session := 63, xtag := 8, body := [1, 2, 1, 4, 3] ++ List.replicate 11 0 ++ [77] ++ List.replicate 15 0 ++ [0] ++ List.replicate 31 0, verdict := some true }], partner := some { member := 2 } })] }, regs := [(F_TOP_BOOT_STATUS_STAGE.key 0, 3)], cn := { st := .member, member := 1, record := List.replicate 400 1 } }, 2, { type := 8, vc := vcOf 8, session := 63, xtag := 8, body := [1, 2, 1, 4, 3] ++ List.replicate 11 0 ++ [77] ++ List.replicate 15 0 ++ [0] ++ List.replicate 31 0, verdict := some true }, by decide +kernel⟩,
    ⟨{ ({} : State) with lk := { links := [(2, { st := .active, rxq := [{ type := 8, vc := vcOf 8, session := 63, xtag := 8, body := [1, 2, 1, 4, 0] ++ List.replicate 11 0 ++ [77] ++ List.replicate 15 0 ++ [0] ++ List.replicate 31 0, verdict := some true }], partner := some { member := 2 } })] }, regs := [(F_TOP_BOOT_STATUS_STAGE.key 0, 3)], cn := { st := .member, member := 1 } }, 2, { type := 8, vc := vcOf 8, session := 63, xtag := 8, body := [1, 2, 1, 4, 0] ++ List.replicate 11 0 ++ [77] ++ List.replicate 15 0 ++ [0] ++ List.replicate 31 0, verdict := some true }, by decide +kernel⟩,
    ⟨{ ({} : State) with lk := { links := [(2, { st := .active, rxq := [{ type := 8, vc := vcOf 8, session := 63, xtag := 8, body := [1, 2, 1, 4, 0] ++ List.replicate 11 0 ++ [77] ++ List.replicate 15 0 ++ [0] ++ List.replicate 31 0, verdict := some true }], partner := some { member := 2 } })] }, regs := [(F_TOP_BOOT_STATUS_STAGE.key 0, 3)], cn := { st := .member, member := 1, record := List.replicate 400 1 } }, 2, { type := 8, vc := vcOf 8, session := 63, xtag := 8, body := [1, 2, 1, 4, 0] ++ List.replicate 11 0 ++ [77] ++ List.replicate 15 0 ++ [0] ++ List.replicate 31 0, verdict := some true }, by decide +kernel⟩,
    ⟨{ ({} : State) with lk := { links := [(2, { st := .active, rxq := [{ type := 8, vc := vcOf 8, session := 63, xtag := 8, body := [1, 2, 1, 4, 0] ++ List.replicate 11 0 ++ [77] ++ List.replicate 15 0 ++ [0] ++ List.replicate 31 0, verdict := some true }], partner := some { member := 2 } })] }, regs := [(F_TOP_BOOT_STATUS_STAGE.key 0, 3)], cn := { st := .member, member := 1, record := List.replicate 400 1 }, ct := { index := [(5, { hash := 77, handle := 9, pending := true })] } }, 2, { type := 8, vc := vcOf 8, session := 63, xtag := 8, body := [1, 2, 1, 4, 0] ++ List.replicate 11 0 ++ [77] ++ List.replicate 15 0 ++ [0] ++ List.replicate 31 0, verdict := some true }, { hash := 77, handle := 9, pending := true }, by decide +kernel⟩,
    ⟨{ ({} : State) with lk := { links := [(2, { st := .active, rxq := [{ type := 8, vc := vcOf 8, session := 63, xtag := 8, body := [2, 2, 1, 4] ++ List.replicate 12 0 ++ [77] ++ List.replicate 15 0 ++ [9] ++ List.replicate 31 0, verdict := some true }], partner := some { member := 2 } })] }, regs := [(F_TOP_BOOT_STATUS_STAGE.key 0, 3)], cn := { st := .member, member := 1, record := List.replicate 400 1 }, ct := { index := [(5, { hash := 77, handle := 9, pending := true })] } }, 2, { type := 8, vc := vcOf 8, session := 63, xtag := 8, body := [2, 2, 1, 4] ++ List.replicate 12 0 ++ [77] ++ List.replicate 15 0 ++ [9] ++ List.replicate 31 0, verdict := some true }, { hash := 77, handle := 9, pending := true }, by decide +kernel⟩⟩

theorem test_meets_constellation_commands_complete_2 :
    (∃ (s : State) (n : Nat) (g : RxFlit), s.headFlit n 0 = some g ∧ g.type = 8 ∧ g.verdict = some true ∧ fwdFormOk true g.body = true ∧ s.fwdSourceOk n g.body = true ∧ s.cn.st = .member ∧ s.forOther g.body = false ∧ leAt g.body 4 4 ≤ s.fld F_CN_EPOCH_EPOCH ∧ s.mapOwner (shardOf (leAt g.body 0x10 16)) = s.me ∧ leAt g.body 0 1 = 2 ∧ s.findEntry (leAt g.body 0x10 16) (Scope.ofNum (leAt g.body 8 2)) = none ∧ s.groupCount (Scope.ofNum (leAt g.body 8 2)).groupNo < s.fld F_CT_G_QUOTA_QUOTA (Scope.ofNum (leAt g.body 8 2)).groupNo ∧ leAt g.body 0x28 1 % 4 ≠ 3 ∧ s.ct.index = []) ∧
    (∃ (s : State) (n : Nat) (g : RxFlit), s.headFlit n 0 = some g ∧ g.type = 8 ∧ g.verdict = some true ∧ fwdFormOk true g.body = true ∧ s.fwdSourceOk n g.body = true ∧ s.cn.st = .member ∧ s.forOther g.body = false ∧ leAt g.body 4 4 ≤ s.fld F_CN_EPOCH_EPOCH ∧ s.mapOwner (shardOf (leAt g.body 0x10 16)) = s.me ∧ leAt g.body 0 1 = 3) ∧
    (∃ (s : State) (n : Nat) (g : RxFlit), s.headFlit n 0 = some g ∧ g.type = 8 ∧ g.verdict = some true ∧ (fwdFormOk true g.body = false ∨ s.fwdSourceOk n g.body = false) ∧ (leAt g.body 0 1 ≠ 4 ∨ s.forOther g.body = true)) ∧
    (∃ (s : State) (n : Nat) (g : RxFlit), s.headFlit n 0 = some g ∧ g.type = 8 ∧ g.verdict = some true ∧ (fwdFormOk true g.body = false ∨ s.fwdSourceOk n g.body = false) ∧ (leAt g.body 0 1 ≠ 4 ∨ s.forOther g.body = true)) ∧
    (∃ (s : State) (n : Nat) (g : RxFlit), s.headFlit n 0 = some g ∧ g.type = 8 ∧ g.verdict = some false ∧ (leAt g.body 0 1 ≠ 4 ∨ s.forOther g.body = true)) ∧
    (∃ (s : State) (n : Nat), ((s.headFlit n 0).all (fun g => g.type != 8 || g.verdict.isNone) = true ∨ s.refstateNext n = true)) ∧
    (∃ (s : State) (n : Nat), ((s.headFlit n 0).all (fun g => g.type != 8 || g.verdict.isNone) = true ∨ s.refstateNext n = true)) ∧
    (∃ (s : State) (n : Nat) (g : RxFlit), s.headFlit n 0 = some g ∧ g.type = 8 ∧ g.verdict = some true ∧ fwdFormOk true g.body = true ∧ s.fwdSourceOk n g.body = true ∧ s.cn.st = .member ∧ s.forOther g.body = false ∧ leAt g.body 4 4 ≤ s.fld F_CN_EPOCH_EPOCH ∧ s.mapOwner (shardOf (leAt g.body 0x10 16)) = s.me ∧ leAt g.body 0 1 = 4) :=
  ⟨⟨{ ({} : State) with lk := { links := [(2, { st := .active, rxq := [{ type := 8, vc := vcOf 8, session := 63, xtag := 8, body := [2, 2, 1, 4] ++ List.replicate 12 0 ++ [77] ++ List.replicate 15 0 ++ [9] ++ List.replicate 31 0, verdict := some true }], partner := some { member := 2 } })] }, regs := [(F_TOP_BOOT_STATUS_STAGE.key 0, 3), (F_CT_G_QUOTA_QUOTA.key 0, 9)], cn := { st := .member, member := 1, record := List.replicate 400 1 } }, 2, { type := 8, vc := vcOf 8, session := 63, xtag := 8, body := [2, 2, 1, 4] ++ List.replicate 12 0 ++ [77] ++ List.replicate 15 0 ++ [9] ++ List.replicate 31 0, verdict := some true }, by decide +kernel⟩,
    ⟨{ ({} : State) with lk := { links := [(2, { st := .active, rxq := [{ type := 8, vc := vcOf 8, session := 63, xtag := 8, body := [3, 2, 1, 4, 0] ++ List.replicate 11 0 ++ [77] ++ List.replicate 15 0 ++ [9] ++ List.replicate 31 0, verdict := some true }], partner := some { member := 2 } })] }, regs := [(F_TOP_BOOT_STATUS_STAGE.key 0, 3)], cn := { st := .member, member := 1, record := List.replicate 400 1 }, ct := { index := [(5, { hash := 77, handle := 9, pending := true })] } }, 2, { type := 8, vc := vcOf 8, session := 63, xtag := 8, body := [3, 2, 1, 4, 0] ++ List.replicate 11 0 ++ [77] ++ List.replicate 15 0 ++ [9] ++ List.replicate 31 0, verdict := some true }, by decide +kernel⟩,
    ⟨{ ({} : State) with lk := { links := [(2, { st := .active, rxq := [{ type := 8, vc := vcOf 8, session := 63, xtag := 8, body := [9, 2, 1, 4, 0] ++ List.replicate 11 0 ++ [77] ++ List.replicate 15 0 ++ [9] ++ List.replicate 31 0, verdict := some true }], partner := some { member := 2 } })] }, regs := [(F_TOP_BOOT_STATUS_STAGE.key 0, 3)], cn := { st := .member, member := 1, record := List.replicate 400 1 } }, 2, { type := 8, vc := vcOf 8, session := 63, xtag := 8, body := [9, 2, 1, 4, 0] ++ List.replicate 11 0 ++ [77] ++ List.replicate 15 0 ++ [9] ++ List.replicate 31 0, verdict := some true }, by decide +kernel⟩,
    ⟨{ ({} : State) with lk := { links := [(2, { st := .active, rxq := [{ type := 8, vc := vcOf 8, session := 63, xtag := 8, body := [1, 5, 1, 4, 0] ++ List.replicate 11 0 ++ [77] ++ List.replicate 15 0 ++ [0] ++ List.replicate 31 0, verdict := some true }], partner := some { member := 2 } })] }, regs := [(F_TOP_BOOT_STATUS_STAGE.key 0, 3)], cn := { st := .member, member := 1, record := List.replicate 400 1 } }, 2, { type := 8, vc := vcOf 8, session := 63, xtag := 8, body := [1, 5, 1, 4, 0] ++ List.replicate 11 0 ++ [77] ++ List.replicate 15 0 ++ [0] ++ List.replicate 31 0, verdict := some true }, by decide +kernel⟩,
    ⟨{ ({} : State) with lk := { links := [(2, { st := .active, rxq := [{ type := 8, vc := vcOf 8, session := 63, xtag := 8, body := [], verdict := some false }], partner := some { member := 2 } })] }, regs := [(F_TOP_BOOT_STATUS_STAGE.key 0, 3)], cn := { st := .member, member := 1, record := List.replicate 400 1 } }, 2, { type := 8, vc := vcOf 8, session := 63, xtag := 8, body := [], verdict := some false }, by decide +kernel⟩,
    ⟨{}, 2, by decide +kernel⟩,
    ⟨{ ({} : State) with lk := { links := [(2, { st := .active, rxq := [{ type := 8, vc := vcOf 8, session := 63, xtag := 8, body := [4, 2, 1, 4, 0] ++ List.replicate 11 0 ++ [77] ++ List.replicate 15 0 ++ [9] ++ List.replicate 31 0, verdict := some true }], partner := some { member := 2 } })] }, regs := [(F_TOP_BOOT_STATUS_STAGE.key 0, 3)], cn := { st := .member, member := 1, record := List.replicate 400 1 } }, 2, by decide +kernel⟩,
    ⟨{ ({} : State) with lk := { links := [(2, { st := .active, rxq := [{ type := 8, vc := vcOf 8, session := 63, xtag := 8, body := [4, 2, 1, 4, 0] ++ List.replicate 11 0 ++ [77] ++ List.replicate 15 0 ++ [9] ++ List.replicate 31 0, verdict := some true }], partner := some { member := 2 } })] }, regs := [(F_TOP_BOOT_STATUS_STAGE.key 0, 3)], cn := { st := .member, member := 1, record := List.replicate 400 1 }, ct := { index := [(5, { hash := 77, handle := 9, pending := true })] } }, 2, { type := 8, vc := vcOf 8, session := 63, xtag := 8, body := [4, 2, 1, 4, 0] ++ List.replicate 11 0 ++ [77] ++ List.replicate 15 0 ++ [9] ++ List.replicate 31 0, verdict := some true }, by decide +kernel⟩⟩

theorem test_meets_constellation_commands_complete_3 :
    (∃ (s : State) (n : Nat), s.refstateNext n = false) ∧
    (∃ (s : State) (n : Nat) (g : RxFlit) (f : Forward) (d : Nat) (x : Desc), s.headFlit n 2 = some g ∧ g.type = 9 ∧ g.verdict = some true ∧ fwdFormOk false g.body = true ∧ s.fwdSourceOk n g.body = true ∧ s.cn.st = .member ∧ s.forOther g.body = false ∧ leAt g.body 4 4 ≤ s.fld F_CN_EPOCH_EPOCH ∧ s.ct.fwd.find? (fun f => f.sent && f.req == g.xtag && leAt f.msg 0 1 == leAt g.body 0 1) = some f ∧ (leAt g.body 0 1 = 3 ∨ leAt g.body 0 1 = 4) ∧ f.d = some d ∧ Waits s d .answers x) ∧
    (∃ (s : State) (n : Nat) (g : RxFlit) (f : Forward) (d : Nat) (x : Desc), s.headFlit n 2 = some g ∧ g.type = 9 ∧ g.verdict = some true ∧ fwdFormOk false g.body = true ∧ s.fwdSourceOk n g.body = true ∧ s.cn.st = .member ∧ s.forOther g.body = false ∧ leAt g.body 4 4 ≤ s.fld F_CN_EPOCH_EPOCH ∧ s.ct.fwd.find? (fun f => f.sent && f.req == g.xtag && leAt f.msg 0 1 == leAt g.body 0 1) = some f ∧ leAt g.body 0 1 = 2 ∧ leAt g.body 0xA 1 = 10 ∧ f.d = some d ∧ Waits s d .answers x) ∧
    (∃ (s : State) (n : Nat) (g : RxFlit) (f : Forward) (d : Nat) (x : Desc), s.headFlit n 2 = some g ∧ g.type = 9 ∧ g.verdict = some true ∧ fwdFormOk false g.body = true ∧ s.fwdSourceOk n g.body = true ∧ s.cn.st = .member ∧ s.forOther g.body = false ∧ leAt g.body 4 4 ≤ s.fld F_CN_EPOCH_EPOCH ∧ s.ct.fwd.find? (fun f => f.sent && f.req == g.xtag && leAt f.msg 0 1 == leAt g.body 0 1) = some f ∧ leAt g.body 0 1 = 2 ∧ leAt g.body 0xA 1 = 9 ∧ f.d = some d ∧ Waits s d .answers x) ∧
    (∃ (s : State) (n : Nat) (g : RxFlit) (f : Forward) (d : Nat) (x : Desc), s.headFlit n 2 = some g ∧ g.type = 9 ∧ g.verdict = some true ∧ fwdFormOk false g.body = true ∧ s.fwdSourceOk n g.body = true ∧ s.cn.st = .member ∧ s.forOther g.body = false ∧ leAt g.body 4 4 ≤ s.fld F_CN_EPOCH_EPOCH ∧ s.ct.fwd.find? (fun f => f.sent && f.req == g.xtag && leAt f.msg 0 1 == leAt g.body 0 1) = some f ∧ leAt g.body 0 1 = 2 ∧ leAt g.body 0xA 1 = 4 ∧ f.d = some d ∧ Waits s d .answers x) ∧
    (∃ (s : State) (n : Nat) (g : RxFlit), s.headFlit n 2 = some g ∧ g.type = 9 ∧ g.verdict = some true ∧ fwdFormOk false g.body = true ∧ s.fwdSourceOk n g.body = true ∧ s.cn.st = .member ∧ s.forOther g.body = false ∧ leAt g.body 4 4 ≤ s.fld F_CN_EPOCH_EPOCH ∧ s.ct.fwd.find? (fun f => f.sent && f.req == g.xtag && leAt f.msg 0 1 == leAt g.body 0 1) = none ∧ (leAt g.body 0 1 ≠ 1 ∨ leAt g.body 0xA 1 ≠ 0 ∨ bits (leAt g.body 0x20 8) 25 5 ≠ s.me)) ∧
    (∃ (s : State) (n : Nat) (g : RxFlit), s.headFlit n 2 = some g ∧ g.type = 9 ∧ g.verdict = some true ∧ fwdFormOk false g.body = true ∧ s.fwdSourceOk n g.body = true ∧ s.cn.st = .member ∧ s.forOther g.body = false ∧ leAt g.body 4 4 ≤ s.fld F_CN_EPOCH_EPOCH ∧ s.ct.fwd.find? (fun f => f.sent && f.req == g.xtag && leAt f.msg 0 1 == leAt g.body 0 1) = none ∧ leAt g.body 0 1 = 1 ∧ leAt g.body 0xA 1 = 0 ∧ bits (leAt g.body 0x20 8) 25 5 = s.me) ∧
    (∃ (s : State) (n : Nat) (g : RxFlit), s.headFlit n 2 = some g ∧ g.type = 9 ∧ g.verdict = some true ∧ fwdFormOk false g.body = true ∧ s.fwdSourceOk n g.body = true ∧ s.cn.st = .standalone) :=
  ⟨⟨{ ({} : State) with lk := { links := [(2, { st := .active, rxq := [{ type := 8, vc := vcOf 8, session := 63, xtag := 8, body := [1, 2, 1, 4, 0] ++ List.replicate 11 0 ++ [77] ++ List.replicate 15 0 ++ [0] ++ List.replicate 31 0, verdict := some true }], partner := some { member := 2 } })] }, regs := [(F_TOP_BOOT_STATUS_STAGE.key 0, 3)], cn := { st := .member, member := 1, record := List.replicate 400 1 } }, 2, by decide +kernel⟩,
    ⟨{ ({} : State) with lk := { links := [(2, { st := .active, rxq := [{ type := 9, vc := vcOf 9, session := 63, xtag := 8, body := [3, 2, 1, 4] ++ List.replicate 6 0 ++ [8] ++ List.replicate 53 0, verdict := some true }], partner := some { member := 2 } })] }, regs := [(F_TOP_BOOT_STATUS_STAGE.key 0, 3)], cn := { st := .member, member := 1, record := List.replicate 400 1 }, ct := { fwd := [{ d := some 3, req := 8, msg := [3], sent := true }] }, q := { descs := [(3, { cmd 0x32 0 0 2 0 1 with stage := .wait .answers })] } }, 2, { type := 9, vc := vcOf 9, session := 63, xtag := 8, body := [3, 2, 1, 4] ++ List.replicate 6 0 ++ [8] ++ List.replicate 53 0, verdict := some true }, { d := some 3, req := 8, msg := [3], sent := true }, 3, { cmd 0x32 0 0 2 0 1 with stage := .wait .answers }, by decide +kernel⟩,
    ⟨{ ({} : State) with lk := { links := [(2, { st := .active, rxq := [{ type := 9, vc := vcOf 9, session := 63, xtag := 8, body := [2, 2, 1, 4] ++ List.replicate 6 0 ++ [10] ++ List.replicate 53 0, verdict := some true }], partner := some { member := 2 } })] }, regs := [(F_TOP_BOOT_STATUS_STAGE.key 0, 3)], cn := { st := .member, member := 1, record := List.replicate 400 1 }, ct := { fwd := [{ d := some 3, req := 8, msg := [2], sent := true }] }, q := { descs := [(3, { cmd 0x31 0 0 0 77 with stage := .wait .answers })] } }, 2, { type := 9, vc := vcOf 9, session := 63, xtag := 8, body := [2, 2, 1, 4] ++ List.replicate 6 0 ++ [10] ++ List.replicate 53 0, verdict := some true }, { d := some 3, req := 8, msg := [2], sent := true }, 3, { cmd 0x31 0 0 0 77 with stage := .wait .answers }, by decide +kernel⟩,
    ⟨{ ({} : State) with lk := { links := [(2, { st := .active, rxq := [{ type := 9, vc := vcOf 9, session := 63, xtag := 8, body := [2, 2, 1, 4] ++ List.replicate 6 0 ++ [9] ++ List.replicate 53 0, verdict := some true }], partner := some { member := 2 } })] }, regs := [(F_TOP_BOOT_STATUS_STAGE.key 0, 3)], cn := { st := .member, member := 1, record := List.replicate 400 1 }, ct := { fwd := [{ d := some 3, req := 8, msg := [2], sent := true }] }, q := { descs := [(3, { cmd 0x31 0 0 0 77 with stage := .wait .answers })] } }, 2, { type := 9, vc := vcOf 9, session := 63, xtag := 8, body := [2, 2, 1, 4] ++ List.replicate 6 0 ++ [9] ++ List.replicate 53 0, verdict := some true }, { d := some 3, req := 8, msg := [2], sent := true }, 3, { cmd 0x31 0 0 0 77 with stage := .wait .answers }, by decide +kernel⟩,
    ⟨{ ({} : State) with lk := { links := [(2, { st := .active, rxq := [{ type := 9, vc := vcOf 9, session := 63, xtag := 8, body := [2, 2, 1, 4] ++ List.replicate 6 0 ++ [4] ++ List.replicate 53 0, verdict := some true }], partner := some { member := 2 } })] }, regs := [(F_TOP_BOOT_STATUS_STAGE.key 0, 3)], cn := { st := .member, member := 1, record := List.replicate 400 1 }, ct := { fwd := [{ d := some 3, req := 8, msg := [2], sent := true }] }, q := { descs := [(3, { cmd 0x31 0 0 0 77 with stage := .wait .answers })] } }, 2, { type := 9, vc := vcOf 9, session := 63, xtag := 8, body := [2, 2, 1, 4] ++ List.replicate 6 0 ++ [4] ++ List.replicate 53 0, verdict := some true }, { d := some 3, req := 8, msg := [2], sent := true }, 3, { cmd 0x31 0 0 0 77 with stage := .wait .answers }, by decide +kernel⟩,
    ⟨{ ({} : State) with lk := { links := [(2, { st := .active, rxq := [{ type := 9, vc := vcOf 9, session := 63, xtag := 8, body := [3, 2, 1, 4] ++ List.replicate 6 0 ++ [8] ++ List.replicate 53 0, verdict := some true }], partner := some { member := 2 } })] }, regs := [(F_TOP_BOOT_STATUS_STAGE.key 0, 3)], cn := { st := .member, member := 1, record := List.replicate 400 1 } }, 2, { type := 9, vc := vcOf 9, session := 63, xtag := 8, body := [3, 2, 1, 4] ++ List.replicate 6 0 ++ [8] ++ List.replicate 53 0, verdict := some true }, by decide +kernel⟩,
    ⟨{ ({} : State) with lk := { links := [(2, { st := .active, rxq := [{ type := 9, vc := vcOf 9, session := 63, xtag := 8, body := [1, 2, 1, 4] ++ List.replicate 12 0 ++ [77] ++ List.replicate 15 0 ++ [0, 0, 0, 2] ++ List.replicate 28 0, verdict := some true }], partner := some { member := 2 } })] }, regs := [(F_TOP_BOOT_STATUS_STAGE.key 0, 3)], cn := { st := .member, member := 1, record := List.replicate 400 1 } }, 2, { type := 9, vc := vcOf 9, session := 63, xtag := 8, body := [1, 2, 1, 4] ++ List.replicate 12 0 ++ [77] ++ List.replicate 15 0 ++ [0, 0, 0, 2] ++ List.replicate 28 0, verdict := some true }, by decide +kernel⟩,
    ⟨{ ({} : State) with lk := { links := [(2, { st := .active, rxq := [{ type := 9, vc := vcOf 9, session := 63, xtag := 8, body := [3, 2, 1, 4] ++ List.replicate 6 0 ++ [8] ++ List.replicate 53 0, verdict := some true }], partner := some { member := 2 } })] }, regs := [(F_TOP_BOOT_STATUS_STAGE.key 0, 3)], cn := { st := .standalone } }, 2, { type := 9, vc := vcOf 9, session := 63, xtag := 8, body := [3, 2, 1, 4] ++ List.replicate 6 0 ++ [8] ++ List.replicate 53 0, verdict := some true }, by decide +kernel⟩⟩

theorem test_meets_constellation_commands_complete_4 :
    (∃ (s : State) (n : Nat) (g : RxFlit), s.headFlit n 2 = some g ∧ g.type = 9 ∧ g.verdict = some true ∧ fwdFormOk false g.body = true ∧ s.fwdSourceOk n g.body = true ∧ s.cn.st = .member ∧ s.forOther g.body = true ∧ leAt g.body 3 1 = 0) ∧
    (∃ (s : State) (n : Nat) (g : RxFlit), s.headFlit n 2 = some g ∧ g.type = 9 ∧ g.verdict = some true ∧ (fwdFormOk false g.body = false ∨ s.fwdSourceOk n g.body = false)) ∧
    (∃ (s : State) (n : Nat) (g : RxFlit), s.headFlit n 2 = some g ∧ g.type = 9 ∧ g.verdict = some false) ∧
    (∃ (s : State) (n : Nat), (s.headFlit n 2).all (fun g => g.type != 9 || g.verdict.isNone) = true) ∧
    (∃ (s : State) (h : HeldReq) (l : List HeldReq), s.cn.held = h :: l ∧ s.now < h.since + 100000000) ∧
    (∃ (s : State) (h : HeldReq) (l : List HeldReq), s.cn.held = h :: l ∧ h.since + 100000000 ≤ s.now) ∧
    (∃ (s : State), s.cn.held = []) ∧
    (∃ (s : State) (d : Nat) (x : Desc), Runs s d 0x7F x ∧ x.e.opA = 2 ∧ s.fld F_CN_STATUS_SWITCHING = 0 ∧ (∀ p ∈ s.q.descs, p.2.runs? 0x7F = true → p.2.e.opA = 2 → x.seq ≤ p.2.seq) ∧ s.verifyRecord x.blk = .adopt) :=
  ⟨⟨{ ({} : State) with lk := { links := [(2, { st := .active, rxq := [{ type := 9, vc := vcOf 9, session := 63, xtag := 8, body := [3, 2, 3, 0] ++ List.replicate 6 0 ++ [8] ++ List.replicate 53 0, verdict := some true }], partner := some { member := 2 } })] }, regs := [(F_TOP_BOOT_STATUS_STAGE.key 0, 3)], cn := { st := .member, member := 1, record := List.replicate 400 1 } }, 2, { type := 9, vc := vcOf 9, session := 63, xtag := 8, body := [3, 2, 3, 0] ++ List.replicate 6 0 ++ [8] ++ List.replicate 53 0, verdict := some true }, by decide +kernel⟩,
    ⟨{ ({} : State) with lk := { links := [(2, { st := .active, rxq := [{ type := 9, vc := vcOf 9, session := 63, xtag := 8, body := [9, 2, 1, 4] ++ List.replicate 6 0 ++ [8] ++ List.replicate 53 0, verdict := some true }], partner := some { member := 2 } })] }, regs := [(F_TOP_BOOT_STATUS_STAGE.key 0, 3)], cn := { st := .member, member := 1, record := List.replicate 400 1 } }, 2, { type := 9, vc := vcOf 9, session := 63, xtag := 8, body := [9, 2, 1, 4] ++ List.replicate 6 0 ++ [8] ++ List.replicate 53 0, verdict := some true }, by decide +kernel⟩,
    ⟨{ ({} : State) with lk := { links := [(2, { st := .active, rxq := [{ type := 9, vc := vcOf 9, session := 63, xtag := 8, body := [], verdict := some false }], partner := some { member := 2 } })] }, regs := [(F_TOP_BOOT_STATUS_STAGE.key 0, 3)], cn := { st := .member, member := 1, record := List.replicate 400 1 } }, 2, { type := 9, vc := vcOf 9, session := 63, xtag := 8, body := [], verdict := some false }, by decide +kernel⟩,
    ⟨{}, 2, by decide +kernel⟩,
    ⟨{ ({} : State) with cn := { st := .member, held := [{ link := 2, f := { type := 8, vc := 0, session := 63, body := [1, 2, 1, 4, 0] ++ List.replicate 11 0 ++ [77] ++ List.replicate 15 0 ++ [0] ++ List.replicate 31 0 }, since := 4 }] } }, { link := 2, f := { type := 8, vc := 0, session := 63, body := [1, 2, 1, 4, 0] ++ List.replicate 11 0 ++ [77] ++ List.replicate 15 0 ++ [0] ++ List.replicate 31 0 }, since := 4 }, [], by decide +kernel⟩,
    ⟨{ ({} : State) with now := 200000000, cn := { st := .member, held := [{ link := 2, f := { type := 8, vc := 0, session := 63, body := [1, 2, 1, 4, 0] ++ List.replicate 11 0 ++ [77] ++ List.replicate 15 0 ++ [0] ++ List.replicate 31 0 }, since := 4 }] } }, { link := 2, f := { type := 8, vc := 0, session := 63, body := [1, 2, 1, 4, 0] ++ List.replicate 11 0 ++ [77] ++ List.replicate 15 0 ++ [0] ++ List.replicate 31 0 }, since := 4 }, [], by decide +kernel⟩,
    ⟨{}, by decide +kernel⟩,
    ⟨{ withDesc 3 { cmd 0x7F 2 0 0 with blk := oneRecord } with regs := cnKeyRegs }, 3, { cmd 0x7F 2 0 0 with blk := oneRecord }, by decide +kernel⟩⟩

theorem test_meets_constellation_commands_complete_5 :
    (∃ (s : State) (d : Nat) (x : Desc), Runs s d 0x7F x ∧ x.e.opA = 2 ∧ s.fld F_CN_STATUS_SWITCHING = 0 ∧ (∀ p ∈ s.q.descs, p.2.runs? 0x7F = true → p.2.e.opA = 2 → x.seq ≤ p.2.seq) ∧ s.verifyRecord x.blk = .same) ∧
    (∃ (s : State) (d : Nat) (x : Desc), Runs s d 0x7F x ∧ x.e.opA = 2 ∧ s.fld F_CN_STATUS_SWITCHING = 0 ∧ (∀ p ∈ s.q.descs, p.2.runs? 0x7F = true → p.2.e.opA = 2 → x.seq ≤ p.2.seq) ∧ s.verifyRecord x.blk = .conflict) ∧
    (∃ (s : State) (d : Nat) (x : Desc) (c : Nat), Runs s d 0x7F x ∧ x.e.opA = 2 ∧ s.fld F_CN_STATUS_SWITCHING = 0 ∧ (∀ p ∈ s.q.descs, p.2.runs? 0x7F = true → p.2.e.opA = 2 → x.seq ≤ p.2.seq) ∧ s.verifyRecord x.blk = .refused c) ∧
    (∃ (s : State) (d : Nat) (x : Desc), Runs s d 0x7F x ∧ x.e.opA = 2 ∧ (s.fld F_CN_STATUS_SWITCHING = 1 ∨ ∃ p ∈ s.q.descs, p.2.runs? 0x7F = true ∧ p.2.e.opA = 2 ∧ p.2.seq < x.seq)) ∧
    (∃ (s : State) (r : List Byte), s.cn.next = some r ∧ s.fwdOut = 0) ∧
    (∃ (s : State), (s.cn.next = none ∨ s.fwdOut ≠ 0)) ∧
    (∃ (s : State) (n : Nat) (b : List Byte) (v : Bool) (y : Partner), (s.link n).isUp = true ∧ (s.link n).partner = some y ∧ y.role = 0 ∧ s.peer n ≠ 0 ∧ v = true ∧ s.cn.st ≠ .standalone ∧ recPresent s.cn.record y.member = true ∧ recDigest s.cn.record y.member = sha256 b ∧ s.keysAllowed = true) ∧
    (∃ (s : State) (n : Nat) (b : List Byte) (v : Bool) (y : Partner), (s.link n).isUp = true ∧ (s.link n).partner = some y ∧ y.role = 0 ∧ s.peer n ≠ 0 ∧ v = true ∧ s.cn.st ≠ .standalone ∧ recPresent s.cn.record y.member = true ∧ recDigest s.cn.record y.member = sha256 b ∧ s.keysAllowed = false) :=
  ⟨⟨{ withDesc 3 { cmd 0x7F 2 0 0 with blk := oneRecord } with regs := (F_CN_EPOCH_EPOCH.key 0, 1) :: cnKeyRegs, cn := { record := oneRecord } }, 3, { cmd 0x7F 2 0 0 with blk := oneRecord }, by decide +kernel⟩,
    ⟨{ withDesc 3 { cmd 0x7F 2 0 0 with blk := oneRecord } with regs := (F_CN_EPOCH_EPOCH.key 0, 1) :: cnKeyRegs }, 3, { cmd 0x7F 2 0 0 with blk := oneRecord }, by decide +kernel⟩,
    ⟨{ withDesc 3 { cmd 0x7F 2 0 0 with blk := [2] } with regs := [] }, 3, { cmd 0x7F 2 0 0 with blk := [2] }, 1, by decide +kernel⟩,
    ⟨{ withDesc 3 { cmd 0x7F 2 0 0 with blk := oneRecord } with regs := [(F_CN_STATUS_SWITCHING.key 0, 1)] }, 3, { cmd 0x7F 2 0 0 with blk := oneRecord }, by decide +kernel⟩,
    ⟨{ ({} : State) with cn := { next := some oneRecord } }, oneRecord, by decide +kernel⟩,
    ⟨{}, by decide +kernel⟩,
    ⟨{ ({} : State) with lk := { links := [(2, { st := .active, partner := some {} })] }, regs := [(F_TOP_BOOT_STATUS_STAGE.key 0, 3)], cn := { st := .member, member := 1, record := List.replicate 12 0 ++ [1] ++ List.replicate 1299 0 ++ sha256 [7], peers := [(2, 1)] }, se := { fuses := { lc := .of 2 } } }, 2, [7], true, {}, by decide +kernel⟩,
    ⟨{ ({} : State) with lk := { links := [(2, { st := .active, partner := some {} })] }, regs := [(F_TOP_BOOT_STATUS_STAGE.key 0, 3)], cn := { st := .member, member := 1, record := List.replicate 12 0 ++ [1] ++ List.replicate 1299 0 ++ sha256 [7], peers := [(2, 1)] } }, 2, [7], true, {}, by decide +kernel⟩⟩

theorem test_meets_constellation_commands_complete_6 :
    (∃ (s : State) (n : Nat) (b : List Byte) (v : Bool) (y : Partner), (s.link n).isUp = true ∧ (s.link n).partner = some y ∧ y.role = 0 ∧ s.peer n ≠ 0 ∧ (v = false ∨ s.cn.st = .standalone ∨ recPresent s.cn.record y.member = false ∨ recDigest s.cn.record y.member ≠ sha256 b)) ∧
    (∃ (s : State) (n : Nat) (b : List Byte) (v : Bool) (y : Partner), (s.link n).isUp = true ∧ (s.link n).partner = some y ∧ y.role = 0 ∧ s.peer n ≠ 0 ∧ (v = false ∨ s.cn.st = .standalone ∨ recPresent s.cn.record y.member = false ∨ recDigest s.cn.record y.member ≠ sha256 b)) ∧
    (∃ (s : State) (n : Nat), ((s.link n).isUp = false ∨ (s.link n).partner.all (fun y => y.role != 0) = true ∨ s.peer n = 0)) ∧
    (∃ (s : State) (b : Nat) (e : Nat), s.bindUp b = true ∧ b < 2 ∧ s.cn.st ≠ .standalone ∧ (e = 0 ∨ e = s.fld F_CN_EPOCH_EPOCH)) ∧
    (∃ (s : State) (b : Nat) (e : Nat), s.bindUp b = true ∧ b < 2 ∧ (s.cn.st = .standalone ∨ (e ≠ 0 ∧ e ≠ s.fld F_CN_EPOCH_EPOCH))) ∧
    (∃ (s : State) (b : Nat) (e : Nat), s.bindUp b = true ∧ 2 ≤ b ∧ s.cn.st ≠ .standalone ∧ (e = 0 ∨ e = s.fld F_CN_EPOCH_EPOCH)) ∧
    (∃ (s : State) (b : Nat), s.bindUp b = false) ∧
    (∃ (s : State) (b : Nat) (r : List Byte), s.bindUp b = true ∧ 2 ≤ b ∧ (s.link (b - 2)).partner.map (·.role) = some 0 ∧ r.length = 2688 ∧ s.fld F_CN_STATUS_SWITCHING = 0 ∧ s.verifyRecord r = .adopt) :=
  ⟨⟨{ ({} : State) with lk := { links := [(2, { st := .active, partner := some {} })] }, regs := [(F_TOP_BOOT_STATUS_STAGE.key 0, 3)], cn := { st := .member, member := 1, record := List.replicate 12 0 ++ [1] ++ List.replicate 1299 0 ++ sha256 [7], peers := [(2, 1)] } }, 2, [8], true, {}, by decide +kernel⟩,
    ⟨{ ({} : State) with lk := { links := [(2, { st := .active, partner := some {} })] }, regs := [(F_TOP_BOOT_STATUS_STAGE.key 0, 3)], cn := { st := .member, member := 1, record := List.replicate 12 0 ++ [1] ++ List.replicate 1299 0 ++ sha256 [7], peers := [(2, 1)] } }, 2, [7], false, {}, by decide +kernel⟩,
    ⟨{}, 2, by decide +kernel⟩,
    ⟨{ ({} : State) with cn := { st := .member, record := oneRecord }, regs := [(F_TOP_BOOT_STATUS_STAGE.key 0, 3)] }, 1, 0, by decide +kernel⟩,
    ⟨{ ({} : State) with regs := [(F_TOP_BOOT_STATUS_STAGE.key 0, 3)] }, 1, 0, by decide +kernel⟩,
    ⟨{ ({} : State) with lk := { links := [(2, { st := .active })] }, cn := { st := .member, record := oneRecord }, regs := [(F_TOP_BOOT_STATUS_STAGE.key 0, 3)] }, 4, 0, by decide +kernel⟩,
    ⟨{}, 1, by decide +kernel⟩,
    ⟨{ ({} : State) with lk := { links := [(2, { st := .active, partner := some {} })] }, regs := (F_TOP_BOOT_STATUS_STAGE.key 0, 3) :: cnKeyRegs }, 4, oneRecord, by decide +kernel⟩⟩

theorem test_meets_constellation_commands_complete_7 :
    (∃ (s : State) (b : Nat) (r : List Byte), s.bindUp b = true ∧ 2 ≤ b ∧ (s.link (b - 2)).partner.map (·.role) = some 0 ∧ r.length = 2688 ∧ s.fld F_CN_STATUS_SWITCHING = 0 ∧ s.verifyRecord r = .same) ∧
    (∃ (s : State) (b : Nat) (r : List Byte) (c : Nat), s.bindUp b = true ∧ 2 ≤ b ∧ (s.link (b - 2)).partner.map (·.role) = some 0 ∧ r.length = 2688 ∧ s.fld F_CN_STATUS_SWITCHING = 0 ∧ s.verifyRecord r = .refused c) ∧
    (∃ (s : State) (b : Nat), s.bindUp b = true ∧ b < 2) ∧
    (∃ (s : State) (b : Nat) (r : List Byte), s.bindUp b = true ∧ 2 ≤ b ∧ ((s.link (b - 2)).partner.map (·.role) ≠ some 0 ∨ r.length ≠ 2688 ∨ s.fld F_CN_STATUS_SWITCHING = 1)) ∧
    (∃ (s : State) (b : Nat), s.bindUp b = false) ∧
    (∃ (s : State) (n : Nat) (g : RxFlit), s.headFlit n 3 = some g ∧ g.type = 11 ∧ g.verdict.isSome = true ∧ s.mg.asm = [] ∧ bit (leAt g.body 3 1) 7 = true ∧ bit (leAt g.body 3 1) 6 = false ∧ g.body.length ≤ 4100) ∧
    (∃ (s : State) (n : Nat) (g : RxFlit), s.headFlit n 3 = some g ∧ g.type = 11 ∧ g.verdict.isSome = true ∧ s.mg.asm = [] ∧ bit (leAt g.body 3 1) 7 = false) ∧
    (∃ (s : State) (n : Nat) (g : RxFlit), s.headFlit n 3 = some g ∧ g.type = 11 ∧ g.verdict.isSome = true ∧ s.mg.asm = [] ∧ bit (leAt g.body 3 1) 7 = true ∧ bit (leAt g.body 3 1) 6 = true ∧ g.body.length ≤ 4100 ∧ leAt (g.body.drop 4) 0 1 % 128 ∉ [0, 5, 6, 126]) :=
  ⟨⟨{ ({} : State) with lk := { links := [(2, { st := .active, partner := some {} })] }, regs := (F_TOP_BOOT_STATUS_STAGE.key 0, 3) :: (F_CN_EPOCH_EPOCH.key 0, 1) :: cnKeyRegs, cn := { record := oneRecord } }, 4, oneRecord, by decide +kernel⟩,
    ⟨{ ({} : State) with lk := { links := [(2, { st := .active, partner := some {} })] }, regs := (F_TOP_BOOT_STATUS_STAGE.key 0, 3) :: cnKeyRegs }, 4, List.replicate 2688 0, 1, by decide +kernel⟩,
    ⟨{ ({} : State) with regs := [(F_TOP_BOOT_STATUS_STAGE.key 0, 3)] }, 1, by decide +kernel⟩,
    ⟨{ ({} : State) with lk := { links := [(2, { st := .active, partner := some {} })] }, regs := (F_TOP_BOOT_STATUS_STAGE.key 0, 3) :: cnKeyRegs }, 4, [], by decide +kernel⟩,
    ⟨{}, 1, by decide +kernel⟩,
    ⟨{ ({} : State) with lk := { links := [(2, { st := .active, rxq := [{ type := 11, vc := 3, body := [1, 0, 0, 136, 126, 1] }] })] }, regs := [(F_TOP_BOOT_STATUS_STAGE.key 0, 3)] }, 2, { type := 11, vc := 3, body := [1, 0, 0, 136, 126, 1] }, by decide +kernel⟩,
    ⟨{ ({} : State) with lk := { links := [(2, { st := .active, rxq := [{ type := 11, vc := 3, body := [1, 0, 0, 8, 126, 1] }] })] }, regs := [(F_TOP_BOOT_STATUS_STAGE.key 0, 3)] }, 2, { type := 11, vc := 3, body := [1, 0, 0, 8, 126, 1] }, by decide +kernel⟩,
    ⟨{ ({} : State) with lk := { links := [(2, { st := .active, rxq := [{ type := 11, vc := 3, body := [1, 0, 0, 200, 4, 1] }] })] }, regs := [(F_TOP_BOOT_STATUS_STAGE.key 0, 3)] }, 2, { type := 11, vc := 3, body := [1, 0, 0, 200, 4, 1] }, by decide +kernel⟩⟩

theorem test_meets_constellation_commands_complete_8 :
    (∃ (s : State) (n : Nat) (g : RxFlit), s.headFlit n 3 = some g ∧ g.type = 11 ∧ g.verdict.isSome = true ∧ s.mg.asm = [] ∧ bit (leAt g.body 3 1) 7 = true ∧ bit (leAt g.body 3 1) 6 = true ∧ g.body.length ≤ 4100 ∧ leAt (g.body.drop 4) 0 1 % 128 ∈ [0, 5, 6]) ∧
    (∃ (s : State) (n : Nat) (g : RxFlit) (r : Reasm), s.headFlit n 3 = some g ∧ g.type = 11 ∧ g.verdict.isSome = true ∧ s.mg.asm = [r] ∧ r.from_ (2 + n) (leAt g.body 2 1) (leAt g.body 3 1 % 16) = true ∧ bit (leAt g.body 3 1) 7 = false ∧ bit (leAt g.body 3 1) 6 = true ∧ leAt g.body 3 1 / 16 % 4 = (r.seq + 1) % 4 ∧ (r.body ++ g.body.drop 4).length ≤ 4096 ∧ (r.body ++ g.body.drop 4).take 6 = vendorMsg false 0 1 (some 0) [] ∧ s.fld F_CN_STATUS_SWITCHING = 0 ∧ s.verifyRecord ((r.body ++ g.body.drop 4).drop 6) = .adopt) ∧
    (∃ (s : State) (n : Nat), (s.headFlit n 3).all (fun g => g.type != 11 || g.verdict.isNone) = true) :=
  ⟨⟨{ ({} : State) with lk := { links := [(2, { st := .active, rxq := [{ type := 11, vc := 3, body := [1, 0, 0, 200, 0, 128, 99] }] })] }, regs := [(F_TOP_BOOT_STATUS_STAGE.key 0, 3)] }, 2, { type := 11, vc := 3, body := [1, 0, 0, 200, 0, 128, 99] }, by decide +kernel⟩,
    ⟨{ ({} : State) with lk := { links := [(2, { st := .active, rxq := [{ type := 11, vc := 3, body := [1, 0, 0, 80] ++ (oneRecord.drop 2560) }] })] }, regs := (F_TOP_BOOT_STATUS_STAGE.key 0, 3) :: cnKeyRegs, mg := { asm := [{ bind := 4, seq := 0, body := vendorMsg false 0 1 (some 0) (oneRecord.take 2560) }] } }, 2, { type := 11, vc := 3, body := [1, 0, 0, 80] ++ (oneRecord.drop 2560) }, { bind := 4, seq := 0, body := vendorMsg false 0 1 (some 0) (oneRecord.take 2560) }, by decide +kernel⟩,
    ⟨{}, 2, by decide +kernel⟩⟩

theorem test_meets_key_commands_complete_1 :
    (∃ (s : State) (d : Nat) (x : Desc) (i : Nat), Runs s d 0x78 x ∧ x.e.opA % 16 = 1 ∧ s.keysAllowed = true ∧ s.freshSlot = some i ∧ s.memSlot x.e.tenant = none) ∧
    (∃ (s : State) (d : Nat) (x : Desc) (i : Nat), Runs s d 0x78 x ∧ x.e.opA % 16 = 1 ∧ s.keysAllowed = true ∧ s.memSlot x.e.tenant = some i) ∧
    (∃ (s : State) (d : Nat) (x : Desc), Runs s d 0x78 x ∧ x.e.opA % 16 = 1 ∧ s.keysAllowed = true ∧ s.memSlot x.e.tenant = none ∧ s.freshSlot = none) ∧
    (∃ (s : State) (d : Nat), s.creates d 1 = false) ∧
    (∃ (s : State) (d : Nat) (x : Desc), Runs s d 0x78 x ∧ x.e.opA % 16 = 1 ∧ s.keysAllowed = false) ∧
    (∃ (s : State) (d : Nat) (x : Desc) (i : Nat), Runs s d 0x78 x ∧ x.e.opA % 16 = 2 ∧ s.keysAllowed = true ∧ s.freshSlot = some i) ∧
    (∃ (s : State) (d : Nat) (x : Desc), Runs s d 0x78 x ∧ x.e.opA % 16 = 2 ∧ s.keysAllowed = true ∧ s.freshSlot = none) ∧
    (∃ (s : State) (d : Nat), s.creates d 2 = false) :=
  ⟨⟨{ withDesc 3 (cmd 0x78 1 0 0) with se := { fuses := { lc := .of 8 } } }, 3, cmd 0x78 1 0 0, 64, by decide +kernel⟩,
    ⟨{ withDesc 3 (cmd 0x78 1 0 0) with se := { fuses := { lc := .of 8 } }, ks := [(70, { st := .active, kind := 1, tenant := 5 })] }, 3, cmd 0x78 1 0 0, 70, by decide +kernel⟩,
    ⟨{ withDesc 3 (cmd 0x78 1 0 0) with se := { fuses := { lc := .of 8 } }, ks := filled { st := .active } 1984 64 }, 3, cmd 0x78 1 0 0, ⟨⟨by decide, by decide, by decide⟩, by decide +kernel, by decide +kernel, by decide +kernel, freshSlot_filled _ rfl⟩⟩,
    ⟨{}, 3, by decide +kernel⟩,
    ⟨withDesc 3 (cmd 0x78 1 0 0), 3, cmd 0x78 1 0 0, by decide +kernel⟩,
    ⟨{ withDesc 3 ({ cmd 0x78 2 0 0 with blk := [9, 8] }) with se := { fuses := { lc := .of 8 } } }, 3, { cmd 0x78 2 0 0 with blk := [9, 8] }, 64, by decide +kernel⟩,
    ⟨{ withDesc 3 ({ cmd 0x78 2 0 0 with blk := [9, 8] }) with se := { fuses := { lc := .of 8 } }, ks := filled { st := .active } 1984 64 }, 3, { cmd 0x78 2 0 0 with blk := [9, 8] }, ⟨⟨by decide, by decide, by decide⟩, by decide +kernel, by decide +kernel, freshSlot_filled _ rfl⟩⟩,
    ⟨{}, 3, by decide +kernel⟩⟩

set_option maxRecDepth 100000 in
theorem test_meets_key_commands_complete_2 :
    (∃ (s : State) (d : Nat) (x : Desc), Runs s d 0x78 x ∧ x.e.opA % 16 = 2 ∧ s.keysAllowed = false) ∧
    (∃ (s : State) (d : Nat) (v : Bool) (r : List Byte) (b : List Byte) (x : Desc) (i : Nat), Runs s d 0x78 x ∧ x.e.opA % 16 = 3 ∧ s.keysAllowed = true ∧ (s.link (bits x.e.opA 8 6)).st = .active ∧ (s.link (bits x.e.opA 8 6)).partner.map (·.role) = some 1 ∧ v = true ∧ sha384 r = (policyOf x.blk).1 ∧ digestOk (policyOf x.blk).2 (sha384 b) = true ∧ s.freshSlot = some i) ∧
    (∃ (s : State) (d : Nat) (v : Bool) (r : List Byte) (b : List Byte) (x : Desc), Runs s d 0x78 x ∧ x.e.opA % 16 = 3 ∧ s.keysAllowed = true ∧ (s.link (bits x.e.opA 8 6)).st = .active ∧ (s.link (bits x.e.opA 8 6)).partner.map (·.role) = some 1 ∧ v = true ∧ sha384 r = (policyOf x.blk).1 ∧ digestOk (policyOf x.blk).2 (sha384 b) = true ∧ s.freshSlot = none) ∧
    (∃ (s : State) (d : Nat) (v : Bool) (r : List Byte) (b : List Byte) (x : Desc), Runs s d 0x78 x ∧ x.e.opA % 16 = 3 ∧ s.keysAllowed = true ∧ ((s.link (bits x.e.opA 8 6)).st ≠ .active ∨ (s.link (bits x.e.opA 8 6)).partner.map (·.role) ≠ some 1 ∨ v = false ∨ sha384 r ≠ (policyOf x.blk).1 ∨ digestOk (policyOf x.blk).2 (sha384 b) = false)) ∧
    (∃ (s : State) (d : Nat), s.creates d 3 = false) ∧
    (∃ (s : State) (d : Nat) (x : Desc), Runs s d 0x78 x ∧ x.e.opA % 16 = 3 ∧ s.keysAllowed = false) ∧
    (∃ (s : State) (d : Nat) (x : Desc) (b : List Byte) (i : Nat), Runs s d 0x78 x ∧ x.e.opA % 16 = 4 ∧ s.keysAllowed = true ∧ s.sealedRecord x = some b ∧ s.freshSlot = some i) ∧
    (∃ (s : State) (d : Nat) (x : Desc) (b : List Byte) (st : Status) (n : Nat), Runs s d 0x78 x ∧ x.e.opA % 16 = 4 ∧ s.keysAllowed = true ∧ s.sealedRecord x = some b ∧ s.sealedCheck x.e.tenant b = some (st, n)) :=
  ⟨⟨withDesc 3 ({ cmd 0x78 2 0 0 with blk := [9, 8] }), 3, { cmd 0x78 2 0 0 with blk := [9, 8] }, by decide +kernel⟩,
    ⟨{ withDesc 3 ({ cmd 0x78 0x203 0 0 with blk := sha384 [6] ++ List.replicate 192 0 }) with se := { fuses := { lc := .of 8 } }, lk := { links := [(2, { st := .active, partner := some { role := 1 } })] } }, 3, true, [6], [7], { cmd 0x78 0x203 0 0 with blk := sha384 [6] ++ List.replicate 192 0 }, 64, by decide +kernel⟩,
    ⟨{ withDesc 3 ({ cmd 0x78 0x203 0 0 with blk := sha384 [6] ++ List.replicate 192 0 }) with se := { fuses := { lc := .of 8 } }, lk := { links := [(2, { st := .active, partner := some { role := 1 } })] }, ks := filled { st := .active } 1984 64 }, 3, true, [6], [7], { cmd 0x78 0x203 0 0 with blk := sha384 [6] ++ List.replicate 192 0 }, ⟨⟨by decide, by decide, by decide⟩, by decide +kernel, by decide +kernel, by decide +kernel, by decide +kernel, by decide +kernel, by decide +kernel, by decide +kernel, freshSlot_filled _ rfl⟩⟩,
    ⟨{ withDesc 3 ({ cmd 0x78 0x203 0 0 with blk := sha384 [6] ++ List.replicate 192 0 }) with se := { fuses := { lc := .of 8 } }, lk := { links := [(2, { st := .active, partner := some { role := 1 } })] } }, 3, true, [5], [7], { cmd 0x78 0x203 0 0 with blk := sha384 [6] ++ List.replicate 192 0 }, by decide +kernel⟩,
    ⟨{}, 3, by decide +kernel⟩,
    ⟨withDesc 3 ({ cmd 0x78 0x203 0 0 with blk := sha384 [6] ++ List.replicate 192 0 }), 3, { cmd 0x78 0x203 0 0 with blk := sha384 [6] ++ List.replicate 192 0 }, by decide +kernel⟩,
    ⟨{ withDesc 3 ({ cmd 0x78 4 0 0 with blk := [82, 75, 83, 74, 1] ++ List.replicate 19 0 ++ [5, 0] ++ List.replicate 6 0 ++ [1] ++ List.replicate 479 0 }) with se := { fuses := { lc := .of 8 }, vbat := { wrap := .given [] } } }, 3, { cmd 0x78 4 0 0 with blk := [82, 75, 83, 74, 1] ++ List.replicate 19 0 ++ [5, 0] ++ List.replicate 6 0 ++ [1] ++ List.replicate 479 0 }, { cmd 0x78 4 0 0 with blk := [82, 75, 83, 74, 1] ++ List.replicate 19 0 ++ [5, 0] ++ List.replicate 6 0 ++ [1] ++ List.replicate 479 0 }.blk, 64, by decide +kernel⟩,
    ⟨{ withDesc 3 (cmd 0x78 4 0 0) with se := { fuses := { lc := .of 8 } } }, 3, cmd 0x78 4 0 0, [], .param, 0xB1, by decide +kernel⟩⟩

theorem test_meets_key_commands_complete_3 :
    (∃ (s : State) (d : Nat) (x : Desc) (b : List Byte) (st : Status) (n : Nat), Runs s d 0x78 x ∧ x.e.opA % 16 = 4 ∧ s.keysAllowed = true ∧ s.sealedRecord x = some b ∧ s.sealedCheck x.e.tenant b = some (st, n)) ∧
    (∃ (s : State) (d : Nat) (x : Desc), Runs s d 0x78 x ∧ x.e.opA % 16 = 4 ∧ s.keysAllowed = true ∧ s.sealedRecord x = none) ∧
    (∃ (s : State) (d : Nat), s.creates d 4 = false) ∧
    (∃ (s : State) (d : Nat) (x : Desc), Runs s d 0x78 x ∧ x.e.opA % 16 = 4 ∧ s.keysAllowed = false) ∧
    (∃ (s : State) (d : Nat) (x : Desc) (i : Nat), Runs s d 0x79 x ∧ s.keysAllowed = true ∧ s.slotOf (x.e.opA % 2 ^ 32) = some i ∧ 64 ≤ i ∧ (s.slot i).kind ≠ 1 ∧ (s.slot i).tenant = x.e.tenant ∧ (s.slot i).st = .active) ∧
    (∃ (s : State) (d : Nat) (x : Desc) (i : Nat), Runs s d 0x79 x ∧ s.keysAllowed = true ∧ s.slotOf (x.e.opA % 2 ^ 32) = some i ∧ 64 ≤ i ∧ (s.slot i).kind ≠ 1 ∧ (s.slot i).tenant = x.e.tenant ∧ (s.slot i).st = .retiring) ∧
    (∃ (s : State) (d : Nat) (x : Desc) (i : Nat), Runs s d 0x79 x ∧ s.keysAllowed = true ∧ s.slotOf (x.e.opA % 2 ^ 32) = some i ∧ 64 ≤ i ∧ (s.slot i).kind ≠ 1 ∧ (s.slot i).tenant = x.e.tenant ∧ (s.slot i).st = .lost) ∧
    (∃ (s : State) (d : Nat) (x : Desc) (i : Nat), Runs s d 0x79 x ∧ s.keysAllowed = true ∧ s.slotOf (x.e.opA % 2 ^ 32) = some i ∧ (i < 64 ∨ (s.slot i).kind = 1 ∨ (s.slot i).tenant ≠ x.e.tenant)) :=
  ⟨⟨{ withDesc 3 ({ cmd 0x78 4 0 0 with blk := [82, 75, 83, 74, 1] ++ List.replicate 19 0 ++ [5, 0] ++ List.replicate 6 0 ++ [1] ++ List.replicate 479 0 }) with se := { fuses := { lc := .of 8 } } }, 3, { cmd 0x78 4 0 0 with blk := [82, 75, 83, 74, 1] ++ List.replicate 19 0 ++ [5, 0] ++ List.replicate 6 0 ++ [1] ++ List.replicate 479 0 }, { cmd 0x78 4 0 0 with blk := [82, 75, 83, 74, 1] ++ List.replicate 19 0 ++ [5, 0] ++ List.replicate 6 0 ++ [1] ++ List.replicate 479 0 }.blk, .unsupported, 0xA2, by decide +kernel⟩,
    ⟨{ withDesc 3 (cmd 0x78 4 0 0 0 1) with se := { fuses := { lc := .of 8 } } }, 3, cmd 0x78 4 0 0 0 1, by decide +kernel⟩,
    ⟨{}, 3, by decide +kernel⟩,
    ⟨withDesc 3 ({ cmd 0x78 4 0 0 with blk := [82, 75, 83, 74, 1] ++ List.replicate 19 0 ++ [5, 0] ++ List.replicate 6 0 ++ [1] ++ List.replicate 479 0 }), 3, { cmd 0x78 4 0 0 with blk := [82, 75, 83, 74, 1] ++ List.replicate 19 0 ++ [5, 0] ++ List.replicate 6 0 ++ [1] ++ List.replicate 479 0 }, by decide +kernel⟩,
    ⟨{ withDesc 3 (cmd 0x79 70 0 0) with se := { fuses := { lc := .of 8 } }, ks := [(70, { st := .active, kind := 2, tenant := 5 })] }, 3, cmd 0x79 70 0 0, 70, by decide +kernel⟩,
    ⟨{ withDesc 3 (cmd 0x79 70 0 0) with se := { fuses := { lc := .of 8 } }, ks := [(70, { st := .retiring, kind := 2, tenant := 5 })] }, 3, cmd 0x79 70 0 0, 70, by decide +kernel⟩,
    ⟨{ withDesc 3 (cmd 0x79 70 0 0) with se := { fuses := { lc := .of 8 } }, ks := [(70, { st := .lost, kind := 2, tenant := 5 })] }, 3, cmd 0x79 70 0 0, 70, by decide +kernel⟩,
    ⟨{ withDesc 3 (cmd 0x79 70 0 0) with se := { fuses := { lc := .of 8 } }, ks := [(70, { st := .active, kind := 1, tenant := 5 })] }, 3, cmd 0x79 70 0 0, 70, by decide +kernel⟩⟩

theorem test_meets_key_commands_complete_4 :
    (∃ (s : State) (d : Nat) (x : Desc), Runs s d 0x79 x ∧ s.keysAllowed = true ∧ s.slotOf (x.e.opA % 2 ^ 32) = none) ∧
    (∃ (s : State) (d : Nat), (s.desc d).runs? 0x79 = false) ∧
    (∃ (s : State) (d : Nat) (x : Desc), Runs s d 0x79 x ∧ s.keysAllowed = false) ∧
    (∃ (s : State) (i : Nat), (s.slot i).st = .retiring ∧ s.holders i true = [] ∧ s.apHolds i = false ∧ s.sessionsOn i = []) ∧
    (∃ (s : State) (i : Nat) (n : Nat) (k : Nat), (s.slot i).st = .retiring ∧ s.holders i true = [] ∧ s.apHolds i = false ∧ s.sessionsOn i = [(n, k)] ∧ s.unwritten n (s.session n k).tenant = false ∧ (s.session n k).isOpen = true ∧ (s.link n).st = .active) ∧
    (∃ (s : State) (i : Nat), ((s.slot i).st ≠ .retiring ∨ s.holders i true ≠ [] ∨ s.apHolds i = true ∨ (s.sessionsOn i).any (fun p => s.unwritten p.1 (s.session p.1 p.2).tenant) = true)) ∧
    (∃ (s : State) (i : Nat), (s.slot i).st = .retiring ∧ (s.slot i).since + 1000000 * s.fld F_SE_KEY_CFG_CAP_MS ≤ s.now ∧ kvSorted s.q.descs = true) ∧
    (∃ (s : State) (i : Nat), ((s.slot i).st ≠ .retiring ∨ s.now < (s.slot i).since + 1000000 * s.fld F_SE_KEY_CFG_CAP_MS)) :=
  ⟨⟨{ withDesc 3 (cmd 0x79 70 0 0) with se := { fuses := { lc := .of 8 } } }, 3, cmd 0x79 70 0 0, by decide +kernel⟩,
    ⟨{}, 3, by decide +kernel⟩,
    ⟨withDesc 3 (cmd 0x79 70 0 0), 3, cmd 0x79 70 0 0, by decide +kernel⟩,
    ⟨{ ({} : State) with ks := [(70, { st := .retiring, kind := 2, tenant := 5 })] }, 70, by decide +kernel⟩,
    ⟨{ ({} : State) with ks := [(70, { st := .retiring, kind := 2, tenant := 5 })], lk := { links := [(2, { st := .active, sessions := [(1, { bound := true, isOpen := true, tenant := 5, handle := 70 })] })] } }, 70, 2, 1, by decide +kernel⟩,
    ⟨{}, 70, by decide +kernel⟩,
    ⟨{ withDesc 3 { cmd 0x20 0 0 4 with dst := [7], stage := .ready } with now := 100000000000, hp := { held := [{ tag := 1, tenant := 5 }] }, map := { owner := [(7, { st := .owned, tenant := 5 })] }, ks := [(70, { st := .retiring, kind := 1, tenant := 5 })] }, 70, by decide +kernel⟩,
    ⟨{}, 70, by decide +kernel⟩⟩

theorem test_meets_key_commands_complete_5 :
    (∃ (s : State) (d : Nat) (x : Desc) (n : Nat) (i : Nat) (k : Nat), Runs s d 0x7A x ∧ x.e.flag 8 = false ∧ s.keysAllowed = true ∧ x.e.sessionAt = (n, i) ∧ s.slotOf (x.e.opB % 2 ^ 32) = some k ∧ n < 48 ∧ 1 ≤ i ∧ i ≤ 62 ∧ 64 ≤ k ∧ (s.session n i).bound = false ∧ (s.slot k).tenant = x.e.tenant ∧ ((s.slot k).kind = 2 ∨ ((s.slot k).kind = 3 ∧ (s.slot k).link = n)) ∧ (∀ p ∈ (s.link n).sessions, p.2.bound = true → p.1 ≠ 63 → p.2.tenant ≠ x.e.tenant) ∧ (s.slot k).st = .active) ∧
    (∃ (s : State) (d : Nat) (x : Desc) (n : Nat) (i : Nat) (k : Nat), Runs s d 0x7A x ∧ x.e.flag 8 = false ∧ s.keysAllowed = true ∧ x.e.sessionAt = (n, i) ∧ s.slotOf (x.e.opB % 2 ^ 32) = some k ∧ n < 48 ∧ 1 ≤ i ∧ i ≤ 62 ∧ 64 ≤ k ∧ (s.session n i).bound = false ∧ (s.slot k).tenant = x.e.tenant ∧ ((s.slot k).kind = 2 ∨ ((s.slot k).kind = 3 ∧ (s.slot k).link = n)) ∧ (∀ p ∈ (s.link n).sessions, p.2.bound = true → p.1 ≠ 63 → p.2.tenant ≠ x.e.tenant) ∧ (s.slot k).st ≠ .active) ∧
    (∃ (s : State) (d : Nat) (x : Desc) (n : Nat) (i : Nat) (k : Nat), Runs s d 0x7A x ∧ x.e.flag 8 = false ∧ s.keysAllowed = true ∧ x.e.sessionAt = (n, i) ∧ s.slotOf (x.e.opB % 2 ^ 32) = some k ∧ (48 ≤ n ∨ i = 0 ∨ 62 < i ∨ (s.session n i).bound = true ∨ k < 64 ∨ (s.slot k).tenant ≠ x.e.tenant ∨ ((s.slot k).kind ≠ 2 ∧ (s.slot k).kind ≠ 3) ∨ ((s.slot k).kind = 3 ∧ (s.slot k).link ≠ n))) ∧
    (∃ (s : State) (d : Nat) (x : Desc) (n : Nat) (i : Nat) (k : Nat) (p : Nat × Session), Runs s d 0x7A x ∧ x.e.flag 8 = false ∧ s.keysAllowed = true ∧ x.e.sessionAt = (n, i) ∧ s.slotOf (x.e.opB % 2 ^ 32) = some k ∧ p ∈ (s.link n).sessions ∧ p.2.bound = true ∧ p.1 ≠ 63 ∧ p.2.tenant = x.e.tenant ∧ (s.slot k).tenant = x.e.tenant) ∧
    (∃ (s : State) (d : Nat) (x : Desc), Runs s d 0x7A x ∧ x.e.flag 8 = false ∧ s.keysAllowed = true ∧ s.slotOf (x.e.opB % 2 ^ 32) = none) ∧
    (∃ (s : State) (d : Nat), ((s.desc d).runs? 0x7A && !(s.desc d).e.flag 8) = false) ∧
    (∃ (s : State) (d : Nat) (x : Desc), Runs s d 0x7A x ∧ x.e.flag 8 = false ∧ s.keysAllowed = false) ∧
    (∃ (s : State) (d : Nat) (x : Desc) (n : Nat) (i : Nat), Runs s d 0x7A x ∧ x.e.flag 8 = true ∧ s.keysAllowed = true ∧ x.e.sessionAt = (n, i) ∧ n < 48 ∧ i ≠ 63 ∧ (s.session n i).bound = true ∧ (s.session n i).tenant = x.e.tenant ∧ (s.session n i).handle = x.e.opB % 2 ^ 32 ∧ (s.session n i).isOpen = false ∧ (s.session n i).closing = false) :=
  ⟨⟨{ withDesc 3 (cmd 0x7A 0x102 70 0) with se := { fuses := { lc := .of 8 } }, ks := [(70, { st := .active, kind := 2, tenant := 5 })], lk := { links := [(2, { st := .active })] } }, 3, cmd 0x7A 0x102 70 0, 2, 1, 70, by decide +kernel⟩,
    ⟨{ withDesc 3 (cmd 0x7A 0x102 70 0) with se := { fuses := { lc := .of 8 } }, ks := [(70, { st := .retiring, kind := 2, tenant := 5 })] }, 3, cmd 0x7A 0x102 70 0, 2, 1, 70, by decide +kernel⟩,
    ⟨{ withDesc 3 (cmd 0x7A 0x102 70 0) with se := { fuses := { lc := .of 8 } }, ks := [(70, { st := .active, kind := 4, tenant := 5 })] }, 3, cmd 0x7A 0x102 70 0, 2, 1, 70, by decide +kernel⟩,
    ⟨{ withDesc 3 (cmd 0x7A 0x102 70 0) with se := { fuses := { lc := .of 8 } }, ks := [(70, { st := .active, kind := 2, tenant := 5 })], lk := { links := [(2, { sessions := [(9, { bound := true, tenant := 5 })] })] } }, 3, cmd 0x7A 0x102 70 0, 2, 1, 70, (9, { bound := true, tenant := 5 }), by decide +kernel⟩,
    ⟨{ withDesc 3 (cmd 0x7A 0x102 70 0) with se := { fuses := { lc := .of 8 } } }, 3, cmd 0x7A 0x102 70 0, by decide +kernel⟩,
    ⟨{}, 3, by decide +kernel⟩,
    ⟨withDesc 3 (cmd 0x7A 0x102 70 0), 3, cmd 0x7A 0x102 70 0, by decide +kernel⟩,
    ⟨{ withDesc 3 (cmd 0x7A 0x102 70 0 0 1) with se := { fuses := { lc := .of 8 } }, lk := { links := [(2, { st := .active, sessions := [(1, { bound := true, tenant := 5, handle := 70 })] })] } }, 3, cmd 0x7A 0x102 70 0 0 1, 2, 1, by decide +kernel⟩⟩

theorem test_meets_key_commands_complete_6 :
    (∃ (s : State) (d : Nat) (x : Desc) (n : Nat) (i : Nat), Runs s d 0x7A x ∧ x.e.flag 8 = true ∧ s.keysAllowed = true ∧ x.e.sessionAt = (n, i) ∧ n < 48 ∧ i ≠ 63 ∧ (s.session n i).bound = true ∧ (s.session n i).tenant = x.e.tenant ∧ (s.session n i).handle = x.e.opB % 2 ^ 32 ∧ (s.session n i).isOpen = true ∧ (s.link n).st = .active) ∧
    (∃ (s : State) (d : Nat) (x : Desc) (n : Nat) (i : Nat), Runs s d 0x7A x ∧ x.e.flag 8 = true ∧ s.keysAllowed = true ∧ x.e.sessionAt = (n, i) ∧ (48 ≤ n ∨ i = 63 ∨ (s.session n i).bound = false ∨ (s.session n i).tenant ≠ x.e.tenant ∨ (s.session n i).handle ≠ x.e.opB % 2 ^ 32)) ∧
    (∃ (s : State) (d : Nat), ((s.desc d).runs? 0x7A && (s.desc d).e.flag 8) = false) ∧
    (∃ (s : State) (d : Nat) (x : Desc), Runs s d 0x7A x ∧ x.e.flag 8 = true ∧ s.keysAllowed = false) ∧
    (∃ (s : State) (d : Nat) (x : Desc), Runs s d 0x7B x ∧ x.e.opA % 16 = 1 ∧ s.lc = 2 ∧ s.se.debug = 0 ∧ s.se.vbat.wrap = .absent) ∧
    (∃ (s : State) (d : Nat) (x : Desc), Runs s d 0x7B x ∧ x.e.opA % 16 = 1 ∧ s.keysAllowed = true ∧ (s.lc ≠ 2 ∨ s.se.debug ≠ 0 ∨ s.se.vbat.wrap ≠ .absent)) ∧
    (∃ (s : State) (d : Nat), s.weighs d 1 = false) ∧
    (∃ (s : State) (d : Nat) (x : Desc), Runs s d 0x7B x ∧ x.e.opA % 16 = 1 ∧ s.keysAllowed = false) :=
  ⟨⟨{ withDesc 3 (cmd 0x7A 0x102 70 0 0 1) with se := { fuses := { lc := .of 8 } }, lk := { links := [(2, { st := .active, sessions := [(1, { bound := true, tenant := 5, handle := 70, isOpen := true })] })] } }, 3, cmd 0x7A 0x102 70 0 0 1, 2, 1, by decide +kernel⟩,
    ⟨{ withDesc 3 (cmd 0x7A 0x102 70 0 0 1) with se := { fuses := { lc := .of 8 } } }, 3, cmd 0x7A 0x102 70 0 0 1, 2, 1, by decide +kernel⟩,
    ⟨{}, 3, by decide +kernel⟩,
    ⟨withDesc 3 (cmd 0x7A 0x102 70 0 0 1), 3, cmd 0x7A 0x102 70 0 0 1, by decide +kernel⟩,
    ⟨{ withDesc 3 (cmd 0x7B 1 0 0) with se := { fuses := { lc := .of 8 } } }, 3, cmd 0x7B 1 0 0, by decide +kernel⟩,
    ⟨{ withDesc 3 (cmd 0x7B 1 0 0) with se := { fuses := { lc := .of 2 } } }, 3, cmd 0x7B 1 0 0, by decide +kernel⟩,
    ⟨{}, 3, by decide +kernel⟩,
    ⟨withDesc 3 (cmd 0x7B 1 0 0), 3, cmd 0x7B 1 0 0, by decide +kernel⟩⟩

theorem test_meets_key_commands_complete_7 :
    (∃ (s : State) (d : Nat) (x : Desc), Runs s d 0x7B x ∧ x.e.opA % 16 = 2 ∧ s.keysAllowed = true ∧ s.noHost x.q = false ∧ s.hostFault = none ∧ s.se.vbat.wrap ≠ .absent) ∧
    (∃ (s : State) (d : Nat) (x : Desc), Runs s d 0x7B x ∧ x.e.opA % 16 = 2 ∧ s.keysAllowed = true ∧ s.noHost x.q = false ∧ s.se.vbat.wrap = .absent) ∧
    (∃ (s : State) (d : Nat) (x : Desc) (k : Nat), Runs s d 0x7B x ∧ x.e.opA % 16 = 2 ∧ s.keysAllowed = true ∧ s.noHost x.q = false ∧ s.hostFault = some k ∧ s.se.vbat.wrap ≠ .absent) ∧
    (∃ (s : State) (d : Nat) (x : Desc), Runs s d 0x7B x ∧ x.e.opA % 16 = 2 ∧ s.noHost x.q = true) ∧
    (∃ (s : State) (d : Nat) (x : Desc), Runs s d 0x7B x ∧ x.e.opA % 16 = 2 ∧ s.noHost x.q = false ∧ s.keysAllowed = false) ∧
    (∃ (s : State) (d : Nat), s.weighs d 2 = false) ∧
    (∃ (s : State) (d : Nat) (x : Desc) (i : Nat) (ps : List Piece), Runs s d 0x7B x ∧ x.e.opA % 16 = 3 ∧ ps = (x.src.map (fun f => pieces [f] 0 65536)).flatten ∧ s.readWaits x.e.tenant ps = false ∧ s.outOfTurn x.e.tenant ps [] = false ∧ s.keysAllowed = true ∧ i = bits x.e.spec 0 32 % 2048 ∧ s.releaseOk x = true ∧ bits x.e.spec 48 32 + x.e.len ≤ (s.slot i).chunks ∧ ((s.payTurns x.e.tenant ps []).readChunks x (s.slot i) x.e.len 0).2.2.2 = .ok ∧ (s.link (s.queue x.outQ).origin).st = .active ∧ s.dataUnacked (s.queue x.outQ).origin x.outQ x.xtag = false) ∧
    (∃ (s : State) (d : Nat) (x : Desc) (i : Nat) (ps : List Piece), Runs s d 0x7B x ∧ x.e.opA % 16 = 3 ∧ ps = (x.src.map (fun f => pieces [f] 0 65536)).flatten ∧ s.readWaits x.e.tenant ps = false ∧ s.outOfTurn x.e.tenant ps [] = false ∧ s.keysAllowed = true ∧ i = bits x.e.spec 0 32 % 2048 ∧ s.releaseOk x = true ∧ bits x.e.spec 48 32 + x.e.len ≤ (s.slot i).chunks ∧ ((s.payTurns x.e.tenant ps []).readChunks x (s.slot i) x.e.len 0).2.2.2 ≠ .ok) :=
  ⟨⟨{ withDesc 3 (cmd 0x7B 2 4096 0) with se := { fuses := { lc := .of 8 }, vbat := { wrap := .given [] } }, regs := [(F_HP_STATUS_RATE.key 0, 5)], ir := { fns := [(0, { bme := true })] } }, 3, cmd 0x7B 2 4096 0, by decide +kernel⟩,
    ⟨{ withDesc 3 (cmd 0x7B 2 4096 0) with se := { fuses := { lc := .of 8 } }, regs := [(F_HP_STATUS_RATE.key 0, 5)], ir := { fns := [(0, { bme := true })] } }, 3, cmd 0x7B 2 4096 0, by decide +kernel⟩,
    ⟨{ withDesc 3 (cmd 0x7B 2 4096 0) with se := { fuses := { lc := .of 8 }, vbat := { wrap := .given [] } }, regs := [(F_HP_STATUS_RATE.key 0, 5)], ir := { fns := [(0, { bme := true })] }, hp := { ide := [(0, 2)] } }, 3, cmd 0x7B 2 4096 0, 0x93, by decide +kernel⟩,
    ⟨{ withDesc 3 (cmd 0x7B 2 4096 0) with se := { fuses := { lc := .of 8 }, vbat := { wrap := .given [] } } }, 3, cmd 0x7B 2 4096 0, by decide +kernel⟩,
    ⟨{ withDesc 3 (cmd 0x7B 2 4096 0) with se := {}, regs := [(F_HP_STATUS_RATE.key 0, 5)], ir := { fns := [(0, { bme := true })] } }, 3, cmd 0x7B 2 4096 0, by decide +kernel⟩,
    ⟨{}, 3, by decide +kernel⟩,
    ⟨{ ({} : State) with se := { fuses := { lc := .of 8 } }, ks := [(70, { st := .active, kind := 4, tenant := 5, chunks := 4 }), (71, { st := .active, kind := 3, tenant := 5 })], q := { tab := [(20, { tenant := 5, origin := 2, st := .active })], descs := [(3, { e := { opcode := 0x7B, tenant := 5, opA := 3, spec := 70 + 20 * 2 ^ 32, len := 0 } })] }, lk := { links := [(2, { st := .active, sessions := [(1, { bound := true, isOpen := true, tenant := 5, handle := 71 })] })] } }, 3, { e := { opcode := 0x7B, tenant := 5, opA := 3, spec := 70 + 20 * 2 ^ 32, len := 0 } }, 70, [], by decide +kernel⟩,
    ⟨{ ({} : State) with se := { fuses := { lc := .of 8 } }, ks := [(70, { st := .active, kind := 4, tenant := 5, chunks := 4 }), (71, { st := .active, kind := 3, tenant := 5 })], q := { tab := [(20, { tenant := 5, origin := 2, st := .active })], descs := [(3, { e := { opcode := 0x7B, tenant := 5, opA := 3, spec := 70 + 20 * 2 ^ 32, len := 1 }, src := [7], smeta := [0] })] }, lk := { links := [(2, { st := .active, sessions := [(1, { bound := true, isOpen := true, tenant := 5, handle := 71 })] })] }, poison := [7 * 256] }, 3, { e := { opcode := 0x7B, tenant := 5, opA := 3, spec := 70 + 20 * 2 ^ 32, len := 1 }, src := [7], smeta := [0] }, 70, pieces [7] 0 65536, by decide +kernel⟩⟩

theorem test_meets_key_commands_complete_8 :
    (∃ (s : State) (d : Nat) (x : Desc) (i : Nat) (ps : List Piece), Runs s d 0x7B x ∧ x.e.opA % 16 = 3 ∧ ps = (x.src.map (fun f => pieces [f] 0 65536)).flatten ∧ s.readWaits x.e.tenant ps = false ∧ s.outOfTurn x.e.tenant ps [] = false ∧ s.keysAllowed = true ∧ i = bits x.e.spec 0 32 % 2048 ∧ s.releaseOk x = true ∧ (s.slot i).chunks < bits x.e.spec 48 32 + x.e.len) ∧
    (∃ (s : State) (d : Nat) (x : Desc) (ps : List Piece), Runs s d 0x7B x ∧ x.e.opA % 16 = 3 ∧ ps = (x.src.map (fun f => pieces [f] 0 65536)).flatten ∧ s.readWaits x.e.tenant ps = false ∧ s.outOfTurn x.e.tenant ps [] = false ∧ s.keysAllowed = true ∧ s.releaseOk x = false) ∧
    (∃ (s : State) (d : Nat) (x : Desc) (ps : List Piece), Runs s d 0x7B x ∧ x.e.opA % 16 = 3 ∧ ps = (x.src.map (fun f => pieces [f] 0 65536)).flatten ∧ s.readWaits x.e.tenant ps = false ∧ s.outOfTurn x.e.tenant ps [] = false ∧ s.keysAllowed = false) ∧
    (∃ (s : State) (d : Nat), (s.weighs d 3 = false ∨ s.readWaits (s.desc d).e.tenant (((s.desc d).src.map (fun f => pieces [f] 0 65536)).flatten) = true ∨ s.outOfTurn (s.desc d).e.tenant (((s.desc d).src.map (fun f => pieces [f] 0 65536)).flatten) [] = true)) :=
  ⟨⟨{ ({} : State) with se := { fuses := { lc := .of 8 } }, ks := [(70, { st := .active, kind := 4, tenant := 5, chunks := 0 }), (71, { st := .active, kind := 3, tenant := 5 })], q := { tab := [(20, { tenant := 5, origin := 2, st := .active })], descs := [(3, { e := { opcode := 0x7B, tenant := 5, opA := 3, spec := 70 + 20 * 2 ^ 32, len := 1 }, src := [7], smeta := [0] })] }, lk := { links := [(2, { st := .active, sessions := [(1, { bound := true, isOpen := true, tenant := 5, handle := 71 })] })] } }, 3, { e := { opcode := 0x7B, tenant := 5, opA := 3, spec := 70 + 20 * 2 ^ 32, len := 1 }, src := [7], smeta := [0] }, 70, pieces [7] 0 65536, by decide +kernel⟩,
    ⟨{ ({} : State) with se := { fuses := { lc := .of 8 } }, ks := [(70, { st := .active, kind := 4, tenant := 5, chunks := 4 }), (71, { st := .active, kind := 3, tenant := 5 })], q := { tab := [(20, { tenant := 5, origin := 2, st := .active })], descs := [(3, { e := { opcode := 0x7B, tenant := 5, opA := 3, spec := 70 + 20 * 2 ^ 32, len := 0 } })] }, lk := { links := [(2, { st := .active, sessions := [(1, { bound := true, isOpen := true, tenant := 5, handle := 72 })] })] } }, 3, { e := { opcode := 0x7B, tenant := 5, opA := 3, spec := 70 + 20 * 2 ^ 32, len := 0 } }, [], by decide +kernel⟩,
    ⟨withDesc 3 (cmd 0x7B 3 0 0), 3, cmd 0x7B 3 0 0, [], by decide +kernel⟩,
    ⟨{}, 3, by decide +kernel⟩⟩

theorem test_meets_tenant_commands_complete_1 :
    (∃ (s : State) (d : Nat) (x : Desc), Runs s d 0x70 x ∧ s.tenantState x.e.tenant = 0 ∧ blkReserved x.blk = true ∧ blkWord x.blk 0 ≤ 16777216 ∧ s.qosOk x.blk = true ∧ (bits (blkWord x.blk 4) 8 1 = 1 → s.fld F_SI_CFG_TAGS_PRESENT = 1) ∧ blkWord x.blk 0 ≤ s.fld F_TN_MAP_POOL_FREE_FREE ∧ s.resFit x.e.tenant x.blk = true) ∧
    (∃ (s : State) (d : Nat) (x : Desc), Runs s d 0x70 x ∧ (s.tenantState x.e.tenant ≠ 0 ∨ blkReserved x.blk = false ∨ 16777216 < blkWord x.blk 0 ∨ s.qosOk x.blk = false)) ∧
    (∃ (s : State) (d : Nat) (x : Desc), Runs s d 0x70 x ∧ s.tenantState x.e.tenant = 0 ∧ blkReserved x.blk = true ∧ blkWord x.blk 0 ≤ 16777216 ∧ s.qosOk x.blk = true ∧ bits (blkWord x.blk 4) 8 1 = 1 ∧ s.fld F_SI_CFG_TAGS_PRESENT ≠ 1) ∧
    (∃ (s : State) (d : Nat) (x : Desc), Runs s d 0x70 x ∧ s.tenantState x.e.tenant = 0 ∧ blkReserved x.blk = true ∧ blkWord x.blk 0 ≤ 16777216 ∧ s.qosOk x.blk = true ∧ (bits (blkWord x.blk 4) 8 1 = 1 → s.fld F_SI_CFG_TAGS_PRESENT = 1) ∧ (s.fld F_TN_MAP_POOL_FREE_FREE < blkWord x.blk 0 ∨ s.resFit x.e.tenant x.blk = false)) ∧
    (∃ (s : State) (d : Nat), (s.desc d).runs? 0x70 = false) ∧
    (∃ (s : State) (d : Nat) (x : Desc), Runs s d 0x71 x ∧ x.e.flag 9 = false ∧ s.setCheck x = .ok) ∧
    (∃ (s : State) (d : Nat) (x : Desc), Runs s d 0x71 x ∧ x.e.flag 9 = false ∧ s.setCheck x ≠ .ok) ∧
    (∃ (s : State) (d : Nat), ((s.desc d).runs? 0x71 && !(s.desc d).e.flag 9) = false) :=
  ⟨⟨{ withDesc 3 { cmd 0x70 0 0 64 0 0 with blk := [8, 0, 0, 0, 0, 0, 0, 0, 1, 1, 1, 0, 1, 1, 1, 0] ++ List.replicate 48 0 } with regs := [(F_TN_MAP_POOL_FREE_FREE.key 0, 8)] }, 3, { cmd 0x70 0 0 64 0 0 with blk := [8, 0, 0, 0, 0, 0, 0, 0, 1, 1, 1, 0, 1, 1, 1, 0] ++ List.replicate 48 0 }, by decide +kernel⟩,
    ⟨{ withDesc 3 { cmd 0x70 0 0 64 0 0 with blk := [8, 0, 0, 0, 0, 0, 0, 0, 0, 1, 1, 0, 1, 1, 1, 0] ++ List.replicate 48 0 } with regs := [(F_TN_MAP_POOL_FREE_FREE.key 0, 8)] }, 3, { cmd 0x70 0 0 64 0 0 with blk := [8, 0, 0, 0, 0, 0, 0, 0, 0, 1, 1, 0, 1, 1, 1, 0] ++ List.replicate 48 0 }, by decide +kernel⟩,
    ⟨{ withDesc 3 { cmd 0x70 0 0 64 0 0 with blk := [8, 0, 0, 0, 0, 1, 0, 0, 1, 1, 1, 0, 1, 1, 1, 0] ++ List.replicate 48 0 } with regs := [(F_TN_MAP_POOL_FREE_FREE.key 0, 8), (F_SI_CFG_TAGS_PRESENT.key 0, 0)] }, 3, { cmd 0x70 0 0 64 0 0 with blk := [8, 0, 0, 0, 0, 1, 0, 0, 1, 1, 1, 0, 1, 1, 1, 0] ++ List.replicate 48 0 }, by decide +kernel⟩,
    ⟨{ withDesc 3 { cmd 0x70 0 0 64 0 0 with blk := [9, 0, 0, 0, 0, 0, 0, 0, 1, 1, 1, 0, 1, 1, 1, 0] ++ List.replicate 48 0 } with regs := [(F_TN_MAP_POOL_FREE_FREE.key 0, 8)] }, 3, { cmd 0x70 0 0 64 0 0 with blk := [9, 0, 0, 0, 0, 0, 0, 0, 1, 1, 1, 0, 1, 1, 1, 0] ++ List.replicate 48 0 }, by decide +kernel⟩,
    ⟨{}, 3, by decide +kernel⟩,
    ⟨withDesc 3 { cmd 0x71 0 0 64 0 1 with blk := [0, 0, 0, 0, 0, 0, 0, 0, 1, 1, 1, 0, 1, 1, 1, 0] ++ List.replicate 48 0 }, 3, { cmd 0x71 0 0 64 0 1 with blk := [0, 0, 0, 0, 0, 0, 0, 0, 1, 1, 1, 0, 1, 1, 1, 0] ++ List.replicate 48 0 }, by decide +kernel⟩,
    ⟨withDesc 3 { cmd 0x71 0 0 64 0 1 with blk := [7, 0, 0, 0, 0, 0, 0, 0, 1, 1, 1, 0, 1, 1, 1, 0] ++ List.replicate 48 0 }, 3, { cmd 0x71 0 0 64 0 1 with blk := [7, 0, 0, 0, 0, 0, 0, 0, 1, 1, 1, 0, 1, 1, 1, 0] ++ List.replicate 48 0 }, by decide +kernel⟩,
    ⟨{}, 3, by decide +kernel⟩⟩

theorem test_meets_tenant_commands_complete_2 :
    (∃ (s : State) (d : Nat) (x : Desc), Runs s d 0x71 x ∧ x.e.flag 9 = true ∧ s.setCheck x = .ok ∧ s.revokeBusy x.e.tenant = false ∧ s.inWindow x.e.tenant = false) ∧
    (∃ (s : State) (d : Nat) (x : Desc), Runs s d 0x71 x ∧ x.e.flag 9 = true ∧ s.setCheck x = .ok ∧ s.revokeBusy x.e.tenant = true) ∧
    (∃ (s : State) (d : Nat) (x : Desc), Runs s d 0x71 x ∧ x.e.flag 9 = true ∧ s.setCheck x = .ok ∧ s.revokeBusy x.e.tenant = false ∧ s.inWindow x.e.tenant = true) ∧
    (∃ (s : State) (d : Nat) (x : Desc), Runs s d 0x71 x ∧ x.e.flag 9 = true ∧ s.setCheck x ≠ .ok) ∧
    (∃ (s : State) (d : Nat), ((s.desc d).runs? 0x71 && (s.desc d).e.flag 9) = false) ∧
    (∃ (s : State) (n : Nat) (r : Removal), s.tn.removals.find? (fun r => r.tenant == n) = some r ∧ r.started = false) ∧
    (∃ (s : State) (n : Nat) (r : Removal), s.tn.removals.find? (fun r => r.tenant == n) = some r ∧ r.started = true ∧ s.slotsOf n = [] ∧ s.inWindow n = false) ∧
    (∃ (s : State) (n : Nat) (r : Removal), s.tn.removals.find? (fun r => r.tenant == n) = some r ∧ r.started = true ∧ (s.slotsOf n ≠ [] ∨ s.inWindow n = true)) :=
  ⟨⟨withDesc 3 { cmd 0x71 0 0 64 0 2 with blk := [0, 0, 0, 0, 9, 0, 0, 0, 1, 1, 1, 0, 1, 1, 1, 0] ++ List.replicate 48 0 }, 3, { cmd 0x71 0 0 64 0 2 with blk := [0, 0, 0, 0, 9, 0, 0, 0, 1, 1, 1, 0, 1, 1, 1, 0] ++ List.replicate 48 0 }, by decide +kernel⟩,
    ⟨{ withDesc 3 { cmd 0x71 0 0 64 0 2 with blk := [0, 0, 0, 0, 9, 0, 0, 0, 1, 1, 1, 0, 1, 1, 1, 0] ++ List.replicate 48 0 } with regs := [(F_TN_MAP_EPOCH_DRAINING.key 5, 1)] }, 3, { cmd 0x71 0 0 64 0 2 with blk := [0, 0, 0, 0, 9, 0, 0, 0, 1, 1, 1, 0, 1, 1, 1, 0] ++ List.replicate 48 0 }, by decide +kernel⟩,
    ⟨{ withDesc 3 { cmd 0x71 0 0 64 0 2 with blk := [0, 0, 0, 0, 9, 0, 0, 0, 1, 1, 1, 0, 1, 1, 1, 0] ++ List.replicate 48 0 } with regs := [(F_TN_MAP_EPOCH_WINDOW.key 5, 1)] }, 3, { cmd 0x71 0 0 64 0 2 with blk := [0, 0, 0, 0, 9, 0, 0, 0, 1, 1, 1, 0, 1, 1, 1, 0] ++ List.replicate 48 0 }, by decide +kernel⟩,
    ⟨withDesc 3 { cmd 0x71 0 0 64 0 2 with blk := [7, 0, 0, 0, 9, 0, 0, 0, 1, 1, 1, 0, 1, 1, 1, 0] ++ List.replicate 48 0 }, 3, { cmd 0x71 0 0 64 0 2 with blk := [7, 0, 0, 0, 9, 0, 0, 0, 1, 1, 1, 0, 1, 1, 1, 0] ++ List.replicate 48 0 }, by decide +kernel⟩,
    ⟨{}, 3, by decide +kernel⟩,
    ⟨{ ({} : State) with tn := { removals := [{ tenant := 5 }] }, ks := [(70, { st := .active, kind := 2, tenant := 5 })] }, 5, { tenant := 5 }, by decide +kernel⟩,
    ⟨{ ({} : State) with tn := { removals := [{ tenant := 5, started := true }] }, regs := [(F_TN_T_STATUS_STATE.key 5, 2)] }, 5, { tenant := 5, started := true }, by decide +kernel⟩,
    ⟨{ ({} : State) with tn := { removals := [{ tenant := 5, started := true }] }, ks := [(70, { st := .retiring, kind := 2, tenant := 5 })] }, 5, { tenant := 5, started := true }, by decide +kernel⟩⟩

theorem test_meets_tenant_commands_complete_3 :
    (∃ (s : State) (n : Nat), s.tn.removals.find? (fun r => r.tenant == n) = none) ∧
    (∃ (s : State) (d : Nat) (x : Desc) (q : Nat) (n : Nat), Runs s d 0x73 x ∧ bits x.e.opA 0 16 = q ∧ bits x.e.opA 16 8 = n ∧ 16 ≤ q ∧ (s.queue q).isBound = false ∧ (s.queue q).st = .disabled ∧ s.originOk x.e.tenant n = true ∧ 0x80 ≤ n ∧ bits x.e.opB 0 11 < vectorCount (n - 0x80)) ∧
    (∃ (s : State) (d : Nat) (x : Desc) (q : Nat) (n : Nat), Runs s d 0x73 x ∧ bits x.e.opA 0 16 = q ∧ bits x.e.opA 16 8 = n ∧ 16 ≤ q ∧ (s.queue q).isBound = false ∧ (s.queue q).st = .disabled ∧ s.originOk x.e.tenant n = true ∧ n < 0x30 ∧ 1 ≤ bits x.e.spec 0 3 ∧ bits x.e.spec 0 3 ≤ 6) ∧
    (∃ (s : State) (d : Nat) (x : Desc) (q : Nat) (n : Nat), Runs s d 0x73 x ∧ bits x.e.opA 0 16 = q ∧ bits x.e.opA 16 8 = n ∧ (q < 16 ∨ (s.queue q).isBound = true ∨ (s.queue q).st ≠ .disabled ∨ s.originOk x.e.tenant n = false ∨ (n < 0x30 ∧ (bits x.e.spec 0 3 = 0 ∨ bits x.e.spec 0 3 = 7)) ∨ (0x30 ≤ n ∧ vectorCount (n - 0x80) ≤ bits x.e.opB 0 11))) ∧
    (∃ (s : State) (d : Nat), (s.desc d).runs? 0x73 = false) ∧
    (∃ (s : State) (d : Nat) (x : Desc) (q : Nat), Runs s d 0x74 x ∧ bits x.e.opA 0 16 = q ∧ 16 ≤ q ∧ (s.queue q).isBound = true ∧ (s.queue q).tenant = x.e.tenant ∧ (s.queue q).unbindBy = none ∧ (s.queue q).st = .disabled) ∧
    (∃ (s : State) (d : Nat) (x : Desc) (q : Nat), Runs s d 0x74 x ∧ bits x.e.opA 0 16 = q ∧ 16 ≤ q ∧ (s.queue q).isBound = true ∧ (s.queue q).tenant = x.e.tenant ∧ (s.queue q).unbindBy = none ∧ (s.queue q).st ≠ .disabled ∧ x.q ≠ q) ∧
    (∃ (s : State) (d : Nat) (x : Desc) (q : Nat), Runs s d 0x74 x ∧ bits x.e.opA 0 16 = q ∧ 16 ≤ q ∧ (s.queue q).isBound = true ∧ (s.queue q).tenant = x.e.tenant ∧ (s.queue q).unbindBy = none ∧ (s.queue q).st ≠ .disabled ∧ x.q ≠ q) :=
  ⟨⟨{}, 5, by decide +kernel⟩,
    ⟨withDesc 3 (cmd 0x73 8388628 2047 0 0), 3, cmd 0x73 8388628 2047 0 0, 20, 128, by decide +kernel⟩,
    ⟨withDesc 3 (cmd 0x73 3080212 0 0 6), 3, cmd 0x73 3080212 0 0 6, 20, 47, by decide +kernel⟩,
    ⟨withDesc 3 (cmd 0x73 3080212 0 0 7), 3, cmd 0x73 3080212 0 0 7, 20, 47, by decide +kernel⟩,
    ⟨{}, 3, by decide +kernel⟩,
    ⟨{ ({} : State) with q := { tab := [(20, { tenant := 5, origin := 0x80, st := .disabled })], descs := [(3, cmd 0x74 20 0 0)] } }, 3, cmd 0x74 20 0 0, 20, by decide +kernel⟩,
    ⟨{ ({} : State) with q := { tab := [(20, { tenant := 5, origin := 0x80, st := .active })], descs := [(3, cmd 0x74 20 0 0)] } }, 3, cmd 0x74 20 0 0, 20, by decide +kernel⟩,
    ⟨{ ({} : State) with q := { tab := [(20, { tenant := 5, origin := 0x80, st := .resetting })], descs := [(3, cmd 0x74 20 0 0)] } }, 3, cmd 0x74 20 0 0, 20, by decide +kernel⟩⟩

theorem test_meets_tenant_commands_complete_4 :
    (∃ (s : State) (d : Nat) (x : Desc) (q : Nat), Runs s d 0x74 x ∧ bits x.e.opA 0 16 = q ∧ 16 ≤ q ∧ (s.queue q).isBound = true ∧ (s.queue q).tenant = x.e.tenant ∧ (s.queue q).unbindBy = none ∧ (s.queue q).st ≠ .disabled ∧ x.q = q) ∧
    (∃ (s : State) (d : Nat) (x : Desc) (q : Nat), Runs s d 0x74 x ∧ bits x.e.opA 0 16 = q ∧ (q < 16 ∨ (s.queue q).isBound = false ∨ (s.queue q).tenant ≠ x.e.tenant ∨ (s.queue q).unbindBy ≠ none)) ∧
    (∃ (s : State) (d : Nat), (s.desc d).runs? 0x74 = false) ∧
    (∃ (s : State) (d : Nat) (x : Desc) (n : Nat), Runs s d 0x75 x ∧ x.e.flag 8 = false ∧ bits x.e.opA 0 6 = n ∧ n ≠ 0 ∧ n ≤ s.ir.numVfs ∧ (s.hostFn n).tenant = none) ∧
    (∃ (s : State) (d : Nat) (x : Desc) (n : Nat), Runs s d 0x75 x ∧ x.e.flag 8 = false ∧ bits x.e.opA 0 6 = n ∧ (n = 0 ∨ s.ir.numVfs < n ∨ (s.hostFn n).tenant ≠ none)) ∧
    (∃ (s : State) (d : Nat), ((s.desc d).runs? 0x75 && !(s.desc d).e.flag 8) = false) ∧
    (∃ (s : State) (d : Nat) (x : Desc) (n : Nat), Runs s d 0x75 x ∧ x.e.flag 8 = true ∧ bits x.e.opA 0 6 = n ∧ (s.hostFn n).tenant = some x.e.tenant ∧ s.queuesWhere (fun y => y.origin == 0x80 + n) = []) ∧
    (∃ (s : State) (d : Nat) (x : Desc) (n : Nat), Runs s d 0x75 x ∧ x.e.flag 8 = true ∧ bits x.e.opA 0 6 = n ∧ ((s.hostFn n).tenant ≠ some x.e.tenant ∨ s.queuesWhere (fun y => y.origin == 0x80 + n) ≠ [])) :=
  ⟨⟨{ ({} : State) with q := { tab := [(20, { tenant := 5, origin := 0x80, st := .frozen })], descs := [(3, { cmd 0x74 20 0 0 with q := 20 })] } }, 3, { cmd 0x74 20 0 0 with q := 20 }, 20, by decide +kernel⟩,
    ⟨{ ({} : State) with q := { tab := [(20, { tenant := 5, origin := 0x80, st := .active, unbindBy := some 4 })], descs := [(3, cmd 0x74 20 0 0)] } }, 3, cmd 0x74 20 0 0, 20, by decide +kernel⟩,
    ⟨{}, 3, by decide +kernel⟩,
    ⟨{ withDesc 3 (cmd 0x75 7 0 0) with ir := { numVfs := 7 } }, 3, cmd 0x75 7 0 0, 7, by decide +kernel⟩,
    ⟨{ withDesc 3 (cmd 0x75 7 0 0) with ir := { numVfs := 6 } }, 3, cmd 0x75 7 0 0, 7, by decide +kernel⟩,
    ⟨{}, 3, by decide +kernel⟩,
    ⟨{ withDesc 3 (cmd 0x75 7 0 0 0 1) with ir := { numVfs := 7, fns := [(7, { tenant := some 5 })] } }, 3, cmd 0x75 7 0 0 0 1, 7, by decide +kernel⟩,
    ⟨{ withDesc 3 (cmd 0x75 7 0 0 0 1) with ir := { numVfs := 7 } }, 3, cmd 0x75 7 0 0 0 1, 7, by decide +kernel⟩⟩

theorem test_meets_tenant_commands_complete_5 :
    (∃ (s : State) (d : Nat), ((s.desc d).runs? 0x75 && (s.desc d).e.flag 8) = false) ∧
    (∃ (s : State) (d : Nat) (x : Desc), Runs s d 0x76 x ∧ (s.queue x.q).tenant ≠ x.e.tenant ∧ kvSorted s.q.descs = true ∧ kvSorted s.q.tab = true) ∧
    (∃ (s : State) (d : Nat), (s.desc d).runs? 0x76 = false) ∧
    (∃ (s : State) (n : Nat) (u : Nat) (c : Nat), n ∈ s.sharers ∧ u ∈ s.tierUnits true ∧ s.fld F_TN_T_RESERVE_WARM n ≠ 0 ∧ c = s.fld F_TN_T_RESERVE_WARM n * 16000 / max 1 (s.tierUnits true).length) ∧
    (∃ (s : State) (n : Nat) (u : Nat) (c : Nat), n ∈ s.sharers ∧ u ∈ s.tierUnits false ∧ s.fld F_TN_T_RESERVE_HOT n ≠ 0 ∧ c = s.fld F_TN_T_RESERVE_HOT n * 16000 / max 1 (s.tierUnits false).length) ∧
    (∃ (s : State) (n : Nat) (v : Nat), s.fld F_IR_F_VPEND_PENDING (vecKey n v) ≠ 0 ∧ s.waitedTime n v = true ∧ s.canSend n v = true) ∧
    (∃ (s : State) (n : Nat) (v : Nat), s.fld F_IR_F_VPEND_PENDING (vecKey n v) ≠ 0 ∧ s.waitedTime n v = true ∧ s.canSend n v = false) ∧
    (∃ (s : State) (n : Nat) (v : Nat), (s.fld F_IR_F_VPEND_PENDING (vecKey n v) = 0 ∨ s.waitedTime n v = false)) :=
  ⟨⟨{}, 3, by decide +kernel⟩,
    ⟨{ ({} : State) with q := { tab := [(20, { tenant := 5, origin := 0x80, st := .active })], descs := [(3, cmd 0x76 0 0 0)] } }, 3, cmd 0x76 0 0 0, by decide +kernel⟩,
    ⟨{}, 3, by decide +kernel⟩,
    ⟨{ ({} : State) with regs := [(F_TN_T_STATUS_STATE.key 1023, 1), (F_MC_STATUS_SET.key 0, 65535), (F_TN_T_RESERVE_WARM.key 1023, 2)] }, 1023, 15, 2000, by decide +kernel⟩,
    ⟨{ ({} : State) with regs := [(F_TN_T_STATUS_STATE.key 1023, 1), (F_HB_STATUS_SET.key 0, 1), (F_TN_T_RESERVE_HOT.key 1023, 2)] }, 1023, 47, 1000, by decide +kernel⟩,
    ⟨{ ({} : State) with now := 1000000000, regs := [(F_IR_F_VPEND_PENDING.key (vecKey 7 31), 2)], ir := { oldest := [(vecKey 7 31, 5)], fns := [(7, { bme := true })], table := [(vecKey 7 31, { masked := false })], pba := [vecKey 7 31] } }, 7, 31, by decide +kernel⟩,
    ⟨{ ({} : State) with now := 1000000000, regs := [(F_IR_F_VPEND_PENDING.key (vecKey 7 31), 2)], ir := { oldest := [(vecKey 7 31, 5)], fns := [(7, { bme := true })], table := [(vecKey 7 31, { masked := true })], pba := [vecKey 7 31] } }, 7, 31, by decide +kernel⟩,
    ⟨{}, 7, 31, by decide +kernel⟩⟩

theorem test_meets_tenant_commands_complete_6 :
    (∃ (s : State) (n : Nat) (v : Nat), inSet s.ir.pba (vecKey n v) = true ∧ s.canSend n v = true) ∧
    (∃ (s : State) (n : Nat) (v : Nat), (inSet s.ir.pba (vecKey n v) = false ∨ s.canSend n v = false)) :=
  ⟨⟨{ ({} : State) with regs := [(F_IR_F_VPEND_PENDING.key (vecKey 7 31), 2)], ir := { fns := [(7, { bme := true })], table := [(vecKey 7 31, { masked := false })], pba := [vecKey 7 31] } }, 7, 31, by decide +kernel⟩,
    ⟨{ ({} : State) with regs := [(F_IR_F_VPEND_PENDING.key (vecKey 7 31), 2)], ir := { fns := [(7, { bme := true })], table := [(vecKey 7 31, { masked := true })], pba := [vecKey 7 31] } }, 7, 31, by decide +kernel⟩⟩

theorem test_meets_host_port_commands_complete_1 :
    (∃ (s : State) (r : Nat) (n : Nat), s.hostLinkUp = false ∧ s.ck.perst = false ∧ s.ck.power = 0 ∧ s.fld F_TOP_BOOT_STATUS_STAGE ≠ 0 ∧ 1 ≤ r ∧ r ≤ 6 ∧ (n = 1 ∨ n = 2 ∨ n = 4 ∨ n = 8 ∨ n = 16)) ∧
    (∃ (s : State) (r : Nat) (n : Nat), (s.hostLinkUp = true ∨ s.ck.perst = true ∨ s.ck.power ≠ 0 ∨ s.fld F_TOP_BOOT_STATUS_STAGE = 0 ∨ r = 0 ∨ 6 < r ∨ (n ≠ 1 ∧ n ≠ 2 ∧ n ≠ 4 ∧ n ≠ 8 ∧ n ≠ 16))) ∧
    (∃ (s : State) (q : Nat), s.hostLinkUp = true ∧ kvSorted s.q.descs = true ∧ kvSorted s.q.tab = true ∧ (s.queue q).isBound = true ∧ (s.queue q).isLink = false) ∧
    (∃ (s : State), s.hostLinkUp = false) ∧
    (∃ (s : State) (q : Nat), kvSorted s.q.descs = true ∧ kvSorted s.q.tab = true ∧ (s.queue q).isBound = true ∧ (s.queue q).isLink = false) ∧
    (∃ (s : State) (q : Nat), kvSorted s.q.descs = true ∧ kvSorted s.q.tab = true ∧ (s.queue q).isBound = true ∧ (s.queue q).isLink = false) ∧
    (∃ (s : State) (n : Nat) (q : Nat), kvSorted s.q.descs = true ∧ kvSorted s.q.tab = true ∧ 1 ≤ n ∧ n ≤ 63 ∧ (s.queue q).origin = 0x80 + n) ∧
    (∃ (n : Nat), (n = 0 ∨ 63 < n)) :=
  ⟨⟨{ ({} : State) with regs := [(F_TOP_BOOT_STATUS_STAGE.key 0, 3)] }, 6, 16, by decide +kernel⟩,
    ⟨{}, 6, 16, by decide +kernel⟩,
    ⟨{ ({} : State) with q := { tab := [(20, { tenant := 5, origin := 0x87, st := .active })] }, regs := [(F_HP_STATUS_RATE.key 0, 5)], ir := { numVfs := 7, fns := [(7, { bme := true, tenant := some 5 })] }, hp := { ide := [(0, 1)] } }, 20, by decide +kernel⟩,
    ⟨{}, by decide +kernel⟩,
    ⟨{ ({} : State) with q := { tab := [(20, { tenant := 5, origin := 0x87, st := .active })] }, regs := [(F_HP_STATUS_RATE.key 0, 5)], ir := { numVfs := 7, fns := [(7, { bme := true, tenant := some 5 })] }, hp := { ide := [(0, 1)] } }, 20, by decide +kernel⟩,
    ⟨{ ({} : State) with q := { tab := [(20, { tenant := 5, origin := 0x87, st := .active })] }, regs := [(F_HP_STATUS_RATE.key 0, 5)], ir := { numVfs := 7, fns := [(7, { bme := true, tenant := some 5 })] }, hp := { ide := [(0, 1)] } }, 20, by decide +kernel⟩,
    ⟨{ ({} : State) with q := { tab := [(20, { tenant := 5, origin := 0x87, st := .active })] }, regs := [(F_HP_STATUS_RATE.key 0, 5)], ir := { numVfs := 7, fns := [(7, { bme := true, tenant := some 5 })] }, hp := { ide := [(0, 1)] } }, 7, 20, by decide +kernel⟩,
    ⟨64, by decide +kernel⟩⟩

theorem test_meets_host_port_commands_complete_2 :
    (∃ (n : Nat) (v : ConfigWrite), n < 64 ∧ (n ≠ 0 ∨ (v.vfs = none ∧ v.hdm = none))) ∧
    (∃ (k : Nat) (v : ConfigWrite), v.vfs = some k ∧ k ≠ 0) ∧
    (∃ (s : State) (v : ConfigWrite), v.vfs = some 0 ∧ s.ir.numVfs ≠ 0) ∧
    (∃ (s : State) (n : Nat) (d : Nat) (x : Desc), n < 64 ∧ Waits s d .linkOut x ∧ x.outQ = x.q ∧ (s.queue x.q).origin = 0x80 + n ∧ s.hostFault = none) ∧
    (∃ (s : State) (v : ConfigWrite) (h : Hdm), v.hdm = some h ∧ v.vfs = none ∧ s.fld F_HP_STATUS_CXL ≠ 0 ∧ s.fld F_HP_CXL_CFG_ENABLE ≠ 1 ∧ hdmOk h = true) ∧
    (∃ (s : State) (v : ConfigWrite) (h : Hdm), v.hdm = some h ∧ v.vfs = none ∧ s.fld F_HP_STATUS_CXL ≠ 0 ∧ s.fld F_HP_CXL_CFG_ENABLE ≠ 1 ∧ hdmOk h = false) ∧
    (∃ (n : Nat), 64 ≤ n) ∧
    (∃ (s : State) (d : Nat) (c : Nat) (x : Desc), s.desc? d = some x ∧ d < 16384 ∧ s.readsHost d = true ∧ c < 2) :=
  ⟨⟨63, { vfs := some 4, mps := some 256, mrrs := some 8192 }, by decide +kernel⟩,
    ⟨64, { vfs := some 64 }, by decide +kernel⟩,
    ⟨{ ({} : State) with q := { tab := [(20, { tenant := 5, origin := 0x87, st := .active })] }, regs := [(F_HP_STATUS_RATE.key 0, 5)], ir := { numVfs := 7, fns := [(7, { bme := true, tenant := some 5 })] }, hp := { ide := [(0, 1)] } }, { vfs := some 0 }, by decide +kernel⟩,
    ⟨{ ({} : State) with q := { tab := [(20, { tenant := 5, origin := 0x87, st := .active })], descs := [(3, { cmd 0x21 0 4096 3 with q := 20, data := [1, 2, 3], stage := .wait .linkOut })] }, regs := [(F_HP_STATUS_RATE.key 0, 5)], ir := { numVfs := 7, fns := [(7, { bme := true, tenant := some 5 })] }, hp := { ide := [] } }, 7, 3, { cmd 0x21 0 4096 3 with q := 20, data := [1, 2, 3], stage := .wait .linkOut }, by decide +kernel⟩,
    ⟨{ ({} : State) with regs := [(F_HP_STATUS_CXL.key 0, 1)] }, { hdm := some { base := 0, size := 268435456, ways := 1, gran := 256 } }, { base := 0, size := 268435456, ways := 1, gran := 256 }, by decide +kernel⟩,
    ⟨{ ({} : State) with regs := [(F_HP_STATUS_CXL.key 0, 1)] }, { hdm := some { base := 0, size := 268435456, ways := 3, gran := 256 } }, { base := 0, size := 268435456, ways := 3, gran := 256 }, by decide +kernel⟩,
    ⟨64, by decide +kernel⟩,
    ⟨{ withDesc 3 (cmd 0x20 10 4096 3) with now := 1000000000, ir := { fns := [(0, { bme := true })] } }, 3, 1, cmd 0x20 10 4096 3, by decide +kernel⟩⟩

theorem test_meets_host_port_commands_complete_3 :
    (∃ (s : State) (d : Nat) (c : Nat) (f : Fetched) (q : Nat), d = 16384 + q ∧ s.readsBlock q = true ∧ (s.queue q).fetched.head? = some f ∧ c < 2) ∧
    (∃ (s : State) (d : Nat) (c : Nat) (x : Desc), s.desc? d = some x ∧ d < 16384 ∧ s.readsHost d = true ∧ x.tAcc + (s.hostFn (s.queue x.q).fn).cto ≤ s.now ∧ c = 2) ∧
    (∃ (s : State) (d : Nat) (c : Nat) (f : Fetched) (q : Nat), d = 16384 + q ∧ s.readsBlock q = true ∧ (s.queue q).fetched.head? = some f ∧ c = 2 ∧ f.t + (s.hostFn (s.queue q).fn).cto ≤ s.now) ∧
    (∃ (s : State) (d : Nat) (c : Nat), ((d < 16384 ∧ s.readsHost d = false) ∨ (16384 ≤ d ∧ s.readsBlock (d - 16384) = false) ∨ 2 < c ∨ (c = 2 ∧ d < 16384 ∧ s.now < (s.desc d).tAcc + (s.hostFn (s.queue (s.desc d).q).fn).cto))) ∧
    (∃ (s : State) (d : Nat) (x : Desc), s.desc? d = some x ∧ s.hostBusy x = true ∧ s.noHost x.q = false ∧ s.hostLinkUp = false) ∧
    (∃ (s : State) (d : Nat) (x : Desc), s.desc? d = some x ∧ s.hostBusy x = true ∧ s.noHost x.q = false ∧ (∃ p ∈ s.hp.ide, p.2 = 2)) ∧
    (∃ (s : State) (d : Nat) (v : Bool), (s.desc? d = none ∨ s.hostBusy (s.desc d) = false ∨ s.noHost (s.desc d).q = true ∨ (v = true ∧ ∀ p ∈ s.hp.ide, p.2 ≠ 2) ∨ (v = false ∧ s.hostLinkUp = true))) ∧
    (∃ (s : State) (d : Nat) (x : Desc), s.desc? d = some x ∧ d < 16384 ∧ s.readsHost d = true ∧ takesData x.e = true) :=
  ⟨⟨headOf [{ e := { opcode := 0x60, tenant := 5, tag := 9, len := 64, flags := 1 }, t := 2 }], 16404, 1, { e := { opcode := 0x60, tenant := 5, tag := 9, len := 64, flags := 1 }, t := 2 }, 20, by decide +kernel⟩,
    ⟨{ withDesc 3 (cmd 0x20 10 4096 3) with now := 1000000000, ir := { fns := [(0, { bme := true })] } }, 3, 2, cmd 0x20 10 4096 3, by decide +kernel⟩,
    ⟨{ headOf [{ e := { opcode := 0x60, tenant := 5, tag := 9, len := 64, flags := 1 }, t := 2 }] with now := 1000000000 }, 16404, 2, { e := { opcode := 0x60, tenant := 5, tag := 9, len := 64, flags := 1 }, t := 2 }, 20, by decide +kernel⟩,
    ⟨{}, 3, 0, by decide +kernel⟩,
    ⟨{ withDesc 3 (cmd 0x20 10 4096 3) with ir := { fns := [(0, { bme := true })] } }, 3, cmd 0x20 10 4096 3, by decide +kernel⟩,
    ⟨{ withDesc 3 (cmd 0x20 10 4096 3) with ir := { fns := [(0, { bme := true })] }, hp := { ide := [(0, 2)] } }, 3, cmd 0x20 10 4096 3, by decide +kernel⟩,
    ⟨{}, 3, true, by decide +kernel⟩,
    ⟨{ withDesc 3 (cmd 0x20 10 4096 3) with ir := { fns := [(0, { bme := true })] } }, 3, cmd 0x20 10 4096 3, by decide +kernel⟩⟩

theorem test_meets_host_port_commands_complete_4 :
    (∃ (s : State) (d : Nat) (q : Nat) (f : Fetched), d = 16384 + q ∧ s.readsBlock q = true ∧ (s.queue q).fetched.head? = some f) ∧
    (∃ (s : State) (d : Nat) (x : Desc), s.desc? d = some x ∧ d < 16384 ∧ s.readsHost d = true ∧ takesData x.e = false) ∧
    (∃ (s : State) (d : Nat), ((d < 16384 ∧ s.readsHost d = false) ∨ (16384 ≤ d ∧ s.readsBlock (d - 16384) = false))) ∧
    (∃ (s : State) (n : Nat), n < 5 ∧ kvGet 0 s.hp.ide n = 1) ∧
    (∃ (s : State) (n : Nat), (5 ≤ n ∨ kvGet 0 s.hp.ide n ≠ 1)) :=
  ⟨⟨headOf [{ e := { opcode := 0x60, tenant := 5, tag := 9, len := 64, flags := 1 }, t := 2 }], 16404, 20, { e := { opcode := 0x60, tenant := 5, tag := 9, len := 64, flags := 1 }, t := 2 }, by decide +kernel⟩,
    ⟨{ withDesc 3 (cmd 0x12 0 4096 1) with ir := { fns := [(0, { bme := true })] } }, 3, cmd 0x12 0 4096 1, by decide +kernel⟩,
    ⟨{}, 3, by decide +kernel⟩,
    ⟨{ withDesc 3 (cmd 0x20 10 4096 3) with hp := { ide := [(0, 1)] } }, 0, by decide +kernel⟩,
    ⟨{}, 0, by decide +kernel⟩⟩

theorem test_meets_aperture_and_cxl_complete_1 :
    (∃ (s : State) (w : Nat) (v : Nat) (n : Nat) (b : Bool) (e : List Nat × List Nat), s.bar4 w v n = true ∧ s.ideBlocks b = false ∧ s.apOn w = true ∧ s.apEntries (s.fld F_HP_APT_CFG_TENANT w) (s.apAddr w v) n false = some e ∧ s.readWaits (s.fld F_HP_APT_CFG_TENANT w) (pieces e.1 (s.apAddr w v) n) = true) ∧
    (∃ (s : State) (w : Nat) (v : Nat) (n : Nat) (b : Bool) (e : List Nat × List Nat), s.bar4 w v n = true ∧ s.readWaits (s.fld F_HP_APT_CFG_TENANT w) (pieces e.1 (s.apAddr w v) n) = false ∧ s.ideBlocks b = false ∧ s.apOn w = true ∧ s.apEntries (s.fld F_HP_APT_CFG_TENANT w) (s.apAddr w v) n false = some e ∧ (s.readAccess e.1 (some e.2) (s.apAddr w v) n {} { tenant := (s.fld F_HP_APT_CFG_TENANT w) }).2.status = .ok) ∧
    (∃ (s : State) (w : Nat) (v : Nat) (n : Nat) (b : Bool) (e : List Nat × List Nat), s.bar4 w v n = true ∧ s.readWaits (s.fld F_HP_APT_CFG_TENANT w) (pieces e.1 (s.apAddr w v) n) = false ∧ s.ideBlocks b = false ∧ s.apOn w = true ∧ s.apEntries (s.fld F_HP_APT_CFG_TENANT w) (s.apAddr w v) n false = some e ∧ (s.readAccess e.1 (some e.2) (s.apAddr w v) n {} { tenant := (s.fld F_HP_APT_CFG_TENANT w) }).2.status ≠ .ok) ∧
    (∃ (s : State) (w : Nat) (v : Nat) (n : Nat) (b : Bool), s.bar4 w v n = true ∧ s.ideBlocks b = false ∧ (s.apOn w = false ∨ s.apEntries (s.fld F_HP_APT_CFG_TENANT w) (s.apAddr w v) n false = none)) ∧
    (∃ (s : State) (w : Nat) (v : Nat) (n : Nat) (b : Bool), s.bar4 w v n = true ∧ s.ideBlocks b = true) ∧
    (∃ (s : State) (w : Nat) (v : Nat) (n : Nat), s.bar4 w v n = false) ∧
    (∃ (s : State) (w : Nat) (v : Nat) (d : List Byte) (b : Bool) (e : List Nat × List Nat), s.bar4 w v d.length = true ∧ s.ideBlocks b = false ∧ s.apOn w = true ∧ s.apEntries (s.fld F_HP_APT_CFG_TENANT w) (s.apAddr w v) d.length true = some e ∧ s.mergeWaits (s.fld F_HP_APT_CFG_TENANT w) (pieces e.1 (s.apAddr w v) d.length) = true) ∧
    (∃ (s : State) (w : Nat) (v : Nat) (d : List Byte) (k : Bool) (b : Bool) (e : List Nat × List Nat), s.bar4 w v d.length = true ∧ s.mergeWaits (s.fld F_HP_APT_CFG_TENANT w) (pieces e.1 (s.apAddr w v) d.length) = false ∧ s.ideBlocks b = false ∧ s.apOn w = true ∧ s.apEntries (s.fld F_HP_APT_CFG_TENANT w) (s.apAddr w v) d.length true = some e ∧ k = false ∧ (s.writeAccess e.1 e.2 (s.apAddr w v) d {} { tenant := (s.fld F_HP_APT_CFG_TENANT w) }).2.status = .ok) :=
  ⟨⟨{ ({} : State) with map := { mirror := [(mirrorKey 5 0, { dfn := 7, rd := true, wr := true, valid := true })], owner := [(7, { st := .owned, tenant := 5, maps := 1 })] }, ks := [(64, { st := .active, kind := 1, tenant := 5 })], mc := { units := [(143, { selfRef := true })] }, regs := [(F_HB_STATUS_SET.key 0, 15), (F_HP_STATUS_RATE.key 0, 5), (F_TN_MAP_LEN_LEN.key 5, 4), (F_HP_APT_CFG_ENABLE.key 15, 1), (F_HP_APT_CFG_TENANT.key 15, 5)] }, 15, 65532, 4, false, ([7], [0]), by decide +kernel⟩,
    ⟨{ ({} : State) with map := { mirror := [(mirrorKey 5 0, { dfn := 7, rd := true, wr := true, valid := true })], owner := [(7, { st := .owned, tenant := 5, maps := 1 })] }, ks := [(64, { st := .active, kind := 1, tenant := 5 })], regs := [(F_HP_STATUS_RATE.key 0, 5), (F_TN_MAP_LEN_LEN.key 5, 4), (F_HP_APT_CFG_ENABLE.key 15, 1), (F_HP_APT_CFG_TENANT.key 15, 5)] }, 15, 65532, 4, false, ([7], [0]), by decide +kernel⟩,
    ⟨{ ({} : State) with map := { mirror := [(mirrorKey 5 0, { dfn := 7, rd := true, wr := true, valid := true })], owner := [(7, { st := .owned, tenant := 5, maps := 1 })] }, ks := [(64, { st := .active, kind := 1, tenant := 5 })], regs := [(F_HP_STATUS_RATE.key 0, 5), (F_TN_MAP_LEN_LEN.key 5, 4), (F_HP_APT_CFG_ENABLE.key 15, 1), (F_HP_APT_CFG_TENANT.key 15, 5)], poison := [7 * 256 + 255] }, 15, 65532, 4, false, ([7], [0]), by decide +kernel⟩,
    ⟨{ ({} : State) with map := { mirror := [(mirrorKey 5 0, { dfn := 7, rd := true, wr := true, valid := true })], owner := [(7, { st := .owned, tenant := 5, maps := 1 })] }, ks := [(64, { st := .active, kind := 1, tenant := 5 })], regs := [(F_HP_STATUS_RATE.key 0, 5), (F_TN_MAP_LEN_LEN.key 5, 4), (F_HP_APT_CFG_ENABLE.key 15, 1), (F_HP_APT_CFG_TENANT.key 15, 5)] }, 14, 65532, 4, false, by decide +kernel⟩,
    ⟨{ ({} : State) with map := { mirror := [(mirrorKey 5 0, { dfn := 7, rd := true, wr := true, valid := true })], owner := [(7, { st := .owned, tenant := 5, maps := 1 })] }, ks := [(64, { st := .active, kind := 1, tenant := 5 })], regs := [(F_HP_STATUS_RATE.key 0, 5), (F_TN_MAP_LEN_LEN.key 5, 4), (F_HP_APT_CFG_ENABLE.key 15, 1), (F_HP_APT_CFG_TENANT.key 15, 5), (F_HP_CFG_IDE_REQUIRED.key 0, 1)] }, 15, 65532, 4, false, by decide +kernel⟩,
    ⟨{}, 15, 65532, 4, by decide +kernel⟩,
    ⟨{ ({} : State) with map := { mirror := [(mirrorKey 5 0, { dfn := 7, rd := true, wr := true, valid := true })], owner := [(7, { st := .owned, tenant := 5, maps := 1 })] }, ks := [(64, { st := .active, kind := 1, tenant := 5 })], mc := { units := [(143, { selfRef := true })] }, regs := [(F_HB_STATUS_SET.key 0, 15), (F_HP_STATUS_RATE.key 0, 5), (F_TN_MAP_LEN_LEN.key 5, 4), (F_HP_APT_CFG_ENABLE.key 15, 1), (F_HP_APT_CFG_TENANT.key 15, 5)] }, 15, 65535, [3], false, ([7], [0]), by decide +kernel⟩,
    ⟨{ ({} : State) with map := { mirror := [(mirrorKey 5 0, { dfn := 7, rd := true, wr := true, valid := true })], owner := [(7, { st := .owned, tenant := 5, maps := 1 })] }, ks := [(64, { st := .active, kind := 1, tenant := 5 })], regs := [(F_HP_STATUS_RATE.key 0, 5), (F_TN_MAP_LEN_LEN.key 5, 4), (F_HP_APT_CFG_ENABLE.key 15, 1), (F_HP_APT_CFG_TENANT.key 15, 5)] }, 15, 65535, [3], false, false, ([7], [0]), by decide +kernel⟩⟩

theorem test_meets_aperture_and_cxl_complete_2 :
    (∃ (s : State) (w : Nat) (v : Nat) (d : List Byte) (k : Bool) (b : Bool) (e : List Nat × List Nat), s.bar4 w v d.length = true ∧ s.mergeWaits (s.fld F_HP_APT_CFG_TENANT w) (pieces e.1 (s.apAddr w v) d.length) = false ∧ s.ideBlocks b = false ∧ s.apOn w = true ∧ s.apEntries (s.fld F_HP_APT_CFG_TENANT w) (s.apAddr w v) d.length true = some e ∧ k = true) ∧
    (∃ (s : State) (w : Nat) (v : Nat) (d : List Byte) (b : Bool), s.bar4 w v d.length = true ∧ s.ideBlocks b = false ∧ (s.apOn w = false ∨ s.apEntries (s.fld F_HP_APT_CFG_TENANT w) (s.apAddr w v) d.length true = none)) ∧
    (∃ (s : State) (w : Nat) (v : Nat) (d : List Byte) (b : Bool), s.bar4 w v d.length = true ∧ s.ideBlocks b = true) ∧
    (∃ (s : State) (w : Nat) (v : Nat) (d : List Byte), s.bar4 w v d.length = false) ∧
    (∃ (s : State) (a : Nat) (b : Bool) (e : List Nat × List Nat), s.cxlMem = true ∧ s.ideBlocks b = false ∧ s.cxlOn a = true ∧ s.apEntries (s.fld F_HP_CXL_CFG_TENANT) (s.cxlAddr a) 64 false = some e ∧ s.readWaits (s.fld F_HP_CXL_CFG_TENANT) (pieces e.1 (s.cxlAddr a) 64) = true) ∧
    (∃ (s : State) (a : Nat) (b : Bool) (e : List Nat × List Nat), s.cxlMem = true ∧ s.readWaits (s.fld F_HP_CXL_CFG_TENANT) (pieces e.1 (s.cxlAddr a) 64) = false ∧ s.ideBlocks b = false ∧ s.cxlOn a = true ∧ s.apEntries (s.fld F_HP_CXL_CFG_TENANT) (s.cxlAddr a) 64 false = some e ∧ (s.readAccess e.1 (some e.2) (s.cxlAddr a) 64 {} { tenant := (s.fld F_HP_CXL_CFG_TENANT) }).2.status = .ok) ∧
    (∃ (s : State) (a : Nat) (b : Bool) (e : List Nat × List Nat), s.cxlMem = true ∧ s.readWaits (s.fld F_HP_CXL_CFG_TENANT) (pieces e.1 (s.cxlAddr a) 64) = false ∧ s.ideBlocks b = false ∧ s.cxlOn a = true ∧ s.apEntries (s.fld F_HP_CXL_CFG_TENANT) (s.cxlAddr a) 64 false = some e ∧ (s.readAccess e.1 (some e.2) (s.cxlAddr a) 64 {} { tenant := (s.fld F_HP_CXL_CFG_TENANT) }).2.status ≠ .ok) ∧
    (∃ (s : State) (a : Nat) (b : Bool), s.cxlMem = true ∧ s.ideBlocks b = false ∧ (s.cxlOn a = false ∨ s.apEntries (s.fld F_HP_CXL_CFG_TENANT) (s.cxlAddr a) 64 false = none)) :=
  ⟨⟨{ ({} : State) with map := { mirror := [(mirrorKey 5 0, { dfn := 7, rd := true, wr := true, valid := true })], owner := [(7, { st := .owned, tenant := 5, maps := 1 })] }, ks := [(64, { st := .active, kind := 1, tenant := 5 })], regs := [(F_HP_STATUS_RATE.key 0, 5), (F_TN_MAP_LEN_LEN.key 5, 4), (F_HP_APT_CFG_ENABLE.key 15, 1), (F_HP_APT_CFG_TENANT.key 15, 5)] }, 15, 65535, [3], true, false, ([7], [0]), by decide +kernel⟩,
    ⟨{ ({} : State) with map := { mirror := [(mirrorKey 5 0, { dfn := 7, rd := true, wr := true, valid := true })], owner := [(7, { st := .owned, tenant := 5, maps := 1 })] }, ks := [(64, { st := .active, kind := 1, tenant := 5 })], regs := [(F_HP_STATUS_RATE.key 0, 5), (F_TN_MAP_LEN_LEN.key 5, 4), (F_HP_APT_CFG_ENABLE.key 15, 1), (F_HP_APT_CFG_TENANT.key 15, 5)] }, 14, 65532, [3], false, by decide +kernel⟩,
    ⟨{ ({} : State) with map := { mirror := [(mirrorKey 5 0, { dfn := 7, rd := true, wr := true, valid := true })], owner := [(7, { st := .owned, tenant := 5, maps := 1 })] }, ks := [(64, { st := .active, kind := 1, tenant := 5 })], regs := [(F_HP_STATUS_RATE.key 0, 5), (F_TN_MAP_LEN_LEN.key 5, 4), (F_HP_APT_CFG_ENABLE.key 15, 1), (F_HP_APT_CFG_TENANT.key 15, 5), (F_HP_CFG_IDE_REQUIRED.key 0, 1)] }, 15, 65535, [3], false, by decide +kernel⟩,
    ⟨{}, 15, 65535, [3], by decide +kernel⟩,
    ⟨{ ({} : State) with map := { mirror := [(mirrorKey 5 0, { dfn := 7, rd := true, wr := true, valid := true })], owner := [(7, { st := .owned, tenant := 5, maps := 1 })] }, ks := [(64, { st := .active, kind := 1, tenant := 5 })], mc := { units := [(143, { selfRef := true })] }, regs := [(F_HB_STATUS_SET.key 0, 15), (F_HP_STATUS_RATE.key 0, 5), (F_TN_MAP_LEN_LEN.key 5, 4), (F_HP_STATUS_CXL_NEG.key 0, 1), (F_HP_CXL_CFG_ENABLE.key 0, 1), (F_HP_CXL_CFG_TENANT.key 0, 5)], hp := { hdm := { base := 2 ^ 28, size := 2 ^ 28 } } }, 2 ^ 28 + 65500, false, ([7], [0]), by decide +kernel⟩,
    ⟨{ ({} : State) with map := { mirror := [(mirrorKey 5 0, { dfn := 7, rd := true, wr := true, valid := true })], owner := [(7, { st := .owned, tenant := 5, maps := 1 })] }, ks := [(64, { st := .active, kind := 1, tenant := 5 })], regs := [(F_HP_STATUS_RATE.key 0, 5), (F_TN_MAP_LEN_LEN.key 5, 4), (F_HP_STATUS_CXL_NEG.key 0, 1), (F_HP_CXL_CFG_ENABLE.key 0, 1), (F_HP_CXL_CFG_TENANT.key 0, 5)], hp := { hdm := { base := 2 ^ 28, size := 2 ^ 28 } } }, 2 ^ 28 + 65500, false, ([7], [0]), by decide +kernel⟩,
    ⟨{ ({} : State) with map := { mirror := [(mirrorKey 5 0, { dfn := 7, rd := true, wr := true, valid := true })], owner := [(7, { st := .owned, tenant := 5, maps := 1 })] }, ks := [(64, { st := .active, kind := 1, tenant := 5 })], regs := [(F_HP_STATUS_RATE.key 0, 5), (F_TN_MAP_LEN_LEN.key 5, 4), (F_HP_STATUS_CXL_NEG.key 0, 1), (F_HP_CXL_CFG_ENABLE.key 0, 1), (F_HP_CXL_CFG_TENANT.key 0, 5)], hp := { hdm := { base := 2 ^ 28, size := 2 ^ 28 } }, poison := [7 * 256 + 255] }, 2 ^ 28 + 65500, false, ([7], [0]), by decide +kernel⟩,
    ⟨{ ({} : State) with map := { mirror := [(mirrorKey 5 0, { dfn := 7, rd := true, wr := true, valid := true })], owner := [(7, { st := .owned, tenant := 5, maps := 1 })] }, ks := [(64, { st := .active, kind := 1, tenant := 5 })], regs := [(F_HP_STATUS_RATE.key 0, 5), (F_TN_MAP_LEN_LEN.key 5, 4), (F_HP_STATUS_CXL_NEG.key 0, 1), (F_HP_CXL_CFG_ENABLE.key 0, 1), (F_HP_CXL_CFG_TENANT.key 0, 5)], hp := { hdm := { base := 2 ^ 28, size := 2 ^ 28 } } }, 65500, false, by decide +kernel⟩⟩

theorem test_meets_aperture_and_cxl_complete_3 :
    (∃ (s : State) (b : Bool), s.cxlMem = true ∧ s.ideBlocks b = true) ∧
    (∃ (s : State), s.cxlMem = false) ∧
    (∃ (s : State) (a : Nat) (d : List Byte) (b : Bool) (e : List Nat × List Nat), s.cxlMem = true ∧ d.length = 64 ∧ s.ideBlocks b = false ∧ s.cxlOn a = true ∧ s.apEntries (s.fld F_HP_CXL_CFG_TENANT) (s.cxlAddr a) 64 true = some e ∧ s.mergeWaits (s.fld F_HP_CXL_CFG_TENANT) (pieces e.1 (s.cxlAddr a) 64) = true) ∧
    (∃ (s : State) (a : Nat) (d : List Byte) (k : Bool) (b : Bool) (e : List Nat × List Nat), s.cxlMem = true ∧ s.mergeWaits (s.fld F_HP_CXL_CFG_TENANT) (pieces e.1 (s.cxlAddr a) 64) = false ∧ d.length = 64 ∧ s.ideBlocks b = false ∧ s.cxlOn a = true ∧ s.apEntries (s.fld F_HP_CXL_CFG_TENANT) (s.cxlAddr a) 64 true = some e ∧ k = false ∧ (s.writeAccess e.1 e.2 (s.cxlAddr a) d {} { tenant := (s.fld F_HP_CXL_CFG_TENANT) }).2.status = .ok) ∧
    (∃ (s : State) (a : Nat) (d : List Byte) (k : Bool) (b : Bool) (e : List Nat × List Nat), s.cxlMem = true ∧ s.mergeWaits (s.fld F_HP_CXL_CFG_TENANT) (pieces e.1 (s.cxlAddr a) 64) = false ∧ d.length = 64 ∧ s.ideBlocks b = false ∧ s.cxlOn a = true ∧ s.apEntries (s.fld F_HP_CXL_CFG_TENANT) (s.cxlAddr a) 64 true = some e ∧ k = true) ∧
    (∃ (s : State) (a : Nat) (d : List Byte) (b : Bool), s.cxlMem = true ∧ d.length = 64 ∧ s.ideBlocks b = false ∧ (s.cxlOn a = false ∨ s.apEntries (s.fld F_HP_CXL_CFG_TENANT) (s.cxlAddr a) 64 true = none)) ∧
    (∃ (s : State) (d : List Byte) (b : Bool), s.cxlMem = true ∧ d.length = 64 ∧ s.ideBlocks b = true) ∧
    (∃ (s : State) (d : List Byte), (s.cxlMem = false ∨ d.length ≠ 64)) :=
  ⟨⟨{ ({} : State) with map := { mirror := [(mirrorKey 5 0, { dfn := 7, rd := true, wr := true, valid := true })], owner := [(7, { st := .owned, tenant := 5, maps := 1 })] }, ks := [(64, { st := .active, kind := 1, tenant := 5 })], regs := [(F_HP_STATUS_RATE.key 0, 5), (F_TN_MAP_LEN_LEN.key 5, 4), (F_HP_STATUS_CXL_NEG.key 0, 1), (F_HP_CXL_CFG_ENABLE.key 0, 1), (F_HP_CXL_CFG_TENANT.key 0, 5), (F_HP_CFG_IDE_REQUIRED.key 0, 1)], hp := { hdm := { base := 2 ^ 28, size := 2 ^ 28 } } }, false, by decide +kernel⟩,
    ⟨{}, by decide +kernel⟩,
    ⟨{ ({} : State) with map := { mirror := [(mirrorKey 5 0, { dfn := 7, rd := true, wr := true, valid := true })], owner := [(7, { st := .owned, tenant := 5, maps := 1 })] }, ks := [(64, { st := .active, kind := 1, tenant := 5 })], mc := { units := [(143, { selfRef := true })] }, regs := [(F_HB_STATUS_SET.key 0, 15), (F_HP_STATUS_RATE.key 0, 5), (F_TN_MAP_LEN_LEN.key 5, 4), (F_HP_STATUS_CXL_NEG.key 0, 1), (F_HP_CXL_CFG_ENABLE.key 0, 1), (F_HP_CXL_CFG_TENANT.key 0, 5)], hp := { hdm := { base := 2 ^ 28, size := 2 ^ 28 } } }, 2 ^ 28 + 65500, List.replicate 64 7, false, ([7], [0]), by decide +kernel⟩,
    ⟨{ ({} : State) with map := { mirror := [(mirrorKey 5 0, { dfn := 7, rd := true, wr := true, valid := true })], owner := [(7, { st := .owned, tenant := 5, maps := 1 })] }, ks := [(64, { st := .active, kind := 1, tenant := 5 })], regs := [(F_HP_STATUS_RATE.key 0, 5), (F_TN_MAP_LEN_LEN.key 5, 4), (F_HP_STATUS_CXL_NEG.key 0, 1), (F_HP_CXL_CFG_ENABLE.key 0, 1), (F_HP_CXL_CFG_TENANT.key 0, 5)], hp := { hdm := { base := 2 ^ 28, size := 2 ^ 28 } } }, 2 ^ 28 + 65500, List.replicate 64 7, false, false, ([7], [0]), by decide +kernel⟩,
    ⟨{ ({} : State) with map := { mirror := [(mirrorKey 5 0, { dfn := 7, rd := true, wr := true, valid := true })], owner := [(7, { st := .owned, tenant := 5, maps := 1 })] }, ks := [(64, { st := .active, kind := 1, tenant := 5 })], regs := [(F_HP_STATUS_RATE.key 0, 5), (F_TN_MAP_LEN_LEN.key 5, 4), (F_HP_STATUS_CXL_NEG.key 0, 1), (F_HP_CXL_CFG_ENABLE.key 0, 1), (F_HP_CXL_CFG_TENANT.key 0, 5)], hp := { hdm := { base := 2 ^ 28, size := 2 ^ 28 } } }, 2 ^ 28 + 65500, List.replicate 64 7, true, false, ([7], [0]), by decide +kernel⟩,
    ⟨{ ({} : State) with map := { mirror := [(mirrorKey 5 0, { dfn := 7, rd := true, wr := true, valid := true })], owner := [(7, { st := .owned, tenant := 5, maps := 1 })] }, ks := [(64, { st := .active, kind := 1, tenant := 5 })], regs := [(F_HP_STATUS_RATE.key 0, 5), (F_TN_MAP_LEN_LEN.key 5, 4), (F_HP_STATUS_CXL_NEG.key 0, 1), (F_HP_CXL_CFG_ENABLE.key 0, 1), (F_HP_CXL_CFG_TENANT.key 0, 5)], hp := { hdm := { base := 2 ^ 28, size := 2 ^ 28 } } }, 65500, List.replicate 64 7, false, by decide +kernel⟩,
    ⟨{ ({} : State) with map := { mirror := [(mirrorKey 5 0, { dfn := 7, rd := true, wr := true, valid := true })], owner := [(7, { st := .owned, tenant := 5, maps := 1 })] }, ks := [(64, { st := .active, kind := 1, tenant := 5 })], regs := [(F_HP_STATUS_RATE.key 0, 5), (F_TN_MAP_LEN_LEN.key 5, 4), (F_HP_STATUS_CXL_NEG.key 0, 1), (F_HP_CXL_CFG_ENABLE.key 0, 1), (F_HP_CXL_CFG_TENANT.key 0, 5), (F_HP_CFG_IDE_REQUIRED.key 0, 1)], hp := { hdm := { base := 2 ^ 28, size := 2 ^ 28 } } }, List.replicate 64 7, false, by decide +kernel⟩,
    ⟨{}, [], by decide +kernel⟩⟩

theorem test_meets_aperture_and_cxl_complete_4 :
    (∃ (s : State) (p : Port) (w : Nat), s.answers p (bar0 13 0x1000) = true ∧ pfOrFw p = true ∧ w < 16 ∧ s.fld F_HP_STATUS_CXL ≠ 1 ∧ s.fld F_HP_APT_CFG_ENABLE w ≠ 1 ∧ (s.fld F_HP_APT_CFG_TENANT w) ≠ 0 ∧ s.tenantState (s.fld F_HP_APT_CFG_TENANT w) = 1 ∧ s.fld F_HP_APT_BASE_FIRST_TFN w + 65536 ≤ 16777216) ∧
    (∃ (s : State) (p : Port) (w : Nat), s.answers p (bar0 13 0x1000) = true ∧ pfOrFw p = true ∧ w < 16 ∧ s.fld F_HP_STATUS_CXL ≠ 1 ∧ s.fld F_HP_APT_CFG_ENABLE w ≠ 1 ∧ ((s.fld F_HP_APT_CFG_TENANT w) = 0 ∨ s.tenantState (s.fld F_HP_APT_CFG_TENANT w) ≠ 1)) ∧
    (∃ (s : State) (p : Port) (w : Nat), s.answers p (bar0 13 0x1000) = true ∧ pfOrFw p = true ∧ w < 16 ∧ s.fld F_HP_STATUS_CXL ≠ 1 ∧ s.fld F_HP_APT_CFG_ENABLE w ≠ 1 ∧ (s.fld F_HP_APT_CFG_TENANT w) ≠ 0 ∧ s.tenantState (s.fld F_HP_APT_CFG_TENANT w) = 1 ∧ 16777216 < s.fld F_HP_APT_BASE_FIRST_TFN w + 65536) ∧
    (∃ (s : State) (p : Port) (w : Nat), s.answers p (bar0 13 0x1000) = true ∧ pfOrFw p = true ∧ w < 16 ∧ s.fld F_HP_STATUS_CXL ≠ 1 ∧ s.fld F_HP_APT_CFG_ENABLE w = 1) ∧
    (∃ (s : State) (p : Port) (w : Nat), s.answers p (bar0 13 0x1000) = true ∧ pfOrFw p = true ∧ w < 16 ∧ s.fld F_HP_STATUS_CXL ≠ 1) ∧
    (∃ (s : State) (p : Port) (w : Nat), s.answers p (bar0 13 0x1000) = true ∧ pfOrFw p = true ∧ (16 ≤ w ∨ s.fld F_HP_STATUS_CXL = 1)) ∧
    (∃ (s : State) (p : Port), s.answers p (bar0 13 0x1000) = true ∧ pfOrFw p = false) ∧
    (∃ (s : State) (p : Port), s.answers p (bar0 13 0x1000) = false) :=
  ⟨⟨{ ({} : State) with regs := [(F_TOP_BOOT_STATUS_STAGE.key 0, 3), (F_HP_APT_CFG_TENANT.key 15, 5), (F_TN_T_STATUS_STATE.key 5, 1)] }, .pf, 15, by decide +kernel⟩,
    ⟨{ ({} : State) with regs := [(F_TOP_BOOT_STATUS_STAGE.key 0, 3)] }, .pf, 15, by decide +kernel⟩,
    ⟨{ ({} : State) with regs := [(F_TOP_BOOT_STATUS_STAGE.key 0, 3), (F_HP_APT_BASE_FIRST_TFN.key 15, 16777215), (F_HP_APT_CFG_TENANT.key 15, 5), (F_TN_T_STATUS_STATE.key 5, 1)] }, .pf, 15, by decide +kernel⟩,
    ⟨{ ({} : State) with regs := [(F_TOP_BOOT_STATUS_STAGE.key 0, 3), (F_HP_APT_CFG_ENABLE.key 15, 1)] }, .pf, 15, by decide +kernel⟩,
    ⟨{ ({} : State) with regs := [(F_TOP_BOOT_STATUS_STAGE.key 0, 3), (F_HP_APT_CFG_ENABLE.key 15, 1)] }, .fw, 15, by decide +kernel⟩,
    ⟨{ ({} : State) with regs := [(F_TOP_BOOT_STATUS_STAGE.key 0, 3)] }, .pf, 16, by decide +kernel⟩,
    ⟨running, .vf 3, by decide +kernel⟩,
    ⟨{}, .pf, by decide +kernel⟩⟩

theorem test_meets_aperture_and_cxl_complete_5 :
    (∃ (s : State) (p : Port), s.answers p (bar0 13 0x20) = true ∧ pfOrFw p = true ∧ s.fld F_HP_STATUS_CXL ≠ 0 ∧ s.fld F_HP_CXL_CFG_ENABLE ≠ 1 ∧ (s.fld F_HP_CXL_CFG_TENANT) ≠ 0 ∧ s.tenantState (s.fld F_HP_CXL_CFG_TENANT) = 1) ∧
    (∃ (s : State) (p : Port), s.answers p (bar0 13 0x20) = true ∧ pfOrFw p = true ∧ s.fld F_HP_STATUS_CXL = 0 ∧ s.fld F_HP_CXL_CFG_ENABLE ≠ 1) ∧
    (∃ (s : State) (p : Port), s.answers p (bar0 13 0x20) = true ∧ pfOrFw p = true ∧ s.fld F_HP_STATUS_CXL ≠ 0 ∧ s.fld F_HP_CXL_CFG_ENABLE ≠ 1 ∧ ((s.fld F_HP_CXL_CFG_TENANT) = 0 ∨ s.tenantState (s.fld F_HP_CXL_CFG_TENANT) ≠ 1)) ∧
    (∃ (s : State) (p : Port), s.answers p (bar0 13 0x20) = true ∧ pfOrFw p = true ∧ s.fld F_HP_CXL_CFG_ENABLE = 1) ∧
    (∃ (s : State) (p : Port), s.answers p (bar0 13 0x20) = true ∧ pfOrFw p = true) ∧
    (∃ (s : State) (p : Port), s.answers p (bar0 13 0x20) = true ∧ pfOrFw p = false) ∧
    (∃ (s : State) (p : Port), s.answers p (bar0 13 0x20) = false) ∧
    (∃ (w : Nat), w < 16) :=
  ⟨⟨{ ({} : State) with regs := [(F_TOP_BOOT_STATUS_STAGE.key 0, 3), (F_HP_CXL_CFG_TENANT.key 0, 5), (F_TN_T_STATUS_STATE.key 5, 1), (F_HP_STATUS_CXL.key 0, 1)] }, .pf, by decide +kernel⟩,
    ⟨{ ({} : State) with regs := [(F_TOP_BOOT_STATUS_STAGE.key 0, 3)] }, .pf, by decide +kernel⟩,
    ⟨{ ({} : State) with regs := [(F_TOP_BOOT_STATUS_STAGE.key 0, 3), (F_HP_STATUS_CXL.key 0, 1)] }, .pf, by decide +kernel⟩,
    ⟨{ ({} : State) with regs := [(F_TOP_BOOT_STATUS_STAGE.key 0, 3), (F_HP_CXL_CFG_ENABLE.key 0, 1)] }, .pf, by decide +kernel⟩,
    ⟨{ ({} : State) with regs := [(F_TOP_BOOT_STATUS_STAGE.key 0, 3), (F_HP_CXL_CFG_ENABLE.key 0, 1)] }, .pf, by decide +kernel⟩,
    ⟨running, .vf 3, by decide +kernel⟩,
    ⟨{}, .pf, by decide +kernel⟩,
    ⟨15, by decide +kernel⟩⟩

theorem test_meets_aperture_and_cxl_complete_6 :
    (∃ (s : State) (w : Nat), 16 ≤ w ∧ s.fld F_HP_CXL_STATUS_BINDING = 1) ∧
    (∃ (s : State) (w : Nat), 16 ≤ w ∧ s.fld F_HP_CXL_STATUS_BINDING ≠ 1) :=
  ⟨⟨{ ({} : State) with regs := [(F_HP_CXL_STATUS_BINDING.key 0, 1)] }, 16, by decide +kernel⟩,
    ⟨{}, 16, by decide +kernel⟩⟩

theorem test_meets_mctp_and_doe_answer_1 :
    (∃ (s : State) (b : Nat) (l : List Byte), s.listens b = true ∧ b < 2 ∧ (l.drop 4).length ≤ 64 ∧ bit (leAt l 3 1) 7 = true ∧ bit (leAt l 3 1) 6 = false ∧ (s.mg.asm.any (fun r => r.from_ b (leAt l 2 1) (leAt l 3 1 % 16)) = true ∨ ((s.mg.asm.filter (fun r => !r.from_ b (leAt l 2 1) (leAt l 3 1 % 16))).filter (fun r => r.bind == b)).length < 8)) ∧
    (∃ (s : State) (b : Nat) (l : List Byte), s.listens b = true ∧ b < 2 ∧ (l.drop 4).length ≤ 64 ∧ bit (leAt l 3 1) 7 = true ∧ bit (leAt l 3 1) 6 = false ∧ (s.mg.asm.any (fun r => r.from_ b (leAt l 2 1) (leAt l 3 1 % 16)) = true ∨ ((s.mg.asm.filter (fun r => !r.from_ b (leAt l 2 1) (leAt l 3 1 % 16))).filter (fun r => r.bind == b)).length < 8)) ∧
    (∃ (s : State) (b : Nat) (l : List Byte), s.listens b = true ∧ b < 2 ∧ (l.drop 4).length ≤ 64 ∧ bit (leAt l 3 1) 7 = true ∧ bit (leAt l 3 1) 6 = true ∧ (s.mg.asm.any (fun r => r.from_ b (leAt l 2 1) (leAt l 3 1 % 16)) = true ∨ ((s.mg.asm.filter (fun r => !r.from_ b (leAt l 2 1) (leAt l 3 1 % 16))).filter (fun r => r.bind == b)).length < 8)) ∧
    (∃ (s : State) (b : Nat) (l : List Byte), s.listens b = true ∧ b < 2 ∧ (l.drop 4).length ≤ 64 ∧ bit (leAt l 3 1) 7 = true ∧ bit (leAt l 3 1) 6 = true ∧ (s.mg.asm.any (fun r => r.from_ b (leAt l 2 1) (leAt l 3 1 % 16)) = true ∨ ((s.mg.asm.filter (fun r => !r.from_ b (leAt l 2 1) (leAt l 3 1 % 16))).filter (fun r => r.bind == b)).length < 8)) ∧
    (∃ (s : State) (b : Nat) (l : List Byte) (r : Reasm), s.listens b = true ∧ b < 2 ∧ (l.drop 4).length ≤ 64 ∧ bit (leAt l 3 1) 7 = false ∧ bit (leAt l 3 1) 6 = false ∧ s.mg.asm.find? (fun r => r.from_ b (leAt l 2 1) (leAt l 3 1 % 16)) = some r ∧ leAt l 3 1 / 16 % 4 = (r.seq + 1) % 4 ∧ r.body.length + (l.drop 4).length ≤ 4096) ∧
    (∃ (s : State) (b : Nat) (l : List Byte) (r : Reasm), s.listens b = true ∧ b < 2 ∧ (l.drop 4).length ≤ 64 ∧ bit (leAt l 3 1) 7 = false ∧ bit (leAt l 3 1) 6 = true ∧ s.mg.asm.find? (fun r => r.from_ b (leAt l 2 1) (leAt l 3 1 % 16)) = some r ∧ leAt l 3 1 / 16 % 4 = (r.seq + 1) % 4 ∧ r.body.length + (l.drop 4).length ≤ 4096) ∧
    (∃ (s : State) (b : Nat) (l : List Byte), s.listens b = true ∧ b < 2 ∧ bit (leAt l 3 1) 7 = false ∧ s.mg.asm.find? (fun r => r.from_ b (leAt l 2 1) (leAt l 3 1 % 16)) = none) ∧
    (∃ (s : State) (b : Nat) (l : List Byte) (r : Reasm), s.listens b = true ∧ b < 2 ∧ bit (leAt l 3 1) 7 = false ∧ s.mg.asm.find? (fun r => r.from_ b (leAt l 2 1) (leAt l 3 1 % 16)) = some r ∧ (leAt l 3 1 / 16 % 4 ≠ (r.seq + 1) % 4 ∨ 4096 < r.body.length + (l.drop 4).length)) :=
  ⟨⟨listening, 1, [1, 0, 0, 136, 126], by decide +kernel⟩,
    ⟨{ listening with mg := { asm := [{ bind := 1, body := [0] }] } }, 1, [1, 0, 0, 128, 126], by decide +kernel⟩,
    ⟨listening, 1, [1, 0, 0, 192, 4], by decide +kernel⟩,
    ⟨listening, 1, [1, 0, 0, 192, 5], by decide +kernel⟩,
    ⟨{ listening with mg := { asm := [{ bind := 1, body := [0] }] } }, 1, [1, 0, 0, 16, 126], { bind := 1, body := [0] }, by decide +kernel⟩,
    ⟨{ listening with mg := { asm := [{ bind := 1, body := [0] }] } }, 1, [1, 0, 0, 80, 126], { bind := 1, body := [0] }, by decide +kernel⟩,
    ⟨listening, 1, [1, 0, 0, 0, 126], by decide +kernel⟩,
    ⟨{ listening with mg := { asm := [{ bind := 1, body := [0] }] } }, 1, [1, 0, 0, 32, 126], { bind := 1, body := [0] }, by decide +kernel⟩⟩

theorem test_meets_mctp_and_doe_answer_2 :
    (∃ (s : State) (b : Nat) (l : List Byte), s.listens b = true ∧ b < 2 ∧ bit (leAt l 3 1) 7 = true ∧ s.mg.asm.find? (fun r => r.from_ b (leAt l 2 1) (leAt l 3 1 % 16)) = none ∧ 8 ≤ ((s.mg.asm.filter (fun r => !r.from_ b (leAt l 2 1) (leAt l 3 1 % 16))).filter (fun r => r.bind == b)).length) ∧
    (∃ (s : State) (b : Nat) (l : List Byte), s.listens b = true ∧ b < 2 ∧ 64 < (l.drop 4).length) ∧
    (∃ (s : State) (b : Nat), (s.listens b = false ∨ (2 ≤ b ∧ b ≠ 64 ∧ b ≠ 65))) ∧
    (∃ (s : State), s.listens 64 = true) ∧
    (∃ (s : State), s.listens 65 = true) ∧
    (∃ (s : State) (b : Nat) (n : Nat), s.listens b = true ∧ typeOn 0 b = true ∧ b < 2 ∧ 1 ≤ n ∧ n ≤ 254) ∧
    (∃ (s : State) (b : Nat) (n : Nat), s.listens b = true ∧ typeOn 0 b = true ∧ b < 2 ∧ (n = 0 ∨ 255 ≤ n)) ∧
    (∃ (s : State) (b : Nat), s.listens b = true ∧ typeOn 0 b = true ∧ 2 ≤ b) :=
  ⟨⟨{ listening with mg := { asm := List.replicate 8 { bind := 1, tag := 1 } } }, 1, [1, 0, 0, 128, 126], by decide +kernel⟩,
    ⟨listening, 1, [1, 0, 0, 128] ++ List.replicate 65 0, by decide +kernel⟩,
    ⟨{}, 0, by decide +kernel⟩,
    ⟨listening, by decide +kernel⟩,
    ⟨listening, by decide +kernel⟩,
    ⟨listening, 1, 254, by decide +kernel⟩,
    ⟨listening, 1, 255, by decide +kernel⟩,
    ⟨listening, 4, by decide +kernel⟩⟩

theorem test_meets_mctp_and_doe_answer_3 :
    (∃ (s : State) (b : Nat), (s.listens b = false ∨ (50 ≤ b ∧ typeOn 0 b = false))) ∧
    (∃ (s : State) (b : Nat), (s.listens b = false ∨ (50 ≤ b ∧ typeOn 0 b = false))) ∧
    (∃ (s : State) (b : Nat), s.listens b = true ∧ typeOn 0 b = true) ∧
    (∃ (s : State) (b : Nat), s.listens b = true ∧ typeOn 0 b = true) ∧
    (∃ (s : State) (b : Nat), (s.listens b = false ∨ (50 ≤ b ∧ typeOn 0 b = false))) ∧
    (∃ (s : State) (b : Nat), (s.listens b = false ∨ (50 ≤ b ∧ typeOn 0 b = false))) ∧
    (∃ (s : State) (b : Nat), s.listens b = true ∧ typeOn 0 b = true) ∧
    (∃ (s : State) (b : Nat), s.listens b = true ∧ typeOn 0 b = true) :=
  ⟨⟨{}, 1, by decide +kernel⟩,
    ⟨listening, 65, by decide +kernel⟩,
    ⟨listening, 1, by decide +kernel⟩,
    ⟨listening, 4, by decide +kernel⟩,
    ⟨{}, 1, by decide +kernel⟩,
    ⟨listening, 65, by decide +kernel⟩,
    ⟨listening, 1, by decide +kernel⟩,
    ⟨listening, 4, by decide +kernel⟩⟩

theorem test_meets_mctp_and_doe_answer_4 :
    (∃ (s : State) (b : Nat), (s.listens b = false ∨ (50 ≤ b ∧ typeOn 0 b = false))) ∧
    (∃ (s : State) (b : Nat), (s.listens b = false ∨ (50 ≤ b ∧ typeOn 0 b = false))) ∧
    (∃ (s : State) (b : Nat) (n : Nat), s.listens b = true ∧ typeOn 0 b = true ∧ (n = 0 ∨ n = 0xFF)) ∧
    (∃ (s : State) (b : Nat) (n : Nat), s.listens b = true ∧ typeOn 0 b = true ∧ n ≠ 0 ∧ n ≠ 0xFF ∧ typeOn n b = true) ∧
    (∃ (s : State) (b : Nat) (n : Nat), s.listens b = true ∧ typeOn 0 b = true ∧ n ≠ 0 ∧ n ≠ 0xFF ∧ typeOn n b = false) ∧
    (∃ (s : State) (b : Nat), (s.listens b = false ∨ (50 ≤ b ∧ typeOn 0 b = false))) ∧
    (∃ (s : State) (b : Nat), (s.listens b = false ∨ (50 ≤ b ∧ typeOn 0 b = false))) ∧
    (∃ (s : State) (b : Nat), s.listens b = true ∧ typeOn 0 b = true ∧ b < 2) :=
  ⟨⟨{}, 1, by decide +kernel⟩,
    ⟨listening, 65, by decide +kernel⟩,
    ⟨listening, 1, 255, by decide +kernel⟩,
    ⟨listening, 1, 5, by decide +kernel⟩,
    ⟨listening, 4, 1, by decide +kernel⟩,
    ⟨{}, 1, by decide +kernel⟩,
    ⟨listening, 65, by decide +kernel⟩,
    ⟨listening, 1, by decide +kernel⟩⟩

theorem test_meets_mctp_and_doe_answer_5 :
    (∃ (s : State) (b : Nat), s.listens b = true ∧ typeOn 0 b = true ∧ 2 ≤ b) ∧
    (∃ (s : State) (b : Nat), (s.listens b = false ∨ (50 ≤ b ∧ typeOn 0 b = false))) ∧
    (∃ (s : State) (b : Nat), (s.listens b = false ∨ (50 ≤ b ∧ typeOn 0 b = false))) ∧
    (∃ (s : State) (b : Nat), s.listens b = true ∧ typeOn 0 b = true) ∧
    (∃ (s : State) (b : Nat) (n : Nat), s.listens b = true ∧ typeOn 0 b = true ∧ n ≠ 0) ∧
    (∃ (s : State) (b : Nat), (s.listens b = false ∨ (50 ≤ b ∧ typeOn 0 b = false))) ∧
    (∃ (s : State) (b : Nat), (s.listens b = false ∨ (50 ≤ b ∧ typeOn 0 b = false))) ∧
    (∃ (s : State) (b : Nat), s.listens b = true ∧ typeOn 0 b = true ∧ b = 0) :=
  ⟨⟨listening, 4, by decide +kernel⟩,
    ⟨{}, 1, by decide +kernel⟩,
    ⟨listening, 65, by decide +kernel⟩,
    ⟨listening, 1, by decide +kernel⟩,
    ⟨listening, 1, 1, by decide +kernel⟩,
    ⟨{}, 1, by decide +kernel⟩,
    ⟨listening, 65, by decide +kernel⟩,
    ⟨listening, 0, by decide +kernel⟩⟩

theorem test_meets_mctp_and_doe_answer_6 :
    (∃ (s : State) (b : Nat), s.listens b = true ∧ typeOn 0 b = true ∧ b ≠ 0) ∧
    (∃ (s : State) (b : Nat), (s.listens b = false ∨ (50 ≤ b ∧ typeOn 0 b = false))) ∧
    (∃ (s : State) (b : Nat), (s.listens b = false ∨ (50 ≤ b ∧ typeOn 0 b = false))) ∧
    (∃ (s : State) (b : Nat), s.listens b = true ∧ typeOn 0 b = true ∧ b = 0 ∧ s.mg.found = false) ∧
    (∃ (s : State), s.listens 0 = true ∧ s.mg.found = true) ∧
    (∃ (s : State) (b : Nat), s.listens b = true ∧ typeOn 0 b = true ∧ b ≠ 0) ∧
    (∃ (s : State) (b : Nat), (s.listens b = false ∨ (50 ≤ b ∧ typeOn 0 b = false))) ∧
    (∃ (s : State) (b : Nat), (s.listens b = false ∨ (50 ≤ b ∧ typeOn 0 b = false))) :=
  ⟨⟨listening, 1, by decide +kernel⟩,
    ⟨{}, 1, by decide +kernel⟩,
    ⟨listening, 65, by decide +kernel⟩,
    ⟨listening, 0, by decide +kernel⟩,
    ⟨{ listening with mg := { found := true } }, by decide +kernel⟩,
    ⟨listening, 1, by decide +kernel⟩,
    ⟨{}, 1, by decide +kernel⟩,
    ⟨listening, 65, by decide +kernel⟩⟩

theorem test_meets_mctp_and_doe_answer_7 :
    (∃ (s : State) (b : Nat), s.listens b = true ∧ typeOn 0 b = true ∧ b = 0) ∧
    (∃ (s : State) (b : Nat), s.listens b = true ∧ typeOn 0 b = true ∧ b ≠ 0) ∧
    (∃ (s : State) (b : Nat), (s.listens b = false ∨ (50 ≤ b ∧ typeOn 0 b = false))) ∧
    (∃ (s : State) (b : Nat), (s.listens b = false ∨ (50 ≤ b ∧ typeOn 0 b = false))) ∧
    (∃ (s : State) (n : Nat), s.listens 64 = true ∧ n < 3) ∧
    (∃ (s : State) (n : Nat), s.listens 64 = true ∧ n = 3 ∧ s.fld F_HP_STATUS_CXL = 1) ∧
    (∃ (s : State) (n : Nat), s.listens 64 = true ∧ ((3 ≤ n ∧ s.fld F_HP_STATUS_CXL ≠ 1) ∨ 4 ≤ n)) ∧
    (∃ (s : State), s.listens 64 = false) :=
  ⟨⟨listening, 0, by decide +kernel⟩,
    ⟨listening, 1, by decide +kernel⟩,
    ⟨{}, 1, by decide +kernel⟩,
    ⟨listening, 65, by decide +kernel⟩,
    ⟨listening, 2, by decide +kernel⟩,
    ⟨listening, 3, by decide +kernel⟩,
    ⟨listening, 4, by decide +kernel⟩,
    ⟨{}, by decide +kernel⟩⟩

theorem test_meets_mctp_and_doe_answer_8 :
    (∃ (s : State), s.listens 64 = true ∧ s.fld F_HP_STATUS_CXL ≠ 0) ∧
    (∃ (s : State), s.listens 64 = true ∧ s.fld F_HP_STATUS_CXL ≠ 0) ∧
    (∃ (s : State), s.listens 64 = true ∧ s.fld F_HP_STATUS_CXL ≠ 0) ∧
    (∃ (s : State), s.listens 64 = true ∧ s.fld F_HP_STATUS_CXL ≠ 0) ∧
    (∃ (s : State), s.listens 64 = true ∧ s.fld F_HP_STATUS_CXL ≠ 0) ∧
    (∃ (s : State) (n : Nat), s.listens 64 = true ∧ s.fld F_HP_STATUS_CXL ≠ 0 ∧ 5 ≤ n) ∧
    (∃ (s : State), (s.listens 64 = false ∨ s.fld F_HP_STATUS_CXL = 0)) :=
  ⟨⟨listening, by decide +kernel⟩,
    ⟨listening, by decide +kernel⟩,
    ⟨listening, by decide +kernel⟩,
    ⟨listening, by decide +kernel⟩,
    ⟨listening, by decide +kernel⟩,
    ⟨listening, 5, by decide +kernel⟩,
    ⟨{}, by decide +kernel⟩⟩

theorem test_meets_spdm_answers_1 :
    (∃ (s : State) (b : Nat), s.listens b = true ∧ typeOn 5 b = true) ∧
    (∃ (s : State) (b : Nat), s.listens b = true ∧ typeOn 5 b = true) ∧
    (∃ (s : State) (b : Nat), (s.listens b = false ∨ b = 65)) ∧
    (∃ (s : State) (b : Nat), (s.listens b = false ∨ b = 65)) ∧
    (∃ (s : State) (b : Nat), s.listens b = true ∧ typeOn 5 b = true ∧ 1 ≤ (s.spdm b).stage) ∧
    (∃ (s : State) (b : Nat), s.listens b = true ∧ typeOn 5 b = true ∧ 1 ≤ (s.spdm b).stage) ∧
    (∃ (s : State) (b : Nat), s.listens b = true ∧ typeOn 5 b = true ∧ (s.spdm b).stage < 1) ∧
    (∃ (s : State) (b : Nat), (s.listens b = false ∨ b = 65)) :=
  ⟨⟨listening, 1, by decide +kernel⟩,
    ⟨listening, 4, by decide +kernel⟩,
    ⟨{}, 1, by decide +kernel⟩,
    ⟨listening, 65, by decide +kernel⟩,
    ⟨{ listening with se := { fuses := { lc := .of 8, uds := [.valid 0] }, ids := some {} }, mg := { spdm := [(1, { stage := 1 })] } }, 1, by decide +kernel⟩,
    ⟨{ listening with se := { fuses := { lc := .of 8, uds := [.valid 0] }, ids := some {} }, mg := { spdm := [(64, { stage := 1 })] } }, 64, by decide +kernel⟩,
    ⟨listening, 1, by decide +kernel⟩,
    ⟨{}, 1, by decide +kernel⟩⟩

theorem test_meets_spdm_answers_2 :
    (∃ (s : State) (b : Nat), (s.listens b = false ∨ b = 65)) ∧
    (∃ (s : State) (b : Nat), s.listens b = true ∧ typeOn 5 b = true ∧ 2 ≤ (s.spdm b).stage) ∧
    (∃ (s : State) (b : Nat) (u : Bool) (v : Bool) (w : Bool) (x : Bool), s.listens b = true ∧ typeOn 5 b = true ∧ 2 ≤ (s.spdm b).stage ∧ (u = false ∨ v = false ∨ w = false ∨ x = false)) ∧
    (∃ (s : State) (b : Nat), s.listens b = true ∧ typeOn 5 b = true ∧ (s.spdm b).stage < 2) ∧
    (∃ (s : State) (b : Nat), (s.listens b = false ∨ b = 65)) ∧
    (∃ (s : State) (b : Nat), (s.listens b = false ∨ b = 65)) ∧
    (∃ (s : State) (b : Nat), s.listens b = true ∧ typeOn 5 b = true ∧ 3 ≤ (s.spdm b).stage ∧ s.certs.isSome = true) ∧
    (∃ (s : State) (b : Nat), s.listens b = true ∧ typeOn 5 b = true ∧ 3 ≤ (s.spdm b).stage ∧ s.certs = none) :=
  ⟨⟨listening, 65, by decide +kernel⟩,
    ⟨{ listening with se := { fuses := { lc := .of 8, uds := [.valid 0] }, ids := some {} }, mg := { spdm := [(1, { stage := 2 })] } }, 1, by decide +kernel⟩,
    ⟨{ listening with se := { fuses := { lc := .of 8, uds := [.valid 0] }, ids := some {} }, mg := { spdm := [(1, { stage := 2 })] } }, 1, true, true, true, false, by decide +kernel⟩,
    ⟨listening, 1, by decide +kernel⟩,
    ⟨{}, 1, by decide +kernel⟩,
    ⟨listening, 65, by decide +kernel⟩,
    ⟨{ listening with se := { fuses := { lc := .of 8, uds := [.valid 0] }, ids := some {} }, mg := { spdm := [(1, { stage := 3 })] } }, 1, by decide +kernel⟩,
    ⟨{ listening with se := { fuses := { lc := .of 0, uds := [.valid 0] }, ids := some {} }, mg := { spdm := [(1, { stage := 3 })] } }, 1, by decide +kernel⟩⟩

theorem test_meets_spdm_answers_3 :
    (∃ (s : State) (b : Nat), s.listens b = true ∧ typeOn 5 b = true ∧ (s.spdm b).stage < 3) ∧
    (∃ (s : State) (b : Nat), (s.listens b = false ∨ b = 65)) ∧
    (∃ (s : State) (b : Nat), (s.listens b = false ∨ b = 65)) ∧
    (∃ (s : State) (b : Nat), s.listens b = true ∧ typeOn 5 b = true ∧ 3 ≤ (s.spdm b).stage ∧ s.certs.isSome = true) ∧
    (∃ (s : State) (b : Nat) (m : Nat), s.listens b = true ∧ typeOn 5 b = true ∧ 3 ≤ (s.spdm b).stage ∧ (m ≠ 0 ∨ s.certs = none)) ∧
    (∃ (s : State) (b : Nat), s.listens b = true ∧ typeOn 5 b = true ∧ (s.spdm b).stage < 3) ∧
    (∃ (s : State) (b : Nat), (s.listens b = false ∨ b = 65)) ∧
    (∃ (s : State) (b : Nat), (s.listens b = false ∨ b = 65)) :=
  ⟨⟨listening, 1, by decide +kernel⟩,
    ⟨{}, 1, by decide +kernel⟩,
    ⟨listening, 65, by decide +kernel⟩,
    ⟨{ listening with se := { fuses := { lc := .of 8, uds := [.valid 0] }, ids := some {} }, mg := { spdm := [(1, { stage := 3 })] } }, 1, by decide +kernel⟩,
    ⟨{ listening with se := { fuses := { lc := .of 8, uds := [.valid 0] }, ids := some {} }, mg := { spdm := [(1, { stage := 3 })] } }, 1, 1, by decide +kernel⟩,
    ⟨listening, 1, by decide +kernel⟩,
    ⟨{}, 1, by decide +kernel⟩,
    ⟨listening, 65, by decide +kernel⟩⟩

theorem test_meets_spdm_answers_4 :
    (∃ (s : State) (b : Nat), s.listens b = true ∧ typeOn 5 b = true ∧ 3 ≤ (s.spdm b).stage ∧ s.certs.isSome = true) ∧
    (∃ (s : State) (b : Nat) (m : Nat), s.listens b = true ∧ typeOn 5 b = true ∧ 3 ≤ (s.spdm b).stage ∧ (m ≠ 0 ∨ s.certs = none)) ∧
    (∃ (s : State) (b : Nat), s.listens b = true ∧ typeOn 5 b = true ∧ (s.spdm b).stage < 3) ∧
    (∃ (s : State) (b : Nat), (s.listens b = false ∨ b = 65)) ∧
    (∃ (s : State) (b : Nat), (s.listens b = false ∨ b = 65)) ∧
    (∃ (s : State) (b : Nat) (n : Nat), s.listens b = true ∧ typeOn 5 b = true ∧ 3 ≤ (s.spdm b).stage ∧ 1 ≤ n ∧ n ≤ 7) ∧
    (∃ (s : State) (b : Nat) (n : Nat), s.listens b = true ∧ typeOn 5 b = true ∧ 3 ≤ (s.spdm b).stage ∧ s.certs.isSome = true ∧ 1 ≤ n ∧ n ≤ 7) ∧
    (∃ (s : State) (b : Nat), s.listens b = true ∧ typeOn 5 b = true ∧ 3 ≤ (s.spdm b).stage) :=
  ⟨⟨{ listening with se := { fuses := { lc := .of 8, uds := [.valid 0] }, ids := some {} }, mg := { spdm := [(1, { stage := 3 })] } }, 1, by decide +kernel⟩,
    ⟨{ listening with se := { fuses := { lc := .of 8, uds := [.valid 0] }, ids := some {} }, mg := { spdm := [(1, { stage := 3 })] } }, 1, 1, by decide +kernel⟩,
    ⟨listening, 1, by decide +kernel⟩,
    ⟨{}, 1, by decide +kernel⟩,
    ⟨listening, 65, by decide +kernel⟩,
    ⟨{ listening with se := { fuses := { lc := .of 8, uds := [.valid 0] }, ids := some {} }, mg := { spdm := [(1, { stage := 3 })] } }, 1, 5, by decide +kernel⟩,
    ⟨{ listening with se := { fuses := { lc := .of 8, uds := [.valid 0] }, ids := some {} }, mg := { spdm := [(1, { stage := 3 })] } }, 1, 5, by decide +kernel⟩,
    ⟨{ listening with se := { fuses := { lc := .of 8, uds := [.valid 0] }, ids := some {} }, mg := { spdm := [(1, { stage := 3 })] } }, 1, by decide +kernel⟩⟩

theorem test_meets_spdm_answers_5 :
    (∃ (s : State) (b : Nat), s.listens b = true ∧ typeOn 5 b = true ∧ 3 ≤ (s.spdm b).stage ∧ s.certs.isSome = true) ∧
    (∃ (s : State) (b : Nat), s.listens b = true ∧ typeOn 5 b = true ∧ 3 ≤ (s.spdm b).stage) ∧
    (∃ (s : State) (b : Nat), s.listens b = true ∧ typeOn 5 b = true ∧ 3 ≤ (s.spdm b).stage ∧ s.certs.isSome = true) ∧
    (∃ (s : State) (b : Nat) (n : Nat), s.listens b = true ∧ typeOn 5 b = true ∧ 3 ≤ (s.spdm b).stage ∧ 7 < n ∧ n ≠ 255) ∧
    (∃ (s : State) (b : Nat) (n : Nat), s.listens b = true ∧ typeOn 5 b = true ∧ 3 ≤ (s.spdm b).stage ∧ (n ≤ 7 ∨ n = 255) ∧ s.certs = none) ∧
    (∃ (s : State) (b : Nat), s.listens b = true ∧ typeOn 5 b = true ∧ (s.spdm b).stage < 3) ∧
    (∃ (s : State) (b : Nat), (s.listens b = false ∨ b = 65)) ∧
    (∃ (s : State) (b : Nat), (s.listens b = false ∨ b = 65)) :=
  ⟨⟨{ listening with se := { fuses := { lc := .of 8, uds := [.valid 0] }, ids := some {} }, mg := { spdm := [(1, { stage := 3 })] } }, 1, by decide +kernel⟩,
    ⟨{ listening with se := { fuses := { lc := .of 8, uds := [.valid 0] }, ids := some {} }, mg := { spdm := [(1, { stage := 3 })] } }, 1, by decide +kernel⟩,
    ⟨{ listening with se := { fuses := { lc := .of 8, uds := [.valid 0] }, ids := some {} }, mg := { spdm := [(1, { stage := 3 })] } }, 1, by decide +kernel⟩,
    ⟨{ listening with se := { fuses := { lc := .of 8, uds := [.valid 0] }, ids := some {} }, mg := { spdm := [(1, { stage := 3 })] } }, 1, 8, by decide +kernel⟩,
    ⟨{ listening with se := { fuses := { lc := .of 0, uds := [.valid 0] }, ids := some {} }, mg := { spdm := [(1, { stage := 3 })] } }, 1, 255, by decide +kernel⟩,
    ⟨listening, 1, by decide +kernel⟩,
    ⟨{}, 1, by decide +kernel⟩,
    ⟨listening, 65, by decide +kernel⟩⟩

theorem test_meets_spdm_answers_6 :
    (∃ (s : State) (b : Nat) (n : Nat), s.listens b = true ∧ typeOn 5 b = true ∧ 3 ≤ (s.spdm b).stage ∧ s.certs.isSome = true ∧ s.mg.sessions.any (fun x => x.bind == b && x.id == n) = false ∧ s.mg.sessions.length < 4) ∧
    (∃ (s : State) (b : Nat) (n : Nat), s.listens b = true ∧ typeOn 5 b = true ∧ 3 ≤ (s.spdm b).stage ∧ (s.certs = none ∨ s.mg.sessions.any (fun x => x.bind == b && x.id == n) = true)) ∧
    (∃ (s : State) (b : Nat) (n : Nat), s.listens b = true ∧ typeOn 5 b = true ∧ 3 ≤ (s.spdm b).stage ∧ (s.certs = none ∨ s.mg.sessions.any (fun x => x.bind == b && x.id == n) = true)) ∧
    (∃ (s : State) (b : Nat) (n : Nat), s.listens b = true ∧ typeOn 5 b = true ∧ 3 ≤ (s.spdm b).stage ∧ s.certs.isSome = true ∧ s.mg.sessions.any (fun x => x.bind == b && x.id == n) = false ∧ 4 ≤ s.mg.sessions.length) ∧
    (∃ (s : State) (b : Nat), s.listens b = true ∧ typeOn 5 b = true ∧ (s.spdm b).stage < 3) ∧
    (∃ (s : State) (b : Nat), (s.listens b = false ∨ b = 65)) ∧
    (∃ (s : State) (b : Nat), (s.listens b = false ∨ b = 65)) ∧
    (∃ (s : State) (b : Nat) (n : Nat), s.listens b = true ∧ typeOn 5 b = true ∧ s.spdmSession b n false = true) :=
  ⟨⟨{ listening with se := { fuses := { lc := .of 8, uds := [.valid 0] }, ids := some {} }, mg := { spdm := [(1, { stage := 3 })] } }, 1, 9, by decide +kernel⟩,
    ⟨{ listening with se := { fuses := { lc := .of 0, uds := [.valid 0] }, ids := some {} }, mg := { spdm := [(1, { stage := 3 })] } }, 1, 9, by decide +kernel⟩,
    ⟨{ listening with se := { fuses := { lc := .of 8, uds := [.valid 0] }, ids := some {} }, mg := { spdm := [(1, { stage := 3 })], sessions := [{ bind := 1, id := 9, open_ := true }] } }, 1, 9, by decide +kernel⟩,
    ⟨{ listening with se := { fuses := { lc := .of 8, uds := [.valid 0] }, ids := some {} }, mg := { spdm := [(1, { stage := 3 })], sessions := List.replicate 4 { bind := 0, id := 1 } } }, 1, 9, by decide +kernel⟩,
    ⟨listening, 1, by decide +kernel⟩,
    ⟨{}, 1, by decide +kernel⟩,
    ⟨listening, 65, by decide +kernel⟩,
    ⟨{ listening with se := { fuses := { lc := .of 8, uds := [.valid 0] }, ids := some {} }, mg := { spdm := [(1, { stage := 3 })], sessions := [{ bind := 1, id := 9, open_ := false }] } }, 1, 9, by decide +kernel⟩⟩

theorem test_meets_spdm_answers_7 :
    (∃ (s : State) (b : Nat) (n : Nat), s.listens b = true ∧ typeOn 5 b = true ∧ s.spdmSession b n false = false) ∧
    (∃ (s : State) (b : Nat), (s.listens b = false ∨ b = 65)) ∧
    (∃ (s : State) (b : Nat), (s.listens b = false ∨ b = 65)) ∧
    (∃ (s : State) (b : Nat) (n : Nat), s.listens b = true ∧ typeOn 5 b = true ∧ s.spdmSession b n true = true) ∧
    (∃ (s : State) (b : Nat) (n : Nat), s.listens b = true ∧ typeOn 5 b = true ∧ s.spdmSession b n true = false) ∧
    (∃ (s : State) (b : Nat), (s.listens b = false ∨ b = 65)) ∧
    (∃ (s : State) (b : Nat), (s.listens b = false ∨ b = 65)) ∧
    (∃ (s : State) (b : Nat) (n : Nat), s.listens b = true ∧ typeOn 5 b = true ∧ s.spdmSession b n true = true) :=
  ⟨⟨listening, 1, 9, by decide +kernel⟩,
    ⟨{}, 1, by decide +kernel⟩,
    ⟨listening, 65, by decide +kernel⟩,
    ⟨{ listening with se := { fuses := { lc := .of 8, uds := [.valid 0] }, ids := some {} }, mg := { spdm := [(1, { stage := 3 })], sessions := [{ bind := 1, id := 9, open_ := true }] } }, 1, 9, by decide +kernel⟩,
    ⟨listening, 1, 9, by decide +kernel⟩,
    ⟨{}, 1, by decide +kernel⟩,
    ⟨listening, 65, by decide +kernel⟩,
    ⟨{ listening with se := { fuses := { lc := .of 8, uds := [.valid 0] }, ids := some {} }, mg := { spdm := [(1, { stage := 3 })], sessions := [{ bind := 1, id := 9, open_ := true }] } }, 1, 9, by decide +kernel⟩⟩

theorem test_meets_spdm_answers_8 :
    (∃ (s : State) (b : Nat) (n : Nat), s.listens b = true ∧ typeOn 5 b = true ∧ s.spdmSession b n true = false) ∧
    (∃ (s : State) (b : Nat), (s.listens b = false ∨ b = 65)) ∧
    (∃ (s : State) (b : Nat), (s.listens b = false ∨ b = 65)) ∧
    (∃ (s : State) (b : Nat) (n : Nat), s.listens b = true ∧ typeOn 5 b = true ∧ s.spdmSession b n true = true) ∧
    (∃ (s : State) (b : Nat) (n : Nat), s.listens b = true ∧ typeOn 5 b = true ∧ s.spdmSession b n true = false) ∧
    (∃ (s : State) (b : Nat), (s.listens b = false ∨ b = 65)) ∧
    (∃ (s : State) (b : Nat), (s.listens b = false ∨ b = 65)) ∧
    (∃ (s : State) (b : Nat), s.listens b = true ∧ typeOn 5 b = true) :=
  ⟨⟨listening, 1, 9, by decide +kernel⟩,
    ⟨{}, 1, by decide +kernel⟩,
    ⟨listening, 65, by decide +kernel⟩,
    ⟨{ listening with se := { fuses := { lc := .of 8, uds := [.valid 0] }, ids := some {} }, mg := { spdm := [(1, { stage := 3 })], sessions := [{ bind := 1, id := 9, open_ := true }] } }, 1, 9, by decide +kernel⟩,
    ⟨listening, 1, 9, by decide +kernel⟩,
    ⟨{}, 1, by decide +kernel⟩,
    ⟨listening, 65, by decide +kernel⟩,
    ⟨listening, 1, by decide +kernel⟩⟩

theorem test_meets_spdm_answers_9 :
    (∃ (s : State) (b : Nat), s.listens b = true ∧ typeOn 5 b = true) ∧
    (∃ (s : State) (b : Nat), s.listens b = true ∧ typeOn 5 b = true) ∧
    (∃ (s : State) (b : Nat), (s.listens b = false ∨ b = 65)) ∧
    (∃ (s : State) (b : Nat), (s.listens b = false ∨ b = 65)) ∧
    (∃ (s : State) (b : Nat), s.listens b = true ∧ typeOn 5 b = true ∧ (s.spdm b).chunksOut ≠ []) ∧
    (∃ (s : State) (b : Nat), s.listens b = true ∧ typeOn 5 b = true ∧ (s.spdm b).chunksOut = []) ∧
    (∃ (s : State) (b : Nat), (s.listens b = false ∨ b = 65)) ∧
    (∃ (s : State) (b : Nat), (s.listens b = false ∨ b = 65)) :=
  ⟨⟨listening, 4, by decide +kernel⟩,
    ⟨{ listening with mg := { spdm := [(1, { stage := 3, chunksIn := [18] })] } }, 1, by decide +kernel⟩,
    ⟨{}, 1, by decide +kernel⟩,
    ⟨listening, 65, by decide +kernel⟩,
    ⟨{ listening with se := { fuses := { lc := .of 8, uds := [.valid 0] }, ids := some {} }, mg := { spdm := [(1, { chunksOut := [1, 2] })] } }, 1, by decide +kernel⟩,
    ⟨listening, 1, by decide +kernel⟩,
    ⟨{}, 1, by decide +kernel⟩,
    ⟨listening, 65, by decide +kernel⟩⟩

theorem test_meets_spdm_answers_10 :
    (∃ (s : State) (n : Nat) (k : Nat), s.listens 64 = true ∧ s.spdmSession 64 n true = true ∧ k < 5) ∧
    (∃ (s : State) (n : Nat) (k : Nat), s.listens 64 = true ∧ s.spdmSession 64 n true = true ∧ 5 ≤ k) ∧
    (∃ (s : State) (n : Nat), s.listens 64 = true ∧ s.spdmSession 64 n true = false) ∧
    (∃ (s : State) (b : Nat), s.listens b = true ∧ typeOn 5 b = true ∧ b ≠ 64) ∧
    (∃ (s : State) (b : Nat), (s.listens b = false ∨ b = 65)) ∧
    (∃ (s : State) (b : Nat), (s.listens b = false ∨ b = 65)) :=
  ⟨⟨{ listening with se := { fuses := { lc := .of 8, uds := [.valid 0] }, ids := some {} }, mg := { sessions := [{ bind := 64, id := 9, open_ := true }] } }, 9, 4, by decide +kernel⟩,
    ⟨{ listening with se := { fuses := { lc := .of 8, uds := [.valid 0] }, ids := some {} }, mg := { sessions := [{ bind := 64, id := 9, open_ := true }] } }, 9, 5, by decide +kernel⟩,
    ⟨listening, 9, by decide +kernel⟩,
    ⟨listening, 1, by decide +kernel⟩,
    ⟨{}, 1, by decide +kernel⟩,
    ⟨listening, 65, by decide +kernel⟩⟩

theorem test_meets_pldm_answers_1 :
    (∃ (s : State) (b : Nat), s.listens b = true ∧ b < 2) ∧
    (∃ (s : State) (b : Nat), (s.listens b = false ∨ 50 ≤ b)) ∧
    (∃ (s : State) (b : Nat), (s.listens b = false ∨ 50 ≤ b)) ∧
    (∃ (s : State) (b : Nat), s.listens b = true ∧ 2 ≤ b ∧ b < 50) ∧
    (∃ (s : State) (b : Nat) (n : Nat), s.listens b = true ∧ b < 2 ∧ 1 ≤ n ∧ n ≤ 254) ∧
    (∃ (s : State) (b : Nat) (n : Nat), s.listens b = true ∧ b < 2 ∧ (n = 0 ∨ 255 ≤ n)) ∧
    (∃ (s : State) (b : Nat), (s.listens b = false ∨ 50 ≤ b)) ∧
    (∃ (s : State) (b : Nat), (s.listens b = false ∨ 50 ≤ b)) :=
  ⟨⟨listening, 1, by decide +kernel⟩,
    ⟨{}, 1, by decide +kernel⟩,
    ⟨listening, 65, by decide +kernel⟩,
    ⟨listening, 4, by decide +kernel⟩,
    ⟨listening, 1, 254, by decide +kernel⟩,
    ⟨listening, 1, 255, by decide +kernel⟩,
    ⟨{}, 1, by decide +kernel⟩,
    ⟨listening, 65, by decide +kernel⟩⟩

theorem test_meets_pldm_answers_2 :
    (∃ (s : State) (b : Nat), s.listens b = true ∧ 2 ≤ b ∧ b < 50) ∧
    (∃ (s : State) (b : Nat) (n : Nat), s.listens b = true ∧ b < 2 ∧ (n = 0 ∨ n = 2 ∨ n = 5)) ∧
    (∃ (s : State) (b : Nat) (n : Nat), s.listens b = true ∧ b < 2 ∧ n ≠ 0 ∧ n ≠ 2 ∧ n ≠ 5) ∧
    (∃ (s : State) (b : Nat), (s.listens b = false ∨ 50 ≤ b)) ∧
    (∃ (s : State) (b : Nat), (s.listens b = false ∨ 50 ≤ b)) ∧
    (∃ (s : State) (b : Nat), s.listens b = true ∧ 2 ≤ b ∧ b < 50) ∧
    (∃ (s : State) (b : Nat), s.listens b = true ∧ b < 2) ∧
    (∃ (s : State) (b : Nat), (s.listens b = false ∨ 50 ≤ b)) :=
  ⟨⟨listening, 4, by decide +kernel⟩,
    ⟨listening, 1, 5, by decide +kernel⟩,
    ⟨listening, 1, 4, by decide +kernel⟩,
    ⟨{}, 1, by decide +kernel⟩,
    ⟨listening, 65, by decide +kernel⟩,
    ⟨listening, 4, by decide +kernel⟩,
    ⟨listening, 1, by decide +kernel⟩,
    ⟨{}, 1, by decide +kernel⟩⟩

theorem test_meets_pldm_answers_3 :
    (∃ (s : State) (b : Nat), (s.listens b = false ∨ 50 ≤ b)) ∧
    (∃ (s : State) (b : Nat), s.listens b = true ∧ 2 ≤ b ∧ b < 50) ∧
    (∃ (s : State) (b : Nat) (n : Nat), s.listens b = true ∧ b < 2 ∧ (n = 0 ∨ n = 2 ∨ n = 5)) ∧
    (∃ (s : State) (b : Nat) (n : Nat), s.listens b = true ∧ b < 2 ∧ n ≠ 0 ∧ n ≠ 2 ∧ n ≠ 5) ∧
    (∃ (s : State) (b : Nat), (s.listens b = false ∨ 50 ≤ b)) ∧
    (∃ (s : State) (b : Nat), (s.listens b = false ∨ 50 ≤ b)) ∧
    (∃ (s : State) (b : Nat), s.listens b = true ∧ 2 ≤ b ∧ b < 50) ∧
    (∃ (s : State) (b : Nat), s.listens b = true ∧ b < 2) :=
  ⟨⟨listening, 65, by decide +kernel⟩,
    ⟨listening, 4, by decide +kernel⟩,
    ⟨listening, 1, 5, by decide +kernel⟩,
    ⟨listening, 1, 4, by decide +kernel⟩,
    ⟨{}, 1, by decide +kernel⟩,
    ⟨listening, 65, by decide +kernel⟩,
    ⟨listening, 4, by decide +kernel⟩,
    ⟨listening, 1, by decide +kernel⟩⟩

theorem test_meets_pldm_answers_4 :
    (∃ (s : State) (b : Nat), (s.listens b = false ∨ 50 ≤ b)) ∧
    (∃ (s : State) (b : Nat), (s.listens b = false ∨ 50 ≤ b)) ∧
    (∃ (s : State) (b : Nat), s.listens b = true ∧ 2 ≤ b ∧ b < 50) ∧
    (∃ (s : State) (b : Nat) (n : Nat), s.listens b = true ∧ b < 2 ∧ 1 ≤ n ∧ n ≤ s.sensors.length) ∧
    (∃ (s : State) (b : Nat), s.listens b = true ∧ b < 2) ∧
    (∃ (s : State) (b : Nat) (n : Nat), s.listens b = true ∧ b < 2 ∧ s.sensors.length < n) ∧
    (∃ (s : State) (b : Nat), (s.listens b = false ∨ 50 ≤ b)) ∧
    (∃ (s : State) (b : Nat), (s.listens b = false ∨ 50 ≤ b)) :=
  ⟨⟨{}, 1, by decide +kernel⟩,
    ⟨listening, 65, by decide +kernel⟩,
    ⟨listening, 4, by decide +kernel⟩,
    ⟨listening, 1, 9, by decide +kernel⟩,
    ⟨listening, 1, by decide +kernel⟩,
    ⟨listening, 1, 99, by decide +kernel⟩,
    ⟨{}, 1, by decide +kernel⟩,
    ⟨listening, 65, by decide +kernel⟩⟩

theorem test_meets_pldm_answers_5 :
    (∃ (s : State) (b : Nat), s.listens b = true ∧ 2 ≤ b ∧ b < 50) ∧
    (∃ (s : State) (b : Nat) (n : Nat), s.listens b = true ∧ b < 2 ∧ inSet s.sensors n = true) ∧
    (∃ (s : State) (b : Nat) (n : Nat), s.listens b = true ∧ b < 2 ∧ inSet s.sensors n = true) ∧
    (∃ (s : State) (b : Nat) (n : Nat), s.listens b = true ∧ b < 2 ∧ inSet s.sensors n = false) ∧
    (∃ (s : State) (b : Nat), (s.listens b = false ∨ 50 ≤ b)) ∧
    (∃ (s : State) (b : Nat), (s.listens b = false ∨ 50 ≤ b)) ∧
    (∃ (s : State) (b : Nat), s.listens b = true ∧ 2 ≤ b ∧ b < 50) ∧
    (∃ (s : State) (b : Nat), s.listens b = true ∧ b < 2) :=
  ⟨⟨listening, 4, by decide +kernel⟩,
    ⟨{ listening with mg := { pdr := some [0x107, 0x180] }, regs := (F_PW_T_STATUS_OPEN.key 55, 1) :: listening.regs }, 1, 0x107, by decide +kernel⟩,
    ⟨{ listening with mg := { pdr := some [0x107, 0x180] } }, 1, 0x180, by decide +kernel⟩,
    ⟨listening, 1, 0x108, by decide +kernel⟩,
    ⟨{}, 1, by decide +kernel⟩,
    ⟨listening, 65, by decide +kernel⟩,
    ⟨listening, 4, by decide +kernel⟩,
    ⟨listening, 1, by decide +kernel⟩⟩

theorem test_meets_pldm_answers_6 :
    (∃ (s : State) (b : Nat), (s.listens b = false ∨ 50 ≤ b)) ∧
    (∃ (s : State) (b : Nat), (s.listens b = false ∨ 50 ≤ b)) ∧
    (∃ (s : State) (b : Nat), s.listens b = true ∧ 2 ≤ b ∧ b < 50) ∧
    (∃ (s : State) (b : Nat), s.listens b = true ∧ b < 2) ∧
    (∃ (s : State) (b : Nat), (s.listens b = false ∨ 50 ≤ b)) ∧
    (∃ (s : State) (b : Nat), (s.listens b = false ∨ 50 ≤ b)) ∧
    (∃ (s : State) (b : Nat), s.listens b = true ∧ 2 ≤ b ∧ b < 50) ∧
    (∃ (s : State) (n : Nat) (b : Nat) (v : Nat), inSet s.sensors n = true ∧ s.mg.receiver = some (b, v)) :=
  ⟨⟨{}, 1, by decide +kernel⟩,
    ⟨listening, 65, by decide +kernel⟩,
    ⟨listening, 4, by decide +kernel⟩,
    ⟨listening, 1, by decide +kernel⟩,
    ⟨{}, 1, by decide +kernel⟩,
    ⟨listening, 65, by decide +kernel⟩,
    ⟨listening, 4, by decide +kernel⟩,
    ⟨{ listening with mg := { pdr := some [0x107], receiver := some (1, 8) } }, 0x107, 1, 8, by decide +kernel⟩⟩

theorem test_meets_pldm_answers_7 :
    (∃ (s : State) (n : Nat), inSet s.sensors n = true ∧ s.mg.receiver = none) ∧
    (∃ (s : State) (n : Nat), inSet s.sensors n = false) ∧
    (∃ (s : State) (b : Nat) (n : Nat) (k : Nat) (l : List (Nat × Nat)), s.listens b = true ∧ b < 2 ∧ s.mg.events = (n, k) :: l) ∧
    (∃ (s : State) (b : Nat), s.listens b = true ∧ b < 2 ∧ s.mg.events = []) ∧
    (∃ (s : State) (b : Nat), (s.listens b = false ∨ 50 ≤ b)) ∧
    (∃ (s : State) (b : Nat), (s.listens b = false ∨ 50 ≤ b)) ∧
    (∃ (s : State) (b : Nat), s.listens b = true ∧ 2 ≤ b ∧ b < 50) ∧
    (∃ (s : State) (b : Nat), s.listens b = true ∧ b < 2) :=
  ⟨⟨{ listening with mg := { pdr := some [0x107, 0x180] } }, 0x107, by decide +kernel⟩,
    ⟨listening, 0x108, by decide +kernel⟩,
    ⟨{ listening with mg := { events := [(0x107, 2)] } }, 1, 0x107, 2, [], by decide +kernel⟩,
    ⟨listening, 1, by decide +kernel⟩,
    ⟨{}, 1, by decide +kernel⟩,
    ⟨listening, 65, by decide +kernel⟩,
    ⟨listening, 4, by decide +kernel⟩,
    ⟨listening, 1, by decide +kernel⟩⟩

theorem test_meets_pldm_answers_8 :
    (∃ (s : State) (b : Nat), (s.listens b = false ∨ 50 ≤ b)) ∧
    (∃ (s : State) (b : Nat), (s.listens b = false ∨ 50 ≤ b)) ∧
    (∃ (s : State) (b : Nat), s.listens b = true ∧ 2 ≤ b ∧ b < 50) ∧
    (∃ (s : State) (b : Nat), (s.romUpdate b = true ∨ (s.listens b = true ∧ b < 2))) ∧
    (∃ (s : State) (b : Nat), (s.romUpdate b = true ∨ (s.listens b = true ∧ b < 2))) ∧
    (∃ (s : State) (b : Nat), s.romUpdate b = false ∧ (s.listens b = false ∨ 50 ≤ b)) ∧
    (∃ (s : State) (b : Nat), s.listens b = true ∧ 2 ≤ b ∧ b < 50) ∧
    (∃ (s : State) (b : Nat), (s.romUpdate b = true ∨ (s.listens b = true ∧ b < 2))) :=
  ⟨⟨{}, 1, by decide +kernel⟩,
    ⟨listening, 65, by decide +kernel⟩,
    ⟨listening, 4, by decide +kernel⟩,
    ⟨listening, 1, by decide +kernel⟩,
    ⟨{ ({} : State) with regs := [(F_TOP_BOOT_STATUS_STAGE.key 0, 1)] }, 1, by decide +kernel⟩,
    ⟨{}, 0, by decide +kernel⟩,
    ⟨listening, 4, by decide +kernel⟩,
    ⟨{ listening with se := { slots := [(1, { st := 1, image := { version := 7 } })] } }, 1, by decide +kernel⟩⟩

theorem test_meets_pldm_answers_9 :
    (∃ (s : State) (b : Nat), s.romUpdate b = false ∧ (s.listens b = false ∨ 50 ≤ b)) ∧
    (∃ (s : State) (b : Nat), s.listens b = true ∧ 2 ≤ b ∧ b < 50) ∧
    (∃ (s : State) (b : Nat), (s.romUpdate b = true ∨ (s.listens b = true ∧ b < 2)) ∧ s.mg.update = none ∧ (∀ i, i < 4 → (s.slotRec i).st ≠ 2)) ∧
    (∃ (s : State) (b : Nat), (s.romUpdate b = true ∨ (s.listens b = true ∧ b < 2)) ∧ s.mg.update = none ∧ (∀ i, i < 4 → (s.slotRec i).st ≠ 2)) ∧
    (∃ (s : State) (b : Nat), (s.romUpdate b = true ∨ (s.listens b = true ∧ b < 2)) ∧ s.mg.update ≠ none) ∧
    (∃ (s : State) (b : Nat) (i : Nat), (s.romUpdate b = true ∨ (s.listens b = true ∧ b < 2)) ∧ s.mg.update = none ∧ i < 4 ∧ (s.slotRec i).st = 2) ∧
    (∃ (s : State) (b : Nat), s.romUpdate b = false ∧ (s.listens b = false ∨ 50 ≤ b)) ∧
    (∃ (s : State) (b : Nat), s.listens b = true ∧ 2 ≤ b ∧ b < 50) :=
  ⟨⟨{}, 0, by decide +kernel⟩,
    ⟨listening, 4, by decide +kernel⟩,
    ⟨listening, 1, by decide +kernel⟩,
    ⟨{ ({} : State) with regs := [(F_TOP_BOOT_STATUS_STAGE.key 0, 1)] }, 1, by decide +kernel⟩,
    ⟨{ listening with mg := { update := some { bind := 1, eid := 9 } } }, 1, by decide +kernel⟩,
    ⟨{ listening with se := { slots := [(3, { st := 2 })] } }, 1, 3, by decide +kernel⟩,
    ⟨{}, 0, by decide +kernel⟩,
    ⟨listening, 4, by decide +kernel⟩⟩

theorem test_meets_pldm_answers_10 :
    (∃ (s : State) (b : Nat) (n : Nat) (u : Update), (s.romUpdate b = true ∨ (s.listens b = true ∧ b < 2)) ∧ s.mg.update = some u ∧ u.bind = b ∧ u.eid = n) ∧
    (∃ (s : State) (b : Nat) (n : Nat), (s.romUpdate b = true ∨ (s.listens b = true ∧ b < 2)) ∧ s.mg.update.any (fun u => u.bind == b && u.eid == n) = false) ∧
    (∃ (s : State) (b : Nat), s.romUpdate b = false ∧ (s.listens b = false ∨ 50 ≤ b)) ∧
    (∃ (s : State) (b : Nat), s.listens b = true ∧ 2 ≤ b ∧ b < 50) ∧
    (∃ (s : State) (b : Nat) (n : Nat) (k : Nat) (u : Update), (s.romUpdate b = true ∨ (s.listens b = true ∧ b < 2)) ∧ s.mg.update = some u ∧ u.bind = b ∧ u.eid = n ∧ u.comp = 0 ∧ (k = 1 ∨ (k = 2 ∧ s.rtpUp = true))) ∧
    (∃ (s : State) (b : Nat) (n : Nat) (u : Update), (s.romUpdate b = true ∨ (s.listens b = true ∧ b < 2)) ∧ s.mg.update = some u ∧ u.bind = b ∧ u.eid = n ∧ u.comp ≠ 0) ∧
    (∃ (s : State) (b : Nat) (n : Nat) (k : Nat) (u : Update), (s.romUpdate b = true ∨ (s.listens b = true ∧ b < 2)) ∧ s.mg.update = some u ∧ u.bind = b ∧ u.eid = n ∧ u.comp = 0 ∧ k ≠ 1 ∧ (k ≠ 2 ∨ s.rtpUp = false)) ∧
    (∃ (s : State) (b : Nat) (n : Nat), (s.romUpdate b = true ∨ (s.listens b = true ∧ b < 2)) ∧ s.mg.update.any (fun u => u.bind == b && u.eid == n) = false) :=
  ⟨⟨{ listening with now := 5, mg := { update := some { bind := 1, eid := 9 } } }, 1, 9, { bind := 1, eid := 9 }, by decide +kernel⟩,
    ⟨listening, 1, 9, by decide +kernel⟩,
    ⟨{}, 0, by decide +kernel⟩,
    ⟨listening, 4, by decide +kernel⟩,
    ⟨{ listening with now := 5, mg := { update := some { bind := 1, eid := 9 } } }, 1, 9, 2, { bind := 1, eid := 9 }, by decide +kernel⟩,
    ⟨{ listening with now := 5, mg := { update := some { bind := 1, eid := 9, comp := 2 } } }, 1, 9, { bind := 1, eid := 9, comp := 2 }, by decide +kernel⟩,
    ⟨{ listening with now := 5, mg := { update := some { bind := 1, eid := 9 } } }, 1, 9, 3, { bind := 1, eid := 9 }, by decide +kernel⟩,
    ⟨listening, 1, 9, by decide +kernel⟩⟩

set_option maxRecDepth 100000 in
theorem test_meets_pldm_answers_11 :
    (∃ (s : State) (b : Nat), s.romUpdate b = false ∧ (s.listens b = false ∨ 50 ≤ b)) ∧
    (∃ (s : State) (b : Nat), s.listens b = true ∧ 2 ≤ b ∧ b < 50) ∧
    (∃ (s : State) (u : Update), s.mg.update = some u ∧ u.comp ≠ 0 ∧ u.sent = false ∧ s.fld F_TOP_CAL_STATUS_WRITE ≠ 1) ∧
    (∃ (s : State), (s.mg.update.any (fun u => u.comp != 0 && !u.sent) = false ∨ s.fld F_TOP_CAL_STATUS_WRITE = 1)) ∧
    (∃ (s : State) (l : List Byte) (k : List Byte) (u : Update), s.mg.update = some u ∧ u.comp ≠ 0 ∧ u.sent = true ∧ s.imageFault u.comp (s.imageOf l k) (imageFits u.comp l) = 0) ∧
    (∃ (s : State) (l : List Byte) (k : List Byte) (u : Update), s.mg.update = some u ∧ u.comp ≠ 0 ∧ u.sent = true ∧ s.imageFault u.comp (s.imageOf l k) (imageFits u.comp l) ≠ 0) ∧
    (∃ (s : State), s.mg.update.any (fun u => u.comp != 0 && u.sent) = false) ∧
    (∃ (s : State) (b : Nat) (n : Nat) (u : Update) (k : Nat) (g : Image) (l : List (Nat × Image)), (s.romUpdate b = true ∨ (s.listens b = true ∧ b < 2)) ∧ s.mg.update = some u ∧ u.bind = b ∧ u.eid = n ∧ u.comp = 0 ∧ u.good = (k, g) :: l ∧ l.all (fun p => decide (s.inactive p.1 ≠ s.inactive k)) = true) :=
  ⟨⟨{}, 0, by decide +kernel⟩,
    ⟨listening, 4, by decide +kernel⟩,
    ⟨{ listening with mg := { update := some { bind := 1, eid := 9, comp := 2 } } }, { bind := 1, eid := 9, comp := 2 }, by decide +kernel⟩,
    ⟨{}, by decide +kernel⟩,
    ⟨{ listening with mg := { update := some { bind := 1, eid := 9, comp := 2, sent := true } }, se := { fuses := { root1 := sha384 rootKey } } }, oneImage, rootKey, { bind := 1, eid := 9, comp := 2, sent := true }, by decide +kernel⟩,
    ⟨{ listening with mg := { update := some { bind := 1, eid := 9, comp := 2, sent := true } } }, [], rootKey, { bind := 1, eid := 9, comp := 2, sent := true }, by decide +kernel⟩,
    ⟨{}, by decide +kernel⟩,
    ⟨{ listening with now := 5, mg := { update := some { bind := 1, eid := 9, good := [(2, { svn := 1, version := 7 }), (1, { version := 8 })] } } }, 1, 9, { bind := 1, eid := 9, good := [(2, { svn := 1, version := 7 }), (1, { version := 8 })] }, 2, { svn := 1, version := 7 }, [(1, { version := 8 })], by decide +kernel⟩⟩

theorem test_meets_pldm_answers_12 :
    (∃ (s : State) (b : Nat) (n : Nat) (u : Update), (s.romUpdate b = true ∨ (s.listens b = true ∧ b < 2)) ∧ s.mg.update = some u ∧ u.bind = b ∧ u.eid = n ∧ (u.comp ≠ 0 ∨ u.good = [])) ∧
    (∃ (s : State) (b : Nat) (n : Nat) (u : Update), (s.romUpdate b = true ∨ (s.listens b = true ∧ b < 2)) ∧ s.mg.update = some u ∧ u.bind = b ∧ u.eid = n) ∧
    (∃ (s : State) (b : Nat) (n : Nat), (s.romUpdate b = true ∨ (s.listens b = true ∧ b < 2)) ∧ s.mg.update.any (fun u => u.bind == b && u.eid == n) = false) ∧
    (∃ (s : State) (b : Nat), s.romUpdate b = false ∧ (s.listens b = false ∨ 50 ≤ b)) ∧
    (∃ (s : State) (b : Nat), s.listens b = true ∧ 2 ≤ b ∧ b < 50) ∧
    (∃ (s : State) (b : Nat), (s.romUpdate b = true ∨ (s.listens b = true ∧ b < 2)) ∧ s.mg.update = none) ∧
    (∃ (s : State) (b : Nat) (u : Update), (s.romUpdate b = true ∨ (s.listens b = true ∧ b < 2)) ∧ s.mg.update = some u) ∧
    (∃ (s : State) (b : Nat), s.romUpdate b = false ∧ (s.listens b = false ∨ 50 ≤ b)) :=
  ⟨⟨{ listening with now := 5, mg := { update := some { bind := 1, eid := 9 } } }, 1, 9, { bind := 1, eid := 9 }, by decide +kernel⟩,
    ⟨{ listening with now := 5, mg := { update := some { bind := 1, eid := 9, good := [(2, { svn := 1, version := 7 })] } } }, 1, 9, { bind := 1, eid := 9, good := [(2, { svn := 1, version := 7 })] }, by decide +kernel⟩,
    ⟨listening, 1, 9, by decide +kernel⟩,
    ⟨{}, 0, by decide +kernel⟩,
    ⟨listening, 4, by decide +kernel⟩,
    ⟨listening, 1, by decide +kernel⟩,
    ⟨{ listening with mg := { update := some { bind := 1, eid := 9, comp := 2 } } }, 1, { bind := 1, eid := 9, comp := 2 }, by decide +kernel⟩,
    ⟨{}, 0, by decide +kernel⟩⟩

theorem test_meets_pldm_answers_13 :
    (∃ (s : State) (b : Nat), s.listens b = true ∧ 2 ≤ b ∧ b < 50) ∧
    (∃ (s : State) (b : Nat) (n : Nat) (u : Update), (s.romUpdate b = true ∨ (s.listens b = true ∧ b < 2)) ∧ s.mg.update = some u ∧ u.bind = b ∧ u.eid = n ∧ u.comp ≠ 0) ∧
    (∃ (s : State) (b : Nat) (n : Nat) (u : Update), (s.romUpdate b = true ∨ (s.listens b = true ∧ b < 2)) ∧ s.mg.update = some u ∧ u.bind = b ∧ u.eid = n ∧ u.comp = 0) ∧
    (∃ (s : State) (b : Nat) (n : Nat), (s.romUpdate b = true ∨ (s.listens b = true ∧ b < 2)) ∧ s.mg.update.any (fun u => u.bind == b && u.eid == n) = false) ∧
    (∃ (s : State) (b : Nat), s.romUpdate b = false ∧ (s.listens b = false ∨ 50 ≤ b)) ∧
    (∃ (s : State) (b : Nat), s.listens b = true ∧ 2 ≤ b ∧ b < 50) ∧
    (∃ (s : State) (b : Nat) (n : Nat) (u : Update), (s.romUpdate b = true ∨ (s.listens b = true ∧ b < 2)) ∧ s.mg.update = some u ∧ u.bind = b ∧ u.eid = n) ∧
    (∃ (s : State) (b : Nat) (n : Nat), (s.romUpdate b = true ∨ (s.listens b = true ∧ b < 2)) ∧ s.mg.update.any (fun u => u.bind == b && u.eid == n) = false) :=
  ⟨⟨listening, 4, by decide +kernel⟩,
    ⟨{ listening with now := 5, mg := { update := some { bind := 1, eid := 9, comp := 2 } } }, 1, 9, { bind := 1, eid := 9, comp := 2 }, by decide +kernel⟩,
    ⟨{ listening with now := 5, mg := { update := some { bind := 1, eid := 9 } } }, 1, 9, { bind := 1, eid := 9 }, by decide +kernel⟩,
    ⟨listening, 1, 9, by decide +kernel⟩,
    ⟨{}, 0, by decide +kernel⟩,
    ⟨listening, 4, by decide +kernel⟩,
    ⟨{ listening with now := 5, mg := { update := some { bind := 1, eid := 9, comp := 2, good := [(1, { version := 8 })] } } }, 1, 9, { bind := 1, eid := 9, comp := 2, good := [(1, { version := 8 })] }, by decide +kernel⟩,
    ⟨listening, 1, 9, by decide +kernel⟩⟩

theorem test_meets_pldm_answers_14 :
    (∃ (s : State) (b : Nat), s.romUpdate b = false ∧ (s.listens b = false ∨ 50 ≤ b)) ∧
    (∃ (s : State) (b : Nat), s.listens b = true ∧ 2 ≤ b ∧ b < 50) ∧
    (∃ (s : State) (u : Update), s.mg.update = some u ∧ u.last + 120000000000 ≤ s.now) ∧
    (∃ (s : State), s.mg.update.any (fun u => decide (u.last + 120000000000 ≤ s.now)) = false) :=
  ⟨⟨{}, 0, by decide +kernel⟩,
    ⟨listening, 4, by decide +kernel⟩,
    ⟨{ listening with now := 120000000000, mg := { update := some { bind := 1, eid := 9, comp := 2, good := [(1, { version := 8 })] } } }, { bind := 1, eid := 9, comp := 2, good := [(1, { version := 8 })] }, by decide +kernel⟩,
    ⟨{}, by decide +kernel⟩⟩

theorem test_meets_cxl_mailbox_answers_1 :
    (∃ (s : State) (n : Nat), s.listens 65 = true ∧ n < 4) ∧
    (∃ (s : State) (n : Nat), s.listens 65 = true ∧ 4 ≤ n) ∧
    (∃ (s : State), s.listens 65 = false) ∧
    (∃ (s : State) (n : Nat), s.listens 65 = true ∧ n < 4) ∧
    (∃ (s : State) (n : Nat), s.listens 65 = true ∧ 4 ≤ n) ∧
    (∃ (s : State), s.listens 65 = false) ∧
    (∃ (s : State), s.listens 65 = true) ∧
    (∃ (s : State), s.listens 65 = false) :=
  ⟨⟨listening, 3, by decide +kernel⟩,
    ⟨listening, 4, by decide +kernel⟩,
    ⟨{}, by decide +kernel⟩,
    ⟨listening, 3, by decide +kernel⟩,
    ⟨listening, 4, by decide +kernel⟩,
    ⟨{}, by decide +kernel⟩,
    ⟨listening, by decide +kernel⟩,
    ⟨{}, by decide +kernel⟩⟩

theorem test_meets_cxl_mailbox_answers_2 :
    (∃ (s : State), s.listens 65 = true) ∧
    (∃ (s : State), s.listens 65 = false) ∧
    (∃ (s : State), s.listens 65 = true) ∧
    (∃ (s : State), s.listens 65 = false) ∧
    (∃ (s : State), s.listens 65 = true) ∧
    (∃ (s : State), s.listens 65 = true) ∧
    (∃ (s : State), s.listens 65 = false) ∧
    (∃ (s : State), s.listens 65 = true) :=
  ⟨⟨listening, by decide +kernel⟩,
    ⟨{}, by decide +kernel⟩,
    ⟨listening, by decide +kernel⟩,
    ⟨{}, by decide +kernel⟩,
    ⟨listening, by decide +kernel⟩,
    ⟨listening, by decide +kernel⟩,
    ⟨{}, by decide +kernel⟩,
    ⟨listening, by decide +kernel⟩⟩

theorem test_meets_cxl_mailbox_answers_3 :
    (∃ (s : State), s.listens 65 = false) ∧
    (∃ (s : State), s.listens 65 = true) ∧
    (∃ (s : State), s.listens 65 = false) ∧
    (∃ (s : State), s.listens 65 = true) ∧
    (∃ (s : State), s.listens 65 = false) ∧
    (∃ (s : State), s.listens 65 = true) ∧
    (∃ (s : State), s.listens 65 = false) ∧
    (∃ (s : State) (n : Nat) (k : Nat) (l : List Nat), s.listens 65 = true ∧ s.cxlPoison.filter (fun c => decide (n ≤ c) && decide (c < n + k)) = l) :=
  ⟨⟨{}, by decide +kernel⟩,
    ⟨listening, by decide +kernel⟩,
    ⟨{}, by decide +kernel⟩,
    ⟨listening, by decide +kernel⟩,
    ⟨{}, by decide +kernel⟩,
    ⟨listening, by decide +kernel⟩,
    ⟨{}, by decide +kernel⟩,
    ⟨listening, 0, 0, [], by decide +kernel⟩⟩

theorem test_meets_cxl_mailbox_answers_4 :
    (∃ (s : State) (n : Nat) (k : Nat) (l : List Nat), s.listens 65 = true ∧ s.cxlPoison.filter (fun c => decide (n ≤ c) && decide (c < n + k)) = l) ∧
    (∃ (s : State), s.listens 65 = false) :=
  ⟨⟨{ listening with regs := (F_HP_CXL_CFG_ENABLE.key 0, 1) :: (F_HP_CXL_CFG_TENANT.key 0, 5) :: listening.regs, map := { mirror := [(83886080, { valid := true, dfn := 7 }), (83886081, { valid := true, dfn := 9 })] }, poison := [1794, 2307], hp := { hdm := { size := 131072 } } }, 512, 66000, [512, 66304], by decide +kernel⟩,
    ⟨{}, by decide +kernel⟩⟩

theorem test_meets_control_sample_and_faults_1 :
    (∃ (s : State) (k : Nat), k < 8 ∧ (s.loopSt k = 1 ∨ s.loopSt k = 2)) ∧
    (∃ (s : State) (k : Nat), k < 8 ∧ s.loopSt k ≠ 1 ∧ s.loopSt k ≠ 2) ∧
    (∃ (k : Nat), 8 ≤ k) ∧
    (∃ (s : State) (p : Nat), p < 40 ∧ s.phaseSt p < 2 ∧ 8 ≤ (s.phase p).fails) ∧
    (∃ (s : State) (p : Nat), (40 ≤ p ∨ 2 ≤ s.phaseSt p ∨ (s.phase p).fails < 8)) ∧
    (∃ (s : State) (p : Nat) (v : Bool), p < 40 ∧ s.phaseSt p < 2 ∧ (v = true ∨ 2 ≤ (s.phase p).short ∨ 2 ≤ (s.phase p).oc)) ∧
    (∃ (s : State) (p : Nat) (v : Bool), (40 ≤ p ∨ 2 ≤ s.phaseSt p ∨ (v = false ∧ (s.phase p).short < 2 ∧ (s.phase p).oc < 2))) ∧
    (∃ (s : State) (k : Nat), k < 8 ∧ (s.loopSt k = 1 ∨ s.loopSt k = 2) ∧ 8 ≤ (s.loop k).plaus) :=
  ⟨⟨{ ({} : State) with regs := [(F_PW_L_STATUS_STATE.key 7, 2), (F_PW_L_CFG_NMIN.key 7, 1)], pw := { loops := [(7, { sp := 27000 })] } }, 7, by decide +kernel⟩,
    ⟨{}, 0, by decide +kernel⟩,
    ⟨8, by decide +kernel⟩,
    ⟨{ ({} : State) with regs := [(F_PW_P_STATUS_STATE.key 47, 0)], pw := { phases := [(39, { fails := 8, opens := 8, en := true, pwm := 1 })] } }, 39, by decide +kernel⟩,
    ⟨{}, 40, by decide +kernel⟩,
    ⟨{ ({} : State) with regs := [(F_PW_P_STATUS_STATE.key 8, 0)], pw := { phases := [(0, { oc := 2, en := true, pwm := 1 })] } }, 0, false, by decide +kernel⟩,
    ⟨{}, 0, false, by decide +kernel⟩,
    ⟨{ ({} : State) with regs := [(F_PW_L_STATUS_STATE.key 1, 2)], pw := { loops := [(1, { plaus := 8 })], run := none } }, 1, by decide +kernel⟩⟩

theorem test_meets_control_sample_and_faults_2 :
    (∃ (s : State) (k : Nat), k < 8 ∧ (s.loopSt k = 1 ∨ s.loopSt k = 2) ∧ 8 ≤ (s.loop k).plaus) ∧
    (∃ (s : State) (k : Nat), k < 8 ∧ (s.loopSt k = 1 ∨ s.loopSt k = 2) ∧ 8 ≤ (s.loop k).plaus) ∧
    (∃ (s : State) (k : Nat), (8 ≤ k ∨ (s.loopSt k ≠ 1 ∧ s.loopSt k ≠ 2) ∨ (s.loop k).plaus < 8)) ∧
    (∃ (s : State) (k : Nat), k < 8 ∧ (s.loopSt k = 1 ∨ s.loopSt k = 2) ∧ (s.loop k).follow.any (fun z => decide (z + 1000 * s.fld F_PW_L_FOLLOW_TIME k ≤ s.now)) = true) ∧
    (∃ (s : State) (k : Nat), (8 ≤ k ∨ (s.loopSt k ≠ 1 ∧ s.loopSt k ≠ 2) ∨ (s.loop k).follow.any (fun z => decide (z + 1000 * s.fld F_PW_L_FOLLOW_TIME k ≤ s.now)) = false)) ∧
    (∃ (s : State) (k : Nat), k < 8 ∧ (s.loopSt k = 1 ∨ s.loopSt k = 2) ∧ (2 ≤ (s.loop k).ov ∨ 2 ≤ (s.loop k).uv)) ∧
    (∃ (s : State) (k : Nat), k < 8 ∧ (s.loopSt k = 1 ∨ s.loopSt k = 2) ∧ (2 ≤ (s.loop k).ov ∨ 2 ≤ (s.loop k).uv)) ∧
    (∃ (s : State) (k : Nat), (8 ≤ k ∨ (s.loopSt k ≠ 1 ∧ s.loopSt k ≠ 2) ∨ ((s.loop k).ov < 2 ∧ (s.loop k).uv < 2))) :=
  ⟨⟨{ ({} : State) with regs := [(F_PW_L_STATUS_STATE.key 0, 1)], pw := { loops := [(0, { plaus := 8 })], run := none } }, 0, by decide +kernel⟩,
    ⟨{ ({} : State) with regs := [(F_PW_L_STATUS_STATE.key 0, 1)], pw := { loops := [(0, { plaus := 8 })], run := some 3 } }, 0, by decide +kernel⟩,
    ⟨{}, 7, by decide +kernel⟩,
    ⟨{ ({} : State) with now := 10000000000, regs := [(F_PW_L_STATUS_STATE.key 7, 2)], pw := { loops := [(7, { follow := some 0 })], run := none } }, 7, by decide +kernel⟩,
    ⟨{}, 7, by decide +kernel⟩,
    ⟨{ ({} : State) with regs := [(F_PW_L_STATUS_STATE.key 0, 2)], pw := { loops := [(0, { uv := 2 })], run := some 3 } }, 0, by decide +kernel⟩,
    ⟨{ ({} : State) with regs := [(F_PW_L_STATUS_STATE.key 6, 2)], pw := { loops := [(6, { ov := 2, uv := 2 })], run := none } }, 6, by decide +kernel⟩,
    ⟨{}, 7, by decide +kernel⟩⟩

theorem test_meets_control_sample_and_faults_3 :
    (∃ (s : State) (k : Nat), k < 8 ∧ (s.loopSt k = 1 ∨ s.loopSt k = 2) ∧ (s.loop k).above.any (fun z => decide (z + 100000 ≤ s.now)) = true) ∧
    (∃ (s : State) (k : Nat), (8 ≤ k ∨ (s.loopSt k ≠ 1 ∧ s.loopSt k ≠ 2) ∨ (s.loop k).above.any (fun z => decide (z + 100000 ≤ s.now)) = false)) ∧
    (∃ (s : State) (k : Nat) (l : List Int), k < 8 ∧ s.loopSt k = 1 ∧ s.inBand k l = true ∧ s.pw.run.map (powerOrder.getD · 0) ≠ some k) ∧
    (∃ (s : State) (k : Nat) (l : List Int), k < 8 ∧ s.loopSt k = 1 ∧ s.inBand k l = true ∧ s.pw.run.map (powerOrder.getD · 0) ≠ some k) ∧
    (∃ (s : State) (k : Nat) (l : List Int) (i : Nat), k < 8 ∧ s.loopSt k = 1 ∧ s.inBand k l = true ∧ s.pw.run = some i ∧ i < 7 ∧ powerOrder.getD i 0 = k) ∧
    (∃ (s : State) (l : List Int), s.loopSt 1 = 1 ∧ s.inBand 1 l = true ∧ s.pw.run = some 7) ∧
    (∃ (s : State) (k : Nat) (l : List Int), (8 ≤ k ∨ s.loopSt k ≠ 1 ∨ s.inBand k l = false)) :=
  ⟨⟨{ ({} : State) with now := 10000000000, regs := [(F_PW_L_STATUS_STATE.key 5, 2)], pw := { loops := [(5, { above := some 0 })], run := none } }, 5, by decide +kernel⟩,
    ⟨{}, 7, by decide +kernel⟩,
    ⟨{ ({} : State) with regs := [(F_PW_L_STATUS_STATE.key 3, 1), (F_PW_L_VSET_VSET.key 3, 3600)] }, 3, List.replicate 16 943718, by decide +kernel⟩,
    ⟨{ ({} : State) with regs := [(F_PW_L_STATUS_STATE.key 3, 1), (F_PW_L_VSET_VSET.key 3, 3600)], pw := { run := some 4 } }, 3, List.replicate 16 943718, by decide +kernel⟩,
    ⟨{ ({} : State) with regs := [(F_PW_L_STATUS_STATE.key 3, 1), (F_PW_L_VSET_VSET.key 3, 3600)], pw := { run := some 5 } }, 3, List.replicate 16 943718, 5, by decide +kernel⟩,
    ⟨{ ({} : State) with regs := [(F_PW_L_STATUS_STATE.key 1, 1)], pw := { run := some 7, failed := 1 } }, List.replicate 16 629145, by decide +kernel⟩,
    ⟨{}, 0, [], by decide +kernel⟩⟩

theorem test_meets_rail_sensors_take_effect_1 :
    (∃ (k : Nat) (p : Nat), k < 8 ∧ p < 40) ∧
    (∃ (s : State), (signedOf 12 (s.fld F_PW_L_HOT_WARN 1) ≤ signedOf 12 (s.fld F_PW_L_TEMP_HOT 1) ∨ (phasesOf 1).any (fun p => decide (920 ≤ s.stageTemp p)) = true)) ∧
    (∃ (s : State), (signedOf 12 (s.fld F_PW_L_HOT_WARN 1) ≤ signedOf 12 (s.fld F_PW_L_TEMP_HOT 1) ∨ (phasesOf 1).any (fun p => decide (920 ≤ s.stageTemp p)) = true)) ∧
    (∃ (s : State), signedOf 12 (s.fld F_PW_L_TEMP_HOT 1) + 40 ≤ signedOf 12 (s.fld F_PW_L_HOT_WARN 1) ∧ (phasesOf 1).all (fun p => decide (s.stageTemp p + 40 ≤ 920)) = true) ∧
    (∃ (s : State), signedOf 12 (s.fld F_PW_L_TEMP_HOT 1) < signedOf 12 (s.fld F_PW_L_HOT_WARN 1) ∧ (phasesOf 1).all (fun p => decide (s.stageTemp p < 920)) = true ∧ (signedOf 12 (s.fld F_PW_L_HOT_WARN 1) < signedOf 12 (s.fld F_PW_L_TEMP_HOT 1) + 40 ∨ (phasesOf 1).any (fun p => decide (920 < s.stageTemp p + 40)) = true)) ∧
    (∃ (p : Nat) (v : Nat), p < 40 ∧ 200 ≤ v ∧ v ≤ 2000) ∧
    (∃ (p : Nat) (v : Nat), p < 40 ∧ (v < 200 ∨ 2000 < v)) ∧
    (∃ (p : Nat), 40 ≤ p) :=
  ⟨⟨7, 39, by decide +kernel⟩,
    ⟨{ ({} : State) with regs := [(F_CK_THERM_CAP_MHZ.key 0, 1250), (F_PW_L_TEMP_HOT.key 1, 900), (F_PW_L_HOT_WARN.key 1, 880)] }, by decide +kernel⟩,
    ⟨{ ({} : State) with regs := [(F_CK_THERM_CAP_MHZ.key 0, 600), (F_PW_L_TEMP_HOT.key 1, 900), (F_PW_L_HOT_WARN.key 1, 880)] }, by decide +kernel⟩,
    ⟨{ ({} : State) with regs := [(F_CK_THERM_CAP_MHZ.key 0, 1000), (F_PW_L_TEMP_HOT.key 1, 840), (F_PW_L_HOT_WARN.key 1, 880)] }, by decide +kernel⟩,
    ⟨{ ({} : State) with regs := [(F_CK_THERM_CAP_MHZ.key 0, 1000), (F_PW_L_TEMP_HOT.key 1, 841), (F_PW_L_HOT_WARN.key 1, 880)] }, by decide +kernel⟩,
    ⟨39, 2000, by decide +kernel⟩,
    ⟨39, 199, by decide +kernel⟩,
    ⟨40, by decide +kernel⟩⟩

theorem test_meets_rail_sensors_take_effect_2 :
    (∃ (s : State) (n : Nat) (v : Nat) (r : Nat), n < 8 ∧ (s.pw.calBoard.therm.getD n (false, 0, 0)).1 = true ∧ 2 * r ≤ 15 * (s.pw.calBoard.therm.getD n (false, 0, 0)).2.1 ∧ 12000 ≤ v) ∧
    (∃ (s : State) (n : Nat) (v : Nat) (r : Nat), n < 8 ∧ (s.pw.calBoard.therm.getD n (false, 0, 0)).1 = true ∧ (15 * (s.pw.calBoard.therm.getD n (false, 0, 0)).2.1 < 2 * r ∨ v < 12000) ∧ s.fld F_PW_T_STATUS_OPEN (48 + n) ≠ 1) ∧
    (∃ (s : State) (n : Nat) (v : Nat) (r : Nat), n < 8 ∧ (s.pw.calBoard.therm.getD n (false, 0, 0)).1 = true ∧ (15 * (s.pw.calBoard.therm.getD n (false, 0, 0)).2.1 < 2 * r ∨ v < 12000) ∧ s.fld F_PW_T_STATUS_OPEN (48 + n) = 1) ∧
    (∃ (s : State) (n : Nat), n < 8 ∧ (s.pw.calBoard.therm.getD n (false, 0, 0)).1 = false) ∧
    (∃ (n : Nat), 8 ≤ n) ∧
    (∃ (s : State) (n : Nat), n < 8 ∧ s.fld F_PW_T_STATUS_OPEN (48 + n) = 1 ∧ kvGet 0 s.pw.opened n + 1000000000 ≤ s.now) ∧
    (∃ (s : State) (n : Nat), (8 ≤ n ∨ s.fld F_PW_T_STATUS_OPEN (48 + n) ≠ 1 ∨ s.now < kvGet 0 s.pw.opened n + 1000000000)) ∧
    (∃ (s : State) (n : Nat), n < 4 ∧ (kvGet {} s.pw.vset n).valid = true) :=
  ⟨⟨{ ({} : State) with regs := [(F_PW_T_STATUS_OPEN.key 48, 1)], pw := { opened := [(0, 5)], subst := [0], calBoard := { therm := [(true, 10000, 3435)] } } }, 0, 600000, 75000, by decide +kernel⟩,
    ⟨{ ({} : State) with regs := [], pw := { calBoard := { therm := [(true, 10000, 3435)] } }, now := 7 }, 0, 11999, 0, by decide +kernel⟩,
    ⟨{ ({} : State) with regs := [(F_PW_T_STATUS_OPEN.key 48, 1)], pw := { calBoard := { therm := [(true, 10000, 3435)] } } }, 0, 600000, 75001, by decide +kernel⟩,
    ⟨{ ({} : State) with regs := [(F_PW_T_STATUS_TEMP.key 55, 9)] }, 7, by decide +kernel⟩,
    ⟨8, by decide +kernel⟩,
    ⟨{ ({} : State) with now := 1000000000000, regs := [(F_PW_T_STATUS_OPEN.key 55, 1)] }, 7, by decide +kernel⟩,
    ⟨{}, 7, by decide +kernel⟩,
    ⟨{ ({} : State) with regs := [(F_PW_L_CFG_SRC.key 3, 1), (F_PW_L_CFG_VSEL.key 3, 3), (F_PW_L_STATUS_VSET_VALID.key 3, 1)], pw := { vset := [(3, { valid := true, duty := 100 })] } }, 3, by decide +kernel⟩⟩

theorem test_meets_rail_sensors_take_effect_3 :
    (∃ (s : State) (n : Nat), (4 ≤ n ∨ (kvGet {} s.pw.vset n).valid = false)) ∧
    (∃ (n : Nat) (ps : List (Nat × Nat)) (d : Nat), n < 4 ∧ vsetDuty ps = some d) ∧
    (∃ (n : Nat) (ps : List (Nat × Nat)), (4 ≤ n ∨ vsetDuty ps = none)) ∧
    (∃ (s : State) (p : Nat) (v : Nat) (l : List Nat), p < 40 ∧ (dcrAt25 v (signedOf 12 (s.fld F_PW_P_TEMP_TL (8 + p))) :: (s.phase p).dcrs).take 64 = l ∧ l.length = 64) ∧
    (∃ (s : State) (p : Nat) (v : Nat) (l : List Nat), p < 40 ∧ (dcrAt25 v (signedOf 12 (s.fld F_PW_P_TEMP_TL (8 + p))) :: (s.phase p).dcrs).take 64 = l ∧ l.length < 64) ∧
    (∃ (p : Nat), 40 ≤ p) ∧
    (∃ (s : State) (p : Nat), p < 40 ∧ s.phaseSt p = 0 ∧ (s.fld F_PW_DIAG_GAIN : Int) * ((s.loop (loopOf p)).u.headD {}).m * 2 ^ 20 < 100 * (magnitude (s.phase p).trim : Int) * 2 ^ ((s.loop (loopOf p)).u.headD {}).s) ∧
    (∃ (s : State) (p : Nat), (40 ≤ p ∨ s.phaseSt p ≠ 0 ∨ 100 * (magnitude (s.phase p).trim : Int) * 2 ^ ((s.loop (loopOf p)).u.headD {}).s ≤ (s.fld F_PW_DIAG_GAIN : Int) * ((s.loop (loopOf p)).u.headD {}).m * 2 ^ 20)) :=
  ⟨⟨{}, 4, by decide +kernel⟩,
    ⟨3, [(10000, 900), (10000, 5000), (10000, 5000), (10000, 9100)], 4096, by decide +kernel⟩,
    ⟨3, [(4999, 2500), (4999, 2500), (4999, 2500), (4999, 2500)], by decide +kernel⟩,
    ⟨{ ({} : State) with regs := [(F_PW_P_DCR_CAL.key 9, 200), (F_PW_DIAG_DCR.key 0, 10), (F_PW_P_TEMP_TL.key 9, 200)], pw := { phases := [(1, { dcrs := List.replicate 63 240 })] } }, 1, 176, 176 :: List.replicate 63 240, by decide +kernel⟩,
    ⟨{ ({} : State) with regs := [(F_PW_P_TEMP_TL.key 9, 200)] }, 1, 180, [180], by decide +kernel⟩,
    ⟨40, by decide +kernel⟩,
    ⟨{ ({} : State) with regs := [(F_PW_P_STATUS_STATE.key 8, 0), (F_PW_DIAG_GAIN.key 0, 10)], pw := { phases := [(0, { trim := -5 })] } }, 0, by decide +kernel⟩,
    ⟨{ ({} : State) with regs := [(F_PW_P_STATUS_STATE.key 8, 1), (F_PW_DIAG_GAIN.key 0, 10)], pw := { phases := [(0, { trim := -5 })] } }, 0, by decide +kernel⟩⟩

theorem test_meets_rail_commands_complete_1 :
    (∃ (s : State) (p : Port) (k : Nat), s.answers p (bar0 19 0x1008) = true ∧ (pfOrFw p || p == .bmc) = true ∧ k < 8 ∧ s.loopSt k = 0 ∧ ¬(s.fld F_PW_L_CFG_ORDER k = 0 ∧ (s.fld (F_PW_L_B0_COEF.at 3) k ≠ 0 ∨ s.fld (F_PW_L_B0_COEF.at 6) k ≠ 0)) ∧ ¬(s.fld F_PW_L_CFG_SRC k = 1 ∧ (kvGet {} s.pw.vset (s.fld F_PW_L_CFG_VSEL k)).valid = false)) ∧
    (∃ (s : State) (p : Port) (k : Nat), s.answers p (bar0 19 0x1008) = true ∧ (pfOrFw p || p == .bmc) = true ∧ k < 8 ∧ s.loopSt k = 0 ∧ ¬(s.fld F_PW_L_CFG_ORDER k = 0 ∧ (s.fld (F_PW_L_B0_COEF.at 3) k ≠ 0 ∨ s.fld (F_PW_L_B0_COEF.at 6) k ≠ 0)) ∧ ¬(s.fld F_PW_L_CFG_SRC k = 1 ∧ (kvGet {} s.pw.vset (s.fld F_PW_L_CFG_VSEL k)).valid = false)) ∧
    (∃ (s : State) (p : Port) (k : Nat), s.answers p (bar0 19 0x1008) = true ∧ (pfOrFw p || p == .bmc) = true ∧ k < 8 ∧ s.loopSt k ≠ 0) ∧
    (∃ (s : State) (p : Port) (k : Nat), s.answers p (bar0 19 0x1008) = true ∧ (pfOrFw p || p == .bmc) = true ∧ k < 8 ∧ s.loopSt k = 0 ∧ (s.fld F_PW_L_CFG_ORDER k = 0 ∧ (s.fld (F_PW_L_B0_COEF.at 3) k ≠ 0 ∨ s.fld (F_PW_L_B0_COEF.at 6) k ≠ 0))) ∧
    (∃ (s : State) (p : Port) (k : Nat), s.answers p (bar0 19 0x1008) = true ∧ (pfOrFw p || p == .bmc) = true ∧ k < 8 ∧ s.loopSt k = 0 ∧ ¬(s.fld F_PW_L_CFG_ORDER k = 0 ∧ (s.fld (F_PW_L_B0_COEF.at 3) k ≠ 0 ∨ s.fld (F_PW_L_B0_COEF.at 6) k ≠ 0)) ∧ (s.fld F_PW_L_CFG_SRC k = 1 ∧ (kvGet {} s.pw.vset (s.fld F_PW_L_CFG_VSEL k)).valid = false)) ∧
    (∃ (s : State) (p : Port) (k : Nat), s.answers p (bar0 19 0x1008) = true ∧ (pfOrFw p || p == .bmc) = true ∧ 8 ≤ k) ∧
    (∃ (s : State) (p : Port), s.answers p (bar0 19 0x1008) = true ∧ pfOrFw p = false ∧ p ≠ .bmc) ∧
    (∃ (s : State) (p : Port), s.answers p (bar0 19 0x1008) = false) :=
  ⟨⟨{ ({} : State) with regs := [(F_TOP_BOOT_STATUS_STAGE.key 0, 3)], pw := { phases := [(38, { back := true })] } }, .bmc, 6, by decide +kernel⟩,
    ⟨{ ({} : State) with regs := [(F_TOP_BOOT_STATUS_STAGE.key 0, 3)] }, .pf, 0, by decide +kernel⟩,
    ⟨{ ({} : State) with regs := [(F_TOP_BOOT_STATUS_STAGE.key 0, 3), (F_PW_L_STATUS_STATE.key 6, 2)] }, .pf, 6, by decide +kernel⟩,
    ⟨{ ({} : State) with regs := [(F_TOP_BOOT_STATUS_STAGE.key 0, 3), ((F_PW_L_B0_COEF.at 3).key 6, 1)] }, .pf, 6, by decide +kernel⟩,
    ⟨{ ({} : State) with regs := [(F_TOP_BOOT_STATUS_STAGE.key 0, 3), (F_PW_L_CFG_SRC.key 6, 1)] }, .fw, 6, by decide +kernel⟩,
    ⟨{ ({} : State) with regs := [(F_TOP_BOOT_STATUS_STAGE.key 0, 3)] }, .pf, 8, by decide +kernel⟩,
    ⟨running, .vf 3, by decide +kernel⟩,
    ⟨{}, .pf, by decide +kernel⟩⟩

theorem test_meets_rail_commands_complete_2 :
    (∃ (s : State) (p : Port) (k : Nat), s.answers p (bar0 19 0x1008) = true ∧ (pfOrFw p || p == .bmc) = true ∧ k < 8 ∧ (s.loopSt k = 1 ∨ s.loopSt k = 2) ∧ k ≠ 0 ∧ k ≠ 2 ∧ k ≠ 7 ∧ s.loopInUse k = false) ∧
    (∃ (s : State) (p : Port) (k : Nat), s.answers p (bar0 19 0x1008) = true ∧ (pfOrFw p || p == .bmc) = true ∧ k < 8 ∧ (s.loopSt k = 1 ∨ s.loopSt k = 2) ∧ k ≠ 0 ∧ k ≠ 2 ∧ k ≠ 7 ∧ s.loopInUse k = true) ∧
    (∃ (s : State) (p : Port) (k : Nat), s.answers p (bar0 19 0x1008) = true ∧ (pfOrFw p || p == .bmc) = true ∧ k < 8 ∧ (k = 0 ∨ k = 2 ∨ k = 7 ∨ (s.loopSt k ≠ 1 ∧ s.loopSt k ≠ 2))) ∧
    (∃ (s : State) (p : Port) (k : Nat), s.answers p (bar0 19 0x1008) = true ∧ (pfOrFw p || p == .bmc) = true ∧ 8 ≤ k) ∧
    (∃ (s : State) (p : Port), s.answers p (bar0 19 0x1008) = true ∧ pfOrFw p = false ∧ p ≠ .bmc) ∧
    (∃ (s : State) (p : Port), s.answers p (bar0 19 0x1008) = false) ∧
    (∃ (s : State) (p : Port) (k : Nat), s.answers p (bar0 19 0x1008) = true ∧ (pfOrFw p || p == .bmc) = true ∧ k < 8 ∧ s.loopSt k = 3) ∧
    (∃ (s : State) (p : Port) (k : Nat), s.answers p (bar0 19 0x1008) = true ∧ (pfOrFw p || p == .bmc) = true ∧ k < 8 ∧ s.loopSt k ≠ 3) :=
  ⟨⟨{ ({} : State) with regs := [(F_TOP_BOOT_STATUS_STAGE.key 0, 3), (F_PW_L_STATUS_STATE.key 5, 2)] }, .fw, 5, by decide +kernel⟩,
    ⟨{ ({} : State) with regs := [(F_TOP_BOOT_STATUS_STAGE.key 0, 3), (F_PW_L_STATUS_STATE.key 5, 2), (F_HB_STATUS_SET.key 0, 15)] }, .fw, 5, by decide +kernel⟩,
    ⟨{ ({} : State) with regs := [(F_TOP_BOOT_STATUS_STAGE.key 0, 3), (F_PW_L_STATUS_STATE.key 7, 2)] }, .pf, 7, by decide +kernel⟩,
    ⟨{ ({} : State) with regs := [(F_TOP_BOOT_STATUS_STAGE.key 0, 3)] }, .pf, 8, by decide +kernel⟩,
    ⟨running, .vf 3, by decide +kernel⟩,
    ⟨{}, .pf, by decide +kernel⟩,
    ⟨{ ({} : State) with regs := [(F_TOP_BOOT_STATUS_STAGE.key 0, 3), (F_PW_STATUS_FAULT.key 0, 129), (F_PW_L_STATUS_STATE.key 7, 3)] }, .pf, 7, by decide +kernel⟩,
    ⟨{ ({} : State) with regs := [(F_TOP_BOOT_STATUS_STAGE.key 0, 3)] }, .pf, 7, by decide +kernel⟩⟩

theorem test_meets_rail_commands_complete_3 :
    (∃ (s : State) (p : Port) (k : Nat), s.answers p (bar0 19 0x1008) = true ∧ (pfOrFw p || p == .bmc) = true ∧ 8 ≤ k) ∧
    (∃ (s : State) (p : Port), s.answers p (bar0 19 0x1008) = true ∧ pfOrFw p = false ∧ p ≠ .bmc) ∧
    (∃ (s : State) (p : Port), s.answers p (bar0 19 0x1008) = false) ∧
    (∃ (s : State) (p : Port) (k : Nat), s.answers p (bar0 19 0x1014) = true ∧ (pfOrFw p || p == .bmc) = true ∧ k < 40 ∧ s.loopSt (loopOf k) = 0 ∧ s.phaseSt k = 2) ∧
    (∃ (s : State) (p : Port) (k : Nat), s.answers p (bar0 19 0x1014) = true ∧ (pfOrFw p || p == .bmc) = true ∧ (40 ≤ k ∨ s.loopSt (loopOf k) ≠ 0 ∨ s.phaseSt k ≠ 2)) ∧
    (∃ (s : State) (p : Port), s.answers p (bar0 19 0x1014) = true ∧ pfOrFw p = false ∧ p ≠ .bmc) ∧
    (∃ (s : State) (p : Port), s.answers p (bar0 19 0x1014) = false) ∧
    (∃ (s : State) (z : List Int), s.pw.due = true ∧ s.pw.run = none ∧ s.fld F_PW_STATUS_PWR_FAULT = 0 ∧ z.all (fun d => decide (d < 100)) = true) :=
  ⟨⟨{ ({} : State) with regs := [(F_TOP_BOOT_STATUS_STAGE.key 0, 3)] }, .pf, 8, by decide +kernel⟩,
    ⟨running, .vf 3, by decide +kernel⟩,
    ⟨{}, .pf, by decide +kernel⟩,
    ⟨{ ({} : State) with regs := [(F_TOP_BOOT_STATUS_STAGE.key 0, 3), (F_PW_P_STATUS_STATE.key 47, 2), (F_PW_P_STATUS_DIAG.key 47, 3)] }, .pf, 39, by decide +kernel⟩,
    ⟨{ ({} : State) with regs := [(F_TOP_BOOT_STATUS_STAGE.key 0, 3)] }, .pf, 40, by decide +kernel⟩,
    ⟨running, .vf 3, by decide +kernel⟩,
    ⟨{}, .pf, by decide +kernel⟩,
    ⟨{ ({} : State) with regs := [], pw := { due := true } }, List.replicate 24 99, by decide +kernel⟩⟩

theorem test_meets_rail_commands_complete_4 :
    (∃ (s : State) (z : List Int), (s.pw.due = false ∨ s.pw.run ≠ none ∨ s.fld F_PW_STATUS_PWR_FAULT ≠ 0 ∨ z.all (fun d => decide (d < 100)) = false)) ∧
    (∃ (s : State), s.pw.run.isSome = true) ∧
    (∃ (s : State), s.pw.run = none) ∧
    (∃ (s : State), s.pw.run = none ∧ 1 ≤ s.pw.failed ∧ s.pw.failed < 3 ∧ s.pw.due = false ∧ s.fld F_PW_STATUS_PWR_FAULT = 0) ∧
    (∃ (s : State), (s.pw.run ≠ none ∨ s.pw.failed = 0 ∨ 3 ≤ s.pw.failed ∨ s.pw.due = true ∨ s.fld F_PW_STATUS_PWR_FAULT ≠ 0)) ∧
    (∃ (s : State), s.fld F_PW_STATUS_PWR_FAULT ≠ 1 ∧ s.ck.power ≠ 2 ∧ s.ck.power ≠ 4) ∧
    (∃ (s : State), s.fld F_PW_STATUS_PWR_FAULT ≠ 1 ∧ s.ck.power ≠ 2 ∧ s.ck.power ≠ 4) ∧
    (∃ (s : State), s.fld F_PW_STATUS_PWR_FAULT ≠ 1 ∧ (s.ck.power = 2 ∨ s.ck.power = 4)) :=
  ⟨⟨{ ({} : State) with regs := [], pw := { due := true } }, [100], by decide +kernel⟩,
    ⟨{ ({} : State) with regs := [(F_PW_L_STATUS_STATE.key 0, 2), (F_PW_L_STATUS_STATE.key 2, 1)], pw := { run := some 1 } }, by decide +kernel⟩,
    ⟨{}, by decide +kernel⟩,
    ⟨{ ({} : State) with regs := [], pw := { failed := 2 } }, by decide +kernel⟩,
    ⟨{ ({} : State) with regs := [], pw := { failed := 3 } }, by decide +kernel⟩,
    ⟨{ ({} : State) with regs := [(F_TOP_BOOT_STATUS_STAGE.key 0, 3), (F_PW_L_STATUS_STATE.key 0, 2)] }, by decide +kernel⟩,
    ⟨{ ({} : State) with ck := { power := 1 } }, by decide +kernel⟩,
    ⟨{ ({} : State) with ck := { power := 2 } }, by decide +kernel⟩⟩

theorem test_meets_rail_commands_complete_5 :
    (∃ (s : State), s.fld F_PW_STATUS_PWR_FAULT = 1) ∧
    (∃ (s : State), s.fld F_PW_STATUS_PWR_FAULT ≠ 0 ∧ (s.pw.due = true ∨ 1 < s.ck.power)) ∧
    (∃ (s : State), s.fld F_PW_STATUS_PWR_FAULT ≠ 0 ∧ s.pw.due = false ∧ s.ck.power = 1 ∧ s.ck.wake ≠ 0) ∧
    (∃ (s : State), s.fld F_PW_STATUS_PWR_FAULT ≠ 0 ∧ s.pw.due = false ∧ s.ck.power ≤ 1 ∧ (s.ck.power = 0 ∨ s.ck.wake = 0)) ∧
    (∃ (s : State), s.fld F_PW_STATUS_PWR_FAULT = 0) ∧
    (∃ (s : State), s.answers .bmc (bar0 19 0xC) = true ∧ s.fld F_PW_STATUS_PWR_FAULT ≠ 1 ∧ (s.fld F_PW_STATUS_RETRY_WAIT = 1 ∨ 3 ≤ s.pw.failed)) ∧
    (∃ (s : State), s.answers .bmc (bar0 19 0xC) = true ∧ s.fld F_PW_STATUS_PWR_FAULT ≠ 1 ∧ s.fld F_PW_STATUS_RETRY_WAIT ≠ 1 ∧ s.pw.failed < 3) ∧
    (∃ (s : State) (p : Port), s.answers p (bar0 19 0xC) = true ∧ (p ≠ .bmc ∨ s.fld F_PW_STATUS_PWR_FAULT = 1)) :=
  ⟨⟨{ ({} : State) with regs := [(F_PW_STATUS_PWR_FAULT.key 0, 1)] }, by decide +kernel⟩,
    ⟨{ ({} : State) with regs := [(F_PW_STATUS_PWR_FAULT.key 0, 1)], pw := { due := true } }, by decide +kernel⟩,
    ⟨{ ({} : State) with regs := [(F_PW_STATUS_PWR_FAULT.key 0, 1)], ck := { power := 1, wake := 1 } }, by decide +kernel⟩,
    ⟨{ ({} : State) with regs := [(F_PW_STATUS_PWR_FAULT.key 0, 1)], ck := { power := 1 } }, by decide +kernel⟩,
    ⟨{}, by decide +kernel⟩,
    ⟨{ ({} : State) with regs := [(F_PW_STATUS_RETRY_WAIT.key 0, 1), (F_PW_L_STATUS_STATE.key 0, 4)] }, by decide +kernel⟩,
    ⟨{}, by decide +kernel⟩,
    ⟨running, .pf, by decide +kernel⟩⟩

theorem test_meets_rail_commands_complete_6 :
    (∃ (s : State) (p : Port), s.answers p (bar0 19 0xC) = false) :=
  ⟨{}, .pf, by decide +kernel⟩

theorem test_meets_power_states_complete_1 :
    (∃ (s : State) (p : Port), s.answers p pwrCtlOff = true ∧ (pfOrFw p || p == .bmc) = true ∧ s.fld F_CK_PWR_STATUS_ENTERING ≠ 1 ∧ s.ck.power = 0 ∧ s.q.descs = [] ∧ s.bt.resetAt = none ∧ s.er.action ≠ .reset ∧ s.s3Refused = 0) ∧
    (∃ (s : State) (p : Port), s.answers p pwrCtlOff = true ∧ (pfOrFw p || p == .bmc) = true ∧ s.fld F_CK_PWR_STATUS_ENTERING ≠ 1 ∧ s.ck.power = 0 ∧ s.q.descs = [] ∧ s.bt.resetAt = none ∧ s.er.action ≠ .reset ∧ s.s3Refused ≠ 0) ∧
    (∃ (s : State) (p : Port), s.answers p pwrCtlOff = true ∧ (pfOrFw p || p == .bmc) = true ∧ s.fld F_CK_PWR_STATUS_ENTERING ≠ 1 ∧ s.ck.power = 0 ∧ (s.q.descs ≠ [] ∨ s.bt.resetAt ≠ none ∨ s.er.action = .reset)) ∧
    (∃ (s : State) (p : Port), s.answers p pwrCtlOff = true ∧ (pfOrFw p || p == .bmc) = true ∧ s.fld F_CK_PWR_STATUS_ENTERING ≠ 1 ∧ s.ck.power = 0 ∧ (s.q.descs ≠ [] ∨ s.bt.resetAt ≠ none ∨ s.er.action = .reset)) ∧
    (∃ (s : State) (p : Port), s.answers p pwrCtlOff = true ∧ (pfOrFw p || p == .bmc) = true ∧ (s.fld F_CK_PWR_STATUS_ENTERING = 1 ∨ s.ck.power ≠ 0)) ∧
    (∃ (s : State) (p : Port), s.answers p pwrCtlOff = true ∧ pfOrFw p = false ∧ p ≠ .bmc) ∧
    (∃ (s : State) (p : Port), s.answers p pwrCtlOff = false) ∧
    (∃ (s : State) (p : Port), s.answers p pwrCtlOff = true ∧ (pfOrFw p || p == .bmc) = true ∧ s.fld F_CK_PWR_STATUS_ENTERING ≠ 1 ∧ s.ck.power = 0 ∧ (s.q.descs ≠ [] ∨ s.bt.resetAt ≠ none ∨ s.er.action = .reset)) :=
  ⟨⟨{ ({} : State) with regs := [(F_TOP_BOOT_STATUS_STAGE.key 0, 3)], ks := [(70, { st := .active })] }, .pf, by decide +kernel⟩,
    ⟨{ ({} : State) with regs := [(F_TOP_BOOT_STATUS_STAGE.key 0, 3), (F_TOP_CAL_STATUS_WRITE.key 0, 1)] }, .pf, by decide +kernel⟩,
    ⟨{ ({} : State) with regs := [(F_TOP_BOOT_STATUS_STAGE.key 0, 3)], q := { descs := [(3, cmd 0x20 0 0 3)] } }, .bmc, by decide +kernel⟩,
    ⟨{ ({} : State) with regs := [(F_TOP_BOOT_STATUS_STAGE.key 0, 3)], bt := { resetAt := some 9 } }, .pf, by decide +kernel⟩,
    ⟨{ ({} : State) with regs := [(F_TOP_BOOT_STATUS_STAGE.key 0, 3), (F_CK_PWR_STATUS_ENTERING.key 0, 1)] }, .pf, by decide +kernel⟩,
    ⟨running, .vf 3, by decide +kernel⟩,
    ⟨{}, .pf, by decide +kernel⟩,
    ⟨{ ({} : State) with regs := [(F_TOP_BOOT_STATUS_STAGE.key 0, 3)], q := { descs := [(3, cmd 0x20 0 0 3)] } }, .fw, by decide +kernel⟩⟩

theorem test_meets_power_states_complete_2 :
    (∃ (s : State) (p : Port), s.answers p pwrCtlOff = true ∧ (pfOrFw p || p == .bmc) = true ∧ s.fld F_CK_PWR_STATUS_ENTERING ≠ 1 ∧ s.ck.power = 0 ∧ (s.q.descs ≠ [] ∨ s.bt.resetAt ≠ none ∨ s.er.action = .reset)) ∧
    (∃ (s : State) (p : Port), s.answers p pwrCtlOff = true ∧ (pfOrFw p || p == .bmc) = true ∧ (s.fld F_CK_PWR_STATUS_ENTERING = 1 ∨ s.ck.power ≠ 0)) ∧
    (∃ (s : State) (p : Port), s.answers p pwrCtlOff = true ∧ pfOrFw p = false ∧ p ≠ .bmc) ∧
    (∃ (s : State) (p : Port), s.answers p pwrCtlOff = false) ∧
    (∃ (s : State) (p : Port), s.answers p pwrCtlOff = true ∧ (pfOrFw p || p == .bmc) = true ∧ s.fld F_CK_PWR_STATUS_ENTERING ≠ 1 ∧ s.ck.power = 0 ∧ s.q.descs = [] ∧ s.bt.resetAt = none ∧ s.er.action ≠ .reset ∧ s.fld F_TOP_CAL_STATUS_WRITE ≠ 1 ∧ s.fld F_TOP_ADMIN_STATUS_HDR_WRITE ≠ 1) ∧
    (∃ (s : State) (p : Port), s.answers p pwrCtlOff = true ∧ (pfOrFw p || p == .bmc) = true ∧ s.fld F_CK_PWR_STATUS_ENTERING ≠ 1 ∧ s.ck.power = 0 ∧ s.q.descs = [] ∧ s.bt.resetAt = none ∧ s.er.action ≠ .reset ∧ (s.fld F_TOP_CAL_STATUS_WRITE = 1 ∨ s.fld F_TOP_ADMIN_STATUS_HDR_WRITE = 1)) ∧
    (∃ (s : State), s.ck.since + 100000000 ≤ s.now ∧ s.bt.resetAt = none ∧ s.er.action ≠ .reset ∧ s.ck.entry = 3 ∧ s.s3Refused ≠ 0) ∧
    (∃ (s : State), s.ck.since + 100000000 ≤ s.now ∧ s.bt.resetAt = none ∧ s.er.action ≠ .reset ∧ s.ck.entry = 3 ∧ s.s3Refused = 0) :=
  ⟨⟨{ ({} : State) with regs := [(F_TOP_BOOT_STATUS_STAGE.key 0, 3)], bt := { resetAt := some 9 } }, .pf, by decide +kernel⟩,
    ⟨{ ({} : State) with regs := [(F_TOP_BOOT_STATUS_STAGE.key 0, 3), (F_CK_PWR_STATUS_ENTERING.key 0, 1)] }, .pf, by decide +kernel⟩,
    ⟨running, .vf 3, by decide +kernel⟩,
    ⟨{}, .pf, by decide +kernel⟩,
    ⟨{ ({} : State) with regs := [(F_TOP_BOOT_STATUS_STAGE.key 0, 3)], mem := [(5, 1)] }, .bmc, by decide +kernel⟩,
    ⟨{ ({} : State) with regs := [(F_TOP_BOOT_STATUS_STAGE.key 0, 3), (F_TOP_CAL_STATUS_WRITE.key 0, 1)] }, .pf, by decide +kernel⟩,
    ⟨{ ({} : State) with now := 1000000000000, regs := [], ck := { entry := 3 }, q := { descs := [(3, cmd 0x20 0 0 3)] } }, by decide +kernel⟩,
    ⟨{ ({} : State) with now := 1000000000000, regs := [], ck := { entry := 3 } }, by decide +kernel⟩⟩

theorem test_meets_power_states_complete_3 :
    (∃ (s : State), s.ck.since + 100000000 ≤ s.now ∧ s.bt.resetAt = none ∧ s.er.action ≠ .reset ∧ s.ck.entry = 5 ∧ s.fld F_TOP_CAL_STATUS_WRITE ≠ 1 ∧ s.fld F_TOP_ADMIN_STATUS_HDR_WRITE ≠ 1) ∧
    (∃ (s : State), s.ck.since + 100000000 ≤ s.now ∧ s.bt.resetAt = none ∧ s.er.action ≠ .reset ∧ s.ck.entry = 5 ∧ (s.fld F_TOP_CAL_STATUS_WRITE = 1 ∨ s.fld F_TOP_ADMIN_STATUS_HDR_WRITE = 1)) ∧
    (∃ (s : State), (s.now < s.ck.since + 100000000 ∨ s.bt.resetAt ≠ none ∨ s.er.action = .reset ∨ (s.ck.entry ≠ 3 ∧ s.ck.entry ≠ 5))) ∧
    (∃ (s : State), s.answers .bmc pwrCtlOff = true ∧ s.fld F_CK_PWR_STATUS_ENTERING ≠ 1 ∧ s.ck.entry ≠ 3 ∧ s.ck.power = 1 ∧ s.ck.wake = 0 ∧ (s.fld F_PW_STATUS_RETRY_WAIT = 1 ∨ (s.fld F_PW_STATUS_PWR_FAULT ≠ 1 ∧ ∀ k ∈ List.range 8, s.loopSt k ≠ 4))) ∧
    (∃ (s : State), s.answers .bmc pwrCtlOff = true ∧ s.fld F_CK_PWR_STATUS_ENTERING ≠ 1 ∧ s.ck.entry ≠ 3 ∧ s.ck.power = 1 ∧ s.ck.wake = 0 ∧ s.fld F_PW_STATUS_RETRY_WAIT ≠ 1 ∧ (s.fld F_PW_STATUS_PWR_FAULT = 1 ∨ ∃ k ∈ List.range 8, s.loopSt k = 4)) ∧
    (∃ (s : State), s.answers .bmc pwrCtlOff = true ∧ s.fld F_CK_PWR_STATUS_ENTERING ≠ 1 ∧ (s.ck.power ≠ 1 ∨ (s.ck.entry ≠ 3 ∧ s.ck.wake ≠ 0))) ∧
    (∃ (s : State) (p : Port), s.answers p pwrCtlOff = true ∧ (pfOrFw p || p == .bmc) = true ∧ (p ≠ .bmc ∨ s.fld F_CK_PWR_STATUS_ENTERING = 1)) ∧
    (∃ (s : State) (p : Port), s.answers p pwrCtlOff = true ∧ pfOrFw p = false ∧ p ≠ .bmc) :=
  ⟨⟨{ ({} : State) with now := 1000000000000, regs := [], ck := { entry := 5 }, q := { descs := [(3, cmd 0x20 0 0 3)] } }, by decide +kernel⟩,
    ⟨{ ({} : State) with now := 1000000000000, regs := [(F_TOP_CAL_STATUS_WRITE.key 0, 1)], ck := { entry := 5 } }, by decide +kernel⟩,
    ⟨{}, by decide +kernel⟩,
    ⟨{ ({} : State) with regs := [], ck := { power := 1 } }, by decide +kernel⟩,
    ⟨{ ({} : State) with regs := [(F_PW_STATUS_PWR_FAULT.key 0, 1)], ck := { power := 1 } }, by decide +kernel⟩,
    ⟨running, by decide +kernel⟩,
    ⟨running, .pf, by decide +kernel⟩,
    ⟨running, .vf 3, by decide +kernel⟩⟩

theorem test_meets_power_states_complete_4 :
    (∃ (s : State) (p : Port), s.answers p pwrCtlOff = false) ∧
    (∃ (s : State), s.ck.wakeOut = false ∧ s.ck.entry ≠ 3 ∧ s.ck.power = 1 ∧ s.ck.wake = 0 ∧ (s.fld F_PW_STATUS_RETRY_WAIT = 1 ∨ (s.fld F_PW_STATUS_PWR_FAULT ≠ 1 ∧ ∀ k ∈ List.range 8, s.loopSt k ≠ 4))) ∧
    (∃ (s : State), s.ck.wakeOut = false ∧ s.ck.entry ≠ 3 ∧ s.ck.power = 1 ∧ s.ck.wake = 0 ∧ s.fld F_PW_STATUS_RETRY_WAIT ≠ 1 ∧ (s.fld F_PW_STATUS_PWR_FAULT = 1 ∨ ∃ k ∈ List.range 8, s.loopSt k = 4)) ∧
    (∃ (s : State), s.ck.wakeOut = false ∧ s.ck.entry = 3) ∧
    (∃ (s : State), (s.ck.wakeOut = true ∨ (s.ck.entry ≠ 3 ∧ (s.ck.power ≠ 1 ∨ s.ck.wake ≠ 0)))) ∧
    (∃ (s : State), s.fld F_CK_S3_TIMER_SECONDS ≠ 0 ∧ s.ck.since + s.fld F_CK_S3_TIMER_SECONDS * 1000000000 ≤ s.now ∧ s.ck.entry ≠ 3 ∧ s.ck.power = 1 ∧ s.ck.wake = 0 ∧ (s.fld F_PW_STATUS_RETRY_WAIT = 1 ∨ (s.fld F_PW_STATUS_PWR_FAULT ≠ 1 ∧ ∀ k ∈ List.range 8, s.loopSt k ≠ 4))) ∧
    (∃ (s : State), s.fld F_CK_S3_TIMER_SECONDS ≠ 0 ∧ s.ck.since + s.fld F_CK_S3_TIMER_SECONDS * 1000000000 ≤ s.now ∧ s.ck.entry ≠ 3 ∧ s.ck.power = 1 ∧ s.ck.wake = 0 ∧ s.fld F_PW_STATUS_RETRY_WAIT ≠ 1 ∧ (s.fld F_PW_STATUS_PWR_FAULT = 1 ∨ ∃ k ∈ List.range 8, s.loopSt k = 4)) ∧
    (∃ (s : State), (s.fld F_CK_S3_TIMER_SECONDS = 0 ∨ s.now < s.ck.since + s.fld F_CK_S3_TIMER_SECONDS * 1000000000 ∨ s.ck.power ≠ 1 ∨ (s.ck.entry ≠ 3 ∧ s.ck.wake ≠ 0))) :=
  ⟨⟨{}, .pf, by decide +kernel⟩,
    ⟨{ ({} : State) with regs := [], ck := { power := 1 } }, by decide +kernel⟩,
    ⟨{ ({} : State) with regs := [(F_PW_STATUS_PWR_FAULT.key 0, 1)], ck := { power := 1 } }, by decide +kernel⟩,
    ⟨{ ({} : State) with regs := [], ck := { entry := 3 } }, by decide +kernel⟩,
    ⟨{}, by decide +kernel⟩,
    ⟨{ ({} : State) with now := 1000000000000, regs := [(F_CK_S3_TIMER_SECONDS.key 0, 5)], ck := { power := 1 } }, by decide +kernel⟩,
    ⟨{ ({} : State) with now := 1000000000000, regs := [(F_CK_S3_TIMER_SECONDS.key 0, 5), (F_PW_STATUS_PWR_FAULT.key 0, 1)], ck := { power := 1 } }, by decide +kernel⟩,
    ⟨{}, by decide +kernel⟩⟩

theorem test_meets_power_states_complete_5 :
    (∃ (s : State), s.ck.power = 1 ∧ s.ck.wake ≠ 0 ∧ s.pw.run = none ∧ (∀ k, k < 8 → s.loopSt k = 2)) ∧
    (∃ (s : State), (s.ck.power ≠ 1 ∨ s.ck.wake = 0 ∨ s.pw.run ≠ none ∨ ∃ k ∈ List.range 8, s.loopSt k ≠ 2)) :=
  ⟨⟨{ ({} : State) with regs := [(F_PW_L_STATUS_STATE.key 0, 2), (F_PW_L_STATUS_STATE.key 1, 2), (F_PW_L_STATUS_STATE.key 2, 2), (F_PW_L_STATUS_STATE.key 3, 2), (F_PW_L_STATUS_STATE.key 4, 2), (F_PW_L_STATUS_STATE.key 5, 2), (F_PW_L_STATUS_STATE.key 6, 2), (F_PW_L_STATUS_STATE.key 7, 2)], ck := { power := 1, wake := 2, retained := [(70, { st := .active })], links := [3] } }, by decide +kernel⟩,
    ⟨{}, by decide +kernel⟩⟩

theorem test_meets_clocks_and_pins_take_effect_1 :
    (∃ (s : State) (k : Nat), 55 ≤ k ∧ k ≤ 57 ∧ 1 ≤ s.fld F_CK_PWR_CFG_DEEPEST ∧ kvGet 0 s.ck.dom k = 0 ∧ s.domainBusy k = false) ∧
    (∃ (s : State) (k : Nat), (k < 55 ∨ 57 < k ∨ s.fld F_CK_PWR_CFG_DEEPEST = 0 ∨ kvGet 0 s.ck.dom k ≠ 0 ∨ s.domainBusy k = true)) ∧
    (∃ (s : State) (k : Nat), kvGet 0 s.ck.dom k = 1) ∧
    (∃ (s : State) (k : Nat), kvGet 0 s.ck.dom k ≠ 1) ∧
    (∃ (s : State), s.fld F_CK_PWR_CFG_DEEPEST = 2 ∧ s.ck.power = 0 ∧ s.q.descs = [] ∧ (∀ k, k < 8 → (s.cluster k).st = 0 ∨ (s.cluster k).st = 4) ∧ (∀ k, k < 20 → s.inService k = false ∨ (targetUnits k).all (fun u => (s.dram u).selfRef || s.unitState u == 4) = true)) ∧
    (∃ (s : State), (s.fld F_CK_PWR_CFG_DEEPEST ≠ 2 ∨ s.ck.power ≠ 0 ∨ s.q.descs ≠ [] ∨ (∃ k ∈ List.range 8, (s.cluster k).st ≠ 0 ∧ (s.cluster k).st ≠ 4) ∨ (∃ k ∈ List.range 20, s.inService k = true ∧ (targetUnits k).all (fun u => (s.dram u).selfRef || s.unitState u == 4) = false))) ∧
    (∃ (s : State) (k : Nat), k < 8 ∧ (s.cluster k).st = 3) ∧
    (∃ (s : State) (k : Nat), (8 ≤ k ∨ (s.cluster k).st ≠ 3)) :=
  ⟨⟨{ ({} : State) with regs := [(F_CK_PWR_CFG_DEEPEST.key 0, 1)] }, 57, by decide +kernel⟩,
    ⟨{ ({} : State) with regs := [(F_CK_PWR_CFG_DEEPEST.key 0, 1)], q := { descs := [(3, cmd 0x50 0 0 0)] } }, 56, by decide +kernel⟩,
    ⟨{ ({} : State) with regs := [], ck := { dom := [(55, 1)] } }, 55, by decide +kernel⟩,
    ⟨{}, 55, by decide +kernel⟩,
    ⟨{ ({} : State) with regs := [(F_CK_PWR_CFG_DEEPEST.key 0, 2)] }, by decide +kernel⟩,
    ⟨{ ({} : State) with regs := [], q := { descs := [(3, cmd 0x50 0 0 0)] } }, by decide +kernel⟩,
    ⟨{ ({} : State) with regs := [], cr := { clusters := [(7, { st := 3 })] } }, 7, by decide +kernel⟩,
    ⟨{}, 7, by decide +kernel⟩⟩

theorem test_meets_clocks_and_pins_take_effect_2 :
    (∃ (s : State) (k : Nat), s.domExists k = true ∧ s.ck.power = 0 ∧ s.domFailed k = false ∧ inSet [45, 46, 50, 59] k = false ∧ 1 ≤ k ∧ k ≤ 8) ∧
    (∃ (s : State) (k : Nat), s.domExists k = true ∧ s.ck.power = 0 ∧ s.domFailed k = false ∧ inSet [45, 46, 50, 59] k = false ∧ 9 ≤ k ∧ k ≤ 16) ∧
    (∃ (s : State) (k : Nat), s.domExists k = true ∧ s.ck.power = 0 ∧ s.domFailed k = false ∧ inSet [45, 46, 50, 59] k = false ∧ 17 ≤ k ∧ k ≤ 32) ∧
    (∃ (s : State) (k : Nat), s.domExists k = true ∧ s.ck.power = 0 ∧ s.domFailed k = false ∧ inSet [45, 46, 50, 59] k = false ∧ 33 ≤ k ∧ k ≤ 44) ∧
    (∃ (s : State) (k : Nat), s.domExists k = true ∧ s.ck.power = 0 ∧ s.domFailed k = false ∧ inSet [45, 46, 50, 59] k = false ∧ 55 ≤ k ∧ k ≤ 58) ∧
    (∃ (s : State) (k : Nat), s.domExists k = true ∧ s.ck.power = 0 ∧ s.domFailed k = false ∧ inSet [45, 46, 50, 59] k = false ∧ (k = 49 ∨ k = 51 ∨ k = 52)) ∧
    (∃ (s : State) (k : Nat), s.domExists k = true ∧ s.ck.power = 0 ∧ s.domFailed k = false ∧ inSet [45, 46, 50, 59] k = false ∧ (k = 0 ∨ k = 47 ∨ k = 48 ∨ k = 53 ∨ k = 54)) ∧
    (∃ (s : State) (k : Nat), (s.domExists k = false ∨ s.ck.power ≠ 0 ∨ s.domFailed k = true ∨ inSet [45, 46, 50, 59] k = true)) :=
  ⟨⟨{ ({} : State) with regs := [], cr := { clusters := [(0, { st := 3 })] } }, 1, by decide +kernel⟩,
    ⟨{ ({} : State) with regs := [(F_HB_PC_STATUS_STATE.key 15, 2)] }, 9, by decide +kernel⟩,
    ⟨{ ({} : State) with regs := [(F_MC_CH_STATUS_STATE.key 15, 2)] }, 32, by decide +kernel⟩,
    ⟨{ ({} : State) with regs := [], lk := { links := [(47, { st := .active })] } }, 44, by decide +kernel⟩,
    ⟨{ ({} : State) with regs := [] }, 58, by decide +kernel⟩,
    ⟨{ ({} : State) with regs := [(F_PW_L_STATUS_STATE.key 0, 2)] }, 51, by decide +kernel⟩,
    ⟨{}, 54, by decide +kernel⟩,
    ⟨{}, 60, by decide +kernel⟩⟩

theorem test_meets_clocks_and_pins_take_effect_3 :
    (∃ (s : State) (k : Nat), kvGet 0 s.ck.dom k = 3 ∧ 55 ≤ k ∧ k ≤ 58) ∧
    (∃ (s : State) (k : Nat), kvGet 0 s.ck.dom k = 3 ∧ 55 ≤ k ∧ k ≤ 58) ∧
    (∃ (s : State), kvGet 0 s.ck.dom 58 = 3) ∧
    (∃ (s : State) (k : Nat), kvGet 0 s.ck.dom k = 3 ∧ k = 55) ∧
    (∃ (s : State) (d : Nat), kvGet 0 s.ck.dom 56 = 3 ∧ s.pl.running = some d ∧ (s.desc? d).isSome = true) ∧
    (∃ (s : State), kvGet 0 s.ck.dom 56 = 3 ∧ s.pl.running = none) ∧
    (∃ (s : State), kvGet 0 s.ck.dom 57 = 3) ∧
    (∃ (s : State) (k : Nat), (kvGet 0 s.ck.dom k ≠ 3 ∨ k < 55 ∨ 58 < k)) :=
  ⟨⟨{ ({} : State) with regs := [], ck := { dom := [(58, 3)], fallback := true } }, 58, by decide +kernel⟩,
    ⟨{ ({} : State) with regs := [], ck := { dom := [(55, 3)] } }, 55, by decide +kernel⟩,
    ⟨{ ({} : State) with regs := [], ck := { dom := [(58, 3)] } }, by decide +kernel⟩,
    ⟨{ ({} : State) with regs := [], ck := { dom := [(55, 3)] } }, 55, by decide +kernel⟩,
    ⟨{ withDesc 3 { cmd 0x50 0 0 0 with stage := .exec } with ck := { dom := [(56, 3)] }, pl := { running := some 3 } }, 3, by decide +kernel⟩,
    ⟨{ ({} : State) with regs := [], ck := { dom := [(56, 3)] } }, by decide +kernel⟩,
    ⟨{ ({} : State) with regs := [], ck := { dom := [(57, 3)] } }, by decide +kernel⟩,
    ⟨{}, 55, by decide +kernel⟩⟩

theorem test_meets_clocks_and_pins_take_effect_4 :
    (∃ (s : State), s.ck.power ≤ 1) ∧
    (∃ (s : State), 1 < s.ck.power) ∧
    (∃ (s : State), s.ck.perst = false ∧ s.ck.power = 0 ∧ s.fld F_TOP_BOOT_STATUS_STAGE ≠ 0) ∧
    (∃ (s : State), s.ck.perst = false ∧ s.ck.power = 1 ∧ s.fld F_TOP_BOOT_STATUS_STAGE ≠ 0) ∧
    (∃ (s : State), s.ck.perst = false ∧ (2 ≤ s.ck.power ∨ s.fld F_TOP_BOOT_STATUS_STAGE = 0)) ∧
    (∃ (s : State), s.ck.perst = true) ∧
    (∃ (s : State), s.ck.perst = true) ∧
    (∃ (s : State), s.ck.perst = true) :=
  ⟨⟨{ ({} : State) with regs := [(F_PW_L_STATUS_STATE.key 0, 2)] }, by decide +kernel⟩,
    ⟨{ ({} : State) with regs := [], ck := { power := 2 } }, by decide +kernel⟩,
    ⟨{ ({} : State) with regs := [(F_TOP_BOOT_STATUS_STAGE.key 0, 3)], hp := { ide := [(0, 1)] } }, by decide +kernel⟩,
    ⟨{ ({} : State) with regs := [(F_TOP_BOOT_STATUS_STAGE.key 0, 3)], ck := { power := 1 } }, by decide +kernel⟩,
    ⟨{}, by decide +kernel⟩,
    ⟨{ ({} : State) with regs := [], ck := { perst := true } }, by decide +kernel⟩,
    ⟨{ ({} : State) with regs := [], ck := { perst := true, wakeOut := true } }, by decide +kernel⟩,
    ⟨{ ({} : State) with regs := [], ck := { perst := true, power := 1 } }, by decide +kernel⟩⟩

theorem test_meets_clocks_and_pins_take_effect_5 :
    (∃ (s : State), s.ck.perst = true) ∧
    (∃ (s : State), s.ck.perst = false) ∧
    (∃ (s : State), s.ck.power ≠ 4) ∧
    (∃ (s : State), s.ck.power = 4) ∧
    (∃ (s : State) (n : Nat) (l : List Nat), n < 60 ∧ inSet (s.bt.hotSensors.filter (fun x => !inSet l x)) n = false ∧ s.ck.power = 0) ∧
    (∃ (s : State) (n : Nat) (l : List Nat), (60 ≤ n ∨ inSet (s.bt.hotSensors.filter (fun x => !inSet l x)) n = true ∨ s.ck.power ≠ 0)) ∧
    (∃ (s : State) (n : Nat), s.bt.thermtrip = false ∧ s.ck.power ≠ 4 ∧ s.tripSource n = true) ∧
    (∃ (s : State) (n : Nat), (s.bt.thermtrip = true ∨ s.ck.power = 4 ∨ s.tripSource n = false)) :=
  ⟨⟨{ ({} : State) with regs := [], ck := { perst := true, entry := 3 } }, by decide +kernel⟩,
    ⟨{}, by decide +kernel⟩,
    ⟨{ ({} : State) with regs := [], mem := [(5, 1)] }, by decide +kernel⟩,
    ⟨{ ({} : State) with regs := [], ck := { power := 4 } }, by decide +kernel⟩,
    ⟨{ ({} : State) with regs := [], bt := { hotSensors := [2, 59] } }, 59, [2, 59], by decide +kernel⟩,
    ⟨{}, 60, [2], by decide +kernel⟩,
    ⟨{ ({} : State) with regs := [(F_PW_L_STATUS_STATE.key 0, 2)] }, 23, by decide +kernel⟩,
    ⟨{}, 60, by decide +kernel⟩⟩

theorem test_meets_boot_commands_complete_1 :
    (∃ (s : State) (p : Port), s.answers p (bar0 0 0x204) = true ∧ pfOrFw p = true ∧ s.fld F_TOP_BOOT_STATUS_MEM_WAIT = 1) ∧
    (∃ (s : State) (p : Port), s.answers p (bar0 0 0x204) = true ∧ pfOrFw p = true ∧ s.fld F_TOP_BOOT_STATUS_MEM_WAIT ≠ 1) ∧
    (∃ (s : State) (p : Port), s.answers p (bar0 0 0x204) = true ∧ pfOrFw p = false) ∧
    (∃ (s : State) (p : Port), s.answers p (bar0 0 0x204) = false) ∧
    (∃ (s : State), s.training = true ∧ s.fld F_TOP_BOOT_STATUS_HOT_READY ≠ 1 ∧ s.stacksTrained = true ∧ s.fld F_HB_STATUS_SET ≠ 0) ∧
    (∃ (s : State), (s.training = false ∨ s.fld F_TOP_BOOT_STATUS_HOT_READY = 1 ∨ s.stacksTrained = false ∨ s.fld F_HB_STATUS_SET = 0)) ∧
    (∃ (s : State), s.training = true ∧ s.fld F_TOP_BOOT_STATUS_POOL_READY ≠ 1 ∧ s.fld F_TOP_BOOT_STATUS_NO_POOL ≠ 1 ∧ (∀ c, c < 16 → (s.dram c).trained = true) ∧ (s.fld F_TOP_BOOT_STATUS_HOT_READY = 1 ∨ (s.stacksTrained = true ∧ s.fld F_HB_STATUS_SET = 0)) ∧ s.warmFolios < s.metaFolios (s.fld F_TOP_HOT_FOLIOS_COUNT + s.warmFolios) + 4096) ∧
    (∃ (s : State), s.training = true ∧ s.fld F_TOP_BOOT_STATUS_POOL_READY ≠ 1 ∧ s.fld F_TOP_BOOT_STATUS_NO_POOL ≠ 1 ∧ (∀ c, c < 16 → (s.dram c).trained = true) ∧ (s.fld F_TOP_BOOT_STATUS_HOT_READY = 1 ∨ (s.stacksTrained = true ∧ s.fld F_HB_STATUS_SET = 0)) ∧ s.metaFolios (s.fld F_TOP_HOT_FOLIOS_COUNT + s.warmFolios) + 4096 ≤ s.warmFolios) :=
  ⟨⟨{ ({} : State) with regs := [(F_TOP_BOOT_STATUS_STAGE.key 0, 3), (F_TOP_BOOT_STATUS_MEM_WAIT.key 0, 1)] }, .fw, by decide +kernel⟩,
    ⟨{ ({} : State) with regs := [(F_TOP_BOOT_STATUS_STAGE.key 0, 3)] }, .fw, by decide +kernel⟩,
    ⟨running, .vf 3, by decide +kernel⟩,
    ⟨{}, .pf, by decide +kernel⟩,
    ⟨{ ({} : State) with regs := [(F_TOP_BOOT_STATUS_STAGE.key 0, 3), (F_HB_STATUS_SET.key 0, 3), (F_HB_SPARE_CFG_PERMILLE.key 0, 10), (F_TOP_ID_STACKS.key 0, 2)], mc := { units := (List.range' 16 64).map (fun u => (u, { trained := true })) } }, by decide +kernel⟩,
    ⟨{}, by decide +kernel⟩,
    ⟨{ ({} : State) with regs := [(F_TOP_BOOT_STATUS_STAGE.key 0, 3), (F_TOP_BOOT_STATUS_HOT_READY.key 0, 1)], mc := { units := [(0, { trained := true, ranks := [(0, 2), (1, 2)], lmap := [0, 1], found := some [{ gib := 256, ranks := 1 }] })] ++ (List.range' 1 15).map (fun c => (c, { trained := true })) } }, by decide +kernel⟩,
    ⟨{ ({} : State) with regs := [(F_TOP_BOOT_STATUS_STAGE.key 0, 3), (F_TOP_BOOT_STATUS_HOT_READY.key 0, 1), (F_MC_STATUS_SET.key 0, 1)], mc := { units := [(0, { trained := true, ranks := [(0, 2), (1, 2)], lmap := [0, 1], found := some [{ gib := 256, ranks := 1 }] })] ++ (List.range' 1 15).map (fun c => (c, { trained := true })) } }, by decide +kernel⟩⟩

theorem test_meets_boot_commands_complete_2 :
    (∃ (s : State), (s.training = false ∨ s.fld F_TOP_BOOT_STATUS_POOL_READY = 1 ∨ s.fld F_TOP_BOOT_STATUS_NO_POOL = 1 ∨ (∃ c ∈ List.range 16, (s.dram c).trained = false) ∨ (s.fld F_TOP_BOOT_STATUS_HOT_READY ≠ 1 ∧ (s.stacksTrained = false ∨ s.fld F_HB_STATUS_SET ≠ 0)))) ∧
    (∃ (s : State), s.ck.power = 0 ∧ s.er.action = .reset ∧ s.er.due ≤ s.now) ∧
    (∃ (s : State), s.ck.power = 0 ∧ s.er.action ≠ .reset ∧ s.bt.resetAt.any (fun z => decide (z ≤ s.now)) = true) ∧
    (∃ (s : State), (s.ck.power ≠ 0 ∨ (s.er.action = .reset ∧ s.now < s.er.due) ∨ (s.er.action ≠ .reset ∧ s.bt.resetAt.any (fun z => decide (z ≤ s.now)) = false))) ∧
    (∃ (s : State), s.ck.power = 0 ∧ s.er.action = .reset ∧ s.er.due ≤ s.now) ∧
    (∃ (s : State), (s.ck.power ≠ 0 ∨ s.er.action ≠ .reset ∨ s.now < s.er.due)) ∧
    (∃ (s : State), s.ck.power = 0 ∧ s.er.action = .none ∧ s.bt.resetAt.any (fun z => decide (z ≤ s.now)) = true) ∧
    (∃ (s : State), (s.ck.power ≠ 0 ∨ s.er.action ≠ .none ∨ s.bt.resetAt.any (fun z => decide (z ≤ s.now)) = false)) :=
  ⟨⟨{}, by decide +kernel⟩,
    ⟨{ ({} : State) with now := 1000000000000, regs := [(F_TOP_BOOT_STATUS_STAGE.key 0, 3)], er := { action := .reset, kind := 0x44 }, mem := [(5, 1)] }, by decide +kernel⟩,
    ⟨{ ({} : State) with now := 1000000000000, regs := [(F_TOP_BOOT_STATUS_STAGE.key 0, 3)], bt := { resetAt := some 5 }, mem := [(5, 1)] }, by decide +kernel⟩,
    ⟨{}, by decide +kernel⟩,
    ⟨{ ({} : State) with now := 1000000000000, regs := [(F_TOP_BOOT_STATUS_STAGE.key 0, 3)], er := { action := .reset, kind := 0x44 }, mem := [(5, 1)] }, by decide +kernel⟩,
    ⟨{}, by decide +kernel⟩,
    ⟨{ ({} : State) with now := 1000000000000, regs := [(F_TOP_BOOT_STATUS_STAGE.key 0, 3)], bt := { resetAt := some 5 }, mem := [(5, 1)] }, by decide +kernel⟩,
    ⟨{}, by decide +kernel⟩⟩

theorem test_meets_boot_commands_complete_3 :
    (∃ (s : State), s.firmwareUp = true ∧ s.fld F_SE_STATUS_TRIAL = 1 ∧ s.fld F_TOP_BOOT_STATUS_MEM_WAIT = 0 ∧ s.se.healthy = false) ∧
    (∃ (s : State), (s.firmwareUp = false ∨ s.fld F_SE_STATUS_TRIAL ≠ 1 ∨ s.fld F_TOP_BOOT_STATUS_MEM_WAIT ≠ 0 ∨ s.se.healthy = true)) :=
  ⟨⟨{ ({} : State) with regs := [(F_TOP_BOOT_STATUS_STAGE.key 0, 3), (F_SE_STATUS_TRIAL.key 0, 1)] }, by decide +kernel⟩,
    ⟨{}, by decide +kernel⟩⟩

theorem test_meets_error_commands_take_effect_1 :
    (∃ (s : State) (k : Nat), k < 8 ∧ s.coreUp k = true ∧ s.firmwareUp = true) ∧
    (∃ (s : State) (k : Nat), k < 8 ∧ s.coreUp k = true ∧ s.firmwareUp = true) ∧
    (∃ (s : State) (k : Nat), (8 ≤ k ∨ s.coreUp k = false ∨ s.firmwareUp = false)) ∧
    (∃ (s : State) (k : Nat), k < 8 ∧ s.coreUp k = true ∧ s.firmwareUp = true) ∧
    (∃ (s : State) (k : Nat), k < 8 ∧ s.coreUp k = true ∧ s.firmwareUp = true) ∧
    (∃ (s : State) (k : Nat), (8 ≤ k ∨ s.coreUp k = false ∨ s.firmwareUp = false)) ∧
    (∃ (s : State) (k : Nat), (s.core k).halted = true ∧ s.firmwareUp = true ∧ (s.core k).out = false) ∧
    (∃ (s : State) (k : Nat), (s.core k).halted = true ∧ s.firmwareUp = true ∧ (s.core k).out = true) :=
  ⟨⟨{ ({} : State) with regs := [(F_TOP_BOOT_STATUS_STAGE.key 0, 3)], q := { descs := [(3, cmd 0x20 0 0 3)] } }, 7, by decide +kernel⟩,
    ⟨{ ({} : State) with regs := [(F_TOP_BOOT_STATUS_STAGE.key 0, 3)], er := { cores := (List.range' 1 6).map (fun j => (j, { halted := true })) } }, 7, by decide +kernel⟩,
    ⟨{}, 7, by decide +kernel⟩,
    ⟨{ ({} : State) with regs := [(F_TOP_BOOT_STATUS_STAGE.key 0, 3)], q := { descs := [(3, cmd 0x20 0 0 3)] } }, 0, by decide +kernel⟩,
    ⟨{ ({} : State) with regs := [(F_TOP_BOOT_STATUS_STAGE.key 0, 3)], er := { cores := (List.range' 1 6).map (fun j => (j, { halted := true })) } }, 0, by decide +kernel⟩,
    ⟨{}, 0, by decide +kernel⟩,
    ⟨{ ({} : State) with regs := [(F_TOP_BOOT_STATUS_STAGE.key 0, 3)], er := { cores := [(3, { halted := true })] } }, 3, by decide +kernel⟩,
    ⟨{ ({} : State) with regs := [(F_TOP_BOOT_STATUS_STAGE.key 0, 3)], er := { cores := [(3, { halted := true, out := true })] } }, 3, by decide +kernel⟩⟩

theorem test_meets_error_commands_take_effect_2 :
    (∃ (s : State) (k : Nat), (s.core k).halted = true ∧ s.firmwareUp = true ∧ (s.core k).out = false) ∧
    (∃ (s : State) (k : Nat), ((s.core k).halted = false ∨ s.firmwareUp = false)) ∧
    (∃ (s : State) (n : Nat), s.firmwareUp = true ∧ n < 8) ∧
    (∃ (s : State) (c : Nat) (v : Nat), s.firmwareUp = true ∧ (s.unitRec (unitKey c v)).running.isSome = true) ∧
    (∃ (s : State) (m : Nat) (n : Nat) (c : Nat) (v : Nat), (s.firmwareUp = false ∨ (m ≠ 0x42 ∧ m ≠ 0x46) ∨ (m = 0x42 ∧ 8 ≤ n) ∨ (m = 0x46 ∧ (s.unitRec (unitKey c v)).running = none))) ∧
    (∃ (s : State) (c : Nat) (n : Nat) (r : Nat), (s.unitRec (unitKey c n)).running = none ∧ (s.unitRec (unitKey c n)).queued = some r ∧ c = 17 ∧ (s.core n).halted = true) ∧
    (∃ (s : State) (c : Nat) (n : Nat) (r : Nat), (s.unitRec (unitKey c n)).running = none ∧ (s.unitRec (unitKey c n)).queued = some r ∧ c = 17 ∧ (s.core n).halted = false) ∧
    (∃ (s : State) (c : Nat) (n : Nat) (r : Nat), (s.unitRec (unitKey c n)).running = none ∧ (s.unitRec (unitKey c n)).queued = some r ∧ c = 6 ∧ s.cr.cmds.any (fun c => c.2.tasks.any (fun t => t.redo == some n)) = true) :=
  ⟨⟨{ ({} : State) with regs := [(F_TOP_BOOT_STATUS_STAGE.key 0, 3)], er := { cores := [(3, { halted := true })] } }, 3, by decide +kernel⟩,
    ⟨{}, 3, by decide +kernel⟩,
    ⟨{ ({} : State) with regs := [(F_TOP_BOOT_STATUS_STAGE.key 0, 3)] }, 7, by decide +kernel⟩,
    ⟨{ ({} : State) with regs := [(F_TOP_BOOT_STATUS_STAGE.key 0, 3)], er := { units := [(unitKey 10 3, { running := some 4 })] } }, 10, 3, by decide +kernel⟩,
    ⟨{ ({} : State) with regs := [(F_TOP_BOOT_STATUS_STAGE.key 0, 3)] }, 0x42, 8, 0, 0, by decide +kernel⟩,
    ⟨{ ({} : State) with regs := [(F_TOP_BOOT_STATUS_STAGE.key 0, 3)], er := { units := [(unitKey 17 3, { queued := some 4 })], cores := [(3, { halted := true })] } }, 17, 3, 4, by decide +kernel⟩,
    ⟨{ ({} : State) with regs := [(F_TOP_BOOT_STATUS_STAGE.key 0, 3)], er := { units := [(unitKey 17 3, { queued := some 4 })] } }, 17, 3, 4, by decide +kernel⟩,
    ⟨{ ({} : State) with regs := [(F_TOP_BOOT_STATUS_STAGE.key 0, 3)], er := { units := [(unitKey 6 3, { queued := some 4 })] }, cr := { cmds := [(9, { tasks := [{ redo := some 3 }] })] } }, 6, 3, 4, by decide +kernel⟩⟩

theorem test_meets_error_commands_take_effect_3 :
    (∃ (s : State) (c : Nat) (n : Nat) (r : Nat), (s.unitRec (unitKey c n)).running = none ∧ (s.unitRec (unitKey c n)).queued = some r ∧ c = 6 ∧ s.cr.cmds.any (fun c => c.2.tasks.any (fun t => t.redo == some n)) = false) ∧
    (∃ (s : State) (c : Nat) (n : Nat) (r : Nat), (s.unitRec (unitKey c n)).running = none ∧ (s.unitRec (unitKey c n)).queued = some r ∧ c ≠ 6 ∧ c ≠ 10 ∧ c ≠ 11 ∧ c ≠ 17) ∧
    (∃ (s : State) (c : Nat) (n : Nat) (r : Nat), (s.unitRec (unitKey c n)).running = none ∧ (s.unitRec (unitKey c n)).queued = some r ∧ c = 10 ∧ ((s.ringRec r).map (·.kind)).getD 0x23 ≠ 0x25 ∧ s.unitState n = 2 ∧ n < 16) ∧
    (∃ (s : State) (c : Nat) (n : Nat) (r : Nat), (s.unitRec (unitKey c n)).running = none ∧ (s.unitRec (unitKey c n)).queued = some r ∧ c = 11 ∧ ((s.ringRec r).map (·.kind)).getD 0x23 ≠ 0x26 ∧ s.unitState (16 + n) = 2) ∧
    (∃ (s : State) (c : Nat) (n : Nat) (r : Nat), (s.unitRec (unitKey c n)).running = none ∧ (s.unitRec (unitKey c n)).queued = some r ∧ c = 10 ∧ ((s.ringRec r).map (·.kind)).getD 0x23 ≠ 0x25 ∧ s.unitState n ≠ 2 ∧ n < 16) ∧
    (∃ (s : State) (c : Nat) (n : Nat) (r : Nat), (s.unitRec (unitKey c n)).running = none ∧ (s.unitRec (unitKey c n)).queued = some r ∧ c = 11 ∧ ((s.ringRec r).map (·.kind)).getD 0x23 ≠ 0x26 ∧ s.unitState (16 + n) ≠ 2) ∧
    (∃ (s : State) (c : Nat) (n : Nat) (r : Nat), (s.unitRec (unitKey c n)).running = none ∧ (s.unitRec (unitKey c n)).queued = some r ∧ c = 10 ∧ ((s.ringRec r).map (·.kind)).getD 0x23 = 0x25 ∧ (s.dram n).trig = []) ∧
    (∃ (s : State) (c : Nat) (n : Nat) (r : Nat), (s.unitRec (unitKey c n)).running = none ∧ (s.unitRec (unitKey c n)).queued = some r ∧ c = 11 ∧ ((s.ringRec r).map (·.kind)).getD 0x23 = 0x26 ∧ s.mc.remap.any (fun r => r.copying && s.unitOf (r.dfn * 256) == 16 + n) = false) :=
  ⟨⟨{ ({} : State) with regs := [(F_TOP_BOOT_STATUS_STAGE.key 0, 3)], er := { units := [(unitKey 6 3, { queued := some 4 })] } }, 6, 3, 4, by decide +kernel⟩,
    ⟨{ ({} : State) with regs := [(F_TOP_BOOT_STATUS_STAGE.key 0, 3)], er := { units := [(unitKey 7 3, { queued := some 4 })] } }, 7, 3, 4, by decide +kernel⟩,
    ⟨{ ({} : State) with regs := [(F_TOP_BOOT_STATUS_STAGE.key 0, 3), (F_MC_CH_STATUS_STATE.key 15, 2)], er := { units := [(unitKey 10 15, { queued := some 4 })] } }, 10, 15, 4, by decide +kernel⟩,
    ⟨{ ({} : State) with regs := [(F_TOP_BOOT_STATUS_STAGE.key 0, 3), (F_HB_PC_STATUS_STATE.key 127, 2)], er := { units := [(unitKey 11 127, { queued := some 4 })] } }, 11, 127, 4, by decide +kernel⟩,
    ⟨{ ({} : State) with regs := [(F_TOP_BOOT_STATUS_STAGE.key 0, 3)], er := { units := [(unitKey 10 3, { queued := some 4 })] } }, 10, 3, 4, by decide +kernel⟩,
    ⟨{ ({} : State) with regs := [(F_TOP_BOOT_STATUS_STAGE.key 0, 3)], er := { units := [(unitKey 11 3, { queued := some 4 })] } }, 11, 3, 4, by decide +kernel⟩,
    ⟨{ ({} : State) with regs := [(F_TOP_BOOT_STATUS_STAGE.key 0, 3)], er := { units := [(unitKey 10 3, { queued := some 4 })], ring := [(4, { seq := 4, kind := 0x25 })] } }, 10, 3, 4, by decide +kernel⟩,
    ⟨{ ({} : State) with regs := [(F_TOP_BOOT_STATUS_STAGE.key 0, 3)], er := { units := [(unitKey 11 3, { queued := some 4 })], ring := [(4, { seq := 4, kind := 0x26 })] } }, 11, 3, 4, by decide +kernel⟩⟩

theorem test_meets_error_commands_take_effect_4 :
    (∃ (s : State) (c : Nat) (n : Nat) (r : Nat), (s.unitRec (unitKey c n)).running = none ∧ (s.unitRec (unitKey c n)).queued = some r ∧ c = 11 ∧ ((s.ringRec r).map (·.kind)).getD 0x23 = 0x26 ∧ s.mc.remap.any (fun r => r.copying && s.unitOf (r.dfn * 256) == 16 + n) = true) ∧
    (∃ (s : State) (c : Nat) (n : Nat) (r : Nat), (s.unitRec (unitKey c n)).running = none ∧ (s.unitRec (unitKey c n)).queued = some r ∧ c = 10 ∧ ((s.ringRec r).map (·.kind)).getD 0x23 = 0x25 ∧ (s.dram n).trig ≠ [] ∧ (s.unitState n ≠ 2 ∨ (s.dram n).rankIn 2 = none)) ∧
    (∃ (s : State) (c : Nat) (n : Nat) (r : Nat) (a : Nat) (b : Nat), (s.unitRec (unitKey c n)).running = none ∧ (s.unitRec (unitKey c n)).queued = some r ∧ c = 10 ∧ ((s.ringRec r).map (·.kind)).getD 0x23 = 0x25 ∧ n < 16 ∧ (s.dram n).trig.head?.map (·.1) = some a ∧ (s.dram n).rankIn 2 = some b ∧ s.unitState n = 2) ∧
    (∃ (s : State) (c : Nat) (n : Nat) (r : Nat), (s.unitRec (unitKey c n)).running = none ∧ (s.unitRec (unitKey c n)).queued = some r) ∧
    (∃ (s : State) (c : Nat) (n : Nat), ((s.unitRec (unitKey c n)).running.isSome = true ∨ (s.unitRec (unitKey c n)).queued = none)) ∧
    (∃ (s : State) (p : Port) (v : Nat), s.answers p (bar0 17 4) = true ∧ pfOrFw p = true ∧ (s.fld F_ER_WPTR_WPTR + 2 ^ 32 - v % 2 ^ 32) % 2 ^ 32 ≤ 256) ∧
    (∃ (s : State) (p : Port) (v : Nat), s.answers p (bar0 17 4) = true ∧ pfOrFw p = true ∧ 256 < (s.fld F_ER_WPTR_WPTR + 2 ^ 32 - v % 2 ^ 32) % 2 ^ 32) ∧
    (∃ (s : State) (p : Port), s.answers p (bar0 17 4) = true ∧ pfOrFw p = false) :=
  ⟨⟨{ ({} : State) with regs := [(F_TOP_BOOT_STATUS_STAGE.key 0, 3)], er := { units := [(unitKey 11 0, { queued := some 4 })], ring := [(4, { seq := 4, kind := 0x26 })] }, mc := { remap := [{ dfn := 0, spare := 9, copying := true }] } }, 11, 0, 4, by decide +kernel⟩,
    ⟨{ ({} : State) with regs := [(F_TOP_BOOT_STATUS_STAGE.key 0, 3)], er := { units := [(unitKey 10 3, { queued := some 4 })], ring := [(4, { seq := 4, kind := 0x25 })] }, mc := { units := [(3, { trig := [(0, 1)] })] } }, 10, 3, 4, by decide +kernel⟩,
    ⟨{ ({} : State) with regs := [(F_TOP_BOOT_STATUS_STAGE.key 0, 3), (F_MC_CH_STATUS_STATE.key 3, 2)], er := { units := [(unitKey 10 3, { queued := some 4 })], ring := [(4, { seq := 4, kind := 0x25 })] }, mc := { units := [(3, { ranks := [(0, 1), (1, 2)], trig := [(0, 1)] })] } }, 10, 3, 4, 0, 1, by decide +kernel⟩,
    ⟨{ ({} : State) with regs := [(F_TOP_BOOT_STATUS_STAGE.key 0, 3)], er := { units := [(unitKey 10 16, { queued := some 4 })] } }, 10, 16, 4, by decide +kernel⟩,
    ⟨{}, 10, 3, by decide +kernel⟩,
    ⟨{ ({} : State) with regs := [(F_TOP_BOOT_STATUS_STAGE.key 0, 3), (F_ER_WPTR_WPTR.key 0, 100)] }, .pf, 2 ^ 32 - 156, by decide +kernel⟩,
    ⟨{ ({} : State) with regs := [(F_TOP_BOOT_STATUS_STAGE.key 0, 3), (F_ER_WPTR_WPTR.key 0, 100)] }, .pf, 101, by decide +kernel⟩,
    ⟨running, .vf 3, by decide +kernel⟩⟩

theorem test_meets_error_commands_take_effect_5 :
    (∃ (s : State) (p : Port), s.answers p (bar0 17 4) = false) ∧
    (∃ (s : State) (p : Port), s.answers p (bar0 17 0x10) = true ∧ pfOrFw p = true) ∧
    (∃ (s : State) (p : Port), s.answers p (bar0 17 0x10) = true ∧ pfOrFw p = false) ∧
    (∃ (s : State) (p : Port), s.answers p (bar0 17 0x10) = false) :=
  ⟨⟨{}, .pf, by decide +kernel⟩,
    ⟨{ ({} : State) with regs := [(F_TOP_BOOT_STATUS_STAGE.key 0, 3)], er := { storeValid := true, storeCount := 2 } }, .fw, by decide +kernel⟩,
    ⟨running, .vf 3, by decide +kernel⟩,
    ⟨{}, .pf, by decide +kernel⟩⟩

theorem test_meets_admin_commands_complete_1 :
    (∃ (s : State) (d : Nat) (x : Desc), Runs s d 0x7E x ∧ x.e.flag 8 = false ∧ s.noHost x.q = false ∧ s.calWriting = false ∧ s.updating = false) ∧
    (∃ (s : State) (d : Nat) (x : Desc), Runs s d 0x7E x ∧ x.e.flag 8 = false ∧ s.noHost x.q = false ∧ (s.calWriting = true ∨ s.updating = true)) ∧
    (∃ (s : State) (d : Nat), (((s.desc d).runs? 0x7E && !(s.desc d).e.flag 8) = false ∨ s.noHost (s.desc d).q = true)) ∧
    (∃ (s : State) (d : Nat) (x : Desc), Runs s d 0x7E x ∧ x.e.flag 8 = true ∧ s.calWriting = false ∧ s.updating = false ∧ (if s.bt.calBad.1 = 1 then erasedTo 1048576 s.bt.cal else calBytes s.bt.cal).length ≤ x.e.len ∧ (s.queue x.outQ).isLink = false ∧ s.noHost x.q = false ∧ s.hostFault = none) ∧
    (∃ (s : State) (d : Nat) (x : Desc) (c : Nat), Runs s d 0x7E x ∧ x.e.flag 8 = true ∧ s.calWriting = false ∧ s.updating = false ∧ (if s.bt.calBad.1 = 1 then erasedTo 1048576 s.bt.cal else calBytes s.bt.cal).length ≤ x.e.len ∧ (s.queue x.outQ).isLink = false ∧ s.noHost x.q = false ∧ s.hostFault = some c) ∧
    (∃ (s : State) (d : Nat) (x : Desc), Runs s d 0x7E x ∧ x.e.flag 8 = true ∧ s.calWriting = false ∧ s.updating = false ∧ (if s.bt.calBad.1 = 1 then erasedTo 1048576 s.bt.cal else calBytes s.bt.cal).length ≤ x.e.len ∧ (s.queue x.outQ).isLink = false ∧ s.noHost x.q = true) ∧
    (∃ (s : State) (d : Nat) (x : Desc), Runs s d 0x7E x ∧ x.e.flag 8 = true ∧ s.calWriting = false ∧ s.updating = false ∧ (if s.bt.calBad.1 = 1 then erasedTo 1048576 s.bt.cal else calBytes s.bt.cal).length ≤ x.e.len ∧ (s.queue x.outQ).isLink = true) ∧
    (∃ (s : State) (d : Nat) (x : Desc), Runs s d 0x7E x ∧ x.e.flag 8 = true ∧ s.calWriting = false ∧ s.updating = false ∧ x.e.len < (if s.bt.calBad.1 = 1 then erasedTo 1048576 s.bt.cal else calBytes s.bt.cal).length) :=
  ⟨⟨{ withDesc 3 (cmd 0x7E 0 0 64) with ir := { fns := [(0, { bme := true })] } }, 3, cmd 0x7E 0 0 64, by decide +kernel⟩,
    ⟨{ withDesc 3 (cmd 0x7E 0 0 64) with ir := { fns := [(0, { bme := true })] }, regs := [(F_TOP_CAL_STATUS_WRITE.key 0, 1)] }, 3, cmd 0x7E 0 0 64, by decide +kernel⟩,
    ⟨{}, 3, by decide +kernel⟩,
    ⟨{ withDesc 3 (cmd 0x7E 0 77 16 0 1) with regs := [(F_HP_STATUS_RATE.key 0, 5)], ir := { fns := [(0, { bme := true })] }, bt := { cal := [1, 2, 3, 4, 0, 0, 0, 0, 16, 0, 0, 0, 9, 9, 9, 9], calBad := (0, 0) } }, 3, cmd 0x7E 0 77 16 0 1, by decide +kernel⟩,
    ⟨{ withDesc 3 (cmd 0x7E 0 77 16 0 1) with regs := [], ir := { fns := [(0, { bme := true })] }, bt := { cal := [1, 2, 3, 4, 0, 0, 0, 0, 16, 0, 0, 0, 9, 9, 9, 9], calBad := (0, 0) } }, 3, cmd 0x7E 0 77 16 0 1, 0x94, by decide +kernel⟩,
    ⟨{ withDesc 3 (cmd 0x7E 0 77 16 0 1) with regs := [], ir := { fns := [(0, { bme := false })] }, bt := { cal := [1, 2, 3, 4, 0, 0, 0, 0, 16, 0, 0, 0, 9, 9, 9, 9], calBad := (0, 0) } }, 3, cmd 0x7E 0 77 16 0 1, by decide +kernel⟩,
    ⟨{ withDesc 3 (cmd 0x7E 0 77 16 0 1) with regs := [], ir := { fns := [(0, { bme := true })] }, bt := { cal := [1, 2, 3, 4, 0, 0, 0, 0, 16, 0, 0, 0, 9, 9, 9, 9], calBad := (0, 0) }, q := { tab := [(0, { tenant := 0, origin := 3 })], descs := [(3, (cmd 0x7E 0 77 16 0 1))] } }, 3, cmd 0x7E 0 77 16 0 1, by decide +kernel⟩,
    ⟨{ withDesc 3 (cmd 0x7E 0 77 15 0 1) with regs := [], ir := { fns := [(0, { bme := true })] }, bt := { cal := [1, 2, 3, 4, 0, 0, 0, 0, 16, 0, 0, 0, 9, 9, 9, 9], calBad := (0, 0) } }, 3, cmd 0x7E 0 77 15 0 1, by decide +kernel⟩⟩

theorem test_meets_admin_commands_complete_2 :
    (∃ (s : State) (d : Nat) (x : Desc), Runs s d 0x7E x ∧ x.e.flag 8 = true ∧ (s.calWriting = true ∨ s.updating = true)) ∧
    (∃ (s : State) (d : Nat), ((s.desc d).runs? 0x7E && (s.desc d).e.flag 8) = false) ∧
    (∃ (s : State) (b : List Byte), s.bt.calNew = some b ∧ s.hdrWriting = false ∧ s.ck.entry ≠ 6) ∧
    (∃ (s : State) (b : List Byte), s.bt.calNew = some b ∧ s.hdrWriting = false ∧ s.ck.entry ≠ 6) ∧
    (∃ (s : State) (b : List Byte), s.bt.calNew = some b ∧ s.hdrWriting = false ∧ s.ck.entry = 6) ∧
    (∃ (s : State), (s.bt.calNew = none ∨ s.hdrWriting = true)) ∧
    (∃ (s : State) (d : Nat) (x : Desc), Runs s d 0x7F x ∧ x.e.opA = 1 ∧ (x.e.flag 8 = true ∨ (s.calWriting = false ∧ s.hdrWriting = false ∧ s.updating = false))) ∧
    (∃ (s : State) (d : Nat) (x : Desc), Runs s d 0x7F x ∧ x.e.opA = 1 ∧ x.e.flag 8 = false ∧ (s.calWriting = true ∨ s.hdrWriting = true ∨ s.updating = true)) :=
  ⟨⟨{ withDesc 3 (cmd 0x7E 0 77 16 0 1) with regs := [(F_TOP_CAL_STATUS_WRITE.key 0, 1)], ir := { fns := [(0, { bme := true })] }, bt := { cal := [1, 2, 3, 4, 0, 0, 0, 0, 16, 0, 0, 0, 9, 9, 9, 9], calBad := (0, 0) } }, 3, cmd 0x7E 0 77 16 0 1, by decide +kernel⟩,
    ⟨{}, 3, by decide +kernel⟩,
    ⟨{ ({} : State) with regs := [], bt := { calNew := some [1, 2] } }, [1, 2], by decide +kernel⟩,
    ⟨{ ({} : State) with regs := [], bt := { calNew := some [1, 2] } }, [1, 2], by decide +kernel⟩,
    ⟨{ ({} : State) with regs := [], bt := { calNew := some [1, 2] }, ck := { entry := 6 } }, [1, 2], by decide +kernel⟩,
    ⟨{}, by decide +kernel⟩,
    ⟨{ withDesc 3 (cmd 0x7F 1 0 0) with now := 7 }, 3, cmd 0x7F 1 0 0, by decide +kernel⟩,
    ⟨{ withDesc 3 (cmd 0x7F 1 0 0) with regs := [(F_TOP_CAL_STATUS_WRITE.key 0, 1)] }, 3, cmd 0x7F 1 0 0, by decide +kernel⟩⟩

theorem test_meets_admin_commands_complete_3 :
    (∃ (s : State) (d : Nat), ((s.desc d).runs? 0x7F && (s.desc d).e.opA == 1) = false) ∧
    (∃ (s : State) (d : Nat) (b : List Byte) (x : Desc), Runs s d 0x7F x ∧ x.e.opA = 3 ∧ s.noHost x.q = false ∧ s.calWriting = false ∧ s.updating = false ∧ s.hdrWriting = false ∧ headerFault ((b ++ List.replicate 256 0).take 256) = none) ∧
    (∃ (s : State) (d : Nat) (b : List Byte) (x : Desc) (n : Nat), Runs s d 0x7F x ∧ x.e.opA = 3 ∧ s.noHost x.q = false ∧ s.calWriting = false ∧ s.updating = false ∧ s.hdrWriting = false ∧ headerFault ((b ++ List.replicate 256 0).take 256) = some n) ∧
    (∃ (s : State) (d : Nat) (x : Desc), Runs s d 0x7F x ∧ x.e.opA = 3 ∧ s.noHost x.q = false ∧ (s.calWriting = true ∨ s.hdrWriting = true ∨ s.updating = true)) ∧
    (∃ (s : State) (d : Nat), (((s.desc d).runs? 0x7F && (s.desc d).e.opA == 3) = false ∨ s.noHost (s.desc d).q = true)) ∧
    (∃ (s : State) (b : List Byte), s.bt.hdrNew = some b ∧ s.ck.entry ≠ 6) ∧
    (∃ (s : State) (b : List Byte), s.bt.hdrNew = some b ∧ s.ck.entry ≠ 6) ∧
    (∃ (s : State) (b : List Byte), s.bt.hdrNew = some b ∧ s.ck.entry = 6 ∧ s.calWriting = false) :=
  ⟨⟨{}, 3, by decide +kernel⟩,
    ⟨{ withDesc 3 (cmd 0x7F 3 0 256) with ir := { fns := [(0, { bme := true })] } }, 3, ([70, 67, 66, 74, 1] ++ List.replicate 13 0 ++ [10] ++ List.replicate 5 0 ++ [2] ++ List.replicate 3 0 ++ [64] ++ List.replicate 223 0 ++ [162, 90, 7, 186]), cmd 0x7F 3 0 256, by decide +kernel⟩,
    ⟨{ withDesc 3 (cmd 0x7F 3 0 256) with ir := { fns := [(0, { bme := true })] } }, 3, [], cmd 0x7F 3 0 256, 0, by decide +kernel⟩,
    ⟨{ withDesc 3 (cmd 0x7F 3 0 256) with ir := { fns := [(0, { bme := true })] }, regs := [(F_TOP_CAL_STATUS_WRITE.key 0, 1)] }, 3, cmd 0x7F 3 0 256, by decide +kernel⟩,
    ⟨{}, 3, by decide +kernel⟩,
    ⟨{ ({} : State) with regs := [], bt := { hdrNew := some [1, 2] } }, [1, 2], by decide +kernel⟩,
    ⟨{ ({} : State) with regs := [], bt := { hdrNew := some [1, 2] } }, [1, 2], by decide +kernel⟩,
    ⟨{ ({} : State) with regs := [], bt := { hdrNew := some [1, 2] }, ck := { entry := 6 } }, [1, 2], by decide +kernel⟩⟩

theorem test_meets_admin_commands_complete_4 :
    (∃ (s : State) (b : List Byte), s.bt.hdrNew = some b ∧ s.ck.entry = 6 ∧ s.calWriting = true) ∧
    (∃ (s : State), s.bt.hdrNew = none) ∧
    (∃ (s : State) (d : Nat) (x : Desc), Runs s d 0x7F x ∧ x.e.opA = 4 ∧ (s.queue x.outQ).isLink = false ∧ s.noHost x.q = false ∧ s.hostFault = none) ∧
    (∃ (s : State) (d : Nat) (x : Desc) (c : Nat), Runs s d 0x7F x ∧ x.e.opA = 4 ∧ (s.queue x.outQ).isLink = false ∧ s.noHost x.q = false ∧ s.hostFault = some c) ∧
    (∃ (s : State) (d : Nat) (x : Desc), Runs s d 0x7F x ∧ x.e.opA = 4 ∧ (s.queue x.outQ).isLink = false ∧ s.noHost x.q = true) ∧
    (∃ (s : State) (d : Nat) (x : Desc), Runs s d 0x7F x ∧ x.e.opA = 4 ∧ (s.queue x.outQ).isLink = true) ∧
    (∃ (s : State) (d : Nat), ((s.desc d).runs? 0x7F && (s.desc d).e.opA == 4) = false) :=
  ⟨⟨{ ({} : State) with regs := [(F_TOP_CAL_STATUS_WRITE.key 0, 1)], bt := { hdrNew := some [1, 2] }, ck := { entry := 6 } }, [1, 2], by decide +kernel⟩,
    ⟨{}, by decide +kernel⟩,
    ⟨{ withDesc 3 (cmd 0x7F 4 77 512) with regs := [(F_HP_STATUS_RATE.key 0, 5)], ir := { fns := [(0, { bme := true })] }, bt := {} }, 3, cmd 0x7F 4 77 512, by decide +kernel⟩,
    ⟨{ withDesc 3 (cmd 0x7F 4 77 512) with regs := [], ir := { fns := [(0, { bme := true })] }, bt := {} }, 3, cmd 0x7F 4 77 512, 0x94, by decide +kernel⟩,
    ⟨{ withDesc 3 (cmd 0x7F 4 77 512) with regs := [], ir := { fns := [(0, { bme := false })] }, bt := {} }, 3, cmd 0x7F 4 77 512, by decide +kernel⟩,
    ⟨{ withDesc 3 (cmd 0x7F 4 77 512) with regs := [], ir := { fns := [(0, { bme := true })] }, bt := {}, q := { tab := [(0, { tenant := 0, origin := 3 })], descs := [(3, (cmd 0x7F 4 77 512))] } }, 3, cmd 0x7F 4 77 512, by decide +kernel⟩,
    ⟨{}, 3, by decide +kernel⟩⟩

theorem test_meets_mailbox_commands_complete_1 :
    (∃ (s : State) (n : Nat), (s.ck.power ≤ 1 ∨ s.se.hold = true) ∧ 1 ≤ n ∧ n < 126) ∧
    (∃ (s : State) (n : Nat), (s.ck.power ≤ 1 ∨ s.se.hold = true) ∧ 1 ≤ n ∧ n < 126) ∧
    (∃ (s : State) (n : Nat), ((1 < s.ck.power ∧ s.se.hold = false) ∨ n = 0 ∨ 126 ≤ n)) ∧
    (∃ (s : State) (x : Nat) (n : Nat), ((1 < s.ck.power ∧ s.se.hold = false) ∨ n = 0 ∨ 126 ≤ n ∨ x ≠ i3cStatic)) ∧
    (∃ (s : State) (p : Port), s.answers p mbxCtlOff = true ∧ mbxCodes p ≠ [] ∧ s.mbxOn p = true ∧ (s.mbx p).st ≠ 1 ∧ inSet (mbxCodes p) (leAt (s.mbx p).buf 0 2) = true ∧ leAt (s.mbx p).buf 2 2 ≤ 1020) ∧
    (∃ (s : State) (p : Port), s.answers p mbxCtlOff = true ∧ mbxCodes p ≠ [] ∧ s.mbxOn p = true ∧ (s.mbx p).st ≠ 1 ∧ inSet (mbxCodes p) (leAt (s.mbx p).buf 0 2) = false) ∧
    (∃ (s : State) (p : Port), s.answers p mbxCtlOff = true ∧ mbxCodes p ≠ [] ∧ s.mbxOn p = true ∧ (s.mbx p).st ≠ 1 ∧ inSet (mbxCodes p) (leAt (s.mbx p).buf 0 2) = true ∧ 1020 < leAt (s.mbx p).buf 2 2) ∧
    (∃ (s : State) (p : Port), s.answers p mbxCtlOff = true ∧ mbxCodes p ≠ [] ∧ (s.mbxOn p = false ∨ (s.mbx p).st = 1)) :=
  ⟨⟨{}, 125, by decide +kernel⟩,
    ⟨{}, 125, by decide +kernel⟩,
    ⟨{}, 126, by decide +kernel⟩,
    ⟨{}, 45, 9, by decide +kernel⟩,
    ⟨{ ({} : State) with regs := [(F_TOP_BOOT_STATUS_STAGE.key 0, 3)], se := { mbx := [(0, { buf := [11, 0, 252, 3], st := 0 })] } }, .pf, by decide +kernel⟩,
    ⟨{ ({} : State) with regs := [(F_TOP_BOOT_STATUS_STAGE.key 0, 3)], se := { mbx := [(0, { buf := [10, 0, 0, 0], st := 0 })] } }, .pf, by decide +kernel⟩,
    ⟨{ ({} : State) with regs := [(F_TOP_BOOT_STATUS_STAGE.key 0, 3)], se := { mbx := [(0, { buf := [11, 0, 253, 3], st := 0 })] } }, .pf, by decide +kernel⟩,
    ⟨{ ({} : State) with regs := [(F_TOP_BOOT_STATUS_STAGE.key 0, 3)], se := { mbx := [(0, { buf := [1, 0, 0, 0] ++ [], st := 1 })] } }, .pf, by decide +kernel⟩⟩

theorem test_meets_mailbox_commands_complete_2 :
    (∃ (s : State) (p : Port), s.answers p mbxCtlOff = true ∧ mbxCodes p = []) ∧
    (∃ (s : State) (p : Port), s.answers p mbxCtlOff = false) ∧
    (∃ (s : State) (p : Port), Mailed s p 1 0) ∧
    (∃ (s : State) (p : Port), Mailed s p 1 0) ∧
    (∃ (s : State) (p : Port) (z : Nat), Mailed s p 1 z ∧ z ≠ 0) ∧
    (∃ (s : State) (p : Port), (s.mbxOn p = false ∨ (s.mbx p).st ≠ 1 ∨ leAt (s.mbx p).buf 0 2 ≠ 1)) ∧
    (∃ (s : State) (p : Port), Mailed s p 2 0) ∧
    (∃ (s : State) (p : Port), Mailed s p 2 0) :=
  ⟨⟨running, .vf 3, by decide +kernel⟩,
    ⟨{}, .pf, by decide +kernel⟩,
    ⟨{ ({} : State) with regs := [(F_TOP_BOOT_STATUS_STAGE.key 0, 3)], se := { mbx := [(0, { buf := [1, 0, 0, 0] ++ [], st := 1 })] } }, .pf, by decide +kernel⟩,
    ⟨{ ({} : State) with regs := [(F_TOP_BOOT_STATUS_STAGE.key 0, 3)], se := { mbx := [(65, { buf := [1, 0, 0, 0] ++ [], st := 1 })] } }, .fw, by decide +kernel⟩,
    ⟨{ ({} : State) with regs := [(F_TOP_BOOT_STATUS_STAGE.key 0, 3)], se := { mbx := [(0, { buf := [1, 0, 1, 0] ++ [], st := 1 })] } }, .pf, 1, by decide +kernel⟩,
    ⟨{}, .pf, by decide +kernel⟩,
    ⟨{ ({} : State) with regs := [(F_TOP_BOOT_STATUS_STAGE.key 0, 3)], se := { mbx := [(0, { buf := [2, 0, 0, 0] ++ [], st := 1 })] } }, .pf, by decide +kernel⟩,
    ⟨{ ({} : State) with regs := [(F_TOP_BOOT_STATUS_STAGE.key 0, 3)], se := { mbx := [(0, { buf := [2, 0, 0, 0] ++ [], st := 1 })], fuses := { lc := .of 2, uds := [.valid 0] }, ids := some { device := List.replicate 97 3 } } }, .pf, by decide +kernel⟩⟩

theorem test_meets_mailbox_commands_complete_3 :
    (∃ (s : State) (p : Port) (z : Nat), Mailed s p 2 z ∧ z ≠ 0) ∧
    (∃ (s : State) (p : Port), (s.mbxOn p = false ∨ (s.mbx p).st ≠ 1 ∨ leAt (s.mbx p).buf 0 2 ≠ 2)) ∧
    (∃ (s : State) (p : Port), Mailed s p 3 0) ∧
    (∃ (s : State) (p : Port) (z : Nat), Mailed s p 3 z ∧ z ≠ 0) ∧
    (∃ (s : State) (p : Port), (s.mbxOn p = false ∨ (s.mbx p).st ≠ 1 ∨ leAt (s.mbx p).buf 0 2 ≠ 3)) ∧
    (∃ (s : State) (p : Port), Mailed s p 7 0) ∧
    (∃ (s : State) (p : Port) (z : Nat), Mailed s p 7 z ∧ z ≠ 0) ∧
    (∃ (s : State) (p : Port), (s.mbxOn p = false ∨ (s.mbx p).st ≠ 1 ∨ leAt (s.mbx p).buf 0 2 ≠ 7)) :=
  ⟨⟨{ ({} : State) with regs := [(F_TOP_BOOT_STATUS_STAGE.key 0, 3)], se := { mbx := [(0, { buf := [2, 0, 1, 0] ++ [], st := 1 })] } }, .pf, 1, by decide +kernel⟩,
    ⟨{}, .pf, by decide +kernel⟩,
    ⟨{ ({} : State) with regs := [(F_TOP_BOOT_STATUS_STAGE.key 0, 3)], se := { mbx := [(0, { buf := [3, 0, 0, 0] ++ [], st := 1 })] } }, .pf, by decide +kernel⟩,
    ⟨{ ({} : State) with regs := [(F_TOP_BOOT_STATUS_STAGE.key 0, 3)], se := { mbx := [(0, { buf := [3, 0, 1, 0] ++ [], st := 1 })] } }, .pf, 1, by decide +kernel⟩,
    ⟨{}, .pf, by decide +kernel⟩,
    ⟨{ ({} : State) with regs := [(F_TOP_BOOT_STATUS_STAGE.key 0, 3)], se := { mbx := [(0, { buf := [7, 0, 0, 0] ++ [], st := 1 })] } }, .pf, by decide +kernel⟩,
    ⟨{ ({} : State) with regs := [(F_TOP_BOOT_STATUS_STAGE.key 0, 3)], se := { mbx := [(0, { buf := [7, 0, 1, 0] ++ [], st := 1 })] } }, .pf, 1, by decide +kernel⟩,
    ⟨{}, .pf, by decide +kernel⟩⟩

theorem test_meets_mailbox_commands_complete_4 :
    (∃ (s : State) (p : Port), Mailed s p 9 4 ∧ leAt (s.mailData p 4) 0 1 ≤ 11 ∧ leAt (s.mailData p 4) 2 2 ≤ 511 ∧ (leAt (s.mailData p 4) 2 2 = 0 ∨ leAt (s.mailData p 4) 0 1 = 11) ∧ (leAt (s.mailData p 4) 0 1 < 5 ∨ 7 < leAt (s.mailData p 4) 0 1)) ∧
    (∃ (s : State) (p : Port), Mailed s p 9 4 ∧ leAt (s.mailData p 4) 0 1 ≤ 11 ∧ leAt (s.mailData p 4) 2 2 ≤ 511 ∧ (leAt (s.mailData p 4) 2 2 = 0 ∨ leAt (s.mailData p 4) 0 1 = 11) ∧ (leAt (s.mailData p 4) 0 1 < 5 ∨ 7 < leAt (s.mailData p 4) 0 1)) ∧
    (∃ (s : State) (p : Port), Mailed s p 9 4 ∧ 5 ≤ leAt (s.mailData p 4) 0 1 ∧ leAt (s.mailData p 4) 0 1 ≤ 7 ∧ leAt (s.mailData p 4) 2 2 = 0) ∧
    (∃ (s : State) (p : Port), Mailed s p 9 4 ∧ (11 < leAt (s.mailData p 4) 0 1 ∨ 511 < leAt (s.mailData p 4) 2 2 ∨ (leAt (s.mailData p 4) 2 2 ≠ 0 ∧ leAt (s.mailData p 4) 0 1 ≠ 11))) ∧
    (∃ (s : State) (p : Port) (z : Nat), Mailed s p 9 z ∧ z ≠ 4) ∧
    (∃ (s : State) (p : Port), (s.mbxOn p = false ∨ (s.mbx p).st ≠ 1 ∨ leAt (s.mbx p).buf 0 2 ≠ 9)) ∧
    (∃ (s : State) (p : Port), Mailed s p 10 0) ∧
    (∃ (s : State) (p : Port), Mailed s p 10 0) :=
  ⟨⟨{ ({} : State) with regs := [(F_TOP_BOOT_STATUS_STAGE.key 0, 3)], se := { mbx := [(0, { buf := [9, 0, 4, 0] ++ [11, 0, 255, 1], st := 1 })] } }, .pf, by decide +kernel⟩,
    ⟨{ ({} : State) with regs := [(F_TOP_BOOT_STATUS_STAGE.key 0, 3)], se := { mbx := [(0, { buf := [9, 0, 4, 0] ++ [4, 0, 0, 0], st := 1 })] } }, .pf, by decide +kernel⟩,
    ⟨{ ({} : State) with regs := [(F_TOP_BOOT_STATUS_STAGE.key 0, 3)], se := { mbx := [(0, { buf := [9, 0, 4, 0] ++ [5, 0, 0, 0], st := 1 })] } }, .pf, by decide +kernel⟩,
    ⟨{ ({} : State) with regs := [(F_TOP_BOOT_STATUS_STAGE.key 0, 3)], se := { mbx := [(0, { buf := [9, 0, 4, 0] ++ [10, 0, 1, 0], st := 1 })] } }, .pf, by decide +kernel⟩,
    ⟨{ ({} : State) with regs := [(F_TOP_BOOT_STATUS_STAGE.key 0, 3)], se := { mbx := [(0, { buf := [9, 0, 5, 0] ++ [], st := 1 })] } }, .pf, 5, by decide +kernel⟩,
    ⟨{}, .pf, by decide +kernel⟩,
    ⟨{ ({} : State) with regs := [(F_TOP_BOOT_STATUS_STAGE.key 0, 3)], se := { mbx := [(65, { buf := [10, 0, 0, 0] ++ [], st := 1 })], slots := [(0, { st := 2, image := { svn := 7 } }), (3, { st := 2, image := { svn := 9 } })] } }, .fw, by decide +kernel⟩,
    ⟨{ ({} : State) with regs := [(F_TOP_BOOT_STATUS_STAGE.key 0, 3)], se := { mbx := [(65, { buf := [10, 0, 0, 0] ++ [], st := 1 })], slots := [(0, { st := 2, image := { svn := 7 } }), (3, { st := 2, image := { svn := 9 } })] } }, .fw, by decide +kernel⟩⟩

theorem test_meets_mailbox_commands_complete_5 :
    (∃ (s : State) (p : Port) (z : Nat), Mailed s p 10 z ∧ z ≠ 0) ∧
    (∃ (s : State) (p : Port), (s.mbxOn p = false ∨ (s.mbx p).st ≠ 1 ∨ leAt (s.mbx p).buf 0 2 ≠ 10)) ∧
    (∃ (s : State) (p : Port), Mailed s p 5 0 ∧ s.lc ≠ 0 ∧ s.lc ≠ 4) ∧
    (∃ (s : State) (p : Port), Mailed s p 5 0 ∧ (s.lc = 0 ∨ s.lc = 4)) ∧
    (∃ (s : State) (p : Port) (z : Nat), Mailed s p 5 z ∧ z ≠ 0) ∧
    (∃ (s : State) (p : Port), (s.mbxOn p = false ∨ (s.mbx p).st ≠ 1 ∨ leAt (s.mbx p).buf 0 2 ≠ 5)) ∧
    (∃ (s : State), s.locked = true ∧ s.se.lockedUntil ≤ s.now) ∧
    (∃ (s : State), (s.locked = false ∨ s.now < s.se.lockedUntil)) :=
  ⟨⟨{ ({} : State) with regs := [(F_TOP_BOOT_STATUS_STAGE.key 0, 3)], se := { mbx := [(0, { buf := [10, 0, 1, 0] ++ [], st := 1 })] } }, .pf, 1, by decide +kernel⟩,
    ⟨{}, .pf, by decide +kernel⟩,
    ⟨{ ({} : State) with regs := [(F_TOP_BOOT_STATUS_STAGE.key 0, 3)], se := { mbx := [(0, { buf := [5, 0, 0, 0] ++ [], st := 1 })], debug := 1, fuses := { lc := .of 2 } } }, .pf, by decide +kernel⟩,
    ⟨{ ({} : State) with regs := [(F_TOP_BOOT_STATUS_STAGE.key 0, 3)], se := { mbx := [(0, { buf := [5, 0, 0, 0] ++ [], st := 1 })], debug := 2 } }, .pf, by decide +kernel⟩,
    ⟨{ ({} : State) with regs := [(F_TOP_BOOT_STATUS_STAGE.key 0, 3)], se := { mbx := [(0, { buf := [5, 0, 1, 0] ++ [], st := 1 })] } }, .pf, 1, by decide +kernel⟩,
    ⟨{}, .pf, by decide +kernel⟩,
    ⟨{ ({} : State) with now := 50, se := { lockedUntil := 50, refused := [3] } }, by decide +kernel⟩,
    ⟨{ ({} : State) with now := 49, se := { lockedUntil := 50, refused := [3] } }, by decide +kernel⟩⟩

set_option maxRecDepth 100000 in
theorem test_meets_token_commands_complete_1 :
    (∃ (s : State) (p : Port) (k : List Byte) (l : List Byte), Mailed s p 4 192 ∧ s.locked = false ∧ s.mailData p 192 = l ∧ s.lc ≠ 0 ∧ s.lc ≠ 4 ∧ s.tokenFault { kind := 1, request := if leAt l 1 1 = 2 then 2 else 1, signer := some (debugSigner s.lc), ports := [portCode p, 100] } l k = 0) ∧
    (∃ (s : State) (p : Port) (k : List Byte) (l : List Byte), Mailed s p 4 192 ∧ s.locked = false ∧ s.mailData p 192 = l ∧ s.lc ≠ 0 ∧ s.lc ≠ 4 ∧ s.tokenFault { kind := 1, request := if leAt l 1 1 = 2 then 2 else 1, signer := some (debugSigner s.lc), ports := [portCode p, 100] } l k ≠ 0) ∧
    (∃ (s : State) (p : Port) (k : List Byte) (l : List Byte), Mailed s p 4 192 ∧ s.locked = false ∧ s.mailData p 192 = l ∧ s.lc ≠ 0 ∧ s.lc ≠ 4 ∧ s.tokenFault { kind := 1, request := if leAt l 1 1 = 2 then 2 else 1, signer := some (debugSigner s.lc), ports := [portCode p, 100] } l k ≠ 0) ∧
    (∃ (s : State) (p : Port), Mailed s p 4 192 ∧ s.locked = false ∧ (s.lc = 0 ∨ s.lc = 4)) ∧
    (∃ (s : State) (p : Port) (z : Nat), Mailed s p 4 z ∧ z ≠ 192 ∧ s.locked = false) ∧
    (∃ (s : State) (p : Port) (z : Nat), Mailed s p 4 z ∧ s.locked = true) ∧
    (∃ (s : State) (p : Port), (s.mbxOn p = false ∨ (s.mbx p).st ≠ 1 ∨ leAt (s.mbx p).buf 0 2 ≠ 4)) ∧
    (∃ (s : State), (s.ck.power = 0 ∨ s.se.hold = true)) :=
  ⟨⟨{ ({} : State) with regs := [(F_TOP_BOOT_STATUS_STAGE.key 0, 3)], se := { mbx := [(0, { buf := [4, 0, 192, 0] ++ debugToken9, st := 1 })], nonces := [(0, List.replicate 32 9)], fuses := { lc := .of 10, owner := sha384 rootKey } }, ks := [(64, { st := .active, kind := 2, tenant := 5 })] }, .pf, rootKey, debugToken9, by decide +kernel⟩,
    ⟨{ ({} : State) with regs := [(F_TOP_BOOT_STATUS_STAGE.key 0, 3)], se := { mbx := [(0, { buf := [4, 0, 192, 0] ++ debugToken9, st := 1 })], nonces := [(0, List.replicate 32 9)], fuses := { lc := .of 10, owner := sha384 rootKey } } }, .pf, rootKey.reverse, debugToken9, by decide +kernel⟩,
    ⟨{ ({} : State) with regs := [(F_TOP_BOOT_STATUS_STAGE.key 0, 3)], se := { mbx := [(0, { buf := [4, 0, 192, 0] ++ debugToken9, st := 1 })], fuses := { lc := .of 10, owner := sha384 rootKey } } }, .pf, rootKey, debugToken9, by decide +kernel⟩,
    ⟨{ ({} : State) with regs := [(F_TOP_BOOT_STATUS_STAGE.key 0, 3)], se := { mbx := [(0, { buf := [4, 0, 192, 0] ++ [], st := 1 })] } }, .pf, by decide +kernel⟩,
    ⟨{ ({} : State) with regs := [(F_TOP_BOOT_STATUS_STAGE.key 0, 3)], se := { mbx := [(0, { buf := [4, 0, 0, 0] ++ [], st := 1 })] } }, .pf, 0, by decide +kernel⟩,
    ⟨{ ({} : State) with regs := [(F_TOP_BOOT_STATUS_STAGE.key 0, 3)], se := { mbx := [(0, { buf := [4, 0, 192, 0] ++ [], st := 1 })], lockedUntil := 9 } }, .pf, 192, by decide +kernel⟩,
    ⟨{}, .pf, by decide +kernel⟩,
    ⟨{}, by decide +kernel⟩⟩

set_option maxRecDepth 100000 in
theorem test_meets_token_commands_complete_2 :
    (∃ (s : State), (s.ck.power = 0 ∨ s.se.hold = true)) ∧
    (∃ (s : State) (k : List Byte) (l : List Byte), (s.ck.power = 0 ∨ s.se.hold = true) ∧ s.locked = false ∧ s.lc ≠ 0 ∧ s.lc ≠ 4 ∧ s.tokenFault { kind := 1, request := if leAt l 1 1 = 2 then 2 else 1, signer := some (debugSigner s.lc), ports := [100] } l k = 0) ∧
    (∃ (s : State) (k : List Byte) (l : List Byte), (s.ck.power = 0 ∨ s.se.hold = true) ∧ s.locked = false ∧ s.lc ≠ 0 ∧ s.lc ≠ 4 ∧ s.tokenFault { kind := 1, request := if leAt l 1 1 = 2 then 2 else 1, signer := some (debugSigner s.lc), ports := [100] } l k ≠ 0) ∧
    (∃ (s : State), (s.ck.power = 0 ∨ s.se.hold = true) ∧ (s.locked = true ∨ s.lc = 0 ∨ s.lc = 4)) ∧
    (∃ (s : State), s.ck.power ≠ 0 ∧ s.se.hold = false) ∧
    (∃ (s : State) (p : Port) (k : List Byte) (c : Nat) (n : Nat) (l : List Byte) (g : Option Nat), Mailed s p 6 n ∧ (n = 192 ∨ n = 240) ∧ s.locked = false ∧ s.mailData p n = l ∧ lcRule s.lc (leAt l 1 1) = some g ∧ (n = 240 ↔ leAt l 1 1 = 2) ∧ s.tokenFault { kind := 2, request := leAt l 1 1, signer := g, ports := [portCode p] } (l.take 192) k = 0 ∧ s.fusesFit (leAt l 1 1) (l.drop 192) = true ∧ s.se.hold = false ∧ (c = 0 ∨ 5 < c)) ∧
    (∃ (s : State) (p : Port) (k : List Byte) (c : Nat) (n : Nat) (l : List Byte) (g : Option Nat), Mailed s p 6 n ∧ (n = 192 ∨ n = 240) ∧ s.locked = false ∧ s.mailData p n = l ∧ lcRule s.lc (leAt l 1 1) = some g ∧ (n = 240 ↔ leAt l 1 1 = 2) ∧ s.tokenFault { kind := 2, request := leAt l 1 1, signer := g, ports := [portCode p] } (l.take 192) k = 0 ∧ s.fusesFit (leAt l 1 1) (l.drop 192) = true ∧ s.se.hold = false ∧ (c = 0 ∨ 5 < c)) ∧
    (∃ (s : State) (p : Port) (k : List Byte) (c : Nat) (n : Nat) (l : List Byte) (g : Option Nat), Mailed s p 6 n ∧ (n = 192 ∨ n = 240) ∧ s.locked = false ∧ s.mailData p n = l ∧ lcRule s.lc (leAt l 1 1) = some g ∧ (n = 240 ↔ leAt l 1 1 = 2) ∧ s.tokenFault { kind := 2, request := leAt l 1 1, signer := g, ports := [portCode p] } (l.take 192) k = 0 ∧ s.fusesFit (leAt l 1 1) (l.drop 192) = true ∧ s.se.hold = true ∧ (c = 0 ∨ 5 < c)) :=
  ⟨⟨{ ({} : State) with ck := { power := 3 }, se := { hold := true } }, by decide +kernel⟩,
    ⟨{ ({} : State) with se := { fuses := { lc := .of 10, owner := sha384 rootKey }, nonces := [(100, List.replicate 32 7)] } }, rootKey, debugToken7, by decide +kernel⟩,
    ⟨{ ({} : State) with se := { fuses := { lc := .of 10, owner := sha384 rootKey } } }, rootKey, debugToken7, by decide +kernel⟩,
    ⟨{}, by decide +kernel⟩,
    ⟨{ ({} : State) with ck := { power := 1 } }, by decide +kernel⟩,
    ⟨{ ({} : State) with regs := [(F_TOP_BOOT_STATUS_STAGE.key 0, 3)], se := { mbx := [(0, { buf := [6, 0, 192, 0] ++ (plainToken 1), st := 1 })], nonces := [(0, List.replicate 32 9)] } }, .pf, [], 0, 192, plainToken 1, none, by decide +kernel⟩,
    ⟨{ ({} : State) with regs := [(F_TOP_BOOT_STATUS_STAGE.key 0, 3)], se := { mbx := [(0, { buf := [6, 0, 240, 0] ++ (plainToken 2 ++ List.replicate 48 5), st := 1 })], nonces := [(0, List.replicate 32 9)], fuses := { lc := .of 3 } } }, .pf, [], 0, 240, plainToken 2 ++ List.replicate 48 5, none, by decide +kernel⟩,
    ⟨{ ({} : State) with regs := [(F_TOP_BOOT_STATUS_STAGE.key 0, 3)], se := { mbx := [(0, { buf := [6, 0, 192, 0] ++ (plainToken 1), st := 1 })], nonces := [(0, List.replicate 32 9)], hold := true } }, .pf, [], 0, 192, plainToken 1, none, by decide +kernel⟩⟩

theorem test_meets_token_commands_complete_3 :
    (∃ (s : State) (p : Port) (k : List Byte) (c : Nat) (n : Nat) (l : List Byte) (g : Option Nat), Mailed s p 6 n ∧ (n = 192 ∨ n = 240) ∧ s.locked = false ∧ s.mailData p n = l ∧ lcRule s.lc (leAt l 1 1) = some g ∧ (n = 240 ↔ leAt l 1 1 = 2) ∧ s.tokenFault { kind := 2, request := leAt l 1 1, signer := g, ports := [portCode p] } (l.take 192) k = 0 ∧ s.fusesFit (leAt l 1 1) (l.drop 192) = true ∧ 1 ≤ c ∧ c ≤ 5) ∧
    (∃ (s : State) (p : Port) (k : List Byte) (c : Nat) (n : Nat) (l : List Byte) (g : Option Nat), Mailed s p 6 n ∧ (n = 192 ∨ n = 240) ∧ s.locked = false ∧ s.mailData p n = l ∧ lcRule s.lc (leAt l 1 1) = some g ∧ (n = 240 ↔ leAt l 1 1 = 2) ∧ s.tokenFault { kind := 2, request := leAt l 1 1, signer := g, ports := [portCode p] } (l.take 192) k = 0 ∧ s.fusesFit (leAt l 1 1) (l.drop 192) = true ∧ 1 ≤ c ∧ c ≤ 5) ∧
    (∃ (s : State) (p : Port) (k : List Byte) (n : Nat) (l : List Byte) (g : Option Nat), Mailed s p 6 n ∧ (n = 192 ∨ n = 240) ∧ s.locked = false ∧ s.mailData p n = l ∧ lcRule s.lc (leAt l 1 1) = some g ∧ (n = 240 ↔ leAt l 1 1 = 2) ∧ s.tokenFault { kind := 2, request := leAt l 1 1, signer := g, ports := [portCode p] } (l.take 192) k = 0 ∧ s.fusesFit (leAt l 1 1) (l.drop 192) = false) ∧
    (∃ (s : State) (p : Port) (k : List Byte) (n : Nat) (l : List Byte) (g : Option Nat), Mailed s p 6 n ∧ (n = 192 ∨ n = 240) ∧ s.locked = false ∧ s.mailData p n = l ∧ lcRule s.lc (leAt l 1 1) = some g ∧ (n = 240 ↔ leAt l 1 1 = 2) ∧ s.tokenFault { kind := 2, request := leAt l 1 1, signer := g, ports := [portCode p] } (l.take 192) k ≠ 0) ∧
    (∃ (s : State) (p : Port) (n : Nat) (l : List Byte) (g : Option Nat), Mailed s p 6 n ∧ (n = 192 ∨ n = 240) ∧ s.locked = false ∧ s.mailData p n = l ∧ lcRule s.lc (leAt l 1 1) = some g ∧ ¬(n = 240 ↔ leAt l 1 1 = 2)) ∧
    (∃ (s : State) (p : Port) (n : Nat) (l : List Byte), Mailed s p 6 n ∧ (n = 192 ∨ n = 240) ∧ s.locked = false ∧ s.mailData p n = l ∧ lcRule s.lc (leAt l 1 1) = none) ∧
    (∃ (s : State) (p : Port) (z : Nat), Mailed s p 6 z ∧ z ≠ 192 ∧ z ≠ 240 ∧ s.locked = false) ∧
    (∃ (s : State) (p : Port) (z : Nat), Mailed s p 6 z ∧ s.locked = true) :=
  ⟨⟨{ ({} : State) with regs := [(F_TOP_BOOT_STATUS_STAGE.key 0, 3)], se := { mbx := [(0, { buf := [6, 0, 192, 0] ++ (plainToken 1), st := 1 })], nonces := [(0, List.replicate 32 9)] } }, .pf, [], 3, 192, plainToken 1, none, by decide +kernel⟩,
    ⟨{ ({} : State) with regs := [(F_TOP_BOOT_STATUS_STAGE.key 0, 3)], se := { mbx := [(0, { buf := [6, 0, 240, 0] ++ (plainToken 2 ++ List.replicate 48 5), st := 1 })], nonces := [(0, List.replicate 32 9)], fuses := { lc := .of 3 } } }, .pf, [], 1, 240, plainToken 2 ++ List.replicate 48 5, none, by decide +kernel⟩,
    ⟨{ ({} : State) with regs := [(F_TOP_BOOT_STATUS_STAGE.key 0, 3)], se := { mbx := [(0, { buf := [6, 0, 240, 0] ++ (plainToken 2 ++ List.replicate 48 5), st := 1 })], nonces := [(0, List.replicate 32 9)], fuses := { lc := .of 3, owner := List.replicate 48 2 } } }, .pf, [], 240, plainToken 2 ++ List.replicate 48 5, none, by decide +kernel⟩,
    ⟨{ ({} : State) with regs := [(F_TOP_BOOT_STATUS_STAGE.key 0, 3)], se := { mbx := [(0, { buf := [6, 0, 192, 0] ++ (plainToken 1), st := 1 })], nonces := [] } }, .pf, [], 192, plainToken 1, none, by decide +kernel⟩,
    ⟨{ ({} : State) with regs := [(F_TOP_BOOT_STATUS_STAGE.key 0, 3)], se := { mbx := [(0, { buf := [6, 0, 192, 0] ++ (plainToken 2), st := 1 })], nonces := [(0, List.replicate 32 9)], fuses := { lc := .of 3 } } }, .pf, 192, plainToken 2, none, by decide +kernel⟩,
    ⟨{ ({} : State) with regs := [(F_TOP_BOOT_STATUS_STAGE.key 0, 3)], se := { mbx := [(0, { buf := [6, 0, 192, 0] ++ (plainToken 1), st := 1 })], nonces := [(0, List.replicate 32 9)], fuses := { lc := .of 8 } } }, .pf, 192, plainToken 1, by decide +kernel⟩,
    ⟨{ ({} : State) with regs := [(F_TOP_BOOT_STATUS_STAGE.key 0, 3)], se := { mbx := [(0, { buf := [6, 0, 0, 0] ++ [], st := 1 })] } }, .pf, 0, by decide +kernel⟩,
    ⟨{ ({} : State) with regs := [(F_TOP_BOOT_STATUS_STAGE.key 0, 3)], se := { mbx := [(0, { buf := [6, 0, 192, 0] ++ [], st := 1 })], lockedUntil := 9 } }, .pf, 192, by decide +kernel⟩⟩

set_option maxRecDepth 100000 in
theorem test_meets_token_commands_complete_4 :
    (∃ (s : State) (p : Port), (s.mbxOn p = false ∨ (s.mbx p).st ≠ 1 ∨ leAt (s.mbx p).buf 0 2 ≠ 6)) ∧
    (∃ (s : State) (p : Port) (n : Nat), Mailed s p 8 n ∧ s.locked = false ∧ (n = 0 ∨ n = 192) ∧ s.lc ≠ 2 ∧ s.se.vbat.inputActive = false) ∧
    (∃ (s : State) (p : Port) (k : List Byte) (l : List Byte), Mailed s p 8 192 ∧ s.locked = false ∧ s.mailData p 192 = l ∧ s.lc = 2 ∧ s.se.vbat.inputActive = false ∧ s.tokenFault { kind := 3, request := 0, signer := some 1, ports := [portCode p] } l k = 0) ∧
    (∃ (s : State) (p : Port) (k : List Byte) (l : List Byte), Mailed s p 8 192 ∧ s.locked = false ∧ s.mailData p 192 = l ∧ s.lc = 2 ∧ s.se.vbat.inputActive = false ∧ s.tokenFault { kind := 3, request := 0, signer := some 1, ports := [portCode p] } l k ≠ 0) ∧
    (∃ (s : State) (p : Port) (n : Nat), Mailed s p 8 n ∧ s.locked = false ∧ (n = 192 ∨ (n = 0 ∧ s.lc ≠ 2)) ∧ s.se.vbat.inputActive = true) ∧
    (∃ (s : State) (p : Port) (z : Nat), Mailed s p 8 z ∧ z ≠ 192 ∧ (z ≠ 0 ∨ s.lc = 2) ∧ s.locked = false) ∧
    (∃ (s : State) (p : Port) (z : Nat), Mailed s p 8 z ∧ s.locked = true) ∧
    (∃ (s : State) (p : Port), (s.mbxOn p = false ∨ (s.mbx p).st ≠ 1 ∨ leAt (s.mbx p).buf 0 2 ≠ 8)) :=
  ⟨⟨{}, .pf, by decide +kernel⟩,
    ⟨{ ({} : State) with regs := [(F_TOP_BOOT_STATUS_STAGE.key 0, 3)], se := { mbx := [(0, { buf := [8, 0, 0, 0] ++ [], st := 1 })], vbat := { cause := 3, count := 9, zeroised := true } } }, .pf, 0, by decide +kernel⟩,
    ⟨{ ({} : State) with regs := [(F_TOP_BOOT_STATUS_STAGE.key 0, 3)], se := { mbx := [(0, { buf := [8, 0, 192, 0] ++ ackToken, st := 1 })], vbat := { cause := 3, count := 9, zeroised := true }, nonces := [(0, List.replicate 32 9)], fuses := { lc := .of 10, owner := sha384 rootKey } } }, .pf, rootKey, ackToken, by decide +kernel⟩,
    ⟨{ ({} : State) with regs := [(F_TOP_BOOT_STATUS_STAGE.key 0, 3)], se := { mbx := [(0, { buf := [8, 0, 192, 0] ++ ackToken, st := 1 })], nonces := [(0, List.replicate 32 9)], fuses := { lc := .of 10, owner := sha384 rootKey } } }, .pf, rootKey.reverse, ackToken, by decide +kernel⟩,
    ⟨{ ({} : State) with regs := [(F_TOP_BOOT_STATUS_STAGE.key 0, 3)], se := { mbx := [(0, { buf := [8, 0, 0, 0] ++ [], st := 1 })], vbat := { inputs := [{ on := true }], active := [0] } } }, .pf, 0, by decide +kernel⟩,
    ⟨{ ({} : State) with regs := [(F_TOP_BOOT_STATUS_STAGE.key 0, 3)], se := { mbx := [(0, { buf := [8, 0, 1, 0] ++ [], st := 1 })] } }, .pf, 1, by decide +kernel⟩,
    ⟨{ ({} : State) with regs := [(F_TOP_BOOT_STATUS_STAGE.key 0, 3)], se := { mbx := [(0, { buf := [8, 0, 0, 0] ++ [], st := 1 })], lockedUntil := 9 } }, .pf, 0, by decide +kernel⟩,
    ⟨{}, .pf, by decide +kernel⟩⟩

set_option maxRecDepth 100000 in
theorem test_meets_token_commands_complete_5 :
    (∃ (s : State) (p : Port) (l : List Byte), Mailed s p 11 4 ∧ s.locked = false ∧ s.mailData p 4 = l ∧ s.lc = 1) ∧
    (∃ (s : State) (p : Port) (k : List Byte) (l : List Byte), Mailed s p 11 196 ∧ s.locked = false ∧ s.mailData p 196 = l ∧ s.lc = 2 ∧ s.tokenFault { kind := 4, request := 0, signer := some 1, ports := [portCode p] } (l.take 192) k = 0) ∧
    (∃ (s : State) (p : Port) (k : List Byte) (l : List Byte), Mailed s p 11 196 ∧ s.locked = false ∧ s.mailData p 196 = l ∧ s.lc = 2 ∧ s.tokenFault { kind := 4, request := 0, signer := some 1, ports := [portCode p] } (l.take 192) k ≠ 0) ∧
    (∃ (s : State) (p : Port), Mailed s p 11 4 ∧ s.locked = false ∧ s.lc ≠ 1 ∧ s.lc ≠ 2) ∧
    (∃ (s : State) (p : Port) (z : Nat), Mailed s p 11 z ∧ z ≠ (if s.lc = 2 then 196 else 4) ∧ s.locked = false) ∧
    (∃ (s : State) (p : Port) (z : Nat), Mailed s p 11 z ∧ s.locked = true) ∧
    (∃ (s : State) (p : Port), (s.mbxOn p = false ∨ (s.mbx p).st ≠ 1 ∨ leAt (s.mbx p).buf 0 2 ≠ 11)) :=
  ⟨⟨{ ({} : State) with regs := [(F_TOP_BOOT_STATUS_STAGE.key 0, 3)], se := { mbx := [(0, { buf := [11, 0, 4, 0] ++ [0, 1, 3, 7], st := 1 })], fuses := { lc := .of 2 } } }, .pf, [0, 1, 3, 7], by decide +kernel⟩,
    ⟨{ ({} : State) with regs := [(F_TOP_BOOT_STATUS_STAGE.key 0, 3)], se := { mbx := [(0, { buf := [11, 0, 196, 0] ++ (cfgToken ++ [0, 1, 3, 7]), st := 1 })], nonces := [(0, List.replicate 32 9)], fuses := { lc := .of 10, owner := sha384 rootKey } } }, .pf, rootKey, cfgToken ++ [0, 1, 3, 7], by decide +kernel⟩,
    ⟨{ ({} : State) with regs := [(F_TOP_BOOT_STATUS_STAGE.key 0, 3)], se := { mbx := [(0, { buf := [11, 0, 196, 0] ++ (cfgToken ++ [0, 1, 3, 7]), st := 1 })], fuses := { lc := .of 10, owner := sha384 rootKey } } }, .pf, rootKey, cfgToken ++ [0, 1, 3, 7], by decide +kernel⟩,
    ⟨{ ({} : State) with regs := [(F_TOP_BOOT_STATUS_STAGE.key 0, 3)], se := { mbx := [(0, { buf := [11, 0, 4, 0] ++ [], st := 1 })] } }, .pf, by decide +kernel⟩,
    ⟨{ ({} : State) with regs := [(F_TOP_BOOT_STATUS_STAGE.key 0, 3)], se := { mbx := [(0, { buf := [11, 0, 1, 0] ++ [], st := 1 })] } }, .pf, 1, by decide +kernel⟩,
    ⟨{ ({} : State) with regs := [(F_TOP_BOOT_STATUS_STAGE.key 0, 3)], se := { mbx := [(0, { buf := [11, 0, 4, 0] ++ [], st := 1 })], lockedUntil := 9 } }, .pf, 4, by decide +kernel⟩,
    ⟨{}, .pf, by decide +kernel⟩⟩

theorem test_meets_tamper_and_test_access_take_effect_1 :
    (∃ (s : State) (c : Nat) (l : List Bool), s.alarmDue c l = true ∧ s.se.vbat.zeroised = false) ∧
    (∃ (s : State) (c : Nat) (l : List Bool), s.alarmDue c l = true ∧ s.se.vbat.zeroised = false) ∧
    (∃ (s : State) (c : Nat) (l : List Bool), (s.alarmDue c l = false ∨ s.se.vbat.zeroised = true)) ∧
    (∃ (s : State) (c : Nat) (l : List Bool), s.alarmDue c l = true ∧ s.se.vbat.zeroised = true) ∧
    (∃ (s : State) (c : Nat) (l : List Bool), (s.alarmDue c l = false ∨ s.se.vbat.zeroised = false)) ∧
    (∃ (s : State) (n : Nat) (l : List Bool), s.inputQuiet n l = true) ∧
    (∃ (s : State) (n : Nat) (l : List Bool), s.inputQuiet n l = false) ∧
    (∃ (s : State), s.mainRails = true) :=
  ⟨⟨{ ({} : State) with regs := [(F_TOP_BOOT_STATUS_STAGE.key 0, 3)], se := { vbat := { wrap := .random 3, inputs := [{}, {}, {}, { on := true, level := true }] } } }, 3, [true, true, true], by decide +kernel⟩,
    ⟨{ ({} : State) with regs := [(F_TOP_BOOT_STATUS_STAGE.key 0, 3)], se := { vbat := { wrap := .random 3 } } }, 4, [], by decide +kernel⟩,
    ⟨{ ({} : State) with regs := [(F_TOP_BOOT_STATUS_STAGE.key 0, 3)], se := { vbat := { wrap := .random 3, inputs := [{ on := true, level := true }] } } }, 0, [true, true, false], by decide +kernel⟩,
    ⟨{ ({} : State) with regs := [(F_TOP_BOOT_STATUS_STAGE.key 0, 3)], se := { vbat := { zeroised := true, count := 255 } } }, 4, [], by decide +kernel⟩,
    ⟨{}, 4, [], by decide +kernel⟩,
    ⟨{ ({} : State) with regs := [(F_TOP_BOOT_STATUS_STAGE.key 0, 3)], se := { vbat := { active := [2], inputs := [{}, {}, { on := true, level := true }] } } }, 2, [false, false, false], by decide +kernel⟩,
    ⟨{ ({} : State) with regs := [(F_TOP_BOOT_STATUS_STAGE.key 0, 3)], se := { vbat := { active := [2], inputs := [{}, {}, { on := true, level := true }] } } }, 2, [false, true, false], by decide +kernel⟩,
    ⟨{}, by decide +kernel⟩⟩

theorem test_meets_tamper_and_test_access_take_effect_2 :
    (∃ (s : State), s.mainRails = false) ∧
    (∃ (s : State), s.mainRails = false) ∧
    (∃ (s : State), s.mainRails = true) ∧
    (∃ (s : State), s.ck.power ≤ 1 ∧ s.fld F_TOP_BOOT_STATUS_STAGE ≠ 0) ∧
    (∃ (s : State), (1 < s.ck.power ∨ s.fld F_TOP_BOOT_STATUS_STAGE = 0)) ∧
    (∃ (s : State), s.tapOn = true ∧ s.se.hold = false) ∧
    (∃ (s : State), (s.tapOn = false ∨ s.se.hold = true)) ∧
    (∃ (s : State), s.tapOn = true ∧ s.se.hold = false) :=
  ⟨⟨{ ({} : State) with ck := { power := 2 } }, by decide +kernel⟩,
    ⟨{ ({} : State) with regs := [], ck := { power := 2 }, now := 100000000, se := { vbat := { wrap := .random 3 } }, er := { storeValid := true } }, by decide +kernel⟩,
    ⟨{}, by decide +kernel⟩,
    ⟨{ ({} : State) with regs := [(F_TOP_BOOT_STATUS_STAGE.key 0, 3)], ks := [(64, { st := .active, kind := 1, tenant := 5 }), (65, { st := .active, kind := 4 })] }, by decide +kernel⟩,
    ⟨{}, by decide +kernel⟩,
    ⟨{ ({} : State) with regs := [(F_TOP_BOOT_STATUS_STAGE.key 0, 3)], ks := [(64, { st := .active })], mem := [(5, 1)] }, by decide +kernel⟩,
    ⟨{ ({} : State) with ck := { power := 1 } }, by decide +kernel⟩,
    ⟨{ ({} : State) with regs := [(F_TOP_BOOT_STATUS_STAGE.key 0, 3)], ks := [(64, { st := .active })], mem := [(5, 1)] }, by decide +kernel⟩⟩

theorem test_meets_tamper_and_test_access_take_effect_3 :
    (∃ (s : State), (s.tapOn = false ∨ s.se.hold = true)) ∧
    (∃ (s : State), s.tapOn = true ∧ s.se.hold = false) ∧
    (∃ (s : State), (s.tapOn = false ∨ s.se.hold = true)) ∧
    (∃ (s : State), s.tapOn = true ∧ s.se.hold = false) ∧
    (∃ (s : State), (s.tapOn = false ∨ s.se.hold = true)) ∧
    (∃ (s : State), s.tapOn = true ∧ s.se.hold = false) ∧
    (∃ (s : State), (s.tapOn = false ∨ s.se.hold = true)) ∧
    (∃ (s : State), s.dapAllows 0 = true) :=
  ⟨⟨{ ({} : State) with ck := { power := 1 } }, by decide +kernel⟩,
    ⟨{ ({} : State) with regs := [(F_TOP_BOOT_STATUS_STAGE.key 0, 3)], ks := [(64, { st := .active })], mem := [(5, 1)] }, by decide +kernel⟩,
    ⟨{ ({} : State) with ck := { power := 1 } }, by decide +kernel⟩,
    ⟨{ ({} : State) with regs := [(F_TOP_BOOT_STATUS_STAGE.key 0, 3)], ks := [(64, { st := .active })], mem := [(5, 1)] }, by decide +kernel⟩,
    ⟨{ ({} : State) with ck := { power := 1 } }, by decide +kernel⟩,
    ⟨{ ({} : State) with regs := [(F_TOP_BOOT_STATUS_STAGE.key 0, 3)], ks := [(64, { st := .active })], mem := [(5, 1)] }, by decide +kernel⟩,
    ⟨{ ({} : State) with ck := { power := 1 } }, by decide +kernel⟩,
    ⟨{ ({} : State) with regs := [(F_TOP_BOOT_STATUS_STAGE.key 0, 3)], mem := [(5, 1)] }, by decide +kernel⟩⟩

theorem test_meets_tamper_and_test_access_take_effect_4 :
    (∃ (s : State) (k : Nat) (v : Nat), s.dapAllows k = true ∧ (k = 1 ∨ (k = 2 ∧ 8 ≤ v) ∨ (k = 6 ∧ 64 ≤ v))) ∧
    (∃ (s : State) (k : Nat) (v : Nat), s.dapAllows k = true ∧ (k = 1 ∨ (k = 2 ∧ 8 ≤ v) ∨ (k = 6 ∧ 64 ≤ v))) ∧
    (∃ (s : State) (l : List Byte), s.dapAllows 5 = true ∧ l ≠ []) ∧
    (∃ (s : State), s.dapAllows 5 = true) ∧
    (∃ (s : State) (v : Nat), s.dapAllows 2 = true ∧ v < 8) ∧
    (∃ (s : State) (v : Nat), s.dapAllows 6 = true ∧ v < 64) ∧
    (∃ (s : State), s.dapAllows 4 = true) ∧
    (∃ (s : State), s.dapAllows 7 = true) :=
  ⟨⟨{ ({} : State) with regs := [(F_TOP_BOOT_STATUS_STAGE.key 0, 3)], mem := [(5, 1)] }, 1, 0, by decide +kernel⟩,
    ⟨{ ({} : State) with regs := [(F_TOP_BOOT_STATUS_STAGE.key 0, 3)], mem := [(5, 1)] }, 2, 8, by decide +kernel⟩,
    ⟨{ ({} : State) with regs := [(F_TOP_BOOT_STATUS_STAGE.key 0, 3)] }, [7, 8], by decide +kernel⟩,
    ⟨{ ({} : State) with regs := [(F_TOP_BOOT_STATUS_STAGE.key 0, 3)], se := { sram := [(524287, 9)] } }, by decide +kernel⟩,
    ⟨{ ({} : State) with regs := [(F_TOP_BOOT_STATUS_STAGE.key 0, 3)], mem := [(5, 1)] }, 7, by decide +kernel⟩,
    ⟨{ ({} : State) with regs := [(F_TOP_BOOT_STATUS_STAGE.key 0, 3)], mem := [(5, 1)] }, 63, by decide +kernel⟩,
    ⟨{ ({} : State) with regs := [(F_TOP_BOOT_STATUS_STAGE.key 0, 3)], mem := [(5, 1)] }, by decide +kernel⟩,
    ⟨{ ({} : State) with regs := [(F_TOP_BOOT_STATUS_STAGE.key 0, 3)], mem := [(5, 1)] }, by decide +kernel⟩⟩

theorem test_meets_tamper_and_test_access_take_effect_5 :
    (∃ (s : State) (v : Nat) (n : Nat), s.dapAllows 3 = true ∧ (s.readAccess (List.range' (v / 65536) (n / 65536 + 2)) none (v % 65536) n {} {}).2.status = .ok) ∧
    (∃ (s : State) (v : Nat) (n : Nat), s.dapAllows 3 = true ∧ (s.readAccess (List.range' (v / 65536) (n / 65536 + 2)) none (v % 65536) n {} {}).2.status ≠ .ok) ∧
    (∃ (s : State) (k : Nat), s.dapAllows k = false) :=
  ⟨⟨{ ({} : State) with regs := [(F_TOP_BOOT_STATUS_STAGE.key 0, 3)], mem := [(5, 1)] }, 0, 16, by decide +kernel⟩,
    ⟨{ ({} : State) with regs := [(F_TOP_BOOT_STATUS_STAGE.key 0, 3)], poison := [0] }, 0, 16, by decide +kernel⟩,
    ⟨{ ({} : State) with regs := [(F_TOP_BOOT_STATUS_STAGE.key 0, 3)], se := { hold := true } }, 0, by decide +kernel⟩⟩

theorem test_meets_register_reads_answer_1 :
    (∃ (s : State) (a : Access) (w : RegWord) (n : Nat) (i : Nat), a.wide = false ∧ a.bar2 = false ∧ s.answers a.p a.off = true ∧ s.ideStops a = false ∧ s.place a.p a.off = .word w n i ∧ w.isLow = false ∧ w.isHigh = false) ∧
    (∃ (s : State) (a : Access) (b : Nat), a.wide = false ∧ a.bar2 = false ∧ s.answers a.p a.off = true ∧ s.ideStops a = false ∧ s.place a.p a.off = .sel b) ∧
    (∃ (s : State) (a : Access) (b : Nat), a.wide = false ∧ a.bar2 = false ∧ s.answers a.p a.off = true ∧ s.ideStops a = false ∧ s.place a.p a.off = .selStatus b) ∧
    (∃ (s : State) (a : Access) (i : Nat) (k : Nat), a.wide = false ∧ a.bar2 = false ∧ s.answers a.p a.off = true ∧ s.ideStops a = false ∧ s.place a.p a.off = .slot i k) ∧
    (∃ (s : State) (a : Access) (f : Nat) (v : Nat) (k : Nat), a.wide = false ∧ a.bar2 = false ∧ s.answers a.p a.off = true ∧ s.ideStops a = false ∧ s.place a.p a.off = .vec f v k) ∧
    (∃ (s : State) (a : Access) (f : Nat) (k : Nat), a.wide = false ∧ a.bar2 = false ∧ s.answers a.p a.off = true ∧ s.ideStops a = false ∧ s.place a.p a.off = .pba f k) ∧
    (∃ (s : State) (a : Access), a.wide = false ∧ a.bar2 = false ∧ s.answers a.p a.off = true ∧ s.ideStops a = false ∧ (s.place a.p a.off = .empty ∨ s.place a.p a.off = .dark ∨ s.place a.p a.off = .noVector)) ∧
    (∃ (s : State) (a : Access), a.wide = false ∧ a.bar2 = false ∧ s.answers a.p a.off = true ∧ s.ideStops a = false ∧ (s.place a.p a.off = .empty ∨ s.place a.p a.off = .dark ∨ s.place a.p a.off = .noVector)) :=
  ⟨⟨{ ({} : State) with regs := [(F_TOP_BOOT_STATUS_STAGE.key 0, 3), (F_SI_POISON_MET_MET.key 0, 9)] }, { p := .pf, off := bar0 10 8 }, ⟨10, 0x8, 1, .plain, [F_SI_POISON_MET_MET]⟩, 0, 0, by decide +kernel⟩,
    ⟨{ ({} : State) with regs := [(F_TOP_BOOT_STATUS_STAGE.key 0, 3)], ports := [(64, { sel := [(1, 70)] })] }, { p := .bmc, off := bar0 1 0x800 }, 1, by decide +kernel⟩,
    ⟨{ ({} : State) with regs := [(F_TOP_BOOT_STATUS_STAGE.key 0, 3)] }, { p := .pf, off := bar0 1 0x804 }, 1, by decide +kernel⟩,
    ⟨{ ({} : State) with regs := [(F_TOP_BOOT_STATUS_STAGE.key 0, 3)], ports := [(0, { sel := [(17, 3)] })], er := { ring := [(3, { ts := 5, seq := 9, kind := 8, cls := 1, utype := 1, inst := 2 })] } }, { p := .pf, off := bar0 17 0x1008 }, 3, 2, by decide +kernel⟩,
    ⟨{ ({} : State) with regs := [(F_TOP_BOOT_STATUS_STAGE.key 0, 3)], ir := { table := [(vecKey 2 1, { addr := 2 ^ 33 + 7 })] } }, { p := .vf 2, off := bar0 15 0x80014 }, 2, 1, 1, by decide +kernel⟩,
    ⟨{ ({} : State) with regs := [(F_TOP_BOOT_STATUS_STAGE.key 0, 3)], ir := { pba := [vecKey 0 33] } }, { p := .pf, off := bar0 15 0xC0004 }, 0, 1, by decide +kernel⟩,
    ⟨{ ({} : State) with regs := [(F_TOP_BOOT_STATUS_STAGE.key 0, 3)], ports := [(0, { sel := [(1, 65535), (15, 3)] })] }, { p := .pf, off := bar0 15 0xFFC }, by decide +kernel⟩,
    ⟨{ ({} : State) with regs := [(F_TOP_BOOT_STATUS_STAGE.key 0, 3)], ports := [(0, { sel := [(8, 99)] })] }, { p := .pf, off := bar0 8 0x1000 }, by decide +kernel⟩⟩

theorem test_meets_register_reads_answer_2 :
    (∃ (s : State) (a : Access) (w : RegWord) (z : RegWord) (n : Nat) (i : Nat), a.wide = false ∧ a.bar2 = false ∧ s.answers a.p a.off = true ∧ s.ideStops a = false ∧ s.place a.p a.off = .word w n i ∧ w.isLow = true ∧ wordAt w.blk (w.off + 4) w.kind = some z) ∧
    (∃ (s : State) (a : Access) (w : RegWord) (n : Nat) (i : Nat), a.wide = false ∧ a.bar2 = false ∧ s.answers a.p a.off = true ∧ s.ideStops a = false ∧ s.place a.p a.off = .word w n i ∧ w.isHigh = true ∧ w.isLow = false) ∧
    (∃ (s : State) (a : Access), a.wide = true ∧ a.bar2 = false ∧ s.answers a.p a.off = true ∧ s.ideStops a = false ∧ ((s.place a.p a.off).isLow = false ∧ (s.place a.p a.off).isHigh = false)) ∧
    (∃ (s : State) (a : Access), a.bar2 = false ∧ s.answers a.p a.off = true ∧ s.ideStops a = true ∧ ((s.place a.p a.off).isLow = false ∧ (s.place a.p a.off).isHigh = false)) ∧
    (∃ (s : State) (a : Access), a.bar2 = false ∧ (s.answers a.p a.off = false ∨ (s.place a.p a.off).isLow = true ∨ (s.place a.p a.off).isHigh = true)) ∧
    (∃ (s : State) (a : Access), a.bar2 = false ∧ (s.answers a.p a.off = false ∨ (s.place a.p a.off).isLow = true ∨ (s.place a.p a.off).isHigh = true)) ∧
    (∃ (s : State) (a : Access), a.wide = true ∧ a.bar2 = false ∧ s.answers a.p a.off = true ∧ s.ideStops a = false ∧ (s.place a.p a.off).isLow = true) ∧
    (∃ (s : State) (a : Access), a.bar2 = false ∧ s.answers a.p a.off = true ∧ s.ideStops a = true ∧ (s.place a.p a.off).isLow = true) :=
  ⟨⟨{ ({} : State) with regs := [(F_TOP_BOOT_STATUS_STAGE.key 0, 3)], now := 2 ^ 40 + 5 }, { p := .pf, off := bar0 20 0 }, ⟨20, 0, 1, .plain, [F_TM_COUNT_LO]⟩, ⟨20, 4, 1, .plain, [F_TM_COUNT_HI]⟩, 0, 0, by decide +kernel⟩,
    ⟨{ ({} : State) with regs := [(F_TOP_BOOT_STATUS_STAGE.key 0, 3)], ports := [(0, { latch := some { blk := 20, off := 0, inst := 0, word := 77 } })] }, { p := .pf, off := bar0 20 4 }, ⟨20, 4, 1, .plain, [F_TM_COUNT_HI]⟩, 0, 0, by decide +kernel⟩,
    ⟨{ ({} : State) with regs := [(F_TOP_BOOT_STATUS_STAGE.key 0, 3)] }, { p := .pf, off := bar0 20 0x10, be := 255, wide := true }, by decide +kernel⟩,
    ⟨{ ({} : State) with regs := [(F_TOP_BOOT_STATUS_STAGE.key 0, 3), (F_HP_CFG_IDE_REQUIRED.key 0, 1)] }, { p := .pf, off := bar0 20 0x10, secure := false }, by decide +kernel⟩,
    ⟨{}, { p := .pf, off := bar0 20 0x10 }, by decide +kernel⟩,
    ⟨{ ({} : State) with regs := [(F_TOP_BOOT_STATUS_STAGE.key 0, 3)] }, { p := .pf, off := bar0 20 4, wide := true }, by decide +kernel⟩,
    ⟨{ ({} : State) with regs := [(F_TOP_BOOT_STATUS_STAGE.key 0, 3)] }, { p := .pf, off := bar0 20 0, be := 255, wide := true }, by decide +kernel⟩,
    ⟨{ ({} : State) with regs := [(F_TOP_BOOT_STATUS_STAGE.key 0, 3), (F_HP_CFG_IDE_REQUIRED.key 0, 1)] }, { p := .pf, off := bar0 20 0, secure := false }, by decide +kernel⟩⟩

theorem test_meets_register_reads_answer_3 :
    (∃ (s : State) (a : Access), a.bar2 = false ∧ (s.answers a.p a.off = false ∨ (s.place a.p a.off).isLow = false)) ∧
    (∃ (s : State) (a : Access), a.bar2 = false ∧ (s.answers a.p a.off = false ∨ (s.place a.p a.off).isLow = false)) ∧
    (∃ (a : Access), a.bar2 = true) ∧
    (∃ (s : State) (a : Access), a.wide = true ∧ a.bar2 = false ∧ s.answers a.p a.off = true ∧ s.ideStops a = false ∧ (s.place a.p a.off).isHigh = true) ∧
    (∃ (s : State) (a : Access), a.bar2 = false ∧ s.answers a.p a.off = true ∧ s.ideStops a = true ∧ (s.place a.p a.off).isHigh = true) ∧
    (∃ (s : State) (a : Access), a.bar2 = false ∧ (s.answers a.p a.off = false ∨ (s.place a.p a.off).isHigh = false)) ∧
    (∃ (s : State) (a : Access), a.bar2 = false ∧ (s.answers a.p a.off = false ∨ (s.place a.p a.off).isHigh = false)) ∧
    (∃ (a : Access), a.bar2 = true) :=
  ⟨⟨{}, { p := .pf, off := bar0 20 0 }, by decide +kernel⟩,
    ⟨{ ({} : State) with regs := [(F_TOP_BOOT_STATUS_STAGE.key 0, 3)] }, { p := .pf, off := bar0 20 4, wide := true }, by decide +kernel⟩,
    ⟨{ p := .pf, off := 0, bar2 := true }, by decide +kernel⟩,
    ⟨{ ({} : State) with regs := [(F_TOP_BOOT_STATUS_STAGE.key 0, 3)] }, { p := .pf, off := bar0 20 4, be := 255, wide := true }, by decide +kernel⟩,
    ⟨{ ({} : State) with regs := [(F_TOP_BOOT_STATUS_STAGE.key 0, 3), (F_HP_CFG_IDE_REQUIRED.key 0, 1)] }, { p := .pf, off := bar0 20 4, secure := false }, by decide +kernel⟩,
    ⟨{}, { p := .pf, off := bar0 20 4 }, by decide +kernel⟩,
    ⟨{ ({} : State) with regs := [(F_TOP_BOOT_STATUS_STAGE.key 0, 3)] }, { p := .pf, off := bar0 20 0, wide := true }, by decide +kernel⟩,
    ⟨{ p := .pf, off := 0, bar2 := true }, by decide +kernel⟩⟩

theorem test_meets_register_reads_answer_4 :
    (∃ (s : State) (a : Access), a.bar2 = true ∧ (portFn a.p = none ∨ s.answers a.p qctlOff = false)) ∧
    (∃ (s : State) (a : Access), a.bar2 = true ∧ (portFn a.p = none ∨ s.answers a.p qctlOff = false)) ∧
    (∃ (s : State) (a : Access) (n : Nat), a.bar2 = true ∧ portFn a.p = some n ∧ s.answers a.p qctlOff = true ∧ (s.fld F_HP_CFG_IDE_REQUIRED = 1 ∧ a.secure = false)) ∧
    (∃ (s : State) (a : Access) (n : Nat), a.bar2 = true ∧ portFn a.p = some n ∧ s.answers a.p qctlOff = true ∧ (s.fld F_HP_CFG_IDE_REQUIRED ≠ 1 ∨ a.secure = true) ∧ a.wide = false) ∧
    (∃ (s : State) (a : Access) (n : Nat), a.bar2 = true ∧ portFn a.p = some n ∧ s.answers a.p qctlOff = true ∧ (s.fld F_HP_CFG_IDE_REQUIRED ≠ 1 ∨ a.secure = true) ∧ a.wide = true) ∧
    (∃ (s : State) (v : Nat), s.bindUp 1 = true ∧ v % 4 = 0 ∧ v < 0x4000000) ∧
    (∃ (s : State) (v : Nat), s.bindUp 1 = true ∧ v % 4 = 0 ∧ v < 0x4000000) ∧
    (∃ (s : State) (b : Nat), s.bindUp b = true ∧ b ≠ 1) :=
  ⟨⟨{}, { p := .bmc, off := 4096 * 20, bar2 := true }, by decide +kernel⟩,
    ⟨{}, { p := .pf, off := 4096 * 20, bar2 := true }, by decide +kernel⟩,
    ⟨{ ({} : State) with regs := [(F_TOP_BOOT_STATUS_STAGE.key 0, 3), (F_HP_CFG_IDE_REQUIRED.key 0, 1)] }, { p := .pf, off := 4096 * 20, secure := false, bar2 := true }, 0, by decide +kernel⟩,
    ⟨{ ({} : State) with regs := [(F_TOP_BOOT_STATUS_STAGE.key 0, 3)] }, { p := .vf 2, off := 4096 * 20, bar2 := true }, 2, by decide +kernel⟩,
    ⟨{ ({} : State) with regs := [(F_TOP_BOOT_STATUS_STAGE.key 0, 3)] }, { p := .pf, off := 4096 * 20, be := 255, wide := true, bar2 := true }, 0, by decide +kernel⟩,
    ⟨{ ({} : State) with regs := [(F_TOP_BOOT_STATUS_STAGE.key 0, 3)] }, 4, by decide +kernel⟩,
    ⟨{ ({} : State) with regs := [(F_TOP_BOOT_STATUS_STAGE.key 0, 3)] }, 0x3FFFFFC, by decide +kernel⟩,
    ⟨listening, 4, by decide +kernel⟩⟩

theorem test_meets_register_reads_answer_5 :
    (∃ (s : State) (v : Nat), s.bindUp 1 = true ∧ (v % 4 ≠ 0 ∨ 0x4000000 ≤ v)) ∧
    (∃ (s : State) (v : Nat), s.bindUp 1 = true ∧ (v % 4 ≠ 0 ∨ 0x4000000 ≤ v)) ∧
    (∃ (s : State) (b : Nat), s.bindUp b = false) :=
  ⟨⟨{ ({} : State) with regs := [(F_TOP_BOOT_STATUS_STAGE.key 0, 3)] }, 5, by decide +kernel⟩,
    ⟨{ ({} : State) with regs := [(F_TOP_BOOT_STATUS_STAGE.key 0, 3)] }, 0x4000000, by decide +kernel⟩,
    ⟨{}, 1, by decide +kernel⟩⟩

theorem test_meets_register_writes_take_effect_1 :
    (∃ (s : State) (a : Access) (v : Nat) (x : WriteAux) (w : RegWord) (n : Nat) (i : Nat) (f : Fld), a.wide = false ∧ a.bar2 = false ∧ s.answers a.p a.off = true ∧ s.ideStops a = false ∧ a.be % 16 = 15 ∧ s.place a.p a.off = .word w n i ∧ w.isLow = false ∧ w.isHigh = false ∧ portWrites a.p w = true ∧ s.openFor w i = true ∧ (w.blk ≠ 21 ∨ w.off ≠ 0x400) ∧ (w.kind ≠ .loop ∨ (w.off ≠ 0x1004 ∧ w.off ≠ 0x1040)) ∧ (w.blk ≠ 3 ∨ w.off ≠ 0x1004 ∨ s.reserved i + bits v 0 26 ≤ 33554432) ∧ (s.touch.trigger a.p w i (v % 2 ^ 32) x).isNone = true ∧ f ∈ w.flds ∧ s.fieldHeld f i = false ∧ f.acc = .rw ∧ isOverride f = false) ∧
    (∃ (s : State) (a : Access) (v : Nat) (x : WriteAux) (w : RegWord) (n : Nat) (i : Nat) (f : Fld), a.wide = false ∧ a.bar2 = false ∧ s.answers a.p a.off = true ∧ s.ideStops a = false ∧ a.be % 16 = 15 ∧ s.place a.p a.off = .word w n i ∧ w.isLow = false ∧ w.isHigh = false ∧ portWrites a.p w = true ∧ s.openFor w i = true ∧ (w.blk ≠ 21 ∨ w.off ≠ 0x400) ∧ (w.kind ≠ .loop ∨ (w.off ≠ 0x1004 ∧ w.off ≠ 0x1040)) ∧ (w.blk ≠ 3 ∨ w.off ≠ 0x1004 ∨ s.reserved i + bits v 0 26 ≤ 33554432) ∧ (s.touch.trigger a.p w i (v % 2 ^ 32) x).isNone = true ∧ f ∈ w.flds ∧ s.fieldHeld f i = false ∧ f.acc = .rw ∧ isOverride f = false) ∧
    (∃ (s : State) (a : Access) (v : Nat) (x : WriteAux) (w : RegWord) (n : Nat) (i : Nat) (f : Fld), a.wide = false ∧ a.bar2 = false ∧ s.answers a.p a.off = true ∧ s.ideStops a = false ∧ a.be % 16 = 15 ∧ s.place a.p a.off = .word w n i ∧ w.isLow = false ∧ w.isHigh = false ∧ portWrites a.p w = true ∧ s.openFor w i = true ∧ (w.blk ≠ 21 ∨ w.off ≠ 0x400) ∧ (w.kind ≠ .loop ∨ (w.off ≠ 0x1004 ∧ w.off ≠ 0x1040)) ∧ (w.blk ≠ 3 ∨ w.off ≠ 0x1004 ∨ s.reserved i + bits v 0 26 ≤ 33554432) ∧ (s.touch.trigger a.p w i (v % 2 ^ 32) x).isNone = true ∧ f ∈ w.flds ∧ s.fieldHeld f i = true) ∧
    (∃ (s : State) (a : Access) (v : Nat) (x : WriteAux) (w : RegWord) (n : Nat) (i : Nat) (f : Fld), a.wide = false ∧ a.bar2 = false ∧ s.answers a.p a.off = true ∧ s.ideStops a = false ∧ a.be % 16 = 15 ∧ s.place a.p a.off = .word w n i ∧ w.isLow = false ∧ w.isHigh = false ∧ portWrites a.p w = true ∧ s.openFor w i = true ∧ (w.blk ≠ 21 ∨ w.off ≠ 0x400) ∧ (w.kind ≠ .loop ∨ (w.off ≠ 0x1004 ∧ w.off ≠ 0x1040)) ∧ (w.blk ≠ 3 ∨ w.off ≠ 0x1004 ∨ s.reserved i + bits v 0 26 ≤ 33554432) ∧ (s.touch.trigger a.p w i (v % 2 ^ 32) x).isNone = true ∧ f ∈ w.flds ∧ s.fieldHeld f i = false ∧ (f.acc = .rwl ∨ isOverride f = true) ∧ inSet s.bt.rwl ((f.at n).key i) = false ∧ (isOverride f = false ∨ s.training = false)) ∧
    (∃ (s : State) (a : Access) (v : Nat) (x : WriteAux) (w : RegWord) (n : Nat) (i : Nat) (f : Fld), a.wide = false ∧ a.bar2 = false ∧ s.answers a.p a.off = true ∧ s.ideStops a = false ∧ a.be % 16 = 15 ∧ s.place a.p a.off = .word w n i ∧ w.isLow = false ∧ w.isHigh = false ∧ portWrites a.p w = true ∧ s.openFor w i = true ∧ (w.blk ≠ 21 ∨ w.off ≠ 0x400) ∧ (w.kind ≠ .loop ∨ (w.off ≠ 0x1004 ∧ w.off ≠ 0x1040)) ∧ (w.blk ≠ 3 ∨ w.off ≠ 0x1004 ∨ s.reserved i + bits v 0 26 ≤ 33554432) ∧ (s.touch.trigger a.p w i (v % 2 ^ 32) x).isNone = true ∧ f ∈ w.flds ∧ (f.acc = .rwl ∨ isOverride f = true) ∧ (inSet s.bt.rwl ((f.at n).key i) = true ∨ (isOverride f = true ∧ s.training = true))) ∧
    (∃ (s : State) (a : Access) (v : Nat) (x : WriteAux) (w : RegWord) (n : Nat) (i : Nat) (f : Fld), a.wide = false ∧ a.bar2 = false ∧ s.answers a.p a.off = true ∧ s.ideStops a = false ∧ a.be % 16 = 15 ∧ s.place a.p a.off = .word w n i ∧ w.isLow = false ∧ w.isHigh = false ∧ portWrites a.p w = true ∧ s.openFor w i = true ∧ (w.blk ≠ 21 ∨ w.off ≠ 0x400) ∧ (w.kind ≠ .loop ∨ (w.off ≠ 0x1004 ∧ w.off ≠ 0x1040)) ∧ (w.blk ≠ 3 ∨ w.off ≠ 0x1004 ∨ s.reserved i + bits v 0 26 ≤ 33554432) ∧ (s.touch.trigger a.p w i (v % 2 ^ 32) x).isNone = true ∧ f ∈ w.flds ∧ s.fieldHeld f i = false ∧ f.acc = .w1c) ∧
    (∃ (s : State) (a : Access) (v : Nat) (x : WriteAux) (w : RegWord) (n : Nat) (i : Nat) (f : Fld), a.wide = false ∧ a.bar2 = false ∧ s.answers a.p a.off = true ∧ s.ideStops a = false ∧ a.be % 16 = 15 ∧ s.place a.p a.off = .word w n i ∧ w.isLow = false ∧ w.isHigh = false ∧ portWrites a.p w = true ∧ s.openFor w i = true ∧ (w.blk ≠ 21 ∨ w.off ≠ 0x400) ∧ (w.kind ≠ .loop ∨ (w.off ≠ 0x1004 ∧ w.off ≠ 0x1040)) ∧ (w.blk ≠ 3 ∨ w.off ≠ 0x1004 ∨ s.reserved i + bits v 0 26 ≤ 33554432) ∧ (s.touch.trigger a.p w i (v % 2 ^ 32) x).isNone = true ∧ f ∈ w.flds ∧ (f.acc = .ro ∨ f.acc = .rc) ∧ isOverride f = false) ∧
    (∃ (s : State) (a : Access) (v : Nat) (x : WriteAux) (w : RegWord) (n : Nat) (i : Nat), a.wide = false ∧ a.bar2 = false ∧ s.answers a.p a.off = true ∧ s.ideStops a = false ∧ a.be % 16 = 15 ∧ s.place a.p a.off = .word w n i ∧ w.isLow = false ∧ w.isHigh = false ∧ (s.touch.trigger a.p w i (v % 2 ^ 32) x).isSome = true) :=
  ⟨⟨{ ({} : State) with regs := [(F_TOP_BOOT_STATUS_STAGE.key 0, 3)] }, { p := .pf, off := bar0 15 4 }, 2 ^ 32 + 129, {}, ⟨15, 0x4, 1, .plain, [F_IR_EVT_MASK_MASK]⟩, 0, 0, F_IR_EVT_MASK_MASK, by decide +kernel⟩,
    ⟨{ ({} : State) with regs := [(F_TOP_BOOT_STATUS_STAGE.key 0, 3)], ports := [(65, { sel := [(3, 255)] })] }, { p := .fw, off := bar0 3 0x1004 }, 33554432, {}, ⟨3, 0x1004, 1, .plain, [F_CT_G_RESERVE_RESERVE]⟩, 0, 255, F_CT_G_RESERVE_RESERVE, by decide +kernel⟩,
    ⟨{ ({} : State) with regs := [(F_TOP_BOOT_STATUS_STAGE.key 0, 3)], ports := [(0, { sel := [(19, 1)] })] }, { p := .pf, off := bar0 19 0x100C }, 7, {}, ⟨19, 0x100C, 1, .loop, [F_PW_L_VSET_VSET]⟩, 0, 1, F_PW_L_VSET_VSET, by decide +kernel⟩,
    ⟨{ ({} : State) with regs := [(F_TOP_BOOT_STATUS_STAGE.key 0, 3), (F_TOP_BOOT_STATUS_MEM_WAIT.key 0, 1)], ports := [(0, { sel := [(8, 2)] })] }, { p := .pf, off := bar0 8 0x1030 }, 0x140014, {}, ⟨8, 0x1030, 1, .plain, [F_MC_CH_TIMING_TRCD, F_MC_CH_TIMING_TRP]⟩, 0, 2, F_MC_CH_TIMING_TRP, by decide +kernel⟩,
    ⟨{ ({} : State) with regs := [(F_TOP_BOOT_STATUS_STAGE.key 0, 3)], ports := [(0, { sel := [(8, 2)] })] }, { p := .pf, off := bar0 8 0x1030 }, 0x140014, {}, ⟨8, 0x1030, 1, .plain, [F_MC_CH_TIMING_TRCD, F_MC_CH_TIMING_TRP]⟩, 0, 2, F_MC_CH_TIMING_TRP, by decide +kernel⟩,
    ⟨{ ({} : State) with regs := [(F_TOP_BOOT_STATUS_STAGE.key 0, 3), (F_SI_EVENT_BIST_DONE.key 0, 1)] }, { p := .fw, off := bar0 10 0x28 }, 1, {}, ⟨10, 0x28, 1, .plain, [F_SI_EVENT_BIST_DONE, F_SI_EVENT_SCRUB_LATE]⟩, 0, 0, F_SI_EVENT_BIST_DONE, by decide +kernel⟩,
    ⟨{ ({} : State) with regs := [(F_TOP_BOOT_STATUS_STAGE.key 0, 3)] }, { p := .pf, off := bar0 15 0x1000 }, 9, {}, ⟨15, 0x1000, 1, .plain, [F_IR_F_VSEL_VSEL, F_IR_F_VSEL_VINVALID]⟩, 0, 0, F_IR_F_VSEL_VINVALID, by decide +kernel⟩,
    ⟨{ ({} : State) with regs := [(F_TOP_BOOT_STATUS_STAGE.key 0, 3)] }, { p := .pf, off := bar0 17 4 }, 0, {}, ⟨17, 0x4, 1, .plain, [F_ER_RPTR_RPTR]⟩, 0, 0, by decide +kernel⟩⟩

theorem test_meets_register_writes_take_effect_2 :
    (∃ (s : State) (a : Access) (v : Nat) (x : WriteAux) (w : RegWord) (n : Nat) (i : Nat), a.wide = false ∧ a.bar2 = false ∧ s.answers a.p a.off = true ∧ s.ideStops a = false ∧ a.be % 16 = 15 ∧ s.place a.p a.off = .word w n i ∧ w.isLow = false ∧ w.isHigh = false ∧ (s.touch.trigger a.p w i (v % 2 ^ 32) x).isNone = true ∧ w.flds.any Fld.written = true ∧ (portWrites a.p w = false ∨ s.openFor w i = false)) ∧
    (∃ (s : State) (a : Access) (v : Nat) (x : WriteAux) (w : RegWord) (n : Nat) (i : Nat), a.wide = false ∧ a.bar2 = false ∧ s.answers a.p a.off = true ∧ s.ideStops a = false ∧ a.be % 16 = 15 ∧ s.place a.p a.off = .word w n i ∧ w.isLow = false ∧ w.isHigh = false ∧ (s.touch.trigger a.p w i (v % 2 ^ 32) x).isNone = true ∧ w.flds.any Fld.written = true ∧ (portWrites a.p w = false ∨ s.openFor w i = false)) ∧
    (∃ (s : State) (a : Access) (v : Nat) (x : WriteAux) (w : RegWord) (n : Nat) (i : Nat), a.wide = false ∧ a.bar2 = false ∧ s.answers a.p a.off = true ∧ s.ideStops a = false ∧ a.be % 16 = 15 ∧ s.place a.p a.off = .word w n i ∧ w.isLow = false ∧ w.isHigh = false ∧ (s.touch.trigger a.p w i (v % 2 ^ 32) x).isNone = true ∧ w.flds.any Fld.written = false ∧ (w.blk ≠ 15 ∨ portWrites a.p w = true)) ∧
    (∃ (s : State) (a : Access) (v : Nat) (x : WriteAux) (w : RegWord) (n : Nat) (i : Nat), a.wide = false ∧ a.bar2 = false ∧ s.answers a.p a.off = true ∧ s.ideStops a = false ∧ a.be % 16 = 15 ∧ s.place a.p a.off = .word w n i ∧ w.isLow = false ∧ w.isHigh = false ∧ (s.touch.trigger a.p w i (v % 2 ^ 32) x).isNone = true ∧ w.blk = 15 ∧ portWrites a.p w = false) ∧
    (∃ (s : State) (a : Access) (v : Nat) (w : RegWord) (n : Nat) (i : Nat), a.wide = false ∧ a.bar2 = false ∧ s.answers a.p a.off = true ∧ s.ideStops a = false ∧ a.be % 16 = 15 ∧ s.place a.p a.off = .word w n i ∧ w.isLow = false ∧ w.isHigh = false ∧ w.blk = 3 ∧ w.off = 0x1004 ∧ portWrites a.p w = true ∧ 33554432 < s.reserved i + bits v 0 26) ∧
    (∃ (s : State) (a : Access) (w : RegWord) (n : Nat) (i : Nat), a.wide = false ∧ a.bar2 = false ∧ s.answers a.p a.off = true ∧ s.ideStops a = false ∧ a.be % 16 = 15 ∧ s.place a.p a.off = .word w n i ∧ w.isLow = false ∧ w.isHigh = false ∧ w.blk = 21 ∧ w.off = 0x400 ∧ portWrites a.p w = true) ∧
    (∃ (s : State) (a : Access) (w : RegWord) (n : Nat) (i : Nat) (f : Fld), a.wide = false ∧ a.bar2 = false ∧ s.answers a.p a.off = true ∧ s.ideStops a = false ∧ a.be % 16 = 15 ∧ s.place a.p a.off = .word w n i ∧ w.isLow = false ∧ w.isHigh = false ∧ portWrites a.p w = true ∧ w.kind = .loop ∧ (w.off = 0x1004 ∨ w.off = 0x1040) ∧ (s.loopSt i = 0 ∨ s.loopSt i = 3) ∧ f ∈ w.flds) ∧
    (∃ (s : State) (a : Access) (w : RegWord) (n : Nat) (i : Nat), a.wide = false ∧ a.bar2 = false ∧ s.answers a.p a.off = true ∧ s.ideStops a = false ∧ a.be % 16 = 15 ∧ s.place a.p a.off = .word w n i ∧ w.isLow = false ∧ w.isHigh = false ∧ portWrites a.p w = true ∧ w.kind = .loop ∧ w.off = 0x1040 ∧ s.loopSt i ≠ 0 ∧ s.loopSt i ≠ 3) :=
  ⟨⟨{ ({} : State) with regs := [(F_TOP_BOOT_STATUS_STAGE.key 0, 3)] }, { p := .bmc, off := bar0 15 4 }, 1, {}, ⟨15, 0x4, 1, .plain, [F_IR_EVT_MASK_MASK]⟩, 0, 0, by decide +kernel⟩,
    ⟨{ ({} : State) with regs := [(F_TOP_BOOT_STATUS_STAGE.key 0, 3)], cn := { st := .member } }, { p := .fw, off := bar0 12 8 }, 1, {}, ⟨12, 0x8, 1, .plain, [F_CN_ID_ID]⟩, 0, 0, by decide +kernel⟩,
    ⟨{ ({} : State) with regs := [(F_TOP_BOOT_STATUS_STAGE.key 0, 3)] }, { p := .pf, off := bar0 20 8 }, 1, {}, ⟨20, 0x8, 1, .plain, [F_TM_STATUS_FALLBACK]⟩, 0, 0, by decide +kernel⟩,
    ⟨{ ({} : State) with regs := [(F_TOP_BOOT_STATUS_STAGE.key 0, 3)] }, { p := .bmc, off := bar0 15 0x1008 }, 1, {}, ⟨15, 0x1008, 1, .plain, [F_IR_F_VPEND_PENDING]⟩, 0, 0, by decide +kernel⟩,
    ⟨{ ({} : State) with regs := [(F_TOP_BOOT_STATUS_STAGE.key 0, 3), (F_CT_G_RESERVE_RESERVE.key 7, 33554432)], ports := [(0, { sel := [(3, 8)] })] }, { p := .pf, off := bar0 3 0x1004 }, 1, ⟨3, 0x1004, 1, .plain, [F_CT_G_RESERVE_RESERVE]⟩, 0, 8, by decide +kernel⟩,
    ⟨{ ({} : State) with regs := [(F_TOP_BOOT_STATUS_STAGE.key 0, 3)] }, { p := .bmc, off := bar0 21 0x404 }, ⟨21, 0x400, 256, .plain, [F_SE_MBX_BUF_BUF]⟩, 1, 0, by decide +kernel⟩,
    ⟨{ ({} : State) with regs := [(F_TOP_BOOT_STATUS_STAGE.key 0, 3)], ports := [(64, { sel := [(19, 4)] })] }, { p := .bmc, off := bar0 19 0x1004 }, ⟨19, 0x1004, 1, .loop, [F_PW_L_CFG_SRC, F_PW_L_CFG_VSEL, F_PW_L_CFG_ORDER, F_PW_L_CFG_MINPHASE, F_PW_L_CFG_THERM, F_PW_L_CFG_NMIN]⟩, 0, 4, F_PW_L_CFG_ORDER, by decide +kernel⟩,
    ⟨{ ({} : State) with regs := [(F_TOP_BOOT_STATUS_STAGE.key 0, 3), (F_PW_L_STATUS_STATE.key 4, 2)], ports := [(64, { sel := [(19, 4)] })] }, { p := .bmc, off := bar0 19 0x1058 }, ⟨19, 0x1040, 7, .loop, [F_PW_L_B0_COEF]⟩, 6, 4, by decide +kernel⟩⟩

theorem test_meets_register_writes_take_effect_3 :
    (∃ (s : State) (a : Access) (w : RegWord) (n : Nat) (i : Nat) (f : Fld), a.wide = false ∧ a.bar2 = false ∧ s.answers a.p a.off = true ∧ s.ideStops a = false ∧ a.be % 16 = 15 ∧ s.place a.p a.off = .word w n i ∧ w.isLow = false ∧ w.isHigh = false ∧ portWrites a.p w = true ∧ w.kind = .loop ∧ w.off = 0x1004 ∧ s.loopSt i ≠ 0 ∧ s.loopSt i ≠ 3 ∧ s.fld F_PW_L_CFG_ORDER i < 2 ∧ s.fld F_PW_L_CFG_MINPHASE i < 2 ∧ f ∈ w.flds) ∧
    (∃ (s : State) (a : Access) (f : Nat) (n : Nat) (k : Nat), a.wide = false ∧ a.bar2 = false ∧ s.answers a.p a.off = true ∧ s.ideStops a = false ∧ a.be % 16 = 15 ∧ s.place a.p a.off = .vec f n k ∧ k < 4) ∧
    (∃ (s : State) (a : Access) (f : Nat) (n : Nat) (k : Nat), a.wide = false ∧ a.bar2 = false ∧ s.answers a.p a.off = true ∧ s.ideStops a = false ∧ a.be % 16 = 15 ∧ s.place a.p a.off = .vec f n k ∧ k < 4) ∧
    (∃ (s : State) (a : Access), a.wide = false ∧ a.bar2 = false ∧ s.answers a.p a.off = true ∧ s.ideStops a = false ∧ a.be % 16 = 15 ∧ (s.place a.p a.off = .empty ∨ s.place a.p a.off = .dark)) ∧
    (∃ (s : State) (a : Access), a.wide = false ∧ a.bar2 = false ∧ s.answers a.p a.off = true ∧ s.ideStops a = false ∧ a.be % 16 = 15 ∧ (s.place a.p a.off = .empty ∨ s.place a.p a.off = .dark)) ∧
    (∃ (s : State) (a : Access), a.wide = false ∧ a.bar2 = false ∧ s.answers a.p a.off = true ∧ s.ideStops a = false ∧ a.be % 16 = 15 ∧ (match s.place a.p a.off with | .selStatus _ => true | .slot _ _ => true | .noVector => a.p != .bmc && a.p != .rtp | _ => false) = true) ∧
    (∃ (s : State) (a : Access), a.wide = false ∧ a.bar2 = false ∧ s.answers a.p a.off = true ∧ s.ideStops a = false ∧ a.be % 16 = 15 ∧ s.place a.p a.off = .noVector ∧ (a.p = .bmc ∨ a.p = .rtp)) ∧
    (∃ (s : State) (a : Access) (f : Nat) (k : Nat), a.wide = false ∧ a.bar2 = false ∧ s.answers a.p a.off = true ∧ s.ideStops a = false ∧ s.place a.p a.off = .pba f k) :=
  ⟨⟨{ ({} : State) with regs := [(F_TOP_BOOT_STATUS_STAGE.key 0, 3), (F_PW_L_STATUS_STATE.key 4, 2)], ports := [(64, { sel := [(19, 4)] })] }, { p := .bmc, off := bar0 19 0x1004 }, ⟨19, 0x1004, 1, .loop, [F_PW_L_CFG_SRC, F_PW_L_CFG_VSEL, F_PW_L_CFG_ORDER, F_PW_L_CFG_MINPHASE, F_PW_L_CFG_THERM, F_PW_L_CFG_NMIN]⟩, 0, 4, F_PW_L_CFG_SRC, by decide +kernel⟩,
    ⟨{ ({} : State) with regs := [(F_TOP_BOOT_STATUS_STAGE.key 0, 3)], ir := { table := [(vecKey 2 1, { addr := 2 ^ 33 + 7 })] } }, { p := .vf 2, off := bar0 15 0x80014 }, 2, 1, 1, by decide +kernel⟩,
    ⟨{ ({} : State) with regs := [(F_TOP_BOOT_STATUS_STAGE.key 0, 3)], ir := { pba := [vecKey 2 1] } }, { p := .vf 2, off := bar0 15 0x8001C }, 2, 1, 3, by decide +kernel⟩,
    ⟨{ ({} : State) with regs := [(F_TOP_BOOT_STATUS_STAGE.key 0, 3)] }, { p := .pf, off := bar0 15 0xFFC }, by decide +kernel⟩,
    ⟨{ ({} : State) with regs := [(F_TOP_BOOT_STATUS_STAGE.key 0, 3)], ports := [(0, { sel := [(8, 99)] })] }, { p := .pf, off := bar0 8 0x1000 }, by decide +kernel⟩,
    ⟨{ ({} : State) with regs := [(F_TOP_BOOT_STATUS_STAGE.key 0, 3)] }, { p := .pf, off := bar0 1 0x804 }, by decide +kernel⟩,
    ⟨{ ({} : State) with regs := [(F_TOP_BOOT_STATUS_STAGE.key 0, 3), (F_IR_F_VSEL_VSEL.key 2, 2047)], ports := [(64, { sel := [(15, 2)] })] }, { p := .bmc, off := bar0 15 0x1004 }, by decide +kernel⟩,
    ⟨{ ({} : State) with regs := [(F_TOP_BOOT_STATUS_STAGE.key 0, 3)], ir := { pba := [vecKey 0 33] } }, { p := .pf, off := bar0 15 0xC0004, be := 3 }, 0, 1, by decide +kernel⟩⟩

theorem test_meets_register_writes_take_effect_4 :
    (∃ (s : State) (a : Access), a.wide = false ∧ a.bar2 = false ∧ s.answers a.p a.off = true ∧ s.ideStops a = false ∧ a.be % 16 ≠ 15 ∧ (fun (pl : Place) => !pl.isLow && !pl.isHigh && !pl.isSel) (s.place a.p a.off) = true ∧ (match s.place a.p a.off with | .pba _ _ => false | _ => true) = true) ∧
    (∃ (s : State) (a : Access), a.bar2 = false ∧ s.answers a.p a.off = true ∧ s.ideStops a = true ∧ (fun (pl : Place) => !pl.isLow && !pl.isHigh && !pl.isSel) (s.place a.p a.off) = true) ∧
    (∃ (s : State) (a : Access), a.wide = false ∧ a.bar2 = false ∧ s.answers a.p a.off = false ∧ (fun (pl : Place) => !pl.isLow && !pl.isHigh && !pl.isSel) (s.place a.p a.off) = true) ∧
    (∃ (s : State) (a : Access), a.bar2 = false ∧ (fun (pl : Place) => !pl.isLow && !pl.isHigh && !pl.isSel) (s.place a.p a.off) = false) ∧
    (∃ (s : State) (a : Access), a.bar2 = false ∧ a.wide = true ∧ (s.answers a.p a.off = false ∨ s.ideStops a = false) ∧ (fun (pl : Place) => !pl.isLow && !pl.isHigh && !pl.isSel) (s.place a.p a.off) = true) ∧
    (∃ (s : State) (a : Access), a.wide = false ∧ a.bar2 = false ∧ s.answers a.p a.off = true ∧ s.ideStops a = false ∧ a.be % 16 ≠ 15 ∧ (s.place a.p a.off).isLow = true) ∧
    (∃ (s : State) (a : Access), a.bar2 = false ∧ s.answers a.p a.off = true ∧ s.ideStops a = true ∧ (s.place a.p a.off).isLow = true) ∧
    (∃ (s : State) (a : Access), a.wide = false ∧ a.bar2 = false ∧ s.answers a.p a.off = false ∧ (s.place a.p a.off).isLow = true) :=
  ⟨⟨{ ({} : State) with regs := [(F_TOP_BOOT_STATUS_STAGE.key 0, 3)] }, { p := .pf, off := bar0 15 4, be := 7 }, by decide +kernel⟩,
    ⟨{ ({} : State) with regs := [(F_TOP_BOOT_STATUS_STAGE.key 0, 3), (F_HP_CFG_IDE_REQUIRED.key 0, 1)] }, { p := .pf, off := bar0 15 4, secure := false }, by decide +kernel⟩,
    ⟨{ ({} : State) with ports := [(0, { stage := some { blk := 1, off := 0x1008, inst := 20, word := 9 } })] }, { p := .pf, off := bar0 15 4 }, by decide +kernel⟩,
    ⟨{ ({} : State) with regs := [(F_TOP_BOOT_STATUS_STAGE.key 0, 3)] }, { p := .pf, off := bar0 20 0, wide := true }, by decide +kernel⟩,
    ⟨{ ({} : State) with regs := [(F_TOP_BOOT_STATUS_STAGE.key 0, 3)] }, { p := .pf, off := bar0 15 4, be := 255, wide := true }, by decide +kernel⟩,
    ⟨{ ({} : State) with regs := [(F_TOP_BOOT_STATUS_STAGE.key 0, 3)] }, { p := .pf, off := bar0 10 0x10, be := 7 }, by decide +kernel⟩,
    ⟨{ ({} : State) with regs := [(F_TOP_BOOT_STATUS_STAGE.key 0, 3), (F_HP_CFG_IDE_REQUIRED.key 0, 1)] }, { p := .pf, off := bar0 10 0x10, secure := false }, by decide +kernel⟩,
    ⟨{ ({} : State) with ports := [(0, { stage := some { blk := 1, off := 0x1008, inst := 20, word := 9 } })] }, { p := .pf, off := bar0 10 0x10 }, by decide +kernel⟩⟩

theorem test_meets_register_writes_take_effect_5 :
    (∃ (s : State) (a : Access), a.bar2 = false ∧ (s.place a.p a.off).isLow = false) ∧
    (∃ (s : State) (a : Access), a.bar2 = false ∧ a.wide = true ∧ (s.answers a.p a.off = false ∨ s.ideStops a = false) ∧ (s.place a.p a.off).isLow = true) ∧
    (∃ (a : Access), a.bar2 = true) ∧
    (∃ (s : State) (a : Access), a.wide = false ∧ a.bar2 = false ∧ s.answers a.p a.off = true ∧ s.ideStops a = false ∧ a.be % 16 ≠ 15 ∧ (s.place a.p a.off).isHigh = true) ∧
    (∃ (s : State) (a : Access), a.bar2 = false ∧ s.answers a.p a.off = true ∧ s.ideStops a = true ∧ (s.place a.p a.off).isHigh = true) ∧
    (∃ (s : State) (a : Access), a.wide = false ∧ a.bar2 = false ∧ s.answers a.p a.off = false ∧ (s.place a.p a.off).isHigh = true) ∧
    (∃ (s : State) (a : Access), a.bar2 = false ∧ (s.place a.p a.off).isHigh = false) ∧
    (∃ (s : State) (a : Access), a.bar2 = false ∧ a.wide = true ∧ (s.answers a.p a.off = false ∨ s.ideStops a = false) ∧ (s.place a.p a.off).isHigh = true) :=
  ⟨⟨{ ({} : State) with regs := [(F_TOP_BOOT_STATUS_STAGE.key 0, 3)] }, { p := .pf, off := bar0 15 4, wide := true }, by decide +kernel⟩,
    ⟨{ ({} : State) with regs := [(F_TOP_BOOT_STATUS_STAGE.key 0, 3)] }, { p := .pf, off := bar0 10 0x10, be := 255, wide := true }, by decide +kernel⟩,
    ⟨{ p := .pf, off := 0, bar2 := true }, by decide +kernel⟩,
    ⟨{ ({} : State) with regs := [(F_TOP_BOOT_STATUS_STAGE.key 0, 3)] }, { p := .pf, off := bar0 10 0x14, be := 7 }, by decide +kernel⟩,
    ⟨{ ({} : State) with regs := [(F_TOP_BOOT_STATUS_STAGE.key 0, 3), (F_HP_CFG_IDE_REQUIRED.key 0, 1)] }, { p := .pf, off := bar0 10 0x14, secure := false }, by decide +kernel⟩,
    ⟨{ ({} : State) with ports := [(0, { stage := some { blk := 1, off := 0x1008, inst := 20, word := 9 } })] }, { p := .pf, off := bar0 10 0x14 }, by decide +kernel⟩,
    ⟨{ ({} : State) with regs := [(F_TOP_BOOT_STATUS_STAGE.key 0, 3)] }, { p := .pf, off := bar0 15 4, wide := true }, by decide +kernel⟩,
    ⟨{ ({} : State) with regs := [(F_TOP_BOOT_STATUS_STAGE.key 0, 3)] }, { p := .pf, off := bar0 10 0x14, be := 255, wide := true }, by decide +kernel⟩⟩

theorem test_meets_register_writes_take_effect_6 :
    (∃ (a : Access), a.bar2 = true) ∧
    (∃ (s : State) (a : Access), a.wide = false ∧ a.bar2 = false ∧ s.answers a.p a.off = true ∧ s.ideStops a = false ∧ a.be % 16 ≠ 15 ∧ (s.place a.p a.off).isSel = true) ∧
    (∃ (s : State) (a : Access), a.bar2 = false ∧ s.answers a.p a.off = true ∧ s.ideStops a = true ∧ (s.place a.p a.off).isSel = true) ∧
    (∃ (s : State) (a : Access), a.wide = false ∧ a.bar2 = false ∧ s.answers a.p a.off = false ∧ (s.place a.p a.off).isSel = true) ∧
    (∃ (s : State) (a : Access), a.bar2 = false ∧ (s.place a.p a.off).isSel = false) ∧
    (∃ (s : State) (a : Access), a.bar2 = false ∧ a.wide = true ∧ (s.answers a.p a.off = false ∨ s.ideStops a = false) ∧ (s.place a.p a.off).isSel = true) ∧
    (∃ (a : Access), a.bar2 = true) ∧
    (∃ (a : Access), a.bar2 = true ∧ portFn a.p = none) :=
  ⟨⟨{ p := .pf, off := 0, bar2 := true }, by decide +kernel⟩,
    ⟨{ ({} : State) with regs := [(F_TOP_BOOT_STATUS_STAGE.key 0, 3)] }, { p := .pf, off := bar0 1 0x800, be := 7 }, by decide +kernel⟩,
    ⟨{ ({} : State) with regs := [(F_TOP_BOOT_STATUS_STAGE.key 0, 3), (F_HP_CFG_IDE_REQUIRED.key 0, 1)] }, { p := .pf, off := bar0 1 0x800, secure := false }, by decide +kernel⟩,
    ⟨{ ({} : State) with ports := [(0, { stage := some { blk := 1, off := 0x1008, inst := 20, word := 9 } })] }, { p := .pf, off := bar0 1 0x800 }, by decide +kernel⟩,
    ⟨{ ({} : State) with regs := [(F_TOP_BOOT_STATUS_STAGE.key 0, 3)] }, { p := .pf, off := bar0 15 4, wide := true }, by decide +kernel⟩,
    ⟨{ ({} : State) with regs := [(F_TOP_BOOT_STATUS_STAGE.key 0, 3)] }, { p := .pf, off := bar0 1 0x800, be := 255, wide := true }, by decide +kernel⟩,
    ⟨{ p := .pf, off := 0, bar2 := true }, by decide +kernel⟩,
    ⟨{ p := .bmc, off := 0, bar2 := true }, by decide +kernel⟩⟩

theorem test_meets_register_writes_take_effect_7 :
    (∃ (s : State) (a : Access) (k : Nat), a.bar2 = true ∧ (a.wide = false ∨ s.ideStops a = true) ∧ portFn a.p = some k) ∧
    (∃ (s : State) (a : Access) (k : Nat), a.bar2 = true ∧ (a.wide = false ∨ s.ideStops a = true) ∧ portFn a.p = some k) ∧
    (∃ (s : State) (a : Access) (k : Nat), a.bar2 = true ∧ a.wide = true ∧ s.ideStops a = false ∧ portFn a.p = some k) ∧
    (∃ (s : State) (a : Access) (w : RegWord) (n : Nat) (i : Nat), a.wide = false ∧ a.bar2 = false ∧ s.answers a.p a.off = true ∧ s.ideStops a = false ∧ a.be % 16 = 15 ∧ s.place a.p a.off = .word w n i ∧ w.isLow = true ∧ s.wideOpen a.p w i = true) ∧
    (∃ (s : State) (a : Access) (w : RegWord) (n : Nat) (i : Nat), a.wide = false ∧ a.bar2 = false ∧ s.answers a.p a.off = true ∧ s.ideStops a = false ∧ a.be % 16 = 15 ∧ s.place a.p a.off = .word w n i ∧ w.isLow = true ∧ w.flds.any Fld.written = true ∧ s.wideOpen a.p w i = false) ∧
    (∃ (s : State) (a : Access) (w : RegWord) (n : Nat) (i : Nat), a.wide = false ∧ a.bar2 = false ∧ s.answers a.p a.off = true ∧ s.ideStops a = false ∧ a.be % 16 = 15 ∧ s.place a.p a.off = .word w n i ∧ w.isLow = true ∧ w.flds.any Fld.written = false) ∧
    (∃ (s : State) (a : Access) (w : RegWord) (z : RegWord) (n : Nat) (i : Nat) (k : Nat) (f : Fld) (g : Fld), a.wide = false ∧ a.bar2 = false ∧ s.answers a.p a.off = true ∧ s.ideStops a = false ∧ a.be % 16 = 15 ∧ s.place a.p a.off = .word w n i ∧ w.isHigh = true ∧ w.isLow = false ∧ heldWord (s.bank a.p).stage w i = some k ∧ wordAt w.blk (w.off - 4) w.kind = some z ∧ s.wideOpen a.p w i = true ∧ f ∈ z.flds ∧ f.acc = .rw ∧ g ∈ w.flds ∧ g.acc = .rw) ∧
    (∃ (s : State) (a : Access) (w : RegWord) (n : Nat) (i : Nat), a.wide = false ∧ a.bar2 = false ∧ s.answers a.p a.off = true ∧ s.ideStops a = false ∧ a.be % 16 = 15 ∧ s.place a.p a.off = .word w n i ∧ w.isHigh = true ∧ w.isLow = false ∧ (heldWord (s.bank a.p).stage w i = none ∨ s.wideOpen a.p w i = false)) :=
  ⟨⟨{}, { p := .vf 4, off := 81928, bar2 := true }, 4, by decide +kernel⟩,
    ⟨{ ({} : State) with regs := [(F_TOP_BOOT_STATUS_STAGE.key 0, 3), (F_HP_CFG_IDE_REQUIRED.key 0, 1)] }, { p := .pf, off := 81920, be := 255, wide := true, secure := false, bar2 := true }, 0, by decide +kernel⟩,
    ⟨{}, { p := .vf 4, off := 81920, be := 255, wide := true, bar2 := true }, 4, by decide +kernel⟩,
    ⟨{ ({} : State) with regs := [(F_TOP_BOOT_STATUS_STAGE.key 0, 3)], ports := [(0, { sel := [(1, 20)] })] }, { p := .pf, off := bar0 1 0x1008 }, ⟨1, 0x1008, 1, .plain, [F_QE_Q_SQBASE_SQBASE_LO]⟩, 0, 20, by decide +kernel⟩,
    ⟨{ ({} : State) with regs := [(F_TOP_BOOT_STATUS_STAGE.key 0, 3)], ports := [(0, { sel := [(1, 20)] })], q := { tab := [(20, { st := .active })] } }, { p := .pf, off := bar0 1 0x1008 }, ⟨1, 0x1008, 1, .plain, [F_QE_Q_SQBASE_SQBASE_LO]⟩, 0, 20, by decide +kernel⟩,
    ⟨{ ({} : State) with regs := [(F_TOP_BOOT_STATUS_STAGE.key 0, 3)] }, { p := .pf, off := bar0 20 0 }, ⟨20, 0x0, 1, .plain, [F_TM_COUNT_LO]⟩, 0, 0, by decide +kernel⟩,
    ⟨{ ({} : State) with regs := [(F_TOP_BOOT_STATUS_STAGE.key 0, 3)], ports := [(0, { sel := [(1, 20)], stage := some { blk := 1, off := 0x1008, inst := 20, word := 0x10000 } })] }, { p := .pf, off := bar0 1 0x100C }, ⟨1, 0x100C, 1, .plain, [F_QE_Q_SQBASE_SQBASE_HI]⟩, ⟨1, 0x1008, 1, .plain, [F_QE_Q_SQBASE_SQBASE_LO]⟩, 0, 20, 0x10000, F_QE_Q_SQBASE_SQBASE_LO, F_QE_Q_SQBASE_SQBASE_HI, by decide +kernel⟩,
    ⟨{ ({} : State) with regs := [(F_TOP_BOOT_STATUS_STAGE.key 0, 3)], ports := [(0, { sel := [(1, 20)] })] }, { p := .pf, off := bar0 1 0x100C }, ⟨1, 0x100C, 1, .plain, [F_QE_Q_SQBASE_SQBASE_HI]⟩, 0, 20, by decide +kernel⟩⟩

theorem test_meets_register_writes_take_effect_8 :
    (∃ (s : State) (a : Access) (b : Nat), a.wide = false ∧ a.bar2 = false ∧ s.answers a.p a.off = true ∧ s.ideStops a = false ∧ a.be % 16 = 15 ∧ s.place a.p a.off = .sel b) ∧
    (∃ (s : State) (v : Nat), s.bindUp 1 = true ∧ v % 4 = 0 ∧ v < 0x4000000) ∧
    (∃ (s : State) (b : Nat), s.bindUp b = true ∧ b ≠ 1) ∧
    (∃ (s : State) (v : Nat), s.bindUp 1 = true ∧ (v % 4 ≠ 0 ∨ 0x4000000 ≤ v)) ∧
    (∃ (s : State) (b : Nat), s.bindUp b = false) :=
  ⟨⟨{ ({} : State) with regs := [(F_TOP_BOOT_STATUS_STAGE.key 0, 3)] }, { p := .pf, off := bar0 1 0x800 }, 1, by decide +kernel⟩,
    ⟨{ ({} : State) with regs := [(F_TOP_BOOT_STATUS_STAGE.key 0, 3)] }, 0, by decide +kernel⟩,
    ⟨listening, 4, by decide +kernel⟩,
    ⟨{ ({} : State) with regs := [(F_TOP_BOOT_STATUS_STAGE.key 0, 3)] }, 5, by decide +kernel⟩,
    ⟨{}, 1, by decide +kernel⟩⟩

theorem test_meets_step_runs_front_command : (∃ (s : State) (c : Instr) (l : List Instr), s.pending = c :: l) ∧ ∃ s : State, s.pending = [] ∧ s.hp.held = [] ∧ s.onFallback = false ∧ s.cn.rate = 0 ∧ s.cn.phase = 0 := by
  refine ⟨⟨{ pending := [.nop 3] }, .nop 3, [], rfl⟩, ⟨{}, by decide⟩⟩

theorem test_meets_commands_leave_the_queue : ∃ (c : Instr) (s t : State), exec c s = .next t := ⟨.vinRead 5, {}, _, rfl⟩

theorem test_meets_step_keeps_canonical_memory : ∃ s t : State, s.Canonical ∧ step s = .next t ∧ s.mem ≠ [] := ⟨{ mem := [(5, 1)] }, _, by decide, rfl, by decide⟩

theorem test_meets_life_cycle_only_advances : ∃ (c : Instr) (s t : State) (i : Nat), exec c s = .next t ∧ bit s.se.fuses.lc.read i = true ∧ bit s.se.fuses.lc.a i = true ∧ bit s.se.fuses.lc.b i = true ∧
    bit s.se.fuses.lc.c i = true ∧ bit s.se.fuses.lc.d i = true := ⟨.vinRead 5, { se := { fuses := { lc := .of 3 } } }, _, 1, rfl, by decide⟩

theorem test_meets_invalid_window_reads_zero : ∃ (s : State) (a : Access), a.wide = false ∧ a.bar2 = false ∧ s.answers a.p a.off = true ∧ s.ideStops a = false ∧ a.off / 0x100000 ≤ 22 ∧ 0x1000 ≤ a.off % 0x100000 ∧
    a.off % 0x100000 < 0x2000 ∧ s.inRange a.p (a.off / 0x100000) (s.selected a.p (a.off / 0x100000)) = false :=
  ⟨{ ({} : State) with regs := [(F_TOP_BOOT_STATUS_STAGE.key 0, 3)] }, { p := .vf 3, off := bar0 1 0x1FFC }, by decide +kernel⟩

theorem test_meets_full_ring_drops_non_fatal : ∃ (s : State) (r : ErrRec), 256 ≤ (s.fld F_ER_WPTR_WPTR + 2 ^ 32 - s.fld F_ER_RPTR_RPTR) % 2 ^ 32 ∧ r.cls ≠ 3 := ⟨{ ({} : State) with regs := [(F_ER_WPTR_WPTR.key 0, 256)] }, {}, by decide +kernel⟩

theorem test_meets_later_fatal_errors : ∃ (s : State) (r : ErrRec) (a : FatalAction), s.er.action ≠ .none ∧ s.er.storeValid = true ∧ a = .hold :=
  ⟨{ er := { action := .reset, storeValid := true, storeCount := 255 } }, {}, .hold, by decide +kernel⟩

theorem test_meets_records_set_the_error_event : (∃ s : State, (s.fld F_ER_WPTR_WPTR + 2 ^ 32 - s.fld F_ER_RPTR_RPTR) % 2 ^ 32 < 256) ∧
    ∃ (s : State) (r : ErrRec), 256 ≤ (s.fld F_ER_WPTR_WPTR + 2 ^ 32 - s.fld F_ER_RPTR_RPTR) % 2 ^ 32 ∧ r.cls = 3 ∧
      (s.newestNonFatal 256 ((s.fld F_ER_WPTR_WPTR + 2 ^ 32 - 1) % 2 ^ 32)).isSome = true :=
  ⟨⟨{ ({} : State) with regs := [(F_ER_WPTR_WPTR.key 0, 255)] }, by decide +kernel⟩,
    ⟨{ ({} : State) with regs := [(F_ER_WPTR_WPTR.key 0, 256)], er := { ring := [(255, { seq := 255 })] } }, { cls := 3 }, by decide +kernel⟩⟩

theorem test_meets_hung_core_is_halted : ∃ (s : State) (k : Nat) (l : List Nat), k < 8 ∧ s.coreUp k = true ∧ s.firmwareUp = true ∧
    ∀ d ∈ l, (s.desc? d).isSome = true ∧ (s.desc d).stage ≠ .done :=
  ⟨{ ({} : State) with regs := [(F_TOP_BOOT_STATUS_STAGE.key 0, 3)], q := { descs := [(3, cmd 0x20 0 0 3)] } }, 7, [3], by decide +kernel⟩

theorem test_meets_write_stores_exactly : (∃ (s : State) (d : Nat) (b : List Byte) (x : Desc), Runs s d 0x20 x ∧ s.noHost x.q = false ∧
      s.mergeWaits x.e.tenant (pieces x.dst x.e.opA x.e.len) = false ∧ s.outOfTurn x.e.tenant [] (pieces x.dst x.e.opA x.e.len) = false ∧ x.bad = [] ∧ x.dst.Nodup ∧
      (∀ i, i < x.e.len → (x.e.opA % 65536 + i) / 65536 < x.dst.length) ∧ s.decodesWell (pieces x.dst x.e.opA x.e.len) ∧
      (((s.turned x [] (pieces x.dst x.e.opA x.e.len)).askHost x.q x.e.opB x.e.len).storeData x (s.writeBytes x b)).2 = {}) ∧
    ∃ (s : State) (d : Nat) (x : Desc), Runs s d 0x22 x ∧
      s.readWaits x.e.tenant (pieces x.src x.e.opB x.e.len) = false ∧ s.mergeWaits x.e.tenant (pieces x.dst x.e.opA x.e.len) = false ∧
      s.outOfTurn x.e.tenant (pieces x.src x.e.opB x.e.len) (pieces x.dst x.e.opA x.e.len) = false ∧ x.dst.Nodup ∧ (∀ i, i < x.e.len → (x.e.opA % 65536 + i) / 65536 < x.dst.length) ∧
      s.decodesWell (pieces x.src x.e.opB x.e.len) ∧ s.decodesWell (pieces x.dst x.e.opA x.e.len) ∧ ((s.turned x (pieces x.src x.e.opB x.e.len) (pieces x.dst x.e.opA x.e.len)).readOf x x.e.opB).2 = {} ∧
      (((s.turned x (pieces x.src x.e.opB x.e.len) (pieces x.dst x.e.opA x.e.len)).readOf x x.e.opB).1.writePieces x.dmeta {} x.who
        (((s.turned x (pieces x.src x.e.opB x.e.len) (pieces x.dst x.e.opA x.e.len)).readOf x x.e.opB).1.readRuns x.src x.e.opB 0 x.e.len) (pieces x.dst x.e.opA x.e.len) {}).2 = {} :=
  ⟨⟨{ withDesc 3 wWrite with ir := { fns := [(0, { bme := true })] } }, 3, [1, 2, 3], wWrite, by decide +kernel⟩,
    ⟨withDesc 3 wCopy, 3, wCopy, by decide +kernel⟩⟩

theorem test_meets_fence_commands_frame : ∃ (c : Instr) (d : Nat) (s t : State), c ∈ ([.nop d, .fenceSignal d, .fenceWait d, .fenceWaitPoisoned d,
      .fenceReset d, .fenceResetTakesEffect d, .fenceResetBudgetExpired d, .fenceBind d, .fenceUnbind d, .fenceForce d] : List Instr) ∧
    exec c s = .next t ∧ s.mem ≠ [] :=
  ⟨.fenceSignal 3, 3, { withDesc 3 (cmd 0x01 20 7 0) with mem := [(5, 1)] }, _, by decide, rfl, by decide⟩

theorem test_meets_register_reads_frame : ∃ (c : Instr) (a : Access) (s t : State),
    c ∈ ([.rcFieldRead a, .lowWordRead a, .highWordRead a] : List Instr) ∧ exec c s = .next t ∧ t ≠ s :=
  ⟨.rcFieldRead { p := .pf, off := bar0 15 4 }, { p := .pf, off := bar0 15 4 }, { regs := [(F_TOP_BOOT_STATUS_STAGE.key 0, 3)] }, _, by decide, rfl,
    by decide +kernel⟩

theorem test_meets_word_writes_frame : ∃ (c : Instr) (a : Access) (v : Nat) (s t : State), a.wide = false ∧
    c ∈ ([.selWrite a v, .lowWordWrite a v, .highWordWrite a v] : List Instr) ∧ exec c s = .next t ∧ t ≠ s :=
  ⟨.selWrite { p := .pf, off := bar0 15 0x800 } 3, { p := .pf, off := bar0 15 0x800 }, 3, { regs := [(F_TOP_BOOT_STATUS_STAGE.key 0, 3)] }, _,
    by decide, by decide, rfl, by decide +kernel⟩

end Sys2Proof.Machine
end

section
/-!
PROOFS. The register table: fields of a word have keys of their own, and a register word that a port finds is a word of the table.
-/
namespace Sys2Proof.Machine

/-! ## Keys of fields -/

/-- A field whose block, offset and lowest bit are digits of its key. -/
abbrev Fld.Fits (f : Fld) : Prop := f.blk < 32 ∧ f.off < 8192 ∧ f.lo < 32

/-- Fields of one key are at one place of one index. -/
theorem Fld.key_inj {f g : Fld} {i j : Nat} (hf : f.Fits) (hg : g.Fits) (h : f.key i = g.key j) :
    i = j ∧ f.blk = g.blk ∧ f.off = g.off ∧ f.lo = g.lo := by
  obtain ⟨hfb, hfo, hfl⟩ := hf
  obtain ⟨hgb, hgo, hgl⟩ := hg
  unfold Fld.key at h
  omega

@[simp] theorem Fld.at_zero (f : Fld) : f.at 0 = f := rfl
@[simp] theorem Fld.at_wid (f : Fld) (n : Nat) : (f.at n).wid = f.wid := rfl

/-! ## The table -/

/-- What holds of each word of the table: digits of a key, and fields at bits of their own. -/
theorem regWords_shape : ∀ w ∈ regWords, w.blk < 32 ∧ w.off + 4 * w.cnt ≤ 8192 ∧
    (∀ f ∈ w.flds, f.blk = w.blk ∧ f.off = w.off ∧ f.lo < 32) ∧ (w.flds.map Fld.lo).Nodup := by
  decide +kernel

/-- The words that take a write are none of TOP and not PW_STATUS, and those of HP and IR are single words. -/
theorem regWords_written : ∀ w ∈ regWords, w.flds.any Fld.written = true →
    w.blk ≠ 0 ∧ (w.blk = 19 → w.off ≠ 0) ∧ (w.blk = 13 ∨ w.blk = 15 → w.cnt = 1) := by
  decide +kernel

/-- A timing override is a RW field (Table 10.11). -/
theorem regWords_override : ∀ w ∈ regWords, ∀ f ∈ w.flds, isOverride f = true → f.acc = .rw := by
  decide +kernel

/-- The settings and coefficients of a rail loop: RW fields of block PW that no rule holds (Table 19.6). -/
theorem regWords_loop : ∀ w ∈ regWords, w.kind = .loop → w.blk = 19 ∧
    (w.off = 0x1004 → w.cnt = 1 ∧ w.flds = [F_PW_L_CFG_SRC, F_PW_L_CFG_VSEL, F_PW_L_CFG_ORDER, F_PW_L_CFG_MINPHASE, F_PW_L_CFG_THERM,
      F_PW_L_CFG_NMIN]) ∧
    (w.off = 0x1004 ∨ w.off = 0x1040 → w.flds.any Fld.written = true ∧ ∀ f ∈ w.flds, f.acc = .rw ∧ isOverride f = false ∧
      f ≠ F_PW_L_VSET_VSET ∧ f ≠ F_CK_D_FMAX_FMAX ∧ f ≠ F_HP_APT_BASE_FIRST_TFN ∧ f ≠ F_PW_P_ILIM_ILIM) := by
  decide +kernel

/-- RESERVE of a share group and the mailbox buffer take writes. -/
theorem regWords_reserve : ∀ w ∈ regWords, (w.blk = 3 ∧ w.off = 0x1004 ∨ w.blk = 21 ∧ w.off = 0x400) →
    w.flds.any Fld.written = true ∧ w.kind = .plain := by
  decide +kernel

/-- The 64-bit registers that take writes are of QE and SI: ring bases and the injection address. -/
theorem regWords_wide : ∀ w ∈ regWords, w.isHigh = true → w.flds.any Fld.written = true →
    4 ≤ w.off ∧ (w.blk = 1 ∨ w.blk = 10) := by
  decide +kernel

/-- The word found at an offset is of the table and holds the offset. -/
theorem wordAt_some {blk o : Nat} {k : RegKind} {w : RegWord} (h : wordAt blk o k = some w) :
    w ∈ regWords ∧ w.blk = blk ∧ w.kind = k ∧ w.off ≤ o ∧ o < w.off + 4 * w.cnt := by
  refine ⟨List.mem_of_find?_eq_some h, ?_⟩
  have := List.find?_some h
  simp only [Bool.and_eq_true, beq_iff_eq, decide_eq_true_eq] at this
  tauto

theorem windowPlace_word {s : State} {blk o j n i : Nat} {w : RegWord} (h : s.windowPlace blk o j = .word w n i) :
    w ∈ regWords ∧ n < w.cnt := by
  unfold State.windowPlace at h
  split at h
  · split at h <;> cases h
  · split at h
    · cases h
    · rename_i w' hw
      obtain ⟨hmem, -, -, hle, hlt⟩ := wordAt_some hw
      dsimp only at h
      have key : w' = w ∧ (o - w'.off) / 4 = n := by
        split at h
        · split at h
          · cases h
          · cases h; exact ⟨rfl, rfl⟩
        · cases h; exact ⟨rfl, rfl⟩
      obtain ⟨rfl, rfl⟩ := key
      exact ⟨hmem, by omega⟩

/-- The MSI-X areas hold no register word. -/
theorem msixPlace_ne_word (fn o : Nat) (w : RegWord) (n i : Nat) : msixPlace fn o ≠ .word w n i := by
  unfold msixPlace
  split <;> split <;> simp

/-- A register word that a port finds is of the table, and within its repetitions. -/
theorem place_word {s : State} {p : Port} {off n i : Nat} {w : RegWord} (h : s.place p off = .word w n i) :
    w ∈ regWords ∧ n < w.cnt := by
  unfold State.place at h
  extract_lets blk o vf at h
  split at h
  · cases h
  · split at h
    · cases h
    · split at h
      · cases h
      · split at h
        · split at h
          · rename_i w' hw
            obtain ⟨hmem, -, -, hle, hlt⟩ := wordAt_some hw
            cases h
            exact ⟨hmem, by omega⟩
          · cases h
        · split at h
          · split at h
            · exact windowPlace_word h
            · cases h
          · split at h
            · split at h
              · exact absurd h (msixPlace_ne_word _ _ _ _ _)
              · exact absurd h (msixPlace_ne_word _ _ _ _ _)
              · cases h
            · cases h

section Word

variable {w : RegWord} (hw : w ∈ regWords) {f g : Fld} (hf : f ∈ w.flds) (hg : g ∈ w.flds)
include hw

theorem flds_nodup : w.flds.Nodup := by
  obtain ⟨-, -, -, hnd⟩ := regWords_shape w hw
  exact hnd.of_map _

include hf

/-- A field stands where its word does. -/
theorem fld_place : f.blk = w.blk ∧ f.off = w.off ∧ f.lo < 32 := by
  obtain ⟨-, -, hflds, -⟩ := regWords_shape w hw
  exact hflds f hf

/-- The fields of a word of the table fit in a key, at each of its repetitions. -/
theorem at_fits {n : Nat} (hn : n < w.cnt) : (f.at n).Fits := by
  obtain ⟨hblk, hoff, -, -⟩ := regWords_shape w hw
  obtain ⟨hb, ho, hl⟩ := fld_place hw hf
  refine ⟨?_, ?_, hl⟩
  · exact hb ▸ hblk
  · show f.off + 4 * n < 8192
    omega

include hg in
/-- Fields of one word with one key are one field. -/
theorem eq_of_key_at {n i : Nat} (h : (f.at n).key i = (g.at n).key i) : f = g := by
  obtain ⟨-, -, -, hnd⟩ := regWords_shape w hw
  refine List.inj_on_of_nodup_map hnd hf hg ?_
  obtain ⟨hfb, hfo, -⟩ := fld_place hw hf
  obtain ⟨hgb, hgo, -⟩ := fld_place hw hg
  simp only [Fld.key, Fld.at, hfb, hgb, hfo, hgo] at h
  omega

end Word

end Sys2Proof.Machine
end

section
/-!
PROOFS. The fields of a written word: a write of a word writes each of its fields as if it stood alone.
-/
namespace Sys2Proof

theorem inSet_setInsert (l : List Nat) (k j : Nat) : inSet (setInsert l k) j = (k == j || inSet l j) := by
  induction l with
  | nil => simp [setInsert, inSet]
  | cons x t ih =>
    simp only [setInsert]
    split
    · simp [inSet]
    · split
      · subst k
        simp [inSet]
      · simp only [inSet, List.any_cons] at ih ⊢
        rw [ih, Bool.or_left_comm]

namespace Machine

variable {s t : State}

/-! ## What the value of a written field rests on -/

/-- Two states agree on what a write of fields looks at beside the fields themselves. -/
structure SameRules (s t : State) (i : Nat) : Prop where
  pw : t.pw = s.pw
  cal : t.fld F_PW_STATUS_CAL_INVALID = s.fld F_PW_STATUS_CAL_INVALID
  enable : t.fld F_HP_APT_CFG_ENABLE i = s.fld F_HP_APT_CFG_ENABLE i
  stage : t.fld F_TOP_BOOT_STATUS_STAGE = s.fld F_TOP_BOOT_STATUS_STAGE
  wait : t.fld F_TOP_BOOT_STATUS_MEM_WAIT = s.fld F_TOP_BOOT_STATUS_MEM_WAIT

theorem SameRules.of_regs {i : Nat} (hr : t.regs = s.regs) (hp : t.pw = s.pw) : SameRules s t i where
  pw := hp
  cal := by simp only [State.fld, hr]
  enable := by simp only [State.fld, hr]
  stage := by simp only [State.fld, hr]
  wait := by simp only [State.fld, hr]

theorem SameRules.trans {u : State} {i : Nat} (h : SameRules s t i) (k : SameRules t u i) : SameRules s u i where
  pw := k.pw.trans h.pw
  cal := k.cal.trans h.cal
  enable := k.enable.trans h.enable
  stage := k.stage.trans h.stage
  wait := k.wait.trans h.wait

theorem SameRules.newField {i : Nat} (h : SameRules s t i) (f : Fld) (v : Nat) : t.newField f i v = s.newField f i v := by
  have inField (g : Fld) : t.inField g i v = s.inField g i v := by
    unfold State.inField fieldRanges
    rw [h.cal, h.pw]
  simp only [State.newField, inField]

theorem SameRules.fieldHeld {i : Nat} (h : SameRules s t i) (f : Fld) : t.fieldHeld f i = s.fieldHeld f i := by
  simp only [State.fieldHeld, h.cal, h.enable]

theorem SameRules.training {i : Nat} (h : SameRules s t i) : t.training = s.training := by
  simp only [State.training, h.stage, h.wait]

/-- The rules that hold a field are of blocks HP, CK and PW. -/
theorem fieldHeld_elsewhere {f : Fld} (h13 : f.blk ≠ 13) (h18 : f.blk ≠ 18) (h19 : f.blk ≠ 19) (i : Nat) : s.fieldHeld f i = false := by
  have ne (g : Fld) (hg : g.blk = 13 ∨ g.blk = 18 ∨ g.blk = 19) : (f == g) = false := by
    refine beq_eq_false_iff_ne.2 ?_
    rintro rfl
    omega
  simp [State.fieldHeld, ne F_PW_L_VSET_VSET (by decide), ne F_CK_D_FMAX_FMAX (by decide), ne F_HP_APT_BASE_FIRST_TFN (by decide),
    ne F_PW_P_ILIM_ILIM (by decide)]

/-! ## The write of one field -/

/-- The write of one field of word `n` of a register: the step that State.writeFields repeats. -/
def State.writeField (s : State) (f : Fld) (n i v : Nat) : State :=
  if s.fieldHeld f i then s
  else if f.acc = .rwl || isOverride f then
    if isOverride f && s.training then s else s.headerFld (f.at n) (s.newField f i v) i
  else if f.acc = .rw then s.setFld (f.at n) (s.newField f i v) i
  else if f.acc = .w1c then s.setFld (f.at n) (s.fld (f.at n) i &&& ((2 ^ f.wid - 1) ^^^ bits v f.lo f.wid)) i
  else s

theorem writeFields_foldl (w : RegWord) (n i v : Nat) :
    s.writeFields w n i v = w.flds.foldl (fun z f => z.writeField f n i v) s := rfl

theorem headerFld_frame (f : Fld) (v i : Nat) : ∃ r b, s.headerFld f v i = { s with regs := r, bt := b } := by
  unfold State.headerFld
  split
  · exact ⟨s.regs, s.bt, rfl⟩
  · exact ⟨_, _, rfl⟩

/-- A RWL field takes its first write (R686). -/
theorem fld_headerFld (f g : Fld) (v i j : Nat) : (s.headerFld f v i).fld g j =
    if inSet s.bt.rwl (f.key i) = false ∧ f.key i = g.key j then v % 2 ^ f.wid else s.fld g j := by
  unfold State.headerFld
  cases hs : inSet s.bt.rwl (f.key i)
  · exact (State.fld_setFld s f g v i j).trans (by simp)
  · simp

theorem rwl_headerFld (f : Fld) (v i k : Nat) :
    inSet (s.headerFld f v i).bt.rwl k = (f.key i == k || inSet s.bt.rwl k) := by
  unfold State.headerFld
  cases hs : inSet s.bt.rwl (f.key i)
  · simp [inSet_setInsert]
  · by_cases hk : f.key i = k
    · subst hk
      simp [hs]
    · simp [hk]

theorem writeField_frame (f : Fld) (n i v : Nat) : ∃ r b, s.writeField f n i v = { s with regs := r, bt := b } := by
  unfold State.writeField
  split
  · exact ⟨s.regs, s.bt, rfl⟩
  split
  · split
    · exact ⟨s.regs, s.bt, rfl⟩
    · exact headerFld_frame ..
  split
  · exact ⟨_, s.bt, rfl⟩
  split
  · exact ⟨_, s.bt, rfl⟩
  · exact ⟨s.regs, s.bt, rfl⟩

/-- The write of a field leaves the fields of other keys. -/
theorem writeField_fld_other {f g : Fld} {n i j v : Nat} (h : (f.at n).key i ≠ g.key j) :
    (s.writeField f n i v).fld g j = s.fld g j := by
  unfold State.writeField
  repeat' split
  all_goals simp [fld_headerFld, h]

theorem writeField_rwl_other {f : Fld} {n i k v : Nat} (h : (f.at n).key i ≠ k) :
    inSet (s.writeField f n i v).bt.rwl k = inSet s.bt.rwl k := by
  unfold State.writeField
  repeat' split
  all_goals simp [rwl_headerFld, h]

/-- What the write of a field leaves in it rests on the rules, the field and its lock alone. -/
theorem writeField_congr {f : Fld} {n i v : Nat} (h : SameRules s t i) (hf : t.fld (f.at n) i = s.fld (f.at n) i)
    (hl : inSet t.bt.rwl ((f.at n).key i) = inSet s.bt.rwl ((f.at n).key i)) :
    (t.writeField f n i v).fld (f.at n) i = (s.writeField f n i v).fld (f.at n) i ∧
      inSet (t.writeField f n i v).bt.rwl ((f.at n).key i) = inSet (s.writeField f n i v).bt.rwl ((f.at n).key i) := by
  unfold State.writeField
  rw [h.fieldHeld, h.training, h.newField, hf]
  repeat' split
  all_goals simp [fld_headerFld, rwl_headerFld, hf, hl]

section Cases

variable {f : Fld} {n i v : Nat}

theorem writeField_held (h : s.fieldHeld f i = true) : s.writeField f n i v = s := if_pos h

/-- A RW field takes the written value, brought into its range. -/
theorem writeField_rw (h : s.fieldHeld f i = false) (ha : f.acc = .rw) (ho : isOverride f = false) :
    (s.writeField f n i v).fld (f.at n) i = s.newField f i v % 2 ^ f.wid := by
  simp [State.writeField, h, ha, ho]

theorem writeField_w1c (h : s.fieldHeld f i = false) (ha : f.acc = .w1c) (ho : isOverride f = false) :
    (s.writeField f n i v).fld (f.at n) i = (s.fld (f.at n) i &&& ((2 ^ f.wid - 1) ^^^ bits v f.lo f.wid)) % 2 ^ f.wid := by
  simp [State.writeField, h, ha, ho]

/-- A RWL field or a timing override that is not locked takes the value and locks. -/
theorem writeField_open (h : s.fieldHeld f i = false) (ha : f.acc = .rwl ∨ isOverride f = true)
    (hl : inSet s.bt.rwl ((f.at n).key i) = false) (ht : isOverride f = false ∨ s.training = false) :
    (s.writeField f n i v).fld (f.at n) i = s.newField f i v % 2 ^ f.wid ∧
      inSet (s.writeField f n i v).bt.rwl ((f.at n).key i) = true := by
  have e : s.writeField f n i v = s.headerFld (f.at n) (s.newField f i v) i := by
    have h1 : (decide (f.acc = .rwl) || isOverride f) = true := by simpa using ha
    have h2 : (isOverride f && s.training) = false := by rcases ht with ht | ht <;> simp [ht]
    simp [State.writeField, h, h1, h2]
  rw [e, fld_headerFld, rwl_headerFld, if_pos ⟨hl, rfl⟩]
  simp

/-- A RWL field that has been written, and a timing override once training has started, stay. -/
theorem writeField_locked (ha : f.acc = .rwl ∨ isOverride f = true)
    (hl : inSet s.bt.rwl ((f.at n).key i) = true ∨ isOverride f = true ∧ s.training = true) : s.writeField f n i v = s := by
  have h1 : (decide (f.acc = .rwl) || isOverride f) = true := by simpa using ha
  unfold State.writeField
  rw [if_pos h1]
  split
  · rfl
  split
  · rfl
  · rename_i hno
    rcases hl with hl | hl
    · exact if_pos hl
    · exact absurd (by simp [hl]) hno

theorem writeField_readOnly (ha : f.acc = .ro ∨ f.acc = .rc) (ho : isOverride f = false) : s.writeField f n i v = s := by
  unfold State.writeField
  rcases ha with ha | ha <;> simp [ha, ho]

/-- The write of a field that takes none changes nothing. -/
theorem writeField_unwritten (hw : f.written = false) (ho : isOverride f = false) : s.writeField f n i v = s := by
  simp only [Fld.written, Bool.or_eq_false_iff, decide_eq_false_iff_not] at hw
  simp [State.writeField, hw, ho]

end Cases

/-! ## The write of a word -/

theorem writeFields_frame (w : RegWord) (n i v : Nat) : ∃ r b, s.writeFields w n i v = { s with regs := r, bt := b } := by
  rw [writeFields_foldl]
  refine foldl_keeps (fun z => ∃ r b, z = { s with regs := r, bt := b }) _ ?_ _ _ ⟨s.regs, s.bt, rfl⟩
  rintro z f ⟨r, b, rfl⟩
  obtain ⟨r', b', h⟩ := writeField_frame (s := { s with regs := r, bt := b }) f n i v
  exact ⟨r', b', h⟩

section Word

variable {w : RegWord} {n i : Nat} (hw : w ∈ regWords) (hn : n < w.cnt)
include hw hn

/-- No field of a word has the key of a field elsewhere. -/
theorem key_at_ne {f g : Fld} {j : Nat} (hf : f ∈ w.flds) (hg : g.Fits) (h : g.blk = w.blk → g.off ≠ w.off + 4 * n) :
    (f.at n).key i ≠ g.key j := by
  intro hk
  obtain ⟨hfb, hfo, -⟩ := fld_place hw hf
  obtain ⟨-, hb, ho, -⟩ := Fld.key_inj (at_fits hw hf hn) hg hk
  exact h (hb.symm.trans hfb) (by rw [← ho, ← hfo]; rfl)

theorem writeField_rules (hcfg : w.blk ≠ 13 ∨ w.off ≠ 0x1000) {f : Fld} (hf : f ∈ w.flds) (v : Nat) :
    SameRules s (s.writeField f n i v) i := by
  by_cases ha : f.written = true
  · obtain ⟨h0, h19, h13⟩ := regWords_written w hw (List.any_eq_true.2 ⟨f, hf, ha⟩)
    obtain ⟨r, b, he⟩ := writeField_frame (s := s) f n i v
    have other (g : Fld) (j : Nat) (hg : g.Fits) (h : g.blk = w.blk → g.off ≠ w.off + 4 * n) :
        (s.writeField f n i v).fld g j = s.fld g j := writeField_fld_other (key_at_ne hw hn hf hg h)
    refine ⟨by rw [he], other _ _ (by decide) ?_, other _ _ (by decide) ?_, other _ _ (by decide) ?_, other _ _ (by decide) ?_⟩
    · intro hb ho
      have := h19 hb.symm
      simp only [F_PW_STATUS_CAL_INVALID] at ho
      omega
    · intro hb ho
      have := h13 (.inl hb.symm)
      simp only [F_HP_APT_CFG_ENABLE] at hb ho
      omega
    · exact fun hb => absurd hb.symm h0
    · exact fun hb => absurd hb.symm h0
  · have ho : isOverride f = false := by
      by_contra hc
      exact ha (by simp [Fld.written, regWords_override w hw f hf (by simpa using hc)])
    rw [writeField_unwritten (by simpa using ha) ho]
    exact .of_regs rfl rfl

/-- The fields of a list of the word's leave the rules and the fields of other keys. -/
theorem foldl_writeField_others {f : Fld} (hf : f ∈ w.flds) (hcfg : w.blk ≠ 13 ∨ w.off ≠ 0x1000) (v : Nat) (l : List Fld)
    (hl : ∀ g ∈ l, g ∈ w.flds ∧ g ≠ f) (z : State) :
    SameRules z (l.foldl (fun z g => z.writeField g n i v) z) i ∧
      (l.foldl (fun z g => z.writeField g n i v) z).fld (f.at n) i = z.fld (f.at n) i ∧
      inSet (l.foldl (fun z g => z.writeField g n i v) z).bt.rwl ((f.at n).key i) = inSet z.bt.rwl ((f.at n).key i) := by
  induction l generalizing z with
  | nil => exact ⟨.of_regs rfl rfl, rfl, rfl⟩
  | cons g l ih =>
    obtain ⟨hg, hne⟩ := hl g (List.mem_cons_self ..)
    have hk : (g.at n).key i ≠ (f.at n).key i := fun h => hne (eq_of_key_at hw hg hf h)
    obtain ⟨hr, hv, hlock⟩ := ih (fun x hx => hl x (List.mem_cons_of_mem _ hx)) (z.writeField g n i v)
    exact ⟨(writeField_rules hw hn hcfg hg v).trans hr, hv.trans (writeField_fld_other hk), hlock.trans (writeField_rwl_other hk)⟩

/-- A write of a word writes each of its fields as if it stood alone. -/
theorem writeFields_field {f : Fld} (hf : f ∈ w.flds) (hcfg : w.blk ≠ 13 ∨ w.off ≠ 0x1000) (v : Nat) :
    (s.writeFields w n i v).fld (f.at n) i = (s.writeField f n i v).fld (f.at n) i ∧
      inSet (s.writeFields w n i v).bt.rwl ((f.at n).key i) = inSet (s.writeField f n i v).bt.rwl ((f.at n).key i) := by
  obtain ⟨l, m, hlm⟩ := List.append_of_mem hf
  have hnd := flds_nodup hw
  rw [hlm] at hnd
  obtain ⟨-, hfm, hlf⟩ := List.nodup_append.1 hnd
  have hl : ∀ g ∈ l, g ∈ w.flds ∧ g ≠ f := fun g hg => ⟨by simp [hlm, hg], hlf g hg f (List.mem_cons_self ..)⟩
  have hm : ∀ g ∈ m, g ∈ w.flds ∧ g ≠ f := fun g hg =>
    ⟨by simp [hlm, hg], fun e => (List.nodup_cons.1 hfm).1 (e ▸ hg)⟩
  obtain ⟨hr, hv, hlock⟩ := foldl_writeField_others hw hn hf hcfg v l hl s
  obtain ⟨-, hv', hlock'⟩ := foldl_writeField_others hw hn hf hcfg v m hm
    ((l.foldl (fun z g => z.writeField g n i v) s).writeField f n i v)
  obtain ⟨hc, hc'⟩ := writeField_congr (v := v) hr hv hlock
  rw [writeFields_foldl, hlm, List.foldl_append, List.foldl_cons]
  exact ⟨hv'.trans hc, hlock'.trans hc'⟩

/-- A write of a word leaves what other writes look at. -/
theorem writeFields_rules (hcfg : w.blk ≠ 13 ∨ w.off ≠ 0x1000) (v : Nat) : SameRules s (s.writeFields w n i v) i := by
  rw [writeFields_foldl]
  exact List.foldlRecOn (motive := fun z => SameRules s z i) _ _ (.of_regs rfl rfl) fun z hz f hf =>
    hz.trans (writeField_rules hw hn hcfg hf v)

/-- A write of a word leaves the fields elsewhere. -/
theorem writeFields_fld_other {g : Fld} (hg : g.Fits) (h : g.blk = w.blk → g.off ≠ w.off + 4 * n) (j v : Nat) :
    (s.writeFields w n i v).fld g j = s.fld g j := by
  rw [writeFields_foldl]
  exact List.foldlRecOn (motive := fun z : State => z.fld g j = s.fld g j) _ _ rfl fun z hz f hf =>
    (writeField_fld_other (key_at_ne hw hn hf hg h)).trans hz

omit hn in
/-- A word that takes no write stays. -/
theorem writeFields_unwritten (h : w.flds.any Fld.written = false) (v : Nat) : s.writeFields w n i v = s := by
  rw [writeFields_foldl]
  refine List.foldlRecOn (motive := fun z => z = s) _ _ rfl ?_
  rintro z rfl f hf
  have ha : f.written = false := by simpa using (List.any_eq_false.1 h) f hf
  refine writeField_unwritten ha ?_
  by_contra hc
  simp [Fld.written, regWords_override w hw f hf (by simpa using hc)] at ha

end Word
end Machine
end Sys2Proof
end

section
/-!
PROOFS. Reads of registers: the value of a place and the read's side effects, doorbell pages, the I3C binding (O42).
-/
namespace Sys2Proof.Machine

variable {s t : State}

/-! ## What a woken fabric leaves -/

@[simp] theorem touch_regs : s.touch.regs = s.regs := by obtain ⟨b, h⟩ := touch_frame (s := s); rw [h]
@[simp] theorem touch_ports : s.touch.ports = s.ports := by obtain ⟨b, h⟩ := touch_frame (s := s); rw [h]
@[simp] theorem touch_outbox : s.touch.outbox = s.outbox := by obtain ⟨b, h⟩ := touch_frame (s := s); rw [h]
@[simp] theorem touch_mem : s.touch.mem = s.mem := by obtain ⟨b, h⟩ := touch_frame (s := s); rw [h]
@[simp] theorem touch_pw : s.touch.pw = s.pw := by obtain ⟨b, h⟩ := touch_frame (s := s); rw [h]
@[simp] theorem touch_bt : s.touch.bt = s.bt := by obtain ⟨b, h⟩ := touch_frame (s := s); rw [h]

@[simp] theorem touch_fld (f : Fld) (i : Nat) : s.touch.fld f i = s.fld f i := by simp only [State.fld, touch_regs]

@[simp] theorem touch_bank (p : Port) : s.touch.bank p = s.bank p := by obtain ⟨b, h⟩ := touch_frame (s := s); rw [h]; rfl

/-- What an offset holds for a port does not depend on the fabric's clock. -/
@[simp] theorem touch_place (p : Port) (off : Nat) : s.touch.place p off = s.place p off := by
  obtain ⟨b, h⟩ := touch_frame (s := s)
  rw [h]
  rfl

/-! ## A read of a place -/

/-- A place that holds no register word is read without side effects (R12, R24). -/
theorem readPlace_plain {p : Port} {pl : Place} (h : ∀ w n i, pl ≠ .word w n i) : s.readPlace p pl = (s, s.placeValue p pl) := by
  cases pl with
  | word w n i => exact absurd rfl (h w n i)
  | _ => rfl

/-- What a place without a register word reads as does not depend on the fabric's clock. -/
theorem touch_placeValue (p : Port) {pl : Place} (h : ∀ w n i, pl ≠ .word w n i) : s.touch.placeValue p pl = s.placeValue p pl := by
  obtain ⟨b, hb⟩ := touch_frame (s := s)
  rw [hb]
  cases pl with
  | word w n i => exact absurd rfl (h w n i)
  | _ => rfl

/-- The read of a word that is no part of a 64-bit register clears its RC fields (R10). -/
theorem readPlace_word {p : Port} {w : RegWord} {n i : Nat} (hl : w.isLow = false) (hh : w.isHigh = false) :
    s.readPlace p (.word w n i) = (s.clearRc w i, s.wordValue p w n i) := by
  simp [State.readPlace, hl, hh]

/-- The read of a low word latches the high word (R14). -/
theorem readPlace_low {p : Port} {w z : RegWord} {n i : Nat} (hl : w.isLow = true) (hz : wordAt w.blk (w.off + 4) w.kind = some z) :
    s.readPlace p (.word w n i) =
      (s.setBank p { s.bank p with latch := some { blk := w.blk, off := w.off, inst := i, word := s.wordValue p z 0 i } },
        s.wordValue p w n i) := by
  simp [State.readPlace, hl, hz]

/-- The read of a high word answers the latch (R15). -/
theorem readPlace_high {p : Port} {w : RegWord} {n i : Nat} (hl : w.isLow = false) (hh : w.isHigh = true) :
    s.readPlace p (.word w n i) = (s, (heldWord (s.bank p).latch w i).getD 0) := by
  simp [State.readPlace, hl, hh]

/-- A read changes registers and port banks alone. -/
theorem readPlace_frame (p : Port) (pl : Place) : ∃ r b, (s.readPlace p pl).1 = { s with regs := r, ports := b } := by
  unfold State.readPlace
  split
  · split
    · exact ⟨s.regs, _, rfl⟩
    split
    · exact ⟨s.regs, s.ports, rfl⟩
    · obtain ⟨r, h⟩ := clearRc_frame (s := s) ‹RegWord› ‹Nat›
      exact ⟨r, s.ports, h⟩
  · exact ⟨s.regs, s.ports, rfl⟩

/-- Each RC field that has been read holds its reset value. -/
theorem fld_clearRc {w : RegWord} (hw : w ∈ regWords) {f : Fld} (hf : f ∈ w.flds) (ha : f.acc = .rc) (i : Nat) :
    (s.clearRc w i).fld f i = f.rst % 2 ^ f.wid := by
  have hmem : f ∈ w.flds.filter (fun f => f.acc = .rc) := by simp [hf, ha]
  obtain ⟨l, m, hlm⟩ := List.append_of_mem hmem
  have hm : ∀ g ∈ m, g ∈ w.flds := fun g hg =>
    List.mem_of_mem_filter (p := fun f => f.acc = .rc) (by rw [hlm]; simp [hg])
  rw [State.clearRc, hlm, List.foldl_append, List.foldl_cons]
  refine List.foldlRecOn (motive := fun z : State => z.fld f i = f.rst % 2 ^ f.wid) _ _ (by simp) ?_
  intro z hz g hg
  rw [State.fld_setFld]
  split
  · rename_i hk
    rw [eq_of_key_at (n := 0) hw (hm g hg) hf hk]
  · exact hz

/-! ## A read access -/

/-- An access of at most four bytes to BAR0 that reaches the register port: it is answered, and R466 does not refuse it. -/
structure Reaches (s : State) (a : Access) : Prop where
  narrow : a.wide = false
  bar : a.bar2 = false
  answered : s.answers a.p a.off = true
  allowed : s.ideStops a = false

/-- A read that reaches the register port sends the bytes asked for of what the place reads as. -/
theorem Reaches.portRead {a : Access} (h : Reaches s a) {mine : Place → Bool} (hm : mine (s.place a.p a.off) = true) :
    s.portRead a mine = ((s.touch.readPlace a.p (s.place a.p a.off)).1).emit
      (.regData (portCode a.p) a.off (byEnables (s.touch.readPlace a.p (s.place a.p a.off)).2 a.be)) := by
  obtain ⟨hw, hb, ha, hi⟩ := h
  simp [State.portRead, State.portRead4, State.busRead, hw, hb, ha, hi, hm]

theorem portRead_wide {a : Access} {mine : Place → Bool} (hw : a.wide = true) (hb : a.bar2 = false) (ha : s.answers a.p a.off = true)
    (hi : s.ideStops a = false) (hm : mine (s.place a.p a.off) = true) :
    s.portRead a mine = (s.portRead4 a mine).portRead4 a.upper (fun _ => true) := by
  simp [State.portRead, hw, hb, ha, hi, hm]

/-- R466 refuses a host's read: one count, one Unsupported Request. -/
theorem portRead_refused {a : Access} {mine : Place → Bool} (hb : a.bar2 = false) (ha : s.answers a.p a.off = true)
    (hi : s.ideStops a = true) (hm : mine (s.place a.p a.off) = true) :
    s.portRead a mine = (s.bump F_HP_IDE_FAIL_IDE).emit (.refused (portCode a.p) a.off false) := by
  simp [State.portRead, hb, ha, hi, hm]

theorem portRead_elsewhere {a : Access} {mine : Place → Bool}
    (h : a.bar2 = true ∨ s.answers a.p a.off = false ∨ mine (s.place a.p a.off) = false) : s.portRead a mine = s := by
  rcases h with h | h | h <;> simp [State.portRead, h]

theorem byEnables_zero (be : Nat) : byEnables 0 be = 0 := by
  simp [byEnables, bits, List.range_succ]

theorem leads_rcFieldRead {a : Access} (hb : a.bar2 = false) {P : State → Prop}
    (h : P (s.portRead a (fun (x : Place) => !x.isLow && !x.isHigh))) : Leads (.rcFieldRead a) s P :=
  leads_next (t := s.portRead a (fun (x : Place) => !x.isLow && !x.isHigh)) (by
    show execRcFieldRead a s = _
    simp [execRcFieldRead, hb]) h

theorem leads_pageRead {a : Access} (hb : a.bar2 = true) {P : State → Prop} (h : P (s.pageRead a)) : Leads (.rcFieldRead a) s P :=
  leads_next (t := s.pageRead a) (by
    show execRcFieldRead a s = _
    simp [execRcFieldRead, hb]) h

theorem leads_lowWordRead {a : Access} {P : State → Prop} (h : P (s.portRead a Place.isLow)) : Leads (.lowWordRead a) s P :=
  ⟨_, rfl, h⟩

theorem leads_highWordRead {a : Access} {P : State → Prop} (h : P (s.portRead a Place.isHigh)) : Leads (.highWordRead a) s P :=
  ⟨_, rfl, h⟩

/-- The read of a place without a register word answers what the place reads as, and changes neither registers nor banks. -/
theorem Reaches.readsPlace {a : Access} (h : Reaches s a) (hp : ∀ w n i, s.place a.p a.off ≠ .word w n i) :
    Leads (.rcFieldRead a) s fun t =>
      t.outbox = s.outbox ++ [Msg.regData (portCode a.p) a.off (byEnables (s.placeValue a.p (s.place a.p a.off)) a.be)] ∧
        t.regs = s.regs ∧ t.ports = s.ports := by
  have hm : (!(s.place a.p a.off).isLow && !(s.place a.p a.off).isHigh) = true := by
    cases hc : s.place a.p a.off with
    | word w n i => exact absurd hc (hp w n i)
    | _ => rfl
  refine leads_rcFieldRead h.bar ?_
  rw [h.portRead hm, readPlace_plain hp, touch_placeValue a.p hp]
  simp [State.emit]

/-! ## A read of a doorbell page -/

/-- A function's port is answered where its own doorbell pages are. -/
theorem answers_fnPort {p : Port} {n : Nat} (h : portFn p = some n) (off : Nat) : s.answers (fnPort n) off = s.answers p off := by
  have hp : p ≠ .bmc := by rintro rfl; cases h
  have hn : fnPort n ≠ .bmc := by unfold fnPort; split <;> simp
  simp [State.answers, hp, hn]

theorem pageRead_none {a : Access} (h : portFn a.p = none ∨ s.answers a.p qctlOff = false) : s.pageRead a = s := by
  unfold State.pageRead
  cases hp : portFn a.p with
  | none => rfl
  | some n =>
    have ha : s.answers a.p qctlOff = false := by simpa [hp] using h
    simp [State.pageAccess, answers_fnPort hp, ha]

theorem pageRead_refused {a : Access} {n : Nat} (hp : portFn a.p = some n) (ha : s.answers a.p qctlOff = true)
    (hi : s.fld F_HP_CFG_IDE_REQUIRED = 1 ∧ a.secure = false) :
    s.pageRead a = (s.bump F_HP_IDE_FAIL_IDE).emit (.refused n a.off true) := by
  simp [State.pageRead, State.pageAccess, hp, answers_fnPort hp, ha, hi]

theorem pageRead_answered {a : Access} {n : Nat} (hp : portFn a.p = some n) (ha : s.answers a.p qctlOff = true)
    (hi : s.fld F_HP_CFG_IDE_REQUIRED ≠ 1 ∨ a.secure = true) :
    s.pageRead a = if a.wide then (s.pageRead4 n a).pageRead4 n a.upper else s.pageRead4 n a := by
  rcases hi with hi | hi <;> simp [State.pageRead, State.pageAccess, hp, answers_fnPort hp, ha, hi]

/-! ## The register commands of the I3C binding -/

/-- Messages sent one after the other stand in the outbox in their order. -/
theorem foldl_emit {α : Type} (m : α → Msg) (l : List α) :
    l.foldl (fun z p => z.emit (m p)) s = { s with outbox := s.outbox ++ l.map m } := by
  induction l generalizing s with
  | nil => simp
  | cons p l ih => rw [List.foldl_cons, ih]; simp [State.emit]

/-- An answer on the I3C binding goes out as the packets of its message. -/
theorem answer_i3c (msg : List Byte) :
    s.answer 1 msg = { s with outbox := s.outbox ++ (mctpPackets (mctpUnit 1) (kvGet 0 s.mg.eid 1) false msg).map (Msg.mctp 1) } := by
  rw [← foldl_emit]
  rfl

theorem busRead_frame (p : Port) (off : Nat) : ∃ r b k, (s.busRead p off).1 = { s with regs := r, ports := b, ck := k } := by
  unfold State.busRead
  split
  · obtain ⟨k, hk⟩ := touch_frame (s := s)
    obtain ⟨r, b, h⟩ := readPlace_frame (s := s.touch) p (s.place p off)
    exact ⟨r, b, _, by rw [h, hk]⟩
  · exact ⟨s.regs, s.ports, s.ck, rfl⟩

section Vendor

variable {b inst cmd off : Nat} {f : State → State × List Byte}

theorem vendorReg_answers (hb : s.bindUp 1 = true) (ho : off % 4 = 0) (hlt : off < 0x4000000) :
    s.vendorReg 1 inst cmd off f = (f s).1.answer 1 (vendorMsg false inst cmd (some 0) (f s).2) := by
  simp [State.vendorReg, hb, ho, hlt]

theorem vendorReg_elsewhere (hb : s.bindUp b = true) (h1 : b ≠ 1) :
    s.vendorReg b inst cmd off f = s.answer b (vendorMsg false inst cmd (some 5) []) := by
  simp [State.vendorReg, hb, h1]

theorem vendorReg_badOffset (hb : s.bindUp 1 = true) (ho : off % 4 ≠ 0 ∨ 0x4000000 ≤ off) :
    s.vendorReg 1 inst cmd off f = s.answer 1 (vendorMsg false inst cmd (some 2) []) := by
  simp [State.vendorReg, hb, ho]

theorem vendorReg_down (hb : s.bindUp b = false) : s.vendorReg b inst cmd off f = s := by
  simp [State.vendorReg, hb]

end Vendor

/-- Settles O42, clause by clause over what a place reads as. -/
theorem registerReadsAnswer : Obligations.RegisterReadsAnswer := by
  unfold Obligations.RegisterReadsAnswer
  refine ⟨?word, ?sel, ?selStatus, ?slot, ?vec, ?pba, ?zero, ?low, ?high, ?wide, ?refused, ?none, ?lowWide, ?lowRefused, ?lowNone,
    ?lowPage, ?highWide, ?highRefused, ?highNone, ?highPage, ?pageNone, ?pageRefused, ?pageNarrow, ?pageWide, ?regRead, ?regReadOther,
    ?regReadBad, ?regReadDown⟩
  case word =>
    intro s a w n i hw hb ha hi hp hl hh
    have r : Reaches s a := ⟨hw, hb, ha, hi⟩
    refine leads_rcFieldRead hb ?_
    rw [r.portRead (by simp [hp, Place.isLow, Place.isHigh, hl, hh]), hp, readPlace_word hl hh]
    obtain ⟨g, hg⟩ := clearRc_frame (s := s.touch) w i
    refine ⟨by simp [State.emit, hg], fun f hf hf' => ?_, by simp [State.emit, hg], by simp [State.emit, hg]⟩
    exact fld_clearRc (place_word hp).1 hf hf' i
  case sel =>
    intro s a b hw hb ha hi hp
    exact hp ▸ (Reaches.mk hw hb ha hi).readsPlace (by simp [hp])
  case selStatus =>
    intro s a b hw hb ha hi hp
    exact hp ▸ (Reaches.mk hw hb ha hi).readsPlace (by simp [hp])
  case slot =>
    intro s a i k hw hb ha hi hp
    exact hp ▸ (Reaches.mk hw hb ha hi).readsPlace (by simp [hp])
  case vec =>
    intro s a f v k hw hb ha hi hp
    exact hp ▸ (Reaches.mk hw hb ha hi).readsPlace (by simp [hp])
  case pba =>
    intro s a f k hw hb ha hi hp
    exact hp ▸ (Reaches.mk hw hb ha hi).readsPlace (by simp [hp])
  case zero =>
    intro s a hw hb ha hi hp
    refine ((Reaches.mk hw hb ha hi).readsPlace (by rcases hp with hp | hp | hp <;> simp [hp])).mono fun t ht => ?_
    have hz : s.placeValue a.p (s.place a.p a.off) = 0 := by rcases hp with hp | hp | hp <;> rw [hp] <;> rfl
    rwa [hz, byEnables_zero] at ht
  case low =>
    intro s a w z n i hw hb ha hi hp hl hz
    have r : Reaches s a := ⟨hw, hb, ha, hi⟩
    refine leads_lowWordRead ?_
    rw [r.portRead (by simp [hp, Place.isLow, hl]), hp, readPlace_low hl hz]
    refine ⟨by simp [State.emit], ?_, by simp, by simp⟩
    show ((s.touch.setBank a.p _).bank a.p).latch = _
    rw [bank_setBank, if_pos rfl]
  case high =>
    intro s a w n i hw hb ha hi hp hh hl
    have r : Reaches s a := ⟨hw, hb, ha, hi⟩
    refine leads_highWordRead ?_
    rw [r.portRead (by simp [hp, Place.isHigh, hh]), hp, readPlace_high hl hh]
    simp [State.emit]
  case wide => exact fun s a hw hb ha hi hp => leads_rcFieldRead hb (portRead_wide hw hb ha hi (by simp [hp]))
  case refused => exact fun s a hb ha hi hp => leads_rcFieldRead hb (portRead_refused hb ha hi (by simp [hp]))
  case none =>
    intro s a hb h
    exact leads_rcFieldRead hb (portRead_elsewhere (.inr (h.imp_right fun h => by rcases h with h | h <;> simp [h])))
  case lowWide => exact fun s a hw hb ha hi hp => leads_lowWordRead (portRead_wide hw hb ha hi hp)
  case lowRefused => exact fun s a hb ha hi hp => leads_lowWordRead (portRead_refused hb ha hi hp)
  case lowNone => exact fun s a _ h => leads_lowWordRead (portRead_elsewhere (.inr h))
  case lowPage => exact fun s a hb => leads_lowWordRead (portRead_elsewhere (.inl hb))
  case highWide => exact fun s a hw hb ha hi hp => leads_highWordRead (portRead_wide hw hb ha hi hp)
  case highRefused => exact fun s a hb ha hi hp => leads_highWordRead (portRead_refused hb ha hi hp)
  case highNone => exact fun s a _ h => leads_highWordRead (portRead_elsewhere (.inr h))
  case highPage => exact fun s a hb => leads_highWordRead (portRead_elsewhere (.inl hb))
  case pageNone => exact fun s a hb h => leads_pageRead hb (pageRead_none h)
  case pageRefused => exact fun s a n hb hp ha hi => leads_pageRead hb (pageRead_refused hp ha hi)
  case pageNarrow =>
    intro s a n hb hp ha hi hw
    refine leads_pageRead hb ((pageRead_answered hp ha hi).trans ?_)
    rw [hw]
    rfl
  case pageWide =>
    intro s a n hb hp ha hi hw
    exact leads_pageRead hb ((pageRead_answered hp ha hi).trans (if_pos hw))
  case regRead =>
    intro s n v hb ho hlt
    refine ⟨_, rfl, ?_⟩
    rw [vendorReg_answers hb ho hlt, answer_i3c]
    obtain ⟨r, b, k, h⟩ := busRead_frame (s := s) .bmc v
    simp [h]
  case regReadOther => exact fun s b n v hb h1 => ⟨_, rfl, vendorReg_elsewhere hb h1⟩
  case regReadBad => exact fun s n v hb ho => ⟨_, rfl, vendorReg_badOffset hb ho⟩
  case regReadDown => exact fun s b n v hb => ⟨_, rfl, vendorReg_down hb⟩

end Sys2Proof.Machine
end

section
/-!
PROOFS. What events and their messages leave of the registers, and how a write access reaches its register (O43, O50).
-/
namespace Sys2Proof.Machine

variable {s t : State}

/-! ## Events -/

/-- The registers that an event, its record, its message or a refused access writes: TOP_BAD_ACCESS, IR_EVT_STATUS, IR_F_VPEND, IR_F_SENT,
ER_WPTR, ER_OVF_CNT, PW_ALERT and PW_L_STATUS. -/
def Fld.eventReg (f : Fld) : Bool :=
  [(0, 0x20), (0, 0x24), (0, 0x28), (15, 0), (15, 0x1008), (15, 0x100C), (17, 0), (17, 8), (19, 4), (19, 0x1000)].contains (f.blk, f.off)

/-- From one state to another nothing has happened but events: the fields of other registers, the port banks, memory, the locks of
RWL fields and the vector tables are as they were. -/
structure EventOnly (s t : State) : Prop where
  flds : ∀ f i, f.Fits → f.eventReg = false → t.fld f i = s.fld f i
  ports : t.ports = s.ports
  mem : t.mem = s.mem
  bt : t.bt = s.bt
  table : t.ir.table = s.ir.table

theorem EventOnly.refl : EventOnly s s := ⟨fun _ _ _ _ => rfl, rfl, rfl, rfl, rfl⟩

theorem EventOnly.trans {u : State} (h : EventOnly s t) (k : EventOnly t u) : EventOnly s u :=
  ⟨fun f i hf he => (k.flds f i hf he).trans (h.flds f i hf he), k.ports.trans h.ports, k.mem.trans h.mem, k.bt.trans h.bt,
    k.table.trans h.table⟩

theorem eventOnly_setFld {g : Fld} (hg : g.Fits) (he : g.eventReg = true) (v j : Nat) : EventOnly s (s.setFld g v j) := by
  refine ⟨fun f i hf hn => ?_, rfl, rfl, rfl, rfl⟩
  rw [State.fld_setFld, if_neg]
  intro hk
  obtain ⟨-, hb, ho, -⟩ := Fld.key_inj hg hf hk
  simp only [Fld.eventReg, hb, ho] at he hn
  exact absurd he (by rw [hn]; exact Bool.false_ne_true)

/-- A state with the same registers, banks, memory, locks and vector tables. -/
theorem EventOnly.of_eq (hr : t.regs = s.regs) (hp : t.ports = s.ports) (hm : t.mem = s.mem) (hb : t.bt = s.bt)
    (ht : t.ir.table = s.ir.table) : EventOnly s t :=
  ⟨fun f i _ _ => by simp only [State.fld, hr], hp, hm, hb, ht⟩

theorem eventOnly_emit (m : Msg) : EventOnly s (s.emit m) := .of_eq rfl rfl rfl rfl rfl

theorem eventOnly_bump {g : Fld} (hg : g.Fits) (he : g.eventReg = true) (m j : Nat) : EventOnly s (s.bump g m j) :=
  eventOnly_setFld hg he _ j

theorem eventOnly_badAccess (p : Port) (off : Nat) : EventOnly s (s.badAccess p off) :=
  (((eventOnly_setFld (by decide) (by decide) _ _).trans (eventOnly_setFld (by decide) (by decide) _ _)).trans
    (eventOnly_setFld (by decide) (by decide) _ _)).trans (eventOnly_setFld (by decide) (by decide) _ _)

theorem eventOnly_loopLast (k v : Nat) : EventOnly s (s.loopLast k v) := eventOnly_setFld (by decide) (by decide) _ _

theorem eventOnly_driveAlert (old : State) : EventOnly s (s.driveAlert old) := by
  unfold State.driveAlert
  split
  · exact .refl
  · exact eventOnly_emit _

theorem eventOnly_sendMsix (f v : Nat) : EventOnly s (s.sendMsix f v) := by
  unfold State.sendMsix
  split
  · exact (eventOnly_emit _).trans (eventOnly_bump (by decide) (by decide) 1 (vecKey f v))
  · exact .of_eq rfl rfl rfl rfl rfl

theorem eventOnly_devEvent (b : Nat) : EventOnly s (s.devEvent b) := by
  have h : EventOnly s (s.setFld F_IR_EVT_STATUS_STATUS (s.fld F_IR_EVT_STATUS_STATUS + 2 ^ b)) :=
    eventOnly_setFld (by decide) (by decide) _ 0
  unfold State.devEvent
  extract_lets st z
  split
  · exact .refl
  split
  · exact h.trans (eventOnly_sendMsix 0 _)
  · exact h

theorem eventOnly_setRing (r : ErrRec) : EventOnly s (s.setRing r) := .of_eq rfl rfl rfl rfl rfl

theorem eventOnly_setUnitRec (k : Nat) (u : UnitRec) : EventOnly s (s.setUnitRec k u) := .of_eq rfl rfl rfl rfl rfl

theorem eventOnly_bumpOvf : EventOnly s (s.bump F_ER_OVF_CNT_OVF) := eventOnly_bump (by decide) (by decide) 1 0

theorem eventOnly_setWptr (v : Nat) : EventOnly s (s.setFld F_ER_WPTR_WPTR v) := eventOnly_setFld (by decide) (by decide) v 0

theorem eventOnly_writeRec (r : ErrRec) : EventOnly s (s.writeRec r).1 := by
  unfold State.writeRec
  extract_lets w p z
  by_cases hroom : (w + 2 ^ 32 - p) % 2 ^ 32 < 256
  · rw [if_pos hroom]
    exact ((eventOnly_setRing _).trans (eventOnly_setWptr _)).trans (eventOnly_devEvent 0)
  · rw [if_neg hroom]
    by_cases hc : (r.cls != 3) = true
    · rw [if_pos hc]
      exact eventOnly_bumpOvf
    · rw [if_neg hc]
      generalize s.newestNonFatal 256 _ = q
      cases q with
      | some q => exact ((eventOnly_setRing _).trans eventOnly_bumpOvf).trans (eventOnly_devEvent 0)
      | none => exact eventOnly_bumpOvf

/-- The report of an error that needs no recovery escalates nothing: it is a record. -/
theorem eventOnly_report {i : ErrInfo} (h : i.recov = false) : EventOnly s (s.report i) := by
  have hc (u : UnitRec) : s.escalates i u = false := by simp [State.escalates, ErrInfo.counts, h]
  unfold State.report State.record
  simp only [hc, Bool.false_eq_true, if_false]
  exact (eventOnly_writeRec _).trans (eventOnly_setUnitRec _ _)

theorem eventOnly_railWarn (b inst : Nat) : EventOnly s (s.railWarn b inst) := by
  refine EventOnly.trans ?_ (eventOnly_report rfl)
  unfold State.railAlert
  dsimp only
  split
  · exact .refl
  · exact ((eventOnly_setFld (by decide) (by decide) _ _).trans (eventOnly_devEvent 4)).trans (eventOnly_driveAlert _)

theorem eventOnly_vsetNow (k : Nat) (was : Bool) : EventOnly s (s.vsetNow k was) := by
  unfold State.vsetNow
  dsimp only
  split
  · exact (eventOnly_setFld (by decide) (by decide) _ _).trans (eventOnly_railWarn 3 k)
  · exact eventOnly_setFld (by decide) (by decide) _ _

theorem eventOnly_noPending (f v : Nat) : EventOnly s (s.noPending f v) :=
  (eventOnly_setFld (g := F_IR_F_VPEND_PENDING) (by decide) (by decide) 0 (vecKey f v)).trans (.of_eq rfl rfl rfl rfl rfl)

theorem eventOnly_sendDue (f v : Nat) : EventOnly s (s.sendDue f v) := by
  unfold State.sendDue
  split
  · exact .refl
  split
  · exact (eventOnly_sendMsix f v).trans (eventOnly_noPending f v)
  · exact eventOnly_sendMsix f v

theorem eventOnly_vectorUnmask (f v : Nat) : EventOnly s ((execVectorUnmask f v s).after s) := by
  unfold execVectorUnmask Res.after
  dsimp only
  split
  · have h : EventOnly s { s with ir := { s.ir with pba := setErase s.ir.pba (vecKey f v) } } := .of_eq rfl rfl rfl rfl rfl
    split
    · exact (h.trans (eventOnly_sendMsix f v)).trans (eventOnly_noPending f v)
    · exact h.trans (eventOnly_sendMsix f v)
  · exact .refl

/-! ## A write access -/

@[simp] theorem dropStage_regs (p : Port) : (s.dropStage p).regs = s.regs := rfl
@[simp] theorem dropStage_bt (p : Port) : (s.dropStage p).bt = s.bt := rfl
@[simp] theorem dropStage_mem (p : Port) : (s.dropStage p).mem = s.mem := rfl
@[simp] theorem dropStage_pw (p : Port) : (s.dropStage p).pw = s.pw := rfl
@[simp] theorem dropStage_fld (p : Port) (f : Fld) (i : Nat) : (s.dropStage p).fld f i = s.fld f i := rfl

/-- A write that reaches the register port is the port's write of its place. -/
theorem Reaches.portWrite {a : Access} (h : Reaches s a) {mine : Place → Bool} (hm : mine (s.place a.p a.off) = true) (v : Nat)
    (x : WriteAux) : s.portWrite a v x mine = s.busWrite a.p a.off v a.be x := by
  obtain ⟨hw, hb, ha, hi⟩ := h
  simp [State.portWrite, State.portWrite4, hw, hb, hi, hm]

section Access

variable {a : Access} {v : Nat} {x : WriteAux} {mine : Place → Bool}

theorem portWrite_refused (hb : a.bar2 = false) (ha : s.answers a.p a.off = true) (hi : s.ideStops a = true)
    (hm : mine (s.place a.p a.off) = true) : s.portWrite a v x mine = s.bump F_HP_IDE_FAIL_IDE := by
  simp [State.portWrite, hb, ha, hi, hm]

theorem portWrite_unanswered (hw : a.wide = false) (hb : a.bar2 = false) (ha : s.answers a.p a.off = false)
    (hm : mine (s.place a.p a.off) = true) : s.portWrite a v x mine = s.dropStage a.p := by
  simp [State.portWrite, State.portWrite4, State.busWrite, hw, hb, ha, hm]

theorem portWrite_elsewhere (h : a.bar2 = true ∨ mine (s.place a.p a.off) = false) : s.portWrite a v x mine = s := by
  rcases h with h | h <;> simp [State.portWrite, h]

theorem portWrite_wide (hb : a.bar2 = false) (hw : a.wide = true) (h : s.answers a.p a.off = false ∨ s.ideStops a = false)
    (hm : mine (s.place a.p a.off) = true) : s.portWrite a v x mine =
      (s.portWrite4 a (v % 2 ^ 32) x mine).portWrite4 a.upper (v / 2 ^ 32) x (fun _ => true) := by
  rcases h with h | h <;> simp [State.portWrite, hb, hw, h, hm]

end Access

/-! ## A write of a place -/

section Place

variable {p : Port} {off v be : Nat} {x : WriteAux} {w : RegWord} {n i : Nat}

/-- A write to a PBA is ignored, whatever bytes it enables. -/
theorem busWrite_pba (ha : s.answers p off = true) {f k : Nat} (hp : s.place p off = .pba f k) :
    s.busWrite p off v be x = s.touch.dropStage p := by
  simp [State.busWrite, ha, hp]

/-- A write that does not enable all four bytes is counted (R13). -/
theorem busWrite_partial (ha : s.answers p off = true) (hbe : be % 16 ≠ 15) (hp : ∀ f k, s.place p off ≠ .pba f k) :
    s.busWrite p off v be x = (s.touch.dropStage p).badAccess p off := by
  simp only [State.busWrite, ha, touch_place]
  cases hc : s.place p off with
  | pba f k => exact absurd hc (hp f k)
  | _ => simp [hbe]

variable (ha : s.answers p off = true) (hbe : be % 16 = 15)
include ha hbe

theorem busWrite_low (hp : s.place p off = .word w n i) (hl : w.isLow = true) :
    s.busWrite p off v be x = s.touch.lowWrite p off w i (v % 2 ^ 32) := by
  simp [State.busWrite, ha, hbe, hp, hl]

theorem busWrite_high (hp : s.place p off = .word w n i) (hl : w.isLow = false) (hh : w.isHigh = true) :
    s.busWrite p off v be x = s.touch.highWrite p off w i (v % 2 ^ 32) := by
  simp [State.busWrite, ha, hbe, hp, hl, hh]

theorem busWrite_trigger (hp : s.place p off = .word w n i) (hl : w.isLow = false) (hh : w.isHigh = false) {r : Res}
    (ht : s.touch.trigger p w i (v % 2 ^ 32) x = some r) : s.busWrite p off v be x = r.after s.touch := by
  simp only [State.busWrite, ha, touch_place, hp, hbe, hl, hh, ht]
  rfl

theorem busWrite_plain (hp : s.place p off = .word w n i) (hl : w.isLow = false) (hh : w.isHigh = false)
    (ht : (s.touch.trigger p w i (v % 2 ^ 32) x).isNone = true) :
    s.busWrite p off v be x = s.touch.plainWrite p off w n i (v % 2 ^ 32) := by
  simp only [State.busWrite, ha, touch_place, hp, hbe, hl, hh, Option.isNone_iff_eq_none.1 ht]
  rfl

theorem busWrite_sel {b : Nat} (hp : s.place p off = .sel b) : s.busWrite p off v be x =
    (s.touch.dropStage p).setBank p { (s.touch.dropStage p).bank p with sel := kvPut 0 (s.touch.bank p).sel b (v % 65536) } := by
  simp [State.busWrite, ha, hbe, hp]

theorem busWrite_vec {f m k : Nat} (hp : s.place p off = .vec f m k) :
    s.busWrite p off v be x = (s.touch.dropStage p).vecWrite f m k (v % 2 ^ 32) := by
  simp [State.busWrite, ha, hbe, hp]

/-- An offset that holds nothing, a window under INVALID (R12, R24). -/
theorem busWrite_nothing (hp : s.place p off = .empty ∨ s.place p off = .dark) :
    s.busWrite p off v be x = (s.touch.dropStage p).badAccess p off := by
  rcases hp with hp | hp <;> simp [State.busWrite, ha, hbe, hp]

theorem busWrite_noVector_counted (hp : s.place p off = .noVector) (h : p = .bmc ∨ p = .rtp) :
    s.busWrite p off v be x = (s.touch.dropStage p).badAccess p off := by
  simp [State.busWrite, ha, hbe, hp, h]

theorem busWrite_ignored (h : (match s.place p off with
      | .selStatus _ => true | .slot _ _ => true | .noVector => p != .bmc && p != .rtp | _ => false) = true) :
    s.busWrite p off v be x = s.touch.dropStage p := by
  cases hp : s.place p off <;> simp_all [State.busWrite]

end Place

/-- A part-word write of a row whose offsets are no PBA is counted. -/
theorem Reaches.portWrite_partial {a : Access} {v : Nat} {x : WriteAux} {mine : Place → Bool} (r : Reaches s a) (hbe : a.be % 16 ≠ 15)
    (hm : mine (s.place a.p a.off) = true) (hno : ∀ f k, mine (.pba f k) = false) :
    s.portWrite a v x mine = (s.touch.dropStage a.p).badAccess a.p a.off :=
  (r.portWrite hm v x).trans (busWrite_partial r.answered hbe fun f k hc => by simp [hc, hno] at hm)

/-- An access of REGISTER_WRITE: no select register, no word of a 64-bit register. -/
def Place.isPlain (pl : Place) : Bool := !pl.isLow && !pl.isHigh && !pl.isSel

theorem leads_registerWrite {a : Access} {v : Nat} {x : WriteAux} (hb : a.bar2 = false) {P : State → Prop}
    (h : P (s.portWrite a v x Place.isPlain)) : Leads (.registerWrite a v x) s P :=
  leads_next (t := s.portWrite a v x Place.isPlain) (by
    show execRegisterWrite a v x s = _
    unfold execRegisterWrite
    rw [hb]
    rfl) h

theorem Reaches.leads_registerWrite {a : Access} (r : Reaches s a) (hp : (s.place a.p a.off).isPlain = true) {v : Nat} {x : WriteAux}
    {P : State → Prop} (h : P (s.busWrite a.p a.off v a.be x)) : Leads (.registerWrite a v x) s P :=
  Machine.leads_registerWrite r.bar (by rwa [r.portWrite hp])

/-! ## A window under INVALID -/

/-- While what is selected is out of range, an offset of the window holds nothing for the port (R24). -/
theorem place_invalid {p : Port} {off : Nat} (hlo : 0x1000 ≤ off % 0x100000) (hhi : off % 0x100000 < 0x2000)
    (hr : s.inRange p (off / 0x100000) (s.selected p (off / 0x100000)) = false) :
    s.place p off = .empty ∨ s.place p off = .dark := by
  unfold State.place
  extract_lets blk o vf
  have ho : 0x1000 ≤ o ∧ o < 0x2000 := by omega
  rw [if_neg (show ¬o = 0x800 by omega), if_neg (show ¬o = 0x804 by omega), if_neg (show ¬o < 0x800 by omega),
    if_pos (show (decide (0x1000 ≤ o) && decide (o < 0x2000)) = true by simp [ho]), hr]
  split
  · exact .inl rfl
  · exact .inr rfl

/-- Settles O50: the place is one that holds nothing, for reads and for writes. -/
theorem invalidWindowReadsZero : Obligations.InvalidWindowReadsZero := by
  unfold Obligations.InvalidWindowReadsZero
  intro s a v x hw hb ha hi _ hlo hhi hr
  have r : Reaches s a := ⟨hw, hb, ha, hi⟩
  have hp := place_invalid hlo hhi hr
  constructor
  · refine (r.readsPlace (by rcases hp with hp | hp <;> simp [hp])).mono fun t ht => ?_
    have hz : s.placeValue a.p (s.place a.p a.off) = 0 := by rcases hp with hp | hp <;> rw [hp] <;> rfl
    rw [hz, byEnables_zero] at ht
    exact ⟨ht.1, ht.2.1⟩
  · refine r.leads_registerWrite (by rcases hp with hp | hp <;> rw [hp] <;> rfl) ?_
    by_cases hbe : a.be % 16 = 15
    · exact busWrite_nothing ha hbe hp
    · exact busWrite_partial ha hbe (by rcases hp with hp | hp <;> simp [hp])

end Sys2Proof.Machine
end

section
/-!
PROOFS. Writes of the fields of a register, and the settings of the rail loops (O43).
-/
namespace Sys2Proof.Machine

variable {s t : State}

/-! ## Which writes are commands of their own -/

section Trigger

variable {p : Port} {w : RegWord} {i v : Nat} {x : WriteAux}

/-- APT_CFG is written by the command of an aperture. -/
theorem trigger_aptCfg (hb : w.blk = 13) (ho : w.off = 0x1000) : (s.trigger p w i v x).isSome = true := by
  simp [State.trigger, hb, ho]

theorem trigger_reserve (hb : w.blk = 3) (ho : w.off = 0x1004) (hk : w.kind = .plain) : s.trigger p w i v x = none := by
  simp [State.trigger, hb, ho, hk]

theorem trigger_mailbox (hb : w.blk = 21) (ho : w.off = 0x400) (hk : w.kind = .plain) : s.trigger p w i v x = none := by
  simp [State.trigger, hb, ho, hk]

theorem trigger_loopSettings (hb : w.blk = 19) (hk : w.kind = .loop) (ho : w.off = 0x1004 ∨ w.off = 0x1040) :
    s.trigger p w i v x = none := by
  rcases ho with ho | ho <;> simp [State.trigger, hb, ho, hk]

end Trigger

/-! ## What a write leaves in the fields of its word -/

/-- After a write, each field of the word is as the write of that field alone leaves it; the port stages nothing, memory is as it was. -/
structure FieldsWritten (s t : State) (p : Port) (w : RegWord) (n i v : Nat) : Prop where
  flds : ∀ f ∈ w.flds, t.fld (f.at n) i = (s.writeField f n i v).fld (f.at n) i
  locks : ∀ f ∈ w.flds, inSet t.bt.rwl ((f.at n).key i) = inSet (s.writeField f n i v).bt.rwl ((f.at n).key i)
  stage : (t.bank p).stage = none
  mem : t.mem = s.mem

/-- Whether a register takes writes does not depend on the fabric's clock or on what a port has staged. -/
@[simp] theorem openFor_touch_dropStage (p : Port) (w : RegWord) (i : Nat) : (s.touch.dropStage p).openFor w i = s.openFor w i := by
  obtain ⟨b, h⟩ := touch_frame (s := s)
  rw [h]
  rfl

theorem sameRules_dropStage (p : Port) (i : Nat) : SameRules s (s.touch.dropStage p) i := .of_regs (by simp) (by simp)

/-- Events after a write that leave the fields of its word. -/
theorem FieldsWritten.events {u : State} {p : Port} {w : RegWord} {n i v : Nat} (h : FieldsWritten s t p w n i v) (k : EventOnly t u)
    (hf : ∀ f ∈ w.flds, u.fld (f.at n) i = t.fld (f.at n) i) : FieldsWritten s u p w n i v where
  flds f hm := (hf f hm).trans (h.flds f hm)
  locks f hm := k.bt ▸ h.locks f hm
  stage := by rw [State.bank, k.ports]; exact h.stage
  mem := k.mem.trans h.mem

section Word

variable {p : Port} {w : RegWord} {n i v : Nat} (hw : w ∈ regWords) (hn : n < w.cnt)
include hw hn

theorem fieldsWritten_writeFields (hcfg : w.blk ≠ 13 ∨ w.off ≠ 0x1000) :
    FieldsWritten s ((s.touch.dropStage p).writeFields w n i v) p w n i v := by
  have rules : SameRules s (s.touch.dropStage p) i := sameRules_dropStage p i
  have alone {f : Fld} := writeField_congr (f := f) (n := n) (v := v) rules (by simp) (by simp)
  obtain ⟨r, b, he⟩ := writeFields_frame (s := s.touch.dropStage p) w n i v
  refine ⟨fun f hf => ?_, fun f hf => ?_, ?_, by simp [he]⟩
  · exact (writeFields_field hw hn hf hcfg v).1.trans alone.1
  · exact (writeFields_field hw hn hf hcfg v).2.trans alone.2
  · rw [he]
    exact dropStage_stage p

/-- A field of a single word is an event's where the word is. -/
theorem eventReg_at_single (hc : w.cnt = 1) {f : Fld} (hf : f ∈ w.flds)
    (h : ({ f with blk := w.blk, off := w.off } : Fld).eventReg = false) : (f.at n).eventReg = false := by
  obtain ⟨hb, ho, -⟩ := fld_place hw hf
  obtain rfl : n = 0 := by omega
  simpa only [Fld.eventReg, Fld.at_zero, hb, ho] using h

omit hn in
/-- A rail loop's settings and coefficients have a rule of their own (R626). -/
theorem plainWrite_loop {off : Nat} (hk : w.kind = .loop) (ho : w.off = 0x1004 ∨ w.off = 0x1040) (hp : portWrites p w = true) :
    s.plainWrite p off w n i v = (s.dropStage p).loopSettings p off w n i v := by
  obtain ⟨h19, -, hset⟩ := regWords_loop w hw hk
  have hopen : (s.dropStage p).openFor w i = true := by simp [State.openFor, h19]
  simp [State.plainWrite, h19, hp, hopen, (hset ho).1, hk, ho]

/-- A register that is no command of its own, written by a port that may: its fields are written, and no more than events follow. -/
theorem fieldsWritten_plainWrite {off : Nat} (hcfg : w.blk ≠ 13 ∨ w.off ≠ 0x1000) (hp : portWrites p w = true)
    (ho : s.openFor w i = true) (hbuf : w.blk ≠ 21 ∨ w.off ≠ 0x400) (hloop : w.kind ≠ .loop ∨ w.off ≠ 0x1004 ∧ w.off ≠ 0x1040)
    (hres : w.blk ≠ 3 ∨ w.off ≠ 0x1004 ∨ s.reserved i + bits v 0 26 ≤ 33554432) :
    FieldsWritten s (s.touch.plainWrite p off w n i v) p w n i v := by
  have hall := fieldsWritten_writeFields (s := s) (p := p) (i := i) (v := v) hw hn hcfg
  have h1 : (w.blk = 21 && w.off = 0x400) = false := by
    rcases hbuf with h | h <;> simp [h]
  have h2 : (w.kind = .loop && (w.off = 0x1004 || w.off = 0x1040)) = false := by
    rcases hloop with h | h <;> simp [h]
  have h3 : (w.blk = 3 && w.off = 0x1004 && decide (33554432 < (s.touch.dropStage p).reserved i + bits v 0 26)) = false := by
    have e : (s.touch.dropStage p).reserved i = s.reserved i := by simp [State.reserved]
    rw [e]
    rcases hres with h | h | h
    · simp [h]
    · simp [h]
    · simp [Nat.not_lt.2 h]
  unfold State.plainWrite
  simp only [openFor_touch_dropStage, hp, ho, h1, h2, h3, Bool.not_true, Bool.and_false, Bool.or_false, Bool.false_eq_true, if_false]
  split
  · rename_i hany
    rwa [writeFields_unwritten hw (by simpa using hany)] at hall
  split
  · refine hall.events (eventOnly_driveAlert _) fun f _ => ?_
    unfold State.driveAlert
    split <;> rfl
  split
  · rename_i hany _ hcoal
    simp only [Bool.and_eq_true, decide_eq_true_eq] at hcoal
    obtain ⟨-, -, hsingle⟩ := regWords_written w hw (by simpa using hany)
    refine hall.events (eventOnly_sendDue _ _) fun f hf => ?_
    refine (eventOnly_sendDue _ _).flds _ i (at_fits hw hf hn) (eventReg_at_single hw hn ?_ hf (by simp [hcoal, Fld.eventReg]))
    exact hsingle (.inr hcoal.1)
  · exact hall

/-- The settings and coefficients of a rail loop in OFF or FAULT (R626). -/
theorem fieldsWritten_loopSettings {off : Nat} (hk : w.kind = .loop) (ho : w.off = 0x1004 ∨ w.off = 0x1040) (hp : portWrites p w = true)
    (hst : s.loopSt i = 0 ∨ s.loopSt i = 3) : FieldsWritten s (s.touch.plainWrite p off w n i v) p w n i v := by
  obtain ⟨h19, hcfg, -⟩ := regWords_loop w hw hk
  have hall := fieldsWritten_writeFields (s := s) (p := p) (i := i) (v := v) hw hn (by simp [h19])
  rw [plainWrite_loop hw hk ho hp]
  have hfree : ((s.touch.dropStage p).loopSt i == 0 || (s.touch.dropStage p).loopSt i == 3) = true := by
    have e : (s.touch.dropStage p).loopSt i = s.loopSt i := by simp [State.loopSt]
    rcases hst with h | h <;> simp [e, h]
  unfold State.loopSettings
  simp only [hfree, Bool.true_or, if_true]
  split
  · rename_i h4
    refine hall.events (eventOnly_vsetNow _ _) fun f hf => ?_
    exact (eventOnly_vsetNow _ _).flds _ i (at_fits hw hf hn) (eventReg_at_single hw hn (hcfg h4).1 hf (by simp [h19, h4, Fld.eventReg]))
  · exact hall

omit hn in
/-- A rail loop that runs refuses its coefficients: LAST is 1 and the write is counted (R626). -/
theorem plainWrite_loopBusy {off : Nat} (hk : w.kind = .loop) (ho : w.off = 0x1040) (hp : portWrites p w = true)
    (h0 : s.loopSt i ≠ 0) (h3 : s.loopSt i ≠ 3) :
    s.touch.plainWrite p off w n i v = ((s.touch.dropStage p).loopLast i 1).badAccess p off := by
  have e : (s.touch.dropStage p).loopSt i = s.loopSt i := by simp [State.loopSt]
  rw [plainWrite_loop hw hk (.inr ho) hp]
  simp [State.loopSettings, ho, e, h0, h3]

end Word

/-! ## PW_L_CFG while its loop runs (R626) -/

/-- The settings and coefficients of a rail loop are held by no rule. -/
theorem fieldHeld_loop {w : RegWord} (hw : w ∈ regWords) (hk : w.kind = .loop) (ho : w.off = 0x1004 ∨ w.off = 0x1040) {f : Fld}
    (hf : f ∈ w.flds) (i : Nat) : s.fieldHeld f i = false ∧ f.acc = .rw ∧ isOverride f = false := by
  obtain ⟨-, -, hset⟩ := regWords_loop w hw hk
  obtain ⟨-, hflds⟩ := hset ho
  obtain ⟨ha, hov, h1, h2, h3, h4⟩ := hflds f hf
  exact ⟨by simp [State.fieldHeld, h1, h2, h3, h4], ha, hov⟩

/-- A counted access latches its offset (R714). -/
theorem badAccess_addr (p : Port) (off : Nat) :
    (s.badAccess p off).fld F_TOP_BAD_ACCESS_ADDR_OFFSET = off % 2 ^ F_TOP_BAD_ACCESS_ADDR_OFFSET.wid := by
  rw [State.badAccess, State.fld_setFld, if_neg (by decide), State.fld_setFld, if_neg (by decide), State.fld_setFld, if_pos rfl]

/-- A counted access changes no field outside TOP. -/
theorem badAccess_fld_other (p : Port) (off : Nat) {g : Fld} (hg : g.Fits) (hb : g.blk ≠ 0) (i : Nat) :
    (s.badAccess p off).fld g i = s.fld g i := by
  have far (f : Fld) (hf : f.Fits) (h0 : f.blk = 0) : f.key 0 ≠ g.key i := fun hk => hb ((Fld.key_inj hf hg hk).2.1 ▸ h0)
  rw [State.badAccess, State.fld_setFld, if_neg (far _ (by decide) rfl), State.fld_setFld, if_neg (far _ (by decide) rfl),
    State.fld_setFld, if_neg (far _ (by decide) rfl), State.bump, State.fld_setFld, if_neg (far _ (by decide) rfl)]

/-- A refused setting of a loop reads as LAST 1. -/
theorem loopLast_refused (p : Port) (off i : Nat) : ((s.loopLast i 1).badAccess p off).fld F_PW_L_STATUS_LAST i = 1 := by
  rw [badAccess_fld_other p off (by decide) (by decide), State.loopLast, State.fld_setFld, if_pos rfl]
  rfl

/-- The word that a write of PW_L_CFG takes while the loop runs: it is the word written but for ORDER and MINPHASE, which stay; a write that
would change them is refused for that part. -/
theorem plainWrite_loopCfg {p : Port} {w : RegWord} {i v off : Nat} (hw : w ∈ regWords) (hk : w.kind = .loop) (ho : w.off = 0x1004)
    (hp : portWrites p w = true) (h0 : s.loopSt i ≠ 0) (h3 : s.loopSt i ≠ 3)
    (hord : s.fld F_PW_L_CFG_ORDER i < 2) (hmin : s.fld F_PW_L_CFG_MINPHASE i < 2) :
    ∃ k, FieldsWritten s (s.touch.plainWrite p off w 0 i v) p w 0 i k ∧
      (∀ f ∈ w.flds, f ≠ F_PW_L_CFG_ORDER → f ≠ F_PW_L_CFG_MINPHASE → bits k f.lo f.wid = bits v f.lo f.wid) ∧
      bits k 4 1 = s.fld F_PW_L_CFG_ORDER i ∧ bits k 5 1 = s.fld F_PW_L_CFG_MINPHASE i ∧
      (bits v 4 2 ≠ s.fld F_PW_L_CFG_ORDER i + 2 * s.fld F_PW_L_CFG_MINPHASE i →
        (s.touch.plainWrite p off w 0 i v).fld F_PW_L_STATUS_LAST i = 1 ∧
          (s.touch.plainWrite p off w 0 i v).fld F_TOP_BAD_ACCESS_ADDR_OFFSET = off % 2 ^ F_TOP_BAD_ACCESS_ADDR_OFFSET.wid) := by
  obtain ⟨h19, hcfg, -⟩ := regWords_loop w hw hk
  obtain ⟨hcnt, hflds⟩ := hcfg ho
  have hn : 0 < w.cnt := by omega
  have all (k : Nat) := fieldsWritten_writeFields (s := s) (p := p) (i := i) (v := k) hw hn (by simp [h19])
  have kept {z u : State} (h : EventOnly z u) (f : Fld) (hf : f ∈ w.flds) : u.fld (f.at 0) i = z.fld (f.at 0) i :=
    h.flds _ i (at_fits hw hf hn) (eventReg_at_single hw hn hcnt hf (by simp [h19, ho, Fld.eventReg]))
  have hbusy : (s.loopSt i == 0 || s.loopSt i == 3) = false := by simp [h0, h3]
  rw [plainWrite_loop hw hk (.inl ho) hp]
  unfold State.loopSettings
  simp only [ho, if_true, State.loopSt, dropStage_fld, touch_fld]
  simp only [State.loopSt] at hbusy
  rw [hbusy]
  generalize s.fld F_PW_L_CFG_ORDER i = o at *
  generalize s.fld F_PW_L_CFG_MINPHASE i = m at *
  have hkeep : bits (putBits v 4 2 (o + 2 * m)) 4 2 = o + 2 * m := by simp only [bits, putBits]; omega
  rw [hkeep]
  split
  · rename_i heq
    have heq : o + 2 * m = bits v 4 2 := by simpa using heq
    refine ⟨v, (all v).events (eventOnly_vsetNow _ _) (kept (eventOnly_vsetNow _ _)), fun _ _ _ _ => rfl, ?_, ?_,
      fun h => absurd heq.symm h⟩
    · simp only [bits] at heq ⊢; omega
    · simp only [bits] at heq ⊢; omega
  · have ev {z : State} {was : Bool} : EventOnly z (((z.vsetNow i was).loopLast i 1).badAccess p off) :=
      ((eventOnly_vsetNow _ _).trans (eventOnly_loopLast _ _)).trans (eventOnly_badAccess _ _)
    refine ⟨putBits v 4 2 (o + 2 * m), (all _).events ev (kept ev), ?_, ?_, ?_, fun _ => ⟨loopLast_refused p off i, badAccess_addr p off⟩⟩
    · rw [hflds]
      intro f hf hfo hfm
      fin_cases hf
      · simp only [F_PW_L_CFG_SRC, bits, putBits]; omega
      · simp only [F_PW_L_CFG_VSEL, bits, putBits]; omega
      · exact absurd rfl hfo
      · exact absurd rfl hfm
      · simp only [F_PW_L_CFG_THERM, bits, putBits]; omega
      · simp only [F_PW_L_CFG_NMIN, bits, putBits]; omega
    · simp only [bits, putBits]; omega
    · simp only [bits, putBits]; omega

/-- No field of the rail controller is held to another field of its word. -/
theorem newField_rail {f : Fld} (hb : f.blk = 19) (i v : Nat) : s.newField f i v = s.inField f i v := by
  have ne (g : Fld) (hg : g.blk ≠ 19) : f ≠ g := fun e => hg (e ▸ hb)
  simp only [State.newField, if_neg (ne F_MC_WQ_CFG_LOW (by decide)), if_neg (ne F_HB_WQ_CFG_LOW (by decide)),
    if_neg (ne F_MC_MAINT_CFG_CEIL (by decide)), if_neg (ne F_HB_MAINT_CFG_CEIL (by decide)),
    if_neg (ne F_MC_MAINT_CFG_MIGR_FLOOR (by decide))]

/-- A field that no range is given for takes its bits as they are. -/
theorem inField_unranged {f : Fld} (h : f ∉ (fieldRanges {} 0 0).map Prod.fst) (i v : Nat) : s.inField f i v = bits v f.lo f.wid := by
  have hn : (fieldRanges s i (bits v f.lo f.wid)).find? (fun p => p.1 == f) = none := by
    rw [List.find?_eq_none]
    intro q hq hc
    have names : (fieldRanges s i (bits v f.lo f.wid)).map Prod.fst = (fieldRanges {} 0 0).map Prod.fst := rfl
    have hmem := List.mem_map_of_mem (f := Prod.fst) hq
    rw [names, beq_iff_eq.1 hc] at hmem
    exact h hmem
  simp only [State.inField, hn]
  rfl

/-- PW_L_CFG written while its loop runs: ORDER and MINPHASE stay, the other fields take what the word spells (R626). -/
theorem plainWrite_loopCfg_fields {p : Port} {w : RegWord} {n i v off : Nat} (hw : w ∈ regWords) (hn : n < w.cnt) (hk : w.kind = .loop)
    (ho : w.off = 0x1004) (hp : portWrites p w = true) (h0 : s.loopSt i ≠ 0) (h3 : s.loopSt i ≠ 3)
    (hord : s.fld F_PW_L_CFG_ORDER i < 2) (hmin : s.fld F_PW_L_CFG_MINPHASE i < 2) {f : Fld} (hf : f ∈ w.flds)
    (ht : t = s.touch.plainWrite p off w n i v) :
    (f ≠ F_PW_L_CFG_ORDER → f ≠ F_PW_L_CFG_MINPHASE → t.fld f i = s.newField f i v % 2 ^ f.wid) ∧
      t.fld F_PW_L_CFG_ORDER i = s.fld F_PW_L_CFG_ORDER i ∧ t.fld F_PW_L_CFG_MINPHASE i = s.fld F_PW_L_CFG_MINPHASE i ∧
      (bits v 4 2 ≠ s.fld F_PW_L_CFG_ORDER i + 2 * s.fld F_PW_L_CFG_MINPHASE i → t.fld F_PW_L_STATUS_LAST i = 1 ∧
        t.fld F_TOP_BAD_ACCESS_ADDR_OFFSET = off % 2 ^ F_TOP_BAD_ACCESS_ADDR_OFFSET.wid) ∧ (t.bank p).stage = none ∧ t.mem = s.mem := by
  obtain ⟨h19, hcfg, -⟩ := regWords_loop w hw hk
  obtain ⟨hcnt, hflds⟩ := hcfg ho
  obtain rfl : n = 0 := by omega
  obtain ⟨k, hwr, hbits, hko, hkm, hrefused⟩ := plainWrite_loopCfg (off := off) hw hk ho hp h0 h3 hord hmin
  have rail {g : Fld} (hg : g ∈ w.flds) : g.blk = 19 := by
    obtain ⟨hb, -⟩ := fld_place hw hg
    exact hb.trans h19
  have value {g : Fld} (hg : g ∈ w.flds) : t.fld g i = s.inField g i k % 2 ^ g.wid := by
    obtain ⟨hheld, ha, hov⟩ := fieldHeld_loop (s := s) hw hk (.inl ho) hg i
    rw [← newField_rail (rail hg), ht]
    exact (hwr.flds g hg).trans (writeField_rw hheld ha hov)
  refine ⟨fun hfo hfm => ?_, ?_, ?_, ht ▸ hrefused, ht ▸ hwr.stage, ht ▸ hwr.mem⟩
  · rw [value hf, newField_rail (rail hf), State.inField, State.inField, hbits f hf hfo hfm]
  · rw [value (by simp [hflds]), inField_unranged (by decide)]
    exact (Nat.mod_eq_of_lt (by show bits k 4 1 < 2; omega)).trans hko
  · rw [value (by simp [hflds]), inField_unranged (by decide)]
    exact (Nat.mod_eq_of_lt (by show bits k 5 1 < 2; omega)).trans hkm

end Sys2Proof.Machine
end

section
/-!
PROOFS. Writes of registers (O43): refused writes, the mailbox, vector tables, 64-bit registers, doorbell pages.
-/
namespace Sys2Proof.Machine

variable {s t : State}

/-! ## Writes that are counted or ignored -/

section Refused

variable {p : Port} {off : Nat} {w : RegWord} {n i v : Nat}

/-- Another port's write into the interrupt block is counted, also of a read-only register (R514). -/
theorem plainWrite_interrupt (hb : w.blk = 15) (hp : portWrites p w = false) :
    s.plainWrite p off w n i v = (s.dropStage p).badAccess p off := by
  simp [State.plainWrite, hb, hp]

/-- A read-only register ignores a write (R11). -/
theorem plainWrite_readOnly (hw : w.flds.any Fld.written = false) (h : w.blk ≠ 15 ∨ portWrites p w = true) :
    s.plainWrite p off w n i v = s.dropStage p := by
  rcases h with h | h <;> simp [State.plainWrite, h, hw]

/-- A port that may not write, or a state that takes no write, counts (R752). -/
theorem plainWrite_refused (hw : w.flds.any Fld.written = true) (h : portWrites p w = false ∨ s.openFor w i = false) :
    s.touch.plainWrite p off w n i v = (s.touch.dropStage p).badAccess p off := by
  rcases h with h | h
  · simp [State.plainWrite, h, hw]
  · simp [State.plainWrite, h, hw]

/-- A RESERVE that takes the sum beyond 33,554,432 is counted (R189). -/
theorem plainWrite_reserve (hm : w ∈ regWords) (hb : w.blk = 3) (ho : w.off = 0x1004) (hp : portWrites p w = true)
    (h : 33554432 < s.reserved i + bits v 0 26) : s.touch.plainWrite p off w n i v = (s.touch.dropStage p).badAccess p off := by
  obtain ⟨hw, hk⟩ := regWords_reserve w hm (.inl ⟨hb, ho⟩)
  have e : (s.touch.dropStage p).reserved i = s.reserved i := by simp [State.reserved]
  simp [State.plainWrite, State.openFor, hb, ho, hp, hw, hk, e, h]

/-- A mailbox buffer takes the word into its own bytes. -/
theorem plainWrite_mailbox (hm : w ∈ regWords) (hb : w.blk = 21) (ho : w.off = 0x400) (hp : portWrites p w = true) :
    s.plainWrite p off w n i v = (s.dropStage p).setMbx p
      { (s.dropStage p).mbx p with buf := splice ((s.dropStage p).mbx p).buf (4 * n) (leBytes 4 v) } := by
  obtain ⟨hw, -⟩ := regWords_reserve w hm (.inr ⟨hb, ho⟩)
  simp [State.plainWrite, State.openFor, hb, ho, hp, hw]

end Refused

theorem mbx_setMbx (p : Port) (m : Mailbox) : (s.setMbx p m).mbx p = m := by
  simp [State.mbx, State.setMbx, State.onSe]

theorem mbx_touch_dropStage (p q : Port) : (s.touch.dropStage p).mbx q = s.mbx q := by
  obtain ⟨b, h⟩ := touch_frame (s := s)
  rw [h]
  rfl

/-! ## Vector tables -/

/-- An MSI-X table entry with one of its words written (R456). -/
def MsixEntry.write (e : MsixEntry) (k v : Nat) : MsixEntry :=
  if k = 0 then { e with addr := putBits e.addr 0 32 v } else if k = 1 then { e with addr := putBits e.addr 32 32 v }
    else if k = 2 then { e with data := v % 2 ^ 32 } else { e with masked := bit v 0 }

theorem vecWrite_eq (f n k v : Nat) : s.vecWrite f n k v =
    (execVectorUnmask f n { s with ir := { s.ir with table := kvPut {} s.ir.table (vecKey f n) ((s.msix f n).write k v) } }).after
      { s with ir := { s.ir with table := kvPut {} s.ir.table (vecKey f n) ((s.msix f n).write k v) } } := rfl

/-- A table write changes its own word, of the control word the mask alone. -/
theorem word_write (e : MsixEntry) {j k : Nat} (v : Nat) (hj : j < 4) (hk : k < 4) :
    (e.write k (v % 2 ^ 32)).word j = if j = k then (if k = 3 then v % 2 else v % 2 ^ 32) else e.word j := by
  have addrLo : putBits e.addr 0 32 (v % 2 ^ 32) % 2 ^ 32 = v % 2 ^ 32 ∧
      putBits e.addr 0 32 (v % 2 ^ 32) / 2 ^ 32 % 2 ^ 32 = e.addr / 2 ^ 32 % 2 ^ 32 := by
    simp only [putBits]; omega
  have addrHi : putBits e.addr 32 32 (v % 2 ^ 32) % 2 ^ 32 = e.addr % 2 ^ 32 ∧
      putBits e.addr 32 32 (v % 2 ^ 32) / 2 ^ 32 % 2 ^ 32 = v % 2 ^ 32 := by
    simp only [putBits]; omega
  have mask : b2n (bit (v % 2 ^ 32) 0) = v % 2 := by
    have : v % 2 ^ 32 / 2 ^ 0 % 2 = v % 2 := by omega
    simp only [bit, this, b2n, beq_iff_eq]
    split <;> omega
  simp only [Nat.reducePow] at addrLo addrHi mask ⊢
  have which : k = 0 ∨ k = 1 ∨ k = 2 ∨ k = 3 := by omega
  rcases which with rfl | rfl | rfl | rfl
  · interval_cases j <;> simp [MsixEntry.write, MsixEntry.word, addrLo]
  · interval_cases j <;> simp [MsixEntry.write, MsixEntry.word, addrHi]
  · interval_cases j <;> simp [MsixEntry.write, MsixEntry.word]
  · interval_cases j <;> simp [MsixEntry.write, MsixEntry.word, mask]

/-- A vector's table entry after a write of one of its words; what the vector then sends leaves the table, the banks and memory. -/
theorem vecWrite_word (f n : Nat) {k : Nat} (v : Nat) (hk : k < 4) :
    (∀ j, j < 4 → ((s.vecWrite f n k (v % 2 ^ 32)).msix f n).word j =
      if j = k then (if k = 3 then v % 2 else v % 2 ^ 32) else (s.msix f n).word j) ∧
    (s.vecWrite f n k (v % 2 ^ 32)).ports = s.ports ∧ (s.vecWrite f n k (v % 2 ^ 32)).mem = s.mem := by
  have h := eventOnly_vectorUnmask
    (s := { s with ir := { s.ir with table := kvPut {} s.ir.table (vecKey f n) ((s.msix f n).write k (v % 2 ^ 32)) } }) f n
  rw [← vecWrite_eq] at h
  have e : (s.vecWrite f n k (v % 2 ^ 32)).msix f n = (s.msix f n).write k (v % 2 ^ 32) := by
    rw [State.msix, h.table]
    simp
  exact ⟨fun j hj => e ▸ word_write _ v hj hk, h.ports, h.mem⟩

/-! ## 64-bit registers -/

theorem wideOpen_touch_dropStage (p : Port) (w : RegWord) (i : Nat) : (s.touch.dropStage p).wideOpen p w i = s.wideOpen p w i := by
  simp [State.wideOpen]

section Wide

variable {p : Port} {off : Nat} {w : RegWord} {i v : Nat}

/-- A low word is staged (R16). -/
theorem lowWrite_staged (h : s.wideOpen p w i = true) : s.touch.lowWrite p off w i v =
    (s.touch.dropStage p).setBank p
      { (s.touch.dropStage p).bank p with stage := some { blk := w.blk, off := w.off, inst := i, word := v } } := by
  have hany : w.flds.any Fld.written = true := by
    simp only [State.wideOpen, Bool.and_eq_true] at h
    exact h.1.2
  simp only [State.lowWrite, hany, wideOpen_touch_dropStage, h]
  rfl

theorem lowWrite_refused (hw : w.flds.any Fld.written = true) (h : s.wideOpen p w i = false) :
    s.touch.lowWrite p off w i v = (s.touch.dropStage p).badAccess p off := by
  simp only [State.lowWrite, hw, wideOpen_touch_dropStage, h]
  rfl

theorem lowWrite_readOnly (hw : w.flds.any Fld.written = false) : s.touch.lowWrite p off w i v = s.touch.dropStage p := by
  simp only [State.lowWrite, hw]
  rfl

/-- A high word without its low word, or of a register that may not be written, is counted (R18). -/
theorem highWrite_refused (h : heldWord (s.bank p).stage w i = none ∨ s.wideOpen p w i = false) :
    s.touch.highWrite p off w i v = (s.touch.dropStage p).badAccess p off := by
  simp only [State.highWrite, touch_bank, wideOpen_touch_dropStage]
  rcases h with h | h
  · simp [h]
  · simp only [h]
    split <;> rfl

theorem highWrite_both {k : Nat} {z : RegWord} (hk : heldWord (s.bank p).stage w i = some k)
    (hz : wordAt w.blk (w.off - 4) w.kind = some z) (h : s.wideOpen p w i = true) : s.touch.highWrite p off w i v =
      ((s.touch.dropStage p).writeFields z 0 i k).writeFields w 0 i v := by
  simp [State.highWrite, wideOpen_touch_dropStage, hk, hz, h]

end Wide

/-- The high word of a writable 64-bit register: both words' RW fields take what the staged low word and the high word spell. -/
theorem highWrite_fields {p : Port} {off i v k : Nat} {w z : RegWord} (hw : w ∈ regWords) (hn : 0 < w.cnt) (hh : w.isHigh = true)
    (hk : heldWord (s.bank p).stage w i = some k) (hz : wordAt w.blk (w.off - 4) w.kind = some z) (ho : s.wideOpen p w i = true) :
    (∀ f ∈ z.flds, f.acc = .rw → (s.touch.highWrite p off w i v).fld f i = s.newField f i k % 2 ^ f.wid) ∧
      (∀ g ∈ w.flds, g.acc = .rw → (s.touch.highWrite p off w i v).fld g i = s.newField g i v % 2 ^ g.wid) ∧
      ((s.touch.highWrite p off w i v).bank p).stage = none ∧ (s.touch.highWrite p off w i v).mem = s.mem := by
  have hany : w.flds.any Fld.written = true := by
    simp only [State.wideOpen, Bool.and_eq_true] at ho
    exact ho.1.2
  obtain ⟨h4, hblk⟩ := regWords_wide w hw hh hany
  obtain ⟨hzm, hzb, -, hzle, hzlt⟩ := wordAt_some hz
  have hzn : 0 < z.cnt := by omega
  have hwcfg : w.blk ≠ 13 ∨ w.off ≠ 0x1000 := by omega
  have hzcfg : z.blk ≠ 13 ∨ z.off ≠ 0x1000 := by omega
  have free {y : State} {f : Fld} (hf : f.blk = 1 ∨ f.blk = 10) : y.fieldHeld f i = false ∧ isOverride f = false :=
    ⟨fieldHeld_elsewhere (by omega) (by omega) (by omega) i, by
      simp only [isOverride, Bool.or_eq_false_iff, Bool.and_eq_false_iff, beq_eq_false_iff_ne]
      omega⟩
  have low := fieldsWritten_writeFields (s := s) (p := p) (i := i) (v := k) hzm hzn hzcfg
  have rules : SameRules s ((s.touch.dropStage p).writeFields z 0 i k) i :=
    (sameRules_dropStage p i).trans (writeFields_rules hzm hzn hzcfg k)
  obtain ⟨r, b, hframe⟩ := writeFields_frame (s := (s.touch.dropStage p).writeFields z 0 i k) w 0 i v
  rw [highWrite_both hk hz ho]
  refine ⟨fun f hf ha => ?_, fun g hg ha => ?_, by rw [hframe]; exact low.stage, by rw [hframe]; exact low.mem⟩
  · obtain ⟨hb, hoff, -⟩ := fld_place hzm hf
    obtain ⟨hheld, hov⟩ := free (y := s) (f := f) (by omega)
    have hfits : f.Fits := at_fits (n := 0) hzm hf hzn
    rw [writeFields_fld_other hw hn hfits (fun _ => by omega)]
    exact (low.flds f hf).trans (writeField_rw hheld ha hov)
  · obtain ⟨hb, -, -⟩ := fld_place hw hg
    obtain ⟨hheld, hov⟩ := free (y := (s.touch.dropStage p).writeFields z 0 i k) (f := g) (by omega)
    rw [← rules.newField]
    exact (writeFields_field hw hn hg hwcfg v).1.trans (writeField_rw hheld ha hov)

/-! ## Doorbell pages -/

section Page

variable {a : Access} {v k : Nat}

theorem pageStores_none (h : portFn a.p = none) : s.pageStores a v = s := by
  simp only [State.pageStores, Access.upper, h]
  split <;> rfl

theorem pageStores_narrow (hw : a.wide = false ∨ s.ideStops a = true) (h : portFn a.p = some k) :
    s.pageStores a v = s.pageStore k (a.off / 4096) (a.off % 4096 / 4 * 4) v a.be a.secure := by
  have hn : (a.wide && !s.ideStops a) = false := by rcases hw with hw | hw <;> simp [hw]
  simp [State.pageStores, hn, h]

theorem pageStores_wide (hw : a.wide = true) (hi : s.ideStops a = false) (h : portFn a.p = some k) : s.pageStores a v =
    (s.pageStore k (a.off / 4096) (a.off % 4096 / 4 * 4) (v % 2 ^ 32) a.be a.secure).pageStore k ((a.off + 4) / 4096)
      ((a.off + 4) % 4096 / 4 * 4) (v / 2 ^ 32) (a.be / 16) a.secure := by
  simp [State.pageStores, Access.upper, hw, hi, h]

end Page

/-! ## The commands -/

theorem leads_pageStores {a : Access} {v : Nat} {x : WriteAux} (hb : a.bar2 = true) {P : State → Prop} (h : P (s.pageStores a v)) :
    Leads (.registerWrite a v x) s P :=
  leads_next (t := s.pageStores a v) (by
    show execRegisterWrite a v x s = _
    unfold execRegisterWrite
    rw [hb]
    rfl) h

section Reaches

variable {a : Access} {v : Nat} (r : Reaches s a) {P : State → Prop}
include r

theorem leads_lowWordWrite (hp : (s.place a.p a.off).isLow = true) (h : P (s.busWrite a.p a.off v a.be {})) :
    Leads (.lowWordWrite a v) s P :=
  ⟨_, rfl, by rwa [r.portWrite hp]⟩

theorem leads_highWordWrite (hp : (s.place a.p a.off).isHigh = true) (h : P (s.busWrite a.p a.off v a.be {})) :
    Leads (.highWordWrite a v) s P :=
  ⟨_, rfl, by rwa [r.portWrite hp]⟩

theorem leads_selWrite (hp : (s.place a.p a.off).isSel = true) (h : P (s.busWrite a.p a.off v a.be {})) :
    Leads (.selWrite a v) s P :=
  ⟨_, rfl, by rwa [r.portWrite hp]⟩

end Reaches

/-! ## Whole-word writes of a register that is no part of a 64-bit one -/

/-- A whole-word write that reaches word `n` of a register of 32 bits. -/
structure WordWrite (s : State) (a : Access) (w : RegWord) (n i : Nat) : Prop extends Reaches s a where
  full : a.be % 16 = 15
  found : s.place a.p a.off = .word w n i
  notLow : w.isLow = false
  notHigh : w.isHigh = false

namespace WordWrite

variable {a : Access} {w : RegWord} {n i v : Nat} {x : WriteAux} (h : WordWrite s a w n i) {P : State → Prop}
include h

theorem isPlain : (s.place a.p a.off).isPlain = true := by
  simp [Place.isPlain, Place.isLow, Place.isHigh, Place.isSel, h.found, h.notLow, h.notHigh]

/-- A write that is no command of its own is the write of the register. -/
theorem leads (ht : (s.touch.trigger a.p w i (v % 2 ^ 32) x).isNone = true) (hP : P (s.touch.plainWrite a.p a.off w n i (v % 2 ^ 32))) :
    Leads (.registerWrite a v x) s P :=
  h.toReaches.leads_registerWrite h.isPlain (by rwa [busWrite_plain h.answered h.full h.found h.notLow h.notHigh ht])

/-- A write that is a command of its own is that command. -/
theorem leads_trigger (ht : (s.touch.trigger a.p w i (v % 2 ^ 32) x).isSome = true) :
    Leads (.registerWrite a v x) s fun t => (s.touch.trigger a.p w i (v % 2 ^ 32) x).map (fun z => z.after s.touch) = some t := by
  obtain ⟨r, hr⟩ := Option.isSome_iff_exists.1 ht
  refine h.toReaches.leads_registerWrite h.isPlain ?_
  rw [busWrite_trigger h.answered h.full h.found h.notLow h.notHigh hr, hr]
  rfl

/-- A write by a port that may, in a state that takes it, writes each field of the word. -/
theorem leads_fields (hp : portWrites a.p w = true) (ho : s.openFor w i = true) (hbuf : w.blk ≠ 21 ∨ w.off ≠ 0x400)
    (hloop : w.kind ≠ .loop ∨ (w.off ≠ 0x1004 ∧ w.off ≠ 0x1040))
    (hres : w.blk ≠ 3 ∨ w.off ≠ 0x1004 ∨ s.reserved i + bits v 0 26 ≤ 33554432)
    (ht : (s.touch.trigger a.p w i (v % 2 ^ 32) x).isNone = true) (hP : ∀ t, FieldsWritten s t a.p w n i (v % 2 ^ 32) → P t) :
    Leads (.registerWrite a v x) s P := by
  obtain ⟨hw, hn⟩ := place_word h.found
  have hcfg : w.blk ≠ 13 ∨ w.off ≠ 0x1000 := by
    by_contra hc
    obtain ⟨hb, hoff⟩ : w.blk = 13 ∧ w.off = 0x1000 := by omega
    have hs := trigger_aptCfg (s := s.touch) (p := a.p) (i := i) (v := v % 2 ^ 32) (x := x) hb hoff
    rw [Option.isNone_iff_eq_none.1 ht] at hs
    cases hs
  have hbits : bits (v % 2 ^ 32) 0 26 = bits v 0 26 := by simp only [bits]; omega
  exact h.leads ht (hP _ (fieldsWritten_plainWrite hw hn hcfg hp ho hbuf hloop (by rwa [hbits])))

/-- Rail loop settings are no command of their own. -/
theorem trigger_loop (hk : w.kind = .loop) (ho : w.off = 0x1004 ∨ w.off = 0x1040) :
    (s.touch.trigger a.p w i (v % 2 ^ 32) x).isNone = true := by
  rw [trigger_loopSettings (regWords_loop w (place_word h.found).1 hk).1 hk ho]
  rfl

end WordWrite

/-- A select write selects in its own block alone (R20). -/
theorem selected_setSel (p : Port) (b k v : Nat) :
    ((s.dropStage p).setBank p { (s.dropStage p).bank p with sel := kvPut 0 (s.bank p).sel b v }).selected p k =
      if b = k then v else s.selected p k := by
  rw [State.selected, bank_setBank, if_pos rfl]
  exact kvGet_kvPut ..

end Sys2Proof.Machine
end

section
/-!
PROOFS. Writes of registers take effect (O43).
-/
namespace Sys2Proof.Machine

/-- Settles O43, clause by clause over what a place holds and what its register takes. -/
theorem registerWritesTakeEffect : Obligations.RegisterWritesTakeEffect := by
  unfold Obligations.RegisterWritesTakeEffect
  refine ⟨?rw, ?held, ?rwl, ?rwlLocked, ?w1c, ?readOnlyField, ?trigger, ?refused, ?readOnly, ?interrupt, ?reserve, ?mailbox, ?loopFree,
    ?loopBusy, ?loopCfg, ?vec, ?nothing, ?ignored, ?noVector, ?pba, ?partialWord, ?ide, ?unanswered, ?elsewhere, ?wide,
    ?lowPartial, ?lowIde, ?lowUnanswered, ?lowElsewhere, ?lowWide, ?lowPage,
    ?highPartial, ?highIde, ?highUnanswered, ?highElsewhere, ?highWide, ?highPage,
    ?selPartial, ?selIde, ?selUnanswered, ?selElsewhere, ?selWide, ?selPage, ?pageNone, ?pageNarrow, ?pageWide,
    ?lowStaged, ?lowRefused, ?lowReadOnly, ?highBoth, ?highRefused, ?sel, ?regWrite, ?regWriteOther, ?regWriteBad, ?regWriteDown⟩
  case rw =>
    intro s a v x w n i f hw hb ha hi hbe hpl hl hh hp ho hbuf hloop hres ht hf hheld hacc hov
    have h : WordWrite s a w n i := ⟨⟨hw, hb, ha, hi⟩, hbe, hpl, hl, hh⟩
    exact h.leads_fields hp ho hbuf hloop hres ht fun t d => ⟨(d.flds f hf).trans (writeField_rw hheld hacc hov), d.stage, d.mem⟩
  case held =>
    intro s a v x w n i f hw hb ha hi hbe hpl hl hh hp ho hbuf hloop hres ht hf hheld
    have h : WordWrite s a w n i := ⟨⟨hw, hb, ha, hi⟩, hbe, hpl, hl, hh⟩
    refine h.leads_fields hp ho hbuf hloop hres ht fun t d => ⟨?_, d.stage, d.mem⟩
    rw [d.flds f hf, writeField_held hheld]
  case rwl =>
    intro s a v x w n i f hw hb ha hi hbe hpl hl hh hp ho hbuf hloop hres ht hf hheld hacc hlock htrain
    have h : WordWrite s a w n i := ⟨⟨hw, hb, ha, hi⟩, hbe, hpl, hl, hh⟩
    obtain ⟨hval, hlocked⟩ := writeField_open (v := v % 2 ^ 32) hheld hacc hlock htrain
    exact h.leads_fields hp ho hbuf hloop hres ht fun t d =>
      ⟨(d.flds f hf).trans hval, (d.locks f hf).trans hlocked, d.stage, d.mem⟩
  case rwlLocked =>
    intro s a v x w n i f hw hb ha hi hbe hpl hl hh hp ho hbuf hloop hres ht hf hacc hlock
    have h : WordWrite s a w n i := ⟨⟨hw, hb, ha, hi⟩, hbe, hpl, hl, hh⟩
    refine h.leads_fields hp ho hbuf hloop hres ht fun t d => ⟨?_, d.stage, d.mem⟩
    rw [d.flds f hf, writeField_locked hacc hlock]
  case w1c =>
    intro s a v x w n i f hw hb ha hi hbe hpl hl hh hp ho hbuf hloop hres ht hf hheld hacc
    have h : WordWrite s a w n i := ⟨⟨hw, hb, ha, hi⟩, hbe, hpl, hl, hh⟩
    have hov : isOverride f = false := by
      by_contra hc
      have := regWords_override w (place_word hpl).1 f hf (by simpa using hc)
      simp [hacc] at this
    exact h.leads_fields hp ho hbuf hloop hres ht fun t d => ⟨(d.flds f hf).trans (writeField_w1c hheld hacc hov), d.stage, d.mem⟩
  case readOnlyField =>
    intro s a v x w n i f hw hb ha hi hbe hpl hl hh hp ho hbuf hloop hres ht hf hacc hov
    have h : WordWrite s a w n i := ⟨⟨hw, hb, ha, hi⟩, hbe, hpl, hl, hh⟩
    refine h.leads_fields hp ho hbuf hloop hres ht fun t d => ⟨?_, d.stage, d.mem⟩
    rw [d.flds f hf, writeField_readOnly hacc hov]
  case trigger =>
    intro s a v x w n i hw hb ha hi hbe hpl hl hh ht
    exact WordWrite.leads_trigger ⟨⟨hw, hb, ha, hi⟩, hbe, hpl, hl, hh⟩ ht
  case refused =>
    intro s a v x w n i hw hb ha hi hbe hpl hl hh ht hany h
    exact WordWrite.leads ⟨⟨hw, hb, ha, hi⟩, hbe, hpl, hl, hh⟩ ht (plainWrite_refused hany h)
  case readOnly =>
    intro s a v x w n i hw hb ha hi hbe hpl hl hh ht hany h
    exact WordWrite.leads ⟨⟨hw, hb, ha, hi⟩, hbe, hpl, hl, hh⟩ ht (plainWrite_readOnly hany h)
  case interrupt =>
    intro s a v x w n i hw hb ha hi hbe hpl hl hh ht h15 hp
    exact WordWrite.leads ⟨⟨hw, hb, ha, hi⟩, hbe, hpl, hl, hh⟩ ht (plainWrite_interrupt h15 hp)
  case reserve =>
    intro s a v x w n i hw hb ha hi hbe hpl hl hh h3 ho hp hsum
    have hm := (place_word hpl).1
    have hsum' : 33554432 < s.reserved i + bits (v % 2 ^ 32) 0 26 := by simp only [bits] at hsum ⊢; omega
    have ht : s.touch.trigger a.p w i (v % 2 ^ 32) x = none := trigger_reserve h3 ho (regWords_reserve w hm (.inl ⟨h3, ho⟩)).2
    exact WordWrite.leads ⟨⟨hw, hb, ha, hi⟩, hbe, hpl, hl, hh⟩ (by rw [ht]; rfl) (plainWrite_reserve hm h3 ho hp hsum')
  case mailbox =>
    intro s a v x w n i hw hb ha hi hbe hpl hl hh h21 ho hp
    have hm := (place_word hpl).1
    have ht : s.touch.trigger a.p w i (v % 2 ^ 32) x = none := trigger_mailbox h21 ho (regWords_reserve w hm (.inr ⟨h21, ho⟩)).2
    refine WordWrite.leads ⟨⟨hw, hb, ha, hi⟩, hbe, hpl, hl, hh⟩ (by rw [ht]; rfl) ?_
    rw [plainWrite_mailbox hm h21 ho hp, mbx_setMbx, mbx_touch_dropStage]
    exact ⟨rfl, touch_regs, dropStage_stage a.p, touch_mem⟩
  case loopFree =>
    intro s a v x w n i f hw hb ha hi hbe hpl hl hh hp hk ho hst hf
    have h : WordWrite s a w n i := ⟨⟨hw, hb, ha, hi⟩, hbe, hpl, hl, hh⟩
    obtain ⟨hm, hn⟩ := place_word hpl
    obtain ⟨hheld, hacc, hov⟩ := fieldHeld_loop (s := s) hm hk ho hf i
    have d := fieldsWritten_loopSettings (off := a.off) (v := v % 2 ^ 32) hm hn hk ho hp hst
    exact h.leads (h.trigger_loop hk ho) ⟨(d.flds f hf).trans (writeField_rw hheld hacc hov), d.stage, d.mem⟩
  case loopBusy =>
    intro s a v x w n i hw hb ha hi hbe hpl hl hh hp hk ho h0 h3
    have h : WordWrite s a w n i := ⟨⟨hw, hb, ha, hi⟩, hbe, hpl, hl, hh⟩
    exact h.leads (h.trigger_loop hk (.inr ho)) (plainWrite_loopBusy (place_word hpl).1 hk ho hp h0 h3)
  case loopCfg =>
    intro s a v x w n i f hw hb ha hi hbe hpl hl hh hp hk ho h0 h3 hord hmin hf
    have h : WordWrite s a w n i := ⟨⟨hw, hb, ha, hi⟩, hbe, hpl, hl, hh⟩
    obtain ⟨hm, hn⟩ := place_word hpl
    have hbits : bits v 4 2 = bits (v % 2 ^ 32) 4 2 := by simp only [bits]; omega
    rw [hbits]
    exact h.leads (h.trigger_loop hk (.inl ho)) (plainWrite_loopCfg_fields hm hn hk ho hp h0 h3 hord hmin hf rfl)
  case vec =>
    intro s a v x f n k hw hb ha hi hbe hpl hk
    refine (Reaches.mk hw hb ha hi).leads_registerWrite (by rw [hpl]; rfl) ?_
    rw [busWrite_vec ha hbe hpl]
    obtain ⟨hword, hports, hmem⟩ := vecWrite_word (s := s.touch.dropStage a.p) f n v hk
    have e : (s.touch.dropStage a.p).msix f n = s.msix f n := by
      obtain ⟨b, h⟩ := touch_frame (s := s)
      rw [h]
      rfl
    rw [e] at hword
    refine ⟨by rw [hword k hk, if_pos rfl], fun j hj hne => by rw [hword j hj, if_neg hne], ?_, hmem.trans touch_mem⟩
    rw [State.bank, hports]
    exact dropStage_stage a.p
  case nothing =>
    intro s a v x hw hb ha hi hbe hp
    exact (Reaches.mk hw hb ha hi).leads_registerWrite (by rcases hp with hp | hp <;> rw [hp] <;> rfl) (busWrite_nothing ha hbe hp)
  case ignored =>
    intro s a v x hw hb ha hi hbe hp
    have hplain : (s.place a.p a.off).isPlain = true := by
      cases hc : s.place a.p a.off with
      | word w n i => simp [hc] at hp
      | sel b => simp [hc] at hp
      | _ => rfl
    exact (Reaches.mk hw hb ha hi).leads_registerWrite hplain (busWrite_ignored ha hbe hp)
  case noVector =>
    intro s a v x hw hb ha hi hbe hp h
    exact (Reaches.mk hw hb ha hi).leads_registerWrite (by rw [hp]; rfl) (busWrite_noVector_counted ha hbe hp h)
  case pba =>
    intro s a v x f k hw hb ha hi hp
    exact (Reaches.mk hw hb ha hi).leads_registerWrite (by rw [hp]; rfl) (busWrite_pba ha hp)
  case partialWord =>
    intro s a v x hw hb ha hi hbe hm hp
    exact (Reaches.mk hw hb ha hi).leads_registerWrite hm (busWrite_partial ha hbe fun f k hc => by simp [hc] at hp)
  case ide => exact fun s a v x hb ha hi hm => leads_registerWrite hb (portWrite_refused hb ha hi hm)
  case unanswered => exact fun s a v x hw hb ha hm => leads_registerWrite hb (portWrite_unanswered hw hb ha hm)
  case elsewhere => exact fun s a v x hb hm => leads_registerWrite hb (portWrite_elsewhere (.inr hm))
  case wide => exact fun s a v x hb hw h hm => leads_registerWrite hb (portWrite_wide hb hw h hm)
  case lowPartial =>
    exact fun s a v hw hb ha hi hbe hm => ⟨_, rfl, (Reaches.mk hw hb ha hi).portWrite_partial hbe hm fun _ _ => rfl⟩
  case lowIde => exact fun s a v hb ha hi hm => ⟨_, rfl, portWrite_refused hb ha hi hm⟩
  case lowUnanswered => exact fun s a v hw hb ha hm => ⟨_, rfl, portWrite_unanswered hw hb ha hm⟩
  case lowElsewhere => exact fun s a v _ hm => ⟨_, rfl, portWrite_elsewhere (.inr hm)⟩
  case lowWide => exact fun s a v hb hw h hm => ⟨_, rfl, portWrite_wide hb hw h hm⟩
  case lowPage => exact fun s a v hb => ⟨_, rfl, portWrite_elsewhere (.inl hb)⟩
  case highPartial =>
    exact fun s a v hw hb ha hi hbe hm => ⟨_, rfl, (Reaches.mk hw hb ha hi).portWrite_partial hbe hm fun _ _ => rfl⟩
  case highIde => exact fun s a v hb ha hi hm => ⟨_, rfl, portWrite_refused hb ha hi hm⟩
  case highUnanswered => exact fun s a v hw hb ha hm => ⟨_, rfl, portWrite_unanswered hw hb ha hm⟩
  case highElsewhere => exact fun s a v _ hm => ⟨_, rfl, portWrite_elsewhere (.inr hm)⟩
  case highWide => exact fun s a v hb hw h hm => ⟨_, rfl, portWrite_wide hb hw h hm⟩
  case highPage => exact fun s a v hb => ⟨_, rfl, portWrite_elsewhere (.inl hb)⟩
  case selPartial =>
    exact fun s a v hw hb ha hi hbe hm => ⟨_, rfl, (Reaches.mk hw hb ha hi).portWrite_partial hbe hm fun _ _ => rfl⟩
  case selIde => exact fun s a v hb ha hi hm => ⟨_, rfl, portWrite_refused hb ha hi hm⟩
  case selUnanswered => exact fun s a v hw hb ha hm => ⟨_, rfl, portWrite_unanswered hw hb ha hm⟩
  case selElsewhere => exact fun s a v _ hm => ⟨_, rfl, portWrite_elsewhere (.inr hm)⟩
  case selWide => exact fun s a v hb hw h hm => ⟨_, rfl, portWrite_wide hb hw h hm⟩
  case selPage => exact fun s a v hb => ⟨_, rfl, portWrite_elsewhere (.inl hb)⟩
  case pageNone => exact fun s a v x hb hp => leads_pageStores hb (pageStores_none hp)
  case pageNarrow => exact fun s a v x k hb hw hp => leads_pageStores hb (pageStores_narrow hw hp)
  case pageWide => exact fun s a v x k hb hw hi hp => leads_pageStores hb (pageStores_wide hw hi hp)
  case lowStaged =>
    intro s a v w n i hw hb ha hi hbe hpl hl ho
    refine leads_lowWordWrite ⟨hw, hb, ha, hi⟩ (by rw [hpl]; exact hl) ?_
    rw [busWrite_low ha hbe hpl hl, lowWrite_staged ho]
    exact ⟨by rw [bank_setBank, if_pos rfl], touch_regs, touch_mem⟩
  case lowRefused =>
    intro s a v w n i hw hb ha hi hbe hpl hl hany ho
    exact leads_lowWordWrite ⟨hw, hb, ha, hi⟩ (by rw [hpl]; exact hl)
      ((busWrite_low ha hbe hpl hl).trans (lowWrite_refused hany ho))
  case lowReadOnly =>
    intro s a v w n i hw hb ha hi hbe hpl hl hany
    exact leads_lowWordWrite ⟨hw, hb, ha, hi⟩ (by rw [hpl]; exact hl) ((busWrite_low ha hbe hpl hl).trans (lowWrite_readOnly hany))
  case highBoth =>
    intro s a v w z n i k f g hw hb ha hi hbe hpl hh hl hk hz ho hf hfa hg hga
    refine leads_highWordWrite ⟨hw, hb, ha, hi⟩ (by rw [hpl]; exact hh) ?_
    obtain ⟨hm, hn⟩ := place_word hpl
    obtain ⟨hlo, hhi, hstage, hmem⟩ := highWrite_fields (off := a.off) (v := v % 2 ^ 32) hm (by omega) hh hk hz ho
    rw [busWrite_high ha hbe hpl hl hh]
    exact ⟨hlo f hf hfa, hhi g hg hga, hstage, hmem⟩
  case highRefused =>
    intro s a v w n i hw hb ha hi hbe hpl hh hl h
    exact leads_highWordWrite ⟨hw, hb, ha, hi⟩ (by rw [hpl]; exact hh)
      ((busWrite_high ha hbe hpl hl hh).trans (highWrite_refused h))
  case sel =>
    intro s a v b hw hb ha hi hbe hpl
    refine leads_selWrite ⟨hw, hb, ha, hi⟩ (by rw [hpl]; rfl) ?_
    rw [busWrite_sel ha hbe hpl]
    refine ⟨by rw [selected_setSel, if_pos rfl], fun k hk => ?_, touch_regs, ?_, touch_mem⟩
    · rw [selected_setSel, if_neg (Ne.symm hk), State.selected, touch_bank]
      rfl
    · rw [bank_setBank, if_pos rfl]
      exact dropStage_stage a.p
  case regWrite => exact fun s n v k x hb ho hlt => ⟨_, rfl, vendorReg_answers hb ho hlt⟩
  case regWriteOther => exact fun s b n v k x hb h1 => ⟨_, rfl, vendorReg_elsewhere hb h1⟩
  case regWriteBad => exact fun s n v k x hb ho => ⟨_, rfl, vendorReg_badOffset hb ho⟩
  case regWriteDown => exact fun s b n v k x hb => ⟨_, rfl, vendorReg_down hb⟩

end Sys2Proof.Machine
end

section
/-!
PROOFS. The queue engine's state across the shared operations: events, error records, memory accesses and links leave queues and descriptors
as they are.
-/
namespace Sys2Proof.Machine

variable {s : State}

/-- Steps that each leave queues and descriptors leave them. -/
theorem foldl_q {α : Type} {f : State → α → State} (h : ∀ z a, (f z a).q = z.q) (l : List α) (z : State) : (l.foldl f z).q = z.q :=
  foldl_keeps (fun y => y.q = z.q) f (fun y a e => (h y a).trans e) l z rfl

/-! ## Events and records -/

@[simp] theorem sendMsix_q (f v : Nat) : (s.sendMsix f v).q = s.q := by
  obtain ⟨r, o, i, h⟩ := sendMsix_frame (s := s) f v
  rw [h]

@[simp] theorem devEvent_q (b : Nat) : (s.devEvent b).q = s.q := by
  obtain ⟨r, o, i, h⟩ := devEvent_frame (s := s) b
  rw [h]

@[simp] theorem fnEvent_q (f b : Nat) : (s.fnEvent f b).q = s.q := by
  unfold State.fnEvent
  dsimp only
  split
  · rfl
  · split
    · exact sendMsix_q ..
    · rfl

@[simp] theorem noPending_q (f v : Nat) : (s.noPending f v).q = s.q := rfl

@[simp] theorem sendDue_q (f v : Nat) : (s.sendDue f v).q = s.q := by
  unfold State.sendDue
  split
  · rfl
  · split <;> simp

@[simp] theorem reportOn_q (f v : Nat) : (s.reportOn f v).q = s.q := by
  unfold State.reportOn
  dsimp only
  rw [sendDue_q, State.bump_q]
  split <;> rfl

/-- The report of an error that needs no recovery is a record: no unit is escalated, so no command of a unit ends with it. -/
theorem report_q {i : ErrInfo} (h : i.recov = false) : (s.report i).q = s.q := by
  have hc (u : UnitRec) : s.escalates i u = false := by simp [State.escalates, ErrInfo.counts, h]
  unfold State.report State.record
  simp only [hc, Bool.false_eq_true, if_false]
  obtain ⟨r, o, j, e, hw⟩ := writeRec_frame (s := s) (s.errRecord i (s.unitRec (unitKey i.utype i.inst)))
  rw [hw]
  rfl

@[simp] theorem recoveryEnd_q (u i : Nat) (ok : Bool) : (s.recoveryEnd u i ok).q = s.q := by
  obtain ⟨e, h⟩ := recoveryEnd_frame (s := s) u i ok
  rw [h]

/-! ## The stacks cache -/

@[simp] theorem setCset_q (k : Nat) (c : CacheSet) : (s.setCset k c).q = s.q :=
  foldl_q (f := fun z p => z.setFld F_SK_P_USED_USED _ p) (fun _ _ => rfl) ..

@[simp] theorem cacheDrop_q (sec : Nat) : (s.cacheDrop sec).q = s.q := by
  unfold State.cacheDrop
  dsimp only
  split
  · exact setCset_q ..
  · rfl

@[simp] theorem pinClass_q (l : List Line) (had p : Nat) : (s.pinClass l had p).1.q = s.q := by
  unfold State.pinClass
  dsimp only
  split <;> rfl

@[simp] theorem cacheFill_q (sec handle pin : Nat) (h : Hint) : (s.cacheFill sec handle pin h).q = s.q := by
  simp [State.cacheFill]

@[simp] theorem cacheAccess_q (sec handle : Nat) (h : Hint) (pin : Option Nat) (fills : Bool) :
    (s.cacheAccess sec handle h pin fills).q = s.q := by
  unfold State.cacheAccess
  dsimp only
  split
  · split <;> rfl
  · split
    · cases pin <;> simp only [setCset_q, pinClass_q, State.bump_q] <;> split <;> simp
    · split <;> simp only [cacheFill_q, State.bump_q] <;> split <;> simp

/-! ## Memory units and write queues -/

@[simp] theorem setDram_q (u : Nat) (x : Dram) : (s.setDram u x).q = s.q := rfl

@[simp] theorem issue_q (u : Nat) (l : List DramCmd) : (s.issue u l).q = s.q := by
  obtain ⟨r, m, h⟩ := issue_frame (s := s) u l
  rw [h]

@[simp] theorem drainWq_q (u : Nat) : (s.drainWq u).q = s.q := by
  simp only [State.drainWq, apply_ite State.q, issue_q, setDram_q, ite_self]

@[simp] theorem queueLine_q (u : Nat) (e : WqEntry) : (s.queueLine u e).q = s.q := by
  unfold State.queueLine
  dsimp only
  repeat' split
  all_goals simp

@[simp] theorem queueMasks_q (l : List (Nat × Nat)) (poison : Bool) (seq : Option Nat) : (s.queueMasks l poison seq).q = s.q := by
  refine foldl_q (fun z m => ?_) ..
  dsimp only
  split <;> simp

@[simp] theorem rankTrigger_q (u r c : Nat) : (s.rankTrigger u r c).q = s.q := by
  unfold State.rankTrigger
  dsimp only
  split <;> rfl

@[simp] theorem rowTrigger_q (r : HbmRow) : (s.rowTrigger r).q = s.q := by
  unfold State.rowTrigger
  split <;> rfl

@[simp] theorem noteCe_q (sec : Nat) : (s.noteCe sec).q = s.q := by
  unfold State.noteCe State.noteRankCe State.noteRowCe
  dsimp only
  repeat' split
  all_goals simp

@[simp] theorem noteUe_q (sec : Nat) : (s.noteUe sec).q = s.q := by
  unfold State.noteUe
  dsimp only
  split <;> simp

@[simp] theorem countUe_q (u : Nat) : (s.countUe u).q = s.q := by
  unfold State.countUe
  split <;> rfl

@[simp] theorem countCe_q (sec : Nat) : (s.countCe sec).q = s.q := by
  unfold State.countCe
  dsimp only
  rw [noteCe_q]
  split <;> rfl

/-! ## Poison and tags -/

@[simp] theorem writeMem_q (a : Nat) (l : List Byte) : (s.writeMem a l).q = s.q := by
  obtain ⟨m, h⟩ := writeMem_frame s a l
  rw [h]

@[simp] theorem zeroMem_q (a n : Nat) : (s.zeroMem a n).q = s.q := rfl
@[simp] theorem setPoison_q (sec : Nat) : (s.setPoison sec).q = s.q := rfl
@[simp] theorem clearPoison_q (sec : Nat) : (s.clearPoison sec).q = s.q := rfl

@[simp] theorem setTag_q (sec : Nat) (g : TagEntry) : (s.setTag sec g).q = s.q := by
  simp only [State.setTag, apply_ite State.q, clearPoison_q, ite_self]

@[simp] theorem retag_q (sec : Nat) : (s.retag sec).q = s.q := by
  unfold State.retag
  split <;> simp

@[simp] theorem setOwner_q (dfn : Nat) (o : Owner) : (s.setOwner dfn o).q = s.q := rfl

@[simp] theorem rezero_q (dfn : Nat) : (s.rezero dfn).q = s.q := by
  simp only [State.rezero, State.toZeroing, apply_ite State.q, setOwner_q, ite_self]

@[simp] theorem storePoison_q (sec : Nat) : (s.storePoison sec).q = s.q := by
  simp only [State.storePoison, cacheDrop_q, queueMasks_q, State.bump_q, setPoison_q, zeroMem_q]

@[simp] theorem poisonSector_q (sec : Nat) : (s.poisonSector sec).q = s.q := by
  unfold State.poisonSector
  dsimp only
  rw [rezero_q]
  split <;> simp

@[simp] theorem poisonAll_q (l : List Nat) : (s.poisonAll l).q = s.q := by
  induction l generalizing s with
  | nil => rfl
  | cons x t ih =>
    unfold State.poisonAll
    rw [ih, poisonSector_q]

@[simp] theorem poisonUnfinished_q (ds l : List Nat) : (s.poisonUnfinished ds l).q = s.q := poisonAll_q _

/-! ## Reads and writes of tenant memory -/

@[simp] theorem decodeLine_q (line : Nat) (e : LineErr) : (s.decodeLine line e).q = s.q := by
  have ho : (s.countOnDie (line / 4) e).q = s.q := by
    unfold State.countOnDie
    split <;> rfl
  unfold State.decodeLine
  dsimp only
  split
  · rw [countCe_q, ho]
  · unfold State.miscorrect
    dsimp only
    rw [writeMem_q, countCe_q, ho]
  · exact ho

@[simp] theorem decodeSec_q (sec : Nat) : (s.decodeSec sec).q = s.q :=
  foldl_q (fun _ _ => decodeLine_q ..) ..

@[simp] theorem uncorrectable_q (sec : Nat) (w : For) : (s.uncorrectable sec w).q = s.q := by
  rw [State.uncorrectable, report_q rfl]
  simp

@[simp] theorem tagFail_q (sec : Nat) (w : For) : (s.tagFail sec w).q = s.q := by
  rw [State.tagFail, report_q rfl]
  simp

/-- What a read of a sector meets changes no queue and no descriptor. -/
@[simp] theorem checkSector_q (sec : Nat) (w : For) : (s.checkSector sec w).1.q = s.q := by
  unfold State.checkSector
  dsimp only
  repeat' split
  all_goals simp

@[simp] theorem useCredit_q (t sec n : Nat) : (s.useCredit t sec n).q = s.q := rfl

@[simp] theorem putPiece_q (ms : List Nat) (v : Via) (w : For) (p : Piece) (b : List Byte) : (s.putPiece ms v w p b).q = s.q := by
  unfold State.putPiece State.queueWrite
  dsimp only
  rw [cacheAccess_q, retag_q]
  split <;> simp only [clearPoison_q, queueMasks_q, writeMem_q] <;> split <;> rfl

theorem writePieces_q (ms : List Nat) (v : Via) (w : For) (b : List Byte) (l : List Piece) (m : Met) :
    (s.writePieces ms v w b l m).1.q = s.q := by
  induction l generalizing s m with
  | nil => rfl
  | cons p l ih =>
    unfold State.writePieces
    dsimp only
    rw [ih]
    split <;> split <;> simp

@[simp] theorem writeAccess_q (ds ms : List Nat) (a : Nat) (b : List Byte) (v : Via) (w : For) :
    (s.writeAccess ds ms a b v w).1.q = s.q := writePieces_q ..

@[simp] theorem ringWrite_q (ring ms : List Nat) (base off : Nat) (l : List Byte) (w : For) :
    (s.ringWrite ring ms base off l w).1.q = s.q := writeAccess_q ..

/-! ## What a link sends -/

@[simp] theorem setLink_q (l : Nat) (x : Link) : (s.setLink l x).q = s.q := rfl

@[simp] theorem pumpOne_q (l : Nat) : (s.pumpOne l).q = s.q := by
  unfold State.pumpOne
  dsimp only
  split
  · rfl
  · split
    · rfl
    · rw [State.emit_q, setLink_q]

@[simp] theorem pump_q (l n : Nat) : (s.pump l n).q = s.q := by
  induction n generalizing s with
  | zero => rfl
  | succ n ih =>
    unfold State.pump
    rw [ih, pumpOne_q]

@[simp] theorem sendMsgs_q (l : Nat) (ms : List (List Flit)) (cq : Nat) : (s.sendMsgs l ms cq).q = s.q := by
  unfold State.sendMsgs
  dsimp only
  rw [pump_q, setLink_q]
  exact foldl_q (f := fun z f => z.emit (.flit l f)) (fun _ _ => rfl) ..

@[simp] theorem sendFlit_q (l : Nat) (f : Flit) : (s.sendFlit l f).q = s.q := sendMsgs_q ..
@[simp] theorem sendFlits_q (l : Nat) (fs : List Flit) : (s.sendFlits l fs).q = s.q := sendMsgs_q ..

@[simp] theorem sendQstate_q (q : Nat) : (s.sendQstate q).q = s.q := by
  unfold State.sendQstate
  dsimp only
  split <;> simp

/-! ## The end of a command -/

@[simp] theorem cutRelease_q (d : Nat) : (s.cutRelease d).q = s.q := by
  simp only [State.cutRelease, apply_ite State.q, sendFlits_q, setLink_q, ite_self]

@[simp] theorem setCluster_q (k : Nat) (x : Cluster) : (s.setCluster k x).q = s.q := by
  unfold State.setCluster
  dsimp only
  split <;> rfl

@[simp] theorem freeCarrel_q (c : Nat) : (s.freeCarrel c).q = s.q := by
  unfold State.freeCarrel State.clusterDrained
  split
  · exact setCluster_q ..
  · rfl

@[simp] theorem stopTasks_q (d : Nat) : (s.stopTasks d).q = s.q := by
  unfold State.stopTasks
  dsimp only
  rw [foldl_q fun z c => freeCarrel_q c]
  exact foldl_q (fun z k => recoveryEnd_q ..) ..

@[simp] theorem leavePj_q (d : Nat) : (s.leavePj d).q = s.q :=
  foldl_q (f := fun z u => z.setPjUnit u _) (fun _ _ => rfl) ..

@[simp] theorem unsuspend_q (d : Nat) : (s.unsuspend d).q = s.q := by
  unfold State.unsuspend
  dsimp only
  repeat' split
  all_goals rfl

@[simp] theorem leaveEngine_q (d : Nat) : (s.leaveEngine d).q = s.q := by
  unfold State.leaveEngine
  dsimp only
  split <;> simp

@[simp] theorem stopWork_q (d : Nat) : (s.stopWork d).q = s.q := by
  simp [State.stopWork]

@[simp] theorem leaveWindow_q (d : Nat) : (s.leaveWindow d).q = s.q := by
  unfold State.leaveWindow
  dsimp only
  repeat' split
  all_goals rfl

end Sys2Proof.Machine
end

section
/-!
PROOFS. Queues and descriptors after the queue engine's operations: a completion, the end of commands.
-/
namespace Sys2Proof.Machine

variable {s t : State} {q : Nat}

/-! ## Queues after an operation -/

/-- Queues are what the queue engine's table says. -/
theorem queue_of_q (h : t.q = s.q) (k : Nat) : t.queue k = s.queue k := by
  rw [State.queue, h, State.queue]

theorem desc_of_q (h : t.q = s.q) (d : Nat) : t.desc d = s.desc d := by
  rw [State.desc, h, State.desc]

theorem desc?_of_q (h : t.q = s.q) (d : Nat) : t.desc? d = s.desc? d := by
  rw [State.desc?, h, State.desc?]

@[simp] theorem dropStage_queue (p : Port) (k : Nat) : (s.dropStage p).queue k = s.queue k := queue_of_q rfl k
@[simp] theorem bump_queue (f : Fld) (n i k : Nat) : (s.bump f n i).queue k = s.queue k := queue_of_q rfl k
@[simp] theorem fnEvent_queue (f b k : Nat) : (s.fnEvent f b).queue k = s.queue k := queue_of_q (fnEvent_q f b) k
@[simp] theorem devEvent_queue (b k : Nat) : (s.devEvent b).queue k = s.queue k := queue_of_q (devEvent_q b) k
@[simp] theorem sendQstate_queue (k : Nat) : (s.sendQstate q).queue k = s.queue k := queue_of_q (sendQstate_q q) k

/-- A queue that changes its state keeps all else. -/
@[simp] theorem queueTo_queue (st : QState) : (s.queueTo q st).queue q = { s.queue q with st := st } := by
  simp [State.queueTo]

@[simp] theorem setQueue_descs (x : Queue) : (s.setQueue q x).q.descs = s.q.descs := rfl

@[simp] theorem queueTo_descs (st : QState) : (s.queueTo q st).q.descs = s.q.descs := by
  simp [State.queueTo]

/-! ## Completions -/

/-- What a completion leaves of its queue: its state, its fetched entries, what it keeps for a failed CQ write, LAST_CTL. -/
def Queue.settled (x : Queue) : QState × List Fetched × List KeptCq × Nat := (x.st, x.fetched, x.keptCq, x.lastCtl)

/-- From one state to another nothing but completions of a queue has happened to it and to the descriptors. -/
structure Completed (s t : State) (q : Nat) : Prop where
  settled : (t.queue q).settled = (s.queue q).settled
  descs : t.q.descs = s.q.descs

theorem Completed.of_q (h : t.q = s.q) : Completed s t q := ⟨by rw [queue_of_q h], by rw [h]⟩

theorem Completed.trans {u : State} (h : Completed s t q) (k : Completed t u q) : Completed s u q :=
  ⟨k.settled.trans h.settled, k.descs.trans h.descs⟩

/-- Completions from a state with the same queues and descriptors. -/
theorem Completed.before {u : State} (k : Completed t u q) (h : t.q = s.q) : Completed s u q := (Completed.of_q h).trans k

/-- Completions, then what changes neither queues nor descriptors. -/
theorem Completed.andThen {u : State} (h : u.q = t.q) (k : Completed s t q) : Completed s u q := k.trans (.of_q h)

theorem completed_setQueue {x : Queue} (h : x.settled = (s.queue q).settled) : Completed s (s.setQueue q x) q := ⟨by simp [h], rfl⟩

theorem completed_cqAdvance (b : List Byte) : Completed s (s.cqAdvance q b) q := by
  refine completed_setQueue ?_
  rw [apply_ite Queue.settled]
  exact ite_self (s.queue q).settled

theorem completed_writeCq (fail : Bool) (tag : Nat) (st : Status) (detail : Nat) (sig acc froze : Bool) (ts : Nat) (r : Result) :
    Completed s (s.writeCq q fail tag st detail sig acc froze ts r).1 q := by
  unfold State.writeCq
  dsimp only
  split
  · split
    · exact .of_q rfl
    · exact (completed_cqAdvance _).before (State.emit_q ..)
  · split
    · exact .of_q (State.bump_q ..)
    · split
      · next z h => exact (completed_cqAdvance _).before (by rw [← ringWrite_q (s := s), h])
      · next z h => exact .of_q (by rw [← ringWrite_q (s := s), h])

theorem completed_sendCompletion : Completed s (s.sendCompletion q) q := by
  unfold State.sendCompletion
  dsimp only
  split
  · exact .of_q rfl
  · exact .andThen (sendMsgs_q ..) (completed_setQueue rfl)

theorem completed_notify (quiet : Bool) : Completed s (s.notify q quiet) q := by
  unfold State.notify
  dsimp only
  split
  · exact .of_q rfl
  · split
    · have hg : Completed s (s.setQueue q { s.queue q with
          gathered := (s.queue q).gathered + 1
          gatherAt := if (s.queue q).gathered = 0 then s.now else (s.queue q).gatherAt }) q := completed_setQueue rfl
      split
      · exact hg.trans completed_sendCompletion
      · exact hg
    · exact .of_q (reportOn_q ..)

theorem completed_flushKept (l : List KeptCq) : Completed s (s.flushKept q l) q := by
  induction l generalizing s with
  | nil => exact .of_q rfl
  | cons k l ih =>
    unfold State.flushKept
    dsimp only
    refine .trans ?_ ih
    have hw := completed_writeCq (s := s) (q := q) false k.tag k.st k.detail false false k.froze k.ts k.res
    split
    · exact .of_q (State.bump_q ..)
    · split
      · exact hw.trans (completed_notify _)
      · exact .andThen (State.bump_q ..) hw

theorem completed_abortFetched (l : List Fetched) : Completed s (s.abortFetched q l) q := by
  induction l generalizing s with
  | nil => exact .of_q rfl
  | cons f l ih =>
    unfold State.abortFetched
    exact .trans (completed_flushKept _) ih

/-! ## Commands that end -/

theorem find?_kvInsert {α : Type} (m : KV α) (k j : Nat) (v : α) :
    (kvInsert m k v).find? (fun p => p.1 == j) = if k = j then some (k, v) else m.find? (fun p => p.1 == j) := by
  induction m with
  | nil => by_cases h : k = j <;> simp [kvInsert, h]
  | cons p m ih =>
    obtain ⟨k', v'⟩ := p
    unfold kvInsert
    split
    · by_cases h : k = j <;> simp [h]
    · split
      · next hk =>
        subst hk
        by_cases h : k = j <;> simp [h]
      · next hk =>
        by_cases h : k' = j
        · subst h
          simp [hk]
        · simp [h, ih]

@[simp] theorem desc?_setDesc (d e : Nat) (x : Desc) : (s.setDesc d x).desc? e = if d = e then some x else s.desc? e := by
  unfold State.desc? State.setDesc
  dsimp only
  rw [find?_kvInsert]
  split <;> rfl

/-- A listed descriptor is what its number names. -/
theorem desc_of_some {d : Nat} {x : Desc} (h : s.desc? d = some x) : s.desc d = x := by
  unfold State.desc? at h
  unfold State.desc
  generalize s.q.descs = m at h ⊢
  induction m with
  | nil => cases h
  | cons p m ih =>
    obtain ⟨k, v⟩ := p
    by_cases hk : k = d
    · simpa [kvGet, hk] using h
    · simp only [kvGet, if_neg hk]
      exact ih (by simpa [hk] using h)

theorem setDesc_tab (d : Nat) (x : Desc) : (s.setDesc d x).q.tab = s.q.tab := rfl

/-- The end of a command changes no queue. -/
theorem finish_tab (d : Nat) (st : Status) (res : Result) (detail : Nat) : (s.finish d st res detail).q.tab = s.q.tab := by
  unfold State.finish
  split
  · rfl
  · split
    · rfl
    · rw [setDesc_tab, stopWork_q, leaveWindow_q]

/-- What the end of a command leaves of the descriptors: only its own changes, and that one is final. -/
theorem finish_desc? (d e : Nat) (st : Status) (res : Result) (detail : Nat) :
    (s.finish d st res detail).desc? e = s.desc? e ∨
      d = e ∧ ∃ x, (s.finish d st res detail).desc? e = some x ∧ x.stage = .done := by
  unfold State.finish
  split
  · exact .inl rfl
  · split
    · exact .inl rfl
    · rw [desc?_setDesc]
      split
      · next h => exact .inr ⟨h, _, rfl, rfl⟩
      · exact .inl (desc?_of_q (by rw [stopWork_q, leaveWindow_q]) e)

/-- A listed command that ends is final. -/
theorem finish_done {d : Nat} {x : Desc} (h : s.desc? d = some x) (st : Status) (res : Result) (detail : Nat) :
    ∃ y, (s.finish d st res detail).desc? d = some y ∧ y.stage = .done := by
  unfold State.finish
  rw [h]
  dsimp only
  split
  · next hd => exact ⟨x, h, by simp_all⟩
  · exact ⟨_, by rw [desc?_setDesc, if_pos rfl], rfl⟩

theorem finishAll_tab (st : Status) (detail : Nat) (l : List Nat) : (s.finishAll st detail l).q.tab = s.q.tab := by
  induction l generalizing s with
  | nil => rfl
  | cons d l ih =>
    unfold State.finishAll
    rw [ih, finish_tab]

/-- A command that is final stays so while others end. -/
theorem finishAll_keeps_done {e : Nat} (st : Status) (detail : Nat) (l : List Nat) (h : ∃ x, s.desc? e = some x ∧ x.stage = .done) :
    ∃ x, (s.finishAll st detail l).desc? e = some x ∧ x.stage = .done := by
  induction l generalizing s with
  | nil => exact h
  | cons d l ih =>
    unfold State.finishAll
    refine ih ?_
    rcases finish_desc? (s := s) d e st {} detail with hs | ⟨-, hd⟩
    · rwa [hs]
    · exact hd

/-- Listed commands that end are all final. -/
theorem finishAll_done {e : Nat} (st : Status) (detail : Nat) (l : List Nat) (hl : e ∈ l) (h : ∃ x, s.desc? e = some x) :
    ((s.finishAll st detail l).desc e).stage = .done := by
  induction l generalizing s with
  | nil => cases hl
  | cons d l ih =>
    unfold State.finishAll
    obtain ⟨x, hx⟩ := h
    by_cases hd : d = e
    · subst hd
      obtain ⟨y, hy, hdone⟩ := finishAll_keeps_done st detail l (finish_done hx st {} detail)
      rw [desc_of_some hy, hdone]
    · refine ih ((List.mem_cons.1 hl).resolve_left (Ne.symm hd)) ⟨x, ?_⟩
      exact ((finish_desc? d e st {} detail).resolve_right (fun k => hd k.1)).trans hx

/-- The descriptors of a queue are listed. -/
theorem desc?_of_mem_descsOf {d : Nat} (h : d ∈ s.descsOf q) : ∃ x, s.desc? d = some x := by
  unfold State.descsOf State.descsWhere at h
  obtain ⟨p, hp, rfl⟩ := List.mem_map.1 h
  obtain ⟨hm, -⟩ := List.mem_filter.1 hp
  unfold State.desc?
  cases hf : s.q.descs.find? (fun r => r.1 == p.1) with
  | none => simpa using List.find?_eq_none.1 hf p hm
  | some r => exact ⟨r.2, rfl⟩

end Sys2Proof.Machine
end

section
/-!
PROOFS. Queue control and doorbells: what each control command and doorbell leaves of its queue, and the statement on them.
-/
namespace Sys2Proof.Machine

variable {s : State} {q : Nat}

/-! ## Who may control a queue -/

section Control
variable {p : Port} {reset : Bool} {f : State → State}

/-- A control command of a port that may give it acts (R80). -/
theorem qctl_acts (ha : s.answers p qctlOff = true) (hc : s.mayControl p q reset = true) : s.qctl p q reset f = f (s.dropStage p) := by
  have ha' : (s.dropStage p).answers p qctlOff = true := ha
  have hc' : (s.dropStage p).mayControl p q reset = true := hc
  simp [State.qctl, ha', hc']

/-- A control command of another port is counted (R80). -/
theorem qctl_counted (ha : s.answers p qctlOff = true) (hc : s.mayControl p q reset = false) :
    s.qctl p q reset f = (s.dropStage p).badAccess p qctlOff := by
  have ha' : (s.dropStage p).answers p qctlOff = true := ha
  have hc' : (s.dropStage p).mayControl p q reset = false := hc
  simp [State.qctl, ha', hc']

/-- A counted control command changes no queue and latches the register's offset (R714). -/
theorem qctl_counted_effect (ha : s.answers p qctlOff = true) (hc : s.mayControl p q reset = false) :
    (s.qctl p q reset f).q = s.q ∧ (s.qctl p q reset f).fld F_TOP_BAD_ACCESS_ADDR_OFFSET = qctlOff := by
  rw [qctl_counted ha hc]
  exact ⟨rfl, badAccess_addr ..⟩

variable {ok : State → Bool} {g : State → State → State} (ha : s.answers p qctlOff = true) (hc : s.mayControl p q reset = true)
include ha hc

/-- A control command in its state clears LAST_CTL and acts (R76). -/
theorem qctlIn_acts (hok : ok (s.dropStage p) = true) : s.qctl p q reset (fun z => z.qctlIn q (ok z) (g z)) =
    g (s.dropStage p) ((s.dropStage p).setQueue q { s.queue q with lastCtl := 0 }) := by
  rw [qctl_acts ha hc, hok, ← dropStage_queue p]
  rfl

/-- In another state it leaves LAST_CTL REFUSED_STATE (R76). -/
theorem qctlIn_refused (hok : ok (s.dropStage p) = false) :
    (s.qctl p q reset (fun z => z.qctlIn q (ok z) (g z))).queue q = { s.queue q with lastCtl := 1 } ∧
      (s.qctl p q reset (fun z => z.qctlIn q (ok z) (g z))).q.descs = s.q.descs := by
  rw [qctl_acts ha hc, hok]
  exact ⟨by simp [State.qctlIn], rfl⟩

end Control

/-! ## ENABLE -/

/-- The ring checks do not look at LAST_CTL. -/
theorem ringCheck_lastCtl (n : Nat) : (s.setQueue q { s.queue q with lastCtl := n }).ringCheck q = s.ringCheck q := by
  have hq : (s.setQueue q { s.queue q with lastCtl := n }).queue q = { s.queue q with lastCtl := n } := by simp
  have hf : (s.setQueue q { s.queue q with lastCtl := n }).qInFolios q = s.qInFolios q := by
    unfold State.qInFolios
    rw [hq]
    rfl
  unfold State.ringCheck
  rw [hq, hf]
  rfl

/-- A queue whose rings fail a check keeps its state and gets the check's code (R77). -/
theorem enableQueue_refused (h : s.ringCheck q ≠ 0) : (s.enableQueue q).queue q = { s.queue q with lastCtl := s.ringCheck q } := by
  simp [State.enableQueue, h]

/-- A queue whose rings pass is ACTIVE with its pointers at 0 (R77). -/
theorem enableQueue_active (h : s.ringCheck q = 0) :
    ((s.enableQueue q).queue q).st = .active ∧ ((s.enableQueue q).queue q).sqHead = 0 ∧ ((s.enableQueue q).queue q).sqTail = 0 ∧
      ((s.enableQueue q).queue q).cqTail = 0 ∧ ((s.enableQueue q).queue q).cqHead = 0 ∧ ((s.enableQueue q).queue q).phase = true ∧
      ((s.enableQueue q).queue q).lastCtl = 0 ∧ ((s.enableQueue q).queue q).cause = 0 := by
  simp [State.enableQueue, h]

/-! ## Doorbells -/

section Doorbell
variable {fn v : Nat} {sec : Bool} {f : State → State}

/-- A doorbell-page write from outside IDE, where IDE is required, is counted and changes no queue (R466). -/
theorem doorbell_insecure (ha : s.answers (fnPort fn) qctlOff = true) (hi : (s.fld F_HP_CFG_IDE_REQUIRED == 1 && !sec) = true) :
    (s.doorbell fn q sec f).q = s.q ∧
      (s.doorbell fn q sec f).fld F_HP_IDE_FAIL_IDE = min (s.fld F_HP_IDE_FAIL_IDE + 1) (2 ^ F_HP_IDE_FAIL_IDE.wid - 1) := by
  have h : s.doorbell fn q sec f = s.bump F_HP_IDE_FAIL_IDE := by simp [State.doorbell, State.pageWrite, State.pageAccess, ha, hi]
  rw [h]
  exact ⟨rfl, State.fld_bump ..⟩

section Answered
variable (ha : s.answers (fnPort fn) qctlOff = true) (hi : (s.fld F_HP_CFG_IDE_REQUIRED == 1 && !sec) = false)
include ha hi

/-- A doorbell of a function that the queue is not bound to is a bad one (R85). -/
theorem doorbell_foreign (ho : (s.queue q).origin ≠ 0x80 + fn) : (s.doorbell fn q sec f).q = s.q ∧
    (s.doorbell fn q sec f).fld F_QE_BAD_DOORBELL_CNT_BADDB =
      min (s.fld F_QE_BAD_DOORBELL_CNT_BADDB + 1) (2 ^ F_QE_BAD_DOORBELL_CNT_BADDB.wid - 1) := by
  have h : s.doorbell fn q sec f = (s.dropStage (fnPort fn)).bump F_QE_BAD_DOORBELL_CNT_BADDB := by
    simp [State.doorbell, State.pageWrite, State.pageAccess, ha, hi, ho]
  rw [h]
  exact ⟨rfl, State.fld_bump ..⟩

/-- A doorbell of the bound function is taken as the queue's state says (R90). -/
theorem doorbell_own (ho : (s.queue q).origin = 0x80 + fn) : s.doorbell fn q sec f =
    if (s.queue q).st = .active ∨ (s.queue q).st = .paused then f (s.dropStage (fnPort fn))
    else if (s.queue q).st = .frozen then (s.dropStage (fnPort fn)).bump F_QE_Q_REFUSED_REFUSED 1 q
    else s.dropStage (fnPort fn) := by
  simp [State.doorbell, State.pageWrite, State.pageAccess, ha, hi, ho]

theorem doorbell_acts (ho : (s.queue q).origin = 0x80 + fn) (hst : (s.queue q).st = .active ∨ (s.queue q).st = .paused) :
    s.doorbell fn q sec f = f (s.dropStage (fnPort fn)) := by
  rw [doorbell_own ha hi ho, if_pos hst]

/-- One for a FROZEN queue is counted (R90). -/
theorem doorbell_frozen (ho : (s.queue q).origin = 0x80 + fn) (hst : (s.queue q).st = .frozen) : (s.doorbell fn q sec f).q = s.q ∧
    (s.doorbell fn q sec f).fld F_QE_Q_REFUSED_REFUSED q =
      min (s.fld F_QE_Q_REFUSED_REFUSED q + 1) (2 ^ F_QE_Q_REFUSED_REFUSED.wid - 1) := by
  rw [doorbell_own ha hi ho, hst]
  exact ⟨rfl, State.fld_bump ..⟩

/-- One for a DISABLED or RESETTING queue does nothing (R90). -/
theorem doorbell_idle (ho : (s.queue q).origin = 0x80 + fn) (hst : (s.queue q).st = .disabled ∨ (s.queue q).st = .resetting) :
    (s.doorbell fn q sec f).q = s.q ∧ (s.doorbell fn q sec f).regs = s.regs := by
  rw [doorbell_own ha hi ho]
  rcases hst with h | h <;> rw [h] <;> exact ⟨rfl, rfl⟩

end Answered
end Doorbell

/-! ## Refusals -/

/-- A freeze leaves the queue's pointers and its window. -/
theorem freeze_pointers (c : Nat) : ((s.freeze q c).queue q).sqTail = (s.queue q).sqTail ∧
    ((s.freeze q c).queue q).cqHead = (s.queue q).cqHead ∧ ((s.freeze q c).queue q).winCnt = (s.queue q).winCnt := by
  have hd (y : Queue) : (y.dropRings c).sqTail = y.sqTail ∧ (y.dropRings c).cqHead = y.cqHead ∧ (y.dropRings c).winCnt = y.winCnt := by
    unfold Queue.dropRings
    split <;> exact ⟨rfl, rfl, rfl⟩
  have hr (z : State) (i : ErrInfo) (h : i.recov = false) : (z.report i).queue q = z.queue q := queue_of_q (report_q h) q
  unfold State.freeze
  dsimp only
  split
  · simp [hd]
  · split <;> simp [hr, hd]

/-- A refusal counts in the queue's freeze window and leaves its pointers (R113). -/
theorem refuse_window : ((s.refuse q).1.queue q).sqTail = (s.queue q).sqTail ∧
    ((s.refuse q).1.queue q).cqHead = (s.queue q).cqHead ∧ ((s.refuse q).1.queue q).winCnt = min 65535 ((s.queue q).winCnt + 1) := by
  unfold State.refuse
  dsimp only
  split <;> simp [freeze_pointers]

/-- A tail below the ring size is in force (R88). -/
theorem newTail_taken {v : Nat} (h : v < s.ringSize q) : (s.newTail q v).queue q = { s.queue q with sqTail := v } := by
  simp [State.newTail, Nat.not_le.2 h]

theorem newTail_refused {v : Nat} (h : s.ringSize q ≤ v) : s.newTail q v = (s.refuse q).1 := if_pos h

/-- A CQ head up to the CQ tail is in force (R89). -/
theorem newHead_taken {v : Nat} (h : v < s.ringSize q)
    (hr : (v + s.ringSize q - (s.queue q).cqHead % s.ringSize q) % s.ringSize q ≤
      ((s.queue q).cqTail + s.ringSize q - (s.queue q).cqHead % s.ringSize q) % s.ringSize q) :
    (s.newHead q v).queue q = { s.queue q with cqHead := v } := by
  simp [State.newHead, Nat.not_le.2 h, Nat.not_lt.2 hr]

theorem newHead_refused {v : Nat} (h : s.ringSize q ≤ v ∨
    ((s.queue q).cqTail + s.ringSize q - (s.queue q).cqHead % s.ringSize q) % s.ringSize q <
      (v + s.ringSize q - (s.queue q).cqHead % s.ringSize q) % s.ringSize q) : s.newHead q v = (s.refuse q).1 := by
  unfold State.newHead
  exact if_pos (by simpa using h)

/-! ## RESET -/

/-- A RESET leaves the queue RESETTING without entries or kept completions, and its commands final (R78). -/
theorem resetQueue_effect (l : List Nat) : ((s.resetQueue q l).queue q).st = .resetting ∧ ((s.resetQueue q l).queue q).fetched = [] ∧
    ((s.resetQueue q l).queue q).keptCq = [] ∧ ((s.resetQueue q l).queue q).lastCtl = (s.queue q).lastCtl ∧
    ∀ d ∈ s.descsOf q, ((s.resetQueue q l).desc d).stage = .done := by
  unfold State.resetQueue
  extract_lets x a b c
  have hb : Completed a b q := (completed_flushKept _).trans (completed_abortFetched _)
  have hc : Completed a c q := hb.trans (.of_q (poisonUnfinished_q ..))
  have hq : (c.finishAll .aborted 0 (c.descsOf q)).queue q = c.queue q := by
    rw [State.queue, finishAll_tab, State.queue]
  have ha : a.queue q = { x with fetched := [], keptCq := [], st := .resetting } := by simp [a]
  have hset : (c.queue q).settled = (.resetting, [], [], (s.queue q).lastCtl) := by
    rw [hc.settled, ha]
    rfl
  obtain ⟨hst, hfetched, hkept, hlast⟩ : (c.queue q).st = .resetting ∧ (c.queue q).fetched = [] ∧ (c.queue q).keptCq = [] ∧
      (c.queue q).lastCtl = (s.queue q).lastCtl := by simpa [Queue.settled] using hset
  rw [hq]
  refine ⟨hst, hfetched, hkept, hlast, fun d hd => ?_⟩
  have hdescs : c.descsOf q = s.descsOf q := by
    unfold State.descsOf State.descsWhere
    rw [hc.descs, queueTo_descs, setQueue_descs]
  rw [hdescs]
  refine finishAll_done _ _ _ hd ?_
  exact desc?_of_mem_descsOf (hdescs ▸ hd)

/-- The queue that the end of a RESET leaves: DISABLED, its window counter and its ring translation cleared. -/
def Queue.afterReset (x : Queue) : Queue :=
  { x with winCnt := 0, uncarried := [], gathered := 0, st := .disabled, sqRing := [], cqRing := [], sqMeta := [], cqMeta := [] }

/-- A RESETTING queue without entries or descriptors goes DISABLED, and a QUEUE_UNBIND that waits goes on (R78, R495). -/
theorem resetDone_eq (hst : (s.queue q).st = .resetting) (hf : (s.queue q).fetched = []) (hn : s.inflight q = 0) :
    ∃ z : State, s.resetDone q = z.unbindQueue q ∧ z.queue q = (s.queue q).afterReset ∧ z.q.descs = s.q.descs := by
  refine ⟨(s.setQueue q { (s.queue q).dropRings 2 with winCnt := 0, uncarried := [], gathered := 0 }).queueTo q .disabled, ?_, ?_, ?_⟩
  · simp [State.resetDone, hst, hf, hn]
  · simp [Queue.dropRings, Queue.afterReset]
  · simp

theorem unbindQueue_unasked (h : (s.queue q).unbindBy = none) : s.unbindQueue q = s := by
  simp [State.unbindQueue, h]

/-- A QUEUE_UNBIND that waited unbinds its DISABLED queue and ends OK (R495). -/
theorem unbindQueue_ends {d : Nat} {x : Desc} (h : (s.queue q).unbindBy = some d) (hst : (s.queue q).st = .disabled)
    (hd : s.desc? d = some x) (hx : x.stage ≠ .done) : (s.unbindQueue q).queue q = {} ∧ Ended (s.unbindQueue q) d .ok := by
  have he : s.unbindQueue q = (s.setQueue q {}).finish d .ok (s.desc d).res := by simp [State.unbindQueue, h, hst]
  have hd' : (s.setQueue q {}).desc? d = some x := hd
  rw [he]
  refine ⟨?_, (finish_ended d x .ok _ 0 hd' hx).1⟩
  rw [State.queue, finish_tab, ← State.queue, State.queue_setQueue, if_pos rfl]

/-! ## The statement -/

section Leads
variable {p : Port} {P : State → Prop} {fn v : Nat} {sec : Bool}

theorem leads_queueEnable (h : P (s.qctl p q false fun z => z.qctlIn q (decide ((z.queue q).st = .disabled)) (fun y => y.enableQueue q))) :
    Leads (.queueEnable p q) s P := ⟨_, rfl, h⟩

theorem leads_queuePause (h : P (s.qctl p q false fun z => z.qctlIn q (decide ((z.queue q).st = .active)) (fun y => y.queueTo q .paused))) :
    Leads (.queuePause p q) s P := ⟨_, rfl, h⟩

theorem leads_queueResume (h : P (s.qctl p q false fun z => z.qctlIn q (decide ((z.queue q).st = .paused)) (fun y => y.queueTo q .active))) :
    Leads (.queueResume p q) s P := ⟨_, rfl, h⟩

theorem leads_queueResetComplete (h : P (s.resetDone q)) : Leads (.queueResetComplete q) s P := ⟨_, rfl, h⟩

theorem leads_dbSqTail (h : P (s.doorbell fn q sec (fun z => z.newTail q (v % 65536)))) : Leads (.dbSqTail fn q v sec) s P := ⟨_, rfl, h⟩

theorem leads_dbCqHead (h : P (s.doorbell fn q sec (fun z => z.newHead q (v % 65536)))) : Leads (.dbCqHead fn q v sec) s P := ⟨_, rfl, h⟩

end Leads

/-- A RESET acts on its queue, then tells the function of a queue that another port resets (R78, Table 15.9). -/
def State.resetBy (p : Port) (q : Nat) (l : List Nat) (z y : State) : State :=
  if (z.queue q).isBound && !(z.queue q).isLink && !ownPort (z.queue q) p then (y.resetQueue q l).fnEvent (z.queue q).fn 2 else y.resetQueue q l

theorem resetBy_q (p : Port) (l : List Nat) (z : State) : (State.resetBy p q l z s).q = (s.resetQueue q l).q := by
  unfold State.resetBy
  split
  · exact fnEvent_q ..
  · rfl

theorem leads_queueReset {p : Port} {l : List Nat} {P : State → Prop} (h : P (s.qctl p q true fun z =>
    z.qctlIn q (decide ((z.queue q).st = .active) || decide ((z.queue q).st = .paused) || decide ((z.queue q).st = .frozen))
      (State.resetBy p q l z))) : Leads (.queueReset p q l) s P := ⟨_, rfl, h⟩

/-- Settles O7, by what a control command, a doorbell, a RESET and its end leave of the queue. -/
theorem queueControlTakesEffect : Obligations.QueueControlTakesEffect := by
  unfold Obligations.QueueControlTakesEffect
  refine ⟨?enable, ?enableFails, ?enableRefused, ?enableCounted, ?pause, ?pauseRefused, ?pauseCounted, ?resume, ?resumeRefused,
    ?resumeCounted, ?reset, ?resetRefused, ?resetCounted, ?resetEnds, ?unbindEnds, ?tail, ?tailRefused, ?tailFrozen, ?tailIdle,
    ?tailForeign, ?tailInsecure, ?head, ?headRefused, ?headFrozen, ?headIdle, ?headForeign, ?headInsecure, ?window⟩
  case enable =>
    intro s p q ha hc hst hr
    refine leads_queueEnable ?_
    rw [qctlIn_acts ha hc (by simpa using hst)]
    exact enableQueue_active ((ringCheck_lastCtl (s := s.dropStage p) 0).trans hr)
  case enableFails =>
    intro s p q ha hc hst hr
    refine leads_queueEnable ?_
    have hk : ((s.dropStage p).setQueue q { s.queue q with lastCtl := 0 }).ringCheck q = s.ringCheck q :=
      ringCheck_lastCtl (s := s.dropStage p) 0
    rw [qctlIn_acts ha hc (by simpa using hst), enableQueue_refused (hk ▸ hr)]
    exact ⟨by simpa using hst, hk⟩
  case enableRefused =>
    exact fun s p q ha hc hst => leads_queueEnable (qctlIn_refused ha hc (by simpa using hst)).1
  case enableCounted => exact fun s p q ha hc => leads_queueEnable (qctl_counted_effect ha hc)
  case pause =>
    intro s p q ha hc hst
    refine leads_queuePause ?_
    rw [qctlIn_acts ha hc (by simpa using hst)]
    simp
  case pauseRefused => exact fun s p q ha hc hst => leads_queuePause (qctlIn_refused ha hc (by simpa using hst)).1
  case pauseCounted => exact fun s p q ha hc => leads_queuePause (qctl_counted_effect ha hc)
  case resume =>
    intro s p q ha hc hst
    refine leads_queueResume ?_
    rw [qctlIn_acts ha hc (by simpa using hst)]
    simp
  case resumeRefused => exact fun s p q ha hc hst => leads_queueResume (qctlIn_refused ha hc (by simpa using hst)).1
  case resumeCounted => exact fun s p q ha hc => leads_queueResume (qctl_counted_effect ha hc)
  case reset =>
    intro s p q l ha hc hst
    refine leads_queueReset ?_
    rw [qctlIn_acts ha hc (by simpa [or_assoc] using hst)]
    obtain ⟨h1, h2, h3, h4, h5⟩ := resetQueue_effect (s := (s.dropStage p).setQueue q { s.queue q with lastCtl := 0 }) (q := q) l
    have hq := resetBy_q (s := (s.dropStage p).setQueue q { s.queue q with lastCtl := 0 }) (q := q) p l (s.dropStage p)
    rw [queue_of_q hq]
    exact ⟨h1, h2, h3, h4.trans (by simp), fun d hd => by rw [desc_of_q hq]; exact h5 d hd⟩
  case resetRefused =>
    intro s p q l ha hc hst
    refine leads_queueReset (qctlIn_refused ha hc ?_)
    rcases hst with h | h <;> simp [h]
  case resetCounted => exact fun s p q l ha hc => leads_queueReset (qctl_counted_effect ha hc)
  case resetEnds =>
    intro s q hst hf hn hu
    refine leads_queueResetComplete ?_
    obtain ⟨z, he, hz, -⟩ := resetDone_eq hst hf hn
    rw [he, unbindQueue_unasked (by rw [hz]; exact hu), hz]
    exact ⟨rfl, rfl, rfl, rfl⟩
  case unbindEnds =>
    intro s q d x hst hf hn hu hd hx
    refine leads_queueResetComplete ?_
    obtain ⟨z, he, hz, hdescs⟩ := resetDone_eq hst hf hn
    rw [he]
    refine unbindQueue_ends (by rw [hz]; exact hu) (by rw [hz]; rfl) (x := x) ?_ hx
    rw [State.desc?, hdescs]
    exact hd
  case tail =>
    intro s n q v sec ha hi ho hst hv
    refine leads_dbSqTail ?_
    rw [doorbell_acts ha hi ho hst, newTail_taken (s := s.dropStage (fnPort n)) hv, dropStage_queue]
  case tailRefused =>
    intro s n q v sec ha hi ho hst hv
    refine leads_dbSqTail ?_
    rw [doorbell_acts ha hi ho hst, newTail_refused (s := s.dropStage (fnPort n)) hv]
    obtain ⟨htail, -, hwin⟩ := refuse_window (s := s.dropStage (fnPort n)) (q := q)
    exact ⟨htail, hwin⟩
  case tailFrozen => exact fun s n q v sec ha hi ho hst => leads_dbSqTail (doorbell_frozen ha hi ho hst)
  case tailIdle => exact fun s n q v sec ha hi ho hst => leads_dbSqTail (doorbell_idle ha hi ho hst)
  case tailForeign => exact fun s n q v sec ha hi ho => leads_dbSqTail (doorbell_foreign ha hi ho)
  case tailInsecure => exact fun s n q v sec ha hi => leads_dbSqTail (doorbell_insecure ha hi)
  case head =>
    intro s n q v sec ha hi ho hst hv hr
    refine leads_dbCqHead ?_
    rw [doorbell_acts ha hi ho hst, newHead_taken (s := s.dropStage (fnPort n)) hv hr, dropStage_queue]
  case headRefused =>
    intro s n q v sec ha hi ho hst hv
    refine leads_dbCqHead ?_
    rw [doorbell_acts ha hi ho hst, newHead_refused (s := s.dropStage (fnPort n)) hv]
    obtain ⟨-, hhead, hwin⟩ := refuse_window (s := s.dropStage (fnPort n)) (q := q)
    exact ⟨hhead, hwin⟩
  case headFrozen => exact fun s n q v sec ha hi ho hst => leads_dbCqHead (doorbell_frozen ha hi ho hst)
  case headIdle => exact fun s n q v sec ha hi ho hst => leads_dbCqHead (doorbell_idle ha hi ho hst)
  case headForeign => exact fun s n q v sec ha hi ho => leads_dbCqHead (doorbell_foreign ha hi ho)
  case headInsecure => exact fun s n q v sec ha hi => leads_dbCqHead (doorbell_insecure ha hi)
  case window => exact fun s q => ⟨_, rfl, by simp⟩

end Sys2Proof.Machine
end

section
/-!
PROOFS. Link traffic: the statement on it takes every descriptor table, also one that lists a number twice, and fails there.
-/
namespace Sys2Proof.Machine

/-! ## A failed tag on the 16th message, for a command that the table lists twice -/

/-- A WRITE that waits for the data of its pull. -/
def pullingWrite : Desc := { q := 20, e := { opcode := 0x20, tenant := 5 }, stage := .wait .dataIn }

/-- Its pull. -/
def openPull : Pull := { d := 3, queue := 20, xtag := 0, off := 0, count := 9, asked := true }

/-- The DATA flit that answers it, with a tag that fails. -/
def forgedData : RxFlit := { type := 5, vc := 1, session := 1, queue := 20, verdict := some false }

/-- An ACTIVE link with that flit, whose session has met 15 failures within the last second. -/
def failingLink : Link :=
  { st := .active, rxq := [forgedData], sessions := [(1, { bound := true, isOpen := true, tenant := 5, fails := List.replicate 15 0 })],
    pulls := [openPull] }

/-- Descriptor 3 is listed twice: the table is not in the form that the model's operations keep. -/
def listedTwice : State :=
  { ({} : State) with
    lk := { links := [(2, failingLink)] },
    q := { tab := [(20, { tenant := 5, origin := 2, st := .active })], descs := [(3, pullingWrite), (3, pullingWrite)] } }

/-- The failed tag ends the command in the first entry of the table; the session closes with it and takes the command of the second entry
back to its resource wait (R414), which puts descriptor 3 into that wait again. -/
theorem forgedData_reopens : (((execData 2 [] listedTwice).after listedTwice).desc 3).stage = .wait .link := by decide +kernel

/-- Refutes O20: in the clause of a DATA flit whose tag fails, the table may list the command's number twice. The 16th failure closes the
session, and the entry that has not ended takes the ended command back to its wait for the link. -/
theorem not_linkTrafficComplete : ¬ Obligations.LinkTrafficComplete := by
  unfold Obligations.LinkTrafficComplete
  intro h
  obtain ⟨-, -, -, -, -, -, -, -, -, -, -, -, -, hforged, -⟩ := h
  obtain ⟨t, he, ⟨hdone, -⟩, -⟩ := hforged listedTwice 2 [] forgedData openPull pullingWrite rfl rfl rfl rfl rfl ⟨rfl, rfl⟩
  have ht : (execData 2 [] listedTwice).after listedTwice = t := congrArg (Res.after · listedTwice) he
  have hwait : (t.desc 3).stage = .wait .link := ht ▸ forgedData_reopens
  cases hwait.symm.trans hdone

end Sys2Proof.Machine
end

section
/-!
PROOFS. What the end of a command leaves as it is: fences, memory, the host port and the fields of the engines, and what it does to the work of the
command.
-/
namespace Sys2Proof.Machine

variable {s t u : State}

/-! ## Fields that ends of commands and accesses of memory do not write -/

/-- A field of one of the blocks FN, CR, PJ, PL and HP. -/
abbrev Fld.Apart (f : Fld) : Prop := f.Fits ∧ f.blk ∈ [2, 4, 6, 7, 13]

/-- A field of another block. -/
abbrev Fld.Elsewhere (f : Fld) : Prop := f.Fits ∧ f.blk ∉ [2, 4, 6, 7, 13]

theorem fld_setFld_apart {f g : Fld} (hf : f.Elsewhere) (hg : g.Apart) (v i j : Nat) : (s.setFld f v i).fld g j = s.fld g j := by
  rw [State.fld_setFld, if_neg]
  intro hk
  obtain ⟨-, hb, -⟩ := Fld.key_inj hf.1 hg.1 hk
  exact hf.2 (hb ▸ hg.2)

/-- A field after another field of the engines' blocks is set. -/
theorem fld_setFld_ne {f g : Fld} (hf : f.Fits) (hg : g.Fits) (h : (f.blk, f.off, f.lo) ≠ (g.blk, g.off, g.lo)) (v i j : Nat) :
    (s.setFld f v i).fld g j = s.fld g j := by
  rw [State.fld_setFld, if_neg]
  intro hk
  obtain ⟨-, hb, ho, hl⟩ := Fld.key_inj hf hg hk
  exact h (by rw [hb, ho, hl])

/-! ## What an end keeps -/

/-- From one state to another commands have ended, with all that it stops: queues, fences, memory, the host port, and the fields of the engines'
blocks are as they were, what was sent stands, and the placement engine has at most lost its command. -/
structure EndKeeps (s t : State) : Prop where
  tab : t.q.tab = s.q.tab
  fences : t.fn.fences = s.fn.fences
  mem : t.mem = s.mem
  hp : t.hp = s.hp
  ir : t.ir = s.ir
  sent : s.outbox <+: t.outbox
  engine : t.pl.running = none ∨ t.pl.running = s.pl.running
  flds : ∀ g : Fld, g.Apart → ∀ i, t.fld g i = s.fld g i

theorem EndKeeps.refl : EndKeeps s s := ⟨rfl, rfl, rfl, rfl, rfl, List.prefix_refl _, .inr rfl, fun _ _ _ => rfl⟩

theorem EndKeeps.trans (h : EndKeeps s t) (k : EndKeeps t u) : EndKeeps s u where
  tab := k.tab.trans h.tab
  fences := k.fences.trans h.fences
  mem := k.mem.trans h.mem
  hp := k.hp.trans h.hp
  ir := k.ir.trans h.ir
  sent := h.sent.trans k.sent
  engine := by
    rcases k.engine with hk | hk
    · exact .inl hk
    · rw [hk]
      exact h.engine
  flds g hg i := (k.flds g hg i).trans (h.flds g hg i)

/-- Steps that each keep all this keep it. -/
theorem EndKeeps.foldl {α : Type} {f : State → α → State} (h : ∀ z a, EndKeeps z (f z a)) (l : List α) : EndKeeps s (l.foldl f s) :=
  foldl_keeps (EndKeeps s) f (fun z a k => k.trans (h z a)) l s .refl

theorem endKeeps_setFld {f : Fld} (hf : f.Elsewhere) (v i : Nat) : EndKeeps s (s.setFld f v i) :=
  ⟨rfl, rfl, rfl, rfl, rfl, List.prefix_refl _, .inr rfl, fun _ hg j => fld_setFld_apart hf hg v i j⟩

/-- The records of maps, errors, carrels, projection units and descriptors are none of it. -/
theorem endKeeps_rest (m : MapSt) (e : ErSt) (c : CrSt) (p : KV PjUnit) (d : KV Desc) :
    EndKeeps s { s with map := m, er := e, cr := c, pj := p, q := { s.q with descs := d } } :=
  ⟨rfl, rfl, rfl, rfl, rfl, List.prefix_refl _, .inr rfl, fun _ _ _ => rfl⟩

/-- Nor is what a link sends. -/
theorem endKeeps_sends (k : LkSt) (o : List Msg) : EndKeeps s { s with lk := k, outbox := s.outbox ++ o } :=
  ⟨rfl, rfl, rfl, rfl, rfl, List.prefix_append _ _, .inr rfl, fun _ _ _ => rfl⟩

/-! ## What a link sends -/

theorem pumpOne_frame (l : Nat) : ∃ k o, s.pumpOne l = { s with lk := k, outbox := s.outbox ++ o } := by
  have same : ∃ k o, s = { s with lk := k, outbox := s.outbox ++ o } := ⟨s.lk, [], by simp⟩
  unfold State.pumpOne
  dsimp only
  split
  · exact same
  · split
    · exact same
    · exact ⟨_, _, rfl⟩

theorem pump_frame (l n : Nat) : ∃ k o, s.pump l n = { s with lk := k, outbox := s.outbox ++ o } := by
  induction n generalizing s with
  | zero => exact ⟨s.lk, [], by simp [State.pump]⟩
  | succ n ih =>
    obtain ⟨k, o, h⟩ := pumpOne_frame (s := s) l
    obtain ⟨k', o', h'⟩ := ih (s := s.pumpOne l)
    refine ⟨k', o ++ o', ?_⟩
    unfold State.pump
    rw [h', h]
    simp

/-- Messages that a link sends change its record and what was sent, nothing else (R385). -/
theorem sendMsgs_frame (l : Nat) (ms : List (List Flit)) (cq : Nat) :
    ∃ k o, s.sendMsgs l ms cq = { s with lk := k, outbox := s.outbox ++ o } := by
  unfold State.sendMsgs
  extract_lets x ok now seqd y w z
  have hy : y = { s with outbox := s.outbox ++ now.map (.flit l) } := foldl_emit ..
  obtain ⟨k, o, h⟩ := pump_frame (s := z) l (seqd.length + x.waiting.length)
  refine ⟨k, now.map (.flit l) ++ o, ?_⟩
  rw [h]
  simp [z, hy, State.setLink]

theorem sendFlits_frame (l : Nat) (fs : List Flit) : ∃ k o, s.sendFlits l fs = { s with lk := k, outbox := s.outbox ++ o } :=
  sendMsgs_frame ..

theorem sendFlit_frame (l : Nat) (f : Flit) : ∃ k o, s.sendFlit l f = { s with lk := k, outbox := s.outbox ++ o } :=
  sendMsgs_frame ..

/-! ## What an end stops -/

theorem endKeeps_leaveWindow (d : Nat) : EndKeeps s (s.leaveWindow d) := by
  unfold State.leaveWindow
  extract_lets x t z
  have hz : EndKeeps s z := endKeeps_setFld (by decide) 0 t
  split
  · split
    · exact (hz.trans (endKeeps_setFld (by decide) 1 t)).trans (endKeeps_rest ..)
    · exact hz
  · exact .refl

/-- The rest of a release that is stopped ends with a flit (R579). -/
theorem cutRelease_frame (d : Nat) : ∃ k o, s.cutRelease d = { s with lk := k, outbox := s.outbox ++ o } := by
  unfold State.cutRelease
  extract_lets x q i begun y z
  split
  · obtain ⟨k, o, h⟩ := sendFlits_frame (s := z) q.origin
      [{ type := 5, vc := 1, session := i, queue := x.outQ, xtag := x.xtag, poison := true, last := true }]
    exact ⟨k, o, by rw [h]; rfl⟩
  · exact ⟨s.lk, [], by simp⟩

theorem endKeeps_cutRelease (d : Nat) : EndKeeps s (s.cutRelease d) := by
  obtain ⟨k, o, h⟩ := cutRelease_frame (s := s) d
  rw [h]
  exact endKeeps_sends k o

theorem endKeeps_recoveryEnd (t i : Nat) (ok : Bool) : EndKeeps s (s.recoveryEnd t i ok) := by
  obtain ⟨e, h⟩ := recoveryEnd_frame (s := s) t i ok
  rw [h]
  exact endKeeps_rest ..

theorem endKeeps_setCluster (k : Nat) (x : Cluster) : EndKeeps s (s.setCluster k x) := by
  unfold State.setCluster
  dsimp only
  split
  · exact (endKeeps_setFld (by decide) 0 (20 + k)).trans (endKeeps_rest ..)
  · exact endKeeps_rest ..

theorem endKeeps_freeCarrel (c : Nat) : EndKeeps s (s.freeCarrel c) := by
  have hc : EndKeeps s (s.setCarrel c (s.carrel c).idle) := endKeeps_rest ..
  unfold State.freeCarrel State.clusterDrained
  split
  · exact hc.trans (endKeeps_setCluster ..)
  · exact hc

theorem endKeeps_stopTasks (d : Nat) : EndKeeps s (s.stopTasks d) := by
  unfold State.stopTasks
  extract_lets c y z
  have hy : EndKeeps s y := .foldl (fun _ _ => endKeeps_recoveryEnd ..) _
  have hz : EndKeeps y z := endKeeps_rest ..
  exact (hy.trans hz).trans (.foldl (fun _ _ => endKeeps_freeCarrel _) _)

theorem endKeeps_leavePj (d : Nat) : EndKeeps s (s.leavePj d) :=
  .foldl (fun _ _ => endKeeps_rest ..) _

/-- A suspension or resumption that is stopped changes the state of its stream alone (R134). -/
theorem unsuspend_frame (d : Nat) : ∃ k, s.unsuspend d = { s with fn := { s.fn with streams := k } } := by
  unfold State.unsuspend
  extract_lets x i y put
  split
  · exact ⟨s.fn.streams, rfl⟩
  · split
    · exact ⟨_, rfl⟩
    · split
      · exact ⟨_, rfl⟩
      · exact ⟨s.fn.streams, rfl⟩

theorem endKeeps_unsuspend (d : Nat) : EndKeeps s (s.unsuspend d) := by
  obtain ⟨k, h⟩ := unsuspend_frame (s := s) d
  rw [h]
  exact ⟨rfl, rfl, rfl, rfl, rfl, List.prefix_refl _, .inr rfl, fun _ _ _ => rfl⟩

/-- What a command leaves of the placement engine: error records apart, its command if that was this one. -/
theorem leaveEngine_frame (d : Nat) : ∃ e r, s.leaveEngine d =
    { s with er := e, pl := { s.pl with running := if s.pl.running = some d then none else s.pl.running, redone := r } } := by
  obtain ⟨e, h⟩ := recoveryEnd_frame (s := s) 8 0 true
  unfold State.leaveEngine
  dsimp only
  split
  · exact ⟨e, _, by rw [h]⟩
  · exact ⟨s.er, _, rfl⟩

theorem endKeeps_leaveEngine (d : Nat) : EndKeeps s (s.leaveEngine d) := by
  obtain ⟨e, r, h⟩ := leaveEngine_frame (s := s) d
  rw [h]
  refine ⟨rfl, rfl, rfl, rfl, rfl, List.prefix_refl _, ?_, fun _ _ _ => rfl⟩
  show (if s.pl.running = some d then none else s.pl.running) = none ∨ (if s.pl.running = some d then none else s.pl.running) = s.pl.running
  split
  · exact .inl rfl
  · exact .inr rfl

/-- All that a command has begun is stopped, up to the placement engine. -/
theorem endKeeps_stopped (d : Nat) : EndKeeps s ((((s.cutRelease d).stopTasks d).leavePj d).unsuspend d) :=
  (((endKeeps_cutRelease d).trans (endKeeps_stopTasks d)).trans (endKeeps_leavePj d)).trans (endKeeps_unsuspend d)

theorem endKeeps_finish (d : Nat) (st : Status) (res : Result) (detail : Nat) : EndKeeps s (s.finish d st res detail) := by
  unfold State.finish
  split
  · exact .refl
  · split
    · exact .refl
    · exact (((endKeeps_leaveWindow d).trans (endKeeps_stopped d)).trans (endKeeps_leaveEngine d)).trans (endKeeps_rest ..)

/-! ## What an end does -/

variable {d : Nat} {x : Desc}

/-- Streams are as they were when the command is no suspension and no resumption. -/
theorem finish_fn (h : s.desc? d = some x) (hs : x.e.opcode ≠ 0x62) (hr : x.e.opcode ≠ 0x63) (st : Status) (res : Result) (detail : Nat) :
    (s.finish d st res detail).fn = s.fn := by
  have window (z : State) : (z.leaveWindow d).fn = z.fn := by
    unfold State.leaveWindow
    dsimp only
    repeat' split
    all_goals rfl
  have cut (z : State) : (z.cutRelease d).fn = z.fn := by
    obtain ⟨k, o, e⟩ := cutRelease_frame (s := z) d
    rw [e]
  have ended (z : State) (k : Nat) : (z.recoveryEnd 6 k true).fn = z.fn := by
    obtain ⟨e, he⟩ := recoveryEnd_frame (s := z) 6 k true
    rw [he]
  have freed (z : State) (c : Nat) : (z.freeCarrel c).fn = z.fn := by
    unfold State.freeCarrel State.clusterDrained
    split
    · exact State.setCluster_fn ..
    · rfl
  have tasks (z : State) : (z.stopTasks d).fn = z.fn := by
    unfold State.stopTasks
    extract_lets c y w
    have hy : y.fn = z.fn := foldl_keeps (fun v => v.fn = z.fn) _ (fun v k e => (ended v k).trans e) _ z rfl
    exact foldl_keeps (fun v => v.fn = z.fn) _ (fun v c e => (freed v c).trans e) _ w hy
  have units (z : State) : (z.leavePj d).fn = z.fn := by
    unfold State.leavePj
    refine foldl_keeps (fun v => v.fn = z.fn) _ (fun v u e => ?_) _ z rfl
    exact e
  have suspension (z : State) (hz : z.q = s.q) : (z.unsuspend d).fn = z.fn := by
    have hx : z.desc d = x := (desc_of_q hz d).trans (desc_of_some h)
    simp [State.unsuspend, hx, hs, hr]
  have engine (z : State) : (z.leaveEngine d).fn = z.fn := by
    obtain ⟨e, r, he⟩ := leaveEngine_frame (s := z) d
    rw [he]
  unfold State.finish State.stopWork
  rw [h]
  dsimp only
  split
  · rfl
  · rw [State.setDesc_fn, engine, suspension _ (by simp), units, tasks, cut, window]

/-- A command that ends leaves the placement engine free if it held it. -/
theorem finish_frees (h : s.desc? d = some x) (hx : x.stage ≠ .done) (hr : s.pl.running = some d) (st : Status) (res : Result) (detail : Nat) :
    (s.finish d st res detail).pl.running = none := by
  have hz : EndKeeps s ((((((s.leaveWindow d).cutRelease d).stopTasks d).leavePj d)).unsuspend d) :=
    (endKeeps_leaveWindow d).trans (endKeeps_stopped d)
  unfold State.finish State.stopWork
  rw [h]
  simp only [hx, decide_false, Bool.false_and, Bool.false_eq_true, if_false, State.setDesc_pl]
  obtain ⟨e, r, he⟩ := leaveEngine_frame (s := ((((s.leaveWindow d).cutRelease d).stopTasks d).leavePj d).unsuspend d) d
  rw [he]
  show (if _ then _ else _) = none
  rcases hz.engine with hn | hn <;> rw [hn]
  · split <;> rfl
  · rw [if_pos hr]

/-- A command whose status is not final ends, and fences stay. -/
theorem finish_ends (h : s.desc? d = some x) (hx : x.stage ≠ .done) (st : Status) (res : Result) (detail : Nat) :
    Ended (s.finish d st res detail) d st := (finish_ended d x st res detail h hx).1

theorem fence_of_fn (h : t.fn.fences = s.fn.fences) (g : Nat) : t.fence g = s.fence g := by
  rw [State.fence, h, State.fence]

theorem stream_of_fn (h : t.fn.streams = s.fn.streams) (i : Nat) : t.stream i = s.stream i := by
  rw [State.stream, h, State.stream]

/-- The end of a command changes no fence: its signal comes with its completion (R96). -/
@[simp] theorem fence_finish (d : Nat) (st : Status) (res : Result) (detail g : Nat) : (s.finish d st res detail).fence g = s.fence g :=
  fence_of_fn (endKeeps_finish ..).fences g

/-! ## Stages -/

theorem stage_eq (h : s.desc? d = some x) (g : Stage) : s.stage d g = s.setDesc d (x.to s.now g) := by
  rw [State.stage, h]

theorem stage_stage (h : s.desc? d = some x) (g : Stage) : ((s.stage d g).desc d).stage = g := by
  rw [stage_eq h, State.desc_setDesc, if_pos rfl]
  rfl

theorem stage_fn (d : Nat) (g : Stage) : (s.stage d g).fn = s.fn := by
  unfold State.stage
  split <;> rfl

/-- A command whose operation may run answers to its opcode. -/
theorem runs?_of_runs {op : Nat} (h : Runs s d op x) : x.runs? op = true := by
  obtain ⟨-, hop, hst⟩ := h
  simp [Desc.runs?, hop, hst]

/-- It is not final, nor is one that waits. -/
theorem not_done_of_runs {op : Nat} (h : Runs s d op x) : x.stage ≠ .done := by
  rw [h.2.2]
  nofun

theorem not_done_of_waits {w : Wait} (h : Waits s d w x) : x.stage ≠ .done := by
  rw [h.2]
  nofun

end Sys2Proof.Machine
end

section
/-!
PROOFS. Fences: what signals, resets, bindings and forced poison leave of them, and the statement on the fence commands.
-/
namespace Sys2Proof.Machine

variable {s t : State} {d : Nat} {x : Desc}

/-! ## Operations of a fence -/

theorem signalFence_q (f v : Nat) : (s.signalFence f v).1.q = s.q := by
  unfold State.signalFence
  dsimp only
  split
  · rfl
  · split <;> rfl

/-- A fence after a signal of a value: poison of an earlier tick refuses it, and a lower value changes nothing (R139, R144). -/
def Fence.signalled (y : Fence) (now v : Nat) : Fence := { y with value := if y.poison && y.since != some now then y.value else max y.value v }

/-- What a signal of a fence below the maximum leaves of the fences. -/
theorem fence_signalFence {f : Nat} (hf : (s.fence f).value ≠ fenceMax) (n g : Nat) : (s.signalFence f (min fenceMax n)).1.fence g =
    if f = g then (s.fence f).signalled s.now (min fenceMax n) else s.fence g := by
  unfold Fence.signalled
  generalize hb : ((s.fence f).poison && (s.fence f).since != some s.now) = b
  have same (v : Nat) (hv : v = (s.fence f).value) : s.fence g = if f = g then { s.fence f with value := v } else s.fence g := by
    subst hv
    split
    · next hg => rw [← hg]
    · rfl
  unfold State.signalFence
  simp only [hf, hb, if_false]
  cases b with
  | true => exact same _ rfl
  | false =>
    by_cases hv : min fenceMax n ≤ (s.fence f).value
    · simp only [hv, decide_true, Bool.or_true, if_true]
      exact same _ (Nat.max_eq_left hv)
    · have hm : min (min fenceMax n) fenceMax = max (s.fence f).value (min fenceMax n) := by omega
      simp only [hv, decide_false, Bool.or_false, Bool.false_eq_true, if_false, State.fence_setFence, hm]

/-- What poison leaves of the fences (R144). -/
theorem fence_poisonFence (f g : Nat) : (s.poisonFence f).fence g =
    if f = g then { s.fence f with poison := true, since := if (s.fence f).poison then (s.fence f).since else some s.now } else s.fence g :=
  State.fence_setFence ..

theorem poisonFences_q (l : List Nat) : (s.poisonFences l).q = s.q := by
  induction l generalizing s with
  | nil => rfl
  | cons f l ih => exact ih

theorem fence_poisonFences_outside (l : List Nat) {g : Nat} (h : g ∉ l) : (s.poisonFences l).fence g = s.fence g := by
  induction l generalizing s with
  | nil => rfl
  | cons f l ih =>
    obtain ⟨hf, hl⟩ : g ≠ f ∧ g ∉ l := by simpa using h
    unfold State.poisonFences
    rw [ih hl, fence_poisonFence, if_neg (Ne.symm hf)]

/-- A fence that is named twice keeps the tick of its first poison. -/
theorem fence_poisonFences_inside (l : List Nat) {g : Nat} (h : g ∈ l) : (s.poisonFences l).fence g =
    { s.fence g with poison := true, since := if (s.fence g).poison then (s.fence g).since else some s.now } := by
  induction l generalizing s with
  | nil => cases h
  | cons f l ih =>
    unfold State.poisonFences
    by_cases hl : g ∈ l
    · have hn : (s.poisonFence f).now = s.now := rfl
      rw [ih hl, hn, fence_poisonFence]
      by_cases hf : f = g
      · subst hf
        simp
      · rw [if_neg hf]
    · obtain rfl : g = f := (List.mem_cons.1 h).resolve_right hl
      rw [fence_poisonFences_outside l hl, fence_poisonFence, if_pos rfl]

/-! ## Commands that end -/

/-- A listed command ends from a state with the same descriptors: it has its status, and fences stay. -/
theorem ends_fences (hq : t.q = s.q) (h : s.desc? d = some x) (hx : x.stage ≠ .done) (st : Status) (res : Result) (detail : Nat) :
    Ended (t.finish d st res detail) d st ∧ ∀ g, (t.finish d st res detail).fence g = t.fence g :=
  ⟨finish_ends ((desc?_of_q hq d).trans h) hx st res detail, fence_finish d st res detail⟩

/-- The same where one fence was set before. -/
theorem ends_fenceSet {f : Nat} {y : Fence} (h : s.desc? d = some x) (hx : x.stage ≠ .done) (st : Status) (res : Result) :
    Ended ((s.setFence f y).finish d st res) d st ∧ ((s.setFence f y).finish d st res).fence f = y ∧
      ∀ g, g ≠ f → ((s.setFence f y).finish d st res).fence g = s.fence g := by
  obtain ⟨he, hf⟩ := ends_fences (t := s.setFence f y) rfl h hx st res 0
  refine ⟨he, ?_, fun g hg => ?_⟩
  · rw [hf, State.fence_setFence, if_pos rfl]
  · rw [hf, State.fence_setFence, if_neg (Ne.symm hg)]

/-- The fence that a reset or UNBIND leaves (R146, R150). -/
def Fence.taken (y : Fence) (unbind : Bool) : Fence :=
  { (if unbind then { y with bound := false, tenant := 0 } else y) with value := 0, poison := false, since := none }

/-- A reset takes effect: its command ends OK, its fence is reset, the others stay (R146, R150). -/
theorem fenceTake_effect (h : s.desc? d = some x) (hx : x.stage ≠ .done) : Ended (s.fenceTake d) d .ok ∧
    (s.fenceTake d).fence (bits x.e.opA 0 12) = (s.fence (bits x.e.opA 0 12)).taken (x.e.flag 9) ∧
    ∀ g, g ≠ bits x.e.opA 0 12 → (s.fenceTake d).fence g = s.fence g := by
  unfold State.fenceTake
  rw [desc_of_some h]
  exact ends_fenceSet h hx .ok _

theorem taken_reset (y : Fence) (u : Bool) : (y.taken u).value = 0 ∧ (y.taken u).poison = false ∧ (u = true → (y.taken u).bound = false) := by
  cases u <;> simp [Fence.taken]

/-- A reset with waiters from before this tick ends E_BUSY or waits (R146). -/
theorem fenceResetCmd_waits (h : s.desc? d = some x) (hx : x.stage ≠ .done) (hw : s.oldWaiters (bits x.e.opA 0 12) ≠ 0) :
    (if s.budget x.e = 0 then Ended (s.fenceResetCmd d) d .busy else ((s.fenceResetCmd d).desc d).stage = .wait .fenceIdle) ∧
      ∀ g, (s.fenceResetCmd d).fence g = s.fence g := by
  unfold State.fenceResetCmd
  rw [desc_of_some h]
  simp only [hw, if_false]
  by_cases hb : s.budget x.e = 0
  · simp only [hb, if_true]
    exact ends_fences rfl h hx ..
  · simp only [hb, if_false]
    exact ⟨stage_stage h _, fun g => fence_of_fn (by rw [stage_fn]) g⟩

theorem fenceResetCmd_takes (h : s.desc? d = some x) (hw : s.oldWaiters (bits x.e.opA 0 12) = 0) : s.fenceResetCmd d = s.fenceTake d := by
  unfold State.fenceResetCmd
  rw [desc_of_some h]
  simp only [hw, if_true]

/-! ## What each command does -/

theorem fenceSignal_eq (h : Runs s d 0x01 x) (hv : (s.fence (bits x.e.opA 0 12)).value ≠ fenceMax) : exec (.fenceSignal d) s =
    .next (((s.signalFence (bits x.e.opA 0 12) (min fenceMax (if x.e.flag 8 then (s.fence (bits x.e.opA 0 12)).value + x.e.opB else x.e.opB))).1).finish
      d .ok ((s.signalFence (bits x.e.opA 0 12) (min fenceMax (if x.e.flag 8 then (s.fence (bits x.e.opA 0 12)).value + x.e.opB else x.e.opB))).1.fenceResult
        (bits x.e.opA 0 12))) := by
  show execFenceSignal d s = _
  simp [execFenceSignal, desc_of_some h.1, runs?_of_runs h, hv]

theorem fenceSignal_full (h : Runs s d 0x01 x) (hv : (s.fence (bits x.e.opA 0 12)).value = fenceMax) : exec (.fenceSignal d) s =
    .next ((s.bump F_FN_SAT_CNT_SAT).finish d .param (s.fenceResult (bits x.e.opA 0 12))) := by
  show execFenceSignal d s = _
  simp [execFenceSignal, desc_of_some h.1, runs?_of_runs h, hv]

/-- The descriptor of a FENCE_WAIT in its own wait. -/
def Desc.inOwnWait (x : Desc) (now : Nat) : Desc := ({ x with aux := 1 } : Desc).to now (.wait .fence)

theorem fenceWait_eq (h : Runs s d 0x02 x) : exec (.fenceWait d) s =
    .next (if (s.fence (bits x.e.opA 0 12)).poison then s.finish d .fencePoison
      else if x.e.opB ≤ (s.fence (bits x.e.opA 0 12)).value then
        (s.setDesc d { x.inOwnWait s.now with met := some (s.now, (x.inOwnWait s.now).awaits) }).finish d .ok
      else s.setDesc d (x.inOwnWait s.now)) := by
  show execFenceWait d s = _
  simp only [execFenceWait, desc_of_some h.1, runs?_of_runs h]
  rfl

/-- The descriptor of a command whose fence wait is met in this tick (R98). -/
def Desc.waitMetAt (x : Desc) (now : Nat) : Desc := { x with met := some (now, x.awaits) }

theorem fenceWaitSatisfied_packet (h : Waits s d .fence x) (ho : x.ownWait = false) (hp : (s.fence x.e.waitId).poison = false)
    (hm : waitMet (s.fence x.e.waitId) x.e.waitVal = true) :
    exec (.fenceWaitSatisfied d) s = .next ((s.setDesc d (x.waitMetAt s.now)).begin_ d) := by
  have ha : x.awaits = x.e.waitId := by simp [Desc.awaits, ho]
  show execFenceWaitSatisfied d s = _
  simp only [execFenceWaitSatisfied, desc_of_some h.1, ha, h.2, hp, ho, hm]
  simp [Desc.waitMetAt, ha, h.2]

theorem fenceWaitSatisfied_own (h : Waits s d .fence x) (ho : x.ownWait = true) (hp : (s.fence x.awaits).poison = false)
    (hm : x.e.opB ≤ (s.fence x.awaits).value) :
    exec (.fenceWaitSatisfied d) s = .next ((s.setDesc d (x.waitMetAt s.now)).finish d .ok) := by
  show execFenceWaitSatisfied d s = _
  simp [execFenceWaitSatisfied, desc_of_some h.1, h.2, hp, ho, hm, Desc.waitMetAt]

theorem fenceWaitPoisoned_eq (h : s.desc? d = some x) (hp : s.poisonable x = true) :
    exec (.fenceWaitPoisoned d) s = .next (s.finish d .fencePoison) := by
  show execFenceWaitPoisoned d s = _
  simp [execFenceWaitPoisoned, desc_of_some h, hp]

theorem fenceReset_eq (h : Runs s d 0x03 x) (h8 : x.e.flag 8 = false) (h9 : x.e.flag 9 = false) :
    exec (.fenceReset d) s = .next (s.fenceResetCmd d) := by
  show execFenceReset d s = _
  simp [execFenceReset, desc_of_some h.1, runs?_of_runs h, h8, h9]

theorem fenceUnbind_eq (h : Runs s d 0x03 x) (h9 : x.e.flag 9 = true) : exec (.fenceUnbind d) s = .next (s.fenceResetCmd d) := by
  show execFenceUnbind d s = _
  simp [execFenceUnbind, desc_of_some h.1, runs?_of_runs h, h9]

theorem fenceBind_eq (h : Runs s d 0x03 x) (h8 : x.e.flag 8 = true) : exec (.fenceBind d) s =
    .next (if (s.fence (bits x.e.opA 0 12)).bound then s.finish d .param
      else (s.setFence (bits x.e.opA 0 12) { bound := true, tenant := x.e.tenant }).finish d .ok
        ((s.setFence (bits x.e.opA 0 12) { bound := true, tenant := x.e.tenant }).fenceResult (bits x.e.opA 0 12))) := by
  show execFenceBind d s = _
  simp [execFenceBind, desc_of_some h.1, runs?_of_runs h, h8]

theorem fenceResetTakesEffect_eq (h : Waits s d .fenceIdle x) (hw : s.oldWaiters (bits x.e.opA 0 12) = 0) :
    exec (.fenceResetTakesEffect d) s = .next (s.fenceTake d) := by
  show execFenceResetTakesEffect d s = _
  simp [execFenceResetTakesEffect, desc_of_some h.1, h.2, hw]

theorem fenceResetBudgetExpired_eq (h : Waits s d .fenceIdle x) (hb : s.waitedOut x (s.budget x.e) = true) :
    exec (.fenceResetBudgetExpired d) s = .next (if s.oldWaiters (bits x.e.opA 0 12) = 0 then s.fenceTake d
      else s.finish d .busy (s.fenceResult (bits x.e.opA 0 12))) := by
  show execFenceResetBudgetExpired d s = _
  simp [execFenceResetBudgetExpired, desc_of_some h.1, h.2, hb]

/-- The fences that a FENCE_FORCE poisons (R158). -/
def State.forced (s : State) (x : Desc) : List Nat := if x.e.flag 8 then s.fencesOf x.e.tenant else [bits x.e.opA 0 12]

theorem fenceForce_eq (h : Runs s d 0x04 x) : exec (.fenceForce d) s =
    .next ((s.poisonFences (s.forced x)).finish d .ok { w0 := (s.forced x).length, w1 := ((s.forced x).map s.waiters).foldl (· + ·) 0 }) := by
  show execFenceForce d s = _
  simp only [execFenceForce, desc_of_some h.1, runs?_of_runs h]
  rfl

/-! ## A packet wait that goes on -/

/-- The place that a PLACE takes among its tenant's leaves fences, queues, links and all but its number of its descriptor (R289). -/
theorem noteTurn_effect (h : s.desc? d = some x) : ∃ n, (s.noteTurn d).desc? d = some { x with aux := n } ∧ (s.noteTurn d).fn = s.fn ∧
    (s.noteTurn d).q.tab = s.q.tab ∧ (s.noteTurn d).lk = s.lk ∧ (s.noteTurn d).ks = s.ks := by
  unfold State.noteTurn
  rw [desc_of_some h]
  dsimp only
  split
  · exact ⟨s.pl.order, (desc?_of_q (s := s.setDesc d { x with aux := s.pl.order }) rfl d).trans (by simp), rfl, rfl, rfl, rfl⟩
  · exact ⟨x.aux, h, rfl, rfl, rfl, rfl⟩

theorem pumpPulls_frame (l n : Nat) : ∃ k o, s.pumpPulls l n = { s with lk := k, outbox := s.outbox ++ o } := by
  have same (z : State) : ∃ k o, z = { z with lk := k, outbox := z.outbox ++ o } := ⟨z.lk, [], by simp⟩
  induction n generalizing s with
  | zero => exact same s
  | succ n ih =>
    unfold State.pumpPulls
    extract_lets y
    split
    · exact same s
    · split
      · exact same s
      · extract_lets tn z f
        obtain ⟨k, o, hf⟩ := sendFlit_frame (s := z) l f
        obtain ⟨k', o', hp⟩ := ih (s := z.sendFlit l f)
        refine ⟨k', o ++ o', ?_⟩
        rw [hp, hf]
        simp [z, State.setLink]

/-- A command that takes data from its link, which can pass now, pulls it (R399). -/
theorem pullData_pulls (h : s.desc? d = some x) (hr : s.sessionRetiring (s.queue x.q).origin (s.queue x.q).tenant = false)
    (hl : s.linkReady (s.queue x.q).origin (s.queue x.q).tenant = true)
    (hp : (s.link (s.queue x.q).origin).pulls.any (fun r => r.queue == x.q && r.xtag == x.xtag) = false) (n : Nat) :
    ((s.pullData d n).desc d).stage = .wait .dataIn ∧ ((s.pullData d n).desc d).data = [] ∧ (s.pullData d n).fn = s.fn := by
  unfold State.pullData
  rw [desc_of_some h]
  extract_lets _ y ps w _ z
  rw [hr, if_neg Bool.false_ne_true, hl, hp, Bool.not_false, Bool.and_self, if_pos rfl]
  obtain ⟨k, o, hp⟩ := pumpPulls_frame (s := z) y.origin ps.length
  have hd : (z.pumpPulls y.origin ps.length).desc d = ({ x with data := [] } : Desc).to s.now (.wait .dataIn) := by
    rw [hp]
    show w.desc d = _
    rw [State.desc_setDesc, if_pos rfl]
  rw [hd, hp]
  exact ⟨rfl, rfl, rfl⟩

/-- Sessions, and what they let pass, rest on the links and the key slots. -/
theorem sessionOf_of (hl : t.lk = s.lk) (l n : Nat) : t.sessionOf l n = s.sessionOf l n := by
  have h : t.link l = s.link l := by rw [State.link, hl, State.link]
  rw [State.sessionOf, h, State.sessionOf]

theorem linkReady_of (hl : t.lk = s.lk) (l n : Nat) : t.linkReady l n = s.linkReady l n := by
  have h : t.link l = s.link l := by rw [State.link, hl, State.link]
  rw [State.linkReady, sessionOf_of hl, h, State.linkReady]

theorem sessionRetiring_of (hl : t.lk = s.lk) (hk : t.ks = s.ks) (l n : Nat) : t.sessionRetiring l n = s.sessionRetiring l n := by
  have h : t.link l = s.link l := by rw [State.link, hl, State.link]
  simp only [State.sessionRetiring, sessionOf_of hl, h, State.slot, hk]

/-- A command past its fence wait that takes no data from its link may run (R92). -/
theorem begin_runs (h : s.desc? d = some x) (hp : (x.e.pulls && (s.queue x.q).isLink) = false) :
    ((s.begin_ d).desc d).stage = .ready ∧ (s.begin_ d).fn = s.fn := by
  obtain ⟨n, hd, hfn, htab, -, -⟩ := noteTurn_effect h
  have hq : (s.noteTurn d).queue x.q = s.queue x.q := by rw [State.queue, htab, State.queue]
  have he : s.begin_ d = (s.noteTurn d).stage d .ready := by
    unfold State.begin_
    simp only [desc_of_some hd, hq, hp, Bool.false_eq_true, if_false]
  rw [he]
  exact ⟨stage_stage hd _, (stage_fn d _).trans hfn⟩

/-- One that takes data from its link, which can pass now, pulls it first (R399). -/
theorem begin_pulls (h : s.desc? d = some x) (hp : x.e.pulls = true) (hi : (s.queue x.q).isLink = true)
    (hr : s.sessionRetiring (s.queue x.q).origin (s.queue x.q).tenant = false)
    (hl : s.linkReady (s.queue x.q).origin (s.queue x.q).tenant = true)
    (hx : (s.link (s.queue x.q).origin).pulls.any (fun r => r.queue == x.q && r.xtag == x.xtag) = false) :
    ((s.begin_ d).desc d).stage = .wait .dataIn ∧ ((s.begin_ d).desc d).data = [] ∧ (s.begin_ d).fn = s.fn := by
  obtain ⟨n, hd, hfn, htab, hlk, hks⟩ := noteTurn_effect h
  have hq : (s.noteTurn d).queue x.q = s.queue x.q := by rw [State.queue, htab, State.queue]
  have he : s.begin_ d = (s.noteTurn d).pullData d ((s.noteTurn d).pullBytes { x with aux := n }) := by
    unfold State.begin_
    simp only [desc_of_some hd, hq, hp, hi, Bool.and_self, if_true]
  obtain ⟨hst, hdata, hf⟩ := pullData_pulls hd (by rw [sessionRetiring_of hlk hks, hq, hr]) (by rw [linkReady_of hlk, hq, hl])
    (by rw [hq, State.link, hlk]; exact hx) ((s.noteTurn d).pullBytes { x with aux := n })
  rw [he]
  exact ⟨hst, hdata, hf.trans hfn⟩

/-! ## The statement -/

/-- Settles O4, by what each command leaves of its fence and of its descriptor. -/
theorem fenceCommandsComplete : Obligations.FenceCommandsComplete := by
  unfold Obligations.FenceCommandsComplete
  refine ⟨?signal, ?signalFull, ?wait, ?waitPoisoned, ?waitBelow, ?packet, ?packetPulls, ?ownWait, ?poisonWaiting, ?poisonMet, ?reset,
    ?resetWaits, ?unbind, ?unbindWaits, ?bind, ?bindBound, ?takes, ?expires, ?expiresTakes, ?force, ?forceAll⟩
  case signal =>
    intro s d x h hv
    refine ⟨_, fenceSignal_eq h hv, ?_⟩
    obtain ⟨he, hf⟩ := ends_fences (signalFence_q ..) h.1 (not_done_of_runs h) .ok _ 0
    refine ⟨he, ?_, fun g hg => ?_⟩
    · rw [hf, fence_signalFence hv, if_pos rfl]
      rfl
    · rw [hf, fence_signalFence hv, if_neg (Ne.symm hg)]
  case signalFull =>
    intro s d x h hv
    exact ⟨_, fenceSignal_full h hv, ends_fences (t := s.bump F_FN_SAT_CNT_SAT) rfl h.1 (not_done_of_runs h) ..⟩
  case wait =>
    intro s d x h hp hv
    refine ⟨_, fenceWait_eq h, ?_⟩
    rw [hp, if_neg Bool.false_ne_true, if_pos hv]
    exact ⟨finish_ends (x := { x.inOwnWait s.now with met := some (s.now, (x.inOwnWait s.now).awaits) })
      (by rw [desc?_setDesc, if_pos rfl]) (fun hx => nomatch hx) .., fun g => fence_finish ..⟩
  case waitPoisoned =>
    intro s d x h hp
    refine ⟨_, fenceWait_eq h, ?_⟩
    rw [hp, if_pos rfl]
    exact ends_fences rfl h.1 (not_done_of_runs h) ..
  case waitBelow =>
    intro s d x h hp hv
    refine ⟨_, fenceWait_eq h, ?_⟩
    rw [hp, if_neg Bool.false_ne_true, if_neg (Nat.not_le.2 hv)]
    have hd : (s.setDesc d (x.inOwnWait s.now)).desc d = x.inOwnWait s.now := by rw [State.desc_setDesc, if_pos rfl]
    simp only [hd]
    refine ⟨rfl, ?_, fun g => rfl⟩
    simp [Desc.ownWait, Desc.inOwnWait, Desc.to, h.2.1]
  case packet =>
    intro s d x h ho hp hm hl
    have hd : (s.setDesc d (x.waitMetAt s.now)).desc? d = some (x.waitMetAt s.now) := by rw [desc?_setDesc, if_pos rfl]
    obtain ⟨hst, hfn⟩ := begin_runs hd hl
    exact ⟨_, fenceWaitSatisfied_packet h ho hp hm, hst, fun g => fence_of_fn (by rw [hfn, State.setDesc_fn]) g⟩
  case packetPulls =>
    intro s d x h ho hp hm hpulls hi hr hl hx
    have hd : (s.setDesc d (x.waitMetAt s.now)).desc? d = some (x.waitMetAt s.now) := by rw [desc?_setDesc, if_pos rfl]
    obtain ⟨hst, hdata, hfn⟩ := begin_pulls hd hpulls hi hr hl hx
    exact ⟨_, fenceWaitSatisfied_packet h ho hp hm, hst, hdata, fun g => fence_of_fn (by rw [hfn, State.setDesc_fn]) g⟩
  case ownWait =>
    intro s d x h ho hp hv
    exact ⟨_, fenceWaitSatisfied_own h ho hp hv, finish_ends (x := x.waitMetAt s.now) (by rw [desc?_setDesc, if_pos rfl])
      (show x.stage ≠ .done from not_done_of_waits h) ..,
      fun g => fence_finish ..⟩
  case poisonWaiting =>
    intro s d x h hp
    have hw : s.poisonable x = true := by simp [State.poisonable, h.2, hp]
    exact ⟨_, fenceWaitPoisoned_eq h.1 hw, ends_fences rfl h.1 (not_done_of_waits h) ..⟩
  case poisonMet =>
    intro s d x h hp hx
    exact ⟨_, fenceWaitPoisoned_eq h hp, ends_fences rfl h hx ..⟩
  case reset =>
    intro s d x h h8 h9 hw
    obtain ⟨he, hf, ho⟩ := fenceTake_effect h.1 (not_done_of_runs h)
    refine ⟨_, fenceReset_eq h h8 h9, ?_⟩
    rw [fenceResetCmd_takes h.1 hw]
    exact ⟨he, by rw [hf, h9]; rfl, ho⟩
  case resetWaits =>
    intro s d x h h8 h9 hw
    exact ⟨_, fenceReset_eq h h8 h9, fenceResetCmd_waits h.1 (not_done_of_runs h) hw⟩
  case unbind =>
    intro s d x h h9 hw
    obtain ⟨he, hf, ho⟩ := fenceTake_effect h.1 (not_done_of_runs h)
    refine ⟨_, fenceUnbind_eq h h9, ?_⟩
    rw [fenceResetCmd_takes h.1 hw]
    exact ⟨he, by rw [hf, h9]; rfl, ho⟩
  case unbindWaits =>
    intro s d x h h9 hw
    exact ⟨_, fenceUnbind_eq h h9, fenceResetCmd_waits h.1 (not_done_of_runs h) hw⟩
  case bind =>
    intro s d x h h8 hb
    refine ⟨_, fenceBind_eq h h8, ?_⟩
    rw [hb, if_neg Bool.false_ne_true]
    exact ends_fenceSet h.1 (not_done_of_runs h) ..
  case bindBound =>
    intro s d x h h8 hb
    refine ⟨_, fenceBind_eq h h8, ?_⟩
    rw [hb, if_pos rfl]
    exact ends_fences rfl h.1 (not_done_of_runs h) ..
  case takes =>
    intro s d x h hw
    obtain ⟨he, hf, ho⟩ := fenceTake_effect h.1 (not_done_of_waits h)
    obtain ⟨hv, hp, hb⟩ := taken_reset (s.fence (bits x.e.opA 0 12)) (x.e.flag 9)
    exact ⟨_, fenceResetTakesEffect_eq h hw, he, hf ▸ hv, hf ▸ hp, hf ▸ hb, ho⟩
  case expires =>
    intro s d x h hb hw
    refine ⟨_, fenceResetBudgetExpired_eq h hb, ?_⟩
    rw [if_neg hw]
    exact ends_fences rfl h.1 (not_done_of_waits h) ..
  case expiresTakes =>
    intro s d x h hb hw
    obtain ⟨he, hf, ho⟩ := fenceTake_effect h.1 (not_done_of_waits h)
    obtain ⟨hv, hp, -⟩ := taken_reset (s.fence (bits x.e.opA 0 12)) (x.e.flag 9)
    refine ⟨_, fenceResetBudgetExpired_eq h hb, ?_⟩
    rw [if_pos hw]
    exact ⟨he, hf ▸ hv, hf ▸ hp, ho⟩
  case force =>
    intro s d x h h8
    have hl : s.forced x = [bits x.e.opA 0 12] := by simp [State.forced, h8]
    obtain ⟨he, hres, -⟩ := finish_ended (s := s.poisonFences (s.forced x)) d x .ok
      { w0 := (s.forced x).length, w1 := ((s.forced x).map s.waiters).foldl (· + ·) 0 } 0 ((desc?_of_q (poisonFences_q _) d).trans h.1) (not_done_of_runs h)
    refine ⟨_, fenceForce_eq h, he, ?_, ?_, fun g hg => ?_⟩
    · rw [fence_finish, fence_poisonFences_inside _ (by rw [hl]; exact List.mem_singleton_self _)]
    · rw [hres, hl]
      exact Nat.zero_add _
    · rw [fence_finish, fence_poisonFences_outside _ (by rw [hl]; exact fun hm => hg (List.mem_singleton.1 hm))]
  case forceAll =>
    intro s d x h h8
    have hl : s.forced x = s.fencesOf x.e.tenant := by simp [State.forced, h8]
    obtain ⟨he, hres, -⟩ := finish_ended (s := s.poisonFences (s.forced x)) d x .ok
      { w0 := (s.forced x).length, w1 := ((s.forced x).map s.waiters).foldl (· + ·) 0 } 0 ((desc?_of_q (poisonFences_q _) d).trans h.1) (not_done_of_runs h)
    refine ⟨_, fenceForce_eq h, he, ?_, fun g hg => ?_, fun g hg => ?_⟩
    · rw [hres, hl]
    · rw [fence_finish, fence_poisonFences_inside _ (hl ▸ hg)]
    · rw [fence_finish, fence_poisonFences_outside _ (hl ▸ hg)]

end Sys2Proof.Machine
end

section
/-!
PROOFS. Streams: the statement takes every descriptor table, also one that lists a number twice, and fails there.
-/
namespace Sys2Proof.Machine

/-! ## A step committed behind a number that the table lists twice -/

/-- A STEP_COMMIT of a stream that is about to run, its through-token 0. -/
def readyCommit (i seq : Nat) : Desc := { q := 20, e := { opcode := 0x25, tenant := 5 }, seq := seq, strm := some i }

/-- Descriptor 3 is listed twice, first with a commit of stream 1, then with one of stream 0: the table is not in the form that the model's
operations keep. Stream 0 has committed token 0, stream 1 nothing. -/
def commitListedTwice : State :=
  { ({} : State) with
    q := { descs := [(3, readyCommit 1 0), (3, readyCommit 0 0), (4, readyCommit 0 1)] }
    fn := { streams := [(0, { st := .active, cTok := 1 })] } }

/-- The commit of descriptor 4 takes the satisfied commits of stream 0 accepted before it with it, and finds number 3 among them; what that
number then names is the commit of stream 1 (R132). -/
theorem otherStream_commits : (((execStepCommit 4 commitListedTwice).after commitListedTwice).stream 1).cTok = 1 := by decide +kernel

/-- Refutes O5: in the clause of a STEP_COMMIT with the satisfied steps accepted before it, the table may list a number twice. Its second entry is a
satisfied step of the stream, its first one a step of another stream, and that other stream commits. -/
theorem not_streamCommandsComplete : ¬ Obligations.StreamCommandsComplete := by
  unfold Obligations.StreamCommandsComplete
  intro h
  obtain ⟨-, -, -, -, -, -, -, -, -, hcommit, -⟩ := h
  obtain ⟨t, he, -, -, -, hother⟩ := hcommit commitListedTwice 4 (readyCommit 0 1) 0 ⟨rfl, rfl, rfl⟩ rfl (.inl (by decide))
  have ht : (execStepCommit 4 commitListedTwice).after commitListedTwice = t := congrArg (Res.after · commitListedTwice) he
  have hnone : (t.stream 1).cTok = 0 := by rw [hother 1 (by decide)]; rfl
  rw [← ht, otherStream_commits] at hnone
  cases hnone

end Sys2Proof.Machine
end

section
/-!
PROOFS. Carrels: the requests of commands, their wakes, their dispatch and their waits, and the statement on the carrel commands.
-/
namespace Sys2Proof.Machine

variable {s t z : State} {d : Nat} {x : Desc}

/-! ## A refusal of a pulled request -/

theorem freeze_descs (q c : Nat) : (s.freeze q c).q.descs = s.q.descs := by
  have hr (y : State) (i : ErrInfo) (h : i.recov = false) : (y.report i).q.descs = y.q.descs := by rw [report_q h]
  unfold State.freeze
  dsimp only
  split
  · rfl
  · split <;> simp [hr]

theorem refuse_descs (q : Nat) : (s.refuse q).1.q.descs = s.q.descs := by
  unfold State.refuse
  dsimp only
  split
  · exact freeze_descs ..
  · rfl

theorem desc?_of_descs (h : t.q.descs = s.q.descs) (d : Nat) : t.desc? d = s.desc? d := by
  rw [State.desc?, h, State.desc?]

/-- A command whose pulled request fails a check ends E_PARAM with the check's step (R113). -/
theorem refuseLate_ends (h : s.desc? d = some x) (hx : x.stage ≠ .done) (step : Nat) (res : Result) :
    Ended (s.refuseLate d step res) d .param ∧ ((s.refuseLate d step res).desc d).detail = step := by
  have turned (r : State × Bool) (hr : r.1.q.descs = s.q.descs) (z : State)
      (hz : z = (r.1.finish d .param res step).setDesc d { (r.1.finish d .param res step).desc d with refused := some r.2 }) :
      Ended z d .param ∧ (z.desc d).detail = step := by
    obtain ⟨⟨hst, hstatus⟩, -, hdetail⟩ := finish_ended (s := r.1) d x .param res step ((desc?_of_descs hr d).trans h) hx
    have hd : z.desc d = { (r.1.finish d .param res step).desc d with refused := some r.2 } := by
      rw [hz, State.desc_setDesc, if_pos rfl]
    simp only [Ended, hd]
    exact ⟨⟨hst, hstatus⟩, hdetail⟩
  refine turned (if step ≤ 3 then s.refuse (s.desc d).q else (s, false)) ?_ _ rfl
  split
  · exact refuse_descs _
  · rfl

/-! ## Wakes -/

/-- From one state to another clusters have been asked to wake: queues, streams, dispatched commands and the fields of the engines' blocks are as
they were, and only clusters that took no tasks have changed (R196, R596). -/
structure Woken (s t : State) : Prop where
  q : t.q = s.q
  fn : t.fn = s.fn
  order : t.cr.order = s.cr.order
  cmds : t.cr.cmds = s.cr.cmds
  clusters : ∀ k, t.cluster k = s.cluster k ∨ ((s.cluster k).st ≤ 2 ∧ (t.cluster k).st ≤ 2)
  flds : ∀ g : Fld, g.Apart → ∀ i, t.fld g i = s.fld g i

theorem Woken.refl : Woken s s := ⟨rfl, rfl, rfl, rfl, fun _ => .inl rfl, fun _ _ _ => rfl⟩

theorem Woken.trans (h : Woken s t) (k : Woken t z) : Woken s z where
  q := k.q.trans h.q
  fn := k.fn.trans h.fn
  order := k.order.trans h.order
  cmds := k.cmds.trans h.cmds
  clusters j := by
    have hj := h.clusters j
    have kj := k.clusters j
    rcases hj with hj | ⟨hs, ht⟩ <;> rcases kj with kj | ⟨ks, kt⟩
    · exact .inl (kj.trans hj)
    · exact .inr ⟨hj ▸ ks, kt⟩
    · exact .inr ⟨hs, kj ▸ ht⟩
    · exact .inr ⟨hs, kt⟩
  flds g hg i := (k.flds g hg i).trans (h.flds g hg i)

/-- The request of a cluster that takes no tasks is examined. -/
theorem woken_examineWake {k : Nat} (h : (s.cluster k).st ≤ 2) : Woken s (s.examineWake k) := by
  unfold State.examineWake
  extract_lets x _ y
  split
  · have hc (j : Nat) : (y.setCluster k { x with st := 2, prev := x.st }).cluster j =
        if k = j then { x with st := 2, prev := x.st } else s.cluster j := State.cluster_setCluster ..
    refine ⟨rfl, rfl, rfl, rfl, fun j => ?_, fun _ _ _ => rfl⟩
    rw [hc]
    split
    · next hj => exact .inr ⟨hj ▸ h, Nat.le_refl 2⟩
    · exact .inl rfl
  · exact ⟨rfl, rfl, rfl, rfl, fun _ => .inl rfl, fun g hg i => fld_setFld_apart (by decide) hg _ 0 i⟩

theorem woken_foldl (l : List Nat) (h : ∀ k ∈ l, (s.cluster k).st ≤ 2) : Woken s (l.foldl State.examineWake s) := by
  induction l generalizing s with
  | nil => exact .refl
  | cons k l ih =>
    have hk : Woken s (s.examineWake k) := woken_examineWake (h k List.mem_cons_self)
    refine hk.trans (ih fun j hj => ?_)
    rcases hk.clusters j with hc | ⟨-, hc⟩
    · exact hc ▸ h j (List.mem_cons_of_mem _ hj)
    · exact hc

/-- A carrel command asks clusters to wake that are GATED or OFF (R196). -/
theorem woken_wantWake (d n : Nat) : Woken s (s.wantWake d n) := by
  unfold State.wantWake
  extract_lets seq asked have_ need cand pick ws _ y
  have hy : Woken s y := ⟨rfl, rfl, rfl, rfl, fun _ => .inl rfl, fun _ _ _ => rfl⟩
  refine hy.trans (woken_foldl pick fun k hk => ?_)
  show (s.cluster k).st ≤ 2
  have hmem : k ∈ cand := List.mem_of_mem_take hk
  simp only [cand, State.clustersWhere, List.mem_append, List.mem_filter, Bool.and_eq_true, beq_iff_eq] at hmem
  rcases hmem with ⟨-, hst, -⟩ | ⟨-, hst, -⟩ <;> omega

theorem woken_lateWake (d : Nat) : Woken s (s.lateWake d) := by
  unfold State.lateWake
  split
  · exact woken_wantWake ..
  · exact .refl

/-- Wakes change no command's division into tasks (R198). -/
theorem Woken.plan (h : Woken s t) (x : Desc) : t.plan x = s.plan x := by
  have htasks := h.flds F_CR_ATTEND_CFG_TASKS (by decide) 0
  have hrange := h.flds F_CR_ATTEND_CFG_MIN_RANGE (by decide) 0
  simp only [State.plan, State.rangeCount, State.layoutOf, State.stream, h.fn, htasks, hrange]

/-- They let no further command be dispatched, and keep none from it. -/
theorem Woken.canDispatch (h : Woken s t) (d : Nat) : t.canDispatch d = s.canDispatch d := by
  have hready : (fun k => t.clusterReady k || t.clusterPassed k) = fun k => s.clusterReady k || s.clusterPassed k := by
    funext k
    unfold State.clusterReady State.clusterPassed
    rcases h.clusters k with hk | ⟨hs, ht⟩
    · rw [hk]
    · have h3 (n : Nat) (hn : n ≤ 2) : (n == 3) = false ∧ (n == 5) = false := by simp; omega
      simp [h3 _ hs, h3 _ ht]
  unfold State.canDispatch State.clustersWhere State.stageFree
  rw [hready, desc_of_q h.q, h.plan, h.cmds]

theorem Woken.wmMet (h : Woken s t) (x : Desc) : t.wmMet x = s.wmMet x := by
  simp only [State.wmMet, State.stream, h.fn]

theorem Woken.budget (h : Woken s t) (e : Entry) : t.budget e = s.budget e := by
  simp only [State.budget, h.flds F_FN_WAIT_DEFAULT_WAIT (by decide) 0]

/-! ## Dispatch -/

/-- Descriptor `d` was dispatched, with the tasks and the staging that its division gives (R197). -/
abbrev Dispatched (s t : State) (d : Nat) (x : Desc) : Prop :=
  (t.desc d).stage = .exec ∧ (t.carrelCmd d).tasks = List.replicate (s.plan x).tasks {} ∧
    (t.carrelCmd d).ranges = (s.plan x).ranges ∧ (t.carrelCmd d).stage = (s.plan x).bytes ∧ t.cr.order = s.cr.order + 1

/-- Descriptor `d` was turned away by the carrels, and counted (R195). -/
abbrev TurnedAway (s t : State) (d : Nat) : Prop :=
  Ended t d .busy ∧ t.fld F_CR_WAIT_BUSY_BUSY = min (s.fld F_CR_WAIT_BUSY_BUSY + 1) (2 ^ F_CR_WAIT_BUSY_BUSY.wid - 1)

/-- Clusters that become READY change no descriptor and no order of dispatch. -/
theorem admitPassed_keeps : s.admitPassed.q = s.q ∧ s.admitPassed.cr.order = s.cr.order := by
  refine foldl_keeps (fun y => y.q = s.q ∧ y.cr.order = s.cr.order) _ (fun y k h => ?_) _ s ⟨rfl, rfl⟩
  have hc : (y.clusterStarts k { st := 3 }).q = y.q ∧ (y.clusterStarts k { st := 3 }).cr.order = y.cr.order := ⟨rfl, rfl⟩
  exact ⟨hc.1.trans h.1, hc.2.trans h.2⟩

theorem dispatch_dispatched (h : s.desc? d = some x) : Dispatched s (s.dispatch d) d x := by
  obtain ⟨hq, horder⟩ := admitPassed_keeps (s := s)
  unfold State.dispatch
  rw [desc_of_some h]
  extract_lets p y n _ v w
  have hw : w.desc? d = some x := (desc?_of_q (show w.q = s.q from hq) d).trans h
  have hcmd : (w.setDesc d (x.to w.now .exec)).carrelCmd d = w.carrelCmd d := rfl
  have hnew : w.carrelCmd d = { order := n, ranges := p.ranges, tokens := p.tokens, tasks := List.replicate p.tasks {}, stage := p.bytes } := by
    show (v.setCarrelCmd d _).carrelCmd d = _
    rw [State.carrelCmd_setCarrelCmd, if_pos rfl]
  refine ⟨stage_stage hw _, ?_⟩
  rw [stage_eq hw, hcmd, hnew]
  exact ⟨rfl, rfl, rfl, congrArg (· + 1) horder⟩

theorem carrelBusy_turnedAway (h : s.desc? d = some x) (hx : x.stage ≠ .done) : TurnedAway s (s.carrelBusy d) d := by
  have he : Ended ((s.bump F_CR_WAIT_BUSY_BUSY).finish d .busy) d .busy := finish_ends (s := s.bump F_CR_WAIT_BUSY_BUSY) h hx ..
  have hf := (endKeeps_finish (s := s.bump F_CR_WAIT_BUSY_BUSY) d .busy {} 0).flds F_CR_WAIT_BUSY_BUSY (by decide) 0
  exact ⟨he, hf.trans (State.fld_bump ..)⟩

/-! ## The carrel wait -/

section Enter
variable (hw : Woken s t) (h : s.desc? d = some x)
include hw h

theorem enterCarrel_dispatches (hd : s.canDispatch d = true) : Dispatched s (t.enterCarrel d 0) d x := by
  have ht : t.desc? d = some x := (desc?_of_q hw.q d).trans h
  have he : t.enterCarrel d 0 = t.dispatch d := by simp [State.enterCarrel, hw.canDispatch, hd]
  rw [he]
  have hdisp := dispatch_dispatched ht
  simp only [Dispatched, hw.plan, hw.order] at hdisp
  exact hdisp

theorem enterCarrel_busy (hx : x.stage ≠ .done) (hd : s.canDispatch d = false) : TurnedAway s (t.enterCarrel d 0) d := by
  have ht : t.desc? d = some x := (desc?_of_q hw.q d).trans h
  have he : t.enterCarrel d 0 = t.carrelBusy d := by simp [State.enterCarrel, hw.canDispatch, hd]
  rw [he]
  have hb := carrelBusy_turnedAway ht hx
  simp only [TurnedAway, hw.flds F_CR_WAIT_BUSY_BUSY (by decide) 0] at hb
  exact hb

theorem enterCarrel_waits {b : Nat} (hb : b ≠ 0) : ((t.enterCarrel d b).desc d).stage = .wait .carrel := by
  have he : t.enterCarrel d b = t.stage d (.wait .carrel) := by simp [State.enterCarrel, hb]
  rw [he]
  exact stage_stage ((desc?_of_q hw.q d).trans h) _

end Enter

/-- A command that ends E_STALE with its watermark (R156). -/
theorem stale_ends (h : s.desc? d = some x) (hx : x.stage ≠ .done) : Ended (s.stale d) d .stale := finish_ends h hx ..

/-! ## ATTEND and SCORE_TOPK -/

section Attend
variable {score : Bool} (h : s.desc? d = some x)
include h

theorem attendCmd_refused {k : Nat} {r : Result} (hf : s.attendFault x score = some (k, r)) : s.attendCmd d score = s.refuseLate d k r := by
  unfold State.attendCmd
  rw [desc_of_some h]
  dsimp only
  rw [hf]

/-- One with a good request goes on as its layer's watermark says (R155). -/
theorem attendCmd_goesOn (hf : s.attendFault x score = none) : s.attendCmd d score =
    if s.wmMet x then (s.lateWake d).enterCarrel d (s.budget x.e)
    else if s.budget x.e = 0 then (s.lateWake d).stale d else (s.lateWake d).stage d (.wait .watermark) := by
  have hw := woken_lateWake (s := s) d
  unfold State.attendCmd
  rw [desc_of_some h]
  dsimp only
  rw [hf]
  simp only [hw.wmMet, hw.budget]

variable (hx : x.stage ≠ .done)
include hx

/-- What ATTEND and SCORE_TOPK with a good request come to. -/
theorem attendCmd_cases (hf : s.attendFault x score = none) :
    (s.wmMet x = true → s.budget x.e = 0 → s.canDispatch d = true → Dispatched s (s.attendCmd d score) d x) ∧
    (s.wmMet x = true → s.budget x.e = 0 → s.canDispatch d = false → TurnedAway s (s.attendCmd d score) d) ∧
    (s.wmMet x = true → s.budget x.e ≠ 0 → ((s.attendCmd d score).desc d).stage = .wait .carrel) ∧
    (s.wmMet x = false → s.budget x.e = 0 → Ended (s.attendCmd d score) d .stale) ∧
    (s.wmMet x = false → s.budget x.e ≠ 0 → ((s.attendCmd d score).desc d).stage = .wait .watermark) := by
  have hw := woken_lateWake (s := s) d
  have ht : (s.lateWake d).desc? d = some x := (desc?_of_q hw.q d).trans h
  rw [attendCmd_goesOn h hf]
  refine ⟨fun hm hb hd => ?_, fun hm hb hd => ?_, fun hm hb => ?_, fun hm hb => ?_, fun hm hb => ?_⟩
  · rw [if_pos hm, hb]
    exact enterCarrel_dispatches hw h hd
  · rw [if_pos hm, hb]
    exact enterCarrel_busy hw h hx hd
  · rw [if_pos hm]
    exact enterCarrel_waits hw h hb
  · rw [hm, if_neg Bool.false_ne_true, if_pos hb]
    exact stale_ends ht hx
  · rw [hm, if_neg Bool.false_ne_true, if_neg hb]
    exact stage_stage ht _

end Attend

/-! ## What each command does -/

theorem attend_eq (h : Runs s d 0x40 x) : exec (.attend d) s = .next (s.attendCmd d false) := by
  show execAttend d s = _
  simp [execAttend, desc_of_some h.1, runs?_of_runs h]

theorem scoreTopk_eq (h : Runs s d 0x43 x) : exec (.scoreTopk d) s = .next (s.attendCmd d true) := by
  show execScoreTopk d s = _
  simp [execScoreTopk, desc_of_some h.1, runs?_of_runs h]

theorem reducePartial_eq (h : Runs s d 0x41 x) (hr : (reduceReq x.blk).ok x.e.len = true) (hb : (s.plan x).bytes ≤ 67108864) :
    exec (.reducePartial d) s = .next ((s.lateWake d).enterCarrel d (s.budget x.e)) := by
  show execReducePartial d s = _
  simp [execReducePartial, desc_of_some h.1, runs?_of_runs h, hr, Nat.not_lt.2 hb]

theorem reducePartial_refused (h : Runs s d 0x41 x) (hr : (reduceReq x.blk).ok x.e.len = false ∨ 67108864 < (s.plan x).bytes) :
    exec (.reducePartial d) s = .next (s.refuseLate d 3) := by
  show execReducePartial d s = _
  have hc : (!(reduceReq x.blk).ok x.e.len || decide (67108864 < (s.plan x).bytes)) = true := by simpa using hr
  simp [execReducePartial, desc_of_some h.1, runs?_of_runs h, hc]

theorem quantize_eq (h : Runs s d 0x42 x) : exec (.quantize d) s = .next (s.enterCarrel d (s.fld F_FN_WAIT_DEFAULT_WAIT)) := by
  show execQuantize d s = _
  simp [execQuantize, desc_of_some h.1, runs?_of_runs h]

theorem carrelDispatch_eq (h : Waits s d .carrel x) : exec (.carrelDispatch d) s = .next (if s.canDispatch d then s.dispatch d else s) := by
  show execCarrelDispatch d s = _
  simp [execCarrelDispatch, desc_of_some h.1, h.2]

theorem carrelWaitExpired_eq (h : Waits s d .carrel x) : exec (.carrelWaitExpired d) s =
    .next (if s.waitedOut x (if x.e.opcode = 0x42 then s.fld F_FN_WAIT_DEFAULT_WAIT else s.budget x.e) then
      (if s.canDispatch d then s.dispatch d else s.carrelBusy d) else s) := by
  show execCarrelWaitExpired d s = _
  simp only [execCarrelWaitExpired, desc_of_some h.1, h.2]
  cases s.waitedOut x (if x.e.opcode = 0x42 then s.fld F_FN_WAIT_DEFAULT_WAIT else s.budget x.e) <;> simp

/-- Settles O10, by the division, the wakes and the dispatch of a command, and by what each command makes of them. -/
theorem carrelCommandsComplete : Obligations.CarrelCommandsComplete := by
  unfold Obligations.CarrelCommandsComplete
  refine ⟨?attend, ?attendBusy, ?attendWaits, ?attendStale, ?attendBehind, ?attendFault, ?score, ?scoreBusy, ?scoreWaits, ?scoreStale,
    ?scoreBehind, ?scoreFault, ?reduce, ?reduceBusy, ?reduceWaits, ?reduceFault, ?quantize, ?quantizeBusy, ?quantizeWaits,
    ?dispatch, ?dispatchWaits, ?expiredDispatch, ?expiredBusy, ?notExpired⟩
  case attend =>
    intro s d x h hf hm hb hd
    exact ⟨_, attend_eq h, (attendCmd_cases h.1 (not_done_of_runs h) hf).1 hm hb hd⟩
  case attendBusy =>
    intro s d x h hf hm hb hd
    exact ⟨_, attend_eq h, (attendCmd_cases h.1 (not_done_of_runs h) hf).2.1 hm hb hd⟩
  case attendWaits =>
    intro s d x h hf hm hb
    exact ⟨_, attend_eq h, (attendCmd_cases h.1 (not_done_of_runs h) hf).2.2.1 hm hb⟩
  case attendStale =>
    intro s d x h hf hm hb
    exact ⟨_, attend_eq h, (attendCmd_cases h.1 (not_done_of_runs h) hf).2.2.2.1 hm hb⟩
  case attendBehind =>
    intro s d x h hf hm hb
    exact ⟨_, attend_eq h, (attendCmd_cases h.1 (not_done_of_runs h) hf).2.2.2.2 hm hb⟩
  case attendFault =>
    intro s d x k r h hf
    exact ⟨_, attend_eq h, attendCmd_refused h.1 hf ▸ refuseLate_ends h.1 (not_done_of_runs h) k r⟩
  case score =>
    intro s d x h hf hm hb hd
    exact ⟨_, scoreTopk_eq h, (attendCmd_cases h.1 (not_done_of_runs h) hf).1 hm hb hd⟩
  case scoreBusy =>
    intro s d x h hf hm hb hd
    exact ⟨_, scoreTopk_eq h, (attendCmd_cases h.1 (not_done_of_runs h) hf).2.1 hm hb hd⟩
  case scoreWaits =>
    intro s d x h hf hm hb
    exact ⟨_, scoreTopk_eq h, (attendCmd_cases h.1 (not_done_of_runs h) hf).2.2.1 hm hb⟩
  case scoreStale =>
    intro s d x h hf hm hb
    exact ⟨_, scoreTopk_eq h, (attendCmd_cases h.1 (not_done_of_runs h) hf).2.2.2.1 hm hb⟩
  case scoreBehind =>
    intro s d x h hf hm hb
    exact ⟨_, scoreTopk_eq h, (attendCmd_cases h.1 (not_done_of_runs h) hf).2.2.2.2 hm hb⟩
  case scoreFault =>
    intro s d x k r h hf
    exact ⟨_, scoreTopk_eq h, attendCmd_refused h.1 hf ▸ refuseLate_ends h.1 (not_done_of_runs h) k r⟩
  case reduce =>
    intro s d x h hr hp hb hd
    refine ⟨_, reducePartial_eq h hr hp, ?_⟩
    rw [hb]
    exact enterCarrel_dispatches (woken_lateWake d) h.1 hd
  case reduceBusy =>
    intro s d x h hr hp hb hd
    refine ⟨_, reducePartial_eq h hr hp, ?_⟩
    rw [hb]
    exact enterCarrel_busy (woken_lateWake d) h.1 (not_done_of_runs h) hd
  case reduceWaits =>
    intro s d x h hr hp hb
    exact ⟨_, reducePartial_eq h hr hp, enterCarrel_waits (woken_lateWake d) h.1 hb⟩
  case reduceFault =>
    intro s d x h hr
    exact ⟨_, reducePartial_refused h hr, refuseLate_ends h.1 (not_done_of_runs h) 3 {}⟩
  case quantize =>
    intro s d x h hb hd
    refine ⟨_, quantize_eq h, ?_⟩
    rw [hb]
    exact enterCarrel_dispatches .refl h.1 hd
  case quantizeBusy =>
    intro s d x h hb hd
    refine ⟨_, quantize_eq h, ?_⟩
    rw [hb]
    exact enterCarrel_busy .refl h.1 (not_done_of_runs h) hd
  case quantizeWaits =>
    intro s d x h hb
    exact ⟨_, quantize_eq h, enterCarrel_waits .refl h.1 hb⟩
  case dispatch =>
    intro s d x h hd
    refine ⟨_, carrelDispatch_eq h, ?_⟩
    rw [if_pos hd]
    exact dispatch_dispatched h.1
  case dispatchWaits =>
    intro s d x h hd
    exact ⟨_, carrelDispatch_eq h, by rw [hd, if_neg Bool.false_ne_true]⟩
  case expiredDispatch =>
    intro s d x h hb hd
    refine ⟨_, carrelWaitExpired_eq h, ?_⟩
    rw [if_pos hb, if_pos hd]
    exact dispatch_dispatched h.1
  case expiredBusy =>
    intro s d x h hb hd
    refine ⟨_, carrelWaitExpired_eq h, ?_⟩
    rw [if_pos hb, hd, if_neg Bool.false_ne_true]
    exact carrelBusy_turnedAway h.1 (not_done_of_waits h)
  case notExpired =>
    intro s d x h hb
    exact ⟨_, carrelWaitExpired_eq h, by rw [hb, if_neg Bool.false_ne_true]⟩

end Sys2Proof.Machine
end

section
/-!
PROOFS. What accesses of memory and error records leave as it is: queues, streams, fences, the engines and the host port.
-/
namespace Sys2Proof.Machine

variable {s t u : State}

/-- From one state to another memory has been accessed, and errors that escalate no unit have been recorded: queues, streams, fences, the
engines, the host port and the fields of the engines' blocks are as they were. -/
structure AccessKeeps (s t : State) : Prop where
  q : t.q = s.q
  fn : t.fn = s.fn
  pl : t.pl = s.pl
  pj : t.pj = s.pj
  cr : t.cr = s.cr
  hp : t.hp = s.hp
  fns : t.ir.fns = s.ir.fns
  ck : t.ck = s.ck
  now : t.now = s.now
  flds : ∀ g : Fld, g.Apart → ∀ i, t.fld g i = s.fld g i

theorem AccessKeeps.refl : AccessKeeps s s := ⟨rfl, rfl, rfl, rfl, rfl, rfl, rfl, rfl, rfl, fun _ _ _ => rfl⟩

theorem AccessKeeps.trans (h : AccessKeeps s t) (k : AccessKeeps t u) : AccessKeeps s u :=
  ⟨k.q.trans h.q, k.fn.trans h.fn, k.pl.trans h.pl, k.pj.trans h.pj, k.cr.trans h.cr, k.hp.trans h.hp, k.fns.trans h.fns, k.ck.trans h.ck,
    k.now.trans h.now, fun g hg i => (k.flds g hg i).trans (h.flds g hg i)⟩

/-- Steps that each keep all this keep it. -/
theorem AccessKeeps.foldl {α : Type} {f : State → α → State} (h : ∀ z a, AccessKeeps z (f z a)) (l : List α) : AccessKeeps s (l.foldl f s) :=
  foldl_keeps (AccessKeeps s) f (fun z a k => k.trans (h z a)) l s .refl

/-- One of two accesses, as a test says. -/
theorem AccessKeeps.ite {c : Prop} [Decidable c] (h : AccessKeeps s t) (k : AccessKeeps s u) : AccessKeeps s (if c then t else u) := by
  split
  · exact h
  · exact k

theorem accessKeeps_setFld {f : Fld} (hf : f.Elsewhere) (v i : Nat) : AccessKeeps s (s.setFld f v i) :=
  ⟨rfl, rfl, rfl, rfl, rfl, rfl, rfl, rfl, rfl, fun _ hg j => fld_setFld_apart hf hg v i j⟩

theorem accessKeeps_bump {f : Fld} (hf : f.Elsewhere) (n i : Nat) : AccessKeeps s (s.bump f n i) := accessKeeps_setFld hf ..

/-- Memory, its controllers, its tags, its cache, the records of folios and errors and what was sent are none of it. -/
theorem accessKeeps_rest (m : MapSt) (e : ErSt) (k : SkSt) (c : McSt) (i : SiSt) (n : TnSt) (b : List Host.Cell) (p : List Nat) (o : List Msg) :
    AccessKeeps s { s with map := m, er := e, sk := k, mc := c, si := i, tn := n, mem := b, poison := p, outbox := o } :=
  ⟨rfl, rfl, rfl, rfl, rfl, rfl, rfl, rfl, rfl, fun _ _ _ => rfl⟩

/-! ## Error records -/

theorem accessKeeps_sendMsix (f v : Nat) : AccessKeeps s (s.sendMsix f v) := by
  unfold State.sendMsix
  split
  · exact (accessKeeps_rest ..).trans (accessKeeps_bump (by decide) 1 (vecKey f v))
  · exact ⟨rfl, rfl, rfl, rfl, rfl, rfl, rfl, rfl, rfl, fun _ _ _ => rfl⟩

theorem accessKeeps_devEvent (b : Nat) : AccessKeeps s (s.devEvent b) := by
  unfold State.devEvent
  extract_lets st z
  have hz : AccessKeeps s z := accessKeeps_setFld (by decide) _ 0
  exact .ite .refl (.ite (hz.trans (accessKeeps_sendMsix 0 _)) hz)

theorem accessKeeps_writeRec (r : ErrRec) : AccessKeeps s (s.writeRec r).1 := by
  have ring (x : ErrRec) : AccessKeeps s (s.setRing x) := accessKeeps_rest ..
  have lost (z : State) : AccessKeeps z (z.bump F_ER_OVF_CNT_OVF) := accessKeeps_bump (by decide) 1 0
  unfold State.writeRec
  extract_lets w p z
  by_cases hroom : (w + 2 ^ 32 - p) % 2 ^ 32 < 256
  · rw [if_pos hroom]
    exact ((ring _).trans (accessKeeps_setFld (by decide) (w + 1) 0)).trans (accessKeeps_devEvent 0)
  · rw [if_neg hroom]
    by_cases hc : (r.cls != 3) = true
    · rw [if_pos hc]
      exact lost s
    · rw [if_neg hc]
      generalize s.newestNonFatal 256 _ = q
      cases q with
      | some q => exact ((ring _).trans (lost _)).trans (accessKeeps_devEvent 0)
      | none => exact lost s

/-- An error that escalates no unit is recorded, and its recovery noted with the unit (R657, R658). -/
theorem accessKeeps_report {i : ErrInfo} (h : s.escalates i (s.unitRec (unitKey i.utype i.inst)) = false) : AccessKeeps s (s.report i) := by
  unfold State.report State.record
  simp only [h, Bool.false_eq_true, if_false]
  exact (accessKeeps_writeRec _).trans (accessKeeps_rest ..)

/-- An error without recovery escalates none. -/
theorem not_escalates {i : ErrInfo} (h : i.recov = false) (r : UnitRec) : s.escalates i r = false := by
  simp [State.escalates, ErrInfo.counts, h]

theorem accessKeeps_recoveryEnd (k i : Nat) (ok : Bool) : AccessKeeps s (s.recoveryEnd k i ok) := by
  obtain ⟨e, h⟩ := recoveryEnd_frame (s := s) k i ok
  rw [h]
  exact accessKeeps_rest ..

/-! ## The stacks cache -/

theorem accessKeeps_setCset (k : Nat) (c : CacheSet) : AccessKeeps s (s.setCset k c) := by
  unfold State.setCset
  extract_lets old z
  have hz : AccessKeeps s z := .foldl (fun _ p => accessKeeps_setFld (by decide) _ p) _
  exact hz.trans (accessKeeps_rest ..)

theorem accessKeeps_cacheDrop (sec : Nat) : AccessKeeps s (s.cacheDrop sec) := .ite (accessKeeps_setCset ..) .refl

theorem accessKeeps_pinClass (l : List Line) (had p : Nat) : AccessKeeps s (s.pinClass l had p).1 :=
  .ite .refl (accessKeeps_bump (by decide) 1 0)

theorem accessKeeps_cacheFill (sec handle pin : Nat) (h : Hint) : AccessKeeps s (s.cacheFill sec handle pin h) := by
  unfold State.cacheFill
  exact (accessKeeps_pinClass ..).trans (accessKeeps_setCset ..)

theorem accessKeeps_cacheAccess (sec handle : Nat) (h : Hint) (pin : Option Nat) (fills : Bool) :
    AccessKeeps s (s.cacheAccess sec handle h pin fills) := by
  have bumps (z : State) {f : Fld} (hf : f.Elsewhere) : AccessKeeps z (z.bump f) := accessKeeps_bump hf 1 0
  unfold State.cacheAccess
  extract_lets h _ y k c z w c' v rest v'
  have hy : AccessKeeps s y := accessKeeps_rest ..
  have hw : AccessKeeps s w := hy.trans (.ite (accessKeeps_cacheDrop sec) .refl)
  split
  · have hz : AccessKeeps s z := hy.trans (bumps y (by decide))
    exact .ite (hz.trans (bumps z (by decide))) hz
  · split
    · have hv : AccessKeeps s v := hw.trans (bumps w (by decide))
      split
      · exact hv.trans (accessKeeps_setCset ..)
      · exact (hv.trans (accessKeeps_pinClass ..)).trans (accessKeeps_setCset ..)
    · have hv : AccessKeeps s v' := hw.trans (bumps w (by decide))
      exact .ite (hv.trans (accessKeeps_cacheFill ..)) hv

theorem accessKeeps_contextWrite (i : Nat) : AccessKeeps s (s.contextWrite i) := .ite .refl (accessKeeps_cacheAccess ..)

/-! ## Memory units and write queues -/

theorem accessKeeps_setDram (k : Nat) (x : Dram) : AccessKeeps s (s.setDram k x) := accessKeeps_rest ..

theorem accessKeeps_issue (k : Nat) (l : List DramCmd) : AccessKeeps s (s.issue k l) :=
  .ite .refl (.ite ((AccessKeeps.ite (accessKeeps_bump (by decide) 1 0) .refl).trans (accessKeeps_setDram ..)) (accessKeeps_setDram ..))

theorem accessKeeps_drainWq (k : Nat) : AccessKeeps s (s.drainWq k) :=
  .ite .refl (.ite ((accessKeeps_setDram ..).trans (accessKeeps_issue ..)) .refl)

theorem accessKeeps_queueLine (k : Nat) (e : WqEntry) : AccessKeeps s (s.queueLine k e) :=
  .ite (accessKeeps_setDram ..) (.ite (accessKeeps_setDram ..)
    (.ite ((accessKeeps_setDram ..).trans (accessKeeps_drainWq k)) (accessKeeps_setDram ..)))

theorem accessKeeps_queueMasks (l : List (Nat × Nat)) (poison : Bool) (seq : Option Nat) : AccessKeeps s (s.queueMasks l poison seq) := by
  unfold State.queueMasks
  extract_lets _ y
  have hy : AccessKeeps s y := accessKeeps_rest ..
  refine hy.trans (.foldl (fun z m => ?_) l)
  extract_lets w
  have hw : AccessKeeps z w := accessKeeps_queueLine ..
  split
  · exact hw.trans (accessKeeps_queueLine ..)
  · exact hw

theorem accessKeeps_rankTrigger (k r c : Nat) : AccessKeeps s (s.rankTrigger k r c) := .ite (accessKeeps_setDram ..) .refl

theorem accessKeeps_rowTrigger (r : HbmRow) : AccessKeeps s (s.rowTrigger r) := .ite .refl (accessKeeps_rest ..)

theorem accessKeeps_noteCe (sec : Nat) : AccessKeeps s (s.noteCe sec) := by
  refine .ite ?_ ?_
  · unfold State.noteRankCe
    extract_lets x l y
    have hy : AccessKeeps s y := accessKeeps_setDram ..
    exact .ite (hy.trans (accessKeeps_rankTrigger ..)) hy
  · unfold State.noteRowCe
    extract_lets l _ y
    have hy : AccessKeeps s y := accessKeeps_rest ..
    exact .ite (hy.trans (accessKeeps_rowTrigger ..)) hy

theorem accessKeeps_noteUe (sec : Nat) : AccessKeeps s (s.noteUe sec) := .ite (accessKeeps_rankTrigger ..) (accessKeeps_rowTrigger ..)

theorem accessKeeps_countUe (k : Nat) : AccessKeeps s (s.countUe k) :=
  .ite (accessKeeps_bump (by decide) 1 k) (accessKeeps_bump (by decide) 1 (k - 16))

theorem accessKeeps_countCe (sec : Nat) : AccessKeeps s (s.countCe sec) :=
  (AccessKeeps.ite (accessKeeps_bump (by decide) 1 _) (accessKeeps_bump (by decide) 1 _)).trans (accessKeeps_noteCe sec)

theorem accessKeeps_countFwd (a n : Nat) : AccessKeeps s (s.countFwd a n) := .ite (accessKeeps_bump (by decide) 1 0) .refl

/-! ## Bytes, poison and tags -/

theorem accessKeeps_writeMem (a : Nat) (l : List Byte) : AccessKeeps s (s.writeMem a l) := by
  obtain ⟨m, h⟩ := writeMem_frame s a l
  rw [h]
  exact accessKeeps_rest ..

theorem accessKeeps_zeroMem (a n : Nat) : AccessKeeps s (s.zeroMem a n) := accessKeeps_rest ..

theorem accessKeeps_clearPoison (sec : Nat) : AccessKeeps s (s.clearPoison sec) := accessKeeps_rest ..

/-- A tag entry is written, and the poison of an unreadable tag-store sector goes (R356). -/
theorem setTag_frame (sec : Nat) (g : TagEntry) : ∃ i p, s.setTag sec g = { s with si := i, poison := p } := by
  unfold State.setTag
  extract_lets _ z
  by_cases h : inSet s.si.badTags (sec / 32) = true
  · have hz : z = { s with si := z.si, poison := z.poison } := by
      unfold z
      rw [if_pos h]
      rfl
    rw [hz]
    exact ⟨_, _, rfl⟩
  · have hz : z = s := if_neg h
    rw [hz]
    exact ⟨_, _, rfl⟩

theorem accessKeeps_setTag (sec : Nat) (g : TagEntry) : AccessKeeps s (s.setTag sec g) := by
  obtain ⟨i, p, h⟩ := setTag_frame (s := s) sec g
  rw [h]
  exact accessKeeps_rest ..

theorem accessKeeps_retag (sec : Nat) : AccessKeeps s (s.retag sec) := .ite (accessKeeps_setTag ..) .refl

theorem accessKeeps_rezero (dfn : Nat) : AccessKeeps s (s.rezero dfn) := .ite (accessKeeps_rest ..) .refl

theorem accessKeeps_storePoison (sec : Nat) : AccessKeeps s (s.storePoison sec) := by
  unfold State.storePoison
  extract_lets z
  have hz : AccessKeeps s z := AccessKeeps.trans (accessKeeps_rest ..) (accessKeeps_bump (by decide) 1 0)
  exact (hz.trans (accessKeeps_queueMasks ..)).trans (accessKeeps_cacheDrop sec)

theorem accessKeeps_poisonSector (sec : Nat) : AccessKeeps s (s.poisonSector sec) :=
  ((accessKeeps_storePoison sec).trans (.ite (accessKeeps_setTag ..) .refl)).trans (accessKeeps_rezero _)

/-! ## Sectors -/

theorem accessKeeps_decodeLine (line : Nat) (e : LineErr) : AccessKeeps s (s.decodeLine line e) := by
  unfold State.decodeLine
  extract_lets y
  have hy : AccessKeeps s y := .ite (accessKeeps_bump (by decide) 1 _) .refl
  split
  · exact hy.trans (accessKeeps_countCe _)
  · exact ((hy.trans (accessKeeps_countCe _)).trans (accessKeeps_writeMem ..)).trans (accessKeeps_rest ..)
  · exact hy

theorem accessKeeps_decodeSec (sec : Nat) : AccessKeeps s (s.decodeSec sec) := .foldl (fun _ _ => accessKeeps_decodeLine ..) _

theorem accessKeeps_uncorrectable (sec : Nat) (w : For) : AccessKeeps s (s.uncorrectable sec w) :=
  (((accessKeeps_poisonSector sec).trans (accessKeeps_countUe _)).trans (accessKeeps_noteUe sec)).trans
    (accessKeeps_report (not_escalates rfl _))

theorem accessKeeps_tagFail (sec : Nat) (w : For) : AccessKeeps s (s.tagFail sec w) :=
  ((accessKeeps_poisonSector sec).trans (accessKeeps_bump (by decide) 1 0)).trans (accessKeeps_report (not_escalates rfl _))

theorem accessKeeps_checkSector (sec : Nat) (w : For) : AccessKeeps s (s.checkSector sec w).1 := by
  have met : AccessKeeps s (s.bump F_SI_POISON_MET_MET) := accessKeeps_bump (by decide) 1 0
  unfold State.checkSector
  extract_lets tg y
  have hy : AccessKeeps s y := accessKeeps_decodeSec sec
  split
  · exact .refl
  split
  · exact met
  split
  · exact .refl
  split
  · exact met
  split
  · exact met.trans (accessKeeps_rezero _)
  · exact accessKeeps_uncorrectable ..
  · split
    · exact hy.trans (accessKeeps_tagFail ..)
    · exact hy

/-- The check of a sector that is not replaced whole. -/
theorem accessKeeps_partly {c : Bool} (sec : Nat) (w : For) : AccessKeeps s (if c then (s, .ok) else s.checkSector sec w).1 := by
  split
  · exact .refl
  · exact accessKeeps_checkSector ..

theorem accessKeeps_readPieces (ms : Option (List Nat)) (v : Via) (w : For) (l : List Piece) (m : Met) :
    AccessKeeps s (s.readPieces ms v w l m).1 := by
  induction l generalizing s m with
  | nil => exact .refl
  | cons p l ih =>
    unfold State.readPieces
    dsimp only
    refine .trans ?_ (ih _)
    have hc := accessKeeps_checkSector (s := s) p.sec w
    refine .ite (hc.trans ?_) hc
    have hr (z : State) : AccessKeeps z (if z.cached p.sec then z else
        ((z.useCredit w.tenant p.sec p.len).countFwd (p.sec * 256 + p.start) p.len).issueReads p.sec) :=
      .ite .refl (((accessKeeps_rest ..).trans (accessKeeps_countFwd ..)).trans (accessKeeps_issue ..))
    cases ms <;> exact (hr _).trans (accessKeeps_cacheAccess ..)

theorem accessKeeps_putPiece (ms : List Nat) (v : Via) (w : For) (p : Piece) (b : List Byte) : AccessKeeps s (s.putPiece ms v w p b) := by
  unfold State.putPiece
  extract_lets a x y z
  have hx : AccessKeeps s x := .ite (accessKeeps_zeroMem ..) .refl
  have hy : AccessKeeps s y := (hx.trans (accessKeeps_writeMem ..)).trans (accessKeeps_queueMasks ..)
  have hz : AccessKeeps s z := (hy.trans (.ite (accessKeeps_clearPoison _) .refl)).trans (accessKeeps_retag _)
  exact hz.trans (accessKeeps_cacheAccess ..)

theorem accessKeeps_probePieces (w : For) (l : List Piece) (m : Met) : AccessKeeps s (s.probePieces w l m).1 := by
  induction l generalizing s m with
  | nil => exact .refl
  | cons p l ih => exact (accessKeeps_partly ..).trans (ih _)

theorem accessKeeps_writeAllOrNone (ds ms : List Nat) (a : Nat) (b : List Byte) (v : Via) (w : For) :
    AccessKeeps s (s.writeAllOrNone ds ms a b v w).1 := by
  have hp := accessKeeps_probePieces (s := s) w (pieces ds a b.length) {}
  unfold State.writeAllOrNone
  dsimp only
  split
  · exact hp
  · exact hp.trans (.foldl (fun _ _ => (accessKeeps_rest ..).trans (accessKeeps_putPiece ..)) _)

theorem accessKeeps_payTurns (n : Nat) (r w : List Piece) : AccessKeeps s (s.payTurns n r w) := by
  obtain ⟨k, h⟩ := payTurns_frame (s := s) n r w
  rw [h]
  exact accessKeeps_rest ..

/-! ## The sectors of an append and of a gather -/

theorem accessKeeps_putBytes (sec : Nat) (l : List (Nat × Byte)) : AccessKeeps s (s.putBytes sec l) := by
  induction l generalizing s with
  | nil => exact .refl
  | cons p l ih => exact (accessKeeps_rest ..).trans ih

theorem accessKeeps_putSector (ms : List Nat) (e : SecWrite) (w : For) : AccessKeeps s (s.putSector ms e w).1 := by
  unfold State.putSector
  extract_lets all whole
  have hr : AccessKeeps s (if whole then (s, .ok) else s.checkSector e.sec w).1 := accessKeeps_partly ..
  generalize (if whole then (s, .ok) else s.checkSector e.sec w) = r at hr
  dsimp only
  split
  · exact hr
  · dsimp only
    refine AccessKeeps.trans ?_ (accessKeeps_cacheAccess ..)
    refine AccessKeeps.trans ?_ (accessKeeps_retag e.sec)
    refine AccessKeeps.trans ?_ (.ite (accessKeeps_clearPoison e.sec) .refl)
    refine (AccessKeeps.trans ?_ (accessKeeps_putBytes e.sec e.bytes)).trans (accessKeeps_queueMasks ..)
    exact hr.trans (.ite (accessKeeps_zeroMem (e.sec * 256) 256) .refl)

theorem accessKeeps_putSectors (ms : List Nat) (w : For) (l : List SecWrite) (m : Met) : AccessKeeps s (s.putSectors ms w l m).1 := by
  induction l generalizing s m with
  | nil => exact .refl
  | cons e l ih => exact (accessKeeps_putSector ..).trans (ih _)

theorem accessKeeps_appendData (d : Nat) : AccessKeeps s (s.appendData d).1 := by
  unfold State.appendData
  dsimp only
  split
  · exact .refl
  · exact accessKeeps_putSectors ..

theorem accessKeeps_gatherMet (d : Nat) : AccessKeeps s (s.gatherMet d).1 := accessKeeps_readPieces ..

end Sys2Proof.Machine
end

section
/-!
PROOFS. Projection: append trackers, projection units, and what APPEND_KV and GATHER_KV come to.
-/
namespace Sys2Proof.Machine

variable {s t z : State} {d : Nat} {x : Desc}

/-! ## What a command's next step rests on -/

/-- The units that take commands rest on the units' records and the clocks. -/
theorem chooseUnit_of (hp : t.pj = s.pj) (hc : t.ck = s.ck) : t.chooseUnit = s.chooseUnit := by
  have hu : t.pjUnit = s.pjUnit := funext fun u => by unfold State.pjUnit; rw [hp]
  have hd : t.domFailed 57 = s.domFailed 57 := by unfold State.domFailed; rw [hc]
  unfold State.chooseUnit
  rw [hu, hd]

theorem budget_of (h : t.regs = s.regs) (e : Entry) : t.budget e = s.budget e := by
  simp only [State.budget, State.fld, h]

theorem noHost_of (hq : t.q = s.q) (hf : t.ir.fns = s.ir.fns) (q : Nat) : t.noHost q = s.noHost q := by
  simp only [State.noHost, State.fnSilent, State.hostFn, hf, queue_of_q hq]

theorem hostFault_of (hr : t.fld F_HP_STATUS_RATE = s.fld F_HP_STATUS_RATE) (hp : t.hp = s.hp) : t.hostFault = s.hostFault := by
  unfold State.hostFault State.hostLinkUp
  rw [hr, hp]

theorem clientLayout_of (h : t.fn.streams = s.fn.streams) (x : Desc) : t.clientLayout x = s.clientLayout x := by
  unfold State.clientLayout
  rw [stream_of_fn h]

/-! ## Append trackers -/

/-- The layer that an append writes. -/
abbrev State.appendLayer (s : State) (x : Desc) : Layer := (s.stream (x.strm.getD 0)).layers.getD x.aux {}

/-- An append that takes an entry changes its stream alone. -/
theorem takeTracker_frame (x : Desc) : ∃ k, s.takeTracker x = { s with fn := { s.fn with streams := k } } := by
  unfold State.takeTracker
  dsimp only
  split
  · exact ⟨s.fn.streams, rfl⟩
  · split
    · exact ⟨_, rfl⟩
    · exact ⟨s.fn.streams, rfl⟩

theorem hasTracker_of (h : t.fn.streams = s.fn.streams) (x : Desc) : t.hasTracker x = s.hasTracker x := by
  simp only [State.hasTracker, stream_of_fn h]

/-- An entry of the append's range and slot is there already, or there is room for it (R126, R129). -/
theorem takeTracker_has (h : s.hasTracker x = true ∨ ((s.appendLayer x).trk.length < 16 ∧ x.aux < (s.stream (x.strm.getD 0)).layers.length)) :
    (s.takeTracker x).hasTracker x = true := by
  unfold State.takeTracker
  by_cases hs : s.hasTracker x = true
  · simp only [hs, if_true]
  · obtain ⟨hroom, haux⟩ := h.resolve_left hs
    simp only [hs, hroom, if_true, Bool.false_eq_true, if_false]
    simp [State.hasTracker, State.setLayer, List.getD_eq_getElem?_getD, haux]

/-- Without an entry and with 16 in use it takes none (R129). -/
theorem takeTracker_full (h : s.hasTracker x = false) (hf : 16 ≤ (s.appendLayer x).trk.length) : s.takeTracker x = s := by
  have hn : ¬ (s.appendLayer x).trk.length < 16 := Nat.not_lt.2 hf
  unfold State.takeTracker
  simp only [h, hn, Bool.false_eq_true, if_false]

/-! ## The wait for a unit -/

/-- A command with a unit in service, or with a budget, waits for a unit (R283). -/
theorem enterUnit_waits (h : s.desc? d = some x) (hu : s.chooseUnit ≠ none ∨ s.budget x.e ≠ 0) : s.enterUnit d = s.stage d (.wait .unit) := by
  unfold State.enterUnit
  rw [desc_of_some h, if_neg]
  intro hb
  obtain ⟨hn, hz⟩ := Bool.and_eq_true_iff.1 hb
  exact hu.elim (fun k => k (of_decide_eq_true hn)) (fun k => k (eq_of_beq hz))

theorem enterUnit_busy (h : s.desc? d = some x) (hu : s.chooseUnit = none) (hb : s.budget x.e = 0) : s.enterUnit d = s.finish d .busy := by
  simp [State.enterUnit, desc_of_some h, hu, hb]

/-! ## APPEND_KV up to its unit -/

/-- The state in which an append has asked its host for data and has taken its tracker entry, if there is one for it. -/
def State.appendEntered (s : State) (x : Desc) : State := (s.askHost x.q x.e.opB ((s.clientLayout x).bufBytes x.e.shard x.e.len)).takeTracker x

/-- The data of an append: as many bytes as its client's buffer has. -/
def State.appendSource (s : State) (x : Desc) (b : List Byte) : List Byte :=
  ((if ((s.askHost x.q x.e.opB ((s.clientLayout x).bufBytes x.e.shard x.e.len)).queue x.q).isLink then x.data else b) ++
    List.replicate ((s.clientLayout x).bufBytes x.e.shard x.e.len) 0).take ((s.clientLayout x).bufBytes x.e.shard x.e.len)

theorem appendSource_length (b : List Byte) : (s.appendSource x b).length = (s.clientLayout x).bufBytes x.e.shard x.e.len := by
  simp [State.appendSource]

/-- The state in which an append with its entry has its data and asks for a unit. -/
def State.appendReady (s : State) (d : Nat) (x : Desc) (b : List Byte) : State :=
  ((s.appendEntered x).setDesc d { x with data := s.appendSource x b }).enterUnit d

theorem appendEntered_frame (x : Desc) : ∃ o k, s.appendEntered x = { s with outbox := s.outbox ++ o, fn := { s.fn with streams := k } } := by
  obtain ⟨o, ho⟩ := askHost_frame (s := s) x.q x.e.opB ((s.clientLayout x).bufBytes x.e.shard x.e.len)
  obtain ⟨k, hk⟩ := takeTracker_frame (s := s.askHost x.q x.e.opB ((s.clientLayout x).bufBytes x.e.shard x.e.len)) x
  exact ⟨o, k, by rw [State.appendEntered, hk, ho]⟩

theorem appendEntered_has (h : s.hasTracker x = true ∨ ((s.appendLayer x).trk.length < 16 ∧ x.aux < (s.stream (x.strm.getD 0)).layers.length)) :
    (s.appendEntered x).hasTracker x = true := by
  refine takeTracker_has ?_
  obtain ⟨o, ho⟩ := askHost_frame (s := s) x.q x.e.opB ((s.clientLayout x).bufBytes x.e.shard x.e.len)
  rw [ho]
  exact h

theorem appendEntered_full (h : s.hasTracker x = false) (hf : 16 ≤ (s.appendLayer x).trk.length) : (s.appendEntered x).hasTracker x = false := by
  obtain ⟨o, ho⟩ := askHost_frame (s := s) x.q x.e.opB ((s.clientLayout x).bufBytes x.e.shard x.e.len)
  unfold State.appendEntered
  rw [ho, takeTracker_full (s := { s with outbox := s.outbox ++ o }) h hf]
  exact h

theorem appendKv_eq (h : Runs s d 0x23 x) (hn : s.noHost x.q = false) (b : List Byte) : exec (.appendKv d b) s =
    .next (if !(s.appendEntered x).hasTracker x then
        (if (s.appendEntered x).budget x.e = 0 then (s.appendEntered x).finish d .busy else (s.appendEntered x).stage d (.wait .tracker))
      else s.appendReady d x b) := by
  show execAppendKv d b s = _
  simp only [execAppendKv, desc_of_some h.1, runs?_of_runs h, hn, Bool.not_true, Bool.or_self, Bool.false_eq_true, if_false,
    State.appendReady, State.appendEntered, State.appendSource]
  rfl

theorem appendKv_unreachable (h : Runs s d 0x23 x) (hn : s.noHost x.q = true) (b : List Byte) : exec (.appendKv d b) s = .next s := by
  show execAppendKv d b s = _
  simp [execAppendKv, desc_of_some h.1, hn]

theorem appendEntered_desc? (h : s.desc? d = some x) : (s.appendEntered x).desc? d = some x := by
  obtain ⟨o, k, he⟩ := appendEntered_frame (s := s) x
  exact (desc?_of_q (by rw [he]) d).trans h

theorem appendEntered_budget : (s.appendEntered x).budget x.e = s.budget x.e := by
  obtain ⟨o, k, he⟩ := appendEntered_frame (s := s) x
  exact budget_of (by rw [he]) x.e

/-- An append that has its entry waits for a unit with its data (R126, R272). -/
theorem appendReady_waits (b : List Byte) (hu : s.chooseUnit ≠ none ∨ s.budget x.e ≠ 0) (ht : (s.appendEntered x).hasTracker x = true) :
    ((s.appendReady d x b).desc d).stage = .wait .unit ∧ (s.appendReady d x b).hasTracker x = true ∧
      ((s.appendReady d x b).desc d).data.length = (s.clientLayout x).bufBytes x.e.shard x.e.len := by
  obtain ⟨o, k, he⟩ := appendEntered_frame (s := s) x
  have hd : ((s.appendEntered x).setDesc d { x with data := s.appendSource x b }).desc? d = some { x with data := s.appendSource x b } := by
    rw [desc?_setDesc, if_pos rfl]
  have hc : ((s.appendEntered x).setDesc d { x with data := s.appendSource x b }).chooseUnit = s.chooseUnit :=
    chooseUnit_of (by rw [State.setDesc_pj, he]) (by rw [State.setDesc_ck, he])
  have hb : ((s.appendEntered x).setDesc d { x with data := s.appendSource x b }).budget x.e = s.budget x.e := by
    rw [budget_of (State.setDesc_regs ..), appendEntered_budget]
  rw [State.appendReady, enterUnit_waits hd (by rw [hc, hb]; exact hu)]
  refine ⟨stage_stage hd _, ?_, ?_⟩
  · rw [hasTracker_of (s := s.appendEntered x) (by rw [stage_fn, State.setDesc_fn]), ht]
  · rw [stage_eq hd, State.desc_setDesc, if_pos rfl]
    exact appendSource_length b

theorem appendReady_busy (hx : x.stage ≠ .done) (b : List Byte) (hu : s.chooseUnit = none) (hb : s.budget x.e = 0) :
    Ended (s.appendReady d x b) d .busy := by
  obtain ⟨o, k, he⟩ := appendEntered_frame (s := s) x
  have hd : ((s.appendEntered x).setDesc d { x with data := s.appendSource x b }).desc? d = some { x with data := s.appendSource x b } := by
    rw [desc?_setDesc, if_pos rfl]
  have hc : ((s.appendEntered x).setDesc d { x with data := s.appendSource x b }).chooseUnit = none :=
    (chooseUnit_of (by rw [State.setDesc_pj, he]) (by rw [State.setDesc_ck, he])).trans hu
  have hz : ((s.appendEntered x).setDesc d { x with data := s.appendSource x b }).budget x.e = 0 := by
    rw [budget_of (State.setDesc_regs ..), appendEntered_budget, hb]
  rw [State.appendReady, enterUnit_busy hd hc hz]
  exact finish_ends hd hx ..

theorem trackerWaitExpired_eq (h : Waits s d .tracker x) : exec (.trackerWaitExpired d) s =
    .next (if s.waitedOut x (s.budget x.e) then
      (if (s.takeTracker x).hasTracker x then (s.takeTracker x).stage d .ready else (s.takeTracker x).finish d .busy) else s) := by
  show execTrackerWaitExpired d s = _
  simp only [execTrackerWaitExpired, desc_of_some h.1, h.2]
  cases s.waitedOut x (s.budget x.e) <;> simp

/-! ## What a unit's command leaves when it is done -/

/-- From one state to another queues, streams and what reaches the host are as they were. -/
structure HostKeeps (s t : State) : Prop where
  q : t.q = s.q
  fn : t.fn = s.fn
  fns : t.ir.fns = s.ir.fns
  hp : t.hp = s.hp
  rate : t.fld F_HP_STATUS_RATE = s.fld F_HP_STATUS_RATE

theorem HostKeeps.trans (h : HostKeeps s t) (k : HostKeeps t z) : HostKeeps s z :=
  ⟨k.q.trans h.q, k.fn.trans h.fn, k.fns.trans h.fns, k.hp.trans h.hp, k.rate.trans h.rate⟩

theorem AccessKeeps.host (h : AccessKeeps s t) : HostKeeps s t := ⟨h.q, h.fn, h.fns, h.hp, h.flds F_HP_STATUS_RATE (by decide) 0⟩

/-- Another field of the registers is not the rate of the host's link. -/
theorem hostKeeps_setFld {f : Fld} (hf : f.Fits) (h : (f.blk, f.off, f.lo) ≠ (F_HP_STATUS_RATE.blk, F_HP_STATUS_RATE.off, F_HP_STATUS_RATE.lo))
    (v i : Nat) : HostKeeps s (s.setFld f v i) :=
  ⟨rfl, rfl, rfl, rfl, fld_setFld_ne hf (by decide) h v i 0⟩

/-- A command that its unit is done with leaves the unit, and its bytes are counted (R272). -/
theorem hostKeeps_unitDone (d : Nat) : HostKeeps s (s.unitDone d) := by
  unfold State.unitDone
  split
  · exact ⟨rfl, rfl, rfl, rfl, rfl⟩
  · next u _ =>
    have hu (y : PjUnit) : HostKeeps s (s.setPjUnit u y) := ⟨rfl, rfl, rfl, rfl, rfl⟩
    exact (hu _).trans (hostKeeps_setFld (by decide) (by decide) _ u)

theorem hostKeeps_countEvents (e : Events) : HostKeeps s (s.countEvents e) :=
  (hostKeeps_setFld (f := F_PJ_SAT_CNT_SAT) (by decide) (by decide) _ 0).trans (hostKeeps_setFld (f := F_PJ_NAN_CNT_NAN) (by decide) (by decide) _ 0)

/-- The state in which an append's data are where they go, and its unit has counted them. -/
def State.appendWritten (s : State) (d : Nat) (x : Desc) : State :=
  ((((s.turned x [] (s.appendPieces d)).appendData d).1).countEvents ((s.turned x [] (s.appendPieces d)).appendData d).2.2).unitDone d

theorem hostKeeps_appendWritten (d : Nat) (x : Desc) : HostKeeps s (s.appendWritten d x) := by
  have ha : AccessKeeps s ((s.turned x [] (s.appendPieces d)).appendData d).1 := (accessKeeps_payTurns ..).trans (accessKeeps_appendData d)
  exact (ha.host.trans (hostKeeps_countEvents _)).trans (hostKeeps_unitDone d)

/-- The state in which the layer of an append has become durable (R127). -/
def State.appendDurable (s : State) (d : Nat) (x : Desc) : State :=
  ((s.appendWritten d x).setLayer (x.strm.getD 0) x.aux (Layer.durable ((s.appendWritten d x).stream (x.strm.getD 0)).slots x)).contextWrite
    (x.strm.getD 0)

section Durable
variable (h : s.desc? d = some x)
include h

theorem appendDurable_unserved (hp : s.pjServed d = false) : exec (.appendDurable d) s = .next s := by
  show execAppendDurable d s = _
  simp [execAppendDurable, desc_of_some h, hp]

theorem appendDurable_waits (hw : s.mergeWaits x.e.tenant (s.appendPieces d) = true ∨ s.outOfTurn x.e.tenant [] (s.appendPieces d) = true) :
    exec (.appendDurable d) s = .next s := by
  show execAppendDurable d s = _
  rcases hw with hw | hw <;> simp [execAppendDurable, desc_of_some h, hw]

variable (hop : x.e.opcode = 0x23) (hst : x.stage = .exec) (hp : s.pjServed d = true)
  (hm : s.mergeWaits x.e.tenant (s.appendPieces d) = false) (ho : s.outOfTurn x.e.tenant [] (s.appendPieces d) = false)
include hop hst hp hm ho

theorem appendDurable_eq : exec (.appendDurable d) s =
    .next (if ((s.turned x [] (s.appendPieces d)).appendData d).2.1.status ≠ .ok then
        (s.appendWritten d x).finish d ((s.turned x [] (s.appendPieces d)).appendData d).2.1.status
          ((s.turned x [] (s.appendPieces d)).appendData d).2.1.result
      else ((s.appendDurable d x).finish d .ok
        { w0 := tokenReg (((s.appendDurable d x).stream (x.strm.getD 0)).layers.getD x.aux {}).wm }).grantTrackers
          ((s.appendDurable d x).trackerWaiters (x.strm.getD 0) x.aux)) := by
  show execAppendDurable d s = _
  simp only [execAppendDurable, desc_of_some h, hop, hst, hp, hm, ho]
  rfl

/-- An append whose data met poison or a failing tag ends with that status and leaves the streams (R128). -/
theorem appendDurable_fails (hs : ((s.turned x [] (s.appendPieces d)).appendData d).2.1.status ≠ .ok) :
    Leads (.appendDurable d) s fun t =>
      Ended t d ((s.turned x [] (s.appendPieces d)).appendData d).2.1.status ∧ t.fn.streams = s.fn.streams := by
  obtain ⟨hq, hf, -⟩ := hostKeeps_appendWritten (s := s) d x
  have hd : (s.appendWritten d x).desc? d = some x := (desc?_of_q hq d).trans h
  refine ⟨_, appendDurable_eq h hop hst hp hm ho, ?_⟩
  rw [if_pos hs]
  exact ⟨finish_ends hd (by rw [hst]; nofun) .., by rw [finish_fn hd (by rw [hop]; decide) (by rw [hop]; decide), hf]⟩

/-- An append whose data are written makes its layer durable and ends OK (R127). -/
theorem appendDurable_ends {i : Nat} (hi : x.strm = some i) (haux : x.aux < (s.stream i).layers.length)
    (hs : ((s.turned x [] (s.appendPieces d)).appendData d).2.1.status = .ok) (hw : s.trackerWaiters i x.aux = []) :
    Leads (.appendDurable d) s fun t => Ended t d .ok ∧
      (t.stream i).layers.getD x.aux {} = Layer.durable (s.stream i).slots x ((s.stream i).layers.getD x.aux {}) := by
  obtain ⟨hq, hf, -⟩ := hostKeeps_appendWritten (s := s) d x
  have hc : AccessKeeps ((s.appendWritten d x).setLayer (x.strm.getD 0) x.aux (Layer.durable ((s.appendWritten d x).stream (x.strm.getD 0)).slots x))
    (s.appendDurable d x) := accessKeeps_contextWrite _
  have hdq : (s.appendDurable d x).q = s.q := hc.q.trans hq
  have hd : (s.appendDurable d x).desc? d = some x := (desc?_of_q hdq d).trans h
  have hg : (s.appendDurable d x).trackerWaiters (x.strm.getD 0) x.aux = [] := by
    rw [hi, State.trackerWaiters, State.descsWhere, hdq]
    exact hw
  have hsw : (s.appendWritten d x).stream i = s.stream i := stream_of_fn (by rw [hf]) i
  have hlay : (s.appendDurable d x).stream i =
      { s.stream i with layers := (s.stream i).layers.modify x.aux (Layer.durable (s.stream i).slots x) } := by
    rw [stream_of_fn (t := s.appendDurable d x) (congrArg FnSt.streams hc.fn), hi, Option.getD_some, State.setLayer, hsw, State.stream_setStream,
      if_pos rfl]
  refine ⟨_, appendDurable_eq h hop hst hp hm ho, ?_⟩
  rw [if_neg (by simp [hs]), hg]
  refine ⟨finish_ends hd (by rw [hst]; nofun) .., ?_⟩
  show ((((s.appendDurable d x).finish d .ok _).stream i).layers.getD x.aux {}) = _
  rw [stream_of_fn (s := s.appendDurable d x) (by rw [finish_fn hd (by rw [hop]; decide) (by rw [hop]; decide)]), hlay]
  simp [List.getD_eq_getElem?_getD, haux]

end Durable

/-- The only entry of a layer, completed by its only shard, advances the watermark past it and leaves (R127). -/
theorem durable_alone {slots : KV Layout} {y : Tracker} (hf : y.first = x.e.through) (hl : y.last = x.e.through + x.e.len - 1)
    (hs : y.slot = x.e.slot) (hm : y.mask = 0) (hsh : x.e.shard = 0) (hone : (kvGet {} slots y.slot).shards = 1) :
    Layer.durable slots x { wm := y.first, trk := [y] } = { wm := y.last + 1 } := by
  have hbit : bit 0 0 = false := by decide
  have hpop : popCount 1 16 = 1 := by decide
  have hrest (n : Nat) : Layer.advance slots n { wm := y.last + 1 } = { wm := y.last + 1 } := by
    cases n <;> simp [Layer.advance]
  unfold Layer.durable
  simp only [List.map_cons, List.map_nil, hf, hl, hs, hm, hsh, hbit, decide_true, Bool.and_self, if_true, Bool.false_eq_true, if_false]
  unfold Layer.advance
  rw [← hs]
  simp [hpop, hone, hrest, ← hl]

end Sys2Proof.Machine
end

section
/-!
PROOFS. Projection: GATHER_KV, the bytes that go back to the host, and what the units do with their commands.
-/
namespace Sys2Proof.Machine

variable {s t z : State} {d u v : Nat} {x : Desc}

/-! ## Data that go back to the host -/

theorem mem_sentTo {f a : Nat} {b : List Byte} (h : Msg.hostWrite f a b ∈ t.outbox) : b ∈ t.sentTo f a :=
  List.mem_filterMap.2 ⟨_, h, by simp⟩

/-- Data of a command of a host that can be reached are written to it, and end the command (R86). -/
theorem returnData_host (h : s.desc? d = some x) (hl : (s.queue x.outQ).isLink = false) (hn : s.noHost x.q = false) (hf : s.hostFault = none)
    (a : Nat) (b : List Byte) (r : Result) (st : Status) :
    s.returnData d a b r st = (s.emit (.hostWrite (s.queue x.outQ).fn a b)).finish d st r := by
  simp [State.returnData, desc_of_some h, hl, hn, hf]

/-- The same when the host could be reached in an earlier state. -/
theorem returnData_ends (k : HostKeeps s t) (h : s.desc? d = some x) (hx : x.stage ≠ .done) (hl : (s.queue x.outQ).isLink = false)
    (hn : s.noHost x.q = false) (hf : s.hostFault = none) (a : Nat) (b : List Byte) (r : Result) :
    Ended (t.returnData d a b r) d .ok ∧ b ∈ (t.returnData d a b r).sentTo (s.queue x.outQ).fn a ∧
      ((t.returnData d a b r).pl.running = none ∨ (t.returnData d a b r).pl.running = t.pl.running) := by
  have hd : t.desc? d = some x := (desc?_of_q k.q d).trans h
  have hq : t.queue x.outQ = s.queue x.outQ := queue_of_q k.q _
  rw [returnData_host hd (by rw [hq, hl]) ((noHost_of k.q k.fns _).trans hn) ((hostFault_of k.rate k.hp).trans hf), hq]
  have he : EndKeeps (t.emit (.hostWrite (s.queue x.outQ).fn a b)) _ := endKeeps_finish d .ok r 0
  exact ⟨finish_ends (s := t.emit _) hd hx .., mem_sentTo (he.sent.subset (by simp [State.emit])), he.engine⟩

/-! ## GATHER_KV -/

theorem gatherKv_ready (h : Runs s d 0x24 x) : exec (.gatherKv d) s =
    .next (if s.wmMet x then s.enterUnit d else if s.budget x.e = 0 then s.stale d else s.stage d (.wait .watermark)) := by
  obtain ⟨hd, hop, hst⟩ := h
  show execGatherKv d s = _
  simp [execGatherKv, desc_of_some hd, hop, hst]

/-- The state in which the sources of a gather have been read. -/
def State.gatherRead (s : State) (d : Nat) (x : Desc) : State := ((s.turned x (s.gatherPieces d) []).gatherMet d).1

/-- The bytes that a gather returns. -/
def State.gatherBytes (s : State) (x : Desc) : List Byte :=
  placeRuns ((s.clientLayout x).bufBytes x.e.shard x.e.len)
    (((vecIds (s.clientLayout x) x.e.shard x.e.len).map (s.gatherVec x)).map (fun v => (v.1, v.2.1)))

/-- The state in which the unit of a gather has counted what it converted and is done with it. -/
def State.gatherDone (s : State) (d : Nat) (x : Desc) : State :=
  (s.countEvents ((((vecIds (s.clientLayout x) x.e.shard x.e.len).map (s.gatherVec x)).map (fun v => v.2.2)).foldl Events.add {})).unitDone d

theorem hostKeeps_gatherRead (d : Nat) (x : Desc) : HostKeeps s (s.gatherRead d x) :=
  ((accessKeeps_payTurns ..).trans (accessKeeps_gatherMet d)).host

theorem gatherBytes_length : (s.gatherBytes x).length = (s.clientLayout x).bufBytes x.e.shard x.e.len := by
  simp [State.gatherBytes, placeRuns]

theorem gatherKv_waits (h : s.desc? d = some x) (hst : x.stage = .exec)
    (hw : s.readWaits x.e.tenant (s.gatherPieces d) = true ∨ s.outOfTurn x.e.tenant (s.gatherPieces d) [] = true) :
    exec (.gatherKv d) s = .next s := by
  show execGatherKv d s = _
  rcases hw with hw | hw <;> simp [execGatherKv, desc_of_some h, hst, hw]

section Gather
variable (h : s.desc? d = some x) (hop : x.e.opcode = 0x24) (hst : x.stage = .exec) (hp : s.pjServed d = true)
  (hr : s.readWaits x.e.tenant (s.gatherPieces d) = false) (ho : s.outOfTurn x.e.tenant (s.gatherPieces d) [] = false)
include h hop hst hp hr ho

theorem gatherKv_served : exec (.gatherKv d) s =
    .next (if ((s.turned x (s.gatherPieces d) []).gatherMet d).2.status ≠ .ok then
        ((s.gatherRead d x).unitDone d).finish d ((s.turned x (s.gatherPieces d) []).gatherMet d).2.status
          ((s.turned x (s.gatherPieces d) []).gatherMet d).2.result
      else ((s.gatherRead d x).gatherDone d x).returnData d x.e.opB ((s.gatherRead d x).gatherBytes x) {}) := by
  show execGatherKv d s = _
  simp only [execGatherKv, desc_of_some h, hop, hst, hp, hr, ho, ne_eq, not_true_eq_false, reduceCtorEq, decide_true, Bool.and_self, Bool.or_self,
    Bool.false_eq_true, if_true, if_false, State.gatherRead, State.gatherDone, State.gatherBytes]

theorem gatherKv_fails (hs : ((s.turned x (s.gatherPieces d) []).gatherMet d).2.status ≠ .ok) :
    Leads (.gatherKv d) s fun t => Ended t d ((s.turned x (s.gatherPieces d) []).gatherMet d).2.status := by
  have hk : HostKeeps s ((s.gatherRead d x).unitDone d) := (hostKeeps_gatherRead d x).trans (hostKeeps_unitDone d)
  refine ⟨_, gatherKv_served h hop hst hp hr ho, ?_⟩
  rw [if_pos hs]
  exact finish_ends ((desc?_of_q hk.q d).trans h) (by rw [hst]; nofun) ..

/-- A gather whose sources read well returns its client's buffer to the host (R279). -/
theorem gatherKv_returns (hs : ((s.turned x (s.gatherPieces d) []).gatherMet d).2.status = .ok) (hl : (s.queue x.q).isLink = false)
    (hn : s.noHost x.q = false) (hf : s.hostFault = none) :
    Leads (.gatherKv d) s fun t => Ended t d .ok ∧
      ∃ b ∈ t.sentTo (s.queue x.q).fn x.e.opB, b.length = (s.clientLayout x).bufBytes x.e.shard x.e.len := by
  have hk : HostKeeps s (s.gatherRead d x) := hostKeeps_gatherRead d x
  have hg : HostKeeps s ((s.gatherRead d x).gatherDone d x) := (hk.trans (hostKeeps_countEvents _)).trans (hostKeeps_unitDone d)
  have hq : x.outQ = x.q := by simp [Desc.outQ, hop]
  obtain ⟨hend, hsent, -⟩ := returnData_ends hg h (by rw [hst]; nofun) (hq ▸ hl) hn hf x.e.opB ((s.gatherRead d x).gatherBytes x) {}
  refine ⟨_, gatherKv_served h hop hst hp hr ho, ?_⟩
  rw [if_neg (by simp [hs])]
  refine ⟨hend, _, hq ▸ hsent, ?_⟩
  rw [gatherBytes_length, clientLayout_of (congrArg FnSt.streams hk.fn)]

end Gather

/-! ## The unit with the fewest bytes -/

/-- The first of the units with the least load, from one found before. -/
def leastLoaded (load : Nat → Nat) (l : List Nat) (acc : Option Nat) : Option Nat :=
  l.foldl (fun acc u => match acc with
    | none => some u
    | some a => if load u < load a then some u else some a) acc

theorem chooseUnit_eq : s.chooseUnit = leastLoaded (fun u => ((s.pjUnit u).cmds.map (·.2)).foldl (· + ·) 0)
    ((List.range 8).filter (fun u => !(s.pjUnit u).out && !s.domFailed 57)) none := rfl

theorem leastLoaded_mem {load : Nat → Nat} (l : List Nat) (acc : Option Nat) {a : Nat} (h : leastLoaded load l acc = some a) :
    a ∈ l ∨ acc = some a := by
  induction l generalizing acc with
  | nil => exact .inr h
  | cons u l ih =>
    rcases ih _ h with hm | hm
    · exact .inl (List.mem_cons_of_mem _ hm)
    · cases acc with
      | none => exact .inl (by simp_all)
      | some b =>
        dsimp only at hm
        split at hm
        · exact .inl (by simp_all)
        · exact .inr hm

theorem leastLoaded_congr {f g : Nat → Nat} (l : List Nat) (acc : Option Nat) (h : ∀ u ∈ l, f u = g u) (ha : ∀ a, acc = some a → f a = g a) :
    leastLoaded f l acc = leastLoaded g l acc := by
  induction l generalizing acc with
  | nil => rfl
  | cons u l ih =>
    obtain ⟨hu, hl⟩ := List.forall_mem_cons.1 h
    cases acc with
    | none => exact ih (some u) hl (fun a e => by cases e; exact hu)
    | some b =>
      have hb : f b = g b := ha b rfl
      have hif : (if f u < f b then some u else some b) = if g u < g b then some u else some b := by rw [hu, hb]
      show leastLoaded f l (if f u < f b then some u else some b) = leastLoaded g l (if g u < g b then some u else some b)
      rw [hif]
      refine ih _ hl fun a e => ?_
      split at e <;> cases e
      · exact hu
      · exact hb

/-- The unit that takes a command is in service (R272). -/
theorem out_of_chooseUnit (h : s.chooseUnit = some u) : (s.pjUnit u).out = false := by
  rw [chooseUnit_eq] at h
  have hm := (leastLoaded_mem _ _ h).resolve_right nofun
  simp only [List.mem_filter, Bool.and_eq_true, Bool.not_eq_true'] at hm
  exact hm.2.1

/-- The record of a unit that stays OUT does not say which unit takes commands. -/
theorem chooseUnit_setPjUnit {y : PjUnit} (hu : (s.pjUnit u).out = true) (hy : y.out = true) : (s.setPjUnit u y).chooseUnit = s.chooseUnit := by
  have hout (j : Nat) : ((s.setPjUnit u y).pjUnit j).out = (s.pjUnit j).out := by
    rw [State.pjUnit_setPjUnit]
    split
    · next h => rw [hy, ← h, hu]
    · rfl
  have hd : (s.setPjUnit u y).domFailed 57 = s.domFailed 57 := rfl
  rw [chooseUnit_eq, chooseUnit_eq]
  simp only [hout, hd]
  refine leastLoaded_congr _ _ (fun j hj => ?_) nofun
  have hj : (s.pjUnit j).out = false := by simpa using (Bool.and_eq_true_iff.1 (List.mem_filter.1 hj).2).1
  rw [State.pjUnit_setPjUnit, if_neg (by rintro rfl; simp [hu] at hj)]

/-! ## Commands that move from unit to unit -/

theorem stage_pj (d : Nat) (g : Stage) : (s.stage d g).pj = s.pj := by
  unfold State.stage
  split <;> rfl

theorem pjUnit_stage (d : Nat) (g : Stage) (u : Nat) : (s.stage d g).pjUnit u = s.pjUnit u := by
  rw [State.pjUnit, stage_pj, State.pjUnit]

theorem assignUnit_some (h : s.desc? d = some x) (hu : s.chooseUnit = some u) :
    ((s.assignUnit d).desc d).stage = .exec ∧ ((s.assignUnit d).pjUnit u).cmds = (s.pjUnit u).cmds ++ [(d, s.pjBytes x)] := by
  unfold State.assignUnit
  rw [hu, desc_of_some h]
  refine ⟨stage_stage (s := s.setPjUnit u _) h _, ?_⟩
  rw [pjUnit_stage, State.pjUnit_setPjUnit, if_pos rfl]

theorem assignUnit_none (hu : s.chooseUnit = none) : s.assignUnit d = s := by
  rw [State.assignUnit, hu]

/-- A command that is placed again leaves an OUT unit as it is. -/
theorem placeCmd_out (hu : (s.pjUnit u).out = true) (c : Nat × Nat) : (s.placeCmd c).pjUnit u = s.pjUnit u := by
  unfold State.placeCmd
  split
  · next v hv =>
    have hne : v ≠ u := by
      rintro rfl
      simp [out_of_chooseUnit hv] at hu
    rw [State.pjUnit_setPjUnit, if_neg hne]
  · exact pjUnit_stage ..

theorem placeCmds_out (hu : (s.pjUnit u).out = true) (l : List (Nat × Nat)) : (l.foldl State.placeCmd s).pjUnit u = s.pjUnit u :=
  foldl_keeps (fun z => z.pjUnit u = s.pjUnit u) _ (fun z c hz => (placeCmd_out (by rw [hz, hu]) c).trans hz) l s rfl

/-- It goes to the unit that takes commands. -/
theorem placeCmd_some (hv : s.chooseUnit = some v) (c : Nat × Nat) : ((s.placeCmd c).pjUnit v).cmds = (s.pjUnit v).cmds ++ [c] := by
  rw [State.placeCmd, hv]
  exact congrArg PjUnit.cmds ((State.pjUnit_setPjUnit ..).trans (if_pos rfl))

/-- It takes no command from any unit. -/
theorem placeCmd_any {p : Nat × Nat → Bool} (h : (s.pjUnit v).cmds.any p = true) (c : Nat × Nat) : ((s.placeCmd c).pjUnit v).cmds.any p = true := by
  unfold State.placeCmd
  split
  · next w _ =>
    rw [State.pjUnit_setPjUnit]
    split
    · next hw => rw [List.any_append, hw, h, Bool.true_or]
    · exact h
  · rw [pjUnit_stage, h]

theorem placeCmds_any {p : Nat × Nat → Bool} (h : (s.pjUnit v).cmds.any p = true) (l : List (Nat × Nat)) :
    ((l.foldl State.placeCmd s).pjUnit v).cmds.any p = true :=
  foldl_keeps (fun z => (z.pjUnit v).cmds.any p = true) _ (fun _ c hz => placeCmd_any hz c) l s h

/-- A unit that is OUT gives up a command that moves, and its redos (R284). -/
theorem pjMove_out (hu : (s.pjUnit u).out = true) (d : Nat) : (s.pjMove u d).pjUnit u =
    { s.pjUnit u with cmds := (s.pjUnit u).cmds.filter (fun c => c.1 != d), redo := (s.pjUnit u).redo.filter (fun r => r.1 != d) } := by
  unfold State.pjMove
  dsimp only
  rw [placeCmds_out (by rw [State.pjUnit_setPjUnit, if_pos rfl]; exact hu), State.pjUnit_setPjUnit, if_pos rfl]

/-- A command that moves from an OUT unit goes to the unit that takes commands. -/
theorem pjMove_places (hu : (s.pjUnit u).out = true) (hd : (s.pjUnit u).cmds.any (fun c => c.1 == d) = true) (hv : s.chooseUnit = some v) :
    ((s.pjMove u d).pjUnit v).cmds.any (fun c => c.1 == d) = true := by
  obtain ⟨c, hc, hcd⟩ := List.any_eq_true.1 hd
  have hmem : c ∈ (s.pjUnit u).cmds.filter (fun c => c.1 == d) := List.mem_filter.2 ⟨hc, hcd⟩
  unfold State.pjMove
  dsimp only
  cases hl : (s.pjUnit u).cmds.filter (fun c => c.1 == d) with
  | nil => rw [hl] at hmem; cases hmem
  | cons a l =>
    have ham : a ∈ (s.pjUnit u).cmds.filter (fun c => c.1 == d) := by rw [hl]; exact List.mem_cons_self
    have ha : (a.1 == d) = true := (List.mem_filter.1 ham).2
    refine placeCmds_any ?_ l
    rw [placeCmd_some ((chooseUnit_setPjUnit hu (by exact hu)).trans hv), List.any_append]
    simp [ha]

/-- A unit that is OUT gives up all commands that move. -/
theorem pjMoves_out (l : List Nat) (hu : (s.pjUnit u).out = true) : ((l.foldl (fun s d => s.pjMove u d) s).pjUnit u).out = true ∧
    ((l.foldl (fun s d => s.pjMove u d) s).pjUnit u).cmds = (s.pjUnit u).cmds.filter (fun c => decide (c.1 ∉ l)) := by
  induction l generalizing s with
  | nil => exact ⟨hu, by simp⟩
  | cons a l ih =>
    have hm := pjMove_out hu a
    obtain ⟨ho, hc⟩ := ih (s := s.pjMove u a) (by rw [hm]; exact hu)
    refine ⟨ho, ?_⟩
    rw [List.foldl_cons, hc, hm, List.filter_filter]
    refine List.filter_congr fun c _ => ?_
    by_cases h : c.1 = a <;> simp [h]

theorem pjUnitAssign_moves (h : s.desc? d = some x) (hw : x.stage ≠ .wait .unit)
    (hf : (List.range 8).find? (fun u => (s.pjUnit u).out && (s.pjUnit u).cmds.any (fun c => c.1 == d)) = some u) :
    exec (.pjUnitAssign d) s = .next (s.pjMove u d) := by
  show execPjUnitAssign d s = _
  simp [execPjUnitAssign, desc_of_some h, hw, hf]

theorem pjUnitAssign_waits (h : Waits s d .unit x) (hop : x.e.opcode = 0x23 ∨ x.e.opcode = 0x24) :
    exec (.pjUnitAssign d) s = .next (s.assignUnit d) := by
  show execPjUnitAssign d s = _
  rcases hop with hop | hop <;> simp [execPjUnitAssign, desc_of_some h.1, h.2, hop]

theorem pjUnitWaitExpired_eq (h : Waits s d .unit x) : exec (.pjUnitWaitExpired d) s =
    .next (if s.waitedOut x (s.budget x.e) = false then s
      else if s.chooseUnit = none || !(x.e.opcode == 0x23 || x.e.opcode == 0x24) then s.finish d .busy else s.assignUnit d) := by
  show execPjUnitWaitExpired d s = _
  simp [execPjUnitWaitExpired, desc_of_some h.1, h.2]

/-! ## Errors of units -/

/-- The error of a unit that has had fewer than two of late and has none waiting escalates nothing (R659, R660). -/
theorem not_escalates_of_recent {i : ErrInfo} {r : UnitRec} (h : (s.recent r).length < 2) (hq : r.queued = none) : s.escalates i r = false := by
  have hb : b2n (i.counts r) ≤ 1 := by cases i.counts r <;> decide
  have hw : ¬ 3 ≤ s.windowCount i r := by unfold State.windowCount; omega
  simp [State.escalates, hw, hq]

theorem accessKeeps_reportCured {i : ErrInfo} (h : s.escalates i (s.unitRec (unitKey i.utype i.inst)) = false) : AccessKeeps s (s.reportCured i) :=
  .ite (accessKeeps_report h) ((accessKeeps_report h).trans (accessKeeps_recoveryEnd ..))

theorem accessKeeps_setOutcome (k n : Nat) : AccessKeeps s (s.setOutcome k n) := by
  unfold State.setOutcome
  split
  · exact accessKeeps_rest ..
  · exact .refl

theorem accessKeeps_setUnitRec (k : Nat) (r : UnitRec) : AccessKeeps s (s.setUnitRec k r) := accessKeeps_rest ..

/-- A unit that escalates has its records written, and is taken out of service (R659). -/
theorem escalate_eq (i : ErrInfo) (r : UnitRec) (n k : Nat) : ∃ z, AccessKeeps s z ∧ s.escalate i r n k = z.markUnit i.utype i.inst := by
  refine ⟨_, ?_, rfl⟩
  refine .trans ?_ (accessKeeps_setUnitRec ..)
  refine .trans ?_ (accessKeeps_bump (by decide) 1 0)
  refine .trans ?_ (accessKeeps_writeRec _)
  split
  · exact accessKeeps_setOutcome ..
  · exact .refl

/-- An error is recorded, and at most takes its unit out of service (R657, R659). -/
theorem report_cases (i : ErrInfo) : ∃ z, AccessKeeps s z ∧ (s.report i = z ∨ s.report i = z.markUnit i.utype i.inst) := by
  have hrec (e : ErrRec) (k : Nat) (y : UnitRec) : AccessKeeps s ((s.writeRec e).1.setUnitRec k y) :=
    (accessKeeps_writeRec e).trans (accessKeeps_setUnitRec k y)
  unfold State.report State.record
  dsimp only
  split
  · obtain ⟨z, hz, he⟩ := escalate_eq (s := (s.writeRec (s.errRecord i (s.unitRec (unitKey i.utype i.inst)))).1.setUnitRec _ _) i _ _ _
    exact ⟨z, (hrec _ _ _).trans hz, .inr he⟩
  · exact ⟨_, hrec _ _ _, .inl rfl⟩

/-- A command that has not ended. -/
abbrev Unfinished (s : State) (d : Nat) : Prop := ∃ y, s.desc? d = some y ∧ y.stage ≠ .done

theorem unfinished_of_descs (ht : t.q.descs = s.q.descs) (h : Unfinished s d) : Unfinished t d := by
  obtain ⟨y, hy, hst⟩ := h
  exact ⟨y, (desc?_of_descs ht d).trans hy, hst⟩

theorem unfinished_stage {g : Stage} (hg : g ≠ .done) (k : Nat) (h : Unfinished s d) : Unfinished (s.stage k g) d := by
  obtain ⟨y, hy, hst⟩ := h
  cases hk : s.desc? k with
  | none =>
    have : s.stage k g = s := by rw [State.stage, hk]
    rw [this]
    exact ⟨y, hy, hst⟩
  | some e =>
    rw [stage_eq hk]
    by_cases hkd : k = d
    · exact ⟨_, by rw [desc?_setDesc, if_pos hkd], hg⟩
    · exact ⟨y, by rw [desc?_setDesc, if_neg hkd, hy], hst⟩

theorem unfinished_placeCmd (c : Nat × Nat) (h : Unfinished s d) : Unfinished (s.placeCmd c) d := by
  unfold State.placeCmd
  split
  · exact h
  · exact unfinished_stage (g := .wait .unit) nofun c.1 h

/-- A unit that goes OUT ends no command (R284). -/
theorem unfinished_pjOut (u : Nat) (h : Unfinished s d) : Unfinished (s.pjOut u) d := by
  unfold State.pjOut
  extract_lets y w z
  have hw : w.q.descs = s.q.descs := by
    unfold w
    split <;> rfl
  exact foldl_keeps (fun v => Unfinished v d) _ (fun _ c => unfinished_placeCmd c) _ z (unfinished_of_descs (t := z) hw h)

theorem unfinished_report {i : ErrInfo} (hi : i.utype = 7) (h : Unfinished s d) : Unfinished (s.report i) d := by
  obtain ⟨z, hz, he | he⟩ := report_cases (s := s) i <;> rw [he]
  · exact unfinished_of_descs (by rw [hz.q]) h
  · have hm : z.markUnit i.utype i.inst = z.pjOut i.inst := by rw [hi]; rfl
    rw [hm]
    exact unfinished_pjOut _ (unfinished_of_descs (by rw [hz.q]) h)

/-! ## Parity errors of chunks -/

/-- The error record of a chunk of a projection unit (R281). -/
def chunkError (u : Nat) (y : Desc) : ErrInfo :=
  { kind := 0x11, utype := 7, inst := u, cls := 1, recov := true, tenant := y.e.tenant, ctx := errCtx y.q (y.strm.getD 0), tag := y.e.tag }

theorem pjParity_eq {n : Nat} (h : (s.pjUnit u).served.any (fun c => c.1 == d) = true) (hn : n < (s.desc d).chunks) : exec (.pjParity u d n) s =
    .next (if (s.pjUnit u).redo.any (fun r => r == (d, n)) = false then
        ((s.setPjUnit u { s.pjUnit u with redo := (s.pjUnit u).redo ++ [(d, n)] }).bump F_PJ_REDO_CNT_REDO).reportCured (chunkError u (s.desc d))
      else (s.report { chunkError u (s.desc d) with norec := true, status := Status.aborted.code, detail := 0x50 }).finish d .aborted {} 0x50) := by
  show execPjParity u d n s = _
  cases hr : (s.pjUnit u).redo.any (fun r => r == (d, n)) <;> simp [execPjParity, h, Nat.not_le.2 hn, hr, chunkError]

theorem pjParity_other {n : Nat} (h : (s.pjUnit u).served.any (fun c => c.1 == d) = false ∨ (s.desc d).chunks ≤ n) :
    exec (.pjParity u d n) s = .next s := by
  show execPjParity u d n s = _
  rcases h with h | h <;> simp [execPjParity, h]

/-- The first error of a chunk has it converted again (R281). -/
theorem pjParity_redoes {n : Nat} (h : (s.pjUnit u).served.any (fun c => c.1 == d) = true) (hn : n < (s.desc d).chunks)
    (hr : (s.pjUnit u).redo.any (fun r => r == (d, n)) = false) (hc : (s.recent (s.unitRec (unitKey 7 u))).length < 2)
    (hq : (s.unitRec (unitKey 7 u)).queued = none) :
    Leads (.pjParity u d n) s fun t => (t.pjUnit u).redo = (s.pjUnit u).redo ++ [(d, n)] ∧ (t.pjUnit u).cmds = (s.pjUnit u).cmds ∧
      t.q.descs = s.q.descs ∧ t.fld F_PJ_REDO_CNT_REDO = min (s.fld F_PJ_REDO_CNT_REDO + 1) (2 ^ F_PJ_REDO_CNT_REDO.wid - 1) := by
  refine ⟨_, pjParity_eq h hn, ?_⟩
  rw [if_pos hr]
  generalize hz : (s.setPjUnit u { s.pjUnit u with redo := (s.pjUnit u).redo ++ [(d, n)] }).bump F_PJ_REDO_CNT_REDO = z
  have he : z.escalates (chunkError u (s.desc d)) (z.unitRec (unitKey 7 u)) = false := by
    subst hz
    exact not_escalates_of_recent hc hq
  have hk : AccessKeeps z (z.reportCured (chunkError u (s.desc d))) := accessKeeps_reportCured he
  have hu : (z.reportCured (chunkError u (s.desc d))).pjUnit u = { s.pjUnit u with redo := (s.pjUnit u).redo ++ [(d, n)] } := by
    rw [State.pjUnit, hk.pj, ← hz]
    exact (State.pjUnit_setPjUnit ..).trans (if_pos rfl)
  refine ⟨by rw [hu], by rw [hu], by rw [hk.q, ← hz]; rfl, ?_⟩
  rw [hk.flds _ (by decide), ← hz, State.fld_bump]
  rfl

/-- The second ends the command (R281). -/
theorem pjParity_aborts {n : Nat} (h : (s.pjUnit u).served.any (fun c => c.1 == d) = true) (hn : n < (s.desc d).chunks)
    (hr : (s.pjUnit u).redo.any (fun r => r == (d, n)) = true) (hd : Unfinished s d) :
    Leads (.pjParity u d n) s fun t => Ended t d .aborted ∧ (t.desc d).detail = 0x50 := by
  refine ⟨_, pjParity_eq h hn, ?_⟩
  rw [if_neg (by simp [hr])]
  obtain ⟨y, hy, hst⟩ := unfinished_report
    (i := { chunkError u (s.desc d) with norec := true, status := Status.aborted.code, detail := 0x50 }) rfl hd
  obtain ⟨hend, -, hdetail⟩ := finish_ended _ y .aborted {} 0x50 hy hst
  exact ⟨hend, hdetail⟩

/-! ## Return of units -/

theorem ctlWrite_acts {p : Port} {off : Nat} (ha : s.answers p off = true) (hp : pfOrFw p = true) (f : State → State) :
    s.ctlWrite p off f = f (s.dropStage p) := by
  have hd : (s.dropStage p).answers p off = true := ha
  simp [State.ctlWrite, hd, hp]

theorem ctlWrite_counts {p : Port} {off : Nat} (ha : s.answers p off = true) (hp : pfOrFw p = false) (f : State → State) :
    s.ctlWrite p off f = (s.dropStage p).badAccess p off := by
  have hd : (s.dropStage p).answers p off = true := ha
  simp [State.ctlWrite, hd, hp]

section Return
variable {p : Port} (ha : s.answers p (bar0 6 0x100C) = true)
include ha

theorem pjUReturn_counts (h : pfOrFw p = false ∨ (u < 8 ∧ s.jobOn 3 u 0 = true)) :
    exec (.pjUReturn p u) s = .next ((s.dropStage p).badAccess p (bar0 6 0x100C)) := by
  show execPjUReturn p u s = _
  unfold execPjUReturn
  cases hp : pfOrFw p with
  | false => rw [ctlWrite_counts ha hp]
  | true =>
    obtain ⟨hu, hj⟩ := h.resolve_left (by simp [hp])
    have hj' : (s.dropStage p).jobOn 3 u 0 = true := hj
    rw [ctlWrite_acts ha hp]
    simp [hu, hj']

variable (hp : pfOrFw p = true) (hu : u < 8) (hj : s.jobOn 3 u 0 = false)
include hp hu hj

theorem pjUReturn_in (ho : (s.pjUnit u).out = false) :
    exec (.pjUReturn p u) s = .next ((s.dropStage p).setPjUnit u { s.pjUnit u with testing := true }) := by
  have hj' : (s.dropStage p).jobOn 3 u 0 = false := hj
  have hd : (s.dropStage p).pjUnit u = s.pjUnit u := rfl
  show execPjUReturn p u s = _
  unfold execPjUReturn
  rw [ctlWrite_acts ha hp]
  simp [hu, hj', hd, ho]

/-- The test of an OUT unit has it give up all its commands (R284). -/
theorem pjUReturn_out (ho : (s.pjUnit u).out = true) :
    Leads (.pjUReturn p u) s fun t => (t.pjUnit u).testing = true ∧ (t.pjUnit u).cmds = [] ∧ (t.pjUnit u).out = true := by
  have hj' : (s.dropStage p).jobOn 3 u 0 = false := hj
  have hd : (s.dropStage p).pjUnit u = s.pjUnit u := rfl
  obtain ⟨hout, hcmds⟩ := pjMoves_out (s := s.dropStage p) ((s.pjUnit u).cmds.map (·.1)) (hd ▸ ho)
  generalize hz : ((s.pjUnit u).cmds.map (·.1)).foldl (fun s d => s.pjMove u d) (s.dropStage p) = z at hout hcmds
  have he : exec (.pjUReturn p u) s = .next (z.setPjUnit u { z.pjUnit u with testing := true }) := by
    show execPjUReturn p u s = _
    unfold execPjUReturn
    rw [ctlWrite_acts ha hp]
    simp [hu, hj', hd, ho, ← hz]
  have hu : (z.setPjUnit u { z.pjUnit u with testing := true }).pjUnit u = { z.pjUnit u with testing := true } :=
    (State.pjUnit_setPjUnit ..).trans (if_pos rfl)
  have hnil : (z.pjUnit u).cmds = [] := by
    rw [hcmds, hd, List.filter_eq_nil_iff]
    intro c hc
    simpa using ⟨c.2, hc⟩
  exact ⟨_, he, by rw [hu], by rw [hu]; exact hnil, by rw [hu]; exact hout⟩

end Return

theorem pjUSelfTestDone_eq (h : (s.pjUnit u).testing = true) (b : Bool) : exec (.pjUSelfTestDone u b) s =
    .next (if b then (s.setPjUnit u { s.pjUnit u with testing := false, out := false }).unitReturn 7 u
      else s.setPjUnit u { s.pjUnit u with testing := false }) := by
  show execPjUSelfTestDone u b s = _
  simp [execPjUSelfTestDone, h]

theorem pjUSelfTestDone_none (h : (s.pjUnit u).testing = false) (b : Bool) : exec (.pjUSelfTestDone u b) s = .next s := by
  show execPjUSelfTestDone u b s = _
  simp [execPjUSelfTestDone, h]

end Sys2Proof.Machine
end

section
/-!
PROOFS. The placement engine, and the statement on the projection and placement commands.
-/
namespace Sys2Proof.Machine

variable {s t z : State} {d u v : Nat} {x : Desc}

/-! ## Starts of solves -/

theorem startSolve_starts (h : s.desc? d = some x) : ((s.startSolve d).desc d).stage = .exec ∧ (s.startSolve d).pl.running = some d ∧
    (s.startSolve d).pl.started = s.now ∧ (s.startSolve d).pl.last = x.e.tenant :=
  ⟨stage_stage h .exec, rfl, rfl, congrArg (fun y : Desc => y.e.tenant) (desc_of_some h)⟩

section Place
variable (h : Runs s d 0x50 x) (hg : s.domGated 56 = false)
include h hg

theorem place_refused (hok : placeOk x.blk x.e.len = false) : exec (.place d) s = .next (s.refuseLate d 3) := by
  show execPlace d s = _
  simp [execPlace, desc_of_some h.1, runs?_of_runs h, hg, hok]

theorem place_eq (hok : placeOk x.blk x.e.len = true) : exec (.place d) s =
    .next (if s.budget x.e = 0 then
        (if s.pl.running.isNone && s.solverWaiters.isEmpty && !s.domFailed 56 then s.startSolve d else s.finish d .busy)
      else s.stage d (.wait .solver)) := by
  show execPlace d s = _
  simp [execPlace, desc_of_some h.1, runs?_of_runs h, hg, hok]

end Place

theorem solverStart_starts (hr : s.pl.running = none) (hg : s.domGated 56 = false) (hn : s.nextSolve = some d) :
    exec .solverStart s = .next (s.startSolve d) := by
  show execSolverStart s = _
  simp [execSolverStart, hr, hg, hn]

theorem solverStart_idle (h : s.pl.running ≠ none ∨ s.domGated 56 = true ∨ s.nextSolve = none) : exec .solverStart s = .next s := by
  show execSolverStart s = _
  rcases h with h | h | h
  · simp [execSolverStart, Option.isSome_iff_ne_none.2 h]
  · simp [execSolverStart, h]
  · simp [execSolverStart, h]

theorem solverWaitExpired_eq (h : Waits s d .solver x) : exec (.solverWaitExpired d) s =
    .next (if s.waitedOut x (s.budget x.e) = false then s
      else if s.pl.running = none ∧ s.nextSolve = some d then s.startSolve d else s.finish d .busy) := by
  show execSolverWaitExpired d s = _
  simp [execSolverWaitExpired, desc_of_some h.1, h.2]

/-! ## Ends of solves -/

/-- The state in which the engine is free again and has noted how long the solve took (R287). -/
abbrev State.solveLeft (s : State) (d : Nat) : State := (s.leaveEngine d).setFld F_PL_LAST_TIME_TICKS ((s.now - s.pl.started) % 2 ^ 32)

theorem hostKeeps_solveLeft (d : Nat) : HostKeeps s (s.solveLeft d) := by
  obtain ⟨e, r, he⟩ := leaveEngine_frame (s := s) d
  have hk : HostKeeps s (s.leaveEngine d) := by
    rw [he]
    exact ⟨rfl, rfl, rfl, rfl, rfl⟩
  exact hk.trans (hostKeeps_setFld (by decide) (by decide) _ 0)

theorem solveLeft_running (h : s.pl.running = some d) : (s.solveLeft d).pl.running = none := by
  obtain ⟨e, r, he⟩ := leaveEngine_frame (s := s) d
  show (s.leaveEngine d).pl.running = none
  rw [he]
  exact if_pos h

theorem solveLeft_mem : (s.solveLeft d).mem = s.mem := (endKeeps_leaveEngine d).mem

/-- The result of a solve: its cost, its phases, its bids and its time (R287). -/
def State.solveResult (s : State) (x : Desc) : Result :=
  { w0 := (((solve x.blk).1.zip (List.range (solve x.blk).1.length)).map (fun p => placeCost x.blk p.2 p.1)).foldl (· + ·) 0
    w1 := (solve x.blk).2.1
    w2 := (solve x.blk).2.2 % 2 ^ 32
    w3 := (s.now - s.pl.started) % 2 ^ 32 }

section Solve
variable (hr : s.pl.running = some d) (h : s.desc? d = some x)
include hr h

theorem solveComplete_infeasible {n r : Nat} (hf : feasibility x.blk = (n, some r)) : exec .solveComplete s =
    .next (((s.solveLeft d).bump F_PL_INFEAS_CNT_INFEAS).finish d .feasibility { w0 := n, w1 := r, w3 := (s.now - s.pl.started) % 2 ^ 32 }) := by
  show execSolveComplete s = _
  simp only [execSolveComplete, hr, desc_of_some h, hf]

variable (hf : (feasibility x.blk).2 = none)
include hf

theorem solveComplete_eq : exec .solveComplete s =
    .next (if x.e.flag 9 && s.outWaits x x.e.dest (placeBytes x.blk (solve x.blk).1).length then s
      else if x.e.flag 9 then
        (if ((s.solveLeft d).writeAllOrNone x.dst x.dmeta x.e.dest (placeBytes x.blk (solve x.blk).1) {} x.who).2.status = .ok then
          (((s.solveLeft d).writeAllOrNone x.dst x.dmeta x.e.dest (placeBytes x.blk (solve x.blk).1) {} x.who).1.bump F_PL_SOLVES_SOLVES).finish d
            .ok (s.solveResult x)
        else ((s.solveLeft d).writeAllOrNone x.dst x.dmeta x.e.dest (placeBytes x.blk (solve x.blk).1) {} x.who).1.finish d
          ((s.solveLeft d).writeAllOrNone x.dst x.dmeta x.e.dest (placeBytes x.blk (solve x.blk).1) {} x.who).2.status)
      else ((s.solveLeft d).bump F_PL_SOLVES_SOLVES).returnData d x.e.dest (placeBytes x.blk (solve x.blk).1) (s.solveResult x)) := by
  have hpair : feasibility x.blk = ((feasibility x.blk).1, none) := Prod.ext rfl hf
  show execSolveComplete s = _
  simp only [execSolveComplete, hr, desc_of_some h]
  rw [hpair]
  rfl

theorem solveComplete_host (hx : x.stage ≠ .done) (h9 : x.e.flag 9 = false) (hl : (s.queue x.outQ).isLink = false) (hn : s.noHost x.q = false)
    (hh : s.hostFault = none) :
    Leads .solveComplete s fun t => Ended t d .ok ∧ t.pl.running = none ∧
      placeBytes x.blk (solve x.blk).1 ∈ t.sentTo (s.queue x.outQ).fn x.e.dest := by
  have hk : HostKeeps s ((s.solveLeft d).bump F_PL_SOLVES_SOLVES) :=
    (hostKeeps_solveLeft d).trans (hostKeeps_setFld (f := F_PL_SOLVES_SOLVES) (by decide) (by decide) _ 0)
  have hfree : ((s.solveLeft d).bump F_PL_SOLVES_SOLVES).pl.running = none := solveLeft_running hr
  obtain ⟨hend, hsent, hrun⟩ := returnData_ends hk h hx hl hn hh x.e.dest (placeBytes x.blk (solve x.blk).1) (s.solveResult x)
  refine ⟨_, solveComplete_eq hr h hf, ?_⟩
  rw [h9]
  exact ⟨hend, hrun.elim id (fun e => e.trans hfree), hsent⟩

theorem solveComplete_tenant (hx : x.stage ≠ .done) (h9 : x.e.flag 9 = true)
    (hw : s.outWaits x x.e.dest (placeBytes x.blk (solve x.blk).1).length = false)
    (hs : ((s.solveLeft d).writeAllOrNone x.dst x.dmeta x.e.dest (placeBytes x.blk (solve x.blk).1) {} x.who).2.status = .ok) :
    Leads .solveComplete s fun t => Ended t d .ok ∧ t.pl.running = none ∧
      t.mem = ((s.solveLeft d).writeAllOrNone x.dst x.dmeta x.e.dest (placeBytes x.blk (solve x.blk).1) {} x.who).1.mem := by
  have hk := accessKeeps_writeAllOrNone (s := s.solveLeft d) x.dst x.dmeta x.e.dest (placeBytes x.blk (solve x.blk).1) {} x.who
  refine ⟨_, solveComplete_eq hr h hf, ?_⟩
  rw [h9, hw, if_neg (by simp), if_pos rfl, if_pos hs]
  generalize ((s.solveLeft d).writeAllOrNone x.dst x.dmeta x.e.dest (placeBytes x.blk (solve x.blk).1) {} x.who).1 = w at hk
  have hd : (w.bump F_PL_SOLVES_SOLVES).desc? d = some x := (desc?_of_q (hk.q.trans (hostKeeps_solveLeft d).q) d).trans h
  have hfree : (w.bump F_PL_SOLVES_SOLVES).pl.running = none := (congrArg PlSt.running hk.pl).trans (solveLeft_running hr)
  have he : EndKeeps (w.bump F_PL_SOLVES_SOLVES) _ := endKeeps_finish d .ok (s.solveResult x) 0
  exact ⟨finish_ends hd hx .., he.engine.elim id (fun e => e.trans hfree), he.mem⟩

theorem solveComplete_waits (h9 : x.e.flag 9 = true) (hw : s.outWaits x x.e.dest (placeBytes x.blk (solve x.blk).1).length = true) :
    exec .solveComplete s = .next s := by
  rw [solveComplete_eq hr h hf, h9, hw]
  rfl

end Solve

theorem solveComplete_blocks (hr : s.pl.running = some d) (h : s.desc? d = some x) (hx : x.stage ≠ .done) {n r : Nat}
    (hf : feasibility x.blk = (n, some r)) :
    Leads .solveComplete s fun t => Ended t d .feasibility ∧ (t.desc d).res.w0 = n ∧ (t.desc d).res.w1 = r ∧ t.pl.running = none ∧
      t.mem = s.mem := by
  have hd : ((s.solveLeft d).bump F_PL_INFEAS_CNT_INFEAS).desc? d = some x := (desc?_of_q (hostKeeps_solveLeft d).q d).trans h
  obtain ⟨hend, hres, -⟩ := finish_ended _ x .feasibility { w0 := n, w1 := r, w3 := (s.now - s.pl.started) % 2 ^ 32 } 0 hd hx
  have he : EndKeeps ((s.solveLeft d).bump F_PL_INFEAS_CNT_INFEAS) _ :=
    endKeeps_finish d .feasibility { w0 := n, w1 := r, w3 := (s.now - s.pl.started) % 2 ^ 32 } 0
  exact ⟨_, solveComplete_infeasible hr h hf, hend, by rw [hres], by rw [hres],
    he.engine.elim id (fun e => e.trans (solveLeft_running hr)), he.mem.trans solveLeft_mem⟩

theorem solveComplete_none (hr : s.pl.running = none) : exec .solveComplete s = .next s := by
  show execSolveComplete s = _
  rw [execSolveComplete, hr]

/-! ## Parity errors of solves -/

/-- The error record of a solve (R289). -/
def solveError (x : Desc) : ErrInfo :=
  { kind := 0x12, utype := 8, cls := 1, recov := true, tenant := x.e.tenant, ctx := errCtx x.q 0, tag := x.e.tag }

/-- An error of the free placement engine stops nothing. -/
theorem accessKeeps_report_free {i : ErrInfo} (hi : i.utype = 8) (hr : s.pl.running = none) : AccessKeeps s (s.report i) := by
  obtain ⟨z, hz, he | he⟩ := report_cases (s := s) i <;> rw [he]
  · exact hz
  · have hfree : z.pl.running = none := (congrArg PlSt.running hz.pl).trans hr
    have hm : z.markUnit i.utype i.inst = z := by simp [State.markUnit, hi, hfree]
    rw [hm]
    exact hz

/-- The first error of a solve restarts it (R289). -/
theorem plParity_restarts (hr : s.pl.running = some d) (hn : inSet s.pl.redone (s.desc d).seq = false)
    (hc : (s.recent (s.unitRec (unitKey 8 0))).length < 2) (hq : (s.unitRec (unitKey 8 0)).queued = none) :
    Leads .plParity s fun t => inSet t.pl.redone (s.desc d).seq = true ∧ t.pl.running = some d ∧ t.q.descs = s.q.descs ∧
      t.fld F_PL_RERUN_CNT_RERUN = min (s.fld F_PL_RERUN_CNT_RERUN + 1) (2 ^ F_PL_RERUN_CNT_RERUN.wid - 1) := by
  have heq : exec .plParity s = .next
      ((({ s with pl := { s.pl with redone := setInsert s.pl.redone (s.desc d).seq } } : State).bump F_PL_RERUN_CNT_RERUN).report
        (solveError (s.desc d))) := by
    show execPlParity s = _
    simp [execPlParity, hr, hn, solveError]
  refine ⟨_, heq, ?_⟩
  generalize hz : ({ s with pl := { s.pl with redone := setInsert s.pl.redone (s.desc d).seq } } : State).bump F_PL_RERUN_CNT_RERUN = z
  have he : z.escalates (solveError (s.desc d)) (z.unitRec (unitKey 8 0)) = false := by
    subst hz
    exact not_escalates_of_recent hc hq
  have hk : AccessKeeps z (z.report (solveError (s.desc d))) := accessKeeps_report he
  rw [hk.pl, hk.q, hk.flds _ (by decide), ← hz, State.fld_bump]
  refine ⟨?_, hr, rfl, rfl⟩
  show inSet (setInsert s.pl.redone (s.desc d).seq) (s.desc d).seq = true
  simp [inSet_setInsert]

/-- The state in which the restart of a solve is no longer noted. -/
def State.forgetRerun (s : State) (k : Nat) : State := { s with pl := { s.pl with redone := s.pl.redone.filter (fun j => j != k) } }

/-- The second ends it (R289). -/
theorem plParity_aborts (hr : s.pl.running = some d) (h : s.desc? d = some x) (hx : x.stage ≠ .done) (hn : inSet s.pl.redone x.seq = true) :
    Leads .plParity s fun t => Ended t d .aborted ∧ (t.desc d).detail = 0x60 ∧ t.pl.running = none := by
  have heq : exec .plParity s = .next ((((s.forgetRerun x.seq).finish d .aborted {} 0x60).report
      { solveError x with cls := 2, norec := true, status := Status.aborted.code, detail := 0x60 }).recoveryEnd 8 0 false) := by
    show execPlParity s = _
    simp only [execPlParity, State.forgetRerun, hr, desc_of_some h, hn, if_true]
    rfl
  have hfree : ((s.forgetRerun x.seq).finish d .aborted {} 0x60).pl.running = none := finish_frees (s := s.forgetRerun x.seq) h hx hr ..
  have hk := (accessKeeps_report_free (i := { solveError x with cls := 2, norec := true, status := Status.aborted.code, detail := 0x60 })
    rfl hfree).trans (accessKeeps_recoveryEnd 8 0 false)
  obtain ⟨hend, -, hdetail⟩ := finish_ended (s := s.forgetRerun x.seq) d x .aborted {} 0x60 h hx
  refine ⟨_, heq, ?_⟩
  dsimp only [Ended]
  rw [desc_of_q hk.q, hk.pl]
  exact ⟨hend, hdetail, hfree⟩

theorem plParity_none (hr : s.pl.running = none) : exec .plParity s = .next s := by
  show execPlParity s = _
  rw [execPlParity, hr]

end Sys2Proof.Machine
end

section
/-!
PROOFS. The statement on the projection and placement commands.
-/
namespace Sys2Proof.Machine

/-- Settles O13: each step comes to a command that waits, starts or ends in a state which only accesses of memory and error records separate
from the first. -/
theorem projectionAndSolverComplete : Obligations.ProjectionAndSolverComplete := by
  unfold Obligations.ProjectionAndSolverComplete
  refine ⟨?append, ?appendBusy, ?appendTracker, ?appendTrackerBusy, ?appendNoHost, ?durable, ?durableAdvances, ?durableFails,
    ?durableUnserved, ?durableWaits, ?trackerBusy, ?trackerTaken, ?gather, ?gatherBusy, ?gatherBehind, ?gatherStale, ?gathered, ?gatherFails,
    ?gatherWaits, ?assign, ?assignExpired, ?assignNone, ?moves, ?unitBusy, ?parity, ?parityAgain, ?parityNone, ?unitReturn, ?unitReturnOut,
    ?unitReturnCounted, ?testPass, ?testFail, ?testNone, ?place, ?placeStarts, ?placeBusy, ?placeFault, ?solverStart, ?solverIdle,
    ?solverExpired, ?solverBusy, ?solved, ?solvedTenant, ?solveWaits, ?infeasible, ?solveNone, ?rerun, ?rerunAgain, ?rerunNone,
    ?trackerNotExpired, ?unitNotExpired, ?solverNotExpired⟩
  case append =>
    intro s d b x h hn ht hu
    have hin := appendEntered_has ht
    refine ⟨_, appendKv_eq h hn b, ?_⟩
    rw [hin, if_neg (by simp)]
    exact appendReady_waits b hu hin
  case appendBusy =>
    intro s d b x h hn ht hu hb
    refine ⟨_, appendKv_eq h hn b, ?_⟩
    rw [appendEntered_has ht, if_neg (by simp)]
    exact appendReady_busy (not_done_of_runs h) b hu hb
  case appendTracker =>
    intro s d b x h hn ht hf hb
    refine ⟨_, appendKv_eq h hn b, ?_⟩
    rw [appendEntered_full ht hf, appendEntered_budget, if_pos Bool.not_false, if_neg hb]
    exact stage_stage (appendEntered_desc? h.1) _
  case appendTrackerBusy =>
    intro s d b x h hn ht hf hb
    refine ⟨_, appendKv_eq h hn b, ?_⟩
    rw [appendEntered_full ht hf, appendEntered_budget, if_pos Bool.not_false, if_pos hb]
    exact finish_ends (appendEntered_desc? h.1) (not_done_of_runs h) ..
  case appendNoHost =>
    intro s d b x h hn
    exact ⟨_, appendKv_unreachable h hn b, rfl⟩
  case durable =>
    intro s d x i h hop hst hp hm ho hi haux hs hw
    exact appendDurable_ends h hop hst hp hm ho hi haux hs hw
  case durableAdvances =>
    intro s d x i y h hop hst hp hm ho hi hs hw hlay hfirst hlast hslot hmask hshard hone
    have haux : x.aux < (s.stream i).layers.length := (List.getElem?_eq_some_iff.1 hlay).1
    obtain ⟨t, he, hend, hl⟩ := appendDurable_ends h hop hst hp hm ho hi haux hs hw
    refine ⟨t, he, hend, ?_⟩
    rw [hl, List.getD_eq_getElem?_getD, hlay]
    exact durable_alone hfirst hlast hslot hmask hshard hone
  case durableFails =>
    intro s d x h hop hst hp hm ho hs
    exact appendDurable_fails h hop hst hp hm ho hs
  case durableUnserved =>
    intro s d x h hp
    exact ⟨_, appendDurable_unserved h hp, rfl⟩
  case durableWaits =>
    intro s d x h hw
    exact ⟨_, appendDurable_waits h hw, rfl⟩
  case trackerBusy =>
    intro s d x h hb ht hf
    refine ⟨_, trackerWaitExpired_eq h, ?_⟩
    rw [if_pos hb, takeTracker_full ht hf, ht]
    exact finish_ends h.1 (not_done_of_waits h) ..
  case trackerTaken =>
    intro s d x h hb ht
    have hin := takeTracker_has ht
    obtain ⟨k, hk⟩ := takeTracker_frame (s := s) x
    have hd : (s.takeTracker x).desc? d = some x := by rw [hk]; exact h.1
    refine ⟨_, trackerWaitExpired_eq h, ?_⟩
    rw [if_pos hb, if_pos hin]
    exact ⟨stage_stage hd _, (hasTracker_of (congrArg FnSt.streams (stage_fn ..)) x).trans hin⟩
  case gather =>
    intro s d x h hm hu
    refine ⟨_, gatherKv_ready h, ?_⟩
    rw [if_pos hm, enterUnit_waits h.1 hu]
    exact stage_stage h.1 _
  case gatherBusy =>
    intro s d x h hm hu hb
    refine ⟨_, gatherKv_ready h, ?_⟩
    rw [if_pos hm, enterUnit_busy h.1 hu hb]
    exact finish_ends h.1 (not_done_of_runs h) ..
  case gatherBehind =>
    intro s d x h hm hb
    refine ⟨_, gatherKv_ready h, ?_⟩
    rw [hm, if_neg Bool.false_ne_true, if_neg hb]
    exact stage_stage h.1 _
  case gatherStale =>
    intro s d x h hm hb
    refine ⟨_, gatherKv_ready h, ?_⟩
    rw [hm, if_neg Bool.false_ne_true, if_pos hb]
    exact stale_ends h.1 (not_done_of_runs h)
  case gathered =>
    intro s d x h hop hst hp hr ho hs hl hn hf
    exact gatherKv_returns h hop hst hp hr ho hs hl hn hf
  case gatherFails =>
    intro s d x h hop hst hp hr ho hs
    exact gatherKv_fails h hop hst hp hr ho hs
  case gatherWaits =>
    intro s d x h hst hw
    exact ⟨_, gatherKv_waits h hst hw, rfl⟩
  case assign =>
    intro s d x u h hu hop
    exact ⟨_, pjUnitAssign_waits h hop, assignUnit_some h.1 hu⟩
  case assignExpired =>
    intro s d x u h hb hu hop
    refine ⟨_, pjUnitWaitExpired_eq h, ?_⟩
    rw [if_neg (by simp [hb]), if_neg (by rcases hop with hop | hop <;> simp [hu, hop])]
    exact assignUnit_some h.1 hu
  case assignNone =>
    intro s d x h hu hop
    exact ⟨_, pjUnitAssign_waits h hop, assignUnit_none hu⟩
  case moves =>
    intro s d u v x h hst hf hv
    have hfound := List.find?_some hf
    obtain ⟨hout, hcmd⟩ := Bool.and_eq_true_iff.1 hfound
    refine ⟨_, pjUnitAssign_moves h hst hf, ?_, pjMove_places hout hcmd hv⟩
    rw [pjMove_out hout]
    simp
  case unitBusy =>
    intro s d x h hb hu
    refine ⟨_, pjUnitWaitExpired_eq h, ?_⟩
    rw [if_neg (by simp [hb]), if_pos (by simp [hu])]
    exact finish_ends h.1 (not_done_of_waits h) ..
  case parity =>
    intro s u d n h hn hr hc hq
    exact pjParity_redoes h hn hr hc hq
  case parityAgain =>
    intro s u d n x h hn hr hd hx
    exact pjParity_aborts h hn hr ⟨x, hd, hx⟩
  case parityNone =>
    intro s u d n h
    exact ⟨_, pjParity_other h, rfl⟩
  case unitReturn =>
    intro s p u ha hp hu hj ho
    exact ⟨_, pjUReturn_in ha hp hu hj ho, (State.pjUnit_setPjUnit ..).trans (if_pos rfl)⟩
  case unitReturnOut =>
    intro s p u ha hp hu hj ho
    exact pjUReturn_out ha hp hu hj ho
  case unitReturnCounted =>
    intro s p u ha h
    exact ⟨_, pjUReturn_counts ha h, rfl, badAccess_addr ..⟩
  case testPass =>
    intro s u h
    exact ⟨_, pjUSelfTestDone_eq h true, (State.pjUnit_setPjUnit ..).trans (if_pos rfl)⟩
  case testFail =>
    intro s u h
    exact ⟨_, pjUSelfTestDone_eq h false, (State.pjUnit_setPjUnit ..).trans (if_pos rfl)⟩
  case testNone =>
    intro s u b h
    exact ⟨_, pjUSelfTestDone_none h b, rfl⟩
  case place =>
    intro s d x h hg hok hb
    refine ⟨_, place_eq h hg hok, ?_⟩
    rw [if_neg hb]
    exact stage_stage h.1 _
  case placeStarts =>
    intro s d x h hg hok hb hr hw hf
    refine ⟨_, place_eq h hg hok, ?_⟩
    rw [if_pos hb, if_pos (by simp [hr, hw, hf])]
    obtain ⟨hst, hrun, hstart, -⟩ := startSolve_starts h.1
    exact ⟨hst, hrun, hstart⟩
  case placeBusy =>
    intro s d x h hg hok hb hr
    refine ⟨_, place_eq h hg hok, ?_⟩
    rw [if_pos hb, if_neg (by rcases hr with hr | hr | hr <;> simp [hr])]
    exact finish_ends h.1 (not_done_of_runs h) ..
  case placeFault =>
    intro s d x h hg hok
    exact ⟨_, place_refused h hg hok, refuseLate_ends h.1 (not_done_of_runs h) 3 {}⟩
  case solverStart =>
    intro s d x hr hg hn h
    obtain ⟨hst, hrun, -, hlast⟩ := startSolve_starts h
    exact ⟨_, solverStart_starts hr hg hn, hst, hrun, hlast⟩
  case solverIdle =>
    intro s h
    exact ⟨_, solverStart_idle h, rfl⟩
  case solverExpired =>
    intro s d x h hb hr hn
    refine ⟨_, solverWaitExpired_eq h, ?_⟩
    rw [if_neg (by simp [hb]), if_pos ⟨hr, hn⟩]
    obtain ⟨hst, hrun, -⟩ := startSolve_starts h.1
    exact ⟨hst, hrun⟩
  case solverBusy =>
    intro s d x h hb hr
    refine ⟨_, solverWaitExpired_eq h, ?_⟩
    rw [if_neg (by simp [hb]), if_neg (fun k => hr.elim (fun n => n k.1) (fun n => n k.2))]
    exact finish_ends h.1 (not_done_of_waits h) ..
  case solved =>
    intro s d x hr h hx hf h9 hl hn hh
    exact solveComplete_host hr h hf hx h9 hl hn hh
  case solvedTenant =>
    intro s d x hr h hx hf h9 hw hs
    have hleft : (s.leaveEngine d).setFld F_PL_LAST_TIME_TICKS ((s.now - s.pl.started) % 2 ^ 32) = s.solveLeft d := rfl
    rw [hleft] at hs ⊢
    exact solveComplete_tenant hr h hf hx h9 hw hs
  case solveWaits =>
    intro s d x hr h hf h9 hw
    exact ⟨_, solveComplete_waits hr h hf h9 hw, rfl⟩
  case infeasible =>
    intro s d x n r hr h hx hf
    exact solveComplete_blocks hr h hx hf
  case solveNone =>
    intro s hr
    exact ⟨_, solveComplete_none hr, rfl⟩
  case rerun =>
    intro s d hr hn hc hq
    exact plParity_restarts hr hn hc hq
  case rerunAgain =>
    intro s d x hr h hx hn
    exact plParity_aborts hr h hx hn
  case rerunNone =>
    intro s hr
    exact ⟨_, plParity_none hr, rfl⟩
  case trackerNotExpired =>
    intro s d x h hb
    exact ⟨_, trackerWaitExpired_eq h, by rw [hb, if_neg Bool.false_ne_true]⟩
  case unitNotExpired =>
    intro s d x h hb
    exact ⟨_, pjUnitWaitExpired_eq h, if_pos hb⟩
  case solverNotExpired =>
    intro s d x h hb
    exact ⟨_, solverWaitExpired_eq h, if_pos hb⟩

end Sys2Proof.Machine
end

section
/-!
PROOFS. What accesses of memory, error records, flits and ends of commands leave as it is: the catalog, the constellation, and the registers of
both, of the links and of the share groups.
-/
namespace Sys2Proof.Machine

variable {s t u : State}

/-- A field of one of the blocks CT, LK and CN, or the share group of a tenant. -/
abbrev Fld.OfCatalog (f : Fld) : Prop := f.Fits ∧ (f.blk ∈ [3, 11, 12] ∨ f.blk = 14 ∧ f.off = 0x1000)

/-- A field of another block, or of another word of block TN. -/
abbrev Fld.OffCatalog (f : Fld) : Prop := f.Fits ∧ ¬(f.blk ∈ [3, 11, 12] ∨ f.blk = 14 ∧ f.off = 0x1000)

/-- From one state to another memory has been accessed, errors have been recorded, flits have been sent or commands have ended: the catalog, the
constellation and their registers are as they were. -/
structure CatalogKeeps (s t : State) : Prop where
  ct : t.ct = s.ct
  cn : t.cn = s.cn
  flds : ∀ g : Fld, g.OfCatalog → ∀ i, t.fld g i = s.fld g i

theorem CatalogKeeps.of_eq (hr : t.regs = s.regs) (hc : t.ct = s.ct) (hn : t.cn = s.cn) : CatalogKeeps s t :=
  ⟨hc, hn, fun _ _ _ => by simp only [State.fld, hr]⟩

theorem CatalogKeeps.refl : CatalogKeeps s s := ⟨rfl, rfl, fun _ _ _ => rfl⟩

theorem CatalogKeeps.trans (h : CatalogKeeps s t) (k : CatalogKeeps t u) : CatalogKeeps s u :=
  ⟨k.ct.trans h.ct, k.cn.trans h.cn, fun g hg i => (k.flds g hg i).trans (h.flds g hg i)⟩

/-- Steps that each keep all this keep it. -/
theorem CatalogKeeps.foldl {α : Type} {f : State → α → State} (h : ∀ z a, CatalogKeeps z (f z a)) (l : List α) : CatalogKeeps s (l.foldl f s) :=
  foldl_keeps (CatalogKeeps s) f (fun z a k => k.trans (h z a)) l s .refl

theorem CatalogKeeps.ite {c : Prop} [Decidable c] (h : CatalogKeeps s t) (k : CatalogKeeps s u) : CatalogKeeps s (if c then t else u) := by
  split
  · exact h
  · exact k

theorem catalogKeeps_setFld {f : Fld} (hf : f.OffCatalog) (v i : Nat) : CatalogKeeps s (s.setFld f v i) := by
  refine ⟨rfl, rfl, fun g hg j => ?_⟩
  rw [State.fld_setFld, if_neg]
  intro hk
  obtain ⟨-, hb, ho, -⟩ := Fld.key_inj hf.1 hg.1 hk
  exact hf.2 (by rw [hb, ho]; exact hg.2)

theorem catalogKeeps_bump {f : Fld} (hf : f.OffCatalog) (n i : Nat) : CatalogKeeps s (s.bump f n i) := catalogKeeps_setFld hf ..

/-- What accesses of memory and error records write beside registers is neither of the two. -/
theorem catalogKeeps_rest (m : MapSt) (e : ErSt) (k : SkSt) (c : McSt) (i : SiSt) (n : TnSt) (b : List Host.Cell) (p : List Nat) (o : List Msg) :
    CatalogKeeps s { s with map := m, er := e, sk := k, mc := c, si := i, tn := n, mem := b, poison := p, outbox := o } :=
  ⟨rfl, rfl, fun _ _ _ => rfl⟩

/-! ## Error records -/

theorem catalogKeeps_sendMsix (f v : Nat) : CatalogKeeps s (s.sendMsix f v) :=
  .ite ((catalogKeeps_rest ..).trans (catalogKeeps_bump (by decide) 1 (vecKey f v))) (.of_eq rfl rfl rfl)

theorem catalogKeeps_devEvent (b : Nat) : CatalogKeeps s (s.devEvent b) := by
  unfold State.devEvent
  extract_lets st z
  have hz : CatalogKeeps s z := catalogKeeps_setFld (by decide) _ 0
  exact .ite .refl (.ite (hz.trans (catalogKeeps_sendMsix 0 _)) hz)

theorem catalogKeeps_writeRec (r : ErrRec) : CatalogKeeps s (s.writeRec r).1 := by
  have ring (x : ErrRec) : CatalogKeeps s (s.setRing x) := .of_eq rfl rfl rfl
  have lost (z : State) : CatalogKeeps z (z.bump F_ER_OVF_CNT_OVF) := catalogKeeps_bump (by decide) 1 0
  unfold State.writeRec
  extract_lets w p z
  by_cases hroom : (w + 2 ^ 32 - p) % 2 ^ 32 < 256
  · rw [if_pos hroom]
    exact ((ring _).trans (catalogKeeps_setFld (by decide) (w + 1) 0)).trans (catalogKeeps_devEvent 0)
  · rw [if_neg hroom]
    by_cases hc : (r.cls != 3) = true
    · rw [if_pos hc]
      exact lost s
    · rw [if_neg hc]
      generalize s.newestNonFatal 256 _ = q
      cases q with
      | some q => exact ((ring _).trans (lost _)).trans (catalogKeeps_devEvent 0)
      | none => exact lost s

/-- An error that needs no recovery is a record (R657). -/
theorem catalogKeeps_report {i : ErrInfo} (h : i.recov = false) : CatalogKeeps s (s.report i) := by
  unfold State.report State.record
  simp only [not_escalates h, Bool.false_eq_true, if_false]
  exact (catalogKeeps_writeRec _).trans (catalogKeeps_rest ..)

theorem catalogKeeps_recoveryEnd (k i : Nat) (ok : Bool) : CatalogKeeps s (s.recoveryEnd k i ok) := by
  obtain ⟨e, h⟩ := recoveryEnd_frame (s := s) k i ok
  rw [h]
  exact .of_eq rfl rfl rfl

/-! ## The stacks cache -/

theorem catalogKeeps_setCset (k : Nat) (c : CacheSet) : CatalogKeeps s (s.setCset k c) := by
  unfold State.setCset
  extract_lets old z
  have hz : CatalogKeeps s z := .foldl (fun _ p => catalogKeeps_setFld (by decide) _ p) _
  exact hz.trans (.of_eq rfl rfl rfl)

theorem catalogKeeps_cacheDrop (sec : Nat) : CatalogKeeps s (s.cacheDrop sec) := .ite (catalogKeeps_setCset ..) .refl

theorem catalogKeeps_cacheCut (p : Line → Bool) : CatalogKeeps s (s.cacheCut p) := .foldl (fun _ _ => catalogKeeps_setCset ..) _

theorem catalogKeeps_pinClass (l : List Line) (had p : Nat) : CatalogKeeps s (s.pinClass l had p).1 :=
  .ite .refl (catalogKeeps_bump (by decide) 1 0)

theorem catalogKeeps_cacheFill (sec handle pin : Nat) (h : Hint) : CatalogKeeps s (s.cacheFill sec handle pin h) := by
  unfold State.cacheFill
  exact (catalogKeeps_pinClass ..).trans (catalogKeeps_setCset ..)

theorem catalogKeeps_cacheAccess (sec handle : Nat) (h : Hint) (pin : Option Nat) (fills : Bool) :
    CatalogKeeps s (s.cacheAccess sec handle h pin fills) := by
  have bumps (z : State) {f : Fld} (hf : f.OffCatalog) : CatalogKeeps z (z.bump f) := catalogKeeps_bump hf 1 0
  unfold State.cacheAccess
  extract_lets h _ y k c z w c' v rest v'
  have hy : CatalogKeeps s y := .of_eq rfl rfl rfl
  have hw : CatalogKeeps s w := hy.trans (.ite (catalogKeeps_cacheDrop sec) .refl)
  split
  · have hz : CatalogKeeps s z := hy.trans (bumps y (by decide))
    exact .ite (hz.trans (bumps z (by decide))) hz
  · split
    · have hv : CatalogKeeps s v := hw.trans (bumps w (by decide))
      split
      · exact hv.trans (catalogKeeps_setCset ..)
      · exact (hv.trans (catalogKeeps_pinClass ..)).trans (catalogKeeps_setCset ..)
    · have hv : CatalogKeeps s v' := hw.trans (bumps w (by decide))
      exact .ite (hv.trans (catalogKeeps_cacheFill ..)) hv

theorem catalogKeeps_metaAccess (sec : Nat) (fills : Bool) : CatalogKeeps s (s.metaAccess sec fills) :=
  .ite .refl (catalogKeeps_cacheAccess ..)

theorem catalogKeeps_metaReads (l : List Nat) : CatalogKeeps s (s.metaReads l) := .foldl (fun _ _ => catalogKeeps_metaAccess ..) _

/-! ## Memory units and write queues -/

theorem catalogKeeps_setDram (k : Nat) (x : Dram) : CatalogKeeps s (s.setDram k x) := .of_eq rfl rfl rfl

theorem catalogKeeps_issue (k : Nat) (l : List DramCmd) : CatalogKeeps s (s.issue k l) :=
  .ite .refl (.ite ((CatalogKeeps.ite (catalogKeeps_bump (by decide) 1 0) .refl).trans (catalogKeeps_setDram ..)) (catalogKeeps_setDram ..))

theorem catalogKeeps_drainWq (k : Nat) : CatalogKeeps s (s.drainWq k) :=
  .ite .refl (.ite ((catalogKeeps_setDram ..).trans (catalogKeeps_issue ..)) .refl)

theorem catalogKeeps_queueLine (k : Nat) (e : WqEntry) : CatalogKeeps s (s.queueLine k e) :=
  .ite (catalogKeeps_setDram ..) (.ite (catalogKeeps_setDram ..)
    (.ite ((catalogKeeps_setDram ..).trans (catalogKeeps_drainWq k)) (catalogKeeps_setDram ..)))

theorem catalogKeeps_queueMasks (l : List (Nat × Nat)) (poison : Bool) (seq : Option Nat) : CatalogKeeps s (s.queueMasks l poison seq) := by
  unfold State.queueMasks
  extract_lets _ y
  have hy : CatalogKeeps s y := .of_eq rfl rfl rfl
  refine hy.trans (.foldl (fun z m => ?_) l)
  extract_lets w
  have hw : CatalogKeeps z w := catalogKeeps_queueLine ..
  split
  · exact hw.trans (catalogKeeps_queueLine ..)
  · exact hw

theorem catalogKeeps_rankTrigger (k r c : Nat) : CatalogKeeps s (s.rankTrigger k r c) := .ite (catalogKeeps_setDram ..) .refl

theorem catalogKeeps_rowTrigger (r : HbmRow) : CatalogKeeps s (s.rowTrigger r) := .ite .refl (catalogKeeps_rest ..)

theorem catalogKeeps_noteCe (sec : Nat) : CatalogKeeps s (s.noteCe sec) := by
  refine .ite ?_ ?_
  · unfold State.noteRankCe
    extract_lets x l y
    have hy : CatalogKeeps s y := catalogKeeps_setDram ..
    exact .ite (hy.trans (catalogKeeps_rankTrigger ..)) hy
  · unfold State.noteRowCe
    extract_lets l _ y
    have hy : CatalogKeeps s y := .of_eq rfl rfl rfl
    exact .ite (hy.trans (catalogKeeps_rowTrigger ..)) hy

theorem catalogKeeps_noteUe (sec : Nat) : CatalogKeeps s (s.noteUe sec) := .ite (catalogKeeps_rankTrigger ..) (catalogKeeps_rowTrigger ..)

theorem catalogKeeps_countUe (k : Nat) : CatalogKeeps s (s.countUe k) :=
  .ite (catalogKeeps_bump (by decide) 1 k) (catalogKeeps_bump (by decide) 1 (k - 16))

theorem catalogKeeps_countCe (sec : Nat) : CatalogKeeps s (s.countCe sec) :=
  (CatalogKeeps.ite (catalogKeeps_bump (by decide) 1 _) (catalogKeeps_bump (by decide) 1 _)).trans (catalogKeeps_noteCe sec)

theorem catalogKeeps_countFwd (a n : Nat) : CatalogKeeps s (s.countFwd a n) := .ite (catalogKeeps_bump (by decide) 1 0) .refl

/-! ## Bytes, poison and tags -/

theorem catalogKeeps_writeMem (a : Nat) (l : List Byte) : CatalogKeeps s (s.writeMem a l) := by
  obtain ⟨m, h⟩ := writeMem_frame s a l
  rw [h]
  exact .of_eq rfl rfl rfl

theorem catalogKeeps_setTag (sec : Nat) (g : TagEntry) : CatalogKeeps s (s.setTag sec g) := by
  obtain ⟨i, p, h⟩ := setTag_frame (s := s) sec g
  rw [h]
  exact .of_eq rfl rfl rfl

theorem catalogKeeps_retag (sec : Nat) : CatalogKeeps s (s.retag sec) := .ite (catalogKeeps_setTag ..) .refl

theorem catalogKeeps_rezero (dfn : Nat) : CatalogKeeps s (s.rezero dfn) := .ite (catalogKeeps_rest ..) .refl

theorem catalogKeeps_storePoison (sec : Nat) : CatalogKeeps s (s.storePoison sec) := by
  unfold State.storePoison
  extract_lets z
  have hz : CatalogKeeps s z := CatalogKeeps.trans (catalogKeeps_rest ..) (catalogKeeps_bump (by decide) 1 0)
  exact (hz.trans (catalogKeeps_queueMasks ..)).trans (catalogKeeps_cacheDrop sec)

theorem catalogKeeps_poisonSector (sec : Nat) : CatalogKeeps s (s.poisonSector sec) :=
  ((catalogKeeps_storePoison sec).trans (.ite (catalogKeeps_setTag ..) .refl)).trans (catalogKeeps_rezero _)

theorem catalogKeeps_poisonAll (l : List Nat) : CatalogKeeps s (s.poisonAll l) := by
  induction l generalizing s with
  | nil => exact .refl
  | cons x l ih =>
    unfold State.poisonAll
    exact (catalogKeeps_poisonSector x).trans ih

/-! ## Sectors -/

theorem catalogKeeps_decodeLine (line : Nat) (e : LineErr) : CatalogKeeps s (s.decodeLine line e) := by
  unfold State.decodeLine
  extract_lets y
  have hy : CatalogKeeps s y := .ite (catalogKeeps_bump (by decide) 1 _) .refl
  split
  · exact hy.trans (catalogKeeps_countCe _)
  · exact ((hy.trans (catalogKeeps_countCe _)).trans (catalogKeeps_writeMem ..)).trans (catalogKeeps_rest ..)
  · exact hy

theorem catalogKeeps_uncorrectable (sec : Nat) (w : For) : CatalogKeeps s (s.uncorrectable sec w) :=
  (((catalogKeeps_poisonSector sec).trans (catalogKeeps_countUe _)).trans (catalogKeeps_noteUe sec)).trans (catalogKeeps_report rfl)

theorem catalogKeeps_tagFail (sec : Nat) (w : For) : CatalogKeeps s (s.tagFail sec w) :=
  ((catalogKeeps_poisonSector sec).trans (catalogKeeps_bump (by decide) 1 0)).trans (catalogKeeps_report rfl)

theorem catalogKeeps_checkSector (sec : Nat) (w : For) : CatalogKeeps s (s.checkSector sec w).1 := by
  have met : CatalogKeeps s (s.bump F_SI_POISON_MET_MET) := catalogKeeps_bump (by decide) 1 0
  unfold State.checkSector
  extract_lets tg y
  have hy : CatalogKeeps s y := .foldl (fun _ _ => catalogKeeps_decodeLine ..) _
  split
  · exact .refl
  split
  · exact met
  split
  · exact .refl
  split
  · exact met
  split
  · exact met.trans (catalogKeeps_rezero _)
  · exact catalogKeeps_uncorrectable ..
  · split
    · exact hy.trans (catalogKeeps_tagFail ..)
    · exact hy

theorem catalogKeeps_readPieces (ms : Option (List Nat)) (v : Via) (w : For) (l : List Piece) (m : Met) :
    CatalogKeeps s (s.readPieces ms v w l m).1 := by
  induction l generalizing s m with
  | nil => exact .refl
  | cons p l ih =>
    unfold State.readPieces
    dsimp only
    refine .trans ?_ (ih _)
    have hc := catalogKeeps_checkSector (s := s) p.sec w
    refine .ite (hc.trans ?_) hc
    have hr (z : State) : CatalogKeeps z (if z.cached p.sec then z else
        ((z.useCredit w.tenant p.sec p.len).countFwd (p.sec * 256 + p.start) p.len).issueReads p.sec) :=
      .ite .refl (((catalogKeeps_rest ..).trans (catalogKeeps_countFwd ..)).trans (catalogKeeps_issue ..))
    cases ms <;> exact (hr _).trans (catalogKeeps_cacheAccess ..)

theorem catalogKeeps_putPiece (ms : List Nat) (v : Via) (w : For) (p : Piece) (b : List Byte) : CatalogKeeps s (s.putPiece ms v w p b) := by
  unfold State.putPiece
  extract_lets a x y z
  have hx : CatalogKeeps s x := .ite (catalogKeeps_rest ..) .refl
  have hy : CatalogKeeps s y := (hx.trans (catalogKeeps_writeMem ..)).trans (catalogKeeps_queueMasks ..)
  have hz : CatalogKeeps s z := (hy.trans (.ite (catalogKeeps_rest ..) .refl)).trans (catalogKeeps_retag _)
  exact hz.trans (catalogKeeps_cacheAccess ..)

theorem catalogKeeps_writePieces (ms : List Nat) (v : Via) (w : For) (b : List Byte) (l : List Piece) (m : Met) :
    CatalogKeeps s (s.writePieces ms v w b l m).1 := by
  induction l generalizing s m with
  | nil => exact .refl
  | cons p l ih =>
    unfold State.writePieces
    extract_lets whole
    have hc : CatalogKeeps s (if whole then (s, .ok) else s.checkSector p.sec w).1 := by
      split
      · exact .refl
      · exact catalogKeeps_checkSector ..
    generalize (if whole then (s, SecRes.ok) else s.checkSector p.sec w) = r at hc
    exact (hc.trans (.ite ((catalogKeeps_rest ..).trans (catalogKeeps_putPiece ..)) .refl)).trans (ih _)

/-! ## What a link sends -/

theorem catalogKeeps_sendMsgs (l : Nat) (ms : List (List Flit)) (cq : Nat) : CatalogKeeps s (s.sendMsgs l ms cq) := by
  obtain ⟨k, o, h⟩ := sendMsgs_frame (s := s) l ms cq
  rw [h]
  exact .of_eq rfl rfl rfl

/-! ## The end of a command -/

/-- A descriptor is none of it. -/
theorem catalogKeeps_setDesc (d : Nat) (x : Desc) : CatalogKeeps s (s.setDesc d x) := .of_eq rfl rfl rfl

theorem catalogKeeps_leaveWindow (d : Nat) : CatalogKeeps s (s.leaveWindow d) := by
  unfold State.leaveWindow
  extract_lets x t z
  have hz : CatalogKeeps s z := catalogKeeps_setFld (by decide) 0 t
  exact .ite (.ite ((hz.trans (catalogKeeps_setFld (by decide) 1 t)).trans (catalogKeeps_rest ..)) hz) .refl

theorem catalogKeeps_freeCarrel (c : Nat) : CatalogKeeps s (s.freeCarrel c) := by
  have hc : CatalogKeeps s (s.setCarrel c (s.carrel c).idle) := .of_eq rfl rfl rfl
  unfold State.freeCarrel State.clusterDrained
  refine .ite (hc.trans ?_) hc
  unfold State.setCluster
  exact CatalogKeeps.trans (.ite (catalogKeeps_setFld (by decide) 0 _) .refl) (.of_eq rfl rfl rfl)

theorem catalogKeeps_stopTasks (d : Nat) : CatalogKeeps s (s.stopTasks d) := by
  unfold State.stopTasks
  extract_lets c y z
  have hy : CatalogKeeps s y := .foldl (fun _ _ => catalogKeeps_recoveryEnd ..) _
  have hz : CatalogKeeps y z := .of_eq rfl rfl rfl
  exact (hy.trans hz).trans (.foldl (fun _ _ => catalogKeeps_freeCarrel _) _)

theorem catalogKeeps_stopWork (d : Nat) : CatalogKeeps s (s.stopWork d) := by
  have cut : CatalogKeeps s (s.cutRelease d) := by
    obtain ⟨k, o, h⟩ := cutRelease_frame (s := s) d
    rw [h]
    exact .of_eq rfl rfl rfl
  have units (z : State) : CatalogKeeps z (z.leavePj d) := by
    refine .foldl (fun y u => ?_) _
    exact .of_eq rfl rfl rfl
  have suspension (z : State) : CatalogKeeps z (z.unsuspend d) := by
    obtain ⟨k, h⟩ := unsuspend_frame (s := z) d
    rw [h]
    exact .of_eq rfl rfl rfl
  have engine (z : State) : CatalogKeeps z (z.leaveEngine d) := by
    obtain ⟨e, r, h⟩ := leaveEngine_frame (s := z) d
    rw [h]
    exact .of_eq rfl rfl rfl
  exact (((cut.trans (catalogKeeps_stopTasks d)).trans (units _)).trans (suspension _)).trans (engine _)

theorem catalogKeeps_finish (d : Nat) (st : Status) (res : Result) (detail : Nat) : CatalogKeeps s (s.finish d st res detail) := by
  unfold State.finish
  split
  · exact .refl
  · exact .ite .refl (((catalogKeeps_leaveWindow d).trans (catalogKeeps_stopWork d)).trans (catalogKeeps_setDesc ..))

theorem catalogKeeps_finishAll (st : Status) (detail : Nat) (l : List Nat) : CatalogKeeps s (s.finishAll st detail l) := by
  induction l generalizing s with
  | nil => exact .refl
  | cons d l ih => exact (catalogKeeps_finish ..).trans ih

theorem catalogKeeps_stage (d : Nat) (g : Stage) : CatalogKeeps s (s.stage d g) := by
  unfold State.stage
  split
  · exact .refl
  · exact catalogKeeps_setDesc ..

theorem catalogKeeps_returnData (d a : Nat) (b : List Byte) (r : Result) (st : Status) : CatalogKeeps s (s.returnData d a b r st) := by
  unfold State.returnData
  extract_lets x y x' z
  have hz : CatalogKeeps s z := catalogKeeps_setDesc ..
  split
  · exact .ite (catalogKeeps_finish ..) (.ite (hz.trans (catalogKeeps_sendMsgs ..)) (catalogKeeps_setDesc ..))
  · split
    · exact catalogKeeps_setDesc ..
    · split
      · exact catalogKeeps_finish ..
      · exact (catalogKeeps_rest ..).trans (catalogKeeps_finish ..)

end Sys2Proof.Machine
end

section
/-!
PROOFS. What the catalog's operations leave as it is: commands, the constellation, the host port and the states of folios.
-/
namespace Sys2Proof.Machine

variable {s t u : State}

/-! ## The stacks cache is no part of the folio map -/

@[simp] theorem setCset_map (k : Nat) (c : CacheSet) : (s.setCset k c).map = s.map :=
  foldl_keeps (fun z => z.map = s.map) (fun z p => z.setFld F_SK_P_USED_USED _ p) (fun _ _ e => e) _ s rfl

@[simp] theorem pinClass_map (l : List Line) (had p : Nat) : (s.pinClass l had p).1.map = s.map := by
  unfold State.pinClass
  dsimp only
  split <;> rfl

@[simp] theorem cacheAccess_map (sec handle : Nat) (h : Hint) (pin : Option Nat) (fills : Bool) :
    (s.cacheAccess sec handle h pin fills).map = s.map := by
  have drop (z : State) : (z.cacheDrop sec).map = z.map := by
    unfold State.cacheDrop
    dsimp only
    split
    · exact setCset_map ..
    · rfl
  have fill (z : State) (n p : Nat) : (z.cacheFill sec n p (s.effHint h)).map = z.map := by simp [State.cacheFill]
  unfold State.cacheAccess
  dsimp only
  split
  · split <;> rfl
  · split
    · cases pin <;> simp only [setCset_map, pinClass_map, State.bump_map] <;> split <;> simp [drop]
    · split <;> simp only [fill, State.bump_map] <;> split <;> simp [drop]

/-! ## Operations of the catalog -/

/-- A folio's record is what the folio map says. -/
theorem owner_of_map (h : t.map = s.map) (f : Nat) : t.owner f = s.owner f := by
  unfold State.owner State.inZeroing
  rw [h]

/-- A folio's record after one is written: what the lists of the map say of its state stands before what is written. -/
theorem owner_setOwner (f g : Nat) (o : Owner) : (s.setOwner f o).owner g =
    if f = g then
      (if inSet s.map.device f then { o with st := .device }
      else if s.inZeroing f then { o with st := .zeroing }
      else { o with st := if o.st = .zeroing || o.st = .device then .free else o.st })
    else s.owner g := by
  have hz : (s.setOwner f o).inZeroing g = s.inZeroing g := rfl
  have hd : (s.setOwner f o).map.device = s.map.device := rfl
  unfold State.owner
  rw [hz, hd]
  simp only [State.setOwner, kvGet_kvPut]
  by_cases h : f = g
  · simp only [h, if_true]
  · simp only [h, if_false]

/-- A folio whose record is written with the state it reads stays RELEASING, or not. -/
theorem releasing_setOwner {f : Nat} {o : Owner} (h : o.st = (s.owner f).st) (g : Nat) :
    ((s.setOwner f o).owner g).st = .releasing ↔ (s.owner g).st = .releasing := by
  rw [owner_setOwner]
  by_cases hg : f = g
  · subst hg
    rw [if_pos rfl, ← h]
    unfold State.owner at h
    dsimp only at h
    split
    · next hd => simp [h, hd]
    · next hd =>
      split
      · next hz => simp [h, hd, hz]
      · cases o.st <;> simp
  · rw [if_neg hg]

/-- From one state to another the catalog has been worked on: commands, streams, the constellation, the host port and which folios are RELEASING are
as they were. -/
structure CatalogOnly (s t : State) : Prop where
  q : t.q = s.q
  fn : t.fn = s.fn
  cn : t.cn = s.cn
  hp : t.hp = s.hp
  fns : t.ir.fns = s.ir.fns
  releasing : ∀ f, (t.owner f).st = .releasing ↔ (s.owner f).st = .releasing
  flds : ∀ g : Fld, g.Fits → (g.blk ∈ [12, 13] ∨ g.blk = 14 ∧ g.off = 0x1000) → ∀ i, t.fld g i = s.fld g i

theorem CatalogOnly.refl : CatalogOnly s s := ⟨rfl, rfl, rfl, rfl, rfl, fun _ => .rfl, fun _ _ _ _ => rfl⟩

theorem CatalogOnly.trans (h : CatalogOnly s t) (k : CatalogOnly t u) : CatalogOnly s u :=
  ⟨k.q.trans h.q, k.fn.trans h.fn, k.cn.trans h.cn, k.hp.trans h.hp, k.fns.trans h.fns, fun f => (k.releasing f).trans (h.releasing f),
    fun g hg hb i => (k.flds g hg hb i).trans (h.flds g hg hb i)⟩

theorem CatalogOnly.foldl {α : Type} {f : State → α → State} (h : ∀ z a, CatalogOnly z (f z a)) (l : List α) : CatalogOnly s (l.foldl f s) :=
  foldl_keeps (CatalogOnly s) f (fun z a k => k.trans (h z a)) l s .refl

theorem CatalogOnly.ite {c : Prop} [Decidable c] (h : CatalogOnly s t) (k : CatalogOnly s u) : CatalogOnly s (if c then t else u) := by
  split
  · exact h
  · exact k

theorem CatalogOnly.host (h : CatalogOnly s t) : HostKeeps s t :=
  ⟨h.q, h.fn, h.fns, h.hp, h.flds F_HP_STATUS_RATE (by decide) (by decide) 0⟩

/-- The catalog's records are its own. -/
theorem catalogOnly_ct (c : CtSt) : CatalogOnly s { s with ct := c } := ⟨rfl, rfl, rfl, rfl, rfl, fun _ => .rfl, fun _ _ _ _ => rfl⟩

/-- So are its counters. -/
theorem catalogOnly_bump {f : Fld} (hf : f.Fits) (hb : f.blk = 3) (n i : Nat) : CatalogOnly s (s.bump f n i) := by
  refine ⟨rfl, rfl, rfl, rfl, rfl, fun _ => .rfl, fun g hg hc j => ?_⟩
  refine fld_setFld_ne hf hg (fun h => ?_) ..
  rw [Prod.mk.injEq, hb] at h
  simp [← h.1] at hc

theorem catalogOnly_metaAccess (sec : Nat) (fills : Bool) : CatalogOnly s (s.metaAccess sec fills) := by
  refine .ite .refl ?_
  have a := accessKeeps_cacheAccess (s := s) sec 0 .keep none fills
  have c := catalogKeeps_cacheAccess (s := s) sec 0 .keep none fills
  refine ⟨a.q, a.fn, c.cn, a.hp, a.fns, fun f => by rw [owner_of_map (cacheAccess_map ..)], fun g hg hb i => ?_⟩
  by_cases h13 : g.blk = 13
  · exact a.flds g ⟨hg, by simp [h13]⟩ i
  · refine c.flds g ⟨hg, ?_⟩ i
    simp only [List.mem_cons, List.not_mem_nil, or_false, h13] at hb ⊢
    exact hb.imp_left (fun h => .inr (.inr h))

theorem catalogOnly_metaReads (l : List Nat) : CatalogOnly s (s.metaReads l) := .foldl (fun _ _ => catalogOnly_metaAccess ..) _

/-- A link sends. -/
theorem catalogOnly_sendFlit (l : Nat) (f : Flit) : CatalogOnly s (s.sendFlit l f) := by
  obtain ⟨k, o, h⟩ := sendFlit_frame (s := s) l f
  rw [h]
  exact ⟨rfl, rfl, rfl, rfl, rfl, fun _ => .rfl, fun _ _ _ _ => rfl⟩

theorem catalogOnly_routeMsg (ty dest xtag : Nat) (msg : List Byte) : CatalogOnly s (s.routeMsg ty dest xtag msg) :=
  .ite (catalogOnly_sendFlit ..) .refl

theorem catalogOnly_pumpFwd (n : Nat) : CatalogOnly s (s.pumpFwd n) := by
  induction n generalizing s with
  | zero => exact .refl
  | succ n ih =>
    unfold State.pumpFwd
    refine .ite .refl ?_
    split
    · exact .refl
    · exact ((catalogOnly_ct _).trans (catalogOnly_routeMsg ..)).trans ih

theorem catalogOnly_sendFwd (d : Option Nat) (idx dest kind scope : Nat) (noref : Bool) (hash : Nat) (tail : List Byte) :
    CatalogOnly s (s.sendFwd d idx dest kind scope noref hash tail) := (catalogOnly_ct _).trans (catalogOnly_pumpFwd 1)

/-! ## Segment records -/

theorem catalogOnly_setSeg (i : Nat) (r : SegRec) : CatalogOnly s (s.setSeg i r) := catalogOnly_ct _

/-- A folio that is marked, or no more, keeps its state (R165, R174). -/
theorem catalogOnly_markPub (up : Bool) (l : List Nat) : CatalogOnly s (s.markPub up l) := by
  induction l generalizing s with
  | nil => exact .refl
  | cons f l ih =>
    unfold State.markPub
    extract_lets o
    have hz : CatalogOnly s (s.setOwner f { o with pub := if up then o.pub + 1 else o.pub - 1 }) :=
      ⟨rfl, rfl, rfl, rfl, rfl, releasing_setOwner rfl, fun _ _ _ _ => rfl⟩
    exact hz.trans ih

theorem catalogOnly_tryFreeSeg (i : Nat) : CatalogOnly s (s.tryFreeSeg i) := by
  unfold State.tryFreeSeg
  extract_lets r h c z
  have hz : CatalogOnly s z := .ite (catalogOnly_ct _) .refl
  exact .ite ((hz.trans (catalogOnly_markPub ..)).trans (catalogOnly_setSeg ..)) .refl

theorem catalogOnly_refState (i : Nat) (b : Bool) : CatalogOnly s (s.refState i b) := .ite (catalogOnly_sendFwd ..) .refl

theorem catalogOnly_unindex (l : List IndexEntry) : CatalogOnly s (s.unindex l) := by
  induction l generalizing s with
  | nil => exact .refl
  | cons e l ih =>
    unfold State.unindex
    refine .trans ?_ ih
    split
    · exact (catalogOnly_setSeg ..).trans (catalogOnly_tryFreeSeg _)
    · exact .refl

theorem catalogOnly_removeEntries (p : IndexEntry → Bool) : CatalogOnly s (s.removeEntries p) :=
  (catalogOnly_ct _).trans (catalogOnly_unindex _)

theorem catalogOnly_withdrawSeg (i : Nat) : CatalogOnly s (s.withdrawSeg i) :=
  .ite (catalogOnly_removeEntries _) (((catalogOnly_sendFwd ..).trans (catalogOnly_setSeg ..)).trans (catalogOnly_tryFreeSeg i))

theorem catalogOnly_dropOrphan (i : Nat) : CatalogOnly s (s.dropOrphan i) := .ite (catalogOnly_withdrawSeg i) .refl

theorem catalogOnly_dropRefs (i n : Nat) : CatalogOnly s (s.dropRefs i n) := by
  unfold State.dropRefs
  extract_lets r z
  have hz : CatalogOnly s z := catalogOnly_setSeg ..
  exact ((hz.trans (.ite (catalogOnly_refState ..) .refl)).trans (catalogOnly_dropOrphan i)).trans (catalogOnly_tryFreeSeg i)

theorem catalogOnly_releaseRefs (n i k : Nat) : CatalogOnly s (s.releaseRefs n i k) := (catalogOnly_ct _).trans (catalogOnly_dropRefs ..)

theorem catalogOnly_discardSeg (i : Nat) : CatalogOnly s (s.discardSeg i) :=
  .ite ((catalogOnly_markPub ..).trans (catalogOnly_setSeg ..)) .refl

/-! ## Lookups and inserts -/

theorem catalogOnly_countLookup (sc : Scope) (hit : Bool) : CatalogOnly s (s.countLookup sc hit) :=
  .ite (catalogOnly_bump (by decide) rfl ..) (catalogOnly_bump (by decide) rfl ..)

theorem catalogOnly_countLater (x : Desc) : CatalogOnly s (s.countLater x) := .ite (catalogOnly_bump (by decide) rfl ..) .refl

theorem catalogOnly_countLate (d late : Nat) : CatalogOnly s (s.countLate d late) := .ite (catalogOnly_bump (by decide) rfl ..) .refl

theorem catalogOnly_editEntry (hash : Nat) (sc : Scope) (f : IndexEntry → IndexEntry) : CatalogOnly s (s.editEntry hash sc f) := catalogOnly_ct _

theorem catalogOnly_touchEntry (hash : Nat) (sc : Scope) : CatalogOnly s (s.touchEntry hash sc) := catalogOnly_ct _

theorem catalogOnly_takeRef (n i : Nat) : CatalogOnly s (s.takeRef n i).1 := by
  have added (z : State) : CatalogOnly z (z.addRefs i 1) := by
    unfold State.addRefs
    extract_lets r y
    have hy : CatalogOnly z y := catalogOnly_setSeg ..
    exact .ite (hy.trans (catalogOnly_refState ..)) hy
  unfold State.takeRef
  extract_lets k
  split
  · exact .refl
  · exact (catalogOnly_ct _).trans (added _)

theorem catalogOnly_hitRecord (n : Nat) (noref : Bool) (r : LookupRec) : CatalogOnly s (s.hitRecord n noref r).1 := by
  unfold State.hitRecord
  split
  · exact .refl
  · split
    · exact .refl
    · split
      · exact .refl
      · exact (catalogOnly_metaAccess ..).trans (catalogOnly_takeRef ..)

/-- The state in which a lookup of a hash has read its buckets. -/
def State.bucketsRead (s : State) (sc : Scope) (hash : Nat) : State :=
  if inSet s.ct.hot hash then s else s.metaReads [s.bucketSec (bucket1 hash), s.bucketSec (bucket2 hash sc)]

theorem catalogOnly_bucketsRead (sc : Scope) (hash : Nat) : CatalogOnly s (s.bucketsRead sc hash) := .ite .refl (catalogOnly_metaReads _)

section
variable {n : Nat} {hash : Nat}

/-- A hash without an entry is a miss (R168). -/
theorem lookupLocal_miss (h : (s.bucketsRead (s.scopeOf n) hash).findEntry hash (s.scopeOf n) = none) (noref : Bool) :
    s.lookupLocal n noref hash = ((s.bucketsRead (s.scopeOf n) hash).countLookup (s.scopeOf n) false, { status := 1 }) := by
  unfold State.bucketsRead at h ⊢
  unfold State.lookupLocal
  dsimp only
  rw [h]

/-- A hash with an entry is a hit of it (R168). -/
theorem lookupLocal_hit {e : IndexEntry} (h : (s.bucketsRead (s.scopeOf n) hash).findEntry hash (s.scopeOf n) = some e) (noref : Bool) :
    s.lookupLocal n noref hash =
      (((s.bucketsRead (s.scopeOf n) hash).countLookup (s.scopeOf n) true).touchEntry hash (s.scopeOf n)).hitRecord n noref e.toRecord := by
  unfold State.bucketsRead at h ⊢
  unfold State.lookupLocal
  dsimp only
  rw [h]

end

theorem catalogOnly_lookupLocal (n : Nat) (noref : Bool) (hash : Nat) : CatalogOnly s (s.lookupLocal n noref hash).1 := by
  have hr := catalogOnly_bucketsRead (s := s) (s.scopeOf n) hash
  cases h : (s.bucketsRead (s.scopeOf n) hash).findEntry hash (s.scopeOf n) with
  | none =>
    rw [lookupLocal_miss h]
    exact hr.trans (catalogOnly_countLookup (s.scopeOf n) false)
  | some e =>
    rw [lookupLocal_hit h]
    exact ((hr.trans (catalogOnly_countLookup ..)).trans (catalogOnly_touchEntry ..)).trans (catalogOnly_hitRecord ..)

theorem catalogOnly_lookupGo (d n i : Nat) : CatalogOnly s (s.lookupGo d n i) := by
  induction n generalizing s i with
  | zero => exact .refl
  | succ n ih =>
    unfold State.lookupGo
    extract_lets x rs
    generalize (if x.e.flag 10 then stopState rs i else (false, false)) = stop
    obtain ⟨stopped, waits⟩ := stop
    dsimp only
    split
    · exact ih _
    split
    · exact (catalogOnly_ct _).trans (ih _)
    split
    · exact .refl
    split
    · exact (((catalogOnly_countLater x).trans (catalogOnly_lookupLocal ..)).trans (catalogOnly_ct _)).trans (ih _)
    · exact (catalogOnly_sendFwd ..).trans (ih _)

theorem catalogOnly_insertEntry {e : IndexEntry} (h : s.insertEntry e = some t) : CatalogOnly s t := by
  unfold State.insertEntry at h
  dsimp only at h
  split at h
  · cases h
    exact catalogOnly_ct _
  · split at h
    · cases h
      exact ((catalogOnly_removeEntries _).trans (catalogOnly_bump (by decide) rfl ..)).trans (catalogOnly_ct _)
    · split at h
      · cases h
        exact catalogOnly_ct _
      · cases h

/-- The state in which an insert has read the buckets of its key. -/
def State.keyRead (s : State) (e : IndexEntry) : State := s.metaReads [s.bucketSec (bucket1 e.hash), s.bucketSec (bucket2 e.hash e.scope)]

/-- The state in which an inserted entry counts as hit last. -/
def State.hitLast (s : State) (e : IndexEntry) : State :=
  let z := s.editEntry e.hash e.scope (fun y => { y with hit := s.ct.clock + 1 })
  { z with ct := { z.ct with clock := s.ct.clock + 1 } }

theorem catalogOnly_hitLast (e : IndexEntry) : CatalogOnly s (s.hitLast e) := catalogOnly_ct _

/-- A binding takes its value, and nothing else of the term is touched. -/
theorem have_eq {α β : Type} {a : α} {f : α → β} {b : β} (h : f a = b) : (have x := a; f x) = b := h

theorem have_of {α β : Type} {a : α} {f : α → β} {P : β → Prop} (h : P (f a)) : P (have x := a; f x) := h

/-! The three outcomes of an insert. Its definition is unfolded as a function, not where it is applied: there the kernel would compare the application
with the match of its body and evaluate the reads of the buckets for it. -/

theorem indexInsert_of_some {e old : IndexEntry} (h : (s.keyRead e).findEntry e.hash e.scope = some old) :
    s.indexInsert e = (s.keyRead e, .exists_ old.handle) := by
  suffices key : ∀ f, f = State.indexInsert → f s e = (s.keyRead e, .exists_ old.handle) from key _ rfl
  intro f hf
  delta State.indexInsert at hf
  rw [hf]
  refine have_eq ?_
  unfold State.keyRead at *
  rw [h]

theorem indexInsert_of_none {e : IndexEntry} (h : (s.keyRead e).findEntry e.hash e.scope = none)
    (hi : (s.keyRead e).insertEntry e = none) : s.indexInsert e = (s.keyRead e, .capacity) := by
  suffices key : ∀ f, f = State.indexInsert → f s e = (s.keyRead e, .capacity) from key _ rfl
  intro f hf
  delta State.indexInsert at hf
  rw [hf]
  refine have_eq ?_
  unfold State.keyRead at *
  rw [h, hi]
  exact ite_self _

theorem indexInsert_of_room {e : IndexEntry} (h : (s.keyRead e).findEntry e.hash e.scope = none)
    (hi : (s.keyRead e).insertEntry e = some t) :
    s.indexInsert e = (s.keyRead e, .capacity) ∨ s.indexInsert e = (t.hitLast e, .done) := by
  suffices key : ∀ f, f = State.indexInsert → f s e = (s.keyRead e, .capacity) ∨ f s e = (t.hitLast e, .done) from key _ rfl
  intro f hf
  delta State.indexInsert at hf
  rw [hf]
  unfold State.keyRead at *
  refine have_of (P := fun r => r = _ ∨ r = (_, Inserted.done)) ?_
  rw [h, hi]
  exact ite_eq_or_eq ..

/-- What an insert comes to: an entry of its key stands, it is refused, or its entry is placed (R167, R175, R189). -/
theorem indexInsert_cases (e : IndexEntry) :
    (∃ old, (s.keyRead e).findEntry e.hash e.scope = some old ∧ s.indexInsert e = (s.keyRead e, .exists_ old.handle)) ∨
    (s.keyRead e).findEntry e.hash e.scope = none ∧
      (s.indexInsert e = (s.keyRead e, .capacity) ∨ ∃ t, (s.keyRead e).insertEntry e = some t ∧ s.indexInsert e = (t.hitLast e, .done)) := by
  cases h : (s.keyRead e).findEntry e.hash e.scope with
  | some old => exact .inl ⟨old, rfl, indexInsert_of_some h⟩
  | none =>
    refine .inr ⟨rfl, ?_⟩
    cases hi : (s.keyRead e).insertEntry e with
    | none => exact .inl (indexInsert_of_none h hi)
    | some t =>
      obtain hr | hr := indexInsert_of_room h hi
      · exact .inl hr
      · exact .inr ⟨t, rfl, hr⟩
theorem catalogOnly_indexInsert (e : IndexEntry) : CatalogOnly s (s.indexInsert e).1 := by
  have hz : CatalogOnly s (s.keyRead e) := catalogOnly_metaReads _
  rcases indexInsert_cases (s := s) e with ⟨old, -, h⟩ | ⟨-, h | ⟨t, ht, h⟩⟩ <;> rw [h]
  · exact hz
  · exact hz
  · exact (hz.trans (catalogOnly_insertEntry ht)).trans (catalogOnly_hitLast e)

end Sys2Proof.Machine
end

section
/-!
PROOFS. Lookups: entries by key, hashes answered on this member, and the records that a lookup returns.
-/
namespace Sys2Proof.Machine

variable {s t u : State} {d : Nat} {x : Desc}

/-! ## Entries by key -/

/-- An entry of a key is found where one stands. -/
theorem isSome_findEntry (hash : Nat) (sc : Scope) : (s.findEntry hash sc).isSome = s.entries.any (fun e => e.keyed hash sc) := by
  unfold State.findEntry State.entries
  rw [List.any_append, List.any_map]
  split
  · next p h => simp [List.any_eq_true.2 ⟨p, List.mem_of_find?_eq_some h, List.find?_some h⟩, Function.comp_def]
  · next h =>
    rw [List.find?_eq_none] at h
    have hi : s.ct.index.any ((fun e => e.keyed hash sc) ∘ Prod.snd) = false := List.any_eq_false.2 h
    rw [Bool.eq_iff_iff, List.find?_isSome, hi, Bool.false_or, List.any_eq_true]

theorem entries_editEntry (hash : Nat) (sc : Scope) (f : IndexEntry → IndexEntry) :
    (s.editEntry hash sc f).entries = s.entries.map (fun e => if e.keyed hash sc then f e else e) := by
  simp only [State.editEntry, State.entries, List.map_append, List.map_map]
  congr 1
  refine List.map_congr_left fun p _ => ?_
  simp only [Function.comp_apply]
  split <;> rfl

/-- An edit that keeps the key leaves each key with its entries. -/
theorem isSome_findEntry_editEntry {f : IndexEntry → IndexEntry} (hf : ∀ e h sc, (f e).keyed h sc = e.keyed h sc) (hash : Nat) (sc : Scope)
    (h : Nat) (k : Scope) : ((s.editEntry hash sc f).findEntry h k).isSome = (s.findEntry h k).isSome := by
  rw [isSome_findEntry, isSome_findEntry, entries_editEntry, List.any_map]
  congr 1
  funext e
  simp only [Function.comp_apply]
  split
  · exact hf ..
  · rfl

/-- From one state to another hashes have been looked up on this member: each key has an entry or has none as before. -/
structure LookupKeeps (s t : State) : Prop where
  only : CatalogOnly s t
  fwd : t.ct.fwd = s.ct.fwd
  found : ∀ hash sc, (t.findEntry hash sc).isSome = (s.findEntry hash sc).isSome

theorem LookupKeeps.refl : LookupKeeps s s := ⟨.refl, rfl, fun _ _ => rfl⟩

theorem LookupKeeps.trans (h : LookupKeeps s t) (k : LookupKeeps t u) : LookupKeeps s u :=
  ⟨h.only.trans k.only, k.fwd.trans h.fwd, fun a c => (k.found a c).trans (h.found a c)⟩

theorem LookupKeeps.of_entries (h : CatalogOnly s t) (hf : t.ct.fwd = s.ct.fwd) (hi : t.ct.index = s.ct.index) (hs : t.ct.stash = s.ct.stash) :
    LookupKeeps s t := by
  refine ⟨h, hf, fun a c => ?_⟩
  rw [isSome_findEntry, isSome_findEntry]
  simp only [State.entries, hi, hs]

theorem LookupKeeps.of_ct (h : CatalogOnly s t) (k : t.ct = s.ct) : LookupKeeps s t := .of_entries h (by rw [k]) (by rw [k]) (by rw [k])

theorem LookupKeeps.none_iff (h : LookupKeeps s t) (hash : Nat) (sc : Scope) : t.findEntry hash sc = none ↔ s.findEntry hash sc = none := by
  simp only [← Option.isNone_iff_eq_none, ← Option.not_isSome, h.found]

/-- A tenant's scope is what its registers say. -/
theorem scopeOf_of (h : CatalogOnly s t) (n : Nat) : t.scopeOf n = s.scopeOf n := by
  unfold State.scopeOf
  rw [h.flds F_TN_T_STATUS_SHARE_GROUP (by decide) (by decide)]

theorem shardOwner_standalone (h : s.cn.st = .standalone) (k : Nat) : s.shardOwner k = s.me := by
  unfold State.shardOwner
  rw [if_neg (by rw [h]; decide)]

/-! ## A hash answered on this member -/

theorem countLookup_ct (sc : Scope) (hit : Bool) : (s.countLookup sc hit).ct = s.ct := by cases hit <;> rfl

theorem countLater_ct (x : Desc) : (s.countLater x).ct = s.ct := by
  unfold State.countLater
  split <;> rfl

theorem bucketsRead_ct (sc : Scope) (hash : Nat) : (s.bucketsRead sc hash).ct = s.ct := by
  unfold State.bucketsRead
  split
  · rfl
  · exact (catalogKeeps_metaReads _).ct

theorem lookupKeeps_touchEntry (hash : Nat) (sc : Scope) : LookupKeeps s (s.touchEntry hash sc) where
  only := catalogOnly_touchEntry ..
  fwd := rfl
  found := isSome_findEntry_editEntry (f := fun e => { e with hit := s.ct.clock + 1 }) (fun _ _ _ => rfl) hash sc

section Local
variable (hst : s.cn.st = .standalone)
include hst

/-- Outside a constellation a reference that is taken is reported to no other member. -/
theorem takeRef_standalone (n i : Nat) : ∃ l g, (s.takeRef n i).1 = { s with ct := { s.ct with ledger := l, segs := g } } := by
  have quiet (z : State) (hz : z.cn.st = .standalone) : z.refState i false = z := if_neg (by simp [hz])
  unfold State.takeRef
  dsimp only
  split
  · exact ⟨_, _, rfl⟩
  · unfold State.addRefs
    dsimp only
    rw [quiet, ite_self]
    · exact ⟨_, _, rfl⟩
    · exact hst

theorem hitRecord_keeps (n : Nat) (noref : Bool) (r : LookupRec) :
    LookupKeeps s (s.hitRecord n noref r).1 ∧ (s.hitRecord n noref r).1.ct.lookups = s.ct.lookups := by
  unfold State.hitRecord
  split
  · exact ⟨.refl, rfl⟩
  split
  · exact ⟨.refl, rfl⟩
  split
  · exact ⟨.refl, rfl⟩
  next i _ _ =>
  have a := catalogOnly_metaAccess (s := s) (s.segSec i) true
  have c : CatalogKeeps s (s.metaAccess (s.segSec i) true) := catalogKeeps_metaAccess ..
  obtain ⟨l, g, h⟩ := takeRef_standalone (s := s.metaAccess (s.segSec i) true) (by rw [c.cn, hst]) n i
  dsimp only
  rw [h]
  exact ⟨.of_entries (a.trans (catalogOnly_ct _)) (by rw [← c.ct]) (by rw [← c.ct]) (by rw [← c.ct]), by rw [← c.ct]⟩

theorem lookupLocal_keeps (n : Nat) (noref : Bool) (hash : Nat) :
    LookupKeeps s (s.lookupLocal n noref hash).1 ∧ (s.lookupLocal n noref hash).1.ct.lookups = s.ct.lookups := by
  have hr : LookupKeeps s (s.bucketsRead (s.scopeOf n) hash) := .of_ct (catalogOnly_bucketsRead ..) (bucketsRead_ct ..)
  have counted (b : Bool) : LookupKeeps s ((s.bucketsRead (s.scopeOf n) hash).countLookup (s.scopeOf n) b) :=
    hr.trans (.of_ct (catalogOnly_countLookup ..) (countLookup_ct ..))
  have same (b : Bool) : ((s.bucketsRead (s.scopeOf n) hash).countLookup (s.scopeOf n) b).ct = s.ct :=
    (countLookup_ct ..).trans (bucketsRead_ct ..)
  cases h : (s.bucketsRead (s.scopeOf n) hash).findEntry hash (s.scopeOf n) with
  | none =>
    rw [lookupLocal_miss h]
    exact ⟨counted false, congrArg CtSt.lookups (same false)⟩
  | some e =>
    rw [lookupLocal_hit h]
    have kz := counted true
    have cz := same true
    generalize (s.bucketsRead (s.scopeOf n) hash).countLookup (s.scopeOf n) true = z at kz cz ⊢
    have kt := kz.trans (lookupKeeps_touchEntry hash (s.scopeOf n))
    have lt : (z.touchEntry hash (s.scopeOf n)).ct.lookups = z.ct.lookups := rfl
    generalize z.touchEntry hash (s.scopeOf n) = y at kt lt ⊢
    obtain ⟨kh, lh⟩ := hitRecord_keeps (s := y) (by rw [kt.only.cn, hst]) n noref e.toRecord
    exact ⟨kt.trans kh, (lh.trans lt).trans (congrArg CtSt.lookups cz)⟩

omit hst in
theorem hitRecord_status (n : Nat) (noref : Bool) (r : LookupRec) : (s.hitRecord n noref r).2.status ∈ [0, 2, 3] := by
  unfold State.hitRecord
  split
  · simp
  split
  · simp
  split
  · simp
  · dsimp only
    split <;> simp

omit hst in
/-- A record of this member is a miss exactly where the key has no entry (R168). -/
theorem lookupLocal_status (n : Nat) (noref : Bool) (hash : Nat) : (s.lookupLocal n noref hash).2.status ∈ [0, 1, 2, 3] ∧
    ((s.lookupLocal n noref hash).2.status = 1 ↔ s.findEntry hash (s.scopeOf n) = none) := by
  have hr : LookupKeeps s (s.bucketsRead (s.scopeOf n) hash) := .of_ct (catalogOnly_bucketsRead ..) (bucketsRead_ct ..)
  rw [← hr.none_iff]
  cases h : (s.bucketsRead (s.scopeOf n) hash).findEntry hash (s.scopeOf n) with
  | none =>
    rw [lookupLocal_miss h]
    exact ⟨by simp, iff_of_true rfl rfl⟩
  | some e =>
    rw [lookupLocal_hit h]
    generalize ((s.bucketsRead (s.scopeOf n) hash).countLookup (s.scopeOf n) true).touchEntry hash (s.scopeOf n) = y
    have hs := hitRecord_status (s := y) n noref e.toRecord
    generalize (y.hitRecord n noref e.toRecord).2.status = k at hs ⊢
    fin_cases hs <;> simp

end Local

/-! ## The records of a lookup -/

theorem records_setRecord (d i : Nat) (r : LookupRec) : (s.setRecord d i r).records d = (s.records d).set i (some r) := by
  simp [State.setRecord, State.records]

/-- A record answers hash `i` of a lookup: it is no MOVED and no UNREACHABLE, and without STOP_AT_MISS a MISS is a hash without an entry. -/
def State.Answers (s : State) (x : Desc) (i : Nat) (r : LookupRec) : Prop :=
  r.status ∈ [0, 1, 2, 3, 6] ∧
    (x.e.flag 10 = false → (r.status = 1 ↔ s.findEntry (x.list.getD i 0) (s.scopeOf x.e.tenant) = none))

/-- The records of the first `n` hashes of a lookup are there, and those of the rest are not. -/
structure State.Recorded (s t : State) (d : Nat) (x : Desc) (n k : Nat) : Prop where
  length : (t.records d).length = n + k
  done : ∀ j < n, ∃ r, (t.records d)[j]? = some (some r) ∧ s.Answers x j r
  rest : ∀ j, n ≤ j → j < n + k → (t.records d)[j]? = some none

/-- The record of the next hash is set. -/
theorem State.Recorded.set {n k : Nat} (h : s.Recorded t d x n (k + 1)) {r : LookupRec} (hr : s.Answers x n r)
    (hu : u.records d = (t.records d).set n (some r)) : s.Recorded u d x (n + 1) k := by
  have hn : n < (t.records d).length := by rw [h.length]; omega
  constructor
  · rw [hu, List.length_set, h.length]
    omega
  · intro j hj
    rw [hu]
    by_cases he : n = j
    · subst he
      exact ⟨r, by rw [List.getElem?_set_self hn], hr⟩
    · rw [List.getElem?_set_ne he]
      exact h.done j (by omega)
  · intro j hj hk
    rw [hu, List.getElem?_set_ne (by omega)]
    exact h.rest j (by omega) (by omega)

/-- Outside a constellation, each hash that is not recorded and not forwarded is answered in turn (R179, R184). -/
theorem lookupGo_records (hst : s.cn.st = .standalone) (hf : s.ct.fwd.any (fun f => f.d == some d) = false) (hx : s.desc d = x) (k : Nat) :
    ∀ {t : State} (n : Nat), LookupKeeps s t → s.Recorded t d x n k →
      LookupKeeps s (t.lookupGo d k n) ∧ s.Recorded (t.lookupGo d k n) d x (n + k) 0 := by
  induction k with
  | zero => exact fun n kt h => ⟨kt, h⟩
  | succ k ih =>
    intro t n kt h
    have hd : t.desc d = x := (desc_of_q kt.only.q d).trans hx
    have hu : (t.records d).getD n none = none := by rw [List.getD_eq_getElem?_getD, h.rest n le_rfl (by omega)]; rfl
    have hw : t.isForwarded d n = false := by
      unfold State.isForwarded
      rw [kt.fwd]
      rw [List.any_eq_false] at hf ⊢
      exact fun f hm => by simp [Bool.eq_false_iff.2 (hf f hm)]
    have hfill : ((t.records d).take n).any (fun r => r.isNone) = false := by
      rw [List.any_eq_false]
      intro r hm
      obtain ⟨j, hj, e⟩ := List.mem_iff_getElem.1 hm
      rw [List.length_take] at hj
      obtain ⟨r', hr, -⟩ := h.done j (by omega)
      rw [List.getElem_take] at e
      rw [List.getElem?_eq_getElem (by omega), e] at hr
      cases hr
      simp
    have hm : t.shardOwner (shardOf (x.list.getD n 0)) = t.me := shardOwner_standalone (by rw [kt.only.cn, hst]) _
    have next {z : State} (r : LookupRec) (kz : LookupKeeps s z) (hz : z.ct.lookups = t.ct.lookups) (hr : s.Answers x n r) :
        LookupKeeps s ((z.setRecord d n r).lookupGo d k (n + 1)) ∧ s.Recorded ((z.setRecord d n r).lookupGo d k (n + 1)) d x (n + (k + 1)) 0 := by
      have hrec : (z.setRecord d n r).records d = (t.records d).set n (some r) := by
        rw [records_setRecord]
        simp only [State.records, hz]
      rw [show n + (k + 1) = n + 1 + k by omega]
      exact ih (n + 1) (kz.trans (.of_entries (catalogOnly_ct _) rfl rfl rfl)) (h.set hr hrec)
    have hwait : (if x.e.flag 10 then stopState (t.records d) n else (false, false)).2 = false := by
      split
      · exact hfill
      · rfl
    have hstop : x.e.flag 10 = false → (if x.e.flag 10 then stopState (t.records d) n else (false, false)).1 = false := fun h => by rw [h]; rfl
    unfold State.lookupGo
    rw [hd]
    dsimp only
    generalize (if x.e.flag 10 then stopState (t.records d) n else (false, false)) = stop at hwait hstop
    obtain ⟨stopped, waits⟩ := stop
    obtain rfl : waits = false := hwait
    rw [hu, hw, hm, if_neg (by simp)]
    cases stopped with
    | true =>
      rw [if_pos rfl]
      exact next { status := 6 } kt rfl ⟨by simp, fun h => nomatch hstop h⟩
    | false =>
      have kc : LookupKeeps t (t.countLater x) := .of_ct (catalogOnly_countLater x) (countLater_ct x)
      obtain ⟨kl, ll⟩ := lookupLocal_keeps (s := t.countLater x) (by rw [(kt.trans kc).only.cn, hst]) x.e.tenant (x.e.flag 9) (x.list.getD n 0)
      obtain ⟨hr, hm⟩ := lookupLocal_status (s := t.countLater x) x.e.tenant (x.e.flag 9) (x.list.getD n 0)
      rw [if_neg (by simp), if_neg (by simp), if_pos rfl]
      refine next _ ((kt.trans kc).trans kl) (ll.trans (congrArg CtSt.lookups (countLater_ct x))) ⟨?_, fun _ => ?_⟩
      · exact (by simp : [0, 1, 2, 3] ⊆ [0, 1, 2, 3, 6]) hr
      · rw [hm, (kt.trans kc).none_iff, scopeOf_of (kt.trans kc).only]

end Sys2Proof.Machine
end

section
/-!
PROOFS. CATALOG_LOOKUP: the hashes that it reads, the records that it writes, and its end.
-/
namespace Sys2Proof.Machine

variable {s t u : State} {d : Nat} {x : Desc}

/-! ## The bytes of the records -/

/-- The records of a lookup as it writes them (Table 5.4). -/
def lookupBytes (rs : List LookupRec) : List Byte := (rs.map LookupRec.bytes).flatten

@[simp] theorem length_leBytes (n v : Nat) : (leBytes n v).length = n := by
  induction n generalizing v with
  | zero => rfl
  | succ n ih => simp [leBytes, ih]

theorem LookupRec.length_bytes (r : LookupRec) : r.bytes.length = 16 := by simp [LookupRec.bytes]

theorem length_lookupBytes (rs : List LookupRec) : (lookupBytes rs).length = 16 * rs.length := by
  induction rs with
  | nil => rfl
  | cons r rs ih =>
    rw [lookupBytes, List.map_cons, List.flatten_cons, List.length_append, LookupRec.length_bytes, ← lookupBytes, ih, List.length_cons]
    omega

/-- The first byte of a record is its status. -/
theorem leAt_lookupBytes (rs : List LookupRec) (i : Nat) (h : i < rs.length) : leAt (lookupBytes rs) (16 * i) 1 = rs[i].status % 256 := by
  induction rs generalizing i with
  | nil => cases h
  | cons r rs ih =>
    rw [lookupBytes, List.map_cons, List.flatten_cons, ← lookupBytes]
    cases i with
    | zero => simp [leAt, LookupRec.bytes, leBytes, leNat]
    | succ i =>
      rw [List.getElem_cons_succ, ← ih i (by simpa using h)]
      unfold leAt
      rw [show 16 * (i + 1) = r.bytes.length + 16 * i by rw [LookupRec.length_bytes]; omega, List.drop_length_add_append]

/-! ## The end of a lookup -/

section Done
variable (h : s.desc? d = some x) (hst : x.stage = .exec)
include h hst

/-- A lookup whose records are all there returns them; over the host their write ends it. -/
theorem lookupDone_ends {rs : List LookupRec} (hop : x.e.opcode = 0x30) (h8 : x.e.flag 8 = true) (hl : (s.queue x.q).isLink = false)
    (hn : s.noHost x.q = false) (hf : s.hostFault = none) (hrs : s.records d = rs.map some) (hlen : x.list.length ≤ rs.length)
    (h4 : rs.any (fun r => r.status == 4) = false) :
    Ended (s.lookupDone d) d .ok ∧ lookupBytes rs ∈ (s.lookupDone d).sentTo (s.queue x.q).fn x.e.opB := by
  have hid : (s.records d).filterMap id = rs := by rw [hrs]; simp
  have ho : x.outQ = x.q := if_neg (by simp [hop])
  unfold State.lookupDone
  rw [desc_of_some h, hid]
  extract_lets y l b res st c z
  have hz : HostKeeps s z := (catalogOnly_ct _).host
  have hs : st = .ok := if_neg (by rw [h4]; decide)
  have hgo : ¬(y.stage ≠ .exec || l.length < y.list.length || (!y.e.flag 8 && s.outWaits y y.e.opB (16 * y.list.length))) = true := by
    simp only [y, hst, h8, ne_eq, not_true, decide_false, Bool.not_true, Bool.false_and, Bool.or_false, Bool.false_or, decide_eq_true_eq, not_lt]
    exact hlen
  rw [if_neg hgo, if_pos h8, hs]
  obtain ⟨he, hm, -⟩ := returnData_ends hz h (by rw [hst]; nofun) (by rw [ho, hl]) hn hf x.e.opB b res
  rw [ho] at hm
  exact ⟨he, hm⟩

section Folio
variable (h8 : x.e.flag 8 = false)
include h8

/-- A lookup over folios writes them once their destination does not wait. -/
theorem lookupDone_writes (hlen : x.list.length ≤ ((s.records d).filterMap id).length) (hw : s.outWaits x x.e.opB (16 * x.list.length) = false) :
    ((s.lookupDone d).desc d).stage = .done := by
  unfold State.lookupDone
  rw [desc_of_some h]
  extract_lets y rs b res st c z
  have hq : (z.writeAccess y.dst y.dmeta y.e.opB b {} y.who).1.desc? d = some x := (desc?_of_q (writeAccess_q ..) d).trans h
  have hx : x.stage ≠ .done := by rw [hst]; nofun
  have hgo : ¬(y.stage ≠ .exec || rs.length < y.list.length || (!y.e.flag 8 && s.outWaits y y.e.opB (16 * y.list.length))) = true := by
    simp only [y, hst, h8, hw, ne_eq, not_true, decide_false, Bool.not_false, Bool.and_false, Bool.or_false, Bool.false_or, decide_eq_true_eq, not_lt]
    exact hlen
  rw [if_neg hgo, if_neg (by simp [y, h8])]
  generalize z.writeAccess y.dst y.dmeta y.e.opB b {} y.who = w at hq ⊢
  obtain ⟨w, m⟩ := w
  dsimp only at hq ⊢
  split
  · exact (finish_ends hq hx ..).1
  · exact (finish_ends hq hx ..).1

omit hst in
theorem lookupDone_waits (hw : s.outWaits x x.e.opB (16 * x.list.length) = true) : s.lookupDone d = s := by
  unfold State.lookupDone
  rw [desc_of_some h]
  exact if_pos (by simp [h8, hw])

end Folio
end Done

/-! ## The command -/

/-- The state in which a lookup has read its hashes. -/
def State.lookupStarted (s : State) (d : Nat) (hs : List Nat) (n : Nat) : State :=
  let s := s.setDesc d (({ s.desc d with list := hs, aux := s.now } : Desc).to s.now .exec)
  { s with ct := { s.ct with lookups := kvPut [] s.ct.lookups d (List.replicate n none) } }

/-- The state in which this member has answered or forwarded the hashes of a lookup. -/
def State.lookupAnswered (s : State) (d : Nat) (hs : List Nat) (n late : Nat) : State := ((s.lookupStarted d hs n).lookupGo d n 0).countLate d late

section Command
variable (h : Runs s d 0x30 x) (hg : s.domGated 55 = false) (hf : s.domFailed 55 = false) (b : List Byte) (late : Nat)
include h hg hf

theorem catalogLookup_host (h8 : x.e.flag 8 = true) (hn : s.noHost x.q = false) : exec (.catalogLookup d b late) s =
    .next (let z := s.askHost x.q x.e.opA (16 * x.e.len)
      if (hashesOf b x.e.len).any (· == 0) then z.finish d .param
      else (z.lookupAnswered d (hashesOf b x.e.len) x.e.len late).lookupDone d) := by
  obtain ⟨hd, hop, hst⟩ := h
  have hm : ({} : Met).status = .ok := rfl
  show execCatalogLookup d b late s = _
  simp [execCatalogLookup, hm, State.lookupAnswered, State.lookupStarted, desc_of_some hd, Desc.runs?, hop, hst, hg, hf, h8, hn]

theorem catalogLookup_folios (h8 : x.e.flag 8 = false) (hr : s.readWaits x.e.tenant (pieces x.src x.e.opA (16 * x.e.len)) = false)
    (hs : (s.readAccess x.src (some x.smeta) x.e.opA (16 * x.e.len) {} x.who).2.status = .ok) : exec (.catalogLookup d b late) s =
    .next (let z := (s.readAccess x.src (some x.smeta) x.e.opA (16 * x.e.len) {} x.who).1
      let hs := hashesOf (z.readRuns x.src x.e.opA 0 (16 * x.e.len)) x.e.len
      if hs.any (· == 0) then z.finish d .param else (z.lookupAnswered d hs x.e.len late).lookupDone d) := by
  obtain ⟨hd, hop, hst⟩ := h
  show execCatalogLookup d b late s = _
  simp [execCatalogLookup, State.lookupAnswered, State.lookupStarted, desc_of_some hd, Desc.runs?, hop, hst, hg, hf, h8, hr, hs]

end Command

/-- The records of a lookup whose hashes are all answered, as a list. -/
theorem State.Recorded.list {n : Nat} (h : s.Recorded t d x n 0) :
    ∃ rs : List LookupRec, t.records d = rs.map some ∧ rs.length = n ∧ ∀ i (hi : i < rs.length), s.Answers x i rs[i] := by
  choose f hf using h.done
  refine ⟨List.ofFn fun j : Fin n => f j j.2, ?_, by simp, fun i hi => ?_⟩
  · refine List.ext_getElem? fun j => ?_
    by_cases hj : j < n
    · rw [(hf j hj).1, List.getElem?_map, List.getElem?_ofFn]
      simp [hj]
    · rw [List.getElem?_eq_none (by rw [h.length]; omega), List.getElem?_eq_none (by simp; omega)]
  · rw [List.getElem_ofFn]
    exact (hf i _).2

theorem countLate_ct (d late : Nat) : (s.countLate d late).ct = s.ct := by
  unfold State.countLate
  split <;> rfl

section Answered
variable (h : s.desc? d = some x) (hc : s.cn.st = .standalone) (hw : s.ct.fwd.any (fun f => f.d == some d) = false)
include h hc hw

/-- Outside a constellation this member answers every hash of a lookup. -/
theorem lookupAnswered_records {hs : List Nat} {n : Nat} (late : Nat) :
    CatalogOnly (s.lookupStarted d hs n) (s.lookupAnswered d hs n late) ∧ ∃ rs : List LookupRec, (s.lookupAnswered d hs n late).records d = rs.map some ∧ rs.length = n ∧
      ∀ i (hi : i < rs.length), s.Answers (({ x with list := hs, aux := s.now } : Desc).to s.now .exec) i rs[i] := by
  have hrec : (s.lookupStarted d hs n).records d = List.replicate n none := by simp [State.lookupStarted, State.records]
  have hd : (s.lookupStarted d hs n).desc d = ({ x with list := hs, aux := s.now } : Desc).to s.now .exec := by
    have e : (s.lookupStarted d hs n).desc d = (({ s.desc d with list := hs, aux := s.now } : Desc).to s.now .exec) :=
      (State.desc_setDesc (s := s) d d _).trans (if_pos rfl)
    rw [e, desc_of_some h]
  obtain ⟨k, r⟩ := lookupGo_records (s := s.lookupStarted d hs n) (t := s.lookupStarted d hs n) hc hw hd n 0 .refl
    ⟨by simp [hrec], nofun, fun j _ hj => by rw [hrec, List.getElem?_replicate, if_pos (by omega)]⟩
  rw [Nat.zero_add] at r
  obtain ⟨rs, hr, hl, ha⟩ := r.list
  refine ⟨k.only.trans (catalogOnly_countLate ..), rs, ?_, hl, ha⟩
  rw [← hr]
  simp only [State.lookupAnswered, State.records, countLate_ct]

end Answered

/-- A lookup of hashes in the host's memory, outside a constellation (R163, R168, R184). -/
theorem catalogLookup_returns (h : Runs s d 0x30 x) (h8 : x.e.flag 8 = true) (hn : s.noHost x.q = false) (hl : (s.queue x.q).isLink = false)
    (hh : s.hostFault = none) (hg : s.domGated 55 = false) (hf : s.domFailed 55 = false) (hc : s.cn.st = .standalone)
    (hw : s.ct.fwd.any (fun f => f.d == some d) = false) (b : List Byte) (hb : ∀ i, i < x.e.len → leAt b (16 * i) 16 ≠ 0) (l : Nat) :
    Leads (.catalogLookup d b l) s fun t => Ended t d .ok ∧
      (∃ c ∈ t.sentTo (s.queue x.q).fn x.e.opB, c.length = 16 * x.e.len ∧
      ∀ i, i < x.e.len → x.e.flag 10 = false → (leAt c (16 * i) 1 = 1 ↔ s.findEntry (leAt b (16 * i) 16) (s.scopeOf x.e.tenant) = none)) := by
  have hz : (hashesOf b x.e.len).any (· == 0) = false := by
    rw [List.any_eq_false]
    intro k hk
    obtain ⟨i, hi, rfl⟩ := List.mem_map.1 hk
    simpa using hb i (List.mem_range.1 hi)
  refine leads_next (catalogLookup_host h hg hf b l h8 hn) ?_
  dsimp only
  rw [hz, if_neg (by decide)]
  obtain ⟨o, ho⟩ := askHost_frame (s := s) x.q x.e.opA (16 * x.e.len)
  rw [ho]
  generalize he : { s with outbox := s.outbox ++ o } = z
  have hzd : z.desc? d = some x := he ▸ h.1
  obtain ⟨k, rs, hr, hlen, ha⟩ := lookupAnswered_records (s := z) (hs := hashesOf b x.e.len) (n := x.e.len) hzd (he ▸ hc) (he ▸ hw) l
  generalize hv : z.lookupAnswered d (hashesOf b x.e.len) x.e.len l = v at k hr ⊢
  have hd : v.desc? d = some (({ x with list := hashesOf b x.e.len, aux := z.now } : Desc).to z.now .exec) := by
    rw [desc?_of_q k.q, State.lookupStarted, desc_of_some hzd]
    exact (desc?_setDesc ..).trans (if_pos rfl)
  have hqu : v.queue x.q = s.queue x.q := (queue_of_q k.q _).trans (he ▸ rfl)
  have hnv : v.noHost x.q = false := (noHost_of k.q k.fns _).trans ((show _ = s.noHost x.q from he ▸ rfl).trans hn)
  have hfv : v.hostFault = none := (hostFault_of k.host.rate k.hp).trans ((show _ = s.hostFault from he ▸ rfl).trans hh)
  obtain ⟨hE, hS⟩ := lookupDone_ends hd rfl h.2.1 h8 (by rw [← hl, ← hqu]; rfl) hnv hfv hr
    (by rw [hlen]; exact (List.length_map ..).trans_le (List.length_range ..).le)
    (List.any_eq_false.2 fun r hm => by
      obtain ⟨i, hi, rfl⟩ := List.mem_iff_getElem.1 hm
      have hst := (ha i hi).1
      generalize rs[i].status = k at hst
      fin_cases hst <;> decide)
  refine ⟨hE, lookupBytes rs, hqu ▸ hS, by rw [length_lookupBytes, hlen], fun i hi h10 => ?_⟩
  obtain ⟨hst, hm⟩ := ha i (by omega)
  have hmiss : rs[i].status = 1 ↔ z.findEntry ((hashesOf b x.e.len).getD i 0) (z.scopeOf x.e.tenant) = none := hm h10
  have hash : (hashesOf b x.e.len).getD i 0 = leAt b (16 * i) 16 := by simp [hashesOf, List.getD_eq_getElem?_getD, hi]
  rw [leAt_lookupBytes rs i (by omega), ← hash, show s.findEntry = z.findEntry from he ▸ rfl, show s.scopeOf = z.scopeOf from he ▸ rfl, ← hmiss]
  generalize rs[i].status = k at hst
  fin_cases hst <;> simp

/-- A lookup of hashes in folios that reads well comes to its end, or waits for its destination (R163, R318, R497). -/
theorem catalogLookup_ends_or_waits (h : Runs s d 0x30 x) (h8 : x.e.flag 8 = false)
    (hr : s.readWaits x.e.tenant (pieces x.src x.e.opA (16 * x.e.len)) = false) (hg : s.domGated 55 = false) (hf : s.domFailed 55 = false)
    (hc : s.cn.st = .standalone) (hw : s.ct.fwd.any (fun f => f.d == some d) = false)
    (hs : (s.readAccess x.src (some x.smeta) x.e.opA (16 * x.e.len) {} x.who).2.status = .ok) (b : List Byte) (l : Nat) :
    Leads (.catalogLookup d b l) s fun t => (t.desc d).stage = .done ∨
      ((t.desc d).stage = .exec ∧ t.outWaits (t.desc d) x.e.opB (16 * (t.desc d).list.length) = true) := by
  refine leads_next (catalogLookup_folios h hg hf b l h8 hr hs) ?_
  have a : AccessKeeps s (s.readAccess x.src (some x.smeta) x.e.opA (16 * x.e.len) {} x.who).1 := accessKeeps_readPieces ..
  have c : CatalogKeeps s (s.readAccess x.src (some x.smeta) x.e.opA (16 * x.e.len) {} x.who).1 := catalogKeeps_readPieces ..
  generalize (s.readAccess x.src (some x.smeta) x.e.opA (16 * x.e.len) {} x.who).1 = z at a c ⊢
  dsimp only
  generalize hhs : hashesOf (z.readRuns x.src x.e.opA 0 (16 * x.e.len)) x.e.len = hs
  have hzd : z.desc? d = some x := (desc?_of_q a.q d).trans h.1
  split
  · exact .inl (finish_ends hzd (not_done_of_runs h) ..).1
  · obtain ⟨k, rs, hr, hlen, -⟩ := lookupAnswered_records (s := z) (hs := hs) (n := x.e.len) hzd (by rw [c.cn, hc]) (by rw [c.ct, hw]) l
    generalize z.lookupAnswered d hs x.e.len l = v at k hr ⊢
    have hd : v.desc? d = some (({ x with list := hs, aux := z.now } : Desc).to z.now .exec) := by
      rw [desc?_of_q k.q, State.lookupStarted, desc_of_some hzd]
      exact (desc?_setDesc ..).trans (if_pos rfl)
    generalize hy : (({ x with list := hs, aux := z.now } : Desc).to z.now .exec) = y at hd
    have hst : y.stage = .exec := hy ▸ rfl
    have he : y.e = x.e := hy ▸ rfl
    have hl : y.list.length ≤ ((v.records d).filterMap id).length := by
      rw [hr, show y.list = hs from hy ▸ rfl, ← hhs]
      simp [hashesOf, hlen]
    cases ho : v.outWaits y y.e.opB (16 * y.list.length) with
    | false => exact .inl (lookupDone_writes hd hst (by rw [he, h8]) hl ho)
    | true =>
      rw [lookupDone_waits hd (by rw [he, h8]) ho, desc_of_some hd, ← he]
      exact .inr ⟨hst, ho⟩

/-- A lookup that waited for its destination writes its records (R318, R497). -/
theorem catalogLookup_writes (h : s.desc? d = some x) (hop : x.e.opcode = 0x30) (hst : x.stage = .exec) (h8 : x.e.flag 8 = false)
    (hl : x.list.length ≤ ((s.records d).filterMap id).length) (hw : s.outWaits x x.e.opB (16 * x.list.length) = false) (b : List Byte) (l : Nat) :
    Leads (.catalogLookup d b l) s fun t => (t.desc d).stage = .done := by
  have e : exec (.catalogLookup d b l) s = .next (s.lookupDone d) := by
    show execCatalogLookup d b l s = _
    simp [execCatalogLookup, desc_of_some h, hop, hst]
  exact ⟨_, e, lookupDone_writes h hst h8 hl hw⟩

/-- A hash of 0 ends a lookup (R163). -/
theorem catalogLookup_refused (h : Runs s d 0x30 x) (h8 : x.e.flag 8 = true) (hn : s.noHost x.q = false) (hg : s.domGated 55 = false)
    (hf : s.domFailed 55 = false) (b : List Byte) (hb : (hashesOf b x.e.len).any (· == 0) = true) (l : Nat) :
    Leads (.catalogLookup d b l) s fun t => Ended t d .param := by
  refine leads_next (catalogLookup_host h hg hf b l h8 hn) ?_
  dsimp only
  rw [if_pos hb]
  obtain ⟨o, ho⟩ := askHost_frame (s := s) x.q x.e.opA (16 * x.e.len)
  rw [ho]
  exact finish_ends (s := { s with outbox := s.outbox ++ o }) h.1 (not_done_of_runs h) ..

end Sys2Proof.Machine
end

section
/-!
PROOFS. CATALOG_PUBLISH: the folios that it marks, and what its insert leads to.
-/
namespace Sys2Proof.Machine

variable {s t u : State} {d i n : Nat} {x : Desc}

/-! ## The end of a command leaves the folios as they are -/

theorem stopWork_map (d : Nat) : (s.stopWork d).map = s.map := by
  have cut (z : State) : (z.cutRelease d).map = z.map := by
    obtain ⟨k, o, h⟩ := cutRelease_frame (s := z) d
    rw [h]
  have recovered (z : State) (u k : Nat) (ok : Bool) : (z.recoveryEnd u k ok).map = z.map := by
    obtain ⟨e, h⟩ := recoveryEnd_frame (s := z) u k ok
    rw [h]
  have tasks (z : State) : (z.stopTasks d).map = z.map := by
    unfold State.stopTasks
    extract_lets c y w
    have hy : y.map = z.map := foldl_keeps (fun q => q.map = z.map) (fun q k => q.recoveryEnd 6 k true) (fun q k e => (recovered ..).trans e) _ z rfl
    refine foldl_keeps (fun q => q.map = z.map) State.freeCarrel (fun q k e => ?_) _ w hy
    rw [← e]
    unfold State.freeCarrel State.clusterDrained
    split
    · exact State.setCluster_map ..
    · rfl
  have units (z : State) : (z.leavePj d).map = z.map :=
    foldl_keeps (fun q => q.map = z.map) (fun q u => q.setPjUnit u _) (fun _ _ e => e) _ z rfl
  have suspension (z : State) : (z.unsuspend d).map = z.map := by
    obtain ⟨k, h⟩ := unsuspend_frame (s := z) d
    rw [h]
  have engine (z : State) : (z.leaveEngine d).map = z.map := by
    obtain ⟨e, r, h⟩ := leaveEngine_frame (s := z) d
    rw [h]
  unfold State.stopWork
  dsimp only
  rw [engine, suspension, units, tasks, cut]

theorem owner_finish (d : Nat) (st : Status) (res : Result) (detail f : Nat) : (s.finish d st res detail).owner f = s.owner f := by
  have window : ∃ r, (s.leaveWindow d).map = { s.map with revokes := r } := by
    unfold State.leaveWindow
    dsimp only
    split
    · split
      · exact ⟨_, rfl⟩
      · exact ⟨_, rfl⟩
    · exact ⟨_, rfl⟩
  obtain ⟨r, h⟩ := window
  have hm : ((s.leaveWindow d).stopWork d).map = { s.map with revokes := r } := (stopWork_map d).trans h
  unfold State.finish
  split
  · rfl
  · split
    · rfl
    · unfold State.owner State.inZeroing
      rw [State.setDesc_map, hm]

/-! ## Marking folios -/

/-- A folio that is marked is published (R165). -/
theorem pub_markPub (l : List Nat) (f : Nat) (h : f ∈ l ∨ (s.owner f).pub ≠ 0) : ((s.markPub true l).owner f).pub ≠ 0 := by
  induction l generalizing s with
  | nil => exact h.resolve_left (by simp)
  | cons g l ih =>
    refine ih (or_iff_not_imp_left.2 fun hl => ?_)
    rw [owner_setOwner]
    split
    · split
      · simp
      · split <;> simp
    · next hg => exact h.resolve_left (by simp [hl, Ne.symm hg])

/-- The segment record that a publish makes. -/
def State.pubSeg (s : State) (x : Desc) (gen : Nat) : SegRec :=
  { live := true, layout := (pubLayout x.blk).canon x.data, layers := pubLayers x.blk, tokens := pubTokens x.blk, dfns := x.src, gen
    publisher := x.e.tenant, scope := s.scopeOf x.e.tenant, hash := x.e.hash, owner := s.me, inserter := s.me, making := true }

/-- The state in which a publish has marked its folios. -/
def State.published (s : State) (x : Desc) (i : Nat) : State := (s.markPub true x.src).metaAccess (s.segSec i) false

theorem catalogOnly_published (x : Desc) (i : Nat) : CatalogOnly s (s.published x i) := (catalogOnly_markPub ..).trans (catalogOnly_metaAccess ..)

@[simp] theorem seg_setSeg (i j : Nat) (r : SegRec) : (s.setSeg i r).seg j = if i = j then r else s.seg j := kvGet_kvPut ..

section Publish
variable (h : Runs s d 0x31 x) (hg : s.domGated 55 = false) (hf : s.domFailed 55 = false)
include h hg hf

theorem catalogPublish_eq (hi : s.freshSeg = some i) : exec (.catalogPublish d) s =
    .next (let z := s.published x i
      let y := z.setSeg i (z.pubSeg x (z.seg i).gen)
      y.setDesc d (({ x with list := [i, y.q.nextSeq] } : Desc).to y.now (.wait .publish))) := by
  obtain ⟨hd, hop, hst⟩ := h
  show execCatalogPublish d s = _
  unfold execCatalogPublish
  rw [desc_of_some hd, hi]
  have hr : x.runs? 0x31 = true := by simp [Desc.runs?, hop, hst]
  dsimp only
  rw [hr, hg, hf]
  rfl

/-- A publish marks its folios and makes its record (R165 steps 1 and 2). -/
theorem catalogPublish_marks (hi : s.freshSeg = some i) :
    Leads (.catalogPublish d) s fun t => (t.desc d).stage = .wait .publish ∧ (t.seg i).live = true ∧ (t.seg i).dfns = x.src ∧
      (t.seg i).publisher = x.e.tenant ∧ (t.seg i).refs = 0 ∧ (t.seg i).inIndex = false ∧ (t.seg i).hash = x.e.hash ∧
      (t.seg i).scope = s.scopeOf x.e.tenant ∧ ∀ f ∈ x.src, (t.owner f).pub ≠ 0 := by
  refine leads_next (catalogPublish_eq h hg hf hi) ?_
  have k := catalogOnly_published (s := s) x i
  have ho : ∀ f ∈ x.src, ((s.published x i).owner f).pub ≠ 0 := fun f hf => by
    have hm : (s.published x i).owner f = (s.markPub true x.src).owner f := owner_of_map (by
      unfold State.published State.metaAccess
      split
      · rfl
      · exact cacheAccess_map ..) f
    rw [hm]
    exact pub_markPub _ _ (.inl hf)
  generalize s.published x i = z at k ho
  dsimp only
  generalize hy : z.setSeg i (z.pubSeg x (z.seg i).gen) = y
  have hs : (y.setDesc d (({ x with list := [i, y.q.nextSeq] } : Desc).to y.now (.wait .publish))).seg i = z.pubSeg x (z.seg i).gen :=
    (hy ▸ seg_setSeg ..).trans (if_pos rfl)
  rw [hs, State.desc_setDesc, if_pos rfl]
  exact ⟨rfl, rfl, rfl, rfl, rfl, rfl, rfl, scopeOf_of k _, fun f hf => hy ▸ ho f hf⟩

end Publish

end Sys2Proof.Machine
end

section
/-!
PROOFS. What work on segment records leaves as it is, and the end of a publish.
-/
namespace Sys2Proof.Machine

variable {s t u : State} {d i n : Nat} {x : Desc}

/-! ## Records, references and entries -/

/-- From one state to another entries may have been removed and segment records freed: no reference of the ledger, no entry and no live record is new,
and a live record has its folios. -/
structure RecordsKeep (s t : State) : Prop where
  ledger : t.ct.ledger = s.ct.ledger
  entries : t.entries ⊆ s.entries
  seg : ∀ i, (t.seg i).live = true → (s.seg i).live = true ∧ (t.seg i).dfns = (s.seg i).dfns

theorem RecordsKeep.refl : RecordsKeep s s := ⟨rfl, List.Subset.refl _, fun _ h => ⟨h, rfl⟩⟩

theorem RecordsKeep.trans (h : RecordsKeep s t) (k : RecordsKeep t u) : RecordsKeep s u :=
  ⟨k.ledger.trans h.ledger, List.Subset.trans k.entries h.entries, fun i hl => by
    obtain ⟨hl, hd⟩ := k.seg i hl
    exact ⟨(h.seg i hl).1, hd.trans (h.seg i hl).2⟩⟩

theorem RecordsKeep.ite {c : Prop} [Decidable c] (h : RecordsKeep s t) (k : RecordsKeep s u) : RecordsKeep s (if c then t else u) := by
  split
  · exact h
  · exact k

theorem RecordsKeep.of_eq (hl : t.ct.ledger = s.ct.ledger) (hi : t.ct.index = s.ct.index) (hs : t.ct.stash = s.ct.stash) (hg : t.ct.segs = s.ct.segs) :
    RecordsKeep s t := by
  refine ⟨hl, ?_, fun i h => ?_⟩
  · rw [State.entries, hi, hs]
    exact List.Subset.refl _
  · have he : t.seg i = s.seg i := by simp only [State.seg, hg]
    exact ⟨he ▸ h, by rw [he]⟩

theorem RecordsKeep.of_ct (h : t.ct = s.ct) : RecordsKeep s t := .of_eq (by rw [h]) (by rw [h]) (by rw [h]) (by rw [h])

/-- A record that is written stays live only with its folios. -/
theorem recordsKeep_setSeg {r : SegRec} (h : r.live = true → (s.seg i).live = true ∧ r.dfns = (s.seg i).dfns) : RecordsKeep s (s.setSeg i r) := by
  refine ⟨rfl, List.Subset.refl _, fun j hj => ?_⟩
  rw [seg_setSeg] at hj ⊢
  split at hj
  · next he =>
    subst he
    rw [if_pos rfl]
    exact h hj
  · next he =>
    rw [if_neg he]
    exact ⟨hj, rfl⟩

theorem routeMsg_ct (ty dest xtag : Nat) (msg : List Byte) : (s.routeMsg ty dest xtag msg).ct = s.ct := by
  unfold State.routeMsg
  dsimp only
  split
  · obtain ⟨k, o, h⟩ := sendFlit_frame (s := s) (s.routeTo dest) { type := ty, vc := vcOf ty, session := 63, xtag := xtag, body := msg }
    rw [h]
  · rfl

/-- Sending changes the list of forwards alone, as far as the catalog goes. -/
theorem pumpFwd_ct (n : Nat) : ∃ l, (s.pumpFwd n).ct = { s.ct with fwd := l } := by
  induction n generalizing s with
  | zero => exact ⟨_, rfl⟩
  | succ n ih =>
    unfold State.pumpFwd
    split
    · exact ⟨_, rfl⟩
    split
    · exact ⟨_, rfl⟩
    · obtain ⟨l, h⟩ := ih
      exact ⟨l, h.trans (by rw [routeMsg_ct])⟩

theorem sendFwd_ct (d : Option Nat) (idx dest kind scope : Nat) (noref : Bool) (hash : Nat) (tail : List Byte) :
    ∃ l, (s.sendFwd d idx dest kind scope noref hash tail).ct = { s.ct with fwd := l } := by
  unfold State.sendFwd
  extract_lets r msg f c z
  obtain ⟨l, h⟩ := pumpFwd_ct (s := z) 1
  exact ⟨l, h⟩

theorem seg_sendFwd (d : Option Nat) (idx dest kind scope : Nat) (noref : Bool) (hash : Nat) (tail : List Byte) (i : Nat) :
    (s.sendFwd d idx dest kind scope noref hash tail).seg i = s.seg i := by
  obtain ⟨l, h⟩ := sendFwd_ct (s := s) d idx dest kind scope noref hash tail
  simp only [State.seg, h]

theorem recordsKeep_sendFwd (d : Option Nat) (idx dest kind scope : Nat) (noref : Bool) (hash : Nat) (tail : List Byte) :
    RecordsKeep s (s.sendFwd d idx dest kind scope noref hash tail) := by
  obtain ⟨l, h⟩ := sendFwd_ct (s := s) d idx dest kind scope noref hash tail
  exact .of_eq (by rw [h]) (by rw [h]) (by rw [h]) (by rw [h])

theorem markPub_ct (up : Bool) (l : List Nat) : (s.markPub up l).ct = s.ct := by
  induction l generalizing s with
  | nil => rfl
  | cons f l ih =>
    unfold State.markPub
    exact ih

theorem recordsKeep_tryFreeSeg (i : Nat) : RecordsKeep s (s.tryFreeSeg i) := by
  unfold State.tryFreeSeg
  extract_lets r h c z
  have hz : RecordsKeep s z := by
    refine .ite ⟨rfl, ?_, fun _ h => ⟨h, rfl⟩⟩ .refl
    intro e he
    simp only [State.entries, List.mem_append, List.mem_map, List.mem_filter] at he ⊢
    exact he.imp (fun ⟨p, hp, he⟩ => ⟨p, hp.1, he⟩) (fun he => he.1)
  have hm : RecordsKeep z (z.markPub false r.dfns) := .of_ct (markPub_ct ..)
  exact .ite ((hz.trans hm).trans (recordsKeep_setSeg nofun)) .refl

theorem recordsKeep_refState (i : Nat) (b : Bool) : RecordsKeep s (s.refState i b) := .ite (recordsKeep_sendFwd ..) .refl

theorem recordsKeep_unindex (l : List IndexEntry) : RecordsKeep s (s.unindex l) := by
  induction l generalizing s with
  | nil => exact .refl
  | cons e l ih =>
    unfold State.unindex
    refine .trans ?_ ih
    split
    · refine RecordsKeep.trans (recordsKeep_setSeg ?_) (recordsKeep_tryFreeSeg _)
      exact fun h => ⟨h, rfl⟩
    · exact .refl

/-- No entry that a removal takes out is left (R173). -/
theorem entries_removeEntries (p : IndexEntry → Bool) : ∀ e ∈ (s.removeEntries p).entries, e ∈ s.entries ∧ p e = false := by
  intro e he
  have hc := (recordsKeep_unindex (s := s.cutEntries p) (s.entries.filter p)).entries he
  simp only [State.cutEntries, State.entries, List.mem_append, List.mem_map, List.mem_filter, Bool.not_eq_true'] at hc ⊢
  rcases hc with ⟨q, ⟨hq, hp⟩, rfl⟩ | ⟨hq, hp⟩
  · exact ⟨.inl ⟨q, hq, rfl⟩, hp⟩
  · exact ⟨.inr hq, hp⟩

theorem recordsKeep_removeEntries (p : IndexEntry → Bool) : RecordsKeep s (s.removeEntries p) := by
  have k := recordsKeep_unindex (s := s.cutEntries p) (s.entries.filter p)
  exact ⟨k.ledger, fun e he => (entries_removeEntries p e he).1, k.seg⟩

theorem recordsKeep_withdrawSeg (i : Nat) : RecordsKeep s (s.withdrawSeg i) := by
  unfold State.withdrawSeg
  extract_lets r h
  refine .ite (recordsKeep_removeEntries _) ?_
  refine ((recordsKeep_sendFwd ..).trans (recordsKeep_setSeg fun hl => ?_)).trans (recordsKeep_tryFreeSeg i)
  rw [seg_sendFwd]
  exact ⟨hl, rfl⟩

theorem recordsKeep_dropOrphan (i : Nat) : RecordsKeep s (s.dropOrphan i) := .ite (recordsKeep_withdrawSeg i) .refl

theorem recordsKeep_dropRefs (i n : Nat) : RecordsKeep s (s.dropRefs i n) := by
  unfold State.dropRefs
  extract_lets r z
  have hz : RecordsKeep s z := recordsKeep_setSeg fun h => ⟨h, rfl⟩
  exact ((hz.trans (.ite (recordsKeep_refState ..) .refl)).trans (recordsKeep_dropOrphan i)).trans (recordsKeep_tryFreeSeg i)

/-! ## The end of a publish -/

theorem ct_bump (f : Fld) (n i : Nat) : (s.bump f n i).ct = s.ct := rfl

/-- An insert evicts entries, and no record that is still live loses its folios (R175). -/
theorem seg_insertEntry {e : IndexEntry} (h : s.insertEntry e = some t) (i : Nat) (hl : (t.seg i).live = true) :
    (t.seg i).dfns = (s.seg i).dfns := by
  unfold State.insertEntry at h
  dsimp only at h
  split at h
  · cases h
    rfl
  · split at h
    · next k v _ =>
      cases h
      exact ((recordsKeep_removeEntries fun y => y.keyed v.hash v.scope).seg i hl).2
    · split at h
      · cases h
        rfl
      · cases h

theorem keyRead_ct (e : IndexEntry) : (s.keyRead e).ct = s.ct := (catalogKeeps_metaReads _).ct

theorem seg_indexInsert_done {e : IndexEntry} (h : (s.indexInsert e).2 = .done) (i : Nat) (hl : ((s.indexInsert e).1.seg i).live = true) :
    ((s.indexInsert e).1.seg i).dfns = (s.seg i).dfns := by
  rcases indexInsert_cases (s := s) e with ⟨old, -, hr⟩ | ⟨-, hr | ⟨t, ht, hr⟩⟩
  · rw [hr] at h
    cases h
  · rw [hr] at h
    cases h
  · rw [hr] at hl ⊢
    have hs : (s.keyRead e).seg i = s.seg i := by simp only [State.seg, keyRead_ct]
    rw [← hs]
    exact seg_insertEntry ht i hl

theorem publishInsert_eq (h : Waits s d .publish x) : exec (.publishInsert d) s = .next (s.publishInsert d) := by
  show execPublishInsert d s = _
  unfold execPublishInsert
  rw [desc_of_some h.1, if_pos h.2]

section Insert
variable (hx : s.desc? d = some x) (hl : x.list = [i, n])
  (hq : s.q.descs.any (fun p => decide (p.2.seq < n) && p.2.dst.any (inSet (s.seg i).dfns)) = false)
include hx hl hq

/-- An insert on this member (R165 step 3). -/
theorem publishInsert_here (hm : s.shardOwner (shardOf (s.seg i).hash) = s.me) {o : Inserted}
    (ho : s.indexInsert (s.publishEntry x i) = (t, o)) : s.publishInsert d = t.publishEnd (some d) i o := by
  have hi : x.list.getD 0 0 = i := by rw [hl]; rfl
  have hn : x.list.getD 1 0 = n := by rw [hl]; rfl
  unfold State.publishInsert
  refine have_eq ?_
  rw [desc_of_some hx, hi, hn]
  refine have_eq (have_eq ?_)
  rw [if_neg (by rw [hq]; decide)]
  refine have_eq (have_eq ?_)
  rw [if_pos hm]
  unfold State.publishEntry at ho
  rw [ho]

/-- An insert at another member (R165 step 4). -/
theorem publishInsert_there (hm : s.shardOwner (shardOf (s.seg i).hash) ≠ s.me) : s.publishInsert d =
    ((s.setSeg i { s.seg i with inserter := s.shardOwner (shardOf (s.seg i).hash) }).stage d (.wait .answers)).sendFwd (some d) 0
      (s.shardOwner (shardOf (s.seg i).hash)) 2 (s.seg i).scope.num false (s.seg i).hash
      (insertTail (mkHandle i (s.seg i).owner (s.seg i).gen) x.e.pubHint (s.seg i).tokens (s.seg i).layers (s.seg i).scope.groupNo) := by
  have hi : x.list.getD 0 0 = i := by rw [hl]; rfl
  have hn : x.list.getD 1 0 = n := by rw [hl]; rfl
  unfold State.publishInsert
  refine have_eq ?_
  rw [desc_of_some hx, hi, hn]
  refine have_eq (have_eq ?_)
  rw [if_neg (by rw [hq]; decide)]
  refine have_eq (have_eq ?_)
  rw [if_neg hm]

end Insert

theorem seg_of_ct (h : t.ct = s.ct) (i : Nat) : t.seg i = s.seg i := by simp only [State.seg, h]

/-- A record in the index of which a folio is not RELEASING keeps its entry (R173). -/
theorem dropOrphan_kept (h : (s.seg i).live = true → (s.seg i).dfns.any (fun f => !decide ((s.owner f).st = .releasing)) = true) :
    s.dropOrphan i = s := by
  refine if_neg fun ho => ?_
  unfold State.orphaned at ho
  simp only [Bool.and_eq_true, List.all_eq_true, decide_eq_true_eq] at ho
  obtain ⟨⟨⟨hl, -⟩, -⟩, hd⟩ := ho
  obtain ⟨f, hf, hn⟩ := List.any_eq_true.1 (h hl)
  simp [hd f hf] at hn

/-- A publish whose entry is in the index ends (R165, R167). -/
theorem publishEnd_done (h : s.desc? d = some x) (hx : x.stage ≠ .done)
    (hk : (s.seg i).live = true → (s.seg i).dfns.any (fun f => !decide ((s.owner f).st = .releasing)) = true) :
    Ended (s.publishEnd (some d) i .done) d .ok ∧ ((s.publishEnd (some d) i .done).seg i).inIndex = true ∧
      ((s.publishEnd (some d) i .done).desc d).res.w2 = 0 := by
  unfold State.publishEnd
  dsimp only
  generalize hz : s.setSeg i { s.seg i with inIndex := true, making := false } = z
  have hs : z.seg i = { s.seg i with inIndex := true, making := false } := hz ▸ (seg_setSeg ..).trans (if_pos rfl)
  have hd : z.desc? d = some x := hz ▸ h
  unfold State.publishDone
  dsimp only
  generalize hr : pubResult (mkHandle i (z.seg i).owner (z.seg i).gen) false = r
  have hseg : (z.finish d .ok r).seg i = z.seg i := seg_of_ct (catalogKeeps_finish ..).ct i
  obtain ⟨he, hres, -⟩ := finish_ended d x .ok r 0 hd hx
  rw [dropOrphan_kept, hseg, hs, hres]
  · exact ⟨he, rfl, hr ▸ rfl⟩
  · intro hl
    rw [hseg, hs] at hl ⊢
    obtain ⟨f, hf, hn⟩ := List.any_eq_true.1 (hk hl)
    refine List.any_eq_true.2 ⟨f, hf, ?_⟩
    rw [owner_finish, ← hz]
    exact hn

section Ends
variable (h : Waits s d .publish x) (hl : x.list = [i, n])
  (hq : s.q.descs.any (fun p => decide (p.2.seq < n) && p.2.dst.any (inSet (s.seg i).dfns)) = false)
include h hl hq

/-- A publish whose insert is placed on this member ends OK (R165). -/
theorem publishInsert_done (hm : s.shardOwner (shardOf (s.seg i).hash) = s.me) (ho : (s.indexInsert (s.publishEntry x i)).2 = .done)
    (hk : (s.seg i).dfns.any (fun f => !decide ((s.owner f).st = .releasing)) = true) :
    Leads (.publishInsert d) s fun t => Ended t d .ok ∧ (t.seg i).inIndex = true ∧ (t.desc d).res.w2 = 0 := by
  have k := catalogOnly_indexInsert (s := s) (s.publishEntry x i)
  have hd := fun hl => seg_indexInsert_done ho i hl
  generalize hp : s.indexInsert (s.publishEntry x i) = p at k ho hd
  obtain ⟨z, o⟩ := p
  obtain rfl : o = .done := ho
  refine leads_next (publishInsert_eq h) ?_
  rw [publishInsert_here h.1 hl hq hm hp]
  refine publishEnd_done ((desc?_of_q k.q d).trans h.1) (not_done_of_waits h) fun hl => ?_
  rw [hd hl]
  obtain ⟨f, hf, hn⟩ := List.any_eq_true.1 hk
  exact List.any_eq_true.2 ⟨f, hf, by simpa [k.releasing] using hn⟩

/-- A publish whose key has an entry on this member ends OK with EXISTS (R167). -/
theorem publishInsert_exists (hm : s.shardOwner (shardOf (s.seg i).hash) = s.me) {k : Nat}
    (ho : (s.indexInsert (s.publishEntry x i)).2 = .exists_ k) :
    Leads (.publishInsert d) s fun t => Ended t d .ok ∧ (t.desc d).res.w2 = 1 ∧ (t.desc d).res.w0 = k % 2 ^ 32 := by
  have a := catalogOnly_indexInsert (s := s) (s.publishEntry x i)
  generalize hp : s.indexInsert (s.publishEntry x i) = p at a ho
  obtain ⟨z, o⟩ := p
  obtain rfl : o = .exists_ k := ho
  refine leads_next (publishInsert_eq h) ?_
  rw [publishInsert_here h.1 hl hq hm hp]
  have hd : (z.discardSeg i).desc? d = some x := (desc?_of_q (a.trans (catalogOnly_discardSeg i)).q d).trans h.1
  obtain ⟨he, hr, -⟩ := finish_ended d x .ok (pubResult k true) 0 hd (not_done_of_waits h)
  refine ⟨he, ?_, ?_⟩
  · exact (congrArg Result.w2 hr).trans rfl
  · exact congrArg Result.w0 hr

/-- A publish that finds no room ends E_CAPACITY (R175). -/
theorem publishInsert_capacity (hm : s.shardOwner (shardOf (s.seg i).hash) = s.me) (ho : (s.indexInsert (s.publishEntry x i)).2 = .capacity) :
    Leads (.publishInsert d) s fun t => Ended t d .capacity := by
  have a := catalogOnly_indexInsert (s := s) (s.publishEntry x i)
  generalize hp : s.indexInsert (s.publishEntry x i) = p at a ho
  obtain ⟨z, o⟩ := p
  obtain rfl : o = .capacity := ho
  refine leads_next (publishInsert_eq h) ?_
  rw [publishInsert_here h.1 hl hq hm hp]
  exact finish_ends ((desc?_of_q (a.trans (catalogOnly_discardSeg i)).q d).trans h.1) (not_done_of_waits h) ..

/-- A publish whose shard is another member's asks it and waits (R165 step 4). -/
theorem publishInsert_asks (hm : s.shardOwner (shardOf (s.seg i).hash) ≠ s.me) :
    Leads (.publishInsert d) s fun t => (t.desc d).stage = .wait .answers ∧ (t.seg i).inserter = s.shardOwner (shardOf (s.seg i).hash) := by
  refine leads_next (publishInsert_eq h) ?_
  rw [publishInsert_there h.1 hl hq hm]
  constructor
  · rw [desc_of_q (catalogOnly_sendFwd ..).q, stage_stage (s := s.setSeg i _) h.1]
  · rw [seg_sendFwd, seg_of_ct (catalogKeeps_stage ..).ct, seg_setSeg, if_pos rfl]

end Ends

end Sys2Proof.Machine
end

section
/-!
PROOFS. CATALOG_RELEASE, with and without WITHDRAW, and CATALOG_HINT.
-/
namespace Sys2Proof.Machine

variable {s t u : State} {d i n : Nat} {x : Desc}

/-! ## Releases -/

theorem ledger_of_ct (h : t.ct.ledger = s.ct.ledger) (n i : Nat) : t.ledger n i = s.ledger n i := by simp only [State.ledger, h]

theorem ledger_releaseRefs (k i n : Nat) : (s.releaseRefs k i n).ledger k i = s.ledger k i - n :=
  (ledger_of_ct (recordsKeep_dropRefs ..).ledger k i).trans ((kvGet_kvPut ..).trans (if_pos rfl))

section Release
variable (h : Runs s d 0x32 x) (hg : s.domGated 55 = false) (hf : s.domFailed 55 = false)
include h hg hf

section Plain
variable (h8 : x.e.flag 8 = false)
include h8

/-- A release lowers the tenant's references by what it still holds (R185). -/
theorem catalogRelease_releases (hi : s.handleIdx x.e.opA = some i) :
    Leads (.catalogRelease d) s fun t => Ended t d .ok ∧ t.ledger x.e.tenant i = s.ledger x.e.tenant i - s.releaseCount x.e i ∧
      (t.desc d).res.w0 = s.releaseCount x.e i := by
  have e : exec (.catalogRelease d) s = .next (let z := s.releaseRefs x.e.tenant i (s.releaseCount x.e i)
      z.finish d .ok (z.releaseResult x.e.tenant i (s.releaseCount x.e i) false)) := by
    show execCatalogRelease d s = _
    unfold execCatalogRelease
    rw [desc_of_some h.1]
    refine have_eq (have_eq ?_)
    rw [hi]
    simp [runs?_of_runs h, hg, hf, h8]
  refine leads_next e ?_
  have k := catalogOnly_releaseRefs (s := s) x.e.tenant i (s.releaseCount x.e i)
  have hl := ledger_releaseRefs (s := s) x.e.tenant i (s.releaseCount x.e i)
  generalize s.releaseRefs x.e.tenant i (s.releaseCount x.e i) = z at k hl
  dsimp only
  obtain ⟨he, hr, -⟩ := finish_ended d x .ok (z.releaseResult x.e.tenant i (s.releaseCount x.e i) false) 0
    ((desc?_of_q k.q d).trans h.1) (not_done_of_runs h)
  exact ⟨he, (ledger_of_ct (congrArg CtSt.ledger (catalogKeeps_finish ..).ct) ..).trans hl, congrArg Result.w0 hr⟩

/-- A stale handle ends a release, and no reference goes (R185). -/
theorem catalogRelease_stale (hi : s.handleIdx x.e.opA = none) :
    Leads (.catalogRelease d) s fun t => Ended t d .param ∧ t.ct.ledger = s.ct.ledger := by
  have e : exec (.catalogRelease d) s = .next (s.finish d .param) := by
    show execCatalogRelease d s = _
    unfold execCatalogRelease
    rw [desc_of_some h.1]
    refine have_eq (have_eq ?_)
    rw [hi]
    simp [runs?_of_runs h, hg, hf, h8]
  exact leads_next e ⟨finish_ends h.1 (not_done_of_runs h) .., congrArg CtSt.ledger (catalogKeeps_finish ..).ct⟩

end Plain

section Withdraw
variable (h8 : x.e.flag 8 = true)
include h8

/-- The entry of a handle leaves the index (R186). -/
theorem catalogWithdraw_removes (hi : s.handleIdx x.e.opA = some i) (hs : ((s.seg i).inIndex && (s.seg i).inserter != s.me) = false) :
    Leads (.catalogWithdraw d) s fun t => Ended t d .ok ∧ (t.desc d).res.w3 = 1 ∧
      t.entries.all (fun e => !(e.keyed (s.seg i).hash (s.seg i).scope && e.handle == x.e.opA)) = true ∧
      t.ledger x.e.tenant i = s.ledger x.e.tenant i - s.releaseCount x.e i := by
  have k := catalogOnly_releaseRefs (s := s) x.e.tenant i (s.releaseCount x.e i)
  have hl := ledger_releaseRefs (s := s) x.e.tenant i (s.releaseCount x.e i)
  have e : exec (.catalogWithdraw d) s = .next (let z := s.releaseRefs x.e.tenant i (s.releaseCount x.e i)
      (z.removeEntries (fun e => e.keyed (s.seg i).hash (s.seg i).scope && e.handle == x.e.opA)).finish d .ok
        (z.releaseResult x.e.tenant i (s.releaseCount x.e i) true)) := by
    have hme : (s.releaseRefs x.e.tenant i (s.releaseCount x.e i)).me = s.me := by simp only [State.me, k.cn]
    show execCatalogWithdraw d s = _
    unfold execCatalogWithdraw
    rw [desc_of_some h.1]
    refine have_eq (have_eq ?_)
    rw [hi]
    rw [if_neg (by simp [runs?_of_runs h, hg, h8]), if_neg (by simp [hf])]
    refine congrArg _ (have_eq (have_eq (have_eq (have_eq ?_))))
    rw [hme, hs, if_neg (by decide)]
  refine leads_next e ?_
  generalize s.releaseRefs x.e.tenant i (s.releaseCount x.e i) = z at k hl
  dsimp only
  have kr := catalogOnly_removeEntries (s := z) (fun e => e.keyed (s.seg i).hash (s.seg i).scope && e.handle == x.e.opA)
  have rr := recordsKeep_removeEntries (s := z) (fun e => e.keyed (s.seg i).hash (s.seg i).scope && e.handle == x.e.opA)
  have er := entries_removeEntries (s := z) (fun e => e.keyed (s.seg i).hash (s.seg i).scope && e.handle == x.e.opA)
  generalize z.removeEntries (fun e => e.keyed (s.seg i).hash (s.seg i).scope && e.handle == x.e.opA) = y at kr rr er
  obtain ⟨he, hr, -⟩ := finish_ended (s := y) d x .ok (z.releaseResult x.e.tenant i (s.releaseCount x.e i) true) 0
    ((desc?_of_q (k.trans kr).q d).trans h.1) (not_done_of_runs h)
  have c := (catalogKeeps_finish (s := y) d .ok (z.releaseResult x.e.tenant i (s.releaseCount x.e i) true) 0).ct
  refine ⟨he, congrArg Result.w3 hr, ?_, (ledger_of_ct ((congrArg CtSt.ledger c).trans rr.ledger) ..).trans hl⟩
  rw [show ∀ w : State, w.entries = w.ct.index.map (·.2) ++ w.ct.stash from fun _ => rfl, c, List.all_eq_true]
  exact fun a ha => by rw [(er a ha).2]; rfl

/-- A withdrawal of an entry that another member holds asks that member and waits (R186). -/
theorem catalogWithdraw_asks (hi : s.handleIdx x.e.opA = some i) (hx : (s.seg i).inIndex = true) (hm : (s.seg i).inserter ≠ s.me) :
    Leads (.catalogWithdraw d) s fun t => (t.desc d).stage = .wait .answers ∧
      t.ledger x.e.tenant i = s.ledger x.e.tenant i - s.releaseCount x.e i := by
  have k := catalogOnly_releaseRefs (s := s) x.e.tenant i (s.releaseCount x.e i)
  have hl := ledger_releaseRefs (s := s) x.e.tenant i (s.releaseCount x.e i)
  have e : exec (.catalogWithdraw d) s = .next (let z := s.releaseRefs x.e.tenant i (s.releaseCount x.e i)
      let y := z.setDesc d (({ x with res := z.releaseResult x.e.tenant i (s.releaseCount x.e i) true } : Desc).to z.now (.wait .answers))
      let w := y.sendFwd (some d) 0 (s.seg i).inserter 3 (s.seg i).scope.num false (s.seg i).hash (leBytes 8 x.e.opA)
      (w.setSeg i { w.seg i with inIndex := false }).tryFreeSeg i) := by
    have hme : (s.releaseRefs x.e.tenant i (s.releaseCount x.e i)).me = s.me := by simp only [State.me, k.cn]
    show execCatalogWithdraw d s = _
    unfold execCatalogWithdraw
    rw [desc_of_some h.1]
    refine have_eq (have_eq ?_)
    rw [hi]
    rw [if_neg (by simp [runs?_of_runs h, hg, h8]), if_neg (by simp [hf])]
    refine congrArg _ (have_eq (have_eq (have_eq (have_eq ?_))))
    rw [hme, hx, bne_iff_ne.2 hm, if_pos (by decide)]
  refine leads_next e ?_
  generalize s.releaseRefs x.e.tenant i (s.releaseCount x.e i) = z at k hl
  dsimp only
  generalize hr : z.releaseResult x.e.tenant i (s.releaseCount x.e i) true = r
  generalize hy : z.setDesc d (({ x with res := r } : Desc).to z.now (.wait .answers)) = y
  have hst : (y.desc d).stage = .wait .answers := by rw [← hy, State.desc_setDesc, if_pos rfl]; rfl
  have hly : y.ct = z.ct := hy ▸ rfl
  have kw := catalogOnly_sendFwd (s := y) (some d) 0 (s.seg i).inserter 3 (s.seg i).scope.num false (s.seg i).hash (leBytes 8 x.e.opA)
  have rw' := recordsKeep_sendFwd (s := y) (some d) 0 (s.seg i).inserter 3 (s.seg i).scope.num false (s.seg i).hash (leBytes 8 x.e.opA)
  generalize y.sendFwd (some d) 0 (s.seg i).inserter 3 (s.seg i).scope.num false (s.seg i).hash (leBytes 8 x.e.opA) = w at kw rw'
  have kf := (catalogOnly_setSeg (s := w) i { w.seg i with inIndex := false }).trans (catalogOnly_tryFreeSeg i)
  have rf : RecordsKeep w ((w.setSeg i { w.seg i with inIndex := false }).tryFreeSeg i) :=
    (recordsKeep_setSeg (r := { w.seg i with inIndex := false }) fun h => ⟨h, rfl⟩).trans (recordsKeep_tryFreeSeg i)
  constructor
  · rw [desc_of_q (kw.trans kf).q, hst]
  · exact (ledger_of_ct ((rw'.trans rf).ledger.trans (congrArg CtSt.ledger hly)) ..).trans hl

theorem catalogWithdraw_stale (hi : s.handleIdx x.e.opA = none) :
    Leads (.catalogWithdraw d) s fun t => Ended t d .param ∧ t.ct.ledger = s.ct.ledger := by
  have e : exec (.catalogWithdraw d) s = .next (s.finish d .param) := by
    show execCatalogWithdraw d s = _
    unfold execCatalogWithdraw
    rw [desc_of_some h.1]
    refine have_eq (have_eq ?_)
    rw [hi]
    simp [runs?_of_runs h, hg, hf, h8]
  exact leads_next e ⟨finish_ends h.1 (not_done_of_runs h) .., congrArg CtSt.ledger (catalogKeeps_finish ..).ct⟩

end Withdraw
end Release

/-! ## Hints -/

section Hint
variable (h : Runs s d 0x33 x) (hg : s.domGated 55 = false) (hf : s.domFailed 55 = false)
include h hg hf

/-- A hint is recorded with its entry (R187). -/
theorem catalogHint_records {y : IndexEntry} (hy : s.entryOf x.e.opA = some y)
    (hq : bits x.e.spec 0 2 ≠ 3 ∨ y.hint = 3 ∨ s.holdCount y.scope.groupNo < s.fld F_CT_G_HOLD_HOLD y.scope.groupNo) :
    Leads (.catalogHint d) s fun t => Ended t d .ok ∧ (t.desc d).res.w0 = y.hint ∧ (t.desc d).res.w1 = bits x.e.spec 0 2 ∧
      t.entries.all (fun e => !e.keyed y.hash y.scope || e.hint == bits x.e.spec 0 2) = true := by
  have e : exec (.catalogHint d) s = .next ((s.editEntry y.hash y.scope (fun e => { e with hint := bits x.e.spec 0 2 })).finish d .ok
      { w0 := y.hint, w1 := bits x.e.spec 0 2 }) := by
    have hc : (bits x.e.spec 0 2 = 3 && y.hint != 3 && decide (s.fld F_CT_G_HOLD_HOLD y.scope.groupNo ≤ s.holdCount y.scope.groupNo)) = false := by
      rcases hq with hq | hq | hq
      · simp [hq]
      · simp [hq]
      · simp [Nat.not_le.2 hq]
    show execCatalogHint d s = _
    unfold execCatalogHint
    rw [desc_of_some h.1]
    refine have_eq (have_eq ?_)
    rw [hy]
    simp only [runs?_of_runs h, hg, hf, hc]
    rfl
  refine leads_next e ?_
  have hent := entries_editEntry (s := s) y.hash y.scope (fun e => { e with hint := bits x.e.spec 0 2 })
  have hd : (s.editEntry y.hash y.scope (fun e => { e with hint := bits x.e.spec 0 2 })).desc? d = some x := h.1
  generalize s.editEntry y.hash y.scope (fun e => { e with hint := bits x.e.spec 0 2 }) = z at hent hd
  obtain ⟨he, hr, -⟩ := finish_ended d x .ok { w0 := y.hint, w1 := bits x.e.spec 0 2 } 0 hd (not_done_of_runs h)
  refine ⟨he, congrArg Result.w0 hr, congrArg Result.w1 hr, ?_⟩
  rw [show ∀ w : State, w.entries = w.ct.index.map (·.2) ++ w.ct.stash from fun _ => rfl, (catalogKeeps_finish ..).ct]
  change z.entries.all _ = true
  rw [hent, List.all_map, List.all_eq_true]
  intro a ha
  simp only [Function.comp_apply]
  split
  · simp
  · next hk => simp [hk]

/-- HOLD is bounded by the quota of the group (R189). -/
theorem catalogHint_full {y : IndexEntry} (hy : s.entryOf x.e.opA = some y) (hc : bits x.e.spec 0 2 = 3) (hh : y.hint ≠ 3)
    (hq : s.fld F_CT_G_HOLD_HOLD y.scope.groupNo ≤ s.holdCount y.scope.groupNo) :
    Leads (.catalogHint d) s fun t => Ended t d .capacity ∧ t.ct = s.ct := by
  have e : exec (.catalogHint d) s = .next (s.finish d .capacity) := by
    show execCatalogHint d s = _
    unfold execCatalogHint
    rw [desc_of_some h.1]
    refine have_eq (have_eq ?_)
    rw [hy]
    simp [runs?_of_runs h, hg, hf, hc, hh, hq]
  exact leads_next e ⟨finish_ends h.1 (not_done_of_runs h) .., (catalogKeeps_finish ..).ct⟩

/-- An entry that is not here has no class to change. -/
theorem catalogHint_none (hy : s.entryOf x.e.opA = none) : Leads (.catalogHint d) s fun t => Ended t d .ok ∧ t.ct = s.ct := by
  have e : exec (.catalogHint d) s = .next (s.finish d .ok { w0 := bits x.e.spec 0 2, w1 := bits x.e.spec 0 2 }) := by
    show execCatalogHint d s = _
    unfold execCatalogHint
    rw [desc_of_some h.1]
    refine have_eq (have_eq ?_)
    rw [hy]
    simp [runs?_of_runs h, hg, hf]
  exact leads_next e ⟨finish_ends h.1 (not_done_of_runs h) .., (catalogKeeps_finish ..).ct⟩

end Hint

end Sys2Proof.Machine
end

section
/-!
PROOFS. Answers of forwarded requests: what becomes of a forward, and the requests that are not answered.
-/
namespace Sys2Proof.Machine

variable {s t u : State} {d n : Nat} {x : Desc} {y : Forward}

/-! ## Forwards -/

/-- Sending a forward changes nothing that a test of the forwards sees which does not look at SENT. -/
theorem any_pumpFwd {p : Forward → Bool} (hp : ∀ f, p { f with sent := true } = p f) (n : Nat) : (s.pumpFwd n).ct.fwd.any p = s.ct.fwd.any p := by
  induction n generalizing s with
  | zero => rfl
  | succ n ih =>
    unfold State.pumpFwd
    split
    · rfl
    split
    · rfl
    · next f _ =>
      rw [ih, routeMsg_ct, List.any_map]
      congr 1
      funext g
      rw [Function.comp_apply]
      split
      · exact hp g
      · rfl

theorem length_pumpFwd (n : Nat) : (s.pumpFwd n).ct.fwd.length = s.ct.fwd.length := by
  induction n generalizing s with
  | zero => rfl
  | succ n ih =>
    unfold State.pumpFwd
    split
    · rfl
    split
    · rfl
    · rw [ih, routeMsg_ct, List.length_map]

/-- The state in which a forward has been taken out, its shard routed where the answer says, and the next forward sent (R180). -/
def State.fwdEnded (s : State) (y : Forward) (status : Nat) (b : List Byte) : State :=
  (({ s with ct := { s.ct with fwd := s.ct.fwd.filter (fun g => g.req != y.req) } }).movedTo y status b).pumpFwd 1

/-- The state in which an INSERT that is not answered stays marked as ended, and the next forward is sent. -/
def State.fwdKept (s : State) (y : Forward) : State :=
  ({ s with ct := { s.ct with fwd := s.ct.fwd.map (fun (g : Forward) => if g.req == y.req then { g with ended := true } else g) } }).pumpFwd 1

theorem movedTo_fwd (status : Nat) (b : List Byte) : (s.movedTo y status b).ct.fwd = s.ct.fwd := by
  unfold State.movedTo
  split <;> rfl

theorem catalogOnly_movedTo (status : Nat) (b : List Byte) : CatalogOnly s (s.movedTo y status b) :=
  .ite ((catalogOnly_ct _).trans (catalogOnly_bump (by decide) rfl ..)) .refl

theorem catalogOnly_fwdEnded (y : Forward) (status : Nat) (b : List Byte) : CatalogOnly s (s.fwdEnded y status b) :=
  ((catalogOnly_ct _).trans (catalogOnly_movedTo ..)).trans (catalogOnly_pumpFwd 1)

theorem catalogOnly_fwdKept (y : Forward) : CatalogOnly s (s.fwdKept y) := (catalogOnly_ct _).trans (catalogOnly_pumpFwd 1)

/-- No forward of the request is left. -/
theorem any_fwdEnded (status : Nat) (b : List Byte) : (s.fwdEnded y status b).ct.fwd.any (fun g => g.req == y.req) = false := by
  unfold State.fwdEnded
  rw [any_pumpFwd fun _ => rfl, movedTo_fwd, List.any_eq_false]
  intro g hg
  simpa using (List.mem_filter.1 hg).2

theorem length_fwdEnded (hy : y ∈ s.ct.fwd) (status : Nat) (b : List Byte) : (s.fwdEnded y status b).ct.fwd.length < s.ct.fwd.length := by
  unfold State.fwdEnded
  rw [length_pumpFwd, movedTo_fwd]
  exact List.length_filter_lt_length_iff_exists.2 ⟨y, hy, by simp⟩

theorem any_fwdKept (hy : y ∈ s.ct.fwd) : (s.fwdKept y).ct.fwd.any (fun g => g.req == y.req && g.ended) = true := by
  unfold State.fwdKept
  rw [any_pumpFwd fun _ => rfl, List.any_map, List.any_eq_true]
  exact ⟨y, hy, by simp⟩

/-! ## Answers -/

/-- An INSERT that is not answered stays, marked as ended. -/
theorem fwdAnswer_kept (hk : leAt y.msg 0 1 % 16 = 2) (b : List Byte) : s.fwdAnswer y 5 b = s.fwdKept y := by
  unfold State.fwdAnswer State.fwdKept
  dsimp only
  rw [hk]
  rfl

/-- What becomes of an answer once its forward is taken out. -/
def State.fwdTaken (s : State) (y : Forward) (status : Nat) (b : List Byte) : Option Nat → State
  | none => s.lateAnswer y status b
  | some d =>
    if leAt y.msg 0 1 % 16 = 1 && decide ((s.desc d).stage = .exec) then s.lookupAnswer d y.idx y.dest status b
    else if (s.desc d).stage ≠ .wait .answers then s.lateAnswer y status b
    else if leAt y.msg 0 1 % 16 = 2 then s.insertAnswer (some d) ((s.desc d).list.getD 0 0) y.dest status b
    else s.finish d .ok (s.desc d).res

theorem fwdAnswer_eq {status : Nat} (hk : leAt y.msg 0 1 % 16 ≠ 2 ∨ status ≠ 5) (b : List Byte) :
    s.fwdAnswer y status b = (s.fwdEnded y status b).fwdTaken y status b y.d := by
  have hb : ¬(decide (leAt y.msg 0 1 % 16 = 2) && decide (status = 5)) = true := by
    rcases hk with h | h <;> simp [h]
  unfold State.fwdAnswer State.fwdEnded
  dsimp only
  rw [if_neg hb, if_neg hb]
  cases y.d <;> rfl

section Taken
variable {status : Nat} (b : List Byte)

theorem fwdTaken_lookup (hk : leAt y.msg 0 1 % 16 = 1) (h : (s.desc d).stage = .exec) :
    s.fwdTaken y status b (some d) = s.lookupAnswer d y.idx y.dest status b := if_pos (by simp [hk, h])

section Waits
variable (h : (s.desc d).stage = .wait .answers)
include h

theorem fwdTaken_insert (hk : leAt y.msg 0 1 % 16 = 2) :
    s.fwdTaken y status b (some d) = s.insertAnswer (some d) ((s.desc d).list.getD 0 0) y.dest status b := by
  unfold State.fwdTaken
  dsimp only
  rw [if_neg (by simp [h]), if_neg (by simp [h]), if_pos hk]

theorem fwdTaken_other (hk : leAt y.msg 0 1 % 16 ≠ 2) : s.fwdTaken y status b (some d) = s.finish d .ok (s.desc d).res := by
  unfold State.fwdTaken
  dsimp only
  rw [if_neg (by simp [h]), if_neg (by simp [h]), if_neg hk]

end Waits
end Taken

/-! ## Requests that are not answered -/

section Timeout
variable (hy : s.ct.fwd.find? (fun g => g.req == n && g.sent && !g.ended) = some y)
include hy

theorem forwardTimeout_eq : exec (.forwardTimeout n) s = .next (s.fwdAnswer y 5 []) := by
  show execForwardTimeout n s = _
  unfold execForwardTimeout
  rw [hy]

theorem req_of_find : y.req = n := by
  have h := List.find?_some hy
  simp only [Bool.and_eq_true, beq_iff_eq] at h
  exact h.1.1

/-- A withdrawal that is not answered ends OK (R426). -/
theorem forwardTimeout_withdraw (hd : y.d = some d) (hk : leAt y.msg 0 1 % 16 = 3) (h : Waits s d .answers x) :
    Leads (.forwardTimeout n) s fun t => Ended t d .ok ∧ t.ct.fwd.any (fun g => g.req == n) = false := by
  refine leads_next (forwardTimeout_eq hy) ?_
  have k := catalogOnly_fwdEnded (s := s) y 5 []
  have ha := any_fwdEnded (s := s) (y := y) 5 []
  rw [fwdAnswer_eq (.inl (by omega)), hd]
  generalize s.fwdEnded y 5 [] = z at k ha ⊢
  have hz : z.desc? d = some x := (desc?_of_q k.q d).trans h.1
  rw [fwdTaken_other [] (by rw [desc_of_some hz, h.2]) (by omega)]
  refine ⟨finish_ends hz (not_done_of_waits h) .., ?_⟩
  rw [(catalogKeeps_finish ..).ct, ← req_of_find hy, ha]

/-- An INSERT that is not answered leaves its publish waiting (R426). -/
theorem forwardTimeout_insert (hk : leAt y.msg 0 1 % 16 = 2) (h : Waits s d .answers x) :
    Leads (.forwardTimeout n) s fun t => t.desc? d = some x ∧ t.ct.fwd.any (fun g => g.req == n && g.ended) = true := by
  refine leads_next (forwardTimeout_eq hy) ?_
  rw [fwdAnswer_kept hk, ← req_of_find hy]
  exact ⟨(desc?_of_q (catalogOnly_fwdKept y).q d).trans h.1, any_fwdKept (List.mem_of_find?_eq_some hy)⟩

/-- A request that no command waits for is dropped (R426). -/
theorem forwardTimeout_none (hd : y.d = none) (hk : leAt y.msg 0 1 % 16 ≠ 2) :
    Leads (.forwardTimeout n) s fun t => t.ct.fwd.any (fun g => g.req == n) = false ∧ t.q = s.q := by
  refine leads_next (forwardTimeout_eq hy) ?_
  have late (z : State) : z.lateAnswer y 5 [] = z := by simp [State.lateAnswer, hk]
  rw [fwdAnswer_eq (.inl hk), hd, show ∀ z : State, z.fwdTaken y 5 [] none = z.lateAnswer y 5 [] from fun _ => rfl, late, ← req_of_find hy]
  exact ⟨any_fwdEnded 5 [], (catalogOnly_fwdEnded ..).q⟩

omit hy in
/-- An answer UNREACHABLE is the record of its hash (R168, R179). -/
theorem lookupAnswer_unreachable (d i m : Nat) (b : List Byte) : s.lookupAnswer d i m 5 b =
    ((s.setRecord d i { status := 5, fwded := true }).lookupGo d (s.desc d).list.length 0).lookupDone d := rfl

/-- A lookup of one hash whose request is not answered reads UNREACHABLE (R179, R426). -/
theorem forwardTimeout_lookup {k : Nat} (hd : y.d = some d) (hk : leAt y.msg 0 1 % 16 = 1) (hi : y.idx = 0) (h : s.desc? d = some x)
    (hop : x.e.opcode = 0x30) (hst : x.stage = .exec) (hl : x.list = [k]) (hr : s.records d = [none]) (h8 : x.e.flag 8 = true)
    (hq : (s.queue x.q).isLink = false) (hn : s.noHost x.q = false) (hf : s.hostFault = none) :
    Leads (.forwardTimeout n) s fun t => Ended t d .ok ∧
      ({ status := 5, fwded := true } : LookupRec).bytes ∈ t.sentTo (s.queue x.q).fn x.e.opB := by
  refine leads_next (forwardTimeout_eq hy) ?_
  have kz := catalogOnly_fwdEnded (s := s) y 5 []
  have rz : (s.fwdEnded y 5 []).records d = [none] := by
    obtain ⟨l, hl⟩ := pumpFwd_ct (s := ({ s with ct := { s.ct with fwd := s.ct.fwd.filter (fun g => g.req != y.req) } }).movedTo y 5 []) 1
    rw [← hr]
    simp only [State.fwdEnded, State.records, hl]
    rfl
  rw [fwdAnswer_eq (.inl (by omega)), hd]
  generalize s.fwdEnded y 5 [] = z at kz rz ⊢
  have hz : z.desc? d = some x := (desc?_of_q kz.q d).trans h
  rw [fwdTaken_lookup [] hk (by rw [desc_of_some hz, hst]), hi, lookupAnswer_unreachable, desc_of_some hz, hl]
  generalize hv : z.setRecord d 0 { status := 5, fwded := true } = v
  have kv : CatalogOnly s v := hv ▸ kz.trans (catalogOnly_ct _)
  have rv : v.records d = [{ status := 5, fwded := true }].map some := by rw [← hv, records_setRecord, rz]; rfl
  have hgo : v.lookupGo d [k].length 0 = v := by
    show v.lookupGo d 1 0 = v
    unfold State.lookupGo
    dsimp only
    rw [rv]
    rfl
  have hqv : v.queue x.q = s.queue x.q := queue_of_q kv.q _
  rw [hgo]
  obtain ⟨he, hm⟩ := lookupDone_ends ((desc?_of_q kv.q d).trans h) hst hop h8 (by rw [hqv, hq]) ((noHost_of kv.q kv.fns _).trans hn)
    ((hostFault_of kv.host.rate kv.hp).trans hf) rv (by rw [hl]; rfl) rfl
  refine ⟨he, ?_⟩
  rw [hqv] at hm
  simpa [lookupBytes] using hm

end Timeout

/-- Settles O6: the catalog's operations leave commands, scopes and the constellation as they are, so each command comes to its end, or to its wait, in
a state whose index, ledger and forwards the lemmas of its operations say. -/
theorem catalogCommandsComplete : Obligations.CatalogCommandsComplete := by
  unfold Obligations.CatalogCommandsComplete
  refine ⟨?hostLookup, ?folioLookup, ?lookupWrites, ?hashZero, ?publish, ?inserted, ?present, ?full, ?asked, ?release, ?staleRelease, ?withdraw,
    ?withdrawAsks, ?staleWithdraw, ?hint, ?hintFull, ?hintNone, ?lostWithdraw, ?lostInsert, ?lostLookup, ?lostOther⟩
  case hostLookup => exact fun s d b l x h h8 hn hl hh hg hf hc hw hb => catalogLookup_returns h h8 hn hl hh hg hf hc hw b hb l
  case folioLookup => exact fun s d b l x h h8 hr hg hf hc hw hs => catalogLookup_ends_or_waits h h8 hr hg hf hc hw hs b l
  case lookupWrites => exact fun s d b l x h hop hst h8 hl hw => catalogLookup_writes h hop hst h8 hl hw b l
  case hashZero => exact fun s d b l x h h8 hn hg hf hb => catalogLookup_refused h h8 hn hg hf b hb l
  case publish => exact fun s d x i h hg hf hi => catalogPublish_marks h hg hf hi
  case inserted => exact fun s d x i n h hl hq hm ho hk => publishInsert_done h hl hq hm ho hk
  case present => exact fun s d x i n k h hl hq hm ho => publishInsert_exists h hl hq hm ho
  case full => exact fun s d x i n h hl hq hm ho => publishInsert_capacity h hl hq hm ho
  case asked => exact fun s d x i n h hl hq hm => publishInsert_asks h hl hq hm
  case release => exact fun s d x i h h8 hg hf hi => catalogRelease_releases h hg hf h8 hi
  case staleRelease => exact fun s d x h h8 hg hf hi => catalogRelease_stale h hg hf h8 hi
  case withdraw => exact fun s d x i h h8 hg hf hi hs => catalogWithdraw_removes h hg hf h8 hi hs
  case withdrawAsks => exact fun s d x i h h8 hg hf hi hx hm => catalogWithdraw_asks h hg hf h8 hi hx hm
  case staleWithdraw => exact fun s d x h h8 hg hf hi => catalogWithdraw_stale h hg hf h8 hi
  case hint => exact fun s d x y h hg hf hy hq => catalogHint_records h hg hf hy hq
  case hintFull => exact fun s d x y h hg hf hy hc hh hq => catalogHint_full h hg hf hy hc hh hq
  case hintNone => exact fun s d x h hg hf hy => catalogHint_none h hg hf hy
  case lostWithdraw => exact fun s n d x y hy hd hk h => forwardTimeout_withdraw hy hd hk h
  case lostInsert => exact fun s n d x y hy _ hk h => forwardTimeout_insert hy hk h
  case lostLookup => exact fun s n d x y k hy hd hk hi h hop hst hl hr h8 hq hn hf => forwardTimeout_lookup hy hd hk hi h hop hst hl hr h8 hq hn hf
  case lostOther => exact fun s n y hy hd hk => forwardTimeout_none hy hd hk

end Sys2Proof.Machine
end

section
/-!
PROOFS. Flits that a link takes, and the requests and answers of other members as they come to the catalog.
-/
namespace Sys2Proof.Machine

variable {s t u : State} {n l vc ty i : Nat} {g : RxFlit}

/-! ## Taking a flit -/

theorem popFlit_frame (l vc : Nat) : ∃ k, s.popFlit l vc = { s with lk := k } := by
  unfold State.popFlit
  dsimp only
  split
  · exact ⟨_, rfl⟩
  · exact ⟨_, rfl⟩
  · exact ⟨_, rfl⟩

/-- A flit that is taken leaves its link's state, partner and sessions. -/
theorem link_popFlit (l vc i : Nat) : ∃ r k c, (s.popFlit l vc).link i = { s.link i with rxq := r, late := k, used := c } := by
  have put (z : State) (y : Link) (hz : ∃ r k c, y = { s.link l with rxq := r, late := k, used := c })
      (hi : l ≠ i → ∃ r k c, z.link i = { s.link i with rxq := r, late := k, used := c }) :
      ∃ r k c, (z.setLink l y).link i = { s.link i with rxq := r, late := k, used := c } := by
    rw [State.link_setLink]
    split
    · next h =>
      subst h
      exact hz
    · next h => exact hi h
  unfold State.popFlit
  dsimp only
  split
  · exact put s _ ⟨_, _, _, rfl⟩ fun _ => ⟨_, _, _, rfl⟩
  · unfold State.freeCredit
    refine put _ _ ?_ fun h => put s _ ⟨_, _, _, rfl⟩ fun _ => ⟨_, _, _, rfl⟩
    rw [State.link_setLink, if_pos rfl]
    exact ⟨_, _, _, rfl⟩
  · exact ⟨_, _, _, rfl⟩

theorem fwdSourceOk_popFlit (l vc n : Nat) (b : List Byte) : (s.popFlit l vc).fwdSourceOk n b = s.fwdSourceOk n b := by
  obtain ⟨r, k, c, h⟩ := link_popFlit (s := s) l vc n
  unfold State.fwdSourceOk
  rw [h]

theorem fwdReady_popFlit (l vc n : Nat) : (s.popFlit l vc).fwdReady n = s.fwdReady n := by
  obtain ⟨r, k, c, h⟩ := link_popFlit (s := s) l vc n
  obtain ⟨z, hz⟩ := popFlit_frame (s := s) l vc
  unfold State.fwdReady
  rw [h]
  simp only [State.peer, hz]

theorem onFlit_taken {ok : Bool} (h : s.headFlit l (vcOf ty) = some g) (hv : g.verdict = some ok) (ht : g.type = ty)
    (f : State → Flit → Bool → State) : s.onFlit l ty f = f (s.popFlit l (vcOf ty)) g.toFlit ok := by
  unfold State.onFlit
  rw [h]
  dsimp only
  rw [hv]
  exact if_pos ht

theorem onFlit_none (h : (s.headFlit l (vcOf ty)).all (fun g => g.type != ty || g.verdict.isNone) = true) (f : State → Flit → Bool → State) :
    s.onFlit l ty f = s := by
  unfold State.onFlit
  cases hg : s.headFlit l (vcOf ty) with
  | none => rfl
  | some g =>
    dsimp only
    rw [hg] at h
    simp only [Option.all_some, Bool.or_eq_true, bne_iff_ne, Option.isNone_iff_eq_none] at h
    cases hv : g.verdict with
    | none => rfl
    | some ok => exact if_neg (h.resolve_right (by simp [hv]))

/-! ## Messages of other members -/

section Fwd
variable (h : s.headFlit l (vcOf ty) = some g) (ht : g.type = ty) (unf : List Nat) (f : State → Flit → State)
include h ht

/-- A message of good form and source comes to its operation (R433, R435). -/
theorem onFwd_good (hv : g.verdict = some true) (hf : fwdFormOk (ty == 8) g.body = true) (hs : s.fwdSourceOk l g.body = true) :
    s.onFwd l ty unf f = f (s.popFlit l (vcOf ty)) g.toFlit :=
  (onFlit_taken h hv ht _).trans (by rw [fwdSourceOk_popFlit, hf, hs]; rfl)

/-- One of bad form or source is a violation (R433). -/
theorem onFwd_bad (hv : g.verdict = some true) (hf : fwdFormOk (ty == 8) g.body = false ∨ s.fwdSourceOk l g.body = false) :
    s.onFwd l ty unf f = (s.popFlit l (vcOf ty)).violation l unf := by
  refine (onFlit_taken h hv ht _).trans ?_
  rw [fwdSourceOk_popFlit]
  rcases hf with hf | hf <;> simp [hf]

theorem onFwd_tag (hv : g.verdict = some false) : s.onFwd l ty unf f = (s.popFlit l (vcOf ty)).tagFailed l 63 := onFlit_taken h hv ht _

end Fwd

/-- A request that is no REFSTATE for this member. -/
theorem refstateNext_false (h : s.headFlit n 0 = some g) (hk : leAt g.body 0 1 ≠ 4 ∨ s.forOther g.body = true) : s.refstateNext n = false := by
  unfold State.refstateNext
  rw [show vcOf 8 = 0 from rfl, h]
  rcases hk with hk | hk <;> simp [hk]

section Req
variable (h : s.headFlit n 0 = some g) (ht : g.type = 8) (unf : List Nat)
include h ht

section Plain
variable (hk : leAt g.body 0 1 ≠ 4 ∨ s.forOther g.body = true)
include hk

theorem fwdReq_good (hv : g.verdict = some true) (hf : fwdFormOk true g.body = true) (hs : s.fwdSourceOk n g.body = true) :
    exec (.fwdReq n unf) s = .next ((s.popFlit n 0).fwdReq n g.toFlit) := by
  show execFwdReq n unf s = _
  unfold execFwdReq
  rw [refstateNext_false h hk, if_neg (by decide), onFwd_good (ty := 8) h ht unf _ hv hf hs]
  rfl

theorem fwdReq_bad (hv : g.verdict = some true) (hf : fwdFormOk true g.body = false ∨ s.fwdSourceOk n g.body = false) :
    exec (.fwdReq n unf) s = .next ((s.popFlit n 0).violation n unf) := by
  show execFwdReq n unf s = _
  unfold execFwdReq
  rw [refstateNext_false h hk, if_neg (by decide), onFwd_bad (ty := 8) h ht unf _ hv hf]
  rfl

theorem fwdReq_tag (hv : g.verdict = some false) : exec (.fwdReq n unf) s = .next ((s.popFlit n 0).tagFailed n 63) := by
  show execFwdReq n unf s = _
  unfold execFwdReq
  rw [refstateNext_false h hk, if_neg (by decide), onFwd_tag (ty := 8) h ht unf _ hv]
  rfl

end Plain

theorem refstate_good (hk : leAt g.body 0 1 = 4) (ho : s.forOther g.body = false) (hv : g.verdict = some true)
    (hf : fwdFormOk true g.body = true) (hs : s.fwdSourceOk n g.body = true) :
    exec (.refstate n unf) s = .next ((s.popFlit n 0).fwdReq n g.toFlit) := by
  have hr : s.refstateNext n = true := by
    unfold State.refstateNext
    rw [show vcOf 8 = 0 from rfl, h]
    simp [ht, hk, ho]
  show execRefstate n unf s = _
  unfold execRefstate
  rw [if_pos hr, onFwd_good (ty := 8) h ht unf _ hv hf hs]
  rfl

end Req

theorem fwdReq_none (h : (s.headFlit n 0).all (fun g => g.type != 8 || g.verdict.isNone) = true ∨ s.refstateNext n = true) (unf : List Nat) :
    exec (.fwdReq n unf) s = .next s := by
  show execFwdReq n unf s = _
  unfold execFwdReq
  rcases h with h | h
  · rw [show s.onFwd n 8 unf _ = s from onFlit_none (ty := 8) h _, ite_self]
  · rw [if_pos h]

theorem refstate_none (h : s.refstateNext n = false) (unf : List Nat) : exec (.refstate n unf) s = .next s := by
  show execRefstate n unf s = _
  unfold execRefstate
  rw [h, if_neg (by decide)]

/-! ## What becomes of a request -/

theorem routeMsg_frame (ty dest xtag : Nat) (msg : List Byte) :
    ∃ k o, s.routeMsg ty dest xtag msg = { s with lk := k, outbox := s.outbox ++ o } := by
  unfold State.routeMsg
  dsimp only
  split
  · exact sendFlit_frame ..
  · exact ⟨s.lk, [], by simp⟩

/-- An answer is a flit of a link, or none. -/
theorem reply_frame (l : Nat) (f : Flit) (status : Nat) (tail : List Byte) :
    ∃ k o, s.reply l f status tail = { s with lk := k, outbox := s.outbox ++ o } := by
  unfold State.reply
  dsimp only
  split
  · exact routeMsg_frame ..
  · exact sendFlit_frame ..

@[simp] theorem reply_ct (l : Nat) (f : Flit) (status : Nat) (tail : List Byte) : (s.reply l f status tail).ct = s.ct := by
  obtain ⟨k, o, h⟩ := reply_frame (s := s) l f status tail
  rw [h]

@[simp] theorem reply_cn (l : Nat) (f : Flit) (status : Nat) (tail : List Byte) : (s.reply l f status tail).cn = s.cn := by
  obtain ⟨k, o, h⟩ := reply_frame (s := s) l f status tail
  rw [h]

@[simp] theorem reply_regs (l : Nat) (f : Flit) (status : Nat) (tail : List Byte) : (s.reply l f status tail).regs = s.regs := by
  obtain ⟨k, o, h⟩ := reply_frame (s := s) l f status tail
  rw [h]

theorem sendMctp_frame (l : Nat) (req : Bool) (msg : List Byte) : ∃ k o, s.sendMctp l req msg = { s with lk := k, outbox := s.outbox ++ o } :=
  sendFlits_frame ..

section Becomes
variable {f : Flit}

theorem fwdReq_standalone (h : s.cn.st = .standalone) : s.fwdReq l f = s := if_pos h

section Member
variable (h : s.cn.st = .member)
include h

theorem fwdReq_relays (ho : s.forOther f.body = true) (hl : leAt f.body 3 1 ≠ 0) : s.fwdReq l f = s.relay f := by
  unfold State.fwdReq
  dsimp only
  rw [if_neg (by rw [h]; decide), if_pos ho, if_neg hl]

theorem fwdReq_lost (ho : s.forOther f.body = true) (hl : leAt f.body 3 1 = 0) : s.fwdReq l f = s.reply l f 5 [] := by
  unfold State.fwdReq
  dsimp only
  rw [if_neg (by rw [h]; decide), if_pos ho, if_pos hl]

theorem fwdReq_held (ho : s.forOther f.body = false) (he : s.fld F_CN_EPOCH_EPOCH < leAt f.body 4 4) : s.fwdReq l f =
    ({ s with cn := { s.cn with held := s.cn.held ++ [({ link := l, f := f, since := s.now } : HeldReq)] } } : State).askEpoch l := by
  unfold State.fwdReq
  dsimp only
  rw [if_neg (by rw [h]; decide), if_neg (by simp [ho]), if_pos (by simp [h, he])]

section Served
variable (ho : s.forOther f.body = false) (he : leAt f.body 4 4 ≤ s.fld F_CN_EPOCH_EPOCH)
include ho he

theorem fwdReq_serve : s.fwdReq l f = s.serve l f := by
  unfold State.fwdReq
  dsimp only
  rw [if_neg (by rw [h]; decide), if_neg (by simp [ho]), if_neg (by simp [Nat.not_lt.2 he])]

/-- A request for a shard that another member owns is answered with its owner (R180). -/
theorem fwdReq_moved (hm : s.mapOwner (shardOf (leAt f.body 0x10 16)) ≠ s.me) :
    s.fwdReq l f = s.reply l f 4 (movedTail (s.mapOwner (shardOf (leAt f.body 0x10 16)))) :=
  (fwdReq_serve h ho he).trans (if_pos (by simp [hm]))

section Here
variable (hm : s.mapOwner (shardOf (leAt f.body 0x10 16)) = s.me)
include hm

theorem fwdReq_here : s.fwdReq l f = if leAt f.body 0 1 = 1 then s.serveLookup l f
    else if leAt f.body 0 1 = 2 then s.serveInsert l f
    else if leAt f.body 0 1 = 3 then s.serveRemove l f
    else s.serveRefstate l f :=
  (fwdReq_serve h ho he).trans (if_neg (by simp [hm, h]))

end Here
end Served
end Member

/-! ## What a request for this member does -/

theorem serveLookup_miss (h : s.findEntry (leAt f.body 0x10 16) (Scope.ofNum (leAt f.body 8 2)) = none) (l : Nat) :
    s.serveLookup l f = (s.countLookup (Scope.ofNum (leAt f.body 8 2)) false).reply l f 1 [] := by
  unfold State.serveLookup
  dsimp only
  rw [h]

theorem entries_of_ct (h : t.ct = s.ct) : t.entries = s.entries := by simp only [State.entries, h]

theorem length_entries_editEntry (hash : Nat) (sc : Scope) (f : IndexEntry → IndexEntry) :
    (s.editEntry hash sc f).entries.length = s.entries.length := by
  rw [entries_editEntry, List.length_map]

/-- A hit changes no entry's place, and counts (R168, R182). -/
theorem serveLookup_hit {e : IndexEntry} (h : s.findEntry (leAt f.body 0x10 16) (Scope.ofNum (leAt f.body 8 2)) = some e) (l : Nat) :
    (s.serveLookup l f).entries.length = s.entries.length ∧
      (s.serveLookup l f).regs = (s.countLookup (Scope.ofNum (leAt f.body 8 2)) true).regs := by
  unfold State.serveLookup
  dsimp only
  rw [h]
  dsimp only
  have hl := congrArg List.length (entries_of_ct (countLookup_ct (s := s) (Scope.ofNum (leAt f.body 8 2)) true))
  generalize s.countLookup (Scope.ofNum (leAt f.body 8 2)) true = z at hl
  have touched : (z.touchEntry (leAt f.body 0x10 16) (Scope.ofNum (leAt f.body 8 2))).entries.length = z.entries.length :=
    length_entries_editEntry (s := z) _ _ fun e => { e with hit := z.ct.clock + 1 }
  have hr : (z.touchEntry (leAt f.body 0x10 16) (Scope.ofNum (leAt f.body 8 2))).regs = z.regs := rfl
  generalize z.touchEntry (leAt f.body 0x10 16) (Scope.ofNum (leAt f.body 8 2)) = y at touched hr
  rw [entries_of_ct (reply_ct ..), reply_regs]
  split
  · exact ⟨(length_entries_editEntry ..).trans (touched.trans hl), hr⟩
  · exact ⟨touched.trans hl, hr⟩

/-- The entry that a forwarded insert asks for (Table 13.5). -/
def askedEntry (f : Flit) : IndexEntry :=
  { hash := leAt f.body 0x10 16, scope := Scope.ofNum (leAt f.body 8 2), owner := bits (leAt f.body 0x20 8) 25 5, handle := leAt f.body 0x20 8,
    hint := leAt f.body 0x28 1 % 4, tokens := leAt f.body 0x2A 2, layers := leAt f.body 0x2C 2, idle := true }

/-- The answer of a forwarded insert (Table 13.6). -/
def State.insertReply (s : State) (l : Nat) (f : Flit) : Inserted → State
  | .done => s.reply l f 8 []
  | .exists_ h => s.reply l f 9 (leBytes 8 h)
  | .capacity => s.reply l f 10 []

theorem insertReply_ct (l : Nat) (f : Flit) (o : Inserted) : (s.insertReply l f o).ct = s.ct := by cases o <;> exact reply_ct ..

/-- A forwarded insert is answered in the state that the insert of its entry leads to (R167, R175). -/
theorem serveInsert_eq {o : Inserted} (h : s.indexInsert (askedEntry f) = (t, o)) (l : Nat) : s.serveInsert l f = t.insertReply l f o := by
  suffices key : ∀ g, g = State.serveInsert → g s l f = t.insertReply l f o from key _ rfl
  intro g hg
  delta State.serveInsert at hg
  rw [hg]
  unfold askedEntry at h
  beta_reduce
  conv =>
    lhs
    zeta
  rw [h]
  cases o <;> rfl

theorem serveInsert_ct {o : Inserted} (h : s.indexInsert (askedEntry f) = (t, o)) (l : Nat) : (s.serveInsert l f).ct = t.ct := by
  rw [serveInsert_eq h, insertReply_ct]

theorem findEntry_of_ct (h : t.ct = s.ct) (hash : Nat) (sc : Scope) : t.findEntry hash sc = s.findEntry hash sc := by
  unfold State.findEntry
  rw [h]

/-- An insert of a key that has an entry changes none (R167). -/
theorem serveInsert_exists {e : IndexEntry} (h : s.findEntry (leAt f.body 0x10 16) (Scope.ofNum (leAt f.body 8 2)) = some e) (l : Nat) :
    (s.serveInsert l f).entries = s.entries := by
  have hf : (s.keyRead (askedEntry f)).findEntry (askedEntry f).hash (askedEntry f).scope = some e := (findEntry_of_ct (keyRead_ct _) ..).trans h
  rw [entries_of_ct (serveInsert_ct (indexInsert_of_some hf) l), entries_of_ct (keyRead_ct _)]

/-- An insert within the quota of its group that finds a slot is placed (R175, R189). -/
theorem indexInsert_placed {e : IndexEntry} (h : (s.keyRead e).findEntry e.hash e.scope = none) (hi : (s.keyRead e).insertEntry e = some t)
    (hq : (s.keyRead e).groupCount e.scope.groupNo < (s.keyRead e).fld F_CT_G_QUOTA_QUOTA e.scope.groupNo) (hh : e.hint ≠ 3) :
    s.indexInsert e = (t.hitLast e, .done) := by
  suffices key : ∀ f, f = State.indexInsert → f s e = (t.hitLast e, .done) from key _ rfl
  intro f hf
  delta State.indexInsert at hf
  rw [hf]
  refine have_eq ?_
  unfold State.keyRead at *
  rw [h, hi]
  exact if_neg (by simp [Nat.not_le.2 hq, hh])

/-- In an empty index the first slot is free. -/
theorem insertEntry_empty (h : s.ct.index = []) (e : IndexEntry) : s.insertEntry e = some (s.putSlot (bucket1 e.hash * 4) e) := by
  unfold State.insertEntry
  rw [h]
  rfl

/-- The entry that is placed is there, and counts as hit last. -/
theorem mem_hitLast {e : IndexEntry} (h : e ∈ s.entries) : { e with hit := s.ct.clock + 1 } ∈ (s.hitLast e).entries := by
  have he : (s.hitLast e).entries = (s.editEntry e.hash e.scope fun y => { y with hit := s.ct.clock + 1 }).entries := rfl
  rw [he, entries_editEntry]
  exact List.mem_map.2 ⟨e, h, if_pos (by simp [IndexEntry.keyed])⟩

/-- An insert into an empty index places its entry (R167). -/
theorem serveInsert_placed (h : s.findEntry (leAt f.body 0x10 16) (Scope.ofNum (leAt f.body 8 2)) = none)
    (hq : s.groupCount (Scope.ofNum (leAt f.body 8 2)).groupNo < s.fld F_CT_G_QUOTA_QUOTA (Scope.ofNum (leAt f.body 8 2)).groupNo)
    (hh : leAt f.body 0x28 1 % 4 ≠ 3) (hi : s.ct.index = []) (l : Nat) :
    ∃ e ∈ (s.serveInsert l f).entries, e.keyed (leAt f.body 0x10 16) (Scope.ofNum (leAt f.body 8 2)) = true ∧ e.handle = leAt f.body 0x20 8 := by
  have hc := keyRead_ct (s := s) (askedEntry f)
  have hk : (s.keyRead (askedEntry f)).findEntry (askedEntry f).hash (askedEntry f).scope = none := (findEntry_of_ct hc ..).trans h
  have hg : (s.keyRead (askedEntry f)).groupCount (askedEntry f).scope.groupNo
      < (s.keyRead (askedEntry f)).fld F_CT_G_QUOTA_QUOTA (askedEntry f).scope.groupNo := by
    have hf (i : Nat) : (s.keyRead (askedEntry f)).fld F_CT_G_QUOTA_QUOTA i = s.fld F_CT_G_QUOTA_QUOTA i :=
      (catalogKeeps_metaReads _).flds F_CT_G_QUOTA_QUOTA (by decide) i
    unfold State.groupCount at hq ⊢
    rw [hf, entries_of_ct hc]
    exact hq
  have hp := indexInsert_placed hk (insertEntry_empty (by rw [hc, hi]) _) hg hh
  rw [entries_of_ct (serveInsert_ct hp l)]
  generalize s.keyRead (askedEntry f) = z at hc
  have he : askedEntry f ∈ (z.putSlot (bucket1 (askedEntry f).hash * 4) (askedEntry f)).entries := by
    simp [State.putSlot, State.entries, hc, hi, kvInsert]
  refine ⟨_, mem_hitLast he, ?_, rfl⟩
  simp [askedEntry, IndexEntry.keyed]

/-- A removal takes the entry out (R186). -/
theorem serveRemove_removes (l : Nat) : ∀ e ∈ (s.serveRemove l f).entries,
    ¬(e.keyed (leAt f.body 0x10 16) (Scope.ofNum (leAt f.body 8 2)) = true ∧ e.handle = leAt f.body 0x20 8) := by
  unfold State.serveRemove
  extract_lets b p
  have hp (e : IndexEntry) (h : p e = false) : ¬(e.keyed (leAt f.body 0x10 16) (Scope.ofNum (leAt f.body 8 2)) = true ∧ e.handle = leAt f.body 0x20 8) := by
    rintro ⟨hk, hh⟩
    simp [p, b, hk, hh] at h
  split
  · rw [entries_of_ct (reply_ct ..)]
    exact fun e he => hp e (entries_removeEntries p e he).2
  · next ha =>
    rw [entries_of_ct (reply_ct ..)]
    exact fun e he => hp e (by simpa using fun h => ha (List.any_eq_true.2 ⟨e, he, h⟩))

/-- REFSTATE clears PENDING and records whether the record is idle (R430). -/
theorem serveRefstate_clears (l : Nat) : (s.serveRefstate l f).entries.length = s.entries.length ∧
    ∀ e ∈ (s.serveRefstate l f).entries, e.keyed (leAt f.body 0x10 16) (Scope.ofNum (leAt f.body 8 2)) = true → e.handle = leAt f.body 0x20 8 →
      e.pending = false ∧ e.idle = bit (leAt f.body 0x28 1) 0 := by
  unfold State.serveRefstate
  dsimp only
  rw [entries_of_ct (reply_ct ..)]
  refine ⟨length_entries_editEntry .., fun e he hk hh => ?_⟩
  rw [entries_editEntry, List.mem_map] at he
  obtain ⟨y, -, rfl⟩ := he
  split at hk
  · next hy =>
    rw [if_pos hy] at hh ⊢
    split at hh
    · next h => exact ⟨by rw [if_pos h], by rw [if_pos h]⟩
    · next h => exact absurd (beq_iff_eq.2 hh) h
  · next hy => exact absurd hk hy

end Becomes

end Sys2Proof.Machine
end

section
/-!
PROOFS. Requests of other members: dropped, relayed, answered, held, served; and what a bad one counts.
-/
namespace Sys2Proof.Machine

variable {s t u : State} {n l vc i : Nat} {g : RxFlit}

/-! ## What a taken flit leaves as it is -/

theorem popFlit_cn (l vc : Nat) : (s.popFlit l vc).cn = s.cn := by
  obtain ⟨k, h⟩ := popFlit_frame (s := s) l vc
  rw [h]

theorem popFlit_ct (l vc : Nat) : (s.popFlit l vc).ct = s.ct := by
  obtain ⟨k, h⟩ := popFlit_frame (s := s) l vc
  rw [h]

theorem popFlit_regs (l vc : Nat) : (s.popFlit l vc).regs = s.regs := by
  obtain ⟨k, h⟩ := popFlit_frame (s := s) l vc
  rw [h]

theorem popFlit_mg (l vc : Nat) : (s.popFlit l vc).mg = s.mg := by
  obtain ⟨k, h⟩ := popFlit_frame (s := s) l vc
  rw [h]

theorem popFlit_q (l vc : Nat) : (s.popFlit l vc).q = s.q := by
  obtain ⟨k, h⟩ := popFlit_frame (s := s) l vc
  rw [h]

theorem fld_of_regs (h : t.regs = s.regs) (f : Fld) (i : Nat) : t.fld f i = s.fld f i := by simp only [State.fld, h]

theorem forOther_popFlit (l vc : Nat) (b : List Byte) : (s.popFlit l vc).forOther b = s.forOther b := by
  obtain ⟨k, h⟩ := popFlit_frame (s := s) l vc
  rw [h]
  rfl

theorem me_popFlit (l vc : Nat) : (s.popFlit l vc).me = s.me := by simp only [State.me, popFlit_cn]

theorem mapOwner_popFlit (l vc k : Nat) : (s.popFlit l vc).mapOwner k = s.mapOwner k := by simp only [State.mapOwner, State.recByte, popFlit_cn]

theorem routeTo_popFlit (l vc m : Nat) : (s.popFlit l vc).routeTo m = s.routeTo m := by simp only [State.routeTo, popFlit_cn]

/-! ## Requests of good form and source -/

section Good
variable (h : s.headFlit n 0 = some g) (ht : g.type = 8) (unf : List Nat) (hv : g.verdict = some true) (hf : fwdFormOk true g.body = true)
  (hs : s.fwdSourceOk n g.body = true)
include h ht hv hf hs

/-- A device outside any constellation drops a request (R427). -/
theorem fwdReq_dropped (hc : s.cn.st = .standalone) (hk : leAt g.body 0 1 ≠ 4) : Leads (.fwdReq n unf) s fun t => t = s.popFlit n 0 :=
  leads_next (fwdReq_good h ht unf (.inl hk) hv hf hs) (fwdReq_standalone (by rw [popFlit_cn, hc]))

section Member
variable (hc : s.cn.st = .member)
include hc

section Other
variable (ho : s.forOther g.body = true)
include ho

/-- A request for another member is relayed, and counted (R434, R435). -/
theorem fwdReq_relayed (hl : leAt g.body 3 1 ≠ 0) (hr : s.fwdReady (s.routeTo (leAt g.body 2 1)) = true) : Leads (.fwdReq n unf) s fun t =>
    t.fld F_CN_RELAYED_RELAYED = min (s.fld F_CN_RELAYED_RELAYED + 1) (2 ^ F_CN_RELAYED_RELAYED.wid - 1) := by
  refine leads_next (fwdReq_good h ht unf (.inr ho) hv hf hs) ?_
  rw [fwdReq_relays (f := g.toFlit) (by rw [popFlit_cn, hc]) (by rw [forOther_popFlit, ho]) hl]
  unfold State.relay
  dsimp only
  rw [routeTo_popFlit, fwdReady_popFlit, if_pos hr]
  obtain ⟨k, o, hm⟩ := routeMsg_frame (s := (s.popFlit n 0).bump F_CN_RELAYED_RELAYED) g.toFlit.type (leAt g.body 2 1) g.xtag
    (g.body.take 3 ++ [BitVec.ofNat 8 (leAt g.body 3 1 - 1)] ++ g.body.drop 4)
  rw [hm]
  refine (State.fld_bump ..).trans ?_
  rw [fld_of_regs (popFlit_regs ..)]

/-- One without TTL is answered UNREACHABLE (R435). -/
theorem fwdReq_unreachable (hl : leAt g.body 3 1 = 0) : Leads (.fwdReq n unf) s fun t => t = (s.popFlit n 0).reply n g.toFlit 5 [] :=
  leads_next (fwdReq_good h ht unf (.inr ho) hv hf hs) (fwdReq_lost (by rw [popFlit_cn, hc]) (by rw [forOther_popFlit, ho]) hl)

end Other

section Mine
variable (ho : s.forOther g.body = false)
include ho

/-- A request of a newer epoch is held (R436). -/
theorem fwdReq_holds (he : s.fld F_CN_EPOCH_EPOCH < leAt g.body 4 4) (hk : leAt g.body 0 1 ≠ 4) :
    Leads (.fwdReq n unf) s fun t => t.cn.held = s.cn.held ++ [{ link := n, f := g.toFlit, since := s.now }] := by
  refine leads_next (fwdReq_good h ht unf (.inl hk) hv hf hs) ?_
  rw [fwdReq_held (f := g.toFlit) (by rw [popFlit_cn, hc]) (by rw [forOther_popFlit, ho]) (by rw [fld_of_regs (popFlit_regs ..)]; exact he)]
  obtain ⟨k, hz⟩ := popFlit_frame (s := s) n 0
  rw [hz]
  obtain ⟨k', o, hm⟩ := sendMctp_frame (s := { s with lk := k, cn := { s.cn with held := s.cn.held ++ [{ link := n, f := g.toFlit, since := s.now }] } })
    n true (vendorMsg true 0 1 none (leBytes 4 0))
  exact congrArg (fun z : State => z.cn.held) hm

section Covered
variable (he : leAt g.body 4 4 ≤ s.fld F_CN_EPOCH_EPOCH)
include he

/-- A request for a shard of another member is answered MOVED (R180). -/
theorem fwdReq_answersMoved (hk : leAt g.body 0 1 ≠ 4) (hm : s.mapOwner (shardOf (leAt g.body 0x10 16)) ≠ s.me) : Leads (.fwdReq n unf) s fun t =>
    t = (s.popFlit n 0).reply n g.toFlit 4 (movedTail (s.mapOwner (shardOf (leAt g.body 0x10 16)))) := by
  refine leads_next (fwdReq_good h ht unf (.inl hk) hv hf hs) ?_
  have e := fwdReq_moved (s := s.popFlit n 0) (l := n) (f := g.toFlit) (by rw [popFlit_cn, hc]) (by rw [forOther_popFlit, ho])
    (by rw [fld_of_regs (popFlit_regs ..)]; exact he) (by rw [mapOwner_popFlit, me_popFlit]; exact hm)
  rw [mapOwner_popFlit] at e
  exact e

section Here
variable (hm : s.mapOwner (shardOf (leAt g.body 0x10 16)) = s.me)
include hm

omit h ht hv hf hs in
/-- A request that this member serves comes to the operation of its kind. -/
theorem fwdReq_served : (s.popFlit n 0).fwdReq n g.toFlit = if leAt g.body 0 1 = 1 then (s.popFlit n 0).serveLookup n g.toFlit
    else if leAt g.body 0 1 = 2 then (s.popFlit n 0).serveInsert n g.toFlit
    else if leAt g.body 0 1 = 3 then (s.popFlit n 0).serveRemove n g.toFlit
    else (s.popFlit n 0).serveRefstate n g.toFlit :=
  fwdReq_here (by rw [popFlit_cn, hc]) (by rw [forOther_popFlit, ho]) (by rw [fld_of_regs (popFlit_regs ..)]; exact he)
    (by rw [mapOwner_popFlit, me_popFlit]; exact hm)

/-- A lookup without an entry counts a miss (R168, R182). -/
theorem fwdReq_misses (hk : leAt g.body 0 1 = 1) (hn : s.findEntry (leAt g.body 0x10 16) (Scope.ofNum (leAt g.body 8 2)) = none) :
    Leads (.fwdReq n unf) s fun t => t.ct = s.ct ∧ t.fld F_CT_G_MISSES_MISSES (Scope.ofNum (leAt g.body 8 2)).groupNo =
      min (s.fld F_CT_G_MISSES_MISSES (Scope.ofNum (leAt g.body 8 2)).groupNo + 1) (2 ^ F_CT_G_MISSES_MISSES.wid - 1) := by
  refine leads_next (fwdReq_good h ht unf (.inl (by omega)) hv hf hs) ?_
  rw [fwdReq_served hc ho he hm, if_pos hk, serveLookup_miss (f := g.toFlit) ((findEntry_of_ct (popFlit_ct ..) ..).trans hn)]
  refine ⟨?_, ?_⟩
  · rw [reply_ct, countLookup_ct, popFlit_ct]
  · rw [fld_of_regs (reply_regs ..)]
    refine (State.fld_bump ..).trans ?_
    rw [fld_of_regs (popFlit_regs ..)]

/-- A lookup with an entry counts a hit, and every entry stays (R168, R182). -/
theorem fwdReq_hits (hk : leAt g.body 0 1 = 1) {e : IndexEntry} (hn : s.findEntry (leAt g.body 0x10 16) (Scope.ofNum (leAt g.body 8 2)) = some e) :
    Leads (.fwdReq n unf) s fun t => t.entries.length = s.entries.length ∧ t.fld F_CT_G_HITS_HITS (Scope.ofNum (leAt g.body 8 2)).groupNo =
      min (s.fld F_CT_G_HITS_HITS (Scope.ofNum (leAt g.body 8 2)).groupNo + 1) (2 ^ F_CT_G_HITS_HITS.wid - 1) := by
  refine leads_next (fwdReq_good h ht unf (.inl (by omega)) hv hf hs) ?_
  rw [fwdReq_served hc ho he hm, if_pos hk]
  obtain ⟨hl, hr⟩ := serveLookup_hit (s := s.popFlit n 0) (f := g.toFlit) ((findEntry_of_ct (popFlit_ct ..) ..).trans hn) n
  rw [hl, entries_of_ct (popFlit_ct ..), fld_of_regs hr]
  refine ⟨rfl, (State.fld_bump ..).trans ?_⟩
  rw [fld_of_regs (popFlit_regs ..)]

/-- An insert of a key with an entry changes no entry (R167). -/
theorem fwdReq_insertExists (hk : leAt g.body 0 1 = 2) {e : IndexEntry}
    (hn : s.findEntry (leAt g.body 0x10 16) (Scope.ofNum (leAt g.body 8 2)) = some e) : Leads (.fwdReq n unf) s fun t => t.entries = s.entries := by
  refine leads_next (fwdReq_good h ht unf (.inl (by omega)) hv hf hs) ?_
  rw [fwdReq_served hc ho he hm, if_neg (by omega), if_pos hk,
    serveInsert_exists (f := g.toFlit) ((findEntry_of_ct (popFlit_ct ..) ..).trans hn), entries_of_ct (popFlit_ct ..)]

/-- An insert into an empty index places its entry (R167, R175). -/
theorem fwdReq_inserts (hk : leAt g.body 0 1 = 2) (hn : s.findEntry (leAt g.body 0x10 16) (Scope.ofNum (leAt g.body 8 2)) = none)
    (hq : s.groupCount (Scope.ofNum (leAt g.body 8 2)).groupNo < s.fld F_CT_G_QUOTA_QUOTA (Scope.ofNum (leAt g.body 8 2)).groupNo)
    (hh : leAt g.body 0x28 1 % 4 ≠ 3) (hi : s.ct.index = []) : Leads (.fwdReq n unf) s fun t =>
      ∃ e ∈ t.entries, e.keyed (leAt g.body 0x10 16) (Scope.ofNum (leAt g.body 8 2)) = true ∧ e.handle = leAt g.body 0x20 8 := by
  refine leads_next (fwdReq_good h ht unf (.inl (by omega)) hv hf hs) ?_
  rw [fwdReq_served hc ho he hm, if_neg (by omega), if_pos hk]
  refine serveInsert_placed (f := g.toFlit) ((findEntry_of_ct (popFlit_ct ..) ..).trans hn) ?_ hh (by rw [popFlit_ct, hi]) n
  unfold State.groupCount at hq ⊢
  rw [entries_of_ct (popFlit_ct ..), fld_of_regs (popFlit_regs ..)]
  exact hq

/-- A removal takes the entry of its handle out (R186). -/
theorem fwdReq_removes (hk : leAt g.body 0 1 = 3) : Leads (.fwdReq n unf) s fun t => ∀ e ∈ t.entries,
    ¬(e.keyed (leAt g.body 0x10 16) (Scope.ofNum (leAt g.body 8 2)) = true ∧ e.handle = leAt g.body 0x20 8) := by
  refine leads_next (fwdReq_good h ht unf (.inl (by omega)) hv hf hs) ?_
  rw [fwdReq_served hc ho he hm, if_neg (by omega), if_neg (by omega), if_pos hk]
  exact serveRemove_removes (f := g.toFlit) n

/-- REFSTATE clears PENDING of the entry of its handle (R430). -/
theorem refstate_clears (hk : leAt g.body 0 1 = 4) : Leads (.refstate n unf) s fun t => t.entries.length = s.entries.length ∧
    ∀ e ∈ t.entries, e.keyed (leAt g.body 0x10 16) (Scope.ofNum (leAt g.body 8 2)) = true → e.handle = leAt g.body 0x20 8 →
      e.pending = false ∧ e.idle = bit (leAt g.body 0x28 1) 0 := by
  refine leads_next (refstate_good h ht unf hk ho hv hf hs) ?_
  rw [fwdReq_served hc ho he hm, if_neg (by omega), if_neg (by omega), if_neg (by omega)]
  obtain ⟨hl, hp⟩ := serveRefstate_clears (s := s.popFlit n 0) (f := g.toFlit) n
  exact ⟨hl.trans (congrArg List.length (entries_of_ct (popFlit_ct ..))), hp⟩

end Here
end Covered
end Mine
end Member
end Good

end Sys2Proof.Machine
end

section
/-!
PROOFS. Violations and failed tags: a link that is dropped for them keeps its counters.
-/
namespace Sys2Proof.Machine

variable {s t u : State} {n l i : Nat} {g : RxFlit}

/-- The violations that the links have counted stand. -/
structure ViolKept (s t : State) : Prop where
  kept : ∀ i, t.fld F_LK_L_VIOL_CNT_VIOL i = s.fld F_LK_L_VIOL_CNT_VIOL i

theorem ViolKept.refl : ViolKept s s := ⟨fun _ => rfl⟩

theorem ViolKept.trans (h : ViolKept s t) (k : ViolKept t u) : ViolKept s u := ⟨fun i => (k.kept i).trans (h.kept i)⟩

theorem ViolKept.of_regs (h : t.regs = s.regs) : ViolKept s t := ⟨fun i => fld_of_regs h _ i⟩

theorem CatalogKeeps.viol (h : CatalogKeeps s t) : ViolKept s t := ⟨h.flds F_LK_L_VIOL_CNT_VIOL (by decide)⟩

theorem ViolKept.ite {c : Prop} [Decidable c] (h : ViolKept s t) (k : ViolKept s u) : ViolKept s (if c then t else u) := by
  split
  · exact h
  · exact k

theorem ViolKept.foldl {α : Type} {f : State → α → State} (h : ∀ z a, ViolKept z (f z a)) (l : List α) : ViolKept s (l.foldl f s) :=
  foldl_keeps (ViolKept s) f (fun z a k => k.trans (h z a)) l s .refl

theorem ViolKept.sweep {f : State → Nat → State} (h : ∀ z a, ViolKept z (f z a)) (l : List Nat) : ViolKept s (s.sweep f l) := by
  induction l generalizing s with
  | nil => exact .refl
  | cons a l ih => exact (h s a).trans ih

theorem violKept_setFld {f : Fld} (hf : f.Fits)
    (h : (f.blk, f.off, f.lo) ≠ (F_LK_L_VIOL_CNT_VIOL.blk, F_LK_L_VIOL_CNT_VIOL.off, F_LK_L_VIOL_CNT_VIOL.lo)) (v i : Nat) :
    ViolKept s (s.setFld f v i) := ⟨fun j => fld_setFld_ne hf (by decide) h ..⟩

theorem violKept_bump {f : Fld} (hf : f.Fits)
    (h : (f.blk, f.off, f.lo) ≠ (F_LK_L_VIOL_CNT_VIOL.blk, F_LK_L_VIOL_CNT_VIOL.off, F_LK_L_VIOL_CNT_VIOL.lo)) (n i : Nat) :
    ViolKept s (s.bump f n i) := violKept_setFld hf h ..

theorem catalogKeeps_setLink (l : Nat) (x : Link) : CatalogKeeps s (s.setLink l x) := .of_eq rfl rfl rfl

theorem catalogKeeps_setSession (l i : Nat) (y : Session) : CatalogKeeps s (s.setSession l i y) := catalogKeeps_setLink ..

theorem catalogKeeps_unsend (l i : Nat) (own : Bool) : CatalogKeeps s (s.unsend l i own) := catalogKeeps_setLink ..

/-! ## What a dropped link stops -/

theorem catalogKeeps_suspendTransfers (l : Nat) (k : Option Nat) : CatalogKeeps s (s.suspendTransfers l k) := by
  unfold State.suspendTransfers
  extract_lets mine ins ins' outs z y
  have hz : CatalogKeeps s z := .of_eq rfl rfl rfl
  have hy : CatalogKeeps z y := .foldl (fun _ _ => catalogKeeps_setDesc ..) _
  exact (hz.trans hy).trans (.foldl (fun _ _ => catalogKeeps_stage ..) _)

theorem violKept_zeroise (i : Nat) (st : SlotState) : ViolKept s (s.zeroise i st) := by
  unfold State.zeroise
  extract_lets k h z
  have hz : CatalogKeeps s z := catalogKeeps_cacheCut ..
  exact hz.viol.trans (.of_regs rfl)

theorem violKept_setPeer (l st : Nat) : ViolKept s (s.setPeer l st) := by
  unfold State.setPeer
  extract_lets c z
  have hz : ViolKept s z := .of_regs rfl
  exact .ite (hz.trans (violKept_zeroise ..)) hz

theorem violKept_clearLink (l : Nat) : ViolKept s (s.clearLink l) := by
  unfold State.clearLink
  extract_lets z x y c
  have hz : ViolKept s z := (catalogKeeps_suspendTransfers ..).viol
  have hw : ViolKept z { y with cn := { c with away := setInsert y.cn.away l } } := .of_regs rfl
  exact (hz.trans hw).trans (violKept_setPeer l 0)

theorem catalogKeeps_linkTo (l : Nat) (st : LinkState) : CatalogKeeps s (s.linkTo l st) := by
  unfold State.linkTo
  extract_lets x z
  have hz : CatalogKeeps s z := .of_eq rfl rfl rfl
  exact .ite .refl (hz.trans (catalogKeeps_devEvent 2))

theorem violKept_retireSlot (i : Nat) : ViolKept s (s.retireSlot i) :=
  .ite .refl ((catalogKeeps_finishAll ..).viol.trans (.of_regs rfl))

theorem violKept_tryZeroise (i : Nat) : ViolKept s (s.tryZeroise i) := by
  unfold State.tryZeroise
  extract_lets k
  exact .ite ((violKept_zeroise ..).trans (.sweep (fun _ _ => (catalogKeeps_finish ..).viol) _)) .refl

theorem violKept_unbindDone (d : Nat) : ViolKept s (s.unbindDone d) := by
  unfold State.unbindDone
  dsimp only
  split
  · exact .refl
  · have hz : ViolKept s (s.setSession (s.desc d).e.sessionAt.1 (s.desc d).e.sessionAt.2 {}) := .of_regs rfl
    exact hz.trans (catalogKeeps_finish ..).viol

theorem violKept_tryZeroiseAll : ViolKept s s.tryZeroiseAll :=
  (ViolKept.foldl (fun _ _ => violKept_tryZeroise _) _).trans (.sweep (fun _ _ => violKept_unbindDone _) _)

theorem violKept_holdLink (l : Nat) : ViolKept s (s.holdLink l) := by
  unfold State.holdLink
  extract_lets h z k y
  have hz : ViolKept s z := (catalogKeeps_linkTo l .held).viol.trans (violKept_setFld (f := F_LK_L_HOLD_HOLDOFF) (by decide) (by decide) ..)
  have hy : ViolKept z y := .of_regs rfl
  exact (hz.trans hy).trans (catalogKeeps_report rfl).viol

theorem violKept_dropLink (l cause : Nat) (unf : List Nat) : ViolKept s (s.dropLink l cause unf) := by
  unfold State.dropLink
  extract_lets x busy dst z y w v att r recent k q
  have hz : ViolKept s z := (violKept_clearLink l).trans (catalogKeeps_linkTo l .down).viol
  have hy : ViolKept z y := CatalogKeeps.viol (t := z.poisonUnfinished dst unf) (catalogKeeps_poisonAll ..) |>.trans (catalogKeeps_finishAll ..).viol
  have hw : ViolKept y w := (violKept_setFld (f := F_LK_L_LASTDROP_CAUSE) (by decide) (by decide) ..).trans
    (violKept_bump (f := F_LK_L_DROPS_DROPS) (by decide) (by decide) ..)
  have hv : ViolKept w v := (catalogKeeps_report rfl).viol
  have hr : ViolKept v r := (ViolKept.foldl (fun _ _ => violKept_retireSlot _) _).trans violKept_tryZeroiseAll
  have hq : ViolKept r q := (catalogKeeps_setLink ..).viol
  have all : ViolKept s q := ((((hz.trans hy).trans hw).trans hv).trans hr).trans hq
  exact .ite .refl (.ite (all.trans (violKept_holdLink l)) all)

/-- A violation is counted (R389). -/
theorem violation_counted (l : Nat) (unf : List Nat) : (s.violation l unf).fld F_LK_L_VIOL_CNT_VIOL l =
    min (s.fld F_LK_L_VIOL_CNT_VIOL l + 1) (2 ^ F_LK_L_VIOL_CNT_VIOL.wid - 1) := by
  unfold State.violation
  extract_lets z v x y e
  have hy : ViolKept z y := .of_regs rfl
  have hw : ViolKept z (y.setLink l { e with viols := [] }) := .of_regs rfl
  refine (ViolKept.kept (.ite (hw.trans (violKept_dropLink ..)) hy) l).trans (State.fld_bump ..)

theorem catalogKeeps_sendFlit (l : Nat) (f : Flit) : CatalogKeeps s (s.sendFlit l f) := by
  obtain ⟨k, o, h⟩ := sendFlit_frame (s := s) l f
  rw [h]
  exact .of_eq rfl rfl rfl

/-- The closing of session 63 leaves the catalog, the constellation and their registers. -/
theorem catalogKeeps_closeSession (l : Nat) : CatalogKeeps s (s.closeSession l 63) := by
  unfold State.closeSession
  extract_lets y c z x w up v
  have hx : CatalogKeeps z x := (catalogKeeps_suspendTransfers ..).trans (catalogKeeps_unsend ..)
  have hv : CatalogKeeps x v := (catalogKeeps_setLink ..).trans (catalogKeeps_setSession ..)
  exact .ite (catalogKeeps_setSession ..) ((hx.trans hv).trans (catalogKeeps_sendFlit ..))

/-- A failed tag is counted (R396). -/
theorem tagFailed_counted (l : Nat) : (s.tagFailed l 63).fld F_LK_L_AUTH_FAIL_AUTH l =
    min (s.fld F_LK_L_AUTH_FAIL_AUTH l + 1) (2 ^ F_LK_L_AUTH_FAIL_AUTH.wid - 1) := by
  unfold State.tagFailed
  extract_lets z y f x
  have hx : CatalogKeeps z x := catalogKeeps_setSession ..
  have hk : CatalogKeeps z (if 16 ≤ f.length then x.closeSession l 63 else x) := .ite (hx.trans (catalogKeeps_closeSession l)) hx
  exact (hk.flds F_LK_L_AUTH_FAIL_AUTH (by decide) l).trans (State.fld_bump ..)

/-! ## Requests of bad form or source, or with a failed tag -/

section Req
variable (h : s.headFlit n 0 = some g) (ht : g.type = 8) (unf : List Nat) (hk : leAt g.body 0 1 ≠ 4 ∨ s.forOther g.body = true)
include h ht hk

theorem fwdReq_violates (hv : g.verdict = some true) (hf : fwdFormOk true g.body = false ∨ s.fwdSourceOk n g.body = false) :
    Leads (.fwdReq n unf) s fun t =>
      t.fld F_LK_L_VIOL_CNT_VIOL n = min (s.fld F_LK_L_VIOL_CNT_VIOL n + 1) (2 ^ F_LK_L_VIOL_CNT_VIOL.wid - 1) := by
  refine leads_next (fwdReq_bad h ht unf hk hv hf) ?_
  rw [violation_counted, fld_of_regs (popFlit_regs ..)]

theorem fwdReq_tagFails (hv : g.verdict = some false) : Leads (.fwdReq n unf) s fun t =>
    t.fld F_LK_L_AUTH_FAIL_AUTH n = min (s.fld F_LK_L_AUTH_FAIL_AUTH n + 1) (2 ^ F_LK_L_AUTH_FAIL_AUTH.wid - 1) := by
  refine leads_next (fwdReq_tag h ht unf hk hv) ?_
  rw [tagFailed_counted, fld_of_regs (popFlit_regs ..)]

end Req

end Sys2Proof.Machine
end

section
/-!
PROOFS. Answers of other members: to a forward of a command, to none, and those that come to no member.
-/
namespace Sys2Proof.Machine

variable {s t u : State} {n d i : Nat} {g : RxFlit} {f : Forward} {x : Desc}

/-! ## What an answer comes to -/

section Rsp
variable (h : s.headFlit n 2 = some g) (ht : g.type = 9) (unf : List Nat)
include h ht

theorem fwdRsp_violates (hv : g.verdict = some true) (hf : fwdFormOk false g.body = false ∨ s.fwdSourceOk n g.body = false) :
    Leads (.fwdRsp n unf) s fun t =>
      t.fld F_LK_L_VIOL_CNT_VIOL n = min (s.fld F_LK_L_VIOL_CNT_VIOL n + 1) (2 ^ F_LK_L_VIOL_CNT_VIOL.wid - 1) := by
  refine leads_next (congrArg Host.Outcome.next (onFwd_bad (ty := 9) h ht unf _ hv hf)) ?_
  rw [violation_counted, fld_of_regs (popFlit_regs ..)]

theorem fwdRsp_tagFails (hv : g.verdict = some false) : Leads (.fwdRsp n unf) s fun t =>
    t.fld F_LK_L_AUTH_FAIL_AUTH n = min (s.fld F_LK_L_AUTH_FAIL_AUTH n + 1) (2 ^ F_LK_L_AUTH_FAIL_AUTH.wid - 1) := by
  refine leads_next (congrArg Host.Outcome.next (onFwd_tag (ty := 9) h ht unf _ hv)) ?_
  rw [tagFailed_counted, fld_of_regs (popFlit_regs ..)]

section Good
variable (hv : g.verdict = some true) (hf : fwdFormOk false g.body = true) (hs : s.fwdSourceOk n g.body = true)
include hv hf hs

/-- A device outside any constellation drops an answer (R427). -/
theorem fwdRsp_dropped (hc : s.cn.st = .standalone) : Leads (.fwdRsp n unf) s fun t => t = s.popFlit n 2 := by
  refine leads_next (t := s.popFlit n 2) ?_ rfl
  show execFwdRsp n unf s = _
  unfold execFwdRsp
  rw [onFwd_good (ty := 9) h ht unf _ hv hf hs]
  dsimp only
  rw [if_pos (by rw [popFlit_cn, hc])]
  rfl

section Member
variable (hc : s.cn.st = .member)
include hc

/-- An answer for another member that has no TTL left is dropped, and counted (R435). -/
theorem fwdRsp_lost (ho : s.forOther g.body = true) (hl : leAt g.body 3 1 = 0) : Leads (.fwdRsp n unf) s fun t =>
    t.ct = s.ct ∧ t.fld F_CN_TTL_DROPS_TTL = min (s.fld F_CN_TTL_DROPS_TTL + 1) (2 ^ F_CN_TTL_DROPS_TTL.wid - 1) := by
  refine leads_next (t := (s.popFlit n 2).bump F_CN_TTL_DROPS_TTL) ?_ ⟨(ct_bump ..).trans (popFlit_ct ..), ?_⟩
  · show execFwdRsp n unf s = _
    unfold execFwdRsp
    rw [onFwd_good (ty := 9) h ht unf _ hv hf hs]
    dsimp only
    rw [if_neg (by rw [popFlit_cn, hc]; decide), if_pos (by rw [forOther_popFlit]; exact ho), if_pos hl]
    rfl
  · refine (State.fld_bump ..).trans ?_
    rw [fld_of_regs (popFlit_regs ..)]

section Mine
variable (ho : s.forOther g.body = false) (he : leAt g.body 4 4 ≤ s.fld F_CN_EPOCH_EPOCH)
include ho he

theorem fwdRsp_awaited (hw : s.ct.fwd.find? (fun f => f.sent && f.req == g.xtag && leAt f.msg 0 1 == leAt g.body 0 1) = some f) :
    exec (.fwdRsp n unf) s = .next ((s.popFlit n 2).fwdAnswer f (leAt g.body 0xA 1) g.body) := by
  show execFwdRsp n unf s = _
  unfold execFwdRsp
  rw [onFwd_good (ty := 9) h ht unf _ hv hf hs]
  dsimp only
  rw [if_neg (by rw [popFlit_cn, hc]; decide), if_neg (by rw [forOther_popFlit, ho]; decide),
    if_neg (by rw [fld_of_regs (popFlit_regs ..)]; exact Nat.not_lt.2 he), show (s.popFlit n (vcOf 9)).ct = s.ct from popFlit_ct .., hw]
  rfl

theorem fwdRsp_unawaited (hw : s.ct.fwd.find? (fun f => f.sent && f.req == g.xtag && leAt f.msg 0 1 == leAt g.body 0 1) = none) :
    exec (.fwdRsp n unf) s = .next ((s.popFlit n 2).lateHit (leAt g.body 1 1) g.body) := by
  show execFwdRsp n unf s = _
  unfold execFwdRsp
  rw [onFwd_good (ty := 9) h ht unf _ hv hf hs]
  dsimp only
  rw [if_neg (by rw [popFlit_cn, hc]; decide), if_neg (by rw [forOther_popFlit, ho]; decide),
    if_neg (by rw [fld_of_regs (popFlit_regs ..)]; exact Nat.not_lt.2 he), show (s.popFlit n (vcOf 9)).ct = s.ct from popFlit_ct .., hw]
  rfl

end Mine
end Member
end Good
end Rsp

theorem fwdRsp_none (h : (s.headFlit n 2).all (fun g => g.type != 9 || g.verdict.isNone) = true) (unf : List Nat) :
    Leads (.fwdRsp n unf) s fun t => t = s := ⟨s, congrArg Host.Outcome.next (onFlit_none (ty := 9) h _), rfl⟩

/-! ## Answers that no forward awaits -/

/-- The kinds of messages are 1 to 4 (Table 13.4). -/
theorem kind_of_fwdFormOk {req : Bool} {b : List Byte} (h : fwdFormOk req b = true) : 1 ≤ leAt b 0 1 ∧ leAt b 0 1 ≤ 4 := by
  unfold fwdFormOk at h
  simp only [Bool.and_eq_true, decide_eq_true_eq] at h
  omega

theorem lateHit_none {b : List Byte} (m : Nat) (h : leAt b 0 1 % 16 ≠ 1 ∨ leAt b 0xA 1 ≠ 0 ∨ bits (leAt b 0x20 8) 25 5 ≠ s.me) : s.lateHit m b = s := by
  refine if_neg ?_
  simp only [Bool.and_eq_true, decide_eq_true_eq]
  rintro ⟨⟨hk, hs⟩, hm⟩
  rcases h with h | h | h
  · exact h hk
  · exact h hs
  · exact h hm

theorem lateHit_hit {b : List Byte} (m : Nat) (hk : leAt b 0 1 % 16 = 1) (hs : leAt b 0xA 1 = 0) (hm : bits (leAt b 0x20 8) 25 5 = s.me) :
    s.lateHit m b = s.hitRefstate m (leAt b 8 2) (leAt b 0x10 16) (leAt b 0x20 8) true := if_pos (by simp [hk, hs, hm])

theorem length_sendFwd (d : Option Nat) (idx dest kind scope : Nat) (noref : Bool) (hash : Nat) (tail : List Byte) :
    (s.sendFwd d idx dest kind scope noref hash tail).ct.fwd.length = s.ct.fwd.length + 1 := by
  unfold State.sendFwd
  dsimp only
  rw [length_pumpFwd, List.length_append]
  rfl

theorem length_hitRefstate (hc : s.cn.st = .member) (member scope hash h : Nat) (refused : Bool) :
    s.ct.fwd.length < (s.hitRefstate member scope hash h refused).ct.fwd.length := by
  unfold State.hitRefstate
  dsimp only
  rw [if_neg (by rw [hc]; decide), length_sendFwd]
  exact Nat.lt_succ_self _

section Unawaited
variable (h : s.headFlit n 2 = some g) (ht : g.type = 9) (unf : List Nat) (hv : g.verdict = some true) (hf : fwdFormOk false g.body = true)
  (hs : s.fwdSourceOk n g.body = true) (hc : s.cn.st = .member) (ho : s.forOther g.body = false) (he : leAt g.body 4 4 ≤ s.fld F_CN_EPOCH_EPOCH)
  (hw : s.ct.fwd.find? (fun f => f.sent && f.req == g.xtag && leAt f.msg 0 1 == leAt g.body 0 1) = none)
include h ht hv hf hs hc ho he hw

/-- An answer that no forward awaits and that is no hit on a segment of this device changes nothing (R430). -/
theorem fwdRsp_late (hn : leAt g.body 0 1 ≠ 1 ∨ leAt g.body 0xA 1 ≠ 0 ∨ bits (leAt g.body 0x20 8) 25 5 ≠ s.me) :
    Leads (.fwdRsp n unf) s fun t => t = s.popFlit n 2 := by
  refine leads_next (fwdRsp_unawaited h ht unf hv hf hs hc ho he hw) (lateHit_none _ ?_)
  rw [me_popFlit]
  obtain ⟨h1, h4⟩ := kind_of_fwdFormOk hf
  rwa [Nat.mod_eq_of_lt (by omega)]

/-- The reference of a late hit on a segment of this device is refused (R430). -/
theorem fwdRsp_lateHit (hk : leAt g.body 0 1 = 1) (hz : leAt g.body 0xA 1 = 0) (hm : bits (leAt g.body 0x20 8) 25 5 = s.me) :
    Leads (.fwdRsp n unf) s fun t =>
      t = (s.popFlit n 2).hitRefstate (leAt g.body 1 1) (leAt g.body 8 2) (leAt g.body 0x10 16) (leAt g.body 0x20 8) true ∧
        s.ct.fwd.length < t.ct.fwd.length := by
  refine leads_next (fwdRsp_unawaited h ht unf hv hf hs hc ho he hw) ?_
  rw [lateHit_hit _ (by omega) hz (by rw [me_popFlit, hm])]
  refine ⟨rfl, ?_⟩
  have k := length_hitRefstate (s := s.popFlit n 2) (by rw [popFlit_cn, hc]) (leAt g.body 1 1) (leAt g.body 8 2) (leAt g.body 0x10 16)
    (leAt g.body 0x20 8) true
  rwa [popFlit_ct] at k

end Unawaited

/-! ## Answers to a forward of a command -/

/-- The forward that an answer belongs to is of its kind (R433). -/
theorem kind_of_find {l : List Forward} {k b : Nat} (hb : b ≤ 4)
    (h : l.find? (fun f => f.sent && f.req == k && leAt f.msg 0 1 == b) = some f) : leAt f.msg 0 1 % 16 = b := by
  have hp := List.find?_some h
  simp only [Bool.and_eq_true, beq_iff_eq] at hp
  rw [hp.2]
  omega

theorem insertAnswer_full (d i dest : Nat) {status : Nat} (h : status = 10) (b : List Byte) :
    s.insertAnswer (some d) i dest status b = (s.discardSeg i).finish d .capacity := by
  subst h
  rfl

theorem insertAnswer_exists (d i dest : Nat) {status : Nat} (h : status = 9) (b : List Byte) :
    s.insertAnswer (some d) i dest status b = (s.discardSeg i).finish d .ok (pubResult (leAt b 0x20 8) true) := by
  subst h
  rfl

theorem insertAnswer_moved (d i dest : Nat) {status : Nat} (h : status = 4) (b : List Byte) :
    s.insertAnswer (some d) i dest status b = (s.discardSeg i).finish d .moved := by
  subst h
  rfl

theorem pumpFwd_regs (n : Nat) : (s.pumpFwd n).regs = s.regs := by
  induction n generalizing s with
  | zero => rfl
  | succ n ih =>
    unfold State.pumpFwd
    split
    · rfl
    split
    · rfl
    · rw [ih]
      obtain ⟨k, o, h⟩ := routeMsg_frame (s := _) 8 _ _ _
      rw [h]

theorem markPub_regs (up : Bool) (l : List Nat) : (s.markPub up l).regs = s.regs := by
  induction l generalizing s with
  | nil => rfl
  | cons f l ih => exact ih

theorem discardSeg_regs (i : Nat) : (s.discardSeg i).regs = s.regs := by
  unfold State.discardSeg
  dsimp only
  split
  · exact markPub_regs ..
  · rfl

/-- An answer MOVED is counted as its forward is taken out (R180). -/
theorem fwdEnded_moved {status : Nat} (h : status = 4) (b : List Byte) : (s.fwdEnded f status b).fld F_CT_MOVED_CNT_MOVED =
    min (s.fld F_CT_MOVED_CNT_MOVED + 1) (2 ^ F_CT_MOVED_CNT_MOVED.wid - 1) := by
  unfold State.fwdEnded State.movedTo
  rw [fld_of_regs (pumpFwd_regs 1), if_pos h]
  exact State.fld_bump ..

section Awaited
variable (h : s.headFlit n 2 = some g) (ht : g.type = 9) (unf : List Nat) (hv : g.verdict = some true) (hf : fwdFormOk false g.body = true)
  (hs : s.fwdSourceOk n g.body = true) (hc : s.cn.st = .member) (ho : s.forOther g.body = false) (he : leAt g.body 4 4 ≤ s.fld F_CN_EPOCH_EPOCH)
  (hw : s.ct.fwd.find? (fun f => f.sent && f.req == g.xtag && leAt f.msg 0 1 == leAt g.body 0 1) = some f)
  (hd : f.d = some d) (hx : Waits s d .answers x)
include h ht hv hf hs hc ho he hw hd hx

omit h ht hv hs hc ho he hw hd hf in
theorem waits_fwdEnded (status : Nat) (b : List Byte) : Waits ((s.popFlit n 2).fwdEnded f status b) d .answers x :=
  ⟨(desc?_of_q ((catalogOnly_fwdEnded ..).q.trans (popFlit_q ..)) d).trans hx.1, hx.2⟩

/-- An answer to a removal or to a REFSTATE of a command ends it (R186). -/
theorem fwdRsp_ends (hk : leAt g.body 0 1 = 3 ∨ leAt g.body 0 1 = 4) :
    Leads (.fwdRsp n unf) s fun t => Ended t d .ok ∧ t.ct.fwd.length < s.ct.fwd.length := by
  refine leads_next (fwdRsp_awaited h ht unf hv hf hs hc ho he hw) ?_
  have kind := kind_of_find (by omega) hw
  have hz := waits_fwdEnded (n := n) (f := f) hx (leAt g.body 0xA 1) g.body
  have hl := length_fwdEnded (s := s.popFlit n 2) (by rw [popFlit_ct]; exact List.mem_of_find?_eq_some hw) (leAt g.body 0xA 1) g.body
  rw [popFlit_ct] at hl
  rw [fwdAnswer_eq (.inl (by omega)), hd]
  generalize (s.popFlit n 2).fwdEnded f (leAt g.body 0xA 1) g.body = z at hz hl ⊢
  rw [fwdTaken_other _ (by rw [desc_of_some hz.1, hz.2]) (by omega)]
  refine ⟨finish_ends hz.1 (not_done_of_waits hz) .., ?_⟩
  rwa [(catalogKeeps_finish ..).ct]

section Insert
variable (hk : leAt g.body 0 1 = 2)
include hk

/-- The answer to an INSERT comes to its publish. -/
theorem fwdRsp_insert (h5 : leAt g.body 0xA 1 ≠ 5) : exec (.fwdRsp n unf) s =
    .next (((s.popFlit n 2).fwdEnded f (leAt g.body 0xA 1) g.body).insertAnswer (some d)
      ((((s.popFlit n 2).fwdEnded f (leAt g.body 0xA 1) g.body).desc d).list.getD 0 0) f.dest (leAt g.body 0xA 1) g.body) := by
  have kind := kind_of_find (by omega) hw
  have hz := waits_fwdEnded (n := n) (f := f) hx (leAt g.body 0xA 1) g.body
  rw [fwdRsp_awaited h ht unf hv hf hs hc ho he hw, fwdAnswer_eq (.inr h5), hd]
  exact congrArg Host.Outcome.next (fwdTaken_insert _ (by rw [desc_of_some hz.1, hz.2]) (by omega))

omit h ht hv hf hs hc ho he hw hd hk in
/-- The publish is still there when its record has been discarded. -/
theorem waits_discarded (status i : Nat) (b : List Byte) : Waits (((s.popFlit n 2).fwdEnded f status b).discardSeg i) d .answers x :=
  ⟨(desc?_of_q (catalogOnly_discardSeg i).q d).trans (waits_fwdEnded hx ..).1, hx.2⟩

/-- A refused INSERT ends its publish E_CAPACITY (R175). -/
theorem fwdRsp_full (hz : leAt g.body 0xA 1 = 10) : Leads (.fwdRsp n unf) s fun t => Ended t d .capacity := by
  refine leads_next (fwdRsp_insert h ht unf hv hf hs hc ho he hw hd hx hk (by omega)) ?_
  rw [insertAnswer_full _ _ _ hz]
  have hy := waits_discarded (n := n) (f := f) hx
  exact finish_ends (hy ..).1 (not_done_of_waits (hy 0 0 [])) ..

/-- One whose key has an entry ends it OK with EXISTS (R167). -/
theorem fwdRsp_exists (hz : leAt g.body 0xA 1 = 9) :
    Leads (.fwdRsp n unf) s fun t => Ended t d .ok ∧ (t.desc d).res = pubResult (leAt g.body 0x20 8) true := by
  refine leads_next (fwdRsp_insert h ht unf hv hf hs hc ho he hw hd hx hk (by omega)) ?_
  rw [insertAnswer_exists _ _ _ hz]
  have hy := waits_discarded (n := n) (f := f) hx
  obtain ⟨hend, hres, -⟩ := finish_ended d x .ok (pubResult (leAt g.body 0x20 8) true) 0 (hy ..).1 (not_done_of_waits (hy 0 0 []))
  exact ⟨hend, hres⟩

/-- One that another member owns now ends it E_MOVED (R181). -/
theorem fwdRsp_moved (hz : leAt g.body 0xA 1 = 4) : Leads (.fwdRsp n unf) s fun t => Ended t d .moved ∧
    t.fld F_CT_MOVED_CNT_MOVED = min (s.fld F_CT_MOVED_CNT_MOVED + 1) (2 ^ F_CT_MOVED_CNT_MOVED.wid - 1) := by
  refine leads_next (fwdRsp_insert h ht unf hv hf hs hc ho he hw hd hx hk (by omega)) ?_
  rw [insertAnswer_moved _ _ _ hz]
  have hy := waits_discarded (n := n) (f := f) hx
  refine ⟨finish_ends (hy ..).1 (not_done_of_waits (hy 0 0 [])) .., ?_⟩
  rw [(catalogKeeps_finish ..).flds _ (by decide), fld_of_regs (discardSeg_regs _), fwdEnded_moved hz, fld_of_regs (popFlit_regs ..)]

end Insert
end Awaited

end Sys2Proof.Machine
end

section
/-!
PROOFS. Requests that are held, and records that are loaded: verified, adopted, refused.
-/
namespace Sys2Proof.Machine

variable {s t u : State} {n d i c : Nat} {x : Desc} {r : List Byte}

/-! ## Requests that are held -/

section Held
variable {h : HeldReq} {l : List HeldReq} (hl : s.cn.held = h :: l)
include hl

theorem fwdHold_young (ht : s.now < h.since + 100000000) : Leads .fwdHoldExpired s fun t => t = s := by
  refine leads_next (t := s) ?_ rfl
  show execFwdHoldExpired s = _
  unfold execFwdHoldExpired
  rw [hl]
  exact congrArg Host.Outcome.next (if_pos ht)

/-- A request that has waited 100 ms leaves the hold (R436). -/
theorem fwdHold_leaves (ht : h.since + 100000000 ≤ s.now) : Leads .fwdHoldExpired s fun t => t.cn.held = l := by
  refine leads_next (t := ({ s with cn := { s.cn with held := l } } : State).reply h.link h.f 5 []) ?_ (by rw [reply_cn])
  show execFwdHoldExpired s = _
  unfold execFwdHoldExpired
  rw [hl]
  exact congrArg Host.Outcome.next (if_neg (Nat.not_lt.2 ht))

end Held

theorem fwdHold_none (hl : s.cn.held = []) : Leads .fwdHoldExpired s fun t => t = s := by
  refine leads_next (t := s) ?_ rfl
  show execFwdHoldExpired s = _
  unfold execFwdHoldExpired
  rw [hl]

/-! ## Adoption starts -/

section Adopt
variable (r : List Byte) (d : Option Nat) (m : Option (Nat × Nat))

/-- An adoption that starts is the next record and what waits for it (R426 step 1). -/
theorem startAdopt_cn : (s.startAdopt r d m).cn = { s.cn with next := some r, nextBy := d, nextFrom := m } := (catalogKeeps_devEvent 3).cn

theorem startAdopt_switching : (s.startAdopt r d m).fld F_CN_STATUS_SWITCHING = 1 := by
  unfold State.startAdopt
  rw [(catalogKeeps_devEvent 3).flds _ (by decide), State.fld_setFld, if_pos rfl]
  rfl

theorem startAdopt_q : (s.startAdopt r d m).q = s.q := devEvent_q 3

theorem startAdopt_mg : (s.startAdopt r d m).mg = s.mg := by
  unfold State.startAdopt
  dsimp only
  obtain ⟨a, o, i, h⟩ := devEvent_frame (s := ({ s with cn := { s.cn with next := some r, nextBy := d, nextFrom := m } } : State).setFld F_CN_STATUS_SWITCHING 1) 3
  rw [h]
  rfl

end Adopt

/-! ## Records that are refused -/

/-- A refused record is counted and recorded, and leaves the constellation and the catalog as they are (R423). -/
theorem recordRefused_cn (r : List Byte) (v : Verdict) : (s.recordRefused r v).cn = s.cn := by
  cases v with
  | adopt => rfl
  | same => rfl
  | conflict => exact (catalogKeeps_report rfl).cn
  | refused c => exact (catalogKeeps_report rfl).cn

theorem recordRefused_q (r : List Byte) (v : Verdict) : (s.recordRefused r v).q = s.q := by
  cases v with
  | adopt => rfl
  | same => rfl
  | conflict => exact report_q rfl
  | refused c => exact report_q rfl

theorem recordRefused_refused (r : List Byte) (c : Nat) : (s.recordRefused r (.refused c)).fld F_CN_REFUSED_REFUSED =
    min (s.fld F_CN_REFUSED_REFUSED + 1) (2 ^ F_CN_REFUSED_REFUSED.wid - 1) := by
  unfold State.recordRefused
  exact ((catalogKeeps_report rfl).flds _ (by decide) 0).trans (State.fld_bump ..)

/-- A conflict counts as a refused record and in a counter of its own (R424). -/
theorem recordRefused_conflict (r : List Byte) :
    (s.recordRefused r .conflict).fld F_CN_REFUSED_REFUSED = min (s.fld F_CN_REFUSED_REFUSED + 1) (2 ^ F_CN_REFUSED_REFUSED.wid - 1) ∧
      (s.recordRefused r .conflict).fld F_CN_CONFLICT_CONFLICT = min (s.fld F_CN_CONFLICT_CONFLICT + 1) (2 ^ F_CN_CONFLICT_CONFLICT.wid - 1) := by
  have other (z : State) (v : Nat) : (z.setFld F_CN_CONFLICT_CONFLICT v).fld F_CN_REFUSED_REFUSED = z.fld F_CN_REFUSED_REFUSED :=
    fld_setFld_ne (by decide) (by decide) (by decide) ..
  have same (z : State) (v : Nat) : (z.setFld F_CN_REFUSED_REFUSED v).fld F_CN_CONFLICT_CONFLICT = z.fld F_CN_CONFLICT_CONFLICT :=
    fld_setFld_ne (by decide) (by decide) (by decide) ..
  unfold State.recordRefused
  dsimp only
  rw [(catalogKeeps_report rfl).flds _ (by decide), (catalogKeeps_report rfl).flds _ (by decide)]
  refine ⟨?_, ?_⟩
  · exact (other _ _).trans (State.fld_bump ..)
  · refine (State.fld_bump ..).trans ?_
    rw [show (s.bump F_CN_REFUSED_REFUSED).fld F_CN_CONFLICT_CONFLICT = s.fld F_CN_CONFLICT_CONFLICT from same _ _]

/-! ## EPOCH_LOAD -/

/-- What a load comes to once its record has been verified (R423, R721). -/
def State.epochLoaded (s : State) (d : Nat) (x : Desc) (v : Verdict) : State :=
  match v with
  | .adopt => (s.stage d .exec).startAdopt x.blk (some d) none
  | .same => s.finish d .ok (s.epochResult false)
  | _ => (s.recordRefused x.blk v).finish d .param (s.epochResult (v = .conflict)) v.check

section Load
variable (h : Runs s d 0x7F x) (ha : x.e.opA = 2)
include h ha

omit ha in
theorem epochLoad_waits (hw : s.fld F_CN_STATUS_SWITCHING = 1 ∨ ∃ p ∈ s.q.descs, p.2.runs? 0x7F = true ∧ p.2.e.opA = 2 ∧ p.2.seq < x.seq) :
    Leads (.epochLoad d) s fun t => t = s := by
  refine leads_next (t := s) ?_ rfl
  show execEpochLoad d s = _
  unfold execEpochLoad
  rw [desc_of_some h.1]
  refine congrArg Host.Outcome.next (if_pos ?_)
  rcases hw with hw | ⟨p, hp, hr, ho, hs⟩
  · simp [hw]
  · have hany : s.q.descs.any (fun p => (p.2.runs? 0x7F && p.2.e.opA == 2) && decide (p.2.seq < x.seq)) = true :=
      List.any_eq_true.2 ⟨p, hp, by simp [hr, ho, hs]⟩
    simp only [hany, Bool.or_true]

section Goes
variable (hw : s.fld F_CN_STATUS_SWITCHING = 0) (hf : ∀ p ∈ s.q.descs, p.2.runs? 0x7F = true → p.2.e.opA = 2 → x.seq ≤ p.2.seq)
include hw hf

theorem epochLoad_eq {v : Verdict} (hv : s.verifyRecord x.blk = v) : exec (.epochLoad d) s = .next (s.epochLoaded d x v) := by
  have hx : x.runs? 0x7F = true := by simp [Desc.runs?, h.2.1, h.2.2]
  have hany : s.q.descs.any (fun p => (p.2.runs? 0x7F && p.2.e.opA == 2) && decide (p.2.seq < x.seq)) = false :=
    List.any_eq_false.2 fun p hp => by
      simp only [Bool.and_eq_true, beq_iff_eq, decide_eq_true_eq, not_and, Nat.not_lt]
      exact fun ⟨hr, ho⟩ => hf p hp hr ho
  show execEpochLoad d s = _
  unfold execEpochLoad
  rw [desc_of_some h.1]
  dsimp only
  rw [if_neg (by simp [hany, hx, ha, hw]), hv]
  cases v <;> rfl

/-- A record that verifies starts its adoption (R423, R426). -/
theorem epochLoad_adopts (hv : s.verifyRecord x.blk = .adopt) : Leads (.epochLoad d) s fun t => (t.desc d).stage = .exec ∧ t.cn.next = some x.blk ∧
    t.cn.nextBy = some d ∧ t.fld F_CN_STATUS_SWITCHING = 1 ∧ t.cn.record = s.cn.record := by
  refine leads_next (epochLoad_eq h ha hw hf hv) ?_
  unfold State.epochLoaded
  dsimp only
  rw [startAdopt_cn, startAdopt_switching, desc_of_q (startAdopt_q ..), stage_stage h.1]
  refine ⟨rfl, rfl, rfl, rfl, ?_⟩
  show (s.stage d .exec).cn.record = s.cn.record
  rw [(catalogKeeps_stage ..).cn]

/-- The record in force is accepted (R424). -/
theorem epochLoad_same (hv : s.verifyRecord x.blk = .same) : Leads (.epochLoad d) s fun t => Ended t d .ok ∧ t.cn = s.cn := by
  refine leads_next (epochLoad_eq h ha hw hf hv) ⟨finish_ends h.1 ?_ .., (catalogKeeps_finish ..).cn⟩
  rw [h.2.2]
  nofun

omit ha hw hf in
theorem epochLoaded_refused {v : Verdict} (hv : v ≠ .adopt ∧ v ≠ .same) : Ended (s.epochLoaded d x v) d .param ∧
    ((s.epochLoaded d x v).desc d).detail = v.check ∧ (s.epochLoaded d x v).cn = s.cn ∧
      ∀ g : Fld, g.OfCatalog → ∀ i, (s.epochLoaded d x v).fld g i = (s.recordRefused x.blk v).fld g i := by
  have he : s.epochLoaded d x v = (s.recordRefused x.blk v).finish d .param (s.epochResult (v = .conflict)) v.check := by
    cases v with
    | adopt => exact absurd rfl hv.1
    | same => exact absurd rfl hv.2
    | conflict => rfl
    | refused c => rfl
  obtain ⟨hend, -, hdet⟩ := finish_ended d x .param (s.epochResult (v = .conflict)) v.check ((desc?_of_q (recordRefused_q x.blk v) d).trans h.1)
    (by rw [h.2.2]; nofun)
  rw [he]
  exact ⟨hend, hdet, (catalogKeeps_finish ..).cn.trans (recordRefused_cn ..), (catalogKeeps_finish ..).flds⟩

/-- A record of the epoch in force that differs is a conflict, and is refused (R424). -/
theorem epochLoad_conflict (hv : s.verifyRecord x.blk = .conflict) : Leads (.epochLoad d) s fun t => Ended t d .param ∧ (t.desc d).detail = 4 ∧
    t.cn = s.cn ∧ t.fld F_CN_REFUSED_REFUSED = min (s.fld F_CN_REFUSED_REFUSED + 1) (2 ^ F_CN_REFUSED_REFUSED.wid - 1) ∧
      t.fld F_CN_CONFLICT_CONFLICT = min (s.fld F_CN_CONFLICT_CONFLICT + 1) (2 ^ F_CN_CONFLICT_CONFLICT.wid - 1) := by
  refine leads_next (epochLoad_eq h ha hw hf hv) ?_
  obtain ⟨hend, hdet, hcn, hfld⟩ := epochLoaded_refused h (v := .conflict) ⟨nofun, nofun⟩
  rw [hfld _ (by decide), hfld _ (by decide)]
  exact ⟨hend, hdet, hcn, recordRefused_conflict _⟩

/-- A record that fails a check is refused, with the check as DETAIL (R423). -/
theorem epochLoad_refused (hv : s.verifyRecord x.blk = .refused c) : Leads (.epochLoad d) s fun t => Ended t d .param ∧ (t.desc d).detail = c ∧
    t.cn = s.cn ∧ t.fld F_CN_REFUSED_REFUSED = min (s.fld F_CN_REFUSED_REFUSED + 1) (2 ^ F_CN_REFUSED_REFUSED.wid - 1) := by
  refine leads_next (epochLoad_eq h ha hw hf hv) ?_
  obtain ⟨hend, hdet, hcn, hfld⟩ := epochLoaded_refused h (v := .refused c) ⟨nofun, nofun⟩
  rw [hfld _ (by decide)]
  exact ⟨hend, hdet, hcn, recordRefused_refused ..⟩

end Goes
end Load

end Sys2Proof.Machine
end

section
/-!
PROOFS. What the end of an adoption leaves of the constellation: its state and its registers.
-/
namespace Sys2Proof.Machine

variable {s t u : State} {n d i l : Nat}

/-- The constellation and its registers stand. -/
structure EpochKeeps (s t : State) : Prop where
  cn : t.cn = s.cn
  flds : ∀ g : Fld, g.Fits → g.blk = 12 → ∀ i, t.fld g i = s.fld g i

theorem EpochKeeps.refl : EpochKeeps s s := ⟨rfl, fun _ _ _ _ => rfl⟩

theorem EpochKeeps.of_eq (hr : t.regs = s.regs) (hc : t.cn = s.cn) : EpochKeeps s t := ⟨hc, fun _ _ _ _ => fld_of_regs hr ..⟩

theorem EpochKeeps.trans (h : EpochKeeps s t) (k : EpochKeeps t u) : EpochKeeps s u :=
  ⟨k.cn.trans h.cn, fun g hg hb i => (k.flds g hg hb i).trans (h.flds g hg hb i)⟩

theorem EpochKeeps.foldl {α : Type} {f : State → α → State} (h : ∀ z a, EpochKeeps z (f z a)) (l : List α) : EpochKeeps s (l.foldl f s) :=
  foldl_keeps (EpochKeeps s) f (fun z a k => k.trans (h z a)) l s .refl

theorem EpochKeeps.sweep {f : State → Nat → State} (h : ∀ z a, EpochKeeps z (f z a)) (l : List Nat) : EpochKeeps s (s.sweep f l) := by
  induction l generalizing s with
  | nil => exact .refl
  | cons a l ih => exact (h s a).trans ih

theorem EpochKeeps.ite {c : Prop} [Decidable c] (h : EpochKeeps s t) (k : EpochKeeps s u) : EpochKeeps s (if c then t else u) := by
  split
  · exact h
  · exact k

theorem CatalogKeeps.epoch (h : CatalogKeeps s t) : EpochKeeps s t := ⟨h.cn, fun g hg hb i => h.flds g ⟨hg, .inl (by simp [hb])⟩ i⟩

theorem CatalogOnly.epoch (h : CatalogOnly s t) : EpochKeeps s t := ⟨h.cn, fun g hg hb i => h.flds g hg (by simp [hb]) i⟩

/-! ## Messages -/

theorem sendMsg_frame (b : Nat) (req : Bool) (msg : List Byte) : ∃ k o, s.sendMsg b req msg = { s with lk := k, outbox := s.outbox ++ o } := by
  unfold State.sendMsg
  split
  · exact sendMctp_frame ..
  split
  · exact ⟨s.lk, _, foldl_emit ..⟩
  · exact ⟨s.lk, _, rfl⟩

theorem answer_frame (b : Nat) (msg : List Byte) : ∃ k o, s.answer b msg = { s with lk := k, outbox := s.outbox ++ o } := sendMsg_frame ..

@[simp] theorem answer_cn (b : Nat) (msg : List Byte) : (s.answer b msg).cn = s.cn := by
  obtain ⟨k, o, h⟩ := answer_frame (s := s) b msg
  rw [h]

@[simp] theorem answer_regs (b : Nat) (msg : List Byte) : (s.answer b msg).regs = s.regs := by
  obtain ⟨k, o, h⟩ := answer_frame (s := s) b msg
  rw [h]

/-- An answer on the bindings of the host and of the management controller goes out as the packets of its message (R470). -/
theorem answer_outbox {b : Nat} (hb : b < 2) (msg : List Byte) :
    (s.answer b msg).outbox = s.outbox ++ (mctpPackets 64 (kvGet 0 s.mg.eid b) false msg).map (Msg.mctp b) := by
  unfold State.answer State.sendMsg
  rw [if_neg (by simp; omega), if_pos hb, foldl_emit, mctpUnit, if_pos hb]

theorem epochKeeps_sendMctp (l : Nat) (req : Bool) (msg : List Byte) : EpochKeeps s (s.sendMctp l req msg) := by
  obtain ⟨k, o, h⟩ := sendMctp_frame (s := s) l req msg
  rw [h]
  exact .of_eq rfl rfl

theorem epochKeeps_reply (l : Nat) (f : Flit) (status : Nat) (tail : List Byte) : EpochKeeps s (s.reply l f status tail) :=
  .of_eq (reply_regs ..) (reply_cn ..)

theorem epochKeeps_answer (b : Nat) (msg : List Byte) : EpochKeeps s (s.answer b msg) := .of_eq (answer_regs ..) (answer_cn ..)

/-! ## Sessions that open -/

theorem epochKeeps_ringRead (ring metas : List Nat) (base off n : Nat) (w : For) : EpochKeeps s (s.ringRead ring metas base off n w).1 :=
  CatalogKeeps.epoch (catalogKeeps_readPieces ..)

/-- What the entries of a queue come to once the first of them has been read. -/
def cqNext (f : State → State × List Byte) : State × Option (List Byte) → State × List Byte
  | (z, none) => (z, [])
  | (z, some b) => ((f z).1, b ++ (f z).2)

theorem cqEntries_succ (q n i : Nat) : s.cqEntries q (n + 1) i = cqNext (fun z => z.cqEntries q n ((i + 1) % z.ringSize q))
    (s.ringRead (s.queue q).cqRing (s.queue q).cqMeta (s.base F_QE_Q_CQBASE_CQBASE_LO F_QE_Q_CQBASE_CQBASE_HI q) (i * 32) 32
      ((s.queue q).who q)) := by
  suffices key : ∀ g r, g = State.cqEntries → r = State.ringRead →
      g s q (n + 1) i = cqNext (fun z => g z q n ((i + 1) % z.ringSize q)) (r s (s.queue q).cqRing (s.queue q).cqMeta
        (s.base F_QE_Q_CQBASE_CQBASE_LO F_QE_Q_CQBASE_CQBASE_HI q) (i * 32) 32 ((s.queue q).who q)) from key _ _ rfl rfl
  intro g r hg hr
  delta State.cqEntries State.cqEntries._f at hg
  rw [← hr] at hg
  subst hg
  clear hr
  rfl

theorem epochKeeps_cqEntries (q n i : Nat) : EpochKeeps s (s.cqEntries q n i).1 := by
  induction n generalizing s i with
  | zero => exact .refl
  | succ n ih =>
    rw [cqEntries_succ]
    have k := epochKeeps_ringRead (s := s) (s.queue q).cqRing (s.queue q).cqMeta (s.base F_QE_Q_CQBASE_CQBASE_LO F_QE_Q_CQBASE_CQBASE_HI q)
      (i * 32) 32 ((s.queue q).who q)
    generalize s.ringRead _ _ _ _ _ _ = p at k ⊢
    obtain ⟨z, o⟩ := p
    cases o with
    | none => exact k
    | some b => exact k.trans (ih _)

theorem epochKeeps_resendCq (q n i : Nat) : EpochKeeps s (s.resendCq q n i) := by
  induction n generalizing s i with
  | zero => exact .refl
  | succ n ih =>
    unfold State.resendCq
    dsimp only
    have k := epochKeeps_cqEntries (s := s) q (min 6 (((s.queue q).cqTail + s.ringSize q - i) % s.ringSize q)) i
    generalize s.cqEntries q (min 6 (((s.queue q).cqTail + s.ringSize q - i) % s.ringSize q)) i = p at k ⊢
    exact .ite .refl (.ite (k.trans (ih _)) ((k.trans (catalogKeeps_sendMsgs ..).epoch).trans (ih _)))

theorem epochKeeps_sendQstate (q : Nat) : EpochKeeps s (s.sendQstate q) := .ite (catalogKeeps_sendFlit ..).epoch .refl

theorem epochKeeps_pumpFwd (n : Nat) : EpochKeeps s (s.pumpFwd n) := (catalogOnly_pumpFwd n).epoch

theorem epochKeeps_sessionOpened (l i : Nat) : EpochKeeps s (s.sessionOpened l i) := by
  unfold State.sessionOpened
  dsimp only
  refine .ite (epochKeeps_pumpFwd _) (.ite .refl ((EpochKeeps.sweep (fun _ _ => epochKeeps_sendQstate _) _).trans (.sweep (fun z q => ?_) _)))
  exact EpochKeeps.trans (t := z.setQueue q _) (.of_eq rfl rfl) (epochKeeps_resendCq ..)

theorem epochKeeps_askOpen (l i : Nat) : EpochKeeps s (s.askOpen l i) := by
  unfold State.askOpen
  dsimp only
  refine .ite ?_ .refl
  exact EpochKeeps.trans (t := s.draw.setSession l i _) (.of_eq rfl rfl) (catalogKeeps_sendFlit ..).epoch

theorem epochKeeps_askOpenAll (l : Nat) : EpochKeeps s (s.askOpenAll l) := .foldl (fun _ _ => epochKeeps_askOpen ..) _

/-- A link that leaves QUARANTINE for its partner's epoch changes nothing of the constellation (R409). -/
theorem epochKeeps_epochAgrees (l : Nat) : EpochKeeps s (s.epochAgrees l) := by
  unfold State.epochAgrees
  dsimp only
  refine .ite ?_ .refl
  refine EpochKeeps.trans ?_ (.foldl (fun _ _ => epochKeeps_sessionOpened ..) _)
  exact ((catalogKeeps_setLink ..).trans (catalogKeeps_linkTo ..)).epoch.trans (epochKeeps_askOpenAll l)

theorem epochKeeps_partnerAt (l : Nat) : EpochKeeps s (s.partnerAt l) := (catalogKeeps_setLink ..).epoch.trans (epochKeeps_epochAgrees l)

end Sys2Proof.Machine
end

section
/-!
PROOFS. Records over MCTP: asked for, put, and messages that come in packets.
-/
namespace Sys2Proof.Machine

variable {s t u : State} {n b i e c : Nat} {r : List Byte} {g : RxFlit}

/-! ## GET_EPOCH_RECORD -/

section Get
variable (i : Nat) (hb : s.bindUp b = true)
include hb

/-- The record in force is the answer to a request for it (R478). -/
theorem getEpochRecord_gives (hc : s.cn.st ≠ .standalone) (he : e = 0 ∨ e = s.fld F_CN_EPOCH_EPOCH) :
    exec (.getEpochRecord b i e) s = .next (s.answer b (vendorMsg false i 1 (some 0) s.cn.record)) := by
  show execGetEpochRecord b i e s = _
  unfold execGetEpochRecord
  rw [hb, if_neg (by decide), if_neg]
  rcases he with he | he <;> simp [hc, he]

theorem getEpochRecord_none (hc : s.cn.st = .standalone ∨ (e ≠ 0 ∧ e ≠ s.fld F_CN_EPOCH_EPOCH)) :
    exec (.getEpochRecord b i e) s = .next (s.answer b (vendorMsg false i 1 (some 4) [])) := by
  show execGetEpochRecord b i e s = _
  unfold execGetEpochRecord
  rw [hb, if_neg (by decide), if_pos]
  rcases hc with hc | ⟨h0, he⟩
  · simp [hc]
  · simp [h0, he]

end Get

theorem getEpochRecord_down (hb : s.bindUp b = false) (i e : Nat) : Leads (.getEpochRecord b i e) s fun t => t = s := by
  refine leads_next (t := s) ?_ rfl
  show execGetEpochRecord b i e s = _
  unfold execGetEpochRecord
  rw [hb]
  rfl

/-! ## PUT_EPOCH_RECORD -/

/-- What a record that a member puts comes to once it has been verified (R423 to R427, R478). -/
def State.recordPut (s : State) (b i : Nat) (r : List Byte) (v : Verdict) : State :=
  match v with
  | .adopt => s.startAdopt r none (some (b, i))
  | .same => (s.answer b (vendorMsg false i 2 (some 0) [0])).partnerAt (b - 2)
  | _ => (s.recordRefused r v).answer b (vendorMsg false i 2 (some 2) [BitVec.ofNat 8 v.check])

theorem putEpochRecord_down (hb : s.bindUp b = false) (i : Nat) (r : List Byte) : Leads (.putEpochRecord b i r) s fun t => t = s := by
  refine leads_next (t := s) ?_ rfl
  show execPutEpochRecord b i r s = _
  unfold execPutEpochRecord
  rw [hb]
  rfl

section Put
variable (hb : s.bindUp b = true)
include hb

/-- A record that the host or the management controller puts is refused (R478). -/
theorem putEpochRecord_unlinked (i : Nat) (r : List Byte) (h2 : b < 2 ∨ (s.link (b - 2)).partner.map (·.role) ≠ some 0) :
    exec (.putEpochRecord b i r) s = .next (s.answer b (vendorMsg false i 2 (some 5) [])) := by
  show execPutEpochRecord b i r s = _
  unfold execPutEpochRecord
  rw [hb, if_neg (by decide), if_pos]
  rcases h2 with h2 | h2 <;> simp [h2]

theorem putEpochRecord_unheard (i : Nat) (r : List Byte) (h2 : b < 2) : Leads (.putEpochRecord b i r) s fun t =>
    t.outbox = s.outbox ++ (mctpPackets 64 (kvGet 0 s.mg.eid b) false (vendorMsg false i 2 (some 5) [])).map (Msg.mctp b) ∧ t.cn = s.cn :=
  leads_next (putEpochRecord_unlinked hb i r (.inl h2)) ⟨answer_outbox h2 _, answer_cn ..⟩

section Linked
variable (h2 : 2 ≤ b)
include h2

/-- One of another partner, of another length, or that comes while an epoch switches is refused before it is read (R478). -/
theorem putEpochRecord_unread (i : Nat)
    (h : (s.link (b - 2)).partner.map (·.role) ≠ some 0 ∨ r.length ≠ 2688 ∨ s.fld F_CN_STATUS_SWITCHING = 1) :
    Leads (.putEpochRecord b i r) s fun t => t.cn = s.cn ∧ t.regs = s.regs := by
  have answered (m : List Byte) (he : exec (.putEpochRecord b i r) s = .next (s.answer b m)) :
      Leads (.putEpochRecord b i r) s fun t => t.cn = s.cn ∧ t.regs = s.regs := leads_next he ⟨answer_cn .., answer_regs ..⟩
  by_cases hp : (s.link (b - 2)).partner.map (·.role) = some 0
  · have h := h.resolve_left (not_not_intro hp)
    refine answered (vendorMsg false i 2 (some (if r.length = 2688 then 6 else 3)) []) ?_
    show execPutEpochRecord b i r s = _
    unfold execPutEpochRecord
    rw [hb, if_neg (by decide), if_neg (by simp [hp, Nat.not_lt.2 h2])]
    by_cases hr : r.length = 2688
    · rw [if_neg (not_not_intro hr), if_pos (by simp [h.resolve_left (not_not_intro hr)]), if_pos hr]
    · rw [if_pos hr, if_neg hr]
  · exact answered _ (putEpochRecord_unlinked hb i r (.inr hp))

section Read
variable (hp : (s.link (b - 2)).partner.map (·.role) = some 0) (hr : r.length = 2688) (hw : s.fld F_CN_STATUS_SWITCHING = 0)
include hp hr hw

theorem putEpochRecord_eq (i : Nat) {v : Verdict} (hv : s.verifyRecord r = v) : exec (.putEpochRecord b i r) s = .next (s.recordPut b i r v) := by
  show execPutEpochRecord b i r s = _
  unfold execPutEpochRecord
  dsimp only
  rw [hb, if_neg (by decide), if_neg (by simp [hp, Nat.not_lt.2 h2]), if_neg (not_not_intro hr), if_neg (by simp [hw]), hv]
  cases v <;> rfl

/-- A record that verifies starts its adoption (R423, R478). -/
theorem putEpochRecord_adopts (i : Nat) (hv : s.verifyRecord r = .adopt) :
    Leads (.putEpochRecord b i r) s fun t => t.cn.next = some r ∧ t.cn.nextFrom = some (b, i) ∧ t.fld F_CN_STATUS_SWITCHING = 1 := by
  refine leads_next (putEpochRecord_eq hb h2 hp hr hw i hv) ?_
  unfold State.recordPut
  dsimp only
  rw [startAdopt_cn]
  exact ⟨rfl, rfl, startAdopt_switching ..⟩

/-- The record in force is accepted (R424). -/
theorem putEpochRecord_same (i : Nat) (hv : s.verifyRecord r = .same) : Leads (.putEpochRecord b i r) s fun t => t.cn = s.cn :=
  leads_next (putEpochRecord_eq hb h2 hp hr hw i hv) ((epochKeeps_partnerAt _).cn.trans (answer_cn ..))

/-- One that fails a check is refused, and counted (R423). -/
theorem putEpochRecord_refused (i : Nat) (hv : s.verifyRecord r = .refused c) : Leads (.putEpochRecord b i r) s fun t =>
    t.cn = s.cn ∧ t.fld F_CN_REFUSED_REFUSED = min (s.fld F_CN_REFUSED_REFUSED + 1) (2 ^ F_CN_REFUSED_REFUSED.wid - 1) := by
  refine leads_next (putEpochRecord_eq hb h2 hp hr hw i hv) ?_
  unfold State.recordPut
  dsimp only
  rw [answer_cn, fld_of_regs (answer_regs ..)]
  exact ⟨recordRefused_cn .., recordRefused_refused ..⟩

end Read
end Linked
end Put

/-! ## Messages that come in packets -/

/-- What a record that answers GET_EPOCH_RECORD comes to once it has been verified (R423). -/
def State.recordCame (s : State) (r : List Byte) (v : Verdict) : State :=
  match v with
  | .adopt => s.startAdopt r none none
  | v => s.recordRefused r v

/-- What a message that has come whole over MGMT comes to (R384, R469). -/
def State.mgmtMsg (s : State) (l : Nat) (m : List Byte) : State :=
  let ty := leAt m 0 1 % 128
  if !(ty == 0 || ty == 5 || ty == 6 || ty == 0x7E) then s.bump F_HP_MCTP_DROP_DROP
  else if ty = 0x7E && !bit (leAt m 3 1) 7 && leAt m 4 1 = 1 && leAt m 5 1 = 0 && s.fld F_CN_STATUS_SWITCHING == 0 then
    s.recordCame (m.drop 6) (s.verifyRecord (m.drop 6))
  else s.unknownCmd (2 + l) m

theorem mgmt_eq {ok : Bool} (h : s.headFlit n 3 = some g) (ht : g.type = 11) (hv : g.verdict = some ok) :
    exec (.mgmt n) s = .next ((s.popFlit n 3).mctpPacket (2 + n) g.body fun z m => z.mgmtMsg n m) := by
  refine congrArg Host.Outcome.next ((onFlit_taken (ty := 11) h hv ht _).trans ?_)
  rfl

theorem mgmt_none (h : (s.headFlit n 3).all (fun g => g.type != 11 || g.verdict.isNone) = true) : Leads (.mgmt n) s fun t => t = s :=
  leads_next (congrArg Host.Outcome.next (onFlit_none (ty := 11) h _)) rfl

section Packet
variable (p : List Byte) (f : State → List Byte → State)

section Fresh
variable (ha : s.mg.asm = [])
include ha

theorem asm_nil_update : ({ s with mg := { s.mg with asm := [] } } : State) = s := by rw [← ha]

/-- A packet that starts no message is dropped where none is open (R470). -/
theorem mctpPacket_stray (b : Nat) (hs : bit (leAt p 3 1) 7 = false) :
    s.mctpPacket b p f = s.mctpDrop b (leAt p 2 1) (leAt p 3 1 % 16) := by
  unfold State.mctpPacket
  simp [ha, hs]

section Starts
variable (hs : bit (leAt p 3 1) 7 = true) (hl : p.length ≤ 4100)
include hs hl

/-- A packet that starts a message opens its reassembly (R470). -/
theorem mctpPacket_opens (b : Nat) (he : bit (leAt p 3 1) 6 = false) : (s.mctpPacket b p f).mg.asm =
    [{ bind := b, src := leAt p 2 1, tag := leAt p 3 1 % 16, seq := leAt p 3 1 / 16 % 4, body := p.drop 4 }] := by
  have hd : ¬4096 < p.length - 4 := by omega
  unfold State.mctpPacket
  simp [ha, hs, he, hd]

/-- One that starts and ends it is the message (R470). -/
theorem mctpPacket_single (b : Nat) (he : bit (leAt p 3 1) 6 = true) : s.mctpPacket b p f = f s (p.drop 4) := by
  conv =>
    rhs
    rw [← asm_nil_update ha]
  have hd : ¬4096 < p.length - 4 := by omega
  unfold State.mctpPacket
  simp [ha, hs, he, hd]

end Starts
end Fresh

/-- The packet that ends a message of which the others have come (R470). -/
theorem mctpPacket_last {b : Nat} {r : Reasm} (ha : s.mg.asm = [r]) (hf : r.from_ b (leAt p 2 1) (leAt p 3 1 % 16) = true)
    (hs : bit (leAt p 3 1) 7 = false) (he : bit (leAt p 3 1) 6 = true) (hq : leAt p 3 1 / 16 % 4 = (r.seq + 1) % 4)
    (hl : (r.body ++ p.drop 4).length ≤ 4096) :
    s.mctpPacket b p f = f { s with mg := { s.mg with asm := [] } } (r.body ++ p.drop 4) := by
  rw [List.length_append, List.length_drop] at hl
  have hb : ¬4096 < p.length - 4 := by omega
  have ht : ¬4096 < r.body.length + (p.length - 4) := by omega
  unfold State.mctpPacket
  simp [ha, hf, hs, he, hq, hb, ht]

end Packet

/-! ## Messages on MGMT -/

theorem verifyRecord_of (hr : t.regs = s.regs) (hc : t.cn = s.cn) (r : List Byte) : t.verifyRecord r = s.verifyRecord r := by
  have hk : t.cnKey = s.cnKey := by simp only [State.cnKey, fld_of_regs hr]
  unfold State.verifyRecord State.recordSigned
  dsimp only
  rw [fld_of_regs hr F_CN_ID_ID, fld_of_regs hr F_CN_EPOCH_EPOCH, hc, hk]

/-- A message of a type that is not answered on MGMT is dropped, and counted (R469). -/
theorem mgmtMsg_dropped {m : List Byte} (h : leAt m 0 1 % 128 ∉ [0, 5, 6, 126]) (l : Nat) : s.mgmtMsg l m = s.bump F_HP_MCTP_DROP_DROP := by
  simp only [List.mem_cons, List.not_mem_nil, or_false, not_or] at h
  exact if_pos (by simp [h])

theorem mgmtMsg_unknown {m : List Byte} (h : leAt m 0 1 % 128 ∈ [0, 5, 6]) (l : Nat) : s.mgmtMsg l m = s.unknownCmd (2 + l) m := by
  simp only [List.mem_cons, List.not_mem_nil, or_false] at h
  unfold State.mgmtMsg
  dsimp only
  rcases h with h | h | h <;> rw [h] <;> rfl

theorem leAt_take {k n : Nat} (m : List Byte) (h : k + 1 ≤ n) : leAt (m.take n) k 1 = leAt m k 1 := by
  unfold leAt
  rw [List.drop_take, List.take_take, min_eq_left (by omega)]

/-- A message that starts as the answer to GET_EPOCH_RECORD brings a record (R478). -/
theorem mgmtMsg_record {m : List Byte} (h : m.take 6 = vendorMsg false 0 1 (some 0) []) (hw : s.fld F_CN_STATUS_SWITCHING = 0) (l : Nat) :
    s.mgmtMsg l m = s.recordCame (m.drop 6) (s.verifyRecord (m.drop 6)) := by
  have byte (k : Nat) (hk : k + 1 ≤ 6) : leAt m k 1 = leAt (vendorMsg false 0 1 (some 0) []) k 1 := by rw [← h, leAt_take m hk]
  unfold State.mgmtMsg
  dsimp only
  rw [byte 0 (by omega), byte 3 (by omega), byte 4 (by omega), byte 5 (by omega), hw]
  rfl

section Mgmt
variable (h : s.headFlit n 3 = some g) (ht : g.type = 11) (hv : g.verdict.isSome = true)
include h ht hv

section Fresh
variable (ha : s.mg.asm = [])
include ha

theorem mgmt_stray (hs : bit (leAt g.body 3 1) 7 = false) : Leads (.mgmt n) s fun t => t.mg.asm = [] ∧
    t.fld F_HP_MCTP_DROP_DROP = min (s.fld F_HP_MCTP_DROP_DROP + 1) (2 ^ F_HP_MCTP_DROP_DROP.wid - 1) := by
  obtain ⟨ok, hv⟩ := Option.isSome_iff_exists.1 hv
  refine leads_next (mgmt_eq h ht hv) ?_
  rw [mctpPacket_stray _ _ (by rw [popFlit_mg, ha]) _ hs]
  unfold State.mctpDrop
  refine ⟨?_, (State.fld_bump ..).trans ?_⟩
  · show (s.popFlit n 3).mg.asm.filter _ = []
    rw [popFlit_mg, ha]
    rfl
  · exact congrArg (fun v => min (v + 1) _) (fld_of_regs (popFlit_regs (s := s) n 3) F_HP_MCTP_DROP_DROP 0)

section Starts
variable (hs : bit (leAt g.body 3 1) 7 = true) (hl : g.body.length ≤ 4100)
include hs hl

/-- The first packet of a message opens its reassembly (R470). -/
theorem mgmt_opens (he : bit (leAt g.body 3 1) 6 = false) : Leads (.mgmt n) s fun t => t.mg.asm =
    [{ bind := 2 + n, src := leAt g.body 2 1, tag := leAt g.body 3 1 % 16, seq := leAt g.body 3 1 / 16 % 4, body := g.body.drop 4 }] := by
  obtain ⟨ok, hv⟩ := Option.isSome_iff_exists.1 hv
  exact leads_next (mgmt_eq h ht hv) (mctpPacket_opens _ _ (by rw [popFlit_mg, ha]) hs hl _ he)

theorem mgmt_single (he : bit (leAt g.body 3 1) 6 = true) : exec (.mgmt n) s = .next ((s.popFlit n 3).mgmtMsg n (g.body.drop 4)) := by
  obtain ⟨ok, hv⟩ := Option.isSome_iff_exists.1 hv
  rw [mgmt_eq h ht hv, mctpPacket_single _ _ (by rw [popFlit_mg, ha]) hs hl _ he]

/-- A message of a type that is not answered is dropped, and counted (R469). -/
theorem mgmt_drops (he : bit (leAt g.body 3 1) 6 = true) (hty : leAt (g.body.drop 4) 0 1 % 128 ∉ [0, 5, 6, 126]) :
    Leads (.mgmt n) s fun t => t.mg.asm = [] ∧
      t.fld F_HP_MCTP_DROP_DROP = min (s.fld F_HP_MCTP_DROP_DROP + 1) (2 ^ F_HP_MCTP_DROP_DROP.wid - 1) := by
  refine leads_next (mgmt_single h ht hv ha hs hl he) ?_
  rw [mgmtMsg_dropped hty]
  refine ⟨?_, (State.fld_bump ..).trans ?_⟩
  · show (s.popFlit n 3).mg.asm = []
    rw [popFlit_mg, ha]
  · rw [fld_of_regs (popFlit_regs ..)]

theorem mgmt_unknown (he : bit (leAt g.body 3 1) 6 = true) (hty : leAt (g.body.drop 4) 0 1 % 128 ∈ [0, 5, 6]) :
    Leads (.mgmt n) s fun t => t = (s.popFlit n 3).unknownCmd (2 + n) (g.body.drop 4) :=
  leads_next (mgmt_single h ht hv ha hs hl he) (mgmtMsg_unknown hty n)

end Starts
end Fresh

/-- The record that answers GET_EPOCH_RECORD is verified, and its adoption starts (R423, R478). -/
theorem mgmt_adopts {r : Reasm} (ha : s.mg.asm = [r]) (hf : r.from_ (2 + n) (leAt g.body 2 1) (leAt g.body 3 1 % 16) = true)
    (hs : bit (leAt g.body 3 1) 7 = false) (he : bit (leAt g.body 3 1) 6 = true) (hq : leAt g.body 3 1 / 16 % 4 = (r.seq + 1) % 4)
    (hl : (r.body ++ g.body.drop 4).length ≤ 4096) (hm : (r.body ++ g.body.drop 4).take 6 = vendorMsg false 0 1 (some 0) [])
    (hw : s.fld F_CN_STATUS_SWITCHING = 0) (ho : s.verifyRecord ((r.body ++ g.body.drop 4).drop 6) = .adopt) :
    Leads (.mgmt n) s fun t => t.mg.asm = [] ∧ t.cn.next = some ((r.body ++ g.body.drop 4).drop 6) ∧ t.fld F_CN_STATUS_SWITCHING = 1 := by
  obtain ⟨ok, hv⟩ := Option.isSome_iff_exists.1 hv
  refine leads_next (mgmt_eq h ht hv) ?_
  rw [mctpPacket_last _ _ (by rw [popFlit_mg, ha]) hf hs he hq hl]
  have hr : ({ s.popFlit n 3 with mg := { (s.popFlit n 3).mg with asm := [] } } : State).regs = s.regs := popFlit_regs ..
  have hc : ({ s.popFlit n 3 with mg := { (s.popFlit n 3).mg with asm := [] } } : State).cn = s.cn := popFlit_cn ..
  have hg : ({ s.popFlit n 3 with mg := { (s.popFlit n 3).mg with asm := [] } } : State).mg.asm = [] := rfl
  generalize ({ s.popFlit n 3 with mg := { (s.popFlit n 3).mg with asm := [] } } : State) = z at hr hc hg ⊢
  rw [mgmtMsg_record hm (by rw [fld_of_regs hr, hw]), verifyRecord_of hr hc, ho]
  unfold State.recordCame
  dsimp only
  rw [startAdopt_mg, startAdopt_cn]
  exact ⟨hg, rfl, startAdopt_switching ..⟩

end Mgmt

end Sys2Proof.Machine
end

section
/-!
PROOFS. EPOCH_SWITCH: the record, its epoch and this device's place in it come into force, and what follows leaves them.
-/
namespace Sys2Proof.Machine

variable {s t u : State} {n d i l : Nat} {r : List Byte}

/-! ## The forwards that waited -/

theorem epochKeeps_finish (d : Nat) (st : Status) (res : Result) (detail : Nat) : EpochKeeps s (s.finish d st res detail) :=
  (catalogKeeps_finish ..).epoch

theorem epochKeeps_sendFwd (d : Option Nat) (idx dest kind scope : Nat) (noref : Bool) (hash : Nat) (tail : List Byte) :
    EpochKeeps s (s.sendFwd d idx dest kind scope noref hash tail) := (catalogOnly_sendFwd ..).epoch

theorem epochKeeps_setSeg (i : Nat) (y : SegRec) : EpochKeeps s (s.setSeg i y) := (catalogOnly_setSeg ..).epoch

theorem epochKeeps_publishEnd (d : Nat) (i : Nat) (o : Inserted) : EpochKeeps s (s.publishEnd (some d) i o) := by
  cases o with
  | done => exact ((epochKeeps_setSeg ..).trans (epochKeeps_finish ..)).trans (catalogOnly_dropOrphan i).epoch
  | exists_ h => exact (catalogOnly_discardSeg i).epoch.trans (epochKeeps_finish ..)
  | capacity => exact (catalogOnly_discardSeg i).epoch.trans (epochKeeps_finish ..)

theorem epochKeeps_publishInsert (d : Nat) : EpochKeeps s (s.publishInsert d) := by
  unfold State.publishInsert
  refine have_of (P := EpochKeeps s) ?_
  refine have_of (P := EpochKeeps s) ?_
  refine have_of (P := EpochKeeps s) ?_
  refine .ite .refl ?_
  refine have_of (P := EpochKeeps s) ?_
  refine have_of (P := EpochKeeps s) ?_
  refine .ite ?_ ?_
  · have k := (catalogOnly_indexInsert (s := s) (s.publishEntry (s.desc d) ((s.desc d).list.getD 0 0))).epoch
    obtain ⟨z, o, hp⟩ : ∃ z o, s.indexInsert (s.publishEntry (s.desc d) ((s.desc d).list.getD 0 0)) = (z, o) := ⟨_, _, Prod.mk.eta.symm⟩
    rw [hp] at k
    unfold State.publishEntry at hp
    rw [hp]
    exact k.trans (epochKeeps_publishEnd ..)
  · exact ((epochKeeps_setSeg ..).trans (catalogKeeps_stage ..).epoch).trans (epochKeeps_sendFwd ..)

theorem epochKeeps_lookupDone (d : Nat) : EpochKeeps s (s.lookupDone d) := by
  unfold State.lookupDone
  extract_lets x rs b res st c z
  have hz : EpochKeeps s z := (catalogOnly_ct _).epoch
  refine .ite .refl (.ite (hz.trans (catalogKeeps_returnData ..).epoch) ?_)
  have k : EpochKeeps z (z.writeAccess x.dst x.dmeta x.e.opB b {} x.who).1 := CatalogKeeps.epoch (catalogKeeps_writePieces ..)
  generalize z.writeAccess x.dst x.dmeta x.e.opB b {} x.who = p at k ⊢
  exact (hz.trans k).trans (.ite (epochKeeps_finish ..) (epochKeeps_finish ..))

/-- A forward that goes again under the new map changes nothing of the constellation (R426 step 4). -/
theorem epochKeeps_reforward (f : Forward) : EpochKeeps s (s.reforward f) := by
  unfold State.reforward
  dsimp only
  split
  · refine .ite (.ite ((catalogOnly_lookupGo ..).epoch.trans (epochKeeps_lookupDone _)) .refl) (.ite .refl (.ite (epochKeeps_publishInsert _) ?_))
    exact .ite (epochKeeps_sendFwd ..) (epochKeeps_finish ..)
  · exact .ite (epochKeeps_sendFwd ..) .refl

/-! ## The requests that were held -/

theorem epochKeeps_serveLookup (l : Nat) (f : Flit) : EpochKeeps s (s.serveLookup l f) := by
  cases h : s.findEntry (leAt f.body 0x10 16) (Scope.ofNum (leAt f.body 8 2)) with
  | none =>
    rw [serveLookup_miss h]
    exact (catalogOnly_countLookup ..).epoch.trans (epochKeeps_reply ..)
  | some e =>
    unfold State.serveLookup
    dsimp only
    rw [h]
    have k := (catalogOnly_countLookup (s := s) (Scope.ofNum (leAt f.body 8 2)) true).trans
      (catalogOnly_touchEntry (leAt f.body 0x10 16) (Scope.ofNum (leAt f.body 8 2)))
    exact (k.trans (.ite (catalogOnly_editEntry ..) .refl)).epoch.trans (epochKeeps_reply ..)

theorem epochKeeps_serveInsert (l : Nat) (f : Flit) : EpochKeeps s (s.serveInsert l f) := by
  have k := (catalogOnly_indexInsert (s := s) (askedEntry f)).epoch
  rcases hp : s.indexInsert (askedEntry f) with ⟨z, o⟩
  rw [hp] at k
  rw [serveInsert_eq hp]
  cases o <;> exact k.trans (epochKeeps_reply ..)

theorem epochKeeps_serve (l : Nat) (f : Flit) : EpochKeeps s (s.serve l f) := by
  have remove : EpochKeeps s (s.serveRemove l f) :=
    .ite ((catalogOnly_removeEntries _).epoch.trans (epochKeeps_reply ..)) (epochKeeps_reply ..)
  have refstate : EpochKeeps s (s.serveRefstate l f) := (catalogOnly_editEntry ..).epoch.trans (epochKeeps_reply ..)
  exact .ite (epochKeeps_reply ..) (.ite (epochKeeps_serveLookup ..) (.ite (epochKeeps_serveInsert ..) (.ite remove refstate)))

/-- Of the constellation, only the hold changes as the requests that the epoch covers are handled (R436). -/
theorem serveHeld_keeps : ∃ h, EpochKeeps { s with cn := { s.cn with held := h } } s.serveHeld :=
  ⟨_, EpochKeeps.foldl (fun _ _ => epochKeeps_serve ..) _⟩

/-! ## The switch -/

/-- The state in which a record has come into force (R426 steps 3 and 5). -/
def State.recordInForce (s : State) (r : List Byte) : State :=
  let me := s.ownIndex r
  let c := s.cn
  let z := s.epochPurge c.record r c.st s.me me
  let y := { z with
    cn := { z.cn with
      st := if me.isSome then .member else .departed, member := me.getD 0, record := r, next := none, nextBy := none
      nextFrom := none, routeLink := match me with | some m => z.epochRoutes r m | none => []
      steered := decide (c.st = Membership.member) && c.steered, away := []
      since := if c.st = Membership.member then c.since else z.now }
    ct := { z.ct with routes := [] } }
  (((((y.setFld F_CN_EPOCH_EPOCH (recEpoch r)).setFld F_CN_STATUS_STATE (if me.isSome then 1 else 2)).setFld
    F_CN_STATUS_MEMBER (me.getD 0)).setFld F_CN_STATUS_TIME_SOURCE (b2n (me == some (recAt r 0x10 % 32)))).setFld
    F_CN_STATUS_SWITCHING 0).devEvent 3

/-- The forwards and the answers that waited for the switch go out. -/
def State.waitedGo (s : State) (by_ : Option Nat) (m : Option (Nat × Nat)) : State :=
  let waits := s.ct.fwd.filter (fun (f : Forward) => !f.sent)
  let z := waits.foldl State.reforward { s with ct := { s.ct with fwd := s.ct.fwd.filter (·.sent) } }
  (z.pumpFwd 4096).adoptionAnswers by_ m

/-- The other members are asked and told, and the links whose partner has the epoch go on (R409, R436). -/
def State.membersTold (s : State) (r : List Byte) : State :=
  let z := s.cn.held.foldl (fun s h => s.askEpoch h.link) s
  let y := z.verifiedLinks.foldl (fun s l => s.sendMctp l true (vendorMsg true 0 2 none r)) z
  (List.range 48).foldl State.epochAgrees y

theorem epochSwitch_eq (hn : s.cn.next = some r) (hf : s.fwdOut = 0) : exec .epochSwitch s =
    .next ((((s.recordInForce r).waitedGo s.cn.nextBy s.cn.nextFrom).serveHeld).membersTold r) := by
  show execEpochSwitch s = _
  unfold execEpochSwitch
  rw [hn]
  exact congrArg Host.Outcome.next (if_neg (not_not_intro hf))

theorem epochKeeps_waitedGo (by_ : Option Nat) (m : Option (Nat × Nat)) : EpochKeeps s (s.waitedGo by_ m) := by
  have answers (z : State) : EpochKeeps z (z.adoptionAnswers by_ m) := by
    unfold State.adoptionAnswers
    cases by_ with
    | none =>
      cases m with
      | none => exact .refl
      | some p => exact epochKeeps_answer ..
    | some d =>
      cases m with
      | none => exact epochKeeps_finish ..
      | some p => exact (epochKeeps_finish ..).trans (epochKeeps_answer ..)
  unfold State.waitedGo
  extract_lets waits c z
  have hz : EpochKeeps s z := (catalogOnly_ct _).epoch.trans (.foldl (fun _ _ => epochKeeps_reforward _) _)
  exact (hz.trans (epochKeeps_pumpFwd _)).trans (answers _)

theorem epochKeeps_membersTold (r : List Byte) : EpochKeeps s (s.membersTold r) := by
  unfold State.membersTold
  extract_lets z y
  have hz : EpochKeeps s z := .foldl (fun _ _ => epochKeeps_sendMctp ..) _
  have hy : EpochKeeps z y := .foldl (fun _ _ => epochKeeps_sendMctp ..) _
  exact (hz.trans hy).trans (.foldl (fun _ _ => epochKeeps_epochAgrees _) _)

theorem leNat_lt (l : List Byte) : leNat l < 256 ^ l.length := by
  induction l with
  | nil => decide
  | cons b l ih =>
    have hb : b.toNat < 256 := b.isLt
    rw [leNat, List.length_cons, pow_succ]
    omega

theorem recEpoch_lt (r : List Byte) : recEpoch r < 2 ^ 32 := by
  refine (leNat_lt _).trans_le ?_
  calc 256 ^ ((r.drop 8).take 4).length ≤ 256 ^ 4 := Nat.pow_le_pow_right (by decide) (List.length_take_le ..)
    _ = 2 ^ 32 := by decide

/-- The record, its epoch and this device's place in it are in force (R426). -/
theorem recordInForce_holds (r : List Byte) : (s.recordInForce r).cn.record = r ∧ (s.recordInForce r).cn.next = none ∧
    (s.recordInForce r).fld F_CN_STATUS_SWITCHING = 0 ∧ (s.recordInForce r).fld F_CN_EPOCH_EPOCH = recEpoch r ∧
      (s.recordInForce r).cn.member = (s.ownIndex r).getD 0 ∧
        (s.recordInForce r).cn.st = (if (s.ownIndex r).isSome then .member else .departed) := by
  unfold State.recordInForce
  extract_lets me c z y
  rw [(catalogKeeps_devEvent 3).cn, (catalogKeeps_devEvent 3).flds _ (by decide), (catalogKeeps_devEvent 3).flds _ (by decide)]
  refine ⟨rfl, rfl, (State.fld_setFld ..).trans (if_pos rfl), ?_, rfl, rfl⟩
  rw [fld_setFld_ne (by decide) (by decide) (by decide), fld_setFld_ne (by decide) (by decide) (by decide),
    fld_setFld_ne (by decide) (by decide) (by decide), fld_setFld_ne (by decide) (by decide) (by decide), State.fld_setFld, if_pos rfl]
  exact Nat.mod_eq_of_lt (recEpoch_lt r)

/-- The switch puts the next record into force (R426). -/
theorem epochSwitch_switches (hn : s.cn.next = some r) (hf : s.fwdOut = 0) : Leads .epochSwitch s fun t => t.cn.record = r ∧ t.cn.next = none ∧
    t.fld F_CN_STATUS_SWITCHING = 0 ∧ t.fld F_CN_EPOCH_EPOCH = recEpoch r ∧ t.cn.member = (s.ownIndex r).getD 0 ∧
      t.cn.st = (if (s.ownIndex r).isSome then .member else .departed) := by
  refine leads_next (epochSwitch_eq hn hf) ?_
  have hr := recordInForce_holds (s := s) r
  generalize s.recordInForce r = z at hr ⊢
  have hy := epochKeeps_waitedGo (s := z) s.cn.nextBy s.cn.nextFrom
  generalize z.waitedGo s.cn.nextBy s.cn.nextFrom = y at hy ⊢
  obtain ⟨h, hw⟩ := serveHeld_keeps (s := y)
  have hx := hw.trans (epochKeeps_membersTold r)
  rw [hx.cn, hx.flds _ (by decide) rfl, hx.flds _ (by decide) rfl]
  show y.cn.record = r ∧ y.cn.next = none ∧ y.fld F_CN_STATUS_SWITCHING = 0 ∧ y.fld F_CN_EPOCH_EPOCH = recEpoch r ∧
    y.cn.member = (s.ownIndex r).getD 0 ∧ y.cn.st = (if (s.ownIndex r).isSome then .member else .departed)
  rw [hy.cn, hy.flds _ (by decide) rfl, hy.flds _ (by decide) rfl]
  exact hr

theorem epochSwitch_waits (h : s.cn.next = none ∨ s.fwdOut ≠ 0) : Leads .epochSwitch s fun t => t = s := by
  refine leads_next (t := s) ?_ rfl
  show execEpochSwitch s = _
  unfold execEpochSwitch
  cases hn : s.cn.next with
  | none => rfl
  | some r => exact congrArg Host.Outcome.next (if_pos (h.resolve_left (by rw [hn]; nofun)))

end Sys2Proof.Machine
end

section
/-!
PROOFS. PEER_ATTESTATION: a peer that is verified, and one that fails.
-/
namespace Sys2Proof.Machine

variable {s t u : State} {n d i l : Nat} {b : List Byte} {y : Partner}

/-! ## What sending leaves of a session -/

/-- What a session is while it carries messages: whether it is bound, its key and whether it is open. -/
def Session.held (y : Session) : Bool × Nat × Bool := (y.bound, y.handle, y.isOpen)

/-- The sessions of the links are bound and open as they were. -/
def SessionsKept (s t : State) : Prop := ∀ l i, (t.session l i).held = (s.session l i).held

theorem session_setLink (l m i : Nat) (x : Link) :
    (s.setLink l x).session m i = if l = m then kvGet {} x.sessions i else s.session m i := by
  unfold State.session
  rw [State.link_setLink]
  split <;> rfl

theorem session_setSession (l i : Nat) (x : Session) : (s.setSession l i x).session l i = x := by
  unfold State.setSession
  rw [session_setLink, if_pos rfl, kvGet_kvPut, if_pos rfl]

theorem session_emit (o : Msg) (l i : Nat) : (s.emit o).session l i = s.session l i := rfl

/-- The seal of a message counts it in its session (R395). -/
theorem held_sealFor (x : Link) (f : TxFlit) (i : Nat) : (kvGet {} (x.sealFor f).sessions i).held = (kvGet {} x.sessions i).held := by
  unfold Link.sealFor
  dsimp only
  split
  · rfl
  · rw [kvGet_kvPut]
    split
    · next h =>
      subst h
      rfl
    · rfl

theorem sessions_visited (x : Link) (f : TxFlit) (w : Nat) : (x.visited f w).sessions = x.sessions := by
  unfold Link.visited
  split <;> rfl

theorem sessionsKept_pumpOne (l : Nat) : SessionsKept s (s.pumpOne l) := by
  intro m i
  unfold State.pumpOne
  dsimp only
  split
  · rfl
  split
  · rfl
  · next f _ =>
    rw [session_emit, session_setLink]
    split
    · next h =>
      subst h
      rw [sessions_visited]
      exact held_sealFor ..
    · rfl

theorem sessionsKept_pump (l n : Nat) : SessionsKept s (s.pump l n) := by
  induction n generalizing s with
  | zero => exact fun _ _ => rfl
  | succ n ih => exact fun m i => (ih m i).trans (sessionsKept_pumpOne l m i)

/-- A flit that is sent leaves every session bound and open as it was (R385). -/
theorem sessionsKept_sendFlit (l : Nat) (f : Flit) : SessionsKept s (s.sendFlit l f) := by
  unfold State.sendFlit State.sendMsgs
  extract_lets x ok now seqd y k z
  have hy : y = { s with outbox := s.outbox ++ now.map (.flit l) } := foldl_emit ..
  have hz : SessionsKept s z := fun m i => by
    refine Eq.trans (congrArg Session.held (session_setLink ..)) ?_
    split
    · next h =>
      subst h
      show (y.session l i).held = _
      rw [hy]
      rfl
    · rw [hy]
      rfl
  exact fun m i => (sessionsKept_pump l _ m i).trans (hz m i)

theorem isOpen_sendFlit (l : Nat) (f : Flit) (m i : Nat) : ((s.sendFlit l f).session m i).isOpen = (s.session m i).isOpen :=
  congrArg (fun p => p.2.2) (sessionsKept_sendFlit l f m i)

theorem bound_sendFlit (l : Nat) (f : Flit) (m i : Nat) : ((s.sendFlit l f).session m i).bound = (s.session m i).bound :=
  congrArg Prod.fst (sessionsKept_sendFlit l f m i)

theorem handle_sendFlit (l : Nat) (f : Flit) (m i : Nat) : ((s.sendFlit l f).session m i).handle = (s.session m i).handle :=
  congrArg (fun p => p.2.1) (sessionsKept_sendFlit l f m i)

/-! ## The peer's state -/

theorem catalogKeeps_zeroise (i : Nat) (st : SlotState) : CatalogKeeps s (s.zeroise i st) := by
  unfold State.zeroise
  extract_lets k h z
  have hz : CatalogKeeps s z := catalogKeeps_cacheCut ..
  exact hz.trans (.of_eq rfl rfl rfl)

theorem setPeer_cn (l st : Nat) : (s.setPeer l st).cn = { s.cn with peers := kvPut 0 s.cn.peers l st } := by
  unfold State.setPeer
  dsimp only
  split
  · exact (catalogKeeps_zeroise ..).cn
  · rfl

theorem peer_setPeer (l st : Nat) : (s.setPeer l st).peer l = st := by
  unfold State.peer
  rw [setPeer_cn]
  exact (kvGet_kvPut ..).trans (if_pos rfl)

theorem peer_of_cn (h : t.cn = s.cn) (l : Nat) : t.peer l = s.peer l := by
  unfold State.peer
  rw [h]

theorem report_lk {i : ErrInfo} (h : i.recov = false) : (s.report i).lk = s.lk := by
  unfold State.report State.record
  simp only [not_escalates h, Bool.false_eq_true, if_false]
  obtain ⟨r, o, j, e, hw⟩ := writeRec_frame (s := s) (s.errRecord i (s.unitRec (unitKey i.utype i.inst)))
  rw [hw]
  rfl

theorem setCset_lk (k : Nat) (c : CacheSet) : (s.setCset k c).lk = s.lk := by
  unfold State.setCset
  dsimp only
  refine foldl_keeps (fun z => z.lk = s.lk) _ ?_ _ s rfl
  exact fun _ _ h => h

/-- The key of a slot that is cleared leaves the cache, and no link changes. -/
theorem setPeer_lk (l st : Nat) : (s.setPeer l st).lk = s.lk := by
  unfold State.setPeer
  dsimp only
  split
  · exact foldl_keeps (fun z => z.lk = s.lk) _ (fun z a h => (setCset_lk ..).trans h) _ _ rfl
  · rfl

theorem session_of_lk (h : t.lk = s.lk) (l i : Nat) : t.session l i = s.session l i := by
  unfold State.session State.link
  rw [h]

/-- A session that closes is not open. -/
theorem isOpen_closeSession (l : Nat) : ((s.closeSession l 63).session l 63).isOpen = false := by
  unfold State.closeSession
  extract_lets y c z x w up v
  split
  · rw [session_setSession]
    rfl
  · rw [isOpen_sendFlit, session_setSession]
    rfl

/-! ## A peer that attests -/

theorem keysAllowed_verified (l : Nat) : (s.setPeer l 2).keysAllowed = s.keysAllowed := rfl

/-- The state in which session 63 of a link is bound to a key made for it (R433, R566). -/
def State.memberBound (s : State) (l : Nat) : State :=
  let z := s.setSlot (16 + l) { s.slot (16 + l) with
    st := .active, kind := 0, link := l, secret := .given (hkdfExpand (exportSecret s.fresh) (ascii "GWK MEMBER") 32) }
  z.draw.setSession l 63 { bound := true, tenant := 0, handle := z.draw.slotHandle (16 + l) }

theorem memberBound_holds (s : State) (l : Nat) : ((s.memberBound l).slot (16 + l)).st = .active ∧ ((s.memberBound l).session l 63).bound = true ∧
    ((s.memberBound l).session l 63).handle = (s.memberBound l).slotHandle (16 + l) := by
  unfold State.memberBound
  extract_lets k z
  rw [session_setSession]
  refine ⟨?_, rfl, rfl⟩
  have h : z.slot (16 + l) = { k with
      st := .active, kind := 0, link := l, secret := .given (hkdfExpand (exportSecret s.fresh) (ascii "GWK MEMBER") 32) } :=
    (kvGet_kvPut ..).trans (if_pos rfl)
  exact congrArg KeySlot.st h

/-- An OPEN is sent for a session that stays bound as it is, or nothing happens. -/
theorem askOpen_cases (l i : Nat) : s.askOpen l i = s ∨ ∃ (x : Session) (f : Flit), x.bound = (s.session l i).bound ∧
    x.handle = (s.session l i).handle ∧ s.askOpen l i = (s.draw.setSession l i x).sendFlit l f :=
  (ite_eq_or_eq ..).symm.imp id fun h => ⟨{ s.session l i with opening := true, nonce := s.nonce.2 }, _, rfl, rfl, h⟩

/-- An OPEN that is sent changes no key, nor what its session is bound to (R563). -/
theorem askOpen_keeps (l i : Nat) : (s.askOpen l i).cn = s.cn ∧ (s.askOpen l i).ks = s.ks ∧
    ((s.askOpen l i).session l i).bound = (s.session l i).bound ∧ ((s.askOpen l i).session l i).handle = (s.session l i).handle := by
  refine ⟨(epochKeeps_askOpen ..).cn, ?_⟩
  rcases askOpen_cases (s := s) l i with h | ⟨x, f, hb, hh, h⟩
  · rw [h]
    exact ⟨rfl, rfl, rfl⟩
  · rw [h, bound_sendFlit, handle_sendFlit, session_setSession]
    refine ⟨?_, hb, hh⟩
    obtain ⟨k, o, hf⟩ := sendFlit_frame (s := s.draw.setSession l i x) l f
    rw [hf]
    rfl

section Attests
variable (hu : (s.link n).isUp = true) (hy : (s.link n).partner = some y) (hr : y.role = 0) (hp : s.peer n ≠ 0)
include hu hy hr hp

theorem peerAttestation_eq (v : Bool) : exec (.peerAttestation n b v) s = .next (
    if v && s.cn.st ≠ .standalone && recPresent s.cn.record y.member && recDigest s.cn.record y.member == sha256 b then
      if !(s.setPeer n 2).keysAllowed then s.setPeer n 2
      else if ((s.setPeer n 2).memberBound n).me < y.member then ((s.setPeer n 2).memberBound n).askOpen n 63
      else (s.setPeer n 2).memberBound n
    else ((s.closeSession n 63).setPeer n 3).report { kind := 0x33, utype := 13, inst := y.member, cls := 2 }) := by
  show execPeerAttestation n b v s = _
  unfold execPeerAttestation
  dsimp only
  rw [hy]
  exact congrArg Host.Outcome.next (if_neg (by simp [hu, hr, hp]))

/-- A peer whose chain and signature are good and whose key the record names is verified; where no key may exist its link has none (R432, R566). -/
theorem peerAttestation_keyless (hc : s.cn.st ≠ .standalone) (hm : recPresent s.cn.record y.member = true)
    (hd : recDigest s.cn.record y.member = sha256 b) (hk : s.keysAllowed = false) :
    Leads (.peerAttestation n b true) s fun t => t.peer n = 2 ∧ t.ks = s.ks := by
  refine leads_next (peerAttestation_eq hu hy hr hp true) ?_
  rw [if_pos (by simp [hc, hm, hd]), keysAllowed_verified, hk, if_pos (by decide)]
  exact ⟨peer_setPeer .., rfl⟩

/-- Where keys may exist its session is bound to a key of the link (R433). -/
theorem peerAttestation_binds (hc : s.cn.st ≠ .standalone) (hm : recPresent s.cn.record y.member = true)
    (hd : recDigest s.cn.record y.member = sha256 b) (hk : s.keysAllowed = true) :
    Leads (.peerAttestation n b true) s fun t => t.peer n = 2 ∧ (t.slot (16 + n)).st = .active ∧ (t.session n 63).bound = true ∧
      (t.session n 63).handle = t.slotHandle (16 + n) := by
  refine leads_next (peerAttestation_eq hu hy hr hp true) ?_
  rw [if_pos (by simp [hc, hm, hd]), keysAllowed_verified, hk, if_neg (by decide)]
  have h := memberBound_holds (s.setPeer n 2) n
  have hpeer : ((s.setPeer n 2).memberBound n).peer n = 2 := (peer_of_cn rfl n).trans (peer_setPeer n 2)
  generalize (s.setPeer n 2).memberBound n = z at h hpeer ⊢
  obtain ⟨hs, hb, hh⟩ := h
  split
  · obtain ⟨hc, hk, hs'⟩ := askOpen_keeps (s := z) n 63
    have hslot : (z.askOpen n 63).slot (16 + n) = z.slot (16 + n) := by unfold State.slot; rw [hk]
    unfold State.slotHandle at hh ⊢
    rw [peer_of_cn hc, hslot, hs'.1, hs'.2]
    exact ⟨hpeer, hs, hb, hh⟩
  · exact ⟨hpeer, hs, hb, hh⟩

/-- Any other attestation fails the peer, and session 63 closes (R432). -/
theorem peerAttestation_fails {v : Bool} (h : v = false ∨ s.cn.st = .standalone ∨ recPresent s.cn.record y.member = false ∨
    recDigest s.cn.record y.member ≠ sha256 b) : Leads (.peerAttestation n b v) s fun t => t.peer n = 3 ∧ (t.session n 63).isOpen = false := by
  refine leads_next (peerAttestation_eq hu hy hr hp v) ?_
  rw [if_neg (by rcases h with h | h | h | h <;> simp [h])]
  refine ⟨?_, ?_⟩
  · rw [peer_of_cn (catalogKeeps_report rfl).cn, peer_setPeer]
  · rw [session_of_lk (report_lk rfl), session_of_lk (setPeer_lk ..), isOpen_closeSession]

end Attests

theorem peerAttestation_none (b : List Byte) (v : Bool)
    (h : (s.link n).isUp = false ∨ (s.link n).partner.all (fun y => y.role != 0) = true ∨ s.peer n = 0) :
    Leads (.peerAttestation n b v) s fun t => t = s := by
  refine leads_next (t := s) ?_ rfl
  show execPeerAttestation n b v s = _
  unfold execPeerAttestation
  dsimp only
  cases hy : (s.link n).partner with
  | none => rfl
  | some y =>
    rw [hy] at h
    exact congrArg Host.Outcome.next (if_pos (by rcases h with h | h | h <;> simp_all))

end Sys2Proof.Machine
end

section
/-!
PROOFS. Constellation commands take effect (O22).
-/
namespace Sys2Proof.Machine

/-- Settles O22: a flit that is taken comes to the operation of its message, each operation counts, answers, holds or serves as the lemmas above say, and
what an adoption, an attestation or a packet leaves of the constellation is kept by everything that follows in its step. -/
theorem constellationCommandsComplete : Obligations.ConstellationCommandsComplete := by
  unfold Obligations.ConstellationCommandsComplete
  refine ⟨?dropped, ?relayed, ?unreachable, ?held, ?moved, ?missed, ?hit, ?present, ?inserted, ?removed, ?badRequest, ?badTag, ?noRequest, ?refstate,
    ?noRefstate, ?answered, ?full, ?exists_, ?movedAway, ?late, ?lateHit, ?strayAnswer, ?lostAnswer, ?badAnswer, ?badAnswerTag, ?noAnswer, ?young,
    ?expired, ?nothingHeld, ?adopts, ?same, ?conflict, ?refused, ?loadWaits, ?switches, ?switchWaits, ?binds, ?keyless, ?fails, ?noPeer, ?gives,
    ?givesNone, ?givesLink, ?getDown, ?putAdopts, ?putSame, ?putRefused, ?putUnheard, ?putUnread, ?putDown, ?opens, ?stray, ?dropsType, ?unknown,
    ?record, ?noPacket⟩
  case dropped => exact fun s n unf g h ht hv hf hs hc hk => fwdReq_dropped h ht unf hv hf hs hc hk
  case relayed => exact fun s n unf g h ht hv hf hs hc ho hl hr => fwdReq_relayed h ht unf hv hf hs hc ho hl hr
  case unreachable => exact fun s n unf g h ht hv hf hs hc ho hl => fwdReq_unreachable h ht unf hv hf hs hc ho hl
  case held => exact fun s n unf g h ht hv hf hs hc ho he hk => fwdReq_holds h ht unf hv hf hs hc ho he hk
  case moved => exact fun s n unf g h ht hv hf hs hc ho he hk hm => fwdReq_answersMoved h ht unf hv hf hs hc ho he hk hm
  case missed => exact fun s n unf g h ht hv hf hs hc ho he hm hk hn => fwdReq_misses h ht unf hv hf hs hc ho he hm hk hn
  case hit => exact fun s n unf g e h ht hv hf hs hc ho he hm hk hn => fwdReq_hits h ht unf hv hf hs hc ho he hm hk hn
  case present => exact fun s n unf g e h ht hv hf hs hc ho he hm hk hn => fwdReq_insertExists h ht unf hv hf hs hc ho he hm hk hn
  case inserted => exact fun s n unf g h ht hv hf hs hc ho he hm hk hn hq hh hi => fwdReq_inserts h ht unf hv hf hs hc ho he hm hk hn hq hh hi
  case removed => exact fun s n unf g h ht hv hf hs hc ho he hm hk => fwdReq_removes h ht unf hv hf hs hc ho he hm hk
  case badRequest => exact fun s n unf g h ht hv hf hk => fwdReq_violates h ht unf hk hv hf
  case badTag => exact fun s n unf g h ht hv hk => fwdReq_tagFails h ht unf hk hv
  case noRequest => exact fun s n unf h => leads_next (fwdReq_none h unf) rfl
  case refstate => exact fun s n unf g h ht hv hf hs hc ho he hm hk => refstate_clears h ht unf hv hf hs hc ho he hm hk
  case noRefstate => exact fun s n unf h => leads_next (refstate_none h unf) rfl
  case answered => exact fun s n unf g f d x h ht hv hf hs hc ho he hw hk hd hx => fwdRsp_ends h ht unf hv hf hs hc ho he hw hd hx hk
  case full => exact fun s n unf g f d x h ht hv hf hs hc ho he hw hk hz hd hx => fwdRsp_full h ht unf hv hf hs hc ho he hw hd hx hk hz
  case exists_ => exact fun s n unf g f d x h ht hv hf hs hc ho he hw hk hz hd hx => fwdRsp_exists h ht unf hv hf hs hc ho he hw hd hx hk hz
  case movedAway => exact fun s n unf g f d x h ht hv hf hs hc ho he hw hk hz hd hx => fwdRsp_moved h ht unf hv hf hs hc ho he hw hd hx hk hz
  case late => exact fun s n unf g h ht hv hf hs hc ho he hw hn => fwdRsp_late h ht unf hv hf hs hc ho he hw hn
  case lateHit => exact fun s n unf g h ht hv hf hs hc ho he hw hk hz hm => fwdRsp_lateHit h ht unf hv hf hs hc ho he hw hk hz hm
  case strayAnswer => exact fun s n unf g h ht hv hf hs hc => fwdRsp_dropped h ht unf hv hf hs hc
  case lostAnswer => exact fun s n unf g h ht hv hf hs hc ho hl => fwdRsp_lost h ht unf hv hf hs hc ho hl
  case badAnswer => exact fun s n unf g h ht hv hf => fwdRsp_violates h ht unf hv hf
  case badAnswerTag => exact fun s n unf g h ht hv => fwdRsp_tagFails h ht unf hv
  case noAnswer => exact fun s n unf h => fwdRsp_none h unf
  case young => exact fun s h l hl ht => fwdHold_young hl ht
  case expired => exact fun s h l hl ht => fwdHold_leaves hl ht
  case nothingHeld => exact fun s hl => fwdHold_none hl
  case adopts => exact fun s d x h ha hw hf hv => epochLoad_adopts h ha hw hf hv
  case same => exact fun s d x h ha hw hf hv => epochLoad_same h ha hw hf hv
  case conflict => exact fun s d x h ha hw hf hv => epochLoad_conflict h ha hw hf hv
  case refused => exact fun s d x c h ha hw hf hv => epochLoad_refused h ha hw hf hv
  case loadWaits => exact fun s d x h _ hw => epochLoad_waits h hw
  case switches => exact fun s r hn hf => epochSwitch_switches hn hf
  case switchWaits => exact fun s h => epochSwitch_waits h
  case binds => exact fun s n b v y hu hy hr hp hv hc hm hd hk => hv ▸ peerAttestation_binds hu hy hr hp hc hm hd hk
  case keyless => exact fun s n b v y hu hy hr hp hv hc hm hd hk => hv ▸ peerAttestation_keyless hu hy hr hp hc hm hd hk
  case fails => exact fun s n b v y hu hy hr hp h => peerAttestation_fails hu hy hr hp h
  case noPeer => exact fun s n b v h => peerAttestation_none b v h
  case gives => exact fun s b i e hb h2 hc he => leads_next (getEpochRecord_gives i hb hc he) (answer_outbox h2 _)
  case givesNone => exact fun s b i e hb h2 hc => leads_next (getEpochRecord_none i hb hc) (answer_outbox h2 _)
  case givesLink => exact fun s b i e hb _ hc he => leads_next (getEpochRecord_gives i hb hc he) rfl
  case getDown => exact fun s b i e hb => getEpochRecord_down hb i e
  case putAdopts => exact fun s b i r hb h2 hp hr hw hv => putEpochRecord_adopts hb h2 hp hr hw i hv
  case putSame => exact fun s b i r hb h2 hp hr hw hv => putEpochRecord_same hb h2 hp hr hw i hv
  case putRefused => exact fun s b i r c hb h2 hp hr hw hv => putEpochRecord_refused hb h2 hp hr hw i hv
  case putUnheard => exact fun s b i r hb h2 => putEpochRecord_unheard hb i r h2
  case putUnread => exact fun s b i r hb h2 h => putEpochRecord_unread hb h2 i h
  case putDown => exact fun s b i r hb => putEpochRecord_down hb i r
  case opens => exact fun s n g h ht hv ha hs he hl => mgmt_opens h ht hv ha hs hl he
  case stray => exact fun s n g h ht hv ha hs => mgmt_stray h ht hv ha hs
  case dropsType => exact fun s n g h ht hv ha hs he hl hty => mgmt_drops h ht hv ha hs hl he hty
  case unknown => exact fun s n g h ht hv ha hs he hl hty => mgmt_unknown h ht hv ha hs hl he hty
  case record => exact fun s n g r h ht hv ha hf hs he hq hl hm hw ho => mgmt_adopts h ht hv ha hf hs he hq hl hm hw ho
  case noPacket => exact fun s n h => mgmt_none h

end Sys2Proof.Machine
end
